-- ==== Sys2Proof/Word.lean ====
section
/-!
DEFINITION. Word.lean: the plain number and byte helpers of the OL2460 model.
Every multi-byte value of the dictionary is little-endian (R4, R345); a byte is a natural number below 256.
-/
namespace Sys2Proof

/-- A byte string as the dictionary's OCT, STR and DOM values hold it. -/
abbrev Bytes := List Nat

/-- The `w` little-endian bytes of a natural number (R345). -/
def leNat : Nat → Nat → Bytes
  | 0, _ => []
  | w + 1, v => v % 256 :: leNat w (v / 256)

/-- The `w` little-endian bytes of an integer, two's complement when it is negative (R345). -/
def leInt (w : Nat) (v : Int) : Bytes :=
  leNat w (v % (256 ^ w : Nat)).toNat

/-- The natural number that little-endian bytes spell. -/
def ofLe : Bytes → Nat
  | [] => 0
  | b :: bs => b + 256 * ofLe bs

/-- The two's complement reading of a `w`-byte number. -/
def signed (w : Nat) (n : Nat) : Int :=
  if 2 * n < 256 ^ w then (n : Int) else (n : Int) - (256 ^ w : Nat)

/-- `len` bytes of a string from offset `off`; missing bytes are left out. -/
def sliceB (b : Bytes) (off len : Nat) : Bytes := (b.drop off).take len

/-- The little-endian field of `len` bytes at offset `off`. -/
def fieldLe (b : Bytes) (off len : Nat) : Nat := ofLe (sliceB b off len)

/-- Bit `i` of a number. -/
def bitOf (n i : Nat) : Bool := n / 2 ^ i % 2 == 1

/-- Bits `lo` up to `lo + len - 1` of a number. -/
def bitsOf (n lo len : Nat) : Nat := n / 2 ^ lo % 2 ^ len

/-- A number with bit `i` set. -/
def setBit (n i : Nat) : Nat := if bitOf n i then n else n + 2 ^ i

/-- A number with bit `i` clear. -/
def clearBit (n i : Nat) : Nat := if bitOf n i then n - 2 ^ i else n

/-- A number with bit `i` equal to `b`. -/
def putBit (n i : Nat) (b : Bool) : Nat := if b then setBit n i else clearBit n i

/-- A list cut or filled with zeros to exactly `n` bytes. -/
def padTo (n : Nat) (b : Bytes) : Bytes := (b ++ List.replicate n 0).take n

/-- 1 for true and 0 for false. -/
def boolNat (b : Bool) : Nat := if b then 1 else 0

/-- A counter of `w` bits that saturates at its largest value. -/
def satAdd (w n k : Nat) : Nat := min (n + k) (2 ^ w - 1)

/-- The smallest multiple of `m` that is at least `n` (`n` itself when `m` is 0). -/
def roundUp (m n : Nat) : Nat := if m = 0 then n else (n + m - 1) / m * m

/-- `x` forced into `lo` to `hi`. -/
def clampInt (lo hi x : Int) : Int := if x < lo then lo else if hi < x then hi else x

/-- `x` forced into `lo` to `hi`. -/
def clampNat (lo hi x : Nat) : Nat := if x < lo then lo else if hi < x then hi else x

/-- The first code of a list that is not 0; 0 when every check passed (R349: the first failing check decides). -/
def firstCode : List Nat → Nat
  | [] => 0
  | c :: cs => if c = 0 then firstCode cs else c

/-- A refusal code when `bad` holds and 0 otherwise. -/
def refuseIf (bad : Bool) (code : Nat) : Nat := if bad then code else 0

/-- Insert `x` into an ascending list with no repeats. -/
def insertSorted (x : Nat) : List Nat → List Nat
  | [] => [x]
  | y :: ys => if x < y then x :: y :: ys else if x = y then y :: ys else y :: insertSorted x ys

/-- The member of a list at `i`, or `d` beyond its end. -/
def nthD {α : Type} : List α → Nat → α → α
  | [], _, d => d
  | x :: _, 0, _ => x
  | _ :: xs, i + 1, d => nthD xs i d

/-- A list with its member at `i` replaced. -/
def setNth {α : Type} : List α → Nat → α → List α
  | [], _, _ => []
  | _ :: xs, 0, v => v :: xs
  | x :: xs, i + 1, v => x :: setNth xs i v

/-- The last `n` members of a list. -/
def lastN {α : Type} (n : Nat) (l : List α) : List α := l.drop (l.length - n)

/-- One-based position of a number in a list, counted from 0; `none` when it is absent. -/
def posOf (x : Nat) : List Nat → Option Nat
  | [] => none
  | y :: ys => if x = y then some 0 else (posOf x ys).map (· + 1)

end Sys2Proof
end

