-- ==== Sys2Proof/Machine/CommandTypes.lean ====
section
/-!
DEFINITION. Machine/CommandTypes.lean: the records that commands carry as operands.
-/
namespace Sys2Proof.Machine

/-- Who sends a request (R15, R347): the three host ports are class H, the management core is class M, a remote service
node (its extended address) is class N, and the debug port is class D. -/
inductive Requester where
  | quoin | twoWire | spi
  | mgmt
  | node (ext : Nat)
  | debug
  deriving DecidableEq, Repr

/-- The three steps of one sub-ADC's proposal, or its trims (R84, R85). -/
structure Trim where
  offset : Int
  gain : Int
  skew : Int
  deriving DecidableEq, Repr

/-- What one sub-ADC gathered over the counted ticks of half an estimator window (R82): the sum of its codes, the sum of their
squares, the sum of its neighbour's codes, and the sum of the products of the two. -/
structure SubSums where
  sum : Int
  square : Nat
  next : Int
  cross : Int
  deriving DecidableEq, Repr

/-- Half an estimator window (R82, R83): its ticks outside blanks that hold a clipped sample, and the sums of the sixteen
sub-ADCs. -/
structure HalfSums where
  clipped : Nat
  sums : List SubSums
  deriving DecidableEq, Repr

/-- What Plumb gathered over one estimator window (R82): its two halves. -/
structure WindowSums where
  first : HalfSums
  second : HalfSums
  deriving DecidableEq, Repr

/-- The figures of one valid estimator window (R84, R89): whether its level and RMS frequency suffice, f_rms (MHz), O and G (0.1
units), and the steps that the window and its halves propose. -/
structure WindowStats where
  enough : Bool
  frms : Nat
  o : Int
  g : Int
  whole : List Trim
  first : List Trim
  second : List Trim
  deriving DecidableEq, Repr

/-- A stretch of a path's ADC codes: the number of its first sample, sixteen to a tick from tick 0, and the codes (R75). -/
structure AdcSpan where
  first : Nat
  codes : List Int
  deriving DecidableEq, Repr

/-- A job of an accelerator by its kind (R133): a transform of so many points; so many decoded bits; a codeword of n symbols with 2t
check symbols; so many soft values of one CIF or DRM frame. -/
inductive JobKind where
  | fft (points : Nat) (inverse : Bool)
  | viterbi (bits : Nat) (tailBiting : Bool)
  | rs (n twoT : Nat)
  | tdi (values : Nat)
  deriving DecidableEq, Repr

/-- The accelerators that serve a kind: 0 FFT, 1 VIT, 2 RS, 3 TDI (R133). -/
def JobKind.unit : JobKind → Nat
  | .fft .. => 0
  | .viterbi .. => 1
  | .rs .. => 2
  | .tdi .. => 3

/-- Whether a job lies within the limits of its kind (R133). -/
def JobKind.fits : JobKind → Bool
  | .fft p _ => [64, 128, 256, 512, 1024, 2048].contains p
  | .viterbi b _ => 24 ≤ b && b ≤ 4096
  | .rs n t => n ≤ 255 && t ≤ 16 && t ≤ n
  | .tdi v => 0 < v

/-- A job's time in ticks (R133): 48 Mbit/s decoded and 31 ticks; 150 Mbyte/s and 77 ticks; 400 M soft values/s, each rounded up. -/
def JobKind.ticks : JobKind → Nat
  | .fft p _ => if p = 2048 then 1152 else if p = 1024 then 576 else if p = 512 then 288 else if p = 256 then 144 else 72
  | .viterbi b _ => (16 * b + 4) / 5 + 31
  | .rs n _ => (128 * n + 124) / 125 + 77
  | .tdi v => (48 * v + 124) / 125

/-- One PCM slot an engine completes (R245): the instant of its first frame, 64 frames of 6 bytes, which frames are
concealed, and whether it carries silence. -/
structure PcmSlot where
  instant : Nat
  frames : Bytes
  concealed : Nat
  silence : Bool
  deriving DecidableEq, Repr

/-- One RDS group as a decoder outputs it (R156, R157): instant of its first bit, four blocks with their error classes
before the correction limit, whether block 3 carried offset C', and whether all four carried offset E. -/
structure RdsGroup where
  instant : Nat
  blocks : List Nat
  classes : List Nat
  cPrime : Bool
  offsetE : Bool
  deriving DecidableEq, Repr
/-- One component of a service as the FIGs give it (R190). -/
structure DabComp where
  sid : Nat
  scids : Nat
  tmid : Nat
  type : Nat
  subch : Nat
  addr : Nat
  primary : Bool
  ca : Bool
  dataService : Bool
  deriving DecidableEq, Repr

/-- What a FIG from a good FIB says (R190, R197, R220), after its fields are taken apart: 0/0 with the CIF count at which a
reconfiguration is announced; 0/1; the components of 0/2, 0/3 and 0/8; 0/9 with the ECC and the local offset in half-hours;
0/17; 0/18; 0/10 in UTC ms with its form; 0/19 with cluster, ASw flags, SubChId and new flag; the labels of FIG 1; a linkage set of 0/6
with its number, whether it is a hard link in force, and its members by system (0 FM, 1 DAB) and ID; the frequencies in kHz of 0/21 for
an FM PI (system 0) or an EId (system 1); the other ensembles of a service of 0/24; or another FIG. `next` marks the
MCI that is announced. -/
inductive DabFig where
  | ensemble (eid cif : Nat) (change : Option Nat)
  | subchannel (next : Bool) (id form protection start size : Nat)
  | component (next : Bool) (c : DabComp)
  | country (ecc : Nat) (lto : Int)
  | programmeType (sid pty : Nat)
  | announcementSupport (sid flags : Nat)
  | time (utc : Nat) (long : Bool)
  | announcement (cluster flags subch new : Nat)
  | ensembleLabel (charset : Nat) (label : Bytes)
  | label (sid scids charset mask : Nat) (label : Bytes)
  | linkage (set : Nat) (hard : Bool) (members : List (Nat × Nat))
  | frequencies (system id : Nat) (kHz : List Nat)
  | otherEnsembles (sid : Nat) (eids : List Nat)
  | other
  deriving DecidableEq, Repr

/-- One demodulated OFDM symbol of DAB mode I (R185): its 1,536 carriers z after frequency deinterleaving, and |H|² of each. -/
structure DabSymbol where
  z : List (Int × Int)
  h : List Nat
  deriving DecidableEq, Repr

/-- What Viterbi decoding gives for a sub-channel's logical frame (R188, R189): SubChId, bytes, and the channel bit errors found by
re-encoding. -/
structure DecodedFrame where
  subch : Nat
  data : Bytes
  errors : Nat
  deriving DecidableEq, Repr

/-- One X-PAD data group (R195): application type, whether its CRC was present, and its bytes. -/
structure PadGroup where
  app : Nat
  crc : Bool
  data : Bytes
  deriving DecidableEq, Repr
/-- One service as the FAC and SDC give it (R212). -/
structure DrmService where
  id : Nat
  short : Nat
  kind : Nat
  coding : Nat
  flags : Nat
  type : Nat
  stream : Nat
  label : Bytes
  deriving DecidableEq, Repr

/-- One alternative of the SDC (R213): flags bits 0 to 2 as signalled. -/
structure DrmAlternative where
  kHz : Nat
  system : Nat
  flags : Nat
  id : Nat
  region : Nat
  schedule : Nat
  deriving DecidableEq, Repr

/-- One schedule of SDC type 4 (R213): its ID, weekdays (bit 0 Monday), start minute of the day and length in minutes. -/
structure DrmSchedule where
  id : Nat
  days : Nat
  start : Nat
  length : Nat
  deriving DecidableEq, Repr

/-- One MSC cell of a DRM frame as the equaliser leaves it (R210): its symbol in the frame, its value in 1/8,192 of the unit of the
constellation, and its channel-state weight in 1/256. -/
structure DrmCell where
  symbol : Nat
  re : Int
  im : Int
  weight : Nat
  deriving DecidableEq, Repr

/-- One data group of a DRM data service (R214): stream, user application, CRC present and good, bytes. -/
structure DrmGroup where
  stream : Nat
  app : Nat
  crc : Bool
  good : Bool
  data : Bytes
  deriving DecidableEq, Repr

/-- An access unit or MP2 frame as a decoder finds it (R193 to R195, R215): the logical frames it takes from the queue; whether its CRC
is good, none where it has none; whether an RS codeword of its superframe was uncorrectable or, in DRM, whether it holds erasures; codec,
source rate and stereo as its codec byte codes them; its decoded samples; its X-PAD groups. -/
structure AudioUnit where
  taken : Nat
  crc : Option Bool
  broken : Bool
  codec : Nat
  rate : Nat
  stereo : Bool
  samples : List (Int × Int)
  pads : List PadGroup
  deriving DecidableEq, Repr

/-- An address of a MAC frame (R302): absent, short, or extended. -/
inductive Addr where
  | none
  | short (a : Nat)
  | ext (a : Nat)
  deriving DecidableEq, Repr

/-- The fields of a received IEEE 802.15.4 frame (R301 to R308) with its payload in plain text: frame type, version, AR,
frame pending, sequence number, the PAN ID of rule 2 of R303, the addresses, security level, key identifier mode, key
index, frame counter, the Time Correction IE (16 bits), and the MAC payload. -/
structure MacFrame where
  type : Nat
  version : Nat
  ar : Bool
  pending : Bool
  dsn : Nat
  pan : Nat
  dst : Addr
  src : Addr
  level : Nat
  keyMode : Nat
  keyIndex : Nat
  counter : Nat
  correction : Nat
  payload : Bytes
  deriving DecidableEq, Repr

/-- The PHR of a frame received (R279, R280): MS, whether its FCS type is 1, its length, whether its parity holds. -/
structure Phr where
  ms : Bool
  shortFcs : Bool
  length : Nat
  parity : Bool
  deriving DecidableEq, Repr

/-- One copy of a received frame (R292, R294): its source (0 narrowband, 1 tap path A, 2 tap path B), SFD instant, instant
of the last symbol, PHR length, RSSI (dBm), LQ, whether its FCS is good, whether its MIC verifies under the key named,
and its fields. -/
structure FrameCopy where
  source : Nat
  sfd : Nat
  last : Nat
  phr : Nat
  rssi : Int
  lq : Nat
  good : Bool
  micGood : Bool
  frame : MacFrame
  deriving DecidableEq, Repr

end Sys2Proof.Machine
end

