-- ==== Sys2Proof/Syntax.lean ====
section
/-!
DEFINITION. Syntax.lean: the commands of the OL2460, one constructor for each row of spec/opcode_table.json.
A command is a host request, a launch firing, or an event of the radio, a clock, a timer or a pin. A host request names
who sends it; an event carries what the outside world brings: a measurement, a decoded field, a verdict.
-/
namespace Sys2Proof

open Machine

/-- The commands (spec/opcode_table.json). -/
inductive Instr where
  /-- CLAIM (R25): Verb 1 written to 0x2010:01 claims a unit, or an instance of any free unit, for the requesting master. -/
  | claim (by_ : Requester) (unit : Nat) (any : Bool) (param : Nat)
  /-- CLAIM_ACCELERATOR_SHARES (R29): A claim of s shares of an accelerator adds them to the claimant's holding without changing the accelerator's state. -/
  | claimAcceleratorShares (by_ : Requester) (unit : Nat) (any : Bool) (shares : Nat)
  /-- CONFIGURE (R25): Verb 2 validates and commits a unit's staged configuration and moves it to CONFIGURED, or recommits it while it is HELD. -/
  | configure (by_ : Requester) (unit : Nat)
  /-- COURSE_CONFIGURE (R31): Configure of a course checks every rule and every DORMANT leaf, then commits all of them or none. -/
  | courseConfigure (by_ : Requester) (course : Nat)
  /-- START (R27): Verb 3 is accepted and places one launch entry for the unit or course at its instant. -/
  | start (by_ : Requester) (unit : Nat) (instant : Nat)
  /-- HOLD (R27): Verb 4 is accepted and places a launch entry that holds the unit or course at its instant. -/
  | hold (by_ : Requester) (unit : Nat) (instant : Nat)
  /-- RESUME (R27): Verb 5 is accepted and places a launch entry that resumes a HELD unit or course at its instant. -/
  | resume (by_ : Requester) (unit : Nat) (instant : Nat)
  /-- RELEASE (R25): Verb 6 holds a running unit if needed, releases it to DORMANT and unowned, and removes any pending entry. -/
  | release (by_ : Requester) (unit : Nat)
  /-- RELEASE_ACCELERATOR_SHARES (R29): A holder's release returns to the free count every share of its holding that no member entry names. -/
  | releaseAcceleratorShares (by_ : Requester) (unit : Nat)
  /-- LAUNCH_PLACE (R43): Op 1 written to 0x2011:01 places a launch entry, firing late or refusing it when its lead is too short. -/
  | launchPlace (by_ : Requester) (instant phase kind flags target period count : Nat) (param : Bytes)
  /-- LAUNCH_CANCEL (R43): Op 2 written to 0x2011:01 cancels an entry that the master owns. -/
  | launchCancel (by_ : Requester) (entry : Nat)
  /-- LAUNCH_START_FIRING (R33): A start entry fires: the course's leaves are prepared in rank order ending with the chains producing at T. -/
  | launchStartFiring (entry : Nat)
  /-- COURSE_LEAF_PREPARE (R33): Every 384 ticks from T minus 384 times L, the next leaf of a starting or resuming course is prepared. -/
  | courseLeafPrepare (entry : Nat)
  /-- LAUNCH_HOLD_FIRING (R34): A hold entry fires: chains stop at T and later ranks go HELD in reverse order as their data drains. -/
  | launchHoldFiring (entry : Nat)
  /-- COURSE_RANK_HELD (R34): Once a rank is HELD and its in-flight data consumed, the next rank of a holding course goes HELD. -/
  | courseRankHeld (unit : Nat)
  /-- LAUNCH_RESUME_FIRING (R35): A resume entry fires and restarts the course's leaves all or nothing, skipping degraded leaves under policy 1. -/
  | launchResumeFiring (entry : Nat)
  /-- CHAIN_RETUNE (R123): A kind 0x04 entry fires and changes the chain's or lock group's sub-band and NCO word on one sample. -/
  | chainRetune (entry : Nat)
  /-- ANTENNA_SWITCH (R54): A kind 0x05 entry fires and moves the target chain, or swaps the lock-group members, to the named path. -/
  | antennaSwitch (entry : Nat)
  /-- PORT_GROUP_START (R264): A kind 0x06 entry fires and starts every named armed and identified stream as one group at one T_g. -/
  | portGroupStart (entry : Nat)
  /-- PLUMB_BLANK (R92): A kind 0x07 entry lands at L: blank-start markers enter every chain of the path and DC blockers freeze. -/
  | plumbBlank (entry : Nat)
  /-- PLUMB_TRIM_CHANGE (R92): At L plus 384 ticks all 48 trims of the path change together on sub-ADC 0. -/
  | plumbTrimChange (path : Nat)
  /-- PLUMB_BLANK_END (R92): At L plus 1,920 ticks the blank-end marker closes the window and DC blockers resume. -/
  | plumbBlankEnd (path : Nat)
  /-- MESH_TX (R285): A kind 0x08 entry fires and sends the bound frame's first preamble symbol at MTX, or cancels it if late. -/
  | meshTx (entry : Nat)
  /-- GPIO_CHANGE (R475): A kind 0x09 entry fires and sets the masked GPIO output levels. -/
  | gpioChange (entry : Nat)
  /-- CAPTURE_TRIGGER (R252): A kind 0x0A entry lands and makes its sample index P of an armed capture. -/
  | captureTrigger (entry : Nat)
  /-- TB_SYNC_PULSE (R55): A kind 0x0B entry fires and the leader drives one reference-period pulse on TB_SYNC. -/
  | tbSyncPulse (entry : Nat)
  /-- LOCK_GROUP_WRITE (R52): A write to a lock group 0x2008:01–08 changes the chains that share one NCO. -/
  | lockGroupWrite (by_ : Requester) (group : Nat) (bitmap : Nat)
  /-- TB_SYNC_FOLLOWER_LOAD (R56): At the first TB_SYNC rising edge in role 2 the follower loads its count, removes every armed entry and returns to role 0. -/
  | tbSyncFollowerLoad
  /-- TB_SYNC_CHECK (R58): In role 3 each TB_SYNC edge is compared with the expected instant and a non-zero difference raises a Gnomon event. -/
  | tbSyncCheck
  /-- CLK_OUT_ENABLE_WRITE (R490): A write to 0x2002:05 starts or stops the 38.4 MHz reference on CLK_OUT. -/
  | clkOutEnableWrite (by_ : Requester) (value : Nat)
  /-- AGC_WINDOW_END (R69): At the end of each 256-tick detector window the path applies the first matching clip, attack or release rule. -/
  | agcWindowEnd (path : Nat) (codes : List Int)
  /-- AGC_RELEASE_STEP (R71): When the release hold or 2 ms spacing expires with every window below threshold, GR falls by 1 dB. -/
  | agcReleaseStep (path : Nat)
  /-- LNA_TRIP (R70): The analogue LNA detector trips above -10 dBm, forcing the LNA low and setting the trip flag. -/
  | lnaTrip (path : Nat)
  /-- MANUAL_GR_WRITE (R73): A write of 0x300n:03 in manual mode lands the new GR on the next 4-tick boundary at least 8 ticks later. -/
  | manualGrWrite (by_ : Requester) (path : Nat) (gr : Nat)
  /-- AGC_MODE_WRITE (R72): A write of 0x300n:02 changes the AGC mode, linking or unlinking both paths. -/
  | agcModeWrite (by_ : Requester) (path : Nat) (mode : Nat)
  /-- AM_ATTENUATION_STEP (R65): The AM peak detector raises attenuation by 6 dB on overload or lowers it after 20 ms quiet. -/
  | amAttenuationStep (level : Int)
  /-- SAMPLE_CLOCK_UNLOCK (R75): The sample-clock PLL loses lock: both paths go to state 3, samples are concealed and clock-fault markers inserted. -/
  | sampleClockUnlock (lastGood : Nat)
  /-- SAMPLE_CLOCK_RELOCK (R75): The sample-clock PLL relocks and the concealed span ends with a clock-fault-end marker. -/
  | sampleClockRelock
  /-- OVERLOAD_FLAGS_CLEAR (R76): A write of 1 to bits of 0x300n:10 clears those overload flags. -/
  | overloadFlagsClear (by_ : Requester) (path : Nat) (bits : Nat)
  /-- ANTENNA_SHORT (R79): The fast comparator sees a short and drives the antenna supply enable low within 10 µs. -/
  | antennaShort (path : Nat) (current : Nat)
  /-- ANTENNA_CURRENT_JUDGE (R79): The 100 ms mean current is judged overcurrent, open or normal and the supply status changes. -/
  | antennaCurrentJudge (path : Nat) (codes : List Nat)
  /-- ANTENNA_RETRY (R79): One second after a short or overcurrent the enable is driven high again, up to the retry count, then latched off. -/
  | antennaRetry (path : Nat)
  /-- ANTENNA_RESTORE (R79): A write of 1 to 0x301n:09 clears the latched-off status 5. -/
  | antennaRestore (by_ : Requester) (path : Nat) (value : Nat)
  /-- PLUMB_WINDOW_END (R82): An estimator window of 2^24 ticks ends and its statistics are gathered or found void. -/
  | plumbWindowEnd (path : Nat) (sums : WindowSums)
  /-- PLUMB_PROPOSAL_READY (R87): The proposal is ready, is pre-checked and, unless no-change, a blanking window is placed to apply it. -/
  | plumbProposalReady (path : Nat)
  /-- PLUMB_POST_CHECK (R90): The first complete window after an apply is compared with the previous one, and a worse result restores the kept trims. -/
  | plumbPostCheck (path : Nat)
  /-- PLUMB_PROTECTED_LOST (R94): The protected ensemble stops or loses null sync while a candidate is awaited, and placement becomes free. -/
  | plumbProtectedLost (path : Nat)
  /-- PLUMB_RUN_CYCLE (R97): Command 1 on 0x302n:12 runs one Plumb cycle now. -/
  | plumbRunCycle (by_ : Requester) (path : Nat)
  /-- PLUMB_RESTORE_KEPT (R97): Command 2 places one blank that restores the kept trims. -/
  | plumbRestoreKept (by_ : Requester) (path : Nat)
  /-- PLUMB_LOAD_FACTORY (R97): Command 3 places one blank that loads the factory trims from OTP. -/
  | plumbLoadFactory (by_ : Requester) (path : Nat)
  /-- PLUMB_APPLY_STAGED (R97): Command 4 in manual mode places one blank that applies the staged trims. -/
  | plumbApplyStaged (by_ : Requester) (path : Nat)
  /-- PLUMB_BLANK_TEST_START (R97): Command 5 starts a repeating action-0 blank test. -/
  | plumbBlankTestStart (by_ : Requester) (path : Nat)
  /-- PLUMB_BLANK_TEST_STOP (R97): Command 6 stops a running blank test. -/
  | plumbBlankTestStop (by_ : Requester) (path : Nat)
  /-- PLUMB_MODE_WRITE (R97): A write of the Plumb mode cancels an armed apply and ends the cycle, held until a running post-check completes. -/
  | plumbModeWrite (by_ : Requester) (path : Nat) (mode : Nat)
  /-- RESPONSE_SELECT (R107): A write to 0x3100+n:08 starts a fade to a ROM response, holds it during a fade, or takes effect at once when HELD. -/
  | responseSelect (by_ : Requester) (chain : Nat) (response : Nat)
  /-- FADE_REVERSE (R108): A write of 1 to 0x3100+n:0A reverses the running response fade. -/
  | fadeReverse (by_ : Requester) (chain : Nat)
  /-- FADE_END (R109): A response fade reaches w of 1 or 0, the response in force is settled and any pending request starts its own fade. -/
  | fadeEnd (chain : Nat)
  /-- DC_FREEZE_WRITE (R112): A write to 0x3100+n:0E holds or releases the chain's DC estimate. -/
  | dcFreezeWrite (by_ : Requester) (chain : Nat) (value : Nat)
  /-- CHAIN_BLOCK_OUT (R114): A chain completes an output block with header and markers and queues it, or drops it when the queue is full. -/
  | chainBlockOut (chain : Nat) (pathA pathB : AdcSpan) (saturated : Nat)
  /-- SATURATION_CLEAR (R117): A write of 1 to bits of 0x3120+n:02 clears the sticky saturation flags. -/
  | saturationClear (by_ : Requester) (chain : Nat) (bits : Nat)
  /-- DETECTOR_BLOCK_END (R120): The single-frequency detector completes a block of M samples and issues its result. -/
  | detectorBlockEnd (chain : Nat) (pathA pathB : AdcSpan) (saturated : Bool)
  /-- DETECTOR_SETTING_WRITE (R120): A write to the detector frequency or block length is held until the current block ends. -/
  | detectorSettingWrite (by_ : Requester) (chain : Nat) (sub : Nat) (value : Int)
  /-- ENGINE_LOAD_COMPLETE (R129): An engine image load finishes, its hash is compared and the engine reaches load state 2 or 3. -/
  | engineLoadComplete (engine : Nat) (hashMatches : Bool)
  /-- ENGINE_ZEROING_COMPLETE (R136): Zeroing of a released engine's memory completes, the engine reads DORMANT and a held claim proceeds. -/
  | engineZeroingComplete (engine : Nat)
  /-- ENGINE_FAULT (R137): An engine fault is detected and either a restart begins or the engine enters FAULTED. -/
  | engineFault (engine : Nat) (cause : Nat)
  /-- ENGINE_WATCHDOG (R137): A RUNNING engine sends no heartbeat for 10 ms. -/
  | engineWatchdog (engine : Nat)
  /-- ENGINE_RESTART_RELOAD (R138): Ten µs after a fault detection the engine's image reload starts. -/
  | engineRestartReload (engine : Nat)
  /-- ENGINE_RESTORE_END (R138): After reload, the management core restores the configuration and a RUNNING engine takes its next block. -/
  | engineRestoreEnd (engine : Nat)
  /-- ACCELERATOR_JOB_SUBMIT (R134): An engine submits a job that runs in its holder's slots of the accelerator round. -/
  | acceleratorJobSubmit (accel : Nat) (engine : Nat) (kind : JobKind) (reads writes : List (Nat × Nat))
  /-- ACCELERATOR_JOB_COMPLETE (R133): An accelerator job completes and its output is in shared memory. -/
  | acceleratorJobComplete (accel : Nat) (engine : Nat)
  /-- ACCELERATOR_TIMEOUT (R135): A job exceeds four times its job time plus a round; the accelerator resets and fails its jobs, faulting on a fourth reset in 60 s. -/
  | acceleratorTimeout (accel : Nat)
  /-- ACCELERATOR_MEMORY_ERROR (R135): An uncorrectable memory error puts the accelerator into FAULTED with 0x0602. -/
  | acceleratorMemoryError (accel : Nat)
  /-- ACCELERATOR_WAIT_CLEAR (R135): A write of 0 to 0x2440+n:05 clears the longest-wait record. -/
  | acceleratorWaitClear (by_ : Requester) (accel : Nat) (value : Nat)
  /-- PEAK_CYCLE_LOAD_CLEAR (R136): A write of 0 to 0x2400+n:09 clears the peak cycle load. -/
  | peakCycleLoadClear (by_ : Requester) (engine : Nat) (value : Nat)
  /-- FM_CONTROL_UPDATE (R149): Every 1 ms the FM engine computes E and moves stereo factor, high-cut and soft mute towards their targets. -/
  | fmControlUpdate (engine : Nat)
  /-- FM_METRICS_PUBLISH (R147): Every 10 ms the FM engine publishes its metric means and a new snapshot. -/
  | fmMetricsPublish (engine : Nat)
  /-- PILOT_DETECTED (R146): Pilot deviation stays at or above 4.0 kHz for 50 ms. -/
  | pilotDetected (engine : Nat)
  /-- PILOT_LOST (R146): Pilot deviation stays below 2.5 kHz for 50 ms and the output goes mono. -/
  | pilotLost (engine : Nat)
  /-- FM_BANDWIDTH_JUDGE (R151): Each adjacent update re-judges the automatic FM response and writes a select or reverse. -/
  | fmBandwidthJudge (engine : Nat)
  /-- DIVERSITY_ESTIMATE (R152): Every 64 samples the FM engine estimates the B-to-A correlation and sets combining weights. -/
  | diversityEstimate (engine : Nat)
  /-- DIVERSITY_SELECT (R152): Every 1 ms in selection mode the input with lower multipath is chosen with a cross-fade. -/
  | diversitySelect (engine : Nat)
  /-- INPUT_B_ABSENT (R153): After 20 ms with no block from input B the FM engine runs as mode 0. -/
  | inputBAbsent (engine : Nat)
  /-- FM_BLOCK_PROCESS (R155): The FM engine takes a chain block and acts on its markers, bridging or concealing blank cores and cold-starting at start or retune. -/
  | fmBlockProcess (engine : Nat) (chain : Nat)
  /-- RDS_SYNC_GAINED (R156): Two error-free blocks in offset order give RDS sync. -/
  | rdsSyncGained (engine : Nat) (first second : Nat)
  /-- RDS_SYNC_LOST (R156): Twelve of the last 16 blocks are class 3 and RDS sync is lost. -/
  | rdsSyncLost (engine : Nat)
  /-- RDS_GROUP (R157): A complete RDS group is filtered into the group FIFO or dropped, and its fields decoded. -/
  | rdsGroup (engine : Nat) (group : RdsGroup)
  /-- TMC_GROUP (R159): The TMC decoder takes a 3A or TMC group and assembles or delivers a message. -/
  | tmcGroup (fromLantern : Bool) (source : Nat) (group : RdsGroup)
  /-- TMC_INCOMPLETE_TIMEOUT (R159): A multi-group TMC message left incomplete for 10 s is dropped. -/
  | tmcIncompleteTimeout (index : Nat)
  /-- LANTERN_PERIOD_END (R165): At each 50 ms boundary Lantern publishes slot figures, runs activation rules and moves best slots. -/
  | lanternPeriodEnd (codes : AdcSpan)
  /-- LANTERN_CONFIRMATION (R169): A PI confirmation from a slot or FM engine creates or verifies a database entry. -/
  | lanternConfirmation (source pi instant cls : Nat)
  /-- ENTRY_EXPIRY (R169): A database entry left unverified for 10 s is freed. -/
  | entryExpiry (position : Nat)
  /-- LANTERN_FIELD_UPDATE (R170): A verified entry takes PS, PTY, TP/TA, ECC, CT and AF codes from its best slot and any slot carrying its PI. -/
  | lanternFieldUpdate (slot : Nat) (group : RdsGroup)
  /-- LANTERN_EVENT_MERGE (R173): A held kind-3 Lantern event is raised with its merged field mask when its 100 ms hold ends. -/
  | lanternEventMerge (position : Nat)
  /-- LANTERN_CLEAR_DATABASE (R172): Command 1 on 0x4300:0A frees every database entry. -/
  | lanternClearDatabase (by_ : Requester)
  /-- LANTERN_CLEAR_AF (R172): Command 2 on 0x4300:0A empties every AF list. -/
  | lanternClearAf (by_ : Requester)
  /-- QUERY_PI (R171): A write of 0x4310:01 issues the named entry as the query result or refuses with 0x0E03. -/
  | queryPi (by_ : Requester) (pi : Nat)
  /-- LANTERN_RAW_GROUP (R176): A decoded group from an active slot is written to the Lantern ring when streaming and the filters allow. -/
  | lanternRawGroup (slot : Nat) (group : RdsGroup)
  /-- DAB_NULL_FOUND (R182): A power dip of null length is found and the receiver enters state 2. -/
  | dabNullFound (engine : Nat)
  /-- DAB_PRS_CORRELATE (R182): The PRS correlates after coarse frequency correction and the receiver enters state 3. -/
  | dabPrsCorrelate (engine : Nat) (offset : Int)
  /-- DAB_FIC_ACQUIRED (R182): Two frames hold good FIBs and FIG 0/0 and the receiver enters tracking. -/
  | dabFicAcquired (engine : Nat)
  /-- DAB_ACQUISITION_FAIL (R182): Four frames without PRS correlation or ten without FIC acquisition return the receiver to state 1. -/
  | dabAcquisitionFail (engine : Nat)
  /-- DAB_SYNC_LOST (R182): Nulls or good FIBs are missing over the stated frames and the receiver enters state 5. -/
  | dabSyncLost (engine : Nat)
  /-- DAB_SYNC_REGAINED (R182): In state 5 the null is found again with a good FIB and tracking resumes. -/
  | dabSyncRegained (engine : Nat)
  /-- DAB_LOST_TIMEOUT (R182): The lost timeout expires in state 5 and the receiver cold-starts to state 1. -/
  | dabLostTimeout (engine : Nat)
  /-- DAB_NULL_REPORT (R184): In state 4 the front engine reports each null start to Plumb within 2 ms of the null's end. -/
  | dabNullReport (engine nullStart : Nat)
  /-- DAB_FRAME_END (R192): After each transmission frame the receiver publishes its quality metrics and snapshot. -/
  | dabFrameEnd (engine nullStart : Nat) (fibs : List Bool) (ficErrors : Nat) (fic : List Bool) (offset : Int)
  /-- DAB_CIF_DECODE (R188): The back engine decodes every sub-channel of a CIF and queues its logical frames. -/
  | dabCifDecode (engine cif nullStart position : Nat) (before : List (Int × Int)) (symbols : List (Option DabSymbol)) (frames : List DecodedFrame)
  /-- DAB_RECONFIGURATION (R189): At the announced CIF count the new MCI takes effect and the sub-channel and service tables update. -/
  | dabReconfiguration (engine cif : Nat)
  /-- DAB_FIG_DECODE (R190): A FIG from a good FIB is parsed into the service table, UTC anchor, announcements or FIG FIFO. -/
  | dabFigDecode (engine type ext : Nat) (raw : Bytes) (nullStart cif : Nat) (fig : DabFig)
  /-- DAB_SI_COMPLETE_TIMEOUT (R190): SI complete is set after 10 s in state 4. -/
  | dabSiCompleteTimeout (engine : Nat)
  /-- DAB_SERVICE_SELECT (R193): A slot selection write takes effect at the next logical-frame boundary with ramp down, silence and ramp up. -/
  | dabServiceSelect (engine slot : Nat)
  /-- DAB_ACCESS_UNIT (R195): The DAB decoder decodes or conceals an access unit and extracts its X-PAD data groups. -/
  | dabAccessUnit (engine slot : Nat) (unit : Option AudioUnit)
  /-- DAB_PACKET_GROUP (R196): Packets matching an enabled filter are reassembled into a data group and delivered or dropped. -/
  | dabPacketGroup (engine filter instant : Nat) (crcPresent crcGood lost : Bool) (data : Bytes)
  /-- ANNOUNCEMENT_START (R197): A FIG 0/19 cluster's switching flags become non-zero or change and an announcement event is raised. -/
  | announcementStart (engine cluster : Nat)
  /-- ANNOUNCEMENT_END (R197): A cluster's flags become zero or it is absent from FIG 0/19 for 2 s. -/
  | announcementEnd (engine cluster : Nat)
  /-- AM_PLLLOCK_CHANGE (R202): The AM carrier PLL locks or unlocks and the engine cross-fades demodulators over 20 ms. -/
  | amPlllockChange (engine : Nat)
  /-- AM_BANDWIDTH_JUDGE (R203): Every 50 ms in automatic mode the AM engine chooses a new bandwidth and cross-fades to it. -/
  | amBandwidthJudge (engine : Nat)
  /-- AM_METRICS_PUBLISH (R206): Every 10 ms the AM engine publishes metric means and a snapshot. -/
  | amMetricsPublish (engine : Nat)
  /-- NOISE_BLANKER_SUSPEND (R204): Excess flagging or a weak carrier suspends the noise blanker for 100 ms. -/
  | noiseBlankerSuspend (engine : Nat)
  /-- AM_BLOCK_PROCESS (R205): The AM engine takes a chain block and acts on its markers. -/
  | amBlockProcess (engine chain : Nat)
  /-- DRM_MODE_FOUND (R209): One robustness mode leads the guard correlation in two consecutive 200 ms windows. -/
  | drmModeFound (engine mode : Nat)
  /-- DRM_FRAME_SYNC (R209): The time-reference cells correlate in two consecutive frames and the receiver enters state 3. -/
  | drmFrameSync (engine frameStart : Nat) (offset : Int)
  /-- DRM_FAC_ACQUIRED (R209): Two consecutive good FAC CRCs take the receiver to tracking and form the kept frames' soft values. -/
  | drmFacAcquired (engine occupancy constellation : Nat)
  /-- DRM_SYNC_LOST (R209): Five failed FAC CRCs or lost timing take the receiver to state 5. -/
  | drmSyncLost (engine : Nat) (timing : Bool)
  /-- DRM_LOST_TIMEOUT (R209): The lost timeout expires and the DRM receiver cold-starts. -/
  | drmLostTimeout (engine : Nat)
  /-- DRM_ACQUISITION_FAIL (R209): Four frames without frame sync or ten without FAC return the receiver to mode search. -/
  | drmAcquisitionFail (engine : Nat)
  /-- DRM_MSC_FRAME (R210): An MSC frame completes after its long interleave and is queued for the audio decoder. -/
  | drmMscFrame (engine frameStart : Nat) (facGood : Bool) (cells : List (Option DrmCell)) (doppler spread : Nat) (frames : List Bytes) (groups : List DrmGroup) (decoder : Nat) (units : List AudioUnit)
  /-- DRM_SDC_DECODE (R212): An SDC is decoded into the service and alternative tables and the UTC anchor. -/
  | drmSdcDecode (engine superStart : Nat) (good : Bool) (services : List DrmService) (alternatives : List DrmAlternative) (schedules : List DrmSchedule) (utc : Option Nat) (half : Int)
  /-- DRM_SCHEDULE_EVAL (R213): Every minute each alternative's schedule is evaluated against UTC. -/
  | drmScheduleEval (engine : Nat)
  /-- DRM_SERVICE_SELECT (R215): A DRM service selection takes effect at the next audio super frame. -/
  | drmServiceSelect (engine : Nat)
  /-- DRM_TEXT_MESSAGE (R215): A complete DRM text message replaces the text object and increments its sequence. -/
  | drmTextMessage (engine : Nat) (text : Bytes)
  /-- CANDIDATE_LIST_UPDATE (R220): A source names a candidate, which is added or merged into the list. -/
  | candidateListUpdate (origin kHz id system : Nat)
  /-- CANDIDATE_AGE_OUT (R220): A candidate that no source has named for 60 s is removed. -/
  | candidateAgeOut (kHz id system : Nat)
  /-- IDENTITY_CHANGE (R220): The foreground identity changes and the candidate list is cleared. -/
  | identityChange
  /-- AF_CHECK (R222): The AF-check engine retunes a chain to a route 1 candidate, measures its level and checks its PI. -/
  | afCheck (chain kHz id : Nat) (block1 : Option (Nat × Nat))
  /-- ENSEMBLE_CHECK (R223): Following retunes the check ensemble receiver to a route 3 frequency and awaits its verdict for up to 3 s. -/
  | ensembleCheck (kHz : Nat)
  /-- SWITCH_REQUEST (R226): A trigger of the switching table makes following issue a blend request to a locked slot. -/
  | switchRequest (row target : Nat)
  /-- LANDING (R227): Following lands a candidate by retuning or selecting the landing unit and assigning it to a slot. -/
  | landing (kHz id system slot : Nat)
  /-- LANDING_TIMEOUT (R227): A landing whose PI, decoder state or lock does not arrive within its limit ends. -/
  | landingTimeout
  /-- BLEND_BACK_REVERSE (R228): A bad frame or low Q on the target during a blend-back makes following write a fade reverse. -/
  | blendBackReverse
  /-- GLOAMING_ENABLE (R240): Gloaming is enabled: Λ is fixed, exact tails allocated and all slots but the one in force start searching. -/
  | gloamingEnable (by_ : Requester)
  /-- GLOAMING_DISABLE (R240): Gloaming is disabled, output ramps to silence and all delays, locks and recordings are lost. -/
  | gloamingDisable (by_ : Requester)
  /-- SLOT_SOURCE_WRITE (R239): A write to a Gloaming slot source assigns a PCM queue to that slot. -/
  | slotSourceWrite (by_ : Requester) (slot word : Nat)
  /-- LAG_ESTIMATE (R232): Once per second each assigned slot's lag to the slot in force is estimated. -/
  | lagEstimate (slot : Nat)
  /-- BLEND_TARGET (R239): A write to 0x4900:06 requests a fade to the named slot, held during a fade. -/
  | blendTarget (by_ : Requester) (slot : Nat)
  /-- BLEND_FADE_REVERSE (R238): A write of 1 to 0x4900:07 reverses the running blend fade at the blend-out rate. -/
  | blendFadeReverse (by_ : Requester)
  /-- BLEND_FADE_END (R238): A blend fade or build ends, the slot in force is settled and any pending request starts. -/
  | blendFadeEnd
  /-- EQ_SELECT (R237): A write to 0x4910+s:09 cross-fades the slot to the other EQ bank, held during fades. -/
  | eqSelect (by_ : Requester) (slot bank : Nat)
  /-- EQ_FADE_END (R237): A slot's EQ fade ends and any pending select starts. -/
  | eqFadeEnd (slot : Nat)
  /-- TONAL_MATCH_UPDATE (R237): Tonal matching writes sections to the bank not in force and requests a select when a gain differs by 1.5 dB. -/
  | tonalMatchUpdate (slot : Nat)
  /-- BLEND_OUTPUT_FRAME (R239): Gloaming writes an output frame at v plus Λ, concealing frames a slot has not delivered. -/
  | blendOutputFrame
  /-- CAPTURE_ARM (R252): Command 1 allocates the capture buffer and starts recording its source as a ring. -/
  | captureArm (by_ : Requester) (capture : Nat)
  /-- CAPTURE_TRIGGER_NOW (R252): Command 2 triggers the capture on the first sample taken after acceptance. -/
  | captureTriggerNow (by_ : Requester) (capture : Nat)
  /-- CAPTURE_ABORT (R251): Command 3 aborts an armed or triggered capture, keeping what was recorded. -/
  | captureAbort (by_ : Requester) (capture : Nat)
  /-- CAPTURE_FREE (R251): Command 4 frees the capture buffer. -/
  | captureFree (by_ : Requester) (capture : Nat)
  /-- CAPTURE_COMPLETE (R252): The last sample is recorded and the capture reaches state 3. -/
  | captureComplete (capture : Nat) (a b : AdcSpan)
  /-- RING_READ (R254): A read of a chain ring or the Lantern ring returns and consumes whole records. -/
  | ringRead (by_ : Requester) (index : Nat) (limit : Nat) (again : Bool)
  /-- STREAM_IDENTIFY (R258): After 64 stable frames the stream's nominal fs is identified or it enters rate unsupported. -/
  | streamIdentify (stream : Nat)
  /-- RATE_THRESHOLD (R258): The published rate moves past the threshold and a rate event is raised. -/
  | rateThreshold (stream : Nat)
  /-- STREAM_SOLO_START (R263): An armed stream in start mode 0 starts by itself at the first edge 2 ms after arming and identification. -/
  | streamSoloStart (stream : Nat)
  /-- RATE_LOOP_UPDATE (R261): Every 64 output frames the loop steers the ratio correction to keep the fill at 256. -/
  | rateLoopUpdate (stream : Nat)
  /-- STREAM_FRAME_PRODUCE (R260): The audio engine writes a stream frame into its ring at its production instant, or drops it when the ring is full. -/
  | streamFrameProduce (stream : Nat)
  /-- POST_ROLL (R266): A hold begins a 128-frame post-roll after which SD goes low and the unit reads HELD. -/
  | postRoll (stream : Nat)
  /-- POST_ROLL_END (R266): The post-roll's last frame plays and the stream clears its ring. -/
  | postRollEnd (stream : Nat)
  /-- PAIR_SOURCE_WRITE (R267): A pair source write fades the old source out over 128 frames and ramps the new one in. -/
  | pairSourceWrite (by_ : Requester) (stream pair word : Nat)
  /-- UNDERRUN (R268): Frame n plus 127 is absent while playing and the stream fades into underrun. -/
  | underrun (stream : Nat)
  /-- RE_ENTRY (R268): The ring holds 128 present frames from the frame count and the stream ramps back in. -/
  | reEntry (stream : Nat)
  /-- CLOCK_LOST (R269): Eight expected BCLK or AMCLK periods pass with no edge and the stream goes silent in state 5. -/
  | clockLost (stream : Nat)
  /-- CLOCK_RETURN (R269): After a clock returns and 64 stable frames pass, the stream re-pre-rolls into its group or alone. -/
  | clockReturn (stream : Nat)
  /-- GLITCH (R270): A frame with the wrong BCLK count is dropped and SD held low for it. -/
  | glitch (stream : Nat)
  /-- RATE_CHANGE (R271): The rate moves by more than 1 %; the stream post-rolls, re-identifies and re-pre-rolls. -/
  | rateChange (stream : Nat)
  /-- GROUP_MEMBER_REMOVED (R265): A member whose first edge lies over 8 ticks from the lead's is removed and continues solo. -/
  | groupMemberRemoved (stream : Nat)
  /-- AUDIO_FLAGS_CLEAR (R272): A write of 1 to bits of 0x5020+u:0E clears stream flags. -/
  | audioFlagsClear (by_ : Requester) (stream bits : Nat)
  /-- CHANNEL_STATUS_WRITE (R274): A write of 0x5004:10 takes effect at the first IEC block that starts after acceptance. -/
  | channelStatusWrite (by_ : Requester) (block : Bytes)
  /-- USER_DATA_PACKET (R276): The IEC output sends the next programme-data packet of its rotation in the user bits. -/
  | userDataPacket
  /-- RADIO_TRANSITION (R283): The link sequencer moves the radio between OFF, SLEEP, STANDBY, RX and TX. -/
  | radioTransition (target hz : Nat)
  /-- SYNTH_UNLOCK (R281): The synthesiser loses lock; a transmission is aborted or a reception dropped and VCO calibration falls due. -/
  | synthUnlock
  /-- CALIBRATION_START (R288): A due calibration starts when no window, reception or commitment is in the way. -/
  | calibrationStart
  /-- CALIBRATION_COMPLETE (R288): A radio calibration completes and the radio returns to the state it left. -/
  | calibrationComplete
  /-- CALIBRATION_ABORT (R289): A transmission becomes due during a calibration, which is aborted within 1 µs and left due. -/
  | calibrationAbort
  /-- CALIBRATION_OVERDUE (R288): A calibration due for 10 s sets its overdue bit and raises a radio event. -/
  | calibrationOverdue (calibration : Nat)
  /-- NARROWBAND_FRAME (R292): The narrowband receiver completes a frame and reports its SFD instant, RSSI, SNR and LQ. -/
  | narrowbandFrame (sfd last : Nat) (phr : Phr) (psdu : Bytes) (plain : Option Bytes) (rssi snr : Int)
  /-- TAP_COPY (R139): The mesh-tap engine passes a demodulated frame copy with its instant and quality to the link sequencer. -/
  | tapCopy (path sfd last : Nat) (phr : Phr) (psdu : Bytes) (plain : Option Bytes) (rssi : Int) (lq : Nat)
  /-- COPY_SELECTION_END (R294): The 400 µs selection window ends and the frame is taken from its first good copy or dropped. -/
  | copySelectionEnd (sfd : Nat)
  /-- GLIMMER_WORD (R297): Glimmer decodes a wake telegram, which wakes the device if it matches or is counted otherwise. -/
  | glimmerWord (preamble rate : Nat) (halves : List Bool)
  /-- SPURIOUS_WAKE (R297): No host transaction, WAKE_IN edge or addressed frame follows a wake within 2 s. -/
  | spuriousWake
  /-- MATCH_MODE_RESET (R297): An hour without a spurious wake returns the match mode to 0. -/
  | matchModeReset
  /-- WAKE_REQUEST (R298): A write of 0x6011:01 sends wake telegrams to a node the stated number of times. -/
  | wakeRequest (by_ : Requester) (body : Bytes)
  /-- RADIO_TEST (R299): A write of 0x6001:10 starts CW, PRBS9 or counting RX, or stops the test. -/
  | radioTest (by_ : Requester) (body : Bytes)
  /-- LINK_FRAME_RECEIVE (R306): A selected frame is filtered, checked for duplicates and security, and delivered and acknowledged. -/
  | linkFrameReceive
  /-- ACK_SEND (R307): An enhanced acknowledgement leaves MTX 1 ms after the received frame's last symbol. -/
  | ackSend
  /-- ACK_WAIT_EXPIRY (R307): The acknowledgement wait after a frame with AR set expires with no acknowledgement. -/
  | ackWaitExpiry (handle : Nat)
  /-- ACK_RECEIVE (R307): An enhanced acknowledgement with the frame's DSN is accepted inside its wait. -/
  | ackReceive
  /-- IMMEDIATE_FRAME (R312): The mesh core hands an immediate frame, which is admitted and enters CSMA-CA. -/
  | immediateFrame
  /-- BACKOFF_EXPIRY (R312): A CSMA-CA backoff ends and a CCA is taken. -/
  | backoffExpiry (handle : Nat)
  /-- CCA_END (R312): A CCA ends clear, starting transmission, or busy, raising BE or ending with status 3. -/
  | ccaEnd (handle : Nat) (rssi : Int) (preamble : Bool)
  /-- SCHEDULED_FRAME (R311): The mesh core binds a frame to a kind 0x08 entry at an instant. -/
  | scheduledFrame
  /-- FRAME_RETRY (R313): An immediate frame with no acknowledgement is sent again with identical bytes. -/
  | frameRetry (handle : Nat)
  /-- TRANSMIT_REPORT (R314): A frame ends with one transmit report to the mesh core. -/
  | transmitReport
  /-- FRAME_COUNTER_RECORD (R305): The outgoing frame counter crosses a multiple of 65,536 and the next multiple is written to flash. -/
  | frameCounterRecord
  /-- JOIN_REQUEST (R322): A kind-1 frame asks to join and a join response is scheduled after the acknowledgement. -/
  | joinRequest
  /-- JOIN_RESPONSE (R323): The device sends the join response with status, short address and parameters. -/
  | joinResponse
  /-- LEAVE (R324): A kind-7 frame returns the node's entry to state 0. -/
  | leave
  /-- READINGS (R341): A kind-0 frame updates the node's mirror values, changed mask and sequence. -/
  | readings
  /-- SERVICE_REQUEST (R320): A kind-5 frame carries a class N dictionary request, answered by a kind-6 response. -/
  | serviceRequest
  /-- VOUSSOIR_FRAME (R327): An accepted Voussoir frame is checked in the seen cache and its via, fix and shadow map updated. -/
  | voussoirFrame
  /-- RENDEZVOUS (R329): A downlink to a sleepy node is placed as a scheduled frame at a chosen sample instant with its guard. -/
  | rendezvous (index : Nat)
  /-- RENDEZVOUS_MISS (R329): A rendezvous ends unacknowledged and is retried once with twice the guard. -/
  | rendezvousMiss (index : Nat)
  /-- WAKE_TRAIN (R330): A wake train covering one interval is sent, followed by the data frame. -/
  | wakeTrain (index : Nat)
  /-- WAKE_TRAIN_RETRY (R330): A refused train is tried again every second, and an unacknowledged one one interval later. -/
  | wakeTrainRetry (index : Nat)
  /-- PHASE_GATE (R336): The device sends a phase gate when the widest run of good bins differs from the node's gate. -/
  | phaseGate (index : Nat)
  /-- DOWNLINK (R342): A write of 0x6040:01 queues a downlink or gate for a node and returns a handle. -/
  | downlink (by_ : Requester) (body : Bytes)
  /-- DOWNLINK_EXPIRY (R342): A queued downlink's lifetime ends and it completes with status 2. -/
  | downlinkExpiry (handle : Nat)
  /-- NODE_REMOVE (R342): Command 1 on 0x6040:04 removes a node, completing its downlinks with status 3. -/
  | nodeRemove (by_ : Requester) (body : Bytes)
  /-- ABSENT_TIMEOUT (R340): The absent timeout passes with no accepted frame and the node enters state 3. -/
  | absentTimeout (index : Nat)
  /-- JOINING_COUNTDOWN (R338): The joining-open countdown reaches 0 and joining closes. -/
  | joiningCountdown
  /-- NODE_COUNTER_RECORD (R325): A node's accepted counter advances by 1,024 and is written to flash. -/
  | nodeCounterRecord (index : Nat)
  /-- OBJECT_WRITE (R349): A write to an object with no row of its own is judged by the twelve checks and stored. -/
  | objectWrite (by_ : Requester) (index sub : Nat) (data : Bytes)
  /-- FIFO_READ (R357): A read of a FIFO object returns and consumes its oldest data with a new read number. -/
  | fifoRead (by_ : Requester) (index sub limit : Nat)
  /-- FIFO_REPEAT_READ (R358): A read with repeat returns the last data consumed by the same port again. -/
  | fifoRepeatRead (by_ : Requester) (index sub limit : Nat)
  /-- STORE (R353): Command 1 on 0x1100:01 writes a snapshot of the persistent set to flash. -/
  | store (by_ : Requester)
  /-- STORE_COMPLETE (R353): The flash write of a store is verified, the halves switch and the outcome is issued. -/
  | storeComplete (ok : Bool)
  /-- STORE_ERASE (R352): Command 2 on 0x1100:01 erases the store, keeping values in force. -/
  | storeErase (by_ : Requester)
  /-- TOKEN_TAKE (R360): A token command naming the writing port gives it the free token. -/
  | tokenTake (by_ : Requester) (port : Nat)
  /-- TOKEN_RELEASE (R360): Token command 0 from the holder frees the token. -/
  | tokenRelease (by_ : Requester)
  /-- TOKEN_HANDOVER (R360): Token command 0x81–0x83 from the holder moves the token to the named port. -/
  | tokenHandover (by_ : Requester) (port : Nat)
  /-- TOKEN_TIMEOUT (R361): No request from the holder's port for the timeout frees the token. -/
  | tokenTimeout
  /-- HISTORY_QUERY (R365): A write of 0x9810:01 issues the queried event from the history or refuses it as aged. -/
  | historyQuery (by_ : Requester) (seq : Nat)
  /-- QUOIN_READ (R371): Quoin kind 0x01 reads one subindex and returns its value. -/
  | quoinRead (good : Bool) (seq : Nat) (body : Bytes)
  /-- QUOIN_WRITE (R371): Quoin kind 0x02 writes one value of up to 48 bytes. -/
  | quoinWrite (good : Bool) (seq : Nat) (body : Bytes)
  /-- INITIATE_READ (R375): Quoin kind 0x03 opens a segmented read and takes its snapshot. -/
  | initiateRead (good : Bool) (seq : Nat) (body : Bytes)
  /-- INITIATE_WRITE (R374): Quoin kind 0x04 opens a segmented write of N bytes. -/
  | initiateWrite (good : Bool) (seq : Nat) (body : Bytes)
  /-- BLOCK_REQUEST (R375): Quoin kind 0x05 asks for a block of read segments. -/
  | blockRequest (good : Bool) (seq : Nat) (body : Bytes)
  /-- SEGMENT (R374): Quoin kind 0x06 carries one write segment, acknowledged after each block. -/
  | segment (good : Bool) (seq : Nat) (body : Bytes)
  /-- END (R374): Quoin kind 0x07 ends a transfer, applying a write whose CRC checks. -/
  | endTransfer (good : Bool) (seq : Nat) (body : Bytes)
  /-- ABORT (R377): Quoin kind 0x08 ends any open transfer without applying it. -/
  | abortTransfer (good : Bool) (seq : Nat) (body : Bytes)
  /-- SYNC (R379): Quoin kind 0x0F returns the port's sync state without judgement. -/
  | syncRequest (good : Bool) (seq : Nat) (body : Bytes)
  /-- TRANSFER_TIMEOUT (R377): No frame of an open transfer for the transfer timeout ends it with 0x1904. -/
  | transferTimeout (port : Nat)
  /-- QUOIN_APPLY (R370): Command 1 on 0x1040:08 switches Quoin to its new identifiers and bit rates. -/
  | quoinApply (by_ : Requester)
  /-- EVENT_FRAME (R380): Quoin sends one or two queued events in a frame on the event identifier. -/
  | eventFrame
  /-- PDO_ENABLE (R382): A write of 1 to 0x9000+f:01 validates the mapping and enables the process-data frame. -/
  | pdoEnable (by_ : Requester) (frame : Nat)
  /-- PDO_PERIODIC (R383): At each multiple of the period a process-data frame is built. -/
  | pdoPeriodic (frame : Nat)
  /-- PDO_CHANGE (R383): At a 1 ms check a changed mapped value, outside the inhibit, builds a process-data frame. -/
  | pdoChange (frame : Nat)
  /-- QUOIN_WATCH_WAKE (R386): In WATCH bus mode 0 the controller powers up on a WAKE_IN edge or a due frame. -/
  | quoinWatchWake (edge : Bool)
  /-- QUOIN_IDLE (R386): After the idle time with nothing pending the WATCH controller powers down. -/
  | quoinIdle
  /-- BUS_OFF_RECOVERY (R386): After 128 occurrences of 11 recessive bits the controller recovers from bus-off. -/
  | busOffRecovery
  /-- REQUEST (R392): Two-wire command 0x10 writes one request frame. -/
  | twoWireRequest (count : Nat) (data : Bytes) (pec : Option Nat)
  /-- RESPONSE (R392): Two-wire command 0x11 reads the oldest response or read segment. -/
  | twoWireResponse (taken pec : Bool)
  /-- EVENTS (R392): Two-wire command 0x12 reads an event block. -/
  | twoWireEvents (taken pec : Bool)
  /-- RESPONSE_REPEAT (R391): Two-wire command 0x13 returns the last response consumed again. -/
  | twoWireResponseRepeat (taken : Bool)
  /-- EVENTS_REPEAT (R391): Two-wire command 0x14 returns the last event block consumed again. -/
  | twoWireEventsRepeat (taken : Bool)
  /-- STATUS (R390): Two-wire command 0x15 reads the status byte and clears its error and reset bits. -/
  | twoWireStatus
  /-- SCL_TIMEOUT (R395): SCL stays low for 25 ms and the transaction is abandoned. -/
  | sclTimeout
  /-- BUS_ERROR (R396): A misplaced START or STOP aborts the transaction and raises a bus-error event. -/
  | busError (cause : Nat)
  /-- TARGET_WAKE (R398): A START wakes the sleeping two-wire target, which acknowledges from 150 µs later. -/
  | targetWake
  /-- TARGET_WAKE_IDLE (R398): In WATCH the target sleeps again after the wake idle time with no transaction. -/
  | targetWakeIdle
  /-- HOST_NOTIFY (R399): The device sends a Host Notify as controller when Response or Event rises or after the repeat interval. -/
  | hostNotify (acked : Bool)
  /-- ARBITRATION_LOST (R400): The device reads 0 while driving 1, releases the bus and waits for STOP. -/
  | arbitrationLost (addressed : Bool)
  /-- SPI_REQUEST (R402): SPI operation 0x1 carries a request frame, queued when its checks pass. -/
  | spiRequest (flags length check : Nat) (rest : Bytes)
  /-- SPI_RESPONSE (R403): SPI operation 0x2 reads the oldest response or read segment. -/
  | spiResponse (flags length check : Nat) (taken : Bool)
  /-- SPI_EVENTS (R403): SPI operation 0x3 reads an event block. -/
  | spiEvents (flags length check : Nat) (taken : Bool)
  /-- SPI_RESPONSE_REPEAT (R391): SPI operation 0x4 returns the last response consumed again. -/
  | spiResponseRepeat (flags length check : Nat)
  /-- SPI_EVENTS_REPEAT (R391): SPI operation 0x5 returns the last event block consumed again. -/
  | spiEventsRepeat (flags length check : Nat)
  /-- STATUS_POLL (R401): An SPI frame that ends after byte 0 returns the status byte only. -/
  | statusPoll
  /-- HOST_JOB (R410): A write of 0x1078:01 runs a CRC job on CV3 and issues the check and running values. -/
  | hostJob (by_ : Requester) (data : Bytes)
  /-- CONTEXT_SWITCH (R408): A higher-priority master claims a check-value unit between feeds and the context is saved. -/
  | contextSwitch (unit master : Nat) (head data : Bytes)
  /-- CONTEXT_RESTORE (R408): The higher master reads its check value and the saved context is restored. -/
  | contextRestore (unit : Nat)
  /-- STEP_TO_SECURED (R414): A write of 1 to 0x8000:02 blows the SECURED fuses and closes debug. -/
  | stepToSecured (by_ : Requester)
  /-- CHALLENGE_REQUEST (R421): A write of 1 to 0x8001:01 issues a new single-use challenge. -/
  | challengeRequest (by_ : Requester)
  /-- CHALLENGE_EXPIRY (R421): An outstanding challenge expires 60 s after issue. -/
  | challengeExpiry
  /-- STEP_TO_RETURNED (R414): An authorised command with purpose 3 erases keys and blows the RETURNED fuses. -/
  | stepToReturned (by_ : Requester) (rest : Bytes)
  /-- REVOKE_SLOT (R418): An authorised command with purpose 4 revokes an image-key slot. -/
  | revokeSlot (by_ : Requester) (rest : Bytes)
  /-- KEY_SLOT_WRITE (R420): A write of 0x8100:01–20 stores a network or debug key in an empty slot. -/
  | keySlotWrite (by_ : Requester) (slot : Nat) (data : Bytes)
  /-- KEY_SLOT_ERASE (R420): A write of 0x8120:01 erases a key slot. -/
  | keySlotErase (by_ : Requester) (slot : Nat)
  /-- LOWER_LEVEL (R430): A write of 0x8300:03 lowers the debug level. -/
  | lowerLevel (by_ : Requester) (level : Nat)
  /-- ACCESS_VIOLATION (R426): A target refuses an access without the right, records it and may fault the master or enter SAFE. -/
  | accessViolation (master target right region address : Nat)
  /-- DBG_CHALLENGE (R428): TAP instruction 0x21 shifts out a new challenge. -/
  | dbgChallenge
  /-- DBG_RESPONSE (R422): TAP instruction 0x22 shifts in a response judged at Update-DR, setting the debug level on success. -/
  | dbgResponse (response : Bytes)
  /-- DBG_ACCESS (R428): TAP instruction 0x23 carries SPI-form frames as class D. -/
  | dbgAccess (command length check : Nat) (rest : Bytes) (taken : Bool)
  /-- CORE_DEBUG (R428): TAP instruction 0x30 halts, steps or accesses memory of masters 0, 1 and 15. -/
  | coreDebug (master operation count : Nat)
  /-- IDCODE (R428): TAP instruction 0x02 shifts out the device identification code. -/
  | idcode
  /-- DBG_STATUS (R428): TAP instruction 0x20 shifts out the level, lifecycle, ready and challenge state. -/
  | dbgStatus
  /-- SAMPLE_PRELOAD (R428): TAP instruction 0x01 samples or preloads the boundary register. -/
  | samplePreload (register : Bytes)
  /-- EXTEST (R428): TAP instruction 0x00 drives the boundary register and, with RESET_N high, enters SAFE. -/
  | extest (register : Bytes) (resetN : Bool)
  /-- CLAMP (R428): TAP instruction 0x03 holds the balls from the boundary register and, with RESET_N high, enters SAFE. -/
  | clamp (resetN : Bool)
  /-- HIGHZ (R428): TAP instruction 0x04 floats the balls and, with RESET_N high, enters SAFE. -/
  | highz (resetN : Bool)
  /-- BYPASS (R428): TAP instruction 0xFF, or any unlisted code, selects the one-bit bypass register. -/
  | bypass
  /-- MANAGEMENT_WATCHDOG (R433): The 100 ms management watchdog expires and the device resets with cause 4. -/
  | managementWatchdog
  /-- TAP_ENABLE_WRITE (R435): A write of 0x7310:04 makes the management core claim or release the mesh tap's units. -/
  | tapEnableWrite (by_ : Requester) (value : Nat)
  /-- TEMPERATURE_CROSSING (R437): A die sensor crosses a warning, critical or shutdown threshold. -/
  | temperatureCrossing (sensor : Nat) (sample : Int)
  /-- SUPPLY_LEVEL (R438): A supply stays outside its warning or severe band and is flagged, resets or enters SAFE. -/
  | supplyLevel (monitor sample : Nat)
  /-- CLOCK_MONITOR_FAULT (R439): A clock monitor finds an absent reference or an unlocked PLL and acts. -/
  | clockMonitorFault (monitor quiet : Nat) (locked : Bool)
  /-- LOG_FLUSH (R441): Unflushed log entries are programmed into flash at 255 entries, 60 s or mode entry. -/
  | logFlush (fails : Bool)
  /-- LOG_QUERY (R441): A write of 0x7100:02 issues the queried log entry or refuses it. -/
  | logQuery (by_ : Requester) (seq : Nat)
  /-- BEGIN (R443): Update command 1 erases the inactive bank. -/
  | updateBegin (by_ : Requester)
  /-- ERASE_COMPLETE (R443): Erasure of the inactive bank ends and the update state becomes receiving. -/
  | eraseComplete
  /-- CHUNK (R443): A write of 0x7201:01 programmes and reads back one chunk of the update. -/
  | updateChunk (by_ : Requester) (data : Bytes)
  /-- FINISH (R443): Update command 2 verifies the staged bank. -/
  | updateFinish (by_ : Requester) (engines : Bool) (catalogue : List Bytes)
  /-- ACTIVATE (R443): Update command 3 marks the bank trial and resets within 100 ms. -/
  | updateActivate (by_ : Requester)
  /-- CANCEL (R443): Update command 4 marks the inactive bank empty. -/
  | updateCancel (by_ : Requester)
  /-- CONFIRM (R444): A write of 1 to 0x7500:02 confirms the trial bank and advances anti-rollback. -/
  | updateConfirm (by_ : Requester)
  /-- TRIAL_EXPIRY (R445): The 60 s trial window expires unconfirmed and the device reverts with cause 6. -/
  | trialExpiry
  /-- SAFE_ENTRY (R447): A severe cause puts the device into SAFE within 100 µs. -/
  | safeEntry
  /-- MODE_REQUEST (R451): A write of 0x7600:02 starts a transition to the requested mode. -/
  | modeRequest (by_ : Requester) (target : Nat)
  /-- TRANSITION_HOLD_END (R436): The radio's frame and acknowledgement window end, or 500 ms pass, and a held transition proceeds. -/
  | transitionHoldEnd
  /-- TRANSITION_COMPLETE (R453): A mode transition completes and its outcome and mode event are issued. -/
  | transitionComplete
  /-- PARKED_ENTRY (R465): Entry to PARKED flushes, retains, records Gnomon and drives PWR_REQ low. -/
  | parkedEntry
  /-- WAKE (R462): A Glimmer word, WAKE_IN edge or two-wire START wakes the device from PARKED. -/
  | wake (sources : Nat) (rising : Bool) (micros : Nat)
  /-- PARKED_RESUME (R466): After a wake the images are matched, the store loaded and WATCH reached. -/
  | parkedResume (hashes : List Bytes)
  /-- WAKE_FAILURE (R466): The rails are not in band 10 ms after PWR_REQ rises and the device stays PARKED. -/
  | wakeFailure
  /-- WAKE_IN_WATCH (R462): A WAKE_IN edge in WATCH powers Quoin and applies the configured mode change. -/
  | wakeInWatch (rising : Bool) (micros : Nat)
  /-- WAKE_OUT_END (R464): A WAKE_OUT condition ends at the first host request or 2 s after WATCH. -/
  | wakeOutEnd
  /-- RESET (R456): A power-on, RESET_N, brown-out or internal reset drives outputs to reset state and enters BOOT. -/
  | reset (cause nanos : Nat) (kept : Bool)
  /-- BRING_UP (R457): From reset release the device verifies images, loads the store and powers the start mode. -/
  | bringUp (gpio2 gpio3 goodA goodB : Bool) (temps : List Int) (supplies : List Nat)
  /-- PATH_POWER_UP (R467): A transition to LISTEN or FULL powers paths and blocks in order until they are usable. -/
  | pathPowerUp (step : Nat)
  /-- GPIO_WRITE (R475): A write of the GPIO direction, level or pull objects takes effect on the tick it is accepted. -/
  | gpioWrite (by_ : Requester) (sub value : Nat)
  /-- LANTERN_MEMORY_ERROR (R177): An uncorrectable error in Lantern memory puts Lantern into FAULTED with fault code 0x0701, and R36 applies to its course. -/
  | lanternMemoryError
  /-- FRAME_START_EDGE (R260): On each frame-start edge of a port or the IEC output the stream plays frame n, advances its frame count and, at the first edge at or after T_g, moves from pre-roll to playing. -/
  | frameStartEdge (stream : Nat)
  /-- BUS_OFF (R386): Under ISO 11898-1 fault confinement the Quoin controller's error counters carry it to error passive or bus-off, counted in 0x1041:05. -/
  | busOff (tec rec_ : Nat)
  /-- ESTIMATOR_WINDOW_START (R88): While the converged bit is set, the next Plumb estimator window starts when the cadence expires or the die temperature moves by the trigger, switching dither as R91 states. -/
  | estimatorWindowStart (path : Nat)
  /-- PREAMBLE_DETECTED (R139): The mesh-tap engine, or the narrowband receiver, detects a preamble and begins receiving a frame, which holds AGC release, defers Plumb placement and blocks calibrations. -/
  | preambleDetected (source : Nat) (sfd : Option Nat) (length : Option Nat)
  deriving DecidableEq, Repr

end Sys2Proof
end

