-- ==== Sys2Proof/Config.lean ====
section
/-!
DEFINITION. Config.lean: what one implementation fixes and what the specification leaves open, as constants with no
body. Nothing in Lean can evaluate them, so every proved claim holds whatever they are (notes/assumptions/3.md).
-/
namespace Sys2Proof.Config

/-- A fresh free value: the value of an outcome that the specification leaves open, taken at the reading `n` of the
state's `freeCtr` counter. -/
opaque free : Nat → Nat

/-- SHA-256 of a byte string (FIPS 180-4 is outside the specification's own text). -/
opaque sha256 : Bytes → Bytes

/-- Whether an ECDSA P-256 signature (second argument, r then s) verifies under a public key (first argument, X then Y)
over a message (third argument). -/
opaque ecdsaVerifies : Bytes → Bytes → Bytes → Bool

/-- AES-128 of one 16-byte block under a key (first argument). -/
opaque aesBlock : Bytes → Bytes → Bytes

/-- A 32-byte nonce of the hardware random source, at a reading of the free counter (R421). -/
opaque nonce : Nat → Bytes

/-- The UTF-8 of an RDS character code (its table is outside the specification's own text). -/
opaque rdsChar : Nat → Bytes

/-- The 127 taps of a response of the ROM, as 0x3140 holds them (R106 gives their figures, not their values). -/
opaque romTaps : Nat → Bytes

/-- The prototype of Prism's filterbank, one real tap per ADC sample, centred, their sum 1 (R99 gives its figures, not its taps). -/
opaque prismTaps : List Rat

/-- The taps of a half-band stage, centred: 11 for the wide set, 23 for the sharp one (R104 gives their figures, not the taps). -/
opaque halfBand : Bool → List Rat

/-- The 16 taps of a phase of the rate matcher's 1,024 (R110 gives their figures, not the taps). -/
opaque rateTaps : Nat → List Rat

/-- The 15 kHz low-pass of the FM audio, centred, read at so many quarters of a 300 kS/s sample past it (R145, R144). -/
opaque audioTaps : Nat → List Rat

/-- The coefficient of a first-order low-pass at 48 kS/s with a time constant in seconds (R145, R149). -/
opaque onePole : Rat → Rat

/-- What the pilot PLL adds to its phase in turns and takes as its offset in Hz, from its phase error and its offset (R146: it states
the pull-in range and no loop). -/
opaque pilotLoop : Rat → Rat → Rat × Rat

/-- The noise power that the FM engine estimates of 64 samples of an input (R152 uses it and states no estimate). -/
opaque noisePower : List (Rat × Rat) → Rat

/-- The AM channel filter at 48 kS/s, centred, by its bandwidth in Hz and its sidebands: 0 both, 1 the upper one, 2 the lower one
(R201, R203). -/
opaque amTaps : Nat → Nat → List (Rat × Rat)

/-- A low-pass at 48 kS/s of so many Hz to either side, centred (R206: 50 Hz about the carrier, 500 Hz about its neighbours). -/
opaque narrowTaps : Nat → List Rat

/-- What the AM carrier PLL adds to its phase in turns and takes as its offset in Hz, from its phase error and its offset (R202: it
states the pull-in range and no loop). -/
opaque carrierLoop : Rat → Rat → Rat × Rat

/-- The slot filter of Lantern: ±80 kHz at 38.4 MS/s, centred, its gain 1 (R165). -/
opaque slotTaps : List Rat

/-- The factory gain table of OTP (R67): by path, GR and whether the LNA is low, the factor that gives a sample its level at GR 0. -/
opaque gainTable : Nat → Nat → Bool → Rat

/-- The same for the AM branch by its attenuation in dB (R65, R67). -/
opaque amGainTable : Nat → Rat

/-- Where the link sequencer's 32 KB window begins in the mesh core's SRAM, and the port buffers in audio SRAM, from one address up to
another (R11, R424 name them and give no addresses). -/
opaque linkWindow : Nat

/-- The port buffers' bounds. -/
opaque portBuffers : Nat × Nat

/-- Half the support of an output sample of a chain in ticks (R102): from D, the sharp mask, taps, the response in force, L, M and
the quick block, and the coefficients. The specification gives no length for Prism and no taps for the ROM. -/
opaque supportHalf : List Nat → Bytes → Nat

/-- What a marker record holds where the block goes out before the specification's value is known: the span of a clock fault
that has not ended, and the sample of an overflow record (R115). -/
opaque markerOpen : Nat → Nat

/-- A measurement of the device that no command brings: what an object with this key reads at a tick (R134 to R136), or, at tick
0, the constant that OTP gives it (R73). -/
opaque measured : Nat → Nat → Nat

/-- A component of a sample of an IQ capture that was aborted before its samples were a command's: the sample's number, 0 for I or a raw
code and 1 for Q (R253). -/
opaque captured : Nat → Nat → Int

/-- How many logical frames the queue of one DAB sub-channel of a size in CU holds: the specification gives the room of all
queues together (R243) and no share. -/
opaque subchannelDepth : Nat → Nat

/-- The loop correction in ppb and the integrator that a stream's rate loop takes next (R261): present correction,
integrator, fill less 256, whether the loop is wide. -/
opaque loopStep : Int → Int → Int → Bool → Int × Int

/-- The second-order high-pass of 100 Hz at 48 kS/s, as b0, b1, b2, a1, a2 (R236: it gives no quality factor). -/
opaque highPass100 : List Rat

/-- The band that Gloaming measures for section `k` of tonal matching, as b0, b1, b2, a1, a2 (R237 names the sections, not the
bands). -/
opaque bandFilter : Nat → List Rat

/-- A section of a slot's EQ at 48 kS/s as b0, b1, b2, a1, a2, by its type, frequency in Hz, gain in 0.1 dB and Q in 0.01 (R237). -/
opaque eqSection : Nat → Nat → Int → Nat → List Rat

/-- The taps of an interpolated read between frames, centred on the later frame, by the part of a frame past it (R233, R235). -/
opaque delayTaps : Rat → List Rat

/-- The 32 taps of a phase of a stream's rate matcher, of 64 (R259 gives their number, not the taps). -/
opaque portTaps : Nat → List Rat

/-- The taps of the conversion of a decoder's source rate to 48 kS/s, by numerator and denominator of the ratio and the phase of the
output sample (R194 gives its figures, not the taps). -/
opaque pcmTaps : Nat → Nat → Nat → List Rat

/-- The point of an MSC constellation (1 4-QAM, 2 16-QAM, 3 64-QAM) that a label of bits stands for (R210: the mapping is that of
ES 201 980, which is outside the specification's own text). -/
opaque qamPoint : Nat → Nat → Rat × Rat

/-- The synchroniser's uncertainty of a frame-start edge in ticks, 0 to 2 modulo 3, by stream and tick (R51, R258). -/
opaque edgeUncertainty : Nat → Nat → Nat

/-- The UTF-8 of a DAB label character of charset 0 (its table is outside the specification's own text). -/
opaque dabChar : Nat → Bytes

/-- The snapshot sequence of the dwell (1) or duty (2) account when read at a tick. -/
opaque accountSnap : Nat → Nat → Nat

/-- The levels that the board drives on the GPIO balls at a tick, bit n for GPIOn. -/
opaque ballLevels : Nat → Nat

/-- What a level reads for a power of 0, where the specification states no result: by the units of its logarithm. -/
opaque logOfZero : Nat → Int

/-- The elementary functions at the precision with which the device forms its figures: the square root, the sine, the arc cosine and
π (R82, R84); the specification gives no precision (notes/assumptions/128.md). -/
opaque sqrt : Rat → Rat

/-- The sine. -/
opaque sin : Rat → Rat

/-- The cosine. -/
opaque cos : Rat → Rat

/-- The exponential. -/
opaque exp : Rat → Rat

/-- 10^(x / 20). -/
opaque dbGain : Rat → Rat

/-- The arc cosine. -/
opaque arccos : Rat → Rat

/-- π. -/
opaque pi : Rat

/-- What the device gives for a number divided by 0, where the specification states no result. -/
opaque overZero : Rat → Rat

/-- The encrypted payload and MIC of CCM* (R8, R304): the key, the sender's extended address, the frame counter, the octets before the
payload, the payload. -/
opaque ccmSeal : Bytes → Nat → Nat → Bytes → Bytes → Bytes

/-- The offset of the PA's drive codes that a calibration at a tick finds for a band (R290). -/
opaque paOffset : Nat → Nat → Nat

end Sys2Proof.Config
end

