-- ==== Sys2Proof/Machine/ObjectTypes.lean ====
section
/-!
DEFINITION. Machine/ObjectTypes.lean: the value types and access kinds of the object dictionary (R345, R346), and the
shape of a row of its table.
-/
namespace Sys2Proof.Machine

/-- A value held by one subindex: a number, or a byte string (OCT, STR and DOM). F32 values are their 32 bits. -/
inductive Val where
  | num (i : Int)
  | raw (b : Bytes)
  deriving DecidableEq, Repr

/-- The types of R345. `oct`, `str` and `dom` carry their shortest and longest length in bytes. -/
inductive Ty where
  | bool | u8 | u16 | u32 | u64 | i8 | i16 | i32 | f32 | time64
  | str (lo hi : Nat)
  | oct (lo hi : Nat)
  | dom (lo hi : Nat)
  deriving DecidableEq, Repr

/-- The access kinds of R346. -/
inductive Acc where
  | ro | rw | wo | rws | cmd | res
  deriving DecidableEq, Repr

/-- One row of an object table: `n` consecutive indices from `base`, subindices `lo` to `hi`. -/
structure Row where
  base : Nat
  n : Nat
  lo : Nat
  hi : Nat
  ty : Ty
  acc : Acc
  dflt : Int
  rng : List (Int × Int)
  deriving DecidableEq, Repr

/-- The size in bytes of a type of fixed size (R345); `none` for OCT, STR and DOM. -/
def Ty.size : Ty → Option Nat
  | .bool | .u8 | .i8 => some 1
  | .u16 | .i16 => some 2
  | .u32 | .i32 | .f32 => some 4
  | .u64 | .time64 => some 8
  | .str .. | .oct .. | .dom .. => none

/-- Whether a type is signed (R345). -/
def Ty.isSigned : Ty → Bool
  | .i8 | .i16 | .i32 => true
  | _ => false

/-- The key of a subindex of an object: index × 256 + subindex. -/
abbrev obj (idx sub : Nat) : Nat := idx * 256 + sub

end Sys2Proof.Machine
end

