-- ==== Sys2Proof/Machine/Objects.lean ====
section
/-!
DEFINITION. Machine/Objects.lean: the object dictionary's table, one row for each row of the object tables of spec/
(R343 to R346, R351; each chapter's "Objects" tables), in index order.
A row gives the first index, how many consecutive instances it has, the subindices it spans, the type, the access
kind, the default as a number (OCT, STR and DOM rows default to zero bytes or to the empty value, R351) and the
ranges of values its table states (none: no range of the table's own; the owning chapter's rules judge it).
-/
namespace Sys2Proof.Machine

/-- Rows of 0x1000 to 0x103F. -/
def objectRows1000 : List Row :=
  [⟨0x1018, 1, 0x01, 0x01, .u32, .ro, 4606547, []⟩,
   ⟨0x1018, 1, 0x02, 0x02, .u32, .ro, 9312, []⟩,
   ⟨0x1018, 1, 0x03, 0x03, .u32, .ro, 131073, []⟩,
   ⟨0x1018, 1, 0x04, 0x04, .u32, .ro, 0, []⟩,
   ⟨0x1020, 1, 0x01, 0x03, .u8, .ro, 0, []⟩,
   ⟨0x1020, 1, 0x04, 0x04, .u32, .ro, 0, []⟩,
   ⟨0x1020, 1, 0x05, 0x05, .u32, .ro, 0, []⟩,
   ⟨0x1020, 1, 0x06, 0x06, .time64, .ro, 0, []⟩,
   ⟨0x1020, 1, 0x07, 0x07, .oct 16 16, .res, 0, []⟩,
   ⟨0x1030, 1, 0x01, 0x01, .u8, .ro, 0, []⟩,
   ⟨0x1030, 1, 0x02, 0x02, .u8, .cmd, 0, [(0, 3), (129, 131)]⟩,
   ⟨0x1030, 1, 0x03, 0x03, .u16, .rw, 2000, [(100, 60000)]⟩,
   ⟨0x1030, 1, 0x04, 0x04, .bool, .rw, 1, []⟩,
   ⟨0x1030, 1, 0x05, 0x05, .time64, .ro, 0, []⟩]

/-- Rows of 0x1040 to 0x10FF, part 0. -/
def objectRows1040p0 : List Row :=
  [⟨0x1040, 1, 0x01, 0x01, .u8, .rw, 33, [(1, 63)]⟩,
   ⟨0x1040, 1, 0x02, 0x02, .u32, .rw, 1024, []⟩,
   ⟨0x1040, 1, 0x03, 0x03, .u8, .rw, 0, [(0, 1)]⟩,
   ⟨0x1040, 1, 0x04, 0x04, .u8, .rw, 0, [(0, 1)]⟩,
   ⟨0x1040, 1, 0x05, 0x05, .u8, .rw, 1, [(0, 3)]⟩,
   ⟨0x1040, 1, 0x06, 0x06, .u8, .rw, 80, [(60, 90)]⟩,
   ⟨0x1040, 1, 0x07, 0x07, .u8, .rw, 75, [(60, 90)]⟩,
   ⟨0x1040, 1, 0x08, 0x08, .u8, .cmd, 0, [(1, 1)]⟩,
   ⟨0x1040, 1, 0x09, 0x09, .u16, .rw, 0, [(0, 1000)]⟩,
   ⟨0x1040, 1, 0x0A, 0x0A, .u8, .rw, 0, [(0, 1)]⟩,
   ⟨0x1040, 1, 0x0B, 0x0B, .u16, .rw, 2000, [(100, 60000)]⟩,
   ⟨0x1040, 1, 0x0C, 0x0C, .u16, .rw, 500, [(50, 10000)]⟩,
   ⟨0x1040, 1, 0x0D, 0x0D, .u8, .rw, 16, [(1, 32)]⟩,
   ⟨0x1041, 1, 0x01, 0x01, .u8, .ro, 0, []⟩,
   ⟨0x1041, 1, 0x02, 0x02, .u32, .ro, 0, []⟩,
   ⟨0x1041, 1, 0x03, 0x03, .u32, .ro, 0, []⟩,
   ⟨0x1041, 1, 0x04, 0x04, .u32, .ro, 0, []⟩,
   ⟨0x1041, 1, 0x05, 0x05, .u32, .ro, 0, []⟩,
   ⟨0x1041, 1, 0x06, 0x06, .u8, .ro, 0, []⟩,
   ⟨0x1041, 1, 0x07, 0x07, .u8, .ro, 0, []⟩,
   ⟨0x1041, 1, 0x08, 0x08, .u32, .ro, 0, []⟩,
   ⟨0x1050, 1, 0x01, 0x01, .u8, .ro, 0, []⟩,
   ⟨0x1050, 1, 0x02, 0x02, .u8, .rw, 0, [(0, 1)]⟩,
   ⟨0x1050, 1, 0x03, 0x03, .bool, .rw, 1, []⟩,
   ⟨0x1050, 1, 0x04, 0x04, .u8, .rw, 8, [(8, 119)]⟩,
   ⟨0x1050, 1, 0x05, 0x05, .u16, .rw, 100, [(10, 10000)]⟩,
   ⟨0x1050, 1, 0x06, 0x06, .u16, .rw, 100, [(10, 60000)]⟩,
   ⟨0x1050, 1, 0x07, 0x07, .u16, .rw, 500, [(50, 10000)]⟩]

/-- Rows of 0x1040 to 0x10FF, part 1. -/
def objectRows1040p1 : List Row :=
  [⟨0x1051, 1, 0x01, 0x01, .u32, .ro, 0, []⟩,
   ⟨0x1051, 1, 0x02, 0x02, .u32, .ro, 0, []⟩,
   ⟨0x1051, 1, 0x03, 0x03, .u32, .ro, 0, []⟩,
   ⟨0x1051, 1, 0x04, 0x04, .u32, .ro, 0, []⟩,
   ⟨0x1051, 1, 0x05, 0x05, .u32, .ro, 0, []⟩,
   ⟨0x1051, 1, 0x06, 0x06, .u32, .ro, 0, []⟩,
   ⟨0x1051, 1, 0x07, 0x07, .u32, .ro, 0, []⟩,
   ⟨0x1051, 1, 0x08, 0x08, .u32, .ro, 0, []⟩,
   ⟨0x1051, 1, 0x09, 0x09, .u32, .ro, 0, []⟩,
   ⟨0x1060, 1, 0x01, 0x01, .u8, .rw, 7, [(0, 31)]⟩,
   ⟨0x1060, 1, 0x02, 0x02, .u16, .rw, 500, [(50, 10000)]⟩,
   ⟨0x1061, 1, 0x01, 0x01, .u32, .ro, 0, []⟩,
   ⟨0x1061, 1, 0x02, 0x02, .u32, .ro, 0, []⟩,
   ⟨0x1061, 1, 0x03, 0x03, .u32, .ro, 0, []⟩,
   ⟨0x1061, 1, 0x04, 0x04, .u32, .ro, 0, []⟩,
   ⟨0x1061, 1, 0x05, 0x05, .u32, .ro, 0, []⟩,
   ⟨0x1070, 4, 0x01, 0x01, .u8, .ro, 255, []⟩,
   ⟨0x1070, 4, 0x02, 0x02, .oct 16 16, .ro, 0, []⟩,
   ⟨0x1070, 4, 0x03, 0x03, .u32, .ro, 0, []⟩,
   ⟨0x1070, 4, 0x04, 0x04, .u32, .ro, 0, []⟩,
   ⟨0x1070, 4, 0x05, 0x05, .u32, .ro, 0, []⟩,
   ⟨0x1078, 1, 0x01, 0x01, .dom 17 4112, .cmd, 0, []⟩,
   ⟨0x1078, 1, 0x02, 0x02, .oct 12 12, .res, 0, []⟩]

/-- Rows of 0x1040 to 0x10FF. -/
def objectRows1040 : List Row :=
  objectRows1040p0 ++ objectRows1040p1

/-- Rows of 0x1100 to 0x1FFF. -/
def objectRows1100 : List Row :=
  [⟨0x1100, 1, 0x01, 0x01, .u8, .cmd, 0, [(1, 2)]⟩,
   ⟨0x1100, 1, 0x02, 0x02, .oct 8 8, .res, 0, []⟩,
   ⟨0x1100, 1, 0x03, 0x03, .u32, .ro, 0, []⟩,
   ⟨0x1100, 1, 0x04, 0x04, .u16, .ro, 0, []⟩,
   ⟨0x1100, 1, 0x05, 0x05, .u32, .ro, 0, []⟩]

/-- Rows of 0x2000 to 0x20FF. -/
def objectRows2000 : List Row :=
  [⟨0x2000, 1, 0x01, 0x01, .time64, .ro, 0, []⟩,
   ⟨0x2000, 1, 0x02, 0x02, .u16, .ro, 0, []⟩,
   ⟨0x2000, 1, 0x03, 0x03, .u8, .ro, 1, []⟩,
   ⟨0x2001, 1, 0x01, 0x01, .u8, .ro, 0, []⟩,
   ⟨0x2001, 1, 0x02, 0x02, .u32, .ro, 0, []⟩,
   ⟨0x2001, 1, 0x03, 0x03, .u32, .ro, 0, []⟩,
   ⟨0x2002, 1, 0x01, 0x01, .u8, .rw, 0, [(0, 3)]⟩,
   ⟨0x2002, 1, 0x02, 0x02, .time64, .rw, 0, []⟩,
   ⟨0x2002, 1, 0x03, 0x03, .i32, .ro, 0, []⟩,
   ⟨0x2002, 1, 0x04, 0x04, .u32, .rw, 0, []⟩,
   ⟨0x2002, 1, 0x05, 0x05, .bool, .rw, 0, []⟩,
   ⟨0x2003, 1, 0x01, 0x01, .u64, .ro, 0, []⟩,
   ⟨0x2003, 1, 0x02, 0x02, .time64, .ro, 0, []⟩,
   ⟨0x2003, 1, 0x03, 0x03, .u64, .ro, 0, []⟩,
   ⟨0x2003, 1, 0x04, 0x04, .u8, .ro, 0, []⟩,
   ⟨0x2003, 1, 0x05, 0x05, .i16, .ro, 0, []⟩,
   ⟨0x2003, 1, 0x06, 0x06, .i32, .ro, 0, []⟩,
   ⟨0x2008, 1, 0x01, 0x08, .u32, .rw, 0, []⟩,
   ⟨0x2010, 1, 0x01, 0x01, .oct 16 16, .cmd, 0, []⟩,
   ⟨0x2010, 1, 0x02, 0x02, .oct 8 8, .res, 0, []⟩,
   ⟨0x2011, 1, 0x01, 0x01, .oct 32 32, .cmd, 0, []⟩,
   ⟨0x2011, 1, 0x02, 0x02, .oct 8 8, .res, 0, []⟩,
   ⟨0x2040, 64, 0x00, 0x00, .oct 32 32, .ro, 0, []⟩]

/-- Rows of 0x2100 to 0x23FF, part 0. -/
def objectRows2100p0 : List Row :=
  [⟨0x2140, 32, 0x01, 0x01, .u16, .ro, 0, []⟩,
   ⟨0x2140, 32, 0x02, 0x02, .u8, .ro, 0, []⟩,
   ⟨0x2140, 32, 0x03, 0x03, .u8, .ro, 255, []⟩,
   ⟨0x2140, 32, 0x04, 0x04, .u16, .ro, 65535, []⟩,
   ⟨0x2140, 32, 0x05, 0x05, .u16, .ro, 0, []⟩,
   ⟨0x2140, 32, 0x06, 0x06, .u8, .ro, 0, []⟩,
   ⟨0x2180, 12, 0x01, 0x01, .u16, .ro, 0, []⟩,
   ⟨0x2180, 12, 0x02, 0x02, .u8, .ro, 0, []⟩,
   ⟨0x2180, 12, 0x03, 0x03, .u8, .ro, 255, []⟩,
   ⟨0x2180, 12, 0x04, 0x04, .u16, .ro, 65535, []⟩,
   ⟨0x2180, 12, 0x05, 0x05, .u16, .ro, 0, []⟩,
   ⟨0x2180, 12, 0x06, 0x06, .u8, .ro, 0, []⟩,
   ⟨0x21C0, 48, 0x01, 0x01, .u16, .ro, 0, []⟩,
   ⟨0x21C0, 48, 0x02, 0x02, .u8, .ro, 0, []⟩,
   ⟨0x21C0, 48, 0x03, 0x03, .u8, .ro, 255, []⟩,
   ⟨0x21C0, 48, 0x04, 0x04, .u16, .ro, 65535, []⟩,
   ⟨0x21C0, 48, 0x05, 0x05, .u16, .ro, 0, []⟩,
   ⟨0x21C0, 48, 0x06, 0x06, .u8, .ro, 0, []⟩,
   ⟨0x21C0, 48, 0x08, 0x08, .u8, .rws, 0, [(0, 1)]⟩,
   ⟨0x21C0, 48, 0x09, 0x09, .u8, .rws, 0, [(0, 16)]⟩,
   ⟨0x21C0, 48, 0x0A, 0x0A, .u8, .ro, 0, []⟩,
   ⟨0x21C0, 48, 0x10, 0x1F, .u32, .rws, 0, []⟩,
   ⟨0x2200, 5, 0x01, 0x01, .u16, .ro, 0, []⟩,
   ⟨0x2200, 5, 0x02, 0x02, .u8, .ro, 0, []⟩,
   ⟨0x2200, 5, 0x03, 0x03, .u8, .ro, 255, []⟩,
   ⟨0x2200, 5, 0x04, 0x04, .u16, .ro, 65535, []⟩,
   ⟨0x2200, 5, 0x05, 0x05, .u16, .ro, 0, []⟩,
   ⟨0x2200, 5, 0x06, 0x06, .u8, .ro, 0, []⟩]

/-- Rows of 0x2100 to 0x23FF, part 1. -/
def objectRows2100p1 : List Row :=
  [⟨0x2240, 3, 0x01, 0x01, .u16, .ro, 0, []⟩,
   ⟨0x2240, 3, 0x02, 0x02, .u8, .ro, 0, []⟩,
   ⟨0x2240, 3, 0x03, 0x03, .u8, .ro, 255, []⟩,
   ⟨0x2240, 3, 0x04, 0x04, .u16, .ro, 65535, []⟩,
   ⟨0x2240, 3, 0x05, 0x05, .u16, .ro, 0, []⟩,
   ⟨0x2240, 3, 0x06, 0x06, .u8, .ro, 0, []⟩,
   ⟨0x2280, 8, 0x01, 0x01, .u16, .ro, 0, []⟩,
   ⟨0x2280, 8, 0x02, 0x02, .u8, .ro, 0, []⟩,
   ⟨0x2280, 8, 0x03, 0x03, .u8, .ro, 255, []⟩,
   ⟨0x2280, 8, 0x04, 0x04, .u16, .ro, 65535, []⟩,
   ⟨0x2280, 8, 0x05, 0x05, .u16, .ro, 0, []⟩,
   ⟨0x2280, 8, 0x06, 0x06, .u8, .ro, 16, []⟩,
   ⟨0x22C0, 1, 0x01, 0x01, .u16, .ro, 0, []⟩,
   ⟨0x22C0, 1, 0x02, 0x02, .u8, .ro, 0, []⟩,
   ⟨0x22C0, 1, 0x03, 0x03, .u8, .ro, 255, []⟩,
   ⟨0x22C0, 1, 0x04, 0x04, .u16, .ro, 65535, []⟩,
   ⟨0x22C0, 1, 0x05, 0x05, .u16, .ro, 0, []⟩,
   ⟨0x22C0, 1, 0x06, 0x06, .u8, .ro, 0, []⟩,
   ⟨0x2300, 2, 0x01, 0x01, .u16, .ro, 0, []⟩,
   ⟨0x2300, 2, 0x02, 0x02, .u8, .ro, 0, []⟩,
   ⟨0x2300, 2, 0x03, 0x03, .u8, .ro, 255, []⟩,
   ⟨0x2300, 2, 0x04, 0x04, .u16, .ro, 65535, []⟩,
   ⟨0x2300, 2, 0x05, 0x05, .u16, .ro, 0, []⟩,
   ⟨0x2300, 2, 0x06, 0x06, .u8, .ro, 0, []⟩]

/-- Rows of 0x2100 to 0x23FF. -/
def objectRows2100 : List Row :=
  objectRows2100p0 ++ objectRows2100p1

/-- Rows of 0x2400 to 0x2FFF, part 0. -/
def objectRows2400p0 : List Row :=
  [⟨0x2400, 12, 0x01, 0x01, .u16, .rws, 0, [(0, 0), (0x0101, 0x0105), (0x0201, 0x0202), (0x0301, 0x0302)]⟩,
   ⟨0x2400, 12, 0x02, 0x02, .u32, .ro, 0, []⟩,
   ⟨0x2400, 12, 0x03, 0x03, .u8, .ro, 0, []⟩,
   ⟨0x2400, 12, 0x04, 0x04, .u32, .ro, 0, []⟩,
   ⟨0x2400, 12, 0x05, 0x05, .u8, .rws, 1, [(0, 1)]⟩,
   ⟨0x2400, 12, 0x06, 0x06, .u32, .ro, 0, []⟩,
   ⟨0x2400, 12, 0x07, 0x07, .u8, .ro, 0, []⟩,
   ⟨0x2400, 12, 0x08, 0x08, .u8, .ro, 0, []⟩,
   ⟨0x2400, 12, 0x09, 0x09, .u8, .rw, 0, [(0, 100)]⟩,
   ⟨0x2400, 12, 0x0A, 0x0A, .u32, .ro, 0, []⟩,
   ⟨0x2400, 12, 0x0B, 0x0B, .u16, .ro, 0, []⟩,
   ⟨0x2400, 12, 0x0C, 0x0C, .time64, .ro, 0, []⟩,
   ⟨0x2440, 8, 0x01, 0x01, .u32, .ro, 0, []⟩,
   ⟨0x2440, 8, 0x02, 0x02, .u32, .ro, 0, []⟩,
   ⟨0x2440, 8, 0x03, 0x03, .u32, .ro, 0, []⟩,
   ⟨0x2440, 8, 0x04, 0x04, .u8, .ro, 0, []⟩,
   ⟨0x2440, 8, 0x05, 0x05, .u32, .rw, 0, []⟩,
   ⟨0x2480, 1, 0x01, 0x01, .u8, .ro, 0, []⟩,
   ⟨0x2480, 1, 0x02, 0x02, .u8, .ro, 0, []⟩,
   ⟨0x2481, 16, 0x00, 0x00, .oct 16 16, .ro, 0, []⟩,
   ⟨0x2500, 1, 0x01, 0x01, .u16, .ro, 1024, []⟩,
   ⟨0x2500, 1, 0x02, 0x02, .u16, .ro, 2560, []⟩,
   ⟨0x2500, 1, 0x03, 0x03, .u16, .ro, 2560, []⟩,
   ⟨0x2500, 1, 0x04, 0x04, .u8, .ro, 0, []⟩,
   ⟨0x2500, 1, 0x05, 0x05, .dom 16 16, .ro, 0, []⟩,
   ⟨0x2520, 32, 0x00, 0x00, .dom 0 4294967295, .ro, 0, []⟩,
   ⟨0x2540, 1, 0x00, 0x00, .dom 0 4294967295, .ro, 0, []⟩,
   ⟨0x2560, 4, 0x01, 0x01, .u16, .rw, 2048, [(2048, 2049), (256, 287)]⟩]

/-- Rows of 0x2400 to 0x2FFF, part 1. -/
def objectRows2400p1 : List Row :=
  [⟨0x2560, 4, 0x02, 0x02, .u8, .rw, 2, [(0, 2)]⟩,
   ⟨0x2560, 4, 0x03, 0x03, .u32, .rw, 65536, [(256, 1048576)]⟩,
   ⟨0x2560, 4, 0x04, 0x04, .u32, .rw, 0, []⟩,
   ⟨0x2560, 4, 0x05, 0x05, .u8, .cmd, 0, [(1, 4)]⟩,
   ⟨0x2560, 4, 0x06, 0x06, .u8, .ro, 0, []⟩,
   ⟨0x2560, 4, 0x07, 0x07, .oct 160 160, .res, 0, []⟩,
   ⟨0x2560, 4, 0x08, 0x08, .dom 0 4294967295, .ro, 0, []⟩,
   ⟨0x2560, 4, 0x09, 0x09, .u32, .ro, 0, []⟩]

/-- Rows of 0x2400 to 0x2FFF. -/
def objectRows2400 : List Row :=
  objectRows2400p0 ++ objectRows2400p1

/-- Rows of 0x3000 to 0x300F. -/
def objectRows3000 : List Row :=
  [⟨0x3000, 2, 0x01, 0x01, .u8, .ro, 0, []⟩,
   ⟨0x3000, 2, 0x02, 0x02, .u8, .rw, 1, [(0, 2)]⟩,
   ⟨0x3000, 2, 0x03, 0x03, .u8, .rw, 18, [(0, 42)]⟩,
   ⟨0x3000, 2, 0x04, 0x04, .u8, .rw, 0, [(0, 42)]⟩,
   ⟨0x3000, 2, 0x05, 0x05, .u8, .rw, 42, [(0, 42)]⟩,
   ⟨0x3000, 2, 0x06, 0x06, .u8, .ro, 18, []⟩,
   ⟨0x3000, 2, 0x07, 0x07, .bool, .ro, 0, []⟩,
   ⟨0x3000, 2, 0x08, 0x08, .i8, .rw, -6, [(-12, -1)]⟩,
   ⟨0x3000, 2, 0x09, 0x09, .i8, .rw, -12, [(-30, -6)]⟩,
   ⟨0x3000, 2, 0x0A, 0x0A, .u16, .rw, 20, [(1, 1000)]⟩,
   ⟨0x3000, 2, 0x0B, 0x0B, .i16, .ro, -32768, []⟩,
   ⟨0x3000, 2, 0x0C, 0x0C, .i16, .ro, -32768, []⟩,
   ⟨0x3000, 2, 0x0D, 0x0D, .u32, .ro, 0, []⟩,
   ⟨0x3000, 2, 0x0E, 0x0E, .u32, .ro, 0, []⟩,
   ⟨0x3000, 2, 0x0F, 0x0F, .i16, .ro, -32768, []⟩,
   ⟨0x3000, 2, 0x10, 0x10, .u8, .rw, 0, []⟩,
   ⟨0x3000, 1, 0x20, 0x20, .bool, .rw, 1, []⟩,
   ⟨0x3000, 1, 0x21, 0x21, .u8, .rw, 0, [(0, 0), (6, 6), (12, 12), (18, 18), (24, 24), (30, 30), (36, 36)]⟩,
   ⟨0x3000, 1, 0x22, 0x22, .u8, .rw, 1, [(0, 1)]⟩,
   ⟨0x3000, 1, 0x23, 0x23, .u8, .ro, 0, []⟩]

/-- Rows of 0x3010 to 0x30FF, part 0. -/
def objectRows3010p0 : List Row :=
  [⟨0x3010, 2, 0x01, 0x01, .u8, .rw, 0, [(0, 15)]⟩,
   ⟨0x3010, 2, 0x02, 0x02, .u16, .rw, 300, [(10, 2000)]⟩,
   ⟨0x3010, 2, 0x03, 0x03, .u16, .rw, 5, [(0, 2000)]⟩,
   ⟨0x3010, 2, 0x04, 0x04, .u16, .rw, 150, [(1, 2000)]⟩,
   ⟨0x3010, 2, 0x05, 0x05, .u16, .rw, 250, [(1, 2000)]⟩,
   ⟨0x3010, 2, 0x06, 0x06, .u16, .ro, 0, []⟩,
   ⟨0x3010, 2, 0x07, 0x07, .u8, .ro, 0, []⟩,
   ⟨0x3010, 2, 0x08, 0x08, .u8, .rw, 3, [(0, 10)]⟩,
   ⟨0x3010, 2, 0x09, 0x09, .u8, .cmd, 0, [(1, 1)]⟩,
   ⟨0x3010, 2, 0x0A, 0x0A, .u32, .ro, 0, []⟩,
   ⟨0x3020, 2, 0x01, 0x01, .u8, .rw, 0, [(0, 2)]⟩,
   ⟨0x3020, 2, 0x02, 0x02, .u16, .rw, 2000, [(500, 60000)]⟩,
   ⟨0x3020, 2, 0x03, 0x03, .u8, .rw, 20, [(5, 100)]⟩,
   ⟨0x3020, 2, 0x04, 0x04, .u8, .rw, 1, [(0, 2)]⟩,
   ⟨0x3020, 2, 0x05, 0x05, .i8, .rw, -40, [(-50, -30)]⟩,
   ⟨0x3020, 2, 0x06, 0x06, .u16, .rw, 0, [(0, 0), (768, 815)]⟩,
   ⟨0x3020, 2, 0x07, 0x07, .u8, .ro, 16, []⟩,
   ⟨0x3020, 2, 0x08, 0x08, .u32, .ro, 0, []⟩,
   ⟨0x3020, 2, 0x09, 0x09, .u32, .ro, 0, []⟩,
   ⟨0x3020, 2, 0x0A, 0x0A, .u32, .ro, 0, []⟩,
   ⟨0x3020, 2, 0x0B, 0x0B, .u32, .ro, 0, []⟩,
   ⟨0x3020, 2, 0x0C, 0x0C, .u32, .ro, 0, []⟩,
   ⟨0x3020, 2, 0x0D, 0x0D, .u8, .ro, 0, []⟩,
   ⟨0x3020, 2, 0x0E, 0x0E, .i16, .ro, 0, []⟩,
   ⟨0x3020, 2, 0x0F, 0x0F, .i16, .ro, 0, []⟩,
   ⟨0x3020, 2, 0x10, 0x10, .time64, .ro, 0, []⟩,
   ⟨0x3020, 2, 0x11, 0x11, .i16, .ro, 0, []⟩,
   ⟨0x3020, 2, 0x12, 0x12, .u8, .cmd, 0, [(1, 6)]⟩]

/-- Rows of 0x3010 to 0x30FF, part 1. -/
def objectRows3010p1 : List Row :=
  [⟨0x3020, 2, 0x13, 0x13, .u16, .ro, 0, []⟩,
   ⟨0x3020, 2, 0x14, 0x14, .u32, .rw, 153600, [(3840, 4294967295)]⟩,
   ⟨0x3020, 2, 0x15, 0x15, .u16, .rw, 0, [(0, 65535)]⟩,
   ⟨0x3024, 2, 0x01, 0x10, .u32, .ro, 0, []⟩,
   ⟨0x3026, 2, 0x01, 0x10, .u32, .ro, 0, []⟩,
   ⟨0x3028, 2, 0x01, 0x10, .u32, .rw, 0, []⟩,
   ⟨0x302A, 2, 0x01, 0x10, .u32, .ro, 0, []⟩]

/-- Rows of 0x3010 to 0x30FF. -/
def objectRows3010 : List Row :=
  objectRows3010p0 ++ objectRows3010p1

/-- Rows of 0x3100 to 0x3FFF, part 0. -/
def objectRows3100p0 : List Row :=
  [⟨0x3100, 32, 0x01, 0x01, .u8, .rws, 0, [(0, 1)]⟩,
   ⟨0x3100, 32, 0x02, 0x02, .u8, .rws, 0, [(0, 63)]⟩,
   ⟨0x3100, 32, 0x03, 0x03, .i32, .rws, 0, []⟩,
   ⟨0x3100, 32, 0x04, 0x04, .u8, .rws, 0, [(0, 8)]⟩,
   ⟨0x3100, 32, 0x05, 0x05, .u8, .rws, 0, []⟩,
   ⟨0x3100, 24, 0x06, 0x06, .u8, .rws, 1, [(1, 128)]⟩,
   ⟨0x3118, 8, 0x06, 0x06, .u8, .ro, 127, []⟩,
   ⟨0x3100, 32, 0x07, 0x07, .u8, .rws, 12, [(0, 15)]⟩,
   ⟨0x3100, 32, 0x08, 0x08, .u8, .cmd, 0, [(0, 15)]⟩,
   ⟨0x3100, 32, 0x09, 0x09, .u16, .rw, 256, [(16, 4096)]⟩,
   ⟨0x3100, 32, 0x0A, 0x0A, .u8, .cmd, 0, [(1, 1)]⟩,
   ⟨0x3100, 32, 0x0B, 0x0B, .u16, .rws, 1, [(1, 4096)]⟩,
   ⟨0x3100, 32, 0x0C, 0x0C, .u16, .rws, 1, [(1, 4096)]⟩,
   ⟨0x3100, 32, 0x0D, 0x0D, .u8, .rws, 0, [(0, 0), (6, 16)]⟩,
   ⟨0x3100, 32, 0x0E, 0x0E, .bool, .rw, 0, []⟩,
   ⟨0x3100, 32, 0x0F, 0x0F, .i8, .rws, 0, [(-24, -24), (-18, -18), (-12, -12), (-6, -6), (0, 0), (6, 6), (12, 12), (18, 18), (24, 24), (30, 30), (36, 36), (42, 42), (48, 48)]⟩,
   ⟨0x3100, 32, 0x10, 0x10, .u16, .rws, 0, [(0, 0), (16, 4096)]⟩,
   ⟨0x3100, 32, 0x11, 0x11, .u16, .rws, 256, [(16, 1024)]⟩,
   ⟨0x3100, 32, 0x12, 0x12, .u16, .rws, 65535, [(0, 0), (512, 523)]⟩,
   ⟨0x3120, 32, 0x01, 0x01, .f32, .ro, 0, []⟩,
   ⟨0x3120, 32, 0x02, 0x02, .u16, .rw, 0, []⟩,
   ⟨0x3120, 32, 0x03, 0x03, .u8, .ro, 255, []⟩,
   ⟨0x3120, 32, 0x04, 0x04, .u8, .ro, 255, []⟩,
   ⟨0x3120, 32, 0x05, 0x05, .u8, .ro, 0, []⟩,
   ⟨0x3120, 32, 0x06, 0x06, .u16, .ro, 0, []⟩,
   ⟨0x3120, 32, 0x07, 0x07, .u32, .ro, 0, []⟩,
   ⟨0x3120, 32, 0x08, 0x08, .u32, .ro, 0, []⟩,
   ⟨0x3120, 32, 0x09, 0x09, .u32, .ro, 0, []⟩,
   ⟨0x3120, 32, 0x0A, 0x0A, .i32, .ro, 0, []⟩]

/-- Rows of 0x3100 to 0x3FFF, part 1. -/
def objectRows3100p1 : List Row :=
  [⟨0x3120, 32, 0x0B, 0x0B, .u8, .ro, 0, []⟩,
   ⟨0x3120, 32, 0x0C, 0x0C, .u32, .ro, 0, []⟩,
   ⟨0x3140, 32, 0x00, 0x00, .dom 8 1024, .rws, 0, []⟩,
   ⟨0x3160, 32, 0x01, 0x01, .u8, .rw, 0, [(0, 2)]⟩,
   ⟨0x3160, 32, 0x02, 0x02, .i32, .rw, 0, []⟩,
   ⟨0x3160, 32, 0x03, 0x03, .u16, .rw, 1024, [(16, 65535)]⟩,
   ⟨0x3160, 32, 0x04, 0x04, .oct 24 24, .res, 0, []⟩]

/-- Rows of 0x3100 to 0x3FFF. -/
def objectRows3100 : List Row :=
  objectRows3100p0 ++ objectRows3100p1

/-- Rows of 0x4100 to 0x41FF, part 0. -/
def objectRows4100p0 : List Row :=
  [⟨0x4100, 12, 0x01, 0x01, .u8, .rws, 2, [(0, 2)]⟩,
   ⟨0x4100, 12, 0x02, 0x02, .u8, .rw, 0, [(0, 2)]⟩,
   ⟨0x4100, 12, 0x03, 0x03, .u8, .rw, 1, [(0, 1)]⟩,
   ⟨0x4100, 12, 0x04, 0x04, .u8, .rws, 1, [(0, 1)]⟩,
   ⟨0x4100, 12, 0x05, 0x05, .i16, .rw, -1100, [(-1400, -400)]⟩,
   ⟨0x4100, 12, 0x06, 0x06, .u8, .rw, 20, [(0, 40)]⟩,
   ⟨0x4100, 12, 0x07, 0x07, .i16, .rw, -900, [(-1400, -400)]⟩,
   ⟨0x4100, 12, 0x08, 0x08, .i16, .rw, -1050, [(-1400, -400)]⟩,
   ⟨0x4100, 12, 0x09, 0x09, .i16, .rw, -700, [(-1400, -400)]⟩,
   ⟨0x4100, 12, 0x0A, 0x0A, .i16, .rw, -850, [(-1400, -400)]⟩,
   ⟨0x4100, 12, 0x0B, 0x0B, .u8, .rw, 8, [(0, 32)]⟩,
   ⟨0x4100, 12, 0x0C, 0x0C, .u8, .rw, 8, [(0, 32)]⟩,
   ⟨0x4100, 12, 0x0D, 0x0D, .u16, .rw, 20, [(1, 500)]⟩,
   ⟨0x4100, 12, 0x0E, 0x0E, .u16, .rw, 500, [(10, 10000)]⟩,
   ⟨0x4100, 12, 0x0F, 0x0F, .u8, .rw, 1, [(0, 1)]⟩,
   ⟨0x4120, 12, 0x01, 0x01, .i16, .ro, -1400, []⟩,
   ⟨0x4120, 12, 0x02, 0x02, .i16, .ro, -1400, []⟩,
   ⟨0x4120, 12, 0x03, 0x03, .i16, .ro, 0, []⟩,
   ⟨0x4120, 12, 0x04, 0x04, .u8, .ro, 0, []⟩,
   ⟨0x4120, 12, 0x05, 0x05, .i16, .ro, 0, []⟩,
   ⟨0x4120, 12, 0x06, 0x06, .u16, .ro, 0, []⟩,
   ⟨0x4120, 12, 0x07, 0x07, .bool, .ro, 0, []⟩,
   ⟨0x4120, 12, 0x08, 0x08, .u8, .ro, 0, []⟩,
   ⟨0x4120, 12, 0x09, 0x09, .u16, .ro, 15000, []⟩,
   ⟨0x4120, 12, 0x0A, 0x0A, .u8, .ro, 0, []⟩,
   ⟨0x4120, 12, 0x0B, 0x0B, .i16, .ro, -1400, []⟩,
   ⟨0x4120, 12, 0x0C, 0x0C, .u8, .ro, 0, []⟩,
   ⟨0x4120, 12, 0x0D, 0x0D, .i16, .ro, 32767, []⟩]

/-- Rows of 0x4100 to 0x41FF, part 1. -/
def objectRows4100p1 : List Row :=
  [⟨0x4120, 12, 0x0E, 0x0E, .u32, .ro, 0, []⟩,
   ⟨0x4120, 12, 0x0F, 0x0F, .u32, .ro, 0, []⟩,
   ⟨0x4120, 12, 0x10, 0x10, .oct 32 32, .res, 0, []⟩]

/-- Rows of 0x4100 to 0x41FF. -/
def objectRows4100 : List Row :=
  objectRows4100p0 ++ objectRows4100p1

/-- Rows of 0x4200 to 0x42FF, part 0. -/
def objectRows4200p0 : List Row :=
  [⟨0x4200, 12, 0x01, 0x01, .bool, .rw, 1, []⟩,
   ⟨0x4200, 12, 0x02, 0x02, .u8, .rw, 0, [(0, 1)]⟩,
   ⟨0x4200, 12, 0x03, 0x03, .u8, .rw, 2, [(0, 2)]⟩,
   ⟨0x4200, 12, 0x04, 0x04, .u32, .rw, 4294967295, []⟩,
   ⟨0x4200, 12, 0x05, 0x05, .bool, .rw, 0, []⟩,
   ⟨0x4200, 12, 0x06, 0x06, .bool, .ro, 0, []⟩,
   ⟨0x4200, 12, 0x07, 0x07, .u8, .ro, 100, []⟩,
   ⟨0x4200, 12, 0x08, 0x08, .u32, .ro, 0, []⟩,
   ⟨0x4200, 12, 0x09, 0x09, .u32, .ro, 0, []⟩,
   ⟨0x4200, 12, 0x0A, 0x0A, .u32, .ro, 0, []⟩,
   ⟨0x4220, 12, 0x01, 0x01, .oct 20 20, .ro, 0, []⟩,
   ⟨0x4220, 12, 0x02, 0x02, .u8, .ro, 0, []⟩,
   ⟨0x4240, 12, 0x01, 0x01, .u16, .ro, 0, []⟩,
   ⟨0x4240, 12, 0x02, 0x02, .u8, .ro, 0, []⟩,
   ⟨0x4240, 12, 0x03, 0x03, .str 0 8, .ro, 0, []⟩,
   ⟨0x4240, 12, 0x04, 0x04, .u8, .ro, 0, []⟩,
   ⟨0x4240, 12, 0x05, 0x05, .u8, .ro, 0, []⟩,
   ⟨0x4240, 12, 0x06, 0x06, .str 0 64, .ro, 0, []⟩,
   ⟨0x4240, 12, 0x07, 0x07, .u8, .ro, 0, []⟩,
   ⟨0x4240, 12, 0x08, 0x08, .u8, .ro, 0, []⟩,
   ⟨0x4280, 1, 0x01, 0x01, .u16, .rw, 0, []⟩,
   ⟨0x4280, 1, 0x02, 0x02, .u8, .ro, 0, []⟩,
   ⟨0x4280, 1, 0x03, 0x03, .u8, .ro, 0, []⟩,
   ⟨0x4280, 1, 0x04, 0x04, .u16, .ro, 0, []⟩,
   ⟨0x4280, 1, 0x05, 0x05, .u16, .ro, 0, []⟩,
   ⟨0x4280, 1, 0x06, 0x06, .oct 22 46, .ro, 0, []⟩,
   ⟨0x4280, 1, 0x07, 0x07, .u32, .ro, 0, []⟩,
   ⟨0x4280, 1, 0x08, 0x08, .u32, .ro, 0, []⟩]

/-- Rows of 0x4200 to 0x42FF, part 1. -/
def objectRows4200p1 : List Row :=
  [⟨0x4280, 1, 0x09, 0x09, .u32, .ro, 0, []⟩]

/-- Rows of 0x4200 to 0x42FF. -/
def objectRows4200 : List Row :=
  objectRows4200p0 ++ objectRows4200p1

/-- Rows of 0x4300 to 0x43FF. -/
def objectRows4300 : List Row :=
  [⟨0x4300, 1, 0x01, 0x01, .u8, .rws, 0, [(0, 1)]⟩,
   ⟨0x4300, 1, 0x02, 0x02, .u8, .rws, 4, [(0, 63)]⟩,
   ⟨0x4300, 1, 0x03, 0x03, .u8, .rws, 3, [(1, 3)]⟩,
   ⟨0x4300, 1, 0x04, 0x04, .u32, .rws, 76000, [(30000, 1000000)]⟩,
   ⟨0x4300, 1, 0x05, 0x05, .u32, .rws, 108000, [(30000, 1000000)]⟩,
   ⟨0x4300, 1, 0x06, 0x06, .u8, .rws, 100, [(50, 50), (100, 100)]⟩,
   ⟨0x4300, 1, 0x07, 0x07, .u8, .rw, 0, [(0, 1)]⟩,
   ⟨0x4300, 1, 0x08, 0x08, .i16, .rw, -1050, [(-1300, -500)]⟩,
   ⟨0x4300, 1, 0x09, 0x09, .u16, .rw, 255, []⟩,
   ⟨0x4300, 1, 0x0A, 0x0A, .u8, .cmd, 0, [(1, 2)]⟩,
   ⟨0x4300, 1, 0x10, 0x10, .u16, .ro, 0, []⟩,
   ⟨0x4300, 1, 0x11, 0x11, .u16, .ro, 0, []⟩,
   ⟨0x4300, 1, 0x12, 0x12, .u16, .ro, 0, []⟩,
   ⟨0x4300, 1, 0x13, 0x13, .u16, .ro, 0, []⟩,
   ⟨0x4300, 1, 0x14, 0x14, .u16, .ro, 0, []⟩,
   ⟨0x4300, 1, 0x15, 0x15, .u32, .ro, 0, []⟩,
   ⟨0x4300, 1, 0x16, 0x16, .u32, .ro, 0, []⟩,
   ⟨0x4302, 1, 0x01, 0x01, .bool, .rw, 0, []⟩,
   ⟨0x4302, 1, 0x02, 0x02, .u32, .rw, 805372247, []⟩,
   ⟨0x4302, 1, 0x03, 0x03, .bool, .rw, 0, []⟩,
   ⟨0x4302, 1, 0x04, 0x04, .bool, .rw, 1, []⟩,
   ⟨0x4302, 1, 0x05, 0x05, .u32, .ro, 0, []⟩,
   ⟨0x4302, 1, 0x06, 0x06, .u32, .ro, 0, []⟩,
   ⟨0x4310, 1, 0x01, 0x01, .u16, .rw, 0, []⟩,
   ⟨0x4310, 1, 0x02, 0x02, .oct 98 98, .res, 0, []⟩,
   ⟨0x4320, 1, 0x01, 0x01, .dom 0 4294967295, .ro, 0, []⟩,
   ⟨0x4340, 1, 0x01, 0x80, .oct 96 96, .ro, 0, []⟩,
   ⟨0x4341, 1, 0x01, 0x80, .oct 96 96, .ro, 0, []⟩]

/-- Rows of 0x4400 to 0x44FF, part 0. -/
def objectRows4400p0 : List Row :=
  [⟨0x4400, 12, 0x01, 0x01, .u8, .ro, 0, []⟩,
   ⟨0x4400, 12, 0x02, 0x02, .bool, .ro, 0, []⟩,
   ⟨0x4400, 12, 0x03, 0x03, .time64, .ro, 0, []⟩,
   ⟨0x4400, 12, 0x04, 0x04, .i32, .ro, 0, []⟩,
   ⟨0x4400, 12, 0x05, 0x05, .u16, .ro, 0, []⟩,
   ⟨0x4400, 12, 0x06, 0x06, .u16, .ro, 0, []⟩,
   ⟨0x4400, 12, 0x07, 0x07, .u16, .ro, 65535, []⟩,
   ⟨0x4400, 12, 0x08, 0x08, .u32, .ro, 0, []⟩,
   ⟨0x4400, 12, 0x09, 0x09, .u32, .ro, 0, []⟩,
   ⟨0x4400, 12, 0x0A, 0x0A, .u16, .rw, 3000, [(500, 30000)]⟩,
   ⟨0x4410, 12, 0x01, 0x01, .i16, .ro, -1400, []⟩,
   ⟨0x4410, 12, 0x02, 0x02, .i16, .ro, 0, []⟩,
   ⟨0x4410, 12, 0x03, 0x03, .u32, .ro, 0, []⟩,
   ⟨0x4410, 12, 0x04, 0x04, .u8, .ro, 100, []⟩,
   ⟨0x4410, 12, 0x05, 0x05, .u32, .ro, 0, []⟩,
   ⟨0x4410, 12, 0x06, 0x06, .i16, .ro, 0, []⟩,
   ⟨0x4410, 12, 0x07, 0x07, .u32, .ro, 0, []⟩,
   ⟨0x4410, 12, 0x08, 0x08, .u32, .ro, 0, []⟩,
   ⟨0x4410, 12, 0x09, 0x09, .oct 28 28, .res, 0, []⟩,
   ⟨0x4420, 12, 0x01, 0x01, .dom 0 4294967295, .ro, 0, []⟩,
   ⟨0x4420, 12, 0x02, 0x02, .u32, .ro, 0, []⟩,
   ⟨0x4430, 12, 0x01, 0x01, .oct 42 42, .ro, 0, []⟩,
   ⟨0x4430, 12, 0x02, 0x02, .u32, .rw, 0, []⟩,
   ⟨0x4430, 12, 0x03, 0x03, .u8, .rw, 0, []⟩,
   ⟨0x4430, 12, 0x04, 0x04, .u8, .ro, 0, []⟩,
   ⟨0x4430, 12, 0x05, 0x05, .u32, .ro, 0, []⟩,
   ⟨0x4440, 12, 0x01, 0x01, .dom 0 4294967295, .ro, 0, []⟩,
   ⟨0x4450, 12, 0x01, 0x08, .u32, .rw, 0, []⟩]

/-- Rows of 0x4400 to 0x44FF, part 1. -/
def objectRows4400p1 : List Row :=
  [⟨0x4450, 12, 0x09, 0x09, .dom 0 4294967295, .ro, 0, []⟩,
   ⟨0x4450, 12, 0x0A, 0x0A, .u32, .ro, 0, []⟩,
   ⟨0x4450, 12, 0x0B, 0x0B, .u32, .ro, 0, []⟩,
   ⟨0x4450, 12, 0x0C, 0x0C, .u32, .ro, 0, []⟩,
   ⟨0x4480, 12, 0x01, 0x01, .u16, .rws, 65535, [(512, 523)]⟩,
   ⟨0x4480, 12, 0x02, 0x02, .u32, .rw, 0, []⟩,
   ⟨0x4480, 12, 0x03, 0x03, .u8, .rw, 0, [(0, 15)]⟩,
   ⟨0x4480, 12, 0x04, 0x04, .u32, .rw, 0, []⟩,
   ⟨0x4480, 12, 0x05, 0x05, .u8, .rw, 0, [(0, 15)]⟩,
   ⟨0x4480, 12, 0x06, 0x06, .u8, .ro, 0, []⟩,
   ⟨0x4480, 12, 0x07, 0x07, .u8, .ro, 0, []⟩,
   ⟨0x4480, 12, 0x08, 0x08, .u8, .ro, 0, []⟩,
   ⟨0x4480, 12, 0x09, 0x09, .u8, .ro, 0, []⟩,
   ⟨0x4480, 12, 0x0A, 0x0A, .u32, .ro, 0, []⟩,
   ⟨0x4480, 12, 0x0B, 0x0B, .u32, .ro, 0, []⟩,
   ⟨0x4480, 12, 0x0C, 0x0C, .u32, .ro, 0, []⟩,
   ⟨0x4480, 12, 0x0D, 0x0D, .u8, .rw, 3, []⟩,
   ⟨0x44A0, 12, 0x01, 0x01, .dom 0 4294967295, .ro, 0, []⟩,
   ⟨0x44A0, 12, 0x02, 0x02, .u32, .ro, 0, []⟩,
   ⟨0x44C0, 12, 0x01, 0x01, .u16, .rw, 65535, []⟩,
   ⟨0x44C0, 12, 0x02, 0x02, .dom 0 4294967295, .ro, 0, []⟩]

/-- Rows of 0x4400 to 0x44FF. -/
def objectRows4400 : List Row :=
  objectRows4400p0 ++ objectRows4400p1

/-- Rows of 0x4600 to 0x46FF. -/
def objectRows4600 : List Row :=
  [⟨0x4600, 12, 0x01, 0x01, .u8, .rw, 1, [(0, 3)]⟩,
   ⟨0x4600, 12, 0x02, 0x02, .u8, .rw, 1, [(0, 1)]⟩,
   ⟨0x4600, 12, 0x03, 0x03, .u16, .rw, 4500, [(2000, 2000), (2500, 2500), (3000, 3000), (3500, 3500), (4000, 4000), (4500, 4500), (5000, 5000), (5500, 5500), (6000, 6000), (6500, 6500), (7000, 7000), (7500, 7500), (8000, 8000), (8500, 8500), (9000, 9000), (9500, 9500), (10000, 10000)]⟩,
   ⟨0x4600, 12, 0x04, 0x04, .u8, .rw, 9, [(9, 9), (10, 10)]⟩,
   ⟨0x4600, 12, 0x05, 0x05, .bool, .rw, 1, []⟩,
   ⟨0x4600, 12, 0x06, 0x06, .u8, .rw, 12, [(6, 30)]⟩,
   ⟨0x4600, 12, 0x07, 0x07, .i16, .rw, 300, [(0, 800)]⟩,
   ⟨0x4600, 12, 0x08, 0x08, .u8, .rw, 20, [(0, 40)]⟩,
   ⟨0x4600, 12, 0x09, 0x09, .u8, .rw, 1, [(0, 1)]⟩,
   ⟨0x4620, 12, 0x01, 0x01, .i16, .ro, 0, []⟩,
   ⟨0x4620, 12, 0x02, 0x02, .i16, .ro, 0, []⟩,
   ⟨0x4620, 12, 0x03, 0x03, .u8, .ro, 0, []⟩,
   ⟨0x4620, 12, 0x04, 0x04, .i16, .ro, -1000, []⟩,
   ⟨0x4620, 12, 0x05, 0x05, .i16, .ro, -1000, []⟩,
   ⟨0x4620, 12, 0x06, 0x06, .u16, .ro, 3000, []⟩,
   ⟨0x4620, 12, 0x07, 0x07, .u8, .ro, 20, []⟩,
   ⟨0x4620, 12, 0x08, 0x08, .bool, .ro, 0, []⟩,
   ⟨0x4620, 12, 0x09, 0x09, .u32, .ro, 0, []⟩,
   ⟨0x4620, 12, 0x0A, 0x0A, .u32, .ro, 0, []⟩,
   ⟨0x4620, 12, 0x0B, 0x0B, .oct 24 24, .res, 0, []⟩]

/-- Rows of 0x4700 to 0x47FF, part 0. -/
def objectRows4700p0 : List Row :=
  [⟨0x4700, 12, 0x01, 0x01, .u8, .ro, 0, []⟩,
   ⟨0x4700, 12, 0x02, 0x02, .u8, .rws, 0, [(0, 4)]⟩,
   ⟨0x4700, 12, 0x03, 0x03, .u8, .ro, 0, []⟩,
   ⟨0x4700, 12, 0x04, 0x04, .u8, .ro, 255, []⟩,
   ⟨0x4700, 12, 0x05, 0x05, .u8, .ro, 0, []⟩,
   ⟨0x4700, 12, 0x06, 0x06, .i32, .ro, 0, []⟩,
   ⟨0x4700, 12, 0x07, 0x07, .u16, .rw, 5000, [(1000, 30000)]⟩,
   ⟨0x4700, 12, 0x08, 0x08, .u32, .ro, 0, []⟩,
   ⟨0x4700, 12, 0x09, 0x09, .u32, .ro, 0, []⟩,
   ⟨0x4700, 12, 0x0A, 0x0A, .time64, .ro, 0, []⟩,
   ⟨0x4710, 12, 0x01, 0x01, .i16, .ro, 0, []⟩,
   ⟨0x4710, 12, 0x02, 0x02, .i16, .ro, 0, []⟩,
   ⟨0x4710, 12, 0x03, 0x03, .i16, .ro, 0, []⟩,
   ⟨0x4710, 12, 0x04, 0x04, .u8, .ro, 100, []⟩,
   ⟨0x4710, 12, 0x05, 0x05, .u8, .ro, 100, []⟩,
   ⟨0x4710, 12, 0x06, 0x06, .u32, .ro, 0, []⟩,
   ⟨0x4710, 12, 0x07, 0x07, .u16, .ro, 0, []⟩,
   ⟨0x4710, 12, 0x08, 0x08, .u16, .ro, 0, []⟩,
   ⟨0x4710, 12, 0x09, 0x09, .oct 24 24, .res, 0, []⟩,
   ⟨0x4720, 12, 0x01, 0x01, .dom 0 4294967295, .ro, 0, []⟩,
   ⟨0x4730, 12, 0x01, 0x01, .dom 0 4294967295, .ro, 0, []⟩,
   ⟨0x4730, 12, 0x02, 0x02, .u32, .ro, 0, []⟩,
   ⟨0x4740, 12, 0x01, 0x01, .dom 0 4294967295, .ro, 0, []⟩,
   ⟨0x4740, 12, 0x02, 0x03, .u32, .ro, 0, []⟩,
   ⟨0x4780, 12, 0x01, 0x01, .u16, .rws, 65535, [(512, 523)]⟩,
   ⟨0x4780, 12, 0x02, 0x02, .u32, .rw, 0, [(0, 16777215)]⟩,
   ⟨0x4780, 12, 0x03, 0x03, .u8, .ro, 0, []⟩,
   ⟨0x4780, 12, 0x04, 0x04, .u8, .ro, 0, []⟩]

/-- Rows of 0x4700 to 0x47FF, part 1. -/
def objectRows4700p1 : List Row :=
  [⟨0x4780, 12, 0x05, 0x05, .u32, .ro, 0, []⟩,
   ⟨0x4780, 12, 0x06, 0x06, .str 0 128, .ro, 0, []⟩,
   ⟨0x4780, 12, 0x07, 0x07, .u16, .ro, 0, []⟩]

/-- Rows of 0x4700 to 0x47FF. -/
def objectRows4700 : List Row :=
  objectRows4700p0 ++ objectRows4700p1

/-- Rows of 0x4800 to 0x48FF. -/
def objectRows4800 : List Row :=
  [⟨0x4800, 1, 0x01, 0x01, .u8, .rw, 2, [(0, 2)]⟩,
   ⟨0x4800, 1, 0x02, 0x02, .u32, .ro, 0, []⟩,
   ⟨0x4800, 1, 0x03, 0x03, .u8, .ro, 255, []⟩,
   ⟨0x4800, 1, 0x04, 0x04, .u16, .rw, 65535, [(512, 523), (65535, 65535)]⟩,
   ⟨0x4800, 1, 0x05, 0x05, .u16, .rw, 65535, [(512, 523), (65535, 65535)]⟩,
   ⟨0x4800, 1, 0x06, 0x06, .u16, .rw, 65535, [(512, 523), (65535, 65535)]⟩,
   ⟨0x4800, 1, 0x07, 0x07, .u16, .rw, 65535, [(512, 523), (65535, 65535)]⟩,
   ⟨0x4800, 1, 0x08, 0x08, .u8, .rw, 6, [(1, 20)]⟩,
   ⟨0x4800, 1, 0x09, 0x09, .u16, .rw, 2000, [(500, 30000)]⟩,
   ⟨0x4800, 1, 0x0A, 0x0A, .i16, .rw, -1000, [(-1300, -500)]⟩,
   ⟨0x4800, 1, 0x0B, 0x0B, .u16, .rw, 5000, [(1000, 60000)]⟩,
   ⟨0x4800, 1, 0x0C, 0x0C, .u16, .rw, 5000, [(0, 60000)]⟩,
   ⟨0x4800, 1, 0x0D, 0x0D, .u8, .rw, 1, [(0, 1)]⟩,
   ⟨0x4800, 1, 0x0E, 0x0E, .dom 0 4294967295, .ro, 0, []⟩,
   ⟨0x4800, 1, 0x0F, 0x0F, .u32, .ro, 0, []⟩,
   ⟨0x4800, 1, 0x10, 0x10, .u32, .ro, 0, []⟩,
   ⟨0x4800, 1, 0x11, 0x11, .u32, .ro, 0, []⟩,
   ⟨0x4800, 1, 0x12, 0x12, .time64, .ro, 0, []⟩,
   ⟨0x4802, 1, 0x01, 0x01, .dom 0 256, .rw, 0, []⟩]

/-- Rows of 0x4900 to 0x4FFF, part 0. -/
def objectRows4900p0 : List Row :=
  [⟨0x4900, 1, 0x01, 0x01, .bool, .rw, 0, []⟩,
   ⟨0x4900, 1, 0x02, 0x04, .u32, .rw, 0, []⟩,
   ⟨0x4900, 1, 0x05, 0x05, .u8, .rw, 0, [(0, 2)]⟩,
   ⟨0x4900, 1, 0x06, 0x06, .u8, .cmd, 0, [(0, 2)]⟩,
   ⟨0x4900, 1, 0x07, 0x07, .u8, .cmd, 0, [(1, 1)]⟩,
   ⟨0x4900, 1, 0x08, 0x08, .u8, .rw, 1, [(0, 2)]⟩,
   ⟨0x4900, 1, 0x09, 0x09, .u16, .rw, 200, [(20, 5000)]⟩,
   ⟨0x4900, 1, 0x0A, 0x0A, .u16, .rw, 2000, [(20, 5000)]⟩,
   ⟨0x4900, 1, 0x0B, 0x0B, .dom 512 512, .rw, 0, []⟩,
   ⟨0x4900, 1, 0x0C, 0x0C, .u16, .rw, 250, [(0, 500)]⟩,
   ⟨0x4900, 1, 0x0D, 0x0D, .u8, .rw, 0, [(0, 1)]⟩,
   ⟨0x4900, 1, 0x0E, 0x0E, .u8, .rw, 1, [(0, 1)]⟩,
   ⟨0x4900, 1, 0x0F, 0x0F, .u8, .rw, 0, [(0, 1)]⟩,
   ⟨0x4900, 1, 0x10, 0x10, .u8, .ro, 0, []⟩,
   ⟨0x4900, 1, 0x11, 0x11, .u32, .ro, 0, []⟩,
   ⟨0x4900, 1, 0x12, 0x12, .u8, .ro, 0, []⟩,
   ⟨0x4900, 1, 0x13, 0x13, .u16, .ro, 0, []⟩,
   ⟨0x4900, 1, 0x14, 0x14, .u8, .ro, 255, []⟩,
   ⟨0x4900, 1, 0x15, 0x15, .u32, .ro, 0, []⟩,
   ⟨0x4900, 1, 0x16, 0x16, .u32, .ro, 0, []⟩,
   ⟨0x4900, 1, 0x17, 0x17, .u32, .ro, 0, []⟩,
   ⟨0x4910, 3, 0x01, 0x01, .u8, .ro, 0, []⟩,
   ⟨0x4910, 3, 0x02, 0x02, .i32, .ro, 0, []⟩,
   ⟨0x4910, 3, 0x03, 0x03, .u32, .ro, 0, []⟩,
   ⟨0x4910, 3, 0x04, 0x04, .u8, .ro, 0, []⟩,
   ⟨0x4910, 3, 0x05, 0x05, .u16, .ro, 0, []⟩,
   ⟨0x4910, 3, 0x06, 0x06, .i16, .ro, 0, []⟩,
   ⟨0x4910, 3, 0x07, 0x07, .u8, .ro, 0, []⟩]

/-- Rows of 0x4900 to 0x4FFF, part 1. -/
def objectRows4900p1 : List Row :=
  [⟨0x4910, 3, 0x08, 0x08, .u8, .ro, 255, []⟩,
   ⟨0x4910, 3, 0x09, 0x09, .u8, .cmd, 0, [(0, 1)]⟩,
   ⟨0x4910, 3, 0x0A, 0x0A, .oct 40 40, .rw, 0, []⟩,
   ⟨0x4910, 3, 0x0B, 0x0B, .oct 40 40, .rw, 0, []⟩,
   ⟨0x4910, 3, 0x0C, 0x0C, .u16, .rw, 200, [(20, 5000)]⟩,
   ⟨0x4910, 3, 0x0D, 0x0D, .oct 16 16, .res, 0, []⟩]

/-- Rows of 0x4900 to 0x4FFF. -/
def objectRows4900 : List Row :=
  objectRows4900p0 ++ objectRows4900p1

/-- Rows of 0x5000 to 0x5FFF, part 0. -/
def objectRows5000p0 : List Row :=
  [⟨0x5000, 4, 0x01, 0x01, .u8, .rws, 0, [(0, 2)]⟩,
   ⟨0x5000, 4, 0x02, 0x02, .u8, .rws, 2, [(2, 2), (4, 4), (8, 8)]⟩,
   ⟨0x5000, 4, 0x03, 0x03, .u8, .rws, 32, [(16, 16), (24, 24), (32, 32)]⟩,
   ⟨0x5000, 4, 0x04, 0x04, .u8, .rws, 24, [(16, 16), (24, 24)]⟩,
   ⟨0x5000, 4, 0x05, 0x05, .u8, .rws, 0, []⟩,
   ⟨0x5000, 4, 0x06, 0x06, .u8, .rws, 1, [(0, 1)]⟩,
   ⟨0x5000, 4, 0x07, 0x07, .u16, .rw, 200, [(10, 10000)]⟩,
   ⟨0x5000, 4, 0x08, 0x0B, .u32, .rw, 0, []⟩,
   ⟨0x5004, 1, 0x01, 0x01, .u16, .rws, 256, [(128, 128), (256, 256), (512, 512)]⟩,
   ⟨0x5004, 1, 0x06, 0x06, .u8, .rws, 1, [(0, 1)]⟩,
   ⟨0x5004, 1, 0x07, 0x07, .u16, .rw, 200, [(10, 10000)]⟩,
   ⟨0x5004, 1, 0x08, 0x08, .u32, .rw, 0, []⟩,
   ⟨0x5004, 1, 0x10, 0x10, .oct 24 24, .rw, 0, []⟩,
   ⟨0x5004, 1, 0x11, 0x11, .u8, .rw, 1, [(0, 1)]⟩,
   ⟨0x5004, 1, 0x12, 0x12, .u8, .rw, 0, [(0, 3)]⟩,
   ⟨0x5004, 1, 0x13, 0x13, .str 0 64, .rw, 0, []⟩,
   ⟨0x5004, 1, 0x14, 0x14, .str 0 128, .rw, 0, []⟩,
   ⟨0x5004, 1, 0x15, 0x15, .u8, .rw, 3, [(2, 3)]⟩,
   ⟨0x5020, 5, 0x01, 0x01, .u8, .ro, 0, []⟩,
   ⟨0x5020, 5, 0x02, 0x02, .u32, .ro, 0, []⟩,
   ⟨0x5020, 5, 0x03, 0x03, .u32, .ro, 0, []⟩,
   ⟨0x5020, 5, 0x04, 0x04, .u64, .ro, 0, []⟩,
   ⟨0x5020, 5, 0x05, 0x05, .i32, .ro, 0, []⟩,
   ⟨0x5020, 5, 0x06, 0x06, .u16, .ro, 0, []⟩,
   ⟨0x5020, 5, 0x07, 0x07, .u64, .ro, 0, []⟩,
   ⟨0x5020, 5, 0x08, 0x08, .u32, .ro, 0, []⟩,
   ⟨0x5020, 5, 0x09, 0x09, .u32, .ro, 0, []⟩,
   ⟨0x5020, 5, 0x0A, 0x0A, .u32, .ro, 0, []⟩]

/-- Rows of 0x5000 to 0x5FFF, part 1. -/
def objectRows5000p1 : List Row :=
  [⟨0x5020, 5, 0x0B, 0x0B, .u32, .ro, 0, []⟩,
   ⟨0x5020, 5, 0x0C, 0x0C, .u32, .ro, 0, []⟩,
   ⟨0x5020, 5, 0x0D, 0x0D, .u32, .ro, 0, []⟩,
   ⟨0x5020, 5, 0x0E, 0x0E, .u8, .rw, 0, []⟩,
   ⟨0x5020, 5, 0x0F, 0x0F, .time64, .ro, 0, []⟩,
   ⟨0x5020, 5, 0x10, 0x10, .u8, .ro, 0, []⟩]

/-- Rows of 0x5000 to 0x5FFF. -/
def objectRows5000 : List Row :=
  objectRows5000p0 ++ objectRows5000p1

/-- Rows of 0x6000 to 0x601F, part 0. -/
def objectRows6000p0 : List Row :=
  [⟨0x6000, 1, 0x01, 0x01, .u8, .rws, 0, [(0, 3)]⟩,
   ⟨0x6000, 1, 0x02, 0x02, .u8, .rws, 1, [(0, 1)]⟩,
   ⟨0x6000, 1, 0x03, 0x03, .u8, .rws, 1, [(0, 1)]⟩,
   ⟨0x6000, 1, 0x04, 0x04, .bool, .rws, 0, []⟩,
   ⟨0x6000, 1, 0x05, 0x05, .bool, .rws, 1, []⟩,
   ⟨0x6000, 1, 0x06, 0x06, .u16, .rws, 8, [(4, 1000)]⟩,
   ⟨0x6000, 1, 0x07, 0x07, .u8, .rws, 4, [(2, 2), (4, 4)]⟩,
   ⟨0x6000, 1, 0x08, 0x08, .i16, .rw, 0, [(-100, 100)]⟩,
   ⟨0x6000, 1, 0x09, 0x09, .i8, .rw, 79, [(0, 79)]⟩,
   ⟨0x6000, 1, 0x0A, 0x0A, .u16, .rw, 307, [(0, 15360)]⟩,
   ⟨0x6001, 1, 0x01, 0x01, .u8, .ro, 0, []⟩,
   ⟨0x6001, 1, 0x02, 0x02, .u32, .ro, 0, []⟩,
   ⟨0x6001, 1, 0x03, 0x03, .u8, .ro, 0, []⟩,
   ⟨0x6001, 1, 0x04, 0x04, .u8, .ro, 0, []⟩,
   ⟨0x6001, 1, 0x05, 0x05, .u32, .ro, 0, []⟩,
   ⟨0x6001, 1, 0x06, 0x06, .u32, .ro, 0, []⟩,
   ⟨0x6001, 1, 0x07, 0x07, .u32, .ro, 0, []⟩,
   ⟨0x6001, 1, 0x08, 0x08, .u32, .ro, 0, []⟩,
   ⟨0x6001, 1, 0x09, 0x09, .u32, .ro, 0, []⟩,
   ⟨0x6001, 1, 0x0A, 0x0A, .u32, .ro, 0, []⟩,
   ⟨0x6001, 1, 0x0B, 0x0B, .u32, .ro, 0, []⟩,
   ⟨0x6001, 1, 0x0C, 0x0E, .u32, .ro, 0, []⟩,
   ⟨0x6001, 1, 0x0F, 0x0F, .u32, .ro, 0, []⟩,
   ⟨0x6001, 1, 0x10, 0x10, .oct 8 8, .cmd, 0, []⟩,
   ⟨0x6001, 1, 0x11, 0x11, .oct 16 16, .res, 0, []⟩,
   ⟨0x6002, 1, 0x01, 0x01, .u8, .ro, 1, []⟩,
   ⟨0x6002, 1, 0x02, 0x02, .u32, .ro, 0, []⟩,
   ⟨0x6002, 1, 0x03, 0x03, .u32, .ro, 0, []⟩]

/-- Rows of 0x6000 to 0x601F, part 1. -/
def objectRows6000p1 : List Row :=
  [⟨0x6002, 1, 0x04, 0x04, .u8, .ro, 0, []⟩,
   ⟨0x6002, 1, 0x05, 0x08, .time64, .ro, 0, []⟩,
   ⟨0x6003, 1, 0x01, 0x50, .u32, .ro, 0, []⟩,
   ⟨0x6004, 1, 0x01, 0x50, .u32, .ro, 0, []⟩,
   ⟨0x6010, 1, 0x01, 0x01, .bool, .rw, 0, []⟩,
   ⟨0x6010, 1, 0x02, 0x02, .u8, .rw, 1, [(0, 1)]⟩,
   ⟨0x6010, 1, 0x03, 0x03, .u16, .rw, 0, [(1, 65534)]⟩,
   ⟨0x6010, 1, 0x04, 0x04, .u16, .rw, 0, [(0, 65534)]⟩,
   ⟨0x6010, 1, 0x05, 0x05, .bool, .rw, 1, []⟩,
   ⟨0x6010, 1, 0x06, 0x06, .u8, .ro, 0, []⟩,
   ⟨0x6010, 1, 0x07, 0x07, .u32, .ro, 0, []⟩,
   ⟨0x6010, 1, 0x08, 0x08, .u32, .ro, 0, []⟩,
   ⟨0x6010, 1, 0x09, 0x09, .u32, .ro, 0, []⟩,
   ⟨0x6010, 1, 0x0A, 0x0A, .u32, .ro, 0, []⟩,
   ⟨0x6011, 1, 0x01, 0x01, .oct 8 8, .cmd, 0, []⟩,
   ⟨0x6011, 1, 0x02, 0x02, .oct 16 16, .res, 0, []⟩,
   ⟨0x6011, 1, 0x03, 0x03, .u8, .ro, 0, []⟩]

/-- Rows of 0x6000 to 0x601F. -/
def objectRows6000 : List Row :=
  objectRows6000p0 ++ objectRows6000p1

/-- Rows of 0x6020 to 0x603F, part 0. -/
def objectRows6020p0 : List Row :=
  [⟨0x6020, 1, 0x01, 0x01, .u16, .rws, 65535, [(0, 65535)]⟩,
   ⟨0x6020, 1, 0x02, 0x02, .u16, .rws, 0, [(0, 65533)]⟩,
   ⟨0x6020, 1, 0x03, 0x03, .u64, .ro, 0, []⟩,
   ⟨0x6020, 1, 0x04, 0x04, .u8, .rws, 0, [(0, 3)]⟩,
   ⟨0x6020, 1, 0x05, 0x05, .u8, .rws, 3, [(0, 7)]⟩,
   ⟨0x6020, 1, 0x06, 0x06, .i8, .rw, -85, [(-110, -50)]⟩,
   ⟨0x6020, 1, 0x07, 0x07, .u8, .rw, 3, [(1, 3)]⟩,
   ⟨0x6020, 1, 0x08, 0x08, .u16, .rw, 160, [(0, 5000)]⟩,
   ⟨0x6020, 1, 0x09, 0x09, .u8, .rw, 3, [(0, 8)]⟩,
   ⟨0x6020, 1, 0x0A, 0x0A, .u8, .rw, 5, [(3, 8)]⟩,
   ⟨0x6020, 1, 0x0B, 0x0B, .u8, .rw, 4, [(1, 8)]⟩,
   ⟨0x6020, 1, 0x0C, 0x0C, .u8, .rw, 3, [(0, 7)]⟩,
   ⟨0x6020, 1, 0x0D, 0x0D, .u8, .rws, 20, [(1, 60)]⟩,
   ⟨0x6020, 1, 0x0E, 0x0E, .u16, .rws, 400, [(10, 60000)]⟩,
   ⟨0x6020, 1, 0x0F, 0x0F, .u8, .rws, 10, [(0, 50)]⟩,
   ⟨0x6020, 1, 0x10, 0x10, .u16, .rw, 10, [(0, 100)]⟩,
   ⟨0x6020, 1, 0x11, 0x11, .bool, .rw, 0, []⟩,
   ⟨0x6021, 1, 0x01, 0x10, .u32, .ro, 0, []⟩,
   ⟨0x6022, 1, 0x01, 0x04, .u16, .rws, 100, [(1, 10000)]⟩,
   ⟨0x6023, 1, 0x01, 0x01, .dom 0 4294967295, .ro, 0, []⟩,
   ⟨0x6023, 1, 0x02, 0x02, .dom 0 4294967295, .ro, 0, []⟩,
   ⟨0x6024, 1, 0x01, 0x01, .u32, .ro, 0, []⟩,
   ⟨0x6024, 1, 0x02, 0x02, .u8, .rw, 1, [(1, 255)]⟩,
   ⟨0x6024, 1, 0x03, 0x03, .u8, .rw, 0, [(0, 255)]⟩,
   ⟨0x6030, 1, 0x01, 0x01, .u16, .rws, 2560, [(1, 65022)]⟩,
   ⟨0x6030, 1, 0x02, 0x02, .u8, .rw, 6, [(0, 15)]⟩,
   ⟨0x6030, 1, 0x04, 0x04, .u8, .rw, 2, [(1, 8)]⟩,
   ⟨0x6030, 1, 0x05, 0x05, .u8, .rw, 10, [(1, 250)]⟩]

/-- Rows of 0x6020 to 0x603F, part 1. -/
def objectRows6020p1 : List Row :=
  [⟨0x6030, 1, 0x07, 0x07, .u16, .rw, 0, [(0, 65535)]⟩,
   ⟨0x6030, 1, 0x08, 0x08, .u32, .rw, 86400, [(60, 2592000)]⟩,
   ⟨0x6030, 1, 0x09, 0x09, .u16, .rw, 2000, [(0, 60000)]⟩,
   ⟨0x6030, 1, 0x0A, 0x0A, .u8, .rw, 96, [(0, 254)]⟩,
   ⟨0x6030, 1, 0x0B, 0x0B, .u8, .rw, 0, [(0, 1)]⟩,
   ⟨0x6030, 1, 0x0C, 0x0C, .u8, .rw, 12, [(1, 32)]⟩,
   ⟨0x6030, 1, 0x0E, 0x0E, .u16, .ro, 0, []⟩,
   ⟨0x6031, 1, 0x01, 0x10, .u8, .rws, 0, []⟩,
   ⟨0x6031, 1, 0x11, 0x11, .u8, .rws, 1, [(1, 16)]⟩,
   ⟨0x6032, 1, 0x01, 0x06, .u32, .ro, 0, []⟩,
   ⟨0x6033, 1, 0x01, 0x01, .dom 0 256, .rw, 0, []⟩]

/-- Rows of 0x6020 to 0x603F. -/
def objectRows6020 : List Row :=
  objectRows6020p0 ++ objectRows6020p1

/-- Rows of 0x6040 to 0x6FFF. -/
def objectRows6040 : List Row :=
  [⟨0x6040, 1, 0x01, 0x01, .oct 9 72, .cmd, 0, []⟩,
   ⟨0x6040, 1, 0x02, 0x02, .oct 8 8, .res, 0, []⟩,
   ⟨0x6040, 1, 0x03, 0x03, .oct 16 16, .ro, 0, []⟩,
   ⟨0x6040, 1, 0x04, 0x04, .oct 8 8, .cmd, 0, []⟩,
   ⟨0x6400, 512, 0x00, 0x00, .oct 64 64, .ro, 0, []⟩,
   ⟨0x6600, 512, 0x00, 0x00, .oct 40 40, .ro, 0, []⟩,
   ⟨0x6800, 512, 0x01, 0x01, .u8, .ro, 0, []⟩,
   ⟨0x6800, 512, 0x02, 0x02, .u16, .ro, 0, []⟩,
   ⟨0x6800, 512, 0x03, 0x03, .time64, .ro, 0, []⟩,
   ⟨0x6800, 512, 0x04, 0x04, .u16, .ro, 0, []⟩,
   ⟨0x6800, 512, 0x05, 0x05, .u8, .ro, 0, []⟩,
   ⟨0x6800, 512, 0x06, 0x06, .u8, .ro, 0, []⟩,
   ⟨0x6800, 512, 0x07, 0x0E, .i32, .ro, 0, []⟩,
   ⟨0x6800, 512, 0x0F, 0x0F, .u8, .ro, 0, []⟩,
   ⟨0x6800, 512, 0x10, 0x10, .u16, .ro, 0, []⟩,
   ⟨0x6800, 512, 0x11, 0x11, .oct 8 8, .ro, 0, []⟩]

/-- Rows of 0x7000 to 0x70FF. -/
def objectRows7000 : List Row :=
  [⟨0x7000, 1, 0x01, 0x04, .i16, .ro, -32768, []⟩,
   ⟨0x7000, 1, 0x05, 0x05, .i16, .rw, 1100, [(850, 1250)]⟩,
   ⟨0x7000, 1, 0x06, 0x06, .i16, .rw, 1200, [(900, 1250)]⟩,
   ⟨0x7000, 1, 0x07, 0x07, .i16, .rw, -32768, []⟩,
   ⟨0x7001, 1, 0x01, 0x09, .u16, .ro, 0, []⟩,
   ⟨0x7001, 1, 0x0A, 0x0A, .u32, .rw, 0, []⟩,
   ⟨0x7002, 1, 0x01, 0x04, .u8, .ro, 0, []⟩]

/-- Rows of 0x7100 to 0x7FFF, part 0. -/
def objectRows7100p0 : List Row :=
  [⟨0x7100, 1, 0x01, 0x01, .u32, .rw, 4206605, []⟩,
   ⟨0x7100, 1, 0x02, 0x02, .u32, .rw, 0, []⟩,
   ⟨0x7100, 1, 0x03, 0x03, .oct 18 18, .res, 0, []⟩,
   ⟨0x7100, 1, 0x04, 0x04, .dom 16 4096, .ro, 0, []⟩,
   ⟨0x7100, 1, 0x05, 0x05, .u32, .ro, 0, []⟩,
   ⟨0x7100, 1, 0x06, 0x06, .u32, .ro, 0, []⟩,
   ⟨0x7100, 1, 0x07, 0x07, .u32, .ro, 0, []⟩,
   ⟨0x7200, 1, 0x01, 0x01, .u8, .cmd, 0, [(1, 4)]⟩,
   ⟨0x7200, 1, 0x02, 0x02, .u8, .ro, 0, []⟩,
   ⟨0x7200, 1, 0x03, 0x03, .oct 16 16, .res, 0, []⟩,
   ⟨0x7200, 1, 0x04, 0x04, .u32, .ro, 0, []⟩,
   ⟨0x7200, 1, 0x05, 0x05, .u8, .ro, 0, []⟩,
   ⟨0x7200, 1, 0x06, 0x06, .u8, .ro, 0, []⟩,
   ⟨0x7200, 1, 0x07, 0x07, .u8, .ro, 0, []⟩,
   ⟨0x7200, 1, 0x08, 0x08, .u32, .ro, 0, []⟩,
   ⟨0x7200, 1, 0x09, 0x09, .u32, .ro, 0, []⟩,
   ⟨0x7201, 1, 0x01, 0x01, .dom 5 65540, .cmd, 0, []⟩,
   ⟨0x7300, 1, 0x01, 0x01, .dom 8 8, .ro, 0, []⟩,
   ⟨0x7310, 1, 0x01, 0x01, .u16, .rw, 523, [(512, 523)]⟩,
   ⟨0x7310, 1, 0x02, 0x02, .u16, .rw, 262, [(256, 287)]⟩,
   ⟨0x7310, 1, 0x03, 0x03, .u16, .rw, 263, [(256, 287)]⟩,
   ⟨0x7310, 1, 0x04, 0x04, .bool, .rw, 1, []⟩,
   ⟨0x7310, 1, 0x05, 0x05, .u16, .rw, 517, [(512, 517)]⟩,
   ⟨0x7400, 1, 0x01, 0x01, .oct 16 16, .ro, 0, []⟩,
   ⟨0x7400, 1, 0x02, 0x02, .u8, .ro, 0, []⟩,
   ⟨0x7500, 1, 0x01, 0x01, .u8, .ro, 0, []⟩,
   ⟨0x7500, 1, 0x02, 0x02, .u8, .cmd, 0, [(1, 1)]⟩,
   ⟨0x7500, 1, 0x03, 0x03, .u32, .ro, 0, []⟩]

/-- Rows of 0x7100 to 0x7FFF, part 1. -/
def objectRows7100p1 : List Row :=
  [⟨0x7600, 1, 0x01, 0x01, .u8, .ro, 0, []⟩,
   ⟨0x7600, 1, 0x02, 0x02, .u8, .cmd, 0, [(2, 6)]⟩,
   ⟨0x7600, 1, 0x03, 0x03, .oct 16 16, .res, 0, []⟩,
   ⟨0x7600, 1, 0x04, 0x04, .u8, .rw, 4, [(3, 5)]⟩,
   ⟨0x7600, 1, 0x05, 0x05, .u8, .ro, 0, []⟩,
   ⟨0x7600, 1, 0x06, 0x06, .bool, .rw, 1, []⟩,
   ⟨0x7600, 1, 0x07, 0x07, .u8, .rw, 7, [(0, 7)]⟩,
   ⟨0x7600, 1, 0x08, 0x08, .u8, .rw, 0, [(0, 2)]⟩,
   ⟨0x7600, 1, 0x09, 0x09, .u8, .rw, 0, [(0, 2)]⟩,
   ⟨0x7600, 1, 0x0A, 0x0A, .u8, .ro, 0, []⟩,
   ⟨0x7600, 1, 0x0B, 0x0B, .u8, .rw, 1, [(0, 7)]⟩,
   ⟨0x7600, 1, 0x0C, 0x0C, .u32, .ro, 0, []⟩,
   ⟨0x7600, 1, 0x0D, 0x0D, .u16, .ro, 0, []⟩,
   ⟨0x7600, 1, 0x0E, 0x0E, .u8, .ro, 0, []⟩,
   ⟨0x7700, 1, 0x01, 0x01, .u8, .rw, 0, []⟩,
   ⟨0x7700, 1, 0x02, 0x02, .u8, .rw, 0, []⟩,
   ⟨0x7700, 1, 0x03, 0x03, .u8, .ro, 0, []⟩,
   ⟨0x7700, 1, 0x04, 0x04, .u8, .rw, 0, []⟩,
   ⟨0x7700, 1, 0x05, 0x05, .u8, .rw, 0, []⟩,
   ⟨0x7700, 1, 0x06, 0x06, .bool, .rw, 1, []⟩]

/-- Rows of 0x7100 to 0x7FFF. -/
def objectRows7100 : List Row :=
  objectRows7100p0 ++ objectRows7100p1

/-- Rows of 0x8000 to 0x8FFF. -/
def objectRows8000 : List Row :=
  [⟨0x8000, 1, 0x01, 0x01, .u8, .ro, 0, []⟩,
   ⟨0x8000, 1, 0x02, 0x02, .u8, .cmd, 0, [(1, 1)]⟩,
   ⟨0x8000, 1, 0x03, 0x03, .oct 8 8, .res, 0, []⟩,
   ⟨0x8001, 1, 0x01, 0x01, .u8, .cmd, 0, [(1, 1)]⟩,
   ⟨0x8001, 1, 0x02, 0x02, .oct 50 50, .res, 0, []⟩,
   ⟨0x8002, 1, 0x01, 0x01, .oct 132 132, .cmd, 0, []⟩,
   ⟨0x8020, 1, 0x01, 0x04, .oct 32 32, .ro, 0, []⟩,
   ⟨0x8020, 1, 0x05, 0x05, .u8, .ro, 0, []⟩,
   ⟨0x8020, 1, 0x06, 0x06, .u8, .ro, 0, []⟩,
   ⟨0x8020, 1, 0x07, 0x07, .u16, .ro, 0, []⟩,
   ⟨0x8040, 1, 0x01, 0x18, .u32, .ro, 0, []⟩,
   ⟨0x8041, 1, 0x01, 0x01, .oct 16 16, .ro, 0, []⟩,
   ⟨0x8100, 1, 0x01, 0x20, .dom 24 72, .wo, 0, []⟩,
   ⟨0x8110, 1, 0x01, 0x20, .oct 8 8, .ro, 0, []⟩,
   ⟨0x8120, 1, 0x01, 0x01, .u8, .cmd, 0, [(0, 31)]⟩,
   ⟨0x8200, 1, 0x01, 0x20, .u32, .rw, 0, []⟩,
   ⟨0x8210, 1, 0x01, 0x01, .dom 0 128, .rw, 0, []⟩,
   ⟨0x8210, 1, 0x02, 0x02, .u32, .ro, 0, []⟩,
   ⟨0x8300, 1, 0x01, 0x01, .u8, .ro, 0, []⟩,
   ⟨0x8300, 1, 0x02, 0x02, .u8, .ro, 255, []⟩,
   ⟨0x8300, 1, 0x03, 0x03, .u8, .cmd, 0, [(0, 2)]⟩,
   ⟨0x8300, 1, 0x04, 0x04, .u32, .ro, 0, []⟩]

/-- Rows of 0x9000 to 0x9FFF. -/
def objectRows9000 : List Row :=
  [⟨0x9000, 16, 0x01, 0x01, .bool, .rw, 0, []⟩,
   ⟨0x9000, 16, 0x02, 0x02, .u32, .rw, 6159, []⟩,
   ⟨0x9000, 16, 0x03, 0x03, .u8, .rw, 1, [(0, 2)]⟩,
   ⟨0x9000, 16, 0x04, 0x04, .u16, .rw, 100, [(1, 60000)]⟩,
   ⟨0x9000, 16, 0x05, 0x05, .u16, .rw, 0, [(0, 60000)]⟩,
   ⟨0x9000, 16, 0x06, 0x06, .u32, .ro, 0, []⟩,
   ⟨0x9000, 16, 0x07, 0x07, .u32, .ro, 0, []⟩,
   ⟨0x9000, 16, 0x08, 0x08, .u8, .ro, 0, []⟩,
   ⟨0x9100, 16, 0x01, 0x01, .u8, .rw, 0, [(0, 32)]⟩,
   ⟨0x9100, 16, 0x02, 0x21, .u32, .rw, 0, []⟩,
   ⟨0x9800, 1, 0x01, 0x01, .u32, .rw, 16777215, []⟩,
   ⟨0x9800, 1, 0x02, 0x02, .u8, .rw, 7, []⟩,
   ⟨0x9800, 1, 0x03, 0x05, .u32, .ro, 0, []⟩,
   ⟨0x9800, 1, 0x06, 0x06, .u32, .ro, 0, []⟩,
   ⟨0x9810, 1, 0x01, 0x01, .u32, .rw, 0, []⟩,
   ⟨0x9810, 1, 0x02, 0x02, .oct 34 34, .res, 0, []⟩]

/-- The rows that may hold an index, chosen by its range (R344). -/
def rowsNear (idx : Nat) : List Row :=
  if idx < 0x1000 then []
  else if idx ≤ 0x103F then objectRows1000
  else if idx < 0x1040 then []
  else if idx ≤ 0x10FF then objectRows1040
  else if idx < 0x1100 then []
  else if idx ≤ 0x1FFF then objectRows1100
  else if idx < 0x2000 then []
  else if idx ≤ 0x20FF then objectRows2000
  else if idx < 0x2100 then []
  else if idx ≤ 0x23FF then objectRows2100
  else if idx < 0x2400 then []
  else if idx ≤ 0x2FFF then objectRows2400
  else if idx < 0x3000 then []
  else if idx ≤ 0x300F then objectRows3000
  else if idx < 0x3010 then []
  else if idx ≤ 0x30FF then objectRows3010
  else if idx < 0x3100 then []
  else if idx ≤ 0x3FFF then objectRows3100
  else if idx < 0x4100 then []
  else if idx ≤ 0x41FF then objectRows4100
  else if idx < 0x4200 then []
  else if idx ≤ 0x42FF then objectRows4200
  else if idx < 0x4300 then []
  else if idx ≤ 0x43FF then objectRows4300
  else if idx < 0x4400 then []
  else if idx ≤ 0x44FF then objectRows4400
  else if idx < 0x4600 then []
  else if idx ≤ 0x46FF then objectRows4600
  else if idx < 0x4700 then []
  else if idx ≤ 0x47FF then objectRows4700
  else if idx < 0x4800 then []
  else if idx ≤ 0x48FF then objectRows4800
  else if idx < 0x4900 then []
  else if idx ≤ 0x4FFF then objectRows4900
  else if idx < 0x5000 then []
  else if idx ≤ 0x5FFF then objectRows5000
  else if idx < 0x6000 then []
  else if idx ≤ 0x601F then objectRows6000
  else if idx < 0x6020 then []
  else if idx ≤ 0x603F then objectRows6020
  else if idx < 0x6040 then []
  else if idx ≤ 0x6FFF then objectRows6040
  else if idx < 0x7000 then []
  else if idx ≤ 0x70FF then objectRows7000
  else if idx < 0x7100 then []
  else if idx ≤ 0x7FFF then objectRows7100
  else if idx < 0x8000 then []
  else if idx ≤ 0x8FFF then objectRows8000
  else if idx < 0x9000 then []
  else if idx ≤ 0x9FFF then objectRows9000
  else []

end Sys2Proof.Machine
end

