-- ==== Sys2Proof/Machine/Defaults.lean ====
section
/-!
DEFINITION. Machine/Defaults.lean: what every subindex holds at reset (R351): the default column of its table, and the
defaults that depend on the instance.
-/
namespace Sys2Proof.Machine

/-- The row of the table that holds a subindex. -/
def findRow (k : Nat) : Option Row :=
  (rowsNear (k / 256)).find? fun r =>
    decide (r.base ≤ k / 256 ∧ k / 256 < r.base + r.n ∧ r.lo ≤ k % 256 ∧ k % 256 ≤ r.hi)

/-- Whether an object with this index exists (R343). -/
def indexExists (idx : Nat) : Bool :=
  (rowsNear idx).any fun r => decide (r.base ≤ idx ∧ idx < r.base + r.n)

/-- The highest subindex of an object (R343). -/
def highSub (idx : Nat) : Nat :=
  (rowsNear idx).foldl (fun m r => if r.base ≤ idx ∧ idx < r.base + r.n then max m r.hi else m) 0

/-- The linear curve of 0x4900:0B: 256 U16 entries from 0 to 65,535, T(i) = 257 i (R238). -/
def linearCurve : Bytes := (List.range 256).flatMap fun i => leNat 2 (i * 257)

/-- An EQ bank with every section off (R237): 40 zero bytes. -/
def eqBankOff : Bytes := List.replicate 40 0

/-- The default of a row (R351): its number, or zero bytes, or the empty value. -/
def Row.value (r : Row) : Val :=
  match r.ty with
  | .oct lo _ => .raw (List.replicate lo 0)
  | .str .. => .raw []
  | .dom .. => .raw []
  | _ => .num r.dflt

/-- The value a subindex takes at reset (R351). The first lines are the defaults that depend on the instance:
the unit IDs of R22, the mode masks of R78, the curve of R238, the hop channels of R316, the empty shadow map of R331,
the identifiers of R382. -/
def dflt (k : Nat) : Val :=
  let idx := k / 256
  let sub := k % 256
  if 0x2140 ≤ idx ∧ idx ≤ 0x2301 ∧ sub = 1 then .num (((idx - 0x2100) / 64 * 256 + idx % 64 : Nat))
  else if k = 0x301001 then .num 6
  else if k = 0x301101 then .num 4
  else if k = 0x49000B then .raw linearCurve
  else if k = 0x603101 then .num 26
  else if 0x6600 ≤ idx ∧ idx ≤ 0x67FF then .raw (List.replicate 32 255 ++ List.replicate 8 0)
  else if 0x9000 ≤ idx ∧ idx ≤ 0x900F ∧ sub = 2 then .num ((0x180 + (idx - 0x9000) : Nat))
  else match findRow k with
    | some r => r.value
    | none => if sub = 0 then .num (highSub idx) else .num 0

end Sys2Proof.Machine
end

