-- ==== Sys2Proof/Machine/Parts.lean ====
section
/-!
DEFINITION. Machine/Parts.lean: the plain-data records that State is built from, for the core of the device: the sparse
maps, events, the dictionary engine, the launch table, units, management, security and power. The records of the radio,
receiver, audio and mesh blocks stand in Machine/PartsMedia.lean.
-/
namespace Sys2Proof.Machine

/-- A sparse map from numbers: ascending keys, and no entry equal to what an unlisted key reads as (`Map.wf`). -/
abbrev Map (α : Type) := List (Nat × α)

/-- The eight modes of R17, with the codes of R450. -/
inductive Mode where
  | off | boot | parked | watch | listen | full | update | safe
  deriving DecidableEq, Repr

/-- One 32-byte event record (R362), as its fields. -/
structure Event where
  seq : Nat
  instant : Nat
  cls : Nat
  kind : Nat
  src : Nat
  payload : Bytes
  deriving DecidableEq, Repr

/-- The event machinery of R364 and R365: history (oldest first), the three port queues (oldest first), the events held
before ready, and how many more were detected. -/
structure Events where
  history : List Event
  quoinQ : List Event
  twoWireQ : List Event
  spiQ : List Event
  held : List Event
  uncounted : Nat
  deriving DecidableEq, Repr

def Events.init : Events := ⟨[], [], [], [], [], 0⟩

/-- A FIFO object (R357, R358): records oldest first, the 16-bit read number, and the data consumed last with the code
of the port that consumed it. -/
structure Fifo where
  recs : List Bytes
  readNo : Nat
  lastPort : Nat
  last : Bytes
  deriving DecidableEq, Repr

def Fifo.init : Fifo := ⟨[], 0, 0, []⟩

/-- What the dictionary engine answered to the last request: the model's own record of an answer on its way to a port
(notes/assumptions/2.md). -/
structure Answer where
  code : Nat
  data : Bytes
  readNo : Nat
  stale : Bool
  deriving DecidableEq, Repr

def Answer.init : Answer := ⟨0, [], 0, false⟩

/-- A command held until the outcome awaited in its RES object is issued (R356). -/
structure HeldCmd where
  who : Requester
  body : Bytes
  deriving DecidableEq, Repr

/-- A segmented transfer of a port (R374 to R377, R387): whether it writes, the sequence of its initiate, the object, N, the
bytes received or the snapshot, the next segment, the block size, and the instant of its last frame. -/
structure Transfer where
  write : Bool
  seq : Nat
  key : Nat
  size : Nat
  data : Bytes
  next : Nat
  block : Nat
  at_ : Nat
  deriving DecidableEq, Repr

/-- A launch entry (R43): its first instant, the instant of its next firing, and the fields of the layout. A listed
entry is armed (state 1) or repeating (state 2). -/
structure LaunchEntry where
  first : Nat
  instant : Nat
  phase : Nat
  kind : Nat
  flags : Nat
  target : Nat
  owner : Nat
  period : Nat
  count : Nat
  fired : Nat
  param : Bytes
  deriving DecidableEq, Repr

/-- The preparation of a start or resume entry (R33, R130): leaves prepared so far, in order, and the instant from which the next one
waits for its load. -/
structure Prep where
  done : List Nat
  wait : Option Nat
  deriving DecidableEq, Repr

def Prep.init : Prep := ⟨[], none⟩

/-- A hold in progress (R34): the top-level unit or course, the courses and leaves still to go HELD by rank (the next
rank first), the cause and verb of the events it raises, and the cause and verb of the release that follows it (R25, R37), if
one does. -/
structure Holding where
  top : Nat
  ranks : List (List Nat)
  courses : List Nat
  cause : Nat
  verb : Nat
  release : Option (Nat × Nat)
  deriving DecidableEq, Repr

/-- The cause and verb of a hold's event: of a hold that precedes a release, the top alone has the verb's own (R26). -/
def Holding.why (h : Holding) (u : Nat) : Nat × Nat := if h.release.isSome && u != h.top then (5, 0) else (h.cause, h.verb)

/-- An anchor that the UTC mapping has taken (R59, R60): its tick, its UTC in ms, its source. -/
structure UtcPrev where
  tick : Nat
  utc : Nat
  source : Nat
  deriving DecidableEq, Repr

/-- TB_SYNC (R55 to R58): the instant of the last pulse driven by a leader, and the last edge seen by a follower. -/
structure TbSync where
  lastPulse : Option Nat
  lastEdge : Option Nat
  deriving DecidableEq, Repr

/-- One log entry (R440). -/
structure LogEntry where
  seq : Nat
  instant : Nat
  resets : Nat
  cls : Nat
  kind : Nat
  detail : Nat
  deriving DecidableEq, Repr

/-- The event log (R440, R441): unflushed entries in SRAM and entries in flash, both oldest first; the instant of the
oldest unflushed one; the next log sequence. -/
structure Log where
  sram : List LogEntry
  flash : List LogEntry
  oldestAt : Nat
  next : Nat
  deriving DecidableEq, Repr

def Log.init : Log := ⟨[], [], 0, 1⟩

/-- A key-store slot (R419): 0 empty, 1 network key, 2 customer debug key. -/
structure KeySlot where
  type : Nat
  index : Nat
  key : Bytes
  deriving DecidableEq, Repr

def KeySlot.empty : KeySlot := ⟨0, 0, []⟩

/-- OTP (R412, R413): blown fuses of the three lifecycle groups, slot hashes, revocation and anti-rollback fuses, serial
number, extended address, and the factory region as objects (key and number). -/
structure Otp where
  blankFuses : Nat
  securedFuses : Nat
  returnedFuses : Nat
  slotHash : List Bytes
  revoked : Nat
  antiRollback : Nat
  serial : Nat
  extAddr : Nat
  testKeyHash : Bytes
  factory : Map Val
  deriving DecidableEq, Repr

/-- One image of a firmware bank, as its header of R415 names it: kind, version, security version, key slot and the SHA-256 of its
payload. -/
structure Image where
  kind : Nat
  version : Nat
  security : Nat
  slot : Nat
  hash : Bytes
  deriving DecidableEq, Repr

/-- The two banks of R442: state (0 empty to 4 failed), version, and the images a verified bank holds. -/
structure Bank where
  state : Nat
  version : Nat
  images : List Image
  catalogue : List Bytes
  deriving DecidableEq, Repr

/-- What flash keeps (R442): both banks and which one runs, the persistent store, the key store, the counter records with the
end of the wait after a failed response (R422), and the node identities of R324 with their counters of R325. -/
structure Flash where
  bankA : Bank
  bankB : Bank
  running : Nat
  trial : Nat
  store : Map Val
  storedSize : Nat
  stores : Nat
  keys : Map KeySlot
  grants : Map Val
  resetCount : Nat
  failures : Nat
  waitUntil : Option Nat
  frameCounter : Nat
  nodes : Map Bytes
  nodeCounters : Map Nat
  deriving DecidableEq, Repr

/-- The update in progress (R443, R444): the bytes programmed so far and the instant the trial window opened. -/
structure Update where
  data : Bytes
  trialFrom : Option Nat
  deriving DecidableEq, Repr

def Update.init : Update := ⟨[], none⟩

/-- An outstanding challenge (R421). -/
structure Challenge where
  body : Bytes
  at_ : Nat
  deriving DecidableEq, Repr

/-- Security (R412 to R432): the challenge, the TAP's instruction and boundary hold, the violations seen lately
(master, instant). -/
structure Security where
  challenge : Option Challenge
  boundaryHold : Bool
  tap : Nat
  preload : Bytes
  violations : List (Nat × Nat)
  debugLastSeq : Option Nat
  halted : List Nat
  deriving DecidableEq, Repr

def Security.init : Security := ⟨none, false, 0xFF, [], [], none, []⟩

/-- A mode transition (R451 to R453, R436): old mode, target, trigger, whether it is held, and when that phase began. -/
structure Transition where
  old : Mode
  target : Mode
  trigger : Nat
  held : Bool
  began : Nat
  deriving DecidableEq, Repr

/-- What waits to put the device into SAFE (R447): the cause, its source and reading, and the instant of the trigger. -/
structure SafeCause where
  cause : Nat
  source : Nat
  reading : Int
  at_ : Nat
  deriving DecidableEq, Repr

/-- The resume record of R466: the running bank, and the kind and SHA-256 of each image recorded. -/
structure ResumeRecord where
  bank : Nat
  hashes : List (Nat × Bytes)
  deriving DecidableEq, Repr

/-- The power manager and what its monitors hold (R437 to R439, R447, R450 to R470): the transition in progress, the wake that it
holds (a source of R462), the last bring-up step done, the last step of R467 done, the resume record, since when the conditions
of WAKE_OUT bits 0 and 1 hold, Gnomon recorded at PARKED entry and the RTC periods since, the wake being served and the RTC period
in which it came, PWR_REQ, the cause of the last reset, whether a failed wake is still to be announced, who owned unit 0x0502
before WATCH, the nominals of VDDIO_A and VDDIO_B, the levels of the four die sensors (0 normal, 1 warning, 2 critical), the
internal reset that is due (R443), the samples of each die sensor over the last 1 ms and of each supply over the last 1 ms with
the instants of the last ones, the sample clock's unlocks of the last second, the cause of SAFE that waits, and when the
firmware last served its watchdog (R433). -/
structure Power where
  transition : Option Transition
  heldWake : Option Nat
  bootStep : Nat
  pathStep : Nat
  resumeRecord : ResumeRecord
  left : Option Nat
  matched : Option Nat
  gEntry : Nat
  rtcPeriods : Nat
  waking : Option Nat
  wokeAt : Nat
  pwrReq : Bool
  resetCause : Nat
  failedWake : Bool
  meshOwner : Nat
  vddio : List Nat
  levels : List Nat
  resetDue : Option Nat
  dieSamples : Map (List Int)
  railSamples : Map (List Nat)
  sampledAt : Map Nat
  unlocks : List Nat
  safeDue : Option SafeCause
  beat : Nat
  deriving DecidableEq, Repr

def Power.init : Power :=
  ⟨none, none, 0, 0, ⟨0, []⟩, none, none, 0, 0, none, 0, true, 1, false, 0xFF, [3300, 3300], [0, 0, 0, 0], none,
    [], [], [], [], none, 0⟩

end Sys2Proof.Machine
end

