-- ==== Sys2Proof/Machine/PartsRadio.lean ====
section
/-!
DEFINITION. Machine/PartsRadio.lean: the hidden state of the RF paths, Plumb, the chains, the engines, the accelerators
and shared memory, beside the dictionary objects that hold the rest of it.
-/
namespace Sys2Proof.Machine

/-- A complex sample. -/
structure Cx where
  re : Rat
  im : Rat
  deriving DecidableEq, Repr

/-- A change of a path's gain that has been decided and lands on a later tick (R65, R67, R69 to R71, R73): a rise, a release step, a
manual GR, a trip of the LNA detector, an AM attenuation. -/
inductive GainMove where
  | rise (db : Nat)
  | fall
  | manual (gr : Nat)
  | trip
  | am (db : Nat)
  deriving DecidableEq, Repr

/-- A path's hidden AGC state (R66, R69 to R73): ticks of the last gain increase, of the last window above the release
threshold, of the last release step of the present run, of power-up, and of the last LNA trip; the path's own demanded
GR; the last event tick of each overload flag; whether a Plumb blank is open; when the clock unlocked; when a mesh
tap began to receive through the path, and until when at most; the gain changes that have not landed yet; and the peak code and the sum of squared codes
of each window of the last 10 ms; and, as far back as samples in hand reach, the ticks from which each GR with its LNA state holds,
those from which each AM attenuation holds, the spans whose samples a clock fault conceals, and the L of each blanking window. -/
structure RfPath where
  lastIncrease : Nat
  lastAbove : Nat
  lastRelease : Option Nat
  poweredAt : Nat
  lastTrip : Nat
  demand : Nat
  flagAt : Map (Option Nat)
  blankOpen : Bool
  unlockedAt : Option Nat
  tapSince : Option Nat
  tapUntil : Nat
  moves : List (Nat × GainMove)
  levels : List (Nat × Nat)
  gains : List (Nat × Nat × Bool)
  amGains : List (Nat × Nat)
  concealed : List (Nat × Option Nat)
  windows : List Nat
  deriving DecidableEq, Repr

def RfPath.init : RfPath := ⟨0, 0, none, 0, 0, 18, [], false, none, none, 0, [], [], [], [], [], []⟩

/-- An antenna supply (R78, R79): whether the enable ball is driven high, retries used, when the fault began and when a
retry last drove the enable high. -/
structure Antenna where
  enable : Bool
  retries : Nat
  faultAt : Option Nat
  retriedAt : Option Nat
  means : List Nat
  meanAt : Option Nat
  deriving DecidableEq, Repr

def Antenna.init : Antenna := ⟨false, 0, none, none, [], none⟩

/-- Where a Plumb cycle stands (R87): idle, in a window, proposal awaited, apply awaited or armed, post-check window. -/
inductive PlumbPhase where
  | idle | window | proposal | placed | post
  deriving DecidableEq, Repr

/-- A blank asked for (R92): its action, the 16 trims it brings, and the outcome it records, 0 for a cycle's apply. -/
structure PlumbJob where
  action : Nat
  target : List Nat
  outcome : Nat
  deriving DecidableEq, Repr

/-- A blank that is open (R92): its L, its job, and whether its trims have changed. -/
structure Blank where
  at_ : Nat
  job : PlumbJob
  changed : Bool
  deriving DecidableEq, Repr

/-- A path's hidden Plumb state (R86 to R97): where the cycle stands; when the window in progress and the one before it
began, and the die temperature then; the L of each blank that reaches into it; the figures of the last window; O and G of the
window that led to the apply; consecutive outcomes 8; the die temperature at the start of the last window that led to an
apply; a mode write held; a single cycle of command 1; dither due in the next window; the trim changes asked for, of which the first
is the one placed where one is; the blanks that are open; the null start reported by the protected ensemble and its engine; nulls
skipped; the first free candidate; whether the path has been powered since reset; a window voided by an unlock. -/
structure Plumb where
  phase : PlumbPhase
  windowStart : Nat
  lastWindowStart : Nat
  windowTemp : Int
  spans : List Nat
  stats : Option WindowStats
  prevO : Int
  prevG : Int
  reverts : Nat
  applyTemp : Option Int
  heldMode : Option Nat
  runOnce : Bool
  ditherNext : Bool
  jobs : List PlumbJob
  blanks : List Blank
  nullStart : Option Nat
  nullEngine : Nat
  skippedNulls : Nat
  freeFrom : Option Nat
  everPowered : Bool
  voided : Bool
  deriving DecidableEq, Repr

def Plumb.init : Plumb :=
  ⟨.idle, 0, 0, 0, [], none, 0, 0, 0, none, none, false, true, [], [], none, 0, 0, none, false, false⟩

/-- A marker waiting to be written into a chain's next block (R115): kind, path, instant it marks, span, parameter. -/
structure Marker where
  kind : Nat
  path : Nat
  at_ : Nat
  span : Nat
  param : Nat
  deriving DecidableEq, Repr

/-- A stretch of a chain's responses by FIR output sample (R107 to R109): the response left, the one entered, the length of the
cross-fade in samples, the samples of weight before `from_`, the first sample of the stretch, and its direction. A response in force
alone is a stretch of length 0. -/
structure Fade where
  old : Nat
  new : Nat
  len : Nat
  w : Nat
  from_ : Nat
  reversing : Bool
  deriving DecidableEq, Repr

/-- A stretch of a chain's tunings (R53, R123): from a tick on, the path, the sub-band, the NCO word and the accumulator there. -/
structure Tune where
  from_ : Nat
  path : Nat
  k : Nat
  w : Int
  phase : Nat
  deriving DecidableEq, Repr

/-- The samples that a marker of a kind covers (R115), open while its end is not known; kind 0x10 is the freeze of
0x3100+n:0E (R112). -/
structure MarkSpan where
  kind : Nat
  from_ : Nat
  till : Option Nat
  deriving DecidableEq, Repr

/-- A chain's hidden state (R107 to R123): the fade, and the responses as far back as samples in hand reach; markers for the next
block, and the spans of all; blocks queued to an engine; the block sequence; the path in force; the NCO phase reference; the
tunings; the DC estimate, and the samples at which it restarts; the saturation map of the block; the last saturation event; the
detector's held writes and the first sample of its block; when it started; the next grid sample to put out; and the grid
samples that are not put out: from one on, up to another where the stream goes on; and whether an AF check has taken it out of quick
mode (R140). -/
structure Chain where
  fade : Option Fade
  resps : List Fade
  markers : List Marker
  spans : List MarkSpan
  queue : List Bytes
  blockSeq : Nat
  path : Nat
  phase : Nat
  phaseAt : Nat
  tunes : List Tune
  dcI : Rat
  dcQ : Rat
  dcZeros : List Nat
  satBlock : Nat
  satAt : Option Nat
  detFreq : Option Int
  detLen : Option Nat
  detNext : Option Nat
  startAt : Nat
  next : Nat
  gap : Option (Nat × Option Nat)
  quickOff : Bool
  deriving DecidableEq, Repr

def Chain.init : Chain := ⟨none, [], [], [], [], 0, 0, 0, 0, [], 0, 0, [], 0, none, none, none, none, 0, 0, none, false⟩

/-- A restart of an engine (R138): its step (1 held in reset, 2 reloading, 3 restoring) and the detection instant. -/
structure Restart where
  step : Nat
  detected : Nat
  deriving DecidableEq, Repr

/-- An engine's hidden state (R129, R136 to R138): the image in local memory, whether its zeroing runs and which claim
waits for it, the restart in progress, restarts' instants, a hold waiting for step 4, the tick at which its load began,
the cause and verb of the release that its zeroing ends, the last sign of life of its image, and the cycle loads of the last 100
stretches of 10 ms. -/
structure Engine where
  image : Nat
  zeroing : Bool
  heldClaim : Option Requester
  restart : Option Restart
  restarts : List Nat
  heldHold : Bool
  loadFrom : Option Nat
  why : Nat × Nat
  beat : Nat
  cycles : List Nat
  deriving DecidableEq, Repr

def Engine.init : Engine := ⟨0, false, none, none, [], false, none, (0, 0), 0, []⟩

/-- A job of an accelerator (R133 to R135): the submitting engine, the course whose shares it runs on, submission tick, job time, and
the ticks for which it has run. -/
structure Job where
  engine : Nat
  holder : Nat
  at_ : Nat
  ticks : Nat
  done : Nat
  deriving DecidableEq, Repr

/-- An accelerator (R134, R135): its jobs, oldest first; the instants of its resets in the rolling 60 s; the slot in progress and the
holder that it serves; the holder that last received a slot of others; and the runs of slots used in the last 1 s, each from a
slot up to another. -/
structure Accel where
  jobs : List Job
  resets : List Nat
  slot : Option (Nat × Nat)
  last : Nat
  used : List (Nat × Nat)
  deriving DecidableEq, Repr

def Accel.init : Accel := ⟨[], [], none, 0, []⟩

/-- A shared-memory buffer (R243): base, size in bytes, owner unit ID, kind (row of R243), regions taken, drops. -/
structure Alloc where
  base : Nat
  size : Nat
  owner : Nat
  kind : Nat
  regions : Nat
  drops : Nat
  deriving DecidableEq, Repr

/-- A capture descriptor's hidden state (R252, R253): when it was armed, the trigger instant and phase, when its source
stopped, the markers gathered, the samples of a chain's blocks taken so far by their grid numbers, the data and how many bytes of it
are valid, and the base of the buffer it holds. -/
structure Capture where
  armedAt : Nat
  trigger : Option (Nat × Nat)
  stopped : Option Nat
  events : List Marker
  iq : List (Nat × Int × Int)
  data : Bytes
  valid : Nat
  buf : Option Nat
  deriving DecidableEq, Repr

def Capture.init : Capture := ⟨0, none, none, [], [], [], 0, none⟩

end Sys2Proof.Machine
end

