-- ==== Sys2Proof/Machine/PartsMedia.lean ====
section
/-!
DEFINITION. Machine/PartsMedia.lean: the hidden state of the receivers: FM and RDS, the TMC decoder, and Lantern.
-/
namespace Sys2Proof.Machine

/-- RDS fields being decoded (R158, R170): PS and RadioText characters by position, the A/B flag, PTY, TP, TA, ECC, and
values of class 2 seen once, by field. -/
structure RdsFields where
  ps : Map (Option Nat)
  rt : Map (Option Nat)
  ab : Nat
  pty : Nat
  tp : Nat
  ta : Nat
  ecc : Nat
  once : Map (Option (List Nat))
  deriving DecidableEq, Repr

def RdsFields.init : RdsFields := ⟨[], [], 0, 0, 0, 0, 0, []⟩

/-- A sample of an input of an FM engine (R143), by its number on the grid of 512 ticks, and whether a clip marker spans it. -/
structure FmSample where
  i : Nat
  re : Int
  im : Int
  clipped : Bool
  deriving DecidableEq, Repr

/-- A demodulated sample (R145, R146): the MPX as a fraction of 150 kHz, the difference signal, the magnitude of the combined signal,
whether it counts in the metrics, and whether it is concealed (R154). -/
structure FmTone where
  i : Nat
  mpx : Rat
  diff : Rat
  mag : Rat
  counts : Bool
  hidden : Bool
  deriving DecidableEq, Repr

/-- A silence of the audio (R155, R161): its first tick, its end, and the ticks of the ramps before and after it. -/
structure FmQuiet where
  from_ : Nat
  till : Option Nat
  down : Nat
  up : Nat
  deriving DecidableEq, Repr

/-- What the markers of a chain set before a demodulator (R154, R155, R205): the samples at which cold starts are due, the L of
blanks with the input they stand on, the clock-fault spans in samples, and the silences. -/
structure RxMarks where
  colds : List Nat
  cores : List (Nat × Nat)
  faults : List (Nat × Option Nat)
  quiets : List FmQuiet
  deriving DecidableEq, Repr

def RxMarks.init : RxMarks := ⟨[], [], [], []⟩

/-- The metrics of 1 ms (R147): its end, levels A and B, USN, multipath, offset and peak deviation, in their units. -/
structure FmFigures where
  end_ : Nat
  levelA : Int
  levelB : Int
  usn : Int
  multipath : Nat
  offset : Int
  peak : Nat
  deriving DecidableEq, Repr

/-- The demodulator of an FM engine (R144 to R155): samples of the two inputs; the next sample to demodulate; the markers; the
last combined sample; the combining weights and their
steps; the place of a selection between the inputs in 1/32; the PLL's phase in turns and its offset in Hz; the demodulated
samples as far back as they are needed; the next audio frame; the memories of the four audio filters; the samples at which the next control
update, estimate and selection are due; the runs of 1 ms with a strong and with a weak pilot; the metrics since the last publication, and the
peak deviations of the last 100 ms. -/
structure FmDemod where
  a : List FmSample
  b : List FmSample
  next : Nat
  marks : RxMarks
  last : Option Cx
  wA : Cx
  wB : Cx
  dA : Cx
  dB : Cx
  blend : Nat
  pll : Rat × Rat
  tones : List FmTone
  frame : Nat
  audio : List Rat
  ctlAt : Nat
  estAt : Nat
  selAt : Nat
  strong : Nat
  weak : Nat
  ms : List FmFigures
  peaks : List Rat
  deriving DecidableEq, Repr

def FmDemod.init : FmDemod :=
  ⟨[], [], 0, RxMarks.init, none, ⟨1, 0⟩, ⟨0, 0⟩, ⟨0, 0⟩, ⟨0, 0⟩, 0, (0, 0), [], 0, [0, 0, 0, 0], 0, 0, 0, 0, 0, [], []⟩

/-- An FM receiver's hidden state (R146 to R158): the controls, pilot, effective level, when input B last delivered a
block and whether it is taken as absent, the input or combination in use and its tally since the last publication, the demodulator,
the classes of the last 100 blocks, those of the last 16 since sync was gained, the group sequence, and the RDS fields. -/
structure Fm where
  factor : Rat
  corner : Rat
  mute : Rat
  pilot : Bool
  effective : Int
  lastB : Nat
  bAbsent : Bool
  selected : Nat
  tally : List Nat
  dem : FmDemod
  classes : List Nat
  sinceSync : List Nat
  groupSeq : Nat
  fields : RdsFields
  deriving DecidableEq, Repr

def Fm.init : Fm :=
  ⟨0, 2000, 20, false, -1400, 0, false, 0, [0, 0, 0], FmDemod.init, List.replicate 100 3, [], 0, RdsFields.init⟩

/-- A TMC message being assembled (R159): its station, continuity index, groups so far, first and latest instants. -/
structure TmcPartial where
  pi : Nat
  ci : Nat
  groups : List (List Nat)
  began : Nat
  left : Nat
  deriving DecidableEq, Repr

/-- The TMC decoder (R159, R160): the application group type of the last 3A group and when it came, the messages being
assembled, the messages delivered lately (PI, groups, tick), and the message sequence. -/
structure Tmc where
  app : Option Nat
  lastApp : Option Nat
  partials : List TmcPartial
  history : List (Nat × List (List Nat) × Nat)
  seq : Nat
  deriving DecidableEq, Repr

def Tmc.init : Tmc := ⟨none, none, [], [], 0⟩

/-- One Lantern slot (R165, R166, R168): its figures, RDS state, groups decoded, the runs of periods below the
deactivation level and above the replacement level, the group its last confirmation came from, the classes of the last 100 blocks, and
those of the last 16 since sync was gained. -/
structure Slot where
  active : Bool
  level : Int
  adjacent : Int
  multipath : Nat
  offset : Int
  bler : Nat
  sync : Bool
  pi : Nat
  piState : Nat
  groups : Nat
  lowRun : Nat
  highRun : Nat
  lastGroup : Option Nat
  classes : List Nat
  sinceSync : List Nat
  deriving DecidableEq, Repr

def Slot.init : Slot := ⟨false, -1400, 0, 0, 0, 100, false, 0, 0, 0, 0, 0, none, List.replicate 100 3, []⟩

/-- One entry of the station database (R169 to R173): the record of R171, with its best slot as a slot index, the engine
whose values stand, the best level of the second in progress, the group of the last confirmation from each source, and
the kind-3 events held back. -/
structure Entry where
  pi : Nat
  state : Nat
  fields : RdsFields
  rbds : Bool
  fg : Option Nat
  best : Option Nat
  bestKHz : Nat
  bestLevel : Int
  bestBler : Nat
  bestMultipath : Nat
  afs : List Nat
  carrying : Nat
  confirmations : Nat
  ctInstant : Nat
  mjd : Nat
  hour : Nat
  minute : Nat
  offset : Int
  lastHeard : Nat
  firstHeard : Nat
  history : List Nat
  second : Option Int
  seq : Nat
  sources : Map (Option Nat)
  held : Nat
  lastChange : Option Nat
  deriving DecidableEq, Repr

def Entry.init : Entry :=
  ⟨0, 0, RdsFields.init, false, none, none, 0, 0, 0, 0, [], 0, 0, 0, 0, 0, 0, 0, 0, 0, List.replicate 8 0, none, 0, [], 0,
    none⟩

/-- Lantern (R163 to R177): slots, database, the index of the last period boundary passed, the snapshot sequence, the
group sequence of the ring, and the settings in force for the present period. -/
structure Lantern where
  slots : Map Slot
  entries : Map Entry
  lastPeriod : Nat
  snapSeq : Nat
  groupSeq : Nat
  region : Nat
  threshold : Int
  mask : Nat
  deriving DecidableEq, Repr

def Lantern.init : Lantern := ⟨[], [], 0, 0, 0, 0, -1050, 0xFF⟩

/-- A logical frame in a sub-channel's queue (R188): its CIF count and nominal instant, its bytes, and whether it holds an erasure. -/
structure LogicalFrame where
  cif : Nat
  instant : Nat
  data : Bytes
  erased : Bool
  deriving DecidableEq, Repr

/-- One sub-channel of the MCI in force (R188, R189): its record, the errors of its last 100 logical frames, CIFs received since it
appeared, and its queue. -/
structure SubChannel where
  id : Nat
  form : Nat
  protection : Nat
  start : Nat
  size : Nat
  errors : List Nat
  fill : Nat
  queue : List LogicalFrame
  deriving DecidableEq, Repr

/-- One record of the service table (R190). -/
structure DabService where
  comp : DabComp
  labelled : Bool
  pty : Nat
  charset : Nat
  mask : Nat
  label : Bytes
  asu : Nat
  deriving DecidableEq, Repr

/-- What an OFDM receiver has of its chain (R187, R192, R211): the samples of the latest frames by their numbers on the chain's grid, and
the stretches of ticks that conceal, from one tick up to another, which a fault that lasts has not. -/
structure Intake where
  samples : List FmSample
  spans : List (Nat × Option Nat)
  deriving DecidableEq, Repr

def Intake.init : Intake := ⟨[], []⟩

/-- A DAB ensemble receiver's hidden state, under its front engine (R182 to R198): when it entered its present state; the null start of
the latest frame with a good FIB since, how many such frames ran in succession, and how many frames without one; the latest null; when tracking
began;
whether FIG 0/0 has come; the MCI in force and the one announced, the frames that brought FIG 0/1 of the latter, and whether its CIF
count has passed without it; the services in force and announced; the ensemble's label,
charset, ECC and LTO; when the MCI in force took effect and its CIF count; table sequences; SI complete; the FIGs placed in
the last second; record sequences; the announcements, and what FIG 0/19 last said of each cluster and when; the linkage sets, frequencies
and other ensembles of R220; the chain's samples and markers; the deinterleaver's codes by CIF slot; and, of the present frame, ideal and
error power of the MSC points, channel errors and bits of the MSC, and the symbols concealed; the CRCs of the last 100 FIBs. -/
structure Dab where
  since : Nat
  goodAt : Option Nat
  goodRun : Nat
  badRun : Nat
  nullAt : Nat
  softFrom : Nat
  gotEnsemble : Bool
  subs : List SubChannel
  nextSubs : List SubChannel
  nextFrames : List Nat
  overdue : Bool
  services : List DabService
  nextServices : List DabService
  label : Bytes
  charset : Nat
  ecc : Nat
  lto : Int
  mciAt : Nat
  mciCif : Nat
  siComplete : Bool
  subSeq : Nat
  siSeq : Nat
  annSeq : Nat
  recentFigs : List (Bytes × Nat)
  figSeq : Nat
  dataSeq : Nat
  anns : List (Nat × Nat × Nat × Nat)
  annSeen : Map (Nat × Nat × Nat × Nat)
  links : Map (List (Nat × Nat))
  frequencies : List ((Nat × Nat) × List Nat)
  otherEnsembles : Map (List Nat)
  intake : Intake
  slots : Map (List Nat)
  points : Rat × Rat
  msc : Nat × Nat
  concealed : List Nat
  fibs : List Bool
  deriving DecidableEq, Repr

def Dab.init : Dab where
  since := 0
  goodAt := none
  goodRun := 0
  badRun := 0
  nullAt := 0
  softFrom := 0
  gotEnsemble := false
  subs := []
  nextSubs := []
  nextFrames := []
  overdue := false
  services := []
  nextServices := []
  label := List.replicate 16 0
  charset := 0
  ecc := 0
  lto := 0
  mciAt := 0
  mciCif := 0
  siComplete := false
  subSeq := 0
  siSeq := 0
  annSeq := 0
  recentFigs := []
  figSeq := 0
  dataSeq := 0
  anns := []
  annSeen := []
  links := []
  frequencies := []
  otherEnsembles := []
  intake := Intake.init
  slots := []
  points := (0, 0)
  msc := (0, 0)
  concealed := []
  fibs := []

/-- A DAB decoder's hidden state (R193 to R195): the service in force in each slot (SId, SCIdS), and the PAD sequence. -/
structure DabDecoder where
  sel : List (Nat × Nat)
  padSeq : Nat
  deriving DecidableEq, Repr

def DabDecoder.init : DabDecoder := ⟨[(0, 0), (0, 0)], 0⟩

/-- A frame of a decoder's output that no slot of its queue holds yet (R193 to R195): left, right, whether it is concealed, and whether
it is a silence frame. -/
structure VoiceFrame where
  l : Int
  r : Int
  hidden : Bool
  silent : Bool
  deriving DecidableEq, Repr

/-- The output of a decoder for one service (R193 to R195, R215): the grid's next frame once output has begun, the frames that wait for
a slot, the frames of the last good unit, bad units in succession, the frames of a ramp still to come, the latest source samples, and
the instant and erasure flag of the latest logical frames taken. -/
structure Voice where
  next : Option Nat
  waiting : List VoiceFrame
  last : List (Int × Int)
  bad : Nat
  ramp : Nat
  source : List (Int × Int)
  instant : Nat
  erased : Bool
  deriving DecidableEq, Repr

def Voice.init : Voice := ⟨none, [], [], 0, 480, [], 0, false⟩

/-- A cross-fade of the AM channel filter (R203): bandwidth left, bandwidth entered, the sample at which it
began. -/
structure AmFade where
  old : Nat
  new : Nat
  began : Nat
  deriving DecidableEq, Repr

/-- A sample of an AM engine (R201 to R205): its number on the 3,200-tick grid, the sample behind the carrier PLL, its phase error
in turns, whether it counts in the metrics, and whether it is concealed. -/
structure AmSample where
  i : Nat
  y : Cx
  err : Rat
  counts : Bool
  hidden : Bool
  deriving DecidableEq, Repr

/-- A sample behind the channel filter, and whether its envelope is an impulse (R203, R204). -/
structure AmTone where
  i : Nat
  z : Cx
  hit : Bool
  deriving DecidableEq, Repr

/-- The metrics of 1 ms (R206): its end, carrier level, offset, and the adjacent figures, in their units. -/
structure AmFigures where
  end_ : Nat
  level : Int
  offset : Int
  upper : Int
  lower : Int
  deriving DecidableEq, Repr

/-- The demodulator of an AM engine (R201 to R206): samples that wait; the next one; the markers; the samples and the filtered ones, as far back as they are needed; the PLL's phase in turns and its offset
in Hz; runs of 1 ms with a small and with a large phase error; the place of the cross-fade to synchronous demodulation in 1/960; the
carrier's magnitude; the next audio frame; the memory of the high-pass; the soft mute in dB; the peaks of the modulation in each 1 ms of
the last 100; and the metrics since the last publication. -/
structure AmDemod where
  waiting : List FmSample
  next : Nat
  marks : RxMarks
  ys : List AmSample
  zs : List AmTone
  pll : Rat × Rat
  near : Nat
  far : Nat
  sync : Nat
  carrier : Rat
  frame : Nat
  dc : Rat
  mute : Rat
  peaks : List Rat
  ms : List AmFigures
  deriving DecidableEq, Repr

def AmDemod.init : AmDemod :=
  ⟨[], 0, RxMarks.init, [], [], (0, 0), 0, 0, 0, 0, 0, 0, 20, [], []⟩

/-- An AM receiver's hidden state (R201 to R207): bandwidth in force, the fade, the pending bandwidth, the sample up to which the blanker
is suspended, the sample of the last bandwidth judgement, and the demodulator. -/
structure Am where
  width : Nat
  fade : Option AmFade
  wanted : Option Nat
  suspendedUntil : Nat
  judgedAt : Nat
  dem : AmDemod
  deriving DecidableEq, Repr

def Am.init : Am := ⟨3000, none, none, 0, 0, AmDemod.init⟩

/-- A DRM receiver's hidden state (R209 to R216): when it entered its present state; the mode that led the last window of the mode
search and that window; the last frame start that correlated; FACs in succession since that were good, and bad; the CRCs of the last 100 FACs and of the last 10 SDCs; the start of
the first kept frame, the kept frames' cells with their starts, the starts of the frames whose soft values are held, how many frames have come since the starting one, and the soft values' codes by frame slot;
super frames
decoded in state 4; SI complete; the tables with their sequences and the schedules; the data FIFO's record sequence;
the MSC queue (nominal instant and frame); and the chain's samples and markers. -/
structure Drm where
  since : Nat
  leader : Option (Nat × Nat)
  lastSync : Option Nat
  goodRun : Nat
  badRun : Nat
  facs : List Bool
  sdcs : List Bool
  kept : Option Nat
  keptCells : List (Nat × List (Option DrmCell))
  starts : List Nat
  frames : Nat
  slots : Map (List Nat)
  superFrames : Nat
  siComplete : Bool
  services : List DrmService
  siSeq : Nat
  alternatives : List DrmAlternative
  altSeq : Nat
  schedules : List DrmSchedule
  dataSeq : Nat
  queue : List (Nat × Bytes)
  intake : Intake
  deriving DecidableEq, Repr

def Drm.init : Drm where
  since := 0
  leader := none
  lastSync := none
  goodRun := 0
  badRun := 0
  facs := []
  sdcs := []
  kept := none
  keptCells := []
  starts := []
  frames := 0
  slots := []
  superFrames := 0
  siComplete := false
  services := []
  siSeq := 0
  alternatives := []
  altSeq := 0
  schedules := []
  dataSeq := 0
  queue := []
  intake := Intake.init

/-- A candidate of service following (R220 to R226): frequency, ID, system, origins, state, route, Q, when last evaluated,
last named by a source, last checked, until when a mismatch holds, and since when it has met its trigger. -/
structure Candidate where
  kHz : Nat
  id : Nat
  system : Nat
  origin : Nat
  state : Nat
  route : Nat
  q : Int
  evaluatedAt : Nat
  namedAt : Nat
  checkedAt : Option Nat
  mismatchUntil : Nat
  goodSince : Option Nat
  deriving DecidableEq, Repr

/-- A landing in progress (R227): candidate, slot, step (1 awaiting identity, 2 awaiting lock, 3 fading), when the step
began, the landing unit and its decoder slot, the unit in force when it began, and whether each of its latest figures met the
trigger. -/
structure Landing where
  kHz : Nat
  id : Nat
  system : Nat
  slot : Nat
  step : Nat
  since : Nat
  source : Nat
  former : Nat
  good : List Bool
  deriving DecidableEq, Repr

/-- A check of the AF-check engine (R140, R222): its chain, the candidate, the retune's instant, the quick-mode levels so far in 0.01
dBFSc; since when it decodes RDS, the values of the ID that came, and those of another PI. -/
structure AfCheck where
  chain : Nat
  kHz : Nat
  id : Nat
  at_ : Nat
  levels : List Int
  rds : Option Nat
  hits : Nat
  others : List Nat
  deriving DecidableEq, Repr

/-- A visit of the check ensemble receiver (R223): the frequency, the retune's instant, and the MER of each frame since. -/
structure EnsembleCheck where
  kHz : Nat
  at_ : Nat
  mers : List Int
  deriving DecidableEq, Repr

/-- Since when the Q of an FM receiver has been below the FM floor, and at or above the floor plus the hysteresis (R226). -/
structure FmRun where
  lowSince : Option Nat
  highSince : Option Nat
  deriving DecidableEq, Repr

/-- Service following (R219 to R229): candidates, their sequence, the checks and the landing in progress, the end of the
minimum stay, and the runs of the FM receivers. -/
structure Following where
  candidates : List Candidate
  seq : Nat
  afChecks : List AfCheck
  check : Option EnsembleCheck
  landing : Option Landing
  stayUntil : Nat
  runs : Map FmRun
  deriving DecidableEq, Repr

def Following.init : Following := ⟨[], 0, [], none, none, 0, []⟩

/-- A stereo frame (R245): its number on the grid of 3,200 ticks, left, right, and whether it is concealed. -/
structure AudioFrame where
  i : Nat
  l : Int
  r : Int
  hidden : Bool
  deriving DecidableEq, Repr

/-- A block of BS-PCM16 (R250): its shift and 32 mantissas. -/
structure PcmBlock where
  shift : Nat
  words : List Int
  deriving DecidableEq, Repr

def PcmBlock.init : PcmBlock := ⟨0, List.replicate 32 0⟩

/-- A delay line (R231, R250): its blocks by number, the first frame it holds, the copy of the open block, and the concealed frames in
it. -/
structure DelayLine where
  blocks : Map PcmBlock
  first : Nat
  open_ : List AudioFrame
  hidden : List Nat
  deriving DecidableEq, Repr

def DelayLine.init : DelayLine := ⟨[], 0, [], []⟩

/-- The figures of 1 ms of a slot's frames (R232, R236, R237): the envelope at its end; the sums of the squared mono signal as it is,
behind the 100 Hz high-pass, and in each band; frames, and concealed ones. -/
structure MonoMs where
  env : Rat
  power : Rat
  high : Rat
  bands : List Rat
  frames : Nat
  hidden : Nat
  deriving DecidableEq, Repr

def MonoMs.init : MonoMs := ⟨0, 0, 0, [0, 0, 0, 0, 0], 0, 0⟩

/-- What Gloaming measures of a slot's frames, before delay (R232, R236, R237): the memories of the filters, the ms in progress, the
latest full ones with the number of the last, and L + R of the latest frames. -/
structure Meter where
  low : Rat
  high : List Rat
  bands : List (List Rat)
  acc : MonoMs
  ms : List MonoMs
  last : Nat
  mono : List Int
  deriving DecidableEq, Repr

def Meter.init : Meter := ⟨0, [], [], MonoMs.init, [], 0, []⟩

/-- A blend fade (R238): slots left and entered, its lengths F and F_o in frames, its position x as a count of
1/(F × F_o), its first frame, whether it runs backwards, the curve and table copied, whether it is a blend-back of
following. -/
structure BlendFade where
  old : Nat
  new : Nat
  len : Nat
  back : Nat
  pos : Nat
  first : Nat
  reversing : Bool
  curve : Nat
  table : Bytes
  followBack : Bool
  deriving DecidableEq, Repr

/-- A delay build of the slot in force (R235): stretch or jump, frames of output it has run, and its share of delay. -/
structure Build where
  stretch : Bool
  frames : Nat
  share : Nat
  deriving DecidableEq, Repr

/-- An EQ fade (R237): the bank entered and the contents it had then, length, frames run. -/
structure EqFade where
  bank : Nat
  sections : Bytes
  len : Nat
  run : Nat
  deriving DecidableEq, Repr

/-- One Gloaming slot's hidden state (R230 to R237): the run of agreeing estimates (coarse ms, fine frames), the run of
disagreeing ones, fine lags that agree on a new lag, the lag it slews towards, the EQ fade, the last tonal select, its exact tail in
shared memory, frames since its last slew step; the next frame that it takes, the frames of the tail and how many it holds, the delay line, when each slot of frames
arrived, when the last bad frame or the assignment came; the meter; the instant of the last estimate; the level offset in dB and the one it moves to; and the memories of the EQ's
sections by bank. -/
structure GSlot where
  run : List (Int × Int)
  bad : Nat
  newLag : List Int
  slew : Option Int
  eqFade : Option EqFade
  selectAt : Option Nat
  tail : Option Nat
  slewFrames : Nat
  next : Option Nat
  frames : List AudioFrame
  tailLen : Nat
  line : DelayLine
  arrivals : List (Nat × Nat)
  cleanFrom : Nat
  meter : Meter
  estimatedAt : Nat
  gain : Rat
  goal : Rat
  eqA : List (List Rat)
  eqB : List (List Rat)
  deriving DecidableEq, Repr

def GSlot.init : GSlot :=
  ⟨[], 0, [], none, none, none, none, 0, none, [], 0, DelayLine.init, [], 0, Meter.init, 0, 0, 0, [], []⟩

/-- Gloaming (R230 to R240): the fade, what a pending request will run with (length, following), the build and the delay a
held build still owes, the next output frame, the output written lately, whose concealed frames are those for which no slot in use had
delivered, whether the last request was the host's, and the slots. -/
structure Gloaming where
  fade : Option BlendFade
  pendingLen : Nat
  pendingBack : Bool
  build : Option Build
  owed : Nat
  next : Nat
  output : List AudioFrame
  hostFade : Bool
  slots : Map GSlot
  deriving DecidableEq, Repr

def Gloaming.init : Gloaming := ⟨none, 0, false, none, 0, 0, [], false, []⟩

/-- One pair of an audio stream (R267): the source it plays, the change in progress (new source and the first frame of the
fade), and a write held behind it. -/
structure Pair where
  source : Nat
  change : Option (Nat × Nat)
  held : Option Nat
  deriving DecidableEq, Repr

def Pair.init : Pair := ⟨0, none, none⟩

/-- An audio stream's hidden state (R256 to R271): when it became ready to start; its start instant; source bound; next
content instant in 1/65,536 tick; the next frame to produce and the ring's frames, a sample for each slot; the first frame of a fade out, and why
(1 hold, 2 rate change, 3 underrun); the frame at which it re-enters, and the one from which it ramps in; the frame count when its clock was lost; whether it
re-pre-rolls; the loop: wide, integrator, since when the fill is near, whether c starts at 0, the frame of its last step; the rate of the last
identification or rate event; glitched frames in a row with the last one's number and event; a hold that has landed; the
instant of its first edge; the number of the next frame-start edge, the edges of the last 1 s, the stable frames in a row, and when the measured rate was last
published; the bits of the frame that SD carries now, in order; its pairs. -/
structure Stream where
  readyAt : Nat
  startAt : Nat
  bound : Nat
  content : Nat
  next : Nat
  ring : List (Nat × List Int)
  fadeFrom : Nat
  fadeWhy : Nat
  enterAt : Option Nat
  rampFrom : Option Nat
  lostCount : Nat
  rejoin : Bool
  wide : Bool
  integrator : Int
  nearSince : Option Nat
  zeroC : Bool
  loopAt : Nat
  refRate : Nat
  glitchRun : Nat
  glitchFrame : Nat
  glitchAt : Option Nat
  holdLanded : Bool
  firstEdge : Nat
  edgeNo : Nat
  edges : List (Nat × Nat)
  stable : Nat
  publishedAt : Nat
  wire : List Bool
  pairs : Map Pair
  deriving DecidableEq, Repr

def Stream.init : Stream :=
  ⟨0, 0, 0, 0, 0, [], 0, 0, none, none, 0, false, true, 0, none, true, 0, 0, 0, 0, none, false, 0, 0, [], 0, 0, [], []⟩

/-- The user data of the IEC output (R276): the programme last seen (system, ID, source), kind-5 packets still to send, the
PS and text last sent with their sequences by kind, whether PS is next, the last packet sent, and the user bits still to go out. -/
structure UserData where
  programme : Nat × Nat × Nat
  clears : Nat
  ps : Bytes
  text : Bytes
  seqs : Map Nat
  psNext : Bool
  last : Bytes
  bits : List Bool
  deriving DecidableEq, Repr

def UserData.init : UserData := ⟨(0xFF, 0, 0), 0, [], [], [], true, [], []⟩

/-- The IEC output (R274 to R276): the channel-status block in force, the validity bit and the two user bits of the frame that plays, the frames of
the ring that carry concealed content, and the user data. -/
structure Iec where
  status : Bytes
  validity : Nat
  now : Bool × Bool
  silent : List Nat
  user : UserData
  deriving DecidableEq, Repr

def Iec.init : Iec := ⟨List.replicate 24 0, 0, (false, false), [], UserData.init⟩

end Sys2Proof.Machine
end

