-- ==== Sys2Proof/Machine/PartsMesh.lean ====
section
/-!
DEFINITION. Machine/PartsMesh.lean: the hidden state of the mesh radio and Glimmer, the Voussoir link layer and the mesh
core, beside the dictionary objects that hold the rest of it.
-/
namespace Sys2Proof.Machine

/-- A calibration in progress (R288): which (0 VCO, 1 PA detector, 2 DC offset, 3 image), its start, the state it left. -/
structure Calib where
  kind : Nat
  started : Nat
  back : Nat
  deriving DecidableEq, Repr

/-- A wake transmission (R298): the request, the table index used, when its first telegram starts once it has been placed. -/
structure WakeTx where
  code : Nat
  target : Nat
  repeats : Nat
  freq : Nat
  power : Nat
  start : Option Nat
  deriving DecidableEq, Repr

/-- A radio test (R299): command, channel in kHz, table index, frames received, frames good, the sum of their RSSI. -/
structure RadioTest where
  cmd : Nat
  channel : Nat
  power : Nat
  frames : Nat
  good : Nat
  rssi : Int
  deriving DecidableEq, Repr

/-- The narrowband radio and Glimmer (R282 to R299): the preamble the narrowband receiver follows and until when at most, when RX began and the
RX time since the last DC calibration, when its state is reached, where the last change to TX began and when MSW_TX rises in it, the last
preamble, the offset of each band's drive codes, the octets of the frames last on air, the calibration in progress, since when each calibration is due by an event, the
PA temperature at each last calibration, whether a frame has been sent since the last PA calibration, when the frame on air and its ramp-down end, the channel of the last reception, wake transmission,
test, the last matching word's end while match mode is 1, the instants of spurious wakes, and the Glimmer wake that is
being judged. -/
structure Radio where
  receiving : Option Nat
  rxUntil : Nat
  rxSince : Option Nat
  rxTime : Nat
  arrives : Nat
  txFrom : Nat
  txHigh : Nat
  heard : Option Nat
  paOffset : Map Int
  air : List Bytes
  calib : Option Calib
  dueSince : Map (Option Nat)
  calTemp : Map Int
  sentSince : Bool
  airUntil : Nat
  rxChannel : Nat
  wake : Option WakeTx
  test : Option RadioTest
  matchEnd : Option Nat
  spurious : List Nat
  judged : Option Nat
  deriving DecidableEq, Repr

def Radio.init : Radio := ⟨none, 0, none, 0, 0, 0, 0, none, [], [], none, [(0, some 0)], [], false, 0, 0, none, none, none, [], none⟩

/-- A frame in selection (R294): its copies in order of arrival, the copy selected and when, and whether the link has taken the frame. -/
structure Reception where
  copies : List FrameCopy
  chosen : Option FrameCopy
  chosenAt : Nat
  taken : Bool
  deriving DecidableEq, Repr

/-- An entry of a DSN cache (R310): DSN, the frame counter or none, and the instant. -/
structure DsnEntry where
  dsn : Nat
  counter : Option Nat
  at_ : Nat
  deriving DecidableEq, Repr

/-- An acknowledgement that the device owes (R306 to R309): the end of the acknowledged frame, its DSN and source, whether
it is a NACK, the frame-pending bit, the time correction. -/
structure AckDue where
  last : Nat
  dsn : Nat
  dst : Addr
  nack : Bool
  pending : Bool
  correction : Int
  deriving DecidableEq, Repr

/-- Where a frame stands in the link sequencer (R311 to R314). -/
inductive TxStage where
  | queued | backoff | cca | armed | clear | sent | retry | ended
  deriving DecidableEq, Repr

/-- What a frame is for: a downlink by its handle, a join response, an automatic gate, a service response. -/
inductive Purpose where
  | downlink (handle : Nat)
  | join (ext : Nat)
  | gate (start width : Nat)
  | service
  deriving DecidableEq, Repr

/-- A frame handed to the link sequencer (R311 to R315): handle, purpose, node index (512 none), destination, AR, whether
it is secured, Voussoir payload, channel, preamble octets, wake frames before it, route of R342, the instant of a
scheduled frame, cancel-if-late, the sample instant and count aimed at, how late a start of the entry is; then NB, BE and
the backoff ticks left, the tries, DSN and frame counter, the first symbol and last symbol of the last try, the end of
the acknowledgement wait, and the report's status, flags, correction, LQ and power. -/
structure OutFrame where
  handle : Nat
  purpose : Purpose
  node : Nat
  dst : Addr
  ar : Bool
  secured : Bool
  body : Bytes
  channel : Nat
  preamble : Nat
  train : Nat
  route : Nat
  at_ : Option Nat
  cancelIfLate : Bool
  sample : Nat
  count : Nat
  stage : TxStage
  nb : Nat
  be : Nat
  left : Nat
  tries : Nat
  dsn : Nat
  counter : Nat
  first : Nat
  last : Nat
  wait : Nat
  status : Nat
  flags : Nat
  correction : Int
  lq : Nat
  power : Nat
  deriving DecidableEq, Repr

/-- The link sequencer (R301 to R318): frames in hand (oldest first), the next frame handle, the outgoing DSN, the next
secured counter, receptions, the acknowledgement owed, the shared DSN cache and the pending list of extended addresses,
the pending listen, the dwell and duty accounts (ticks by channel or sub-band and bucket), and the last transmit report. -/
structure Link where
  frames : List OutFrame
  nextHandle : Nat
  dsn : Nat
  receptions : List Reception
  ack : Option AckDue
  extCache : List (Nat × DsnEntry)
  extPending : List Nat
  listenUntil : Nat
  dwell : Map Nat
  duty : Map Nat
  report : Bytes
  deriving DecidableEq, Repr

def Link.init : Link := ⟨[], 1, 0, [], none, [], [], 0, [], [], []⟩

/-- A downlink queued for a node (R342): handle, kind, when its lifetime ends, body, tries, and whether the link has it. -/
structure Downlink where
  handle : Nat
  kind : Nat
  ends : Nat
  body : Bytes
  tries : Nat
  busy : Bool
  deriving DecidableEq, Repr

/-- A node-table entry with what the mesh core keeps beside it (R324 to R341): the fields of R340, the shadow map of R338
with its observations, the gate echoed and the instant of the last gate, the DSN cache, the queued downlinks, when a frame
was last accepted, the value types, the sample whose
miss its retry follows, when its wake train may go again and how many have gone, a miss still to be counted, and how many
updates have changed its mirror. -/
structure Node where
  ext : Nat
  short : Nat
  state : Nat
  role : Nat
  interval : Nat
  dnode : Nat
  listen : Nat
  valueCount : Nat
  lastCounter : Nat
  fix : Nat
  anchor : Nat
  misses : Nat
  lq : Nat
  rssi : Int
  hops : Nat
  via : Nat
  anchorCount : Nat
  period : Nat
  phase : Nat
  rotAt : Nat
  received : Nat
  delivered : Nat
  bins : List Nat
  binPeriod : Nat
  gateStart : Nat
  gateWidth : Nat
  observations : Nat
  echo : Nat
  gateAt : Option Nat
  cache : List DsnEntry
  queue : List Downlink
  heardAt : Nat
  types : Bytes
  retryFrom : Option Nat
  trainAt : Option Nat
  trains : Nat
  missAt : Option Nat
  changes : Nat
  deriving DecidableEq, Repr

def Node.init : Node :=
  ⟨0, 0, 0, 0, 0, 0, 0, 0, 0, 0, 0, 0, 0, 0, 0, 0, 0, 0, 0, 0, 0, 0, List.replicate 32 255, 0, 0, 0, 0, 0, none, [], [], 0,
    List.replicate 8 0, none, none, 0, none, 0⟩

/-- A frame delivered to the mesh core (R306): the MAC source, SFD instant, end, LQ, RSSI, and the Voussoir frame. -/
structure Delivered where
  src : Addr
  secured : Bool
  counter : Nat
  sfd : Nat
  last : Nat
  lq : Nat
  rssi : Int
  payload : Bytes
  deriving DecidableEq, Repr

/-- An accepted Voussoir frame whose kind is still to be acted on (R320): its node index (512 none), kind, body, and the
schedule and rotation blocks. -/
structure Work where
  from_ : Delivered
  node : Nat
  kind : Nat
  origin : Nat
  seq : Nat
  rotation : Bytes
  schedule : Bytes
  body : Bytes
  deriving DecidableEq, Repr

/-- A join response to send (R322, R323): the extended address, the end of the acknowledgement's ramp-down once known. -/
structure JoinDue where
  ext : Nat
  status : Nat
  index : Nat
  at_ : Option Nat
  deriving DecidableEq, Repr

/-- The mesh core (R319 to R342): the node table, the seen cache (origin × 65,536 + sequence, instant), the receive queue
of 16, accepted frames awaiting their kind, join responses due, the next downlink handle, the outgoing sequence, and when
the joining countdown was last set. -/
structure Mesh where
  nodes : Map Node
  seen : List (Nat × Nat)
  rx : List Delivered
  work : List Work
  joins : List JoinDue
  handle : Nat
  seq : Nat
  joinFrom : Nat
  deriving DecidableEq, Repr

def Mesh.init : Mesh := ⟨[], [], [], [], [], 1, 0, 0⟩

end Sys2Proof.Machine
end

