-- ==== Sys2Proof/Machine/PartsPorts.lean ====
section
/-!
DEFINITION. Machine/PartsPorts.lean: the hidden state of the check-value units, the three host ports, Quoin's process data
and the debug port.
-/
namespace Sys2Proof.Machine

/-- A context of a check-value unit with the bytes still to be fed (R408, R409): master, configuration, running register,
bytes left. -/
structure CvJob where
  master : Nat
  head : Bytes
  running : Nat
  left : Bytes
  deriving DecidableEq, Repr

/-- A check-value unit (R407, R408): the active context, the saved one, the ticks that a load or a switch still takes, and
the claims that wait. -/
structure Cv where
  active : Option CvJob
  saved : Option CvJob
  busy : Nat
  waiting : List CvJob
  deriving DecidableEq, Repr

def Cv.init : Cv := ⟨none, none, 0, []⟩

/-- A port that carries frames (R366, R377, R388 to R391; 1 Quoin, 2 two-wire, 3 SPI, 4 the debug port): the kept response
with its sequence, the open transfer, the unread responses and read segments in order, the item and the event
block consumed last, the Error and Reset bits of its status, and what it sent because of the last command that reached it
(`out`, the model's own record; notes/assumptions/2.md). -/
structure Port where
  kept : Option (Nat × Bytes)
  transfer : Option Transfer
  unread : List Bytes
  lastItem : Bytes
  lastEvents : Bytes
  error : Bool
  reset : Bool
  out : List Bytes
  deriving DecidableEq, Repr

def Port.init : Port := ⟨none, none, [], [], [], false, false, []⟩

/-- The Quoin controller (R380, R386): when its last event frame was sent, when it was last active. -/
structure Quoin where
  eventAt : Option Nat
  activeAt : Nat
  deriving DecidableEq, Repr

def Quoin.init : Quoin := ⟨none, 0⟩

/-- The two-wire port (R398 to R400): whether the target sleeps, the START that woke it, when a transaction was last
addressed to it, which of Response and Event a notify has told of, and since when the notify repeat interval runs. -/
structure TwoWire where
  asleep : Bool
  wokenAt : Option Nat
  lastAt : Nat
  toldResponse : Bool
  toldEvent : Bool
  since : Nat
  deriving DecidableEq, Repr

def TwoWire.init : TwoWire := ⟨false, none, 0, false, false, 0⟩

/-- A process-data frame (R381 to R383): its transmission counter, the flags and values that wait for the bus, the values last
sent (none since it was enabled), the instant of its last build, the mirror updates counted at that build, and whether a change
is held by the inhibit. -/
structure Pdo where
  counter : Nat
  waiting : Option (Nat × List Bytes)
  sent : Option (List Bytes)
  built : Option Nat
  seen : List Nat
  held : Bool
  deriving DecidableEq, Repr

def Pdo.init : Pdo := ⟨0, none, none, none, [], false⟩

/-- A store in progress (R353): the snapshot taken and its size. -/
structure Saving where
  snapshot : Map Val
  size : Nat
  deriving DecidableEq, Repr

end Sys2Proof.Machine
end

