-- ==== Sys2Proof/Machine/State.lean ====
section
/-!
DEFINITION. Machine/State.lean: the state of the OL2460 as plain data, its reset value, and the reasons to stop.
Every subindex of the object dictionary has one home, `dict` (RWS subindices: the staged copy; the values in force are
in `committed`); the other fields hold what the specification gives the machine beside its objects.
-/
namespace Sys2Proof.Machine

/-- The machine. -/
structure State where
  /-- Commands waiting, first in, first out. -/
  pending : List Instr
  /-- The mode in force (R17). -/
  mode : Mode
  /-- Whether the ready event has been raised since reset (R349 check 1). -/
  ready : Bool
  /-- The Gnomon count (R38, R39). -/
  gnomon : Nat
  /-- The model's own counter of free values taken (notes/assumptions/3.md); no value of the specification's. -/
  freeCtr : Nat
  /-- The object dictionary's values that differ from their defaults, by key (R343, R351). -/
  dict : Map Val
  /-- The committed copy of RWS values (R23, R102), by key. -/
  committed : Map Val
  /-- RES objects whose outcome is awaited or whose producer has cold-started (R355), ascending keys. -/
  awaiting : List Nat
  /-- Commands held behind an awaited outcome (R356), by the command object's key. -/
  held : Map (Option HeldCmd)
  /-- FIFO objects (R357), by key. -/
  fifos : Map Fifo
  /-- Events: history, queues, held before ready (R362 to R365). -/
  events : Events
  /-- The dictionary engine's answer to the last request. -/
  answer : Answer
  /-- The host ports that have answered a request since reset, bit p − 1 for port p (R366). -/
  answeredPorts : Nat
  /-- The launch table's armed entries (R42, R43), by entry index. -/
  launch : Map (Option LaunchEntry)
  /-- Leaves prepared so far for a start or resume entry (R33), by entry index. -/
  prep : Map Prep
  /-- Holds in progress (R34). -/
  holdings : List Holding
  /-- Accelerator holdings (R29): shares held, by accelerator instance × 256 + owner. -/
  shares : Map Nat
  /-- Accelerators configured since they last left DORMANT (R29), ascending instances. -/
  accelConfigured : List Nat
  /-- The state that verbs addressed to an accelerator itself have brought it to while no course names it (R25, R29): 2 RUNNING,
  3 HELD, by instance. -/
  accelOwn : Map Nat
  /-- The anchors taken lately, the newest first: of each source, those back to the last one at least 10 minutes old (R60). -/
  utcPrev : List UtcPrev
  /-- TB_SYNC's last pulse and edge (R55, R58). -/
  tbSync : TbSync
  /-- OTP (R412). -/
  otp : Otp
  /-- Flash (R442). -/
  flash : Flash
  /-- Security (R412 to R432). -/
  sec : Security
  /-- The event log (R440, R441). -/
  log : Log
  /-- The update in progress (R443). -/
  upd : Update
  /-- The last kind 0x09 firing: its tick, mask and levels (R475). -/
  gpioFired : Option (Nat × Nat × Nat)
  /-- The power manager (R450 to R470). -/
  power : Power
  /-- The RF paths, 0 A and 1 B (R62 to R76). -/
  paths : Map RfPath
  /-- Since when the AM level has stayed below its release level (R65). -/
  amQuietSince : Option Nat
  /-- The antenna supplies (R78, R79). -/
  antennas : Map Antenna
  /-- Plumb of each path (R82 to R97). -/
  plumb : Map Plumb
  /-- The chains DC0 to DC31 (R101 to R124). -/
  chains : Map Chain
  /-- The engines DE0 to DE11 (R126 to R140). -/
  engines : Map Engine
  /-- Engines whose loads wait or run, in order of acceptance (R130). -/
  loads : List Nat
  /-- The accelerators (R133 to R135). -/
  accels : Map Accel
  /-- The instants of the units' last claims (R435), by unit ID. -/
  claimedAt : Map Nat
  /-- Shared-memory buffers, ascending bases (R241 to R243). -/
  shm : List Alloc
  /-- The capture descriptors (R251 to R253). -/
  captures : Map Capture
  /-- The FM receivers of DE0 to DE11 (R143 to R161). -/
  fms : Map Fm
  /-- PCM queues (R245), by engine × 8 + output, 408-byte slots oldest first, with the slot sequence. -/
  pcm : Map (List Bytes)
  /-- The slot sequences of the PCM queues (R245). -/
  pcmSeq : Map Nat
  /-- The frames that the audio engine has taken from the queues that streams read (R257, R260), by queue. -/
  heard : Map (List AudioFrame)
  /-- The TMC decoder (R159, R160). -/
  tmc : Tmc
  /-- Lantern (R163 to R177). -/
  lantern : Lantern
  /-- The DAB ensemble receivers, by front engine (R179 to R198). -/
  dabs : Map Dab
  /-- The DAB audio decoders (R193 to R195). -/
  dabDecoders : Map DabDecoder
  /-- The outputs of the DAB and DRM audio decoders (R193 to R195, R215), by engine × 8 + output. -/
  voices : Map Voice
  /-- The AM receivers (R201 to R207). -/
  ams : Map Am
  /-- The DRM receivers (R208 to R216). -/
  drms : Map Drm
  /-- The service in force in each DRM decoder (R215). -/
  drmSel : Map Nat
  /-- Service following (R219 to R229). -/
  following : Following
  /-- Gloaming (R230 to R240). -/
  gloaming : Gloaming
  /-- The audio streams, 0 to 3 AP0 to AP3 and 4 the IEC output (R258 to R271). -/
  streams : Map Stream
  /-- The IEC output's channel status and user data (R274, R276). -/
  iec : Iec
  /-- The mesh radio and Glimmer (R281 to R299). -/
  radio : Radio
  /-- The link sequencer (R301 to R318). -/
  link : Link
  /-- The mesh core (R319 to R342). -/
  mesh : Mesh
  /-- The check-value units CV0 to CV3 (R406 to R411). -/
  cvs : Map Cv
  /-- The host ports 1 to 3 and the debug port 4 (R366 to R405, R428). -/
  ports : Map Port
  /-- The Quoin controller (R380, R386). -/
  quoin : Quoin
  /-- The two-wire port (R398 to R400). -/
  twoWire : TwoWire
  /-- The process-data frames (R381 to R383). -/
  pdos : Map Pdo
  /-- The store in progress (R353). -/
  saving : Option Saving
  deriving DecidableEq, Repr

/-- No command of this model ends in a fault of the machine: every fault of the specification is an effect on the state
(a unit in FAULTED, mode SAFE, an abort code). The one constructor is raised by nobody; safe. -/
inductive Fault where
  /-- Raised by nobody; safe. -/
  | none
  deriving DecidableEq, Repr

/-- Why a command has no effect in the model. -/
inductive Refusal where
  /-- Raised by `exec` for a command with no meaning yet; safe: nothing can be proved of its effect. -/
  | notModelled (mnemonic : String)
  deriving DecidableEq, Repr

/-- OTP as the model starts it (R412): no fuse of a later group blown, no key programmed, zero trims
(DESIGN CHOICE: the specification gives no OTP contents; notes/assumptions/6.md). -/
def Otp.init : Otp :=
  ⟨8, 0, 0, List.replicate 4 (List.replicate 32 0), 0, 0, 0, 0, List.replicate 32 0, []⟩

/-- A catalogue entry of R128 for an image of R127: ID, size in KB, version 1.0, engines per instance, valid, no hash. -/
def catalogueEntry (id kb engines : Nat) : Bytes :=
  leNat 2 id ++ leNat 2 kb ++ leNat 4 0x01000000 ++ [engines, 1, 0, 0, 0, 0, 0, 0]

/-- The bank a device leaves the factory with (R442): confirmed, images of the five kinds of R415 signed for the ROM test key,
and the images of R127 (version and signer DESIGN CHOICE; notes/assumptions/6.md). -/
def Bank.factory : Bank :=
  ⟨3, 0x01000000, [1, 2, 3, 4, 5].map fun k => ⟨k, 0x01000000, 0, 0xFF, List.replicate 32 0⟩,
    [catalogueEntry 0x0101 112 1, catalogueEntry 0x0102 64 1, catalogueEntry 0x0103 156 2, catalogueEntry 0x0104 140 1,
      catalogueEntry 0x0105 144 1, catalogueEntry 0x0201 148 1, catalogueEntry 0x0202 176 1, catalogueEntry 0x0301 72 1,
      catalogueEntry 0x0302 40 1]⟩

/-- Flash as a device leaves the factory (R442): bank A confirmed and running, bank B empty; empty store, key store and
records. -/
def Flash.init : Flash :=
  ⟨Bank.factory, ⟨0, 0, [], []⟩, 0, 0, [], 0, 0, [], [], 0, 0, none, 0, [], []⟩

/-- The machine right after reset (R351, R456): BOOT, not ready, Gnomon 0, every object at its default, nothing armed. -/
def State.reset : State where
  pending := []
  mode := .boot
  ready := false
  gnomon := 0
  freeCtr := 0
  dict := []
  committed := []
  awaiting := []
  held := []
  fifos := []
  events := Events.init
  answer := Answer.init
  answeredPorts := 0
  launch := []
  prep := []
  holdings := []
  shares := []
  accelConfigured := []
  accelOwn := []
  utcPrev := []
  tbSync := ⟨none, none⟩
  otp := Otp.init
  flash := Flash.init
  sec := Security.init
  log := Log.init
  upd := Update.init
  gpioFired := none
  power := Power.init
  paths := []
  amQuietSince := none
  antennas := []
  plumb := []
  chains := []
  engines := []
  loads := []
  accels := []
  claimedAt := []
  shm := []
  captures := []
  fms := []
  pcm := []
  pcmSeq := []
  heard := []
  tmc := Tmc.init
  lantern := Lantern.init
  dabs := []
  dabDecoders := []
  voices := []
  ams := []
  drms := []
  drmSel := []
  following := Following.init
  gloaming := Gloaming.init
  streams := []
  iec := Iec.init
  radio := Radio.init
  link := Link.init
  mesh := Mesh.init
  cvs := []
  ports := []
  quoin := Quoin.init
  twoWire := TwoWire.init
  pdos := []
  saving := none

end Sys2Proof.Machine
end

