-- ==== Sys2Proof/Machine/Ops.lean ====
section
/-!
DEFINITION. Machine/Ops.lean: the named operations over State: the sparse maps, the object values, events and the log,
result objects, FIFO objects, unit states, the launch table, and Gnomon.
-/
namespace Sys2Proof.Machine

/-! ### Sparse maps -/

/-- The value at a key: the listed one, or `d` of the key. -/
def Map.get {α : Type} (d : Nat → α) : Map α → Nat → α
  | [], k => d k
  | (k', v) :: m, k => if k = k' then v else Map.get d m k

/-- A map without a key. -/
def Map.erase {α : Type} (m : Map α) (k : Nat) : Map α := m.filter fun p => p.1 != k

/-- A pair put at its place among ascending keys. -/
def Map.insert {α : Type} (k : Nat) (v : α) : Map α → Map α
  | [] => [(k, v)]
  | (k', w) :: m => if k < k' then (k, v) :: (k', w) :: m else (k', w) :: Map.insert k v m

/-- A map with the value at a key replaced; a value equal to the default is not listed, which keeps `Map.wf`. -/
def Map.put {α : Type} [DecidableEq α] (d : Nat → α) (m : Map α) (k : Nat) (v : α) : Map α :=
  if v = d k then m.erase k else Map.insert k v (m.erase k)

/-- Whether keys ascend strictly and no entry equals its default. -/
def Map.wf {α : Type} [DecidableEq α] (d : Nat → α) : Map α → Bool
  | [] => true
  | [(k, v)] => v != d k
  | (k, v) :: (k', w) :: m => v != d k && decide (k < k') && Map.wf d ((k', w) :: m)

/-! ### Object values -/

/-- The value of a subindex. -/
def State.val (s : State) (k : Nat) : Val := Map.get dflt s.dict k

/-- The number held by a subindex; 0 for one that holds bytes. -/
def State.num (s : State) (k : Nat) : Int :=
  match s.val k with
  | .num i => i
  | .raw _ => 0

/-- The number held by a subindex, as a natural number. -/
def State.nat (s : State) (k : Nat) : Nat := (s.num k).toNat

/-- The bytes held by a subindex; none for one that holds a number. -/
def State.bytes (s : State) (k : Nat) : Bytes :=
  match s.val k with
  | .num _ => []
  | .raw b => b

/-- A subindex set to a value. -/
def State.setVal (k : Nat) (v : Val) (s : State) : State := { s with dict := Map.put dflt s.dict k v }

/-- A subindex set to a number. -/
def State.setNum (k : Nat) (i : Int) (s : State) : State := s.setVal k (.num i)

/-- A subindex set to a natural number. -/
def State.setNat (k : Nat) (n : Nat) (s : State) : State := s.setVal k (.num n)

/-- A subindex set to bytes. -/
def State.setBytes (k : Nat) (b : Bytes) (s : State) : State := s.setVal k (.raw b)

/-- Several subindices set to natural numbers, in order. -/
def State.setAll : List (Nat × Int) → State → State
  | [], s => s
  | (k, i) :: ps, s => State.setAll ps (s.setNum k i)

/-- A counter of 32 bits raised by `n`, saturating. -/
def State.bumpBy (k n : Nat) (s : State) : State := s.setNat k (satAdd 32 (s.nat k) n)

/-- A counter of 32 bits raised by one, saturating. -/
def State.bump (k : Nat) (s : State) : State := s.bumpBy k 1

/-- A counter of 16 bits raised by one, saturating. -/
def State.bump16 (k : Nat) (s : State) : State := s.setNat k (satAdd 16 (s.nat k) 1)

/-- The committed value of an RWS subindex. -/
def State.cval (s : State) (k : Nat) : Val := Map.get dflt s.committed k

/-- The committed number of an RWS subindex. -/
def State.cnum (s : State) (k : Nat) : Int :=
  match s.cval k with
  | .num i => i
  | .raw _ => 0

/-- The committed number of an RWS subindex, as a natural number. -/
def State.cnat (s : State) (k : Nat) : Nat := (s.cnum k).toNat

/-- The committed bytes of an RWS subindex. -/
def State.cbytes (s : State) (k : Nat) : Bytes :=
  match s.cval k with
  | .num _ => []
  | .raw b => b

/-- The staged values of some subindices committed (R23, R102). -/
def State.commitKeys : List Nat → State → State
  | [], s => s
  | k :: ks, s => State.commitKeys ks { s with committed := Map.put dflt s.committed k (s.val k) }

/-- A committed value set directly. -/
def State.setCommitted (k : Nat) (v : Val) (s : State) : State :=
  { s with committed := Map.put dflt s.committed k v }

/-- Staged and committed values of some subindices back at their defaults. -/
def State.clearKeys : List Nat → State → State
  | [], s => s
  | k :: ks, s =>
    State.clearKeys ks { s with dict := s.dict.erase k, committed := s.committed.erase k }

/-! ### Free values -/

/-- A fresh free value below `m` (notes/assumptions/3.md), and the state with the counter advanced. -/
def State.fresh (m : Nat) (s : State) : Nat × State :=
  (Config.free s.freeCtr % m, { s with freeCtr := s.freeCtr + 1 })

/-! ### Events and the log -/

/-- The payload of an event: fields packed at their widths in order; a field that does not fit whole in 16 bytes is left
out with every field after it; unused bytes are zero (R362, R489). -/
def packFields : Nat → List (Nat × Int) → Bytes
  | room, [] => List.replicate room 0
  | room, (w, v) :: fs => if w ≤ room then leInt w v ++ packFields (room - w) fs else List.replicate room 0

/-- The 32-byte record of an event (R362). -/
def Event.encode (e : Event) : Bytes :=
  leNat 4 e.seq ++ leNat 8 e.instant ++ leNat 1 e.cls ++ leNat 1 e.kind ++ leNat 2 e.src ++ padTo 16 e.payload

/-- The next result sequence: 1 after 0 and after 65,535 (R354). -/
def nextSeq (n : Nat) : Nat := if 65535 ≤ n then 1 else n + 1

/-- The result sequence of a RES object (R354): bytes 0 and 1. -/
def State.resSeq (s : State) (k : Nat) : Nat := ofLe ((s.bytes k).take 2)

/-- A result issued in a RES object (R354): the next sequence, then the body; the object is ready (R355). -/
def State.issue (k : Nat) (body : Bytes) (s : State) : State :=
  let s := s.setBytes k (leNat 2 (nextSeq (s.resSeq k)) ++ body)
  { s with awaiting := s.awaiting.filter (· != k) }

/-- A RES object that is not ready until its next result (R355). -/
def State.await (k : Nat) (s : State) : State := { s with awaiting := insertSorted k s.awaiting }

/-- The body of the sync snapshot 0x1020:07 (R366). -/
def State.syncBody (s : State) : Bytes :=
  leNat 1 s.answeredPorts ++ leNat 1 (s.nat 0x102001) ++ leNat 1 (s.nat 0x102002) ++ leNat 1 (s.nat 0x102003) ++ [0, 0]
    ++ leNat 4 (s.nat 0x980006) ++ leNat 4 (s.nat 0x102005)

/-- The sync snapshot issued when any of its fields has changed (R354, R366). -/
def State.refreshSync (s : State) : State :=
  if (s.bytes 0x102007).drop 2 = s.syncBody then s else s.issue 0x102007 s.syncBody

/-- One event put into a port's queue of 64, or counted in its drop counter when the queue is full (R365). -/
def enqueueEvent (on : Bool) (q : List Event) (e : Event) : List Event × Bool :=
  if !on then (q, false) else if q.length < 64 then (q ++ [e], false) else (q, true)

/-- An event raised: it takes the next sequence, joins the history of 256 and the queue of each enabled port
(R364, R365). -/
def State.issueEvent (e : Event) (s : State) : State :=
  let n := (s.nat 0x980006 + 1) % 2 ^ 32
  let e := { e with seq := n }
  let en := s.nat 0x980002
  let q1 := enqueueEvent (bitOf en 0) s.events.quoinQ e
  let q2 := enqueueEvent (bitOf en 1) s.events.twoWireQ e
  let q3 := enqueueEvent (bitOf en 2) s.events.spiQ e
  let s := { s with events := { s.events with
    history := lastN 256 (s.events.history ++ [e]), quoinQ := q1.1, twoWireQ := q2.1, spiQ := q3.1 } }
  let s := if q1.2 then s.bump 0x980003 else s
  let s := if q2.2 then s.bump 0x980004 else s
  let s := if q3.2 then s.bump 0x980005 else s
  (s.setNat 0x980006 n).refreshSync

/-- An event detected before the ready event: held, up to 64; further ones are counted (R364). -/
def State.holdEvent (e : Event) (s : State) : State :=
  if s.events.held.length < 64 then { s with events := { s.events with held := s.events.held ++ [e] } }
  else { s with events := { s.events with uncounted := satAdd 16 s.events.uncounted 1 } }

/-- The log mask with the classes that are always logged: 3, 4 and 23 (R440). -/
def State.logs (s : State) (cls : Nat) : Bool :=
  cls == 3 || cls == 4 || cls == 23 || bitOf (s.nat 0x710001) (cls - 1)

/-- One entry appended to the log (R440). When the ring of 4,096 would overwrite an unflushed entry, that entry is
dropped and counted in 0x7100:07 (R441). -/
def State.appendLog (cls kind detail : Nat) (s : State) : State :=
  let e : LogEntry := ⟨s.log.next, s.gnomon / 256 % 2 ^ 48, s.flash.resetCount % 65536, cls, kind, detail % 65536⟩
  let full := 4096 ≤ s.log.sram.length
  let sram := if full then s.log.sram.drop 1 else s.log.sram
  let s := if full then s.bump 0x710007 else s
  { s with log := { s.log with
      sram := sram ++ [e]
      oldestAt := if s.log.sram.isEmpty then s.gnomon else s.log.oldestAt
      next := (s.log.next + 1) % 2 ^ 32 } }

/-- An event raised if its class is enabled (R364): at once after the ready event, held before it. -/
def State.tell (cls kind src : Nat) (fields : List (Nat × Int)) (s : State) : State :=
  if bitOf (s.nat 0x980001) (cls - 1) then
    let e : Event := ⟨0, s.gnomon, cls, kind, src, packFields 16 fields⟩
    if s.ready then s.issueEvent e else s.holdEvent e
  else s

/-- An event detected: logged if its class is (R440), then raised. -/
def State.raise (cls kind src : Nat) (fields : List (Nat × Int)) (s : State) : State :=
  (if s.logs cls then s.appendLog cls kind src else s).tell cls kind src fields

/-- The subindices that raising an event may write: the drop counters, the last sequence, the sync snapshot, the log's drops. -/
def eventKeys : List Nat := [0x980003, 0x980004, 0x980005, 0x980006, 0x102007, 0x710007]

/-- A result issued in a RES object paired with a CMD object: its result event (R356) carries the index as source, then
the subindex, the result sequence and the abort code (DEDUCED, notes/assumptions/8.md). -/
def State.issuePaired (k code : Nat) (body : Bytes) (s : State) : State :=
  let s := s.issue k body
  s.raise 24 1 (k / 256) [(1, (k % 256 : Nat)), (2, s.resSeq k), (2, code)]

/-! ### FIFO objects -/

/-- A FIFO object. -/
def State.fifo (s : State) (k : Nat) : Fifo := Map.get (fun _ => Fifo.init) s.fifos k

/-- A FIFO object replaced. -/
def State.setFifo (k : Nat) (f : Fifo) (s : State) : State :=
  { s with fifos := Map.put (fun _ => Fifo.init) s.fifos k f }

/-- A record appended to a FIFO of at most `cap` records; the flag tells whether it was dropped. -/
def State.pushFifo (k cap : Nat) (rec : Bytes) (s : State) : State × Bool :=
  let f := s.fifo k
  if f.recs.length < cap then (s.setFifo k { f with recs := f.recs ++ [rec] }, false) else (s, true)

/-- A FIFO emptied. -/
def State.clearFifo (k : Nat) (s : State) : State :=
  s.setFifo k { s.fifo k with recs := [] }

/-! ### Units -/

/-- Whether a unit ID is assigned (R22). -/
def unitExists (u : Nat) : Bool :=
  let n := u % 256
  match u / 256 with
  | 1 => n < 32
  | 2 => n < 12
  | 3 => n < 48
  | 4 => n < 5
  | 5 => n < 3
  | 6 => n < 8
  | 7 => n < 1
  | 8 => n < 2
  | _ => false

/-- The instances of a unit class (R22). -/
def classSize (c : Nat) : Nat :=
  match c with
  | 1 => 32
  | 2 => 12
  | 3 => 48
  | 4 => 5
  | 5 => 3
  | 6 => 8
  | 7 => 1
  | 8 => 2
  | _ => 0

/-- The key of a subindex of a unit's descriptor (R23). -/
def desc (u sub : Nat) : Nat := obj (0x2100 + 64 * (u / 256) + u % 256) sub

/-- A unit's state (R24): 0 DORMANT, 1 CONFIGURED, 2 RUNNING, 3 HELD, 4 FAULTED. -/
def State.ustate (s : State) (u : Nat) : Nat := s.nat (desc u 2)

/-- A unit's owner field (R23). -/
def State.owner (s : State) (u : Nat) : Nat := s.nat (desc u 3)

/-- A unit's parent course (R23). -/
def State.parent (s : State) (u : Nat) : Nat := s.nat (desc u 4)

/-- The instant of a unit's claim recorded (R435). -/
def State.claimNow (u : Nat) (s : State) : State :=
  { s with claimedAt := Map.put (fun _ => 0) s.claimedAt u s.gnomon }

/-- A unit claimed for an owner (R23, R435). -/
def State.claimedBy (u owner : Nat) (s : State) : State := (s.claimNow u).setNat (desc u 3) owner

/-- A unit's state changed, with the unit-state event of R26 when it differs. -/
def State.setUState (u new cause verb : Nat) (s : State) : State :=
  let old := s.ustate u
  if old = new then s
  else (s.setNat (desc u 2) new).raise 5 1 u [(1, old), (1, new), (1, cause), (1, verb)]

/-- A unit's state changed without an event: bring-up (R364). -/
def State.setUStateQuiet (u new : Nat) (s : State) : State := s.setNat (desc u 2) new

/-- The state changes of several units, in order. -/
def State.setUStates (us : List Nat) (new cause verb : Nat) (s : State) : State :=
  us.foldl (fun s u => s.setUState u new cause verb) s

/-- Every unit ID of R22, ascending. -/
def allUnits : List Nat :=
  [1, 2, 3, 4, 5, 6, 7, 8].flatMap fun c => (List.range (classSize c)).map fun n => c * 256 + n

/-- The member entries of a course, committed (R23, R31): unit and shares. -/
def State.members (s : State) (c : Nat) : List (Nat × Nat) :=
  (List.range (min 16 (s.cnat (desc c 9)))).map fun i =>
    let e := s.cnat (desc c (0x10 + i))
    (e % 65536, e / 65536 % 256)

/-- The member entries of a course as staged. -/
def State.stagedMembers (s : State) (c : Nat) : List (Nat × Nat) :=
  (List.range (min 16 (s.nat (desc c 9)))).map fun i =>
    let e := s.nat (desc c (0x10 + i))
    (e % 65536, e / 65536 % 256)

/-- The leaves below a unit in depth-first member order (R33); a unit that is no course is its own leaf. -/
def State.leavesFuel (s : State) : Nat → Nat → List Nat
  | 0, _ => []
  | fuel + 1, u => if u / 256 = 3 then (s.members u).flatMap fun m => s.leavesFuel fuel m.1 else [u]

/-- The courses of a tree, the top first, depth-first. -/
def State.coursesFuel (s : State) : Nat → Nat → List Nat
  | 0, _ => []
  | fuel + 1, u => if u / 256 = 3 then u :: (s.members u).flatMap fun m => s.coursesFuel fuel m.1 else []

/-- The leaves of a unit or course (R33); the tree is at most 8 deep (R31). -/
def State.leaves (s : State) (u : Nat) : List Nat := s.leavesFuel 9 u

/-- The courses of a tree. -/
def State.courses (s : State) (u : Nat) : List Nat := s.coursesFuel 9 u

/-- The rank of a leaf (R33): 0 accelerators, 1 engines, 2 mesh units, 3 audio units, 4 chains and Lantern. -/
def rankOf (u : Nat) : Nat :=
  match u / 256 with
  | 6 => 0
  | 2 => 1
  | 5 => 2
  | 4 => 3
  | _ => 4

/-- Leaves sorted stably by rank (R33). -/
def byRank (us : List Nat) : List Nat :=
  [0, 1, 2, 3, 4].flatMap fun r => us.filter fun u => rankOf u == r

/-- The top-level course above a unit, or the unit itself. -/
def State.topFuel (s : State) : Nat → Nat → Nat
  | 0, u => u
  | fuel + 1, u => if s.parent u = 0xFFFF then u else s.topFuel fuel (s.parent u)

/-- The top-level course above a unit, or the unit itself. -/
def State.top (s : State) (u : Nat) : Nat := s.topFuel 9 u

/-! ### Accelerator shares -/

/-- The shares of accelerator instance `a` that an owner holds (R29). -/
def State.sharesOf (s : State) (a owner : Nat) : Nat := Map.get (fun _ => 0) s.shares (a * 256 + owner)

/-- An owner's holding set. -/
def State.setShares (a owner n : Nat) (s : State) : State :=
  { s with shares := Map.put (fun _ => 0) s.shares (a * 256 + owner) n }

/-- What an accelerator's own verbs have made of it (R25): 2 RUNNING, 3 HELD, 0 neither. -/
def State.setAccelOwn (a st : Nat) (s : State) : State := { s with accelOwn := Map.put (fun _ => 0) s.accelOwn a st }

/-- Every holder of an accelerator, ascending. -/
def State.holders (s : State) (a : Nat) : List Nat :=
  (s.shares.filter fun p => p.1 / 256 == a && p.2 != 0).map fun p => p.1 % 256

/-- The owner field of an accelerator (R29): 0xFE while class H holds shares, else the lowest internal holder, else 0xFF. -/
def State.accelOwner (s : State) (a : Nat) : Nat :=
  let hs := s.holders a
  if hs.contains 0xFE then 0xFE else hs.head?.getD 0xFF

/-- The shares of an accelerator's unit ID that the member entries of one owner's courses name (R29). -/
def State.namedShares (s : State) (u owner : Nat) : Nat :=
  ((List.range 48).map fun i =>
    let c := 0x300 + i
    if s.owner c = owner then ((s.members c).filter fun m => m.1 == u).foldl (fun t m => t + m.2) 0 else 0).foldl (· + ·) 0

/-- The courses whose committed members name a unit. -/
def State.naming (s : State) (u : Nat) : List Nat :=
  ((List.range 48).map (0x300 + ·)).filter fun c => (s.members c).any fun m => m.1 == u

/-- Descriptor fields 03 and 06 of an accelerator brought in line with its holdings (R29). -/
def State.refreshAccel (a : Nat) (s : State) : State :=
  let used := (s.holders a).foldl (fun t h => t + s.sharesOf a h) 0
  (s.setNat (desc (0x600 + a) 3) (s.accelOwner a)).setNat (desc (0x600 + a) 6) (16 - used)

/-- The state an accelerator reads from the courses that name it (R29): RUNNING while any runs, HELD while all are held,
CONFIGURED once configured, DORMANT otherwise. One that no course names keeps what its own verbs made of it (R25). -/
def State.accelState (s : State) (a : Nat) : Nat :=
  let cs := s.naming (0x600 + a)
  let own := Map.get (fun _ => 0) s.accelOwn a
  if cs.any fun c => s.ustate c == 2 then 2
  else if !cs.isEmpty && cs.all fun c => s.ustate c == 3 then 3
  else if cs.isEmpty && own != 0 then own
  else if s.accelConfigured.contains a && !(s.holders a).isEmpty then 1
  else 0

/-! ### The launch table -/

/-- Launch entry `n`, if armed. -/
def State.entry (s : State) (n : Nat) : Option LaunchEntry := Map.get (fun _ => none) s.launch n

/-- Launch entry `n` replaced or freed. -/
def State.setEntry (n : Nat) (e : Option LaunchEntry) (s : State) : State :=
  { s with launch := Map.put (fun _ => none) s.launch n e }

/-- The lowest free entry among `lo` to 63 (R42). -/
def State.freeEntry (s : State) (lo : Nat) : Option Nat :=
  ((List.range 64).filter fun n => lo ≤ n && (s.entry n).isNone).head?

/-- The entry a placer takes (R42): internal placers use 0 to 7 first, then any; others use 8 to 63. -/
def State.entryFor (s : State) (internal : Bool) : Option Nat := s.freeEntry (if internal then 0 else 8)

/-- The readback state of an entry (R43): 0 free, 1 armed, 2 repeating. -/
def entryState (e : Option LaunchEntry) : Nat :=
  match e with
  | none => 0
  | some e => if bitOf e.flags 1 then 2 else 1

/-- The 32 bytes of an entry's readback (R43): bytes 0 to 7 hold the instant of its first firing, which only R46 and R130
rewrite (DEDUCED, notes/assumptions/26.md). -/
def encodeEntry (n : Nat) (o : Option LaunchEntry) : Bytes :=
  match o with
  | none => List.replicate 14 0 ++ leNat 1 n ++ List.replicate 17 0
  | some e => leNat 8 e.first ++ leNat 1 e.phase ++ leNat 1 e.kind ++ leNat 1 e.flags ++ leNat 1 (entryState o)
      ++ leNat 2 e.target ++ leNat 1 n ++ leNat 1 e.owner ++ leNat 4 e.period ++ leNat 2 e.count
      ++ leNat 2 (min e.fired 65535) ++ padTo 8 e.param

/-- The firing order of kinds on one tick (R48). -/
def kindOrder (kind : Nat) : Nat :=
  match kind with
  | 7 => 1
  | 5 => 2
  | 4 => 3
  | 3 => 4
  | 1 => 5
  | 6 => 6
  | 0x0A => 7
  | 9 => 8
  | 0x0B => 9
  | 8 => 10
  | _ => 11

/-- Whether entry `n` fires before entry `m`: earlier instant, then the kind order of R48, then the entry index. -/
def firesBefore (n : Nat) (a : LaunchEntry) (m : Nat) (b : LaunchEntry) : Bool :=
  a.instant < b.instant || (a.instant == b.instant &&
    (kindOrder a.kind < kindOrder b.kind || (kindOrder a.kind == kindOrder b.kind && n < m)))

/-- Whether an armed entry may stand past its instant: a transmission that waits for the radio (R285), a start or resume that waits
for a load (R130), and a hold that reaches a unit whose start is in preparation (R37). -/
def State.mayWait (s : State) (e : LaunchEntry) : Bool :=
  e.kind == 8 || ((e.kind == 1 || e.kind == 3) && s.launch.any fun p => p.2 == some e && (Map.get (fun _ => Prep.init) s.prep p.1).wait.isSome)
    || (e.kind == 2 && s.launch.any fun p => match p.2 with
    | some b => (b.kind == 1 || b.kind == 3) && (s.courses b.target ++ s.leaves b.target).contains e.target
        && s.prep.any fun q => q.1 == p.1 && !q.2.done.isEmpty
    | none => false)

/-- The entry of kind in `kinds` that fires now (R46 to R48): armed, its instant reached, and no other armed entry comes
before it. The specification orders the entries of one tick; entries of earlier ticks go first as well, except one that may wait
past its instant, which holds back only its own tick's (DESIGN CHOICE, notes/assumptions/114.md). -/
def State.dueEntry (s : State) (n : Nat) (kinds : List Nat) : Option LaunchEntry :=
  match s.entry n with
  | none => none
  | some e =>
    if kinds.contains e.kind && decide (e.instant ≤ s.gnomon) &&
        (s.launch.all fun p => p.1 == n || match p.2 with
          | none => true
          | some b => !firesBefore p.1 b n e || (b.instant != e.instant && s.mayWait b))
    then some e else none

/-- The source of a launch event: the target, or 0x2011 where the kind has no unit (R489). -/
def launchSource (e : LaunchEntry) : Nat :=
  if e.kind = 6 ∨ 8 ≤ e.kind then 0x2011 else e.target

/-- An entry after one firing (R47): a one-shot is freed; a repeating one moves on by its period, and is freed after
Count firings. -/
def State.afterFiring (n : Nat) (e : LaunchEntry) (s : State) : State :=
  let f := e.fired + 1
  if bitOf e.flags 1 && (e.count == 0 || decide (f < e.count)) then
    s.setEntry n (some { e with instant := e.instant + e.period, fired := min f 65535 })
  else s.setEntry n none

/-- A firing dropped because the kind has no meaning in the target's state (R49). -/
def State.dropFiring (n : Nat) (e : LaunchEntry) (s : State) : State :=
  let s := (s.afterFiring n e).bump 0x200103
  s.raise 7 2 (launchSource e) [(1, n), (1, e.kind), (8, e.instant), (2, min (e.fired + 1) 65535)]

/-- An entry removed with its event (R50, R56): reason 1 release, 2 mode change, 3 SAFE or PARKED, 4 TB_SYNC load. -/
def State.removeEntry (reason n : Nat) (s : State) : State :=
  match s.entry n with
  | none => s
  | some e =>
    let s := { s.setEntry n none with prep := s.prep.erase n }
    s.raise 7 3 (launchSource e) [(1, n), (1, e.kind), (8, e.instant), (1, reason)]

/-- Every armed entry that meets `p` removed. -/
def State.removeEntries (reason : Nat) (p : LaunchEntry → Bool) (s : State) : State :=
  (List.range 64).foldl (fun s n =>
    match s.entry n with
    | some e => if p e then s.removeEntry reason n else s
    | none => s) s

/-! ### Gnomon -/

/-- The count written (R41): the epoch rises, the cause is recorded, the Gnomon event is raised. -/
def State.writeGnomon (new cause : Nat) (s : State) : State :=
  let old := s.gnomon
  let s := { s with gnomon := new % 2 ^ 64 }
  let s := (s.setNat 0x200002 ((s.nat 0x200002 + 1) % 65536)).setNat 0x200003 cause
  s.raise 6 1 0x2000 [(8, old), (8, new % 2 ^ 64)]

/-- The mesh network time of a tick (R61): 32 bits of microseconds. -/
def netTime (g : Nat) : Nat := g * 5 / 768 % 2 ^ 32

/-- How far one instant lies after another in the mesh network time, rounded to 1 µs (R61, R308). -/
def netDiff (a b : Nat) : Int := (((a : Int) - b) * 10 + 768) / 1536

/-- The mesh network time now (R61): it follows every write of the count, and no change of the UTC anchor moves it. -/
def State.networkTime (s : State) : Nat := netTime s.gnomon

/-- An instant moved with a write of the count (R41, R56). -/
def movedBy (d : Int) (t : Nat) : Nat := ((t : Int) + d).toNat

/-- Ticks in a millisecond. -/
abbrev msTicks : Nat := 153600

/-! ### Hidden records of the blocks -/

def State.path (s : State) (p : Nat) : RfPath := Map.get (fun _ => RfPath.init) s.paths p
def State.setPath (p : Nat) (r : RfPath) (s : State) : State :=
  { s with paths := Map.put (fun _ => RfPath.init) s.paths p r }
def State.antenna (s : State) (p : Nat) : Antenna := Map.get (fun _ => Antenna.init) s.antennas p
def State.setAntenna (p : Nat) (a : Antenna) (s : State) : State :=
  { s with antennas := Map.put (fun _ => Antenna.init) s.antennas p a }
def State.plumbOf (s : State) (p : Nat) : Plumb := Map.get (fun _ => Plumb.init) s.plumb p
def State.setPlumb (p : Nat) (r : Plumb) (s : State) : State :=
  { s with plumb := Map.put (fun _ => Plumb.init) s.plumb p r }
def State.chain (s : State) (n : Nat) : Chain := Map.get (fun _ => Chain.init) s.chains n
def State.setChain (n : Nat) (c : Chain) (s : State) : State :=
  { s with chains := Map.put (fun _ => Chain.init) s.chains n c }
def State.engine (s : State) (n : Nat) : Engine := Map.get (fun _ => Engine.init) s.engines n
def State.setEngine (n : Nat) (e : Engine) (s : State) : State :=
  { s with engines := Map.put (fun _ => Engine.init) s.engines n e }
def State.accel (s : State) (n : Nat) : Accel := Map.get (fun _ => Accel.init) s.accels n
def State.setAccel (n : Nat) (a : Accel) (s : State) : State :=
  { s with accels := Map.put (fun _ => Accel.init) s.accels n a }
def State.capture (s : State) (c : Nat) : Capture := Map.get (fun _ => Capture.init) s.captures c
def State.setCapture (c : Nat) (r : Capture) (s : State) : State :=
  { s with captures := Map.put (fun _ => Capture.init) s.captures c r }
def State.fm (s : State) (e : Nat) : Fm := Map.get (fun _ => Fm.init) s.fms e
def State.setFm (e : Nat) (r : Fm) (s : State) : State := { s with fms := Map.put (fun _ => Fm.init) s.fms e r }
def State.slot (s : State) (i : Nat) : Slot := Map.get (fun _ => Slot.init) s.lantern.slots i
def State.setSlot (i : Nat) (r : Slot) (s : State) : State :=
  { s with lantern := { s.lantern with slots := Map.put (fun _ => Slot.init) s.lantern.slots i r } }
def State.dbEntry (s : State) (i : Nat) : Entry := Map.get (fun _ => Entry.init) s.lantern.entries i
def State.setDbEntry (i : Nat) (r : Entry) (s : State) : State :=
  { s with lantern := { s.lantern with entries := Map.put (fun _ => Entry.init) s.lantern.entries i r } }
def State.dab (s : State) (e : Nat) : Dab := Map.get (fun _ => Dab.init) s.dabs e
def State.setDab (e : Nat) (r : Dab) (s : State) : State := { s with dabs := Map.put (fun _ => Dab.init) s.dabs e r }
def State.dabDecoder (s : State) (e : Nat) : DabDecoder := Map.get (fun _ => DabDecoder.init) s.dabDecoders e
def State.setDabDecoder (e : Nat) (r : DabDecoder) (s : State) : State :=
  { s with dabDecoders := Map.put (fun _ => DabDecoder.init) s.dabDecoders e r }
def State.am (s : State) (e : Nat) : Am := Map.get (fun _ => Am.init) s.ams e
def State.setAm (e : Nat) (r : Am) (s : State) : State := { s with ams := Map.put (fun _ => Am.init) s.ams e r }
def State.drm (s : State) (e : Nat) : Drm := Map.get (fun _ => Drm.init) s.drms e
def State.setDrm (e : Nat) (r : Drm) (s : State) : State := { s with drms := Map.put (fun _ => Drm.init) s.drms e r }
def State.voice (s : State) (k : Nat) : Voice := Map.get (fun _ => Voice.init) s.voices k
def State.setVoice (k : Nat) (v : Voice) (s : State) : State := { s with voices := Map.put (fun _ => Voice.init) s.voices k v }
def State.drmSelection (s : State) (m : Nat) : Nat := Map.get (fun _ => 0) s.drmSel m
def State.setDrmSelection (m id : Nat) (s : State) : State := { s with drmSel := Map.put (fun _ => 0) s.drmSel m id }
def State.gslot (s : State) (i : Nat) : GSlot := Map.get (fun _ => GSlot.init) s.gloaming.slots i
def State.setGslot (i : Nat) (r : GSlot) (s : State) : State :=
  { s with gloaming := { s.gloaming with slots := Map.put (fun _ => GSlot.init) s.gloaming.slots i r } }
def State.stream (s : State) (u : Nat) : Stream := Map.get (fun _ => Stream.init) s.streams u
def State.setStream (u : Nat) (r : Stream) (s : State) : State :=
  { s with streams := Map.put (fun _ => Stream.init) s.streams u r }
def State.port (s : State) (p : Nat) : Port := Map.get (fun _ => Port.init) s.ports p
def State.setPort (p : Nat) (r : Port) (s : State) : State :=
  { s with ports := Map.put (fun _ => Port.init) s.ports p r }
def State.pdo (s : State) (f : Nat) : Pdo := Map.get (fun _ => Pdo.init) s.pdos f
def State.setPdo (f : Nat) (r : Pdo) (s : State) : State :=
  { s with pdos := Map.put (fun _ => Pdo.init) s.pdos f r }

end Sys2Proof.Machine
end

