-- ==== Sys2Proof/Machine/Judge.lean ====
section
/-!
DEFINITION. Machine/Judge.lean: how the dictionary engine judges a request: the twelve checks of R349, the class rights
of R347, the keyed matrix of R432, the mode rules of R350, and the token of R359 to R361.
-/
namespace Sys2Proof.Machine

/-! ### Requesters -/

/-- The host port number of a requester (R359): 1 Quoin, 2 two-wire, 3 SPI, 0 for the other classes. -/
def portNo : Requester → Nat
  | .quoin => 1
  | .twoWire => 2
  | .spi => 3
  | _ => 0

/-- The owner field that a requester's claims carry (R23, R423): 0xFE for class H, else its master ID. -/
def ownerId : Requester → Nat
  | .quoin | .twoWire | .spi => 0xFE
  | .mgmt => 0
  | .node _ => 1
  | .debug => 19

/-- Whether a requester is of class H. -/
def isHost (r : Requester) : Bool := portNo r != 0

/-! ### Lifecycle and keyed traffic -/

/-- The lifecycle in force (R413): the highest state whose group has at least 5 of its 8 fuses blown. -/
def Otp.lifecycle (o : Otp) : Nat :=
  if 5 ≤ o.returnedFuses then 2 else if 5 ≤ o.securedFuses then 1 else 0

/-- The lifecycle: 0 BLANK, 1 SECURED, 2 RETURNED. -/
def State.lifecycle (s : State) : Nat := s.otp.lifecycle

/-- The debug level in force (R429), held at 0x8300:01. -/
def State.debugLevel (s : State) : Nat := s.nat 0x830001

/-- The categories of keyed traffic (R431). -/
inductive KeyedCat where
  | u | k | s | m
  deriving DecidableEq, Repr

/-- The category of a write or command to an object (R431); none when it is not keyed. -/
def keyedCat (key : Nat) : Option KeyedCat :=
  let idx := key / 256
  if 0x7200 ≤ idx ∧ idx ≤ 0x72FF then some .u
  else if (0x8100 ≤ idx ∧ idx ≤ 0x82FF) ∨ key = 0x602011 ∨ key = 0x602402 ∨ key = 0x602403 then some .s
  else if (0x8000 ≤ idx ∧ idx ≤ 0x80FF) ∨ key = 0x830003 then some .m
  else none

/-- The matrix of R432. -/
def keyedAllowed (lifecycle level : Nat) (mode : Mode) (c : KeyedCat) : Bool :=
  let running := mode == .watch || mode == .listen || mode == .full
  match lifecycle with
  | 0 => (running && c == .m) || (mode == .update && (c == .u || c == .m))
  | 1 =>
    if level = 0 then (running && c != .u) || (mode == .update && (c == .u || c == .m))
    else if level = 1 then (running && (c == .k || c == .m)) || (mode == .update && (c == .u || c == .m))
    else false
  | _ => mode == .update && c == .u

/-- Whether key use (category K) is permitted now (R429, R432). -/
def State.keyUse (s : State) : Bool := keyedAllowed s.lifecycle s.debugLevel s.mode .k

/-! ### What an object belongs to -/

/-- The unit that owns an object, for check 6 and check 10 of R349; none where no unit does. -/
def objUnit (idx : Nat) : Option Nat :=
  if 0x21C0 ≤ idx ∧ idx ≤ 0x21EF then some (0x300 + (idx - 0x21C0))
  else if 0x2400 ≤ idx ∧ idx ≤ 0x240B then some (0x200 + (idx - 0x2400))
  else if 0x2440 ≤ idx ∧ idx ≤ 0x2447 then some (0x600 + (idx - 0x2440))
  else if 0x3020 ≤ idx ∧ idx ≤ 0x302B then some (0x800 + idx % 2)
  else if 0x3100 ≤ idx ∧ idx ≤ 0x317F then some (0x100 + idx % 32)
  else if 0x4100 ≤ idx ∧ idx ≤ 0x424B then some (0x200 + idx % 32)
  else if 0x4300 ≤ idx ∧ idx ≤ 0x43FF then some 0x700
  else if 0x4400 ≤ idx ∧ idx ≤ 0x47FF then some (0x200 + idx % 16)
  else if 0x4900 ≤ idx ∧ idx ≤ 0x49FF then some 0x400
  else if 0x5000 ≤ idx ∧ idx ≤ 0x5003 then some (0x400 + (idx - 0x5000))
  else if idx = 0x5004 then some 0x404
  else if 0x5020 ≤ idx ∧ idx ≤ 0x5024 then some (0x400 + (idx - 0x5020))
  else if 0x6000 ≤ idx ∧ idx ≤ 0x6004 then some 0x500
  else if 0x6010 ≤ idx ∧ idx ≤ 0x6011 then some 0x501
  else if 0x6020 ≤ idx ∧ idx ≤ 0x69FF then some 0x502
  else none

/-- Whether a mode provides a unit (R28). -/
def modeProvides (mode : Mode) (u : Nat) : Bool :=
  match mode with
  | .watch => u / 256 == 5
  | .listen => u / 256 != 2 && u != 0x801 || u / 256 == 2 && u % 256 < 6
  | .full => true
  | _ => false

/-- Whether a unit is stopped for its RWS objects (R23, R24): a course while DORMANT or CONFIGURED, another unit also
while HELD. -/
def State.stopped (s : State) (u : Nat) : Bool :=
  let st := s.ustate u
  st == 0 || st == 1 || (st == 3 && u / 256 != 3)

/-! ### Class rights -/

/-- The grants of class N (R427): a grant of the list that names the index and subindex with the right's bit. -/
def State.granted (s : State) (key bit : Nat) : Bool :=
  (List.range 32).any fun i =>
    let g := s.nat (obj 0x8200 (i + 1))
    g % 65536 == key / 256 && (g / 65536 % 256 == 0xFF || g / 65536 % 256 == key % 256) && bitOf g bit

/-- The rights of R347. No grant gives class N a right on 0x2010: R30 refuses it every verb (DEDUCED, notes/assumptions/117.md). -/
def State.classRight (s : State) (r : Requester) (key : Nat) (write : Bool) : Bool :=
  let idx := key / 256
  match r with
  | .quoin | .twoWire | .spi | .mgmt => true
  | .node _ =>
    (!write && ((0x1000 ≤ idx && idx ≤ 0x1FFF) || (0x6800 ≤ idx && idx ≤ 0x69FF)))
      || (idx != 0x2010 && s.granted key (if write then 25 else 24))
  | .debug =>
    if s.debugLevel = 0 then false
    else if s.debugLevel = 1 then !write && idx < 0xF000
    else true

/-! ### Paired commands -/

/-- The RES object in which a CMD object's refusals appear (R491). The challenge 0x8001:02 has no place for a code, so its request
is judged whole at the write (notes/assumptions/48.md). -/
def pairedRes (key : Nat) : Option Nat :=
  if key = 0x201001 ∨ key = 0x201101 ∨ key = 0x110001 ∨ key = 0x604001 ∨ key = 0x107801 ∨ key = 0x601101
    ∨ key = 0x760002 ∨ key = 0x600110 then some (key + 1)
  else if key = 0x800002 then some 0x800003
  else if key = 0x800201 then some 0x800003
  else if key = 0x720001 then some 0x720003
  else none

/-! ### Values -/

/-- Whether bytes are well-formed UTF-8 (R345). -/
def utf8Ok : Bytes → Bool
  | [] => true
  | a :: rest =>
    if a < 0x80 then utf8Ok rest
    else if 0xC2 ≤ a && a ≤ 0xDF then
      match rest with
      | b :: rest => b / 64 == 2 && utf8Ok rest
      | _ => false
    else if 0xE0 ≤ a && a ≤ 0xEF then
      match rest with
      | b :: c :: rest =>
        b / 64 == 2 && c / 64 == 2 && !(a == 0xE0 && b < 0xA0) && !(a == 0xED && 0x9F < b) && utf8Ok rest
      | _ => false
    else if 0xF0 ≤ a && a ≤ 0xF4 then
      match rest with
      | b :: c :: d :: rest =>
        b / 64 == 2 && c / 64 == 2 && d / 64 == 2 && !(a == 0xF0 && b < 0x90) && !(a == 0xF4 && 0x8F < b)
          && utf8Ok rest
      | _ => false
    else false

/-- Whether a length fits a type (R345, check 9). -/
def lengthFits (t : Ty) (n : Nat) : Bool :=
  match t with
  | .str lo hi | .oct lo hi | .dom lo hi => lo ≤ n && n ≤ hi
  | t => t.size == some n

/-- The value that bytes spell in a type. -/
def decodeVal (t : Ty) (b : Bytes) : Val :=
  match t with
  | .str .. | .oct .. | .dom .. => .raw b
  | t => if t.isSigned then .num (signed b.length (ofLe b)) else .num (ofLe b)

/-- The bytes of a value in a type (R345). -/
def encodeVal (t : Ty) : Val → Bytes
  | .raw b => b
  | .num i => match t.size with
    | some w => leInt w i
    | none => []

/-- The bytes in which a host writes a number to a subindex. -/
def numBytes (key : Nat) (i : Int) : Bytes :=
  match findRow key with
  | some r => encodeVal r.ty (.num i)
  | none => leInt 1 i

/-- The refusal code of an index range's own chapter for a value outside its stated range (R349 check 11). -/
def rangeCode (idx : Nat) : Nat :=
  if (0x1040 ≤ idx ∧ idx ≤ 0x1041) ∨ (0x9000 ≤ idx ∧ idx ≤ 0x91FF) then 0x1901
  else if 0x1050 ≤ idx ∧ idx ≤ 0x1061 then 0x1A01
  else if 0x1070 ≤ idx ∧ idx ≤ 0x1078 then 0x1B01
  else if 0x2400 ≤ idx ∧ idx ≤ 0x2447 then 0x0C06
  else if 0x2560 ≤ idx ∧ idx ≤ 0x2563 then 0x1402
  else if 0x3000 ≤ idx ∧ idx ≤ 0x302B then 0x0A02
  else if 0x3100 ≤ idx ∧ idx ≤ 0x317F then 0x0B01
  else if 0x4100 ≤ idx ∧ idx ≤ 0x42FF then 0x0D01
  else if 0x4300 ≤ idx ∧ idx ≤ 0x43FF then 0x0E01
  else if 0x4400 ≤ idx ∧ idx ≤ 0x44FF then 0x0F01
  else if 0x4600 ≤ idx ∧ idx ≤ 0x46FF then 0x1001
  else if 0x4700 ≤ idx ∧ idx ≤ 0x47FF then 0x1101
  else if 0x4800 ≤ idx ∧ idx ≤ 0x48FF then 0x1201
  else if 0x4900 ≤ idx ∧ idx ≤ 0x49FF then 0x1301
  else if 0x5000 ≤ idx ∧ idx ≤ 0x50FF then 0x1501
  else if 0x6000 ≤ idx ∧ idx ≤ 0x6011 then 0x1601
  else if 0x6020 ≤ idx ∧ idx ≤ 0x6024 then 0x1701
  else if 0x6030 ≤ idx ∧ idx ≤ 0x6040 then 0x1801
  else if 0x7600 ≤ idx ∧ idx ≤ 0x76FF then 0x1E01
  else if 0x7000 ≤ idx ∧ idx ≤ 0x77FF then 0x1D01
  else 0x010B

/-- Check 11 as far as the object's table states it: the type's own forms and the stated ranges. -/
def tableRange (key : Nat) (row : Row) (v : Val) : Nat :=
  match row.ty, v with
  | .bool, .num i => refuseIf (i != 0 && i != 1) 0x010B
  | .f32, .num i => refuseIf (i.toNat / 2 ^ 23 % 256 == 255) 0x010B
  | .str .., .raw b => refuseIf (!utf8Ok b) 0x010B
  | _, .num i => refuseIf (!row.rng.isEmpty && !(row.rng.any fun p => p.1 ≤ i && i ≤ p.2)) (rangeCode (key / 256))
  | _, .raw _ => 0

/-! ### Objects of an image -/

/-- Whether engine e is loaded with an image. -/
def State.loadedWith (s : State) (e image : Nat) : Bool := e < 12 && (s.engine e).image == image

/-- The 0x0103 engines among the direct members of a course, in member order (R127). -/
def State.dabMembers (s : State) (c : Nat) : List Nat :=
  ((s.members c).map (·.1)).filter fun u => u / 256 == 2 && s.cnat (obj (0x2400 + u % 256) 1) == 0x0103

/-- Whether engine e is the back engine of a DAB pair (R127): at an odd place among its course's 0x0103 engines. -/
def State.dabBack (s : State) (e : Nat) : Bool :=
  match posOf (0x200 + e) (s.dabMembers (s.parent (0x200 + e))) with
  | some i => i % 2 == 1
  | none => false

/-- The refusal of every access to the objects of an engine that does not carry their image (R143, R179, R193, R201;
judged with check 6, DEDUCED, notes/assumptions/40.md). -/
def State.imageCheck (s : State) (idx : Nat) : Nat :=
  let within := fun lo => decide (lo ≤ idx) && decide (idx < lo + 12)
  if within 0x4100 || within 0x4120 || within 0x4200 || within 0x4220 || within 0x4240 then
    refuseIf (!s.loadedWith (idx % 32) 0x0101) 0x0D03
  else if within 0x4480 || within 0x44A0 then refuseIf (!s.loadedWith (idx % 16) 0x0201) 0x0F04
  else if within 0x4400 || within 0x4410 || within 0x4420 || within 0x4430 || within 0x4440 || within 0x4450
      || within 0x44C0 then
    refuseIf (!s.loadedWith (idx % 16) 0x0103 || s.dabBack (idx % 16)) 0x0F02
  else if within 0x4600 || within 0x4620 then refuseIf (!s.loadedWith (idx % 16) 0x0102) 0x1002
  else if within 0x4700 || within 0x4710 || within 0x4720 || within 0x4730 || within 0x4740 then
    refuseIf (!s.loadedWith (idx % 16) 0x0104 && !s.loadedWith (idx % 16) 0x0105) 0x1102
  else if within 0x4780 then refuseIf (!s.loadedWith (idx % 16) 0x0202) 0x1103
  else 0

/-! ### The checks -/

/-- Check 1: the ready event has been raised. -/
def State.check1 (s : State) : Nat := refuseIf (!s.ready || s.mode == .off || s.mode == .parked) 0x0101

/-- Check 2: the index and subindex exist (R343). -/
def check2 (key : Nat) : Nat :=
  if !indexExists (key / 256) then 0x0102
  else match findRow key with
    | some _ => 0
    | none => refuseIf (key % 256 != 0) 0x0103

/-- Check 4: factory objects from class H or D in BLANK only. -/
def State.check4 (s : State) (r : Requester) (key : Nat) : Nat :=
  refuseIf (0xF000 ≤ key / 256 && (isHost r || r == .debug) && s.lifecycle != 0) 0x010A

/-- Check 5: the keyed matrix; a write to 0x8300:03 is always permitted where the dictionary is reached (R432). -/
def State.check5 (s : State) (key : Nat) : Nat :=
  match keyedCat key with
  | none => 0
  | some c => refuseIf (key != 0x830003 && !keyedAllowed s.lifecycle s.debugLevel s.mode c) 0x1C01

/-- Check 6: the mode permits the access (R350). -/
def State.check6 (s : State) (key : Nat) (write : Bool) (acc : Acc) : Nat :=
  let idx := key / 256
  match s.mode with
  | .watch | .listen | .full =>
    match objUnit idx with
    | some u => refuseIf (((write && acc == .cmd) || (!write && acc == .res)) && !modeProvides s.mode u) 0x0809
    | none => 0
  | .update =>
    refuseIf (!((0x1000 ≤ idx && idx ≤ 0x1FFF) || (0x7000 ≤ idx && idx ≤ 0x8FFF) || (0x9800 ≤ idx && idx ≤ 0x98FF)))
      0x0809
  | .safe => refuseIf (write && key != 0x103002 && key != 0x981001) 0x0809
  | _ => 0

/-- Check 7 for a write (R346). -/
def check7w (acc : Acc) : Nat := refuseIf (acc == .ro || acc == .res) 0x0105

/-- Check 7 for a read (R346). -/
def check7r (acc : Acc) : Nat := refuseIf (acc == .wo || acc == .cmd) 0x0106

/-- Check 8: a class H write comes from the token's holder; 0x1030:02 needs no token (R359). -/
def State.check8 (s : State) (r : Requester) (key : Nat) : Nat :=
  refuseIf (isHost r && key != 0x103002 && s.nat 0x103001 != portNo r) 0x0108

/-- Check 10: the owning unit of an RWS object is stopped (R23, R24); the radio's settings follow unit 0x0502 (R280). -/
def State.check10 (s : State) (key : Nat) (acc : Acc) : Nat :=
  match if key / 256 = 0x6000 then some 0x502 else objUnit (key / 256) with
  | some u => refuseIf (acc == .rws && !s.stopped u) 0x0107
  | none => 0

/-- A write of `len` bytes judged by checks 1 to 9 of R349, in order. -/
def State.judgeLength (s : State) (r : Requester) (key len : Nat) : Nat :=
  let early := firstCode [s.check1, check2 key, refuseIf (!s.classRight r key true) 0x0109, s.check4 r key, s.check5 key]
  match findRow key with
  | none => if early = 0 then firstCode [s.check6 key true .ro, 0x0105] else early
  | some row =>
    firstCode [early, s.check6 key true row.acc, s.imageCheck (key / 256), check7w row.acc, s.check8 r key,
      refuseIf (!lengthFits row.ty len) 0x0104]

/-- Check 10 of a subindex. -/
def State.unitCheck (s : State) (key : Nat) : Nat :=
  match findRow key with
  | none => 0
  | some row => s.check10 key row.acc

/-- A write judged by checks 1 to 10 of R349, in order. -/
def State.judgeWrite (s : State) (r : Requester) (key : Nat) (b : Bytes) : Nat :=
  firstCode [s.judgeLength r key b.length, s.unitCheck key]

/-- Check 11 by the object's table, for a write that passed checks 1 to 10. -/
def rangeCheck (key : Nat) (b : Bytes) : Nat :=
  match findRow key with
  | none => 0
  | some row => tableRange key row (decodeVal row.ty b)

/-! ### Token and requests -/

/-- The holder of the token changed, with its event (R361): reason 1 take, 2 release, 3 handover, 4 timeout, 5 PARKED. -/
def State.moveToken (new reason : Nat) (s : State) : State :=
  let old := s.nat 0x103001
  if old = new then s
  else ((s.setNat 0x103001 new).setNat 0x103005 s.gnomon).raise 2 1 0x1030 [(1, old), (1, new), (1, reason)]

/-- Automatic take (R361): with 0x1030:04 at 1, a host port's write while the token is free first gives it the token. -/
def State.autoTake (r : Requester) (key : Nat) (s : State) : State :=
  if s.ready && isHost r && key != 0x103002 && s.nat 0x103001 == 0 && s.nat 0x103004 == 1
  then s.moveToken (portNo r) 1 else s

/-- What follows every accepted request of a host port: the holder's activity instant (R359), the end of the WAKE_OUT
conditions (R464), and of the judgement of a wake (R297). -/
def State.touch (r : Requester) (s : State) : State :=
  if isHost r then
    let s := if s.nat 0x103001 = portNo r then s.setNat 0x103005 s.gnomon else s
    { s with power := { s.power with left := none, matched := none }, radio := { s.radio with judged := none } }
  else s

/-- The dictionary engine's answer to a request. -/
def State.reply (code : Nat) (data : Bytes) (s : State) : State :=
  { s with answer := ⟨code, data, 0, false⟩ }

/-- What follows the checks of a write: for a command with no paired result, check 11 by its table (R491); then the action,
which answers the code of the remaining rules. A refused write has no effect. -/
def State.carryOut (r : Requester) (key : Nat) (b : Bytes) (act : State → State × Nat) (c : Nat) (s : State) : State :=
  let c := firstCode [c, if (pairedRes key).isSome then 0 else rangeCheck key b]
  if c = 0 then
    let p := act s
    if p.2 = 0 then (p.1.touch r).reply 0 [] else s.reply p.2 []
  else s.reply c []

/-- A write of a host or another master: automatic take, then checks 1 to 10 (R349), then its action. -/
def State.request (r : Requester) (key : Nat) (b : Bytes) (act : State → State × Nat) (s : State) : State :=
  let s := s.autoTake r key
  s.carryOut r key b act (s.judgeWrite r key b)

/-- An action that always succeeds. -/
def accept (f : State → State) (s : State) : State × Nat := (f s, 0)

/-- An action with a check first: the code when it is not 0, and then no effect. -/
def guarded (code : Nat) (f : State → State) (s : State) : State × Nat :=
  if code = 0 then (f s, 0) else (s, code)

/-- A command with a paired result whose outcome may be awaited (R356): it is held while the previous outcome is awaited,
and refused with 0x010C BUSY while another is held. -/
def State.pairedBusy (key res : Nat) (r : Requester) (b : Bytes) (act : State → State) (s : State) : State × Nat :=
  if s.awaiting.contains res then
    match Map.get (fun _ => none) s.held key with
    | some _ => (s, 0x010C)
    | none => ({ s with held := Map.put (fun _ => none) s.held key (some ⟨r, b⟩) }, 0)
  else (act s, 0)

end Sys2Proof.Machine
end

