-- ==== Sys2Proof/Machine/Cv.lean ====
section
/-!
DEFINITION. Machine/Cv.lean: the check-value units CV0 to CV3 (spec/21_check_value_units.md, R406 to R411).
-/
namespace Sys2Proof.Machine

/-! ### The algorithm (R406) -/

/-- The low `w` bits of a number in reverse order. -/
def reflectBits : Nat → Nat → Nat
  | 0, _ => 0
  | w + 1, n => n % 2 * 2 ^ w + reflectBits w (n / 2)

/-- One bit of the division: the register of width w with polynomial p. -/
def crcBit (w p r : Nat) : Nat := if bitOf r (w - 1) then Nat.xor (r * 2 % 2 ^ w) p else r * 2 % 2 ^ w

/-- Eight bits of the division. -/
def crcBits (w p : Nat) : Nat → Nat → Nat
  | 0, r => r
  | k + 1, r => crcBits w p k (crcBit w p r)

/-- The settings of a configuration block (R409): width, polynomial, reflect in, reflect out, initial, final XOR. -/
structure CrcSet where
  width : Nat
  poly : Nat
  reflIn : Bool
  reflOut : Bool
  init : Nat
  final : Nat
  deriving DecidableEq, Repr

/-- The settings of a head: a preset of R406, or the head's own. -/
def crcSet (head : Bytes) : CrcSet :=
  let f := nthD head 1 0
  match nthD head 0 0 with
  | 0 => ⟨32, 0x04C11DB7, true, true, 0xFFFFFFFF, 0xFFFFFFFF⟩
  | 1 => ⟨16, 0x1021, false, false, 0xFFFF, 0⟩
  | 2 => ⟨8, 7, false, false, 0, 0⟩
  | 3 => ⟨16, 0x1021, true, true, 0, 0⟩
  | _ => ⟨nthD [8, 16, 32] (f % 4) 32, fieldLe head 4 4, bitOf f 2, bitOf f 3, fieldLe head 8 4, fieldLe head 12 4⟩

/-- The register fed with bytes. -/
def crcFeed (c : CrcSet) : Bytes → Nat → Nat
  | [], r => r
  | b :: bs, r =>
    let b := if c.reflIn then reflectBits 8 b else b
    crcFeed c bs (crcBits c.width c.poly 8 (Nat.xor r (b * 2 ^ (c.width - 8))))

/-- A register in output bit order, and back (R408). -/
def crcOut (c : CrcSet) (r : Nat) : Nat := if c.reflOut then reflectBits c.width r else r

/-- The register that a head starts from: its initial value, or the running value to continue from (R409). -/
def crcStart (head : Bytes) : Nat :=
  let c := crcSet head
  if bitOf (nthD head 1 0) 4 then crcOut c (fieldLe head 8 4 % 2 ^ c.width) else c.init

/-- The check value of a register. -/
def crcCheck (c : CrcSet) (r : Nat) : Nat := Nat.xor (crcOut c r) c.final

/-- The head of a preset. -/
def presetHead (p : Nat) : Bytes := p :: List.replicate 15 0

/-- The check value of a preset over bytes. -/
def crcOf (preset : Nat) (b : Bytes) : Nat :=
  let c := crcSet (presetHead preset)
  crcCheck c (crcFeed c b c.init)

/-! ### Units -/

def State.cvUnit (s : State) (u : Nat) : Cv := Map.get (fun _ => Cv.init) s.cvs u
def State.setCvUnit (u : Nat) (c : Cv) (s : State) : State := { s with cvs := Map.put (fun _ => Cv.init) s.cvs u c }

/-- A unit's subindex. -/
abbrev cvk (u sub : Nat) : Nat := obj (0x1070 + u) sub

/-- The objects that show the active context (R407 to R409). -/
def State.showCv (u : Nat) (s : State) : State :=
  match (s.cvUnit u).active with
  | none => s.setNat (cvk u 1) 0xFF
  | some j => ((s.setNat (cvk u 1) j.master).setBytes (cvk u 2) j.head).setNat (cvk u 3) (crcOut (crcSet j.head) j.running)

/-- The masters that a unit serves, in priority order (R407). -/
def cvMasters (u : Nat) : List Nat :=
  match u with
  | 0 => [16]
  | 1 => [17, 18]
  | 2 => [0]
  | _ => [15, 0xFE]

/-- A context loaded into an idle unit: one tick (R407). -/
def State.loadCv (u : Nat) (j : CvJob) (s : State) : State :=
  (s.setCvUnit u { s.cvUnit u with active := some j, busy := 1 }).showCv u

/-- A unit whose active context has ended: the waiting claim of highest priority is loaded (R407). -/
def State.nextCv (u : Nat) (s : State) : State :=
  let c := s.cvUnit u
  match (cvMasters u).findSome? fun m => c.waiting.find? fun j => j.master == m with
  | some j => (s.setCvUnit u { c with waiting := c.waiting.filter fun k => k.master != j.master }).loadCv u j
  | none => (s.setCvUnit u { c with active := none }).showCv u

/-- Bytes that a bridge streams through a unit as one stream or segment (R407, R408): its context is active afterwards; the
other bridge's context is saved, and a switch is counted. -/
def State.cvStream (u master : Nat) (data : Bytes) (s : State) : State :=
  let head := presetHead 0
  let c := s.cvUnit u
  let fresh : CvJob := ⟨master, head, (crcSet head).init, []⟩
  let own := fun (o : Option CvJob) => match o with
    | some j => j.master == master
    | none => false
  let (j, saved, switched) : CvJob × Option CvJob × Bool :=
    if own c.active then (c.active.getD fresh, c.saved, false)
    else if c.active.isNone then (fresh, c.saved, false)
    else (if own c.saved then c.saved.getD fresh else fresh, c.active, true)
  let j := { j with running := crcFeed (crcSet j.head) data j.running }
  let s := s.setCvUnit u { c with active := some j, saved := saved }
  let s := if switched then s.bump (cvk u 5) else s
  (s.bumpBy (cvk u 4) data.length).showCv u

/-- A bridge's stream at its end: its context goes, and a saved one is active again (R408). -/
def State.cvClose (u master : Nat) (s : State) : State :=
  let c := s.cvUnit u
  match c.active, c.saved with
  | some a, saved =>
    if a.master = master then (s.setCvUnit u { c with active := saved, saved := none }).showCv u
    else match saved with
      | some k => if k.master = master then s.setCvUnit u { c with saved := none } else s
      | none => s
  | none, _ => s

/-- A stream of the management core through CV2, whose bytes the specification does not lay out: its length is counted and
its running value is free (notes/assumptions/37.md). -/
def State.cvManagement (n : Nat) (s : State) : State :=
  let (v, s) := s.fresh (2 ^ 32)
  ((s.setBytes (cvk 2 2) (presetHead 0)).setNat (cvk 2 3) v).bumpBy (cvk 2 4) n

/-! ### Host jobs -/

/-- The checks of a host job (R410). -/
def State.jobCheck (s : State) (b : Bytes) : Nat :=
  let p := nthD b 0 0
  let f := nthD b 1 0
  let c := crcSet b
  let above := fun (v : Nat) => decide (2 ^ c.width ≤ v)
  firstCode [
    refuseIf ((decide (3 < p) && p != 0xFF) || f % 4 == 3 || decide (32 ≤ f) || fieldLe b 2 2 != 0 || decide (b.length ≤ 16)
      || (p == 0xFF && (above c.poly || above c.init || above c.final)) || (bitOf f 4 && above (fieldLe b 8 4))) 0x1B01,
    refuseIf (s.mode == .update && s.nat 0x720002 == 2) 0x1B02]

/-- The result of a host job. -/
def State.jobResult (code check running : Nat) (s : State) : State :=
  s.issuePaired 0x107802 code (leNat 2 code ++ leNat 4 check ++ leNat 4 running)

/-- A host job acted on (R410): it takes CV3 when that is idle, and waits for it otherwise. -/
def State.runJob (b : Bytes) (s : State) : State :=
  let code := s.jobCheck b
  if code ≠ 0 then s.jobResult code 0 0
  else
    let j : CvJob := ⟨0xFE, b.take 16, crcStart (b.take 16), b.drop 16⟩
    let s := s.await 0x107802
    let c := s.cvUnit 3
    if c.active.isNone then s.loadCv 3 j else s.setCvUnit 3 { c with waiting := c.waiting ++ [j] }

/-- A write of 0x1078:01 by a master. -/
def State.writeJob (r : Requester) (b : Bytes) (s : State) : State :=
  s.request r 0x107801 b (State.pairedBusy 0x107801 0x107802 r b (State.runJob b))

/-- A job held behind an awaited result proceeds (R356). -/
def State.runHeldJob (s : State) : State :=
  match Map.get (fun _ => none) s.held 0x107801 with
  | some h => ({ s with held := s.held.erase 0x107801 } : State).runJob h.body
  | none => s

/-- One tick of a unit (R407): a load or a switch goes on, or one feed of up to 4 bytes, or the result of a host job. -/
def State.tickCv (u : Nat) (s : State) : State :=
  let c := s.cvUnit u
  if c.busy ≠ 0 then s.setCvUnit u { c with busy := c.busy - 1 }
  else match c.active with
    | none => s
    | some j =>
      if j.left ≠ [] then
        let j' := { j with running := crcFeed (crcSet j.head) (j.left.take 4) j.running, left := j.left.drop 4 }
        (((s.setCvUnit u { c with active := some j' }).bumpBy (cvk u 4) (min 4 j.left.length))).showCv u
      else if j.master = 0xFE then
        let x := crcSet j.head
        ((s.nextCv u).jobResult 0 (crcCheck x j.running) (crcOut x j.running)).runHeldJob
      else s

/-! ### Commands -/

/-- HOST_JOB (R410). -/
def execHostJob (by_ : Requester) (data : Bytes) (s : State) : Host.Outcome State Fault Refusal :=
  .next (s.writeJob by_ data)

/-- CONTEXT_SWITCH (R408): a master with a configuration and a stream claims a unit between two feeds. A lower one's context
is saved and the new one loaded in 2 ticks; with the saved place occupied, or below the active master, the claim is held;
an idle unit loads it. -/
def execContextSwitch (unit master : Nat) (head data : Bytes) (s : State) : Host.Outcome State Fault Refusal :=
  .next <|
    let c := s.cvUnit unit
    let j : CvJob := ⟨master, padTo 16 head, crcStart head, data⟩
    match posOf master (cvMasters unit) with
    | none => s
    | some rank =>
      if master = 0xFE ∨ c.busy ≠ 0 then s
      else match c.active with
        | none => s.loadCv unit j
        | some a =>
          let beyond := decide (rank < (posOf a.master (cvMasters unit)).getD 99)
          if beyond && c.saved.isNone then
            ((s.setCvUnit unit { c with active := some j, saved := some a, busy := 2 }).bump (cvk unit 5)).showCv unit
          else s.setCvUnit unit { c with waiting := c.waiting ++ [j] }

/-- CONTEXT_RESTORE (R408): the master of the active context has fed its stream and reads its check value: the saved
context is restored in 2 ticks, and a held claim above it then takes the unit again; with none saved, the next claim takes
the unit. -/
def execContextRestore (unit : Nat) (s : State) : Host.Outcome State Fault Refusal :=
  .next <|
    let c := s.cvUnit unit
    match c.active with
    | none => s
    | some a =>
      if c.busy ≠ 0 ∨ a.left ≠ [] ∨ a.master = 0xFE then s
      else match c.saved with
        | some k =>
          let above := c.waiting.filter fun j =>
            decide ((posOf j.master (cvMasters unit)).getD 99 < (posOf k.master (cvMasters unit)).getD 99)
          match above with
          | j :: _ => ((s.setCvUnit unit { c with active := some j, busy := 4, waiting := c.waiting.erase j }).bump
              (cvk unit 5)).showCv unit
          | [] => (s.setCvUnit unit { c with active := some k, saved := none, busy := 2 }).showCv unit
        | none => s.nextCv unit

end Sys2Proof.Machine
end

