-- ==== Sys2Proof/Machine/Blocks.lean ====
section
/-!
DEFINITION. Machine/Blocks.lean: the block-scaled formats of shared memory (R248 to R250,
spec/13_shared_memory_compression.md): what each stores of its values, and how its bytes lie.
-/
namespace Sys2Proof.Machine

/-- A number divided by 2^s and rounded to the nearest, a half away from zero (R248, R250). -/
def shiftRound (s : Nat) (x : Int) : Int :=
  let m : Nat := (x.natAbs + 2 ^ s / 2) / 2 ^ s
  if x < 0 then -(m : Int) else m

/-- The smallest exponent up to a largest one at which every value of a block fits so many bits (R248, R250). -/
def leastShift (most bits : Nat) (xs : List Int) : Nat :=
  ((List.range (most + 1)).find? fun s => xs.all fun x =>
    decide (-2 ^ (bits - 1) ≤ shiftRound s x) && decide (shiftRound s x < 2 ^ (bits - 1))).getD most

/-- A list cut into pieces of so many, the last one filled up. -/
def pieces {α : Type} (n : Nat) (fill : α) (l : List α) : List (List α) :=
  (List.range ((l.length + n - 1) / n)).map fun i => (l.drop (n * i)).take n ++ List.replicate (n * (i + 1) - l.length) fill

/-! ### BS-IQ8 -/

/-- The exponent of a block of 16 complex samples, given as 32 components I0, Q0, I1, … (R248). -/
def iq8Exponent (xs : List Int) : Nat := leastShift 9 8 xs

/-- The 65 bytes of a pair of blocks (R248). -/
def iq8Pair (a b : List Int) : Bytes :=
  let ea := iq8Exponent a
  let eb := iq8Exponent b
  [ea + 16 * eb] ++ (a.map (shiftRound ea) ++ b.map (shiftRound eb)).flatMap (leInt 1)

/-- Samples stored as BS-IQ8 (R248); a last pair that samples do not fill holds zeros (DESIGN CHOICE,
notes/assumptions/135.md). -/
def iq8Bytes (xs : List Int) : Bytes :=
  (pieces 64 0 xs).flatMap fun p => iq8Pair (p.take 32) (p.drop 32)

/-! ### BS-SB4 -/

/-- The bytes of codes of R186, 4 bits each (R249): the first of two lies in the low half. -/
def sb4Bytes (codes : List Nat) : Bytes :=
  (pieces 2 0 codes).map fun p => nthD p 0 0 % 16 + 16 * (nthD p 1 0 % 16)

/-! ### BS-PCM16 -/

/-- A block of 32 samples of one channel (R250). -/
def pcmBlock (xs : List Int) : PcmBlock :=
  let s := leastShift 8 16 xs
  ⟨s, xs.map (shiftRound s)⟩

/-- A sample read back (R250). -/
def PcmBlock.sample (b : PcmBlock) (k : Nat) : Int := nthD b.words k 0 * 2 ^ b.shift

/-- The frames of a delay line's ring (R231). -/
abbrev lineFrames : Nat := 196608

/-- The number of the block of a channel (0 left, 1 right) that covers a frame (R250); frame i stands at place i mod 196,608 of
the ring (DESIGN CHOICE, notes/assumptions/136.md). -/
def blockOf (i channel : Nat) : Nat := 2 * (i % lineFrames / 32) + channel

/-- Block `b` of a line. -/
def DelayLine.block (d : DelayLine) (b : Nat) : PcmBlock := Map.get (fun _ => PcmBlock.init) d.blocks b

/-- A frame recorded (R231, R250): with its 32nd frame a block's shift is chosen. -/
def DelayLine.push (d : DelayLine) (x : AudioFrame) : DelayLine :=
  let begun := d.open_ ++ [x]
  let hidden := (d.hidden.filter fun i => decide (x.i < i + lineFrames)) ++ (if x.hidden then [x.i] else [])
  let first := max d.first (x.i + 1 - lineFrames)
  if x.i % 32 = 31 then
    let whole := fun (g : AudioFrame → Int) => List.replicate (32 - begun.length) 0 ++ begun.map g
    let put := fun (c : Nat) (g : AudioFrame → Int) (m : Map PcmBlock) =>
      Map.put (fun _ => PcmBlock.init) m (blockOf x.i c) (pcmBlock (whole g))
    ⟨put 1 AudioFrame.r (put 0 AudioFrame.l d.blocks), first, [], hidden⟩
  else { d with open_ := begun, first := first, hidden := hidden }

/-- A frame read back from a line that has recorded up to frame `next` (R231, R250): exact from the copy of the open block, with the
error of BS-PCM16 elsewhere; none outside what it holds. -/
def DelayLine.read (d : DelayLine) (next i : Nat) : Option AudioFrame :=
  if i < d.first ∨ next ≤ i then none
  else match d.open_.find? fun x => x.i == i with
    | some x => some x
    | none => some ⟨i, (d.block (blockOf i 0)).sample (i % 32), (d.block (blockOf i 1)).sample (i % 32), d.hidden.contains i⟩

/-- A byte of a line as it lies in shared memory (R250): the mantissas, then the shift table. -/
def DelayLine.byteAt (d : DelayLine) (offset : Nat) : Nat :=
  if offset < 0xC0000 then
    nthD (leInt 2 (nthD (d.block (offset / 64)).words (offset % 64 / 2) 0)) (offset % 2) 0
  else
    let b := 2 * (offset - 0xC0000)
    (d.block b).shift + 16 * (d.block (b + 1)).shift

end Sys2Proof.Machine
end

