-- ==== Sys2Proof/Machine/Decibel.lean ====
section
/-!
DEFINITION. Machine/Decibel.lean: levels and gains in decibels as exact integer arithmetic. A rounding of k × log10 or of a power of
ten is found by comparing integer powers, so no approximation stands between a rule's formula and the number it gives. A half is
rounded away from zero (DESIGN CHOICE, notes/assumptions/124.md).
-/
namespace Sys2Proof.Machine

/-- The largest number of so many bits at which a test that falls from true to false still holds; 0 is taken to pass. -/
def searchMax (ok : Nat → Bool) (bits : Nat) : Nat :=
  (List.range bits).reverse.foldl (fun n i => if ok (n + 2 ^ i) then n + 2 ^ i else n) 0

/-- num / den × 10^(g / 20) rounded to nearest, as far as so many bits reach. -/
def scaleDb (num den : Nat) (g : Int) (bits : Nat) : Nat :=
  searchMax (fun y => decide ((2 * y - 1) ^ 20 * den ^ 20 * 10 ^ (-g).toNat ≤ (2 * num) ^ 20 * 10 ^ g.toNat)) bits

/-- k × log10(num / den) rounded to nearest and held in a signed 16-bit field; of 0 it is a value that no rule gives. -/
def logRound (k num den : Nat) : Int :=
  if num = 0 ∨ den = 0 then clampInt (-32768) 32767 (Config.logOfZero k)
  else
    (searchMax (fun m =>
      let n : Int := 2 * ((m : Int) - 32768) - 1
      decide (10 ^ n.toNat * den ^ (2 * k) ≤ num ^ (2 * k) * 10 ^ (-n).toNat)) 16 : Int) - 32768

/-- A threshold in dBFS as a 12-bit code magnitude (R69). -/
def codeOf (dbfs : Int) : Nat := scaleDb 2048 1 dbfs 12

/-- The level of a peak code magnitude in 0.1 dBFS (R73). -/
def peakLevel (code : Nat) : Int := logRound 200 code 2048

/-- The level in 0.1 dBFS of a mean power in squared codes, given as a fraction (R73, R89): a full-scale sine is 0 dBFS (DEDUCED,
notes/assumptions/124.md). -/
def powerLevel (num den : Nat) : Int := logRound 100 (2 * num) (den * 2048 ^ 2)

end Sys2Proof.Machine
end

