-- ==== Sys2Proof/Machine/Samples.lean ====
section
/-!
DEFINITION. Machine/Samples.lean: what the signal path computes, sample by sample (R99 to R113, spec/06_prism_chains.md): Prism's
filterbank on the compensated ADC codes, and the stages of a decimation chain. A stream is a function of the sample's number on its
grid, which counts from tick 0; each sample stands at the centre of its support. The words between the stages are exact
(notes/assumptions/129.md).
-/
namespace Sys2Proof.Machine

/-! ### Complex samples -/

def Cx.zero : Cx := ⟨0, 0⟩
def Cx.plus (a b : Cx) : Cx := ⟨a.re + b.re, a.im + b.im⟩
def Cx.minus (a b : Cx) : Cx := ⟨a.re - b.re, a.im - b.im⟩
def Cx.times (a b : Cx) : Cx := ⟨a.re * b.re - a.im * b.im, a.re * b.im + a.im * b.re⟩
def Cx.scale (r : Rat) (a : Cx) : Cx := ⟨r * a.re, r * a.im⟩
def Cx.power (a : Cx) : Rat := a.re ^ 2 + a.im ^ 2

/-- The sum of a list. -/
def sumCx (xs : List Cx) : Cx := xs.foldl Cx.plus Cx.zero

/-- The unit phasor of so many turns. -/
def phasor (turns : Rat) : Cx := ⟨Config.cos (2 * Config.pi * turns), Config.sin (2 * Config.pi * turns)⟩

/-- The last entry of a history that begins at or before a point. -/
def inForce {α : Type} (begins : α → Nat) (x : Int) (l : List α) : Option α :=
  (l.filter fun a => decide ((begins a : Int) ≤ x)).getLast?

/-- A history without the entries that ended before a point. -/
def since {α : Type} (begins : α → Nat) (x : Nat) (l : List α) : List α :=
  (lastN 1 (l.filter fun a => decide (begins a ≤ x))) ++ l.filter fun a => decide (x < begins a)

/-- How far back a history is kept, in ticks: longer than any sample in hand reaches. -/
abbrev reachBack : Nat := 2 ^ 24

/-! ### ADC codes and Prism -/

/-- The code of an ADC sample; one that the stretch does not hold counts as 0. -/
def AdcSpan.code (x : AdcSpan) (j : Int) : Int := if j < x.first then 0 else nthD x.codes (j - x.first).toNat 0

/-- Whether a clock fault conceals an ADC sample (R75). -/
def RfPath.hides (r : RfPath) (j : Int) : Bool :=
  r.concealed.any fun c => decide ((16 * c.1 : Int) ≤ j) && match c.2 with
    | some e => decide (j < 16 * e)
    | none => true

/-- A path's ADC sample on the compensated scale of R67, as sub-band `k` takes it: zero where a clock fault conceals it, and with the
AM branch's own steps compensated in sub-bands 0 and 1 (R65). -/
def RfPath.sample (r : RfPath) (path k : Nat) (x : AdcSpan) (j : Int) : Rat :=
  if r.hides j then 0
  else
    let rf := match inForce (·.1) (j / 16) r.gains with
      | some g => Config.gainTable path g.2.1 g.2.2
      | none => 1
    let am := match inForce (·.1) (j / 16) r.amGains with
      | some g => if k ≤ 1 then Config.amGainTable g.2 else 1
      | none => 1
    x.code j * rf * am

/-- Sample `i` of sub-band `k` (R99, R100): the band about k × 19.2 MHz at 38.4 MS/s, sample `i` at tick 4i, its conversion phase
fixed by Gnomon alone (R53). A CW of full scale has the magnitude 2^17. -/
def prism (k : Nat) (x : Int → Rat) (i : Int) : Cx :=
  let hs := Config.prismTaps
  let half : Int := hs.length / 2
  (sumCx (hs.zipIdx.map fun h =>
    let j := 64 * i + h.2 - half
    (phasor (-((k * j : Int) : Rat) / 128)).scale (h.1 * x j))).scale 128

/-! ### The stages (R101) -/

/-- A filter whose tap `centre` stands on the sample itself. -/
def convolve (taps : List Cx) (centre : Int) (x : Int → Cx) (n : Int) : Cx :=
  sumCx (taps.zipIdx.map fun t => t.1.times (x (n + centre - t.2)))

/-- The half-band stages 1 to `d`, each decimating by 2; bit s−1 of the mask gives stage s the sharp set (R104). -/
def halfBands : Nat → Nat → (Int → Cx) → Int → Cx
  | 0, _, x => x
  | d + 1, mask, x =>
    let taps := (Config.halfBand (mask % 2 == 1)).map fun t => (⟨t, 0⟩ : Cx)
    halfBands d (mask / 2) fun n => convolve taps (taps.length / 2 : Nat) x (2 * n)

/-- Complex taps from their 8 bytes each (R105). -/
def tapsOf (b : Bytes) : List Cx :=
  (List.range (b.length / 8)).map fun i =>
    ⟨(signed 4 (fieldLe b (8 * i) 4) : Rat) / 131072, (signed 4 (fieldLe b (8 * i + 4) 4) : Rat) / 131072⟩

/-- A response of the ROM as R105 lays its 127 taps out (R106): the identity is one tap of 1.0 at the centre. -/
def romResponse (r : Nat) : Bytes :=
  if r = 12 then List.replicate 504 0 ++ leNat 4 131072 ++ List.replicate 508 0 else padTo 1016 (Config.romTaps r)

/-- The samples of weight that a stretch has reached after FIR sample `n` (R107, R108). -/
def Fade.weight (f : Fade) (n : Int) : Nat :=
  let steps := (n + 1 - f.from_).toNat
  if f.reversing then f.w - steps else min f.len (f.w + steps)

/-- The final FIR, its centre at tap (T − 1) / 2 (R105, R106); during a fade both responses run on the same input (R107). -/
def firStage (taps : Nat → List Cx) (fs : List Fade) (x : Int → Cx) (n : Int) : Cx :=
  let run := fun (r : Nat) => convolve (taps r) (((taps r).length - 1) / 2 : Nat) x n
  match inForce Fade.from_ n fs with
  | none => run 0xFF
  | some f =>
    if f.len = 0 then run f.new
    else
      let w : Rat := (f.weight n : Rat) / f.len
      ((run f.old).scale (1 - w)).plus ((run f.new).scale w)

/-- One phase of the rate matcher about FIR sample `i`; phase 1,024 is phase 0 of the next sample (R110). -/
def ratePhase (x : Int → Cx) (i : Int) (phase : Nat) : Cx :=
  let i := i + phase / 1024
  sumCx ((Config.rateTaps (phase % 1024)).zipIdx.map fun t => (x (i + t.2 - 7)).scale t.1)

/-- The rate matcher (R110): output sample `n` stands at FIR sample n × M / L, interpolated between the two nearest of 1,024 phases;
bypassed at L = M. -/
def rateStage (l m : Nat) (x : Int → Cx) (n : Int) : Cx :=
  if l = m then x n
  else
    let i := n * m / l
    let frac : Nat := (n * m % l).toNat * 1024
    let part : Rat := (frac % l : Nat) / (l : Rat)
    ((ratePhase x i (frac / l)).scale (1 - part)).plus ((ratePhase x i (frac / l + 1)).scale part)

/-- One step of the DC blocker (R111): the estimate after a sample, unless it is held. -/
def dcStep (k : Nat) (held : Bool) (d x : Cx) : Cx :=
  if held then d else d.plus ((x.minus d).scale (1 / 2 ^ k))

/-- A sample of a first-order low-pass. -/
def lowPass (c x y : Rat) : Rat := y + c * (x - y)

/-- A number scaled by a gain in dB, rounded to nearest and saturated to so many bits with sign (R113, R120). -/
def scaleRat (q : Rat) (g : Int) (bits : Nat) : Int :=
  let m : Int := scaleDb q.num.natAbs q.den g bits
  if 0 ≤ q then min (2 ^ (bits - 1) - 1) m else max (-2 ^ (bits - 1)) (-m)

/-- The output word of a sample (R113): 8,192 at 0 dBFSc and 0 dB. -/
def outWord (g : Int) (x : Rat) : Int := scaleRat (x / 16) g 16

/-- Whether the output word saturates. -/
def outSaturates (g : Int) (x : Rat) : Bool :=
  let m := scaleDb (x / 16).num.natAbs (x / 16).den g 17
  decide ((if 0 ≤ x then 32767 else 32768) < m)

/-- A mean power in 0.01 dBFSc (R119, R120). -/
def powerDb (p : Rat) : Int := logRound 1000 p.num.natAbs (p.den * 2 ^ 34)

end Sys2Proof.Machine
end

