-- ==== Sys2Proof/Machine/ChainOps.lean ====
section
/-!
DEFINITION. Machine/ChainOps.lean: a chain's grid, the markers that enter its stream and the samples that they cover (R102, R115),
the running chains of a path, and the events a raw capture records (R253).
-/
namespace Sys2Proof.Machine

/-! ### The grid -/

/-- The key of a subindex of chain n's configuration 0x3100+n. -/
abbrev ck (n sub : Nat) : Nat := obj (0x3100 + n) sub

/-- The key of a subindex of chain n's status 0x3120+n. -/
abbrev cs (n sub : Nat) : Nat := obj (0x3120 + n) sub

/-- Whether chain n is a ROM chain, DC24 to DC31 (R106). -/
def isRom (n : Nat) : Bool := 24 ≤ n

/-- The quick block N of a chain, 0 where it is off (R118) or an AF check has taken the chain out of quick mode (R140). -/
def State.quick (s : State) (n : Nat) : Nat := if (s.chain n).quickOff then 0 else s.cnat (ck n 0x10)

/-- The period of a chain's FIR output samples in ticks. -/
def State.firPeriod (s : State) (n : Nat) : Nat := 4 * 2 ^ s.cnat (ck n 4)

/-- The delay of Prism and the half-band stages in ticks (R99, R104). -/
def State.bandDelay (s : State) (n : Nat) : Nat :=
  (List.range (s.cnat (ck n 4))).foldl (fun t i => t + 4 * 2 ^ i * (if bitOf (s.cnat (ck n 5)) i then 11 else 5)) 192

/-- The group delay of the committed configuration in ticks (R104, R125): Prism 192, each half-band stage, the final FIR,
7.5 rate-matcher samples where L ≠ M; 0 in quick mode. -/
def State.groupDelay (s : State) (n : Nat) : Nat :=
  let d := s.cnat (ck n 4)
  let fir := if isRom n then 63 * 4 * 2 ^ d else 2 * (s.cnat (ck n 6) - 1) * 2 ^ d
  let rm := if s.cnat (ck n 0x0B) = s.cnat (ck n 0x0C) then 0 else 30 * 2 ^ d
  if s.quick n = 0 then s.bandDelay n + fir + rm else 0

/-- The spacing of a chain's output grid as a fraction of ticks (R102), a record's in quick mode. -/
def State.gridStep (s : State) (n : Nat) : Nat × Nat :=
  let q := s.quick n
  (4 * 2 ^ s.cnat (ck n 4) * (if q = 0 then s.cnat (ck n 0x0C) else q), if q = 0 then max 1 (s.cnat (ck n 0x0B)) else 1)

/-- The first grid sample at or after a tick. -/
def State.gridFrom (s : State) (n x : Nat) : Nat :=
  let g := s.gridStep n
  (x * g.2 + g.1 - 1) / g.1

/-- The tick of a grid sample, rounded down. -/
def State.gridTick (s : State) (n i : Nat) : Nat := (s.gridStep n).1 * i / (s.gridStep n).2

/-- Half the support of a chain's output samples (R102). -/
def State.support (s : State) (n : Nat) : Nat :=
  Config.supportHalf [s.cnat (ck n 4), s.cnat (ck n 5), s.cnat (ck n 6), s.nat (cs n 3), s.cnat (ck n 0x0B), s.cnat (ck n 0x0C),
    s.quick n] (if isRom n then [] else s.cbytes (obj (0x3140 + n) 0))

/-- The samples of the last FIR input that a quick record spans beside its first, in ticks (R118). -/
def State.recordSpan (s : State) (n : Nat) : Nat := (s.quick n - 1) * s.firPeriod n

/-- The first sample whose support reaches a tick, and the first whose support lies wholly at or after it. -/
def State.reach (s : State) (n x : Nat) : Nat := s.gridFrom n (x - s.support n - s.recordSpan n)
def State.beyond (s : State) (n x : Nat) : Nat := s.gridFrom n (x + s.support n)

/-- The first FIR output sample that a chain computes after now (R107), taken as the first whose instant is not more than the group
delay ago (DESIGN CHOICE, notes/assumptions/21.md). -/
def State.firNow (s : State) (n : Nat) : Nat :=
  (s.gnomon - s.nat (cs n 0x0C) + s.firPeriod n - 1) / s.firPeriod n

/-! ### Markers -/

/-- The grid sample a marker stands on (R115). In quick mode the first record put out after a start or retune is the first settled
one, and the marker stands on it (R118). -/
def State.standsOn (s : State) (n : Nat) (m : Marker) : Nat :=
  match m.kind with
  | 1 => if s.quick n = 0 then s.gridFrom n m.at_ else s.beyond n m.at_
  | 2 => if s.quick n = 0 then s.reach n m.at_ else s.beyond n m.at_
  | 5 | 8 => s.beyond n m.at_
  | 9 | 0x0A => s.gridFrom n m.at_
  | _ => s.reach n m.at_

/-- The span of a marker in samples (R115), where `ms` are the markers that wait. A clip marker's own span field holds the tick of
its last clipped sample. -/
def State.spanOf (s : State) (n : Nat) (ms : List Marker) (m : Marker) : Nat :=
  match m.kind with
  | 1 | 2 => s.beyond n m.at_ - s.standsOn n m
  | 6 => s.beyond n (m.span + 1) - s.reach n m.at_
  | 4 => s.beyond n (m.at_ + m.param) - s.reach n m.at_
  | 7 => match ms.find? fun k => k.kind == 8 && decide (m.at_ ≤ k.at_) with
    | some e => s.beyond n e.at_ - s.reach n m.at_
    | none => Config.markerOpen m.at_
  | _ => m.span

/-- The spans of a chain with one more marker (R112, R115): a blank and a clock fault last until the marker that ends them; a gain step
covers the sample on which it stands. -/
def State.spanned (s : State) (n : Nat) (m : Marker) (l : List MarkSpan) : List MarkSpan :=
  let i := s.standsOn n m
  let ends := fun (kind : Nat) => l.map fun (r : MarkSpan) => if r.kind = kind ∧ r.till = none then { r with till := some i } else r
  match m.kind with
  | 4 | 7 => l ++ [⟨m.kind, i, none⟩]
  | 5 => ends 4
  | 8 => ends 7
  | 3 => l ++ [⟨3, i, some (i + 1)⟩]
  | _ => l ++ [⟨m.kind, i, some (i + s.spanOf n [] m)⟩]

/-- An event record in every capture of a source that is armed or triggered (R253). -/
def State.recordEvent (u : Nat) (m : Marker) (s : State) : State :=
  (List.range 4).foldl (fun s c =>
    let st := s.nat (obj (0x2560 + c) 6)
    if s.nat (obj (0x2560 + c) 1) = u ∧ (st = 1 ∨ st = 2) then
      s.setCapture c { s.capture c with events := (s.capture c).events ++ [m] }
    else s) s

/-- A marker put behind a chain's waiting markers: they are written into its next block (R114, R115), and copied by a
capture of the chain (R253). -/
def State.addMarker (n : Nat) (m : Marker) (s : State) : State :=
  let c := s.chain n
  (s.setChain n { c with markers := c.markers ++ [m], spans := s.spanned n m c.spans }).recordEvent (0x100 + n) m

/-- A mesh tap no longer receives through a path (R139). -/
def State.tapEnds (p : Nat) (s : State) : State := s.setPath p { s.path p with tapSince := none }

/-- The running chains that read from a path. -/
def State.chainsOnPath (s : State) (p : Nat) : List Nat :=
  (List.range 32).filter fun n => s.ustate (0x100 + n) == 2 && (s.chain n).path == p

/-- A marker in every running chain of a path, and an event record in every raw capture of the path that is armed or
triggered (R67, R76, R92, R253). -/
def State.markPath (p : Nat) (m : Marker) (s : State) : State :=
  ((s.chainsOnPath p).foldl (fun s n => s.addMarker n m) s).recordEvent (0x800 + p) m

end Sys2Proof.Machine
end

