-- ==== Sys2Proof/Machine/Flags.lean ====
section
/-!
DEFINITION. Machine/Flags.lean: the sticky flags of the device and how they are set and cleared.
A sticky flag is set by its cause and stays set until a host writes 1 to it; writes of 0 are ignored (R76, R117, R272).
-/
namespace Sys2Proof.Machine

/-- A sticky register of `width` bits after a write of `bits`: every bit written 1 is cleared. -/
def clearWritten (width reg bits : Nat) : Nat :=
  (List.range width).foldl (fun t i => if bitOf reg i && !bitOf bits i then t + 2 ^ i else t) 0

/-- One overload flag of a path set (R76): on a 0-to-1 change an RF event is raised, at most one per bit and path in
100 ms. -/
def State.setOverload (p bit : Nat) (s : State) : State :=
  let k := obj (0x3000 + p) 0x10
  if bitOf (s.nat k) bit then s
  else
    let s := s.setNat k (setBit (s.nat k) bit)
    let r := s.path p
    let recent : Bool := match Map.get (fun _ => none) r.flagAt bit with
      | some t => decide (s.gnomon < t + 15360000)
      | none => false
    if recent then s
    else (s.setPath p { r with flagAt := Map.put (fun _ => none) r.flagAt bit (some s.gnomon) }).raise 9 1
      (0x3000 + p) [(1, p), (1, s.nat k)]

/-- Saturation bits of a chain set (R117): sticky flags, the block's map, and a chain event on a 0-to-1 change, at most
one per chain in 100 ms. -/
def State.setSaturation (n bits : Nat) (s : State) : State :=
  let k := obj (0x3120 + n) 2
  let old := s.nat k
  let new := (List.range 15).foldl (fun t i => if bitOf bits i then setBit t i else t) old
  let c := s.chain n
  let s := (s.setNat k new).setChain n
    { c with satBlock := (List.range 15).foldl (fun t i => if bitOf bits i then setBit t i else t) c.satBlock }
  let recent : Bool := match c.satAt with
    | some t => decide (s.gnomon < t + 15360000)
    | none => false
  if new = old ∨ recent then s
  else (s.setChain n { s.chain n with satAt := some s.gnomon }).raise 12 1 (0x100 + n) [(2, new)]

/-- One bit of Plumb's status 0x302n:07 set or cleared (R96). -/
def State.setPlumbStatus (p bit : Nat) (on : Bool) (s : State) : State :=
  let k := obj (0x3020 + p) 7
  s.setNat k (putBit (s.nat k) bit on)

end Sys2Proof.Machine
end

