-- ==== Sys2Proof/Machine/Rf.lean ====
section
/-!
DEFINITION. Machine/Rf.lean: RF inputs and wideband sampling (spec/04_rf_inputs_sampling.md): gain, AGC, the AM branch,
the sample clock, the overload flags and the antenna supplies.
-/
namespace Sys2Proof.Machine

/-! ### Gain -/

/-- The LNA state for a GR (R66): low above 30; once low, high again only at 18 or below with the detector quiet. -/
def lnaAfter (low : Bool) (gr : Nat) (quiet : Bool) : Bool :=
  if 30 < gr then true else if low then !(decide (gr ≤ 18) && quiet) else false

/-- The release hold in force (R71, R73): in modes 1 and 2, 1 ms in the first 100 ms after power-up, then 0x300n:0A. -/
def State.releaseHold (s : State) (p : Nat) : Nat :=
  if s.nat (obj (0x3000 + p) 2) ≠ 0 ∧ s.gnomon < (s.path p).poweredAt + 15360000 then msTicks
  else s.nat (obj (0x3000 + p) 0x0A) * msTicks

/-- Whether the LNA detector has been quiet for the release hold (R66). -/
def State.lnaQuiet (s : State) (p : Nat) : Bool := decide ((s.path p).lastTrip + s.releaseHold p ≤ s.gnomon)

/-- The first tick at or after `t` on which a gain change may land (R67). -/
def landing (t : Nat) : Nat := (t + 3) / 4 * 4

/-- A path's gain as its samples carry it from a tick on (R67). -/
def State.noteGain (p land : Nat) (s : State) : State :=
  let r := s.path p
  let g := (land, s.nat (obj (0x3000 + p) 6), s.nat (obj (0x3000 + p) 7) == 1)
  s.setPath p { r with gains := since (·.1) (s.gnomon - reachBack) (r.gains ++ [g]) }

/-- A path's GR set (R66, R67): the LNA follows, the gain step is counted, and a gain-step marker with the change in dB
enters every running chain at the tick on which the step lands. While the LNA stays low GR is at least 12. -/
def State.setGain (p want land : Nat) (s : State) : State :=
  let old := s.nat (obj (0x3000 + p) 6)
  let low := s.nat (obj (0x3000 + p) 7) == 1
  let newLow := lnaAfter low want (s.lnaQuiet p)
  let gr := if newLow then max want 12 else want
  let s := s.setNat (obj (0x3000 + p) 7) (boolNat newLow)
  if gr = old then s
  else
    let s := s.setNat (obj (0x3000 + p) 6) gr
    let s := s.bump (obj (0x3000 + p) 0x0E)
    let s := if old < gr then s.setPath p { s.path p with lastIncrease := land, lastRelease := none } else s
    (s.noteGain p land).markPath p ⟨3, p, land, 0, ((gr : Int) - old) % 65536 |>.toNat⟩

/-- Whether the paths are linked (R72): mode 2 in FULL. -/
def State.linked (s : State) : Bool := s.mode == .full && s.nat 0x300002 == 2

/-- Both linked paths set to the larger demand, each capped by its own maximum (R72). -/
def State.alignPaths (land : Nat) (s : State) : State :=
  let t := max (s.path 0).demand (s.path 1).demand
  (s.setGain 0 (min t (s.nat 0x300005)) land).setGain 1 (min t (s.nat 0x300105)) land

/-- The GR that a path's AGC works on: alone its GR, linked its own demand (R72; DEDUCED, notes/assumptions/106.md). -/
def State.agcBase (s : State) (p : Nat) : Nat :=
  if s.linked then (s.path p).demand else s.nat (obj (0x3000 + p) 6)

/-- A path's demanded GR applied (R72): alone, or the larger demand on both paths. -/
def State.applyDemand (p d land : Nat) (s : State) : State :=
  let s := s.setPath p { s.path p with demand := d }
  if s.linked then s.alignPaths land else s.setGain p d land

/-- A gain change decided now that lands on a later tick (R67). -/
def State.planGain (p at_ : Nat) (m : GainMove) (s : State) : State :=
  s.setPath p { s.path p with moves := (s.path p).moves ++ [(at_, m)] }

/-- An increase of GR decided (R69): due at the maximum it sets AGC-exhausted. -/
def State.raiseGr (p step land : Nat) (s : State) : State :=
  let s := if s.nat (obj (0x3000 + p) 5) ≤ s.nat (obj (0x3000 + p) 6) then s.setOverload p 2 else s
  (s.setPath p { s.path p with lastIncrease := land, lastRelease := none }).planGain p land (.rise step)

/-- What a trip of the LNA detector makes of the gain where it lands (R70): the LNA low, GR 12 dB up, the attenuator unchanged. -/
def State.tripGain (p land : Nat) (s : State) : State :=
  if s.nat (obj (0x3000 + p) 7) = 1 then s
  else
    let gr := s.nat (obj (0x3000 + p) 6) + 12
    let s := (s.setNat (obj (0x3000 + p) 7) 1).setNat (obj (0x3000 + p) 6) gr
    let s := (s.bump (obj (0x3000 + p) 0x0E)).setPath p
      { s.path p with lastIncrease := land, lastRelease := none, demand := gr }
    let s := (s.noteGain p land).markPath p ⟨3, p, land, 0, 12⟩
    if s.linked then s.setGain (1 - p) (min (max gr (s.path (1 - p)).demand) (s.nat (obj (0x3000 + (1 - p)) 5))) land
    else s

/-- The AM attenuation set (R65, R67): while the branch is on, a change is a gain step of path A, counted and marked with the
change in dB (DEDUCED, notes/assumptions/107.md). -/
def State.landAm (land new : Nat) (s : State) : State :=
  let old := s.nat 0x300023
  let s := s.setNat 0x300023 new
  let r := s.path 0
  let s := s.setPath 0 { r with amGains := since (·.1) (s.gnomon - reachBack) (r.amGains ++ [(land, new)]) }
  if new = old ∨ s.nat 0x300020 = 0 ∨ s.nat 0x300001 < 2 then s
  else (s.bump 0x30000E).markPath 0 ⟨3, 0, land, 0, ((new : Int) - old) % 65536 |>.toNat⟩

/-- A gain change lands (R69 to R73): an increase capped at the maximum, a release step at the minimum. -/
def State.landGain (p land : Nat) (m : GainMove) (s : State) : State :=
  let gr := s.agcBase p
  match m with
  | .rise db =>
    let mx := s.nat (obj (0x3000 + p) 5)
    if mx ≤ gr then s else s.applyDemand p (min (gr + db) mx) land
  | .fall => if gr ≤ s.nat (obj (0x3000 + p) 4) then s else s.applyDemand p (gr - 1) land
  | .manual v => if s.nat (obj (0x3000 + p) 2) = 0 then s.setGain p v land else s
  | .trip => s.tripGain p land
  | .am db => s.landAm land db

/-- What a tick does to a path's gain (R66, R67): the changes whose tick has come land in the order of their decision, and a low LNA
whose GR permits it returns high once its detector has been quiet. -/
def State.tickGain (p : Nat) (s : State) : State :=
  let due := (s.path p).moves.filter fun m => decide (m.1 ≤ s.gnomon)
  let s := if due = [] then s
    else s.setPath p { s.path p with moves := (s.path p).moves.filter fun m => decide (s.gnomon < m.1) }
  let s := due.foldl (fun s m => s.landGain p m.1 m.2) s
  let low := s.nat (obj (0x3000 + p) 7) == 1
  if low && 2 ≤ s.nat (obj (0x3000 + p) 1) && !lnaAfter low (s.nat (obj (0x3000 + p) 6)) (s.lnaQuiet p)
  then (s.setNat (obj (0x3000 + p) 7) 0).noteGain p (landing s.gnomon) else s

/-- Whether a release step is held (R71): a Plumb blank open, a mesh tap receiving (at most 20 ms), or the clock
unlocked. -/
def State.releaseHeld (s : State) (p : Nat) : Bool :=
  let r := s.path p
  r.blankOpen || r.unlockedAt.isSome || match r.tapSince with
    | some t => decide (s.gnomon < min r.tapUntil (t + 3072000))
    | none => false

/-- Whether a release step is due (R71). -/
def State.releaseDue (s : State) (p : Nat) : Bool :=
  let r := s.path p
  s.nat (obj (0x3000 + p) 2) != 0 && 2 ≤ s.nat (obj (0x3000 + p) 1) &&
    match r.lastRelease with
    | none => decide (max r.lastIncrease r.lastAbove + s.releaseHold p ≤ s.gnomon)
    | some t => decide (t + 307200 ≤ s.gnomon)

/-- A release step decided (R71), where it is due and not held: it lands on the tick given. -/
def State.releaseStep (p land : Nat) (s : State) : State :=
  if s.releaseDue p && !s.releaseHeld p then
    (s.setPath p { s.path p with lastRelease := some land }).planGain p land .fall
  else s

/-- The windows in the 10 ms over which the levels are published (R73). -/
abbrev levelWindows : Nat := 6000

/-- The published peak and RMS levels after one more window of 256 ticks (R73). -/
def State.publishLevels (p : Nat) (codes : List Int) (s : State) : State :=
  let peak := codes.foldl (fun m c => max m c.natAbs) 0
  let sum := codes.foldl (fun t c => t + c.natAbs ^ 2) 0
  let ws := lastN levelWindows ((s.path p).levels ++ [(peak, sum)])
  let s := s.setPath p { s.path p with levels := ws }
  let top := ws.foldl (fun m w => max m w.1) 0
  let all := ws.foldl (fun t w => t + w.2) 0
  (s.setNum (obj (0x3000 + p) 0x0B) (peakLevel top)).setNum (obj (0x3000 + p) 0x0C) (powerLevel all (4096 * ws.length))

/-- Whether an ADC code is clipped (R69, R76). -/
def clippedCode (c : Int) : Bool := c == -2048 || c == 2047

/-- The first and last ticks of a window that ends at `stop` which hold clipped samples, 16 samples to a tick, and how many samples. -/
def clipsOf (stop : Nat) (codes : List Int) : Option (Nat × Nat × Nat) :=
  let at_ := (codes.zipIdx.filter fun c => clippedCode c.1).map fun c => stop - 256 + c.2 / 16
  match at_.head?, at_.getLast? with
  | some a, some b => some (a, b, at_.length)
  | _, _ => none

/-- AGC_WINDOW_END (R69): at a multiple of 256 ticks a detector window ends, with the codes of its samples in order. The levels and the
clip count of R73's table follow, the clip flag and marker of R76, and the first rule that matches, its step 8 ticks later: clip, attack
by the attack threshold, release by the release threshold. -/
def execAgcWindowEnd (path : Nat) (codes : List Int) (s : State) : Host.Outcome State Fault Refusal :=
  .next <|
    if path < 2 ∧ 2 ≤ s.nat (obj (0x3000 + path) 1) ∧ s.gnomon % 256 = 0 then
      let s := s.publishLevels path codes
      let clips := clipsOf s.gnomon codes
      let s : State := match clips with
        | none => s
        | some (a, b, n) => ((s.bumpBy (obj (0x3000 + path) 0x0D) n).setOverload path 0).markPath path ⟨6, path, a, b, min n 65535⟩
      let above := (codes.filter fun c => decide (codeOf (s.num (obj (0x3000 + path) 8)) < c.natAbs)).length
      let quiet := codes.all fun c => decide (c.natAbs < codeOf (s.num (obj (0x3000 + path) 9)))
      let s := if quiet then s
        else s.setPath path { s.path path with lastAbove := s.gnomon, lastRelease := none }
      let land := landing (s.gnomon + 8)
      if s.nat (obj (0x3000 + path) 2) = 0 then s
      else if clips.isSome then s.raiseGr path 6 land
      else if 4 ≤ above then s.raiseGr path 3 land
      else s.releaseStep path land
    else s

/-- AGC_RELEASE_STEP (R71): one release step where it is due and not held; otherwise nothing happens. -/
def execAgcReleaseStep (path : Nat) (s : State) : Host.Outcome State Fault Refusal :=
  .next (if path < 2 then s.releaseStep path (landing s.gnomon) else s)

/-- LNA_TRIP (R70): whatever the AGC mode, the trip flag is set, and the LNA is forced low on the next 4-tick boundary. -/
def execLnaTrip (path : Nat) (s : State) : Host.Outcome State Fault Refusal :=
  .next <|
    if path < 2 ∧ 2 ≤ s.nat (obj (0x3000 + path) 1) then
      ((s.setPath path { s.path path with lastTrip := s.gnomon }).setOverload path 1).planGain path (landing s.gnomon) .trip
    else s

/-- A manual GR write (R73): refused with 0x0A01 while the AGC is automatic; otherwise stored, and set on a running path; it
lands at least 8 ticks after acceptance. -/
def State.writeManualGr (p gr : Nat) (s : State) : State × Nat :=
  guarded (refuseIf (s.nat (obj (0x3000 + p) 2) != 0) 0x0A01) (fun s =>
    let s := s.setNat (obj (0x3000 + p) 3) gr
    if 2 ≤ s.nat (obj (0x3000 + p) 1) then s.planGain p (landing (s.gnomon + 8)) (.manual gr) else s) s

/-- An AGC mode write (R72, R73): 2 links both paths; 0 or 1 while linked sets both; a path that goes from automatic to
manual keeps its GR, and 0x300n:03 reads it from then on. Linked anew, each path demands the GR it has. -/
def State.writeAgcMode (p m : Nat) (s : State) : State :=
  let one := fun (q : Nat) (s : State) =>
    let old := s.nat (obj (0x3000 + q) 2)
    let s := if old ≠ 0 ∧ m = 0 then s.setNat (obj (0x3000 + q) 3) (s.nat (obj (0x3000 + q) 6)) else s
    let s := if old = 2 then s else s.setPath q { s.path q with demand := s.nat (obj (0x3000 + q) 6) }
    s.setNat (obj (0x3000 + q) 2) m
  if m = 2 ∨ s.nat (obj (0x3000 + p) 2) = 2 then one 1 (one 0 s) else one p s

/-- MANUAL_GR_WRITE (R73). -/
def execManualGrWrite (by_ : Requester) (path gr : Nat) (s : State) : Host.Outcome State Fault Refusal :=
  .next (s.request by_ (obj (0x3000 + path) 3) (leNat 1 gr) (State.writeManualGr path gr))

/-- AGC_MODE_WRITE (R72). -/
def execAgcModeWrite (by_ : Requester) (path mode : Nat) (s : State) : Host.Outcome State Fault Refusal :=
  .next (s.request by_ (obj (0x3000 + path) 2) (leNat 1 mode) (accept (State.writeAgcMode path mode)))

/-- An AM attenuation decided (R65, R67): while path A runs it lands on the next 4-tick boundary. -/
def State.setAmAttenuation (new : Nat) (s : State) : State :=
  if s.nat 0x300001 < 2 then s.landAm s.gnomon new else s.planGain 0 (landing s.gnomon) (.am new)

/-- AM_ATTENUATION_STEP (R65, R76): above −10 dBFS the attenuation rises by 6 dB, at its top step the AM-clip flag is set;
after 20 ms below −22 dBFS it falls by 6 dB. `level` is the detected level in 0.1 dBFS. -/
def execAmAttenuationStep (level : Int) (s : State) : Host.Outcome State Fault Refusal :=
  .next <|
    if s.nat 0x300020 = 1 ∧ s.nat 0x300022 = 1 ∧ s.nat 0x300001 = 2 then
      let a := s.nat 0x300023
      if -100 < level then
        let s := State.setAmAttenuation (min 36 (a + 6)) { s with amQuietSince := none }
        if 30 ≤ a then s.setOverload 0 3 else s
      else if level < -220 then
        match s.amQuietSince with
        | none => { s with amQuietSince := some s.gnomon }
        | some t =>
          if t + 3072000 ≤ s.gnomon then { s.setAmAttenuation (a - 6) with amQuietSince := some s.gnomon } else s
      else { s with amQuietSince := none }
    else { s with amQuietSince := none }

/-- OVERLOAD_FLAGS_CLEAR (R76): every bit written 1 is cleared. -/
def execOverloadFlagsClear (by_ : Requester) (path bits : Nat) (s : State) : Host.Outcome State Fault Refusal :=
  .next (s.request by_ (obj (0x3000 + path) 0x10) (leNat 1 bits)
    (accept fun s => s.setNat (obj (0x3000 + path) 0x10) (clearWritten 8 (s.nat (obj (0x3000 + path) 0x10)) bits)))

/-! ### Antenna supplies -/

/-- Whether the mode's bit of 0x301n:01 allows the supply (R78). -/
def State.antennaMode (s : State) (p : Nat) : Bool :=
  let m := s.nat (obj (0x3010 + p) 1)
  match s.mode with
  | .watch => bitOf m 0
  | .listen => bitOf m 1
  | .full => bitOf m 2
  | .update => bitOf m 3
  | _ => false

/-- A supply's status changed, with its event (R79, R489). -/
def State.setAntennaStatus (p new : Nat) (s : State) : State :=
  let k := obj (0x3010 + p) 7
  let old := s.nat k
  if old = new then s
  else (s.setNat k new).raise 10 1 (0x3010 + p) [(1, p), (1, old), (1, new), (2, s.nat (obj (0x3010 + p) 6))]

/-- The enable ball brought in line with R78 after a change of mode or mask: off reads status 0, on reads 1; a supply off
for a fault, or latched off, keeps its status. -/
def State.refreshAntenna (p : Nat) (s : State) : State :=
  let st := s.nat (obj (0x3010 + p) 7)
  let on := s.ready && s.antennaMode p && st < 3
  let a := s.antenna p
  let s := s.setAntenna p { a with enable := on, means := if on && a.enable then a.means else [] }
  if 3 ≤ st then s else if on then (if st = 0 then s.setAntennaStatus p 1 else s) else s.setAntennaStatus p 0

/-- A supply switched off for a fault (R79): status `st`, or latched off once the retries are used: with a retry count of 0 at the
first fault (DEDUCED, notes/assumptions/125.md). -/
def State.antennaFault (p st : Nat) (s : State) : State :=
  let a := s.antenna p
  let s := (s.setAntenna p { a with enable := false, faultAt := some s.gnomon, means := [] }).bump (obj (0x3010 + p) 0x0A)
  s.setAntennaStatus p (if s.nat (obj (0x3010 + p) 8) ≤ a.retries then 5 else st)

/-- Whether a sense current lies above the short threshold as the comparator's DAC gives it, in steps of a 256th of the sense scale
(R79; the step nearest to the threshold is a DESIGN CHOICE, notes/assumptions/151.md). -/
def State.shorted (s : State) (path current : Nat) : Bool :=
  let scale := s.nat (obj (0x3010 + path) 2)
  let step := (512 * s.nat (obj (0x3010 + path) 5) + scale) / (2 * scale)
  decide (step * scale < 256 * current)

/-- ANTENNA_SHORT (R79): the fast comparator sees a current in mA above the short threshold: the enable goes low and the status is 4;
with every retry used it is 5. -/
def execAntennaShort (path current : Nat) (s : State) : Host.Outcome State Fault Refusal :=
  .next <|
    if path < 2 ∧ (s.antenna path).enable ∧ s.shorted path current then s.antennaFault path 4
    else s

/-- The current in mA that a hundred 10-bit conversions, 10 ms of them, make (R78, R79): 1.500 V is the sense scale, and one count a
1,024th of it (DEDUCED, notes/assumptions/151.md). -/
def State.senseMean (s : State) (path : Nat) (codes : List Nat) : Nat :=
  (2 * codes.foldl (· + ·) 0 * s.nat (obj (0x3010 + path) 2) + 102400) / 204800

/-- The 10 ms mean taken into the last ten, which make the 100 ms mean; it starts anew each time the supply is enabled (DESIGN CHOICE,
notes/assumptions/151.md). -/
def Antenna.take (recent now : Nat) (a : Antenna) : Antenna :=
  { a with means := if a.enable then lastN 10 (a.means ++ [recent]) else [], meanAt := some now }

/-- The 100 ms mean in mA, once ten 10 ms means make it. -/
def Antenna.mean (a : Antenna) : Option Nat :=
  if a.means.length = 10 then some ((a.means.foldl (· + ·) 0 + 5) / 10) else none

/-- What a 100 ms mean tells of an enabled supply (R79): overcurrent (not within 2 ms of a retry), open, or normal, which ends the run
of retries. -/
def State.judgeAntenna (path mean : Nat) (s : State) : State :=
  let a := s.antenna path
  let early : Bool := match a.retriedAt with
    | some t => decide (s.gnomon < t + 307200)
    | none => false
  if s.nat (obj (0x3010 + path) 4) < mean then
    if early then s else s.antennaFault path 3
  else
    let s := s.setAntenna path { a with retries := 0, faultAt := none }
    s.setAntennaStatus path (if mean < s.nat (obj (0x3010 + path) 3) then 2 else 1)

/-- ANTENNA_CURRENT_JUDGE (R78, R79): the next hundred conversions of the sense voltage, whose 10 ms mean 0x301n:06 reads; while the
supply is enabled the mean of the last ten such means is judged. -/
def execAntennaCurrentJudge (path : Nat) (codes : List Nat) (s : State) : Host.Outcome State Fault Refusal :=
  .next <|
    if path < 2 ∧ codes.length = 100 ∧ ((s.antenna path).meanAt.all fun t => decide (t + 10 * msTicks ≤ s.gnomon)) then
      let recent := min 65535 (s.senseMean path codes)
      let a := (s.antenna path).take recent s.gnomon
      let s := (s.setNat (obj (0x3010 + path) 6) recent).setAntenna path a
      match a.mean with
      | some m => s.judgeAntenna path m
      | none => s
    else s

/-- ANTENNA_RETRY (R79): 1 s after a short or overcurrent the enable is driven high again, up to the retry count. -/
def execAntennaRetry (path : Nat) (s : State) : Host.Outcome State Fault Refusal :=
  .next <|
    let a := s.antenna path
    let st := s.nat (obj (0x3010 + path) 7)
    if path < 2 ∧ (st = 3 ∨ st = 4) ∧ s.antennaMode path ∧ a.retries < s.nat (obj (0x3010 + path) 8) then
      match a.faultAt with
      | some t =>
        if t + 153600000 ≤ s.gnomon then
          (s.setAntenna path { a with enable := true, retries := a.retries + 1, retriedAt := some s.gnomon
            }).setAntennaStatus path 1
        else s
      | none => s
    else s

/-- Status 5 cleared (R79): the supply returns to what R78 gives, through status 0 and with its retries unused (DEDUCED,
notes/assumptions/125.md). -/
def State.restoreAntenna (path : Nat) (s : State) : State :=
  if s.nat (obj (0x3010 + path) 7) = 5 then ((s.setAntenna path Antenna.init).setAntennaStatus path 0).refreshAntenna path
  else s

/-- ANTENNA_RESTORE (R79). -/
def execAntennaRestore (by_ : Requester) (path value : Nat) (s : State) : Host.Outcome State Fault Refusal :=
  .next (s.request by_ (obj (0x3010 + path) 9) (leNat 1 value) (accept (State.restoreAntenna path)))

/-! ### Rules of R74 and R80 for plain writes -/

/-- The rules of R74 and R80 that a write to 0x300n or 0x301n must meet beyond its range. -/
def State.rfRule (s : State) (key : Nat) (v : Int) : Nat :=
  let idx := key / 256
  let sub := key % 256
  if 0x3000 ≤ idx ∧ idx ≤ 0x3001 then
    let g := fun (x : Nat) => if sub = x then v else s.num (obj idx x)
    if sub = 4 ∨ sub = 5 then refuseIf (g 5 < g 4) 0x0A02
    else if sub = 8 ∨ sub = 9 then refuseIf (g 8 - 3 < g 9) 0x0A02
    else 0
  else if 0x3010 ≤ idx ∧ idx ≤ 0x3011 then
    let g := fun (x : Nat) => if sub = x then v else s.num (obj idx x)
    if 2 ≤ sub ∧ sub ≤ 5 then refuseIf (!(g 3 < g 4 && g 4 < g 5 && g 5 ≤ g 2)) 0x0A02
    else 0
  else 0

/-- What a plain write to 0x300n or 0x301n does beside being stored: GR limits and mode masks act at once. -/
def State.rfEffect (key : Nat) (s : State) : State :=
  let idx := key / 256
  let sub := key % 256
  if 0x3010 ≤ idx ∧ idx ≤ 0x3011 ∧ sub = 1 then s.refreshAntenna (idx - 0x3010)
  else if idx = 0x3000 ∧ 0x20 ≤ sub ∧ sub ≤ 0x22 then
    let s := if s.nat 0x300020 = 0 ∨ s.nat 0x300022 = 0 then { s with amQuietSince := none } else s
    if sub ≠ 0x20 ∧ s.nat 0x300022 = 0 then s.setAmAttenuation (s.nat 0x300021) else s
  else s

/-- A path powered up (R73): starting gain, counters of the AGC run, path state 2. -/
def State.powerPath (p : Nat) (s : State) : State :=
  let m := s.nat (obj (0x3000 + p) 2)
  let gr := if m = 0 then s.nat (obj (0x3000 + p) 3)
    else clampNat (s.nat (obj (0x3000 + p) 4)) (s.nat (obj (0x3000 + p) 5)) 18
  let low : Bool := 30 < gr
  let s := s.setPath p { s.path p with
    lastIncrease := s.gnomon, lastAbove := s.gnomon, lastRelease := none, poweredAt := s.gnomon, demand := gr
    unlockedAt := none, blankOpen := false, moves := [], levels := [], gains := [(s.gnomon, gr, low)]
    amGains := [(s.gnomon, s.nat 0x300023)], concealed := [] }
  let s := if p = 0 then { s with amQuietSince := none } else s
  ((s.setNat (obj (0x3000 + p) 6) gr).setNat (obj (0x3000 + p) 7) (boolNat low)).setNat (obj (0x3000 + p) 1) 2

end Sys2Proof.Machine
end

