-- ==== Sys2Proof/Machine/Plumb.lean ====
section
/-!
DEFINITION. Machine/Plumb.lean: Plumb's calibration cycles, trims and blanking windows (spec/05_plumb_calibration.md).
-/
namespace Sys2Proof.Machine

/-! ### Trims -/

/-- The U32 of three trims (R85). -/
def encodeTrim (t : Trim) : Nat :=
  (t.offset % 256).toNat + (t.gain % 256).toNat * 256 + (t.skew % 1024).toNat * 65536

/-- Three trims from their U32 (R85). -/
def decodeTrim (n : Nat) : Trim :=
  let sx := fun (w v : Nat) => if v < 2 ^ (w - 1) then (v : Int) else (v : Int) - (2 ^ w : Nat)
  ⟨sx 8 (n % 256), sx 8 (n / 256 % 256), sx 10 (n / 65536 % 1024)⟩

/-- Trims in force (table 0x3024), kept (0x3026), staged (0x3028) or factory (0x302A) of a path. -/
def State.trims (s : State) (table p : Nat) : List Nat :=
  (List.range 16).map fun i => s.nat (obj (table + p) (i + 1))

/-- One table of trims set. -/
def State.setTrims (table p : Nat) (ts : List Nat) (s : State) : State :=
  (List.range 16).foldl (fun s i => s.setNat (obj (table + p) (i + 1)) (nthD ts i 0)) s

/-! ### Outcomes -/

/-- An outcome recorded (R96): the object, its counters, and the Plumb event of kind 2 with O and G. -/
def State.plumbOutcome (p n : Nat) (s : State) : State :=
  let s := s.setNat (obj (0x3020 + p) 0x0D) n
  let s := if n = 3 then s.bump (obj (0x3020 + p) 0x0C) else s
  let s := if 4 ≤ n ∧ n ≤ 7 then s.bump (obj (0x3020 + p) 0x0A) else s
  let s := if n = 8 then s.bump (obj (0x3020 + p) 0x0B) else s
  let s := if n = 1 ∨ n = 2 then
      (s.setPlumbStatus p 4 false).setPlumbStatus p 5 false
    else s
  let s := if n = 8 then s else s.setPlumb p { s.plumbOf p with reverts := 0 }
  let s := if n = 7 then s.setPlumb p { s.plumbOf p with ditherNext := true } else s
  s.raise 11 2 (0x800 + p) [(1, p), (1, n), (2, s.num (obj (0x3020 + p) 0x0E)), (2, s.num (obj (0x3020 + p) 0x0F))]

/-! ### Windows -/

/-- The path's die temperature (0x7000:01 for A, :02 for B). -/
def State.pathTemp (s : State) (p : Nat) : Int := s.num (obj 0x7000 (p + 1))

/-- An estimator window begins (R82, R91): dither by its mode, and bit 2 set. -/
def State.startWindow (p : Nat) (phase : PlumbPhase) (s : State) : State :=
  let r := s.plumbOf p
  let mode := s.nat (obj (0x3020 + p) 4)
  let forced := bitOf (s.nat (obj (0x3020 + p) 7)) 5
  let dither := mode == 2 || (mode == 1 && (r.ditherNext || forced))
  let s := s.setPlumb p { r with
    phase := phase, windowStart := s.gnomon, lastWindowStart := s.gnomon, windowTemp := s.pathTemp p
    spans := r.blanks.map (·.at_), ditherNext := false, voided := (s.path p).unlockedAt.isSome, stats := none }
  (s.setPlumbStatus p 1 dither).setPlumbStatus p 2 true

/-- The unit state that a Plumb mode gives (R96): RUNNING in modes 0 and 2, HELD in mode 1, while the path is up. -/
def State.plumbUnitState (p : Nat) (s : State) : State :=
  if s.ustate (0x800 + p) = 0 then s
  else s.setUState (0x800 + p) (if s.nat (obj (0x3020 + p) 1) = 1 then 3 else 2) 2 0

/-- The end of a cycle (R87, R88, R97): a held mode write lands; in mode 0 with the converged bit clear the next window
starts at once, with it set the cycle rests. -/
def State.endCycle (p : Nat) (s : State) : State :=
  let r := s.plumbOf p
  let s := match r.heldMode with
    | some m => (s.setNat (obj (0x3020 + p) 1) m).plumbUnitState p
    | none => s
  let s := (s.setPlumb p { s.plumbOf p with
    phase := .idle, heldMode := none, runOnce := false
    }).setPlumbStatus p 2 false |>.setPlumbStatus p 1 false
  if s.nat (obj (0x3020 + p) 1) = 0 ∧ !bitOf (s.nat (obj (0x3020 + p) 7)) 0 ∧ 2 ≤ s.nat (obj (0x3000 + p) 1)
  then s.startWindow p .window else s

/-! ### Placing a blank -/

/-- Whether a mesh tap receives a frame through a chain of the path (R94). -/
def State.tapReceiving (s : State) (p : Nat) : Bool :=
  (s.path p).tapSince.isSome && decide (s.gnomon < (s.path p).tapUntil)

/-- The first null at or after which L lies at least 1,536 ticks ahead (R93): nulls recur every 14,745,600 ticks. -/
def nextNullL (now null : Nat) : Nat :=
  let l0 := null + 76800
  if now + 1536 ≤ l0 then l0 else l0 + roundUp 14745600 (now + 1536 - l0)

/-- The kind 0x07 entries of a path that change trims, or those that do not. -/
def LaunchEntry.isBlank (e : LaunchEntry) (p : Nat) (changes : Bool) : Bool :=
  e.kind == 7 && e.target == 0x800 + p && (nthD e.param 1 0 != 0) == changes

/-- Those entries taken out of the launch table. -/
def State.dropBlanks (p : Nat) (changes : Bool) (s : State) : State :=
  (List.range 64).foldl (fun s n =>
    match s.entry n with
    | some e => if e.isBlank p changes then s.setEntry n none else s
    | none => s) s

/-- The announcement of a window (R13, R92): the Plumb event of kind 1 with path, action and L. -/
def State.announceBlank (p action l : Nat) (s : State) : State :=
  s.raise 11 1 (0x800 + p) [(1, p), (1, action), (8, l)]

/-- Whether an entry of a path that changes trims is placed: status bit 3 (R96). -/
def State.applyArmed (s : State) (p : Nat) : Bool := bitOf (s.nat (obj (0x3020 + p) 7)) 3

/-- The placement of the blank that a path waits for (R92 to R94), judged 1,536 ticks before its candidate L: protected
placement takes the reported nulls and, while a mesh tap receives, lets two of them pass; free placement waits for the end of
the frame, never later than 3,072,000 ticks after the first candidate, and is kept once it has begun. The entry is internal with
owner 23, announced by the Plumb event of kind 1. With no free entry the placement waits as a deferral does
(notes/assumptions/17.md). -/
def State.tryPlace (p : Nat) (s : State) : State :=
  let r := s.plumbOf p
  let l := s.gnomon + 1536
  match r.jobs with
  | [] => s
  | j :: _ =>
    if s.applyArmed p then s
    else
      let place := fun (s : State) =>
        match s.entryFor true with
        | none => s
        | some n =>
          let e : LaunchEntry := ⟨l, l, 0, 7, 0, 0x800 + p, 23, 0, 0, 0, [p, j.action, 0, 0, 0, 0, 0, 0]⟩
          ((s.setEntry n (some e)).setPlumbStatus p 3 true).announceBlank p j.action l
      match r.freeFrom, r.nullStart with
      | none, some null =>
        if nextNullL s.gnomon null ≠ l then s
        else if s.tapReceiving p ∧ r.skippedNulls < 2 then s.setPlumb p { r with skippedNulls := r.skippedNulls + 1 }
        else place s
      | from_, _ =>
        let first := from_.getD l
        let s := s.setPlumb p { r with freeFrom := some first }
        if s.tapReceiving p ∧ l < first + 3072000 then s else place s

/-- A blank that changes trims asked for, behind those that wait. -/
def State.askBlank (p : Nat) (j : PlumbJob) (s : State) : State :=
  let r := s.plumbOf p
  let r := if r.jobs.isEmpty then { r with skippedNulls := 0, freeFrom := none } else r
  (s.setPlumb p { r with jobs := r.jobs ++ [j] }).tryPlace p

/-- The armed entry that changes trims taken back, with its job, and the job of the cycle with it (R94, R97). -/
def State.cancelApply (p : Nat) (s : State) : State :=
  let armed := s.applyArmed p
  let s := s.dropBlanks p true
  let r := s.plumbOf p
  let jobs := if armed then r.jobs.drop 1 else r.jobs
  let r := { r with jobs := jobs.filter fun j => j.outcome != 0, skippedNulls := 0, freeFrom := none }
  (s.setPlumb p r).setPlumbStatus p 3 false

/-- The windows of a repeating blank test announced, each 1,536 ticks ahead of its L (R13, R92). -/
def State.announceTest (p : Nat) (s : State) : State :=
  (List.range 64).foldl (fun s n =>
    match s.entry n with
    | some e => if e.isBlank p false && e.fired != 0 && e.instant == s.gnomon + 1536 then s.announceBlank p 0 e.instant else s
    | none => s) s

/-- The armed blank-test entries of a path removed (R97). -/
def State.cancelTest (p : Nat) (s : State) : State := (s.dropBlanks p false).setPlumbStatus p 6 false

/-! ### The figures of a window (R82 to R84) -/

/-- One number over another; over 0 it is what the device gives, which no rule states. -/
def quot (a b : Rat) : Rat := if b = 0 then Config.overZero a else a / b

/-- The mean of the sixteen sub-ADCs. -/
def mean16 (xs : List Rat) : Rat := xs.foldl (· + ·) 0 / 16

/-- The nearest whole number, a half away from zero (notes/assumptions/124.md). -/
def roundRat (q : Rat) : Int := if 0 ≤ q then (q + 1 / 2).floor else -((1 / 2 - q).floor)

/-- Two halves' sums together. -/
def SubSums.plus (a b : SubSums) : SubSums := ⟨a.sum + b.sum, a.square + b.square, a.next + b.next, a.cross + b.cross⟩

/-- The offset m_p of each sub-ADC over so many ticks (R82). -/
def offsets (n : Nat) (xs : List SubSums) : List Rat := xs.map fun x => (x.sum : Rat) / n

/-- The power P_p of each (R82). -/
def powers (n : Nat) (xs : List SubSums) : List Rat := xs.map fun x => (x.square : Rat) / n - ((x.sum : Rat) / n) ^ 2

/-- The neighbour correlation C_p of each (R82). -/
def correlations (n : Nat) (xs : List SubSums) : List Rat :=
  xs.map fun x => (x.cross : Rat) / n - (x.sum : Rat) / n * ((x.next : Rat) / n)

/-- The gain error g_p of each (R82). -/
def gainErrors (ps : List Rat) : List Rat := ps.map fun p => Config.sqrt (quot p (mean16 ps)) - 1

/-- 2π f_rms T_s (R82): the phase that the RMS frequency turns between neighbouring sub-ADCs. -/
def rmsPhase (ps cs : List Rat) : Rat := Config.arccos (quot (mean16 cs) (mean16 ps))

/-- The sampling rate 1 / T_s in Hz. -/
abbrev sampleRate : Rat := 2457600000

/-- The spacing errors e_p in seconds (R82). -/
def spacings (ps cs : List Rat) : List Rat :=
  let w := rmsPhase ps cs
  cs.map fun c => quot (c - mean16 cs) (-(mean16 ps * (w * sampleRate) * Config.sin w))

/-- The skews τ_p in seconds (R82): each is the one before it plus that one's spacing error, and their mean is zero. -/
def skews (es : List Rat) : List Rat :=
  let ts := (List.range 16).map fun p => (es.take p).foldl (· + ·) 0
  ts.map (· - mean16 ts)

/-- The steps that sums over so many ticks propose (R84). -/
def proposals (n : Nat) (xs : List SubSums) : List Trim :=
  let ps := powers n xs
  let gs := gainErrors ps
  let ts := skews (spacings ps (correlations n xs))
  (List.range 16).map fun p => ⟨roundRat (-16 * nthD (offsets n xs) p 0), roundRat (-(nthD gs p 0) * 5000),
    roundRat (-(nthD ts p 0) * 10 ^ 15 / 30)⟩

/-- The figures of a window with so many counted ticks in each half (R82, R84, R89). A full-scale sine is 0 dBFS
(notes/assumptions/124.md). -/
def figures (n1 n2 : Nat) (w : WindowSums) : WindowStats :=
  let n := n1 + n2
  let xs := w.first.sums.zipWith SubSums.plus w.second.sums
  let ps := powers n xs
  let cs := correlations n xs
  let phase := rmsPhase ps cs
  let mhz := quot (phase * 2457.6) (2 * Config.pi)
  let ts := skews (spacings ps cs)
  let o := mean16 ((offsets n xs).map (· ^ 2)) / 2048 ^ 2
  let g := mean16 ((gainErrors ps).zipWith (fun g t => g ^ 2 + (phase * sampleRate * t) ^ 2) ts)
  let level := 2 * mean16 (xs.map fun x => (x.square : Rat) / n) / 2048 ^ 2
  { enough := decide ((1 : Rat) / 10 ^ 6 ≤ level ∧ 50 ≤ mhz), frms := clampNat 0 65535 (roundRat mhz).toNat
    o := logRound 100 o.num.natAbs o.den, g := logRound 100 g.num.natAbs g.den
    whole := proposals n xs, first := proposals n1 w.first.sums, second := proposals n2 w.second.sums }

/-- How many ticks of a stretch lie inside blanks whose L are given, oldest first (R83). -/
def blankedTicks (from_ till : Nat) (ls : List Nat) : Nat :=
  (ls.foldl (fun t l =>
    let a := max t.2 (min till (max from_ l))
    let b := max t.2 (min till (max from_ (l + 1920)))
    (t.1 + (b - a), b)) (0, from_)).1

/-! ### The proposal -/

/-- Whether a step lies within the no-change bounds (R87). -/
def Trim.noChange (t : Trim) : Bool :=
  -1 ≤ t.offset && t.offset ≤ 1 && -2 ≤ t.gain && t.gain ≤ 2 && -1 ≤ t.skew && t.skew ≤ 1

/-- A step clamped to its limits (R89 rule 5). -/
def Trim.clamp (t : Trim) : Trim := ⟨clampInt (-8) 8 t.offset, clampInt (-25) 25 t.gain, clampInt (-13) 13 t.skew⟩

/-- Whether a step exceeds the implausible bound (R89 rule 4). -/
def Trim.implausible (t : Trim) : Bool :=
  32 < t.offset.natAbs || 100 < t.gain.natAbs || 53 < t.skew.natAbs

/-- Whether two halves' proposals agree (R89 rule 3). -/
def Trim.agrees (a b : Trim) : Bool :=
  (a.offset - b.offset).natAbs ≤ 2 && (a.gain - b.gain).natAbs ≤ 5 && (a.skew - b.skew).natAbs ≤ 2

/-- Whether trims lie inside the ranges of R85. -/
def Trim.inRange (t : Trim) : Bool :=
  -128 ≤ t.offset && t.offset ≤ 127 && -128 ≤ t.gain && t.gain ≤ 127 && -512 ≤ t.skew && t.skew ≤ 511

/-- Trims moved by a step. -/
def Trim.plus (a b : Trim) : Trim := ⟨a.offset + b.offset, a.gain + b.gain, a.skew + b.skew⟩

/-- The trims that a window's proposal leads to after clamping. -/
def State.proposed (s : State) (p : Nat) (w : WindowStats) : List Trim :=
  (List.range 16).map fun i => (decodeTrim (nthD (s.trims 0x3024 p) i 0)).plus (nthD w.whole i ⟨0, 0, 0⟩).clamp

/-- The pre-check of R89 on a window that is not void: 0 when every rule passes, else the outcome of the first rule that
fails. -/
def State.preCheck (s : State) (p : Nat) (w : WindowStats) : Nat :=
  let agree := (List.range 16).all fun i => (nthD w.first i ⟨0, 0, 0⟩).agrees (nthD w.second i ⟨0, 0, 0⟩)
  firstCode [refuseIf (!w.enough) 7, refuseIf (!agree) 4,
    refuseIf (w.whole.any Trim.implausible) 5, refuseIf (!(s.proposed p w).all Trim.inRange) 6]

/-- A proposal judged and acted on (R87 to R89): a no-change proposal that passes sets the converged bit, any other one clears
it; the staged trims show what it leads to after clamping, where the trims can hold it (notes/assumptions/108.md). -/
def State.actOnProposal (p : Nat) (w : WindowStats) (s : State) : State :=
  let noChange := w.whole.all Trim.noChange
  let r := s.plumbOf p
  let s := if noChange then s else s.setPlumbStatus p 0 false
  let target := (s.proposed p w).map encodeTrim
  let s := if s.nat (obj (0x3020 + p) 1) = 2 ∨ !(s.proposed p w).all Trim.inRange then s else s.setTrims 0x3028 p target
  let c := s.preCheck p w
  if c ≠ 0 then (s.plumbOutcome p c).endCycle p
  else if noChange then ((s.setPlumbStatus p 0 true).plumbOutcome p 2).endCycle p
  else
    (s.setPlumb p { r with prevO := w.o, prevG := w.g, phase := .placed }).askBlank p
      ⟨1, target, 0⟩

/-! ### Commands -/

/-- PLUMB_WINDOW_END (R82 to R84, R87): the window of 2^24 ticks is counted. Its ticks that hold a clipped sample or lie in a blank
are excluded; a window with too many of them, or one that met an unlock, is void: it ends its cycle with outcome 3, or, where a
post-check is awaited, leaves it to the next window. A valid window's indices are published and its steps formed. -/
def execPlumbWindowEnd (path : Nat) (sums : WindowSums) (s : State) : Host.Outcome State Fault Refusal :=
  .next <|
    let r := s.plumbOf path
    if path < 2 ∧ (r.phase = .window ∨ r.phase = .post) ∧ r.stats = none ∧ r.windowStart + 16777216 ≤ s.gnomon then
      let s := (s.bump (obj (0x3020 + path) 8)).setPlumbStatus path 1 false
      let w := r.windowStart
      let out1 := sums.first.clipped + blankedTicks w (w + 8388608) r.spans
      let out2 := sums.second.clipped + blankedTicks (w + 8388608) (w + 16777216) r.spans
      if r.voided ∨ 16384 < out1 + out2 then
        if r.phase = .post then s.startWindow path .post
        else (s.plumbOutcome path 3).endCycle path
      else
        let f := figures (8388608 - out1) (8388608 - out2) sums
        let s := ((s.setNum (obj (0x3020 + path) 0x0E) f.o).setNum (obj (0x3020 + path) 0x0F) f.g).setNat
          (obj (0x3020 + path) 0x13) f.frms
        s.setPlumb path { s.plumbOf path with stats := some f, phase := if r.phase = .post then .post else .proposal }
    else s

/-- PLUMB_PROPOSAL_READY (R87, R89, R94): the proposal is pre-checked and its blank asked for; a placement that waits is judged
again, as it is at each tick. -/
def execPlumbProposalReady (path : Nat) (s : State) : Host.Outcome State Fault Refusal :=
  .next <|
    let r := s.plumbOf path
    if path < 2 ∧ r.phase = .proposal then
      match r.stats with
      | some w => s.actOnProposal path w
      | none => s
    else if path < 2 then s.tryPlace path
    else s

/-- PLUMB_POST_CHECK (R90): the window after an apply is compared with the one that led to it. A pass is outcome 1, and
the window serves as the next cycle's; a fail is outcome 8 and a blank that restores the kept trims; the third in a row
sets forced dither. -/
def execPlumbPostCheck (path : Nat) (s : State) : Host.Outcome State Fault Refusal :=
  .next <|
    let r := s.plumbOf path
    if path < 2 ∧ r.phase = .post then
      match r.stats with
      | none => s
      | some w =>
        if r.prevO + 30 < w.o ∨ r.prevG + 30 < w.g then
          let n := r.reverts + 1
          let s := s.plumbOutcome path 8
          let s := s.setPlumb path { s.plumbOf path with reverts := n, phase := .placed }
          let s := if 3 ≤ n then (s.setPlumbStatus path 5 true).appendLog 11 2 (0x800 + path) else s
          s.askBlank path ⟨2, s.trims 0x3026 path, 8⟩
        else
          let s := s.plumbOutcome path 1
          if r.heldMode.isSome ∨ r.runOnce then s.endCycle path
          else s.setPlumb path { s.plumbOf path with phase := .proposal }
    else s

/-- The protected ensemble of a path stops or loses its nulls (R94): placement becomes free at once, and a candidate that is awaited
counts its limit from now. -/
def State.protectedLost (path : Nat) (s : State) : State :=
  let r := s.plumbOf path
  if path < 2 then
    let awaited := !r.jobs.isEmpty && !s.applyArmed path
    (s.setPlumb path { r with nullStart := none, freeFrom := if awaited then some s.gnomon else r.freeFrom }).tryPlace path
  else s

/-- PLUMB_PROTECTED_LOST (R94). -/
def execPlumbProtectedLost (path : Nat) (s : State) : Host.Outcome State Fault Refusal :=
  .next (s.protectedLost path)

/-- The blanks of a path that are open; the path is marked while any is. -/
def State.setBlanks (p : Nat) (bs : List Blank) (s : State) : State :=
  (s.setPath p { s.path p with blankOpen := !bs.isEmpty }).setPlumb p { s.plumbOf p with blanks := bs }

/-- PLUMB_BLANK (R92, R112): at L the blank-start marker enters every running chain of the path and Lantern, DC blockers freeze,
and the window is open. Where an apply lands inside a window of the blank test, both are open. -/
def execPlumbBlank (entry : Nat) (s : State) : Host.Outcome State Fault Refusal :=
  .next <|
    match s.dueEntry entry [7] with
    | none => s
    | some e =>
      let p := e.target - 0x800
      if s.nat (obj (0x3000 + p) 1) < 2 then s.dropFiring entry e
      else
        let s := s.afterFiring entry e
        let r := s.plumbOf p
        let measuring := r.phase = .window ∨ r.phase = .post
        let s := if measuring then s.setPlumb p { r with spans := r.spans ++ [e.instant] } else s
        let s := if nthD e.param 1 0 = 0 then s.setBlanks p (r.blanks ++ [⟨e.instant, ⟨0, [], 0⟩, false⟩])
          else
            let s := s.setPlumb p { s.plumbOf p with jobs := r.jobs.drop 1, skippedNulls := 0, freeFrom := none }
            (s.setBlanks p (r.blanks ++ [⟨e.instant, r.jobs.headD ⟨0, [], 0⟩, false⟩])).setPlumbStatus p 3 false
        let windows := (s.path p).windows.filter (fun l => decide (s.gnomon - reachBack ≤ l)) ++ [e.instant]
        (s.setPath p { s.path p with windows := windows }).markPath p ⟨4, p, e.instant, 0, 1920⟩

/-- The blank whose trims change next: the oldest open one that changes trims and has not changed them. -/
def Plumb.changing (r : Plumb) : Option Blank := r.blanks.find? fun b => b.job.action != 0 && !b.changed

/-- PLUMB_TRIM_CHANGE (R86, R88, R92, R96): at L + 384 all 48 trims change together; the trims in force before become the kept
trims; a restore or manual apply records its outcome; the temperature trigger counts from the window that led to an apply. -/
def execPlumbTrimChange (path : Nat) (s : State) : Host.Outcome State Fault Refusal :=
  .next <|
    let r := s.plumbOf path
    match r.changing with
    | none => s
    | some b =>
      if path < 2 ∧ b.at_ + 384 ≤ s.gnomon then
        let s := (s.setTrims 0x3026 path (s.trims 0x3024 path)).setTrims 0x3024 path b.job.target
        let s := (s.bump (obj (0x3020 + path) 9)).setNat (obj (0x3020 + path) 0x10) (b.at_ + 384)
        let s := s.setNum (obj (0x3020 + path) 0x11) (s.pathTemp path)
        let s := s.setPlumb path { s.plumbOf path with
          blanks := r.blanks.map fun c => if c = b then { c with changed := true } else c
          applyTemp := if b.job.outcome = 0 then some r.windowTemp else r.applyTemp }
        if b.job.outcome = 9 ∨ b.job.outcome = 10 then s.plumbOutcome path b.job.outcome else s
      else s

/-- The end of an open blank (R92): at L + 1,920 the blank-end marker closes the window and DC blockers resume; what follows is the
post-check window of an apply, or the end of a reverted cycle; a blank test that has no firing left is over. -/
def State.endBlank (p : Nat) (b : Blank) (s : State) : State :=
  let s := (s.setBlanks p ((s.plumbOf p).blanks.erase b)).markPath p ⟨5, p, b.at_ + 1920, 0, 0⟩
  if b.job.action = 0 then
    let more := s.launch.any fun q => match q.2 with
      | some e => e.isBlank p false
      | none => false
    if more then s else s.setPlumbStatus p 6 false
  else if b.job.outcome = 0 then s.startWindow p .post
  else if b.job.outcome = 8 then s.endCycle p
  else s

/-- PLUMB_BLANK_END (R92): the blank-end marker closes the oldest window at L + 1,920. -/
def execPlumbBlankEnd (path : Nat) (s : State) : Host.Outcome State Fault Refusal :=
  .next <|
    match (s.plumbOf path).blanks.head? with
    | none => s
    | some b =>
      if path < 2 ∧ b.at_ + 1920 ≤ s.gnomon ∧ (b.job.action = 0 ∨ b.changed = true) then s.endBlank path b else s

/-- ESTIMATOR_WINDOW_START (R88): while the converged bit is set, the next window starts when the cadence since the last
window's start has passed or the die temperature has moved by the trigger; modes 1 and 2 start none. -/
def execEstimatorWindowStart (path : Nat) (s : State) : Host.Outcome State Fault Refusal :=
  .next <|
    let r := s.plumbOf path
    let moved : Bool := match r.applyTemp with
      | some t => decide (s.nat (obj (0x3020 + path) 3) ≤ (s.pathTemp path - t).natAbs)
      | none => false
    if path < 2 ∧ r.phase = .idle ∧ s.nat (obj (0x3020 + path) 1) = 0 ∧ 2 ≤ s.nat (obj (0x3000 + path) 1) ∧
        (r.lastWindowStart + s.nat (obj (0x3020 + path) 2) * msTicks ≤ s.gnomon ∨ moved) then
      s.startWindow path .window
    else s

/-- The refusals that commands 1 to 6 share (R97): an unknown value, then a path that is off. -/
def State.plumbCommandCheck (s : State) (p : Nat) : Nat := refuseIf (s.nat (obj (0x3000 + p) 1) == 0) 0x0809

/-- Command 1 of 0x302n:12 (R97). -/
def State.plumbRun (p : Nat) (s : State) : State × Nat :=
  guarded (firstCode [s.plumbCommandCheck p, refuseIf (s.nat (obj (0x3020 + p) 1) == 2) 0x0A04,
    refuseIf ((s.plumbOf p).phase != .idle) 0x0A03]) (fun s =>
      (s.setPlumb p { s.plumbOf p with runOnce := s.nat (obj (0x3020 + p) 1) == 1 }).startWindow p .window) s

/-- Commands 2 to 4 of 0x302n:12 (R97): one blank with no post-check, beside a cycle that runs. They take the trims that they bring
when they are accepted (DESIGN CHOICE, notes/assumptions/127.md). -/
def State.plumbBlankCommand (p action outcome : Nat) (modeCode : Nat) (table : Nat) (s : State) : State × Nat :=
  guarded (firstCode [s.plumbCommandCheck p, modeCode, refuseIf (s.applyArmed p) 0x0A03]) (fun s =>
      s.askBlank p ⟨action, s.trims table p, outcome⟩) s

/-- Command 5 of 0x302n:12 (R97): a repeating action-0 blank. With no free entry in the launch table the command is accepted and no
test starts (DESIGN CHOICE, notes/assumptions/126.md). -/
def State.plumbTestStart (p : Nat) (s : State) : State × Nat :=
  guarded (firstCode [s.plumbCommandCheck p, refuseIf (s.nat (obj (0x3020 + p) 1) == 0) 0x0A04,
    refuseIf (bitOf (s.nat (obj (0x3020 + p) 7)) 6) 0x0A03]) (fun s =>
      match s.entryFor true with
      | none => s
      | some n =>
        let l := s.gnomon + 1536
        let e : LaunchEntry := ⟨l, l, 0, 7, 2, 0x800 + p, 23, s.nat (obj (0x3020 + p) 0x14),
          s.nat (obj (0x3020 + p) 0x15), 0, [p, 0, 0, 0, 0, 0, 0, 0]⟩
        ((s.setEntry n (some e)).setPlumbStatus p 6 true).announceBlank p 0 l) s

/-- Command 6 of 0x302n:12 (R97): ignored when no test runs, as in mode 0. -/
def State.plumbTestStop (p : Nat) (s : State) : State × Nat := guarded (s.plumbCommandCheck p) (State.cancelTest p) s

/-- Any value written to 0x302n:12 (R97). -/
def State.plumbCommand (p v : Nat) (s : State) : State × Nat :=
  match v with
  | 1 => s.plumbRun p
  | 2 => s.plumbBlankCommand p 2 9 0 0x3026
  | 3 => s.plumbBlankCommand p 2 9 0 0x302A
  | 4 => s.plumbBlankCommand p 1 10 (refuseIf (s.nat (obj (0x3020 + p) 1) != 2) 0x0A04) 0x3028
  | 5 => s.plumbTestStart p
  | 6 => s.plumbTestStop p
  | _ => (s, 0x0A02)

/-- PLUMB_RUN_CYCLE (R97). -/
def execPlumbRunCycle (by_ : Requester) (path : Nat) (s : State) : Host.Outcome State Fault Refusal :=
  .next (s.request by_ (obj (0x3020 + path) 0x12) [1] (State.plumbCommand path 1))

/-- PLUMB_RESTORE_KEPT (R97). -/
def execPlumbRestoreKept (by_ : Requester) (path : Nat) (s : State) : Host.Outcome State Fault Refusal :=
  .next (s.request by_ (obj (0x3020 + path) 0x12) [2] (State.plumbCommand path 2))

/-- PLUMB_LOAD_FACTORY (R97). -/
def execPlumbLoadFactory (by_ : Requester) (path : Nat) (s : State) : Host.Outcome State Fault Refusal :=
  .next (s.request by_ (obj (0x3020 + path) 0x12) [3] (State.plumbCommand path 3))

/-- PLUMB_APPLY_STAGED (R97). -/
def execPlumbApplyStaged (by_ : Requester) (path : Nat) (s : State) : Host.Outcome State Fault Refusal :=
  .next (s.request by_ (obj (0x3020 + path) 0x12) [4] (State.plumbCommand path 4))

/-- PLUMB_BLANK_TEST_START (R97). -/
def execPlumbBlankTestStart (by_ : Requester) (path : Nat) (s : State) : Host.Outcome State Fault Refusal :=
  .next (s.request by_ (obj (0x3020 + path) 0x12) [5] (State.plumbCommand path 5))

/-- PLUMB_BLANK_TEST_STOP (R97). -/
def execPlumbBlankTestStop (by_ : Requester) (path : Nat) (s : State) : Host.Outcome State Fault Refusal :=
  .next (s.request by_ (obj (0x3020 + path) 0x12) [6] (State.plumbCommand path 6))

/-- A Plumb mode write (R97): mode 0 stops a blank test; while a cycle runs, an armed apply is cancelled and the cycle ends with
outcome 11; once its trims change or have changed, the write is held until its outcome stands. -/
def State.writePlumbMode (p m : Nat) (s : State) : State :=
  let r := s.plumbOf p
  let s := if m = 0 ∧ bitOf (s.nat (obj (0x3020 + p) 7)) 6 then s.cancelTest p else s
  let applying : Bool := r.phase == .placed && !r.jobs.any fun j => j.outcome == 0
  if r.phase = .idle then
    ((s.setNat (obj (0x3020 + p) 1) m).endCycle p).plumbUnitState p
  else if r.phase = .post ∨ applying then
    s.setPlumb p { s.plumbOf p with heldMode := some m }
  else
    (((s.cancelApply p).plumbOutcome p 11).setNat (obj (0x3020 + p) 1) m).endCycle p |>.plumbUnitState p

/-- PLUMB_MODE_WRITE (R97). -/
def execPlumbModeWrite (by_ : Requester) (path mode : Nat) (s : State) : Host.Outcome State Fault Refusal :=
  .next (s.request by_ (obj (0x3020 + path) 1) (leNat 1 mode) (accept (State.writePlumbMode path mode)))

/-! ### Unlock, power -/

/-- What an unlock does to Plumb (R83, R94): the window is void; an armed entry that changes trims is cancelled with outcome 11, and
the cycle that it belongs to ends. -/
def State.plumbUnlock (p : Nat) (s : State) : State :=
  let r := s.plumbOf p
  let s := s.setPlumb p { r with voided := true }
  if s.applyArmed p then
    let own := match r.jobs.head? with
      | some j => j.outcome == 0 || j.outcome == 8
      | none => false
    let s := s.dropBlanks p true
    let s := (s.setPlumb p { s.plumbOf p with jobs := r.jobs.drop 1, skippedNulls := 0, freeFrom := none }).setPlumbStatus p 3 false
    let s := s.plumbOutcome p 11
    if own then s.endCycle p else s
  else s

/-- What a power-down of the path does to Plumb (R94 to R96): its entries have been removed; a cycle in progress ends with
outcome 11, a held mode write lands, and the unit is released. -/
def State.plumbPowerDown (p : Nat) (s : State) : State :=
  let r := s.plumbOf p
  let s := if r.phase = .idle ∧ r.jobs = [] then s else s.plumbOutcome p 11
  let s := match r.heldMode with
    | some m => s.setNat (obj (0x3020 + p) 1) m
    | none => s
  let s := s.setPlumb p { s.plumbOf p with
    phase := .idle, blanks := [], spans := [], stats := none, jobs := [], heldMode := none, runOnce := false }
  let s := (s.setPath p { s.path p with blankOpen := false }).setNat (obj (0x3020 + p) 7)
    (s.nat (obj (0x3020 + p) 7) &&& 0x31)
  (s.setUState (0x800 + p) 0 4 0).setNat (desc (0x800 + p) 3) 0xFF

/-- What a power-up of the path does to Plumb (R95, R96): cold with the factory trims the first time after reset, warm
with the retained ones later; the unit is claimed by the management core and runs; cycles start unless frozen. -/
def State.plumbPowerUp (p : Nat) (s : State) : State :=
  let r := s.plumbOf p
  let s := if r.everPowered then s
    else ((s.setTrims 0x3024 p (s.trims 0x302A p)).setTrims 0x3026 p (s.trims 0x302A p)).setPlumbStatus p 4 true
  let s := (s.setPlumbStatus p 0 false).setPlumb p { s.plumbOf p with everPowered := true, ditherNext := true }
  let s := (s.claimedBy (0x800 + p) 0).setUState (0x800 + p) 1 1 2
  let s := s.setUState (0x800 + p) 2 4 0
  let s := if s.nat (obj (0x3020 + p) 1) = 1 then s.setUState (0x800 + p) 3 4 0 else s
  if s.nat (obj (0x3020 + p) 1) = 0 then s.startWindow p .window else s

/-- SAMPLE_CLOCK_UNLOCK (R75, R76, R94): both powered paths go to state 3, the flag is set with its RF event, a clock-fault
marker enters every running chain and holds its DC estimate, Plumb's window is void and an armed apply is cancelled. The unlocks of
the last second are held for the monitor of R439. The concealed
span begins at the last sample verified good, at most 154 ticks before the detection. -/
def execSampleClockUnlock (lastGood : Nat) (s : State) : Host.Outcome State Fault Refusal :=
  .next <|
    let good := max (min lastGood s.gnomon) (s.gnomon - 154)
    let one := fun (p : Nat) (s : State) =>
      if s.nat (obj (0x3000 + p) 1) = 2 then
        let s := (s.setNat (obj (0x3000 + p) 1) 3).setPath p { s.path p with
          unlockedAt := some s.gnomon
          concealed := (s.path p).concealed.filter (fun c => c.2.all fun e => decide (s.gnomon - reachBack ≤ e)) ++ [(good, none)] }
        let s := s.markPath p ⟨7, p, good, 0, 0⟩
        (s.setOverload p 4).plumbUnlock p
      else s
    let up := 2 ≤ s.nat 0x300001 || 2 ≤ s.nat 0x300101
    if up then
      let s := (one 1 (one 0 s)).setNat 0x700202 1
      { s with power := { s.power with
        unlocks := (s.power.unlocks.filter fun t => decide (s.gnomon < t + 1000 * msTicks)) ++ [s.gnomon] } }
    else s

/-- The rule of R85 and R96 for a staged-trim write: mode 2 only, reserved bits zero. -/
def State.plumbRule (s : State) (key : Nat) (v : Int) : Nat :=
  let idx := key / 256
  if 0x3028 ≤ idx ∧ idx ≤ 0x3029 then
    firstCode [refuseIf (s.nat (obj (0x3020 + (idx - 0x3028)) 1) != 2) 0x0A04, refuseIf (2 ^ 26 ≤ v.toNat) 0x0A02]
  else 0

end Sys2Proof.Machine
end

