-- ==== Sys2Proof/Machine/Shm.lean ====
section
/-!
DEFINITION. Machine/Shm.lean: shared memory (spec/13_shared_memory_compression.md): pools, first-fit allocation and the
memory status of 0x2500.
-/
namespace Sys2Proof.Machine

/-- The bounds of the deinterleave pool (R242). -/
def deintPool : Nat × Nat := (0, 0x100000)

/-- The bounds of the general pool (R242). -/
def generalPool : Nat × Nat := (0x380000, 0x600000)

/-- The banks a range touches (R241). -/
def banksOf (base size : Nat) : List Nat :=
  (List.range 12).filter fun b => base < (b + 1) * 0x80000 && b * 0x80000 < base + size

/-- Whether a buffer fits at a base: inside its pool, over no other buffer, and with a free region in each bank it
touches (R243). -/
def fitsAt (as : List Alloc) (pool : Nat × Nat) (base size : Nat) : Bool :=
  pool.1 ≤ base && base + size ≤ pool.2 &&
  (as.all fun a => base + size ≤ a.base || a.base + a.size ≤ base) &&
  (banksOf base size).all fun b => (as.filter fun a => (banksOf a.base a.size).contains b).length < 16

/-- Ascending order of a list of addresses. -/
def sortNat (l : List Nat) : List Nat := l.foldl (fun acc x => insertSorted x acc) []

/-- The lowest address of a pool at which a buffer fits (first fit, R243). -/
def firstFit (as : List Alloc) (pool : Nat × Nat) (size : Nat) : Option Nat :=
  (sortNat (pool.1 :: as.map (fun a => a.base + a.size) ++ (List.range 12).map (· * 0x80000))).find?
    fun b => fitsAt as pool b size

/-- A buffer put among the others, ascending bases. -/
def insertAlloc (a : Alloc) : List Alloc → List Alloc
  | [] => [a]
  | b :: bs => if a.base < b.base then a :: b :: bs else b :: insertAlloc a bs

/-- A buffer placed (R243): its size rounded up to 4 KB, at the lowest free address of its pool; none when it does not
fit. -/
def State.alloc (pool : Nat × Nat) (size owner kind : Nat) (s : State) : Option (State × Nat) :=
  let size := roundUp 4096 size
  match firstFit s.shm pool size with
  | none => none
  | some base =>
    some ({ s with shm := insertAlloc ⟨base, size, owner, kind, (banksOf base size).length, 0⟩ s.shm }, base)

/-- Several buffers placed, all or none: (pool, size, owner, kind). -/
def State.allocAll : List ((Nat × Nat) × Nat × Nat × Nat) → State → Option State
  | [], s => some s
  | (pool, size, owner, kind) :: rest, s =>
    match s.alloc pool size owner kind with
    | none => none
    | some (s, _) => State.allocAll rest s

/-- Every buffer of an owner freed. -/
def State.freeOwner (owner : Nat) (s : State) : State :=
  { s with shm := s.shm.filter fun a => a.owner != owner || a.kind == 10 || a.kind == 11 }

/-- The buffer at a base freed. -/
def State.freeAt (base : Nat) (s : State) : State := { s with shm := s.shm.filter fun a => a.base != base }

/-- A drop counted in the buffers of an owner of a kind (R244). -/
def State.countDrop (owner kind : Nat) (s : State) : State :=
  { s with shm := s.shm.map fun a =>
      if a.owner == owner && a.kind == kind then { a with drops := satAdd 32 a.drops 1 } else a }

/-- The bytes of a pool that no buffer holds. -/
def poolFree (as : List Alloc) (pool : Nat × Nat) : Nat :=
  (pool.2 - pool.1) - ((as.filter fun a => pool.1 ≤ a.base && a.base < pool.2).foldl (fun t a => t + a.size) 0)

/-- The largest single free range of a pool. -/
def poolLargest (as : List Alloc) (pool : Nat × Nat) : Nat :=
  let inPool := as.filter fun a => pool.1 ≤ a.base && a.base < pool.2
  let r := inPool.foldl (fun (t : Nat × Nat) a => (max t.1 (a.base - t.2), a.base + a.size)) (0, pool.1)
  max r.1 (pool.2 - r.2)

/-- The allocation table 0x2500:05. -/
def allocTable (as : List Alloc) : Bytes :=
  as.flatMap fun a => leNat 4 a.base ++ leNat 4 a.size ++ leNat 2 a.owner ++ leNat 1 a.kind ++ leNat 1 a.regions
    ++ leNat 4 a.drops

/-- The memory status objects of 0x2500 (R254). -/
def shmVal (as : List Alloc) (sub : Nat) : Val :=
  match sub with
  | 1 => .num (poolFree as deintPool / 1024 : Nat)
  | 2 => .num (poolFree as generalPool / 1024 : Nat)
  | 3 => .num (poolLargest as generalPool / 1024 : Nat)
  | 4 => .num as.length
  | _ => .raw (allocTable as)

end Sys2Proof.Machine
end

