-- ==== Sys2Proof/Machine/Chains.lean ====
section
/-!
DEFINITION. Machine/Chains.lean: the decimation chains (spec/06_prism_chains.md): configuration, start and hold, response
fades, retunes and antenna switches, blocks and markers, saturation and the detector.
-/
namespace Sys2Proof.Machine

/-- The RWS subindices of a chain (R102, R105). -/
def chainKeys (n : Nat) : List Nat :=
  [ck n 1, ck n 2, ck n 3, ck n 4, ck n 5, ck n 6, ck n 7, ck n 0x0B, ck n 0x0C, ck n 0x0D, ck n 0x0F, ck n 0x10,
   ck n 0x11, ck n 0x12, obj (0x3140 + n) 0]

/-- The lock group of a chain, if any (R52): the other members. -/
def State.lockMates (s : State) (n : Nat) : List Nat :=
  (List.range 8).flatMap fun g =>
    let m := s.nat (obj 0x2008 (g + 1))
    if bitOf m n then (List.range 32).filter fun i => bitOf m i && i != n else []

/-- A chain and the other members of its lock group, ascending. -/
def State.lockSet (s : State) (n : Nat) : List Nat := sortNat (n :: s.lockMates n)

/-- A chain's rate counted by R103, as a fraction of 38.4 MS/s: L / (2^D × M), or 1 / (2^D × N) in quick mode. -/
def rateOf (d l m q : Nat) : Nat × Nat := if q = 0 then (l, 2 ^ d * m) else (1, 2 ^ d * q)

/-- The sum of two fractions. -/
def addFrac (a b : Nat × Nat) : Nat × Nat := (a.1 * b.2 + b.1 * a.2, a.2 * b.2)

/-- Whether coefficients are 8 bytes per tap, each inside 18 bits (R103, R105). -/
def coeffsOk (taps : Nat) (b : Bytes) : Bool :=
  b.length == 8 * taps && (List.range (2 * taps)).all fun i =>
    let v := signed 4 (fieldLe b (4 * i) 4)
    (-131072 : Int) ≤ v && v ≤ 131071

/-- The settings that the members of a lock group share (R103, last row). -/
def lockSettings (get : Nat → Val) (n : Nat) : List Val :=
  [get (ck n 4), get (ck n 5), get (ck n 6), if isRom n then get (ck n 7) else get (obj (0x3140 + n) 0),
   get (ck n 0x0B), get (ck n 0x0C), get (ck n 0x0D), get (ck n 0x0F), get (ck n 0x10)]

/-- The checks of R103, in the order of its table, on the staged configuration. -/
def State.validateChain (s : State) (n : Nat) : Nat :=
  let u := 0x100 + n
  let consumer := s.nat (ck n 0x12)
  let d := s.nat (ck n 4)
  let l := s.nat (ck n 0x0B)
  let m := s.nat (ck n 0x0C)
  let q := s.nat (ck n 0x10)
  let engineTop := s.top consumer
  let others := (List.range 32).filter fun i => i != n && (s.ustate (0x100 + i) != 0) && s.ustate (0x100 + i) != 4
  let sum := others.foldl (fun t i =>
    addFrac t (rateOf (s.cnat (ck i 4)) (s.cnat (ck i 0x0B)) (s.cnat (ck i 0x0C)) (s.cnat (ck i 0x10))))
    (rateOf d l m q)
  let mates := (s.lockMates n).filter fun i => s.ustate (0x100 + i) != 0
  firstCode [
    refuseIf (consumer == 0xFFFF) 0x0B01,
    refuseIf (consumer != 0 && s.owner consumer != s.owner u) 0x0802,
    refuseIf (consumer != 0 && s.parent consumer != 0xFFFF && !(s.leaves engineTop).contains u) 0x0C03,
    refuseIf (4 * l < m || m < l) 0x0B02,
    refuseIf (q == 0 && m * 2 ^ d < 4 * l) 0x0B02,
    refuseIf (2 * sum.2 < sum.1) 0x0806,
    refuseIf (!isRom n && !coeffsOk (s.nat (ck n 6)) (s.bytes (obj (0x3140 + n) 0))) 0x0B03,
    refuseIf (s.mode == .listen && s.nat (ck n 1) == 1) 0x0809,
    refuseIf (mates.any fun i => lockSettings s.val n != lockSettings s.cval i) 0x0B04]

/-- The 32 bits of the IEEE 754 binary32 nearest to a positive fraction, ties to even (R345). -/
def f32Of (num den : Nat) : Nat :=
  if num = 0 ∨ den = 0 then 0
  else
    let e : Int := (Nat.log2 num : Int) - Nat.log2 den
    let ge := if 0 ≤ e then den * 2 ^ e.toNat ≤ num else den ≤ num * 2 ^ (-e).toNat
    let e := if ge then e else e - 1
    let sh := 23 - e
    let n := if 0 ≤ sh then num * 2 ^ sh.toNat else num
    let d := if 0 ≤ sh then den else den * 2 ^ (-sh).toNat
    let m := n / d
    let r := n % d
    let m := if d < 2 * r ∨ (2 * r = d ∧ m % 2 = 1) then m + 1 else m
    let e := if m = 2 ^ 24 then e + 1 else e
    let m := if m = 2 ^ 24 then 2 ^ 23 else m
    ((e + 127).toNat) * 2 ^ 23 + (m - 2 ^ 23)

/-- The size of a chain's ring (R243). -/
def State.ringSize (s : State) (n : Nat) : Nat := 16 + 16 * (96 + 4 * s.nat (ck n 0x11))

/-- The buffers a chain's configure places (R243): its ring when the consumer is 0x0000. -/
def State.chainBuffers (s : State) (n : Nat) : List ((Nat × Nat) × Nat × Nat × Nat) :=
  if s.nat (ck n 0x12) = 0 then [(generalPool, s.ringSize n, 0x100 + n, 8)] else []

/-- The member of a chain's lock group whose NCO the group runs on (R53): one that runs, else the lowest that is configured. -/
def State.ncoMate (s : State) (n : Nat) : Option Nat :=
  let live := (s.lockMates n).filter fun i => s.ustate (0x100 + i) != 0 && s.ustate (0x100 + i) != 4
  match live.find? fun i => s.ustate (0x100 + i) == 2 with
  | some i => some i
  | none => live.head?

/-- A chain takes the sub-band, the word and the accumulator of its lock group (R53): whatever it was configured with, once another
member is configured (DEDUCED, notes/assumptions/122.md). -/
def State.shareNco (n : Nat) (s : State) : State :=
  match s.ncoMate n with
  | none => s
  | some i =>
    let s := s.setChain n { s.chain n with phase := (s.chain i).phase, phaseAt := (s.chain i).phaseAt }
    (s.setNum (cs n 0x0A) (s.num (cs i 0x0A))).setNat (cs n 0x0B) (s.nat (cs i 0x0B))

/-- A chain's staged configuration committed (R23, R102): the tuning, path and response in force, the status of R125. -/
def State.commitChain (n : Nat) (s : State) : State :=
  let held := s.ustate (0x100 + n) == 3
  let s := s.commitKeys (chainKeys n)
  let r := rateOf (s.cnat (ck n 4)) (s.cnat (ck n 0x0B)) (s.cnat (ck n 0x0C)) (s.cnat (ck n 0x10))
  let s := s.setNat (cs n 1) (f32Of (38400000 * r.1) r.2)
  let s := (s.setNum (cs n 0x0A) (s.cnum (ck n 3))).setNat (cs n 0x0B) (s.cnat (ck n 2))
  let s := s.setNat (cs n 0x0C) (s.groupDelay n)
  let s := if isRom n then (if held then s else s.setNat (cs n 3) (s.cnat (ck n 7))) else s.setNat (cs n 3) 0xFF
  (s.setChain n { s.chain n with path := s.cnat (ck n 1) }).shareNco n

/-- The NCO accumulator of a chain at a tick (R53): the phase reference plus W for each 38.4 MS/s sample since. -/
def State.ncoPhase (s : State) (n t : Nat) : Nat :=
  let c := s.chain n
  (((c.phase : Int) + s.num (cs n 0x0A) * ((t - c.phaseAt) / 4 : Nat)) % 2 ^ 32).toNat

/-- A start or resume of a chain at T (R51, R112, R118, R122, R111): delay lines and the DC estimate cleared, the start marker on the
first output sample, and the detector's blocks from there. -/
def State.startChain (n t : Nat) (s : State) : State :=
  let c := s.chain n
  let t := roundUp 4 t
  let r := s.nat (cs n 3)
  let tune : Tune := ⟨t, c.path, s.nat (cs n 0x0B), s.num (cs n 0x0A), s.ncoPhase n t⟩
  let first := s.standsOn n ⟨1, c.path, t, 0, 0⟩
  (s.setChain n { c with
    dcI := 0, dcQ := 0, dcZeros := [], startAt := t, markers := [], next := first, gap := none
    tunes := [tune], resps := [⟨r, r, 0, 0, 0, false⟩]
    spans := if s.nat (ck n 0x0E) = 1 then [⟨0x10, first, none⟩] else []
    detNext := if s.nat (obj (0x3160 + n) 1) = 0 then none else some first
    }).addMarker n ⟨1, c.path, t, 0, 0⟩

/-! ### Fades -/

/-- The samples of weight that a chain's fade has reached in the samples computed until now. -/
def State.fadeReached (s : State) (n : Nat) (f : Fade) : Nat := f.weight ((s.firNow n : Int) - 1)

/-- The FIR sample that follows a fade's last (R107, R108). -/
def Fade.done (f : Fade) : Nat := f.from_ + (if f.reversing then f.w else f.len - f.w)

/-- A fade turned round from a FIR sample on (R108). -/
def Fade.turn (f : Fade) (i : Nat) : Fade := { f with w := f.weight ((i : Int) - 1), from_ := i, reversing := !f.reversing }

/-- A chain's stretch of responses changes (R107 to R109): `fade` holds it while it is a cross-fade. -/
def State.setFade (n : Nat) (f : Fade) (s : State) : State :=
  s.setChain n { s.chain n with fade := if f.len = 0 then none else some f, resps := (s.chain n).resps ++ [f] }

/-- A response fade begun on one chain from a FIR sample on (R107): the fade-start marker names both responses. -/
def State.startFade (n new i : Nat) (s : State) : State :=
  let old := s.nat (cs n 3)
  let len := s.nat (ck n 9)
  let s := s.setFade n ⟨old, new, len, 0, i, false⟩
  (s.addMarker n ⟨9, (s.chain n).path, i * s.firPeriod n, len, old * 256 + new⟩).setNat (cs n 5) 1

/-- A response request taken on one chain (R107, R109). -/
def State.takeResponse (n v : Nat) (s : State) : State :=
  if !isRom n then s
  else if s.ustate (0x100 + n) = 3 then (s.setNat (cs n 3) v).setNat (cs n 4) 0xFF
  else if s.ustate (0x100 + n) ≠ 2 then s
  else match (s.chain n).fade with
    | some _ => s.setNat (cs n 4) v
    | none => if s.nat (cs n 3) = v then s else s.startFade n v (s.firNow n)

/-- The end of a chain's fade (R107 to R109): the response reached is in force; a pending request that names another one
starts its own fade on the next sample. -/
def State.endFade (n : Nat) (s : State) : State :=
  match (s.chain n).fade with
  | none => s
  | some f =>
    let inForce := if f.reversing then f.old else f.new
    let s := (s.setFade n ⟨inForce, inForce, 0, 0, f.done, false⟩).setNat (cs n 3) inForce
    let s := s.setNat (cs n 5) 0
    let p := s.nat (cs n 4)
    if p = 0xFF then s
    else
      let s := s.setNat (cs n 4) 0xFF
      if p = inForce then s else s.startFade n p f.done

/-- RESPONSE_SELECT (R107, R109, R124): on every member of the lock group. -/
def State.selectResponse (n v : Nat) (s : State) : State × Nat :=
  guarded (firstCode [refuseIf (!isRom n) 0x0B01,
    refuseIf (s.ustate (0x100 + n) != 2 && s.ustate (0x100 + n) != 3) 0x0804])
    (fun s => (s.lockSet n).foldl (fun s i => s.takeResponse i v) s) s

/-- A fade reverse on every member of the lock group (R108, R124); ignored when no fade is in progress. -/
def State.reverseFade (n : Nat) (s : State) : State × Nat :=
  guarded (refuseIf (!isRom n) 0x0B01)
    (fun s => (s.lockSet n).foldl (fun s i =>
      let c := s.chain i
      match c.fade with
      | none => s
      | some f =>
        let g := f.turn (s.firNow i)
        let m : Marker := ⟨0x0A, c.path, g.from_ * s.firPeriod i, g.done - g.from_, f.old * 256 + f.new⟩
        ((s.setFade i g).addMarker i m).setNat (cs i 5) (if g.reversing then 2 else 1)) s) s

/-- RESPONSE_SELECT (R107). -/
def execResponseSelect (by_ : Requester) (chain response : Nat) (s : State) : Host.Outcome State Fault Refusal :=
  .next (s.request by_ (ck chain 8) (leNat 1 response) (State.selectResponse chain response))

/-- FADE_REVERSE (R108). -/
def execFadeReverse (by_ : Requester) (chain : Nat) (s : State) : Host.Outcome State Fault Refusal :=
  .next (s.request by_ (ck chain 0x0A) [1] (State.reverseFade chain))

/-- FADE_END (R109, R124): a fade that has reached w of 1 or 0 ends, on every member of the lock group at once. -/
def execFadeEnd (chain : Nat) (s : State) : Host.Outcome State Fault Refusal :=
  .next <| (s.lockSet chain).foldl (fun s n =>
    match (s.chain n).fade with
    | none => s
    | some f => if f.done ≤ s.firNow n then s.endFade n else s) s

/-- A write of the DC freeze (R112): 1 holds the DC estimate from the first output sample after acceptance, 0 releases this cause. -/
def State.writeDcFreeze (n value : Nat) (s : State) : State :=
  let i := s.gridFrom n (s.gnomon - s.nat (cs n 0x0C))
  let c := s.chain n
  let s := if s.nat (ck n 0x0E) = value then s
    else if value = 1 then s.setChain n { c with spans := c.spans ++ [⟨0x10, i, none⟩] }
    else s.setChain n { c with
      spans := c.spans.map fun r => if r.kind = 0x10 ∧ r.till = none then { r with till := some i } else r }
  s.setNat (ck n 0x0E) value

/-- DC_FREEZE_WRITE (R112). -/
def execDcFreezeWrite (by_ : Requester) (chain value : Nat) (s : State) : Host.Outcome State Fault Refusal :=
  .next (s.request by_ (ck chain 0x0E) (leNat 1 value) (accept (State.writeDcFreeze chain value)))

/-- The detector settings held until a block's end take effect (R120). -/
def State.takeDetector (n : Nat) (s : State) : State :=
  let c := s.chain n
  let s := match c.detFreq with
    | some w => s.setNum (obj (0x3160 + n) 2) w
    | none => s
  let s := match c.detLen with
    | some m => s.setNat (obj (0x3160 + n) 3) m
    | none => s
  s.setChain n { s.chain n with detFreq := none, detLen := none }

/-! ### Captures of a chain -/

/-- A capture that ends at the last sample before its chain stops (R253): state 3 with the short flag at completion. -/
def State.shortenCaptures (u : Nat) (s : State) : State :=
  (List.range 4).foldl (fun s c =>
    let st := s.nat (obj (0x2560 + c) 6)
    if s.nat (obj (0x2560 + c) 1) = u ∧ (st = 1 ∨ st = 2) ∧ (s.capture c).stopped = none then
      s.setCapture c { s.capture c with stopped := some s.gnomon }
    else s) s

/-- A tap chain that stops or moves ends the reception its mesh engine had under way (R139). -/
def State.endTapOf (n : Nat) (s : State) : State :=
  let u := s.cnat (ck n 0x12)
  match u / 256 == 2 && s.loadedWith (u % 256) 0x0301 with
  | true => s.tapEnds (s.chain n).path
  | false => s

/-- A chain taken out of quick mode, or back into it, by an AF check (R140): its grid changes now, and in quick mode its first record is
the first settled one (DESIGN CHOICE, notes/assumptions/138.md). -/
def State.setQuickOff (n : Nat) (off : Bool) (s : State) : State :=
  let c := s.chain n
  if c.quickOff = off then s
  else
    let tick := s.gridTick n
    let s := s.setChain n { c with quickOff := off }
    let move := fun (i : Nat) => s.gridFrom n (tick i)
    let s := s.setChain n { s.chain n with
      next := if off then s.gridFrom n s.gnomon else s.beyond n s.gnomon
      gap := none, dcI := 0, dcQ := 0, dcZeros := [], detNext := none
      spans := c.spans.map fun (r : MarkSpan) => { r with from_ := move r.from_, till := r.till.map move } }
    s.setNat (cs n 0x0C) (s.groupDelay n)

/-- The AF check on a chain ends without a verdict: its candidate is unchecked again, and the chain back in quick mode. -/
def State.endAfCheck (n : Nat) (s : State) : State :=
  let f := s.following
  match f.afChecks.find? fun k => k.chain == n with
  | none => s
  | some k =>
    let free := fun (c : Candidate) => if c.system = 0 ∧ c.kHz = k.kHz ∧ c.id = k.id ∧ c.state = 1 then { c with state := 0 } else c
    let s := { s with following := { f with
      afChecks := f.afChecks.filter fun k => k.chain != n, candidates := f.candidates.map free, seq := (f.seq + 1) % 65536 } }
    s.setQuickOff n false

/-- A hold of a chain (R109, R120, R122): the last output sample is the last one before now; a fade ends with the response it was
moving towards in force, and a pending request takes effect as for a HELD chain; the detector's block ends, and what it held
takes effect. -/
def State.holdChain (n : Nat) (s : State) : State :=
  let s := (s.endAfCheck n).takeDetector n
  let s := s.endTapOf n
  let c := s.chain n
  let s := match c.fade with
    | none => s
    | some f => ((s.setChain n { c with fade := none }).setNat (cs n 3) (if f.reversing then f.old else f.new)).setNat
        (cs n 5) 0
  let p := s.nat (cs n 4)
  let s := if p = 0xFF then s else (s.setNat (cs n 3) p).setNat (cs n 4) 0xFF
  (s.setChain n { s.chain n with
    gap := some (s.gridFrom n (s.gnomon - s.recordSpan n), none), detNext := none }).shortenCaptures (0x100 + n)

/-- A chain released: its ring is freed and its hidden state cleared; its block sequence goes on. -/
def State.releaseChain (n : Nat) (s : State) : State :=
  let s := (s.holdChain n).freeOwner (0x100 + n)
  (s.setChain n { Chain.init with blockSeq := (s.chain n).blockSeq }).clearFifo (obj (0x2520 + n) 0)

/-! ### Retune and antenna switch -/

/-- A new tuning of a chain from a tick on (R53, R54, R111, R118, R123): its marker, the DC estimate restarted at the end of the
marker's span, the spans of the old path's blank and clock fault at an end where the path changes (DEDUCED,
notes/assumptions/130.md), and, in quick mode, no record that straddles the instant. -/
def State.retuned (n t : Nat) (moved : Bool) (m : Marker) (s : State) : State :=
  let c := s.chain n
  let settled := s.beyond n t
  let gap := match c.gap with
    | some (a, none) => some (a, none)
    | some (a, some _) => some (a, some settled)
    | none => if s.quick n = 0 then none else some (s.reach n t, some settled)
  let spans := if moved then c.spans.map fun (r : MarkSpan) =>
      if (r.kind = 4 ∨ r.kind = 7) ∧ r.till = none then { r with till := some (s.reach n t) } else r
    else c.spans
  let tune : Tune := ⟨t, c.path, s.nat (cs n 0x0B), s.num (cs n 0x0A), c.phase⟩
  (s.setChain n { c with
    tunes := c.tunes ++ [tune], dcZeros := c.dcZeros ++ [settled], gap := gap, spans := spans }).addMarker n m

/-- A retune of one chain (R44, R53, R115, R123): W, k, the phase by its mode, and the retune marker. -/
def State.retuneChain (n t : Nat) (param : Bytes) (s : State) : State :=
  let w := signed 4 (fieldLe param 0 4)
  let k := nthD param 4 0
  let setPhase := nthD param 5 0 == 1
  let phase := if setPhase then fieldLe param 6 2 * 65536 else s.ncoPhase n t
  let c := s.chain n
  let s := s.setChain n { c with phase := phase, phaseAt := t }
  ((s.setNum (cs n 0x0A) w).setNat (cs n 0x0B) k).retuned n t false
    ⟨2, c.path, t, 0, k % 256 + (if setPhase then 256 else 0) + 1024 * c.path⟩

/-- Whether a chain can be retuned or switched (R49): not DORMANT, not FAULTED. -/
def State.chainLive (s : State) (u : Nat) : Bool := s.ustate u == 1 || s.ustate u == 2 || s.ustate u == 3

/-- One chain moved to a path (R54): the retune marker carries bit 9 and the new path in bit 10; the NCO goes on. -/
def State.moveToPath (n path t : Nat) (s : State) : State :=
  let c := s.chain n
  if c.path = path then s
  else ((s.endTapOf n).setChain n { c with path := path, phase := s.ncoPhase n t, phaseAt := t }).retuned n t true
    ⟨2, path, t, 0, s.nat (cs n 0x0B) % 256 + 512 + 1024 * path⟩

/-! ### Blocks -/

/-- The order in which markers are dropped (R116): a lower rank goes first. -/
def markerKeep (kind : Nat) : Nat :=
  match kind with
  | 6 => 0
  | 3 => 1
  | 0x0A => 2
  | 9 => 3
  | 2 => 4
  | 1 => 5
  | 7 | 8 => 6
  | _ => 7

/-- The markers with the last one of the lowest rank removed. -/
def dropOneMarker (ms : List Marker) : List Marker :=
  let low := ms.foldl (fun t m => min t (markerKeep m.kind)) 8
  let last := (ms.zipIdx.filter fun p => markerKeep p.1.kind == low).getLast?
  match last with
  | none => ms
  | some p => (ms.zipIdx.filter fun q => q.2 != p.2).map (·.1)

/-- Markers cut to 7 (R116), and how many were dropped; 8 or fewer stay. -/
def cutMarkers (ms : List Marker) : List Marker × Nat :=
  if ms.length ≤ 8 then (ms, 0)
  else ((List.range (ms.length - 7)).foldl (fun t _ => dropOneMarker t) ms, ms.length - 7)

/-- The waiting markers that stand before a grid sample, and those that stand later. -/
def State.splitMarkers (s : State) (n stop : Nat) : List Marker × List Marker :=
  (s.chain n).markers.partition fun m => decide (s.standsOn n m < stop)

/-- One marker record of a block (R115). -/
def State.encodeMarker (s : State) (n grid count : Nat) (m : Marker) : Bytes :=
  leNat 1 m.kind ++ leNat 1 m.path ++ leNat 2 (min (s.standsOn n m - grid) (count - 1))
    ++ leNat 2 (min (s.spanOf n (s.chain n).markers m) 65535) ++ leNat 2 m.param

/-- The clip markers of a block as one (R115): from the first clipped ADC sample to the last, with their count. -/
def mergeClips (ms : List Marker) : List Marker :=
  match ms.filter fun m => m.kind == 6 with
  | [] => ms
  | m :: rest =>
    let all := rest.foldl (fun (t : Marker) k =>
      { t with at_ := min t.at_ k.at_, span := max t.span k.span, param := min 65535 (t.param + k.param) }) m
    (ms.takeWhile fun k => k.kind != 6) ++ all :: ((ms.dropWhile fun k => k.kind != 6).filter fun k => k.kind != 6)

/-- The tuning in force at a tick. -/
def State.tuneAt (s : State) (n : Nat) (t : Int) : Option Tune := inForce Tune.from_ t (s.chain n).tunes

/-- The FIR output sample at or before a grid sample. -/
def State.firAt (s : State) (n i : Nat) : Nat := i * s.cnat (ck n 0x0C) / max 1 (s.cnat (ck n 0x0B))

/-- The response in force at a grid sample, 0xFF on RAM chains (R114): during a fade still the one it leaves. -/
def State.respAt (s : State) (n i : Nat) : Nat :=
  if !isRom n then 0xFF
  else match inForce Fade.from_ (s.firAt n i) (s.chain n).resps with
    | some f => if f.len = 0 then f.new else f.old
    | none => s.nat (cs n 3)

/-- Whether a fade is active at a grid sample (R114). -/
def State.fadingAt (s : State) (n i : Nat) : Bool :=
  match inForce Fade.from_ (s.firAt n i) (s.chain n).resps with
  | some f => f.len != 0
  | none => false

/-- Whether a sample lies in a span of one of some kinds. -/
def State.spannedAt (s : State) (n i : Nat) (kinds : List Nat) : Bool :=
  (s.chain n).spans.any fun r => kinds.contains r.kind && decide (r.from_ ≤ i) && match r.till with
    | some e => decide (i < e)
    | none => true

/-- Whether the DC estimate is held at a sample (R112). -/
def State.dcHeld (s : State) (n i : Nat) : Bool := s.spannedAt n i [4, 7, 0x10]

/-! ### The samples of a chain -/

/-- The sub-band samples of a chain after its mixer (R101, R123), from both paths' ADC codes: none before the start (R122). The NCO
turns the sample back by its accumulator (DEDUCED, notes/assumptions/129.md). -/
def State.mixed (s : State) (n : Nat) (a b : AdcSpan) (i : Int) : Cx :=
  match s.tuneAt n (4 * i) with
  | none => Cx.zero
  | some t =>
    let x := prism t.k ((s.path t.path).sample t.path t.k (if t.path = 0 then a else b)) i
    let turns : Rat := ((t.phase : Int) + t.w * (i - t.from_ / 4) : Int) / 2 ^ 32
    (phasor (-turns)).times x

/-- The output of stage 3, the half-band stages. -/
def State.decimated (s : State) (n : Nat) (a b : AdcSpan) : Int → Cx :=
  halfBands (s.cnat (ck n 4)) (s.cnat (ck n 5)) (s.mixed n a b)

/-- The output of stage 5, the rate matcher, behind the final FIR. -/
def State.matched (s : State) (n : Nat) (a b : AdcSpan) : Int → Cx :=
  let taps := fun (r : Nat) => tapsOf (if isRom n then romResponse r else s.cbytes (obj (0x3140 + n) 0))
  rateStage (s.cnat (ck n 0x0B)) (s.cnat (ck n 0x0C)) (firStage taps (s.chain n).resps (s.decimated n a b))

/-- The output of stage 6 over the grid samples of a stretch, with the DC estimate behind them (R111, R112). -/
def State.dcStage (s : State) (n : Nat) (a b : AdcSpan) (from_ stop : Nat) : List Cx × Cx :=
  let c := s.chain n
  let k := s.cnat (ck n 0x0D)
  (List.range (stop - from_)).foldl (fun t j =>
    let i := from_ + j
    let x := s.matched n a b i
    if k = 0 then (t.1 ++ [x], t.2)
    else
      let d := dcStep k (s.dcHeld n i) (if c.dcZeros.contains i then Cx.zero else t.2) x
      (t.1 ++ [x.minus d], d)) ([], ⟨c.dcI, c.dcQ⟩)

/-- The half-band samples of a quick record (R118). -/
def State.recordSamples (s : State) (n : Nat) (a b : AdcSpan) (r : Nat) : List Cx :=
  (List.range (s.quick n)).map fun j => s.decimated n a b ((r * s.quick n + j : Nat) : Int)

/-- A quick-mode record (R119): the mean after output scaling, the mean power independent of the gain, the flags. -/
def State.encodeRecord (s : State) (n : Nat) (a b : AdcSpan) (saturated : Bool) (r : Nat) : Bytes :=
  let xs := s.recordSamples n a b r
  let g := s.cnum (ck n 0x0F)
  let mean := (sumCx xs).scale (1 / s.quick n)
  let power : Rat := (xs.map Cx.power).foldl (· + ·) 0 / s.quick n
  leInt 2 (outWord g mean.re) ++ leInt 2 (outWord g mean.im) ++ leInt 2 (powerDb power)
    ++ leNat 2 (boolNat saturated + 2 * boolNat (s.spannedAt n r [3, 4, 7]))

/-- The data of a block of grid samples, the DC estimate behind it, and whether an output word saturates (R113, R114). -/
def State.blockData (s : State) (n : Nat) (a b : AdcSpan) (sat : Nat) (from_ stop : Nat) : Bytes × Cx × Bool :=
  let g := s.cnum (ck n 0x0F)
  let c := s.chain n
  if s.quick n = 0 then
    let r := s.dcStage n a b from_ stop
    (r.1.flatMap fun x => leInt 2 (outWord g x.re) ++ leInt 2 (outWord g x.im), r.2,
      r.1.any fun x => outSaturates g x.re || outSaturates g x.im)
  else ((List.range (stop - from_)).flatMap fun j => s.encodeRecord n a b (sat != 0) (from_ + j), ⟨c.dcI, c.dcQ⟩, false)

/-- The grid samples of a chain's next block (R114, R118, R122): up to the next multiple of the block length, cut short by a hold, and
in quick mode by a retune; none once a hold is reached. -/
def State.nextBlock (s : State) (n : Nat) : Option (Nat × Nat) :=
  let c := s.chain n
  let len := max 1 (s.cnat (ck n 0x11))
  match c.gap with
  | none => some (c.next, (c.next / len + 1) * len)
  | some (a, back) =>
    if c.next < a then some (c.next, min a ((c.next / len + 1) * len))
    else back.map fun b => (max b c.next, (max b c.next / len + 1) * len)

/-- Whether a chain has computed a grid sample (R125): not before its instant and the delay of every stage. -/
def State.computed (s : State) (n i : Nat) : Bool :=
  decide (s.gridTick n i + s.recordSpan n + (if s.quick n = 0 then s.nat (cs n 0x0C) else s.bandDelay n) ≤ s.gnomon)

/-- The 32-byte header of a block and its markers (R114, R116), then its data. -/
def State.encodeBlock (s : State) (n grid count : Nat) (data : Bytes) (sat : Nat) : Bytes :=
  let c := s.chain n
  let g := s.gridStep n
  let here := mergeClips (s.splitMarkers n (grid + count)).1
  let cut := cutMarkers here
  let is := (List.range count).map (grid + ·)
  let flags := boolNat (s.quick n != 0) + 2 * boolNat (is.any (s.fadingAt n)) + 4 * boolNat (is.any (s.dcHeld n))
  let marks := cut.1.flatMap (s.encodeMarker n grid count)
  let lost := if cut.2 = 0 then []
    else leNat 1 0x0B ++ leNat 1 c.path ++ leNat 2 (Config.markerOpen grid) ++ leNat 2 0 ++ leNat 2 cut.2
  let tune := (s.tuneAt n (s.gridTick n grid)).getD ⟨0, c.path, s.nat (cs n 0x0B), s.num (cs n 0x0A), 0⟩
  leNat 8 (s.gridTick n grid) ++ leNat 2 (g.1 * grid % g.2 * 65536 / g.2) ++ leNat 2 c.blockSeq ++ leNat 2 count ++ leNat 1 n
    ++ leNat 1 flags ++ leNat 2 sat ++ leNat 1 (cut.1.length + boolNat (cut.2 != 0)) ++ leNat 1 (s.respAt n grid)
    ++ leInt 4 tune.w ++ leNat 1 tune.k ++ leNat 1 tune.path ++ List.replicate 6 0 ++ marks ++ lost ++ data

/-- A chain behind a block that ended before grid sample `stop`: what lies behind every sample in hand is forgotten. -/
def Chain.passed (c : Chain) (s : State) (n stop : Nat) (waiting : List Marker) (d : Cx) : Chain :=
  let low := min stop (c.detNext.getD stop)
  let tick := s.gridTick n low
  { c with
    markers := waiting, satBlock := 0, blockSeq := (c.blockSeq + 1) % 65536, dcI := d.re, dcQ := d.im, next := stop
    dcZeros := c.dcZeros.filter fun i => decide (stop ≤ i)
    tunes := since Tune.from_ (tick - reachBack) c.tunes, resps := since Fade.from_ (s.firAt n low - 16) c.resps
    spans := c.spans.filter fun r => match r.till with
      | some e => decide (low < e)
      | none => true
    gap := match c.gap with
      | some (a, some b) => if a ≤ c.next then none else some (a, some b)
      | g => g }

/-- SATURATION_CLEAR (R117). -/
def execSaturationClear (by_ : Requester) (chain bits : Nat) (s : State) : Host.Outcome State Fault Refusal :=
  .next (s.request by_ (cs chain 2) (leNat 2 bits)
    (accept fun s => s.setNat (cs chain 2) (clearWritten 16 (s.nat (cs chain 2)) bits)))

/-! ### The detector -/

/-- The sum of R120 over a block of rate-matcher output, divided by M. -/
def State.detected (s : State) (n : Nat) (a b : AdcSpan) (first m : Nat) (w : Int) : Cx :=
  (sumCx ((List.range m).map fun (i : Nat) =>
    (phasor (-((w * i : Int) : Rat) / 2 ^ 32)).times (s.matched n a b ((first + i : Nat) : Int)))).scale (1 / m)

/-- DETECTOR_BLOCK_END (R120, R121): the block of M samples is complete, its result is issued, in 1/256 of an output word at the
configured gain; mode 1 then goes to 0, mode 2 goes on with the next block, and held settings take effect. -/
def execDetectorBlockEnd (chain : Nat) (a b : AdcSpan) (saturated : Bool) (s : State) : Host.Outcome State Fault Refusal :=
  .next <|
    let k := obj (0x3160 + chain)
    match (s.chain chain).detNext with
    | none => s
    | some first =>
      let m := s.nat (k 3)
      if chain < 32 ∧ s.ustate (0x100 + chain) = 2 ∧ s.nat (k 1) ≠ 0 ∧ s.quick chain = 0 ∧ s.computed chain (first + m - 1) then
        let x := s.detected chain a b first m (s.num (k 2))
        let g := s.cnum (ck chain 0x0F)
        let marked := (List.range m).any fun i => s.spannedAt chain (first + i) [1, 2, 3, 4, 6, 7, 9, 0x0A]
        let s := if saturated then s.setSaturation chain 0x4000 else s
        let s := s.issue (k 4) (leNat 2 (boolNat saturated + 2 * boolNat marked) ++ leNat 8 (s.gridTick chain first)
          ++ leInt 4 (scaleRat (16 * x.re) g 32) ++ leInt 4 (scaleRat (16 * x.im) g 32) ++ leInt 2 (powerDb x.power) ++ [0, 0])
        let again := s.nat (k 1) != 1
        let s := if again then s else s.setNat (k 1) 0
        let s := s.setChain chain { s.chain chain with detNext := if again then some (first + m) else none }
        s.takeDetector chain
      else s

/-- The detector's mode written (R120): its first block begins with the next sample computed; off, what it held takes effect. -/
def State.writeDetectorMode (n mode : Nat) (s : State) : State :=
  let k := obj (0x3160 + n) 1
  let old := s.nat k
  let s := s.setNat k mode
  if mode = 0 then (s.setChain n { s.chain n with detNext := none }).takeDetector n
  else if old = 0 ∧ s.ustate (0x100 + n) = 2 ∧ s.quick n = 0 then
    let i := s.gridFrom n (s.gnomon - s.nat (cs n 0x0C))
    s.setChain n { s.chain n with detNext := some (max i (s.chain n).next) }
  else s

/-- A detector setting written (R120): held until the current block ends while the detector runs. -/
def State.writeDetector (n sub : Nat) (v : Int) (s : State) : State :=
  let k := obj (0x3160 + n)
  if s.nat (k 1) = 0 ∨ s.ustate (0x100 + n) ≠ 2 ∨ s.quick n ≠ 0 then s.setNum (k sub) v
  else if sub = 2 then s.setChain n { s.chain n with detFreq := some v }
  else s.setChain n { s.chain n with detLen := some v.toNat }

/-- DETECTOR_SETTING_WRITE (R120): 0x3160+n:01 to :03; another subindex is written as the plain object it is. -/
def execDetectorSettingWrite (by_ : Requester) (chain sub : Nat) (value : Int) (s : State) :
    Host.Outcome State Fault Refusal :=
  .next (s.request by_ (obj (0x3160 + chain) sub) (numBytes (obj (0x3160 + chain) sub) value)
    (accept fun s => if sub = 1 then s.writeDetectorMode chain value.toNat
      else if sub = 2 ∨ sub = 3 then s.writeDetector chain sub value
      else s.setNum (obj (0x3160 + chain) sub) value))

/-- The rule of R102 for a write to a subindex marked for the other kind of chain: refused with 0x0B01. -/
def chainRule (key : Nat) : Nat :=
  let idx := key / 256
  let sub := key % 256
  if 0x3100 ≤ idx ∧ idx ≤ 0x311F then
    let n := idx - 0x3100
    refuseIf (!isRom n && (sub == 7 || sub == 8 || sub == 9 || sub == 0x0A)) 0x0B01
  else if 0x3140 ≤ idx ∧ idx ≤ 0x315F then refuseIf (isRom (idx - 0x3140)) 0x0B01
  else 0

end Sys2Proof.Machine
end

