-- ==== Sys2Proof/Machine/Capture.lean ====
section
/-!
DEFINITION. Machine/Capture.lean: the IQ captures of R251 to R253.
-/
namespace Sys2Proof.Machine

/-- The key of a subindex of capture descriptor c (R251). -/
abbrev cap (c sub : Nat) : Nat := obj (0x2560 + c) sub

/-- The bytes a capture's samples take in its format (R251). -/
def captureBytes (format len : Nat) : Nat :=
  match format with
  | 0 => 4 * len
  | 1 => 65 * (len / 32)
  | _ => 3 * (len / 2)

/-- Whether a capture records raw ADC data. -/
def State.rawCapture (s : State) (c : Nat) : Bool := s.nat (cap c 1) / 256 == 8

/-- The parameters of R251 that arm checks: the format fits the source, the length is a whole number of its units, the
pre-trigger is below the length. -/
def State.captureCheck (s : State) (c : Nat) : Nat :=
  let f := s.nat (cap c 2)
  let len := s.nat (cap c 3)
  refuseIf ((s.rawCapture c != (f == 2)) || (f == 1 && len % 32 != 0) || (f == 2 && len % 2 != 0)
    || len ≤ s.nat (cap c 4)) 0x1402

/-- Whether a capture is armed or triggered (R251). -/
def State.captureBusy (s : State) (c : Nat) : Bool := s.nat (cap c 6) == 1 || s.nat (cap c 6) == 2

/-- The buffer of a capture for an arm (R252): the one held when its size is right, otherwise a new one. -/
def State.captureBuffer (c : Nat) (s : State) : Option State :=
  let size := roundUp 4096 (captureBytes (s.nat (cap c 2)) (s.nat (cap c 3)))
  let held : Option Alloc := match (s.capture c).buf with
    | some b => s.shm.find? fun a => a.base == b
    | none => none
  match held with
  | some a =>
    if a.size = size then some s
    else ((s.freeAt a.base).alloc generalPool size (s.nat (cap c 1)) 11).map fun p =>
      p.1.setCapture c { p.1.capture c with buf := some p.2 }
  | none =>
    (s.alloc generalPool size (s.nat (cap c 1)) 11).map fun p =>
      p.1.setCapture c { p.1.capture c with buf := some p.2 }

/-- Command 1 (R251, R252): arm. -/
def State.armCapture (c : Nat) (s : State) : State × Nat :=
  let code := firstCode [refuseIf (s.captureBusy c) 0x1403, s.captureCheck c]
  if code ≠ 0 then (s, code)
  else match s.captureBuffer c with
    | none => (s, 0x1401)
    | some s =>
      let s := s.setCapture c { Capture.init with armedAt := s.gnomon, buf := (s.capture c).buf }
      ((s.setNat (cap c 6) 1).await (cap c 7), 0)

/-- The spacing of a capture's samples as a fraction of ticks (R75, R102): 16 samples a tick for raw data, a chain's grid
otherwise. -/
def State.samplePeriod (s : State) (c : Nat) : Nat × Nat :=
  if s.rawCapture c then (1, 16) else s.gridStep (s.nat (cap c 1) - 0x100)

/-- The number of the source's first sample at or after an instant: raw samples by tick and phase, a chain's by its grid. -/
def State.sampleAt (s : State) (c t phase : Nat) : Nat :=
  if s.rawCapture c then 16 * t + phase % 16 else s.gridFrom (s.nat (cap c 1) - 0x100) t

/-- What a capture holds when it has recorded up to an instant (R252, R253): the number of its first sample, how many
samples, and the index of the first one in the buffer. -/
def State.captureSpan (s : State) (c upTo : Nat) : Nat × Nat × Nat :=
  let r := s.capture c
  let len := s.nat (cap c 3)
  let pre := s.nat (cap c 4)
  let armed := s.sampleAt c r.armedAt 0
  let last := s.sampleAt c upTo 0
  match r.trigger with
  | none =>
    let n := min len (last - armed)
    (last - n, n, 0)
  | some (t, phase) =>
    let hit := s.sampleAt c t phase
    let before := min pre (hit - armed)
    (hit - before, before + min (len - pre) (last - hit), pre - before)

/-- A trigger at an instant (R252). -/
def State.triggerCapture (c t phase : Nat) (s : State) : State :=
  (s.setCapture c { s.capture c with trigger := some (t, phase) }).setNat (cap c 6) 2

/-- The number of the source's sample at which an event stands (R115, R253). -/
def State.eventSample (s : State) (c : Nat) (m : Marker) : Nat :=
  if s.rawCapture c then 16 * m.at_ else s.standsOn (s.nat (cap c 1) - 0x100) m

/-- The 158 bytes of a header after its sequence (R253), for what was recorded up to an instant. -/
def State.captureHeader (s : State) (c upTo flags : Nat) : Bytes :=
  let r := s.capture c
  let p := s.samplePeriod c
  let (first, n, valid) := s.captureSpan c upTo
  let start := first * p.1 / p.2
  let phase := if s.rawCapture c then first % 16 else first * p.1 % p.2 * 65536 / p.2
  let inside := r.events.filter fun m => first ≤ s.eventSample c m && decide (s.eventSample c m < first + n)
  let events := inside.map fun m =>
    leNat 1 m.kind ++ leNat 1 m.path ++ leNat 4 (valid + s.eventSample c m - first) ++ leNat 2 m.param
  let flags := flags + (if 16 < events.length then 2 else 0)
  leNat 8 start ++ leNat 2 phase ++ leNat 1 (s.nat (cap c 2)) ++ leNat 1 flags ++ leNat 1 (min 16 events.length) ++ [0]
    ++ leNat 4 n ++ leNat 4 valid ++ leNat 4 (s.nat (cap c 4)) ++ [0, 0, 0, 0] ++ padTo 128 (events.take 16).flatten

/-- The RAW12 bytes of pairs of codes (R251). -/
def raw12 (codes : List Int) : Bytes :=
  (pieces 2 0 codes).flatMap fun p =>
    let a := ((nthD p 0 0) % 4096).toNat
    let b := ((nthD p 1 0) % 4096).toNat
    [a % 256, a / 256 + 16 * (b % 16), b / 16]

/-- A capture's buffer as its format lays it out (R251), for the sample at each index. -/
def bufferBytes (format len : Nat) (sample : Nat → Int × Int) : Bytes :=
  let xs := (List.range len).map sample
  match format with
  | 0 => xs.flatMap fun x => leInt 2 x.1 ++ leInt 2 x.2
  | 1 => iq8Bytes (xs.flatMap fun x => [x.1, x.2])
  | _ => raw12 (xs.map (·.1))

/-- A capture ended in a state with its header and data (R252, R253): `sample` gives the source's sample of a number; an index that was
not recorded holds 0 (DESIGN CHOICE, notes/assumptions/135.md). -/
def State.endCapture (c state flags upTo : Nat) (sample : Nat → Int × Int) (s : State) : State :=
  let (first, n, valid) := s.captureSpan c upTo
  let data := bufferBytes (s.nat (cap c 2)) (s.nat (cap c 3)) fun i =>
    if valid ≤ i ∧ i < valid + n then sample (first + i - valid) else (0, 0)
  let header := s.captureHeader c upTo flags
  ((s.setCapture c { s.capture c with data := data, valid := captureBytes (s.nat (cap c 2)) n, iq := [] }).setNat (cap c 6) state).issue
    (cap c 7) header

/-- The blocks of a chain taken by the captures that record it (R252): the samples are the block's. -/
def State.captureBlock (n grid : Nat) (quick : Bool) (data : Bytes) (s : State) : State :=
  (List.range 4).foldl (fun s c =>
    if s.nat (cap c 1) = 0x100 + n ∧ s.captureBusy c then
      let xs := (pieces (if quick then 8 else 4) 0 data).zipIdx.map fun p =>
        (grid + p.2, signed 2 (fieldLe p.1 0 2), signed 2 (fieldLe p.1 2 2))
      s.setCapture c { s.capture c with iq := lastN (s.nat (cap c 3)) ((s.capture c).iq ++ xs) }
    else s) s

/-- The sample of a chain that a capture has taken. -/
def Capture.sample (r : Capture) (i : Nat) : Int × Int := ((r.iq.find? fun x => x.1 == i).map (·.2)).getD (0, 0)

/-- Whether a capture waits for a trigger (R252). -/
def State.captureWaits (s : State) (c : Nat) : Bool := s.nat (cap c 6) == 1 && (s.capture c).stopped.isNone

/-- A trigger at once (R252): on the first sample taken after acceptance; in another state than 1 it has no meaning. -/
def State.triggerNow (c : Nat) (s : State) : State := if s.captureWaits c then s.triggerCapture c s.gnomon 0 else s

/-- A sample of what an aborted capture had recorded (R253): a chain's blocks as they came; the rest of a chain's samples and raw ones no
command brings, so they are free values. -/
def State.abortedSample (s : State) (c i : Nat) : Int × Int :=
  match (s.capture c).iq.find? fun x => x.1 == i with
  | some x => x.2
  | none => (Config.captured i 0, Config.captured i 1)

/-- An abort (R251, R253): state 4 with the abort flag; what was recorded stays readable. -/
def State.abortCapture (c : Nat) (s : State) : State :=
  if s.captureBusy c then
    let upTo := (s.capture c).stopped.getD s.gnomon
    s.endCapture c 4 4 upTo (s.abortedSample c)
  else s

/-- The buffer freed and the descriptor idle (R251); refused while armed or triggered. -/
def State.freeCapture (c : Nat) (s : State) : State × Nat :=
  guarded (refuseIf (s.captureBusy c) 0x1403) (fun s =>
    let s := match (s.capture c).buf with
      | some b => s.freeAt b
      | none => s
    (s.setCapture c Capture.init).setNat (cap c 6) 0) s

/-- The command object of a capture (R251). -/
def State.captureCommand (c v : Nat) (s : State) : State × Nat :=
  match v with
  | 1 => s.armCapture c
  | 2 => (s.triggerNow c, 0)
  | 3 => (s.abortCapture c, 0)
  | 4 => s.freeCapture c
  | _ => (s, 0x1402)

/-- CAPTURE_ARM (R252). -/
def execCaptureArm (by_ : Requester) (capture : Nat) (s : State) : Host.Outcome State Fault Refusal :=
  .next (s.request by_ (cap capture 5) [1] (State.armCapture capture))

/-- CAPTURE_TRIGGER_NOW (R252). -/
def execCaptureTriggerNow (by_ : Requester) (capture : Nat) (s : State) : Host.Outcome State Fault Refusal :=
  .next (s.request by_ (cap capture 5) [2] (accept (State.triggerNow capture)))

/-- CAPTURE_ABORT (R251, R253). -/
def execCaptureAbort (by_ : Requester) (capture : Nat) (s : State) : Host.Outcome State Fault Refusal :=
  .next (s.request by_ (cap capture 5) [3] (accept (State.abortCapture capture)))

/-- CAPTURE_FREE (R251). -/
def execCaptureFree (by_ : Requester) (capture : Nat) (s : State) : Host.Outcome State Fault Refusal :=
  .next (s.request by_ (cap capture 5) [4] (State.freeCapture capture))

/-- CAPTURE_TRIGGER (R49, R252): in state 1 the firing's instant is the trigger; in another state the firing is dropped. -/
def execCaptureTrigger (entry : Nat) (s : State) : Host.Outcome State Fault Refusal :=
  .next <|
    match s.dueEntry entry [0x0A] with
    | none => s
    | some e =>
      let c := fieldLe e.param 0 2
      if s.captureWaits c then (s.afterFiring entry e).triggerCapture c e.instant e.phase
      else s.dropFiring entry e

/-- The samples of a chain's capture up to a grid sample (R252): those of its blocks, and those of the block in progress. -/
def State.chainSamples (c stop : Nat) (a b : AdcSpan) (s : State) : State :=
  let n := s.nat (cap c 1) - 0x100
  let from_ := (s.chain n).next
  if s.rawCapture c ∨ stop ≤ from_ then s
  else s.captureBlock n from_ (s.quick n != 0) (s.blockData n a b 0 from_ stop).1

/-- The sample of a number of a capture's source. -/
def State.capturedSample (s : State) (c : Nat) (a b : AdcSpan) (i : Nat) : Int × Int :=
  if s.rawCapture c then ((if s.nat (cap c 1) = 0x0800 then a else b).code i, 0) else (s.capture c).sample i

/-- CAPTURE_COMPLETE (R248, R251, R252): once the last sample is in, or the source has stopped, the state is 3; the codes of both paths give
the samples that the descriptor recorded. -/
def execCaptureComplete (capture : Nat) (a b : AdcSpan) (s : State) : Host.Outcome State Fault Refusal :=
  .next <|
    let r := s.capture capture
    let p := s.samplePeriod capture
    match r.stopped, r.trigger with
    | some t, _ =>
      if capture < 4 ∧ s.captureBusy capture then
        let s := s.chainSamples capture (s.sampleAt capture t 0) a b
        s.endCapture capture 3 1 t (s.capturedSample capture a b)
      else s
    | none, some (t, phase) =>
      let stop := s.sampleAt capture t phase + (s.nat (cap capture 3) - s.nat (cap capture 4))
      if capture < 4 ∧ s.nat (cap capture 6) = 2 ∧ (stop - 1) * p.1 / p.2 ≤ s.gnomon then
        let s := s.chainSamples capture stop a b
        s.endCapture capture 3 0 (stop * p.1 / p.2 + 1) (s.capturedSample capture a b)
      else s
    | none, none => s

/-- A path's power-down ends its armed and triggered captures in state 4 (R253). -/
def State.abortCaptures (p : Nat → Bool) (s : State) : State :=
  (List.range 4).foldl (fun s c =>
    if p (s.nat (cap c 1)) then s.abortCapture c else s) s

/-- The rule of R251 for writes to a descriptor: :01 to :04 while armed or triggered are refused with 0x1403. -/
def State.captureRule (s : State) (key : Nat) : Nat :=
  let idx := key / 256
  if 0x2560 ≤ idx ∧ idx ≤ 0x2563 ∧ key % 256 ≤ 4 then refuseIf (s.captureBusy (idx - 0x2560)) 0x1403 else 0

end Sys2Proof.Machine
end

