-- ==== Sys2Proof/Machine/Engines.lean ====
section
/-!
DEFINITION. Machine/Engines.lean: the Ashlar engines and the decoder accelerators (spec/07_ashlar_engines.md): images and
loads, faults and restarts, jobs and timeouts. The fault policy of R36 and the holds of R34 are here too, because faults
set them off.
-/
namespace Sys2Proof.Machine

/-- The key of a subindex of engine e's objects (R136). -/
abbrev ek (e sub : Nat) : Nat := obj (0x2400 + e) sub

/-- The key of a subindex of accelerator a's objects (R135). -/
abbrev ak (a sub : Nat) : Nat := obj (0x2440 + a) sub

/-! ### The catalogue -/

/-- The catalogue entry that names an image, valid and not rejected (R128, R129). -/
def State.catalogue (s : State) (image : Nat) : Option Bytes :=
  ((List.range 16).map fun i => s.bytes (obj (0x2481 + i) 0)).find? fun e =>
    fieldLe e 0 2 == image && image != 0 && bitOf (nthD e 9 0) 0 && !bitOf (nthD e 9 0) 1

/-- The longest load time of an image in ticks (R130): 76,800 plus 3,994 per KB. -/
def State.loadTicks (s : State) (e : Nat) : Nat :=
  match s.catalogue (s.cnat (ek e 1)) with
  | some c => 76800 + 3994 * fieldLe c 2 2
  | none => 76800

/-- The remaining load time of an engine (R130), by the longest load times: its own and those before it in the queue. -/
def State.loadLeft (s : State) (e : Nat) : Nat :=
  match posOf e s.loads with
  | none => 0
  | some i =>
    let all := ((s.loads.take (i + 1)).map s.loadTicks).foldl (· + ·) 0
    match s.loads.head? with
    | none => 0
    | some h => match (s.engine h).loadFrom with
      | some t => all - (s.gnomon - t)
      | none => all

/-- The head of the load queue started, if no load runs (R130). -/
def State.startLoad (s : State) : State :=
  match s.loads.head? with
  | none => s
  | some e =>
    match (s.engine e).loadFrom with
    | some _ => s
    | none => (s.setEngine e { s.engine e with loadFrom := some s.gnomon }).setNat (ek e 3) 1

/-- A load queued (R130): load state 1. -/
def State.queueLoad (e : Nat) (s : State) : State :=
  ({ s.setNat (ek e 3) 1 with loads := s.loads ++ [e] }).startLoad

/-- A load taken out of the queue, finished or abandoned; the next one starts. -/
def State.dequeueLoad (e : Nat) (s : State) : State :=
  let s := s.setEngine e { s.engine e with loadFrom := none }
  ({ s with loads := s.loads.filter (· != e) }).startLoad

/-- The check of an engine's own configure (R129): its image is in the catalogue. -/
def State.validateEngine (s : State) (e : Nat) : Nat := refuseIf (s.catalogue (s.nat (ek e 1))).isNone 0x0C01

/-- An engine's configuration committed and its image loaded, unless it is in the engine already (R129). -/
def State.commitEngine (e : Nat) (s : State) : State :=
  let s := s.commitKeys [ek e 1, ek e 5]
  let image := s.cnat (ek e 1)
  let version := match s.catalogue image with
    | some c => fieldLe c 4 4
    | none => 0
  if (s.engine e).image = image ∧ s.nat (ek e 2) = version ∧ s.nat (ek e 3) = 2 then s
  else
    let s := if (s.engine e).image = image then s else (s.setEngine e { s.engine e with image := 0 }).setNat (ek e 2) 0
    s.queueLoad e

/-- A sign of life of an engine's image (R137). -/
def State.sign (e : Nat) (s : State) : State := s.setEngine e { s.engine e with beat := s.gnomon }

/-- The RES objects that engine e produces (R355): they are not ready after a cold start. -/
def engineResults (e : Nat) : List Nat :=
  [obj (0x4120 + e) 0x10, obj (0x4410 + e) 9, obj (0x4620 + e) 0x0B, obj (0x4710 + e) 9]

/-- The outputs of an engine cold-started (R355). -/
def State.coldStart (e : Nat) (s : State) : State :=
  (engineResults e).foldl (fun s k => if s.resSeq k = 0 then s else s.await k) s

/-- The input queues of an engine flushed (R138 step 1). -/
def State.flushInputs (e : Nat) (s : State) : State :=
  (List.range 32).foldl (fun s n =>
    if s.cnat (ck n 0x12) = 0x200 + e ∧ (s.chain n).queue ≠ [] then s.setChain n { s.chain n with queue := [] } else s) s

/-- An engine released (R130, R136): its load or restart is abandoned, its memory is zeroed before it reads DORMANT. -/
def State.releaseEngine (e : Nat) (why : Nat × Nat) (s : State) : State :=
  let s := (s.dequeueLoad e).freeOwner (0x200 + e)
  let s := (s.setEngine e { Engine.init with
    zeroing := true, restarts := (s.engine e).restarts, why := why }).flushInputs e
  ((s.setNat (ek e 2) 0).setNat (ek e 3) 0).setNat (desc (0x200 + e) 3) 0xFF

/-! ### Faults and the fault policy -/

/-- A hold begun of some leaves (R34): rank 4 first, then 3, 2, 1, 0; `courses` read HELD at its end. -/
def State.beginHold (top : Nat) (leaves courses : List Nat) (cause verb : Nat) (release : Option (Nat × Nat)) (s : State) : State :=
  let ranks := [4, 3, 2, 1, 0].map (fun r => leaves.filter fun u => rankOf u == r) |>.filter (· ≠ [])
  { s with holdings := s.holdings ++ [⟨top, ranks, courses, cause, verb, release⟩] }

/-- The fault policy of R36 from a faulted member of course c upwards. A course that enters FAULTED shows the fault code of the
member that brought it there: R36 gives it none (DESIGN CHOICE, notes/assumptions/115.md). -/
def State.faultCourse : Nat → Nat → State → State
  | 0, _, s => s
  | fuel + 1, u, s =>
    let c := s.parent u
    if c = 0xFFFF ∨ s.ustate c ≠ 2 then s
    else if s.cnat (desc c 8) = 1 then s.setNat (desc c 0x0A) (min 16 (s.nat (desc c 0x0A) + 1))
    else
      let leaves := (s.leaves c).filter fun v => v != u && s.ustate v == 2
      let nested := (s.courses c).filter fun v => v != c && s.ustate v == 2
      let s := s.beginHold c leaves nested 5 0 none
      let s := (s.setUState c 4 5 0).setNat (desc c 5) (s.nat (desc u 5))
      s.faultCourse fuel c

/-- A unit put into FAULTED with its fault code (R24), cause 3 of R26, and the policy of its course applied. -/
def State.faultUnit (u code : Nat) (s : State) : State :=
  let s := (s.setUState u 4 3 0).setNat (desc u 5) code
  s.faultCourse 9 u

/-- An accelerator put into FAULTED (R135): the policy applies to each course that names it. -/
def State.faultAccel (a code : Nat) (s : State) : State :=
  let u := 0x600 + a
  let cs := s.naming u
  let s := (s.setUState u 4 3 0).setNat (desc u 5) code
  cs.foldl (fun s c =>
    if s.ustate c ≠ 2 then s
    else if s.cnat (desc c 8) = 1 then s.setNat (desc c 0x0A) (min 16 (s.nat (desc c 0x0A) + 1))
    else
      let leaves := (s.leaves c).filter fun v => v != u && s.ustate v == 2
      let nested := (s.courses c).filter fun v => v != c && s.ustate v == 2
      let s := s.beginHold c leaves nested 5 0 none
      let s := (s.setUState c 4 5 0).setNat (desc c 5) code
      s.faultCourse 9 c) s

/-- The restarts of an engine within the rolling 60 s. -/
def State.recentRestarts (s : State) (e : Nat) : List Nat :=
  (s.engine e).restarts.filter fun t => s.gnomon < t + 9216000000

/-- An engine fault (R137, R138): recorded and announced; a restart begins, or the engine enters FAULTED. -/
def State.faultEngine (e cause : Nat) (s : State) : State :=
  let u := 0x200 + e
  let recent := s.recentRestarts e
  let s := ((s.setNat (ek e 0x0B) cause).setNat (ek e 0x0C) s.gnomon).setNat (ek e 7) recent.length
  let s := s.raise 13 3 u [(2, cause), (8, s.gnomon), (1, recent.length)]
  if s.cnat (ek e 5) = 1 ∧ cause ≠ 0x0205 ∧ recent.length < 3 then
    let s := (s.dequeueLoad e).flushInputs e
    let s := s.setEngine e { s.engine e with restart := some ⟨1, s.gnomon⟩, restarts := recent ++ [s.gnomon] }
    (s.bump (ek e 6)).setNat (ek e 7) (recent.length + 1)
  else
    let s := (s.dequeueLoad e).setEngine e { s.engine e with restart := none, heldHold := false, loadFrom := none }
    s.faultUnit u cause

/-- Whether an engine can fault: CONFIGURED, RUNNING or HELD (R138). -/
def State.engineLive (s : State) (e : Nat) : Bool :=
  e < 12 && (s.ustate (0x200 + e) == 1 || s.ustate (0x200 + e) == 2 || s.ustate (0x200 + e) == 3)

/-! ### Engine commands -/

/-- ENGINE_RESTART_RELOAD (R138 step 2): 1,536 ticks after the detection the image's reload is queued. -/
def execEngineRestartReload (engine : Nat) (s : State) : Host.Outcome State Fault Refusal :=
  .next <|
    match (s.engine engine).restart with
    | some r =>
      if r.step = 1 ∧ r.detected + 1536 ≤ s.gnomon then
        (s.setEngine engine { s.engine engine with restart := some { r with step := 2 } }).queueLoad engine
      else s
    | none => s

/-! ### Accelerators -/

/-- The courses that hold shares of an accelerator, each with its number (R29, R134), ascending. -/
def State.shareHolders (s : State) (a : Nat) : List (Nat × Nat) :=
  (s.naming (0x600 + a)).map fun c =>
    (c, ((s.members c).filter fun m => m.1 == 0x600 + a).foldl (fun t m => t + m.2) 0)

/-- The owners of the 16 slots of a round (R134): the k-th of a holder's s slots stands at the first free one from 16k / s on; the
specification says no more than that they are spread evenly (DESIGN CHOICE, notes/assumptions/131.md). -/
def slotOwners (holders : List (Nat × Nat)) : List (Option Nat) :=
  holders.foldl (fun owners h =>
    (List.range h.2).foldl (fun owners k =>
      let order := (List.range 16).map fun i => (16 * k / max 1 h.2 + i) % 16
      match order.find? fun i => (nthD owners i none).isNone with
      | some i => setNth owners i (some h.1)
      | none => owners) owners) (List.replicate 16 none)

/-- The holder that a slot serves (R134): its owner, where one of its jobs waits, else the next holder with a waiting job in order of
unit ID. -/
def Accel.serves (r : Accel) (owner : Option Nat) : Option Nat :=
  let waiting := fun (h : Nat) => r.jobs.any fun j => j.holder == h
  match owner.filter waiting with
  | some h => some h
  | none =>
    let hs := sortNat (r.jobs.map (·.holder))
    (hs.find? fun h => decide (r.last < h)).or hs.head?

/-- A run of slots with one more slot at its end. -/
def addSlot (i : Nat) (l : List (Nat × Nat)) : List (Nat × Nat) :=
  match l.getLast? with
  | some (f, t) => if t = i then l.dropLast ++ [(f, i + 1)] else if t = i + 1 then l else l ++ [(i, i + 1)]
  | none => [(i, i + 1)]

/-- The slots of 1 s. -/
abbrev secondSlots : Nat := 600000

/-- The oldest job of a holder run for one more tick. -/
def serveJob (h : Nat) : List Job → List Job
  | [] => []
  | j :: js => if j.holder = h then { j with done := j.done + 1 } :: js else j :: serveJob h js

/-- What a tick does to an accelerator (R134): a slot of 256 ticks serves one holder while one of its jobs waits, and then the next. -/
def State.tickAccel (a : Nat) (s : State) : State :=
  let r := s.accel a
  if r.jobs = [] then s
  else
    let i := (s.gnomon - 1) / 256
    let going := match r.slot with
      | some (j, h) => if j = i ∧ r.jobs.any (fun k => k.holder == h) then some h else none
      | none => none
    let owner := nthD (slotOwners (s.shareHolders a)) (i % 16) none
    match going.or (r.serves owner) with
    | none => s
    | some h =>
      s.setAccel a { r with
        jobs := serveJob h r.jobs, slot := some (i, h), last := if owner = some h then r.last else h
        used := (addSlot i r.used).filter fun u => decide (i < u.2 + secondSlots) }

/-- The share of slots used over the last 1 s, in percent (R135). -/
def State.accelBusy (s : State) (a : Nat) : Nat :=
  let i := s.gnomon / 256
  (s.accel a).used.foldl (fun t u => t + (u.2 - max u.1 (i - secondSlots))) 0 * 100 / secondSlots

/-- The cycle load of every loaded engine over the 10 ms that end now (R136), a free value each: the last 1 s is kept, the highest
recorded, and corrected memory errors are counted. -/
def State.tickLoads (s : State) : State :=
  if s.gnomon % 1536000 ≠ 0 then s
  else (List.range 12).foldl (fun s e =>
    if s.nat (ek e 3) ≠ 2 then s
    else
      let v := Config.measured (ek e 8) s.gnomon % 101
      let s := s.setEngine e { s.engine e with cycles := lastN 100 ((s.engine e).cycles ++ [v]) }
      let s := if s.nat (ek e 9) < v then s.setNat (ek e 9) v else s
      s.bumpBy (ek e 0x0A) (Config.measured (ek e 0x0A) s.gnomon)) s

/-- The mean cycle load over the last 1 s (R136). -/
def Engine.load (r : Engine) : Nat := if r.cycles.isEmpty then 0 else r.cycles.foldl (· + ·) 0 / r.cycles.length

/-- A list without its first member that meets `p`, and that member. -/
def takeFirst {α : Type} (p : α → Bool) : List α → Option (α × List α)
  | [] => none
  | x :: xs => if p x then some (x, xs) else (takeFirst p xs).map fun r => (r.1, x :: r.2)

/-- ACCELERATOR_JOB_COMPLETE (R133 to R135): the engine's oldest job that has run for its job time ends; completions and the longest
wait are counted. -/
def execAcceleratorJobComplete (accel engine : Nat) (s : State) : Host.Outcome State Fault Refusal :=
  .next <|
    match takeFirst (fun j : Job => j.engine == engine && decide (j.ticks ≤ j.done)) (s.accel accel).jobs with
    | none => s
    | some (j, rest) =>
      let s := (s.setAccel accel { s.accel accel with jobs := rest }).bump (ak accel 1)
      s.setNat (ak accel 5) (max (s.nat (ak accel 5)) (s.gnomon - j.at_))

/-- ACCELERATOR_WAIT_CLEAR (R135): 0 clears the longest wait; another value is refused with 0x0C06. -/
def execAcceleratorWaitClear (by_ : Requester) (accel value : Nat) (s : State) : Host.Outcome State Fault Refusal :=
  .next (s.request by_ (ak accel 5) (leNat 4 value)
    (fun s => guarded (refuseIf (value % 2 ^ 32 != 0) 0x0C06) (State.setNat (ak accel 5) 0) s))

/-- PEAK_CYCLE_LOAD_CLEAR (R136): 0 clears the peak cycle load; another value is refused with 0x0C06. -/
def execPeakCycleLoadClear (by_ : Requester) (engine value : Nat) (s : State) : Host.Outcome State Fault Refusal :=
  .next (s.request by_ (ek engine 9) (leNat 1 value)
    (fun s => guarded (refuseIf (value % 256 != 0) 0x0C06) (State.setNat (ek engine 9) 0) s))

end Sys2Proof.Machine
end

