-- ==== Sys2Proof/Machine/AudioStore.lean ====
section
/-!
DEFINITION. Machine/AudioStore.lean: the PCM queues (R244 to R246) and what the audio engine takes from them: the exact tails and
delay lines of Gloaming's slots with their measurements (R231, R232, R236, R237, R247), and the frames of the streams that read a queue
themselves (R257, R260).
-/
namespace Sys2Proof.Machine

/-! ### Gloaming slots -/

/-- The key of a subindex of slot i's object (R233). -/
abbrev gk (i sub : Nat) : Nat := obj (0x4910 + i) sub

/-- A slot's source word (R218). -/
def State.slotSource (s : State) (i : Nat) : Nat := s.nat (obj 0x4900 (2 + i))

/-- Whether Gloaming is enabled (R240). -/
def State.blending (s : State) : Bool := s.nat 0x490001 == 1

/-- The queue that a source word names (R218): engine × 8 + output. -/
def queueOf (w : Nat) : Nat := (w % 65536 - 0x200) * 8 + w / 65536 % 2

/-! ### Measurements -/

/-- A second-order section with coefficients b0, b1, b2, a1, a2 and its two memories. -/
def biquad (c m : List Rat) (x : Rat) : Rat × List Rat :=
  let y := nthD c 0 0 * x + nthD m 0 0
  (y, [nthD c 1 0 * x - nthD c 3 0 * y + nthD m 1 0, nthD c 2 0 * x - nthD c 4 0 * y])

/-- A frame measured (R232, R236, R237): a ms is complete with its 48th frame. -/
def Meter.hear (m : Meter) (x : AudioFrame) : Meter :=
  let mono : Rat := ((x.l + x.r : Int) : Rat) / 2
  let low := lowPass (Config.onePole (quot 1 (80 * Config.pi))) (if mono < 0 then -mono else mono) m.low
  let high := biquad Config.highPass100 m.high mono
  let bands := (List.range 5).map fun k => biquad (Config.bandFilter k) (nthD m.bands k []) mono
  let a := m.acc
  let acc : MonoMs := ⟨low, a.power + mono ^ 2, a.high + high.1 ^ 2,
    (a.bands.zip bands).map fun p => p.1 + p.2.1 ^ 2, a.frames + 1, a.hidden + boolNat x.hidden⟩
  let m := { m with
    low := low, high := high.2, bands := bands.map (·.2), mono := lastN 300000 (m.mono ++ [x.l + x.r]), acc := acc }
  if x.i % 48 ≠ 47 then m
  else
    { m with
      acc := MonoMs.init, last := x.i / 48
      ms := if acc.frames = 48 then lastN 10000 (m.ms ++ [acc]) else m.ms }

/-! ### Taking frames -/

/-- One frame recorded by a slot: exact tail, delay line and meter. -/
def GSlot.record (g : GSlot) (x : AudioFrame) : GSlot :=
  { g with
    next := some (x.i + 1), frames := lastN g.tailLen (g.frames ++ [x]), line := g.line.push x, meter := g.meter.hear x }

/-- A frame taken by a slot (R231, R247); frames that the source left out are recorded as concealed zeros. -/
def GSlot.take (g : GSlot) (x : AudioFrame) : GSlot :=
  match g.next with
  | none => { g with line := { g.line with first := x.i } }.record x
  | some n =>
    if x.i < n then g
    else
      let lost := min (x.i - n) lineFrames
      ((List.range lost).foldl (fun g k => g.record ⟨x.i - lost + k, 0, 0, true⟩) g).record x

/-- The frames of a queue's slot (R245). -/
def slotFrames (slot : Bytes) : List AudioFrame :=
  let first := fieldLe slot 0 8 / 3200
  let mask := fieldLe slot 8 8
  (List.range 64).map fun k =>
    ⟨first + k, signed 3 (fieldLe slot (24 + 6 * k) 3), signed 3 (fieldLe slot (27 + 6 * k) 3), bitOf mask k⟩

/-- A slot of a queue taken by a slot of Gloaming: its frames, when it came, and whether it is bad (R226, R239). -/
def GSlot.hear (g : GSlot) (now : Nat) (steady : Bool) (slot : Bytes) : GSlot :=
  let frames := slotFrames slot
  let g := frames.foldl GSlot.take g
  { g with
    arrivals := lastN 64 (g.arrivals ++ [(fieldLe slot 0 8 / 3200, now)])
    cleanFrom := if frames.any (·.hidden) || nthD slot 19 0 != 0 || !steady then now else g.cleanFrom }

/-- Whether Gloaming's slot i records a queue. -/
def State.slotReads (s : State) (i k : Nat) : Bool :=
  s.blending && s.slotSource i != 0 && queueOf (s.slotSource i) == k

/-- Whether a source word names a queue. -/
def wordReads (k w : Nat) : Bool := w != 0 && w != 0xFFFFFFFF && queueOf w == k

/-- Whether a pair reads a queue, now or after its change (R267). -/
def Pair.reads (p : Pair) (k : Nat) : Bool :=
  wordReads k p.source || p.change.any (fun c => wordReads k c.1) || p.held.any (wordReads k)

/-- Whether a stream that is not idle reads a queue (R257). -/
def State.streamReads (s : State) (k : Nat) : Bool :=
  s.streams.any fun u => s.nat (obj (0x5020 + u.1) 1) != 0 && u.2.pairs.any fun p => p.2.reads k

/-- Whether the decoder behind a queue decodes without a flaw: its slot is in state 2 where it has one (R226). -/
def State.steadyOn (s : State) (k : Nat) : Bool :=
  (s.engine (k / 8)).image != 0x0201 || s.nat (obj (0x4480 + k / 8) (6 + k % 8)) == 2

/-- A slot of a queue moved into the stores of those who read it (R247, R260). -/
def State.hearSlot (k : Nat) (slot : Bytes) (s : State) : State :=
  let s := [0, 1, 2].foldl (fun s i =>
    if s.slotReads i k then s.setGslot i ((s.gslot i).hear s.gnomon (s.steadyOn k) slot) else s) s
  if s.streamReads k then
    { s with heard := Map.put (fun _ => []) s.heard k (lastN 131072 (Map.get (fun _ => []) s.heard k ++ slotFrames slot)) }
  else s

/-! ### PCM queues -/

/-- A sample saturated as R246 states, from its 24-bit code. -/
def pcmSat (v : Nat) : Nat := if 8388479 < v ∧ v < 8388608 then 8388479 else v

/-- The 64 frames of a slot, saturated (R246). -/
def pcmFrames (b : Bytes) : Bytes :=
  (List.range 128).flatMap fun i => leNat 3 (pcmSat (fieldLe b (3 * i) 3))

/-- The PCM queue of output `o` of engine `e`. -/
def State.pcmQueue (s : State) (e o : Nat) : List Bytes := Map.get (fun _ => []) s.pcm (e * 8 + o)

/-- A PCM slot put into a queue (R244, R245): the audio engine takes it where it reads the queue (R247); otherwise it waits, and the
full queue drops it and counts the drop. -/
def State.pushPcm (e o : Nat) (p : PcmSlot) (s : State) : State :=
  let k := e * 8 + o
  let q := s.pcmQueue e o
  let n := Map.get (fun _ => 0) s.pcmSeq k
  let slot := leNat 8 p.instant ++ leNat 8 p.concealed ++ leNat 2 n ++ [64, boolNat p.silence, 0, 0, 0, 0]
    ++ pcmFrames p.frames
  let counted := { s with pcmSeq := Map.put (fun _ => 0) s.pcmSeq k ((n + 1) % 65536) }
  if s.streamReads k || [0, 1, 2].any fun i => s.slotReads i k then counted.hearSlot k slot
  else if q.length < 64 then { counted with pcm := Map.put (fun _ => []) s.pcm k (q ++ [slot]) }
  else s.countDrop (0x200 + e) 6

/-- What waits in a queue taken by one who begins to read it. -/
def State.drainPcm (k : Nat) (s : State) : State :=
  let q := Map.get (fun _ => []) s.pcm k
  if q = [] then s
  else q.foldl (fun s x => s.hearSlot k x) ({ s with pcm := Map.put (fun _ => []) s.pcm k [] } : State)

/-- Every PCM queue of an engine emptied. -/
def State.clearPcm (e : Nat) (s : State) : State :=
  (List.range 8).foldl (fun s o => { s with pcm := Map.put (fun _ => []) s.pcm (e * 8 + o) [] }) s

end Sys2Proof.Machine
end

