-- ==== Sys2Proof/Machine/Rds.lean ====
section
/-!
DEFINITION. Machine/Rds.lean: what the FM engines and Lantern share (R59, R156, R158, R170): the fields of an RDS group,
the rule for values of class 2, and the UTC anchor. The layout of the groups is that of RDS itself,
which the specification takes as known (PRESUMED, notes/assumptions/24.md).
-/
namespace Sys2Proof.Machine

/-! ### UTC anchor -/

/-- UTC in ms at a tick by the anchor in force (R60); 0 while there is none. -/
def State.utcAt (s : State) (g : Nat) : Nat :=
  if s.nat 0x200304 = 0 then 0
  else
    let d : Int := (g : Int) - s.nat 0x200302
    ((s.nat 0x200303 : Int) + d * (1000000000 + s.num 0x200306) / 153600000000000).toNat

/-- Whether the anchor is more than 10 minutes old (R59). -/
def State.anchorOld (s : State) : Bool := s.nat 0x200302 + 92160000000 < s.gnomon

/-- Whether a UTC value lies more than 2 s from the anchor in force (R60). -/
def State.utcDisagrees (s : State) (tick utc : Nat) : Bool :=
  s.nat 0x200304 != 0 && (s.utcAt tick + 2000 < utc || utc + 2000 < s.utcAt tick)

/-- The rate correction in ppb from two anchors, limited to 25 ppm (R60). -/
def rateCorrection (t0 u0 t1 u1 : Nat) : Int :=
  let ideal : Int := (t1 : Int) - t0
  let seen : Int := ((u1 : Int) - u0) * 153600
  if ideal ≤ 0 then 0 else clampInt (-25000) 25000 ((seen - ideal) * 1000000000 / ideal)

/-- The earlier anchor of a source that pairs with one at a tick for the rate correction: the latest at least 10 minutes before it
(R60; DEDUCED, notes/assumptions/119.md). -/
def pairOf (prio tick : Nat) (as_ : List UtcPrev) : Option UtcPrev :=
  as_.find? fun a => a.source == prio && decide (a.tick + 92160000000 ≤ tick)

/-- A decoded time source offers an anchor (R59, R60): priority 1 is the highest (DEDUCED, notes/assumptions/25.md). Of two
sources more than 2 s apart the higher stands, however old its anchor, and an event tells of it. -/
def State.utcAnchor (prio tick utc : Nat) (local_ : Int) (s : State) : State :=
  let now := s.nat 0x200304
  let differs := s.utcDisagrees tick utc && now != prio
  let s := if differs then s.raise 8 1 0x2003 [] else s
  if now = 0 ∨ prio ≤ now ∨ (s.anchorOld ∧ !differs) then
    let pair := pairOf prio tick s.utcPrev
    let c := match pair with
      | some p => rateCorrection p.tick p.utc tick utc
      | none => s.num 0x200306
    let keep := fun (a : UtcPrev) => a.source != prio || match pair with
      | some p => decide (p.tick ≤ a.tick)
      | none => true
    let s := { s with utcPrev := ⟨tick, utc, prio⟩ :: s.utcPrev.filter keep }
    ((((s.setNat 0x200302 tick).setNat 0x200303 utc).setNat 0x200304 prio).setNum 0x200305 local_).setNum 0x200306 c
  else s

/-- UTC ms of a Modified Julian Date, hour and minute. -/
def utcOfMjd (mjd hour minute : Nat) : Nat := (((mjd - 40587) * 24 + hour) * 60 + minute) * 60000

/-! ### Fields -/

/-- A value of a field taken by its class (R158): class 0 or 1 at once, class 2 when the same value comes twice in
succession. -/
def RdsFields.take (f : RdsFields) (field cls : Nat) (v : List Nat) : RdsFields × Bool :=
  if cls ≤ 1 then ({ f with once := Map.put (fun _ => none) f.once field none }, true)
  else if cls = 2 then
    if Map.get (fun _ => none) f.once field = some v then
      ({ f with once := Map.put (fun _ => none) f.once field none }, true)
    else ({ f with once := Map.put (fun _ => none) f.once field (some v) }, false)
  else (f, false)

/-- Characters put at positions from `at_`. -/
def putChars (m : Map (Option Nat)) (at_ : Nat) : List Nat → Map (Option Nat)
  | [] => m
  | c :: cs => putChars (Map.put (fun _ => none) m at_ (some c)) (at_ + 1) cs

/-- The character at a position. -/
def charAt (m : Map (Option Nat)) (i : Nat) : Option Nat := Map.get (fun _ => none) m i

/-- The 8 bytes of PS, 0x20 where not received (R158, R171). -/
def RdsFields.psBytes (f : RdsFields) : Bytes := (List.range 8).map fun i => (charAt f.ps i).getD 0x20

/-- Whether all of PS has been received. -/
def RdsFields.psComplete (f : RdsFields) : Bool := (List.range 8).all fun i => (charAt f.ps i).isSome

/-- The end of the RadioText: its 0x0D, or 64. -/
def RdsFields.rtEnd (f : RdsFields) : Nat := ((List.range 64).find? fun i => charAt f.rt i == some 0x0D).getD 64

/-- Whether all of the RadioText up to its end has been received. -/
def RdsFields.rtComplete (f : RdsFields) : Bool := (List.range f.rtEnd).all fun i => (charAt f.rt i).isSome

/-- An RDS character as UTF-8: ASCII as itself, other codes by `Config.rdsChar`. -/
def rdsUtf8 (c : Nat) : Bytes := if 0x20 ≤ c ∧ c < 0x7E then [c] else Config.rdsChar c

/-- The RadioText received so far (R158): up to the last position received before its end, spaces where not received. -/
def RdsFields.rtBytes (f : RdsFields) : Bytes :=
  let last := (List.range f.rtEnd).foldl (fun t i => if (charAt f.rt i).isSome then i + 1 else t) 0
  (List.range last).flatMap fun i => rdsUtf8 ((charAt f.rt i).getD 0x20)

/-- The field mask of R173 from what two records differ in: bit 0 PS, 1 PTY, 2 TP, 3 TA, 4 ECC. -/
def fieldMask (a b : RdsFields) : Nat :=
  boolNat (a.psBytes != b.psBytes) + 2 * boolNat (a.pty != b.pty) + 4 * boolNat (a.tp != b.tp)
    + 8 * boolNat (a.ta != b.ta) + 16 * boolNat (a.ecc != b.ecc)

/-- The type and version of a group, as 2t + v (R157). -/
def groupType (b2 : Nat) : Nat := b2 / 2048 % 32

/-- The two characters of a block. -/
def blockChars (b : Nat) : List Nat := [b / 256 % 256, b % 256]

/-- A field of the record set when its value is taken. -/
def RdsFields.set (f : RdsFields) (field cls v : Nat) (g : RdsFields → RdsFields) : RdsFields :=
  let p := f.take field cls [v]
  if p.2 then g p.1 else p.1

/-- The A/B flag of a RadioText group (R158): a change clears the text, and what of it has been seen once. -/
def RdsFields.flag (f : RdsFields) (cls ab : Nat) : RdsFields :=
  f.set 43 cls ab fun f =>
    if f.ab = ab then f
    else { f with ab := ab, rt := [], once := f.once.filter fun p => !(16 ≤ p.1 && p.1 < 32) }

/-- The fields of one group (R158): PS from group 0, RadioText from group 2, PTY and TP from block 2 of every group, TA from
groups 0 and 15B, ECC from group 1A. `cls` gives the class of each block. -/
def RdsFields.group (f : RdsFields) (b2 b3 b4 : Nat) (cls : Nat → Nat) : RdsFields :=
  let t := groupType b2
  let f := f.set 40 (cls 1) (b2 / 32 % 32) fun f => { f with pty := b2 / 32 % 32 }
  let f := f.set 41 (cls 1) (b2 / 1024 % 2) fun f => { f with tp := b2 / 1024 % 2 }
  let f := if t ≤ 1 ∨ t = 31 then f.set 42 (cls 1) (b2 / 16 % 2) fun f => { f with ta := b2 / 16 % 2 } else f
  let c24 := max (cls 1) (cls 3)
  let f :=
    if t ≤ 1 then
      let p := f.take (b2 % 4) c24 (blockChars b4)
      if p.2 then { p.1 with ps := putChars p.1.ps (2 * (b2 % 4)) (blockChars b4) } else p.1
    else f
  let f := if t = 4 ∨ t = 5 then f.flag (cls 1) (b2 / 16 % 2) else f
  let same := b2 / 16 % 2 = f.ab
  let f :=
    if t = 4 ∧ same then
      let p := f.take (16 + b2 % 16) (max c24 (cls 2)) (blockChars b3 ++ blockChars b4)
      if p.2 then { p.1 with rt := putChars p.1.rt (4 * (b2 % 16)) (blockChars b3 ++ blockChars b4) } else p.1
    else if t = 5 ∧ same then
      let p := f.take (16 + b2 % 16) c24 (blockChars b4)
      if p.2 then { p.1 with rt := putChars p.1.rt (2 * (b2 % 16)) (blockChars b4) } else p.1
    else f
  if t = 2 ∧ b3 / 4096 % 8 = 0 then f.set 44 (max (cls 1) (cls 2)) (b3 % 256) fun f => { f with ecc := b3 % 256 } else f

/-- The clock time of a group 4A: MJD, hour, minute, local offset in half-hours; none in another group or when a block is
not of class 0 or 1. -/
def groupTime (b2 b3 b4 : Nat) (cls : Nat → Nat) : Option (Nat × Nat × Nat × Int) :=
  if groupType b2 = 8 ∧ cls 1 ≤ 1 ∧ cls 2 ≤ 1 ∧ cls 3 ≤ 1 then
    let half : Int := (b4 % 32 : Nat)
    some (b2 % 4 * 32768 + b3 / 2, b3 % 2 * 16 + b4 / 4096, b4 / 64 % 64, if b4 / 32 % 2 = 1 then -half else half)
  else none

/-- The AF codes that a group 0A adds to a list (R170): 1 to 204 not yet listed; the code after 250 is ignored. -/
def groupAfs (b3 : Nat) : List Nat :=
  let a := b3 / 256 % 256
  let codes := if a = 250 then [] else [a, b3 % 256]
  codes.filter fun c => 1 ≤ c && c ≤ 204

/-! ### Gloaming slots -/

/-- A slot goes back to searching (R233, R234): it keeps its delay; if it is the pending target the request is cleared, with
a Gloaming event. -/
def State.searchAgain (i : Nat) (s : State) : State :=
  if s.blending && s.nat 0x490005 != i && s.slotSource i != 0 then
    let s := (s.setNat (gk i 1) 1).setGslot i { s.gslot i with run := [], bad := 0, newLag := [], slew := none }
    if s.nat 0x490014 = i then (s.setNat 0x490014 0xFF).raise 19 1 0x4900 [] else s
  else s

/-- The slots that read an engine, or one decoder slot of it, search again (R233). -/
def State.disturb (p : Nat → Bool) (s : State) : State :=
  [0, 1, 2].foldl (fun s i => if p (s.slotSource i) then s.searchAgain i else s) s

/-- A following event for the foreground's announcements (R229); following is not off. -/
def State.followAnnouncement (hit : Bool) (s : State) : State :=
  if hit && s.nat 0x480001 != 0 then s.raise 18 1 0x4800 [] else s

end Sys2Proof.Machine
end

