-- ==== Sys2Proof/Machine/FmAudio.lean ====
section
/-!
DEFINITION. Machine/FmAudio.lean: what an FM engine computes of its samples (R144 to R155, spec/08_fm_rds.md): the two inputs
combined, the composite signal, the pilot, the audio frames, and the metrics of 1 ms. A sample i stands at tick 512 i; a frame f at tick
3,200 f. The words between the samples and the frames are exact (notes/assumptions/129.md).
-/
namespace Sys2Proof.Machine

/-! ### Cores -/

/-- Whether two windows' cores overlap (R154): their L lie less than 18,304 ticks apart. -/
def coresMeet (a b : Nat) : Bool := decide (a < b + 18304) && decide (b < a + 18304)

/-- Whether the sample at a tick lies in the core of a window at L (R154): its instant lies in [L − 8,192, L + 10,112). -/
def coreHolds (l t : Nat) : Bool := decide (l ≤ t + 8192) && decide (t < l + 10112)

/-- The first sample of a core on a grid of so many ticks. -/
def coreFirst (step l : Nat) : Nat := (l - 8192 + step - 1) / step

/-- Whether a core of one input meets a core of the other (R153). -/
def RxMarks.meets (d : RxMarks) (c : Nat × Nat) : Bool := d.cores.any fun k => k.1 != c.1 && coresMeet k.2 c.2

/-- Whether the sample at a tick lies in a core that no other input bridges (R153, R154): with two inputs, in the union of cores that
meet. -/
def RxMarks.hides (d : RxMarks) (two : Bool) (t : Nat) : Bool :=
  d.cores.any fun c => coreHolds c.2 t && (if two then d.meets c else c.1 == 0)

/-- The input that is used alone at a tick, because the other one's core is bridged there (R153). -/
def RxMarks.only (d : RxMarks) (t : Nat) : Option Nat :=
  (d.cores.find? fun c => coreHolds c.2 t && !d.meets c).map fun c => 1 - c.1

/-- Whether the sample at a tick lies in any core. -/
def RxMarks.cored (d : RxMarks) (t : Nat) : Bool := d.cores.any fun c => coreHolds c.2 t

/-- Whether sample i lies in a clock-fault span (R155). -/
def RxMarks.faulted (d : RxMarks) (i : Nat) : Bool :=
  d.faults.any fun f => decide (f.1 ≤ i) && match f.2 with
    | some e => decide (i < e)
    | none => true

/-- Whether a cold start is due from sample `next` up to sample i. -/
def RxMarks.coldDue (d : RxMarks) (next i : Nat) : Bool := d.colds.any fun c => decide (next ≤ c) && decide (c ≤ i)

/-- A marker before a demodulator (R154, R155, R205): a start and a retune of input A lead to a cold start, after a retune's span,
between the ramps of R155 and R161; a blank's core and a clock-fault span are kept. `step` is the grid in ticks and `l` the window
of a blank start. A fault that both inputs carry is one. -/
def RxMarks.mark (d : RxMarks) (step input l : Nat) (m : Marker) : RxMarks :=
  let t := step * m.at_
  if m.kind = 4 then { d with cores := lastN 16 (d.cores ++ [(input, l)]) }
  else if m.kind = 7 then
    if d.faulted m.at_ then d
    else { d with faults := lastN 8 (d.faults ++ [(m.at_, none)]), quiets := lastN 8 (d.quiets ++ [⟨t, none, 307200, 1536000⟩]) }
  else if m.kind = 8 then
    { d with
      faults := d.faults.map fun f => if f.2.isNone then (f.1, some m.at_) else f
      quiets := d.quiets.map fun (q : FmQuiet) => if q.till.isNone then { q with till := some t } else q }
  else if input = 0 ∧ m.kind = 1 then ⟨d.colds ++ [m.at_], [], [], [⟨t, some t, 0, 1536000⟩]⟩
  else if input = 0 ∧ m.kind = 2 then
    { d with
      colds := d.colds ++ [m.at_ + m.span]
      quiets := lastN 8 (d.quiets ++ [⟨t, some (step * (m.at_ + m.span)), 768000, 1536000⟩]) }
  else d

/-- The silence that ends a stream at a hold (R155): a ramp over its last 5 ms. -/
def RxMarks.close (d : RxMarks) (t : Nat) : RxMarks := { d with quiets := d.quiets ++ [⟨t, none, 768000, 1536000⟩] }

/-! ### One sample -/

/-- A sample as a complex number. -/
def FmSample.cx (x : FmSample) : Cx := ⟨x.re, x.im⟩

/-- The conjugate. -/
def Cx.conj (a : Cx) : Cx := ⟨a.re, -a.im⟩

/-- The angle of a complex number as a fraction of half a turn, within −1 to 1. -/
def halfTurns (z : Cx) : Rat :=
  let t := quot (Config.arccos (quot z.re (Config.sqrt z.power))) Config.pi
  max (-1) (min 1 (if z.im < 0 then -t else t))

/-- The two inputs combined (R152, R153): by selection over a cross-fade of 32 samples, or by weights; one input alone across a core of
the other, with the weight that it had before. -/
def FmDemod.combine (d : FmDemod) (mode i : Nat) (a b : Cx) : Cx :=
  match d.marks.only (512 * i) with
  | some k =>
    if k = 0 then a else if mode = 2 ∧ d.wB ≠ Cx.zero then d.wB.times b else b
  | none =>
    if mode = 1 then (a.scale (1 - d.blend / 32)).plus (b.scale (d.blend / 32))
    else (d.wA.times a).plus (d.wB.times b)

/-- The pilot PLL after a sample (R146): 19 kHz and its offset, which stays within ±20 Hz; without a sample it coasts. -/
def pllStep (p : Rat × Rat) (mpx : Option Rat) : Rat × Rat :=
  let phase := p.1 + (19000 + p.2) / 300000
  let r := match mpx with
    | none => (phase, p.2)
    | some m =>
      let c := Config.pilotLoop (m * Config.cos (2 * Config.pi * phase)) p.2
      (phase + c.1, max (-20) (min 20 c.2))
  (r.1 - r.1.floor, r.2)

/-- A sample demodulated (R145, R146, R152 to R155): `b` is input B's sample where it takes part. The MPX is the phase difference of
successive samples; the difference signal is twice its product with the subcarrier, whose phase is twice the pilot's. -/
def FmDemod.step (d : FmDemod) (mode selected : Nat) (conceal : Bool) (a : FmSample) (b : Option FmSample) : FmDemod :=
  let i := a.i
  let two := b.isSome
  let x := match b with
    | some y => d.combine mode i a.cx y.cx
    | none => a.cx
  let hidden := conceal && d.marks.hides two (512 * i)
  let faulted := d.marks.faulted i
  let mpx := match d.last with
    | some p => halfTurns (x.times p.conj)
    | none => 0
  let pll := pllStep d.pll (if hidden || faulted then none else some mpx)
  let bridged := two && (d.marks.only (512 * i)).isSome
  let clipped := a.clipped || b.any (·.clipped)
  let tone : FmTone := ⟨i, mpx, 2 * mpx * Config.sin (4 * Config.pi * pll.1), Config.sqrt x.power,
    !hidden && !bridged && !faulted && !clipped, hidden⟩
  let held := d.marks.cored (512 * i)
  let dA := if held then Cx.zero else d.dA
  let dB := if held then Cx.zero else d.dB
  { d with
    next := i + 1, last := some x, pll := pll, tones := d.tones ++ [tone]
    wA := d.wA.plus dA, wB := d.wB.plus dB, dA := dA, dB := dB
    blend := if selected = 1 then min 32 (d.blend + 1) else d.blend - 1 }

/-! ### Audio -/

/-- A figure of the demodulated samples at sample i (R154): where it is concealed, on the line between the last sample before and the
first one after. -/
def bridge (g : FmTone → Rat) (ts : List FmTone) (i : Nat) : Rat :=
  let good := ts.filter fun t => !t.hidden
  match (good.filter fun t => decide (t.i ≤ i)).getLast?, good.find? fun t => decide (i ≤ t.i) with
  | some p, some q =>
    if p.i = q.i then g p else g p + (g q - g p) * ((i - p.i : Nat) : Rat) / ((q.i - p.i : Nat) : Rat)
  | some p, none => g p
  | none, some q => g q
  | none, none => 0

/-- A figure behind the 15 kHz low-pass at an audio frame (R144, R145). -/
def FmDemod.heard (d : FmDemod) (g : FmTone → Rat) (f : Nat) : Rat :=
  let t := 3200 * f
  let taps := Config.audioTaps (t % 512 / 128)
  (taps.zipIdx.map fun h => h.1 * bridge g d.tones (t / 512 + h.2 - taps.length / 2)).foldl (· + ·) 0

/-- What a silence leaves of the audio at a tick (R155, R161). -/
def FmQuiet.gain (q : FmQuiet) (t : Nat) : Rat :=
  if t < q.from_ then (if q.from_ < t + q.down then ((q.from_ - t : Nat) : Rat) / q.down else 1)
  else match q.till with
    | none => 0
    | some e => if t < e then 0 else if t < e + q.up then ((t - e : Nat) : Rat) / q.up else 1

/-- What all silences leave of the audio at a tick. -/
def RxMarks.gain (d : RxMarks) (t : Nat) : Rat := d.quiets.foldl (fun g q => min g (q.gain t)) 1

/-- A sample of 24 bits as a PCM producer writes it (R246). -/
def pcmSample (x : Rat) : Int := clampInt (-8388608) 8388479 (roundRat x)

/-- A 24-bit sample as a PCM queue holds it (R245, R246). -/
def pcmWord (x : Rat) : Bytes := leInt 3 (pcmSample (8388608 * x))

/-- One audio frame (R145, R149): the matrix with the stereo factor in percent, de-emphasis, high cut, soft mute, and the silences. -/
def FmDemod.audioFrame (d : FmDemod) (deemphasis : Nat) (factor corner mute : Rat) (f : Nat) : FmDemod × Bytes :=
  let m := d.heard FmTone.mpx f
  let s := factor / 100 * d.heard FmTone.diff f
  let c1 := Config.onePole (if deemphasis = 0 then 50 / 1000000 else 75 / 1000000)
  let c2 := Config.onePole (quot 1 (2 * Config.pi * corner))
  let y := fun (k : Nat) => nthD d.audio k 0
  let de := fun (x : Rat) (k : Nat) => if deemphasis = 2 then x else lowPass c1 x (y k)
  let l := de (m + s) 0
  let r := de (m - s) 1
  let l2 := lowPass c2 l (y 2)
  let r2 := lowPass c2 r (y 3)
  let g := d.marks.gain (3200 * f) * Config.dbGain (-mute)
  ({ d with audio := [l, r, l2, r2] }, pcmWord (g * l2) ++ pcmWord (g * r2))

/-- Whether a frame holds a concealed sample (R154, R155, R245). -/
def FmDemod.concealedFrame (d : FmDemod) (f : Nat) : Bool :=
  (List.range 7).any fun k =>
    let i := (3200 * f + 511) / 512 + k
    decide (512 * i < 3200 * (f + 1)) && (d.marks.faulted i || d.tones.any fun t => t.i == i && t.hidden)

/-- A PCM slot of 64 consecutive frames (R144, R245). -/
def FmDemod.slot (d : FmDemod) (deemphasis : Nat) (factor corner mute : Rat) : FmDemod × PcmSlot :=
  let r := (List.range 64).foldl (fun (t : FmDemod × Bytes) k =>
    let x := t.1.audioFrame deemphasis factor corner mute (d.frame + k)
    (x.1, t.2 ++ x.2)) (d, [])
  let mask := (List.range 64).foldl (fun t k => if d.concealedFrame (d.frame + k) then setBit t k else t) 0
  ({ r.1 with frame := d.frame + 64 }, ⟨3200 * d.frame, r.2, mask, false⟩)

/-! ### Metrics (R147) -/

/-- The mean of a list; of none, what the device gives. -/
def meanOf (xs : List Rat) : Rat := quot (xs.foldl (· + ·) 0) xs.length

/-- The demodulated samples of the 1 ms before a sample that count. -/
def FmDemod.counted (d : FmDemod) (stop : Nat) : List FmTone :=
  d.tones.filter fun t => t.counts && decide (stop ≤ t.i + 300) && decide (t.i < stop)

/-- The mean of complex numbers. -/
def meanCx (xs : List Cx) : Cx := let s := sumCx xs; ⟨quot s.re xs.length, quot s.im xs.length⟩

/-- The power of one sine component of a 1 ms stretch, at so many kHz. -/
def tonePower (ts : List FmTone) (kHz : Nat) : Rat :=
  2 * (meanCx (ts.map fun t => (phasor (-((kHz * t.i : Nat) : Rat) / 300)).scale t.mpx)).power

/-- The USN of 1 ms in 0.1 dB: the power in 80 to 120 kHz against that of a sine of 75 kHz. -/
def usnOf (ts : List FmTone) : Int :=
  let p := ((List.range 41).map fun k => tonePower ts (80 + k)).foldl (· + ·) 0 * 8
  logRound 100 p.num.natAbs p.den

/-- The multipath of a list of magnitudes in percent, capped at 100 (R147). -/
def multipathOf (mags : List Rat) : Rat :=
  let m := meanOf mags
  max 0 (min 100 (quot (100 * Config.sqrt (meanOf (mags.map fun x => (x - m) ^ 2))) m))

/-- The level of an input in 0.1 dBm: the mean power of its samples, its chain's gain in dB and its path's constant in 0.01 dB. -/
def levelOf (xs : List FmSample) (gain constant : Int) : Int :=
  let p := meanOf (xs.map fun x => x.cx.power)
  roundRat ((logRound 1000 p.num.natAbs (p.den * 8192 ^ 2) - 100 * gain + constant : Int) / 10)

/-- The samples of an input that belong to demodulated samples which count. -/
def samplesOf (xs : List FmSample) (ts : List FmTone) : List FmSample := xs.filter fun x => ts.any fun t => t.i == x.i

/-! ### Diversity (R152) -/

/-- The samples of an input in a stretch before a sample. -/
def stretch (xs : List FmSample) (stop len : Nat) : List FmSample :=
  xs.filter fun x => decide (stop ≤ x.i + len) && decide (x.i < stop)

/-- The weight of an input, its amplitude divided by its noise power. -/
def inputWeight (xs : List FmSample) : Rat :=
  quot (meanOf (xs.map fun x => Config.sqrt x.cx.power)) (Config.noisePower (xs.map fun x => ((x.re : Rat), (x.im : Rat))))

/-- The weights of the 64 samples before a sample: input B is turned to A's phase by their correlation. -/
def estimateOf (a b : List FmSample) : Cx × Cx :=
  let c := sumCx ((a.zip b).map fun p => p.2.cx.times p.1.cx.conj)
  let size := Config.sqrt c.power
  (⟨inputWeight a, 0⟩, (⟨quot c.re size, -quot c.im size⟩ : Cx).scale (inputWeight b))

/-- The weights that are reached 64 samples on; they are held where a sample is missing or lies in a core (R153). -/
def FmDemod.estimate (d : FmDemod) : FmDemod :=
  let a := stretch d.a d.estAt 64
  let b := stretch d.b d.estAt 64
  let clean := a.length == 64 && b.length == 64 && a.all fun x => !d.marks.cored (512 * x.i)
  let w := estimateOf a b
  { d with
    estAt := d.estAt + 64
    dA := if clean then (w.1.minus d.wA).scale (1 / 64) else Cx.zero
    dB := if clean then (w.2.minus d.wB).scale (1 / 64) else Cx.zero }

/-- The multipath of an input over the 1 ms before the selection that is due. -/
def FmDemod.inputMultipath (d : FmDemod) (xs : List FmSample) : Rat :=
  multipathOf ((stretch xs d.selAt 300).map fun x => Config.sqrt x.cx.power)

/-! ### RDS bits (R154, R156) -/

/-- How many of the 26 bits of a group's block overlap one of some cores, given in ticks: at 1,187.5 bit/s from the instant of the
group's first bit. -/
def erasedBits (instant block : Nat) (cores : List (Nat × Nat)) : Nat :=
  ((List.range 26).filter fun k =>
    let bit := 26 * block + k
    cores.any fun c => decide (2375 * c.1 < 2375 * instant + 307200000 * (bit + 1))
      && decide (2375 * instant + 307200000 * bit < 2375 * c.2)).length

/-- The class of a block with its erasures (R156): more than the longest burst that is corrected is uncorrectable (DEDUCED,
notes/assumptions/132.md). -/
def erasedClass (cls erased : Nat) : Nat := if 5 < erased then 3 else cls

/-- The check bits of 16 information bits by the generator of IEC 62106, x^10 + x^8 + x^7 + x^5 + x^4 + x^3 + 1 (PRESUMED,
notes/assumptions/132.md). -/
def rdsCheck (info : Nat) : Nat :=
  (List.range 16).reverse.foldl (fun r k => if bitOf r (k + 10) then r ^^^ (0x5B9 * 2 ^ k) else r) (info % 65536 * 1024)

/-- The place in a group of the offset word that a 26-bit block matches without error (R156): A, B, C or C′, D. -/
def offsetOf (word : Nat) : Option Nat :=
  match (word % 1024) ^^^ rdsCheck (word / 1024) with
  | 0x0FC => some 0
  | 0x198 => some 1
  | 0x168 | 0x350 => some 2
  | 0x1B4 => some 3
  | _ => none

/-- Whether two blocks 26 bits apart match offset words in order (R156). -/
def inStep (first second : Nat) : Bool :=
  match offsetOf first, offsetOf second with
  | some a, some b => b == (a + 1) % 4
  | _, _ => false

/-- Whether sync is lost (R156): 12 of the last 16 blocks are of class 3. -/
def outOfStep (classes : List Nat) : Bool := decide (12 ≤ (classes.filter (· == 3)).length)

end Sys2Proof.Machine
end

