-- ==== Sys2Proof/Machine/Lantern.lean ====
section
/-!
DEFINITION. Machine/Lantern.lean: Lantern and the station database (spec/09_lantern_harvester.md).
-/
namespace Sys2Proof.Machine

/-! ### The database -/

/-- The 96 bytes of an entry (R171). -/
def Entry.encode (e : Entry) : Bytes :=
  let f := e.fields
  let verified := e.state == 2
  let flags := boolNat (f.tp == 1) + 2 * boolNat (f.ta == 1) + 4 * boolNat f.psComplete + 8 * boolNat e.fg.isSome
    + 16 * boolNat (verified && e.best.isNone) + 32 * boolNat e.rbds
  if e.state = 0 then List.replicate 96 0
  else leNat 2 e.pi ++ [e.state, flags] ++ f.psBytes ++ [f.pty, f.ecc] ++ leNat 2 (e.bestKHz / 10)
    ++ leInt 2 e.bestLevel ++ [e.bestBler, e.bestMultipath, e.afs.length, min 255 e.carrying] ++ padTo 25 e.afs
    ++ [min 255 e.confirmations] ++ leNat 8 e.ctInstant ++ leNat 4 e.mjd ++ [e.hour, e.minute] ++ leInt 1 e.offset ++ [0]
    ++ leNat 8 e.lastHeard ++ leNat 8 e.firstHeard ++ padTo 8 e.history ++ leNat 2 e.seq ++ List.replicate 6 0

/-- The record without its history and sequence: what the entry sequence follows (R171). -/
def Entry.body (e : Entry) : Bytes := Entry.encode { e with history := [], seq := 0 }

/-- The position of the entry of a PI. -/
def State.entryOf (s : State) (pi : Nat) : Option Nat :=
  (s.lantern.entries.find? fun p => p.2.state != 0 && p.2.pi == pi).map (·.1)

/-- A setting of Lantern in force (R165): the present period's while it runs. -/
def State.lanternMask (s : State) : Nat := if s.ustate 0x700 = 2 then s.lantern.mask else s.nat 0x430009

/-- A Lantern event (R173), if its kind is enabled: PI, entry sequence, field mask. -/
def State.lanternEvent (kind pi seq mask : Nat) (s : State) : State :=
  if bitOf s.lanternMask (kind - 1) then s.raise 15 kind 0x700 [(2, pi), (2, seq), (1, mask)] else s

/-- The counts 0x4300:13 and :14 (R169). -/
def State.refreshLantern (s : State) : State :=
  let used := s.lantern.entries.filter fun p => p.2.state != 0
  (s.setNat 0x430013 used.length).setNat 0x430014 (used.filter fun p => p.2.state == 2).length

/-- An entry replaced (R171): its sequence rises when the record has changed. -/
def State.writeEntry (i : Nat) (e : Entry) (s : State) : State :=
  let old := s.dbEntry i
  let e := { e with rbds := (if s.ustate 0x700 = 2 then s.lantern.region else s.nat 0x430007) == 1 }
  (s.setDbEntry i (if e.body = old.body then e else { e with seq := (old.seq + 1) % 65536 })).refreshLantern

/-- A kind-3 event for an entry (R173): at most one in 100 ms; otherwise its mask is merged and held. -/
def State.fieldsChanged (i mask : Nat) (s : State) : State :=
  if mask = 0 then s
  else
    let e := s.dbEntry i
    let free := match e.lastChange with
      | some t => decide (t + 15360000 ≤ s.gnomon)
      | none => true
    if free then
      (s.setDbEntry i { e with lastChange := some s.gnomon, held := 0 }).lanternEvent 3 e.pi e.seq (e.held ||| mask)
    else s.setDbEntry i { e with held := e.held ||| mask }

/-- An entry replaced, with the events of what changed (R173): TA at once, best slot, fields. -/
def State.changeEntry (i extra : Nat) (e : Entry) (s : State) : State :=
  let old := s.dbEntry i
  let m := fieldMask old.fields e.fields + (if old.afs = e.afs then 0 else 32) + extra
  let s := s.writeEntry i e
  let seq := (s.dbEntry i).seq
  let s := if old.fields.ta = e.fields.ta then s else s.lanternEvent 4 e.pi seq 8
  let s := s.followAnnouncement (old.fields.ta == 0 && e.fields.ta == 1 && s.nat 0x480003 == 0 && s.nat 0x480002 == e.pi)
  let s := if bitOf extra 7 then s.lanternEvent 6 e.pi seq 128 else s
  s.fieldsChanged i m

/-- An entry freed (R169). -/
def State.freeDbEntry (i : Nat) (s : State) : State :=
  let e := s.dbEntry i
  (s.setDbEntry i Entry.init).refreshLantern.lanternEvent 5 e.pi e.seq 0

/-- The verified PIs of the FM engines (R158). -/
def State.enginePis (s : State) : List Nat :=
  (List.range 12).filterMap fun e =>
    if s.nat (obj (0x4240 + e) 2) = 2 then some (s.nat (obj (0x4240 + e) 1)) else none

/-- The position of the entry among some that was heard least recently. -/
def oldestOf (es : List (Nat × Entry)) : Option Nat :=
  match es with
  | [] => none
  | p :: ps => some (ps.foldl (fun (b : Nat × Entry) q => if q.2.lastHeard < b.2.lastHeard then q else b) p).1

/-- Where a new entry goes (R169): the lowest free position, else the one to free. -/
def State.newPosition (s : State) : Option Nat × Option Nat :=
  match (List.range 256).find? fun i => (s.dbEntry i).state == 0 with
  | some i => (some i, none)
  | none =>
    let free := s.lantern.entries.filter fun p => !(s.enginePis.contains p.2.pi)
    match oldestOf (free.filter fun p => p.2.state == 1) with
    | some i => (some i, some i)
    | none =>
      let o := oldestOf (free.filter fun p => p.2.state == 2 && decide (p.2.lastHeard + 9216000000 < s.gnomon))
      (o, o)

/-- A confirmation of a PI from a source (a slot, or 0x10000 plus an engine) in the group at `instant` (R169). A second
one from the same group of the same source does not count. -/
def State.confirmPi (src pi instant : Nat) (s : State) : State :=
  match s.entryOf pi with
  | some i =>
    let e := s.dbEntry i
    if Map.get (fun _ => none) e.sources src = some instant then s
    else
      let first : Bool := e.state == 1
      let s := s.writeEntry i { e with
        state := 2, confirmations := min 255 (e.confirmations + 1), lastHeard := instant
        sources := Map.put (fun _ => none) e.sources src (some instant) }
      if first then s.lanternEvent 2 pi (s.dbEntry i).seq 0 else s
  | none =>
    match s.newPosition with
    | (none, _) => s.bump 0x430015
    | (some i, evict) =>
      let s := match evict with
        | some j => s.freeDbEntry j
        | none => s
      let s := s.writeEntry i { Entry.init with
        pi := pi, state := 1, confirmations := 1, lastHeard := instant, firstHeard := instant
        sources := [(src, some instant)] }
      s.lanternEvent 1 pi (s.dbEntry i).seq 0

/-- The whole database freed (R172), with the event of kind 7. -/
def State.clearDatabase (s : State) : State :=
  ({ s with lantern := { s.lantern with entries := [] } }).refreshLantern.lanternEvent 7 0 0 0

/-! ### Slots -/

/-- The frequency of a slot in kHz (R164). -/
def State.slotKHz (s : State) (i : Nat) : Nat := s.cnat 0x430004 + i * s.cnat 0x430006

/-- The slots of the committed window (R164). -/
def State.slotCount (s : State) : Nat := s.nat 0x430010

/-- The checks of R164 on the staged configuration. -/
def State.validateLantern (s : State) : Nat :=
  let k0 := s.nat 0x430002
  let n := s.nat 0x430003
  let lo := s.nat 0x430004
  let hi := s.nat 0x430005
  let r := s.nat 0x430006
  firstCode [
    refuseIf (r == 0 || hi < lo || lo % r != 0 || hi % r != 0) 0x0E01,
    refuseIf (decide (38400 < hi - lo)) 0x0E02,
    refuseIf (decide (63 < k0 + n - 1) || decide (lo + 11200 < k0 * 19200 + 100)
      || decide ((k0 + n - 1) * 19200 + 11200 < hi + 100)) 0x0E02,
    refuseIf (s.mode == .listen && s.nat 0x430001 == 1) 0x0809]

/-- Lantern's configuration committed (R23, R164). -/
def State.commitLantern (s : State) : State :=
  let s := s.commitKeys [0x430001, 0x430002, 0x430003, 0x430004, 0x430005, 0x430006]
  s.setNat 0x430010 ((s.cnat 0x430005 - s.cnat 0x430004) / s.cnat 0x430006 + 1)

/-- The buffers Lantern's configure places (R243): its ring. -/
def lanternBuffers : List ((Nat × Nat) × Nat × Nat × Nat) := [(generalPool, 98304, 0x700, 9)]

/-- The slot of the committed window at a frequency in kHz (R164). -/
def State.windowSlot (s : State) (kHz : Nat) : Option Nat :=
  let r := s.cnat 0x430006
  let lo := s.cnat 0x430004
  if lo ≤ kHz ∧ (kHz - lo) % r = 0 ∧ (kHz - lo) / r < s.slotCount then some ((kHz - lo) / r) else none

/-- A start or resume of Lantern at T (R172, R175): slots cleared, settings taken, a best slot outside the window none;
one inside it stays until it is judged at the first period's end. -/
def State.startLantern (t : Nat) (s : State) : State :=
  let s := { s with lantern := { s.lantern with
    slots := [], lastPeriod := (t + 7679999) / 7680000
    region := s.nat 0x430007, threshold := s.num 0x430008, mask := s.nat 0x430009 } }
  let s := (s.setNat 0x430011 0).setNat 0x430012 0
  s.lantern.entries.foldl (fun s p =>
    match p.2.best with
    | none => s
    | some _ =>
      match s.windowSlot p.2.bestKHz with
      | some j => s.setDbEntry p.1 { p.2 with best := some j }
      | none => s.changeEntry p.1 128 { p.2 with best := none, bestKHz := 0, carrying := 0 }) s

/-- Lantern released (R172): the database is lost, the ring freed. -/
def State.releaseLantern (s : State) : State :=
  let s := (s.clearDatabase.freeOwner 0x700).clearFifo (obj 0x2540 0)
  let s := { s with lantern := { Lantern.init with snapSeq := s.lantern.snapSeq, groupSeq := s.lantern.groupSeq } }
  (((s.setNat 0x430010 0).setNat 0x430011 0).setNat 0x430012 0).setBytes 0x432001 []

/-- The level of a slot at an offset in kHz; −140.0 dBm outside the window (R166). -/
def State.levelAt (s : State) (i : Nat) (offset : Int) : Int :=
  let f : Int := (i * s.cnat 0x430006 : Nat) + offset
  if f < 0 ∨ (s.slotCount * s.cnat 0x430006 : Nat) ≤ f then -1400 else (s.slot (f.toNat / s.cnat 0x430006)).level

/-- The adjacent figure of a slot (R166). -/
def State.adjacentFigure (s : State) (i : Nat) : Int :=
  let l := (s.slot i).level
  max (max (s.levelAt i 100) (s.levelAt i (-100)) - l) (max (s.levelAt i 200) (s.levelAt i (-200)) - l - 200)

/-- The sub-band from which a slot's channel is taken (R164): of those configured, the one with the larger margin to its flat-region
edge. -/
def State.slotBand (s : State) (kHz : Nat) : Nat :=
  let off := fun (k : Nat) => (((kHz : Int) - 19200 * k).natAbs)
  let k0 := s.cnat 0x430002
  (List.range (s.cnat 0x430003)).foldl (fun b i => if off (k0 + i) < off b then k0 + i else b) k0

/-- The samples of a slot behind its filter at 300 kS/s (R165), from the ADC codes of Lantern's path: sample n at tick 512 n, the slot's
frequency at 0 Hz. -/
def State.slotSamples (s : State) (x : AdcSpan) (i : Nat) : Int → Cx :=
  let p := s.cnat 0x430001
  let kHz := s.slotKHz i
  let k := s.slotBand kHz
  let off : Int := kHz - 19200 * k
  let taps := Config.slotTaps.map fun t => (⟨t, 0⟩ : Cx)
  let band := prism k ((s.path p).sample p k x)
  fun n => convolve taps (taps.length / 2 : Nat) (fun m => (phasor (-((off * m : Int) : Rat) / 38400)).times (band m)) (128 * n)

/-- The spans of a path that Lantern leaves out, in ticks (R167): blank cores, and clock faults widened in the same way. -/
def State.lanternCores (s : State) : List (Nat × Nat) :=
  let r := s.path (s.cnat 0x430001)
  (r.windows.map fun l => (l - 8192, l + 10112)) ++ r.concealed.map fun c => (c.1 - 8192, c.2.getD s.gnomon + 8192)

/-- The samples of a stretch that count (R166, R167). -/
def State.slotCounted (s : State) (first count : Nat) : List Nat :=
  let cores := s.lanternCores
  ((List.range count).map (first + ·)).filter fun n => !(cores.any fun c => decide (c.1 ≤ 512 * n) && decide (512 * n < c.2))

/-- The level of a slot over a period in 0.1 dBm (R166). -/
def State.slotLevel (s : State) (x : Int → Cx) (ns : List Nat) : Int :=
  let p := meanOf (ns.map fun n => (x n).power)
  roundRat ((logRound 1000 p.num.natAbs (p.den * 2 ^ 34) + s.num (obj (0x3000 + s.cnat 0x430001) 0x0F) : Int) / 10)

/-- The multipath of a slot (R166): the mean of the 1 ms values of a period, in percent. -/
def slotMultipath (x : Int → Cx) (first : Nat) (ns : List Nat) : Nat :=
  let each := (List.range 50).filterMap fun m =>
    let mags := (ns.filter fun n => n / 300 == first / 300 + m).map fun n => Config.sqrt (x n).power
    if mags.isEmpty then none else some (multipathOf mags)
  (roundRat (meanOf each)).toNat

/-- The carrier error of a slot in Hz (R166): the mean of its discriminator. -/
def slotOffset (x : Int → Cx) (ns : List Nat) : Int :=
  roundRat (150000 * meanOf (ns.map fun n => halfTurns ((x n).times (x (n - 1)).conj)))

/-- The figures of the period before a boundary written into the slots (R166): the level of every slot, the rest for active ones; where no
sample counts, the last ones stand (DESIGN CHOICE, notes/assumptions/133.md). -/
def State.writeFigures (s : State) (x : AdcSpan) (boundary : Nat) : State :=
  let first := 15000 * (boundary - 1)
  let ns := s.slotCounted first 15000
  let all := List.range s.slotCount
  let s := if ns.isEmpty then s else all.foldl (fun s i =>
    let y := s.slot i
    let xs := s.slotSamples x i
    let y := { y with level := s.slotLevel xs ns }
    s.setSlot i (if y.active then { y with multipath := slotMultipath xs first ns, offset := slotOffset xs ns } else y)) s
  all.foldl (fun s i =>
    let y := s.slot i
    s.setSlot i { y with
      adjacent := s.adjacentFigure i, bler := if y.sync then (y.classes.filter (· == 3)).length else 100 }) s

/-- The active slots, ascending. -/
def State.activeSlots (s : State) : List Nat := (s.lantern.slots.filter fun p => p.2.active).map (·.1)

/-- One record of the slot table (R174). -/
def State.slotRecord (s : State) (i : Nat) : Bytes :=
  let x := s.slot i
  leNat 2 (s.slotKHz i / 10) ++ leNat 2 i ++ leInt 2 x.level ++ leInt 2 x.adjacent ++ [x.multipath, x.bler]
    ++ leInt 2 x.offset ++ leNat 2 (if x.piState = 0 then 0 else x.pi) ++ [boolNat x.sync + 2 * x.piState, 0]
    ++ leNat 4 x.groups

/-- The slot table published (R174). -/
def State.publishSlots (boundary : Nat) (s : State) : State :=
  let act := s.activeSlots
  let n := (s.lantern.snapSeq + 1) % 65536
  let s := { s with lantern := { s.lantern with snapSeq := n } }
  s.setBytes 0x432001 (leNat 8 boundary ++ leNat 2 act.length ++ leNat 2 s.slotCount ++ leNat 2 n ++ [0, 0]
    ++ act.flatMap s.slotRecord)

/-- A slot made inactive (R165): it loses its RDS sync and PI state. -/
def State.deactivate (i : Nat) (s : State) : State :=
  s.setSlot i { Slot.init with level := (s.slot i).level, adjacent := (s.slot i).adjacent }

/-- A slot made active (R165). -/
def State.activate (i : Nat) (s : State) : State :=
  s.setSlot i { Slot.init with active := true, level := (s.slot i).level, adjacent := (s.slot i).adjacent }

/-- Slots by falling level, equal levels by rising frequency. -/
def State.byLevel (s : State) (is : List Nat) : List Nat :=
  is.foldl (fun acc i =>
    let l := (s.slot i).level
    acc.takeWhile (fun j => l ≤ (s.slot j).level) ++ [i] ++ acc.dropWhile (fun j => l ≤ (s.slot j).level)) []

/-- The lowest level among the active slots, with its slot. -/
def State.weakest (s : State) : Option Nat := (s.byLevel s.activeSlots).getLast?

/-- The activation rules of R165, in their order. -/
def State.activationRules (s : State) : State :=
  let thr := s.lantern.threshold
  let all := List.range s.slotCount
  let low : Int := match s.weakest with
    | some w => (s.slot w).level
    | none => 0
  let full := s.activeSlots.length == 400
  let s := all.foldl (fun s i =>
    let x := s.slot i
    s.setSlot i { x with
      lowRun := if x.active && decide (x.level < thr - 30) then min 20 (x.lowRun + 1) else 0
      highRun := if full && !x.active && decide (low + 60 ≤ x.level) then min 20 (x.highRun + 1) else 0 }) s
  let s := all.foldl (fun s i => if (s.slot i).active ∧ 20 ≤ (s.slot i).lowRun then s.deactivate i else s) s
  let s := (s.byLevel (all.filter fun i => !(s.slot i).active && decide (thr ≤ (s.slot i).level))).foldl
    (fun s i => if s.activeSlots.length < 400 then s.activate i else s) s
  (s.byLevel (all.filter fun i => !(s.slot i).active && decide (20 ≤ (s.slot i).highRun))).foldl (fun s i =>
    match s.weakest with
    | some w =>
      if s.activeSlots.length = 400 ∧ (s.slot w).level + 60 ≤ (s.slot i).level then (s.deactivate w).activate i else s
    | none => s) s

/-- The code of a history byte (R171). -/
def historyCode (level : Option Int) : Nat :=
  match level with
  | none => 0
  | some l => (clampInt 1 255 ((l + 5) / 10 + 140)).toNat

/-- A verified entry at a period's end (R170, R171): its best slot judged, its figures, and at a second's end its
history. -/
def State.entryPeriodEnd (secondEnd : Bool) (i : Nat) (s : State) : State :=
  let e := s.dbEntry i
  if e.state ≠ 2 then s
  else
    let own := (s.activeSlots.filter fun j => (s.slot j).piState == 2 && (s.slot j).pi == e.pi)
    let top := (s.byLevel own).head?
    let best := match e.best, top with
      | some b, some t =>
        if own.contains b && !decide ((s.slot b).level + 30 ≤ (s.slot t).level) then some b else some t
      | _, t => t
    let level : Option Int := best.map fun b => (s.slot b).level
    let second : Option Int := match e.second, level with
      | some a, some b => some (max a b)
      | none, l => l
      | a, none => a
    let e' := match best with
      | some b => { e with
          best := best, bestKHz := s.slotKHz b, bestLevel := (s.slot b).level, bestBler := (s.slot b).bler
          bestMultipath := (s.slot b).multipath, carrying := own.length }
      | none => { e with best := none, bestKHz := 0, carrying := 0 }
    let e' := if secondEnd then { e' with history := padTo 8 (historyCode second :: e.history), second := none }
      else { e' with second := second }
    s.changeEntry i (if best = e.best then 0 else 128) e'

/-- The end of a period (R165, R166, R170, R174): at a multiple of 7,680,000 ticks, from the ADC codes of the period. -/
def State.lanternPeriodEnd (x : AdcSpan) (s : State) : State :=
    let p := s.gnomon / 7680000
    if s.ustate 0x700 = 2 ∧ s.lantern.lastPeriod < p then
      let s := { s with lantern := { s.lantern with lastPeriod := p } }
      let s := (s.writeFigures x p).publishSlots (p * 7680000)
      let s : State := s.lantern.entries.foldl (fun s q => s.entryPeriodEnd (p % 20 == 0) q.1) s
      let s := s.activationRules
      let thr : Int := s.lantern.threshold
      let waiting := (List.range s.slotCount).filter fun i => !(s.slot i).active && decide (thr ≤ (s.slot i).level)
      let was := s.nat 0x430012
      let s := (s.setNat 0x430011 s.activeSlots.length).setNat 0x430012 waiting.length
      let s := if was = 0 ∧ waiting.length ≠ 0 then s.lanternEvent 8 0 0 0 else s
      { s with lantern := { s.lantern with
          region := s.nat 0x430007, threshold := s.num 0x430008, mask := s.nat 0x430009 } }
    else s

/-- LANTERN_CONFIRMATION (R167 to R169): block 1 of class 0 or 1, the erasures of the cores counted, with this PI, in the group at
`instant`, from an active slot in sync, or from an FM engine (source 0x10000 plus its number) that holds the PI. -/
def execLanternConfirmation (source pi instant cls : Nat) (s : State) : Host.Outcome State Fault Refusal :=
  .next <|
    if 2 ≤ cls then s
    else if source < 0x10000 then
      let x := s.slot source
      if 2 ≤ erasedClass cls (erasedBits instant 0 s.lanternCores) then s
      else if s.ustate 0x700 = 2 ∧ x.active ∧ x.sync ∧ x.lastGroup ≠ some instant then
        let st := if x.piState ≠ 0 ∧ x.pi = pi then 2 else 1
        (s.setSlot source { x with pi := pi, piState := st, lastGroup := some instant }).confirmPi source pi instant
      else s
    else if (s.ustate 0x700 = 2 ∨ s.ustate 0x700 = 3) ∧ s.nat (obj (0x4240 + (source - 0x10000)) 1) = pi
        ∧ s.nat (obj (0x4240 + (source - 0x10000)) 2) ≠ 0 then s.confirmPi source pi instant
    else s

/-- ENTRY_EXPIRY (R169): an entry in state 1 for 10 s is freed. -/
def execEntryExpiry (position : Nat) (s : State) : Host.Outcome State Fault Refusal :=
  .next <|
    let e := s.dbEntry position
    if e.state = 1 ∧ e.firstHeard + 1536000000 ≤ s.gnomon then s.freeDbEntry position else s

/-- AF codes added to an entry's list (R170): at most 25, further new codes are counted. -/
def State.addAfs (i : Nat) : List Nat → State → State
  | [], s => s
  | c :: cs, s =>
    let e := s.dbEntry i
    if e.afs.contains c then s.addAfs i cs
    else if e.afs.length < 25 then (s.changeEntry i 0 { e with afs := e.afs ++ [c] }).addAfs i cs
    else (s.bump 0x430016).addAfs i cs

/-- The class of a block of a slot's group (R156, R167): with the erasures of the cores, and offset E by the region in force. -/
def State.slotClass (s : State) (group : RdsGroup) (i : Nat) : Nat :=
  if group.offsetE && s.lantern.region == 0 then 3
  else erasedClass (nthD group.classes i 3) (erasedBits group.instant i s.lanternCores)

/-- LANTERN_FIELD_UPDATE (R170): a group of an active slot whose verified PI has a verified entry. AF codes from any such
slot; PS, PTY, TP, TA, ECC and CT from the best slot only, and not the first five while an engine's values stand. -/
def execLanternFieldUpdate (slot : Nat) (group : RdsGroup) (s : State) : Host.Outcome State Fault Refusal :=
  .next <|
    let x := s.slot slot
    let b := fun i => nthD group.blocks i 0
    let cls := s.slotClass group
    if s.ustate 0x700 = 2 ∧ x.active ∧ x.sync ∧ x.piState = 2 ∧ cls 1 ≤ 2 ∧ !group.offsetE then
      match s.entryOf x.pi with
      | none => s
      | some i =>
        if (s.dbEntry i).state ≠ 2 then s
        else
          let s := if groupType (b 1) = 0 ∧ cls 2 ≤ 2 then s.addAfs i (groupAfs (b 2)) else s
          let e := s.dbEntry i
          if e.best ≠ some slot then s
          else
            let f := if e.fg.isSome then e.fields else e.fields.group (b 1) (b 2) (b 3) cls
            match groupTime (b 1) (b 2) (b 3) cls with
            | none => s.changeEntry i 0 { e with fields := f }
            | some (mjd, hour, minute, half) =>
              (s.changeEntry i 64 { e with
                fields := f, ctInstant := group.instant, mjd := mjd, hour := hour, minute := minute, offset := half
                }).utcAnchor 4 group.instant (utcOfMjd mjd hour minute) (half * 30)
    else s

/-- LANTERN_EVENT_MERGE (R173): the held kind-3 event of an entry, 100 ms after its last one. -/
def execLanternEventMerge (position : Nat) (s : State) : Host.Outcome State Fault Refusal :=
  .next <|
    let e := s.dbEntry position
    match e.lastChange with
    | some t =>
      if e.state ≠ 0 ∧ e.held ≠ 0 ∧ t + 15360000 ≤ s.gnomon then
        (s.setDbEntry position { e with held := 0, lastChange := some s.gnomon }).lanternEvent 3 e.pi e.seq e.held
      else s
    | none => s

/-- LANTERN_CLEAR_DATABASE (R172). -/
def execLanternClearDatabase (by_ : Requester) (s : State) : Host.Outcome State Fault Refusal :=
  .next (s.request by_ 0x43000A [1] (accept State.clearDatabase))

/-- Every AF list emptied (R172). -/
def State.clearAfLists (s : State) : State :=
  s.lantern.entries.foldl (fun s p => if p.2.afs = [] then s else s.changeEntry p.1 0 { s.dbEntry p.1 with afs := [] }) s

/-- LANTERN_CLEAR_AF (R172). -/
def execLanternClearAf (by_ : Requester) (s : State) : Host.Outcome State Fault Refusal :=
  .next (s.request by_ 0x43000A [2] (accept State.clearAfLists))

/-- The query result 0x4310:02 as a read finds it (R171): the entry of the queried PI behind its own sequence; none when
the PI has no entry, and the read is refused with 0x0E03. -/
def State.queryResult (s : State) : Option Bytes :=
  (s.entryOf (s.nat 0x431001)).map fun i => leNat 2 (s.dbEntry i).seq ++ (s.dbEntry i).encode

/-- QUERY_PI (R171): the PI of the entry to read. -/
def execQueryPi (by_ : Requester) (pi : Nat) (s : State) : Host.Outcome State Fault Refusal :=
  .next (s.request by_ 0x431001 (leNat 2 pi) (accept (State.setNat 0x431001 (pi % 65536))))

/-- Whether the group filters of R157 and R176 let a group pass: block B of class 0 to 2, its type in the mask, and every
block of class 0 to 2 unless errored ones are delivered; an offset-E record of region 1 whatever the mask. -/
def groupPasses (region mask : Nat) (errored : Bool) (g : RdsGroup) (cls : Nat → Nat) : Bool :=
  (if g.offsetE then region == 1 else bitOf mask (groupType (nthD g.blocks 1 0)))
    && decide (cls 1 ≤ 2) && (errored || (List.range 4).all fun i => decide (cls i ≤ 2))

/-- The 18 bytes that a group record begins with (R157, R176). -/
def groupRecord (g : RdsGroup) (cls : Nat → Nat) (flags : Nat) : Bytes :=
  leNat 8 g.instant ++ ((List.range 4).flatMap fun i => leNat 2 (nthD g.blocks i 0))
    ++ [cls 0 % 4 + 4 * (cls 1 % 4) + 16 * (cls 2 % 4) + 64 * (cls 3 % 4),
        boolNat g.cPrime + 2 * boolNat g.offsetE + flags]

/-- A slot's RDS sync after a group (R156, R168): gained by two blocks in a row without error, lost when 12 of the last 16 are of
class 3. -/
def Slot.hear (x : Slot) (cls : List Nat) : Slot :=
  let since := if x.sync then x.sinceSync else []
  let gained := (List.range 3).any fun i => nthD cls i 3 == 0 && nthD cls (i + 1) 3 == 0
  let run := lastN 16 (since ++ cls)
  if x.sync || gained then
    { x with sync := !outOfStep run, sinceSync := run, classes := lastN 100 (x.classes ++ cls), groups := satAdd 32 x.groups 1 }
  else x

/-- LANTERN_RAW_GROUP (R168, R174, R176): four blocks of an active slot: they decide its sync; in sync the group is counted there, and
written to the ring when streaming and the filters allow; a full ring drops it. -/
def execLanternRawGroup (slot : Nat) (group : RdsGroup) (s : State) : Host.Outcome State Fault Refusal :=
  .next <|
    let x := s.slot slot
    if s.ustate 0x700 = 2 ∧ x.active then
      let cls := s.slotClass group
      let x := x.hear [cls 0, cls 1, cls 2, cls 3]
      let s := s.setSlot slot x
      let region := s.lantern.region
      if x.sync ∧ s.nat 0x430201 = 1 ∧ groupPasses region (s.nat 0x430202) (s.nat 0x430203 == 1) group cls
          ∧ (x.piState = 2 ∨ s.nat 0x430204 = 0) then
        let n := s.lantern.groupSeq
        let r := s.pushFifo (obj 0x2540 0) 4095 (groupRecord group cls (if x.piState = 2 then 0 else 4)
          ++ leNat 2 (s.slotKHz slot / 10) ++ leNat 2 n ++ leNat 2 slot)
        if r.2 then (r.1.bump 0x430206).countDrop 0x700 9
        else ({ r.1 with lantern := { r.1.lantern with groupSeq := (n + 1) % 65536 } }).bump 0x430205
      else s
    else s

/-- The rules of R150 and R176 that a write of a Lantern object meets beyond its table: the group mask names listed types
only. -/
def lanternRule (key : Nat) (v : Int) : Nat :=
  if key = 0x430202 then
    refuseIf ((List.range 32).any fun i => bitOf v.toNat i && !bitOf 0x30010157 i) 0x0E01
  else 0

/-- Whether a frequency in kHz is a slot of the running Lantern, and which (R147). -/
def State.slotAt (s : State) (kHz : Nat) : Option Nat :=
  if s.ustate 0x700 = 2 then s.windowSlot kHz else none

end Sys2Proof.Machine
end

