-- ==== Sys2Proof/Machine/Fm.lean ====
section
/-!
DEFINITION. Machine/Fm.lean: FM reception, foreground RDS and the TMC decoder (spec/08_fm_rds.md).
-/
namespace Sys2Proof.Machine

/-- The keys of engine e's FM objects: settings, metrics, RDS, group FIFO, decoded fields. -/
abbrev fmk (e sub : Nat) : Nat := obj (0x4100 + e) sub
abbrev fmm (e sub : Nat) : Nat := obj (0x4120 + e) sub
abbrev fmr (e sub : Nat) : Nat := obj (0x4200 + e) sub
abbrev fmq (e sub : Nat) : Nat := obj (0x4220 + e) sub
abbrev fmf (e sub : Nat) : Nat := obj (0x4240 + e) sub

/-- Whether engine e runs an image. -/
def State.runs (s : State) (e image : Nat) : Bool := s.loadedWith e image && s.ustate (0x200 + e) == 2

/-- The chains that feed engine e, ascending. -/
def State.inputs (s : State) (e : Nat) : List Nat :=
  (List.range 32).filter fun n => s.ustate (0x100 + n) != 0 && s.cnat (ck n 0x12) == 0x200 + e

/-- Input A of an FM engine (R143): the member on path A, or the single chain. -/
def State.inputA (s : State) (e : Nat) : Option Nat :=
  match s.inputs e with
  | [] => none
  | [n] => some n
  | ns => (ns.find? fun n => (s.chain n).path == 0).or ns.head?

/-- Input B of an FM engine (R143): the other member of a lock group. -/
def State.inputB (s : State) (e : Nat) : Option Nat :=
  match s.inputs e with
  | [] => none
  | [_] => none
  | ns => ns.find? fun n => some n != s.inputA e

/-- The diversity mode in effect (R152, R153): 0 with one input, or while input B is absent. -/
def State.diversity (s : State) (e : Nat) : Nat :=
  if (s.inputB e).isNone || (s.fm e).bAbsent then 0 else s.cnat (fmk e 1)

/-! ### Decoded fields -/

/-- An FM engine gives up its PI in the database (R170): Lantern's values take effect from its next field update. -/
def State.dropForeground (e : Nat) (s : State) : State :=
  s.lantern.entries.foldl (fun s p =>
    if p.2.fg = some e then s.changeEntry p.1 0 { s.dbEntry p.1 with fg := none } else s) s

/-- The objects 0x4240+n:03 to :08 brought in line with the fields decoded (R158). -/
def State.publishFields (e : Nat) (s : State) : State :=
  let f := (s.fm e).fields
  let ps := if f.ps = [] then [] else (List.range 8).flatMap fun i => rdsUtf8 ((charAt f.ps i).getD 0x20)
  let s := (s.setBytes (fmf e 3) ps).setBytes (fmf e 6) f.rtBytes
  s.setAll [(fmf e 4, f.pty), (fmf e 5, (f.tp + 2 * f.ta : Nat)), (fmf e 7, (f.ab + 2 * boolNat f.rtComplete : Nat)),
    (fmf e 8, f.ecc)]

/-- Every decoded field of an engine cleared (R158, R161). -/
def State.clearFields (e : Nat) (s : State) : State :=
  let s := (s.dropForeground e).setFm e { s.fm e with fields := RdsFields.init }
  (s.setAll [(fmf e 1, 0), (fmf e 2, 0)]).publishFields e

/-- An engine's verified fields written into the database entry of its PI (R158, R170). -/
def State.writeForeground (e : Nat) (s : State) : State :=
  if s.nat (fmf e 2) = 2 then
    match s.entryOf (s.nat (fmf e 1)) with
    | some i =>
      let d := s.dbEntry i
      if d.state = 2 then
        let f := (s.fm e).fields
        s.changeEntry i 0 { d with
          fg := some e, fields := { f with rt := [], ab := 0, once := d.fields.once } }
      else s
    | none => s
  else s

/-- The demodulator behind a cold start at sample i (R161): diversity from input A alone, the pilot and the metrics from nothing; the
samples in hand and the audio already demodulated stay. -/
def FmDemod.cold (d : FmDemod) (i : Nat) : FmDemod :=
  { d with
    next := i, marks := { d.marks with colds := d.marks.colds.filter fun c => decide (i < c) }, last := none
    wA := ⟨1, 0⟩, wB := Cx.zero, dA := Cx.zero, dB := Cx.zero, blend := 0, pll := (0, 0)
    ctlAt := i + 300, estAt := roundUp 64 i + 64, selAt := i + 300, strong := 0, weak := 0, ms := [], peaks := [] }

/-- The cold start of an FM engine at the sample it demodulates next (R161). -/
def State.fmColdStart (e : Nat) (s : State) : State :=
  let f := s.fm e
  let s := s.setFm e { Fm.init with
    mute := s.nat (fmk e 6), lastB := s.gnomon, groupSeq := f.groupSeq, dem := f.dem.cold f.dem.next }
  let s := s.setAll [(fmm e 1, -1400), (fmm e 2, -1400), (fmm e 3, 0), (fmm e 4, 0), (fmm e 5, 0), (fmm e 6, 0),
    (fmm e 7, 0), (fmm e 8, 0), (fmm e 9, 15000), (fmm e 0x0A, 0), (fmm e 0x0B, -1400), (fmm e 0x0C, 0),
    (fmm e 0x0D, 0x7FFF), (fmr e 6, 0), (fmr e 7, 100)]
  let s := if s.resSeq (fmm e 0x10) = 0 then s else s.await (fmm e 0x10)
  s.clearFields e

/-! ### Blocks -/

/-- The markers of a block (R114, R115) on a grid of so many ticks: each with the number of the sample it stands on in place of its
instant. -/
def blockMarkers (step : Nat) (b : Bytes) : List Marker :=
  (List.range (nthD b 18 0)).map fun i =>
    let r := sliceB b (32 + 8 * i) 8
    ⟨nthD r 0 0, nthD r 1 0, fieldLe b 0 8 / step + fieldLe r 2 2, fieldLe r 4 2, fieldLe r 6 2⟩

/-- The samples of a block on a grid of so many ticks (R114). -/
def blockSamples (step : Nat) (b : Bytes) (ms : List Marker) : List FmSample :=
  (List.range (fieldLe b 12 2)).map fun j =>
    let o := 32 + 8 * nthD b 18 0 + 4 * j
    let i := fieldLe b 0 8 / step + j
    ⟨i, signed 2 (fieldLe b o 2), signed 2 (fieldLe b (o + 2) 2),
      ms.any fun m => m.kind == 6 && decide (m.at_ ≤ i) && decide (i < m.at_ + m.span)⟩

/-- The L of the window that a blank-start marker of a chain's block announces (R154, R167): the one whose marker stands on its
sample. -/
def State.windowOf (s : State) (n : Nat) (m : Marker) : Nat :=
  ((s.path m.path).windows.find? fun l => s.standsOn n ⟨4, m.path, l, 0, 1920⟩ == m.at_).getD (s.gridTick n m.at_)

/-- The block at the head of a chain's queue to engine e, taken out. -/
def State.takeBlock (e n : Nat) (s : State) : Option (Bytes × State) :=
  if n < 32 && s.cnat (ck n 0x12) == 0x200 + e then
    match (s.chain n).queue with
    | [] => none
    | b :: rest => some (b, s.setChain n { s.chain n with queue := rest })
  else none

/-- The input that a block belongs to (R143): the single chain is input A, the member on path B input B. -/
def State.blockInput (s : State) (e : Nat) (b : Bytes) : Nat := if (s.inputs e).length ≤ 1 then 0 else nthD b 25 0

/-- A block put before the demodulator: its samples, its markers, and a count of each clock-fault span (R155). -/
def State.fmTake (e n : Nat) (b : Bytes) (s : State) : State :=
  let ms := blockMarkers 512 b
  let input := s.blockInput e b
  let d := (s.fm e).dem
  let xs := blockSamples 512 b ms
  let d : FmDemod := if input = 0 then { d with a := d.a ++ xs } else { d with b := d.b ++ xs }
  let s := if ms.any fun m => m.kind == 7 && !d.marks.faulted m.at_ then s.bump (fmm e 0x0F) else s
  let d : FmDemod := match if input = 0 then ms.find? fun m => m.kind == 1 else none with
    | some m => { d with tones := [], frame := (512 * m.at_ + 3199) / 3200, audio := [0, 0, 0, 0] }
    | none => d
  let d : FmDemod := { d with marks := ms.foldl (fun k m => k.mark 512 input (s.windowOf n m) m) d.marks }
  s.setFm e { s.fm e with dem := d }

/-! ### Demodulation -/

/-- Whether a retune lands inside a core (R155). -/
def RxMarks.retunedIn (d : RxMarks) (l : Nat) : Bool := d.quiets.any fun q => q.down == 768000 && coreHolds l q.from_

/-- The counters of the cores that begin with the sample taken next (R153, R154): bridged ones, and unions that are concealed. -/
def State.countCores (e i : Nat) (two : Bool) (s : State) : State :=
  let next := (s.fm e).dem.next
  let d := (s.fm e).dem.marks
  d.cores.foldl (fun s c =>
    if coreFirst 512 c.2 < next ∨ i < coreFirst 512 c.2 then s
    else if two && !d.meets c then s.bump (fmm e 0x0E)
    else
      let first := if two then d.cores.all fun k => k.1 == c.1 || !coresMeet k.2 c.2 || decide (c.2 < k.2 ∨ (c.2 = k.2 ∧ c.1 < k.1))
        else c.1 == 0
      if first && s.nat (fmk e 0x0F) == 1 && !d.retunedIn c.2 then s.bump (fmm e 0x0F) else s) s

/-- The next sample demodulated, behind the cold start that is due there. -/
def State.fmStep (e : Nat) (s : State) : State :=
  let d := (s.fm e).dem
  match d.a.find? fun x => decide (d.next ≤ x.i) with
  | none => s
  | some a =>
    let s := if d.marks.coldDue d.next a.i then
        (s.setFm e { s.fm e with dem := { d with next := a.i } }).fmColdStart e
      else s
    let mode := s.diversity e
    let b := if mode = 0 then none else d.b.find? fun x => x.i == a.i
    let s := s.countCores e a.i b.isSome
    let f := s.fm e
    s.setFm e { f with dem := f.dem.step mode f.selected (s.nat (fmk e 0x0F) == 1) a b }

/-- Whether the next sample can be demodulated: the control update, estimate and selection before it are made, and, unless the
stream has ended, both inputs are in hand for the 36 samples of a core behind it. -/
def State.fmReady (s : State) (e : Nat) (ended : Bool) : Bool :=
  let d := (s.fm e).dem
  let mode := s.diversity e
  match d.a.find? fun x => decide (d.next ≤ x.i) with
  | none => false
  | some a =>
    let held := fun (xs : List FmSample) => xs.getLast?.any fun x => decide (a.i + 36 ≤ x.i)
    let cold := d.marks.coldDue d.next a.i
    let due := decide (d.ctlAt ≤ a.i) || (mode == 2 && decide (d.estAt ≤ a.i)) || (mode == 1 && decide (d.selAt ≤ a.i))
    (cold || !due) && (ended || (held d.a && (mode == 0 || held d.b)))

/-- What is no longer needed of the samples. -/
def FmDemod.trim (d : FmDemod) : FmDemod :=
  let low := min d.next (min (d.ctlAt - 300) (min (d.selAt - 300) (d.estAt - 64)))
  let heard := min (d.ctlAt - 300) (25 * d.frame / 4 - 1024)
  { d with
    a := d.a.filter fun x => decide (low ≤ x.i), b := d.b.filter fun x => decide (low ≤ x.i)
    tones := d.tones.filter fun t => decide (heard ≤ t.i) }

/-- The whole slots of audio that are ready (R144): a frame is emitted behind the look-ahead of 768,000 ticks; at the end of the
stream every frame is, and the last slot is filled up. -/
def FmDemod.slotsReady (d : FmDemod) (ended : Bool) : Nat :=
  if ended then ((512 * d.next + 3199) / 3200 - d.frame + 63) / 64 else ((512 * d.next - 768000) / 3200 - d.frame) / 64

/-- The slots of audio that are ready put into the engine's queue, with the controls in force. -/
def State.fmEmit (e : Nat) (ended : Bool) (s : State) : State :=
  (List.range ((s.fm e).dem.slotsReady ended)).foldl (fun s _ =>
    let f := s.fm e
    let r := f.dem.slot (s.nat (fmk e 2)) f.factor f.corner f.mute
    (s.setFm e { f with dem := r.1 }).pushPcm e 0 r.2) s

/-- The demodulator run as far as it can go, and the audio that this makes ready. -/
def State.fmRun (e : Nat) (ended : Bool) (s : State) : State :=
  let s := (List.range (s.fm e).dem.a.length).foldl (fun s _ => if s.fmReady e ended then s.fmStep e else s) s
  let s := s.fmEmit e ended
  s.setFm e { s.fm e with dem := (s.fm e).dem.trim }

/-- The end of an FM engine's stream, at a hold (R155): the samples in hand are played out, with a ramp to silence over the last
5 ms. -/
def State.fmFlush (e : Nat) (s : State) : State :=
  let d := (s.fm e).dem
  match d.a.getLast? with
  | none => s
  | some x => (s.setFm e { s.fm e with dem := { d with marks := d.marks.close (512 * (x.i + 1)) } }).fmRun e true

/-- FM_BLOCK_PROCESS (R144, R153 to R155, R161): the engine takes the oldest block of one of its chains and demodulates what it
can. -/
def execFmBlockProcess (engine chain : Nat) (s : State) : Host.Outcome State Fault Refusal :=
  .next <|
    match if s.runs engine 0x0101 then s.takeBlock engine chain else none with
    | none => s
    | some (b, s) =>
      let s := if s.inputB engine = some chain then
          s.setFm engine { s.fm engine with lastB := s.gnomon, bAbsent := false } else s
      (s.fmTake engine chain b).fmRun engine false

/-! ### Controls and metrics -/

/-- A control 1 ms on with a first-order time constant in ms (R149). -/
def moveControl (present target : Rat) (worse : Bool) (attack release : Nat) : Rat :=
  let p := target + (present - target) * Config.exp (-1 / ((if worse then attack else release : Nat) : Rat))
  max (min present target) (min (max present target) p)

/-- The high-cut corner for an effective level between the thresholds (R149): 2,000 × 7.5^((E − stop) / (start − stop)), rounded
down to 1 Hz. -/
def cornerOf (e stop start : Int) : Nat :=
  let d := (start - stop).toNat
  let n := (e - stop).toNat
  searchMax (fun c => decide (c ^ d * 2 ^ n ≤ 2000 ^ d * 15 ^ n)) 14

/-- The metrics of the 1 ms that ends before the control update that is due (R147); where no sample counts, the last ones stand
(DESIGN CHOICE, notes/assumptions/133.md). -/
def State.fmFigures (s : State) (e : Nat) : FmFigures :=
  let d := (s.fm e).dem
  let ts := d.counted d.ctlAt
  let level := fun (n : Option Nat) (xs : List FmSample) => match n with
    | some n => levelOf (samplesOf xs ts) (s.cnum (ck n 0x0F)) (s.num (obj (0x3000 + (s.chain n).path) 0x0F))
    | none => -1400
  let peak := ts.foldl (fun m t => max m (max t.mpx (-t.mpx))) 0
  let peaks := lastN 100 (d.peaks ++ [peak])
  let top := (roundRat (1500 * peaks.foldl max 0)).toNat
  if ts.isEmpty then { d.ms.getLast?.getD ⟨0, -1400, -1400, 0, 0, 0, 0⟩ with end_ := 512 * d.ctlAt, peak := top }
  else ⟨512 * d.ctlAt, level (s.inputA e) d.a, level (s.inputB e) d.b, usnOf ts, (roundRat (multipathOf (ts.map (·.mag)))).toNat,
    roundRat (150000 * meanOf (ts.map (·.mpx))), top⟩

/-- The effective level in 0.1 dB (R148). -/
def State.effectiveLevel (s : State) (e : Nat) (x : FmFigures) : Int :=
  let level := if s.diversity e = 0 then x.levelA else max x.levelA x.levelB
  roundRat ((8 * level - s.num (fmk e 0x0B) * max 0 (x.usn + 500) - 10 * s.num (fmk e 0x0C) * max 0 ((x.multipath : Int) - 10) : Int) / 8)

/-- FM_CONTROL_UPDATE (R146 to R149): the metrics of the last 1 ms, the pilot's runs, and the controls one step nearer to their
targets. -/
def execFmControlUpdate (engine : Nat) (s : State) : Host.Outcome State Fault Refusal :=
  .next <|
    let f := s.fm engine
    let d := f.dem
    if s.runs engine 0x0101 ∧ 300 ≤ d.ctlAt ∧ d.ctlAt ≤ d.next then
      let x := s.fmFigures engine
      let ts := d.counted d.ctlAt
      let v := fun sub => s.num (fmk engine sub)
      let e := s.effectiveLevel engine x
      let attack := s.nat (fmk engine 0x0D)
      let release := s.nat (fmk engine 0x0E)
      let factor : Rat :=
        if v 9 ≤ e then 100 else if e ≤ v 0x0A then 0 else ((e - v 0x0A) * 100 : Int) / ((v 9 - v 0x0A : Int) : Rat)
      let corner : Rat := if v 7 ≤ e then 15000 else if e ≤ v 8 then 2000 else cornerOf e (v 8) (v 7)
      let mute : Rat := if v 5 ≤ e then 0 else min ((v 6 : Int) : Rat) ((v 5 - e : Int) / 10)
      let pilot : Rat := 2 * tonePower ts 19 * 22500
      let coasting := ts.isEmpty
      s.setFm engine { f with
        factor := if f.pilot && v 3 != 0 then moveControl f.factor factor (factor < f.factor) attack release else 0
        corner := moveControl f.corner corner (corner < f.corner) attack release
        mute := moveControl f.mute mute (f.mute < mute) attack release
        effective := e
        dem := { d with
          ctlAt := d.ctlAt + 300, ms := lastN 10 (d.ms ++ [x])
          peaks := lastN 100 (d.peaks ++ [ts.foldl (fun m t => max m (max t.mpx (-t.mpx))) 0])
          strong := if coasting then d.strong else if 16 ≤ pilot then d.strong + 1 else 0
          weak := if coasting then d.weak else if 4 * pilot < 25 then d.weak + 1 else 0 } } |>.fmRun engine false
    else s

/-- The frequency a chain is tuned to, in kHz. -/
def State.tunedKHz (s : State) (n : Nat) : Nat :=
  let w := s.num (cs n 0x0A)
  (((s.nat (cs n 0x0B) * 19200 : Nat) : Int) + (w * 38400 + 2 ^ 31) / 2 ^ 32).toNat

/-- The adjacent metric of an FM engine (R147, R177): 0x7FFF without a slot of a running Lantern. -/
def State.adjacentOf (s : State) (e : Nat) : Int :=
  match s.inputA e with
  | none => 0x7FFF
  | some n => match s.slotAt (s.tunedKHz n) with
    | some i => (s.slot i).adjacent
    | none => 0x7FFF

/-- The state in the majority over the last 10 ms. -/
def majority (t : List Nat) : Nat :=
  if nthD t 0 0 < nthD t 1 0 ∧ nthD t 2 0 ≤ nthD t 1 0 then 1 else if nthD t 0 0 < nthD t 2 0 then 2 else 0

/-- The mean of a metric over the 1 ms figures of a publication. -/
def meanFigure (ms : List FmFigures) (g : FmFigures → Int) : Int := roundRat (meanOf (ms.map fun x => ((g x : Int) : Rat)))

/-- The metrics of an FM engine published (R147, R161): the means of the 10 ms that are complete, the controls, and the snapshot. -/
def State.publishFm (engine : Nat) (s : State) : State :=
  let f := s.fm engine
  let ms := f.dem.ms
  match ms.getLast? with
  | none => s
  | some x =>
    let div := if s.diversity engine = 0 then 0 else majority f.tally
    let s := s.setAll [(fmm engine 1, meanFigure ms FmFigures.levelA), (fmm engine 2, meanFigure ms FmFigures.levelB),
      (fmm engine 3, meanFigure ms FmFigures.usn), (fmm engine 4, meanFigure ms fun x => x.multipath),
      (fmm engine 5, meanFigure ms FmFigures.offset), (fmm engine 6, x.peak), (fmm engine 7, boolNat f.pilot),
      (fmm engine 8, roundRat f.factor), (fmm engine 9, roundRat f.corner), (fmm engine 0x0A, roundRat f.mute),
      (fmm engine 0x0B, f.effective), (fmm engine 0x0C, div), (fmm engine 0x0D, s.adjacentOf engine)]
    let s := s.setFm engine { f with tally := [0, 0, 0], dem := { f.dem with ms := [] } }
    s.issue (fmm engine 0x10) (leNat 8 x.end_
      ++ ([(1, 2), (2, 2), (3, 2), (4, 1), (5, 2), (6, 2), (7, 1), (8, 1), (9, 2), (0x0A, 1), (0x0B, 2), (0x0C, 1),
        (0x0D, 2)].flatMap fun p => leInt p.2 (s.num (fmm engine p.1))) ++ [0])

/-- PILOT_DETECTED (R146): the pilot has been at or above 4.0 kHz for 50 ms. -/
def execPilotDetected (engine : Nat) (s : State) : Host.Outcome State Fault Refusal :=
  .next (if s.runs engine 0x0101 ∧ (s.fm engine).pilot = false ∧ 50 ≤ (s.fm engine).dem.strong then
    (s.setFm engine { s.fm engine with pilot := true }).setNat (fmm engine 7) 1 else s)

/-- PILOT_LOST (R146): below 2.5 kHz for 50 ms; the stereo factor is forced to 0. -/
def execPilotLost (engine : Nat) (s : State) : Host.Outcome State Fault Refusal :=
  .next (if s.runs engine 0x0101 ∧ (s.fm engine).pilot = true ∧ 50 ≤ (s.fm engine).dem.weak then
    ((s.setFm engine { s.fm engine with pilot := false, factor := 0 }).setNat (fmm engine 7) 0).setNat (fmm engine 8) 0
    else s)

/-- The response a chain is moving towards: its pending request, else its fade's, else the one in force. -/
def State.responseTarget (s : State) (n : Nat) : Nat :=
  if s.nat (cs n 4) ≠ 0xFF then s.nat (cs n 4)
  else match (s.chain n).fade with
    | some f => if f.reversing then f.old else f.new
    | none => s.nat (cs n 3)

/-- The response for a value of the adjacent metric, from the present one (R151): a wider one only 3 dB below the
boundary. -/
def bandwidthChoice (a : Int) (present : Nat) : Nat :=
  let above := fun (x : Int) => ([-200, -100, 0, 100].filter fun (b : Int) => decide (b ≤ x)).length
  let wider := ([-200, -100, 0, 100].filter fun (b : Int) => decide (b < a + 30)).length
  if present < above a then above a else if wider < present then wider else present

/-- An engine's choice of response written to input A (R109, R124, R151): a fade reverse when it is the response the fade in progress
leaves, also where a request waits behind it, else a select. -/
def State.writeChoice (n v : Nat) (s : State) : State :=
  let from_ := (s.chain n).fade.map fun f => if f.reversing then f.new else f.old
  if v = s.responseTarget n then s
  else if from_ = some v then (s.reverseFade n).1 else (s.selectResponse n v).1

/-- FM_BANDWIDTH_JUDGE (R151): in bandwidth mode 1 on ROM chains, with a value of A. -/
def execFmBandwidthJudge (engine : Nat) (s : State) : Host.Outcome State Fault Refusal :=
  .next <|
    match s.inputA engine with
    | none => s
    | some n =>
      let a := s.adjacentOf engine
      if s.runs engine 0x0101 ∧ s.cnat (fmk engine 4) = 1 ∧ isRom n ∧ a ≠ 0x7FFF then
        s.writeChoice n (bandwidthChoice a (s.responseTarget n))
      else s

/-! ### Diversity -/

/-- One more sample of a diversity state for the majority. -/
def tallied (t : List Nat) (i : Nat) : List Nat := setNth t i (nthD t i 0 + 1)

/-- DIVERSITY_ESTIMATE (R152, R153, R161): in mode 2, the weights of the last 64 samples; the inputs are combined from here, with
weights that move over the next 64. -/
def execDiversityEstimate (engine : Nat) (s : State) : Host.Outcome State Fault Refusal :=
  .next <|
    let f := s.fm engine
    if s.runs engine 0x0101 ∧ s.diversity engine = 2 ∧ 64 ≤ f.dem.estAt ∧ f.dem.estAt ≤ f.dem.next then
      (s.setFm engine { f with dem := f.dem.estimate, selected := 2, tally := tallied f.tally 2 }).fmRun engine false
    else s

/-- DIVERSITY_SELECT (R152): in mode 1, the input with lower multipath over the last 1 ms when it is better by at least 3 points; the
change goes over 32 samples. -/
def execDiversitySelect (engine : Nat) (s : State) : Host.Outcome State Fault Refusal :=
  .next <|
    let f := s.fm engine
    let d := f.dem
    if s.runs engine 0x0101 ∧ s.diversity engine = 1 ∧ 300 ≤ d.selAt ∧ d.selAt ≤ d.next then
      let a := d.inputMultipath d.a
      let b := d.inputMultipath d.b
      let sel := if f.selected = 1 then (if a + 3 ≤ b then 0 else 1) else if b + 3 ≤ a then 1 else 0
      (s.setFm engine { f with
        selected := sel, tally := tallied f.tally sel, dem := { d with selAt := d.selAt + 300 } }).fmRun engine false
    else s

/-- INPUT_B_ABSENT (R153): 20 ms without a block from input B. -/
def execInputBAbsent (engine : Nat) (s : State) : Host.Outcome State Fault Refusal :=
  .next <|
    let f := s.fm engine
    if s.runs engine 0x0101 ∧ (s.inputB engine).isSome ∧ !f.bAbsent ∧ f.lastB + 3072000 ≤ s.gnomon then
      ((s.setFm engine { f with bAbsent := true, selected := 0 }).setNat (fmm engine 0x0C) 0).fmRun engine false
    else s

/-! ### RDS -/

/-- RDS_SYNC_GAINED (R156): two blocks of 26 bits, 26 bits apart, match offset words in order without error. -/
def execRdsSyncGained (engine first second : Nat) (s : State) : Host.Outcome State Fault Refusal :=
  .next (if s.runs engine 0x0101 ∧ s.nat (fmr engine 1) = 1 ∧ inStep first second = true then
    (s.setFm engine { s.fm engine with sinceSync := [] }).setNat (fmr engine 6) 1 else s)

/-- RDS_SYNC_LOST (R156): 12 of the last 16 blocks are of class 3. -/
def execRdsSyncLost (engine : Nat) (s : State) : Host.Outcome State Fault Refusal :=
  .next (if s.runs engine 0x0101 ∧ outOfStep (s.fm engine).sinceSync = true then s.setNat (fmr engine 6) 0 else s)

/-- A write of the RDS enable (R156): off, the engine does not demodulate the subcarrier and has no sync. -/
def State.writeRdsEnable (e v : Nat) (s : State) : State :=
  let s := s.setNat (fmr e 1) v
  if v = 0 then s.setNat (fmr e 6) 0 else s

/-- The spans of an engine's samples whose RDS bits are erasures, in ticks (R154, R155): concealed cores that no input bridges, and
clock faults. -/
def State.fmErased (s : State) (e : Nat) : List (Nat × Nat) :=
  let next := (s.fm e).dem.next
  let d := (s.fm e).dem.marks
  let two := s.diversity e != 0
  let cores := if s.nat (fmk e 0x0F) = 1 then
      (d.cores.filter fun c => if two then d.meets c else c.1 == 0).map fun c => (c.2 - 8192, c.2 + 10112)
    else []
  cores ++ d.faults.map fun f => (512 * f.1, 512 * (f.2.getD next))

/-- The PI of a group taken (R158): the first makes it unverified, a second matching one verifies it, a different one
restarts the count and clears every field. -/
def State.takePi (e pi instant : Nat) (s : State) : State :=
  let st := s.nat (fmf e 2)
  let s :=
    if st ≠ 0 ∧ s.nat (fmf e 1) = pi then s.setNat (fmf e 2) 2
    else ((if st = 0 then s else s.clearFields e).setNat (fmf e 1) pi).setNat (fmf e 2) 1
  if s.ustate 0x700 = 2 ∨ s.ustate 0x700 = 3 then s.confirmPi (0x10000 + e) pi instant else s

/-- RDS_GROUP (R156 to R158): a complete group. Classes beyond the correction limit count as 3; the group is filtered into
the FIFO of 64 or dropped; PI, PS, RadioText and the other fields are decoded; clock time is offered to the UTC anchor. -/
def execRdsGroup (engine : Nat) (group : RdsGroup) (s : State) : Host.Outcome State Fault Refusal :=
  .next <|
    if s.runs engine 0x0101 ∧ s.nat (fmr engine 1) = 1 ∧ s.nat (fmr engine 6) = 1 then
      let region := s.nat (fmr engine 2)
      let limit := s.nat (fmr engine 3)
      let cls := fun i =>
        let c := erasedClass (nthD group.classes i 3) (erasedBits group.instant i (s.fmErased engine))
        if (group.offsetE && region == 0) || decide (limit < c) then 3 else c
      let f := s.fm engine
      let seen := [cls 0, cls 1, cls 2, cls 3]
      let f := { f with classes := lastN 100 (f.classes ++ seen), sinceSync := lastN 16 (f.sinceSync ++ seen) }
      let s := (s.setFm engine f).setNat (fmr engine 7) (f.classes.filter (· == 3)).length
      let s :=
        if groupPasses region (s.nat (fmr engine 4)) (s.nat (fmr engine 5) == 1) group cls then
          let r := s.pushFifo (fmq engine 1) 64 (groupRecord group cls 0 ++ leNat 2 f.groupSeq)
          if r.2 then r.1.bump (fmr engine 9)
          else (r.1.setFm engine { f with groupSeq := (f.groupSeq + 1) % 65536 }).bump (fmr engine 8)
        else s.bump (fmr engine 0x0A)
      if group.offsetE then s
      else
        let b := fun i => nthD group.blocks i 0
        let s := if cls 0 ≤ 1 then s.takePi engine (b 0) group.instant else s
        let s :=
          if cls 1 ≤ 2 then
            (s.setFm engine { s.fm engine with fields := (s.fm engine).fields.group (b 1) (b 2) (b 3) cls }).publishFields
              engine
          else s
        let s := if s.nat (fmf engine 2) = 2 ∧ cls 2 ≤ 2 ∧ cls 1 ≤ 2 ∧ groupType (b 1) = 0 then
            match s.entryOf (s.nat (fmf engine 1)) with
            | some i => if (s.dbEntry i).state = 2 then s.addAfs i (groupAfs (b 2)) else s
            | none => s
          else s
        let s := s.writeForeground engine
        match groupTime (b 1) (b 2) (b 3) cls with
        | some (mjd, hour, minute, half) => s.utcAnchor 4 group.instant (utcOfMjd mjd hour minute) (half * 30)
        | none => s
    else s

/-! ### TMC -/

/-- The TMC source (R159): 1 and the lowest-numbered FM engine, 2 and Lantern's best slot, or 0. -/
def State.tmcSource (s : State) : Nat × Nat :=
  let want := s.nat 0x428001
  let lantern := match s.entryOf want with
    | some i => if s.ustate 0x700 = 2 then (s.dbEntry i).best else none
    | none => none
  let byLantern := match lantern with
    | some b => (2, b)
    | none => (0, 0)
  match (List.range 12).find? fun e => s.runs e 0x0101 with
  | some e =>
    if want = 0 ∨ (s.nat (fmf e 2) = 2 ∧ s.nat (fmf e 1) = want) then (1, e) else byLantern
  | none => byLantern

/-- 0x4280:02 as a read finds it (R159): 0 without a source, 2 while TMC was announced in the last 60 s, else 1. -/
def State.tmcState (s : State) : Nat :=
  if s.tmcSource.1 = 0 then 0
  else match s.tmc.lastApp with
    | some t => if s.gnomon < t + 9216000000 then 2 else 1
    | none => 1

/-- A complete TMC message delivered (R159, R160): ignored when an identical one was delivered within 30 s, dropped when the
FIFO of 32 is full. -/
def State.deliverTmc (pi kind : Nat) (groups : List (List Nat)) (instant : Nat) (s : State) : State :=
  let recent := s.tmc.history.filter fun h => s.gnomon < h.2.2 + 4608000000
  let s := { s with tmc := { s.tmc with history := recent } }
  if recent.any fun h => h.1 == pi && h.2.1 == groups then s.bump 0x428008
  else
    let n := s.tmc.seq
    let r := s.pushFifo 0x428006 32 (leNat 8 instant ++ leNat 2 pi ++ [kind, groups.length] ++ leNat 2 n ++ [0, 0]
      ++ groups.flatMap fun g => g.flatMap (leNat 2))
    if r.2 then r.1.bump 0x428009
    else ({ r.1 with tmc := { r.1.tmc with seq := (n + 1) % 65536, history := recent ++ [(pi, groups, s.gnomon)] } }).bump
      0x428007

/-- A group of a multi-group message (R159, ISO 14819-1): the first opens a message, the second tells how many follow. -/
def State.assembleTmc (pi ci : Nat) (g : List Nat) (instant : Nat) (s : State) : State :=
  let b3 := nthD g 1 0
  let others := s.tmc.partials.filter fun p => !(p.pi == pi && p.ci == ci)
  let mine := s.tmc.partials.find? fun p => p.pi == pi && p.ci == ci
  let open_ := fun (s : State) (ps : List TmcPartial) => { s with tmc := { s.tmc with partials := ps } }
  if mine.any fun p => p.groups.getLast? == some g then s
  else if b3 / 32768 = 1 then
    let s := if mine.isSome then s.bump 0x428009 else s
    open_ s (others ++ [⟨pi, ci, [g], s.gnomon, 0⟩])
  else match mine with
    | none => s
    | some p =>
      let gsi := b3 / 4096 % 4
      let second := b3 / 16384 % 2 == 1
      let fits := if p.groups.length = 1 then second else !second && gsi + 1 == p.left
      if fits then
        let gs := p.groups ++ [g]
        if gsi = 0 then (open_ s others).deliverTmc pi 2 gs instant
        else open_ s (others ++ [{ p with groups := gs, left := gsi }])
      else (open_ s others).bump 0x428009

/-- TMC_GROUP (R159): a 3A or TMC group of the source in use, which is in sync, with every block within the correction limit of its source. `source` is the engine, or
the slot when Lantern supplies it. -/
def execTmcGroup (fromLantern : Bool) (source : Nat) (group : RdsGroup) (s : State) : Host.Outcome State Fault Refusal :=
  .next <|
    let limit := if fromLantern then 2 else s.nat (fmr source 3)
    let heard := if fromLantern then (s.slot source).sync else s.nat (fmr source 1) == 1 && s.nat (fmr source 6) == 1
    let good := (List.range 4).all fun i => decide (nthD group.classes i 3 ≤ limit)
    if s.tmcSource = (if fromLantern then 2 else 1, source) ∧ heard ∧ good then
      let pi := if fromLantern then s.nat 0x428001 else s.nat (fmf source 1)
      let b2 := nthD group.blocks 1 0
      let b3 := nthD group.blocks 2 0
      let b4 := nthD group.blocks 3 0
      let g := [b2 % 32, b3, b4]
      if groupType b2 = 6 then
        if b4 = 0xCD46 ∨ b4 = 0xCD47 then
          let s := { s with tmc := { s.tmc with app := some (b2 % 32), lastApp := some s.gnomon } }
          let s := s.setNat 0x428004 b4
          let old := s.nat 0x428005
          let s := if b3 / 16384 = 0 then s.setNat 0x428005 (old / 64 * 64 + b3 / 64 % 64)
            else if b3 / 16384 = 1 then s.setNat 0x428005 (old % 64 + b3 / 64 % 64 * 64) else s
          s.deliverTmc pi 3 [g] group.instant
        else s
      else if s.tmc.app = some (groupType b2) then
        if b2 / 16 % 2 = 1 then s.deliverTmc pi 3 [g] group.instant
        else if b2 / 8 % 2 = 1 then s.deliverTmc pi 1 [g] group.instant
        else s.assembleTmc pi (b2 % 8) g group.instant
      else s
    else s

/-- TMC_INCOMPLETE_TIMEOUT (R159): a message left incomplete for 10 s is dropped. -/
def execTmcIncompleteTimeout (index : Nat) (s : State) : Host.Outcome State Fault Refusal :=
  .next <|
    match s.tmc.partials[index]? with
    | some p =>
      if p.began + 1536000000 ≤ s.gnomon then
        ({ s with tmc := { s.tmc with partials := s.tmc.partials.eraseIdx index } }).bump 0x428009
      else s
    | none => s

/-! ### Configuration and objects -/

/-- The check of R150 at the configure of an FM engine: bandwidth mode 1 needs ROM chains, those of its course that are configured with
it among them. A chain is checked against an engine that is configured already. -/
def State.validateFm (s : State) (e : Nat) (ins : List Nat) : Nat :=
  refuseIf (s.nat (fmk e 4) == 1 && ins.any fun n => !isRom n) 0x0D02

/-- The rule of R150 for a write of an FM object: stereo-full above mono, high-cut start above stop. -/
def fmRule (s : State) (key : Nat) (v : Int) : Nat :=
  let idx := key / 256
  if 0x4100 ≤ idx ∧ idx ≤ 0x410B then
    let g := fun sub => if key % 256 = sub then v else s.num (obj idx sub)
    refuseIf (decide (g 9 ≤ g 0x0A) || decide (g 7 ≤ g 8)) 0x0D01
  else 0

end Sys2Proof.Machine
end

