-- ==== Sys2Proof/Machine/AmAudio.lean ====
section
/-!
DEFINITION. Machine/AmAudio.lean: what an AM engine computes of its samples (R201 to R206, spec/11_am_drm.md): the carrier PLL, the
channel filter and the noise blanker, the demodulated audio, and the metrics of 1 ms. Sample i and audio frame i stand at tick 3,200 i.
-/
namespace Sys2Proof.Machine

/-- The lag of the channel filter in samples: half the look-ahead of 5 ms (R201; DESIGN CHOICE, notes/assumptions/134.md). -/
abbrev amLag : Nat := 120

/-- The carrier PLL after a sample (R202): within ±100 Hz; without a sample it coasts. The second part is the phase error in turns. -/
def carrierStep (p : Rat × Rat) (x : Option Cx) : (Rat × Rat) × Rat :=
  let phase := p.1 + p.2 / 48000
  let r := match x with
    | none => ((phase, p.2), 0)
    | some x =>
      let err := halfTurns ((phasor (-phase)).times x) / 2
      let c := Config.carrierLoop err p.2
      ((phase + c.1, max (-100) (min 100 c.2)), err)
  ((r.1.1 - r.1.1.floor, r.1.2), r.2)

/-- A filter over the derotated samples, centred on sample i; what is not in hand counts as 0. -/
def amFilter (taps : List Cx) (ys : List AmSample) (i : Nat) : Cx :=
  sumCx (taps.zipIdx.map fun t =>
    match ys.find? fun y => y.i + t.2 == i + taps.length / 2 with
    | some y => t.1.times y.y
    | none => Cx.zero)

/-- The taps of the channel filter for a bandwidth and a mode of R201. -/
def channelTaps (mode width : Nat) : List Cx := (Config.amTaps width (mode - 1)).map fun t => ⟨t.1, t.2⟩

/-- The place of a bandwidth's cross-fade at sample i (R203): 20 ms long. -/
def AmFade.part (f : AmFade) (i : Nat) : Rat := min 1 (((i - f.began : Nat) : Rat) / 960)

/-- A sample behind the channel filter (R203). -/
def amChannel (mode width : Nat) (fade : Option AmFade) (ys : List AmSample) (i : Nat) : Cx :=
  match fade with
  | none => amFilter (channelTaps mode width) ys i
  | some f =>
    let u := f.part i
    ((amFilter (channelTaps mode f.old) ys i).scale (1 - u)).plus ((amFilter (channelTaps mode f.new) ys i).scale u)

/-- Whether an envelope is an impulse (R204): above the mean of the last 8 ms by a threshold in dB. -/
def isImpulse (zs : List AmTone) (threshold : Nat) (z : Cx) : Bool :=
  decide (Config.dbGain threshold * meanOf ((lastN 384 zs).map fun t => Config.sqrt t.z.power) < Config.sqrt z.power)

/-- The power of a band about so many kHz, as the mean over 1 ms (R206). -/
def bandPower (taps : List Rat) (kHz : Int) (ys : List AmSample) (stop : Nat) : Rat :=
  let cs := taps.map fun t => (⟨t, 0⟩ : Cx)
  let turned := ys.map fun (y : AmSample) => { y with y := (phasor (-((kHz * y.i : Int) : Rat) / 48)).times y.y }
  meanOf ((List.range 48).map fun k => (amFilter cs turned (stop - 48 + k)).power)

/-- The metrics of the 1 ms that ends before a sample (R206): the chain's gain is in dB, the raster in kHz. -/
def AmDemod.figures (d : AmDemod) (gain : Int) (raster stop : Nat) : AmFigures × Rat :=
  let good := d.ys.filter (·.counts)
  let carrier := bandPower (Config.narrowTaps 50) 0 good (stop - amLag)
  let beside := fun (kHz : Int) =>
    let p := quot (bandPower (Config.narrowTaps 500) kHz good (stop - amLag)) carrier
    logRound 100 p.num.natAbs p.den
  (⟨3200 * stop, logRound 100 carrier.num.natAbs (carrier.den * 8192 ^ 2) - 10 * gain + 1200, roundRat d.pll.2, beside raster,
    beside (-raster)⟩, Config.sqrt carrier)

/-- The settings that a step of the demodulator takes: the mode, the bandwidth and its fade, the blanker's threshold, whether cores are
concealed, the chain's gain, the raster, the soft mute's start and depth. -/
structure AmSettings where
  mode : Nat
  width : Nat
  fade : Option AmFade
  threshold : Nat
  conceal : Bool
  gain : Int
  raster : Nat
  muteStart : Int
  muteDepth : Nat
  deriving DecidableEq, Repr

/-- The runs of R202 and the figures of R206 at the end of a 1 ms: also the soft mute one step nearer to its target. -/
def AmDemod.update (d : AmDemod) (c : AmSettings) : AmDemod :=
  let r := d.figures c.gain c.raster d.next
  let ys := (lastN 48 d.ys).filter (·.counts)
  let rms := meanOf (ys.map fun y => (360 * y.err) ^ 2)
  let target : Rat := ((clampInt 0 (10 * (c.muteDepth : Int)) (c.muteStart - r.1.level) : Int) : Rat) / 10
  { d with
    carrier := r.2, ms := lastN 10 (d.ms ++ [r.1]), mute := moveControl d.mute target (decide (d.mute < target)) 20 500
    near := if rms < 100 then d.near + 1 else 0, far := if 900 < rms then d.far + 1 else 0
    peaks := lastN 100 (d.peaks ++ [((lastN 48 d.zs).map fun t => Config.sqrt t.z.power - r.2).foldl (fun m x => max m (max x (-x))) 0]) }

/-- A sample demodulated (R201 to R205), with the update of the 1 ms that it ends. -/
def AmDemod.step (d : AmDemod) (c : AmSettings) (x : FmSample) : AmDemod :=
  let i := x.i
  let cored := d.marks.cored (3200 * i)
  let off := d.marks.faulted i
  let r := carrierStep d.pll (if (cored && c.conceal) || off then none else some x.cx)
  let y : AmSample := ⟨i, (phasor (-r.1.1)).times x.cx, r.2, !cored && !off && !x.clipped, cored && c.conceal⟩
  let ys := lastN 5040 (d.ys ++ [y])
  let j := i - amLag
  let z := amChannel c.mode c.width c.fade ys j
  let spared := d.marks.cored (3200 * j) || d.marks.faulted j
  let zs := lastN 5040 (d.zs ++ [⟨j, z, !spared && isImpulse d.zs c.threshold z⟩])
  let d := { d with next := i + 1, ys := ys, zs := zs, pll := r.1 }
  if (i + 1) % 48 = 0 then d.update c else d

/-- Whether sample i is replaced by the blanker (R204): within 12 samples of an impulse. -/
def AmDemod.blanked (d : AmDemod) (i : Nat) : Bool := d.zs.any fun t => t.hit && decide (i ≤ t.i + 12) && decide (t.i ≤ i + 12)

/-- A point on the line between two samples. -/
def onLine (p q : AmTone) (i : Nat) : Cx :=
  if p.i = q.i then p.z else p.z.plus ((q.z.minus p.z).scale (((i - p.i : Nat) : Rat) / ((q.i - p.i : Nat) : Rat)))

/-- A sample behind the noise blanker (R204): I and Q on the line across a flagged run. -/
def AmDemod.clean (d : AmDemod) (acting : Bool) (i : Nat) : Cx :=
  let good := d.zs.filter fun t => !(acting && d.blanked t.i)
  match (good.filter fun t => decide (t.i ≤ i)).getLast?, good.find? fun t => decide (i ≤ t.i) with
  | some p, some q => onLine p q i
  | some p, none => p.z
  | none, some q => q.z
  | none, none => Cx.zero

/-- The audio at sample i before the high-pass (R201, R202): the envelope, or the real part, cross-faded over 20 ms; full modulation is
half of full scale about the carrier. -/
def AmDemod.audioAt (d : AmDemod) (acting : Bool) (i : Nat) : Rat :=
  let z := d.clean acting i
  let u : Rat := d.sync / 960
  quot ((1 - u) * Config.sqrt z.power + u * z.re) (2 * d.carrier)

/-- The same across a concealed core (R205): on the line between the last sample before and the first one after. -/
def AmDemod.audioOver (d : AmDemod) (acting : Bool) (i : Nat) : Rat :=
  let good := d.ys.filter fun y => !y.hidden
  match (good.filter fun y => decide (y.i ≤ i)).getLast?, good.find? fun y => decide (i ≤ y.i) with
  | some p, some q =>
    if p.i = q.i then d.audioAt acting i
    else
      let a := d.audioAt acting p.i
      a + (d.audioAt acting q.i - a) * ((i - p.i : Nat) : Rat) / ((q.i - p.i : Nat) : Rat)
  | _, _ => d.audioAt acting i

/-- One audio frame (R201, R205, R206), mono on both channels: the 40 Hz high-pass, the soft mute and the silences. `locked` sets the
way of the cross-fade to synchronous demodulation. -/
def AmDemod.audioFrame (d : AmDemod) (locked acting : Bool) : AmDemod × Bytes :=
  let f := d.frame
  let x := d.audioOver acting f
  let dc := lowPass (Config.onePole (quot 1 (80 * Config.pi))) x d.dc
  let w := pcmWord (d.marks.gain (3200 * f) * Config.dbGain (-d.mute) * (x - dc))
  ({ d with frame := f + 1, dc := dc, sync := if locked then min 960 (d.sync + 1) else d.sync - 1 }, w ++ w)

/-- A PCM slot of 64 consecutive frames (R201, R245). -/
def AmDemod.slot (d : AmDemod) (locked acting : Bool) : AmDemod × PcmSlot :=
  let r := (List.range 64).foldl (fun (t : AmDemod × Bytes) _ =>
    let x := t.1.audioFrame locked acting
    (x.1, t.2 ++ x.2)) (d, [])
  let mask := (List.range 64).foldl (fun t k =>
    let i := d.frame + k
    if d.marks.faulted i || d.ys.any fun y => y.i == i && y.hidden then setBit t k else t) 0
  (r.1, ⟨3200 * d.frame, r.2, mask, false⟩)

/-- The demodulator behind a cold start at sample i (R207): the samples in hand and the audio already demodulated stay. -/
def AmDemod.cold (d : AmDemod) (i : Nat) (mute : Nat) : AmDemod :=
  { AmDemod.init with
    waiting := d.waiting, next := i, ys := d.ys, zs := d.zs, frame := d.frame, dc := d.dc, mute := mute
    marks := { d.marks with colds := d.marks.colds.filter fun c => decide (i < c) } }

end Sys2Proof.Machine
end

