-- ==== Sys2Proof/Machine/Soft.lean ====
section
/-!
DEFINITION. Machine/Soft.lean: the OFDM receivers' samples and markers (R187, R192, R211), their soft values (R185, R210) and the codes
under which BS-SB4 stores them (R186, R249).
-/
namespace Sys2Proof.Machine

/-! ### Samples and markers -/

/-- A marker taken by an OFDM receiver (R187, R211): a blank's core and a clock-fault span conceal. `step` is the chain's grid in ticks
and `l` the window of a blank start. -/
def Intake.mark (d : Intake) (step l : Nat) (m : Marker) : Intake :=
  if m.kind = 4 then { d with spans := lastN 16 (d.spans ++ [(l - 8192, some (l + 10112))]) }
  else if m.kind = 7 then { d with spans := lastN 16 (d.spans ++ [(step * m.at_, none)]) }
  else if m.kind = 8 then { d with spans := d.spans.map fun f => if f.2.isNone then (f.1, some (step * m.at_)) else f }
  else d

/-- The samples kept: two transmission frames of DAB, and more than one of DRM. -/
abbrev intakeSamples : Nat := 400000

/-- A block of a chain taken by an OFDM receiver. -/
def State.intake (n : Nat) (b : Bytes) (s : State) (d : Intake) : Intake :=
  let step := (s.gridStep n).1 / (s.gridStep n).2
  let ms := blockMarkers step b
  let d := ms.foldl (fun (d : Intake) m => d.mark step (s.windowOf n m) m) d
  { d with samples := lastN intakeSamples (d.samples ++ blockSamples step b ms) }

/-- Whether a span holds a tick. -/
def spanHolds (f : Nat × Option Nat) (t : Nat) : Bool :=
  decide (f.1 ≤ t) && match f.2 with
    | some e => decide (t < e)
    | none => true

/-- Whether a span holds one of the samples of a grid that stand from tick a up to tick b. -/
def spanMeets (step a b : Nat) (f : Nat × Option Nat) : Bool :=
  let first := roundUp step (max a f.1)
  decide (first < b) && spanHolds f first

/-- Whether a symbol from tick a up to tick b is concealed by a marker (R187, R211). -/
def Intake.conceals (d : Intake) (step a b : Nat) : Bool := d.spans.any (spanMeets step a b)

/-- The samples that stand from tick a up to tick b. -/
def Intake.between (d : Intake) (step a b : Nat) : List FmSample :=
  d.samples.filter fun x => decide (a ≤ step * x.i) && decide (step * x.i < b)

/-- The mean power of samples in 0.1 dBFSc (R192), whose full scale is 8,192. -/
def powerOf (xs : List FmSample) : Int :=
  let p := meanOf (xs.map fun x => x.cx.power)
  logRound 100 p.num.natAbs (p.den * 8192 ^ 2)

/-! ### Codes -/

/-- A soft value: a real number rounded and clamped (R185, R210). -/
def softOf (x : Rat) : Int := clampInt (-31) 31 (roundRat x)

/-- The level of a magnitude (R186). -/
def softLevel (m : Nat) : Nat := ([2, 4, 7, 10, 14, 19, 25].filter fun b => decide (b ≤ m)).length

/-- The code of a soft value (R186): a level in two's complement, or the erasure's. -/
def softCode (s : Int) : Nat :=
  if s = -32 then 8 else if 0 ≤ s then softLevel s.natAbs else (16 - softLevel s.natAbs) % 16

/-- The least of some numbers. -/
def leastRat (xs : List Rat) : Rat := (xs.tail).foldl min (xs.headD 0)

/-! ### DAB -/

/-- The soft values of a symbol (R185), from its carriers, those of the symbol before, and its channel: first those for p(l,k), then
those for p(l,k+1,536). -/
def dabSoft (before : List (Int × Int)) (x : DabSymbol) : List Int :=
  let d := (x.z.zip before).map fun p =>
    (⟨p.1.1, p.1.2⟩ : Cx).times (⟨p.2.1, -p.2.2⟩ : Cx)
  let mean := meanOf (d.map fun c => Config.sqrt c.power)
  let h := meanOf (x.h.map fun v => (v : Rat))
  let s := (d.zip x.h).map fun p =>
    let a := quot (16 * Config.sqrt 2 * min 2 (quot p.2 h)) mean
    (softOf (a * p.1.re), softOf (a * p.1.im))
  s.map (·.1) ++ s.map (·.2)

/-- The power of the ideal points of a symbol, at the mean magnitude on the diagonals, and of the errors about them (R192; DESIGN CHOICE,
notes/assumptions/140.md). -/
def dabPoints (before : List (Int × Int)) (x : DabSymbol) : Rat × Rat :=
  let d := (x.z.zip before).map fun p =>
    (⟨p.1.1, p.1.2⟩ : Cx).times (⟨p.2.1, -p.2.2⟩ : Cx)
  let mean := meanOf (d.map fun c => Config.sqrt c.power)
  let side := quot mean (Config.sqrt 2)
  let ideal := fun (v : Rat) => if v < 0 then -side else side
  (mean ^ 2 * d.length, (d.map fun c => (c.minus ⟨ideal c.re, ideal c.im⟩).power).foldl (· + ·) 0)

/-- The soft values of a symbol that is concealed (R185): 3,072 erasures. -/
def dabErased : List Int := List.replicate 3072 (-32)

/-- The delay in CIFs that time interleaving gives bit `i` of a CIF (PRESUMED, EN 300 401; notes/assumptions/141.md). -/
def interleave (i : Nat) : Nat := nthD [0, 8, 4, 12, 2, 10, 6, 14, 1, 9, 5, 13, 3, 11, 7, 15] (i % 16) 0

/-- Whether a sub-channel's logical frame that ends with a CIF holds an erasure (R188): one of its bits, which lie in the 16 CIFs up to
that one, has the code of the erasure. -/
def erasedIn (slots : Map (List Nat)) (cif start size : Nat) : Bool :=
  (List.range (64 * size)).any fun j =>
    let i := 64 * start + j
    nthD (Map.get (fun _ => []) slots ((cif + 5000 - 15 + interleave i) % 5000 % 16)) i 0 == 8

/-! ### DRM -/

/-- The bits of an MSC cell by the constellation's code (R208): 4-, 16- and 64-QAM. -/
def qamBits (c : Nat) : Nat := 2 * c

/-- The max-log metric of a bit of a cell (R210): how much farther the nearest point with that bit 1 lies than the nearest one with 0. -/
def qamMetric (c : Nat) (z : Cx) (bit : Nat) : Rat :=
  let dist := fun (v : Bool) => leastRat (((List.range (2 ^ qamBits c)).filter fun p => bitOf p bit == v).map fun p =>
    (z.minus ⟨(Config.qamPoint c p).1, (Config.qamPoint c p).2⟩).power)
  dist true - dist false

/-- The least metric of an undistorted cell, which becomes 16 (R210; DESIGN CHOICE, notes/assumptions/142.md). -/
def qamUnit (c : Nat) : Rat :=
  leastRat ((List.range (2 ^ qamBits c)).flatMap fun p => (List.range (qamBits c)).map fun b =>
    let m := qamMetric c ⟨(Config.qamPoint c p).1, (Config.qamPoint c p).2⟩ b
    if m < 0 then -m else m)

/-- The soft values of an MSC cell (R210); a concealed cell's are erasures. -/
def drmSoft (c : Nat) (cell : Option DrmCell) : List Int :=
  (List.range (qamBits c)).map fun k =>
    match cell with
    | none => -32
    | some x => softOf (quot (16 * (x.weight / 256) * qamMetric c ⟨x.re / 8192, x.im / 8192⟩ (qamBits c - 1 - k)) (qamUnit c))

/-- The power of a cell's nearest point and of its error about it, each times a weight (R211). -/
def drmPoint (c : Nat) (weighted : Bool) (x : DrmCell) : Rat × Rat :=
  let z : Cx := ⟨x.re / 8192, x.im / 8192⟩
  let w : Rat := if weighted then x.weight / 256 else 1
  let best := ((List.range (2 ^ qamBits c)).map fun p =>
    (⟨(Config.qamPoint c p).1, (Config.qamPoint c p).2⟩ : Cx)).foldl (fun (b : Option Cx) p =>
      match b with
      | none => some p
      | some q => if (z.minus p).power < (z.minus q).power then some p else b) none
  match best with
  | none => (0, 0)
  | some p => (w * p.power, w * (z.minus p).power)

/-- The ratio of ideal to error power in 0.1 dB (R192, R211), of the sums over some points. -/
def merOf (p : Rat × Rat) : Int :=
  let r := quot p.1 p.2
  logRound 100 r.num.natAbs r.den

end Sys2Proof.Machine
end

