-- ==== Sys2Proof/Machine/Voices.lean ====
section
/-!
DEFINITION. Machine/Voices.lean: the output of the DAB and DRM audio decoders (R193 to R195, R215): conversion to 48 kS/s, the grid,
silence frames, concealment and ramps.
-/
namespace Sys2Proof.Machine

/-- The frames of 5 ms and of 10 ms. -/
abbrev rampDown : Nat := 240

/-- The frames of the ramp after silence (R193). -/
abbrev rampUp : Nat := 480

/-- The ratio of 48 kS/s to a source rate as codec bytes code it (R194, R215). -/
def rateRatio (rate : Nat) : Nat × Nat := nthD [(1, 1), (2, 1), (3, 2), (3, 1), (4, 1), (5, 1), (5, 2), (5, 4)] rate (1, 1)

/-- The source's samples behind those before them, converted to 48 kS/s (R194). -/
def convertRate (rate : Nat) (before xs : List (Int × Int)) : List (Int × Int) :=
  let (up, down) := rateRatio rate
  if up = down then xs
  else
    let all := before ++ xs
    (List.range (xs.length * up / down)).map fun j =>
      let taps := Config.pcmTaps up down (j * down % up)
      let at_ := before.length + j * down / up
      let sum := fun (g : Int × Int → Int) =>
        pcmSample ((taps.zipIdx.map fun t => if at_ < t.2 then 0 else t.1 * ((g (nthD all (at_ - t.2) (0, 0)) : Int) : Rat)).foldl (· + ·) 0)
      (sum (·.1), sum (·.2))

/-- Frames put behind those that wait. -/
def Voice.put (v : Voice) (xs : List VoiceFrame) : Voice :=
  { v with waiting := v.waiting ++ xs, next := v.next.map (· + xs.length) }

/-- Silence frames up to a frame of the grid (R193); output begins there when it has not begun. -/
def Voice.silence (v : Voice) (upTo : Nat) : Voice :=
  match v.next with
  | none => { v with next := some upTo }
  | some n => v.put (List.replicate (upTo - n) ⟨0, 0, false, true⟩)

/-- Frames that stand from a frame of the grid on (R194): a gap before them is silence; what is already written stays. -/
def Voice.place (v : Voice) (first : Option Nat) (xs : List (Int × Int)) (hidden : Bool) : Voice :=
  let v := match first with
    | some f => v.silence f
    | none => v
  let late := match first, v.next with
    | some f, some n => n - f
    | _, _ => 0
  v.put ((xs.drop late).map fun x => ⟨x.1, x.2, hidden, false⟩)

/-- Samples under the part of the ramp from silence that is still to come (R193, R195). -/
def rampIn (left : Nat) (xs : List (Int × Int)) : List (Int × Int) :=
  xs.zipIdx.map fun p =>
    if left ≤ p.2 then p.1
    else
      let g : Rat := ((rampUp - (left - p.2) : Nat) : Rat) / rampUp
      (pcmSample (g * p.1.1), pcmSample (g * p.1.2))

/-- Samples faded linearly to zero over their length (R193, R195). -/
def fadeOut (xs : List (Int × Int)) : List (Int × Int) :=
  xs.zipIdx.map fun p =>
    let g : Rat := ((xs.length - p.2 : Nat) : Rat) / xs.length
    (pcmSample (g * p.1.1), pcmSample (g * p.1.2))

/-- A good unit put out (R193 to R195): converted, a mono service on both channels; after silence or concealment under a ramp. -/
def Voice.good (v : Voice) (first : Option Nat) (u : AudioUnit) : Voice :=
  let xs := if u.stereo then u.samples else u.samples.map fun x => (x.1, x.1)
  let ys := convertRate u.rate v.source xs
  let left := if v.bad = 0 then v.ramp else rampUp
  { v.place first (rampIn left ys) false with
    last := ys, bad := 0, ramp := left - ys.length, source := lastN 64 (v.source ++ xs) }

/-- A bad unit concealed (R195): the first of a run by the previous good unit faded out, the others by zeros. -/
def Voice.conceal (v : Voice) (first : Option Nat) : Voice :=
  let xs := if v.bad = 0 then fadeOut v.last else v.last.map fun _ => (0, 0)
  { v.place first xs true with bad := v.bad + 1, source := [] }

/-- A service left (R193): the frames of the last 5 ms fade out; the next service begins from silence. -/
def Voice.leave (v : Voice) : Voice :=
  let keep := v.waiting.take (v.waiting.length - rampDown)
  let ys := lastN rampDown v.waiting
  { Voice.init with
    next := v.next
    waiting := keep ++ (ys.zip (fadeOut (ys.map fun f => (f.l, f.r)))).map fun p => { p.1 with l := p.2.1, r := p.2.2 } }

/-- A service whose decoding starts anew (R198, R216): the frames in hand stay. -/
def Voice.restart (v : Voice) : Voice := { Voice.init with next := v.next, waiting := v.waiting }

/-- A queue slot of 64 frames that wait (R245), from a frame of the grid on. -/
def voiceSlot (first : Nat) (xs : List VoiceFrame) : PcmSlot :=
  ⟨3200 * first, xs.flatMap fun f => leInt 3 f.l ++ leInt 3 f.r,
    xs.zipIdx.foldl (fun m p => m + (if p.1.hidden then 2 ^ p.2 else 0)) 0, xs.any (·.silent)⟩

/-- The whole slots of output `o` of engine `e` queued, but for the frames that a ramp down may still need. -/
def State.emitVoice (e o : Nat) (s : State) : State :=
  (List.range (((s.voice (8 * e + o)).waiting.length - rampDown) / 64)).foldl (fun s _ =>
    let v := s.voice (8 * e + o)
    (s.setVoice (8 * e + o) { v with waiting := v.waiting.drop 64 }).pushPcm e o
      (voiceSlot (v.next.getD 0 - v.waiting.length) (v.waiting.take 64))) s

/-- The voice of output `o` of engine `e` changed, and what is ready queued. -/
def State.speak (e o : Nat) (g : Voice → Voice) (s : State) : State :=
  (s.setVoice (8 * e + o) (g (s.voice (8 * e + o)))).emitVoice e o

/-- Silence on the grid up to so many ticks ago (R193): no frame is due in the queue before (DESIGN CHOICE, notes/assumptions/143.md). -/
def State.silenceVoice (e o lag : Nat) (s : State) : State := s.speak e o fun v => v.silence ((s.gnomon - lag) / 3200)

end Sys2Proof.Machine
end

