-- ==== Sys2Proof/Machine/Dab.lean ====
section
/-!
DEFINITION. Machine/Dab.lean: DAB ensemble receivers and DAB audio decoders (spec/10_dab.md).
-/
namespace Sys2Proof.Machine

/-- The keys of a receiver's objects: ensemble, quality, service information, FIGs, sub-channels, data, announcements. -/
abbrev dk (n sub : Nat) : Nat := obj (0x4400 + n) sub
abbrev dq (n sub : Nat) : Nat := obj (0x4410 + n) sub
abbrev dsi (n sub : Nat) : Nat := obj (0x4420 + n) sub
abbrev dfig (n sub : Nat) : Nat := obj (0x4430 + n) sub
abbrev dsub (n sub : Nat) : Nat := obj (0x4440 + n) sub
abbrev ddat (n sub : Nat) : Nat := obj (0x4450 + n) sub
abbrev dann (n sub : Nat) : Nat := obj (0x44C0 + n) sub

/-- The keys of a DAB decoder's objects. -/
abbrev ddec (m sub : Nat) : Nat := obj (0x4480 + m) sub
abbrev dpad (m sub : Nat) : Nat := obj (0x44A0 + m) sub

/-! ### Roles -/

/-- Whether engine e is the front engine of a pair (R127): at an even place among its course's 0x0103 engines. -/
def State.dabFront (s : State) (e : Nat) : Bool :=
  match posOf (0x200 + e) (s.dabMembers (s.parent (0x200 + e))) with
  | some i => i % 2 == 0
  | none => false

/-- Whether engine e is the front engine of a running receiver. -/
def State.dabRuns (s : State) (e : Nat) : Bool := s.runs e 0x0103 && s.dabFront e

/-- The state of R182. -/
def State.dabState (s : State) (e : Nat) : Nat := s.nat (dk e 1)

/-! ### Tables -/

/-- Errors per 10^6 bits, rounded; 0 of none. -/
def perMillion (errors bits : Nat) : Nat := if bits = 0 then 0 else (2000000 * errors + bits) / (2 * bits)

/-- A sub-channel's BER over its last 100 logical frames of 64 bits a CU (R189). -/
def SubChannel.ber (c : SubChannel) : Nat := perMillion (c.errors.foldl (· + ·) 0) (64 * c.size * c.errors.length)

/-- The sub-channel table as a read finds it (R189). -/
def Dab.subTable (d : Dab) : Bytes :=
  leNat 2 d.subSeq ++ [d.subs.length, 0] ++ d.subs.flatMap fun c =>
    [c.id, c.form, c.protection, 0] ++ leNat 2 c.start ++ leNat 2 c.size ++ leNat 4 c.ber

/-- The sub-channel table changed (R189): its sequence rises. -/
def State.publishSubs (e : Nat) (s : State) : State :=
  s.setDab e { s.dab e with subSeq := ((s.dab e).subSeq + 1) % 65536 }

/-- The 36 bytes of a service record (R190). -/
def DabService.encode (v : DabService) : Bytes :=
  let c := v.comp
  leNat 4 c.sid ++ [c.scids, c.tmid, c.type, c.subch] ++ leNat 2 (if c.tmid = 3 then c.addr else 0)
    ++ [boolNat c.primary + 2 * boolNat c.ca + 4 * boolNat c.dataService + 8 * boolNat v.labelled, v.pty, v.charset, 0]
    ++ leNat 2 v.mask ++ padTo 16 v.label ++ leNat 2 v.asu ++ [0, 0]

/-- The service table published (R190): its sequence rises. -/
def State.publishSi (e : Nat) (s : State) : State :=
  let d := s.dab e
  let n := (d.siSeq + 1) % 65536
  let s := s.setDab e { d with siSeq := n }
  s.setBytes (dsi e 1) (leNat 2 n ++ leNat 2 (s.nat (dk e 5)) ++ padTo 16 d.label ++ [d.charset, d.ecc] ++ leInt 1 d.lto
    ++ [d.services.length] ++ leNat 2 d.mciCif ++ [boolNat d.siComplete] ++ List.replicate 5 0
    ++ d.services.flatMap DabService.encode)

/-- The announcement table published (R197): its sequence rises. -/
def State.publishAnns (e : Nat) (s : State) : State :=
  let d := s.dab e
  let n := (d.annSeq + 1) % 65536
  let s := s.setDab e { d with annSeq := n }
  s.setBytes (dann e 2) (leNat 2 n ++ [d.anns.length, 0] ++ d.anns.flatMap fun a =>
    [a.1] ++ leNat 2 a.2.1 ++ [a.2.2.1, a.2.2.2, 0])

/-! ### Decoder slots -/

/-- The state a decoder slot takes from the receiver's tables (R193); a slot that decodes keeps its state in states 4 and
5 of the receiver (DEDUCED from R183, notes/assumptions/27.md). -/
def State.slotState (s : State) (m i : Nat) : Nat :=
  let sel := nthD (s.dabDecoder m).sel i (0, 0)
  let n := s.cnat (ddec m 1) - 0x200
  let d := s.dab n
  let now := s.nat (ddec m (6 + i))
  if sel.1 = 0 then 0
  else if s.dabState n ≠ 4 ∧ !(s.dabState n = 5 ∧ (now = 2 ∨ now = 3)) then 1
  else match d.services.find? fun v => v.comp.sid == sel.1 && v.comp.scids == sel.2 with
    | none => if d.siComplete then 4 else 1
    | some v =>
      if v.comp.ca || v.comp.tmid != 0 || (v.comp.type != 0 && v.comp.type != 63) then 5
      else if now = 2 ∨ now = 3 then now else 1

/-- A slot's state set, with its event (R193). -/
def State.setSlotState (m i new : Nat) (s : State) : State :=
  if s.nat (ddec m (6 + i)) = new then s
  else (s.setNat (ddec m (6 + i)) new).raise 16 1 (0x200 + m)
    [(1, i), (4, (nthD (s.dabDecoder m).sel i (0, 0)).1), (1, new)]

/-- Every slot of the running decoders of a receiver judged again. -/
def State.judgeSlots (n : Nat) (s : State) : State :=
  (List.range 12).foldl (fun s m =>
    if s.runs m 0x0201 ∧ s.cnat (ddec m 1) = 0x200 + n then
      [0, 1].foldl (fun s i => s.setSlotState m i (s.slotState m i)) s
    else s) s

/-- The slots of a receiver's decoders put into state 1, or 0 with no selection (R198). -/
def State.restartSlots (n : Nat) (s : State) : State :=
  (List.range 12).foldl (fun s m =>
    if s.runs m 0x0201 ∧ s.cnat (ddec m 1) = 0x200 + n then
      [0, 1].foldl (fun s i =>
        (s.setSlotState m i (if (nthD (s.dabDecoder m).sel i (0, 0)).1 = 0 then 0 else 1)).speak m i Voice.restart) s
    else s) s

/-! ### Receiver states -/

/-- A change of receiver state, with its event (R182); the count of R182's entries to states 4 and 5. -/
def State.setDabState (e new : Nat) (s : State) : State :=
  let old := s.dabState e
  if old = new then s
  else
    let s := (s.setNat (dk e 1) new).setDab e { s.dab e with since := s.gnomon, goodAt := none, goodRun := 0, badRun := 0 }
    let s := if new = 4 then s.bump (dk e 8) else if new = 5 then s.bump (dk e 9) else s
    s.raise 16 1 (0x200 + e) [(1, old), (1, new)]

/-- The path of the chain that feeds an engine. -/
def State.pathOf (s : State) (e : Nat) : Nat :=
  match (s.inputs e).head? with
  | some n => (s.chain n).path
  | none => 2

/-- A receiver's null reports end (R184, R93): 0x4400+n:03 reads 0, and Plumb loses its protected ensemble. -/
def State.stopNulls (e : Nat) (s : State) : State :=
  let s := (s.setNat (dk e 3) 0).setNat (dk e 2) 0
  [0, 1].foldl (fun s p =>
    if (s.plumbOf p).nullStart.isSome ∧ (s.plumbOf p).nullEngine = e then s.protectedLost p else s) s

/-- The cold start of a DAB receiver (R198): state 1, tables cleared with their sequences raised, metrics at their defaults,
no nulls reported, queues emptied. -/
def State.dabColdStart (e : Nat) (s : State) : State :=
  let d := s.dab e
  let s := (s.setDabState e 1).stopNulls e
  let s := s.setDab e { Dab.init with
    since := (s.dab e).since, subSeq := d.subSeq, siSeq := d.siSeq, annSeq := d.annSeq, recentFigs := d.recentFigs, figSeq := d.figSeq
    dataSeq := d.dataSeq }
  let s := s.setAll [(dk e 4, 0), (dk e 5, 0), (dk e 6, 0), (dk e 7, 0xFFFF), (dq e 1, -1400), (dq e 2, 0), (dq e 3, 0),
    (dq e 4, 100), (dq e 5, 0), (dq e 6, 0)]
  let s := if s.resSeq (dq e 9) = 0 then s else s.await (dq e 9)
  (((s.publishSubs e).publishSi e).publishAnns e).restartSlots e

/-- DAB_NULL_FOUND (R182). -/
def execDabNullFound (engine : Nat) (s : State) : Host.Outcome State Fault Refusal :=
  .next (if s.dabRuns engine ∧ s.dabState engine = 1 then s.setDabState engine 2 else s)

/-- DAB_PRS_CORRELATE (R182): within ±25 kHz; `offset` is the carrier offset in Hz. -/
def execDabPrsCorrelate (engine : Nat) (offset : Int) (s : State) : Host.Outcome State Fault Refusal :=
  .next (if s.dabRuns engine ∧ s.dabState engine = 2 ∧ -25000 ≤ offset ∧ offset ≤ 25000 then
    (s.setDabState engine 3).setNum (dk engine 4) offset else s)

/-- The ticks of a transmission frame, of the null, and of a symbol with its guard. -/
abbrev dabFrameTicks : Nat := 14745600

/-- The ticks of the null symbol. -/
abbrev dabNullTicks : Nat := 199200

/-- The ticks of a symbol with its guard. -/
abbrev dabSymbolTicks : Nat := 191400

/-- Whether two nulls lie within ±64 samples of a whole number of frames from each other (R182). -/
def nullFits (a b : Nat) : Bool :=
  let r := ((b + dabFrameTicks - a % dabFrameTicks) % dabFrameTicks)
  decide (r ≤ 4800 ∨ dabFrameTicks ≤ r + 4800)

/-- DAB_FIC_ACQUIRED (R182): two consecutive frames with a good FIB, and FIG 0/0 received. -/
def execDabFicAcquired (engine : Nat) (s : State) : Host.Outcome State Fault Refusal :=
  .next <|
    let d := s.dab engine
    if s.dabRuns engine ∧ s.dabState engine = 3 ∧ 2 ≤ d.goodRun ∧ d.gotEnsemble then
      let s := (s.setDabState engine 4).setDab engine { (s.setDabState engine 4).dab engine with
        nullAt := d.goodAt.getD s.gnomon, softFrom := s.gnomon }
      s.judgeSlots engine
    else s

/-- DAB_ACQUISITION_FAIL (R182): 4 frames in state 2, or 10 in state 3. -/
def execDabAcquisitionFail (engine : Nat) (s : State) : Host.Outcome State Fault Refusal :=
  .next <|
    let frames := if s.dabState engine = 2 then 4 else 10
    if s.dabRuns engine ∧ (s.dabState engine = 2 ∨ s.dabState engine = 3) ∧ (s.dab engine).since + frames * dabFrameTicks ≤ s.gnomon
    then s.setDabState engine 1 else s

/-- The receiver loses sync (R182, R184, R187). -/
def State.dabLose (e : Nat) (s : State) : State := ((s.setDabState e 5).stopNulls e).judgeSlots e

/-- Whether a receiver in state 4 has lost the ensemble (R182): the second null expected since the latest one has ended unseen, or 10
frames in succession hold no good FIB. -/
def Dab.lost (d : Dab) (now : Nat) : Bool :=
  decide (d.nullAt + 2 * dabFrameTicks + 4800 + dabNullTicks ≤ now) || decide (10 ≤ d.badRun)

/-- DAB_SYNC_LOST (R182). -/
def execDabSyncLost (engine : Nat) (s : State) : Host.Outcome State Fault Refusal :=
  .next (if s.dabRuns engine ∧ s.dabState engine = 4 ∧ (s.dab engine).lost s.gnomon then s.dabLose engine else s)

/-- DAB_SYNC_REGAINED (R182): a null is found again and its frame holds a good FIB. -/
def execDabSyncRegained (engine : Nat) (s : State) : Host.Outcome State Fault Refusal :=
  .next <|
    match (s.dab engine).goodAt with
    | some at_ =>
      if s.dabRuns engine ∧ s.dabState engine = 5 then
        let s := s.setDabState engine 4
        (s.setDab engine { s.dab engine with nullAt := at_ }).judgeSlots engine
      else s
    | none => s

/-- DAB_LOST_TIMEOUT (R182, R198): the lost timeout, in ms, has passed in state 5. -/
def execDabLostTimeout (engine : Nat) (s : State) : Host.Outcome State Fault Refusal :=
  .next (if s.dabRuns engine ∧ s.dabState engine = 5 ∧
      (s.dab engine).since + s.nat (dk engine 0x0A) * msTicks ≤ s.gnomon then s.dabColdStart engine else s)

/-- The receivers in state 4 on a path, ascending. -/
def State.dabOnPath (s : State) (p : Nat) : List Nat :=
  (List.range 12).filter fun e => s.dabRuns e && s.dabState e == 4 && s.pathOf e == p

/-- The front engine whose decoder feeds the source in force of Gloaming, if any (R93, R218). -/
def State.foregroundDab (s : State) : Option Nat :=
  let w := s.nat (obj 0x4900 (2 + s.nat 0x490005))
  let m := w % 65536 - 0x200
  if s.nat 0x490001 = 1 ∧ s.runs m 0x0201 then some (s.cnat (ddec m 1) - 0x200) else none

/-- The receiver of the course with the lowest unit ID (R93). -/
def State.lowestCourse (s : State) (es : List Nat) : Option Nat :=
  es.foldl (fun best e =>
    match best with
    | none => some e
    | some b => if s.parent (0x200 + e) < s.parent (0x200 + b) then some e else some b) none

/-- The protected ensemble of a path (R93): the course named in 0x302n:06, else the one that feeds the foreground audio,
else the one with the lowest course unit ID. -/
def State.protectedOn (s : State) (p : Nat) : Option Nat :=
  let cand := s.dabOnPath p
  let named := s.nat (obj (0x3020 + p) 6)
  if named ≠ 0 then cand.find? fun e => (s.leaves named).contains (0x200 + e)
  else match s.foregroundDab with
    | some e => if cand.contains e then some e else s.lowestCourse cand
    | none => s.lowestCourse cand

/-- The null start that a path's protected ensemble reports (R93), taken over where the choice has changed: the course named,
the foreground audio, an antenna switch. With none, placement becomes free (R94). -/
def State.rejudgeNulls (p : Nat) (s : State) : State :=
  let r := s.plumbOf p
  match (s.protectedOn p).filter fun e => s.nat (dk e 3) != 0 with
  | some e =>
    if r.nullStart.isSome ∧ r.nullEngine = e then s
    else
      let s := (List.range 12).foldl (fun s i => if i ≠ e ∧ s.pathOf i = p then s.setNat (dk i 2) 0 else s) s
      (s.setNat (dk e 2) 1).setPlumb p { r with nullStart := some (s.nat (dk e 3)), nullEngine := e }
  | none =>
    if r.nullStart.isNone then s
    else (s.setNat (dk r.nullEngine 2) 0).protectedLost p

/-- DAB_NULL_REPORT (R93, R184): in state 4, the start of a null that has ended, where one is expected (R182), goes to 0x4400+n:03, and
to Plumb when this receiver is the protected ensemble of its path. -/
def execDabNullReport (engine nullStart : Nat) (s : State) : Host.Outcome State Fault Refusal :=
  .next <|
    if s.dabRuns engine ∧ s.dabState engine = 4 ∧ nullFits (s.dab engine).nullAt nullStart ∧ nullStart + dabNullTicks ≤ s.gnomon then
      let p := s.pathOf engine
      let s := s.setDab engine { s.dab engine with nullAt := nullStart }
      let s := (s.setNat (dk engine 3) nullStart).rejudgeNulls p
      if (s.plumbOf p).nullStart.isSome ∧ (s.plumbOf p).nullEngine = engine then
        s.setPlumb p { s.plumbOf p with nullStart := some nullStart }
      else s
    else s

/-- SI complete set when its conditions hold (R190): every service labelled and the MCI unchanged for 2 s, or 10 s in
state 4. -/
def State.judgeSi (e : Nat) (s : State) : State :=
  let d := s.dab e
  if s.dabState e = 4 ∧ !d.siComplete ∧
      ((d.services ≠ [] ∧ (d.services.all fun v => d.services.any fun w => w.comp.sid == v.comp.sid && w.labelled)
          ∧ d.mciAt + 307200000 ≤ s.gnomon)
        ∨ d.since + 1536000000 ≤ s.gnomon) then
    ((s.setDab e { d with siComplete := true }).publishSi e).judgeSlots e
  else s

/-- Where symbol `l` of a frame begins: 0 the phase reference, 1 to 3 the FIC, 4 to 75 the MSC. -/
def symbolAt (nullStart l : Nat) : Nat := nullStart + dabNullTicks + dabSymbolTicks * l

/-- Whether the markers conceal symbol `l` of a frame (R187). -/
def Dab.conceals (d : Dab) (nullStart l : Nat) : Bool :=
  d.intake.conceals 75 (symbolAt nullStart l) (symbolAt nullStart (l + 1))

/-- A symbol that is demodulated and that no marker conceals (R183, R185, R187). -/
def Dab.clear (d : Dab) (nullStart l : Nat) (x : Option DabSymbol) : Option DabSymbol :=
  if d.conceals nullStart l then none else x

/-- The samples of a frame's symbols in which no soft value is concealed (R192). -/
def Dab.frameSamples (d : Dab) (nullStart : Nat) : List FmSample :=
  (List.range 76).flatMap fun l =>
    if d.concealed.contains l then [] else d.intake.between 75 (symbolAt nullStart l) (symbolAt nullStart (l + 1))

/-- The samples of a null outside the windows and faults (R184, R187). -/
def Dab.nullSamples (d : Dab) (nullStart : Nat) : List FmSample :=
  (d.intake.between 75 nullStart (nullStart + dabNullTicks)).filter fun x => !d.intake.spans.any fun f => spanHolds f (75 * x.i)

/-- The gain and level constant of an engine's input (R147). -/
def State.inputScale (s : State) (e : Nat) : Int × Int :=
  match (s.inputs e).head? with
  | some n => (s.cnum (ck n 0x0F), s.num (obj (0x3000 + (s.chain n).path) 0x0F))
  | none => (0, 0)

/-- The metrics of a transmission frame and their snapshot (R192), from the CRCs of its FIBs, the channel errors of its FIC, its FIC
symbols as demodulated, and the tracked carrier offset (R183). -/
def State.dabFrameEnd (engine nullStart : Nat) (fibs : List Bool) (ficErrors : Nat) (fic : List Bool) (offset : Int) (s : State) :
    State :=
    if s.dabRuns engine ∧ 3 ≤ s.dabState engine then
      let d := s.dab engine
      let lost := if s.dabState engine = 3 then [] else
        (List.range 3).filter fun j => d.conceals nullStart (1 + j) || !nthD fic j false
      let d := { d with
        concealed := d.concealed ++ lost.map (· + 1), fibs := lastN 100 (d.fibs ++ fibs)
        badRun := if fibs.any id then 0 else d.badRun + 1 }
      let clipped := ((List.range 76).filter fun l =>
        (d.intake.between 75 (symbolAt nullStart l) (symbolAt nullStart (l + 1))).any (·.clipped)).length
      let g := s.inputScale engine
      let bad := (d.fibs.filter (! ·)).length
      let s := s.setDab engine { d with points := (0, 0), msc := (0, 0), concealed := [] }
      let s := s.setAll [(dq engine 1, levelOf (d.frameSamples nullStart) g.1 g.2), (dq engine 2, merOf d.points),
        (dq engine 3, perMillion ficErrors (3072 * (3 - lost.length))), (dq engine 4, if d.fibs = [] then 100 else 100 * bad / d.fibs.length),
        (dq engine 5, perMillion d.msc.1 d.msc.2), (dq engine 6, powerOf (d.nullSamples nullStart)), (dk engine 4, offset)]
      let s := (s.bumpBy (dq engine 7) (3072 * lost.length)).bumpBy (dq engine 8) clipped
      let s := s.issue (dq engine 9) (leNat 8 (nullStart + dabFrameTicks)
        ++ ([(1, 2), (2, 2), (3, 4), (4, 1), (5, 4), (6, 2)].flatMap fun p => leInt p.2 (s.num (dq engine p.1)))
        ++ [s.dabState engine, 0, 0])
      s.judgeSi engine
    else s

/-- One sub-channel after a CIF (R188, R189): 15 CIFs fill its deinterleaver; then each logical frame joins its queue,
unless the queue is full. The flag tells of a drop. -/
def SubChannel.receive (c : SubChannel) (slots : Map (List Nat)) (cif instant : Nat) (fs : List DecodedFrame) : SubChannel × Bool :=
  if c.fill < 15 then ({ c with fill := c.fill + 1 }, false)
  else match fs.find? fun f => f.subch == c.id with
    | none => (c, false)
    | some f =>
      let c := { c with errors := lastN 100 (c.errors ++ [f.errors]) }
      if c.queue.length < Config.subchannelDepth c.size then
        ({ c with queue := c.queue ++ [⟨cif, instant, f.data, erasedIn slots cif c.start c.size⟩] }, false)
      else (c, true)

/-- A sub-channel of the new MCI: one that keeps its SubChId keeps its queue and its fill (R189). -/
def keepQueue (old : List SubChannel) (c : SubChannel) : SubChannel :=
  match old.find? fun o => o.id == c.id with
  | some o => { c with errors := o.errors, fill := o.fill, queue := o.queue }
  | none => c

/-- A component of the new MCI keeps the labels its service had. -/
def keepLabels (old : List DabService) (v : DabService) : DabService :=
  match old.find? fun o => o.comp.sid == v.comp.sid && o.comp.scids == v.comp.scids with
  | some o => { o with comp := v.comp }
  | none => v

/-- The announced MCI in force from a CIF on (R189): both tables are updated and a DAB event is raised. -/
def State.reconfigure (engine cif : Nat) (s : State) : State :=
  let d := s.dab engine
  let s := s.setDab engine { d with
    subs := d.nextSubs.map (keepQueue d.subs), nextSubs := [], nextFrames := [], overdue := false
    services := if d.nextServices = [] then d.services else d.nextServices.map (keepLabels d.services)
    nextServices := [], mciAt := s.gnomon, mciCif := cif }
  let s := ((s.setNat (dk engine 7) 0xFFFF).publishSubs engine).publishSi engine
  (s.raise 16 1 (0x200 + engine) []).judgeSlots engine

/-- Whether the announced MCI takes effect at a CIF (R189): at the announced CIF count once it has been received, and, when that count
has passed without it, as soon as FIG 0/1 of the new MCI has come in two frames. What of the MCI has been received is taken as all of
it (DESIGN CHOICE, notes/assumptions/144.md). -/
def State.mciDue (s : State) (e cif : Nat) : Bool :=
  let d := s.dab e
  decide (cif < 5000) && d.nextSubs != [] && (if d.overdue then decide (2 ≤ d.nextFrames.length) else s.nat (dk e 7) == cif)

/-- DAB_RECONFIGURATION (R189). -/
def execDabReconfiguration (engine cif : Nat) (s : State) : Host.Outcome State Fault Refusal :=
  .next <|
    if s.dabRuns engine ∧ (s.dabState engine = 4 ∨ s.dabState engine = 5) ∧ s.mciDue engine cif then s.reconfigure engine cif
    else s

/-- The MCI for a CIF (R189): the one announced takes effect at its CIF count; when it has not been received, the old one goes on and its
CIFs are concealed. -/
def State.mciFor (e cif : Nat) (s : State) : State :=
  if s.mciDue e cif then s.reconfigure e cif
  else if cif < 5000 ∧ s.nat (dk e 7) = cif then s.setDab e { s.dab e with overdue := true, nextFrames := [] }
  else s

/-- The soft values of a CIF put into its slot of the deinterleaver (R183, R185 to R187, R249): 18 symbols after the one `before`; the
erasures are counted, and the points of R192 are summed. -/
def State.storeCif (e cif nullStart position : Nat) (before : List (Int × Int)) (symbols : List (Option DabSymbol)) (s : State) :
    State :=
  let d := s.dab e
  let first := 4 + 18 * (position % 4)
  let befores := before :: symbols.map fun x => (x.map (·.z)).getD []
  let clear := (List.range 18).map fun j =>
    if d.overdue then none else (d.clear nullStart (first + j) (nthD symbols j none)).map fun x => (nthD befores j [], x)
  let soft := clear.flatMap fun x => match x with
    | some (b, x) => dabSoft b x
    | none => dabErased
  let points := clear.foldl (fun (t : Rat × Rat) x => match x with
    | some (b, x) => let p := dabPoints b x; (t.1 + p.1, t.2 + p.2)
    | none => t) d.points
  let lost := (List.range 18).filter fun j => (nthD clear j none).isNone
  (s.setDab e { d with
    slots := Map.put (fun _ => []) d.slots (cif % 16) (soft.map softCode), points := points
    concealed := d.concealed ++ lost.map (· + first) }).bumpBy (dq e 7) (3072 * lost.length)

/-- DAB_CIF_DECODE (R183, R185 to R189), in a frame that began when the receiver tracked: the front engine stores the CIF's soft values, and the back engine decodes every sub-channel,
whose nominal instant is the frame's null plus 24 ms times the CIF's position. -/
def execDabCifDecode (engine cif nullStart position : Nat) (before : List (Int × Int)) (symbols : List (Option DabSymbol))
    (frames : List DecodedFrame) (s : State) : Host.Outcome State Fault Refusal :=
  .next <|
    if s.dabRuns engine ∧ (s.dabState engine = 4 ∨ s.dabState engine = 5) ∧ (s.dab engine).softFrom ≤ nullStart then
      let s := (s.mciFor engine cif).storeCif engine cif nullStart position before symbols
      let d := s.dab engine
      let rs := d.subs.map fun c => c.receive d.slots cif (nullStart + 3686400 * (position % 4)) frames
      let decoded := rs.filter fun r => 15 ≤ r.1.fill && frames.any fun f => f.subch == r.1.id
      let s := s.setDab engine { d with
        subs := rs.map (·.1)
        msc := decoded.foldl (fun (t : Nat × Nat) r => (t.1 + r.1.errors.getLast?.getD 0, t.2 + 64 * r.1.size)) d.msc }
      (rs.filter (·.2)).foldl (fun s _ => s.countDrop (0x200 + engine) 3) s
    else s

/-- The code bytes of a CIF slot as they lie in shared memory (R249). -/
def Dab.slotBytes (d : Dab) (slot : Nat) : Bytes := sb4Bytes (Map.get (fun _ => []) d.slots slot)

/-! ### FIGs -/

/-- A sub-channel put among others in ascending SubChId; one with the same SubChId keeps its queue. -/
def putSub (c : SubChannel) : List SubChannel → List SubChannel
  | [] => [c]
  | o :: os =>
    if c.id < o.id then c :: o :: os
    else if c.id = o.id then { c with errors := o.errors, fill := o.fill, queue := o.queue } :: os
    else o :: putSub c os

/-- A component put among the services, at most 96; the flag tells of one dropped. -/
def putService (c : DabComp) (vs : List DabService) : List DabService × Bool :=
  if vs.any fun v => v.comp.sid == c.sid && v.comp.scids == c.scids then
    (vs.map fun v => if v.comp.sid == c.sid && v.comp.scids == c.scids then { v with comp := c } else v, false)
  else if vs.length < 96 then (vs ++ [⟨c, false, 0, 0, 0, List.replicate 16 0, 0⟩], false)
  else (vs, true)

/-- The services with those of a SId changed. -/
def mapSid (sid : Nat) (f : DabService → DabService) (vs : List DabService) : List DabService :=
  vs.map fun v => if v.comp.sid == sid then f v else v

/-- The FIG type and extensions that a reading of R190 belongs to. -/
def DabFig.fits (f : DabFig) (type ext : Nat) : Bool :=
  match f with
  | .ensemble .. => type == 0 && ext == 0
  | .subchannel .. => type == 0 && ext == 1
  | .component .. => type == 0 && (ext == 2 || ext == 3 || ext == 8)
  | .country .. => type == 0 && ext == 9
  | .programmeType .. => type == 0 && ext == 17
  | .announcementSupport .. => type == 0 && ext == 18
  | .time .. => type == 0 && ext == 10
  | .announcement .. => type == 0 && ext == 19
  | .ensembleLabel .. => type == 1 && ext == 0
  | .label .. => type == 1 && (ext == 1 || ext == 4 || ext == 5)
  | .linkage .. => type == 0 && ext == 6
  | .frequencies .. => type == 0 && ext == 21
  | .otherEnsembles .. => type == 0 && ext == 24
  | .other => true

/-- What a FIG changes in the receiver's tables (R190, R197, R220), in the frame with a null; the flag tells of a component
dropped. FIG 0/1 that comes when an announced MCI is overdue is the new MCI's (R189). -/
def Dab.takeFig (d : Dab) (now null : Nat) (f : DabFig) : Dab × Bool :=
  match f with
  | .ensemble .. => ({ d with gotEnsemble := true }, false)
  | .subchannel next id form protection start size =>
    let c : SubChannel := ⟨id, form, protection, start, size, [], 0, []⟩
    if next || d.overdue then
      ({ d with
        nextSubs := putSub c d.nextSubs
        nextFrames := if d.nextFrames.contains null then d.nextFrames else d.nextFrames ++ [null] }, false)
    else
      let subs := putSub c d.subs
      ({ d with subs := subs, mciAt := if subs = d.subs then d.mciAt else now }, false)
  | .component next c =>
    if next || d.overdue then
      let r := putService c d.nextServices
      ({ d with nextServices := r.1 }, r.2)
    else
      let r := putService c d.services
      ({ d with services := r.1, mciAt := if r.1 = d.services then d.mciAt else now }, r.2)
  | .country ecc lto => ({ d with ecc := ecc, lto := lto }, false)
  | .programmeType sid pty => ({ d with services := mapSid sid (fun v => { v with pty := pty }) d.services }, false)
  | .announcementSupport sid flags =>
    ({ d with services := mapSid sid (fun v => { v with asu := flags }) d.services }, false)
  | .ensembleLabel charset label => ({ d with charset := charset, label := label }, false)
  | .label sid scids charset mask label =>
    ({ d with services := d.services.map fun v =>
        if v.comp.sid == sid && v.comp.scids == scids then
          { v with labelled := true, charset := charset, mask := mask, label := label } else v }, false)
  | .announcement cluster flags subch new =>
    ({ d with annSeen := Map.put (fun _ => (0, 0, 0, 0)) d.annSeen cluster (now, flags, subch, new) }, false)
  | .linkage set hard members =>
    ({ d with links := Map.put (fun _ => []) d.links set (if hard then members else []) }, false)
  | .frequencies system id kHz =>
    ({ d with frequencies := (d.frequencies.filter fun p => p.1 != (system, id)) ++ [((system, id), kHz)] }, false)
  | .otherEnsembles sid eids => ({ d with otherEnsembles := Map.put (fun _ => []) d.otherEnsembles sid eids }, false)
  | .time .. | .other => (d, false)

/-- A good FIB in the frame with a null (R182): the run of such frames. -/
def Dab.goodFrame (d : Dab) (null : Nat) : Dab :=
  match d.goodAt with
  | none => { d with goodAt := some null, goodRun := 1 }
  | some n =>
    if null ≤ n + 4800 then d
    else { d with goodAt := some null, goodRun := if null ≤ n + dabFrameTicks + 4800 then d.goodRun + 1 else 1 }

/-- Whether the FIG FIFO takes a FIG with this header (R191): its type and, for type 0, its extension. -/
def State.figEnabled (s : State) (e type ext : Nat) : Bool :=
  match type with
  | 0 => bitOf (s.nat (dfig e 2)) ext
  | 1 => bitOf (s.nat (dfig e 3)) 0
  | 2 => bitOf (s.nat (dfig e 3)) 1
  | 5 => bitOf (s.nat (dfig e 3)) 2
  | 6 => bitOf (s.nat (dfig e 3)) 3
  | _ => false

/-- A FIG offered to the FIG FIFO of 128 records (R191): one identical to a FIG placed within 1 s is ignored. -/
def State.placeFig (e type ext : Nat) (raw : Bytes) (nullStart cif : Nat) (s : State) : State :=
  let d := s.dab e
  let recent := d.recentFigs.filter fun r => s.gnomon < r.2 + 153600000
  if !(s.figEnabled e type ext) || recent.any fun r => r.1 == raw then s
  else
    let r := s.pushFifo (dfig e 1) 128 (leNat 8 nullStart ++ leNat 2 cif ++ leNat 2 d.figSeq ++ padTo 30 raw)
    if r.2 then r.1.bump (dfig e 5)
    else r.1.setDab e { d with recentFigs := recent ++ [(raw, s.gnomon)], figSeq := (d.figSeq + 1) % 65536 }

/-- DAB_FIG_DECODE (R59, R190, R191): a FIG from a good FIB of the frame whose null started at `nullStart`, as its fields
and as its bytes. -/
def execDabFigDecode (engine type ext : Nat) (raw : Bytes) (nullStart cif : Nat) (fig : DabFig) (s : State) :
    Host.Outcome State Fault Refusal :=
  .next <|
    if s.dabRuns engine ∧ 3 ≤ s.dabState engine then
      let s := s.placeFig engine type ext raw nullStart cif
      let s := s.setDab engine ((s.dab engine).goodFrame nullStart)
      let fig := if fig.fits type ext then fig else .other
      let old := s.dab engine
      let r := old.takeFig s.gnomon nullStart fig
      let s := s.setDab engine r.1
      let s := if r.2 then s.bump (dsi engine 2) else s
      let eid := s.nat (dk engine 5)
      let s := match fig with
        | .ensemble id count change =>
          ((s.setNat (dk engine 5) id).setNat (dk engine 6) count).setNat (dk engine 7) (change.getD 0xFFFF)
        | .time utc long => s.utcAnchor (if long then 1 else 2) nullStart utc ((s.dab engine).lto * 30)
        | _ => s
      let s := if r.1.subs.map (fun c => (c.id, c.form, c.protection, c.start, c.size))
          ≠ old.subs.map (fun c => (c.id, c.form, c.protection, c.start, c.size)) then s.publishSubs engine else s
      let s := if r.1.services ≠ old.services ∨ r.1.label ≠ old.label ∨ r.1.charset ≠ old.charset ∨ r.1.ecc ≠ old.ecc
          ∨ r.1.lto ≠ old.lto ∨ s.nat (dk engine 5) ≠ eid then s.publishSi engine else s
      (s.judgeSi engine).judgeSlots engine
    else s

/-- DAB_SI_COMPLETE_TIMEOUT (R190): 10 s in state 4. -/
def execDabSiCompleteTimeout (engine : Nat) (s : State) : Host.Outcome State Fault Refusal :=
  .next (if s.dabRuns engine then s.judgeSi engine else s)

/-! ### Audio and data -/

/-- DAB_SERVICE_SELECT (R193): at a logical-frame boundary the selection written to a slot takes effect; the old service's output ramps
to silence. -/
def execDabServiceSelect (engine slot : Nat) (s : State) : Host.Outcome State Fault Refusal :=
  .next <|
    let d := s.dabDecoder engine
    let want := (s.nat (ddec engine (2 + 2 * slot)), s.nat (ddec engine (3 + 2 * slot)))
    if s.runs engine 0x0201 ∧ slot < 2 ∧ nthD d.sel slot (0, 0) ≠ want then
      let s := s.setDabDecoder engine { d with sel := setNth d.sel slot want }
      let s := (s.setNat (ddec engine (8 + slot)) 0).setSlotState engine slot (if want.1 = 0 then 0 else 1)
      let s := s.disturb fun w => w == 0x200 + engine + 65536 * slot
      (s.setSlotState engine slot (s.slotState engine slot)).speak engine slot Voice.leave
    else s

/-- Records of a byte-limited FIFO: one more, unless it would exceed the room. -/
def State.pushBytes (k room : Nat) (rec : Bytes) (s : State) : State × Bool :=
  let f := s.fifo k
  if (f.recs.foldl (fun t r => t + r.length) 0) + rec.length ≤ room then
    (s.setFifo k { f with recs := f.recs ++ [rec] }, false)
  else (s, true)

/-- A data-group record (R196). -/
def dataRecord (instant seq source : Nat) (crc : Bool) (app : Nat) (data : Bytes) : Bytes :=
  leNat 8 instant ++ leNat 2 seq ++ [source, boolNat crc] ++ leNat 2 data.length ++ [app, 0] ++ data

/-- X-PAD data groups put into a decoder's PAD FIFO of 32,768 bytes (R195, R196). -/
def State.pushPads (m slot instant : Nat) : List PadGroup → State → State
  | [], s => s
  | g :: gs, s =>
    let d := s.dabDecoder m
    let r := s.pushBytes (dpad m 1) 32768 (dataRecord instant d.padSeq (0x10 + slot) g.crc g.app g.data)
    let s := if r.2 then (r.1.bump (dpad m 2)).countDrop (0x200 + m) 7
      else r.1.setDabDecoder m { d with padSeq := (d.padSeq + 1) % 65536 }
    State.pushPads m slot instant gs s

/-- The sub-channel that a decoder slot reads, with its receiver: of the service in force (R193). -/
def State.slotSub (s : State) (m i : Nat) : Option (Nat × SubChannel) :=
  let n := s.cnat (ddec m 1) - 0x200
  let sel := nthD (s.dabDecoder m).sel i (0, 0)
  match (s.dab n).services.find? fun v => v.comp.sid == sel.1 && v.comp.scids == sel.2 with
  | none => none
  | some v => ((s.dab n).subs.find? fun c => c.id == v.comp.subch).map fun c => (n, c)

/-- Logical frames taken from a slot's queue: the voice keeps the instant of the last one and whether any held an erasure. -/
def State.takeFrames (m i count : Nat) (s : State) : State :=
  match s.slotSub m i with
  | none => s
  | some (n, c) =>
    let fs := c.queue.take count
    match fs.getLast? with
    | none => s
    | some f =>
      let d := s.dab n
      let s := s.setDab n { d with subs := d.subs.map fun (k : SubChannel) =>
        if k.id = c.id then { k with queue := k.queue.drop count } else k }
      s.setVoice (8 * m + i) { s.voice (8 * m + i) with instant := f.instant, erased := fs.any (·.erased) }

/-- Where a unit that takes logical frames stands (R194): the first grid instant at or after the anchor. -/
def State.unitFirst (s : State) (m i : Nat) (u : AudioUnit) : Option Nat :=
  if u.taken = 0 then none
  else match s.slotSub m i with
    | some (_, c) => c.queue.head?.map fun f => (f.instant + 3199) / 3200
    | none => none

/-- Whether an access unit is bad (R195). -/
def AudioUnit.bad (u : AudioUnit) (erased : Bool) : Bool := u.crc == some false || u.broken || (erased && u.crc.isNone)

/-- The codec byte of a unit (R193). -/
def AudioUnit.codecByte (u : AudioUnit) : Nat := u.codec % 8 + 8 * (u.rate % 8) + 64 * boolNat u.stereo

/-- How long after its instant a frame of DAB+ may be queued (R194). -/
abbrev dabLag : Nat := 23040000

/-- An access unit of a slot that decodes (R193 to R195). -/
def State.dabUnit (m i : Nat) (u : AudioUnit) (s : State) : State :=
  let first := s.unitFirst m i u
  let s := s.takeFrames m i u.taken
  let s := if u.broken then s.bump (ddec m 0x0C) else s
  if !u.bad (s.voice (8 * m + i)).erased then
    let s := (s.setNat (ddec m (8 + i)) u.codecByte).setSlotState m i 2
    let s := s.speak m i fun v => v.good first u
    if bitOf (s.nat (ddec m 0x0D)) i then s.pushPads m i (s.voice (8 * m + i)).instant u.pads else s
  else if s.nat (ddec m (6 + i)) = 1 then s.silenceVoice m i dabLag
  else ((s.bump (ddec m (0x0A + i))).setSlotState m i 3).speak m i fun v => v.conceal first

/-- DAB_ACCESS_UNIT (R193 to R195): a running decoder handles one access unit of a slot, or has none at present. A slot in state 0, 1, 4
or 5 carries silence. -/
def execDabAccessUnit (engine slot : Nat) (unit : Option AudioUnit) (s : State) : Host.Outcome State Fault Refusal :=
  .next <|
    if s.runs engine 0x0201 ∧ slot < 2 then
      let st := s.nat (ddec engine (6 + slot))
      match if st = 1 ∨ st = 2 ∨ st = 3 then unit else none with
      | some u =>
        if (s.slotSub engine slot).any fun c => u.taken ≤ c.2.queue.length then s.dabUnit engine slot u else s
      | none => if st = 2 ∨ st = 3 then s else s.silenceVoice engine slot dabLag
    else s

/-- DAB_PACKET_GROUP (R196): packets of an enabled filter end a data group. A group with a bad CRC, or one that lost a
packet, is counted in error; a full FIFO of 65,536 bytes drops it. -/
def execDabPacketGroup (engine filter instant : Nat) (crcPresent crcGood lost : Bool) (data : Bytes) (s : State) :
    Host.Outcome State Fault Refusal :=
  .next <|
    if s.dabRuns engine ∧ s.dabState engine = 4 ∧ filter < 8 ∧ bitOf (s.nat (ddat engine (1 + filter))) 31 then
      if lost || (crcPresent && !crcGood) then s.bump (ddat engine 0x0B)
      else
        let d := s.dab engine
        let r := s.pushBytes (ddat engine 9) 65536 (dataRecord instant d.dataSeq filter crcPresent 0 data)
        if r.2 then (r.1.bump (ddat engine 0x0C)).countDrop (0x200 + engine) 4
        else r.1.setDab engine { d with dataSeq := (d.dataSeq + 1) % 65536 }
    else s

/-! ### Announcements -/

/-- An announcement event (R197), when its flags meet the mask or it is the alarm cluster. -/
def State.annEvent (e cluster flags subch : Nat) (s : State) : State :=
  if cluster = 0xFF ∨ flags &&& s.nat (dann e 1) ≠ 0 then
    s.raise 16 1 (0x200 + e) [(1, cluster), (2, flags), (1, subch)]
  else s

/-- ANNOUNCEMENT_START (R197, R229): the switching flags that FIG 0/19 signals of a cluster are non-zero, and new or changed. -/
def execAnnouncementStart (engine cluster : Nat) (s : State) : Host.Outcome State Fault Refusal :=
  .next <|
    let d := s.dab engine
    let (at_, flags, subch, new) := Map.get (fun _ => (0, 0, 0, 0)) d.annSeen cluster
    if s.dabRuns engine ∧ s.dabState engine = 4 ∧ flags ≠ 0 ∧ s.gnomon < at_ + 307200000 then
      let had := d.anns.find? fun a => a.1 == cluster
      if had = some (cluster, flags, subch, new) then s
      else
        let s := (s.setDab engine { d with
          anns := (d.anns.filter fun a => a.1 != cluster) ++ [(cluster, flags, subch, new)] }).publishAnns engine
        let s := s.annEvent engine cluster flags subch
        if had.isSome then s
        else s.followAnnouncement (s.nat 0x480003 == 1 && (s.dab engine).services.any fun v =>
          v.comp.sid == s.nat 0x480002 && v.asu &&& flags != 0)
    else s

/-- ANNOUNCEMENT_END (R197): the cluster's flags are zero, or FIG 0/19 has not carried it for 2 s. -/
def execAnnouncementEnd (engine cluster : Nat) (s : State) : Host.Outcome State Fault Refusal :=
  .next <|
    let d := s.dab engine
    let (at_, flags, _) := Map.get (fun _ => (0, 0, 0, 0)) d.annSeen cluster
    match d.anns.find? fun a => a.1 == cluster with
    | none => s
    | some a =>
      if s.dabRuns engine ∧ (flags = 0 ∨ at_ + 307200000 ≤ s.gnomon) then
        ((s.setDab engine { d with anns := d.anns.filter fun a => a.1 != cluster }).publishAnns engine).annEvent
          engine cluster a.2.1 a.2.2.1
      else s

/-! ### Configuration and objects -/

/-- The rules of R193 and R196 for writes: both slots of a decoder never name one service; packet filters keep their zero
bits zero and never name one SubChId and address twice. -/
def State.dabRule (s : State) (key : Nat) (v : Int) : Nat :=
  let idx := key / 256
  let sub := key % 256
  if 0x4480 ≤ idx ∧ idx ≤ 0x448B ∧ 2 ≤ sub ∧ sub ≤ 5 then
    let g := fun k => if k = sub then v.toNat else s.nat (obj idx k)
    refuseIf (g 2 != 0 && g 2 == g 4 && g 3 == g 5) 0x0F01
  else if 0x4450 ≤ idx ∧ idx ≤ 0x445B ∧ 1 ≤ sub ∧ sub ≤ 8 then
    let n := v.toNat
    let same := fun k => k + 1 != sub && bitOf (s.nat (obj idx (k + 1))) 31
      && s.nat (obj idx (k + 1)) % 64 == n % 64 && s.nat (obj idx (k + 1)) / 65536 % 1024 == n / 65536 % 1024
    refuseIf (n / 64 % 1024 != 0 || n / 67108864 % 32 != 0 || (bitOf n 31 && (List.range 8).any same)) 0x0F01
  else if 0x4430 ≤ idx ∧ idx ≤ 0x443B ∧ sub = 3 then refuseIf (decide (15 < v)) 0x0F01
  else 0

end Sys2Proof.Machine
end

