-- ==== Sys2Proof/Machine/AmDrm.lean ====
section
/-!
DEFINITION. Machine/AmDrm.lean: AM reception, DRM reception and DRM audio (spec/11_am_drm.md).
-/
namespace Sys2Proof.Machine

/-- The keys of engine e's AM settings and metrics. -/
abbrev amk (e sub : Nat) : Nat := obj (0x4600 + e) sub
abbrev amm (e sub : Nat) : Nat := obj (0x4620 + e) sub

/-- The keys of a DRM receiver's objects and of a DRM decoder's. -/
abbrev rk (e sub : Nat) : Nat := obj (0x4700 + e) sub
abbrev rq (e sub : Nat) : Nat := obj (0x4710 + e) sub
abbrev rsi (e sub : Nat) : Nat := obj (0x4720 + e) sub
abbrev ralt (e sub : Nat) : Nat := obj (0x4730 + e) sub
abbrev rdat (e sub : Nat) : Nat := obj (0x4740 + e) sub
abbrev rdec (m sub : Nat) : Nat := obj (0x4780 + m) sub

/-! ### AM -/

/-- Whether the bandwidth is chosen automatically (R203): bandwidth mode 1 in modes 0 and 1. -/
def State.amAutomatic (s : State) (e : Nat) : Bool := s.nat (amk e 2) == 1 && decide (s.nat (amk e 1) ≤ 1)

/-- A bandwidth asked for (R109, R203): a fade begins, or the request waits for the one in progress. -/
def State.amAsk (e b : Nat) (s : State) : State :=
  let a := s.am e
  match a.fade with
  | some _ => s.setAm e { a with wanted := some b }
  | none => if a.width = b then s else s.setAm e { a with fade := some ⟨a.width, b, a.dem.next⟩ }

/-- A fade of 960 samples that has ended: its bandwidth is in force, and a pending request begins its own (R109). -/
def State.amSettle (e : Nat) (s : State) : State :=
  let a := s.am e
  let s := match a.fade with
    | some f =>
      if f.began + 960 ≤ a.dem.next then
        let s := (s.setAm e { a with width := f.new, fade := none, wanted := none }).setNat (amm e 6) f.new
        match a.wanted with
        | some b => s.amAsk e b
        | none => s
      else s
    | none => s
  if s.amAutomatic e then s else s.amAsk e (s.nat (amk e 3))

/-- The cold start of an AM receiver at the sample it demodulates next (R207). -/
def State.amColdStart (e : Nat) (s : State) : State :=
  let b := if s.amAutomatic e then 3000 else s.nat (amk e 3)
  let d := (s.am e).dem
  let s := s.setAm e { Am.init with width := b, judgedAt := d.next, dem := d.cold d.next (s.nat (amk e 8)) }
  let s := s.setAll [(amm e 1, 0), (amm e 2, 0), (amm e 3, 0), (amm e 4, -1000), (amm e 5, -1000), (amm e 6, b), (amm e 7, 20),
    (amm e 8, 0)]
  if s.resSeq (amm e 0x0B) = 0 then s else s.await (amm e 0x0B)

/-- AM_PLLLOCK_CHANGE (R202): locked once the rms phase error has stayed below 10° for 50 ms, unlocked once above 30° for 50 ms. -/
def execAmPlllockChange (engine : Nat) (s : State) : Host.Outcome State Fault Refusal :=
  .next <|
    let d := (s.am engine).dem
    if s.runs engine 0x0102 then
      if s.nat (amm engine 8) = 0 ∧ 50 ≤ d.near then s.setNat (amm engine 8) 1
      else if s.nat (amm engine 8) = 1 ∧ 50 ≤ d.far then s.setNat (amm engine 8) 0
      else s
    else s

/-- The bandwidth of each step of R203, widest first. -/
def amWidth (raster i : Nat) : Nat :=
  match i with
  | 0 => min 10000 (raster * 1000)
  | 1 => 6000
  | 2 => 4500
  | _ => 3000

/-- AM_BANDWIDTH_JUDGE (R203): every 50 ms in automatic mode, from the larger adjacent figure of the last 1 ms in 0.1 dB; a wider
bandwidth only 3 dB below the boundary. -/
def execAmBandwidthJudge (engine : Nat) (s : State) : Host.Outcome State Fault Refusal :=
  .next <|
    match (s.am engine).dem.ms.getLast? with
    | none => s
    | some x =>
    let adjacent := max x.upper x.lower
    if s.runs engine 0x0102 ∧ s.amAutomatic engine ∧ (s.am engine).judgedAt + 2400 ≤ (s.am engine).dem.next then
      let s := s.amSettle engine
      let a := s.am engine
      let s := s.setAm engine { a with judgedAt := a.dem.next }
      let r := s.nat (amk engine 4)
      let now := a.wanted.getD ((a.fade.map (·.new)).getD a.width)
      let present := ((List.range 4).find? fun i => decide (amWidth r i ≤ now)).getD 3
      let steps := fun (x : Int) (strict : Bool) =>
        ([-300, -200, -100].filter fun (b : Int) => if strict then decide (b < x) else decide (b ≤ x)).length
      let narrow := steps adjacent false
      let wide := steps (adjacent + 30) true
      let i := if present < narrow then narrow else if wide < present then wide else present
      s.amAsk engine (amWidth r i)
    else s

/-- The mean of a metric over the 1 ms figures of a publication. -/
def meanAm (ms : List AmFigures) (g : AmFigures → Int) : Int := roundRat (meanOf (ms.map fun x => ((g x : Int) : Rat)))

/-- AM_METRICS_PUBLISH (R206, R207): every 10 ms the means of the period, the modulation depth over the last 100 ms, and the
snapshot. -/
def execAmMetricsPublish (engine : Nat) (s : State) : Host.Outcome State Fault Refusal :=
  .next <|
    let ms := (s.am engine).dem.ms
    match ms.getLast? with
    | none => s
    | some x =>
      if s.runs engine 0x0102 ∧ ms.length = 10 then
        let s := s.amSettle engine
        let a := s.am engine
        let depth := (roundRat (quot (100 * a.dem.peaks.foldl max 0) a.dem.carrier)).toNat
        let s := s.setAm engine { a with dem := { a.dem with ms := [] } }
        let s := s.setAll [(amm engine 1, meanAm ms AmFigures.level), (amm engine 2, meanAm ms AmFigures.offset),
          (amm engine 3, min 150 depth), (amm engine 4, meanAm ms AmFigures.upper), (amm engine 5, meanAm ms AmFigures.lower),
          (amm engine 6, a.width), (amm engine 7, roundRat a.dem.mute)]
        s.issue (amm engine 0x0B) (leNat 8 x.end_
          ++ ([(1, 2), (2, 2), (3, 1), (4, 2), (5, 2), (6, 2), (7, 1), (8, 1)].flatMap fun p =>
            leInt p.2 (s.num (amm engine p.1))) ++ [0])
      else s

/-- NOISE_BLANKER_SUSPEND (R204): more than 20 % of the samples of the last 100 ms are impulses, or the carrier is below 20 dBµV: no
blanking for the next 100 ms. -/
def execNoiseBlankerSuspend (engine : Nat) (s : State) : Host.Outcome State Fault Refusal :=
  .next <|
    let a := s.am engine
    let many := 5 * ((lastN 4800 a.dem.zs).filter (·.hit)).length > 4800
    let low := a.dem.ms.getLast?.any fun x => decide (x.level < 200)
    if s.runs engine 0x0102 ∧ s.nat (amk engine 5) = 1 ∧ (many ∨ low) then
      s.setAm engine { a with suspendedUntil := a.dem.next + 4800 }
    else s

/-- The settings in force of an AM engine. -/
def State.amSettings (s : State) (e : Nat) : AmSettings :=
  let a := s.am e
  let gain := match s.inputA e with
    | some n => s.cnum (ck n 0x0F)
    | none => 0
  ⟨s.nat (amk e 1), a.width, a.fade, s.nat (amk e 6), s.nat (amk e 9) == 1, gain, s.nat (amk e 4), s.num (amk e 7), s.nat (amk e 8)⟩

/-- Whether the noise blanker acts (R204). -/
def State.amBlanks (s : State) (e : Nat) : Bool :=
  s.nat (amk e 5) == 1 && decide ((s.am e).suspendedUntil ≤ (s.am e).dem.next)

/-- The next sample demodulated, behind the cold start that is due there; the first sample of an impulse run is counted. -/
def State.amStep (e : Nat) (s : State) : State :=
  match (s.am e).dem.waiting with
  | [] => s
  | x :: rest =>
    let s := s.setAm e { s.am e with dem := { (s.am e).dem with waiting := rest, next := x.i } }
    let s := if (s.am e).dem.marks.coldDue x.i x.i then s.amColdStart e else s
    let a := s.am e
    let d := a.dem.step (s.amSettings e) x
    let hits := (lastN 2 d.zs).map (·.hit)
    let s := s.setAm e { a with dem := d }
    if hits.getLast? = some true ∧ hits.head? = some false ∧ s.amBlanks e then s.bump (amm e 9) else s

/-- The slots of audio that are ready put into the engine's queue (R201): a frame is emitted behind the look-ahead of 240 samples; at
the end of the stream every frame is. -/
def State.amEmit (e : Nat) (ended : Bool) (s : State) : State :=
  let d := (s.am e).dem
  let count := if ended then (d.next - d.frame + 63) / 64 else (d.next - 240 - d.frame) / 64
  (List.range count).foldl (fun s _ =>
    let a := s.am e
    let r := a.dem.slot (s.nat (amm e 8) == 1 && s.nat (amk e 1) != 0) (s.amBlanks e)
    (s.setAm e { a with dem := r.1 }).pushPcm e 0 r.2) s

/-- The demodulator run over the samples in hand. -/
def State.amRun (e : Nat) (ended : Bool) (s : State) : State :=
  let s := (List.range (s.am e).dem.waiting.length).foldl (fun s _ => (s.amSettle e).amStep e) s
  s.amEmit e ended

/-- The end of an AM engine's stream, at a hold (R155, R205). -/
def State.amFlush (e : Nat) (s : State) : State :=
  let d := (s.am e).dem
  (s.setAm e { s.am e with dem := { d with marks := d.marks.close (3200 * d.next) } }).amRun e true

/-- AM_BLOCK_PROCESS (R201, R204, R205, R207): the engine takes the oldest block of its chain: its markers are set before the
demodulator, clock-fault spans are counted, and its samples are demodulated. -/
def execAmBlockProcess (engine chain : Nat) (s : State) : Host.Outcome State Fault Refusal :=
  .next <|
    match if s.runs engine 0x0102 then s.takeBlock engine chain else none with
    | none => s
    | some (b, s) =>
      let ms := blockMarkers 3200 b
      let d := (s.am engine).dem
      let s := if ms.any fun m => m.kind == 7 && !d.marks.faulted m.at_ then s.bump (amm engine 0x0A) else s
      let d : AmDemod := match ms.find? fun m => m.kind == 1 with
        | some m => { d with ys := [], zs := [], frame := m.at_, dc := 0 }
        | none => d
      let d : AmDemod := { d with
        waiting := d.waiting ++ blockSamples 3200 b ms
        marks := ms.foldl (fun k m => k.mark 3200 0 (s.windowOf chain m) m) d.marks }
      (s.setAm engine { s.am engine with dem := d }).amRun engine false

/-! ### DRM -/

/-- Whether engine e runs a DRM receiver. -/
def State.drmRuns (s : State) (e : Nat) : Bool := s.runs e 0x0104 || s.runs e 0x0105

/-- The state of R209. -/
def State.drmState (s : State) (e : Nat) : Nat := s.nat (rk e 1)

/-- The ticks of a DRM transmission frame by the mode in force (R208), 1 to 5 for A to E. -/
def drmFrameTicks (mode : Nat) : Nat := if mode = 5 then 15360000 else 61440000

/-- The symbols of a frame (R208). -/
def drmSymbols (mode : Nat) : Nat := nthD [15, 15, 15, 20, 24, 40] mode 15

/-- The ticks of a symbol (R208). -/
def drmSymbolTicks (mode : Nat) : Nat := drmFrameTicks mode / drmSymbols mode

/-- The frames of the long interleave (R208). -/
def drmDepth (mode : Nat) : Nat := if mode = 5 then 6 else 5

/-- A change of receiver state, with its event and counts (R209); the kept cells are discarded in states 1 and 2 (R210), and frame
start reads 0 outside states 3 to 5. -/
def State.setDrmState (e new : Nat) (s : State) : State :=
  let old := s.drmState e
  if old = new then s
  else
    let s := (s.setNat (rk e 1) new).setDrm e { s.drm e with
      since := s.gnomon, leader := none, lastSync := none, goodRun := 0, badRun := 0 }
    let s := if new = 4 then (s.bump (rk e 8)).setDrm e { s.drm e with superFrames := 0 } else if new = 5 then s.bump (rk e 9) else s
    let s := if new ≤ 2 then
        (s.setDrm e { s.drm e with kept := none, keptCells := [], starts := [], frames := 0, slots := [] }).setNat (rk e 0x0A) 0
      else s
    s.raise 17 1 (0x200 + e) [(1, old), (1, new)]

/-- The state a DRM receiver begins in (R209, R216): 2 with a fixed mode and for DRM+, else 1. -/
def State.drmFirst (s : State) (e : Nat) : Nat :=
  if (s.engine e).image = 0x0105 ∨ s.cnat (rk e 2) ≠ 0 then 2 else 1

/-- A DRM receiver back in its first state (R209): the mode in force is the fixed one, E for DRM+, or none. -/
def State.drmRestart (e : Nat) (s : State) : State :=
  let mode := if (s.engine e).image = 0x0105 then 5 else s.cnat (rk e 2)
  (s.setDrmState e (s.drmFirst e)).setNat (rk e 3) mode

/-- The service table published (R212). -/
def State.publishDrmSi (e : Nat) (s : State) : State :=
  let d := s.drm e
  let n := (d.siSeq + 1) % 65536
  let s := s.setDrm e { d with siSeq := n }
  s.setBytes (rsi e 1) (leNat 2 n ++ [d.services.length, boolNat d.siComplete, 0, 0, 0, 0] ++ d.services.flatMap fun v =>
    leNat 4 v.id ++ [v.short, v.kind, v.coding, v.flags, v.type, v.stream, 0, 0] ++ padTo 64 v.label)

/-- The alternative table published (R213). -/
def State.publishAlternatives (e : Nat) (s : State) : State :=
  let d := s.drm e
  let n := (d.altSeq + 1) % 65536
  let s := s.setDrm e { d with altSeq := n }
  s.setBytes (ralt e 1) (leNat 2 n ++ [d.alternatives.length, 0] ++ d.alternatives.flatMap fun a =>
    leNat 4 a.kHz ++ [a.system, a.flags] ++ leNat 4 a.id ++ [a.region, a.schedule])

/-- The decoders of a DRM receiver, ascending. -/
def State.drmDecoders (s : State) (e : Nat) : List Nat :=
  (List.range 12).filter fun m => s.runs m 0x0202 && s.cnat (rdec m 1) == 0x200 + e

/-- The state a DRM decoder takes from the receiver's tables (R193, R215). -/
def State.drmSlotState (s : State) (m : Nat) : Nat :=
  let id := s.drmSelection m
  let e := s.cnat (rdec m 1) - 0x200
  let now := s.nat (rdec m 3)
  if id = 0 then 0
  else if s.drmState e ≠ 4 ∧ !(s.drmState e = 5 ∧ (now = 2 ∨ now = 3)) then 1
  else match (s.drm e).services.find? fun v => v.id == id with
    | none => if (s.drm e).siComplete then 4 else 1
    | some v => if v.flags % 2 = 1 ∨ v.kind ≠ 0 then 5 else if now = 2 ∨ now = 3 then now else 1

/-- Every decoder of a receiver judged again. -/
def State.judgeDrm (e : Nat) (s : State) : State :=
  (s.drmDecoders e).foldl (fun s m => s.setNat (rdec m 3) (s.drmSlotState m)) s

/-- The cold start of a DRM receiver (R216). -/
def State.drmColdStart (e : Nat) (s : State) : State :=
  let d := s.drm e
  let s := s.drmRestart e
  let s := s.setDrm e { Drm.init with since := (s.drm e).since, siSeq := d.siSeq, altSeq := d.altSeq, dataSeq := d.dataSeq }
  let s := s.setAll [(rk e 4, 0xFF), (rk e 5, 0), (rk e 6, 0), (rk e 0x0A, 0), (rq e 1, 0), (rq e 2, 0), (rq e 3, 0),
    (rq e 4, 100), (rq e 5, 100), (rq e 7, 0), (rq e 8, 0)]
  let s := if s.resSeq (rq e 9) = 0 then s else s.await (rq e 9)
  let s := (s.publishDrmSi e).publishAlternatives e
  (s.drmDecoders e).foldl (fun s m =>
    (s.setNat (rdec m 3) (if s.drmSelection m = 0 then 0 else 1)).speak m 0 Voice.restart) s

/-- DRM_MODE_FOUND (R209): a mode, 1 to 4 for A to D, leads the guard correlation of the 200 ms window that ended last; one that leads
two windows in succession is found. A fixed mode setting stays in force. -/
def execDrmModeFound (engine mode : Nat) (s : State) : Host.Outcome State Fault Refusal :=
  .next <|
    let d := s.drm engine
    let window := (s.gnomon - d.since) / 30720000
    if s.drmRuns engine ∧ s.drmState engine = 1 ∧ 1 ≤ mode ∧ mode ≤ 4 ∧ 1 ≤ window ∧ d.leader.all fun l => decide (l.2 < window) then
      if d.leader = some (mode, window - 1) then
        (s.setDrmState engine 2).setNat (rk engine 3) (if s.cnat (rk engine 2) = 0 then mode else s.cnat (rk engine 2))
      else s.setDrm engine { d with leader := some (mode, window) }
    else s

/-- Whether a frame start follows another by one frame, within a sample at 48 kS/s (R209; DESIGN CHOICE, notes/assumptions/142.md). -/
def nextFrame (frame before at_ : Nat) : Bool := decide (before + frame ≤ at_ + 3200) && decide (at_ ≤ before + frame + 3200)

/-- DRM_FRAME_SYNC (R209, R210): the time-reference cells correlate in a frame that began after the entry to state 2, with an offset
within the pull-in of R217; with the second such frame in succession, state 3. -/
def execDrmFrameSync (engine frameStart : Nat) (offset : Int) (s : State) : Host.Outcome State Fault Refusal :=
  .next <|
    let pull : Int := if (s.engine engine).image = 0x0105 then 2000 else 300
    let d := s.drm engine
    if s.drmRuns engine ∧ s.drmState engine = 2 ∧ -pull ≤ offset ∧ offset ≤ pull ∧ d.since ≤ frameStart then
      if d.lastSync.any fun b => nextFrame (drmFrameTicks (s.nat (rk engine 3))) b frameStart then
        let s := ((s.setDrmState engine 3).setNum (rk engine 6) offset).setNat (rk engine 0x0A) frameStart
        s.setDrm engine { s.drm engine with kept := some frameStart }
      else s.setDrm engine { d with lastSync := some frameStart }
    else s

/-- Whether a receiver supports what the FAC gives (R208): occupancies 0 to 3; 16- and 64-QAM in modes A to D, 4- and 16-QAM
in mode E. -/
def facSupported (plus : Bool) (occupancy constellation : Nat) : Bool :=
  decide (occupancy ≤ 3) && (if plus then constellation == 1 || constellation == 2
    else constellation == 2 || constellation == 3)

/-- The soft values of a frame formed with the constellation in force and put into its frame slot (R210, R249); its erasures are
counted. -/
def State.storeFrame (e start : Nat) (cells : List (Option DrmCell)) (s : State) : State :=
  let c := s.nat (rk e 5)
  let d := s.drm e
  let soft := cells.flatMap (drmSoft c)
  (s.setDrm e { d with
    slots := Map.put (fun _ => []) d.slots (d.frames % (drmDepth (s.nat (rk e 3)) + 1)) (soft.map softCode)
    frames := d.frames + 1, starts := d.starts ++ [start] }).bumpBy (rq e 6) (soft.filter (· == -32)).length

/-- The code bytes of a frame slot as they lie in shared memory (R249). -/
def Drm.slotBytes (d : Drm) (slot : Nat) : Bytes := sb4Bytes (Map.get (fun _ => []) d.slots slot)

/-- DRM_FAC_ACQUIRED (R209, R210): from state 3 after two good FACs, or from state 5 after one, into state 4; the soft values of the kept
frames are formed with the constellation that the FAC gives. -/
def execDrmFacAcquired (engine occupancy constellation : Nat) (s : State) : Host.Outcome State Fault Refusal :=
  .next <|
    let plus := (s.engine engine).image == 0x0105
    let d := s.drm engine
    if s.drmRuns engine ∧ (s.drmState engine = 3 ∧ 2 ≤ d.goodRun ∨ s.drmState engine = 5 ∧ 1 ≤ d.goodRun)
        ∧ facSupported plus occupancy constellation then
      let s := ((s.setDrmState engine 4).setNat (rk engine 4) occupancy).setNat (rk engine 5) constellation
      let s := d.keptCells.foldl (fun s f => s.storeFrame engine f.1 f.2) (s.setDrm engine { s.drm engine with keptCells := [] })
      s.judgeDrm engine
    else s

/-- A DRM receiver loses sync (R209, R211). -/
def State.drmLose (e : Nat) (s : State) : State := (s.setDrmState e 5).judgeDrm e

/-- DRM_SYNC_LOST (R209): 5 bad FACs in succession, or the frame timing is lost. -/
def execDrmSyncLost (engine : Nat) (timing : Bool) (s : State) : Host.Outcome State Fault Refusal :=
  .next (if s.drmRuns engine ∧ s.drmState engine = 4 ∧ (timing ∨ 5 ≤ (s.drm engine).badRun) then s.drmLose engine else s)

/-- DRM_LOST_TIMEOUT (R209, R216). -/
def execDrmLostTimeout (engine : Nat) (s : State) : Host.Outcome State Fault Refusal :=
  .next (if s.drmRuns engine ∧ s.drmState engine = 5 ∧
      (s.drm engine).since + s.nat (rk engine 7) * msTicks ≤ s.gnomon then s.drmColdStart engine else s)

/-- DRM_ACQUISITION_FAIL (R209): 4 frames without frame sync, or 10 without the FAC: back to state 1, which DRM+ skips; the mode in force
is again the setting's, or none. -/
def execDrmAcquisitionFail (engine : Nat) (s : State) : Host.Outcome State Fault Refusal :=
  .next <|
    let frames := if s.drmState engine = 2 then 4 else 10
    if s.drmRuns engine ∧ (s.drmState engine = 2 ∨ s.drmState engine = 3)
        ∧ (s.drm engine).since + frames * drmFrameTicks (s.nat (rk engine 3)) ≤ s.gnomon then
      if (s.engine engine).image = 0x0105 then
        if s.drmState engine = 2 then s.setDrm engine { s.drm engine with since := s.gnomon, lastSync := none }
        else s.drmRestart engine
      else (s.setDrmState engine 1).setNat (rk engine 3) (s.cnat (rk engine 2))
    else s

/-- Data groups of DRM data services (R214). -/
def State.pushDrmGroups (e instant : Nat) : List DrmGroup → State → State
  | [], s => s
  | g :: gs, s =>
    let s :=
      if g.crc && !g.good then s.bump (rdat e 3)
      else
        let d := s.drm e
        let r := s.pushBytes (rdat e 1) 65536 (dataRecord instant d.dataSeq g.stream g.crc (g.app % 256) g.data)
        if r.2 then (r.1.bump (rdat e 2)).countDrop (0x200 + e) 5
        else r.1.setDrm e { d with dataSeq := (d.dataSeq + 1) % 65536 }
    State.pushDrmGroups e instant gs s

/-- How long after its instant a DRM frame may be queued (R215). -/
def State.drmLag (s : State) (m : Nat) : Nat :=
  if (s.engine (s.cnat (rdec m 1) - 0x200)).image = 0x0105 then 115200000 else 330240000

/-- One access unit of a DRM decoder (R215, R195). -/
def State.drmUnit (m : Nat) (first : Option Nat) (u : AudioUnit) (s : State) : State :=
  if !u.bad false then
    ((s.setNat (rdec m 4) u.codecByte).setNat (rdec m 3) 2).speak m 0 fun v => v.good first u
  else if s.nat (rdec m 3) = 1 then s
  else ((s.bump (rdec m 5)).setNat (rdec m 3) 3).speak m 0 fun v => v.conceal first

/-- A decoder takes the oldest MSC frame queued (R215): the first frame of its audio super frame stands on the first grid instant at or
after the MSC frame's nominal instant. -/
def State.drmDecode (m e : Nat) (units : List AudioUnit) (s : State) : State :=
  let st := s.nat (rdec m 3)
  let d := s.drm e
  match d.queue with
  | [] => if st = 2 ∨ st = 3 then s else s.silenceVoice m 0 (s.drmLag m)
  | q :: rest =>
    let s := s.setDrm e { d with queue := rest }
    if st = 1 ∨ st = 2 ∨ st = 3 then
      let s := (units.zipIdx).foldl (fun s u => s.drmUnit m (if u.2 = 0 then some ((q.1 + 3199) / 3200) else none) u.1) s
      if s.nat (rdec m 3) = 1 then s.silenceVoice m 0 (s.drmLag m) else s
    else s.silenceVoice m 0 (s.drmLag m)

/-- MSC frames queued that the frames received complete (R210): the oldest one with each full long interleave; a queue of 32,768 bytes
without room drops it. -/
def State.queueMsc (e depth : Nat) (groups : List DrmGroup) : List Bytes → State → State
  | [], s => s
  | f :: fs, s =>
    let d := s.drm e
    match d.starts with
    | [] => s
    | at_ :: rest =>
      if d.starts.length < depth then s
      else
        let room := (d.queue.foldl (fun t q => t + q.2.length) 0) + f.length
        let s := s.setDrm e { d with starts := rest }
        let s := if room ≤ 32768 then s.setDrm e { s.drm e with queue := d.queue ++ [(at_, f)] }
          else s.countDrop (0x200 + e) 5
        State.queueMsc e depth groups fs (if fs = [] then s.pushDrmGroups e at_ groups else s)

/-- The step in ticks of the grid of an engine's input. -/
def State.inputStep (s : State) (e : Nat) : Nat :=
  match (s.inputs e).head? with
  | some n => (s.gridStep n).1 / (s.gridStep n).2
  | none => 1

/-- The cells of a frame but for those of the symbols that markers conceal (R211). -/
def State.clearCells (s : State) (e start : Nat) (cells : List (Option DrmCell)) : List (Option DrmCell) :=
  let t := drmSymbolTicks (s.nat (rk e 3))
  cells.map fun c => c.filter fun x => !(s.drm e).intake.conceals (s.inputStep e) (start + t * x.symbol) (start + t * (x.symbol + 1))

/-- The percentage of bad ones among the latest checks; 100 before the first. -/
def badRate (xs : List Bool) : Nat := if xs = [] then 100 else 100 * (xs.filter (! ·)).length / xs.length

/-- The quality metrics of a frame and their snapshot (R211). -/
def State.drmMetrics (e start doppler spread : Nat) (cells : List (Option DrmCell)) (s : State) : State :=
  let d := s.drm e
  let step := s.inputStep e
  let stop := start + drmFrameTicks (s.nat (rk e 3))
  let c := s.nat (rk e 5)
  let xs := (d.intake.between step start stop).filter fun x => !d.intake.spans.any fun f => spanHolds f (step * x.i)
  let g := s.inputScale e
  let mer := fun (w : Bool) => merOf ((cells.filterMap id).foldl (fun (t : Rat × Rat) x =>
    let p := drmPoint c w x
    (t.1 + p.1, t.2 + p.2)) (0, 0))
  let t := drmSymbolTicks (s.nat (rk e 3))
  let clipped := ((List.range (drmSymbols (s.nat (rk e 3)))).filter fun l =>
    (d.intake.between step (start + t * l) (start + t * (l + 1))).any (·.clipped)).length
  let s := s.setAll [(rk e 0x0A, start), (rq e 1, levelOf xs g.1 (if (s.engine e).image = 0x0105 then g.2 else 12000)),
    (rq e 4, badRate d.facs), (rq e 5, badRate d.sdcs), (rq e 7, doppler), (rq e 8, spread)]
  let s := if c = 0 then s else s.setAll [(rq e 2, mer false), (rq e 3, mer true)]
  let s := s.bumpBy (rq e 6) clipped
  s.issue (rq e 9) (leNat 8 stop
    ++ ([(1, 2), (2, 2), (3, 2), (4, 1), (5, 1), (7, 2), (8, 2)].flatMap fun p => leInt p.2 (s.num (rq e p.1)))
    ++ [s.drmState e, 0])

/-- DRM_MSC_FRAME (R209 to R211, R214, R215): a transmission frame ends: whether its FAC was good, its MSC cells as equalised, kept in
state 3 and turned into soft values afterwards; the metrics and the snapshot; the MSC frames that it completes, with the data groups of
the last one; and the access units of the decoder named. -/
def execDrmMscFrame (engine frameStart : Nat) (facGood : Bool) (cells : List (Option DrmCell)) (doppler spread : Nat)
    (frames : List Bytes) (groups : List DrmGroup) (decoder : Nat) (units : List AudioUnit) (s : State) :
    Host.Outcome State Fault Refusal :=
  .next <|
    let st := s.drmState engine
    if s.drmRuns engine ∧ 3 ≤ st then
      let clear := s.clearCells engine frameStart cells
      let d := s.drm engine
      let s := s.setDrm engine { d with
        facs := lastN 100 (d.facs ++ [facGood]), goodRun := if facGood then d.goodRun + 1 else 0
        badRun := if facGood then 0 else d.badRun + 1
        keptCells := if st = 3 ∧ d.kept.any (decide <| · ≤ frameStart) then d.keptCells ++ [(frameStart, clear)] else d.keptCells }
      let s := if st = 3 then s else s.storeFrame engine frameStart clear
      let s := s.drmMetrics engine frameStart doppler spread clear
      let s := s.queueMsc engine (drmDepth (s.nat (rk engine 3))) groups frames
      if (s.drmDecoders engine).contains decoder then s.drmDecode decoder engine units else s
    else s

/-- The schedule verdict of one alternative (R213): bit 3 in schedule now, bit 4 unknown while there is no UTC. -/
def State.scheduleFlags (s : State) (schedules : List DrmSchedule) (a : DrmAlternative) : DrmAlternative :=
  let base := a.flags % 8
  if !bitOf a.flags 2 then { a with flags := base }
  else if s.nat 0x200304 = 0 then { a with flags := base + 24 }
  else
    let minute := (s.utcAt s.gnomon / 60000 + 3 * 1440) % 10080
    let now := schedules.any fun c => c.id == a.schedule && (List.range 7).any fun d =>
      bitOf c.days d && decide ((minute + 10080 - (d * 1440 + c.start) % 10080) % 10080 < c.length)
    { a with flags := base + (if now then 8 else 0) }

/-- DRM_SDC_DECODE (R211 to R213, R59): at the end of a super frame, whether the SDC's CRC was good; the services, alternatives and
schedules it leaves known, and its time and date with the start of its super frame. -/
def execDrmSdcDecode (engine superStart : Nat) (good : Bool) (services : List DrmService) (alternatives : List DrmAlternative)
    (schedules : List DrmSchedule) (utc : Option Nat) (half : Int) (s : State) : Host.Outcome State Fault Refusal :=
  .next <|
    if s.drmRuns engine ∧ s.drmState engine = 4 then
      let d := s.drm engine
      let n := d.superFrames + 1
      let s := s.setDrm engine { d with superFrames := n, sdcs := lastN 10 (d.sdcs ++ [good]) }
      let services := if good then services.take 4 else d.services
      let alternatives := if good then alternatives else d.alternatives
      let schedules := if good then schedules else d.schedules
      let si := d.siComplete || (services != [] && services.all fun v => v.label != []) || decide (2 ≤ n)
      let alts := (alternatives.take 32).map (s.scheduleFlags schedules)
      let s := s.setDrm engine { s.drm engine with
        siComplete := si, services := services, alternatives := alts, schedules := schedules }
      let s := if services = d.services ∧ si = d.siComplete then s else s.publishDrmSi engine
      let s := if alts = d.alternatives then s else s.publishAlternatives engine
      let s := s.bumpBy (ralt engine 2) (alternatives.length - 32)
      let s := match if good then utc else none with
        | some u => s.utcAnchor 3 superStart u (half * 30)
        | none => s
      s.judgeDrm engine
    else s

/-- DRM_SCHEDULE_EVAL (R213): every minute. -/
def execDrmScheduleEval (engine : Nat) (s : State) : Host.Outcome State Fault Refusal :=
  .next <|
    let d := s.drm engine
    let alts := d.alternatives.map (s.scheduleFlags d.schedules)
    if s.drmRuns engine ∧ alts ≠ d.alternatives then
      (s.setDrm engine { d with alternatives := alts }).publishAlternatives engine
    else s

/-- DRM_SERVICE_SELECT (R215): at an audio super frame the selection written takes effect. -/
def execDrmServiceSelect (engine : Nat) (s : State) : Host.Outcome State Fault Refusal :=
  .next <|
    let want := s.nat (rdec engine 2)
    if s.runs engine 0x0202 ∧ s.drmSelection engine ≠ want then
      let s := ((s.setDrmSelection engine want).setNat (rdec engine 4) 0).setNat (rdec engine 3) (if want = 0 then 0 else 1)
      ((s.disturb fun w => w == 0x200 + engine).setNat (rdec engine 3) (s.drmSlotState engine)).speak engine 0 Voice.leave
    else s

/-- DRM_TEXT_MESSAGE (R215): a complete message replaces the text and raises its sequence. -/
def execDrmTextMessage (engine : Nat) (text : Bytes) (s : State) : Host.Outcome State Fault Refusal :=
  .next (if s.runs engine 0x0202 ∧ text.length ≤ 128 then
    (s.setBytes (rdec engine 6) text).setNat (rdec engine 7) ((s.nat (rdec engine 7) + 1) % 65536) else s)

/-- The rules of chapter 11 for writes: whole steps of 500 Hz; a service ID of 24 bits; no mode setting on DRM+. -/
def State.amDrmRule (s : State) (key : Nat) (v : Int) : Nat :=
  let idx := key / 256
  let sub := key % 256
  if 0x4600 ≤ idx ∧ idx ≤ 0x460B ∧ sub = 3 then refuseIf (v % 500 != 0) 0x1001
  else if 0x4780 ≤ idx ∧ idx ≤ 0x478B ∧ sub = 2 then refuseIf (decide (2 ^ 24 ≤ v)) 0x1101
  else if 0x4700 ≤ idx ∧ idx ≤ 0x470B ∧ sub = 2 then refuseIf ((s.engine (idx - 0x4700)).image == 0x0105) 0x0105
  else 0

end Sys2Proof.Machine
end

