-- ==== Sys2Proof/Machine/Gloaming.lean ====
section
/-!
DEFINITION. Machine/Gloaming.lean: the Gloaming blend (spec/12_following_blend.md, R218 and R230 to R240).
-/
namespace Sys2Proof.Machine

/-! ### Sources -/

/-- The engine a source word names, as its number. -/
def wordEngine (w : Nat) : Nat := w % 65536 - 0x200

/-- Whether a source word is valid for slot i (R218). -/
def State.wordOk (s : State) (i w : Nat) : Bool :=
  let image := (s.engine (wordEngine w)).image
  w == 0 || (w / 131072 == 0 && decide (0x200 ≤ w % 65536) && decide (w % 65536 ≤ 0x20B)
    && (image == 0x0201 || ((image == 0x0101 || image == 0x0102 || image == 0x0202) && w / 65536 == 0))
    && [0, 1, 2].all fun j => j == i || s.slotSource j != w)

/-- The queue bound of a source in ticks (R144, R194, R201, R215). -/
def State.queueBound (s : State) (w : Nat) : Nat :=
  let e := wordEngine w
  let image := (s.engine e).image
  if w = 0 then 0
  else if image = 0x0101 then 958892
  else if image = 0x0102 then 999084
  else if image = 0x0201 then (if s.nat (ddec e (8 + w / 65536 % 2)) % 8 = 1 then 9216000 else 23040000)
  else if (s.engine (s.cnat (rdec e 1) - 0x200)).image = 0x0105 then 115200000
  else 330240000

/-- Λ for an enable now (R230). -/
def State.latency (s : State) : Nat :=
  ([0, 1, 2].foldl (fun m i => max m (s.queueBound (s.slotSource i))) 0) + s.nat 0x49000C * msTicks + msTicks

/-- The frames of a slot's exact tail (R247). -/
def State.tailFrames (s : State) (lambda w : Nat) : Nat := roundUp 1024 ((lambda - s.queueBound w + 3199) / 3200 + 480)

/-- The exact tail of slot i placed for a source (R243, R247); none when it does not fit. -/
def State.placeTail (lambda i w : Nat) (s : State) : Option State :=
  if w = 0 then some s
  else
    let n := s.tailFrames lambda w
    (s.alloc generalPool (6 * n) (w % 65536) 10).map fun p => p.1.setGslot i { p.1.gslot i with tail := some p.2, tailLen := n }

/-- The exact tail of slot i freed. -/
def State.freeTail (i : Nat) (s : State) : State :=
  match (s.gslot i).tail with
  | some b => (s.freeAt b).setGslot i { s.gslot i with tail := none, tailLen := 0 }
  | none => s

/-! ### Fades and builds -/

/-- Whether a fade or a build runs (R235, R239). -/
def State.fading (s : State) : Bool := s.gloaming.fade.isSome || s.gloaming.build.isSome

/-- A blend fade begun (R238): F and F_o from the lengths, the curve and its table copied. -/
def State.startBlend (new lenMs first : Nat) (followBack : Bool) (s : State) : State :=
  let g := s.gloaming
  let f : BlendFade := ⟨s.nat 0x490005, new, 48 * lenMs, 48 * s.nat 0x490009, 0, max first g.next, false, s.nat 0x490008,
    s.bytes 0x49000B, followBack⟩
  let s := { s with gloaming := { g with fade := some f } }
  ((s.setNat 0x490010 (setBit (s.nat 0x490010) 1)).setNat 0x490012 1).setNat 0x490013 0

/-- A blend request (R234, R239): refused unless its slot is locked; held during a fade or build; ignored for the slot in
force. -/
def State.requestBlend (slot lenMs first : Nat) (followBack : Bool) (s : State) : State × Nat :=
  if slot ≤ 2 ∧ s.nat (gk slot 1) ≠ 2 then (s, 0x1302)
  else if s.fading then
    (({ s with gloaming := { s.gloaming with pendingLen := lenMs, pendingBack := followBack } }).setNat 0x490014 slot, 0)
  else if s.nat 0x490005 = slot then (s, 0)
  else (s.startBlend slot lenMs first followBack, 0)

/-- A fade reverse (R238): ignored when no fade runs. -/
def State.reverseBlend (s : State) : State :=
  match s.gloaming.fade with
  | none => s
  | some f =>
    let f := { f with reversing := !f.reversing }
    ({ s with gloaming := { s.gloaming with fade := some f } }).setNat 0x490012 (if f.reversing then 2 else 1)

/-- The end of a fade's course: x at 1, or at 0 while it runs backwards. -/
def BlendFade.ended (f : BlendFade) : Bool :=
  if f.reversing then f.pos == 0 else decide (f.len * f.back ≤ f.pos)

/-- A fade one frame on (R238): forwards by 1/F, backwards by 1/F_o. -/
def BlendFade.advance (f : BlendFade) : BlendFade :=
  if f.reversing then { f with pos := f.pos - f.len } else { f with pos := min (f.len * f.back) (f.pos + f.back) }

/-- The fade weight x × 32,768. -/
def BlendFade.weight (f : BlendFade) : Nat := f.pos * 32768 / max 1 (f.len * f.back)

/-- Whether a build has run its course (R235): 20 ms for a jump, 200 frames for each frame of delay when it stretches. -/
def Build.ended (b : Build) : Bool := if b.stretch then decide (200 * b.share ≤ b.frames) else decide (960 ≤ b.frames)

/-- A build of the slot in force begun (R235); a jump takes its delay at once and is counted. -/
def State.startBuild (share : Nat) (s : State) : State :=
  let stretch := s.nat 0x49000D == 1
  let f := s.nat 0x490005
  let s := { s with gloaming := { s.gloaming with build := some ⟨stretch, 0, share⟩, owed := 0 } }
  let s := s.setNat 0x490010 (setBit (s.nat 0x490010) 3)
  if stretch then s else (s.setNat (gk f 3) (s.nat (gk f 3) + share)).bump 0x490016

/-- An EQ fade begun on a slot (R237): it runs on the contents that the bank entered holds now. -/
def State.startEq (i bank : Nat) (s : State) : State :=
  let g := s.gslot i
  let g := if bank = 0 then { g with eqA := [] } else { g with eqB := [] }
  (s.setGslot i { g with eqFade := some ⟨bank, s.bytes (gk i (0x0A + bank)), 48 * s.nat (gk i 0x0C), 0⟩ }).setNat (gk i 8) 0xFF

/-- An EQ select (R109, R237): held during a blend fade, a build and the slot's own EQ fade; ignored for the bank in force.
While Gloaming is disabled no fade can run and the bank changes at once. -/
def State.selectEq (i bank : Nat) (s : State) : State :=
  if !s.blending then s.setNat (gk i 7) bank
  else if s.fading || (s.gslot i).eqFade.isSome then s.setNat (gk i 8) bank
  else if s.nat (gk i 7) = bank then s
  else s.startEq i bank

/-- Pending EQ selects start when nothing holds them (R109, R237). -/
def State.startPendingEq (s : State) : State :=
  if s.fading then s
  else [0, 1, 2].foldl (fun s i =>
    let p := s.nat (gk i 8)
    if p = 0xFF ∨ (s.gslot i).eqFade.isSome then s
    else if p = s.nat (gk i 7) then s.setNat (gk i 8) 0xFF
    else s.startEq i p) s

/-! ### Reading the slots (R231, R235 to R238) -/

/-- A frame of a slot at a whole delay (R231): from its exact tail at delay 0, from its delay line otherwise. -/
def GSlot.frame (g : GSlot) (delay i : Nat) : Option AudioFrame :=
  if delay = 0 then g.frames.find? fun x => x.i == i else g.line.read (g.next.getD 0) i

/-- Whether frame i came after the instant by which it was due (R239). -/
def GSlot.late (g : GSlot) (i due : Nat) : Bool :=
  g.arrivals.any fun a => decide (a.1 ≤ i) && decide (i < a.1 + 64) && decide (due < a.2)

/-- The delay at which a slot is read, in frames: its own, the part of a slew's step, the part of a build that stretches (R233,
R235). -/
def State.readDelay (s : State) (i : Nat) : Rat :=
  let g := s.gslot i
  let d : Int := s.num (gk i 3)
  let slew : Rat := match g.slew with
    | some lag => if d < s.num (gk (s.nat 0x490005) 3) - lag then (g.slewFrames : Rat) / 1000 else -(g.slewFrames : Rat) / 1000
    | none => 0
  let stretch : Rat := match s.gloaming.build with
    | some b => if b.stretch ∧ s.nat 0x490005 = i ∧ b.frames < 200 * b.share then ((b.frames % 200 : Nat) : Rat) / 200 else 0
    | none => 0
  max 0 ((d : Rat) + slew + stretch)

/-- A slot read at a delay for output frame f; none where it has not delivered by the instant `due` (R239). -/
def GSlot.readAt (g : GSlot) (delay : Rat) (f due : Nat) : Option (Rat × Rat) :=
  let whole := delay.floor.toNat
  let part := delay - whole
  if f < whole then none
  else match g.frame whole (f - whole) with
    | none => none
    | some x =>
      if g.late (f - whole) due then none
      else if part = 0 then some (x.l, x.r)
      else
        let taps := Config.delayTaps part
        let at_ := fun (t : Nat) => (g.line.read (g.next.getD 0) (f - whole + taps.length / 2 - t)).getD ⟨0, 0, 0, true⟩
        some ((taps.zipIdx.map fun h => h.1 * ((at_ h.2).l : Rat)).foldl (· + ·) 0,
          (taps.zipIdx.map fun h => h.1 * ((at_ h.2).r : Rat)).foldl (· + ·) 0)

/-- A slot's frame after its delay (R235): a jump of the slot in force cross-fades from the delay before it at equal power. -/
def State.delayed (s : State) (i f due : Nat) : Option (Rat × Rat) :=
  let d := s.readDelay i
  let now := (s.gslot i).readAt d f due
  match s.gloaming.build with
  | some b =>
    if b.stretch ∨ s.nat 0x490005 ≠ i then now
    else
      let x : Rat := min 1 (((b.frames + 1 : Nat) : Rat) / 960)
      let old := ((s.gslot i).readAt (max 0 (d - b.share)) f due).getD (0, 0)
      let a := Config.cos (Config.pi * x / 2)
      let c := Config.sin (Config.pi * x / 2)
      now.map fun y => (a * old.1 + c * y.1, a * old.2 + c * y.2)
  | none => now

/-- The five sections of a bank in order on a frame, with the memories that they leave (R237). -/
def eqRun (sections : Bytes) (mem : List (List Rat)) (x : Rat × Rat) : (Rat × Rat) × List (List Rat) :=
  (List.range 5).foldl (fun (t : (Rat × Rat) × List (List Rat)) k =>
    let q := sliceB sections (8 * k) 8
    if nthD q 0 0 = 0 then (t.1, t.2 ++ [[], []])
    else
      let c := Config.eqSection (nthD q 0 0) (fieldLe q 2 2) (signed 2 (fieldLe q 4 2)) (fieldLe q 6 2)
      let l := biquad c (nthD mem (2 * k) []) t.1.1
      let r := biquad c (nthD mem (2 * k + 1) []) t.1.2
      ((l.1, r.1), t.2 ++ [l.2, r.2])) (x, [])

/-- A slot's memories of a bank's sections. -/
def GSlot.eqMem (g : GSlot) (bank : Nat) : List (List Rat) := if bank = 0 then g.eqA else g.eqB
def GSlot.setEqMem (g : GSlot) (bank : Nat) (m : List (List Rat)) : GSlot := if bank = 0 then { g with eqA := m } else { g with eqB := m }

/-- A frame behind a slot's EQ (R237): the bank in force, and during an EQ fade the other one as far as the fade has run. -/
def GSlot.equalise (g : GSlot) (bank : Nat) (sections : Bytes) (x : Rat × Rat) : (Rat × Rat) × GSlot :=
  let a := eqRun sections (g.eqMem bank) x
  let g := g.setEqMem bank a.2
  match g.eqFade with
  | none => (a.1, g)
  | some e =>
    let b := eqRun e.sections (g.eqMem e.bank) x
    let w : Rat := min 1 (((e.run + 1 : Nat) : Rat) / max 1 e.len)
    (((1 - w) * a.1.1 + w * b.1.1, (1 - w) * a.1.2 + w * b.1.2), g.setEqMem e.bank b.2)

/-- A slot's frame after delay, offset and EQ (R236 to R238); zero, and none, where the slot has not delivered (R239). -/
def State.slotOut (i f due : Nat) (s : State) : State × Option (Rat × Rat) :=
  let x := s.delayed i f due
  let y := x.getD (0, 0)
  let gain := Config.dbGain (s.gslot i).gain
  let bank := s.nat (gk i 7)
  let r := (s.gslot i).equalise bank (s.bytes (gk i (0x0A + bank))) (gain * y.1, gain * y.2)
  (s.setGslot i r.2, x.map fun _ => r.1)

/-- The weight of the slot entered at a place of a fade (R238). -/
def curveAt (curve : Nat) (table : Bytes) (x : Rat) : Rat :=
  match curve with
  | 0 => x
  | 1 => Config.sin (Config.pi * x / 2)
  | _ =>
    let k := (255 * x).floor.toNat
    let t := fun (i : Nat) => ((fieldLe table (2 * i) 2 : Nat) : Rat)
    (t k + (if k < 255 then (t (k + 1) - t k) * (255 * x - k) else 0)) / 65535

/-- The weights of the slots left and entered (R238). -/
def BlendFade.weights (f : BlendFade) : Rat × Rat :=
  let x : Rat := (f.pos : Rat) / max 1 (f.len * f.back)
  let old := if f.curve = 0 then 1 - x else if f.curve = 1 then Config.cos (Config.pi * x / 2) else curveAt 2 f.table (1 - x)
  (old, curveAt f.curve f.table x)

/-- Slots' slews, level offsets, EQ fades and the build one frame on (R233, R235 to R237). -/
def State.advanceSlots (s : State) : State :=
  let s := [0, 1, 2].foldl (fun s i =>
    let g := s.gslot i
    let busy := match s.gloaming.fade with
      | some f => f.old == i || f.new == i
      | none => false
    let held := busy || s.nat 0x490005 == i
    let g := if held then g else { g with gain := max (g.gain - 1 / 48000) (min (g.gain + 1 / 48000) g.goal) }
    let level := roundRat (100 * g.gain)
    let s := if s.num (gk i 6) = level then s else s.setNum (gk i 6) level
    let g := match g.eqFade with
      | some e => { g with eqFade := some { e with run := e.run + 1 } }
      | none => g
    match g.slew with
    | none => if g = s.gslot i then s else s.setGslot i g
    | some lag =>
      let d := s.num (gk (s.nat 0x490005) 3) - lag
      let now := s.num (gk i 3)
      if busy then s.setGslot i g
      else if now = d ∨ d < 0 then (s.setGslot i { g with slew := none }).setNum (gk i 2) lag
      else if g.slewFrames + 1 < 1000 then s.setGslot i { g with slewFrames := g.slewFrames + 1 }
      else (s.setGslot i { g with slewFrames := 0 }).setNum (gk i 3) (if now < d then now + 1 else now - 1)) s
  match s.gloaming.build with
  | none => s
  | some b =>
    let f := s.nat 0x490005
    let n := b.frames + 1
    let s := { s with gloaming := { s.gloaming with build := some { b with frames := n } } }
    if b.stretch ∧ n % 200 = 0 ∧ n ≤ 200 * b.share then s.setNat (gk f 3) (s.nat (gk f 3) + 1) else s

/-- The next output frame v (R230, R238, R239): the slots in use by the fade's weights, behind a gain that only a disable lowers. A slot
in use that has not delivered by v + Λ − 1 ms is concealed as zero and counted; when none has, status bit 2 is set. -/
def State.emitFrame (gain : Rat) (s : State) : State :=
  let v := s.gloaming.next
  let due := v + s.nat 0x490011 - msTicks
  let fade := s.gloaming.fade.map fun f => if f.first ≤ v && !f.ended then f.advance else f
  let used := match s.gloaming.fade with
    | some f => if f.first ≤ v then [f.old, f.new] else [s.nat 0x490005]
    | none => [s.nat 0x490005]
  let r := [0, 1, 2].foldl (fun (t : State × List (Option (Rat × Rat))) i =>
    if t.1.slotSource i = 0 then (t.1, t.2 ++ [none])
    else
      let o := t.1.slotOut i (v / 3200) due
      (o.1, t.2 ++ [o.2])) (s, [])
  let s := r.1
  let heard := fun (i : Nat) => nthD r.2 i none
  let missing := used.filter fun i => (heard i).isNone
  let silent := missing.length == used.length
  let y : Rat × Rat := match fade with
    | some f =>
      if f.first ≤ v then
        let w := f.weights
        let a := (heard f.old).getD (0, 0)
        let b := (heard f.new).getD (0, 0)
        (w.1 * a.1 + w.2 * b.1, w.1 * a.2 + w.2 * b.2)
      else (heard (s.nat 0x490005)).getD (0, 0)
    | none => (heard (s.nat 0x490005)).getD (0, 0)
  let frame : AudioFrame := ⟨v / 3200, pcmSample (gain * y.1), pcmSample (gain * y.2), silent⟩
  let s := s.bumpBy 0x490015 missing.length
  let s := s.setNat 0x490010 (putBit (s.nat 0x490010) 2 silent)
  let s := { s with gloaming := { s.gloaming with
    fade := fade, next := v + 3200, output := lastN 4096 (s.gloaming.output ++ [frame]) } }
  let s := match fade with
    | some f => s.setNat 0x490013 f.weight
    | none => s
  s.advanceSlots

/-! ### Enable and sources -/

/-- A slot begun afresh with the exact tail that it holds. -/
def State.freshSlot (i : Nat) (s : State) : State :=
  s.setGslot i { GSlot.init with tail := (s.gslot i).tail, tailLen := (s.gslot i).tailLen, cleanFrom := s.gnomon }

/-- Gloaming enabled (R230, R240, R247): Λ, exact tails, every assigned slot but the one in force searching. Outside LISTEN
and FULL the value waits for the audio subsystem's next power-up (R63, R350). -/
def State.enableGloaming (s : State) : State × Nat :=
  if s.blending then (s, 0)
  else if s.mode ≠ .listen ∧ s.mode ≠ .full then (s.setNat 0x490001 1, 0)
  else
    let lambda := s.latency
    let tails := [0, 1, 2].foldl (fun (o : Option State) i => o.bind fun s => s.placeTail lambda i (s.slotSource i)) (some s)
    match tails with
    | none => (s, 0x1401)
    | some s =>
      let s := [0, 1, 2].foldl (fun s i =>
        let s := s.freshSlot i
        s.setAll [(gk i 1, if s.slotSource i = 0 then 0 else if s.nat 0x490005 = i then 2 else 1), (gk i 2, 0), (gk i 3, 0),
          (gk i 6, 0), (gk i 7, 0), (gk i 8, 0xFF)]) s
      let s := { s with gloaming := { Gloaming.init with next := roundUp 3200 s.gnomon, slots := s.gloaming.slots, output := s.gloaming.output } }
      let s := s.setAll [(0x490001, 1), (0x490010, 1), (0x490011, lambda), (0x490012, 0), (0x490013, 0), (0x490014, 0xFF)]
      ([0, 1, 2].foldl (fun s i => if s.slotSource i = 0 then s else s.drainPcm (queueOf (s.slotSource i))) s, 0)

/-- Gloaming disabled (R240): the output goes to silence over 10 ms, which the frames already taken give (DESIGN CHOICE,
notes/assumptions/136.md); every delay, lock, offset and recording is lost; the exact tails are freed. -/
def State.disableGloaming (s : State) : State :=
  let s := (List.range 480).foldl (fun (s : State) k => s.emitFrame (1 - ((k + 1 : Nat) : Rat) / 480)) s
  let last := s.gloaming.output
  let s := [0, 1, 2].foldl (fun s i =>
    let s := (s.freeTail i).setGslot i GSlot.init
    s.setAll [(gk i 1, if s.slotSource i = 0 then 0 else 1), (gk i 2, 0), (gk i 3, 0), (gk i 6, 0), (gk i 8, 0xFF)]) s
  let s := { s with gloaming := { Gloaming.init with output := last } }
  s.setAll [(0x490001, 0), (0x490010, 0), (0x490012, 0), (0x490013, 0), (0x490014, 0xFF)]

/-- GLOAMING_ENABLE (R240). -/
def execGloamingEnable (by_ : Requester) (s : State) : Host.Outcome State Fault Refusal :=
  .next (s.request by_ 0x490001 [1] State.enableGloaming)

/-- GLOAMING_DISABLE (R240). -/
def execGloamingDisable (by_ : Requester) (s : State) : Host.Outcome State Fault Refusal :=
  .next (s.request by_ 0x490001 [0] (accept fun s => if s.blending then s.disableGloaming else s))

/-- Whether a slot is in force, in a fade or pending (R239). -/
def State.slotBusy (s : State) (i : Nat) : Bool :=
  s.nat 0x490005 == i || s.nat 0x490014 == i || (match s.gloaming.fade with
    | some f => f.old == i || f.new == i
    | none => false)

/-- A queue assigned to a slot (R218, R230, R233, R239, R247). -/
def State.assignSlot (i w : Nat) (s : State) : State × Nat :=
  let code := firstCode [refuseIf (!s.wordOk i w) 0x1301, refuseIf (s.blending && s.slotBusy i) 0x1304,
    refuseIf (s.blending && decide (s.nat 0x490011 < s.queueBound w + s.nat 0x49000C * msTicks + msTicks)) 0x1303]
  if code ≠ 0 then (s, code)
  else
    let freed := s.freeTail i
    let placed := if s.blending then freed.placeTail (s.nat 0x490011) i w else some freed
    match placed with
    | none => (s, 0x1401)
    | some s =>
      let s := (s.freshSlot i).setAll [(obj 0x4900 (2 + i), w), (gk i 1, if w = 0 then 0 else 1), (gk i 2, 0), (gk i 3, 0), (gk i 6, 0)]
      (if s.blending ∧ w ≠ 0 then s.drainPcm (queueOf w) else s, 0)

/-- SLOT_SOURCE_WRITE (R239): slot 0 to 2. -/
def execSlotSourceWrite (by_ : Requester) (slot word : Nat) (s : State) : Host.Outcome State Fault Refusal :=
  .next (s.request by_ (obj 0x4900 (2 + slot % 3)) (leNat 4 word) (State.assignSlot (slot % 3) (word % 2 ^ 32)))

/-! ### Alignment -/

/-- The lag that a slot's delay answers to (R230): the delay of the slot in force less its own. -/
def State.lockedLag (s : State) (i : Nat) : Int := s.num (gk (s.nat 0x490005) 3) - s.num (gk i 3)

/-- A lock at a fine lag (R230, R233, R235): the slot takes the delay that the lag asks for; when the slot in force must
take more, every slot takes it and the slot in force builds it, at once or after the fade that runs. -/
def State.lockSlot (i : Nat) (fine : Int) (s : State) : State :=
  let f := s.nat 0x490005
  let need := s.num (gk f 3) - fine
  let share : Nat := (-need).toNat
  let top := [0, 1, 2].foldl (fun m j => if s.nat (gk j 1) = 2 then max m (s.nat (gk j 3)) else m) 0
  if 196607 < need ∨ 196607 < top + share then s.setNat (gk i 1) 3
  else
    let s := (s.setNat (gk i 1) 2).setNum (gk i 2) fine
    let s := s.setGslot i { s.gslot i with bad := 0, newLag := [], slew := none }
    if share = 0 then s.setNum (gk i 3) need
    else
      let s := [0, 1, 2].foldl (fun s j =>
        if j = f ∨ j = i ∨ s.slotSource j = 0 then s else s.setNat (gk j 3) (s.nat (gk j 3) + share)) s
      let s := s.setNat (gk i 3) 0
      if s.fading then { s with gloaming := { s.gloaming with owed := s.gloaming.owed + share } } else s.startBuild share

/-- One lag estimate of Gloaming (R232): window end, coarse lag in ms, fine lag in frames, the peak and its ratio to the next one, and
whether it is void. -/
structure LagEstimate where
  windowEnd : Nat
  coarse : Int
  fine : Int
  rho : Rat
  ratio : Rat
  void : Bool
  deriving DecidableEq, Repr

/-- The 8,000 ms of a slot's frames before frame `w`, if it has them (R232). -/
def Meter.window (m : Meter) (w : Nat) : Option (List MonoMs) :=
  let l := lastN 8000 (m.ms.take (m.ms.length - (m.last + 1 - w / 48)))
  if l.length = 8000 then some l else none

/-- L + R of a frame, by the frame that the slot takes next. -/
def GSlot.monoAt (g : GSlot) (i : Nat) : Int :=
  let n := g.next.getD 0
  let l := g.meter.mono
  if i < n ∧ n ≤ i + l.length then nthD l (l.length + i - n) 0 else 0

/-- The sum of the products of two lists, the first one taken so many places later. -/
def crossSum (a b : List Rat) (lag : Int) : Rat :=
  let p := if 0 ≤ lag then (a.drop lag.toNat).zip b else a.zip (b.drop (-lag).toNat)
  (p.map fun x => x.1 * x.2).foldl (· + ·) 0

/-- The correlation of two zero-mean envelopes at a lag, over the part that both cover and relative to their energies there (R232;
DESIGN CHOICE, notes/assumptions/137.md). -/
def rhoAt (a b : List Rat) (lag : Int) : Rat :=
  let ones := fun (l : List Rat) => l.map fun _ => (1 : Rat)
  let sq := fun (l : List Rat) => l.map fun x => x ^ 2
  quot (crossSum a b lag) (Config.sqrt (crossSum (sq a) (ones b) lag * crossSum (ones a) (sq b) lag))

/-- A list less its mean. -/
def zeroMean (l : List Rat) : List Rat := let m := meanOf l; l.map (· - m)

/-- The greatest of some values with its place; the first one where several are equal. -/
def bestOf (l : List (Int × Rat)) : Int × Rat :=
  match l with
  | [] => (0, 0)
  | x :: xs => xs.foldl (fun b y => if b.2 < y.2 then y else b) x

/-- The fine lag (R232): the one, within 96 frames of the coarse lag, at which the mono signals of the latest 1 s match best. -/
def fineLag (x f : GSlot) (w : Nat) (coarse : Int) : Int :=
  (bestOf ((List.range 193).map fun k =>
    let lag : Int := 48 * coarse + k - 96
    let later := fun (i : Nat) => if 0 ≤ lag then x.monoAt i * f.monoAt (i - lag.toNat) else x.monoAt (i - (-lag).toNat) * f.monoAt i
    (lag, (((List.range 48000).map fun j => later (w - 48000 + j)).foldl (· + ·) 0 : Int)))).1

/-- Whether an 8 s window cannot be judged (R232): an rms below −60 dBFS, or more than 1 % of concealed frames. -/
def windowVoid (l : List MonoMs) : Bool :=
  decide ((l.map (·.power)).foldl (· + ·) 0 * 2000000 < 384000 * 2 ^ 46) || decide (384000 < 100 * (l.map (·.hidden)).foldl (· + ·) 0)

/-- The lag estimate of a slot against the slot in force over the 8 s before frame `w` (R232). -/
def lagEstimate (x f : GSlot) (w : Nat) (a b : List MonoMs) : LagEstimate :=
  let ea := zeroMean (a.map (·.env))
  let eb := zeroMean (b.map (·.env))
  let rhos := (List.range 8001).map fun (k : Nat) => ((k : Int) - 4000, rhoAt ea eb ((k : Int) - 4000))
  let peak := bestOf rhos
  let second := (bestOf (rhos.filter fun r => decide (20 < (r.1 - peak.1).natAbs))).2
  ⟨3200 * w, peak.1, fineLag x f w peak.1, peak.2, if 0 < second then peak.2 / second else 65535 / 100,
    windowVoid a || windowVoid b⟩

/-- A lag estimate judged (R233). -/
def State.judgeEstimate (i : Nat) (e : LagEstimate) (s : State) : State :=
  let g := s.gslot i
  if e.void then (if s.nat (gk i 1) = 3 then s.searchAgain i else s)
  else
    let good := decide (6 / 10 ≤ e.rho) && decide (15 / 10 ≤ e.ratio)
    let near := fun (a b : Int) => decide ((a - b).natAbs ≤ 2)
    if s.nat (gk i 1) = 2 then
      let lag := s.lockedLag i
      if e.rho < 4 / 10 ∨ 960 < (e.coarse * 48 - lag).natAbs then
        if 4 ≤ g.bad then s.searchAgain i else s.setGslot i { g with bad := g.bad + 1, newLag := [] }
      else
        let run := if e.fine = lag then [] else if g.newLag.all (· == e.fine) then e.fine :: g.newLag else [e.fine]
        if run.length = 3 then (s.setGslot i { g with bad := 0, newLag := [], slew := some e.fine, slewFrames := 0 })
        else s.setGslot i { g with bad := 0, newLag := run }
    else
      let run := if !good then [] else if g.run.all fun r => near r.1 e.coarse then g.run ++ [(e.coarse, e.fine)]
        else [(e.coarse, e.fine)]
      if s.nat (gk i 1) = 3 ∧ run.length ≤ 1 then (s.setNat (gk i 1) 1).setGslot i { g with run := run }
      else
        let s := s.setGslot i { g with run := lastN 3 run }
        if run.length = 3 ∨ (s.nat (gk i 1) = 3 ∧ 3 ≤ run.length) then s.lockSlot i e.fine else s

/-- k × log10 of one non-negative number over another, rounded. -/
def logQuot (k : Nat) (a b : Rat) : Int := logRound k (a.num.natAbs * b.den) (a.den * b.num.natAbs)

/-- The level offset that a slot moves to (R236): the offset of the slot in force and the ratio of the mean squares in dB, within
±12 dB. -/
def State.aimLevel (i : Nat) (a b : List MonoMs) (s : State) : State :=
  let f := s.nat 0x490005
  if s.nat 0x49000E = 1 ∧ s.nat (gk i 1) = 2 ∧ i ≠ f then
    let sum := fun (l : List MonoMs) => (l.map (·.high)).foldl (· + ·) 0
    let want : Rat := (s.gslot f).gain + (logQuot 1000 (sum b) (sum a) : Rat) / 100
    s.setGslot i { s.gslot i with goal := max (-12) (min 12 want) }
  else s

/-- The frame before which both a slot and the slot in force have delivered, at a whole second (R232). -/
def State.estimateEnd (s : State) (i : Nat) : Nat :=
  min ((s.gslot i).next.getD 0) ((s.gslot (s.nat 0x490005)).next.getD 0) / 48000 * 48000

/-- LAG_ESTIMATE (R232, R233, R235, R236): the estimate of an assigned slot that is not in force, over the 8 s before a multiple of
153,600,000 ticks, once for each and when both slots have delivered up to it. -/
def execLagEstimate (slot : Nat) (s : State) : Host.Outcome State Fault Refusal :=
  .next <|
    let f := s.nat 0x490005
    let w := s.estimateEnd slot
    if s.blending ∧ slot ≤ 2 ∧ s.slotSource slot ≠ 0 ∧ f ≠ slot ∧ (s.gslot slot).estimatedAt < w then
      match (s.gslot slot).meter.window w, (s.gslot f).meter.window w with
      | some a, some b =>
        let e := lagEstimate (s.gslot slot) (s.gslot f) w a b
        let percent := (clampInt 0 100 (roundRat (100 * e.rho))).toNat
        let s := s.setGslot slot { s.gslot slot with estimatedAt := w }
        let s := s.issue (gk slot 0x0D) (leNat 8 e.windowEnd ++ leInt 4 e.fine ++ [percent, boolNat e.void])
        if e.void then s.judgeEstimate slot e
        else
          let s := (s.setNat (gk slot 4) percent).setNat (gk slot 5) (clampInt 0 65535 (roundRat (100 * e.ratio))).toNat
          (s.judgeEstimate slot e).aimLevel slot a b
      | _, _ => s
    else s

/-! ### Requests -/

/-- A host's blend or reverse while following is automatic holds following's own requests (R229): until the end of the fade
plus the minimum stay. -/
def State.suspendFollowing (fadeTicks : Nat) (s : State) : State :=
  if s.nat 0x480001 = 2 then
    ({ s with gloaming := { s.gloaming with hostFade := true } }).setNat 0x480012
      (s.gnomon + fadeTicks + s.nat 0x48000C * msTicks)
  else s

/-- A host's blend request, with the blend-back length (R234, R238, R239). -/
def State.blendCommand (slot : Nat) (s : State) : State × Nat :=
  let r := if s.blending then s.requestBlend (slot % 256) (s.nat 0x49000A) 0 false else (s, 0x1302)
  if r.2 = 0 then (r.1.suspendFollowing (s.nat 0x49000A * msTicks), 0) else r

/-- A host's reversal of a blend (R238). -/
def State.reverseCommand (s : State) : State := s.reverseBlend.suspendFollowing (s.nat 0x490009 * msTicks)

/-- BLEND_TARGET (R234, R238, R239). -/
def execBlendTarget (by_ : Requester) (slot : Nat) (s : State) : Host.Outcome State Fault Refusal :=
  .next (s.request by_ 0x490006 (leNat 1 slot) (State.blendCommand slot))

/-- BLEND_FADE_REVERSE (R238). -/
def execBlendFadeReverse (by_ : Requester) (s : State) : Host.Outcome State Fault Refusal :=
  .next (s.request by_ 0x490007 [1] (accept State.reverseCommand))

/-- EQ_SELECT (R237). -/
def execEqSelect (by_ : Requester) (slot bank : Nat) (s : State) : Host.Outcome State Fault Refusal :=
  .next (s.request by_ (gk (slot % 3) 9) (leNat 1 bank) (accept (State.selectEq (slot % 3) (bank % 256))))

/-- EQ_FADE_END (R109, R237): the slot's EQ fade has run its length. -/
def execEqFadeEnd (slot : Nat) (s : State) : Host.Outcome State Fault Refusal :=
  .next <|
    match (s.gslot slot).eqFade with
    | some e =>
      if e.len ≤ e.run then ((s.setGslot slot { s.gslot slot with eqFade := none }).setNat (gk slot 7) e.bank).startPendingEq
      else s
    | none => s

/-! ### Tonal matching -/

/-- The gains of a bank's five sections in 0.1 dB. -/
def eqGains (b : Bytes) : List Int :=
  (List.range 5).map fun i => if nthD b (8 * i) 0 = 0 then 0 else signed 2 (fieldLe b (8 * i + 4) 2)

/-- A band difference in 0.1 dB, clamped to ±6 dB and rounded to 0.5 dB (R237). -/
def tonalGain (g : Int) : Int := clampInt (-60) 60 ((g + (if g < 0 then -2 else 2)).tdiv 5 * 5)

/-- The five sections of tonal matching (R237). -/
def tonalBank (gains : List Int) : Bytes :=
  ([(1, 150, 71), (2, 500, 100), (2, 1500, 100), (2, 4000, 100), (3, 8000, 71)].zip (gains ++ [0, 0, 0, 0, 0])).flatMap
    fun (p : (Nat × Nat × Nat) × Int) =>
      [p.1.1, 0] ++ leNat 2 p.1.2.1 ++ leInt 2 (tonalGain p.2) ++ leNat 2 p.1.2.2

/-- The band powers of the slot in force over those of a slot in 0.1 dB (R237), in the windows of the slot's last estimate. -/
def State.bandGains (s : State) (i : Nat) : Option (List Int) :=
  let w := (s.gslot i).estimatedAt
  match (s.gslot i).meter.window w, (s.gslot (s.nat 0x490005)).meter.window w with
  | some a, some b =>
    if windowVoid a || windowVoid b then none
    else
      let sum := fun (l : List MonoMs) (k : Nat) => (l.map fun x => nthD x.bands k 0).foldl (· + ·) 0
      some ((List.range 5).map fun k => logQuot 100 (sum b k) (sum a k))
  | _, _ => none

/-- TONAL_MATCH_UPDATE (R237): the band differences from the slot in force, written to the bank not in force, with a
select at most every 30 s when one differs by 1.5 dB from the bank in force. -/
def execTonalMatchUpdate (slot : Nat) (s : State) : Host.Outcome State Fault Refusal :=
  .next <|
    let g := s.gslot slot
    match s.bandGains slot with
    | none => s
    | some gains =>
      if s.blending ∧ s.nat 0x49000F = 1 ∧ slot ≤ 2 ∧ s.nat (gk slot 1) = 2 ∧ s.nat 0x490005 ≠ slot ∧ g.eqFade = none then
        let inForce := s.nat (gk slot 7)
        let bank := tonalBank gains
        let s := s.setBytes (gk slot (0x0B - inForce)) bank
        let far := ((eqGains bank).zip (eqGains (s.bytes (gk slot (0x0A + inForce))))).any fun p =>
          decide (15 ≤ (p.1 - p.2).natAbs)
        let due := match g.selectAt with
          | some t => decide (t + 4608000000 ≤ s.gnomon)
          | none => true
        if far && due then (s.setGslot slot { s.gslot slot with selectAt := some s.gnomon }).selectEq slot (1 - inForce)
        else s
      else s

/-! ### The output -/

/-- BLEND_OUTPUT_FRAME (R230, R238 to R240): the next output frame v is written at v + Λ. -/
def execBlendOutputFrame (s : State) : Host.Outcome State Fault Refusal :=
  .next (if s.blending ∧ s.gloaming.next + s.nat 0x490011 ≤ s.gnomon then s.emitFrame 1 else s)

/-- What a fade leaves behind (R238): the slot in force, the count, the status. -/
def State.settleFade (f : BlendFade) (s : State) : State :=
  let s := { s with gloaming := { s.gloaming with fade := none } }
  let s := (s.bump 0x490017).setNat 0x490005 (if f.reversing then f.old else f.new)
  ((s.setNat 0x490010 (clearBit (s.nat 0x490010) 1)).setNat 0x490012 0).setNat 0x490013 0

/-- What starts when a fade or build has ended (R109, R235, R237, R239): the delay owed, else the pending request, else the
pending EQ selects. -/
def State.afterFade (s : State) : State :=
  if 0 < s.gloaming.owed then s.startBuild s.gloaming.owed
  else
    let p := s.nat 0x490014
    if p = 0xFF then s.startPendingEq
    else
      let s := s.setNat 0x490014 0xFF
      if p = s.nat 0x490005 then s.startPendingEq
      else s.startBlend p s.gloaming.pendingLen 0 s.gloaming.pendingBack

/-- The rules of chapter 12 for writes of Gloaming objects: 05 and 0C only while disabled, the curve table, EQ banks. -/
def State.gloamingRule (s : State) (key : Nat) (b : Bytes) : Nat :=
  let idx := key / 256
  let sub := key % 256
  if key = 0x490005 ∨ key = 0x49000C then refuseIf s.blending 0x1303
  else if key = 0x49000B then
    let t := fun i => fieldLe b (2 * i) 2
    refuseIf (t 0 != 0 || t 255 != 65535 || (List.range 255).any fun i => decide (t (i + 1) < t i)) 0x1301
  else if 0x4910 ≤ idx ∧ idx ≤ 0x4912 ∧ (sub = 0x0A ∨ sub = 0x0B) then
    let bad := (List.range 5).any fun i =>
      let q := sliceB b (8 * i) 8
      let t := nthD q 0 0
      let f := fieldLe q 2 2
      let gain := signed 2 (fieldLe q 4 2)
      let w := fieldLe q 6 2
      decide (3 < t) || nthD q 1 0 != 0 || (t != 0 && (decide (f < 20) || decide (20000 < f) || decide (gain < -120)
        || decide (120 < gain) || decide (w < 30) || decide (1000 < w)))
    firstCode [refuseIf (s.nat (obj idx 7) == sub - 0x0A) 0x1305, refuseIf bad 0x1301]
  else 0

end Sys2Proof.Machine
end

