-- ==== Sys2Proof/Machine/Following.lean ====
section
/-!
DEFINITION. Machine/Following.lean: service following (spec/12_following_blend.md, R219 to R229).
-/
namespace Sys2Proof.Machine

/-! ### Identity -/

/-- What the programme of a slot is known by (R219): its system and ID, once it is known. -/
def State.identityOf (s : State) (slot : Nat) : Option (Nat × Nat) :=
  let w := s.slotSource slot
  let e := wordEngine w
  let image := (s.engine e).image
  if w = 0 then none
  else if image = 0x0101 then (if s.nat (fmf e 2) = 2 then some (0, s.nat (fmf e 1)) else none)
  else if image = 0x0201 then
    let i := w / 65536 % 2
    if s.nat (ddec e (6 + i)) = 2 then some (1, (nthD (s.dabDecoder e).sel i (0, 0)).1) else none
  else if image = 0x0202 then
    if s.nat (rdec e 3) = 2 then
      some (if (s.engine (s.cnat (rdec e 1) - 0x200)).image = 0x0105 then 3 else 2, s.drmSelection e)
    else none
  else none

/-- The foreground identity (R219): that of the slot in force. -/
def State.identity (s : State) : Option (Nat × Nat) := s.identityOf (s.nat 0x490005)

/-- The FM engine in force, if any. -/
def State.foregroundFm (s : State) : Option Nat :=
  let w := s.slotSource (s.nat 0x490005)
  if w ≠ 0 ∧ (s.engine (wordEngine w)).image = 0x0101 then some (wordEngine w) else none

/-- The multipath penalty in 0.1 dB with the foreground engine's weight (R148, R221). -/
def State.penalty (s : State) (multipath : Nat) : Int :=
  match s.foregroundFm with
  | some e => 10 * s.num (fmk e 0x0C) * max 0 ((multipath : Int) - 10) / 8
  | none => 10 * max 0 ((multipath : Int) - 10)

/-- The level of an FM receiver by its 10 ms metrics: in diversity the larger of its inputs' (R148). -/
def State.fmLevel (s : State) (e : Nat) : Int := max (s.num (fmm e 1)) (s.num (fmm e 2))

/-- The Q of an FM receiver by its 10 ms metrics (R221), or its level alone where a multipath to compare is unknown. -/
def State.fmQ (s : State) (e : Nat) (known : Bool) : Int := s.fmLevel e - (if known then s.penalty (s.nat (fmm e 4)) else 0)

/-- The foreground's Q (R221); none when the foreground is not FM. -/
def State.foregroundQ (s : State) (known : Bool) : Option Int := s.foregroundFm.map fun e => s.fmQ e known

/-! ### Candidates -/

/-- Whether a candidate is the one of a frequency, ID and system. -/
def Candidate.is (c : Candidate) (kHz id system : Nat) : Bool := c.kHz == kHz && c.id == id && c.system == system

/-- What the table shows of a candidate beside its age (R220). -/
def Candidate.record (c : Candidate) : List Int := [c.kHz, c.id, c.system, c.origin, c.state, c.route, c.q]

/-- The candidates replaced; the sequence rises when a record changed (R220). -/
def State.setCandidates (cs : List Candidate) (s : State) : State :=
  let f := s.following
  { s with following := { f with
    candidates := cs
    seq := if cs.map Candidate.record = f.candidates.map Candidate.record then f.seq else (f.seq + 1) % 65536 } }

/-- One candidate changed. -/
def State.mapCandidate (kHz id system : Nat) (g : Candidate → Candidate) (s : State) : State :=
  s.setCandidates (s.following.candidates.map fun c => if c.is kHz id system then g c else c)

/-- The candidate of a frequency, ID and system. -/
def State.candidate (s : State) (kHz id system : Nat) : Option Candidate :=
  s.following.candidates.find? fun c => c.is kHz id system

/-- The candidate table 0x4800:0E as a read finds it (R220): the age is the time since the last evaluation. -/
def State.candidateTable (s : State) : Bytes :=
  let f := s.following
  leNat 2 f.seq ++ [f.candidates.length, 0] ++ f.candidates.flatMap fun c =>
    leNat 4 c.kHz ++ leNat 4 c.id ++ [c.system, c.origin, c.state, c.route] ++ leInt 2 c.q
      ++ leNat 2 (min 65535 ((s.gnomon - c.evaluatedAt) / 15360000))

/-- The receiver in state 4 tuned to a frequency in kHz. -/
def State.dabAt (s : State) (kHz : Nat) : Option Nat :=
  (List.range 12).find? fun e => s.dabRuns e && s.dabState e == 4 && match (s.inputs e).head? with
    | some n => s.tunedKHz n == kHz
    | none => false

/-- The route of a candidate (R221). -/
def State.routeOf (s : State) (kHz system : Nat) : Nat :=
  if system = 0 then (if kHz = 0 then 4 else if (s.slotAt kHz).isSome then 0 else 1)
  else if system = 1 then (if kHz = 0 then 4 else if (s.dabAt kHz).isSome then 2 else 3)
  else 4

/-- Whether a receiver's FIGs name a candidate (R220 item 4): a hard linkage set holds it with the identity, and FIG 0/21 gives its
frequency: an FM one by its PI, a DAB one by an ensemble of FIG 0/24; 0 where no frequency is known. -/
def Dab.linksTo (d : Dab) (sys me kHz id system : Nat) : Bool :=
  let ids := if system = 0 then [id] else Map.get (fun _ => []) d.otherEnsembles id
  let known := (d.frequencies.filter fun p => p.1.1 == system && ids.contains p.1.2).flatMap (·.2)
  d.links.any (fun l => l.2.contains (sys, me) && l.2.contains (system, id))
    && (if known = [] then kHz == 0 else known.contains kHz)

/-- Whether a source of R220 names a candidate: host links, AF list, slots with the PI, implicit links, hard links, DRM
alternatives. -/
def State.namedBy (s : State) (bit kHz id system : Nat) : Bool :=
  match s.identity with
  | none => false
  | some (sys, me) =>
    match bit with
    | 0 => let b := s.bytes 0x480201
      (List.range (b.length / 16)).any fun i =>
        let r := sliceB b (16 * i) 16
        fieldLe r 0 4 == me && nthD r 4 0 == sys && nthD r 5 0 == system && fieldLe r 8 4 == kHz && fieldLe r 12 4 == id
    | 1 => system == 0 && sys == 0 && id == me && match s.entryOf me with
      | some i => (s.dbEntry i).afs.any fun c => 87500 + 100 * c == kHz
      | none => false
    | 2 => system == 0 && sys == 0 && id == me && match s.slotAt kHz with
      | some i => (s.slot i).active && (s.slot i).piState == 2 && (s.slot i).pi == me
      | none => false
    | 3 => id == me && ((sys == 0 && system == 1) || (sys == 1 && system == 0 && decide (me < 65536)))
    | 4 => (system != sys || id != me)
        && (List.range 12).any fun e => s.dabRuns e && (s.dab e).linksTo sys me kHz id system
    | 5 => (List.range 12).any fun e => s.drmRuns e && (s.drm e).alternatives.any fun a =>
        a.kHz == kHz && a.id == id && bitOf a.flags 0
        && nthD [2, 3, 4, 0, 1] a.system 4 == system
    | _ => false

/-- CANDIDATE_LIST_UPDATE (R220, R221): the source of an origin bit names a candidate; it joins the list or is merged, and a
33rd is dropped and counted. -/
def execCandidateListUpdate (origin kHz id system : Nat) (s : State) : Host.Outcome State Fault Refusal :=
  .next <|
    if s.nat 0x480001 ≠ 0 ∧ s.namedBy origin kHz id system then
      let route := s.routeOf kHz system
      match s.candidate kHz id system with
      | some _ => s.mapCandidate kHz id system fun c =>
          { c with origin := setBit c.origin origin, namedAt := s.gnomon, route := route }
      | none =>
        if s.following.candidates.length < 32 then
          s.setCandidates (s.following.candidates ++
            [⟨kHz, id, system, 2 ^ origin, if route = 4 then 5 else 0, route, 0, s.gnomon, s.gnomon, none, 0, none⟩])
        else s.bump 0x480011
    else s

/-- CANDIDATE_AGE_OUT (R220): no source has named it for 60 s. -/
def execCandidateAgeOut (kHz id system : Nat) (s : State) : Host.Outcome State Fault Refusal :=
  .next (s.setCandidates (s.following.candidates.filter fun c =>
    !(c.is kHz id system && decide (c.namedAt + 9216000000 ≤ s.gnomon))))

/-- IDENTITY_CHANGE (R219, R220): the identity as the slot in force gives it; the list is cleared and its sequence rises. -/
def execIdentityChange (s : State) : Host.Outcome State Fault Refusal :=
  .next <|
    let (sys, id) := s.identity.getD (0xFF, 0)
    if s.nat 0x480003 = sys ∧ s.nat 0x480002 = id then s
    else
      let f := s.following
      let s := { s with following := { f with candidates := [], seq := (f.seq + 1) % 65536, check := none } }
      let s := f.afChecks.foldl (fun s k => s.endAfCheck k.chain) s
      (s.setNat 0x480002 id).setNat 0x480003 sys

/-- A verdict on a candidate (R221 to R224): a mismatch holds for 60 s. -/
def Candidate.verdict (c : Candidate) (now state : Nat) (q : Int) : Candidate :=
  { c with state := state, q := q, evaluatedAt := now
           mismatchUntil := if state = 4 then now + 9216000000 else c.mismatchUntil }

/-- Route 0 candidates evaluated from Lantern's figures (R221). -/
def State.followLantern (s : State) : State :=
  if s.nat 0x480001 = 0 then s
  else s.setCandidates (s.following.candidates.map fun c =>
    match if c.system = 0 then s.slotAt c.kHz else none with
    | none => if c.system = 0 ∧ c.route = 0 then { c with route := s.routeOf c.kHz 0 } else c
    | some i =>
      let x := s.slot i
      let q := x.level - (if x.active then s.penalty x.multipath else 0)
      let c := { c with route := 0 }
      if s.gnomon < c.mismatchUntil then c
      else if x.piState = 2 then c.verdict s.gnomon (if x.pi = c.id then 2 else 4) q
      else c.verdict s.gnomon 3 q)

/-- LANTERN_PERIOD_END (R165, R166, R170, R174, R221). -/
def execLanternPeriodEnd (codes : AdcSpan) (s : State) : Host.Outcome State Fault Refusal :=
  .next <|
    if s.ustate 0x700 = 2 ∧ s.lantern.lastPeriod < s.gnomon / 7680000 then (s.lanternPeriodEnd codes).followLantern else s

/-- Whether a chain's output shows a tuning that a retune at an instant brought: no retune waits in its markers. -/
def State.retuneHeard (s : State) (n kHz t : Nat) : Bool :=
  decide (t ≤ s.gnomon) && s.tunedKHz n == kHz && !((s.chain n).markers.any fun m => m.kind == 2)

/-- The MER of a frame of the check ensemble receiver (R221, R223). -/
def State.hearCheck (e : Nat) (s : State) : State :=
  match s.following.check, (s.inputs e).head? with
  | some k, some n =>
    if s.nat 0x480006 = 0x200 + e ∧ s.retuneHeard n k.kHz k.at_ ∧ s.dabState e = 4 then
      { s with following := { s.following with check := some { k with mers := lastN 5 (k.mers ++ [s.num (dq e 2)]) } } }
    else s
  | _, _ => s

/-- The MER of the ensemble behind the DAB slot in force, if it is one. -/
def State.foregroundMer (s : State) : Option Int :=
  let e := wordEngine (s.slotSource (s.nat 0x490005))
  if (s.engine e).image = 0x0201 then some (s.num (dq (s.cnat (ddec e 1) - 0x200) 2)) else none

/-- A figure of a landing's source beside its trigger (R227). -/
def State.judgeLanding (good : Bool) (s : State) : State :=
  match s.following.landing with
  | some l => { s with following := { s.following with landing := some { l with good := lastN 10 (l.good ++ [good]) } } }
  | none => s

/-- Route 2 candidates and a landing evaluated from a receiver (R221, R227). -/
def State.followDab (e : Nat) (s : State) : State :=
  if s.nat 0x480001 = 0 then s
  else
    let s := s.hearCheck e
    let s := s.setCandidates (s.following.candidates.map fun c =>
      if c.system = 1 ∧ c.kHz ≠ 0 ∧ s.dabAt c.kHz = some e ∧ (s.dab e).siComplete then
        { c with route := 2 }.verdict s.gnomon
          (if (s.dab e).services.any fun v => v.comp.sid == c.id then 2 else 3) (s.num (dq e 2))
      else c)
    match s.following.landing with
    | some l =>
      if l.system = 1 ∧ l.step = 1 ∧ s.cnat (ddec (wordEngine l.source) 1) = 0x200 + e then
        s.judgeLanding (match s.foregroundMer with
          | some q => decide (q + 10 * s.num 0x480008 ≤ s.num (dq e 2))
          | none => true)
      else s
    | none => s

/-- DAB_FRAME_END (R182, R185, R192, R221): a transmission frame has ended: the null it began with, whether each of its FIBs has a good
CRC, the channel errors of its FIC, whether each FIC symbol was demodulated, and the carrier offset. -/
def execDabFrameEnd (engine nullStart : Nat) (fibs : List Bool) (ficErrors : Nat) (fic : List Bool) (offset : Int) (s : State) :
    Host.Outcome State Fault Refusal :=
  .next ((s.dabFrameEnd engine nullStart fibs ficErrors fic offset).followDab engine)

/-! ### Checks -/

/-- The sub-band and NCO word that bring a frequency in kHz to 0 Hz, on the nearer centre. -/
def tuneTo (kHz : Nat) : Nat × Int :=
  let k := (kHz + 9600) / 19200
  let d : Int := (kHz : Int) - k * 19200
  (k, (d * 2 ^ 32 + 19200) / 38400)

/-- A retune of a chain placed by a master that is no internal placer (R42, R44, R140, R223, R227): a kind 0x04 entry at the earliest
instant; none when the table has no free entry for it, or another retune of the chain stands there (R48). -/
def State.placeRetune (owner n kHz : Nat) (s : State) : Option (State × Nat) :=
  let t := s.gnomon + 384
  let (k, w) := tuneTo kHz
  let taken := s.launch.any fun p => p.2.any fun e => e.kind == 4 && e.first == t && (s.lockSet n).contains (e.target - 0x100)
  if taken then none
  else
    let e : LaunchEntry := ⟨t, t, 0, 4, 0, 0x100 + n, owner, 0, 0, 0, leInt 4 w ++ [k, 0, 0, 0]⟩
    (s.entryFor false).map fun i => (s.setEntry i (some e), roundUp 4 t)

/-- Whether a route 1 candidate may be checked now (R222, R224): not more than once per 10 s, or per 2 s while the foreground Q is below
the floor, and no other chain checks it. -/
def State.afDue (s : State) (c : Candidate) : Bool :=
  let low := match s.foregroundQ true with
    | some q => decide (q < s.num 0x48000A)
    | none => false
  c.system == 0 && s.routeOf c.kHz 0 == 1 && decide (c.mismatchUntil ≤ s.gnomon)
    && (match c.checkedAt with
      | some t => decide (t + (if low then 307200000 else 1536000000) ≤ s.gnomon)
      | none => true)
    && !(s.following.afChecks.any fun k => k.kHz == c.kHz && k.id == c.id)

/-- Whether the AF-check engine named in 0x4800:07 serves a chain (R140). -/
def State.afServes (s : State) (chain : Nat) : Bool :=
  let e := s.nat 0x480007 - 0x200
  s.nat 0x480001 != 0 && s.runs e 0x0302 && (s.inputs e).contains chain && s.ustate (0x100 + chain) == 2

/-- A check begun (R140, R222): of the due candidates the one whose last evaluation is oldest; the chain is retuned by an entry of the
engine's own. -/
def State.beginAfCheck (chain kHz id : Nat) (s : State) : State :=
  match s.candidate kHz id 0 with
  | none => s
  | some c =>
    if s.afServes chain && s.afDue c
        && s.following.candidates.all fun d => !s.afDue d || decide (c.evaluatedAt ≤ d.evaluatedAt) then
      match s.placeRetune (3 + (s.nat 0x480007 - 0x200)) chain kHz with
      | none => s
      | some (s, t) =>
        let s := s.bump 0x480010
        let k : AfCheck := ⟨chain, kHz, id, t, [], none, 0, []⟩
        let s := { s with following := { s.following with afChecks := s.following.afChecks ++ [k] } }
        s.mapCandidate kHz id 0 fun c => { c with state := 1, route := 1, checkedAt := some s.gnomon }
    else s

/-- The quick-mode records of a block taken by the check on its chain (R222): 40 levels, from the first record that is settled after the
retune. -/
def State.hearQuick (chain grid : Nat) (data : Bytes) (s : State) : State :=
  let f := s.following
  { s with following := { f with afChecks := f.afChecks.map fun (k : AfCheck) =>
      if k.chain = chain ∧ k.rds = none ∧ k.at_ ≤ s.gnomon ∧ s.tunedKHz chain = k.kHz then
        let levels := (List.range (data.length / 8)).filterMap fun j =>
          if s.beyond chain k.at_ ≤ grid + j then some (signed 2 (fieldLe data (8 * j + 4) 2)) else none
        { k with levels := (k.levels ++ levels).take 40 }
      else k } }

/-- A check ended with a verdict (R222, R224). -/
def State.closeAfCheck (k : AfCheck) (state : Nat) (q : Int) (s : State) : State :=
  (s.mapCandidate k.kHz k.id 0 fun c => c.verdict s.gnomon state q).endAfCheck k.chain

/-- A check replaced by its next stage. -/
def State.setAfCheck (k : AfCheck) (s : State) : State :=
  { s with following := { s.following with
    afChecks := s.following.afChecks.map fun (j : AfCheck) => if j.chain = k.chain then k else j } }

/-- The level of a check in 0.1 dBm, by the path's level constant (R222). -/
def State.afLevel (s : State) (k : AfCheck) : Int :=
  roundRat (((k.levels.foldl (· + ·) 0 : Int) / (40 : Rat) + (s.num (obj (0x3000 + (s.chain k.chain).path) 0x0F) : Rat)) / 10)

/-- The next stage of a check (R222): with 40 levels, either the level does not reach the foreground's and the hysteresis, or the chain
leaves quick mode for the PI; then two values of block 1 in class 0 or 1 decide, or 500 ms. -/
def State.stepAfCheck (k : AfCheck) (block1 : Option (Nat × Nat)) (s : State) : State :=
  match k.rds with
  | none =>
    if k.levels.length < 40 then s
    else
      let level := s.afLevel k
      if level < (s.foregroundQ false).getD (-1400) + 10 * s.num 0x480008 then s.closeAfCheck k 3 level
      else
        let s := s.mapCandidate k.kHz k.id 0 fun c => { c with q := level }
        (s.setAfCheck { k with rds := some s.gnomon }).setQuickOff k.chain true
  | some since =>
    let q := ((s.candidate k.kHz k.id 0).map (·.q)).getD 0
    if since + 76800000 ≤ s.gnomon then s.closeAfCheck k 3 q
    else match block1 with
      | some (pi, cls) =>
        if 1 < cls then s
        else if pi = k.id then
          if 1 ≤ k.hits then s.closeAfCheck k 2 q else s.setAfCheck { k with hits := 1 }
        else if k.others.contains pi then s.closeAfCheck k 4 q
        else s.setAfCheck { k with others := k.others ++ [pi] }
      | none => s

/-- AF_CHECK (R140, R222, R224): the AF-check engine's next stage on one of its chains; with no check there, one of the candidate named
begins. `block1` is a decoded value of block 1 with its class. -/
def execAfCheck (chain kHz id : Nat) (block1 : Option (Nat × Nat)) (s : State) : Host.Outcome State Fault Refusal :=
  .next <|
    match s.following.afChecks.find? fun k => k.chain == chain with
    | none => s.beginAfCheck chain kHz id
    | some k => if s.afServes chain then s.stepAfCheck k block1 else s.endAfCheck chain

/-- Whether a Gloaming slot reads a decoder fed by a receiver (R223). -/
def State.receiverHeard (s : State) (e : Nat) : Bool :=
  [0, 1, 2].any fun i =>
    let m := wordEngine (s.slotSource i)
    s.slotSource i != 0 && (s.engine m).image == 0x0201 && s.cnat (ddec m 1) == 0x200 + e

/-- The candidates on a DAB frequency. -/
def Candidate.onDab (c : Candidate) (kHz : Nat) : Bool := c.system == 1 && c.kHz == kHz

/-- ENSEMBLE_CHECK (R223): with no visit in progress the check receiver is retuned to a route 3 frequency, at most once per 30 s
for each; during one, its verdict is taken from the service table and 5 frames, or when 3 s have passed. -/
def execEnsembleCheck (kHz : Nat) (s : State) : Host.Outcome State Fault Refusal :=
  .next <|
    let e := s.nat 0x480006 - 0x200
    match s.following.check, (s.inputs e).head? with
    | none, some n =>
      let here := s.following.candidates.filter fun c => c.onDab kHz
      let due := here.all fun c => match c.checkedAt with
        | some t => decide (t + 4608000000 ≤ s.gnomon)
        | none => true
      if s.nat 0x480001 ≠ 0 ∧ s.dabRuns e ∧ !s.receiverHeard e ∧ s.routeOf kHz 1 = 3 ∧ due
          ∧ (here.any fun c => decide (c.mismatchUntil ≤ s.gnomon)) then
        match s.placeRetune 15 n kHz with
        | none => s
        | some (s, t) =>
          let s := s.bump 0x480010
          let s := { s with following := { s.following with check := some ⟨kHz, t, []⟩ } }
          s.setCandidates (s.following.candidates.map fun c =>
            if c.onDab kHz ∧ c.mismatchUntil ≤ s.gnomon then { c with state := 1, route := 3, checkedAt := some s.gnomon } else c)
      else s
    | none, none => s
    | some k, n =>
      let known := n.any (fun n => s.retuneHeard n k.kHz k.at_) && s.dabState e == 4 && (s.dab e).siComplete && k.mers.length == 5
      if known || decide (k.at_ + 460800000 ≤ s.gnomon) then
        let has := fun (id : Nat) => known && (s.dab e).services.any fun v => v.comp.sid == id
        let mer := roundRat (quot (k.mers.foldl (· + ·) 0 : Int) k.mers.length)
        let s := { s with following := { s.following with check := none } }
        s.setCandidates (s.following.candidates.map fun c =>
          if c.onDab k.kHz ∧ c.state = 1 then c.verdict s.gnomon (if has c.id then 2 else 3) (if k.mers = [] then c.q else mer) else c)
      else s

/-! ### Switching -/

/-- Whether following may request a blend now (R225, R229): mode 2, past the minimum stay and past 0x4800:12. -/
def State.mayRequest (s : State) : Bool :=
  s.nat 0x480001 == 2 && decide (s.following.stayUntil ≤ s.gnomon) && decide (s.nat 0x480012 ≤ s.gnomon)

/-- The system of a slot's source: 0 FM, 1 DAB, 2 DRM, 4 another. -/
def State.slotSystem (s : State) (i : Nat) : Nat :=
  match (s.engine (wordEngine (s.slotSource i))).image with
  | 0x0101 => 0
  | 0x0201 => 1
  | 0x0202 => 2
  | _ => 4

/-- The aligned instant of the first bad frame of a slot in the look-ahead (R226): a concealed frame not yet put out, or the next one
once the instant of R239 has passed. -/
def State.firstBad (s : State) (i : Nat) : Option Nat :=
  let g := s.gslot i
  let d := s.nat (gk i 3)
  let ahead := (g.line.hidden.map fun f => 3200 * (f + d)).filter fun v => decide (s.gloaming.next ≤ v)
  let absent := match g.next with
    | some n => if 3200 * (n + d) + s.nat 0x490011 ≤ s.gnomon + msTicks then [3200 * (n + d)] else []
    | none => [s.gloaming.next]
  (ahead ++ absent).min?

/-- Whether a condition has held for a time up to now. -/
def State.heldFor (s : State) (since : Option Nat) (ticks : Nat) : Bool := since.any fun t => decide (t + ticks ≤ s.gnomon)

/-- The runs of an FM receiver (R226). -/
def State.qRun (s : State) (e : Nat) : FmRun := Map.get (fun _ => ⟨none, none⟩) s.following.runs e

/-- Whether a slot carries the foreground's programme (R226): its ID is the identity's, or a candidate's. -/
def State.sameProgramme (s : State) (slot : Nat) : Bool :=
  match s.identity, s.identityOf slot with
  | some me, some it => it.2 == me.2 || s.following.candidates.any fun c => c.system == it.1 && c.id == it.2
  | _, _ => false

/-- Whether a DAB slot has had no bad frame, its decoder in state 2, for the recovery time (R226). -/
def State.recovered (s : State) (slot : Nat) : Bool :=
  decide ((s.gslot slot).cleanFrom + s.nat 0x48000B * msTicks ≤ s.gnomon) && (s.identityOf slot).isSome

/-- Whether the trigger of a row of R226 has come true for a target slot. Rows 4 and 5 are landings, whose blend is a step of R227. -/
def State.rowFits (s : State) (row target : Nat) : Bool :=
  let f := s.nat 0x490005
  let from_ := s.slotSystem f
  let onto := s.slotSystem target
  let fm := fun (slot : Nat) => s.qRun (wordEngine (s.slotSource slot))
  s.sameProgramme target && (match row with
  | 0 => from_ == 1 && onto == 0 && (s.firstBad f).isSome
  | 1 => from_ == 0 && onto == 1 && s.heldFor (fm f).lowSince 153600000
  | 2 => from_ == 0 && onto == 1 && s.nat 0x48000D == 1 && s.recovered target
  | 3 => from_ == 1 && onto == 0 && s.nat 0x48000D == 0 && s.heldFor (fm target).highSince (s.nat 0x48000B * msTicks)
  | _ => false)

/-- A blend that following requests (R225, R226): counted in 0x4800:0F. -/
def State.followRequest (slot lenMs first : Nat) (back : Bool) (s : State) : State :=
  let r := s.requestBlend slot lenMs first back
  if r.2 = 0 then
    ({ r.1 with gloaming := { r.1.gloaming with hostFade := false } }).bump 0x48000F
  else s

/-- SWITCH_REQUEST (R225, R226): the trigger of a row of R226 has come true for a locked target slot: the blend is requested, or in mode
1 a following event raised. A blend-out that a bad frame asks for ends with it. -/
def execSwitchRequest (row target : Nat) (s : State) : Host.Outcome State Fault Refusal :=
  .next <|
    let inForce := s.nat 0x490005
    if s.blending ∧ target ≤ 2 ∧ target ≠ inForce ∧ s.nat (gk target 1) = 2 ∧ s.rowFits row target then
      if s.nat 0x480001 = 1 then s.raise 18 1 0x4800 []
      else if s.mayRequest then
        if row ≤ 1 then
          let len := s.nat 0x490009
          let first := if row = 0 then (s.firstBad inForce).getD 0 - 153600 * len else 0
          s.followRequest target len first false
        else s.followRequest target (s.nat 0x49000A) 0 true
      else s
    else s

/-! ### Landing -/

/-- A landing ended without a switch. -/
def State.endLanding (s : State) : State := { s with following := { s.following with landing := none } }

/-- The source word that a landing would assign: the landing receiver, or a free slot of the landing decoder. -/
def State.landingWord (s : State) (system : Nat) : Option Nat :=
  if system = 0 then
    let u := s.nat 0x480004
    if s.runs (u - 0x200) 0x0101 then some u else none
  else if system = 1 then
    let u := s.nat 0x480005
    let m := u - 0x200
    if s.runs m 0x0201 then
      let inForce := s.slotSource (s.nat 0x490005)
      ([0, 1].find? fun i => s.nat (ddec m (2 + 2 * i)) == 0 && u + 65536 * i != inForce).map fun i => u + 65536 * i
    else none
  else none

/-- Whether at least 10 % of the last 10 s of the slot in force were bad frames (R226). -/
def State.mostlyBad (s : State) : Bool :=
  decide (480000 ≤ 10 * ((lastN 10000 (s.gslot (s.nat 0x490005)).meter.ms).map (·.hidden)).foldl (· + ·) 0)

/-- Whether a candidate is available and better than the foreground by the hysteresis (R221, R226). -/
def State.landingGood (s : State) (c : Candidate) : Bool :=
  c.state == 2 && (if c.system = 0 then match s.foregroundQ (c.route == 0) with
      | some q => decide (q + 10 * s.num 0x480008 ≤ c.q)
      | none => false
    else match s.foregroundMer with
      | some q => decide (q + 10 * s.num 0x480008 ≤ c.q)
      | none => false)

/-- Whether a candidate is to be landed (R226): an FM one that has met its trigger throughout the dwell; the same SId on another
ensemble while a tenth of the foreground is bad and no FM slot is locked. -/
def State.landable (s : State) (c : Candidate) : Bool :=
  s.landingGood c && (if c.system = 0 then s.heldFor c.goodSince (s.nat 0x480009 * msTicks)
    else s.identity == some (1, c.id) && s.mostlyBad
      && [0, 1, 2].all fun i => !(s.slotSystem i == 0 && s.slotSource i != 0 && s.nat (gk i 1) == 2))

/-- Step 1 of R227: the landing unit is retuned, with its lock group, or selects the service. -/
def State.beginLanding (c : Candidate) (slot : Nat) (s : State) : State :=
  match s.landingWord c.system with
  | none => s.raise 18 1 0x4800 []
  | some w =>
    let holds := s.slotSource slot == 0 || s.slotSource slot % 65536 == w % 65536
    if !holds || s.slotBusy slot then s.raise 18 1 0x4800 []
    else
      let e := wordEngine w
      let begun :=
        if c.system = 0 then (s.inputA e).bind fun n => s.placeRetune 15 n c.kHz
        else some (s.setNat (ddec e (2 + 2 * (w / 65536 % 2))) c.id, s.gnomon)
      match begun with
      | none => s
      | some (t, at_) =>
        { t with following := { t.following with
          landing := some ⟨c.kHz, c.id, c.system, slot, 1, at_, w, s.slotSource (s.nat 0x490005), []⟩ } }

/-- Whether an FM landing's receiver decodes the new tuning: its demodulator has passed the end of the retune's span (R155, R227). -/
def State.landed (s : State) (l : Landing) : Bool :=
  let e := wordEngine l.source
  l.system != 0 || (s.inputA e).any fun n => s.tunedKHz n == l.kHz && decide (s.beyond n l.since < (s.fm e).dem.next)

/-- What the metrics of an FM receiver bring to following (R221, R226, R227): its runs, a landing's figure, and, from the foreground,
since when each candidate has met its trigger. -/
def State.followFm (e : Nat) (s : State) : State :=
  if s.nat 0x480001 = 0 then s
  else
    let q := s.fmQ e true
    let floor := s.num 0x48000A
    let run := s.qRun e
    let next : FmRun := ⟨if q < floor then some (run.lowSince.getD s.gnomon) else none,
      if floor + 10 * s.num 0x480008 ≤ q then some (run.highSince.getD s.gnomon) else none⟩
    let s := { s with following := { s.following with runs := Map.put (fun _ => ⟨none, none⟩) s.following.runs e next } }
    let s := if s.foregroundFm = some e then
        s.setCandidates (s.following.candidates.map fun c =>
          { c with goodSince := if s.landingGood c then some (c.goodSince.getD s.gnomon) else none })
      else s
    match s.following.landing with
    | some l =>
      if l.system = 0 ∧ l.step = 1 ∧ wordEngine l.source = e ∧ s.landed l then
        s.judgeLanding (match s.foregroundQ true with
          | some f => decide (f + 10 * s.num 0x480008 ≤ q)
          | none => false)
      else s
    | none => s

/-- FM_METRICS_PUBLISH (R147, R161, R221): every 10 ms. -/
def execFmMetricsPublish (engine : Nat) (s : State) : Host.Outcome State Fault Refusal :=
  .next (if s.runs engine 0x0101 ∧ (s.fm engine).dem.ms.length = 10 then (s.publishFm engine).followFm engine else s)

/-- A landing ended with a verdict on its candidate (R227). -/
def State.failLanding (l : Landing) (state : Nat) (s : State) : State :=
  (s.mapCandidate l.kHz l.id l.system fun c => c.verdict s.gnomon state c.q).endLanding

/-- Step 2 of R227: the identity is verified and the trigger still met over 100 ms, so the queue is assigned; another identity, or a
figure that misses the trigger, ends the landing. -/
def State.landingIdentity (l : Landing) (s : State) : State :=
  let e := wordEngine l.source
  let i := l.source / 65536 % 2
  let found := s.landed l && (if l.system = 0 then s.nat (fmf e 2) == 2 else s.nat (ddec e (6 + i)) == 2)
  let mine := if l.system = 0 then s.nat (fmf e 1) == l.id else (nthD (s.dabDecoder e).sel i (0, 0)).1 == l.id
  if !found then s
  else if !mine then s.failLanding l 4
  else if l.good.any (! ·) then s.failLanding l 3
  else if l.good.length < (if l.system = 0 then 10 else 2) then s
  else
    let r := if s.slotSource l.slot = l.source then (s.searchAgain l.slot, 0) else s.assignSlot l.slot l.source
    if r.2 = 0 then
      { r.1 with following := { r.1.following with landing := some { l with step := 2, since := s.gnomon } } }
    else s.endLanding

/-- LANDING (R227): the next step of a landing. With none in progress, the candidate named is landed in the slot named once
it has met its trigger throughout the dwell; a slot that is not free, or no landing unit, raises a following event. -/
def execLanding (kHz id system slot : Nat) (s : State) : Host.Outcome State Fault Refusal :=
  .next <|
    match s.following.landing with
    | none =>
      match s.candidate kHz id system with
      | some c => if s.blending ∧ slot ≤ 2 ∧ s.mayRequest ∧ s.landable c then s.beginLanding c slot else s
      | none => s
    | some l =>
      if l.step = 1 then s.landingIdentity l
      else if l.step = 2 ∧ s.nat (gk l.slot 1) = 2 ∧ s.mayRequest then
        let s := s.followRequest l.slot (s.nat 0x49000A) 0 true
        { s with following := { s.following with landing := some { l with step := 3, since := s.gnomon } } }
      else s

/-- LANDING_TIMEOUT (R227): 1 s for the PI, 3 s for the decoder, 20 s for the lock. -/
def execLandingTimeout (s : State) : Host.Outcome State Fault Refusal :=
  .next <|
    match s.following.landing with
    | none => s
    | some l =>
      let limit := if l.step = 1 then (if l.system = 0 then 153600000 else 460800000) else 3072000000
      if l.step < 3 ∧ l.since + limit ≤ s.gnomon then
        if l.step = 1 then s.failLanding l 3 else s.endLanding
      else s

/-- The end of a landing's fade (R227 step 5): the former unit becomes the landing unit. -/
def State.finishLanding (f : BlendFade) (s : State) : State :=
  match s.following.landing with
  | some l =>
    if l.step = 3 ∧ l.slot = f.new then
      let s := s.endLanding
      if f.reversing then s
      else s.setNat (if l.system = 0 then 0x480004 else 0x480005) (l.former % 65536)
    else s
  | none => s

/-- Whether the target of a blend-back has turned bad (R228). -/
def State.targetBad (s : State) (slot : Nat) : Bool :=
  (s.firstBad slot).isSome
    || (s.slotSystem slot == 0 && decide (s.fmQ (wordEngine (s.slotSource slot)) true < s.num 0x48000A))

/-- BLEND_BACK_REVERSE (R228): a bad frame in the look-ahead, or an FM Q below the floor, on the target of a blend-back that
following began. -/
def execBlendBackReverse (s : State) : Host.Outcome State Fault Refusal :=
  .next <|
    match s.gloaming.fade with
    | some f => if f.followBack ∧ !f.reversing ∧ s.nat 0x480001 = 2 ∧ s.targetBad f.new then s.reverseBlend else s
    | none => s

/-- BLEND_FADE_END (R225, R227, R229, R235, R238): the fade or build that has run its course ends; the minimum stay begins;
what waited starts. -/
def execBlendFadeEnd (s : State) : Host.Outcome State Fault Refusal :=
  .next <|
    match s.gloaming.fade, s.gloaming.build with
    | some f, _ =>
      if f.ended then
        let s := s.settleFade f
        let stay := s.gnomon + s.nat 0x48000C * msTicks
        let s := if s.gloaming.hostFade ∧ s.nat 0x480001 = 2 then s.setNat 0x480012 stay else s
        let s := { s with
          following := { s.following with stayUntil := stay }, gloaming := { s.gloaming with hostFade := false } }
        (s.finishLanding f).afterFade
      else s
    | none, some b =>
      if b.ended then
        let s := { s with gloaming := { s.gloaming with build := none } }
        (s.setNat 0x490010 (clearBit (s.nat 0x490010) 3)).afterFade
      else s
    | none, none => s

/-! ### Objects -/

/-- The rules for writes of following's objects (R229): the units named meet their conditions; host links are well formed. -/
def State.followRule (s : State) (key : Nat) (v : Int) (b : Bytes) : Nat :=
  let e := v.toNat - 0x200
  if v = 0xFFFF ∧ 0x480004 ≤ key ∧ key ≤ 0x480007 then 0
  else if key = 0x480004 then
    let used := (s.nat 0x490005 :: (match s.gloaming.fade with
      | some f => [f.old, f.new]
      | none => []))
    refuseIf (!s.loadedWith e 0x0101 || (s.blending && used.any fun i => s.slotSource i % 65536 == v.toNat)) 0x1202
  else if key = 0x480005 then
    refuseIf (!s.loadedWith e 0x0201 || (s.nat (ddec e 2) != 0 && s.nat (ddec e 4) != 0)) 0x1202
  else if key = 0x480006 then refuseIf (!(s.loadedWith e 0x0103 && s.dabFront e)) 0x1202
  else if key = 0x480007 then refuseIf (!s.loadedWith e 0x0302) 0x1202
  else if key = 0x480201 then
    refuseIf (b.length % 16 != 0 || (List.range (b.length / 16)).any fun i =>
      let r := sliceB b (16 * i) 16
      decide (4 < nthD r 4 0) || decide (4 < nthD r 5 0) || fieldLe r 6 2 != 0) 0x1201
  else 0

end Sys2Proof.Machine
end

