-- ==== Sys2Proof/Machine/Audio.lean ====
section
/-!
DEFINITION. Machine/Audio.lean: audio ports, rate matching and the IEC 60958 output (spec/14_audio_ports.md).
-/
namespace Sys2Proof.Machine

/-- The keys of port p's settings and of stream u's status. -/
abbrev ap (p sub : Nat) : Nat := obj (0x5000 + p) sub
abbrev as_ (u sub : Nat) : Nat := obj (0x5020 + u) sub

/-- The state of a stream (R272): 0 idle to 7 post-roll. -/
def State.streamState (s : State) (u : Nat) : Nat := s.nat (as_ u 1)

/-- An audio event (R272): frame count and measured rate. -/
def State.audioEvent (u kind : Nat) (s : State) : State :=
  s.raise 20 kind (0x400 + u) [(8, s.nat (as_ u 7)), (4, s.nat (as_ u 2))]

/-- A stream's state changed, with the event of the kind given. -/
def State.setStreamState (u new kind : Nat) (s : State) : State :=
  if s.streamState u = new then s else (s.setNat (as_ u 1) new).audioEvent u kind

/-- A flag of a stream set (R272): a 0-to-1 change raises an event. -/
def State.setAudioFlag (u bit : Nat) (s : State) : State :=
  if bitOf (s.nat (as_ u 0x0E)) bit then s
  else (s.setNat (as_ u 0x0E) (setBit (s.nat (as_ u 0x0E)) bit)).audioEvent u 8

/-- AUDIO_FLAGS_CLEAR (R272): bits written 1 are cleared. -/
def execAudioFlagsClear (by_ : Requester) (stream bits : Nat) (s : State) : Host.Outcome State Fault Refusal :=
  .next (s.request by_ (as_ stream 0x0E) (leNat 1 bits)
    (accept fun s => s.setNat (as_ stream 0x0E) (clearWritten 8 (s.nat (as_ stream 0x0E)) bits)))

/-! ### Sources -/

/-- The key of pair q's source of stream u. -/
def pairKey (u q : Nat) : Nat := if u = 4 then 0x500408 else ap u (8 + q % 4)

/-- The pairs a stream has in its committed slot count (R256, R273). -/
def State.pairCount (s : State) (u : Nat) : Nat := if u = 4 then 1 else s.cnat (ap u 2) / 2

/-- The bound of a source word (R262). -/
def State.sourceBound (s : State) (w : Nat) : Nat :=
  if w = 0 then 0 else if w = 0xFFFFFFFF then s.nat 0x490011 else s.queueBound w

/-- A stream's source bound: the largest of its pairs. -/
def State.streamBound (s : State) (u : Nat) : Nat :=
  (List.range (s.pairCount u)).foldl (fun m q => max m (s.sourceBound (s.nat (pairKey u q)))) 0

/-- Whether a source word is valid for a pair (R257); a queue may feed several pairs. -/
def State.pairOk (s : State) (u q w : Nat) : Bool :=
  decide (q < s.pairCount u) && (w == 0 || w == 0xFFFFFFFF || (w / 131072 == 0
    && (let image := (s.engine (wordEngine w)).image
        decide (0x200 ≤ w % 65536) && decide (w % 65536 ≤ 0x20B)
          && (image == 0x0201 || ((image == 0x0101 || image == 0x0102 || image == 0x0202) && w / 65536 == 0)))))

/-- A pair's source written (R257, R262, R267): a playing stream fades to it, after a change in progress. -/
def State.writePair (u q w : Nat) (s : State) : State × Nat :=
  let st := s.streamState u
  let code := firstCode [refuseIf (!s.pairOk u q w) 0x1502,
    refuseIf (2 ≤ st && st ≤ 5 && decide ((s.stream u).bound < s.sourceBound w)) 0x1503]
  if code ≠ 0 then (s, code)
  else
    let s := s.setNat (pairKey u q) w
    let r := s.stream u
    let p := Map.get (fun _ => Pair.init) r.pairs q
    let p :=
      if st = 3 then match p.change with
        | some _ => { p with held := some w }
        | none => { p with change := some (w, r.next) }
      else { p with source := w, change := none, held := none }
    let s := s.setStream u { r with pairs := Map.put (fun _ => Pair.init) r.pairs q p }
    (if st ≠ 0 ∧ w ≠ 0 ∧ w ≠ 0xFFFFFFFF then s.drainPcm (queueOf w) else s, 0)

/-- PAIR_SOURCE_WRITE (R257, R267): stream 0 to 4, pair 0 to 3. -/
def execPairSourceWrite (by_ : Requester) (stream pair word : Nat) (s : State) : Host.Outcome State Fault Refusal :=
  .next (s.request by_ (pairKey (stream % 5) pair) (leNat 4 word)
    (State.writePair (stream % 5) (if stream % 5 = 4 then 0 else pair % 4) (word % 2 ^ 32)))

/-- A pair's change of source once its 128 + 256 frames are produced (R267). -/
def Pair.settle (p : Pair) (next : Nat) : Pair :=
  match p.change with
  | some (w, from_) =>
    if from_ + 384 ≤ next then ⟨w, p.held.map fun h => (h, next), none⟩ else p
  | none => p

/-! ### Rates -/

/-- The nominal rates of R255, in Hz. -/
def nominalRates : List Nat := [32000, 44100, 48000, 88200, 96000]

/-- The nominal rate within ±2 % of a measurement in mHz (R258), with a BCLK of at most 24.576 MHz (R255); for the IEC
output AMCLK is at most 49.152 MHz (R273). -/
def State.identifyRate (s : State) (u rate : Nat) : Option Nat :=
  nominalRates.find? fun f => decide (f * 980 ≤ rate) && decide (rate ≤ f * 1020)
    && (if u = 4 then decide (f * s.cnat 0x500401 ≤ 49152000)
      else decide (f * s.cnat (ap u 2) * s.cnat (ap u 3) ≤ 24576000))

/-- The ratio in 2^-32 for a nominal rate and a correction in ppb (R259). -/
def ratioOf (nominal : Nat) (c : Int) : Nat := ((nominal : Int) * (1000000000 + c) * 2 ^ 32 / 48000000000000).toNat

/-- The correction of a stream set, with its ratio (R259, R272). -/
def State.setCorrection (u : Nat) (c : Int) (s : State) : State :=
  (s.setNum (as_ u 5) c).setNat (as_ u 4) (ratioOf (s.nat (as_ u 3)) c)

/-- The frame period T_f in ticks (R262). -/
def frameTicks (nominal : Nat) : Nat := if nominal = 0 then 3200 else 153600000 / nominal

/-- The rate in mHz that a least-squares fit over some edges gives (R258): (edge number, tick). -/
def fittedRate (edges : List (Nat × Nat)) : Nat :=
  let xs := edges.map fun e => (e.1 : Rat)
  let ys := edges.map fun e => (e.2 : Rat)
  let mx := meanOf xs
  let my := meanOf ys
  let top := ((xs.zip ys).map fun p => (p.1 - mx) * (p.2 - my)).foldl (· + ·) 0
  let low := (xs.map fun x => (x - mx) ^ 2).foldl (· + ·) 0
  (clampInt 0 (2 ^ 32 - 1) (roundRat (quot (153600000000 * low) top))).toNat

/-- The rate over the last 64 frames of a stream. -/
def Stream.rate64 (r : Stream) : Nat := fittedRate (lastN 65 r.edges)

/-- A stream's measured rate taken as its reference (R258). -/
def State.setRate (u rate : Nat) (s : State) : State :=
  (s.setNat (as_ u 2) rate).setStream u { s.stream u with refRate := rate }

/-- No supported rate (R258): state 6, until the next 64 stable frames. -/
def State.rateUnsupported (u rate : Nat) (s : State) : State :=
  let s := (s.setRate u rate).setStream u { (s.setRate u rate).stream u with stable := 0 }
  ((s.setNat (as_ u 3) 0).setAudioFlag u 6).setStreamState u 6 1

/-- STREAM_IDENTIFY (R258): 64 stable frames of a stream that waits for its rate. -/
def execStreamIdentify (stream : Nat) (s : State) : Host.Outcome State Fault Refusal :=
  .next <|
    let u := stream
    let r := s.stream u
    if u < 5 ∧ (s.streamState u = 1 ∧ s.nat (as_ u 3) = 0 ∨ s.streamState u = 6) ∧ 64 ≤ r.stable then
      match s.identifyRate u r.rate64 with
      | none => s.rateUnsupported u r.rate64
      | some f =>
        let s := (s.setNat (as_ u 3) f).setRate u r.rate64
        let s := s.setStream u { s.stream u with readyAt := s.gnomon }
        (s.setStreamState u 1 1).audioEvent u 5
    else s

/-- RATE_THRESHOLD (R258): the published rate differs from its reference by more than the threshold in ppm. -/
def execRateThreshold (stream : Nat) (s : State) : Host.Outcome State Fault Refusal :=
  .next <|
    let u := stream
    let ref := (s.stream u).refRate
    let rate := s.nat (as_ u 2)
    let thr := s.nat (if u = 4 then 0x500407 else ap u 7)
    if u < 5 ∧ s.streamState u ≠ 0 ∧ ref * thr < ((rate : Int) - ref).natAbs * 1000000 then (s.setRate u rate).audioEvent u 2
    else s

/-! ### Arming -/

/-- A start or resume verb lands on an audio unit (R263): the stream is armed, and the queues of its pairs are read from now on. -/
def State.armStream (u : Nat) (s : State) : State :=
  let r := s.stream u
  let s := s.setStream u { Stream.init with
    readyAt := s.gnomon, zeroC := r.zeroC, refRate := r.refRate, pairs := r.pairs }
  let s := (List.range 4).foldl (fun s q =>
    if q < s.pairCount u then
      let r := s.stream u
      s.setStream u { r with pairs := Map.put (fun _ => Pair.init) r.pairs q ⟨s.nat (pairKey u q), none, none⟩ }
    else s) s
  let s := (s.setAll [(as_ u 3, 0), (as_ u 7, 0), (as_ u 0x10, 0)]).setStreamState u 1 1
  (List.range (s.pairCount u)).foldl (fun s q =>
    let w := s.nat (pairKey u q)
    if w = 0 ∨ w = 0xFFFFFFFF then s else s.drainPcm (queueOf w)) s

/-- The start mode of a stream. -/
def State.startMode (s : State) (u : Nat) : Nat := if u = 4 then s.cnat 0x500406 else s.cnat (ap u 6)

/-- The content between two frames at a ratio, in 1/65,536 tick (R260). -/
def frameStep (ratio : Nat) : Nat := 3200 * 2 ^ 48 / max 1 ratio

/-! ### Frames -/

/-- The frames of a ring with index at least n (R260). -/
def State.fill (s : State) (u : Nat) : Nat :=
  ((s.stream u).ring.filter fun f => s.nat (as_ u 7) ≤ f.1).length

/-- The output queue towards the port's clock (R470): up to 4 frames, the next ones of the ring; what it cannot hold waits in the
ring. -/
def State.outQueue (s : State) (u : Nat) : List (Nat × List Int) :=
  ((s.stream u).ring.filter fun f => s.nat (as_ u 7) ≤ f.1).take 4

/-- Whether frame j is in the ring. -/
def Stream.has (r : Stream) (j : Nat) : Bool := r.ring.any fun f => f.1 == j

/-- The fill published. -/
def State.refreshFill (u : Nat) (s : State) : State := s.setNat (as_ u 6) (s.fill u)

/-- The frame of a source word at a place on the 3,200-tick grid (R257): of the foreground's output, or of a queue. -/
def State.sourceFrame (s : State) (w i : Nat) : Option AudioFrame :=
  let l := if w = 0xFFFFFFFF then s.gloaming.output else Map.get (fun _ => []) s.heard (queueOf w)
  l.find? fun x => x.i == i

/-- One phase of a stream's rate matcher about frame i; phase 64 is phase 0 of the next frame (R259). -/
def portPhase (x : Nat → Rat) (i phase : Nat) : Rat :=
  let i := i + phase / 64
  ((Config.portTaps (phase % 64)).zipIdx.map fun h => h.1 * x (i + h.2 - 15)).foldl (· + ·) 0

/-- A source at a content instant in 1/65,536 tick, interpolated between the two nearest of 64 phases (R259); absent frames count as
0. -/
def State.matchedAt (s : State) (w content : Nat) : Rat × Rat :=
  let unit := 3200 * 65536
  let i := content / unit
  let phase := content % unit * 64 / unit
  let part : Rat := ((content % unit * 64 % unit : Nat) : Rat) / unit
  let run := fun (g : AudioFrame → Int) =>
    let x := fun (k : Nat) => (((s.sourceFrame w k).map fun f => ((g f : Int) : Rat)).getD 0)
    (1 - part) * portPhase x i phase + part * portPhase x i (phase + 1)
  (run AudioFrame.l, run AudioFrame.r)

/-- The source of a pair at frame j and the gain it has there (R267): out over 128 frames, then in over 256. -/
def Pair.at (p : Pair) (j : Nat) : Nat × Rat :=
  match p.change with
  | none => (p.source, 1)
  | some (w, from_) =>
    if j < from_ then (p.source, 1)
    else if j < from_ + 128 then (p.source, 1 - ((j - from_ + 1 : Nat) : Rat) / 128)
    else (w, min 1 (((j - from_ - 127 : Nat) : Rat) / 256))

/-- The two samples of a pair in frame j at its content instant (R257, R259, R260), and whether its source has no frame there. -/
def State.pairFrame (s : State) (p : Pair) (j content : Nat) : (Int × Int) × Bool :=
  let (w, gain) := p.at j
  if w = 0 then ((0, 0), false)
  else if (s.sourceFrame w (content / 65536 / 3200)).isNone then ((0, 0), true)
  else
    let x := s.matchedAt w content
    let word := fun (y : Rat) => clampInt (-8388608) 8388607 (roundRat (gain * y))
    ((word x.1, word x.2), false)

/-- Whether a frame carries content that Gloaming concealed (R239, R275). -/
def State.foregroundSilent (s : State) (p : Pair) (j content : Nat) : Bool :=
  (p.at j).1 == 0xFFFFFFFF && (s.sourceFrame 0xFFFFFFFF (content / 65536 / 3200)).any (·.hidden)

/-- The next frame of a stream, at or after its production instant (R257, R259, R260, R267, R268). A frame below the frame count, or
whose slot still holds an unplayed frame, is dropped and counted. -/
def State.produce (u : Nat) (s : State) : State :=
  let r := s.stream u
  let n := s.nat (as_ u 7)
  if r.content + (r.bound + 153600) * 65536 ≤ s.gnomon * 65536 then
    let j := r.next
    let frames := (List.range (s.pairCount u)).map fun q => s.pairFrame (Map.get (fun _ => Pair.init) r.pairs q) j r.content
    let concealed := (frames.filter (·.2)).length
    let data := frames.flatMap fun x => [x.1.1, x.1.2]
    let pairs := r.pairs.map fun p => (p.1, p.2.settle (j + 1))
    let base := { r with next := j + 1, content := r.content + frameStep (s.nat (as_ u 4)), pairs := pairs }
    let silent := decide (0 < concealed) || s.foregroundSilent (Map.get (fun _ => Pair.init) r.pairs 0) j r.content
    let s := s.bumpBy (as_ u 0x0D) concealed
    if 512 ≤ j ∧ n ≤ j - 512 ∧ r.has (j - 512) then
      ((s.setStream u base).bump (as_ u 0x0A)).setAudioFlag u 2
    else if j < n then (s.setStream u base).bump (as_ u 0x0A)
    else
      let ring := (r.ring.filter fun f => n ≤ f.1) ++ [(j, data)]
      let s := if u = 4 ∧ silent then
          { s with iec := { s.iec with silent := (s.iec.silent.filter fun f => n ≤ f) ++ [j] } } else s
      (s.setStream u { base with ring := ring }).refreshFill u
  else s

/-- STREAM_FRAME_PRODUCE (R257, R259, R260, R267, R268). -/
def execStreamFrameProduce (stream : Nat) (s : State) : Host.Outcome State Fault Refusal :=
  let st := s.streamState stream
  .next (if stream < 5 ∧ (st = 2 ∨ st = 3 ∨ st = 4) then s.produce stream else s)

/-! ### What a port plays -/

/-- The gain with which frame n plays (R266 to R268): the fade of a post-roll or an underrun, the ramp of a re-entry. -/
def State.playGain (s : State) (u n : Nat) : Rat :=
  let r := s.stream u
  let st := s.streamState u
  if st = 7 ∨ st = 4 then
    (if n < r.fadeFrom + 128 then 1 - ((n - r.fadeFrom + 1 : Nat) : Rat) / 128 else 0)
  else match r.rampFrom with
    | some m => min 1 (((n - m + 1 : Nat) : Rat) / 256)
    | none => 1

/-- The samples of the frame that plays now, one a slot: nothing outside states 3, 4 and 7, and 0 for a frame that the ring does not
hold (R266 to R269). -/
def State.played (s : State) (u : Nat) : List Int :=
  let n := s.nat (as_ u 7)
  let st := s.streamState u
  if st = 3 ∨ st = 4 ∨ st = 7 then
    let data := ((s.outQueue u).find? fun f => f.1 == n).map (·.2)
    let gain := s.playGain u n
    (List.range (2 * s.pairCount u)).map fun i => roundRat (gain * (nthD (data.getD []) i 0 : Int))
  else []

/-- The bits of a number, most significant first. -/
def msbFirst (bits : Nat) (x : Int) : List Bool := (List.range bits).reverse.map fun i => bitOf (x % 2 ^ bits).toNat i

/-- A sample in a slot (R256): its data width in the top bits, most significant first, zeros below; 16 bits are rounded to nearest and
saturated. -/
def slotBits (width data : Nat) (x : Int) : List Bool :=
  let w := if data = 16 then clampInt (-32768) 32767 (shiftRound 8 x) else x
  msbFirst data w ++ List.replicate (width - data) false

/-- The frame that a port's SD carries, slot after slot (R256); 0 all along where nothing plays. -/
def State.portFrame (s : State) (u : Nat) : List Bool :=
  let width := s.cnat (ap u 3)
  match s.played u with
  | [] => List.replicate (s.cnat (ap u 2) * width) false
  | xs => xs.flatMap (slotBits width (s.cnat (ap u 4)))

/-- A subframe of the IEC output from time slot 4 on (R273): the sample, least significant bit first (PRESUMED,
notes/assumptions/139.md), validity, user and channel-status bits, and even parity. -/
def subframe (x : Int) (v u c : Bool) : List Bool :=
  let bits := (msbFirst 24 x).reverse ++ [v, u, c]
  bits ++ [bits.foldl (fun p b => p != b) false]

/-- The channel-status block that the device sends in the first subframe (R274). -/
def State.sentStatus (s : State) : Bytes :=
  let b := s.bytes 0x500410
  let code := match s.nat (as_ 4 3) with
    | 44100 => 0
    | 48000 => 2
    | 32000 => 3
    | 88200 => 8
    | _ => 10
  (padTo 24 b).zipIdx.map fun p =>
    match p.2 with
    | 0 => p.1 / 4 * 4 % 64
    | 2 => p.1 % 16 + 16
    | 3 => code + p.1 / 64 * 64
    | 4 => p.1 / 16 * 16 + 11
    | _ => p.1

/-- The block of the second subframe: channel number 2 (R274). -/
def secondStatus (b : Bytes) : Bytes := b.zipIdx.map fun p => if p.2 = 2 then p.1 % 16 + 32 else p.1

/-- The validity bit of the IEC frame that plays now (R275). -/
def State.validityBit (s : State) : Nat :=
  let n := s.nat (as_ 4 7)
  let st := s.streamState 4
  let faded := decide ((s.stream 4).fadeFrom + 128 ≤ n)
  if s.nat 0x500411 = 0 then 0
  else if st = 3 ∨ st = 7 ∨ (st = 4 ∧ !faded) then boolNat (s.iec.silent.contains n)
  else 1

/-- The user bits of an IEC frame taken from what is to be sent (R276), for its two subframes. -/
def State.takeUserBits (s : State) : State :=
  let u := s.iec.user
  let st := s.streamState 4
  if st = 3 ∨ st = 4 ∨ st = 7 then
    { s with iec := { s.iec with now := (nthD u.bits 0 false, nthD u.bits 1 false), user := { u with bits := u.bits.drop 2 } } }
  else { s with iec := { s.iec with now := (false, false) } }

/-- The two subframes of the IEC frame that plays now (R273 to R276); none while the output is low. -/
def State.iecFrame (s : State) : List Bool :=
  let k := s.nat (as_ 4 7) % 192
  let c := fun (b : Bytes) => bitOf (nthD b (k / 8) 0) (k % 8)
  let v := s.iec.validity == 1
  match s.played 4 with
  | [] => []
  | xs => subframe (nthD xs 0 0) v s.iec.now.1 (c s.iec.status) ++ subframe (nthD xs 1 0) v s.iec.now.2 (c (secondStatus s.iec.status))

/-- What an output carries brought in line with what it plays (R256, R273, R275). -/
def State.putOut (u : Nat) (s : State) : State :=
  let s := if u = 4 then { s with iec := { s.iec with validity := s.validityBit } } else s
  s.setStream u { s.stream u with wire := if u = 4 then s.iecFrame else s.portFrame u }

/-- The frames whose production instants have passed at a start (R263): up to 256. -/
def State.preRoll (u : Nat) (s : State) : State := (List.range 256).foldl (fun s _ => s.produce u) s

/-! ### Starting -/

/-- Streams started at T_g with one bound and latency (R262, R263, R265): p_0 = T_g − D; c at 0 when the start asks for it. -/
def State.startStreams (us : List Nat) (tg : Nat) (s : State) : State :=
  let b := us.foldl (fun m u => max m (s.streamBound u)) 0
  let tf := match us.head? with
    | some u => frameTicks (s.nat (as_ u 3))
    | none => 0
  let d := b + 256 * tf + 153600
  let mask := if us.length ≤ 1 then 0 else us.foldl (fun m u => setBit m u) 0
  us.foldl (fun s u =>
    let r := s.stream u
    let s := s.setStream u { r with
      startAt := tg, bound := b, rejoin := false, wide := true, nearSince := none
      content := (tg - d) * 65536, next := 0, ring := [], rampFrom := none
      zeroC := false, enterAt := none, fadeWhy := 0 }
    let s := (s.setNat (as_ u 8) d).setNat (as_ u 0x10) mask
    s.setCorrection u (if r.zeroC then 0 else s.num (as_ u 5))) s

/-- The measured instant of a stream's latest frame-start edge (R51, R258). -/
def State.lastEdge (s : State) (u : Nat) : Nat :=
  match (s.stream u).edges.getLast? with
  | some e => e.2
  | none => s.gnomon

/-- A stream's first frame plays on this edge (R263). -/
def State.playFirst (u : Nat) (s : State) : State :=
  let at_ := s.lastEdge u
  let s := s.setStream u { s.stream u with firstEdge := at_ }
  ((s.setNat (as_ u 7) 0).setNat (as_ u 0x0F) at_).setStreamState u 3 1

/-- STREAM_SOLO_START (R263, R269, R271): an armed stream in start mode 0, or one that re-pre-rolls, on the first edge at
least 2 ms after it is ready; members of one group that re-pre-roll start together. -/
def execStreamSoloStart (stream : Nat) (s : State) : Host.Outcome State Fault Refusal :=
  .next <|
    let u := stream
    let ready := fun u => s.streamState u == 1 && s.nat (as_ u 3) != 0 && decide ((s.stream u).readyAt + 307200 ≤ s.lastEdge u)
    if u < 5 ∧ ready u ∧ (s.startMode u = 0 ∨ (s.stream u).rejoin) then
      let group := s.nat (as_ u 0x10)
      let us := if (s.stream u).rejoin ∧ group ≠ 0 then
          (List.range 5).filter fun v => bitOf group v && (s.stream v).rejoin && ready v
        else [u]
      us.foldl (fun s v => ((s.preRoll v).playFirst v).putOut v) (s.startStreams us (s.lastEdge u))
    else s

/-- A stream's place taken in a group that plays (R264, R269): its frame count, its content, and the frame m at which it
enters, the first whose edge lies at least 2 ms on. -/
def State.joinStream (u lead : Nat) (s : State) : State :=
  let l := s.stream lead
  let n := s.nat (as_ lead 7)
  let tf := frameTicks (s.nat (as_ lead 3))
  let m := n + (307200 + tf - 1) / tf
  let from_ := m - 256
  let s := s.setStream u { s.stream u with
    startAt := l.startAt, bound := l.bound, enterAt := some m, next := from_, rejoin := false, wide := true, ring := []
    nearSince := none
    content := l.content + from_ * frameStep (s.nat (as_ lead 4)) - l.next * frameStep (s.nat (as_ lead 4)) }
  let mask := setBit (setBit (s.nat (as_ lead 0x10)) u) lead
  let s := (List.range 5).foldl (fun s v => if bitOf mask v then s.setNat (as_ v 0x10) mask else s) s
  ((s.setNat (as_ u 7) n).setNat (as_ u 8) (s.nat (as_ lead 8))).setCorrection u (s.num (as_ lead 5))

/-- PORT_GROUP_START (R49, R264): the entry's ports that are armed in start mode 1 and identified start at its instant; each
other named stream gets an audio event; with none to start the firing is dropped. -/
def execPortGroupStart (entry : Nat) (s : State) : Host.Outcome State Fault Refusal :=
  .next <|
    match s.dueEntry entry [6] with
    | none => s
    | some e =>
      let named := (List.range 5).filter fun u => bitOf (nthD e.param 0 0) u
      let can := named.filter fun u => s.streamState u == 1 && s.startMode u == 1 && s.nat (as_ u 3) != 0
      let rest := named.filter fun u => !can.contains u
      let s := rest.foldl (fun s u => s.audioEvent u 1) s
      if can = [] then s.dropFiring entry e
      else
        let s := (s.startStreams can e.instant).afterFiring entry e
        let mask := can.foldl (fun m u => setBit m u) 0
        let s := rest.foldl (fun s u =>
          if s.streamState u = 1 ∧ s.startMode u = 1 then s.setNat (as_ u 0x10) (setBit mask u) else s) s
        can.foldl (fun s u => (s.setStreamState u 2 1).preRoll u) s

/-! ### Edges -/

/-- An edge timestamped (R51, R258), with the rate over the last 1 s once a second. -/
def State.takeEdge (u : Nat) (s : State) : State :=
  let r := s.stream u
  let t := s.gnomon + Config.edgeUncertainty u s.gnomon % 3
  let edges := (r.edges.filter fun e => decide (t ≤ e.2 + 153600000)) ++ [(r.edgeNo, t)]
  let due := decide (r.publishedAt + 153600000 ≤ s.gnomon) && decide (2 ≤ edges.length)
  let s := s.setStream u { r with
    edgeNo := r.edgeNo + 1, edges := edges, stable := if r.edges = [] then 0 else r.stable + 1
    publishedAt := if due ∨ r.edges = [] then s.gnomon else r.publishedAt }
  if due then s.setNat (as_ u 2) (fittedRate edges) else s

/-- FRAME_START_EDGE (R51, R256, R258, R260, R263, R269, R273 to R276): the edge is timestamped and the frame count runs; a stream in pre-roll
plays its first frame on the first edge at or after T_g, or on the frame at which it re-enters; the frame that plays goes out on SD, or
as an IEC frame, whose block takes the channel status written. -/
def execFrameStartEdge (stream : Nat) (s : State) : Host.Outcome State Fault Refusal :=
  .next <|
    let u := stream
    let st := s.streamState u
    if u < 5 ∧ st ≠ 0 then
      let s := s.takeEdge u
      let r := s.stream u
      let s :=
        if st = 1 ∨ st = 5 ∨ st = 6 then s
        else if st = 2 then
          match r.enterAt with
          | some m =>
            let n := s.nat (as_ u 7) + 1
            let s := s.setNat (as_ u 7) n
            if m ≤ n then (s.setStream u { s.stream u with enterAt := none, rampFrom := some m }).setStreamState u 3 7 else s
          | none => if r.startAt ≤ s.lastEdge u then s.playFirst u else s
        else s.setNat (as_ u 7) (s.nat (as_ u 7) + 1)
      let s := if u = 4 then ({ s with iec := { s.iec with
          status := if s.nat (as_ u 7) % 192 = 0 then s.sentStatus else s.iec.status } } : State).takeUserBits else s
      (s.putOut u).refreshFill u
    else s

/-- RATE_LOOP_UPDATE (R261, R265): every 64 frames the loop of a solo stream, or of the lowest-numbered member of a group in state 3, steers
c for its group; at a limit the pull-limit flag is set. -/
def execRateLoopUpdate (stream : Nat) (s : State) : Host.Outcome State Fault Refusal :=
  .next <|
    let u := stream
    let group := s.nat (as_ u 0x10)
    let lead := (List.range 5).find? fun v => bitOf group v && s.streamState v == 3
    let n := s.nat (as_ u 7)
    if u < 5 ∧ s.streamState u = 3 ∧ (group = 0 ∨ lead = some u) ∧ (s.stream u).loopAt + 64 ≤ n then
      let s := s.setStream u { s.stream u with loopAt := n }
      let r := s.stream u
      let err : Int := (s.fill u : Int) - 256
      let near : Option Nat := if err.natAbs ≤ 4 then some (r.nearSince.getD s.gnomon) else none
      let long := match near with
        | some t => decide (t + 307200000 ≤ s.gnomon)
        | none => false
      let wide := if 48 < err.natAbs then true else if long then false else r.wide
      let p := Config.loopStep (s.num (as_ u 5)) r.integrator err wide
      let c := clampInt (-1000000) 1000000 p.1
      let atLimit := c == 1000000 || c == -1000000
      let members := if group = 0 then [u] else (List.range 5).filter fun v => bitOf group v
      let s := members.foldl (fun s v => (s.setStream v { s.stream v with
          wide := wide, nearSince := near, integrator := if atLimit then r.integrator else p.2 }).setCorrection v c) s
      if atLimit then s.setAudioFlag u 0 else s
    else s

/-- GROUP_MEMBER_REMOVED (R265): a member whose first edge lies more than 8 ticks from the lead's goes on alone. -/
def execGroupMemberRemoved (stream : Nat) (s : State) : Host.Outcome State Fault Refusal :=
  .next <|
    let u := stream
    let group := s.nat (as_ u 0x10)
    match (List.range 5).find? fun v => bitOf group v && v != u && s.streamState v == 3 with
    | some l =>
      let a := (s.stream u).firstEdge
      let b := (s.stream l).firstEdge
      if u < 5 ∧ bitOf group u ∧ l < u ∧ s.streamState u = 3 ∧ (a + 8 < b ∨ b + 8 < a) then
        let s := (List.range 5).foldl (fun s v =>
          if bitOf group v then s.setNat (as_ v 0x10) (clearBit group u) else s) s
        (s.setNat (as_ u 0x10) 0).audioEvent u 10
      else s
    | none => s

/-! ### Holds -/

/-- A hold has landed on an audio unit (R266): a stream that plays goes through its post-roll; another goes idle at once.
The answer tells whether the unit can read HELD now. -/
def State.landHold (u : Nat) (s : State) : State × Bool :=
  let st := s.streamState u
  if st = 3 ∨ st = 4 ∨ st = 7 then (s.setStream u { s.stream u with holdLanded := true }, false)
  else ((s.setStream u { s.stream u with ring := [], enterAt := none }).setStreamState u 0 1, true)

/-- The ring of a stream cleared. -/
def State.clearRing (u : Nat) (s : State) : State := (s.setStream u { s.stream u with ring := [] }).refreshFill u

/-- A stream leaves its group. -/
def State.leaveGroup (u : Nat) (s : State) : State :=
  let group := s.nat (as_ u 0x10)
  let s := (List.range 5).foldl (fun s v =>
    if bitOf group v then s.setNat (as_ v 0x10) (clearBit group u) else s) s
  s.setNat (as_ u 0x10) 0

/-- A stream's hold is complete (R266): the ring is cleared, the stream is idle and outside its group, the unit reads HELD
with the cause and verb of its hold. -/
def State.finishHold (u cause verb : Nat) (s : State) : State :=
  let s := ((s.clearRing u).leaveGroup u).setStream u { s.stream u with holdLanded := false, ring := [] }
  (s.setStreamState u 0 1).setUState (0x400 + u) 3 cause verb

/-- A stream taken out of service at once: a start that is undone (R35), a release that does not wait for its post-roll. -/
def State.disarmStream (u : Nat) (s : State) : State :=
  (((s.clearRing u).leaveGroup u).setStream u { s.stream u with ring := [], enterAt := none, holdLanded := false }).setStreamState
    u 0 1

/-- The cause and verb of the hold in progress that concerns a unit. -/
def State.holdCause (s : State) (u : Nat) : Nat × Nat :=
  match s.holdings.find? fun h => h.ranks.any fun r => r.contains u with
  | some h => h.why u
  | none => (1, 4)

/-- POST_ROLL (R266): on the first frame at or after a hold, the 128 frames of post-roll begin. -/
def execPostRoll (stream : Nat) (s : State) : Host.Outcome State Fault Refusal :=
  .next <|
    let u := stream
    let r := s.stream u
    if u < 5 ∧ r.holdLanded ∧ (s.streamState u = 3 ∨ s.streamState u = 4) then
      ((s.setStream u { r with fadeFrom := s.nat (as_ u 7), fadeWhy := 1 }).setStreamState u 7 1).putOut u
    else s

/-- POST_ROLL_END (R266, R271): the last frame of the fade has played: a held stream is idle and its unit HELD; one whose
rate changed waits for its rate. -/
def execPostRollEnd (stream : Nat) (s : State) : Host.Outcome State Fault Refusal :=
  .next <|
    let u := stream
    let r := s.stream u
    if u < 5 ∧ s.streamState u = 7 ∧ r.fadeFrom + 128 ≤ s.nat (as_ u 7) then
      if r.holdLanded then
        let c := s.holdCause (0x400 + u)
        s.finishHold u c.1 c.2
      else
        let s := (s.clearRing u).setNat (as_ u 3) 0
        (s.setStream u { s.stream u with rejoin := true, zeroC := true, next := 0, fadeWhy := 0 }).setStreamState u 1 1
    else s

/-! ### Failures -/

/-- UNDERRUN (R268): frame n + 127 is absent while the stream plays; it fades. -/
def execUnderrun (stream : Nat) (s : State) : Host.Outcome State Fault Refusal :=
  .next <|
    let u := stream
    let n := s.nat (as_ u 7)
    if u < 5 ∧ s.streamState u = 3 ∧ !(s.stream u).has (n + 127) then
      let s := s.setStream u { s.stream u with fadeFrom := n, fadeWhy := 3 }
      (((s.setStreamState u 4 6).bump (as_ u 9)).setAudioFlag u 1).putOut u
    else s

/-- RE_ENTRY (R268): after its fade, the ring holds frames m to m + 127 from the present count m. -/
def execReEntry (stream : Nat) (s : State) : Host.Outcome State Fault Refusal :=
  .next <|
    let u := stream
    let r := s.stream u
    let m := s.nat (as_ u 7)
    if u < 5 ∧ s.streamState u = 4 ∧ r.fadeFrom + 128 ≤ m ∧ (List.range 128).all (fun i => r.has (m + i)) then
      ((s.setStream u { r with fadeWhy := 0, rampFrom := some m }).setStreamState u 3 7).putOut u
    else s

/-- A stream's clock is lost (R269); a hold that has landed is complete then. -/
def State.loseClock (u : Nat) (s : State) : State :=
  let s := ((s.clearRing u).setAudioFlag u 4).bump (as_ u 0x0C)
  let s := s.setStream u { s.stream u with lostCount := s.nat (as_ u 7), glitchRun := 0, enterAt := none, edges := [], stable := 0, wire := [] }
  if (s.stream u).holdLanded then
    let c := s.holdCause (0x400 + u)
    s.finishHold u c.1 c.2
  else s.setStreamState u 5 4

/-- CLOCK_LOST (R269). -/
def execClockLost (stream : Nat) (s : State) : Host.Outcome State Fault Refusal :=
  .next (if stream < 5 ∧ s.streamState stream ≠ 0 ∧ s.streamState stream ≠ 5 then s.loseClock stream else s)

/-- CLOCK_RETURN (R264, R269): 64 stable frames. The stream joins a member of its group that plays, or starts
anew as if in start mode 0; c is kept at an unchanged nominal rate. -/
def execClockReturn (stream : Nat) (s : State) : Host.Outcome State Fault Refusal :=
  .next <|
    let u := stream
    let rate := (s.stream u).rate64
    if u < 5 ∧ s.streamState u = 5 ∧ 64 ≤ (s.stream u).stable then
      match s.identifyRate u rate with
      | none => s.rateUnsupported u rate
      | some f =>
        let same := s.nat (as_ u 3) == f
        let s := ((s.setNat (as_ u 3) f).setRate u rate).audioEvent u 5
        let s := s.setStream u { s.stream u with readyAt := s.gnomon, zeroC := !same }
        let group := s.nat (as_ u 0x10)
        match (List.range 5).find? fun v => bitOf group v && v != u && s.streamState v == 3 with
        | some l =>
          let lost := (s.stream u).lostCount
          let s := s.joinStream u l
          let m := (s.stream u).enterAt.getD 0
          (s.bumpBy (as_ u 0x0A) (m - lost)).setStreamState u 2 1
        | none => (s.setStream u { s.stream u with rejoin := true, next := 0 }).setStreamState u 1 1
    else s

/-- GLITCH (R270): a frame with the wrong BCLK count; sixteen in a row are a clock loss. The IEC output has none. -/
def execGlitch (stream : Nat) (s : State) : Host.Outcome State Fault Refusal :=
  .next <|
    let u := stream
    let st := s.streamState u
    if u < 4 ∧ (st = 2 ∨ st = 3 ∨ st = 4 ∨ st = 7) then
      let r := s.stream u
      let n := s.nat (as_ u 7)
      let run := if r.glitchRun ≠ 0 ∧ n = r.glitchFrame + 1 then r.glitchRun + 1 else 1
      let quiet := match r.glitchAt with
        | some t => decide (t + 15360000 ≤ s.gnomon)
        | none => true
      let s := s.bump (as_ u 0x0B)
      let s := s.setStream u { r with
        glitchRun := run, glitchFrame := n, glitchAt := if quiet then some s.gnomon else r.glitchAt, stable := 0, wire := [] }
      let s := s.setAudioFlag u 3
      let s := if quiet then s.audioEvent u 9 else s
      if 16 ≤ run then s.loseClock u else s
    else s

/-- RATE_CHANGE (R271): the last 64 frames differ by more than 1 % from the nominal rate in force. -/
def execRateChange (stream : Nat) (s : State) : Host.Outcome State Fault Refusal :=
  .next <|
    let u := stream
    let f := s.nat (as_ u 3)
    let rate := (s.stream u).rate64
    if u < 5 ∧ s.streamState u = 3 ∧ f ≠ 0 ∧ 65 ≤ (s.stream u).edges.length ∧ f * 10 < ((rate : Int) - f * 1000).natAbs then
      let s := ((s.setNat (as_ u 2) rate).audioEvent u 3).setAudioFlag u 5
      ((s.setStream u { s.stream u with fadeFrom := s.nat (as_ u 7), fadeWhy := 2, stable := 0 }).setStreamState u 7 1).putOut u
    else s

/-! ### The IEC output -/

/-- CHANNEL_STATUS_WRITE (R274): the block written takes effect at the first IEC block that starts after acceptance. -/
def execChannelStatusWrite (by_ : Requester) (block : Bytes) (s : State) : Host.Outcome State Fault Refusal :=
  .next (s.request by_ 0x500410 block (accept (State.setBytes 0x500410 block)))

/-- CRC-16 with polynomial 0x1021 and initial value 0xFFFF (R276). -/
def crc16 (b : Bytes) : Nat :=
  b.foldl (fun c x =>
    (List.range 8).foldl (fun c _ => if 32768 ≤ c then (c * 2 % 65536) ^^^ 0x1021 else c * 2) (c ^^^ (x * 256))) 0xFFFF

/-- The programme of the IEC output and its PS and text in automatic mode (R276): system, ID, PS, text and its kind. -/
def State.programme (s : State) : (Nat × Nat) × Option Bytes × Option (Nat × Bytes) :=
  let w0 := s.nat 0x500408
  let w := if w0 = 0xFFFFFFFF then s.slotSource (s.nat 0x490005) else w0
  let e := wordEngine w
  let image := (s.engine e).image
  if w = 0 then ((0xFF, 0), none, none)
  else if image = 0x0101 then
    let pi := if s.nat (fmf e 2) = 2 then s.nat (fmf e 1) else 0
    ((0, pi), if pi = 0 then none else some (s.bytes (fmf e 3)),
      if bitOf (s.nat (fmf e 7)) 1 then some (2, s.bytes (fmf e 6)) else none)
  else if image = 0x0201 then
    let sel := nthD (s.dabDecoder e).sel (w / 65536 % 2) (0, 0)
    let v := (s.dab (s.cnat (ddec e 1) - 0x200)).services.find? fun v => v.comp.sid == sel.1 && v.comp.scids == sel.2
    let ps := match v with
      | some v =>
        if !v.labelled then none
        else if v.charset = 15 then some (v.label.filter (· != 0))
        else if v.charset = 0 then some (v.label.flatMap Config.dabChar) else none
      | none => none
    ((1, sel.1), ps, none)
  else if image = 0x0202 then
    let n := s.cnat (rdec e 1) - 0x200
    let id := s.drmSelection e
    let ps := ((s.drm n).services.find? fun v => v.id == id).map (·.label)
    let t := s.bytes (rdec e 6)
    ((if (s.engine n).image = 0x0105 then 3 else 2, id), ps, if t = [] then none else some (4, t))
  else ((4, 0), none, none)

/-- A programme-data packet (R276). -/
def userPacket (kind seq system id : Nat) (text : Bytes) : Bytes :=
  let t := text.take 128
  let b := [0x10 + kind, seq, system, t.length] ++ leNat 4 id ++ t
  b ++ leNat 2 (crc16 b)

/-- The user bits of a packet (R276): units of 1 and 7 packet bits, one 0 between them, and the 16 zeros behind. -/
def userBits (packet : Bytes) : List Bool :=
  let units := (pieces 7 false (packet.flatMap fun x => msbFirst 8 x)).map fun g => true :: g
  (units.intersperse [false]).flatten ++ List.replicate 16 false

/-- One packet recorded as sent, with the text sequence of its kind raised when its text has changed. -/
def State.sendPacket (kind system id : Nat) (text old : Bytes) (s : State) : State :=
  let u := s.iec.user
  let n := Map.get (fun _ => 0) u.seqs kind
  let n := if text = old then n else (n + 1) % 256
  { s with iec := { s.iec with user := { u with
      seqs := Map.put (fun _ => 0) u.seqs kind n, last := userPacket kind n system id text
      bits := userBits (userPacket kind n system id text) } } }

/-- USER_DATA_PACKET (R276): the packet before and its gap are out, and the IEC output sends the next one: three clears after a change of programme, a changed packet
first, else PS and text in turn. -/
def execUserDataPacket (s : State) : Host.Outcome State Fault Refusal :=
  .next <|
    let mode := s.nat 0x500412
    if s.streamState 4 = 3 ∧ mode ≠ 0 ∧ s.iec.user.bits = [] then
      let auto := s.programme
      let host := s.bytes 0x500414
      let hostText := if host = [] then none else some (s.nat 0x500415, host)
      let who : Nat × Nat := if mode = 2 then (0xFF, 0) else auto.1
      let ps := if mode = 2 then (if s.bytes 0x500413 = [] then none else some (s.bytes 0x500413)) else auto.2.1
      let text := if mode = 1 then auto.2.2 else hostText
      let textWho : Nat × Nat := if mode = 1 then who else (0xFF, 0)
      let u := s.iec.user
      let now := (who.1, who.2, s.nat 0x500408)
      let u := if u.programme = now then u else
        { u with programme := now, clears := 3, ps := [], text := [], psNext := true }
      let s := { s with iec := { s.iec with user := u } }
      let setUser := fun (g : UserData → UserData) (s : State) => { s with iec := { s.iec with user := g s.iec.user } }
      if 0 < u.clears then
        setUser (fun u => { u with clears := u.clears - 1 }) (s.sendPacket 5 who.1 who.2 [] [])
      else
        let sendPs := fun (p : Bytes) =>
          setUser (fun u => { u with ps := p, psNext := false }) (s.sendPacket 1 who.1 who.2 p u.ps)
        let sendText := fun (t : Nat × Bytes) =>
          setUser (fun u => { u with text := t.2, psNext := true }) (s.sendPacket t.1 textWho.1 textWho.2 t.2 u.text)
        match ps, text with
        | none, none => s
        | some p, none => sendPs p
        | none, some t => sendText t
        | some p, some t =>
          if p ≠ u.ps then sendPs p else if t.2 ≠ u.text then sendText t else if u.psNext then sendPs p else sendText t
    else s

/-! ### Configuration and objects -/

/-- The checks of a port's configure (R255). -/
def State.validateAudio (s : State) (u : Nat) : Nat :=
  if u = 4 then 0
  else
    let f := s.nat (ap u 1)
    refuseIf ((decide (f ≤ 1) && s.nat (ap u 2) != 2) || decide (s.nat (ap u 3) < s.nat (ap u 4))
      || decide (8 ≤ s.nat (ap u 5))) 0x1501

/-- A port's configuration committed. -/
def State.commitAudio (u : Nat) (s : State) : State :=
  let s := s.commitKeys (if u = 4 then [0x500401, 0x500406] else
    [ap u 1, ap u 2, ap u 3, ap u 4, ap u 5, ap u 6])
  s.setStream u { s.stream u with zeroC := true }

/-- An audio unit released: its stream is idle. -/
def State.releaseAudio (u : Nat) (s : State) : State :=
  (((s.clearRing u).leaveGroup u).setStream u Stream.init).setStreamState u 0 1

/-- The rule of R257 for the length of a read of a pair at or above slots/2: it reads 0. -/
def State.pairRead (s : State) (u q : Nat) : Nat := if q < s.pairCount u then s.nat (pairKey u q) else 0

end Sys2Proof.Machine
end

