-- ==== Sys2Proof/Machine/Mac.lean ====
section
/-!
DEFINITION. Machine/Mac.lean: the octets of the IEEE 802.15.4 frames that the link sequencer sends and takes (spec/15_mesh_radio.md R280,
spec/16_voussoir_link.md R301 to R308). The layout of the general MAC header and of the auxiliary security header is IEEE 802.15.4's (PRESUMED,
notes/assumptions/147.md).
-/
namespace Sys2Proof.Machine

/-! ### The PHR and the FCS -/

/-- The octets of the FCS that a PHR announces (R279): type 0 has 4, type 1 has 2. -/
def Phr.fcs (p : Phr) : Nat := if p.shortFcs then 2 else 4

/-- Whether the receiver keeps a frame with this PHR (R280). -/
def Phr.kept (p : Phr) : Bool := !p.ms && p.parity && decide (p.fcs ≤ p.length)

/-- The FCS of a frame's octets (R406): preset 0 for 4 octets, preset 3 for 2; least significant octet first. -/
def fcsOf (n : Nat) (b : Bytes) : Bytes := leNat n (crcOf (if n = 2 then 3 else 0) b)

/-- A frame with its FCS. -/
def withFcs (n : Nat) (b : Bytes) : Bytes := b ++ fcsOf n b

/-- Whether a PSDU received has the length of its PHR and a good FCS. -/
def Phr.good (p : Phr) (psdu : Bytes) : Bool :=
  let body := psdu.take (psdu.length - p.fcs)
  psdu.length == p.length && psdu.drop (psdu.length - p.fcs) == fcsOf p.fcs body

/-! ### Addresses -/

/-- The address mode of a frame control field. -/
def Addr.mode : Addr → Nat
  | .none => 0
  | .short _ => 2
  | .ext _ => 3

/-- An address in a frame. -/
def Addr.octets : Addr → Bytes
  | .none => []
  | .short a => leNat 2 a
  | .ext e => leNat 8 e

/-- The length of an address by its mode. -/
def addrLength (mode : Nat) : Nat := nthD [0, 0, 2, 8] mode 0

/-- The address that stands at a place of a frame. -/
def addrAt (b : Bytes) (at_ mode : Nat) : Addr :=
  match mode with
  | 2 => .short (fieldLe b at_ 2)
  | 3 => .ext (fieldLe b at_ 8)
  | _ => .none

/-! ### Frames sent -/

/-- A MAC header (R301, R302): frame control of version 2, sequence number, destination PAN ID, destination, source. The compression bit is 1
when both addresses are present. -/
def macHead (type : Nat) (secured pending ar ie : Bool) (dsn pan : Nat) (dst src : Addr) : Bytes :=
  let both := dst.mode ≠ 0 ∧ src.mode ≠ 0
  leNat 2 (type + 8 * boolNat secured + 16 * boolNat pending + 32 * boolNat ar + 64 * boolNat both + 512 * boolNat ie
    + 1024 * dst.mode + 8192 + 16384 * src.mode) ++ leNat 1 dsn ++ leNat 2 pan ++ dst.octets ++ src.octets

/-- The field of R308 that carries a time correction: signed µs in bits 0 to 11, bit 15 NACK. -/
def correctionField (c : Int) (nack : Bool) : Nat :=
  (clampInt (-2047) 2047 c % 4096).toNat + (if nack then 32768 else 0)

/-- The correction of such a field. -/
def correctionOf (field : Nat) : Int :=
  let v := field % 4096
  if v < 2048 then v else (v : Int) - 4096

/-- An enhanced acknowledgement before its FCS (R308). -/
def ackOctets (pan dsn : Nat) (dst : Addr) (pending nack : Bool) (correction : Int) : Bytes :=
  macHead 2 false pending false true dsn pan dst .none ++ leNat 2 0x0F02 ++ leNat 2 (correctionField correction nack)

/-- The auxiliary security header of the frames sent (R304): key identifier mode 1 at a level, the frame counter, the key index. -/
def auxOctets (level counter key : Nat) : Bytes := [level + 8] ++ leNat 4 counter ++ leNat 1 key

/-! ### Frames received -/

/-- The octets of a MIC by security level (R304). -/
def micLength (level : Nat) : Nat := nthD [0, 4, 8, 16] (level % 4) 0

/-- The header IEs of a frame: the field of its Time Correction IE, 0 without one, and what follows the list; at most `n` are read. -/
def headerIes : Nat → Bytes → Nat → Nat × Bytes
  | 0, b, c => (c, b)
  | n + 1, b, c =>
    if b.length < 2 then (c, [])
    else
      let d := fieldLe b 0 2
      let id := d / 128 % 256
      if id = 0x7E ∨ id = 0x7F then (c, b.drop 2)
      else headerIes n (b.drop (2 + d % 128)) (if id = 0x1E then fieldLe b 2 2 else c)

/-- Whether a frame of version 2 carries a destination PAN ID and a source PAN ID, by its address modes and its compression bit. -/
def panIds (dst src : Nat) (compressed : Bool) : Bool × Bool :=
  if dst = 0 ∧ src = 0 then (compressed, false)
  else if src = 0 then (!compressed, false)
  else if dst = 0 then (false, !compressed)
  else if dst = 3 ∧ src = 3 then (!compressed, false)
  else (true, !compressed)

/-- The fields of a frame received (R301 to R304). `plain` is its payload where its MIC verifies under the key it names. -/
def macFrame (fcs : Nat) (psdu : Bytes) (plain : Option Bytes) : MacFrame :=
  let b := psdu.take (psdu.length - fcs)
  let fc := fieldLe b 0 2
  let dm := fc / 1024 % 4
  let sm := fc / 16384 % 4
  let pans := panIds dm sm (bitOf fc 6)
  let at0 := if bitOf fc 8 then 2 else 3
  let at1 := at0 + 2 * boolNat pans.1
  let at2 := at1 + addrLength dm
  let at3 := at2 + 2 * boolNat pans.2
  let at4 := at3 + addrLength sm
  let control := nthD b at4 0
  let secured := bitOf fc 3
  let level := if secured then control % 8 else 0
  let keyMode := if secured then control / 8 % 4 else 0
  let at5 := at4 + 1 + (if bitOf control 5 then 0 else 4)
  let at6 := if secured then at5 + nthD [0, 1, 5, 9] keyMode 0 else at4
  let rest := b.drop at6
  let ies := if bitOf fc 9 then headerIes 8 rest 0 else (0, rest)
  { type := fc % 8
    version := fc / 4096 % 4
    ar := bitOf fc 5
    pending := bitOf fc 4
    dsn := nthD b 2 0
    pan := if pans.1 then fieldLe b at0 2 else if pans.2 then fieldLe b at2 2 else 0xFFFF
    dst := addrAt b at1 dm
    src := addrAt b at3 sm
    level := level
    keyMode := keyMode
    keyIndex := if keyMode = 1 then nthD b at5 0 else 0
    counter := if secured then fieldLe b (at4 + 1) 4 else 0
    correction := ies.1
    payload := if level = 0 then ies.2 else plain.getD [] }

end Sys2Proof.Machine
end

