-- ==== Sys2Proof/Machine/MeshRadio.lean ====
section
/-!
DEFINITION. Machine/MeshRadio.lean: the mesh radio and Glimmer (spec/15_mesh_radio.md): channels and power, airtime, state
changes, calibrations, received copies and their selection, wake words and tests. 0x6001:01 shows a radio state from the start of the
change to it (notes/assumptions/30.md); what the radio does there waits until the state is reached.
-/
namespace Sys2Proof.Machine

/-! ### Rates, channels and power -/

/-- The data rate in kbit/s (R280). -/
def State.meshRate (s : State) : Nat := nthD [50, 100, 150, 200] (s.cnat 0x600001) 200

/-- The ticks of one octet at the data rate: 8 symbols. -/
def State.octet (s : State) : Nat := 1228800 / s.meshRate

/-- The first centre in Hz and the number of channels of each plan (R316). -/
def planOf : Nat → Nat × Nat
  | 0 => (863100000, 35)
  | 1 => (902200000, 129)
  | 2 => (920600000, 37)
  | _ => (433175000, 8)

/-- The centre of a channel of the plan in force, in Hz. -/
def State.channelHz (s : State) (n : Nat) : Nat := (planOf (s.cnat 0x602004)).1 + n * 200000

/-- A row of the cap table of R291: lowest and highest edge in Hz, the cap less the gain reference in 0.01 dB (an e.r.p. cap
has 2.15 dB added). -/
def capRows : Nat → List (Nat × Nat × Int)
  | 0 => [(863000000, 868600000, 1615), (868700000, 869200000, 1615), (869400000, 869650000, 2915),
      (869700000, 870000000, 915)]
  | 1 => [(902000000, 928000000, 3600)]
  | 2 => [(920000000, 928000000, 1300)]
  | _ => [(433050000, 434790000, 1215)]

/-- The distance of a channel's edges from its centre in Hz (R291). -/
def State.halfWidth (s : State) : Nat := if s.meshRate ≤ 100 then 100000 else 200000

/-- The row that a frequency lies in (R291): its number, which is also its duty sub-band, and its cap. -/
def State.capRow (s : State) (hz : Nat) : Option (Nat × Int) :=
  let w := s.halfWidth
  ((capRows (s.cnat 0x602004)).zipIdx.find? fun r => r.1.1 + w ≤ hz && hz + w ≤ r.1.2.1).map fun r => (r.2, r.1.2.2)

/-- The highest entry of the band's table whose minimum VDD_PA lies at least 50 mV below VDD_PA (R290, R291). -/
def State.supplyIndex (s : State) (hz : Nat) : Option Nat :=
  let base := if hz < 600000000 then 0x6003 else 0x6004
  ((List.range 80).filter fun i =>
    1800 + 20 * bitsOf (s.nat (obj base (i + 1))) 16 7 + 50 ≤ s.nat 0x700106).getLast?

/-- The table index of a transmission and the limits that bind it (R291): bit 0 cap, 1 host, 2 supply, 3 request; none when
the frequency has no power. -/
def State.txPower (s : State) (hz request : Nat) : Option (Nat × Nat) :=
  match s.capRow hz, s.supplyIndex hz with
  | some (_, cap), some supply =>
    let c := cap - 10 * s.num 0x600008 + 2000
    if c < 0 then none
    else
      let capped := (c / 50).toNat
      let host := s.nat 0x600009
      let i := min (min request 79) (min capped (min host supply))
      some (i, boolNat (capped = i) + 2 * boolNat (host = i ∧ host < 79) + 4 * boolNat (supply = i ∧ supply < 79)
        + 8 * boolNat (request = i))
  | _, _ => none

/-! ### Accounts -/

/-- Whether LBT, duty and dwell are on (R316): bits 0, 1 and 2 of the committed regulatory mode. -/
def State.regulatory (s : State) (bit : Nat) : Bool := bitOf (s.cnat 0x602005) bit

/-- The width of a dwell bucket in ticks (R317): the window in 64 buckets. -/
def State.dwellBucket (s : State) : Nat := s.nat 0x60200D * 153600000 / 64

/-- The width of a duty bucket in ticks: 60 s. -/
abbrev dutyBucket : Nat := 9216000000

/-- The airtime that an account counts (R317): the buckets of one channel or sub-band whose end lies no more than one
window in the past. Keys are number × 2^40 + bucket. -/
def accountUsed (m : Map Nat) (which width window now : Nat) : Nat :=
  (m.filter fun p => p.1 / 2 ^ 40 == which && decide (now < (p.1 % 2 ^ 40 + 1) * width + window)).foldl
    (fun t p => t + p.2) 0

/-- The buckets that still count. -/
def expireAccount (m : Map Nat) (width window now : Nat) : Map Nat :=
  m.filter fun p => decide (now < (p.1 % 2 ^ 40 + 1) * width + window)

/-- Airtime added to the current bucket of a channel or sub-band. -/
def addAirtime (m : Map Nat) (which width now ticks : Nat) : Map Nat :=
  let k := which * 2 ^ 40 + now / max 1 width
  Map.put (fun _ => 0) m k (Map.get (fun _ => 0) m k + ticks)

/-- The channel of the plan nearest to a frequency (R317). -/
def State.nearestChannel (s : State) (hz : Nat) : Nat :=
  let p := planOf (s.cnat 0x602004)
  if hz ≤ p.1 then 0 else min (p.2 - 1) ((hz - p.1 + 100000) / 200000)

/-- The admission of R317: 0 admitted, with the airtime taken; 6 refused by dwell; 7 refused by duty. -/
def State.enrol (s : State) (channel airtime : Nat) (isAck : Bool) : Nat × State :=
  let width := s.dwellBucket
  let window := 64 * width
  let dwell := expireAccount s.link.dwell width window s.gnomon
  let duty := expireAccount s.link.duty dutyBucket (60 * dutyBucket) s.gnomon
  let sb := match s.capRow (s.channelHz channel) with
    | some r => r.1
    | none => 0
  let part := if isAck then 100 else 100 - s.cnat 0x60200F
  let ld := s.cnat 0x60200E * msTicks * part
  let lu := s.cnat (0x602201 + sb) * 55296000 * part
  let s := { s with link := { s.link with dwell := dwell, duty := duty } }
  if s.regulatory 2 ∧ ld < 100 * (accountUsed dwell channel width window s.gnomon + airtime) then (6, s)
  else if s.regulatory 1 ∧ lu < 100 * (accountUsed duty sb dutyBucket (60 * dutyBucket) s.gnomon + airtime) then (7, s)
  else (0, { s with link := { s.link with
    dwell := addAirtime dwell channel width s.gnomon airtime, duty := addAirtime duty sb dutyBucket s.gnomon airtime } })

/-- Airtime given back by a try that never left MTX (R317). -/
def State.giveBack (channel airtime : Nat) (s : State) : State :=
  let sb := match s.capRow (s.channelHz channel) with
    | some r => r.1
    | none => 0
  let take := fun (m : Map Nat) (which width : Nat) =>
    let k := which * 2 ^ 40 + s.gnomon / max 1 width
    Map.put (fun _ => 0) m k (Map.get (fun _ => 0) m k - airtime)
  { s with link := { s.link with dwell := take s.link.dwell channel s.dwellBucket, duty := take s.link.duty sb dutyBucket } }

/-! ### Airtime -/

/-- Octets on air of a frame (R279): preamble, SFD, PHR and PSDU; coding doubles the octets after the SFD (PRESUMED,
notes/assumptions/31.md). -/
def State.frameOctets (s : State) (preamble psdu : Nat) : Nat :=
  preamble + 2 + (if s.cnat 0x600004 = 1 then 2 else 1) * (2 + psdu)

/-- The PSDU length of a frame the device sends (R302, R304): header, auxiliary security header and MIC when it is secured,
payload and FCS. -/
def State.psdu (s : State) (f : OutFrame) : Nat :=
  7 + (match f.dst with
    | .ext _ => 8
    | _ => 2) + (if f.secured then 10 else 0) + f.body.length + s.cnat 0x600007

/-- The airtime of one wake frame (R330). -/
def State.wakeFrameTicks (s : State) : Nat := s.octet * s.frameOctets 4 (12 + s.cnat 0x600007)

/-- The airtime of a frame with the wake frames before it. -/
def State.airtime (s : State) (f : OutFrame) : Nat :=
  f.train * s.wakeFrameTicks + s.octet * s.frameOctets f.preamble (s.psdu f)

/-- The airtime of an enhanced acknowledgement (R307, R308). -/
def State.ackTicks (s : State) (dst : Addr) : Nat :=
  let n := match dst with
    | .ext _ => 17
    | _ => 11
  s.octet * s.frameOctets (s.cnat 0x600006) (n + s.cnat 0x600007)

/-- T_cca (R311). -/
def State.tcca (s : State) : Nat :=
  if s.regulatory 0 then max s.octet (s.nat 0x602008 * 1536 / 10) else s.octet

/-! ### The radio's state -/

/-- The radio's state (R282). -/
abbrev State.radioState (s : State) : Nat := s.nat 0x600101

/-- Whether the narrowband radio exists now: unit 0x0500 is RUNNING (R278). -/
def State.radioUp (s : State) : Bool := s.ustate 0x500 == 2

/-- Whether the mesh network runs (R280). -/
def State.meshUp (s : State) : Bool := s.radioUp && s.ustate 0x502 == 2

/-- A radio state taken (R282, R288): RX time is accumulated, 2 s of it make the DC calibration due; leaving OFF makes the
VCO calibration due. -/
def State.setRadio (new : Nat) (s : State) : State :=
  let old := s.radioState
  let r := s.radio
  let r := if old = 3 ∧ new ≠ 3 then
      { r with rxTime := r.rxTime + (s.gnomon - r.rxSince.getD s.gnomon), rxSince := none, receiving := none }
    else if old ≠ 3 ∧ new = 3 then { r with rxSince := some s.gnomon }
    else r
  let due := fun (k : Nat) (m : Map (Option Nat)) =>
    if (Map.get (fun _ => none) m k).isSome then m else Map.put (fun _ => none) m k (some s.gnomon)
  let m := if 307200000 ≤ r.rxTime then due 2 r.dueSince else r.dueSince
  let m := if old = 0 ∧ new ≠ 0 then due 0 m else m
  { s with radio := { r with dueSince := m } }.setNat 0x600101 new

/-- The ticks that a change of state takes (R283), where the change is one of its table's or passes through STANDBY as it says; the
reference runs in every mode that has the radio (DEDUCED, notes/assumptions/30.md). -/
def changeTicks (old new : Nat) (same : Bool) : Option Nat :=
  let toStandby := if old ≤ 1 then 1844 else 308
  match old, new with
  | 2, 2 => none
  | _, 2 => some toStandby
  | 2, 0 | 2, 1 => some 308
  | 3, 0 | 3, 1 | 4, 0 | 4, 1 => some 616
  | 0, 0 | 0, 1 | 1, 0 | 1, 1 => none
  | 2, 3 => some 9831
  | 4, 3 => some (if same then 6144 else 308 + 9831)
  | 3, 3 => if same then none else some (308 + 9831)
  | _, 3 => some (toStandby + 9831)
  | 2, 4 => some 11060
  | 3, 4 => some (if same then 7373 else 308 + 11060)
  | 4, 4 => none
  | _, 4 => some (toStandby + 11060)
  | _, _ => none

/-- A change of state begins (R283, R287): the state counts from now, and is reached at the change's end. MSW_TX rises at the end of the
synthesiser's lock, or 1 µs after MSW_RX fell. -/
def State.moveRadio (new : Nat) (same : Bool) (s : State) : State :=
  let old := s.radioState
  let t := (changeTicks old new same).getD 0
  let s := s.setRadio new
  let r := { s.radio with arrives := s.gnomon + t }
  { s with radio := if new = 4 then { r with
      txFrom := s.gnomon
      txHigh := s.gnomon + (if old = 3 ∧ same then 154 else t - 11060 + 6144) } else r }

/-- Whether the radio has reached its state. -/
def State.arrived (s : State) : Bool := decide (s.radio.arrives ≤ s.gnomon)

/-- Whether the radio transmits (R287, R293): from the start of a transition to TX until the ramp-down ends. -/
def State.transmitting (s : State) : Bool :=
  s.radioState == 4 && (decide (s.radio.airUntil ≤ s.radio.txFrom) || decide (s.gnomon < s.radio.airUntil))

/-- Whether an acknowledgement is awaited (R288): a frame with AR set has been sent. -/
def State.awaitsAck (s : State) : Bool := s.link.frames.any fun f => f.stage == .sent && f.ar && decide (f.last ≤ s.gnomon)

/-- Whether an acknowledgement window is open (R288): one owed, or to be judged; or one awaited. -/
def State.ackWindow (s : State) : Bool :=
  s.link.ack.isSome || s.awaitsAck
    || s.link.receptions.any fun r => !r.taken && r.copies.any fun c => c.good && c.frame.ar && c.frame.type == 1

/-- Whether a frame is on air (R283). -/
def State.onAir (s : State) : Bool := decide (s.gnomon < s.radio.airUntil)

/-- Since when a calibration is due, if it is (R288): by an event, or by the time since it last ran: 30 s, 10 s with a frame
sent since, none, 60 s. -/
def State.calDue (s : State) (k : Nat) : Option Nat :=
  let last := s.nat (0x600205 + k)
  let period := nthD [4608000000, 1536000000, 0, 9216000000] k 0
  let byTime := if k = 2 ∨ (k = 1 ∧ !s.radio.sentSince) then none
    else if last + period ≤ s.gnomon then some (last + period) else none
  match Map.get (fun _ => none) s.radio.dueSince k, byTime with
  | some a, some b => some (min a b)
  | some a, none => some a
  | none, b => b

/-- The due calibrations as 0x6002:01 reads them. -/
def State.calMask (s : State) : Nat :=
  (List.range 4).foldl (fun t k => if (s.calDue k).isSome then t + 2 ^ k else t) 0

/-- The lengths of the calibrations in ticks (R288). -/
def calTicks (k : Nat) : Nat := nthD [4301, 2458, 1536, 9216] k 0

/-- What a new PA die temperature makes due (R288): 5 °C moved for the VCO and the PA detector, 10 °C for the image. -/
def State.paTemperature (t : Int) (s : State) : State :=
  [(0, 50), (1, 50), (3, 100)].foldl (fun s p =>
    if p.2 ≤ (t - Map.get (fun _ => 0) s.radio.calTemp p.1).natAbs ∧ (Map.get (fun _ => none) s.radio.dueSince p.1).isNone
    then { s with radio := { s.radio with dueSince := Map.put (fun _ => none) s.radio.dueSince p.1 (some s.gnomon) } }
    else s) s

/-- The instants at which state changes towards armed transmissions begin (R288, R311). -/
def State.commitments (s : State) : List Nat :=
  s.launch.filterMap fun p => match p.2 with
    | some e => if e.kind == 8 then
        some (if s.regulatory 0 then e.instant - (7373 + s.tcca + 9831) else e.instant - 11060) else none
    | none => none

/-- Whether an immediate frame is in CSMA-CA (R312). -/
def State.inCsma (s : State) : Bool :=
  s.link.frames.any fun f => f.at_.isNone && (f.stage == .backoff || f.stage == .cca || f.stage == .clear)

/-- The tap chains named for the mode (R435). -/
def State.tapChains (s : State) : List Nat :=
  if s.mode = .full then [s.nat 0x731002, s.nat 0x731003] else [s.nat 0x731002]

/-- The tap engine named for the mode (R435). -/
def State.tapEngine (s : State) : Nat := if s.mode = .full then s.nat 0x731001 else s.nat 0x731005

/-- Whether the narrowband receiver follows a frame (R288, R312). -/
def State.hearing (s : State) : Bool := s.radio.receiving.isSome && decide (s.gnomon < s.radio.rxUntil)

/-- The latest end of a reception from its preamble's detection (R139): 8 octets without an SFD; an invalid PHR; the frame end that the
PHR gives. -/
def State.receptionEnd (s : State) (sfd length : Option Nat) : Nat :=
  match sfd with
  | none => s.gnomon + 8 * s.octet
  | some d =>
    if 8 * s.octet < d then s.gnomon + 8 * s.octet
    else match length with
      | none => s.gnomon + d + 2 * s.octet
      | some n => s.gnomon + d + s.octet * (s.frameOctets 0 n - 2)

/-- Whether the mesh tap runs (R139, R293). -/
def State.tapRuns (s : State) : Bool :=
  let e := s.tapEngine
  s.ustate e == 2 && (s.engine (e - 0x200)).image == 0x0301 && s.owner e == 0

/-- The tap chains retuned to a channel at an instant (R293): one kind 0x04 entry each. -/
def State.retuneTap (hz t : Nat) (s : State) : State :=
  if s.tapRuns then
    s.tapChains.foldl (fun s u =>
      if s.owner u = 0 ∧ s.ustate u = 2 then
        match s.entryFor true with
        | some n =>
          let (k, w) := tuneTo (hz / 1000)
          s.setEntry n (some ⟨t, t, 0, 4, 0, u, 2, 0, 0, 0, leInt 4 w ++ [k, 0, 0, 0]⟩)
        | none => s
      else s) s
  else s

/-! ### Wake telegrams -/

/-- The frequency of 0x6010:02 and of wake requests in Hz (R295, R298). -/
def glimmerHz (freq : Nat) : Nat := if freq = 0 then 433920000 else 868300000

/-- The airtime of one wake telegram (R317). -/
abbrev telegramTicks : Nat := 8601600

/-- The result of a wake request (R298). -/
def State.wakeResult (code start sent : Nat) (s : State) : State :=
  s.issuePaired 0x601102 code (leNat 2 code ++ leNat 8 start ++ leNat 1 sent ++ [0, 0, 0])

/-- A telegram and the 4 ms after it (R298). -/
abbrev telegramSlot : Nat := telegramTicks + 614400

/-- The bits of a wake telegram (R296): preamble, sync, code and target, each with its most significant bit first. -/
def telegramBits (code target : Nat) : List Bool :=
  let msb := fun (w v : Nat) => (List.range w).map fun i => bitOf v (w - 1 - i)
  List.replicate 16 true ++ msb 8 0x1D ++ msb 16 code ++ msb 16 target

/-- Whether the carrier of a wake transmission is on (R296, R298): a 1 is off and then on, a 0 on and then off; off between telegrams. -/
def WakeTx.carrier (w : WakeTx) (now : Nat) : Bool :=
  match w.start with
  | none => false
  | some t =>
    let d := now - t
    let r := d % telegramSlot
    decide (t ≤ now) && decide (d / telegramSlot < w.repeats)
      && match (telegramBits w.code w.target)[r / 153600]? with
        | some b => b == decide (76800 ≤ r % 153600)
        | none => false

/-- A wake transmission over, with the telegrams sent (R298): the radio goes to STANDBY (notes/assumptions/148.md). -/
def State.endWake (w : WakeTx) (start sent : Nat) (s : State) : State :=
  let s := if s.radioState = 4 then s.moveRadio 2 true else s
  (({ s with radio := { s.radio with wake := none } } : State).setNat 0x601103 0).wakeResult 0 start (min w.repeats sent)

/-- A frame's report is due with a status (R314, R315). -/
def State.endFrame (handle status : Nat) (s : State) : State :=
  { s with link := { s.link with frames := s.link.frames.map fun f =>
      if f.handle = handle then { f with stage := .ended, status := status } else f } }

/-- A frame's end after an admission refused it (R315, R318). -/
def State.refuseFrame (handle code : Nat) (s : State) : State :=
  (s.endFrame handle code).bump (if code = 6 then 0x60210F else 0x602110)

/-- Whether the radio may receive on a frequency (R492): the home channel, or the channel of a frame in hand; any while the mesh network
does not run. -/
def State.mayReceive (s : State) (hz : Nat) : Bool :=
  !s.meshUp || hz == s.channelHz (s.cnat 0x603101)
    || s.link.frames.any fun f => f.stage != .queued && f.stage != .ended && s.channelHz f.channel == hz

/-- The scheduled frame for which the transition to TX on a frequency is due, with its entry (R285, R286, R311): admitted already, or with LBT
off still to be admitted; none inside an acknowledgement window. -/
def State.dueForTx (s : State) (hz ticks : Nat) : Option (Nat × OutFrame) :=
  if s.ackWindow then none
  else s.launch.findSome? fun p => match p.2 with
    | some e =>
      if e.kind = 8 ∧ e.instant ≤ s.gnomon + ticks then
        (s.link.frames.find? fun f => f.handle == fieldLe e.param 0 2 && s.channelHz f.channel == hz
          && (f.stage == .clear || (f.stage == .armed && !s.regulatory 0))).map fun f => (p.1, f)
      else none
    | none => none

/-- Whether the transition to TX for the acknowledgement owed is due (R307). -/
def State.ackDue (s : State) (hz ticks : Nat) : Bool :=
  match s.link.ack with
  | some a => hz == s.nat 0x600102 && decide (a.last + 153600 ≤ s.gnomon + ticks)
  | none => false

/-- Whether the radio stays where it is (R284, R285, R309): a change, a frame, a calibration, a test or a wake transmission goes on; an
acknowledgement is owed or must be awaited in RX; a transmission less than 76,800 ticks ahead keeps it from SLEEP and OFF; the pending
listen lasts. -/
def State.radioStays (s : State) (target : Nat) : Bool :=
  !s.arrived || s.onAir || s.radio.calib.isSome || s.radio.test.isSome
    || (s.link.ack.isSome && target != 4)
    || (s.radioState == 4 && s.awaitsAck && target != 3)
    || (target ≤ 1 && s.launch.any fun p => match p.2 with
      | some e => e.kind == 8 && decide (e.instant < s.gnomon + 76800)
      | none => false)
    || (s.radioState == 3 && target == 2 && decide (s.gnomon < s.link.listenUntil))

/-- RADIO_TRANSITION (R282 to R286, R293, R317, R492): the link sequencer moves the radio to a state, on a channel for RX and TX. A move to TX
needs a transmission that is due; a scheduled frame without LBT is admitted here, and a reception is preempted. A new channel retunes
the tap chains at the instant RX is reached. -/
def execRadioTransition (target hz : Nat) (s : State) : Host.Outcome State Fault Refusal :=
  .next <|
    let same := hz == s.nat 0x600102
    match changeTicks s.radioState target same with
    | none => s
    | some ticks =>
      if !s.radioUp || s.radioStays target then s
      else if target = 3 then
        if !s.mayReceive hz then s
        else
          let s := (s.moveRadio 3 same).setNat 0x600102 hz
          if s.radio.rxChannel = hz then s
          else ({ s with radio := { s.radio with rxChannel := hz } } : State).retuneTap hz (s.gnomon + ticks)
      else if target = 4 then
        let start := fun (s : State) =>
          ((if s.hearing then s.bump 0x600108 else s).moveRadio 4 same).setNat 0x600102 hz
        if s.ackDue hz ticks then start s
        else match s.dueForTx hz ticks with
          | none => s
          | some (n, f) =>
            if f.stage = .clear then start s
            else
              let a := s.enrol f.channel (s.airtime f) false
              if a.1 ≠ 0 then (a.2.setEntry n none).refuseFrame f.handle a.1
              else start { a.2 with link := { a.2.link with frames := a.2.link.frames.map fun g =>
                if g.handle = f.handle then { g with stage := .clear } else g } }
      else s.moveRadio target same

/-- SYNTH_UNLOCK (R281): a frame on air ends with status 5 and keeps its airtime; a reception is dropped; the unlock is
counted and announced, and the VCO calibration is due. -/
def execSynthUnlock (s : State) : Host.Outcome State Fault Refusal :=
  .next <|
    if s.radioUp ∧ 2 ≤ s.radioState then
      let airing := s.link.frames.find? fun f => f.stage == .sent && decide (s.gnomon < f.last)
      let s := match airing with
        | some f => s.endFrame f.handle 5
        | none => s
      let s := if s.radioState = 4 then
          let s := ({ s with radio := { s.radio with airUntil := s.gnomon }, link := { s.link with ack := none } } : State).moveRadio 2
            true
          match s.radio.wake with
          | some w => match w.start with
            | some t => s.endWake w t (if t ≤ s.gnomon then min w.repeats ((s.gnomon - t + 614400) / telegramSlot) else 0)
            | none => s
          | none => s
        else { s with radio := { s.radio with receiving := none, arrives := max s.radio.arrives (s.gnomon + 6144) } }
      let s := if (Map.get (fun _ => none) s.radio.dueSince 0).isSome then s
        else { s with radio := { s.radio with dueSince := Map.put (fun _ => none) s.radio.dueSince 0 (some s.gnomon) } }
      (s.bump 0x600109).raise 21 1 0x500 []
    else s

/-! ### Calibrations -/

/-- CALIBRATION_START (R288): the first due calibration of the table starts when no acknowledgement window is open, nothing
is being received, and no state change towards a committed transmission begins before its end and 1,536 ticks. -/
def execCalibrationStart (s : State) : Host.Outcome State Fault Refusal :=
  .next <|
    match (List.range 4).find? fun k => (s.calDue k).isSome with
    | none => s
    | some k =>
      let ready := s.gnomon + (if s.radioState = 3 then 308 else 0)
      if s.radioUp && (s.radioState == 2 || s.radioState == 3) && s.radio.calib.isNone && !s.ackWindow && !s.onAir
          && !s.hearing && !s.inCsma && s.radio.wake.isNone && s.radio.test.isNone
          && s.arrived && s.commitments.all (fun t => decide (ready + calTicks k + 1536 ≤ t)) then
        let back := s.radioState
        let s := if back = 3 then s.moveRadio 2 true else s
        { s with radio := { s.radio with calib := some ⟨k, ready, back⟩ } }
      else s

/-- The offset that a PA-detector calibration gives the drive codes of the band in use (R290): at most 8 codes either way, a free value. -/
def State.offsetDrive (s : State) : State :=
  let band := if s.nat 0x600102 < 600000000 then 0 else 1
  let v : Int := Config.paOffset band s.gnomon % 17
  { s with radio := { s.radio with paOffset := Map.put (fun _ => 0) s.radio.paOffset band (v - 8) } }

/-- The drive code of a table entry of a band with its offset (R290). -/
def State.driveCode (s : State) (band i : Nat) : Int :=
  clampInt 0 255 (bitsOf (s.nat (obj (0x6003 + band) (i + 1))) 0 8 + Map.get (fun _ => 0) s.radio.paOffset band)

/-- CALIBRATION_COMPLETE (R288, R290): the calibration is no longer due, and the radio returns to the state it left. -/
def execCalibrationComplete (s : State) : Host.Outcome State Fault Refusal :=
  .next <|
    match s.radio.calib with
    | none => s
    | some c =>
      if c.started + calTicks c.kind ≤ s.gnomon then
        let s := { s with radio := { s.radio with
          calib := none
          dueSince := s.radio.dueSince.erase c.kind
          calTemp := Map.put (fun _ => 0) s.radio.calTemp c.kind (s.num 0x700004)
          sentSince := if c.kind = 1 then false else s.radio.sentSince
          rxTime := if c.kind = 2 then 0 else s.radio.rxTime } }
        let s := (s.bump 0x600202).setNat (0x600205 + c.kind) s.gnomon
        let s := s.setNat 0x600204 (clearBit (s.nat 0x600204) c.kind)
        let s := if c.kind = 1 then s.offsetDrive else s
        if c.back = 3 then s.moveRadio 3 true else s
      else s

/-- A calibration aborted (R289): the values in force stay, and it stays due. -/
def State.abortCalibration (s : State) : State :=
  match s.radio.calib with
  | none => s
  | some _ => ({ s with radio := { s.radio with calib := none, arrives := s.gnomon + 154 } } : State).bump 0x600203

/-- CALIBRATION_ABORT (R289): a state change towards an armed transmission is due before the calibration ends. -/
def execCalibrationAbort (s : State) : Host.Outcome State Fault Refusal :=
  .next <|
    match s.radio.calib with
    | none => s
    | some c =>
      if s.commitments.any fun t => decide (t < c.started + calTicks c.kind) then s.abortCalibration else s

/-- CALIBRATION_OVERDUE (R288): a calibration due for 10 s sets its bit and raises a radio event. -/
def execCalibrationOverdue (calibration : Nat) (s : State) : Host.Outcome State Fault Refusal :=
  .next <|
    match s.calDue calibration with
    | none => s
    | some t =>
      if calibration < 4 ∧ t + 1536000000 ≤ s.gnomon ∧ !bitOf (s.nat 0x600204) calibration ∧ s.radioUp then
        (s.setNat 0x600204 (setBit (s.nat 0x600204) calibration)).raise 21 1 0x500 []
      else s

/-! ### Received copies -/

/-- A copy joined to a frame at a tick (R294): the first good copy is the frame; of those that arrive together the lowest source is. -/
def Reception.join (now : Nat) (c : FrameCopy) (r : Reception) : Reception :=
  let first : Bool := match r.chosen with
    | none => true
    | some d => !r.taken && r.chosenAt == now && decide (c.source < d.source)
  let r := { r with copies := r.copies ++ [c] }
  if c.good && first then { r with chosen := some c, chosenAt := now } else r

/-- Whether a copy is one of the same frame (R294): within ±2 bit periods and with the same PHR length. -/
def State.sameFrame (s : State) (c : FrameCopy) (r : Reception) : Bool :=
  let bit := s.octet / 8
  match r.copies.head? with
  | some d => c.phr == d.phr && decide (c.sfd ≤ d.sfd + 2 * bit) && decide (d.sfd ≤ c.sfd + 2 * bit)
  | none => false

/-- A frame's selected copy counted by its source (R294); a copy that it replaces is counted no more. -/
def State.countChosen (old new : Option FrameCopy) (s : State) : State :=
  if old = new then s
  else
    let s := match old with
      | some d => s.setNat (0x60010C + d.source) (s.nat (0x60010C + d.source) - 1)
      | none => s
    match new with
    | some c => s.bump (0x60010C + c.source)
    | none => s

/-- A copy joins the frame it is a copy of, or opens a new one; after the selection window it is ignored (R294). -/
def State.addCopy (c : FrameCopy) (s : State) : State :=
  if c.last + 61440 < s.gnomon then s
  else
    let old := (s.link.receptions.find? (s.sameFrame c)).getD ⟨[], none, 0, false⟩
    let new := old.join s.gnomon c
    let rs := if old.copies.isEmpty then s.link.receptions ++ [new]
      else s.link.receptions.map fun r => if r = old then new else r
    ({ s with link := { s.link with receptions := rs } } : State).countChosen old.chosen new.chosen

/-- The largest LQ among a frame's good copies (R294). -/
def Reception.lq (r : Reception) : Nat := r.copies.foldl (fun m c => if c.good then max m c.lq else m) 0

/-- LQ of an SNR in 0.01 dB (R292). -/
def lqOf (snr : Int) : Nat := (clampInt 0 255 ((8 * snr + 50) / 100 + 32)).toNat

/-- NARROWBAND_FRAME (R280, R292, R294, R299): a frame ends in the narrowband receiver, which was in RX before its SFD. A bad PHR drops
it. -/
def execNarrowbandFrame (sfd last : Nat) (phr : Phr) (psdu : Bytes) (plain : Option Bytes) (rssi snr : Int) (s : State) :
    Host.Outcome State Fault Refusal :=
  .next <|
    if s.radioUp ∧ s.radioState = 3 ∧ s.radio.arrives ≤ sfd then
      let good := phr.kept && phr.good psdu
      let s := { s with radio := { s.radio with receiving := none } }
      let s := match s.radio.test with
        | some t => if t.cmd = 3 then { s with radio := { s.radio with test := some { t with
            frames := t.frames + 1, good := t.good + boolNat good, rssi := t.rssi + rssi } } } else s
        | none => s
      if !phr.kept then s.bump 0x60010B
      else
        let s := s.bump (if good then 0x60010A else 0x60010B)
        if s.radio.test.isSome then s
        else s.addCopy ⟨0, sfd, last, phr.length, clampInt (-120) (-10) rssi, lqOf snr, good, plain.isSome,
          macFrame phr.fcs psdu plain⟩
    else s

/-- Whether a retune or start of the tap chain of a path lies in a frame's support (R293): from the 16 preamble bits before its SFD to its
last symbol. -/
def State.tapStraddles (s : State) (path sfd last : Nat) : Bool :=
  (s.chain (nthD s.tapChains path 0x100 - 0x100)).tunes.any fun t => decide (sfd < t.from_ + 2 * s.octet ∧ t.from_ ≤ last)

/-- TAP_COPY (R139, R293, R294): the mesh-tap engine passes a copy from path A or B; from the start of a transition to TX to
the ramp-down's end copies are ignored, and those across a retune are lost. -/
def execTapCopy (path sfd last : Nat) (phr : Phr) (psdu : Bytes) (plain : Option Bytes) (rssi : Int) (lq : Nat) (s : State) :
    Host.Outcome State Fault Refusal :=
  .next <|
    if path < 2 ∧ s.tapRuns then
      let lost := s.tapStraddles path sfd last
      let s := s.tapEnds path
      if s.transmitting ∨ lost ∨ !phr.kept ∨ (path = 1 ∧ s.mode ≠ .full) then s
      else s.addCopy ⟨path + 1, sfd, last, phr.length, rssi, min lq 255, phr.good psdu, plain.isSome, macFrame phr.fcs psdu plain⟩
    else s

/-- PREAMBLE_DETECTED (R71, R94, R139, R288): source 0 is the narrowband receiver, 1 and 2 the tap on path A and B, in LISTEN path A
alone. The operands tell what follows on the air: how many ticks later an SFD stands, and the length that a valid PHR gives. -/
def execPreambleDetected (source : Nat) (sfd length : Option Nat) (s : State) : Host.Outcome State Fault Refusal :=
  .next <|
    let till := s.receptionEnd sfd length
    if source = 0 then
      if s.radioUp ∧ s.radioState = 3 ∧ s.arrived then
        { s with radio := { s.radio with receiving := some s.gnomon, heard := some s.gnomon, rxUntil := till } }
      else s
    else if source ≤ (if s.mode = .full then 2 else 1) ∧ s.tapRuns then
      s.setPath (source - 1) { s.path (source - 1) with tapSince := some s.gnomon, tapUntil := till }
    else s

/-! ### Test and wake requests -/

/-- A wake request acted on (R298): its refusals appear in its result; once accepted it waits for its first free instant. -/
def State.wakeRequest (b : Bytes) (s : State) : State :=
  let code := fieldLe b 0 2
  let repeats := nthD b 4 0
  let freq := nthD b 5 0
  let index := nthD b 6 0
  let hz := glimmerHz freq
  let bad := code = 0 ∨ code = 0xFFFF ∨ repeats < 1 ∨ 8 < repeats ∨ 1 < freq ∨ 79 < index
  if bad then s.wakeResult 0x1601 0 0
  else if nthD b 7 0 ≠ 0 then s.wakeResult 0x010B 0 0
  else if s.radio.wake.isSome then s.wakeResult 0x1602 0 0
  else match s.txPower hz index with
    | none => s.wakeResult 0x1603 0 0
    | some p =>
      let a := s.enrol (s.nearestChannel hz) (repeats * telegramTicks) false
      if a.1 = 6 then s.wakeResult 0x1702 0 0
      else if a.1 = 7 then s.wakeResult 0x1703 0 0
      else
        let s := a.2.await 0x601102
        ({ s with radio := { s.radio with wake := some ⟨code, fieldLe b 2 2, repeats, freq, p.1, none⟩ } } : State).setAll
          [(0x600103, p.1), (0x600104, p.2)] |>.setNat 0x601103 1

/-- WAKE_REQUEST (R298): a write of 0x6011:01. -/
def execWakeRequest (by_ : Requester) (body : Bytes) (s : State) : Host.Outcome State Fault Refusal :=
  .next (s.request by_ 0x601101 body (State.pairedBusy 0x601101 0x601102 by_ body (State.wakeRequest body)))

/-- The ticks from the first telegram to the end of the last gap: each telegram and 4 ms. -/
def WakeTx.span (w : WakeTx) : Nat := w.repeats * telegramSlot

/-- What a tick does to the wake transmission (R298): its transition to TX starts at the first instant free of acknowledgement windows
and committed frames, its telegrams when TX is reached; its result is issued when the last gap ends. -/
def State.tickWake (s : State) : State :=
  match s.radio.wake with
  | none => s
  | some w =>
    match w.start with
    | none =>
      let hz := glimmerHz w.freq
      let ticks := (changeTicks s.radioState 4 (hz == s.nat 0x600102)).getD 0
      if s.radioUp && s.arrived && !s.ackWindow && !s.onAir && s.radio.calib.isNone && s.radio.test.isNone && !s.transmitting
          && s.commitments.all (fun t => decide (s.gnomon + ticks + w.span ≤ t)) then
        let s := ((if s.hearing then s.bump 0x600108 else s).moveRadio 4 (hz == s.nat 0x600102)).setAll
          [(0x600102, hz), (0x601103, 2)]
        let start := s.radio.arrives
        { s with radio := { s.radio with wake := some { w with start := some start }, airUntil := start + w.span, sentSince := true } }
      else s
    | some t => if t + w.span ≤ s.gnomon then s.endWake w t w.repeats else s

/-- The result of a radio test (R299): frames, frames good and mean RSSI, at widths of this model's choosing (DESIGN CHOICE,
notes/assumptions/32.md). -/
def State.testResult (t : RadioTest) (s : State) : State :=
  let mean := if t.frames = 0 then 0 else t.rssi / t.frames
  s.issuePaired 0x600111 0 (leNat 4 t.frames ++ leNat 4 t.good ++ leInt 1 mean ++ List.replicate 5 0)

/-- The check of a radio test (R299). -/
def State.testCheck (s : State) (b : Bytes) : Nat :=
  let cmd := nthD b 0 0
  let hz := fieldLe b 1 4 * 1000
  firstCode [refuseIf (s.ustate 0x502 == 2) 0x0804, refuseIf (decide (3 < cmd) || decide (79 < nthD b 5 0)) 0x1601,
    refuseIf (fieldLe b 6 2 != 0) 0x010B,
    refuseIf ((cmd == 1 || cmd == 2) && (s.txPower hz (nthD b 5 0)).isNone) 0x1603]

/-- A radio test acted on (R299): its refusal appears in an event and the result's sequence only, since the result has no
field for a code. -/
def State.radioTest (b : Bytes) (s : State) : State :=
  let code := s.testCheck b
  if code ≠ 0 then s.issuePaired 0x600111 code (List.replicate 14 0)
  else
    let cmd := nthD b 0 0
    let t : RadioTest := ⟨cmd, fieldLe b 1 4, nthD b 5 0, 0, 0, 0⟩
    if cmd = 0 then
      let old := s.radio.test.getD t
      (({ s with radio := { s.radio with test := none } } : State).moveRadio (if s.radioUp then 2 else s.radioState) true).testResult
        old
    else
      let s := { s with radio := { s.radio with test := some t } }
      let s := (s.moveRadio (if cmd = 3 then 3 else 4) (s.nat 0x600102 == t.channel * 1000)).setNat 0x600102 (t.channel * 1000)
      let s := match s.txPower (t.channel * 1000) t.power with
        | some p => if cmd = 3 then s else s.setAll [(0x600103, p.1), (0x600104, p.2)]
        | none => s
      s.testResult t

/-- RADIO_TEST (R299): a write of 0x6001:10. -/
def execRadioTest (by_ : Requester) (body : Bytes) (s : State) : Host.Outcome State Fault Refusal :=
  .next (s.request by_ 0x600110 body (State.pairedBusy 0x600110 0x600111 by_ body (State.radioTest body)))

/-! ### Objects -/

/-- The rules of R280 and R297 for a write: the pair of rate and index, and Glimmer enabled with a code. -/
def State.radioRule (s : State) (key : Nat) (v : Int) : Nat :=
  let rate := if key = 0x600001 then v.toNat else s.nat 0x600001
  let index := if key = 0x600002 then v.toNat else s.nat 0x600002
  if key = 0x600001 ∨ key = 0x600002 then refuseIf ((rate == 0 && index == 0) || (2 ≤ rate && index == 1)) 0x1601
  else if key = 0x601001 then refuseIf (v == 1 && s.nat 0x601003 == 0) 0x1601
  else 0

end Sys2Proof.Machine
end

