-- ==== Sys2Proof/Machine/Link.lean ====
section
/-!
DEFINITION. Machine/Link.lean: the Voussoir link layer (spec/16_voussoir_link.md): the filter, security and duplicates of
received frames, acknowledgements, CSMA-CA and scheduled frames, retries, and the outgoing frame counter.
-/
namespace Sys2Proof.Machine

/-! ### Nodes and keys -/

/-- A node-table entry (R340). -/
def State.node (s : State) (i : Nat) : Node := Map.get (fun _ => Node.init) s.mesh.nodes i

/-- A node-table entry replaced. -/
def State.setNode (i : Nat) (n : Node) (s : State) : State :=
  { s with mesh := { s.mesh with nodes := Map.put (fun _ => Node.init) s.mesh.nodes i n } }

/-- The index of the node in the table with a short address (R324). -/
def State.nodeByShort (s : State) (a : Nat) : Option Nat :=
  (s.mesh.nodes.find? fun p => p.2.state != 0 && p.2.short == a).map fun p => p.1

/-- The index of the node in the table with an extended address (R324). -/
def State.nodeByExt (s : State) (e : Nat) : Option Nat :=
  (s.mesh.nodes.find? fun p => p.2.state != 0 && p.2.ext == e).map fun p => p.1

/-- The index of the node that an address names. -/
def State.nodeAt (s : State) : Addr → Option Nat
  | .none => none
  | .short a => s.nodeByShort a
  | .ext e => s.nodeByExt e

/-- Whether the key store holds a network key with an index (R419). -/
def State.keyHeld (s : State) (index : Nat) : Bool :=
  s.flash.keys.any fun p => p.2.type == 1 && p.2.index == index

/-- Whether the link may secure a frame now (R305, R429): a key in use that the store holds, its use permitted, and frame
counters left. -/
def State.canSecure (s : State) : Bool :=
  s.keyUse && s.keyHeld (s.nat 0x602402) && decide (s.nat 0x602401 < 0xFFFFFFFF)

/-- The home channel (R492). -/
def State.homeChannel (s : State) : Nat := s.cnat 0x603101

/-! ### Receiving -/

/-- Whether an address is the device itself. -/
def State.isSelf (s : State) : Addr → Bool
  | .none => false
  | .short a => a == s.cnat 0x602002
  | .ext e => e == s.nat 0x602003

/-- The filter of R303 for a data frame, rules 1 to 5 in order. -/
def State.filter (s : State) (f : MacFrame) : Bool :=
  let wide := f.dst == .short 0xFFFF
  f.type == 1 && f.version == 2
    && (f.pan == s.cnat 0x602001 || (wide && f.pan == 0xFFFF))
    && (wide || s.isSelf f.dst)
    && (f.src != .none && !s.isSelf f.src)
    && (f.level != 0 || (match f.src with
      | .ext _ => s.nat 0x602011 == 1
      | _ => false))

/-- The security check of R304 for a filtered copy: level, key identifier mode, key index, node, key use and MIC. -/
def State.secure (s : State) (c : FrameCopy) : Bool :=
  let f := c.frame
  f.level == 0 || ((f.level == 5 || f.level == 6 || f.level == 7) && f.keyMode == 1 && f.keyIndex != 0
    && (f.keyIndex == s.nat 0x602402 || f.keyIndex == s.nat 0x602403) && s.keyUse && s.keyHeld f.keyIndex
    && (match f.src with
      | .short _ => (s.nodeAt f.src).isSome
      | _ => true)
    && c.micGood)

/-- The counter that a frame carries, or none for an unsecured frame (R310). -/
def MacFrame.secCounter (f : MacFrame) : Option Nat := if f.level = 0 then none else some f.counter

/-- Whether a cache entry younger than 10 s records a frame's DSN and counter (R310). -/
def DsnEntry.hits (now : Nat) (f : MacFrame) (e : DsnEntry) : Bool :=
  e.dsn == f.dsn && e.counter == f.secCounter && decide (now < e.at_ + 1536000000)

/-- Whether a frame is a duplicate (R310). -/
def State.duplicate (s : State) (f : MacFrame) : Bool :=
  f.dst != .short 0xFFFF && (match s.nodeAt f.src, f.src with
    | some i, _ => (s.node i).cache.any (DsnEntry.hits s.gnomon f)
    | none, .ext e => s.link.extCache.any fun p => p.1 == e && p.2.hits s.gnomon f
    | none, _ => false)

/-- Whether a secured frame from a short source is a replay (R305). A join's extended source is not judged so, since R325
takes a rejoin whatever counter it carries (DEDUCED, notes/assumptions/33.md). -/
def State.replay (s : State) (f : MacFrame) : Bool :=
  f.level != 0 && (match f.src with
    | .short a => match s.nodeByShort a with
      | some i => decide (f.counter ≤ (s.node i).lastCounter)
      | none => false
    | _ => false)

/-- A frame recorded in the DSN cache of its source, where the oldest entry makes room (R310), and the node's last counter
(R306 step 6). -/
def State.recordFrame (f : MacFrame) (s : State) : State :=
  let e : DsnEntry := ⟨f.dsn, f.secCounter, s.gnomon⟩
  let wide := f.dst == .short 0xFFFF
  match s.nodeAt f.src, f.src with
  | some i, src =>
    let n := s.node i
    let n := if wide then n else { n with cache := lastN 4 (n.cache ++ [e]) }
    s.setNode i (match src with
      | .short _ => if f.level = 0 then n else { n with lastCounter := f.counter }
      | _ => n)
  | none, .ext x =>
    if wide then s else { s with link := { s.link with extCache := lastN 8 (s.link.extCache ++ [(x, e)]) } }
  | none, _ => s

/-- Whether the pending-data table or the list of extended addresses holds a source (R309). -/
def State.pendingFor (s : State) (a : Addr) : Bool :=
  (match s.nodeAt a with
    | some i => !(s.node i).queue.isEmpty
    | none => false) || (match a with
    | .ext e => s.link.extPending.contains e
    | _ => false)

/-- The time correction of R308 in network time: the expected SFD instant minus the received one, 0 for a frame to which the
schedule assigns no instant. -/
def timeCorrection (expected : Option Nat) (sfd : Nat) : Int :=
  match expected with
  | some e => clampInt (-2047) 2047 (netDiff e sfd)
  | none => 0

/-- The instant that the Voussoir schedule assigns to a frame received: none, as it schedules the device's own frames alone
(R308, R328). -/
def State.expectedSfd (_ : State) (_ : FrameCopy) : Option Nat := none

/-- The acknowledgement of a frame falls due (R306 to R309), when it requests one and is no broadcast. -/
def State.oweAck (c : FrameCopy) (nack : Bool) (s : State) : State :=
  if c.frame.ar && c.frame.dst != .short 0xFFFF then
    let due := some ⟨c.last, c.frame.dsn, c.frame.src, nack, s.pendingFor c.frame.src, timeCorrection (s.expectedSfd c) c.sfd⟩
    { s with link := { s.link with ack := due } }
  else s

/-- The pending listen of R309, from a frame or acknowledgement with frame pending set. -/
def State.listenOn (last : Nat) (s : State) : State :=
  { s with link := { s.link with listenUntil := max s.link.listenUntil (last + s.nat 0x602010 * msTicks) } }

/-- The frame that an enhanced acknowledgement answers (R307): on air before its SFD, AR set, within its wait, DSN equal. -/
def State.ackedFrame (s : State) (c : FrameCopy) : Option OutFrame :=
  if c.frame.type = 2 ∧ c.frame.version = 2 ∧ (c.frame.dst = .none ∨ s.isSelf c.frame.dst) then
    s.link.frames.find? fun f => f.stage == .sent && f.ar && f.dsn == c.frame.dsn && decide (f.last < c.sfd ∧ c.sfd ≤ f.wait)
  else none

/-- The first selected frame that the link has not yet taken. -/
def State.nextReception (s : State) : Option FrameCopy :=
  (s.link.receptions.find? fun r => !r.taken && r.chosen.isSome).bind fun r => r.chosen

/-- That frame marked as taken. -/
def markTaken : List Reception → List Reception
  | [] => []
  | r :: rs => if !r.taken && r.chosen.isSome then { r with taken := true } :: rs else r :: markTaken rs

/-- That frame taken. -/
def State.takeReception (s : State) : State :=
  { s with link := { s.link with receptions := markTaken s.link.receptions } }

/-- LINK_FRAME_RECEIVE (R303 to R310): the selected frame goes through the filter, the duplicate rule, security, replay and
the queue, in the order of R306. -/
def execLinkFrameReceive (s : State) : Host.Outcome State Fault Refusal :=
  .next <|
    match s.nextReception with
    | none => s
    | some c =>
      if !s.meshUp || s.link.ack.isSome || (s.ackedFrame c).isSome then s
      else
        let lq := match s.link.receptions.find? fun r => !r.taken && r.chosen.isSome with
          | some r => r.lq
          | none => c.lq
        let s := s.takeReception
        let f := c.frame
        if !s.filter f then s.bump 0x602102
        else if !s.secure c then s.bump 0x602104
        else if s.duplicate f then (s.oweAck c false).bump 0x602103
        else if s.replay f then s.bump 0x602105
        else
          let s := if f.pending then s.listenOn c.last else s
          if 16 ≤ s.mesh.rx.length then (s.oweAck c true).bump 0x602108
          else
            let s := s.oweAck c false
            let s := (s.recordFrame f).bump 0x602101
            { s with
              radio := { s.radio with judged := none }
              mesh := { s.mesh with rx := s.mesh.rx ++
                [⟨f.src, f.level != 0, f.counter, c.sfd, c.last, lq, c.rssi, f.payload⟩] } }

/-! ### Acknowledgements -/

/-- ACK_SEND (R291, R307, R308, R317, R318): the acknowledgement owed leaves MTX at E + 153,600, when TX is reached. One that admission
refuses, or that has no power, is withheld and counted. -/
def ackSend (s : State) : State × Option AckDue :=
  match s.link.ack with
  | none => (s, none)
  | some a =>
    if !s.radioUp || decide (s.gnomon < a.last + 153600) || s.onAir then (s, none)
    else
      let hz := s.nat 0x600102
      let ticks := s.ackTicks a.dst
      let r := s.enrol (s.nearestChannel hz) ticks true
      let withheld := fun (s : State) =>
        let s := { s with link := { s.link with ack := none } }
        (if s.radioState = 4 then s.moveRadio 3 true else s).bump 0x602107
      match s.txPower hz 79 with
      | none => (withheld s, some a)
      | some p =>
        if r.1 ≠ 0 then (withheld r.2, some a)
        else if s.radioState ≠ 4 ∨ !s.arrived then (s, none)
        else
          let s := { r.2 with link := { r.2.link with ack := none } }
          let psdu := withFcs (s.cnat 0x600007) (ackOctets (s.cnat 0x602001) a.dsn a.dst a.pending a.nack a.correction)
          let s := { s with radio := { s.radio with airUntil := s.gnomon + ticks + 1229, sentSince := true, air := [psdu] } }
          ((((s.setAll [(0x600103, p.1), (0x600104, p.2)]).bump 0x600105).bump 0x602106), some a)

/-- ACK_RECEIVE (R307, R309, R313): an enhanced acknowledgement inside its wait ends the frame: status 0, or 2 for NACK. -/
def execAckReceive (s : State) : Host.Outcome State Fault Refusal :=
  .next <|
    match s.nextReception with
    | none => s
    | some c =>
      match s.ackedFrame c with
      | none => s
      | some f =>
        if !s.meshUp then s
        else
          let lq := match s.link.receptions.find? fun r => !r.taken && r.chosen.isSome with
            | some r => r.lq
            | none => c.lq
          let s := s.takeReception.bump 0x60210A
          let s := if c.frame.pending then s.listenOn c.last else s
          { s with link := { s.link with frames := s.link.frames.map fun g =>
              if g.handle = f.handle then { g with
                stage := .ended, status := if bitOf c.frame.correction 15 then 2 else 0
                flags := putBit g.flags 1 c.frame.pending, correction := correctionOf c.frame.correction, lq := lq }
              else g } }

/-- ACK_WAIT_EXPIRY (R307, R313): the wait ends with no acknowledgement; while a copy whose SFD lies in the wait is still in
selection it runs on. An immediate frame with retries left is retried; any other ends with status 1. -/
def execAckWaitExpiry (handle : Nat) (s : State) : Host.Outcome State Fault Refusal :=
  .next <|
    match s.link.frames.find? fun f => f.handle == handle && f.stage == .sent && f.ar with
    | none => s
    | some f =>
      let ends := s.link.receptions.foldl (fun m r => match r.copies.head? with
        | some c => if f.last < c.sfd ∧ c.sfd ≤ f.wait then max m (c.last + 61440) else m
        | none => m) f.wait
      if !s.meshUp || decide (s.gnomon < ends) then s
      else
        let s := s.bump 0x60210B
        if f.at_.isNone ∧ f.tries ≤ s.nat 0x60200C then
          { s with link := { s.link with frames := s.link.frames.map fun g =>
            if g.handle = handle then { g with stage := .retry } else g } }
        else s.endFrame handle 1

/-- COPY_SELECTION_END (R294): 61,440 ticks after a frame's last symbol its selection is over; without a good copy it is
dropped and counted. -/
def copySelectionEnd (sfd : Nat) (s : State) : State × Option Reception :=
  match s.link.receptions.find? fun r => match r.copies.head? with
    | some c => c.sfd == sfd && decide (c.last + 61440 ≤ s.gnomon) && (r.taken || r.chosen.isNone)
    | none => false with
  | none => (s, none)
  | some r =>
    let s := { s with link := { s.link with receptions := s.link.receptions.filter fun q => q != r } }
    if r.chosen.isNone then (s.bump 0x60010F, some r) else (s, none)

/-! ### Sending -/

/-- A frame handed to the link sequencer (R311): it takes the next handle and waits for its row. -/
def State.handFrame (f : OutFrame) (s : State) : State :=
  { s with link := { s.link with
      frames := s.link.frames ++ [{ f with handle := s.link.nextHandle, stage := .queued }]
      nextHandle := (s.link.nextHandle + 1) % 65536 } }

/-- A frame of the link sequencer by its handle and stage. -/
def State.frameAt (s : State) (handle : Nat) (st : TxStage) : Option OutFrame :=
  s.link.frames.find? fun f => f.handle == handle && f.stage == st

/-- A frame replaced. -/
def State.putFrame (f : OutFrame) (s : State) : State :=
  { s with link := { s.link with frames := s.link.frames.map fun g => if g.handle = f.handle then f else g } }

/-- The DSN and the frame counter taken for a new frame (R302, R305). -/
def State.number (f : OutFrame) (s : State) : OutFrame × State :=
  let f := { f with dsn := s.link.dsn, counter := s.nat 0x602401 }
  let s := { s with link := { s.link with dsn := (s.link.dsn + 1) % 256 } }
  (f, if f.secured then s.setNat 0x602401 (f.counter + 1) else s)

/-- A try of an immediate frame begins (R312, R317): power, admission, then the first backoff. -/
def State.beginTry (f : OutFrame) (s : State) : State :=
  match s.txPower (s.channelHz f.channel) 79 with
  | none => s.endFrame f.handle 8
  | some _ =>
    let a := s.enrol f.channel (s.airtime f) false
    if a.1 ≠ 0 then a.2.refuseFrame f.handle a.1
    else
      let s := a.2
      let be := s.nat 0x602009
      let r := s.fresh (2 ^ be)
      r.2.putFrame { f with stage := .backoff, nb := 0, be := be, left := r.1 * 49152 }

/-- Whether the immediate path is free: one immediate frame at a time is in CSMA-CA or awaits its acknowledgement. -/
def State.immediateFree (s : State) : Bool :=
  !s.link.frames.any fun f => f.at_.isNone && (f.stage == .backoff || f.stage == .cca || f.stage == .sent
    || f.stage == .retry)

/-- IMMEDIATE_FRAME (R311, R312): the oldest immediate frame handed over is numbered, admitted and enters CSMA-CA. A frame
that cannot be secured now stays in hand (R305). -/
def execImmediateFrame (s : State) : Host.Outcome State Fault Refusal :=
  .next <|
    match s.link.frames.find? fun f => f.stage == .queued && f.at_.isNone with
    | none => s
    | some f =>
      if !s.meshUp || !s.immediateFree || (f.secured && !s.canSecure) || s.radio.test.isSome then s
      else
        let n := s.number f
        (n.2.putFrame n.1).beginTry n.1

/-- FRAME_RETRY (R313): the same bytes again, admitted and backed off afresh. -/
def execFrameRetry (handle : Nat) (s : State) : Host.Outcome State Fault Refusal :=
  .next <|
    match s.frameAt handle .retry with
    | some f => if s.meshUp then (s.bump 0x60210C).beginTry f else s
    | none => s

/-- Whether a CCA ending after T_cca, with the frame behind it, would reach a scheduled frame's CCA or transition (R312). -/
def State.reachesScheduled (s : State) (f : OutFrame) : Bool :=
  s.launch.any fun p => match p.2 with
    | some e => e.kind == 8 && decide ((if s.regulatory 0 then e.instant - (7373 + s.tcca) else e.instant - 11060)
        ≤ s.gnomon + s.tcca + 7373 + s.airtime f)
    | none => false

/-- Whether a backoff counts down (R312): it pauses while a frame is received or an acknowledgement window is open. -/
def State.backoffRuns (s : State) : Bool := !s.hearing && !s.ackWindow

/-- What a tick does to the backoffs. -/
def State.tickBackoff (s : State) : State :=
  if s.inCsma && s.backoffRuns then
    { s with link := { s.link with frames := s.link.frames.map fun f =>
        if f.stage = .backoff then { f with left := f.left - 1 } else f } }
  else s

/-- BACKOFF_EXPIRY (R312): the backoff is over and the CCA begins, unless it would reach a scheduled frame. -/
def execBackoffExpiry (handle : Nat) (s : State) : Host.Outcome State Fault Refusal :=
  .next <|
    match s.frameAt handle .backoff with
    | some f =>
      if s.meshUp && f.left == 0 && s.radioState == 3 && s.arrived && s.nat 0x600102 == s.channelHz f.channel && s.backoffRuns
          && s.radio.calib.isNone && !s.reachesScheduled f
      then s.putFrame { f with stage := .cca, wait := s.gnomon } else s
    | none => s

/-- The airtime of an acknowledgement's preamble and SFD (R307). -/
def State.shrTicks (s : State) : Nat := s.octet * (s.cnat 0x600006 + 2)

/-- The octets of a data frame before its FCS (R301, R302, R304, R319): secured with a MIC of 4 octets under the key in use. -/
def State.dataOctets (s : State) (f : OutFrame) : Bytes :=
  let head := macHead 1 f.secured false f.ar false f.dsn (s.cnat 0x602001) f.dst (.short (s.cnat 0x602002))
  if f.secured then
    let index := s.nat 0x602402
    let aux := auxOctets 5 f.counter index
    let key := ((s.flash.keys.find? fun p => p.2.type == 1 && p.2.index == index).map fun p => p.2.key).getD []
    head ++ aux ++ padTo (f.body.length + 4) (Config.ccmSeal key (s.nat 0x602003) f.counter (head ++ aux) f.body)
  else head ++ f.body

/-- The octets of the k-th wake frame before a data frame (R330): 0xF1 and the time from its SFD to the data frame's in units of 125 µs, to
the nearest (notes/assumptions/147.md). -/
def State.wakeOctets (s : State) (f : OutFrame) (k : Nat) : Bytes :=
  let ahead := (f.train - k) * s.wakeFrameTicks + f.preamble * s.octet - 4 * s.octet
  macHead 1 false false false false f.dsn (s.cnat 0x602001) f.dst (.short (s.cnat 0x602002)) ++ [0xF1] ++ leNat 2 ((ahead + 9600) / 19200)

/-- The PSDUs of a transmission in order: its wake frames, then its data frame. -/
def State.onTheAir (s : State) (f : OutFrame) : List Bytes :=
  ((List.range f.train).map (s.wakeOctets f) ++ [s.dataOctets f]).map (withFcs (s.cnat 0x600007))

/-- A frame leaves MTX with its first preamble symbol at `t` (R285, R307): the try is counted, the acknowledgement wait set,
the radio is in TX until the ramp-down ends. A train's frames are all counted. -/
def State.sendFrame (f : OutFrame) (t : Nat) (s : State) : State :=
  let last := t + s.airtime f
  let hz := s.channelHz f.channel
  let p := (s.txPower hz 79).getD (0, 0)
  let s := { s with radio := { s.radio with airUntil := last + 1229, sentSince := true, air := s.onTheAir f } }
  let s := (s.setAll [(0x600102, hz), (0x600103, p.1), (0x600104, p.2)]).bumpBy 0x600105 (f.train + 1)
  let s := if f.ar then s.bump 0x602109 else s
  let wait := last + 153600 + s.shrTicks + 38400
  s.putFrame { f with
    stage := if f.ar then .sent else .ended
    tries := f.tries + 1
    first := t
    last := last
    wait := wait
    power := p.1
    status := 0 }

/-- Whether a CCA that began at a tick reads busy (R312): by RSSI, by a preamble, or by either, or because it was interrupted. -/
def State.ccaBusy (s : State) (start : Nat) (rssi : Int) (preamble : Bool) : Bool :=
  let strong := decide (s.num 0x602006 < rssi)
  let heard : Bool := match s.radio.heard with
    | some t => decide (start ≤ t)
    | none => false
  (match s.nat 0x602007 with
    | 1 => strong
    | 2 => preamble
    | _ => strong || preamble) || heard || !s.backoffRuns

/-- CCA_END (R311, R312): a CCA over T_cca has read an RSSI and whether a preamble was detected. An immediate frame goes on
the air 7,373 ticks later, or backs off again; a scheduled frame is admitted and cleared for its instant, or ends. -/
def execCcaEnd (handle : Nat) (rssi : Int) (preamble : Bool) (s : State) : Host.Outcome State Fault Refusal :=
  .next <|
    match s.frameAt handle .cca, s.frameAt handle .armed with
    | some f, _ =>
      if !s.meshUp || decide (s.gnomon < f.wait + s.tcca) then s
      else if !s.ccaBusy f.wait rssi preamble && s.radioState == 3 && s.arrived && s.radio.calib.isNone then
        (s.moveRadio 4 true).sendFrame f (s.gnomon + 7373)
      else
        let s := s.bump 0x60210E
        if f.nb + 1 = s.nat 0x60200B then ((s.giveBack f.channel (s.airtime f)).endFrame handle 3).bump 0x60210D
        else
          let be := min (f.be + 1) (s.nat 0x60200A)
          let r := s.fresh (2 ^ be)
          r.2.putFrame { f with stage := .backoff, nb := f.nb + 1, be := be, left := r.1 * 49152 }
    | none, some f =>
      match s.launch.find? fun p => match p.2 with
        | some e => e.kind == 8 && fieldLe e.param 0 2 == handle
        | none => false with
      | some (n, some e) =>
        if !s.meshUp || !s.regulatory 0 || s.radioState != 3 || s.link.ack.isSome || s.onAir
            || s.nat 0x600102 != s.channelHz f.channel || decide (s.gnomon < s.radio.arrives + s.tcca)
            || decide (s.gnomon + 7373 < e.instant) then s
        else if s.ccaBusy (s.gnomon - s.tcca) rssi preamble then (((s.setEntry n none).endFrame handle 3).bump 0x60210E).bump 0x60210D
        else
          let a := s.enrol f.channel (s.airtime f) false
          if a.1 ≠ 0 then (a.2.setEntry n none).refuseFrame handle a.1
          else (a.2.putFrame { f with stage := .clear }).moveRadio 4 true
      | _ => s
    | none, none => s

/-- An internal entry placed by master `owner` (R42, R46): late policy 0, so an instant nearer than `lead` moves to the
lead's end, which is counted and announced. -/
def State.placeEntry (n kind target owner lead instant : Nat) (param : Bytes) (s : State) : State :=
  let t := max instant (s.gnomon + lead)
  let e : LaunchEntry := ⟨t, t, 0, kind, 0, target, owner, 0, 0, 0, padTo 8 param⟩
  let s := s.setEntry n (some e)
  if instant < t then (s.bump 0x200102).raise 7 1 (launchSource e) [(8, instant), (8, t)] else s

/-- SCHEDULED_FRAME (R311): the oldest scheduled frame handed over is numbered and bound to a kind 0x08 entry at its
instant. A channel without power ends it with status 8; with no free entry it ends with status 3 (DESIGN CHOICE,
notes/assumptions/34.md). -/
def execScheduledFrame (s : State) : Host.Outcome State Fault Refusal :=
  .next <|
    match s.link.frames.find? fun f => f.stage == .queued && f.at_.isSome with
    | none => s
    | some f =>
      if !s.meshUp || (f.secured && !s.canSecure) then s
      else
        let i := f.at_.getD 0
        if (s.txPower (s.channelHz f.channel) 79).isNone then s.endFrame f.handle 8
        else match s.entryFor true with
          | none => (s.endFrame f.handle 3).bump 0x60210D
          | some n =>
            let r := s.number f
            (r.2.putFrame { r.1 with stage := .armed }).placeEntry n 8 0 2 12288 i (leNat 2 f.handle)

/-- MESH_TX (R285, R286, R311, R312): the entry of a scheduled frame fires. It waits while an acknowledgement is owed or on air, and until
its admission and TX are reached. Beyond the tolerance it is late: cancelled, or sent and marked. -/
def execMeshTx (entry : Nat) (s : State) : Host.Outcome State Fault Refusal :=
  .next <|
    match s.dueEntry entry [8] with
    | none => s
    | some e =>
      let handle := fieldLe e.param 0 2
      if s.link.ack.isSome || s.onAir then s
      else match s.link.frames.find? fun f => f.handle == handle && (f.stage == .clear || f.stage == .armed) with
        | none => s.dropFiring entry e
        | some f =>
          if !s.meshUp then s.dropFiring entry e
          else
            let late := decide (f.at_.getD 0 + s.nat 0x60000A < s.gnomon)
            let f := if late then { f with flags := setBit f.flags 0 } else f
            if late && f.cancelIfLate then
              let s := if f.stage = .clear then s.giveBack f.channel (s.airtime f) else s
              let s := if s.radioState = 4 then s.moveRadio 2 true else s
              (((s.putFrame f).endFrame handle 4).bump 0x600107).afterFiring entry e
            else if f.stage ≠ .clear ∨ s.radioState ≠ 4 ∨ !s.arrived then s
            else ((if late then s.bump 0x600106 else s).sendFrame f s.gnomon).afterFiring entry e

/-- FRAME_COUNTER_RECORD (R305): the outgoing counter has crossed a multiple of 65,536; the next multiple goes to flash. -/
def execFrameCounterRecord (s : State) : Host.Outcome State Fault Refusal :=
  .next <|
    let c := s.nat 0x602401
    if s.flash.frameCounter ≤ c then
      { s with flash := { s.flash with frameCounter := min 0xFFFFFFFF ((c / 65536 + 1) * 65536) } }
    else s

/-! ### Objects -/

/-- The index range of hop channels and the plan's rule for a channel (R316, R339). -/
def State.channelOk (s : State) (n : Nat) : Bool :=
  decide (n < (planOf (s.nat 0x602004)).2) && (s.nat 0x600001 < 2 || n % 2 == 0)

/-- The rules of R316, R317 and 0x6024 for a write. -/
def State.linkRule (s : State) (key : Nat) (v : Int) : Nat :=
  let n := v.toNat
  match key with
  | 0x602001 | 0x602002 => 0
  | 0x602009 => refuseIf (decide (s.nat 0x60200A < n)) 0x1701
  | 0x60200A => refuseIf (decide (n < s.nat 0x602009)) 0x1701
  | 0x60200D => refuseIf (decide (n * 1000 < s.nat 0x60200E)) 0x1701
  | 0x60200E => refuseIf (decide (s.nat 0x60200D * 1000 < n)) 0x1701
  | 0x602402 => refuseIf (!s.keyHeld n) 0x1704
  | 0x602403 => refuseIf (n != 0 && !s.keyHeld n) 0x1704
  | _ => 0

/-- The default regulatory mode of a plan (R316). -/
def planMode (plan : Nat) : Nat := if plan = 1 then 4 else 3

/-- All the airtime of an account in its newest bucket under a new width (R318). -/
def foldAccount (m : Map Nat) (width now : Nat) : Map Nat :=
  m.foldl (fun t p => addAirtime t (p.1 / 2 ^ 40) width now p.2) []

/-- What a write to a link object does beside storing the value (R316 to R318): a plan sets its default mode and duty limits
and clears the accounts; a window moves each dwell account into its newest bucket. -/
def State.linkEffect (key : Nat) (s : State) : State :=
  match key with
  | 0x602004 =>
    let s := s.setNat 0x602005 (planMode (s.nat 0x602004))
    let s := s.setAll [(0x602201, 100), (0x602202, if s.nat 0x602004 = 0 then 100 else 0),
      (0x602203, if s.nat 0x602004 = 0 then 100 else 0), (0x602204, if s.nat 0x602004 = 0 then 100 else 0)]
    { s with link := { s.link with dwell := [], duty := [] } }
  | 0x60200D | 0x60200E | 0x602201 | 0x602202 | 0x602203 | 0x602204 =>
    let dwell := foldAccount (expireAccount s.link.dwell s.dwellBucket (64 * s.dwellBucket) s.gnomon)
      (s.nat 0x60200D * 153600000 / 64) s.gnomon
    let duty := foldAccount (expireAccount s.link.duty dutyBucket (60 * dutyBucket) s.gnomon) dutyBucket s.gnomon
    { s with link := { s.link with dwell := dwell, duty := duty } }
  | _ => s

/-- The accounts as 0x6023:01 and :02 read them (R317): snapshot sequence (whose steps the specification does not give: a
free value, notes/assumptions/41.md), count, then µs per channel or sub-band. -/
def State.accountBytes (s : State) (sub : Nat) : Bytes :=
  let n := if sub = 1 then (planOf (s.cnat 0x602004)).2 else (capRows (s.cnat 0x602004)).length
  let used := fun k => if sub = 1 then accountUsed s.link.dwell k s.dwellBucket (64 * s.dwellBucket) s.gnomon
    else accountUsed s.link.duty k dutyBucket (60 * dutyBucket) s.gnomon
  leNat 2 (Config.accountSnap sub s.gnomon) ++ leNat 2 n ++ (List.range n).flatMap fun k => leNat 4 (used k * 10 / 1536)

end Sys2Proof.Machine
end

