-- ==== Sys2Proof/Machine/Mesh.lean ====
section
/-!
DEFINITION. Machine/Mesh.lean: the mesh core (spec/17_voussoir_mesh.md): Voussoir frames, joining, readings, rendezvous with
sleepy nodes, wake trains, shadow maps, phase gates, downlinks and the node table.
-/
namespace Sys2Proof.Machine

/-! ### Rotation and shadow maps -/

/-- The rotation phase at a tick (R331), while the rotation is known. -/
def Node.phaseAt (n : Node) (now t : Nat) : Option Nat :=
  if n.period = 0 ∨ n.rotAt + 4608000000 ≤ now then none
  else
    let d := 7680 * n.period
    let num : Int := 256 * ((t : Int) - n.rotAt)
    some ((n.phase + num / d) % 256).toNat

/-- The bin of the phase at a tick. -/
def Node.binAt (n : Node) (now t : Nat) : Option Nat := (n.phaseAt now t).map (· / 8)

/-- A bin after an observation (R332): q + round((x − q) / 8), halves away from zero. -/
def moveBin (q x : Nat) : Nat :=
  if q = 255 then x
  else if q ≤ x then q + (x - q + 4) / 8
  else q - (q - x + 4) / 8

/-- An observation of a node's shadow map (R332): the bin at an SFD takes quality `x`. -/
def Node.observe (now sfd x : Nat) (n : Node) : Node :=
  match n.binAt now sfd with
  | none => n
  | some b => { n with
      bins := setNth n.bins b (moveBin (nthD n.bins b 255) (min x 254)), binPeriod := n.period
      observations := satAdd 32 n.observations 1 }

/-- Whether a bin is good (R333). -/
def State.goodBin (s : State) (n : Node) (b : Nat) : Bool :=
  nthD n.bins b 255 == 255 || decide (s.nat 0x60300A ≤ nthD n.bins b 255)

/-- The 40 bytes of 0x6600+i (R338). -/
def Node.mapBytes (n : Node) : Bytes :=
  n.bins ++ leNat 2 n.binPeriod ++ [n.gateStart, n.gateWidth] ++ leNat 4 n.observations

/-- The 64 bytes of 0x6400+i (R340). -/
def Node.entryBytes (n : Node) : Bytes :=
  leNat 8 n.ext ++ leNat 2 n.short ++ [n.state, n.role, n.interval, n.dnode, n.listen, n.valueCount]
    ++ leNat 4 n.lastCounter ++ leNat 8 n.fix ++ leNat 8 n.anchor ++ [n.misses, n.lq] ++ leInt 1 n.rssi ++ [n.hops]
    ++ leNat 2 n.via ++ leNat 2 n.anchorCount ++ leNat 2 n.period ++ [n.phase, n.queue.length] ++ leNat 8 n.rotAt
    ++ leNat 4 n.received ++ leNat 4 n.delivered

/-! ### Blocks of the Voussoir header -/

/-- The sampling interval in ticks: 2^n × 15.625 ms. -/
def Node.intervalTicks (n : Node) : Nat := 2 ^ n.interval * 2400000

/-- L_s in ticks: units of 50 µs. -/
def Node.listenTicks (n : Node) : Nat := n.listen * 7680

/-- A rotation block taken (R321, R331). -/
def Node.rotate (b : Bytes) (sfd : Nat) (n : Node) : Node :=
  if b.isEmpty then n
  else
    let p := fieldLe b 1 2
    let n := { n with period := p, echo := nthD b 3 0 }
    if p = 0 then n else { n with phase := nthD b 0 0, rotAt := sfd }

/-- A phase fix (R328): it replaces the last and clears the misses. -/
def Node.fixAt (anchor count fix : Nat) (n : Node) : Node :=
  { n with anchor := anchor, anchorCount := count % 65536, fix := fix, misses := 0, retryFrom := none, missAt := none,
           trains := 0, trainAt := none }

/-- A node's schedule block taken (R321, R328). -/
def Node.schedule (b : Bytes) (sfd : Nat) (n : Node) : Node :=
  if b.isEmpty then n
  else
    { n with interval := min 9 (nthD b 0 0 % 16), listen := nthD b 7 0 }.fixAt
      (sfd - fieldLe b 3 4 * 1536 / 10) (fieldLe b 1 2) sfd

/-! ### Frames to nodes -/

/-- A Voussoir frame's bytes (R319): kind, flags, TTL of 0x6030:02, origin, final destination, sequence, blocks, body. -/
def State.voussoir (s : State) (kind flags dest : Nat) (blocks body : Bytes) : Bytes :=
  [kind + 16, flags, s.nat 0x603002] ++ leNat 2 (s.cnat 0x602002) ++ leNat 2 dest ++ leNat 2 s.mesh.seq ++ blocks ++ body

/-- A frame of the mesh core with its fields that do not depend on its route. -/
def freshFrame (purpose : Purpose) (node : Nat) (dst : Addr) (body : Bytes) : OutFrame :=
  { handle := 0, purpose := purpose, node := node, dst := dst, ar := true, secured := true, body := body, channel := 0,
    preamble := 0, train := 0, route := 0, at_ := none, cancelIfLate := false, sample := 0, count := 0, stage := .queued,
    nb := 0, be := 0, left := 0, tries := 0, dsn := 0, counter := 0, first := 0, last := 0, wait := 0, status := 0,
    flags := 0, correction := 0, lq := 0, power := 0 }

/-- A frame handed over with the next Voussoir sequence spent. -/
def State.handVoussoir (f : OutFrame) (s : State) : State :=
  let s := s.handFrame f
  { s with mesh := { s.mesh with seq := (s.mesh.seq + 1) % 65536 } }

/-- Whether a downlink to a node goes as an immediate frame (R327, R341): a router stands between, or the node is always
on. -/
def Node.immediate (n : Node) : Bool := n.via != 0 || n.role != 0

/-- The oldest downlink of a node that the link does not have, when it has none of the node. -/
def Node.nextDownlink (n : Node) : Option Downlink :=
  if n.queue.any fun d => d.busy then none else n.queue.head?

/-- A downlink of a node marked as handed to the link or not. -/
def Node.mark (handle : Nat) (busy : Bool) (n : Node) : Node :=
  { n with queue := n.queue.map fun d => if d.handle = handle then { d with busy := busy } else d }

/-- The kind of frame and purpose of a downlink; handle 0 is an automatic gate. -/
def Downlink.purpose (d : Downlink) : Purpose :=
  if d.handle = 0 then .gate (nthD d.body 0 0) (nthD d.body 1 0) else .downlink d.handle

/-- The next downlink of a node on an immediate route handed over (R327): to its router, or to the node itself. -/
def State.pumpNode (i : Nat) (s : State) : State :=
  let n := s.node i
  match n.nextDownlink with
  | some d =>
    if n.immediate ∧ n.state ≠ 0 then
      let f := freshFrame d.purpose i (.short (if n.via = 0 then n.short else n.via)) (s.voussoir d.kind 0 n.short [] d.body)
      let f := { f with channel := s.homeChannel, preamble := s.cnat 0x600006, route := if n.via = 0 then 4 else 3 }
      (s.setNode i (n.mark d.handle true)).handVoussoir f
    else s
  | none => s

/-- The frames in hand for a node that have not left MTX cancelled, with their launch entries; their downlinks wait again. -/
def State.cancelFrames (i : Nat) (s : State) : State :=
  let mine := fun (f : OutFrame) => f.node == i && (f.stage == .queued || f.stage == .armed)
  let gone := (s.link.frames.filter mine).map fun f => f.handle
  let s := { s with link := { s.link with frames := s.link.frames.filter fun f => !mine f } }
  let s := (List.range 64).foldl (fun s n => match s.entry n with
    | some e => if e.kind = 8 ∧ gone.contains (fieldLe e.param 0 2) then s.setEntry n none else s
    | none => s) s
  if gone.isEmpty then s
  else s.setNode i { s.node i with queue := (s.node i).queue.map fun d => { d with busy := false } }

/-! ### Completions and removal -/

/-- A completion record (R342) of a downlink of the host. -/
def State.completeDownlink (handle status route tries sfd : Nat) (s : State) : State :=
  if handle = 0 then s
  else (s.pushFifo 0x604003 32 (leNat 2 handle ++ [status, route, tries, 0, 0, 0] ++ leNat 8 sfd)).1

/-- A downlink taken off a node's queue. -/
def State.dropDownlink (i handle : Nat) (s : State) : State :=
  let n := s.node i
  s.setNode i { n with queue := n.queue.filter fun d => d.handle != handle }

/-- A node's entry freed (R324, R341, R342): armed deliveries cancelled, queued downlinks completed with status 3, mirror and
map cleared, the identity in flash erased. -/
def State.removeNode (i : Nat) (s : State) : State :=
  if (s.node i).state = 0 then s
  else
    let s := s.cancelFrames i
    let s := (s.node i).queue.foldl (fun s d => s.completeDownlink d.handle 3 0 d.tries 0) s
    let k := obj (0x6800 + i) 0
    let seq := (s.nat (k + 0x10) + 1) % 65536
    let s := s.clearKeys ((List.range 14).map fun j => k + 3 + j)
    let s := (s.setNat (k + 0x10) seq).setNode i Node.init
    { s with flash := { s.flash with nodes := s.flash.nodes.erase i, nodeCounters := s.flash.nodeCounters.erase i } }

/-- Whether the table has no free entry. -/
def State.tableFull (s : State) : Bool := decide (512 ≤ (s.mesh.nodes.filter fun p => p.2.state != 0).length)

/-- Whether joining is open (R323, R338): 65,535, or a countdown still running. -/
def State.joiningOpen (s : State) : Bool :=
  let v := s.nat 0x603007
  v == 65535 || (v != 0 && decide (s.gnomon < s.mesh.joinFrom + v * 153600000))

/-- The value that 0x6030:07 reads: the seconds left. -/
def State.joiningLeft (s : State) : Nat :=
  let v := s.nat 0x603007
  if v = 65535 then v else v - (s.gnomon - s.mesh.joinFrom) / 153600000

/-- The nodes in state 2 or 3 (0x6030:0E). -/
def State.nodesJoined (s : State) : Nat :=
  (s.mesh.nodes.filter fun p => p.2.state == 2 || p.2.state == 3).length

/-! ### Voussoir frames -/

/-- The length of a kind's body, when the kind fixes it; none when it does not match (R319, R320). -/
def bodyOk (kind : Nat) (b : Bytes) : Bool :=
  match kind with
  | 0 => b.length == 1 + 4 * ((List.range 8).filter (bitOf (nthD b 0 0))).length
  | 1 => b.length == 15
  | 2 => b.length == 27
  | 3 => 1 ≤ b.length && b.length ≤ 64
  | 4 => b.length == 4
  | 5 => 8 ≤ b.length
  | 6 => 16 ≤ b.length
  | 7 => b.isEmpty
  | _ => false

/-- VOUSSOIR_FRAME (R319, R327, R328, R331, R332): the oldest delivered frame is checked, misdirected and malformed ones are
counted; a repeat of the seen cache is dropped; an accepted frame updates its node's via, fix, rotation and shadow map. -/
def execVoussoirFrame (s : State) : Host.Outcome State Fault Refusal :=
  .next <|
    match s.mesh.rx with
    | [] => s
    | d :: rest =>
      if !s.meshUp then s
      else
        let s := { s with mesh := { s.mesh with rx := rest } }
        let p := d.payload
        let kind := nthD p 0 0 % 16
        let flags := nthD p 1 0
        let rl := if bitOf flags 0 then 4 else 0
        let sl := if bitOf flags 1 then 8 else 0
        let rotation := sliceB p 9 rl
        let schedule := sliceB p (9 + rl) sl
        let body := p.drop (9 + rl + sl)
        let origin := fieldLe p 3 2
        let dest := fieldLe p 5 2
        let seq := fieldLe p 7 2
        let hops := nthD p 2 0 / 16
        if p.length < 9 + rl + sl || nthD p 0 0 / 16 != 1 || !bodyOk kind body then s.bump 0x603205
        else if !(dest == 0 || dest == s.cnat 0x602002 || dest == 0xFFFF) then s.bump 0x603205
        else
          let key := origin * 65536 + seq
          let fresh := s.mesh.seen.filter fun q => decide (s.gnomon < q.2 + 4608000000)
          if fresh.any fun q => q.1 == key then ({ s with mesh := { s.mesh with seen := fresh } } : State).bump 0x603202
          else
            let s := ({ s with mesh := { s.mesh with seen := lastN 1024 (fresh ++ [(key, s.gnomon)]) } } : State).bump
              0x603201
            let i := match d.src with
              | .ext e => s.nodeByExt e
              | _ => s.nodeByShort origin
            let s := match i with
              | none => s
              | some i =>
                let n := s.node i
                let via := if hops = 0 then 0 else match d.src with
                  | .short a => a
                  | _ => 0
                let n := { n with
                  received := satAdd 32 n.received 1, lq := d.lq, rssi := d.rssi, hops := hops, via := via
                  heardAt := s.gnomon, state := if n.state = 3 then 2 else n.state }
                let n := (n.rotate rotation d.sfd).schedule schedule d.sfd
                let n := if hops = 0 then n.observe s.gnomon d.sfd d.lq else n
                let s := s.setNode i n
                let again := (s.launch.any fun q => match q.2 with
                  | some e => e.kind == 8 && decide (s.gnomon + 12288 + (if s.regulatory 0 then 7373 + s.tcca else 0)
                      < e.instant)
                      && s.link.frames.any fun f => f.node == i && f.stage == .armed && f.route == 0
                        && f.handle == fieldLe e.param 0 2
                  | none => false) && !schedule.isEmpty
                if again then s.cancelFrames i else s
            let index := i.getD 512
            if kind = 0 ∨ kind = 1 ∨ kind = 5 ∨ kind = 7 then
              { s with mesh := { s.mesh with work := s.mesh.work ++
                [⟨d, index, kind, origin, seq, rotation, schedule, body⟩] } }
            else s

/-- The oldest accepted frame when it is of a kind, and the state without it. -/
def State.takeWork (s : State) (kind : Nat) : Option (Work × State) :=
  match s.mesh.work with
  | w :: rest => if w.kind = kind then some (w, { s with mesh := { s.mesh with work := rest } }) else none
  | [] => none

/-! ### Joining -/

/-- Whether an extended address stands in the block list 0x6033:01. -/
def State.blocked (s : State) (ext : Nat) : Bool :=
  let b := s.bytes 0x603301
  (List.range (b.length / 8)).any fun j => fieldLe b (8 * j) 8 == ext

/-- The lowest free index of the node table (R324). -/
def State.freeNode (s : State) : Option Nat := (List.range 512).find? fun i => (s.node i).state == 0

/-- The identity of a node and its counter written to flash (R324, R325). -/
def State.rememberNode (i : Nat) (s : State) : State :=
  let n := s.node i
  { s with flash := { s.flash with
    nodes := Map.put (fun _ => []) s.flash.nodes i ((n.entryBytes).take 20)
    nodeCounters := Map.put (fun _ => 0) s.flash.nodeCounters i n.lastCounter } }

/-- JOIN_REQUEST (R322 to R325): the status of R323 by its table, the entry of R324, the pending list, and the join response
due after the acknowledgement. -/
def execJoinRequest (s : State) : Host.Outcome State Fault Refusal :=
  .next <|
    match s.takeWork 1 with
    | none => s
    | some (w, s) =>
      match w.from_.src with
      | .ext e =>
        let known := s.nodeByExt e
        let slot := match known with
          | some i => some i
          | none => s.freeNode
        let status := if !s.joiningOpen then 1 else if s.blocked e then 3 else if slot.isNone then 2 else 0
        let due : JoinDue := ⟨e, status, if status = 0 then slot.getD 512 else 512, none⟩
        let s := if status = 0 then
            let i := slot.getD 512
            let n := s.node i
            let b := w.body
            let n := { n with
              ext := e, short := s.cnat 0x603001 + i, state := if n.state = 0 then 1 else n.state
              role := nthD b 0 0, dnode := if nthD b 1 0 = 0 then 40 else nthD b 1 0, valueCount := nthD b 2 0
              types := sliceB b 3 8, lastCounter := max n.lastCounter (fieldLe b 11 4), heardAt := s.gnomon
              via := 0, lq := w.from_.lq, rssi := w.from_.rssi }
            let n := if known.isSome then n else (n.rotate w.rotation w.from_.sfd).schedule w.schedule w.from_.sfd
            (s.setNode i n).rememberNode i
          else s
        let ack := match s.link.ack with
          | some a => if a.dst = .ext e then some { a with pending := true } else some a
          | none => none
        { s with
          link := { s.link with extPending := lastN 8 ((s.link.extPending.filter (· != e)) ++ [e]), ack := ack }
          mesh := { s.mesh with joins := (s.mesh.joins.filter fun j => j.ext != e) ++ [due] } }
      | _ => s

/-- JOIN_RESPONSE (R322, R323): the response whose instant the acknowledgement has set is handed over as a scheduled
frame. -/
def execJoinResponse (s : State) : Host.Outcome State Fault Refusal :=
  .next <|
    match s.mesh.joins.find? fun j => j.at_.isSome with
    | none => s
    | some j =>
      if !s.meshUp then s
      else
        let n := s.node j.index
        let len := s.cnat 0x603111
        let body := [j.status] ++ leNat 2 (if j.status = 0 then n.short else 0)
          ++ leNat 4 (if j.status = 0 then n.lastCounter else 0)
          ++ [s.nat 0x603002, s.nat 0x603004, s.nat 0x603005, len]
          ++ (List.range 16).map fun k => if k < len then s.cnat (0x603101 + k) else 0
        let pre := s.cnat 0x600006
        let f := freshFrame (.join j.ext) j.index (.ext j.ext) (s.voussoir 2 0 (if j.status = 0 then n.short else 0) [] body)
        let f := { f with channel := s.homeChannel, preamble := pre, route := 1, at_ := some (j.at_.getD 0 - pre * s.octet) }
        let s := s.handVoussoir f
        { s with
          mesh := { s.mesh with joins := s.mesh.joins.filter fun k => k.ext != j.ext }
          link := { s.link with extPending := s.link.extPending.filter (· != j.ext) } }

/-- ACK_SEND (R307, R309, R322, R330): the acknowledgement owed is sent; a join response, or the oldest downlink of a sleepy
node, follows with its SFD 3 ms after the ramp-down. -/
def execAckSend (s : State) : Host.Outcome State Fault Refusal :=
  .next <|
    let sent := s.nat 0x602106
    let r := ackSend s
    let s := r.1
    match r.2 with
    | none => s
    | some a =>
      if s.nat 0x602106 = sent then s
      else
        let sfd := s.radio.airUntil + 460800
        match a.dst, s.nodeAt a.dst with
        | .ext e, _ =>
          { s with mesh := { s.mesh with joins := s.mesh.joins.map fun j =>
            if j.ext = e ∧ j.at_.isNone then { j with at_ := some sfd } else j } }
        | _, some i =>
          if (s.node i).role = 0 ∧ (s.node i).via = 0 ∧ a.pending then
            let s := s.cancelFrames i
            let n := s.node i
            match n.nextDownlink with
            | none => s
            | some d =>
              let pre := s.cnat 0x600006
              let f := freshFrame d.purpose i (.short n.short) (s.voussoir d.kind 0 n.short [] d.body)
              let f := { f with channel := s.homeChannel, preamble := pre, route := 1, at_ := some (sfd - pre * s.octet) }
              (s.setNode i (n.mark d.handle true)).handVoussoir f
          else s
        | _, none => s

/-- LEAVE (R320, R324): a kind-7 frame frees the node's entry. -/
def execLeave (s : State) : Host.Outcome State Fault Refusal :=
  .next <|
    match s.takeWork 7 with
    | none => s
    | some (w, s) => if w.node < 512 then s.removeNode w.node else s

/-- The values of a readings frame (R320): the numbers of the present values with their I32. -/
def readingValues : List Nat → Bytes → List (Nat × Int)
  | [], _ => []
  | v :: vs, b => (v, signed 4 (fieldLe b 0 4)) :: readingValues vs (b.drop 4)

/-- READINGS (R341): the mirror takes the present values, the changed mask, the SFD, the sequence and the LQ; its own
sequence rises. A value received for the first time counts as changed. -/
def execReadings (s : State) : Host.Outcome State Fault Refusal :=
  .next <|
    match s.takeWork 0 with
    | none => s
    | some (w, s) =>
      if 512 ≤ w.node ∨ (s.node w.node).state = 0 then s
      else
        let k := obj (0x6800 + w.node) 0
        let mask := nthD w.body 0 0
        let old := s.nat (k + 5)
        let vals := readingValues ((List.range 8).filter (bitOf mask)) (w.body.drop 1)
        let changed := vals.foldl (fun m p =>
          if s.num (k + 7 + p.1) ≠ p.2 ∨ !bitOf old p.1 then setBit m p.1 else m) 0
        let s := vals.foldl (fun s p => s.setNum (k + 7 + p.1) p.2) s
        let present := vals.foldl (fun m p => setBit m p.1) old
        let s := s.setAll [(k + 3, w.from_.sfd), (k + 4, w.seq), (k + 5, present), (k + 6, changed), (k + 0x0F, w.from_.lq),
          (k + 0x10, ((s.nat (k + 0x10) + 1) % 65536 : Nat))]
        let n := s.node w.node
        if changed = 0 then s else s.setNode w.node { n with changes := n.changes + 1 }

/-! ### Rendezvous -/

/-- The guard of R329 in ticks, rounded up to 5 µs, for a delivery aimed at `t`; doubled for a retry. -/
def Node.guardTicks (n : Node) (t : Nat) : Nat :=
  let g := roundUp 768000000 (46080 * 1000000 + 2 * (n.dnode + 20) * (t - n.fix)) / 1000000
  if n.retryFrom.isSome then 2 * g else g

/-- The preamble in octets that covers 2G + L_s (R329). -/
def State.guardPreamble (s : State) (n : Node) (t : Nat) : Nat :=
  max 4 ((2 * n.guardTicks t + n.listenTicks + s.octet - 1) / s.octet)

/-- Whether a rendezvous at `t` may be placed at all (R329): the guard within half the interval, the preamble within 1,000
octets. -/
def State.guardFits (s : State) (n : Node) (t : Nat) : Bool :=
  2 * n.guardTicks t ≤ n.intervalTicks && s.guardPreamble n t ≤ 1000

/-- The SFD predicted for a rendezvous at `t`. -/
def State.sfdAt (s : State) (n : Node) (t : Nat) : Nat := t - n.guardTicks t + s.guardPreamble n t * s.octet

/-- The lead that a scheduled frame needs (R311). -/
def State.scheduledLead (s : State) : Nat := if s.regulatory 0 then 12288 + 7373 + s.tcca else 12288

/-- Whether a span overlaps a scheduled frame in hand (R330). -/
def State.overlapsFrame (s : State) (from_ to_ : Nat) : Bool :=
  s.link.frames.any fun f => match f.at_ with
    | some i => f.stage != .ended && decide (i ≤ to_ ∧ from_ ≤ i + s.airtime f + 400000)
    | none => false

/-- The sample instants of R335 with their sample numbers: from the first that the lead allows, to the horizon; the first
one always stands. -/
def State.candidates (s : State) (n : Node) : List (Nat × Nat) :=
  let iv := n.intervalTicks
  let j0 := (s.gnomon - n.anchor) / iv
  let limit := s.gnomon + s.nat 0x603009 * msTicks
  let all := (List.range (s.nat 0x603009 * msTicks / iv + 8)).map fun j => (j0 + j, n.anchor + (j0 + j) * iv)
  let ok := all.filter fun p => decide (s.gnomon + s.scheduledLead + n.guardTicks p.2 ≤ p.2)
    && (match n.retryFrom with
      | some r => decide (r < p.2)
      | none => true)
    && !s.overlapsFrame (p.2 - n.guardTicks p.2 - s.scheduledLead) (s.sfdAt n p.2 + 200 * s.octet + 400000)
  match ok with
  | [] => []
  | p :: rest => p :: rest.filter fun q => q.2 ≤ limit

/-- The instant of R335: the first whose bin is good, else the one whose bin has the highest quality. -/
def State.chooseSample (s : State) (n : Node) : Option (Nat × Nat) :=
  let cs := s.candidates n
  let quality := fun (p : Nat × Nat) => match n.binAt s.gnomon (s.sfdAt n p.2) with
    | some b => if s.goodBin n b then 256 else nthD n.bins b 255
    | none => 256
  match cs.find? fun p => quality p == 256 with
  | some p => some p
  | none => cs.foldl (fun best p => match best with
      | some b => if quality b < quality p then some p else best
      | none => some p) none

/-- Whether a delivery to a sleepy node needs a wake train (R329). -/
def State.needsTrain (s : State) (n : Node) : Bool :=
  n.fix == 0 || 2 ≤ n.misses || (match s.chooseSample n with
    | some p => !s.guardFits n p.2
    | none => false)

/-- The hop channel of a node's sample (R328). -/
def State.hopChannel (s : State) (i k : Nat) : Nat := s.cnat (0x603101 + (k + i) % max 1 (s.cnat 0x603111))

/-- RENDEZVOUS (R328, R329, R335): the oldest downlink of a sleepy node is handed over as a scheduled frame at the chosen
sample, with its guard, preamble, lead and target count. -/
def execRendezvous (index : Nat) (s : State) : Host.Outcome State Fault Refusal :=
  .next <|
    let n := s.node index
    match n.nextDownlink, s.chooseSample n with
    | some d, some (j, t) =>
      if !s.meshUp || n.immediate || (n.state != 2 && n.state != 3) || n.missAt.isSome || s.needsTrain n then s
      else
        let count := (n.anchorCount + j) % 65536
        let lead := (s.sfdAt n t - t) * 10 / 1536
        let f := freshFrame d.purpose index (.short n.short)
          (s.voussoir d.kind 2 n.short (leNat 2 lead ++ leNat 2 count) d.body)
        let f := { f with
          channel := s.hopChannel index count, preamble := s.guardPreamble n t, route := 0
          at_ := some (t - n.guardTicks t), sample := t, count := count }
        (s.setNode index (n.mark d.handle true)).handVoussoir f
    | _, _ => s

/-- RENDEZVOUS_MISS (R329): a rendezvous ended with no acknowledgement: the miss is counted, and the first is retried once
from the next sample with twice the guard. -/
def execRendezvousMiss (index : Nat) (s : State) : Host.Outcome State Fault Refusal :=
  .next <|
    let n := s.node index
    match n.missAt with
    | none => s
    | some t =>
      (s.setNode index { n with
        misses := satAdd 8 n.misses 1, missAt := none
        retryFrom := if n.retryFrom.isSome then none else some t }).bump 0x603203

/-- A wake train and its data frame handed over (R330): J wake frames, then the downlink with lead 0; without a fix the target
count is 0 (DESIGN CHOICE, notes/assumptions/35.md). -/
def State.sendTrain (i : Nat) (d : Downlink) (s : State) : State :=
  let n := s.node i
  let j := (n.intervalTicks + n.listenTicks + s.wakeFrameTicks - 1) / s.wakeFrameTicks + 1
  let start := s.gnomon + s.scheduledLead
  let pre := s.cnat 0x600006
  let sfd := start + j * s.wakeFrameTicks + pre * s.octet
  let count := if n.fix = 0 then 0 else (n.anchorCount + (sfd - n.anchor) / n.intervalTicks) % 65536
  let f := freshFrame d.purpose i (.short n.short) (s.voussoir d.kind 2 n.short (leNat 2 0 ++ leNat 2 count) d.body)
  let f := { f with
    channel := s.hopChannel i count, preamble := pre, train := j, route := 2, at_ := some start, sample := sfd
    count := count }
  let n := { n.mark d.handle true with trainAt := none }
  ((s.setNode i n).handVoussoir f).bump 0x603204

/-- WAKE_TRAIN (R330): a delivery that cannot be a rendezvous goes behind a wake train. -/
def execWakeTrain (index : Nat) (s : State) : Host.Outcome State Fault Refusal :=
  .next <|
    let n := s.node index
    match n.nextDownlink with
    | some d =>
      if s.meshUp && !n.immediate && (n.state == 2 || n.state == 3) && n.missAt.isNone && n.trainAt.isNone
          && s.needsTrain n then s.sendTrain index d else s
    | none => s

/-- WAKE_TRAIN_RETRY (R330): a train whose instant to go again has come. -/
def execWakeTrainRetry (index : Nat) (s : State) : Host.Outcome State Fault Refusal :=
  .next <|
    let n := s.node index
    match n.nextDownlink, n.trainAt with
    | some d, some t => if s.meshUp && !n.immediate && decide (t ≤ s.gnomon) then s.sendTrain index d else s
    | _, _ => s

/-! ### Reports -/

/-- The SFD instant of a sent frame. -/
def State.frameSfd (s : State) (f : OutFrame) : Nat :=
  f.first + f.train * s.wakeFrameTicks + f.preamble * s.octet

/-- What a report says of the node's phase (R328): an acknowledgement moves the anchor by its correction, ±2,047 without a
new fix; after a wake train or a join response the SFD itself is the sample. -/
def Node.fixFrom (f : OutFrame) (sfd : Nat) (n : Node) : Node :=
  match f.purpose with
  | .join _ => n.fixAt sfd 0 sfd
  | _ =>
    if f.route = 2 then n.fixAt sfd f.count sfd
    else if f.route = 0 then
      let t := ((f.sample : Int) + f.correction * 1536 / 10).toNat
      if f.correction.natAbs = 2047 then
        { n with anchor := ((n.anchor : Int) + f.correction * 1536 / 10).toNat, misses := 0, retryFrom := none }
      else n.fixAt t f.count sfd
    else n

/-- The outcome of a node's frame (R328 to R332, R342) on its downlink: delivered; held for its next route; or completed. -/
def State.settleDownlink (i handle : Nat) (f : OutFrame) (sfd : Nat) (s : State) : State :=
  let n := s.node i
  let tries := (((n.queue.find? fun d => d.handle == handle).map fun d => d.tries).getD 0) + f.tries
  let n := { n with queue := n.queue.map fun d =>
    if d.handle = handle then { d with tries := tries, busy := false } else d }
  if f.status = 0 then
    ((s.setNode i { n with delivered := satAdd 32 n.delivered 1 }).dropDownlink i handle).completeDownlink handle 0 f.route
      tries sfd
  else if f.route = 3 ∨ f.route = 4 then
    ((s.setNode i n).dropDownlink i handle).completeDownlink handle 1 f.route tries 0
  else if f.route = 2 then
    if f.tries = 0 then s.setNode i { n with trainAt := some (s.gnomon + 153600000) }
    else if n.trains + 1 ≤ s.nat 0x60200C then
      s.setNode i { n with trains := n.trains + 1, trainAt := some (f.first + n.intervalTicks) }
    else ((s.setNode i { n with trains := 0, trainAt := none }).dropDownlink i handle).completeDownlink handle 1 2 tries 0
  else if f.route = 0 ∧ f.status ≠ 2 then s.setNode i { n with missAt := some f.sample }
  else s.setNode i n

/-- The 16 bytes of a frame's transmit report (R314). -/
def OutFrame.report (f : OutFrame) : Bytes :=
  [f.status, f.flags, f.tries, f.dsn] ++ leNat 8 (if f.tries = 0 then 0 else f.first) ++ leInt 2 f.correction ++ [f.lq, f.power]

/-- TRANSMIT_REPORT (R314): the oldest ended frame is reported to the mesh core: shadow map, fix, join, gate, downlink. -/
def execTransmitReport (s : State) : Host.Outcome State Fault Refusal :=
  .next <|
    match s.link.frames.find? fun f => f.stage == .ended && decide (f.last ≤ s.gnomon) with
    | none => s
    | some f =>
      let s := { s with link := { s.link with
        frames := s.link.frames.filter fun g => g.handle != f.handle
        report := f.report } }
      let i := f.node
      if 512 ≤ i ∨ (s.node i).state = 0 then s
      else
        let sfd := s.frameSfd f
        let n := s.node i
        let n := if f.status = 0 ∧ f.ar then (n.observe s.gnomon sfd f.lq).fixFrom f sfd
          else if f.status = 1 then n.observe s.gnomon sfd 0
          else n
        let n := match f.purpose with
          | .join _ => if f.status = 0 then { n with state := 2 } else n
          | .gate start width => if f.status = 0 then { n with gateStart := start, gateWidth := width } else n
          | _ => n
        let gate := (n.queue.find? fun d => d.busy).filter fun d => d.kind == 4 && d.handle != 0 && f.status == 0
        let n := match gate with
          | some d => { n with gateStart := nthD d.body 0 0, gateWidth := nthD d.body 1 0 }
          | none => n
        let s := s.setNode i n
        let s := match f.purpose with
          | .downlink h => s.settleDownlink i h f sfd
          | .gate _ _ => s.settleDownlink i 0 f sfd
          | .join _ => if f.status = 0 then s.rememberNode i else s
          | .service => s
        s.pumpNode i

/-- COPY_SELECTION_END (R294, R332): selection ends; a frame without a good copy is dropped and counted, and its source's
shadow map takes an observation of 0. -/
def execCopySelectionEnd (sfd : Nat) (s : State) : Host.Outcome State Fault Refusal :=
  .next <|
    let r := copySelectionEnd sfd s
    let s := r.1
    match r.2 with
    | none => s
    | some q => match q.copies.head? with
      | none => s
      | some c => match c.frame.src, s.nodeAt c.frame.src with
        | .short _, some i => s.setNode i ((s.node i).observe s.gnomon c.sfd 0)
        | _, _ => s

/-! ### Gates -/

/-- The widest run of good bins, cyclic over 32 (R336): its first bin and its length; the lowest start among equals. -/
def State.goodRun (s : State) (n : Node) : Nat × Nat :=
  let len := fun b => ((List.range 32).takeWhile fun k => s.goodBin n ((b + k) % 32)).length
  (List.range 32).foldl (fun best b => if best.2 < len b then (b, len b) else best) (0, 0)

/-- PHASE_GATE (R336, R337): an automatic gate for a node, queued like a downlink with handle 0. -/
def execPhaseGate (index : Nat) (s : State) : Host.Outcome State Fault Refusal :=
  .next <|
    let n := s.node index
    let run := s.goodRun n
    let width := min (s.nat 0x60300C) run.2
    let start := (run.1 + (run.2 - 1) / 2 + 32 - (width - 1) / 2) % 32
    let gap := (start + 32 - n.echo % 32) % 32
    let differs : Bool := !bitOf n.echo 7 || (2 ≤ gap && gap ≤ 30)
    let due : Bool := match n.gateAt with
      | some t => decide (t + 9216000000 ≤ s.gnomon)
      | none => true
    if s.meshUp && s.nat 0x60300B == 1 && n.state == 2 && (n.phaseAt s.gnomon s.gnomon).isSome
        && decide (s.nat 0x60300C ≤ run.2) && differs && due && !(n.queue.any fun d => d.handle == 0) then
      (s.setNode index { n with
        gateAt := some s.gnomon
        queue := n.queue ++ [⟨0, 4, s.gnomon + 2 ^ 40, [start, width, 0, 0], 0, false⟩] }).pumpNode index
    else s

/-! ### Host control -/

/-- The node index that a short address names within the table. -/
def State.joinedAt (s : State) (short : Nat) : Option Nat := s.nodeByShort short

/-- A downlink request acted on (R342): its refusals appear in its result. -/
def State.downlink (b : Bytes) (s : State) : State :=
  let answer := fun (code handle : Nat) (s : State) =>
    s.issuePaired 0x604002 code (leNat 2 code ++ leNat 2 handle ++ [0, 0])
  let kind := nthD b 2 0
  let len := nthD b 3 0
  let life := fieldLe b 4 2
  match s.joinedAt (fieldLe b 0 2) with
  | none => answer 0x1802 0 s
  | some i =>
    let n := s.node i
    if 4 ≤ (n.queue.filter fun d => d.handle != 0).length then answer 0x1803 0 s
    else if (kind != 3 && kind != 4) || len < 1 || 64 < len || b.length != 8 + len || life < 1 || 3600 < life
        || fieldLe b 6 2 != 0 || (kind == 4 && (len != 4 || 31 < nthD b 8 0 || 32 < nthD b 9 0)) then answer 0x1801 0 s
    else if !s.canSecure then answer 0x1704 0 s
    else
      let h := s.mesh.handle
      let n := if kind = 4 then { n with
          gateAt := some s.gnomon, queue := n.queue.filter fun d => d.handle != 0 || d.busy } else n
      let n := { n with queue := n.queue ++ [⟨h, kind, s.gnomon + life * 153600000, b.drop 8, 0, false⟩] }
      let s := { s with mesh := { s.mesh with handle := if 65535 ≤ h then 1 else h + 1 } }
      answer 0 h ((s.setNode i n).pumpNode i)

/-- DOWNLINK (R342): a write of 0x6040:01. -/
def execDownlink (by_ : Requester) (body : Bytes) (s : State) : Host.Outcome State Fault Refusal :=
  .next (s.request by_ 0x604001 body (accept (State.downlink body)))

/-- DOWNLINK_EXPIRY (R342): a queued downlink whose lifetime ends completes with status 2; a frame on air is left to its
report. -/
def execDownlinkExpiry (handle : Nat) (s : State) : Host.Outcome State Fault Refusal :=
  .next <|
    let due := fun (d : Downlink) => d.handle == handle && decide (d.ends ≤ s.gnomon)
    match s.mesh.nodes.find? fun p => p.2.queue.any due with
    | none => s
    | some (i, n) =>
      let airing := s.link.frames.any fun f => f.node == i && (f.stage == .sent || f.stage == .clear || f.stage == .backoff
        || f.stage == .cca || f.stage == .retry || f.stage == .ended)
      match n.queue.find? due with
      | some d =>
        if d.busy ∧ airing then s
        else
          let s := if d.busy then s.cancelFrames i else s
          ((s.dropDownlink i handle).completeDownlink handle 2 0 d.tries 0).bump 0x603206
      | none => s

/-- The command object 0x6040:04 (R342): command 1 with a short address removes the node. -/
def State.nodeCommand (body : Bytes) (s : State) : State × Nat :=
  match s.joinedAt (fieldLe body 1 2) with
  | none => (s, if nthD body 0 0 = 1 then 0x1802 else 0x1801)
  | some i => if nthD body 0 0 = 1 then (s.removeNode i, 0) else (s, 0x1801)

/-- NODE_REMOVE (R342). -/
def execNodeRemove (by_ : Requester) (body : Bytes) (s : State) : Host.Outcome State Fault Refusal :=
  .next (s.request by_ 0x604004 body (State.nodeCommand body))

/-- ABSENT_TIMEOUT (R324, R340): the timeout has passed with no accepted frame: the node is absent, or its entry is freed
while joining is open and the table is full. -/
def execAbsentTimeout (index : Nat) (s : State) : Host.Outcome State Fault Refusal :=
  .next <|
    let n := s.node index
    if n.state = 2 ∧ n.heardAt + s.nat 0x603008 * 153600000 ≤ s.gnomon then
      if s.joiningOpen && s.tableFull then s.removeNode index else s.setNode index { n with state := 3 }
    else s

/-- JOINING_COUNTDOWN (R338): the countdown of 0x6030:07 reaches 0 and joining closes. -/
def execJoiningCountdown (s : State) : Host.Outcome State Fault Refusal :=
  .next <| if s.nat 0x603007 ≠ 65535 ∧ s.nat 0x603007 ≠ 0 ∧ s.joiningLeft = 0 then s.setNat 0x603007 0 else s

/-- NODE_COUNTER_RECORD (R325): a node's counter has advanced by 1,024 since it was last written to flash. -/
def execNodeCounterRecord (index : Nat) (s : State) : Host.Outcome State Fault Refusal :=
  .next <|
    let n := s.node index
    let stored := Map.get (fun _ => 0) s.flash.nodeCounters index
    if n.state ≠ 0 ∧ stored + 1024 ≤ n.lastCounter then
      { s with flash := { s.flash with nodeCounters := Map.put (fun _ => 0) s.flash.nodeCounters index n.lastCounter } }
    else s

/-! ### The unit 0x0502 -/

/-- The RWS subindices that the mesh network's start commits (R280, R316, R338). -/
def meshKeys : List Nat :=
  [0x600001, 0x600002, 0x600003, 0x600004, 0x600005, 0x600006, 0x600007, 0x602001, 0x602002, 0x602004, 0x602005, 0x60200D,
   0x60200E, 0x60200F, 0x602201, 0x602202, 0x602203, 0x602204, 0x603001] ++ (List.range 17).map (0x603101 + ·)

/-- The check of a configure of 0x0502 (R316, R324, R339): PAN ID set, hop channels within the plan, and the short addresses
of the nodes apart from the device's own. -/
def State.validateMesh (s : State) : Nat :=
  let hops := (List.range (s.nat 0x603111)).map fun k => s.nat (0x603101 + k)
  let base := s.nat 0x603001
  let own := s.nat 0x602002
  firstCode [refuseIf (s.nat 0x602001 == 0xFFFF) 0x1701, refuseIf (!hops.all s.channelOk) 0x1701,
    refuseIf (decide (base ≤ own ∧ own ≤ base + 511)) 0x1801]

/-- The mesh rules for a write of 0x6030 to 0x6033 (R338, R339): a hop channel lies in the plan, and a block list holds whole
addresses. -/
def State.meshRule (s : State) (key : Nat) (v : Int) (b : Bytes) : Nat :=
  if 0x603101 ≤ key ∧ key ≤ 0x603110 then refuseIf (!s.channelOk v.toNat) 0x1701
  else if key = 0x603301 then refuseIf (b.length % 8 != 0) 0x1801
  else if key = 0x603001 then
    refuseIf (decide (v.toNat ≤ s.nat 0x602002 ∧ s.nat 0x602002 ≤ v.toNat + 511)) 0x1801
  else 0

end Sys2Proof.Machine
end

