-- ==== Sys2Proof/Machine/Cross.lean ====
section
/-!
DEFINITION. Machine/Cross.lean: what chains and engines do to the blocks behind them: retunes and switches, blocks and their
markers, clock faults and restarts, as far as they reach receivers and Gloaming (R138, R187, R198, R211, R216, R233).
-/
namespace Sys2Proof.Machine

/-- The Gloaming slots of the engine that a chain feeds search again (R233): a start, retune or hold of its chain. -/
def State.disturbChain (n : Nat) (s : State) : State :=
  let c := s.cnat (ck n 0x12)
  if c = 0 then s else s.disturb fun w => w % 65536 == c

/-- CHAIN_RETUNE (R44, R49, R53, R123, R233): on every member of the target's lock group, on one sample. -/
def execChainRetune (entry : Nat) (s : State) : Host.Outcome State Fault Refusal :=
  .next <|
    match s.dueEntry entry [4] with
    | none => s
    | some e =>
      if s.chainLive e.target then
        let s := s.afterFiring entry e
        (s.lockSet (e.target - 0x100)).foldl (fun s n =>
          if s.chainLive (0x100 + n) then (s.retuneChain n (roundUp 4 e.instant) e.param).disturbChain n else s) s
      else s.dropFiring entry e

/-- ANTENNA_SWITCH (R54): the target moves to the named path; in a lock group each member on the target's old path moves
there, and each member already there moves to the old path. The same path has no effect. -/
def execAntennaSwitch (entry : Nat) (s : State) : Host.Outcome State Fault Refusal :=
  .next <|
    match s.dueEntry entry [5] with
    | none => s
    | some e =>
      if s.chainLive e.target then
        let n := e.target - 0x100
        let new := nthD e.param 0 0
        let old := (s.chain n).path
        let s := s.afterFiring entry e
        if old = new then s
        else (s.lockSet n).foldl (fun s i =>
          if s.chainLive (0x100 + i) then
            s.moveToPath i (if (s.chain i).path = old then new else old) (roundUp 4 e.instant)
          else s) s |>.rejudgeNulls 0 |>.rejudgeNulls 1
      else s.dropFiring entry e

/-- A receiver's cold start by its image: DAB front engine (R198), DRM (R216), FM (R161), AM (R207). -/
def State.receiverColdStart (e : Nat) (s : State) : State :=
  if s.dabRuns e then s.dabColdStart e
  else if s.drmRuns e then s.drmColdStart e
  else if s.runs e 0x0101 then s.fmColdStart e
  else if s.runs e 0x0102 then s.amColdStart e
  else s

/-- Whether the engine's image takes its blocks as they come, without the FM and AM images' own block commands. -/
def State.takesBlocks (s : State) (u : Nat) : Bool :=
  let e := u - 0x200
  s.ustate u == 2 && !s.loadedWith e 0x0101 && !s.loadedWith e 0x0102

/-- A block taken by a DAB or DRM receiver (R187, R211). -/
def State.receiverTakes (n e : Nat) (b : Bytes) (s : State) : State :=
  if s.dabRuns e then s.setDab e { s.dab e with intake := s.intake n b (s.dab e).intake }
  else if s.drmRuns e then s.setDrm e { s.drm e with intake := s.intake n b (s.drm e).intake }
  else s

/-- CHAIN_BLOCK_OUT (R99, R101, R112 to R116, R122, R187, R211): a chain whose path runs completes its next block, computed from the ADC
codes of both paths that its samples rest on; `saturated` names the stages, other than the output, whose words saturated. Header,
markers and data go to the consumer's queue, or the block is dropped when the queue has no room or the engine restarts. The last
block before a hold goes out of the HELD chain. A DAB or DRM receiver that takes a block with a start or retune marker starts cold. -/
def execChainBlockOut (chain : Nat) (a b : AdcSpan) (saturated : Nat) (s : State) : Host.Outcome State Fault Refusal :=
  .next <|
    match s.nextBlock chain with
    | none => s
    | some (grid, stop) =>
      if chain < 32 ∧ (s.ustate (0x100 + chain) = 2 ∨ s.ustate (0x100 + chain) = 3 ∧ (s.chain chain).gap.isSome)
          ∧ s.nat (obj (0x3000 + (s.chain chain).path) 1) = 2 ∧ s.computed chain (stop - 1) then
        let data := s.blockData chain a b saturated grid stop
        let sat := saturated % 4096 + 0x1000 * boolNat data.2.2 + saturated / 8192 % 4 * 8192
        let s := if sat = 0 then s else s.setSaturation chain sat
        let s := s.captureBlock chain grid (s.quick chain != 0) data.1
        let block := s.encodeBlock chain grid (stop - grid) data.1 (s.chain chain).satBlock
        let split := s.splitMarkers chain stop
        let cut := cutMarkers (mergeClips split.1)
        let s := s.setChain chain ((s.chain chain).passed s chain stop split.2 data.2.1)
        let s := if cut.2 = 0 then s else s.bumpBy (cs chain 9) cut.2
        let consumer := s.cnat (ck chain 0x12)
        if consumer = 0 then
          let r := s.pushFifo (obj (0x2520 + chain) 0) 16 block
          if r.2 then (r.1.bump (cs chain 8)).countDrop (0x100 + chain) 8 else r.1.bump (cs chain 7)
        else if 16 ≤ (s.chain chain).queue.length ∨ (s.engine (consumer - 0x200)).restart.isSome then s.bump (cs chain 8)
        else if s.takesBlocks consumer then
          let s := (s.bump (cs chain 7)).hearQuick chain grid (if s.quick chain = 0 then [] else data.1)
          let s := if cut.1.any fun m => m.kind == 1 || m.kind == 2 then s.receiverColdStart (consumer - 0x200) else s
          s.receiverTakes chain (consumer - 0x200) block
        else (s.setChain chain { s.chain chain with queue := (s.chain chain).queue ++ [block] }).bump (cs chain 7)
      else s

/-- The longest clock-fault span through which a receiver stays in state 4 (R187, R211): 24 ms for DAB, one frame for DRM. -/
def State.faultSpan (s : State) (e : Nat) : Nat :=
  if s.runs e 0x0103 then 3686400 else if s.runs e 0x0105 then 15360000 else 61440000

/-- A receiver fed by a path's chains that was tracking loses sync after a long clock fault. -/
def State.faultReceivers (p span : Nat) (s : State) : State :=
  (List.range 12).foldl (fun s e =>
    if (s.inputs e).any (fun n => (s.chain n).path == p) && decide (s.faultSpan e < span) then
      if s.dabRuns e ∧ s.dabState e = 4 then s.dabLose e
      else if s.drmRuns e ∧ s.drmState e = 4 then s.drmLose e
      else s
    else s) s

/-- SAMPLE_CLOCK_RELOCK (R75, R88, R187, R211): the paths run again, Plumb's cycles resume, and the clock-fault-end marker closes the concealed span. -/
def execSampleClockRelock (s : State) : Host.Outcome State Fault Refusal :=
  .next <|
    let one := fun (p : Nat) (s : State) =>
      if s.nat (obj (0x3000 + p) 1) = 3 then
        let span := s.gnomon - ((s.path p).unlockedAt.getD s.gnomon)
        let s := (s.setNat (obj (0x3000 + p) 1) 2).setPath p { s.path p with
          unlockedAt := none, concealed := (s.path p).concealed.map fun c => (c.1, some (c.2.getD s.gnomon)) }
        (s.markPath p ⟨8, p, s.gnomon, 0, 0⟩).faultReceivers p span
      else s
    if s.nat 0x300001 = 3 ∨ s.nat 0x300101 = 3 then (one 1 (one 0 s)).setNat 0x700202 0 else s

/-! ### Starts and holds of engines -/

/-- A start or resume of an engine lands: a DAB or DRM receiver leaves state 0 (R182, R209). -/
def State.startEngine (e : Nat) (s : State) : State :=
  let s := s.sign e
  let s := if s.loadedWith e 0x0101 || s.loadedWith e 0x0102 then s else s.flushInputs e
  let s := if s.loadedWith e 0x0201 || s.loadedWith e 0x0202 then
      [0, 1].foldl (fun s o => s.setVoice (8 * e + o) Voice.init) s
    else s
  if s.dabRuns e then s.setDabState e 1
  else if s.drmRuns e then s.drmRestart e
  else s

/-- A hold of an engine lands: a receiver goes idle (R182, R209). -/
def State.idleEngine (e : Nat) (s : State) : State :=
  if s.loadedWith e 0x0103 && s.dabFront e then ((s.setDabState e 0).stopNulls e).judgeSlots e
  else if s.loadedWith e 0x0104 || s.loadedWith e 0x0105 then (s.setDrmState e 0).judgeDrm e
  else if s.loadedWith e 0x0301 then s.tapEnds 1 |>.tapEnds 0
  else if s.runs e 0x0101 then s.fmFlush e
  else if s.runs e 0x0102 then s.amFlush e
  else s

/-- ENGINE_RESTORE_END (R138 step 4): the restart ends; a hold that waited takes effect; the outputs start afresh. -/
def execEngineRestoreEnd (engine : Nat) (s : State) : Host.Outcome State Fault Refusal :=
  .next <|
    match (s.engine engine).restart with
    | some r =>
      if r.step = 3 then
        let held := (s.engine engine).heldHold
        let s := (s.setEngine engine { s.engine engine with restart := none, heldHold := false, beat := s.gnomon }).coldStart engine
        if held then (s.setUState (0x200 + engine) 3 5 0).idleEngine engine else s.receiverColdStart engine
      else s
    | none => s

end Sys2Proof.Machine
end

