-- ==== Sys2Proof/Machine/Units.lean ====
section
/-!
DEFINITION. Machine/Units.lean: what configuring, starting, holding and releasing mean for each class of unit, and the checks
of a course's configure (spec/02_units_and_courses.md; R103, R129 to R132, R143, R150, R164, R179, R180, R200, R243, R255).
-/
namespace Sys2Proof.Machine

/-! ### Accelerators -/

/-- An accelerator brought to the state that R29 gives it, with owner, free shares and first course; a FAULTED one stays so
while shares are held. With no shares held it goes to DORMANT. -/
def State.settleAccel (cause verb a : Nat) (s : State) : State :=
  let u := 0x600 + a
  let s := s.refreshAccel a
  let named := s.naming u
  let s := if named.contains (s.parent u) then s else s.setNat (desc u 4) (named.head?.getD 0xFFFF)
  let s := if named.isEmpty && !(s.holders a).isEmpty then s else s.setAccelOwn a 0
  if (s.holders a).isEmpty then
    ({ s with accelConfigured := s.accelConfigured.filter (· != a) } : State).setUState u 0 cause verb
  else if s.ustate u = 4 then s
  else s.setUState u (s.accelState a) cause verb

/-- Every accelerator settled. -/
def State.settleAccels (cause : Nat) (s : State) : State :=
  (List.range 8).foldl (fun s a => s.settleAccel cause 0 a) s

/-! ### Timed verbs -/

/-- The minimum lead of a timed verb (R33, R44, R130). -/
def State.verbLead (s : State) (kind u : Nat) : Nat :=
  if kind = 2 then 384
  else if kind = 3 then 384 * (s.leaves u).length
  else
    let ls := s.leaves u
    384 * ls.length + ls.foldl (fun m v => if v / 256 = 2 then max m (s.loadLeft (v % 256)) else m) 0

/-- A timed verb placed in the launch table (R27, R44 to R46); late policy 0, instant 0 the earliest. -/
def State.placeVerb (owner kind u instant : Nat) (s : State) : State × Nat :=
  let lead := s.verbLead kind u
  if s.gnomon + 2 ^ 40 < instant then (s, 0x0903)
  else match s.entryFor (owner == 0) with
    | none => (s, 0x0901)
    | some n =>
      let t := max instant (s.gnomon + lead)
      let s := s.setEntry n (some ⟨t, t, 0, kind, 0, u, owner, 0, 0, 0, List.replicate 8 0⟩)
      (if instant ≠ 0 ∧ instant < t then (s.bump 0x200102).raise 7 1 u [(8, instant), (8, t)] else s, 0)

/-! ### One unit -/

/-- The RWS subindices that an engine's configure commits (R102, R129, R143, R193, R209, R215). -/
def engineKeys (e : Nat) : List Nat :=
  [obj (0x4100 + e) 1, obj (0x4100 + e) 4, obj (0x4480 + e) 1, obj (0x4700 + e) 2, obj (0x4780 + e) 1]

/-- The image an engine has or will have: committed once it is configured, staged while it is DORMANT. -/
def State.imageOf (s : State) (e : Nat) : Nat :=
  if s.ustate (0x200 + e) = 0 then s.nat (ek e 1) else s.cnat (ek e 1)

/-- A chain's setting: committed once it is configured, staged while it is DORMANT. -/
def State.chainSet (s : State) (n sub : Nat) : Nat :=
  if s.ustate (0x100 + n) = 0 then s.nat (ck n sub) else s.cnat (ck n sub)

/-- How many engines other than e hold an image in CONFIGURED, RUNNING or HELD (R180). -/
def State.imageCount (s : State) (image e : Nat) : Nat :=
  ((List.range 12).filter fun i => i != e && s.cnat (ek i 1) == image
    && (s.ustate (0x200 + i) == 1 || s.ustate (0x200 + i) == 2 || s.ustate (0x200 + i) == 3)).length

/-- The check of a unit's own configure, by its class. -/
def State.validateUnit (s : State) (u : Nat) : Nat :=
  let n := u % 256
  match u / 256 with
  | 1 =>
    let e := s.nat (ck n 0x12) - 0x200
    let fm := s.nat (ck n 0x12) / 256 == 2 && s.ustate (0x200 + e) != 0 && s.cnat (ek e 1) == 0x0101
    firstCode [s.validateChain n, refuseIf (fm && s.cnat (fmk e 4) == 1 && !isRom n) 0x0D02]
  | 2 =>
    let image := s.nat (ek n 1)
    let ins := (List.range 32).filter fun i =>
      (s.ustate (0x100 + i) != 0 || s.top (0x100 + i) == s.top u) && s.chainSet i 0x12 == u
    firstCode [s.validateEngine n, refuseIf (image == 0x0103 && decide (4 ≤ s.imageCount 0x0103 n)) 0x0F03,
      refuseIf (image == 0x0201 && decide (2 ≤ s.imageCount 0x0201 n)) 0x0F03,
      if image = 0x0101 then s.validateFm n ins else 0]
  | 4 => s.validateAudio n
  | 5 => if n = 2 then s.validateMesh else 0
  | 7 => s.validateLantern
  | _ => 0

/-- The buffers that a unit's own configure places (R243). -/
def State.unitBuffers (s : State) (u : Nat) : List ((Nat × Nat) × Nat × Nat × Nat) :=
  match u / 256 with
  | 1 => s.chainBuffers (u % 256)
  | 7 => lanternBuffers
  | _ => []

/-- A unit's staged configuration committed, by its class. -/
def State.commitUnit (u : Nat) (s : State) : State :=
  let n := u % 256
  match u / 256 with
  | 1 => s.commitChain n
  | 2 => (s.commitKeys (engineKeys n)).commitEngine n
  | 4 => s.commitAudio n
  | 6 => { s with accelConfigured := insertSorted n s.accelConfigured }
  | 7 => s.commitLantern
  | _ => s

/-- A unit validated, its buffers placed anew and its configuration committed: the code of the first failure, or the new
state. -/
def State.configureUnit (u : Nat) (s : State) : State × Nat :=
  let code := s.validateUnit u
  if code ≠ 0 then (s, code)
  else
    let t := if u / 256 = 1 ∨ u / 256 = 7 then s.freeOwner u else s
    match t.allocAll (t.unitBuffers u) with
    | none => (s, 0x1401)
    | some t => (t.commitUnit u, 0)

/-- The response of the tap chains for the data rate (R293). -/
def State.tapResponse (s : State) : Nat := nthD [9, 10, 10, 11] (s.cnat 0x600001) 9

/-- A tap chain's response set: a ROM chain selects it, a RAM chain takes its 127 taps (R293). -/
def State.setTapResponse (n : Nat) (s : State) : State :=
  let r := s.tapResponse
  if isRom n then (((s.setNat (ck n 7) r).setCommitted (ck n 7) (.num r)).setNat (cs n 3) r)
  else
    let taps := romResponse r
    (((s.setBytes (obj (0x3140 + n) 0) taps).setCommitted (obj (0x3140 + n) 0) (.raw taps)).setNat (ck n 6) 127).setCommitted
      (ck n 6) (.num 127)

/-- The start of the mesh network (R19, R280, R293): the staged link values are in force, and the running tap chains of the management core
are held by entries of its own, to be set for the rate and resumed once they are HELD. -/
def State.startMesh (s : State) : State :=
  let s := s.commitKeys meshKeys
  s.tapChains.foldl (fun s u => if s.owner u = 0 ∧ s.ustate u = 2 then (s.placeVerb 0 2 u 0).1 else s) s

/-- What a start or resume of a leaf does at its landing T, by its class. -/
def State.landStart (u t : Nat) (s : State) : State :=
  let n := u % 256
  match u / 256 with
  | 1 => (s.startChain n t).disturbChain n
  | 2 => s.startEngine n
  | 4 => s.armStream n
  | 5 => if n = 2 then s.startMesh else s
  | 7 => s.startLantern t
  | _ => s

/-- What stops a leaf at once, by its class; a hold of an audio unit goes through the post-roll of R266 instead (`holdLeaf`). -/
def State.landStop (u : Nat) (s : State) : State :=
  let n := u % 256
  match u / 256 with
  | 1 => (s.holdChain n).disturbChain n
  | 2 => s.idleEngine n
  | 4 => s.disarmStream n
  | 5 => if n = 0 then s.setRadio 0 else s
  | _ => s

/-- The objects of an engine's receiver back at state 0 (R182, R209). -/
def State.clearReceiver (e : Nat) (s : State) : State :=
  let s := s.stopNulls e
  let s := s.setAll [(dk e 1, 0), (rk e 1, 0), (rdec e 3, 0)]
  { s with dabs := s.dabs.erase e, drms := s.drms.erase e, fms := s.fms.erase e, ams := s.ams.erase e
           dabDecoders := s.dabDecoders.erase e, drmSel := s.drmSel.erase e }

/-- A unit's release, by its class (R25): configuration gone, unowned, outside any course. An engine reads DORMANT once its
memory is zeroed (R136). -/
def State.freeUnit (u cause verb : Nat) (s : State) : State :=
  let n := u % 256
  let live := s.ustate u != 0
  let s := (s.setNat (desc u 3) 0xFF).setNat (desc u 4) 0xFFFF
  match u / 256 with
  | 1 => ((s.releaseChain n).disturbChain n).setUState u 0 cause verb
  | 2 => if live then ((s.idleEngine n).clearReceiver n).releaseEngine n (cause, verb) else s
  | 4 => (s.releaseAudio n).setUState u 0 cause verb
  | 5 => (s.landStop u).setUState u 0 cause verb
  | 7 => s.releaseLantern.setUState u 0 cause verb
  | _ => s.setUState u 0 cause verb

/-! ### A course's tree while it is checked (R31) -/

/-- The leaves and courses met in depth-first order below the members of a course, whose lists are committed: (course,
member, shares), to a depth of 9. -/
def State.treeFuel (s : State) : Nat → Nat → List (Nat × Nat × Nat)
  | 0, _ => []
  | fuel + 1, c => (s.members c).flatMap fun m =>
      (c, m.1, m.2) :: (if m.1 / 256 = 3 then s.treeFuel fuel m.1 else [])

/-- The number of levels of a course's tree, counted to 9. -/
def State.depthFuel (s : State) : Nat → Nat → Nat
  | 0, _ => 0
  | fuel + 1, c => 1 + ((s.members c).filter fun m => m.1 / 256 == 3).foldl (fun d m => max d (s.depthFuel fuel m.1)) 0

/-- The course member entries that a configure commits: the course's own, and those of its DORMANT nested courses, level by
level. -/
def State.commitTree : Nat → List Nat → State → State
  | 0, _, s => s
  | fuel + 1, cs, s =>
    let s := s.commitKeys (cs.flatMap fun c => [desc c 8, desc c 9] ++ (List.range 16).map fun i => desc c (0x10 + i))
    let next := cs.flatMap fun c => ((s.members c).map (·.1)).filter fun m => m / 256 == 3 && s.ustate m == 0
    s.commitTree fuel next

/-- The first member of a tree that a rule of R31 turns down, with the rule's code: the leaf is the unit at fault, a course as a
member leaves the fault with the course that is configured. -/
def faultIn (c : Nat) (tree : List (Nat × Nat × Nat)) (bad : Nat × Nat × Nat → Bool) (code : Nat) : Nat × Nat :=
  match tree.find? bad with
  | some m => (code, if m.2.1 / 256 = 3 then c else m.2.1)
  | none => (0, c)

/-- The rules of R31 on the committed tree of course c of an owner, in the order of its table: the code and the unit that result
bytes 2 and 3 name, the leaf where the failure lies in one. A unit that the tree names twice meets the rule of 0x0805 (DEDUCED,
notes/assumptions/118.md). -/
def State.courseRules (s : State) (c owner : Nat) : Nat × Nat :=
  let tree := s.treeFuel 9 c
  let owns := fun (u : Nat) => if u / 256 = 6 then decide (0 < s.sharesOf (u % 256) owner) else s.owner u == owner
  let plain := tree.filter fun m => m.2.1 / 256 != 6
  let shares := fun (m : Nat × Nat × Nat) => m.2.1 / 256 == 6 && (
    decide (16 < ((s.naming m.2.1).foldl (fun t k =>
      ((s.members k).filter fun x => x.1 == m.2.1).foldl (fun t x => t + x.2) t) 0))
    || decide (s.sharesOf (m.2.1 % 256) owner < s.namedShares m.2.1 owner))
  let rules := [
    faultIn c tree (fun m => !unitExists m.2.1) 0x0801,
    faultIn c tree (fun m => !owns m.2.1) 0x0802,
    faultIn c plain (fun m => m.2.1 == c || (s.parent m.2.1 != 0xFFFF && s.parent m.2.1 != m.1)
      || decide (1 < (plain.filter fun k => k.2.1 == m.2.1).length)) 0x0805,
    (refuseIf (decide (8 < s.depthFuel 9 c)) 0x0807, c),
    faultIn c tree (fun m => m.2.1 / 256 == 8) 0x080B,
    faultIn c tree (fun m => if m.2.1 / 256 = 6 then m.2.2 == 0 || decide (16 < m.2.2) else m.2.2 != 0) 0x010B,
    faultIn c tree shares 0x0806]
  (rules.find? fun r => r.1 != 0).getD (0, c)

/-! ### Images in a course (R131, R132) -/

/-- Whether chains deliver the input of an image (R127, R143, R179, R200). -/
def State.inputOk (s : State) (image : Nat) (ins : List Nat) (front : Bool) : Bool :=
  let rate := fun (d l m : Nat) => ins.all fun n =>
    s.chainSet n 4 == d && s.chainSet n 0x0B * m == s.chainSet n 0x0C * l && s.chainSet n 0x10 == 0
  match image with
  | 0x0101 => rate 7 1 1 && (ins.length == 1 || (ins.length == 2 && (match ins with
      | [a, b] => s.lockMates a == [b] && s.chainSet a 1 != s.chainSet b 1
      | _ => false)))
  | 0x0102 | 0x0104 => ins.length == 1 && rate 8 8 25 && ins.all fun n => s.chainSet n 1 == 0 && s.chainSet n 2 ≤ 1
  | 0x0105 => ins.length == 1 && rate 7 16 25
  | 0x0103 => if front then ins.length == 1 && rate 4 64 75 else ins.isEmpty
  | 0x0201 | 0x0202 => ins.isEmpty
  | 0x0301 => (ins.length == 1 || ins.length == 2) && ins.all fun n =>
      64 * s.chainSet n 0x0B == 2 ^ s.chainSet n 4 * s.chainSet n 0x0C && s.chainSet n 0x10 == 0
  | 0x0302 => 1 ≤ ins.length && ins.length ≤ 4 && ins.all fun n => s.chainSet n 0x10 != 0
  | _ => true

/-- The engines with image 0x0103 among the direct members of a course. -/
def State.pairEngines (s : State) (c : Nat) : List Nat :=
  ((s.members c).map (·.1)).filter fun u => u / 256 == 2 && s.imageOf (u % 256) == 0x0103

/-- Whether an engine is the front one of its pair in the tree being checked (R127). -/
def State.frontIn (s : State) (c u : Nat) : Bool :=
  match posOf u (s.pairEngines c) with
  | some i => i % 2 == 0
  | none => false

/-- The innermost course from `c` outwards with an accelerator member of a kind (0 FFT, 1 VIT, 2 RS, 3 TDI): the course and
the member of lowest unit ID with its shares (R132). -/
def State.findAccel (s : State) (kind : Nat) : Nat → Nat → Option (Nat × Nat × Nat)
  | 0, _ => none
  | fuel + 1, c =>
    if c = 0xFFFF then none
    else
      let ms := (s.members c).filter fun m => m.1 / 256 == 6 && m.1 % 256 / 2 == kind
      match ms.foldl (fun (b : Option (Nat × Nat)) m => match b with
          | none => some m
          | some x => if m.1 < x.1 then some m else b) none with
      | some m => some (c, m.1, m.2)
      | none => s.findAccel kind fuel (s.parent c)

/-- The least shares of an image (R127, R132): kinds with shares; a DAB pair's count once, at its front engine. -/
def leastShares (image : Nat) (front : Bool) : List (Nat × Nat) :=
  match image with
  | 0x0103 => if front then [(0, 8), (1, 8), (3, 8)] else []
  | 0x0104 | 0x0105 => [(0, 2), (1, 4), (3, 4)]
  | _ => []

/-- The demands of every engine leaf of the tree: none where an image finds no member of a kind it needs, else (course,
member, its shares, wanted). -/
def State.demands (s : State) (leaves : List (Nat × Nat)) : List (Option (Nat × Nat × Nat × Nat)) :=
  leaves.flatMap fun l =>
    let image := s.imageOf (l.2 % 256)
    let need := (leastShares image (s.frontIn l.1 l.2)).map fun k =>
      (s.findAccel k.1 9 l.1).map fun m => (m.1, m.2.1, m.2.2, k.2)
    if image = 0x0201 then match s.findAccel 2 9 l.1 with
      | some m => need ++ [some (m.1, m.2.1, m.2.2, 4)]
      | none => need
    else need

/-- The checks of R131 on one engine leaf (its course, its unit) of course c's tree, whose parents and members stand as the
configure would leave them. -/
def State.imageRule (s : State) (c : Nat) (l : Nat × Nat) : Nat :=
  let tree := s.treeFuel 9 c
  let leaves := (tree.filter fun m => m.2.1 / 256 == 2).map fun m => (m.1, m.2.1)
  let inTree := fun (u : Nat) => tree.any fun m => m.2.1 == u
  let image := s.imageOf (l.2 % 256)
  let ins := (List.range 32).filter fun n =>
    (s.ustate (0x100 + n) != 0 || inTree (0x100 + n)) && s.chainSet n 0x12 == l.2
  let all := (s.demands leaves).filterMap id
  let short := (s.demands [l]).any fun d => match d with
    | none => true
    | some (k, u, have_, _) => decide (have_ < all.foldl (fun t x => if x.1 = k ∧ x.2.1 = u then t + x.2.2.2 else t) 0)
  let m := l.2 % 256
  let get := fun k => if s.ustate l.2 = 0 then s.nat k else s.cnat k
  let isIn := fun (src : Nat) (ok : Nat → Nat → Bool) => leaves.any fun x => x.2 == src && ok x.1 x.2
  let source : Bool := match image with
    | 0x0201 => isIn (get (obj (0x4480 + m) 1)) fun k u => s.imageOf (u % 256) == 0x0103 && s.frontIn k u
    | 0x0202 => isIn (get (obj (0x4780 + m) 1)) fun _ u => s.imageOf (u % 256) == 0x0104 || s.imageOf (u % 256) == 0x0105
    | _ => true
  firstCode [
    refuseIf (!(ins.all fun n => inTree (0x100 + n)) || !s.inputOk image ins (s.frontIn l.1 l.2)) 0x0C03,
    refuseIf (image == 0x0103 && !((s.pairEngines l.1).length == 2 || (s.pairEngines l.1).length == 4)) 0x0C04,
    refuseIf short 0x0C05,
    refuseIf (!source) 0x0C03]

/-- The buffers that a course's configure places for an engine (R243). -/
def State.engineBuffers (s : State) (c u : Nat) : List ((Nat × Nat) × Nat × Nat × Nat) :=
  if s.shm.any fun a => a.owner == u && a.kind != 10 && a.kind != 11 then []
  else match s.cnat (ek (u % 256) 1) with
    | 0x0103 => if s.frontIn c u then
        [(deintPool, 442368, u, 1), (generalPool, 131072, u, 3), (generalPool, 65536, u, 4)] else []
    | 0x0104 | 0x0105 => [(deintPool, 98304, u, 2), (generalPool, 32768, u, 5), (generalPool, 65536, u, 5)]
    | 0x0101 | 0x0102 | 0x0202 => [(generalPool, 28672, u, 6)]
    | 0x0201 => [(generalPool, 28672, u, 6), (generalPool, 28672, u, 6), (generalPool, 32768, u, 7)]
    | _ => []

/-- The leaves of course c's tree, each with its course, validated one after another in depth-first order, the DORMANT ones
configured (R31): by their own checks, R131 and R243. The state, the code, the leaf at fault. -/
def State.configureLeaves (c : Nat) : List (Nat × Nat) → State → State × Nat × Nat
  | [], s => (s, 0, c)
  | l :: ls, s =>
    let u := l.2
    let fresh := s.ustate u = 0 ∨ u / 256 = 6
    let r := if fresh then s.configureUnit u else (s, 0)
    let code := if r.2 ≠ 0 then r.2 else if u / 256 = 2 then s.imageRule c l else 0
    if code ≠ 0 then (s, code, u)
    else match r.1.allocAll (if u / 256 = 2 then r.1.engineBuffers l.1 u else []) with
      | none => (s, 0x1401, u)
      | some t => State.configureLeaves c ls (if fresh ∧ u / 256 ≠ 6 then t.setUState u 1 5 0 else t)

/-- The parents of the direct members set, and those of units that left the course cleared (R31). -/
def State.setParents (courses : List Nat) (old : List (Nat × Nat)) (s : State) : State :=
  let s := old.foldl (fun s p =>
    if p.2 / 256 ≠ 6 ∧ s.parent p.2 = p.1 ∧ !((s.members p.1).any fun m => m.1 == p.2)
    then s.setNat (desc p.2 4) 0xFFFF else s) s
  courses.foldl (fun s c => (s.members c).foldl (fun s m => if m.1 / 256 = 6 then s else s.setNat (desc m.1 4) c) s) s

/-- Configure of a course (R31, R131, R243), all or nothing: the new state, or the old one with the first code and the unit
that result bytes 2 and 3 name. -/
def State.configureCourse (c : Nat) (s : State) : State × Nat × Nat :=
  let owner := s.owner c
  let t := s.commitTree 9 [c]
  let first := t.courseRules c owner
  if first.1 ≠ 0 then (s, first.1, first.2)
  else
    let courses := t.courses c
    let old := courses.flatMap fun k => (s.members k).map fun m => (k, m.1)
    let t := t.setParents courses old
    let r := t.configureLeaves c (((t.treeFuel 9 c).filter fun m => m.2.1 / 256 != 3).map fun m => (m.1, m.2.1))
    if r.2.1 ≠ 0 then (s, r.2.1, r.2.2)
    else
      let t := (courses.filter fun k => k != c).foldl (fun t k => if t.ustate k = 0 then t.setUState k 1 5 0 else t) r.1
      let t := if t.ustate c = 0 then t.setUState c 1 1 2 else t
      (t.settleAccels 5, 0, c)

end Sys2Proof.Machine
end

