-- ==== Sys2Proof/Machine/Launch.lean ====
section
/-!
DEFINITION. Machine/Launch.lean: the six verbs (R22 to R37), the launch table (R42 to R50), lock groups, and the TB_SYNC and
CLK_OUT balls (R52, R55 to R58, R490), with the mesh tap's units (R293, R435).
-/
namespace Sys2Proof.Machine

/-! ### Verbs -/

/-- The result of a verb (R26). -/
def State.verbResult (unit code verb state : Nat) (s : State) : State :=
  s.issuePaired 0x201002 code (leNat 2 unit ++ leNat 2 code ++ [state, verb])

/-- Whether a timed verb for a unit waits in the launch table (R27). -/
def State.verbPending (s : State) (u : Nat) : Bool :=
  s.launch.any fun p => match p.2 with
    | some e => 1 ≤ e.kind && e.kind ≤ 3 && e.target == u
    | none => false

/-- Whether the mesh tap reserves a unit in the mode in force (R435). -/
def State.tapReserved (s : State) (u : Nat) : Bool :=
  (s.mode == .listen || s.mode == .full) && s.nat 0x731004 == 1 && (u == s.tapEngine || s.tapChains.contains u)

/-- Whether a unit that the mode in force powers is kept from a master: in WATCH the mesh units are the mesh core's (R28). -/
def State.reserved (s : State) (owner : Nat) : Bool := s.mode == .watch && owner != 1

/-- The shares of an accelerator still free. -/
def State.freeShares (s : State) (a : Nat) : Nat := 16 - (s.holders a).foldl (fun t h => t + s.sharesOf a h) 0

/-- The lowest free instance for an instance-any claim (R26, R29, R30): the unit, or the code. -/
def State.pickUnit (s : State) (owner u shares : Nat) : Nat × Nat :=
  let c := u / 256
  let all := (List.range (classSize c)).map (c * 256 + ·)
  let kin := all.filter fun v => modeProvides s.mode v && (c != 6 || v % 256 / 2 == u % 256 / 2)
  let free := kin.filter fun v =>
    if c = 6 then s.ustate v != 4 && decide (shares ≤ s.freeShares (v % 256))
    else s.owner v == 0xFF && !s.reserved owner && !(c == 1 && isRom (v % 256) && owner != 0 && owner != 0xFE)
      && !(owner == 0xFE && s.tapReserved v) && !(c == 2 && (s.engine (v % 256)).zeroing)
  match free.head? with
  | some v => (v, 0)
  | none => (u, if kin.isEmpty then 0x0809 else 0x0806)

/-- A claim by an owner (R25, R28 to R30): the code and the state. -/
def State.claimUnit (owner u shares : Nat) (s : State) : State × Nat :=
  if u / 256 = 8 ∧ owner = 0xFE then (s, 0x0803)
  else if !modeProvides s.mode u then (s, 0x0809)
  else if u / 256 = 6 then
    let a := u % 256
    if s.ustate u = 4 then (s, 0x0804)
    else if s.freeShares a < shares then (s, 0x0806)
    else (((s.setShares a owner (s.sharesOf a owner + shares)).refreshAccel a).claimNow u, 0)
  else if u / 256 = 1 ∧ isRom (u % 256) ∧ owner ≠ 0 ∧ owner ≠ 0xFE then (s, 0x0803)
  else if s.owner u = owner then (s, 0)
  else if s.reserved owner then (s, 0x0803)
  else if u / 256 = 3 ∧ (List.range 48).all (fun i => s.owner (0x300 + i) != 0xFF) then (s, 0x0806)
  else if s.owner u = 0xFF then (s.claimedBy u owner, 0)
  else (s, 0x0803)

/-- Whether a master owns a unit (R25, R29). -/
def State.owns (s : State) (owner u : Nat) : Bool :=
  if u / 256 = 6 then decide (0 < s.sharesOf (u % 256) owner) else s.owner u == owner

/-! ### Release -/

/-- A course's accelerator shares moved from its owner's holding to the free count (R29, R37). -/
def State.returnShares (c : Nat) (s : State) : State :=
  let owner := s.owner c
  (s.members c).foldl (fun s m =>
    if m.1 / 256 = 6 then s.setShares (m.1 % 256) owner (s.sharesOf (m.1 % 256) owner - m.2) else s) s

/-- A unit or course released at once (R25, R29, R37): a leaf that still runs is stopped, every leaf and course of its tree is
DORMANT and unowned. `cause` and `verb` stand in the unit's own events, cause 5 in the others'. -/
def State.releaseNow (u cause verb : Nat) (s : State) : State :=
  let leaves := s.leaves u
  let courses := s.courses u
  let tree := leaves ++ courses
  let s := { s with holdings := s.holdings.filter fun h => !tree.contains h.top }
  let why := fun (v : Nat) => if v = u then (cause, verb) else (5, 0)
  let plain := leaves.filter fun v => v / 256 != 6
  let s := (byRank plain).reverse.foldl (fun s v =>
    if s.ustate v = 2 then (s.landStop v).setUState v 3 (why v).1 (why v).2 else s) s
  let s := courses.reverse.foldl (fun s c => if s.ustate c = 2 then s.setUState c 3 (why c).1 (why c).2 else s) s
  let s := plain.foldl (fun s v => s.freeUnit v (why v).1 (why v).2) s
  let s := courses.foldl (fun s c => s.returnShares c) s
  let s := courses.foldl (fun s c =>
    let s := s.clearKeys ([desc c 9, desc c 0x0A] ++ (List.range 16).map fun i => desc c (0x10 + i))
    ((s.setNat (desc c 3) 0xFF).setNat (desc c 4) 0xFFFF).setUState c 0 (why c).1 (why c).2) s
  (leaves.filter fun v => v / 256 == 6).foldl (fun s v => s.settleAccel 5 0 (v % 256)) s

/-! ### Holds (R34) -/

/-- Whether a unit of a holding rank counts as HELD: it does not run, or it restarts with its own hold waiting (R138), or it is
an accelerator, which R29 settles. -/
def State.countsHeld (s : State) (u : Nat) : Bool :=
  s.ustate u != 2 || u / 256 == 6 || (u / 256 == 2 && (s.engine (u % 256)).heldHold)

/-- A hold lands on one leaf. -/
def State.holdLeaf (h : Holding) (u : Nat) (s : State) : State :=
  let why := h.why u
  if s.countsHeld u then s
  else if u / 256 = 4 then
    let r := s.landHold (u % 256)
    if r.2 then r.1.finishHold (u % 256) why.1 why.2 else r.1
  else if u / 256 = 2 ∧ (s.engine (u % 256)).restart.isSome then
    s.setEngine (u % 256) { s.engine (u % 256) with heldHold := true }
  else (s.landStop u).setUState u 3 why.1 why.2

/-- The courses of a hold whose leaves are all HELD read HELD (R36). -/
def State.settleHold (h : Holding) (s : State) : State :=
  h.courses.reverse.foldl (fun s c =>
    if s.ustate c = 2 ∧ c ≠ h.top ∧ (s.leaves c).all s.countsHeld then s.setUState c 3 (h.why c).1 (h.why c).2 else s) s

/-- The end of a hold: the courses read HELD, the accelerators take the state of R29, and a release that it precedes is carried
out. -/
def State.endHold (h : Holding) (s : State) : State :=
  let s := { s with holdings := s.holdings.filter fun k => k.top != h.top }
  let s := h.courses.reverse.foldl (fun s c => if s.ustate c = 2 then s.setUState c 3 (h.why c).1 (h.why c).2 else s) s
  let s := if h.top / 256 = 6 then (s.setAccelOwn (h.top % 256) 3).setUState h.top 3 h.cause h.verb
    else (s.leaves h.top).foldl (fun s u => if u / 256 = 6 then s.settleAccel h.cause h.verb (u % 256) else s) s
  match h.release with
  | some w => s.releaseNow h.top w.1 w.2
  | none => s

/-- The next step of a hold: the ranks that are HELD are passed, the next one lands, and after the last the hold ends. -/
def State.advanceHold (top : Nat) (s : State) : State :=
  match s.holdings.find? fun h => h.top == top with
  | none => s
  | some h =>
    match h.ranks.dropWhile fun r => r.all s.countsHeld with
    | [] => s.endHold h
    | r :: rest =>
      let s := r.foldl (fun s u => s.holdLeaf h u) s
      let ranks := if r.all s.countsHeld then rest else r :: rest
      let s := { s with holdings := s.holdings.map fun (k : Holding) => if k.top = h.top then { k with ranks := ranks } else k }
      if ranks.isEmpty then s.endHold h else s.settleHold h

/-- An action whose faults set off holds (R36): each takes its first step at the earliest achievable instant, which is now. -/
def State.actAndHold (act : State → State) (s : State) : State :=
  let t := act s
  (t.holdings.drop s.holdings.length).foldl (fun t h => t.advanceHold h.top) t

/-- Whether a unit's release waits for its hold (R25, R34). -/
def State.releasing (s : State) (u : Nat) : Bool := s.holdings.any fun h => h.top == u && h.release.isSome

/-- A unit or course released (R25, R29, R34, R37, R50): its entries are removed; one that runs is held first, rank by rank, and
freed once the last rank is HELD. -/
def State.releaseTree (u cause verb : Nat) (s : State) : State :=
  let leaves := s.leaves u
  let courses := s.courses u
  let tree := leaves ++ courses
  let s := s.removeEntries 1 fun e => tree.contains e.target && decide (e.kind ≤ 5)
  let running := leaves.filter fun v => s.ustate v == 2 && v / 256 != 6
  if running = [] then s.releaseNow u cause verb
  else
    let s := { s with holdings := s.holdings.filter fun h => !tree.contains h.top }
    (s.beginHold u running (courses.filter fun c => s.ustate c == 2) cause verb (some (cause, verb))).advanceHold u

/-- A holder's release of an accelerator (R27, R29): its pending entry is removed, and every share of the holding that no member
entry names is free again. -/
def State.releaseShares (owner a cause verb : Nat) (s : State) : State :=
  let s := s.removeEntries 1 fun e => e.target == 0x600 + a && 1 ≤ e.kind && e.kind ≤ 3
  (s.setShares a owner (min (s.sharesOf a owner) (s.namedShares (0x600 + a) owner))).settleAccel cause verb a

/-! ### The mesh tap's units (R293, R435) -/

/-- A tap chain set up by the management core (R293): D 6, sharp mask 0x20, L = M, the mesh channel, the tap engine. -/
def State.setUpTapChain (u path engine : Nat) (s : State) : State :=
  let n := u % 256
  let (k, w) := tuneTo (s.channelHz s.homeChannel / 1000)
  let s := s.setAll [(ck n 1, path), (ck n 2, k), (ck n 3, w), (ck n 4, 6), (ck n 5, 0x20), (ck n 0x0B, 1), (ck n 0x0C, 1),
    (ck n 0x0D, 0), (ck n 0x0F, 0), (ck n 0x10, 0), (ck n 0x12, engine)]
  s.setTapResponse n

/-- One tap chain claimed, configured and started behind the engine's start; one that another master owns is missing. -/
def State.tapChainStart (u path engine t : Nat) (s : State) : State :=
  if s.owner u ≠ 0xFF then if s.owner u = 0 then s else s.raise 23 11 0x7310 []
  else
    let r := ((s.claimedBy u 0).setUpTapChain u path engine).configureUnit u
    if r.2 ≠ 0 then s
    else ((r.1.setUState u 1 1 2).placeVerb 0 1 u t).1

/-- The tap's units claimed, configured and started by the management core (R293, R435), where the mode provides them and the
tap is enabled. -/
def State.tapStart (s : State) : State :=
  if !((s.mode == .listen || s.mode == .full) && s.nat 0x731004 == 1) then s
  else
    let e := s.tapEngine
    if s.owner e ≠ 0xFF ∧ s.owner e ≠ 0 then s.raise 23 11 0x7310 []
    else if (s.engine (e % 256)).zeroing then s
    else
      let r := if s.owner e = 0 then (s, 0)
        else ((s.claimedBy e 0).setNat (ek (e % 256) 1) 0x0301).configureUnit e
      if r.2 ≠ 0 then s
      else
        let s := if s.owner e = 0 then r.1
          else ((r.1.setUState e 1 1 2).placeVerb 0 1 e 0).1
        let t := s.gnomon + s.verbLead 1 e + 384
        s.tapChains.zipIdx.foldl (fun s p => s.tapChainStart p.1 p.2 e t) s

/-- The tap's units released (R435). -/
def State.tapStop (units : List Nat) (cause : Nat) (s : State) : State :=
  units.foldl (fun s u => if s.owner u = 0 then s.releaseTree u cause (if cause = 1 then 6 else 0) else s) s

/-! ### The verb block -/

/-- The state byte of a verb's result: the scheduled state of a timed verb that was placed. -/
def scheduledState (verb : Nat) : Nat := if verb = 4 then 3 else 2

/-- The verbs other than claim by the state table of R25, a lone accelerator's by its own state (R29): the new state, the code, and the unit for the result. -/
def State.verbByState (owner u verb instant : Nat) (s : State) : State × Nat × Nat :=
  let st := s.ustate u
  let timed := fun (kind : Nat) => let r := s.placeVerb owner kind u instant; (r.1, r.2, u)
  if !s.owns owner u then (s, 0x0802, u)
  else match verb with
    | 2 =>
      if st = 2 ∨ st = 4 then (s, 0x0804, u)
      else if u / 256 = 3 then
        if st = 3 then (s, 0x0804, u) else s.configureCourse u
      else
        let r := s.configureUnit u
        if r.2 ≠ 0 then (s, r.2, u)
        else if u / 256 = 6 then (r.1.settleAccel 1 2 (u % 256), 0, u)
        else (if st = 0 then r.1.setUState u 1 1 2 else r.1, 0, u)
    | 3 => if st = 2 then (s, 0, u) else if st = 1 then timed 1 else (s, 0x0804, u)
    | 4 => if st = 3 then (s, 0, u) else if st = 2 then timed 2 else (s, 0x0804, u)
    | 5 => if st = 2 then (s, 0, u) else if st = 3 then timed 3 else (s, 0x0804, u)
    | _ =>
      if u / 256 = 6 then (s.releaseShares owner (u % 256) 1 6, 0, u)
      else
        let tap := s.tapReserved u || (s.leaves u).any s.tapReserved
        if s.releasing u then (s, 0, u)
        else
          let s := s.releaseTree u 1 6
          (if tap && owner != 0 && !s.releasing u then s.tapStart else s, 0, u)

/-- A verb block acted on (R22, R25 to R37, R130, R278, R435): its refusals appear in its result. A claim of an engine whose
memory is being zeroed is held, and its result awaited (R136). Where several refusals apply the specification gives no order:
0x0805 and 0x0808 are judged before 0x0802 (DESIGN CHOICE, notes/assumptions/116.md). -/
def State.verbBlock (r : Requester) (b : Bytes) (s : State) : State :=
  let owner := ownerId r
  let verb := nthD b 2 0
  let flags := nthD b 3 0
  let param := fieldLe b 4 4
  let instant := fieldLe b 8 8
  let named := fieldLe b 0 2
  let any := verb == 1 && bitOf flags 0
  let form := firstCode [refuseIf (!unitExists named) 0x0801,
    refuseIf (verb < 1 || 6 < verb) 0x0804,
    refuseIf (decide (1 < flags) || (flags == 1 && verb != 1)
      || (if named / 256 == 6 && verb == 1 then param < 1 || 16 < param else param != 0)) 0x010B]
  let pick := if form = 0 ∧ any then s.pickUnit owner named param else (named, form)
  let u := pick.1
  let accelShare := u / 256 == 6 && (verb == 1 || verb == 6)
  let loading := u / 256 == 2 && s.loads.contains (u % 256) && verb != 6
  let code := firstCode [pick.2, refuseIf (s.parent u != 0xFFFF && !accelShare) 0x0805,
    refuseIf (verb == 1 && owner == 0xFE && s.tapReserved u) 0x1D06,
    refuseIf (verb != 6 && (s.verbPending u || loading)) 0x0808]
  if code ≠ 0 then s.verbResult u code verb (s.ustate u)
  else if verb = 1 then
    if u / 256 = 2 ∧ (s.engine (u % 256)).zeroing ∧ s.owner u = 0xFF then
      (s.setEngine (u % 256) { s.engine (u % 256) with heldClaim := some r }).await 0x201002
    else
      let c := s.claimUnit owner u param
      c.1.verbResult u c.2 1 (c.1.ustate u)
  else
    let v := s.verbByState owner u verb instant
    let timed : Bool := 3 ≤ verb && verb ≤ 5 && v.2.1 == 0 && v.1.verbPending u
    v.1.verbResult v.2.2 v.2.1 verb (if timed then scheduledState verb else v.1.ustate u)

/-- The 16 bytes of a verb block. -/
def verbBytes (unit verb flags param instant : Nat) : Bytes :=
  leNat 2 unit ++ [verb, flags] ++ leNat 4 param ++ leNat 8 instant

/-- A write of 0x2010:01 by a master. -/
def State.writeVerb (r : Requester) (b : Bytes) (s : State) : State :=
  s.request r 0x201001 b (State.pairedBusy 0x201001 0x201002 r b (State.verbBlock r b))

/-- CLAIM (R25, R26, R28, R30): verb 1. -/
def execClaim (by_ : Requester) (unit : Nat) (any : Bool) (param : Nat) (s : State) : Host.Outcome State Fault Refusal :=
  .next (s.writeVerb by_ (verbBytes unit 1 (boolNat any) param 0))

/-- CLAIM_ACCELERATOR_SHARES (R29): verb 1 on an accelerator. -/
def execClaimAcceleratorShares (by_ : Requester) (unit : Nat) (any : Bool) (shares : Nat) (s : State) :
    Host.Outcome State Fault Refusal :=
  .next (s.writeVerb by_ (verbBytes unit 1 (boolNat any) shares 0))

/-- CONFIGURE (R25): verb 2 on a unit. -/
def execConfigure (by_ : Requester) (unit : Nat) (s : State) : Host.Outcome State Fault Refusal :=
  .next (s.writeVerb by_ (verbBytes unit 2 0 0 0))

/-- COURSE_CONFIGURE (R31): verb 2 on a course. -/
def execCourseConfigure (by_ : Requester) (course : Nat) (s : State) : Host.Outcome State Fault Refusal :=
  .next (s.writeVerb by_ (verbBytes course 2 0 0 0))

/-- START (R25, R27, R33): verb 3. -/
def execStart (by_ : Requester) (unit instant : Nat) (s : State) : Host.Outcome State Fault Refusal :=
  .next (s.writeVerb by_ (verbBytes unit 3 0 0 instant))

/-- HOLD (R25, R27, R34): verb 4. -/
def execHold (by_ : Requester) (unit instant : Nat) (s : State) : Host.Outcome State Fault Refusal :=
  .next (s.writeVerb by_ (verbBytes unit 4 0 0 instant))

/-- RESUME (R25, R27, R35): verb 5. -/
def execResume (by_ : Requester) (unit instant : Nat) (s : State) : Host.Outcome State Fault Refusal :=
  .next (s.writeVerb by_ (verbBytes unit 5 0 0 instant))

/-- RELEASE (R25, R27, R37, R50): verb 6. -/
def execRelease (by_ : Requester) (unit : Nat) (s : State) : Host.Outcome State Fault Refusal :=
  .next (s.writeVerb by_ (verbBytes unit 6 0 0 0))

/-- RELEASE_ACCELERATOR_SHARES (R29): verb 6 on an accelerator. -/
def execReleaseAcceleratorShares (by_ : Requester) (unit : Nat) (s : State) : Host.Outcome State Fault Refusal :=
  .next (s.writeVerb by_ (verbBytes unit 6 0 0 0))

/-- A verb held behind an awaited result proceeds once the result is issued (R356). -/
def State.runHeldVerb (s : State) : State :=
  match Map.get (fun _ => none) s.held 0x201001 with
  | some h =>
    if s.awaiting.contains 0x201002 then s
    else ({ s with held := s.held.erase 0x201001 } : State).verbBlock h.who h.body
  | none => s

/-- ENGINE_ZEROING_COMPLETE (R136): a released engine's memory is zero: it reads DORMANT, and a claim that was held
proceeds, then a verb held behind that claim's result. -/
def execEngineZeroingComplete (engine : Nat) (s : State) : Host.Outcome State Fault Refusal :=
  .next <|
    let r := s.engine engine
    let u := 0x200 + engine
    if r.zeroing then
      let s := (s.setEngine engine { r with zeroing := false, heldClaim := none, why := (0, 0) }).setUState u 0 r.why.1 r.why.2
      match r.heldClaim with
      | some q =>
        let c := s.claimUnit (ownerId q) u 0
        (c.1.verbResult u c.2 1 (c.1.ustate u)).runHeldVerb
      | none => if s.tapReserved u then s.tapStart else s
    else s

/-! ### Preparation and landing of starts and resumes (R33, R35, R130) -/

/-- The leaves of a start or resume entry in the order of their preparation (R33). -/
def State.prepOrder (s : State) (e : LaunchEntry) : List Nat := byRank (s.leaves e.target)

/-- The leaves prepared so far. -/
def State.prepDone (s : State) (n : Nat) : List Nat := (Map.get (fun _ => Prep.init) s.prep n).done

/-- The state that a start or a resume needs of a leaf. -/
def LaunchEntry.needs (e : LaunchEntry) : Nat := if e.kind = 1 then 1 else 3

/-- Whether a FAULTED leaf is counted in the degraded members of its course under policy 1, so that a resume skips it. -/
def State.degraded (s : State) (u : Nat) : Bool :=
  let c := s.parent u
  s.ustate u == 4 && c != 0xFFFF && s.cnat (desc c 8) == 1 && s.nat (desc c 0x0A) != 0

/-- Whether a leaf can be prepared (R35). -/
def State.leafReady (s : State) (e : LaunchEntry) (u : Nat) : Bool :=
  let st := s.ustate u
  if e.kind = 3 ∧ s.degraded u then true
  else if u / 256 = 6 then st == e.needs || st == 2
  else st == e.needs && (u / 256 != 2 || s.nat (ek (u % 256) 3) == 2)

/-- One leaf prepared: consumers are RUNNING at once, chains and Lantern at T (R33). -/
def State.prepareLeaf (n : Nat) (e : LaunchEntry) (u : Nat) (s : State) : State :=
  let s := { s with prep := Map.put (fun _ => Prep.init) s.prep n ⟨s.prepDone n ++ [u], none⟩ }
  if s.ustate u = 4 ∨ rankOf u = 4 ∨ s.ustate u = 2 then s
  else
    let s := if u = e.target ∧ u / 256 = 6 then s.setAccelOwn (u % 256) 2 else s
    (s.setUState u 2 2 0).landStart u e.instant

/-- The leaves that a start or resume has prepared go back in reverse rank order (R35). -/
def State.unprepare (n : Nat) (e : LaunchEntry) (s : State) : State :=
  let done := (s.prepDone n).reverse
  let s := done.foldl (fun s u =>
    if s.ustate u = 2 ∧ u / 256 ≠ 6 then (s.landStop u).setUState u e.needs 5 0 else s) s
  let s := if e.target / 256 = 6 ∧ done.contains e.target then
      s.setAccelOwn (e.target % 256) (if e.needs = 3 then 3 else 0) else s
  let s := done.foldl (fun s u => if u / 256 = 6 then s.settleAccel 5 0 (u % 256) else s) s
  { s with prep := s.prep.erase n }

/-- A start or resume that failed (R35): the entry is freed, and the refusal is a further result that names the leaf. -/
def State.failStart (n : Nat) (e : LaunchEntry) (leaf : Nat) (s : State) : State :=
  let s := (s.unprepare n e).setEntry n none
  s.verbResult leaf 0x080A (if e.kind = 1 then 3 else 5) (s.ustate e.target)

/-- T moved by the wait for a load (R130): the instant used is written into the entry, counted and announced. -/
def State.delayStart (n : Nat) (e : LaunchEntry) (by_ : Nat) (s : State) : State :=
  let t := e.instant + by_
  if by_ = 0 then s
  else ((s.setEntry n (some { e with first := t, instant := t })).bump 0x200102).raise 7 1 e.target [(8, e.instant), (8, t)]

/-- The instant from which a preparation waits for a load, if it does. -/
def State.waitsFrom (s : State) (n : Nat) : Option Nat := (Map.get (fun _ => Prep.init) s.prep n).wait

/-- A preparation that waits for a load since an instant (R130), or no longer does. -/
def State.setWait (n : Nat) (w : Option Nat) (s : State) : State :=
  { s with prep := Map.put (fun _ => Prep.init) s.prep n ⟨s.prepDone n, w⟩ }

/-- The engine whose load the next step of a preparation needs (R130). -/
def State.loadAwaited (s : State) (n : Nat) (e : LaunchEntry) : Option Nat :=
  match (s.prepOrder e)[(s.prepDone n).length]? with
  | some u => if u / 256 = 2 ∧ s.loads.contains (u % 256) ∧ s.ustate u = e.needs then some (u % 256) else none
  | none => none

/-- The starts and resumes whose load has ended (R130): T moves by the time for which the step was held. -/
def State.endWaits (s : State) : State :=
  (List.range 64).foldl (fun s n =>
    match s.entry n, s.waitsFrom n with
    | some e, some w => if (s.loadAwaited n e).isSome then s else (s.delayStart n e (s.gnomon - w)).setWait n none
    | _, _ => s) s

/-- The next leaf of a start or resume prepared; a loading engine holds this step and the later ones, a leaf that cannot start fails
the verb. -/
def State.prepareNext (n : Nat) (e : LaunchEntry) (s : State) : State :=
  let order := s.prepOrder e
  let i := (s.prepDone n).length
  match order[i]? with
  | none => s
  | some u =>
    if (s.loadAwaited n e).isSome then
      if (s.waitsFrom n).isSome then s else s.setWait n (some (e.instant - 384 * (order.length - i)))
    else if s.leafReady e u then s.prepareLeaf n e u
    else s.failStart n e u

/-- COURSE_LEAF_PREPARE (R33, R130): from T − 384 × L on, one leaf every 384 ticks. -/
def execCourseLeafPrepare (entry : Nat) (s : State) : Host.Outcome State Fault Refusal :=
  .next <|
    match s.entry entry with
    | none => s
    | some e =>
      let left := (s.prepOrder e).length - (s.prepDone entry).length
      if (e.kind = 1 ∨ e.kind = 3) ∧ left ≠ 0 ∧ s.ustate e.target = e.needs ∧ e.instant ≤ s.gnomon + 384 * left
      then s.prepareNext entry e else s

/-- The leaves that are left prepared one after another, until one waits or fails. -/
def State.prepareAll : Nat → Nat → State → State
  | 0, _, s => s
  | fuel + 1, n, s =>
    match s.entry n with
    | none => s
    | some e => if e.instant ≤ s.gnomon ∧ (s.loadAwaited n e).isNone then (s.prepareNext n e).prepareAll fuel n else s

/-- A start or resume lands at T (R33): the chains and Lantern produce, every course of the tree is RUNNING, the entry is
freed. -/
def State.landVerb (n : Nat) (e : LaunchEntry) (s : State) : State :=
  let leaves := s.prepOrder e
  let s := leaves.foldl (fun s u =>
    if rankOf u = 4 ∧ s.ustate u = e.needs then (s.setUState u 2 2 0).landStart u e.instant else s) s
  let s := (s.courses e.target).reverse.foldl (fun s c => if s.ustate c = 4 then s else s.setUState c 2 2 0) s
  let s := if e.target / 256 = 3 then
      leaves.foldl (fun s u => if u / 256 = 6 then s.settleAccel 2 0 (u % 256) else s) s
    else s
  { s.setEntry n none with prep := s.prep.erase n }

/-- A due start or resume entry fires (R33, R35, R49): what is left of its preparation, then the landing. -/
def State.fireStart (n kind : Nat) (s : State) : State :=
  match s.dueEntry n [kind] with
  | none => s
  | some e =>
    if s.ustate e.target ≠ e.needs ∧ (s.prepDone n).isEmpty then { s.dropFiring n e with prep := s.prep.erase n }
    else
      let s := s.prepareAll (s.prepOrder e).length n
      match s.entry n with
      | none => s
      | some e => if (s.prepDone n).length = (s.prepOrder e).length ∧ e.instant ≤ s.gnomon then s.landVerb n e else s

/-- LAUNCH_START_FIRING (R33, R35). -/
def execLaunchStartFiring (entry : Nat) (s : State) : Host.Outcome State Fault Refusal := .next (s.fireStart entry 1)

/-- LAUNCH_RESUME_FIRING (R33, R35). -/
def execLaunchResumeFiring (entry : Nat) (s : State) : Host.Outcome State Fault Refusal := .next (s.fireStart entry 3)

/-! ### Holds (R34) -/

/-- LAUNCH_HOLD_FIRING (R34, R37, R49, R293): chains and Lantern stop at T; a hold waits while its unit's start is being
prepared, and one whose unit is being held already is dropped. A tap chain that the management core holds is set for the data rate, and
its resume placed. -/
def execLaunchHoldFiring (entry : Nat) (s : State) : Host.Outcome State Fault Refusal :=
  .next <|
    match s.dueEntry entry [2] with
    | none => s
    | some e =>
      let u := e.target
      if s.mayWait e then s
      else if s.ustate u ≠ 2 ∨ (s.holdings.any fun h => h.top == u) then s.dropFiring entry e
      else
        let running := (s.leaves u).filter fun v => s.ustate v == 2
        let courses := (s.courses u).filter fun c => s.ustate c == 2
        let s := ((s.setEntry entry none).beginHold u running courses 2 0 none).advanceHold u
        if e.owner = 0 ∧ s.tapChains.contains u ∧ s.ustate u = 3 then ((s.setTapResponse (u % 256)).placeVerb 0 3 u 0).1 else s

/-- COURSE_RANK_HELD (R34): the rank before is HELD and its data consumed, so the next rank goes HELD. -/
def execCourseRankHeld (unit : Nat) (s : State) : Host.Outcome State Fault Refusal :=
  let tap := s.releasing unit && (s.leaves unit).any s.tapReserved
  let s := s.advanceHold unit
  .next (if tap && !s.releasing unit then s.tapStart else s)

/-! ### Launch commands -/

/-- The minimum lead of a kind that 0x2011 places (R44, R264). -/
def kindLead (kind : Nat) : Nat := if kind = 6 then 307200 else 384

/-- What an entry of a kind without a unit acts on, so that two conflict (R48). -/
def clashes (kind target : Nat) (param : Bytes) (e : LaunchEntry) : Bool :=
  e.kind == kind && (match kind with
    | 6 | 9 => nthD e.param 0 0 &&& nthD param 0 0 != 0
    | 0x0A => fieldLe e.param 0 2 == fieldLe param 0 2
    | 0x0B => true
    | _ => e.target == target)

/-- The members of a chain target's lock group. -/
def State.targetSet (s : State) (target : Nat) : List Nat := (s.lockSet (target % 256)).map (0x100 + ·)

/-- The instant an entry is placed at (R46, R55): the earliest where it is 0 or late, rounded up to a multiple of 4 for a
TB_SYNC pulse. -/
def State.placedAt (s : State) (kind instant : Nat) : Nat :=
  let earliest := s.gnomon + kindLead kind
  let earliest := if kind = 0x0B then roundUp 4 earliest else earliest
  if instant = 0 ∨ instant < s.gnomon + kindLead kind then earliest else instant

/-- The rules of a parameter's fields (R44, R491): a retune's sub-band and phase mode, a switch's path and its other bytes,
the zero parameter of a TB_SYNC pulse. -/
def paramRule (kind : Nat) (param : Bytes) : Nat :=
  refuseIf (match kind with
    | 4 => decide (63 < nthD param 4 0) || decide (1 < nthD param 5 0)
    | 5 => decide (1 < nthD param 0 0) || (param.drop 1).any (· != 0)
    | 0x0B => param.any (· != 0)
    | _ => false) 0x010B

/-- The checks of a placement through 0x2011 (R43 to R48, R55, R491). -/
def State.placeCheck (s : State) (b : Bytes) : Nat :=
  let instant := fieldLe b 0 8
  let kind := nthD b 9 0
  let flags := nthD b 10 0
  let target := fieldLe b 12 2
  let period := fieldLe b 16 4
  let param := b.drop 24
  let again := bitOf flags 1
  let t := s.placedAt kind instant
  let pathB := (kind == 5 && nthD param 0 0 == 1) || (kind == 4 && (s.chain (target % 256)).path == 1)
  firstCode [
    refuseIf (decide (15 < nthD b 8 0) || decide (3 < flags) || fieldLe b 22 2 != 0) 0x010B,
    refuseIf (kind == 1 || kind == 2 || kind == 3 || kind == 7 || kind == 8) 0x0907,
    refuseIf (kind < 1 || 0x0B < kind) 0x010B,
    refuseIf (again && kind == 6) 0x0908,
    refuseIf (again && period < 384) 0x010B,
    refuseIf (kind == 0x0B && (instant % 4 != 0 || (again && period % 4 != 0))) 0x0903,
    refuseIf (decide (s.gnomon + 2 ^ 40 < instant)) 0x0903,
    refuseIf (bitOf flags 0 && instant != 0 && decide (instant < s.gnomon + kindLead kind)) 0x0902,
    refuseIf ((kind == 4 || kind == 5) && !(target / 256 == 1 && unitExists target)) 0x0801,
    paramRule kind param,
    refuseIf (s.mode == .listen && pathB) 0x0809,
    refuseIf (s.launch.any fun p => match p.2 with
      | some e => e.first == t && (if kind = 4 then e.kind == 4 && (s.targetSet target).contains e.target
          else clashes kind target param e)
      | none => false) 0x0904]

/-- The result of a launch command (R43). -/
def State.launchResult (index code op : Nat) (s : State) : State :=
  s.issuePaired 0x201102 code ([index, 0] ++ leNat 2 code ++
    [if index < 64 then entryState (s.entry index) else 0, op])

/-- A launch block acted on (R42, R43, R46): op 1 places, op 2 cancels, any other is refused. Leaves that a cancelled verb has
prepared go back, as R35 has a course start all or nothing (DEDUCED, notes/assumptions/28.md). A one-shot entry holds 0 for period
and count, and a cancel is judged by R43's order alone, whatever its other fields hold (DESIGN CHOICE, notes/assumptions/123.md). -/
def State.launchBlock (r : Requester) (b : Bytes) (s : State) : State :=
  let op := nthD b 11 0
  let owner := ownerId r
  match op with
  | 1 =>
    let code := s.placeCheck b
    if code ≠ 0 then s.launchResult 0xFF code 1
    else match s.entryFor (owner == 0) with
      | none => s.launchResult 0xFF 0x0901 1
      | some n =>
        let instant := fieldLe b 0 8
        let kind := nthD b 9 0
        let again := bitOf (nthD b 10 0) 1
        let t := s.placedAt kind instant
        let e : LaunchEntry := ⟨t, t, nthD b 8 0, kind, nthD b 10 0, fieldLe b 12 2, owner, if again then fieldLe b 16 4 else 0,
          if again then fieldLe b 20 2 else 0, 0, b.drop 24⟩
        let s := s.setEntry n (some e)
        let s := if instant ≠ 0 ∧ instant < t then (s.bump 0x200102).raise 7 1 (launchSource e) [(8, instant), (8, t)] else s
        s.launchResult n 0 1
  | 2 =>
    let n := nthD b 14 0
    if 63 < n then s.launchResult n 0x010B 2
    else match s.entry n with
      | none => s.launchResult n 0x0804 2
      | some e =>
        if e.owner = owner then ((s.unprepare n e).setEntry n none).launchResult n 0 2 else s.launchResult n 0x0802 2
  | _ => s.launchResult 0xFF 0x0804 op

/-- A write of 0x2011:01 by a master. -/
def State.writeLaunch (r : Requester) (b : Bytes) (s : State) : State :=
  s.request r 0x201101 b (accept (State.launchBlock r b))

/-- LAUNCH_PLACE (R43): op 1. -/
def execLaunchPlace (by_ : Requester) (instant phase kind flags target period count : Nat) (param : Bytes) (s : State) :
    Host.Outcome State Fault Refusal :=
  .next (s.writeLaunch by_ (leNat 8 instant ++ [phase, kind, flags, 1] ++ leNat 2 target ++ [0, 0] ++ leNat 4 period
    ++ leNat 2 count ++ [0, 0] ++ padTo 8 param))

/-- LAUNCH_CANCEL (R43): op 2. -/
def execLaunchCancel (by_ : Requester) (entry : Nat) (s : State) : Host.Outcome State Fault Refusal :=
  .next (s.writeLaunch by_ (List.replicate 11 0 ++ [2, 0, 0, entry] ++ List.replicate 17 0))

/-! ### GPIO, TB_SYNC, CLK_OUT and lock groups -/

/-- GPIO_CHANGE (R49, R475): a kind 0x09 entry sets the masked bits of 0x7700:02; it is dropped when a masked pin is no
output (DEDUCED, notes/assumptions/36.md). -/
def execGpioChange (entry : Nat) (s : State) : Host.Outcome State Fault Refusal :=
  .next <|
    match s.dueEntry entry [9] with
    | none => s
    | some e =>
      let mask := nthD e.param 0 0
      let levels := nthD e.param 1 0
      if mask &&& s.nat 0x770001 ≠ mask then s.dropFiring entry e
      else
        let out := (List.range 8).foldl (fun t i => if bitOf mask i then putBit t i (bitOf levels i) else t) (s.nat 0x770002)
        (({ s with gpioFired := some (s.gnomon, mask, levels) } : State).setNat 0x770002 out).afterFiring entry e

/-- TB_SYNC_PULSE (R49, R55): a kind 0x0B entry: the leader drives one pulse at the instant. -/
def execTbSyncPulse (entry : Nat) (s : State) : Host.Outcome State Fault Refusal :=
  .next <|
    match s.dueEntry entry [0x0B] with
    | none => s
    | some e =>
      if s.nat 0x200201 ≠ 1 then s.dropFiring entry e
      else ({ s with tbSync := { s.tbSync with lastPulse := some e.instant } } : State).afterFiring entry e

/-- Whether a write of 2 to the TB_SYNC role is busy (R56). -/
def State.gnomonBusy (s : State) : Bool :=
  allUnits.any (fun u => s.ustate u == 2 || s.ustate u == 3) || s.launch.any fun p => 8 ≤ p.1 && p.2.isSome

/-- The internal placers' entries, each with its index (R42, R56): the management core's, the link sequencer's and Plumb's. -/
def State.internalEntries (s : State) : List (Nat × LaunchEntry) :=
  s.launch.filterMap fun p => p.2.bind fun e => if e.owner = 0 ∨ e.owner = 2 ∨ e.owner = 23 then some (p.1, e) else none

/-- An internal placer's entry placed again against the new count (R56), as far ahead as it was; Plumb announces its blank again
(R92). -/
def State.placeAgain (d : Int) (n : Nat) (e : LaunchEntry) (s : State) : State :=
  let e := { e with first := movedBy d e.first, instant := movedBy d e.instant }
  let s := s.setEntry n (some e)
  if e.kind = 7 then s.raise 11 1 e.target [(1, nthD e.param 0 0), (1, nthD e.param 1 0), (8, e.instant)] else s

/-- TB_SYNC_FOLLOWER_LOAD (R41, R56): a rising edge in role 2: the count becomes the load value plus 4, every armed entry is
removed, and the role returns to 0. The internal placers place their entries again, with the instants of their frames and of the
nulls they wait for, moved by the change of the count (DEDUCED, notes/assumptions/120.md). -/
def execTbSyncFollowerLoad (s : State) : Host.Outcome State Fault Refusal :=
  .next <|
    if s.nat 0x200201 = 2 then
      let old := s.gnomon
      let again := s.internalEntries
      let s := (s.writeGnomon (s.nat 0x200202 + 4) 3).setNat 0x200201 0
      let d : Int := (s.gnomon : Int) - old
      let s := (List.range 64).foldl (fun s n => match s.entry n with
        | some e => s.unprepare n e
        | none => s) s
      let s := s.removeEntries 4 fun _ => true
      let s := again.foldl (fun s p => s.placeAgain d p.1 p.2) s
      let s := { s with link := { s.link with frames := s.link.frames.map fun f =>
        if f.stage = .armed ∨ f.stage = .clear then { f with at_ := f.at_.map (movedBy d) } else f } }
      [0, 1].foldl (fun s p => s.setPlumb p { s.plumbOf p with
        nullStart := (s.plumbOf p).nullStart.map (movedBy d), freeFrom := (s.plumbOf p).freeFrom.map (movedBy d) }) s
    else s

/-- TB_SYNC_CHECK (R58): an edge in role 3 against the edge before plus the check period. -/
def execTbSyncCheck (s : State) : Host.Outcome State Fault Refusal :=
  .next <|
    if s.nat 0x200201 = 3 then
      let t := { s with tbSync := { s.tbSync with lastEdge := some s.gnomon } }
      match s.tbSync.lastEdge with
      | none => t
      | some e =>
        let d := signed 4 ((((s.gnomon : Int) - (e + s.nat 0x200204 : Nat)) % 2 ^ 32).toNat)
        let t := t.setNum 0x200203 d
        if d = 0 then t else t.raise 6 2 0x2002 [(4, d), (4, s.nat 0x200204)]
    else s

/-- CLK_OUT_ENABLE_WRITE (R490). -/
def execClkOutEnableWrite (by_ : Requester) (value : Nat) (s : State) : Host.Outcome State Fault Refusal :=
  .next (s.request by_ 0x200205 [value] (accept (State.setNat 0x200205 value)))

/-- Whether CLK_OUT carries the reference (R490): from bring-up step 7 on, outside PARKED and OFF. -/
def State.clkOut (s : State) : Bool :=
  s.nat 0x200205 == 1 && (match s.mode with
    | .off | .parked => false
    | .boot => decide (7 ≤ s.power.bootStep)
    | _ => true)

/-- Whether the leader's pulse is on TB_SYNC (R55, R480): one reference period wide, from half a period after its instant. -/
def State.tbPulse (s : State) : Bool :=
  match s.tbSync.lastPulse with
  | some t => decide (t + 2 ≤ s.gnomon) && decide (s.gnomon < t + 6)
  | none => false

/-- The rule of a write to a lock group (R52). -/
def State.lockRule (s : State) (group bitmap : Nat) : Nat :=
  let old := s.nat (obj 0x2008 group)
  let changed := (List.range 32).filter fun n => bitOf old n != bitOf bitmap n
  let others := (List.range 8).filter fun g => g + 1 != group
  firstCode [refuseIf (changed.any fun n => s.ustate (0x100 + n) == 2) 0x0905,
    refuseIf ((List.range 32).any fun n => bitOf bitmap n && others.any fun g => bitOf (s.nat (obj 0x2008 (g + 1))) n) 0x0904]

/-- A lock group written (R52, R53): its members that are configured share one NCO from then on. -/
def State.setLockGroup (group bitmap : Nat) (s : State) : State :=
  let s := s.setNat (obj 0x2008 group) bitmap
  (List.range 32).foldl (fun s n =>
    if bitOf bitmap n && s.chainLive (0x100 + n) && s.ustate (0x100 + n) != 2 then s.shareNco n else s) s

/-- LOCK_GROUP_WRITE (R52): groups 1 to 8. -/
def execLockGroupWrite (by_ : Requester) (group bitmap : Nat) (s : State) : Host.Outcome State Fault Refusal :=
  .next (s.request by_ (obj 0x2008 group) (leNat 4 bitmap) (fun s =>
    guarded (s.lockRule group (bitmap % 2 ^ 32)) (State.setLockGroup group (bitmap % 2 ^ 32)) s))

end Sys2Proof.Machine
end

