-- ==== Sys2Proof/Machine/Faults.lean ====
section
/-!
DEFINITION. Machine/Faults.lean: the events in which an engine, an accelerator or Lantern faults (R129, R135, R137, R138, R177).
A fault that sets off a hold (R36) lets it take its first step at once, the earliest achievable instant.
-/
namespace Sys2Proof.Machine

/-- ENGINE_LOAD_COMPLETE (R129, R130, R138): the load at the head of the queue ends. A hash that matches gives load state
2 and an event of kind 1; another gives load state 3 and an event of kind 2, and during a restart fault 0x0205. -/
def execEngineLoadComplete (engine : Nat) (hashMatches : Bool) (s : State) : Host.Outcome State Fault Refusal :=
  .next <| s.actAndHold fun s =>
    if s.loads.head? = some engine ∧ (s.engine engine).loadFrom.isSome then
      let image := s.cnat (ek engine 1)
      let version := match s.catalogue image with
        | some c => fieldLe c 4 4
        | none => 0
      let took := s.gnomon - (s.engine engine).loadFrom.getD s.gnomon
      let s := (s.setNat (ek engine 4) took).dequeueLoad engine
      if hashMatches then
        let s := (s.setNat (ek engine 3) 2).setNat (ek engine 2) version
        let r := (s.engine engine).restart.map fun r => { r with step := 3 }
        let s := s.setEngine engine { s.engine engine with image := image, restart := r }
        (s.raise 13 1 (0x200 + engine) [(2, image), (4, version)]).endWaits
      else
        let restarting := (s.engine engine).restart.isSome
        let s := (s.setEngine engine { s.engine engine with image := 0 }).setNat (ek engine 2) 0
        let s := ((s.setNat (ek engine 3) 3).raise 13 2 (0x200 + engine) [(2, image), (2, 0x0C02)]).endWaits
        if restarting then s.faultEngine engine 0x0205 else s
    else s

/-- ENGINE_FAULT (R137): causes 0x0201 to 0x0204. -/
def execEngineFault (engine cause : Nat) (s : State) : Host.Outcome State Fault Refusal :=
  .next (s.actAndHold fun s => if s.engineLive engine ∧ 0x0202 ≤ cause ∧ cause ≤ 0x0204 then s.faultEngine engine cause else s)

/-- ENGINE_WATCHDOG (R137): a RUNNING engine that is not restarting has sent no heartbeat for 10 ms, counted from its last sign of
life: its start, its resume, the end of a restart, a job of it. -/
def execEngineWatchdog (engine : Nat) (s : State) : Host.Outcome State Fault Refusal :=
  .next (s.actAndHold fun s =>
    if s.engineLive engine ∧ s.ustate (0x200 + engine) = 2 ∧ (s.engine engine).restart = none ∧
        (s.engine engine).beat + 1536000 ≤ s.gnomon then s.faultEngine engine 0x0201
    else s)

/-- ACCELERATOR_TIMEOUT (R135): a job has run, in the slots that it had, longer than four times its job time plus one round. The accelerator resets
and fails every job; a fourth reset in 60 s puts it into FAULTED with 0x0601. -/
def execAcceleratorTimeout (accel : Nat) (s : State) : Host.Outcome State Fault Refusal :=
  .next <| s.actAndHold fun s =>
    let r := s.accel accel
    if accel < 8 ∧ s.ustate (0x600 + accel) ≠ 4 ∧ r.jobs.any (fun j => 4 * j.ticks + 4096 < j.done) then
      let recent := (r.resets.filter fun t => s.gnomon < t + 9216000000) ++ [s.gnomon]
      let s := s.setAccel accel { r with jobs := [], resets := recent, slot := none }
      let s := (s.bumpBy (ak accel 2) r.jobs.length).bump (ak accel 3)
      let s := s.raise 14 1 (0x600 + accel) [(4, r.jobs.length), (1, recent.length)]
      if 4 ≤ recent.length then s.faultAccel accel 0x0601 else s
    else s

/-- ACCELERATOR_MEMORY_ERROR (R135): FAULTED at once with 0x0602. -/
def execAcceleratorMemoryError (accel : Nat) (s : State) : Host.Outcome State Fault Refusal :=
  .next (s.actAndHold fun s => if accel < 8 ∧ s.ustate (0x600 + accel) ≠ 4 then s.faultAccel accel 0x0602 else s)

/-- LANTERN_MEMORY_ERROR (R177): FAULTED with 0x0701. -/
def execLanternMemoryError (s : State) : Host.Outcome State Fault Refusal :=
  .next (s.actAndHold fun s => if s.ustate 0x700 = 1 ∨ s.ustate 0x700 = 2 ∨ s.ustate 0x700 = 3 then s.faultUnit 0x700 0x0701 else s)

end Sys2Proof.Machine
end

