-- ==== Sys2Proof/Machine/Modes.lean ====
section
/-!
DEFINITION. Machine/Modes.lean: the operations that mode changes share (spec/24_power_clocks_reset.md; R28, R30, R172, R278,
R293, R435, R447): releases, the mesh units and the tap at a mode change, power-down of paths, SAFE, and reset.
-/
namespace Sys2Proof.Machine

/-! ### Codes -/

/-- The code of a mode (R450). -/
def modeCode : Mode → Nat
  | .off => 0
  | .boot => 1
  | .parked => 2
  | .watch => 3
  | .listen => 4
  | .full => 5
  | .update => 6
  | .safe => 7

/-- The mode of a code from 2 to 6 (R450). -/
def modeOf (n : Nat) : Mode :=
  match n with
  | 2 => .parked
  | 3 => .watch
  | 4 => .listen
  | 5 => .full
  | 6 => .update
  | 7 => .safe
  | 1 => .boot
  | _ => .off

/-- A mode taken, with 0x7600:01. -/
def State.inMode (m : Mode) (s : State) : State := { s with mode := m }.setNat 0x760001 (modeCode m)

/-- Whether broadcast blocks run in a mode. -/
def broadcast (m : Mode) : Bool := m == .listen || m == .full

/-- The clock domains that derive from the reference, and the always-on one (R468). -/
inductive ClockDomain where
  | sample | adc | fabric | management | alwaysOn
  deriving DecidableEq, Repr

/-- The frequency of a domain in Hz (R468). -/
def ClockDomain.hz : ClockDomain → Nat
  | .sample => 2457600000
  | .adc => 153600000
  | .fabric => 614400000
  | .management => 153600000
  | .alwaysOn => 32768

/-- Whether a domain's clock runs in the mode in force (R468). -/
def State.clockRuns (s : State) : ClockDomain → Bool
  | .sample | .adc => broadcast s.mode
  | .fabric | .management => s.mode != .off && s.mode != .parked
  | .alwaysOn => s.mode != .off

/-- A mode event (R453): kind 1 or 2 with old mode, new mode and trigger. -/
def State.modeEvent (kind old new trigger : Nat) (s : State) : State :=
  s.raise 4 kind 0x7600 [(1, old), (1, new), (1, trigger)]

/-- A mode outcome (R450). -/
def State.modeOutcome (code old new trigger : Nat) (s : State) : State :=
  s.issuePaired 0x760003 code (leNat 2 code ++ [old, new, trigger, 0] ++ leNat 8 s.gnomon)

/-- WAKE_OUT (R464): high while an enabled condition holds; low in BOOT and PARKED. -/
def State.wakeOut (s : State) : Bool :=
  let mask := s.nat 0x76000B
  match s.mode with
  | .off | .boot | .parked => false
  | m => (bitOf mask 0 && s.power.left.isSome) || (bitOf mask 1 && s.power.matched.isSome) || (bitOf mask 2 && m == .safe)

/-! ### The log (R441) -/

/-- The most entries the log region of flash holds: 96 sectors of 255. -/
abbrev logRoom : Nat := 96 * 255

/-- The unflushed entries programmed into flash (R441); a full ring gives up its oldest sector. -/
def State.flushLog (s : State) : State :=
  if s.log.sram.isEmpty then s
  else
    let all := s.log.flash ++ s.log.sram
    let beyond := all.length - logRoom
    let s := s.cvManagement (16 * s.log.sram.length)
    { s with log := { s.log with flash := all.drop ((beyond + 254) / 255 * 255), sram := [] } }.setNat 0x740002
      (clearBit (s.nat 0x740002) 2)

/-! ### The debug level (R430) -/

/-- The debug level changed, with its security event (R430). -/
def State.setLevel (level signer : Nat) (s : State) : State :=
  let old := s.nat 0x830001
  if old = level then s.setNat 0x830002 signer
  else ((s.setNat 0x830001 level).setNat 0x830002 signer).raise 3 2 0x8300 [(1, old), (1, level), (1, signer)]

/-! ### What a mode provides -/

/-- Whether a mode provides a unit as it is configured (R28, R30): in LISTEN no chain of path B, and no Lantern on path B. -/
def State.providedIn (s : State) (m : Mode) (u : Nat) : Bool :=
  modeProvides m u && !(m == .listen && s.ustate u != 0 && ((u / 256 == 1 && (s.chain (u % 256)).path == 1)
    || (u == 0x700 && s.cnat 0x430001 == 1)))

/-- Whether class H owns a unit. -/
def State.hostOwns (s : State) (u : Nat) : Bool := s.owns 0xFE u

/-- Whether a host-owned unit bars a requested transition (R452). In WATCH the mesh core takes unit 0x0502, which exists
there (R28; DEDUCED, notes/assumptions/39.md). -/
def State.barred (s : State) (m : Mode) : Bool :=
  allUnits.any fun u => s.hostOwns u && (s.ustate u == 2 || s.ustate u == 3) && !s.providedIn m u
    && !(m == .parked && u == 0x502)

/-- The host-owned units that a mode does not provide released (R452): a member goes with its top-level course. `now` is set where
the mode is reached and no hold can run any longer. -/
def State.releaseUnprovided (m : Mode) (now : Bool) (s : State) : State :=
  allUnits.foldl (fun s u =>
    if s.hostOwns u && !s.providedIn m u then
      if u / 256 = 6 then (s.setShares (u % 256) 0xFE 0).settleAccel 4 0 (u % 256)
      else if now then s.releaseNow (s.top u) 4 0 else s.releaseTree (s.top u) 4 0
    else s) s

/-- The frames whose entries are gone wait to be bound again (R436). -/
def State.unbindFrames (s : State) : State :=
  { s with link := { s.link with frames := s.link.frames.map fun f =>
    if f.stage = .armed then { f with stage := .queued } else f } }

/-- The entries whose target a mode does not provide removed (R50). -/
def State.removeUnavailable (m : Mode) (s : State) : State :=
  s.removeEntries 2 fun e => launchSource e == e.target && e.kind != 7 && !s.providedIn m e.target

/-! ### Power of the blocks -/

/-- A path powered down (R63, R96, R253): its raw captures end, its Plumb unit is released, its state is 0. -/
def State.pathDown (p : Nat) (s : State) : State :=
  if s.nat (obj (0x3000 + p) 1) = 0 ∧ s.ustate (0x800 + p) = 0 then s
  else
    let s := s.abortCaptures (fun u => u == 0x800 + p)
    let s := s.removeEntries 2 fun e => e.kind == 7 && e.target == 0x800 + p
    let s := s.plumbPowerDown p
    (s.setPath p { s.path p with unlockedAt := none, tapSince := none, moves := [] }).setNat (obj (0x3000 + p) 1) 0

/-- A path powered up (R73, R95, R96). -/
def State.pathUp (p : Nat) (s : State) : State :=
  if 2 ≤ s.nat (obj (0x3000 + p) 1) then s else (s.powerPath p).plumbPowerUp p

/-- Gloaming's state lost with the audio subsystem (R172, R454): its enable keeps its value, which takes effect at the next
power-up (R63, R350). -/
def State.gloamingDown (s : State) : State := if s.blending then s.disableGloaming.setNat 0x490001 1 else s

/-- Gloaming enabled again at the power-up of the audio subsystem where its enable is 1 (R63, R350). -/
def State.gloamingUp (s : State) : State := if s.blending then (s.setNat 0x490001 0).enableGloaming.1 else s

/-- The radio, the link's frames in hand and the acknowledgement owed, gone. -/
def State.radioDown (s : State) : State :=
  let s := s.setRadio 0
  { s with
    radio := { s.radio with calib := none, wake := none, test := none, airUntil := s.gnomon, receiving := none }
    link := { s.link with frames := [], receptions := [], ack := none, listenUntil := 0 }
    mesh := { s.mesh with rx := [], work := [], joins := [] } }

/-! ### The mesh units (R278) -/

/-- A unit claimed, configured and started by the mesh core at once. -/
def State.meshClaim (u : Nat) (s : State) : State :=
  if s.owner u ≠ 0xFF then s else ((s.claimedBy u 1).setUState u 1 1 2).setUState u 2 4 0

/-- The mesh units as a mode has them (R28, R278; notes/assumptions/39.md): 0x0500 and 0x0501 are the mesh core's wherever
they exist; 0x0502 is its own in WATCH and returns to its owner in LISTEN and FULL. -/
def State.meshUnits (m : Mode) (s : State) : State :=
  if m == .watch || broadcast m then
    let s := s.meshClaim 0x501
    let s := if s.owner 0x500 = 0xFF then (s.meshClaim 0x500).moveRadio 2 true else s
    if m == .watch then
      if s.owner 0x502 = 1 then s
      else
        let s := { s with power := { s.power with meshOwner := s.owner 0x502 } }.claimedBy 0x502 1
        if s.ustate 0x502 = 0 ∧ s.validateMesh = 0 then
          (s.setUState 0x502 1 1 2).startMesh.setUState 0x502 2 4 0
        else s
    else if s.owner 0x502 = 1 then
      if s.power.meshOwner = 0xFF then s.freeUnit 0x502 4 0 else s.claimedBy 0x502 s.power.meshOwner
    else s
  else
    let s := [0x502, 0x501, 0x500].foldl (fun s u => if s.owner u = 0xFF then s else s.freeUnit u 4 0) s
    { s with power := { s.power with meshOwner := 0xFF } }.radioDown

/-! ### The tap at mode changes (R435) -/

/-- Whether a unit is the management core's own. -/
def State.ours (s : State) (u : Nat) : Bool := s.owner u == 0

/-- The step of R452 for the tap: below LISTEN its units are released. Between LISTEN and FULL the chain of path B is released
when FULL is left; and where the two named engines differ, the old engine is released and the chain of path A is held with
the new engine as its consumer. -/
def State.tapStep (old new : Mode) (s : State) : State :=
  if !broadcast old then s
  else if !broadcast new then s.tapStop [s.nat 0x731002, s.nat 0x731003, s.tapEngine] 4
  else if old == new then s
  else
    let s := if old == .full then s.tapStop [s.nat 0x731003] 4 else s
    let was := if old == .full then s.nat 0x731001 else s.nat 0x731005
    let is := if new == .full then s.nat 0x731001 else s.nat 0x731005
    if was = is ∨ !s.ours was then s
    else
      let a := s.nat 0x731002
      let n := a % 256
      let s := s.tapStop [was] 4
      if s.ours a && s.ustate a == 2 then
        let s := ((s.holdChain n).disturbChain n).setUState a 3 4 0
        (s.setNat (ck n 0x12) is).setCommitted (ck n 0x12) (.num is)
      else s

/-- The tap at the entry to LISTEN or FULL (R435): its units are claimed and started; a chain of path A that was held is
resumed behind the new engine's start. -/
def State.tapEnter (s : State) : State :=
  let a := s.nat 0x731002
  let s := if s.ours a && s.ustate a == 0 then s.setNat (desc a 3) 0xFF else s
  let s := s.tapStart
  if s.ours a && s.ustate a == 3 && !s.verbPending a then
    (s.placeVerb 0 3 a (s.gnomon + s.verbLead 1 s.tapEngine + 384)).1
  else s

/-! ### The controllers of the ports in a mode (R384, R386, R398) -/

/-- The Quoin controller in a new mode (R384): off in PARKED or while its PLL is unlocked, in standby where WATCH with bus mode
0 is reached from PARKED (R386), and active otherwise; error states stay. It powers down in WATCH after its idle time. -/
def State.quoinMode (old new : Mode) (s : State) : State :=
  let cur := s.nat 0x104101
  let st :=
    if new == .parked || new == .off || s.nat 0x700204 != 0 then 0
    else if new == .boot then 1
    else if cur = 3 ∨ cur = 4 then cur
    else if new == .watch && s.nat 0x10400A == 0 && (old == .parked || cur == 5) then 5
    else 2
  { s with quoin := { s.quoin with activeAt := s.gnomon } }.setNat 0x104101 st

/-- The two-wire target sleeps in WATCH and PARKED (R398). -/
def State.targetMode (new : Mode) (s : State) : State :=
  { s with twoWire := { s.twoWire with asleep := new == .watch || new == .parked, wokenAt := none, lastAt := s.gnomon } }

/-! ### Entering a mode -/

/-- What holds in every new mode but PARKED, SAFE and BOOT: paths, antenna supplies, mesh units, the tap (R63, R78, R278,
R435). -/
def State.enterMode (m : Mode) (s : State) : State :=
  let old := s.mode
  let s := ((s.inMode m).quoinMode old m).targetMode m
  let s := if m == .full then s.pathUp 1 else s.pathDown 1
  let s := if broadcast m then s.pathUp 0 else s.pathDown 0
  let s := if broadcast m && !broadcast old then s.gloamingUp else if broadcast m then s else s.gloamingDown
  let s := s.meshUnits m
  let s := if broadcast m then s.tapEnter else s
  (s.refreshAntenna 0).refreshAntenna 1

/-! ### SAFE (R447, R448) -/

/-- A trigger of SAFE (R447): the first one stands until SAFE_ENTRY, within 100 µs. None acts in OFF, PARKED or SAFE. -/
def State.askSafe (cause source : Nat) (reading : Int) (s : State) : State :=
  if s.mode = .off ∨ s.mode = .parked ∨ s.mode = .safe ∨ s.power.safeDue.isSome then s
  else { s with power := { s.power with
    safeDue := some ⟨cause, source, clampInt (-32768) 32767 reading, s.gnomon⟩ } }

/-- Entry to SAFE with a cause, a source and a reading (R447, R453): the transition in progress is preempted, the paths, the
engines, the PA and the mesh radio are off, every unit is FAULTED with code 1, every launch entry is removed, and the fault
record, its event and the log are written. The trigger of its mode events is free (notes/assumptions/38.md). Nothing is left to
do in OFF, PARKED or SAFE. -/
def State.enterSafe (c : SafeCause) (s : State) : State :=
  let s := { s with power := { s.power with safeDue := none } }
  if s.mode = .off ∨ s.mode = .parked ∨ s.mode = .safe then s
  else
    let old := modeCode s.mode
    let (why, s) := s.fresh 256
    let s := s.modeEvent 1 old 7 why
    let s := match s.power.transition with
      | some t => if t.trigger = 3 then s else s.modeOutcome 0x0809 (modeCode t.old) 7 t.trigger
      | none => s
    let s := { s with power := { s.power with transition := none, heldWake := none, pathStep := 0 } }.setNat 0x760005 0
    let from_ := s.mode
    let s := ((s.gloamingDown.inMode .safe).quoinMode from_ .safe).targetMode .safe
    let s := s.radioDown
    let s := (s.abortCaptures fun u => u / 256 == 8).removeEntries 3 fun _ => true
    let s := (s.pathDown 1).pathDown 0
    let s := if s.ustate 0x700 = 0 then s else s.clearDatabase
    let s := { s with holdings := [], loads := [] }
    let s := allUnits.foldl (fun s u => (s.setUState u 4 4 0).setNat (desc u 5) 1) s
    let s := (s.refreshAntenna 0).refreshAntenna 1
    let s := if c.cause = 5 then { s with sec := { s.sec with boundaryHold := true } }.setLevel 0 0xFF else s
    let record := [c.cause, c.source] ++ leInt 2 c.reading ++ leNat 8 c.at_ ++ leNat 4 s.log.next
    let s := (s.setBytes 0x740001 record).setNat 0x740002 (setBit (s.nat 0x740002) 0)
    let s := s.raise 23 4 0x7400 (record.map fun b => (1, Int.ofNat b))
    ((s.modeEvent 2 old 7 why).bump 0x76000C).flushLog

/-! ### Reset (R454, R456) -/

/-- The trial reverted (R445): its bank is failed, the other one runs at the next boot, which announces it. -/
def Flash.revert (f : Flash) : Flash :=
  if f.running = 0 then { f with bankA := { f.bankA with state := 4 }, running := 1, trial := 3 }
  else { f with bankB := { f.bankB with state := 4 }, running := 0, trial := 3 }

/-- A reset with its cause (R454, R456): everything is as at reset but OTP, flash, the commands that wait and,
while VDD_AON stays in its band, the retained log. A reset during a trial window reverts the trial (R445); the wait of R422 runs
on. -/
def State.doReset (cause : Nat) (keepLog : Bool) (s : State) : State :=
  let flash := if s.flash.trial = 2 then s.flash.revert else s.flash
  let flash := { flash with waitUntil := (flash.waitUntil.filter fun t => decide (s.gnomon < t)).map (· - s.gnomon) }
  let log := if keepLog then s.log else { Log.init with flash := s.log.flash, next := s.log.next - s.log.sram.length }
  { State.reset with
    pending := s.pending, freeCtr := s.freeCtr, otp := s.otp, flash := flash, log := log
    power := { Power.init with resetCause := cause } }.inMode .boot

end Sys2Proof.Machine
end

