-- ==== Sys2Proof/Machine/Access.lean ====
section
/-!
DEFINITION. Machine/Access.lean: reads of the dictionary (R345 to R347, R354 to R358): the values that the device produces at
a read, the checks of R349 for a read, FIFO objects, and stale results.
-/
namespace Sys2Proof.Machine

/-! ### Values produced at a read -/

/-- Descriptor and table values of spec/02 and spec/23: the ownership table (R435). -/
def State.ownership (s : State) : Bytes :=
  allUnits.flatMap fun u =>
    if s.owner u = 0xFF then []
    else leNat 2 u ++ leNat 1 (s.owner u) ++ [if s.tapReserved u then 0 else 0xFF]
      ++ leNat 4 (Map.get (fun _ => 0) s.claimedAt u / 65536 % 2 ^ 32)

/-- The fade weight of a chain, x 32,768 (R107). -/
def State.fadeWeight (s : State) (n : Nat) : Nat :=
  match (s.chain n).fade with
  | none => 0
  | some f => if f.len = 0 then 0 else s.fadeReached n f * 32768 / f.len

/-- The 16 bytes of a log entry (R440). -/
def LogEntry.encode (e : LogEntry) : Bytes :=
  leNat 4 e.seq ++ leNat 6 e.instant ++ leNat 2 e.resets ++ leNat 1 e.cls ++ leNat 1 e.kind ++ leNat 2 e.detail

/-- A 4 KB sector of the log region (R441): its 16-byte header of magic, first sequence and the CRC-32 over 255 entries, then the
entries. What is not programmed yet is erased, the CRC of an open sector and the header's last four bytes among it (DESIGN
CHOICE, notes/assumptions/150.md). -/
def sectorBytes (entries : List LogEntry) : Bytes :=
  let body := entries.flatMap LogEntry.encode
  let crc := if entries.length = 255 then leNat 4 (crcOf 0 body) else List.replicate 4 0xFF
  leNat 4 0x474F4C46 ++ leNat 4 ((entries.head?.map (·.seq)).getD 0) ++ crc ++ List.replicate 4 0xFF ++ body
    ++ List.replicate (4080 - body.length) 0xFF

/-- The sectors of the log region that hold entries (R441), oldest first. -/
def Log.sectors (l : Log) : List Bytes :=
  (List.range ((l.flash.length + 254) / 255)).map fun i => sectorBytes ((l.flash.drop (255 * i)).take 255)

/-- Every log entry held, oldest first (R441). -/
def Log.held (l : Log) : List LogEntry := l.flash ++ l.sram

/-- The oldest sequence held (R441); the next one while nothing is held. -/
def Log.oldest (l : Log) : Nat :=
  match l.held with
  | [] => l.next
  | e :: _ => e.seq

/-- The key-slot information of R420's table: the check is of AES over a zero block for a network key, of SHA-256 for a debug
key. -/
def KeySlot.info (k : KeySlot) : Bytes :=
  match k.type with
  | 1 => [1, k.index] ++ padTo 3 (Config.aesBlock k.key (List.replicate 16 0)) ++ [0, 0, 0]
  | 2 => [2, 0] ++ padTo 3 (Config.sha256 k.key) ++ [0, 0, 0]
  | _ => List.replicate 8 0

/-- A key-store slot. -/
def State.keySlot (s : State) (n : Nat) : KeySlot := Map.get (fun _ => KeySlot.empty) s.flash.keys n

/-- The running bank (R442). -/
def Flash.run (f : Flash) : Bank := if f.running = 0 then f.bankA else f.bankB

/-- The other bank. -/
def Flash.other (f : Flash) : Bank := if f.running = 0 then f.bankB else f.bankA

/-- The other bank replaced. -/
def Flash.setOther (b : Bank) (f : Flash) : Flash := if f.running = 0 then { f with bankB := b } else { f with bankA := b }

/-- The running bank replaced. -/
def Flash.setRun (b : Bank) (f : Flash) : Flash := if f.running = 0 then { f with bankA := b } else { f with bankB := b }

/-- The version that a bank reads (R443). -/
def Bank.shown (b : Bank) : Nat := if b.state = 0 then 0 else b.version

/-- What remains of the trial window in ms (R444). -/
def State.trialLeft (s : State) : Nat :=
  match s.upd.trialFrom with
  | some t => if s.nat 0x750001 = 1 then 60000 - (s.gnomon - t) / msTicks else 0
  | none => 0

/-- The levels of the GPIO balls (R475): an output's is the one it drives, an input's is the board's; in PARKED without the hold
of 0x7700:06 every ball is an input. -/
def State.gpioLevels (s : State) : Nat :=
  let drives := s.mode != .parked || s.nat 0x770006 == 1
  (List.range 8).foldl (fun n i =>
    putBit n i (if drives && bitOf (s.nat 0x770001) i then bitOf (s.nat 0x770002) i else bitOf (Config.ballLevels s.gnomon) i)) 0

/-- What the device measures of its engines, accelerators and paths (R73, R134 to R136): an engine's restarts in the rolling 60 s and
its mean cycle load, an accelerator's busy slots, and a path's level constant, a free value (notes/assumptions/109.md). -/
def State.measurement (s : State) (key : Nat) : Option Bytes :=
  let idx := key / 256
  let sub := key % 256
  if 0x2400 ≤ idx ∧ idx ≤ 0x240B then
    let e := idx - 0x2400
    if sub = 7 then some (leNat 1 (s.recentRestarts e).length)
    else if sub = 8 then some (leNat 1 (s.engine e).load)
    else none
  else if 0x2440 ≤ idx ∧ idx ≤ 0x2447 ∧ sub = 4 then some (leNat 1 (s.accelBusy (idx - 0x2440)))
  else if (idx = 0x3000 ∨ idx = 0x3001) ∧ sub = 0x0F ∧ s.ready then some (leNat 2 (Config.measured key 0))
  else none

/-- Produced values of 0x1000 to 0x2FFF. -/
def State.produced1 (s : State) (key : Nat) : Option Bytes :=
  let idx := key / 256
  let sub := key % 256
  if key = 0x101804 then some (leNat 4 s.otp.serial)
  else if key = 0x102004 then some (leNat 4 (s.nat 0x980006))
  else if key = 0x200001 then some (leNat 8 s.gnomon)
  else if key = 0x200101 then some (leNat 1 (s.launch.filter fun p => p.2.isSome).length)
  else if key = 0x200301 then some (leNat 8 (s.utcAt s.gnomon))
  else if 0x2040 ≤ idx ∧ idx ≤ 0x207F then some (encodeEntry (idx - 0x2040) (s.entry (idx - 0x2040)))
  else if idx = 0x2500 ∧ 1 ≤ sub then
    (findRow key).map fun r => encodeVal r.ty (shmVal s.shm sub)
  else if 0x2560 ≤ idx ∧ idx ≤ 0x2563 ∧ sub = 8 then some (s.capture (idx - 0x2560)).data
  else if 0x2560 ≤ idx ∧ idx ≤ 0x2563 ∧ sub = 9 then some (leNat 4 (s.capture (idx - 0x2560)).valid)
  else none

/-- Produced values of 0x3000 to 0x5FFF. -/
def State.produced3 (s : State) (key : Nat) : Option Bytes :=
  let idx := key / 256
  let sub := key % 256
  if 0x3120 ≤ idx ∧ idx ≤ 0x313F ∧ sub = 6 then some (leNat 2 (s.fadeWeight (idx - 0x3120)))
  else if 0x4220 ≤ idx ∧ idx ≤ 0x422B ∧ sub = 2 then some (leNat 1 (s.fifo (obj idx 1)).recs.length)
  else if 0x4430 ≤ idx ∧ idx ≤ 0x443B ∧ sub = 4 then some (leNat 1 (s.fifo (obj idx 1)).recs.length)
  else if 0x4440 ≤ idx ∧ idx ≤ 0x444B ∧ sub = 1 then some (s.dab (idx - 0x4440)).subTable
  else if 0x4450 ≤ idx ∧ idx ≤ 0x445B ∧ sub = 0x0A then
    some (leNat 4 ((s.fifo (obj idx 9)).recs.foldl (fun n r => n + r.length) 0))
  else if key = 0x428002 then some (leNat 1 s.tmcState)
  else if key = 0x428003 then some (leNat 1 s.tmcSource.1)
  else if key = 0x431002 then some (s.queryResult.getD [])
  else if (idx = 0x4340 ∨ idx = 0x4341) ∧ 1 ≤ sub then some (s.dbEntry (128 * (idx - 0x4340) + sub - 1)).encode
  else if key = 0x48000E then some s.candidateTable
  else if 0x5000 ≤ idx ∧ idx ≤ 0x5003 ∧ 8 ≤ sub ∧ sub ≤ 0x0B then some (leNat 4 (s.pairRead (idx - 0x5000) (sub - 8)))
  else none

/-- Produced values of 0x6000 to 0x6FFF. -/
def State.produced6 (s : State) (key : Nat) : Option Bytes :=
  let idx := key / 256
  let sub := key % 256
  if key = 0x600201 then some (leNat 1 s.calMask)
  else if idx = 0x6023 ∧ (sub = 1 ∨ sub = 2) then some (s.accountBytes sub)
  else if key = 0x603007 then some (leNat 2 s.joiningLeft)
  else if key = 0x60300E then some (leNat 2 s.nodesJoined)
  else if 0x6400 ≤ idx ∧ idx ≤ 0x65FF then some (s.node (idx - 0x6400)).entryBytes
  else if 0x6600 ≤ idx ∧ idx ≤ 0x67FF then some (s.node (idx - 0x6600)).mapBytes
  else if 0x6800 ≤ idx ∧ idx ≤ 0x69FF then
    let n := s.node (idx - 0x6800)
    if sub = 1 then some (leNat 1 n.state)
    else if sub = 2 then some (leNat 2 n.short)
    else if sub = 0x11 then some (padTo 8 n.types)
    else none
  else none

/-- The management flags 0x7400:02: bits 1 and 3 follow the trial (R444) and the tap (R435), the others are kept. -/
def State.mgmtFlags (s : State) : Nat :=
  let short := broadcast s.mode && s.nat 0x731004 == 1 && (s.tapEngine :: s.tapChains).any fun u => s.owner u != 0
  putBit (putBit (s.nat 0x740002) 1 (s.nat 0x750001 == 1)) 3 short

/-- Produced values of 0x7000 to 0x8FFF. -/
def State.produced7 (s : State) (key : Nat) : Option Bytes :=
  let idx := key / 256
  let sub := key % 256
  if key = 0x710004 then
    some (((s.log.held.filter fun e => decide (s.nat 0x710002 ≤ e.seq)).take 256).flatMap LogEntry.encode)
  else if key = 0x710005 then some (leNat 4 s.log.oldest)
  else if key = 0x710006 then some (leNat 4 (s.log.next - 1))
  else if key = 0x720004 then some (leNat 4 s.upd.data.length)
  else if key = 0x720005 then some (leNat 1 s.flash.running)
  else if key = 0x720006 then some (leNat 1 s.flash.bankA.state)
  else if key = 0x720007 then some (leNat 1 s.flash.bankB.state)
  else if key = 0x720008 then some (leNat 4 s.flash.bankA.shown)
  else if key = 0x720009 then some (leNat 4 s.flash.bankB.shown)
  else if key = 0x730001 then some s.ownership
  else if key = 0x740002 then some (leNat 1 s.mgmtFlags)
  else if key = 0x750003 then some (leNat 4 s.trialLeft)
  else if key = 0x770003 then some (leNat 1 s.gpioLevels)
  else if key = 0x800001 then some (leNat 1 s.lifecycle)
  else if idx = 0x8020 ∧ 1 ≤ sub ∧ sub ≤ 4 then some (padTo 32 (nthD s.otp.slotHash (sub - 1) []))
  else if key = 0x802005 then some (leNat 1 s.otp.revoked)
  else if key = 0x802006 then some (leNat 1 s.otp.antiRollback)
  else if key = 0x802007 then some (leNat 2 s.flash.failures)
  else if idx = 0x8110 ∧ 1 ≤ sub ∧ sub ≤ 0x20 then some (s.keySlot (sub - 1)).info
  else none

/-- The value of a subindex that the device produces at the read; none for one that it holds. -/
def State.produced (s : State) (key : Nat) : Option Bytes :=
  let g := key / 0x100000
  if (s.measurement key).isSome then s.measurement key
  else if g < 3 then s.produced1 key
  else if g < 6 then s.produced3 key
  else if g < 7 then s.produced6 key
  else s.produced7 key

/-- The bytes that a subindex reads as (R343, R345), FIFO objects apart. -/
def State.readBytes (s : State) (key : Nat) : Bytes :=
  match findRow key with
  | none => leNat 1 (highSub (key / 256))
  | some row => match s.produced key with
    | some b => b
    | none => encodeVal row.ty (s.val key)

/-! ### FIFO objects (R254, R357, R358) -/

/-- Whether a subindex is one of the rings of R254. -/
def ringKey (key : Nat) : Bool := (0x252000 ≤ key && key ≤ 0x253F00 && key % 256 == 0) || key == 0x254000

/-- Whether a subindex is a FIFO object (R357). -/
def fifoKey (key : Nat) : Bool :=
  let idx := key / 256
  let sub := key % 256
  let within := fun lo n => decide (lo ≤ idx) && decide (idx < lo + n)
  ringKey key || (within 0x4220 12 && sub == 1) || key == 0x428006 || (within 0x4430 12 && sub == 1)
    || (within 0x4450 12 && sub == 9) || (within 0x44A0 12 && sub == 1) || (within 0x4740 12 && sub == 1) || key == 0x604003

/-- The refusal of a ring that is not read by the host (R254). -/
def State.ringClosed (s : State) (key : Nat) : Nat :=
  if key = 0x254000 then refuseIf (s.nat 0x430201 == 0) 0x0804
  else if ringKey key then refuseIf (s.cnat (ck (key / 256 - 0x2520) 0x12) != 0) 0x0804
  else 0

/-- The records that one read of at most `limit` bytes takes: of a ring whole records, oldest first, as many as fit (R254);
of another FIFO the oldest record (R371). None when the oldest record alone is longer. -/
def takeRecords (ring : Bool) (limit : Nat) : List Bytes → Option (Bytes × List Bytes)
  | [] => some ([], [])
  | r :: rs =>
    if limit < r.length then none
    else if ring then match takeRecords ring (limit - r.length) rs with
      | some (b, rest) => some (r ++ b, rest)
      | none => some (r, rs)
    else some (r, rs)

/-- A code for the reader of a FIFO: its host port, or one of its own for the other classes. -/
def readerNo : Requester → Nat
  | .quoin => 1
  | .twoWire => 2
  | .spi => 3
  | .mgmt => 4
  | .node e => 16 + e
  | .debug => 5

/-- A read of a FIFO object that is permitted: consumed with the next read number (R357), or repeated (R358). `beyond` is
the refusal of a record longer than `limit`. -/
def State.readFifo (r : Requester) (key : Nat) (again : Bool) (limit beyond : Nat) (s : State) : State :=
  let f := s.fifo key
  if again then
    if f.last.isEmpty ∨ f.lastPort ≠ readerNo r then s.reply 0x010D []
    else if limit < f.last.length then s.reply beyond []
    else { s with answer := ⟨0, f.last, f.readNo, false⟩ }
  else match takeRecords (ringKey key) limit f.recs with
    | none => s.reply beyond []
    | some (b, rest) =>
      if b.isEmpty then { s with answer := ⟨0, [], f.readNo, false⟩ }
      else
        let n := (f.readNo + 1) % 65536
        let s := s.setFifo key { recs := rest, readNo := n, lastPort := readerNo r, last := b }
        { s with answer := ⟨0, b, n, false⟩ }

/-! ### Reads judged (R349) -/

/-- Whether a RES object, or the capture data with it, is not ready (R253, R355). -/
def State.unready (s : State) (key : Nat) (acc : Acc) : Bool :=
  let idx := key / 256
  if 0x2560 ≤ idx ∧ idx ≤ 0x2563 ∧ (key % 256 = 7 ∨ key % 256 = 8) then s.nat (cap (idx - 0x2560) 6) < 3
  else if key = 0x431002 then false
  else acc == .res && (s.awaiting.contains key || s.resSeq key == 0)

/-- A read judged by checks 1 to 7 and 11 of R349. -/
def State.judgeRead (s : State) (r : Requester) (key : Nat) : Nat :=
  let idx := key / 256
  let early := firstCode [s.check1, check2 key, refuseIf (!s.classRight r key false) 0x0109, s.check4 r key]
  let acc := match findRow key with
    | some row => row.acc
    | none => .ro
  firstCode [early, s.check6 key false acc, s.imageCheck idx, check7r acc, s.ringClosed key,
    refuseIf (key == 0x431002 && s.queryResult.isNone) 0x0E03]

/-- Whether a not-ready result may be returned stale (R355): one that has been issued. -/
def State.staleOk (s : State) (key : Nat) (acc : Acc) : Bool := acc == .res && s.resSeq key != 0

/-- A read of one subindex (R349): answered in `answer`, refused with `beyond` when the value is longer than `limit` bytes.
Only a FIFO object changes. -/
def State.readAs (r : Requester) (key : Nat) (stale again : Bool) (limit beyond : Nat) (s : State) : State :=
  let c := s.judgeRead r key
  if c ≠ 0 then s.reply c []
  else if fifoKey key then (s.readFifo r key again limit beyond).touch r
  else
    let acc := match findRow key with
      | some row => row.acc
      | none => .ro
    let un := s.unready key acc
    if un && !(stale && s.staleOk key acc) then s.reply 0x0101 []
    else
      let b := s.readBytes key
      if limit < b.length then s.reply beyond [] else (({ s with answer := ⟨0, b, 0, un⟩ } : State).touch r)

/-- The most bytes a transfer moves (R374, R393). -/
abbrev transferMax : Nat := 3932160

/-- FIFO_READ (R357): a read of a FIFO object other than the rings. -/
def execFifoRead (by_ : Requester) (index sub limit : Nat) (s : State) : Host.Outcome State Fault Refusal :=
  if fifoKey (obj index sub) && !ringKey (obj index sub) then .next (s.readAs by_ (obj index sub) false false limit 0x1901)
  else .next s

/-- FIFO_REPEAT_READ (R358): the data that the same port consumed last, again. -/
def execFifoRepeatRead (by_ : Requester) (index sub limit : Nat) (s : State) : Host.Outcome State Fault Refusal :=
  if fifoKey (obj index sub) then .next (s.readAs by_ (obj index sub) false true limit 0x1901) else .next s

/-- RING_READ (R254): a read of a chain ring or of the Lantern ring, plain or with repeat. -/
def execRingRead (by_ : Requester) (index limit : Nat) (again : Bool) (s : State) : Host.Outcome State Fault Refusal :=
  if ringKey (obj index 0) then .next (s.readAs by_ (obj index 0) false again limit 0x1901) else .next s

end Sys2Proof.Machine
end

