-- ==== Sys2Proof/Machine/Pdo.lean ====
section
/-!
DEFINITION. Machine/Pdo.lean: Quoin process data (R381 to R383): the mapping, its validation at enable, the frames that fall due
and their place on the bus.
-/
namespace Sys2Proof.Machine

/-! ### Identifiers (R368, R370) -/

/-- The key of a subindex of 0x9000+f. -/
abbrev pk (f sub : Nat) : Nat := obj (0x9000 + f) sub

/-- A frame identifier with its format: bit 31 for 29 bits. -/
def canKey (id : Nat) (ext : Bool) : Nat := id % 2 ^ 29 + (if ext then 2 ^ 31 else 0)

/-- The bit timing of a phase in time quanta of 12.5 ns (R369): the quanta of a bit, the sample point, phase segment 2, which is the
synchronisation jump width too; and whether transmitter delay compensation is on. -/
structure BitTiming where
  quanta : Nat
  sample : Nat
  segment2 : Nat
  compensated : Bool
  deriving DecidableEq, Repr

/-- A phase of N quanta with its sample point in percent. -/
def bitTiming (n percent : Nat) (compensated : Bool) : BitTiming :=
  let at_ := (2 * n * percent + 100) / 200
  ⟨n, at_, n - at_, compensated⟩

/-- The bit timing of the arbitration phase and of the data phase in force (R368, R369). -/
def State.canTiming (s : State) : BitTiming × BitTiming :=
  (bitTiming (nthD [160, 80] (s.cnat 0x104004) 160) (s.cnat 0x104006) false,
    bitTiming (nthD [80, 40, 20, 16] (s.cnat 0x104005) 40) (s.cnat 0x104007) (decide (1 ≤ s.cnat 0x104005)))

/-- The three Quoin identifiers that a node number, a base and a format give (R370). -/
def quoinIdsOf (node base fmt : Nat) : List Nat :=
  [0, 0x40, 0x80].map fun d => canKey (base + d + node) (fmt == 1)

/-- The Quoin identifiers in force: request, response, event. -/
def State.quoinIds (s : State) : List Nat := quoinIdsOf (s.cnat 0x104001) (s.cnat 0x104002) (s.cnat 0x104003)

/-- The Quoin identifiers that an apply would bring. -/
def State.stagedIds (s : State) : List Nat := quoinIdsOf (s.nat 0x104001) (s.nat 0x104002) (s.nat 0x104003)

/-- The identifier of process-data frame f. -/
def State.pdoKey (s : State) (f : Nat) : Nat := canKey (s.nat (pk f 2)) (bitOf (s.nat (pk f 2)) 31)

/-- Whether process-data frame f is enabled. -/
def State.pdoOn (s : State) (f : Nat) : Bool := s.nat (pk f 1) == 1

/-! ### The mapping (R382) -/

/-- The entries of a mapping as keys and lengths. -/
def State.mapping (s : State) (f : Nat) : List (Nat × Nat) :=
  (List.range (min 32 (s.nat (obj (0x9100 + f) 1)))).map fun i =>
    let e := s.nat (obj (0x9100 + f) (i + 2))
    (e / 256, e % 256)

/-- The size of a type that may be mapped (R382); none for STR and DOM. -/
def mapSize : Ty → Option Nat
  | .oct lo hi => if lo = hi then some hi else none
  | t => t.size

/-- Whether a key may be mapped with a length (R382). A FIFO object, which a read would consume, may not (DEDUCED,
notes/assumptions/44.md). -/
def State.mappable (s : State) (key len : Nat) : Bool :=
  indexExists (key / 256) && s.check4 .quoin key == 0 && match findRow key with
  | none => key % 256 == 0 && len == 1
  | some r => !fifoKey key && r.acc != .wo && r.acc != .cmd && mapSize r.ty == some len

/-- The refusal of an enable (R382): the first code that applies. -/
def State.pdoCheck (s : State) (f : Nat) : Nat :=
  let m := s.mapping f
  firstCode [refuseIf (m.isEmpty || m.any fun e => !s.mappable e.1 e.2) 0x1905,
    refuseIf (decide (62 < m.foldl (fun n e => n + e.2) 0)) 0x1906,
    refuseIf (s.quoinIds.contains (s.pdoKey f)
      || (List.range 16).any fun g => g != f && s.pdoOn g && s.pdoKey g == s.pdoKey f) 0x1901]

/-- The valid CAN FD lengths from 8 bytes on. -/
def fdLength (n : Nat) : Nat := (([8, 12, 16, 20, 24, 32, 48, 64].find? fun l => decide (n ≤ l))).getD 64

/-- Whether a mapped object belongs to the mirror. -/
def isMirror (key : Nat) : Bool := 0x680000 ≤ key && key < 0x6A0000

/-- The updates with a non-zero changed mask that each mapped object's node has taken. -/
def State.mirrorSeen (s : State) (f : Nat) : List Nat :=
  (s.mapping f).map fun e => if isMirror e.1 then (s.node (e.1 / 256 - 0x6800)).changes else 0

/-- A frame enabled: its length is committed, and nothing has been sent yet. A frame that is enabled already stays as it
is. -/
def State.enablePdo (f : Nat) (s : State) : State × Nat :=
  if s.pdoOn f then (s, 0)
  else
    let c := s.pdoCheck f
    if c ≠ 0 then (s, c)
    else
      let n := 2 + (s.mapping f).foldl (fun n e => n + e.2) 0
      let s := (s.setNat (pk f 1) 1).setNat (pk f 8) (fdLength n)
      (s.setPdo f { s.pdo f with waiting := none, sent := none, built := none, seen := s.mirrorSeen f, held := false }, 0)

/-- A frame disabled; a frame that waits for the bus is gone. -/
def State.disablePdo (f : Nat) (s : State) : State :=
  (s.setNat (pk f 1) 0).setPdo f { s.pdo f with waiting := none, held := false }

/-! ### Building (R382, R383) -/

/-- A mapped value at its length, and whether it is a RES object that is not ready: that carries its previous result or
zeros. -/
def State.mappedValue (s : State) (key len : Nat) : Bytes × Bool :=
  let un := match findRow key with
    | some r => s.unready key r.acc
    | none => false
  (padTo len (s.readBytes key), un)

/-- Every mapped value in one pass. -/
def State.mappedValues (s : State) (f : Nat) : List Bytes × Bool :=
  let vs := (s.mapping f).map fun e => s.mappedValue e.1 e.2
  (vs.map (·.1), vs.any (·.2))

/-- Whether a mode sends process data (R384). -/
def pdoMode (m : Mode) : Bool := m == .watch || m == .listen || m == .full || m == .safe

/-- Whether the controller can transmit a frame built now (R383, R384, R386): it is up, or asleep in WATCH and woken by a
frame on change. -/
def State.canSend (s : State) (change : Bool) : Bool :=
  let st := s.nat 0x104101
  pdoMode s.mode && (st == 2 || st == 3 || (st == 5 && change))

/-- A frame built now: it waits for the bus, replacing one that waits still; one that cannot be transmitted is skipped. -/
def State.buildPdo (f : Nat) (change : Bool) (s : State) : State :=
  let v := s.mappedValues f
  let p := { s.pdo f with built := some s.gnomon, seen := s.mirrorSeen f, held := false }
  if !s.canSend change then (s.setPdo f p).bump (pk f 7)
  else
    let s := if p.waiting.isSome then s.bump (pk f 7) else s
    s.setPdo f { p with waiting := some (boolNat v.2 + 2 * boolNat change, v.1) }

/-- Whether the trigger of frame f includes the periodic grid, or changes. -/
def State.pdoPeriodic (s : State) (f : Nat) : Bool := s.pdoOn f && s.nat (pk f 3) != 1
def State.pdoOnChange (s : State) (f : Nat) : Bool := s.pdoOn f && s.nat (pk f 3) != 0

/-- Whether a mapped value has changed (R383): a mirror has taken an update since the last build, or another value differs
from the last frame sent; with none sent every value counts (DEDUCED, notes/assumptions/44.md). -/
def State.pdoChanged (s : State) (f : Nat) : Bool :=
  let p := s.pdo f
  let m := s.mapping f
  let others := fun (l : List Bytes) => (m.zip l).filterMap fun x => if isMirror x.1.1 then none else some x.2
  s.mirrorSeen f != p.seen || match p.sent with
    | none => true
    | some v => others (s.mappedValues f).1 != others v

/-- Whether an inhibit runs. -/
def State.pdoInhibited (s : State) (f : Nat) : Bool :=
  match (s.pdo f).built with
  | none => false
  | some t => s.gnomon < t + s.nat (pk f 5) * msTicks

/-- PDO_ENABLE (R382): a write of 1 or 0 to 0x9000+f:01. -/
def execPdoEnable (by_ : Requester) (frame : Nat) (s : State) : Host.Outcome State Fault Refusal :=
  .next (s.request by_ (pk (frame % 16) 1) [1] (State.enablePdo (frame % 16)))

/-- PDO_PERIODIC (R383): at a whole multiple of the period, once. -/
def execPdoPeriodic (frame : Nat) (s : State) : Host.Outcome State Fault Refusal :=
  let f := frame % 16
  .next (if s.ready && pdoMode s.mode && s.pdoPeriodic f && (s.pdo f).built != some s.gnomon && s.gnomon % (s.nat (pk f 4) * msTicks) == 0
    then s.buildPdo f false else s)

/-- PDO_CHANGE (R383): at a 1 ms check that has not built this frame yet; a change inside the inhibit is held until it ends. -/
def execPdoChange (frame : Nat) (s : State) : Host.Outcome State Fault Refusal :=
  let f := frame % 16
  .next (
    if s.ready && pdoMode s.mode && s.pdoOnChange f && (s.pdo f).built != some s.gnomon && s.gnomon % msTicks == 0
        && ((s.pdo f).held || s.pdoChanged f) then
      if s.pdoInhibited f then s.setPdo f { s.pdo f with held := true } else s.buildPdo f true
    else s)

/-- The frames that wait for the bus, by identifier. -/
def State.pdoWaiting (s : State) : List (Nat × Nat) :=
  (List.range 16).filterMap fun f => if (s.pdo f).waiting.isSome then some (s.pdoKey f % 2 ^ 29, f) else none

/-- The frame of least identifier among those that wait. -/
def leastId : List (Nat × Nat) → Option (Nat × Nat)
  | [] => none
  | p :: ps => match leastId ps with
    | some q => if q.1 < p.1 then some q else some p
    | none => some p

/-- A process-data frame transmitted (R382): its counter, its flags, its values. -/
def State.sendPdo (f : Nat) (s : State) : State :=
  let p := s.pdo f
  match p.waiting with
  | none => s
  | some w =>
    let s := s.setPdo f { p with counter := (p.counter + 1) % 256, waiting := none, sent := some w.2 }
    let s := s.setPort 1 { s.port 1 with out := [padTo (s.nat (pk f 8)) ([p.counter, w.1] ++ w.2.flatten)] }
    { s with quoin := { s.quoin with activeAt := s.gnomon } }.bump (pk f 6)

end Sys2Proof.Machine
end

