-- ==== Sys2Proof/Machine/Write.lean ====
section
/-!
DEFINITION. Machine/Write.lean: a write of an RW, RWS or WO subindex: the rules of its own chapter (check 11 of R349), and what
it does. Requests and the load of the persistent store (R351) share it.
-/
namespace Sys2Proof.Machine

/-! ### Rules of the chapters -/

/-- Bits that a value must leave 0 where the chapter names no code (R491), by key. -/
def reservedBits (key : Nat) : Nat :=
  let idx := key / 256
  let sub := key % 256
  if 0x5000 ≤ idx ∧ idx ≤ 0x5003 ∧ sub = 5 then 0xF8
  else if key = 0x980002 then 0xF8
  else if 0x9000 ≤ idx ∧ idx ≤ 0x900F ∧ sub = 2 then 0x60000000
  else 0

/-- Rules of 0x1040, 0x1050 and 0x9000 to 0x91FF (R368, R381, R399). -/
def State.portRule (s : State) (key : Nat) (n : Nat) : Nat :=
  let idx := key / 256
  if key = 0x104002 ∨ key = 0x104003 then
    let base := if key = 0x104002 then n else s.nat 0x104002
    let fmt := if key = 0x104003 then n else s.nat 0x104003
    refuseIf (base % 64 != 0 || decide ((if fmt = 0 then 0x740 else 0x1FFFFF40) < base)) 0x1901
  else if key = 0x105004 then refuseIf (n == s.nat 0x105001) 0x1A01
  else if 0x9000 ≤ idx ∧ idx ≤ 0x900F ∧ key % 256 ≠ 1 then
    firstCode [refuseIf (s.pdoOn (idx - 0x9000)) 0x0804,
      refuseIf (key % 256 == 2 && !bitOf n 31 && decide (0x7FF < n % 2 ^ 29)) 0x1901]
  else if 0x9100 ≤ idx ∧ idx ≤ 0x910F then refuseIf (s.pdoOn (idx - 0x9100)) 0x0804
  else 0

/-- Rules of 0x2002, 0x2008 and the course descriptors (R43, R53, R56, R491). -/
def State.courseRule (s : State) (key : Nat) (n : Nat) : Nat :=
  let idx := key / 256
  if key = 0x200201 then refuseIf (n == 2 && s.gnomonBusy) 0x0906
  else if idx = 0x2008 then s.lockRule (key % 256) n
  else if 0x21C0 ≤ idx ∧ idx ≤ 0x21EF ∧ 0x10 ≤ key % 256 then
    let share := n / 65536 % 256
    refuseIf (decide (2 ^ 24 ≤ n) || (if n / 256 % 256 = 6 then share == 0 || decide (16 < share) else share != 0)) 0x010B
  else 0

/-- Rules of 0x7000 to 0x77FF (R435, R437, R475). A value that the store loads meets no rule about an enabled tap. -/
def State.mgmtRule (s : State) (key : Nat) (v : Int) : Nat :=
  let n := v.toNat
  if key = 0x700005 then refuseIf (decide (s.num 0x700006 < v + 50)) 0x1D01
  else if key = 0x700006 then refuseIf (decide (v < s.num 0x700005 + 50)) 0x1D01
  else if key = 0x700007 then refuseIf (v != 0) 0x1D01
  else if key = 0x731001 ∨ key = 0x731002 ∨ key = 0x731003 ∨ key = 0x731005 then
    let loading := s.mode == .boot || s.mode == .parked
    firstCode [refuseIf (!loading && s.nat 0x731004 == 1) 0x1D01,
      refuseIf ((key == 0x731002 && n == s.nat 0x731003) || (key == 0x731003 && n == s.nat 0x731002)) 0x1D01]
  else if key = 0x770004 then refuseIf ((List.range 8).any fun i => bitOf n i && bitOf (s.nat 0x770005) i) 0x1D01
  else if key = 0x770005 then refuseIf ((List.range 8).any fun i => bitOf n i && bitOf (s.nat 0x770004) i) 0x1D01
  else 0

/-- Rules of 0x8200, 0x8210 and 0x9800 (R365, R427). -/
def accessRule (key : Nat) (n : Nat) (b : Bytes) : Nat :=
  let idx := key / 256
  if idx = 0x8200 then
    let i := n % 65536
    refuseIf (decide (2 ^ 26 ≤ n) || (decide (0x8000 ≤ i) && decide (i ≤ 0x8FFF)) || decide (0xF000 ≤ i)) 0x010B
  else if key = 0x821001 then refuseIf (b.length % 8 != 0) 0x0104
  else if key = 0x980001 then refuseIf (n % 16 != 15 || decide (2 ^ 24 ≤ n)) 0x010B
  else 0

/-- Every rule that a value of an RW, RWS or WO subindex meets (check 11). -/
def State.valueRule (s : State) (key : Nat) (row : Row) (v : Val) (b : Bytes) : Nat :=
  let i := match v with
    | .num i => i
    | .raw _ => 0
  let n := i.toNat
  firstCode [tableRange key row v, refuseIf ((List.range 32).any fun j => bitOf n j && bitOf (reservedBits key) j) 0x010B,
    s.rfRule key i, s.plumbRule key i, chainRule key, s.captureRule key, fmRule s key i, lanternRule key i, s.dabRule key i,
    s.amDrmRule key i, s.followRule key i b, s.gloamingRule key b, s.radioRule key i, s.linkRule key i, s.meshRule key i b,
    s.portRule key n, s.courseRule key n, s.mgmtRule key i, accessRule key n b]

/-! ### Writes that answer at once -/

/-- The history query (R365). -/
def State.historyQuery (q : Nat) (s : State) : State × Nat :=
  if s.nat 0x980006 < q then (s, 0x010B)
  else match s.events.history.find? fun e => e.seq == q with
    | none => (s, 0x0110)
    | some e => ((s.setNat 0x981001 q).issue 0x981002 e.encode, 0)

/-- The log query (R441). -/
def State.logQuery (q : Nat) (s : State) : State × Nat :=
  match s.log.held.find? fun e => e.seq == q with
  | none => (s, 0x1D05)
  | some e => ((s.setNat 0x710002 q).issue 0x710003 e.encode, 0)

/-- The tap enabled or disabled (R435). -/
def State.writeTapEnable (v : Nat) (s : State) : State :=
  let s := s.setNat 0x731004 v
  if v = 1 then s.tapStart
  else s.tapStop (if s.mode = .full then [s.nat 0x731002, s.nat 0x731003, s.tapEngine] else [s.nat 0x731002, s.tapEngine]) 1

/-- A security event without fields (R412, R420). -/
def State.keyEvent (source : Nat) (s : State) : State := s.raise 3 5 source []

/-- A key-slot write (R420): the record, then the rules of the store. -/
def State.writeKeySlot (n : Nat) (b : Bytes) (s : State) : State × Nat :=
  let type := nthD b 0 0
  let index := nthD b 1 0
  let others := s.flash.keys.filter fun p => p.1 != n && p.2.type != 0
  let c := firstCode [refuseIf (type != 1 && type != 2) 0x010B,
    refuseIf (b.length != (if type = 1 then 24 else 72)) 0x0104,
    refuseIf ((sliceB b 2 6).any (· != 0) || (type == 1 && index == 0) || (type == 2 && index != 0)) 0x010B,
    refuseIf ((s.keySlot n).type != 0) 0x1C04,
    refuseIf (type == 1 && others.any fun p => p.2.type == 1 && p.2.index == index) 0x1C04,
    refuseIf (type == 2 && others.any fun p => p.2.type == 2) 0x1C04]
  if c ≠ 0 then (s, c)
  else
    let k : KeySlot := ⟨type, index, b.drop 8⟩
    let s := { s with flash := { s.flash with keys := Map.put (fun _ => KeySlot.empty) s.flash.keys n k } }
    (s.keyEvent 0x8100, 0)

/-- A grant or the service list stored with the key store (R352, R427). -/
def State.storeGrant (key : Nat) (v : Val) (s : State) : State :=
  { s with flash := { s.flash with grants := Map.put dflt s.flash.grants key v } }.setVal key v

/-- The highest of the four temperatures now. -/
def State.hottest (s : State) : Int :=
  [2, 3, 4].foldl (fun m k => max m (s.num (obj 0x7000 k))) (s.num 0x700001)

/-- The levels that a write of 0x7700:02 leaves (R475): a firing that lands on the same tick stands for its bits. -/
def State.gpioWritten (s : State) (n : Nat) : Nat :=
  match s.gpioFired with
  | some (t, mask, levels) =>
    if t = s.gnomon then (List.range 8).foldl (fun n i => if bitOf mask i then putBit n i (bitOf levels i) else n) n else n
  | none => n

/-! ### What a write does -/

/-- The acts of the RW subindices of 0x1000 to 0x3FFF that do more than store; none for the others. -/
def State.act1 (key n : Nat) (v : Val) (i : Int) (s : State) : Option (State × Nat) :=
  let idx := key / 256
  let sub := key % 256
  if key = 0x200201 then some (({ s with tbSync := { s.tbSync with lastEdge := none } } : State).setNat key n, 0)
  else if idx = 0x2008 then some (s.setLockGroup sub n, 0)
  else if 0x2400 ≤ idx ∧ idx ≤ 0x240B ∧ sub = 9 then some (guarded (refuseIf (n != 0) 0x0C06) (State.setNat key 0) s)
  else if 0x2440 ≤ idx ∧ idx ≤ 0x2447 ∧ sub = 5 then some (guarded (refuseIf (n != 0) 0x0C06) (State.setNat key 0) s)
  else if 0x3000 ≤ idx ∧ idx ≤ 0x3001 then
    if sub = 2 then some (s.writeAgcMode (idx - 0x3000) n, 0)
    else if sub = 3 then some (s.writeManualGr (idx - 0x3000) n)
    else if sub = 0x10 then some (s.setNat key (clearWritten 8 (s.nat key) n), 0)
    else some ((s.setVal key v).rfEffect key, 0)
  else if 0x3010 ≤ idx ∧ idx ≤ 0x3011 then some ((s.setVal key v).rfEffect key, 0)
  else if 0x3020 ≤ idx ∧ idx ≤ 0x3021 ∧ sub = 1 then some (s.writePlumbMode (idx - 0x3020) n, 0)
  else if 0x3020 ≤ idx ∧ idx ≤ 0x3021 ∧ sub = 6 then some ((s.setNat key n).rejudgeNulls (idx - 0x3020), 0)
  else if 0x3120 ≤ idx ∧ idx ≤ 0x313F ∧ sub = 2 then some (s.setNat key (clearWritten 16 (s.nat key) n), 0)
  else if 0x3100 ≤ idx ∧ idx ≤ 0x311F ∧ sub = 0x0E then some (s.writeDcFreeze (idx - 0x3100) n, 0)
  else if 0x3160 ≤ idx ∧ idx ≤ 0x317F ∧ sub = 1 then some (s.writeDetectorMode (idx - 0x3160) n, 0)
  else if 0x3160 ≤ idx ∧ idx ≤ 0x317F ∧ (sub = 2 ∨ sub = 3) then some (s.writeDetector (idx - 0x3160) sub i, 0)
  else none

/-- The acts of the RW subindices of 0x4000 to 0x6FFF that do more than store. -/
def State.act4 (key n : Nat) (v : Val) (s : State) : Option (State × Nat) :=
  let idx := key / 256
  let sub := key % 256
  if key = 0x490001 then some (if n = 1 then s.enableGloaming else (if s.blending then s.disableGloaming else s, 0))
  else if 0x490002 ≤ key ∧ key ≤ 0x490004 then some (s.assignSlot (key - 0x490002) n)
  else if 0x4200 ≤ idx ∧ idx ≤ 0x420B ∧ sub = 1 then some (s.writeRdsEnable (idx - 0x4200) n, 0)
  else if 0x5020 ≤ idx ∧ idx ≤ 0x5024 ∧ sub = 0x0E then some (s.setNat key (clearWritten 8 (s.nat key) n), 0)
  else if 0x5000 ≤ idx ∧ idx ≤ 0x5003 ∧ 8 ≤ sub ∧ sub ≤ 0x0B then some (s.writePair (idx - 0x5000) (sub - 8) n)
  else if key = 0x500408 then some (s.writePair 4 0 n)
  else if 0x6020 ≤ idx ∧ idx ≤ 0x6024 then some ((s.setVal key v).linkEffect key, 0)
  else if key = 0x603007 then
    some (({ s with mesh := { s.mesh with joinFrom := s.gnomon } } : State).setNat key n, 0)
  else none

/-- The acts of the RW and WO subindices of 0x7000 to 0x9FFF that do more than store. -/
def State.act7 (key n : Nat) (v : Val) (b : Bytes) (s : State) : Option (State × Nat) :=
  let idx := key / 256
  let sub := key % 256
  if key = 0x700007 then some (s.setNum key s.hottest, 0)
  else if key = 0x70010A then some (s.setNat key (clearWritten 32 (s.nat key) n), 0)
  else if key = 0x710001 then some (s.setNat key (setBit (setBit (setBit n 2) 3) 22), 0)
  else if key = 0x710002 then some (s.logQuery n)
  else if key = 0x731004 then some (s.writeTapEnable n, 0)
  else if key = 0x770002 then some (s.setNat key (s.gpioWritten n), 0)
  else if idx = 0x8100 then some (s.writeKeySlot (sub - 1) b)
  else if idx = 0x8200 ∨ key = 0x821001 then some (s.storeGrant key v, 0)
  else if 0x9000 ≤ idx ∧ idx ≤ 0x900F ∧ sub = 1 then
    some (if n = 1 then s.enablePdo (idx - 0x9000) else (s.disablePdo (idx - 0x9000), 0))
  else if key = 0x981001 then some (s.historyQuery n)
  else none

/-- A write of an RW, RWS or WO subindex whose access and length are right: the rules of its chapter, then its act, or its
value stored. -/
def State.applyWrite (key : Nat) (b : Bytes) (s : State) : State × Nat :=
  match findRow key with
  | none => (s, 0x0105)
  | some row =>
    let v := decodeVal row.ty b
    let i := match v with
      | .num i => i
      | .raw _ => 0
    let n := i.toNat
    let c := s.valueRule key row v b
    if c ≠ 0 then (s, c)
    else
      let r := if key < 0x400000 then s.act1 key n v i else if key < 0x700000 then s.act4 key n v else s.act7 key n v b
      match r with
      | some r => r
      | none => (s.setVal key v, 0)

end Sys2Proof.Machine
end

