-- ==== Sys2Proof/Machine/Management.lean ====
section
/-!
DEFINITION. Machine/Management.lean: the management subsystem (spec/23_management.md): sensors, supplies, clock monitors, the
log, the A/B update with its trial, and the entry to SAFE.
-/
namespace Sys2Proof.Machine

/-! ### Die temperature (R437) -/

/-- The level of a sensor after a reading: thresholds rise at the reading and fall with 2 °C of hysteresis. -/
def levelAfter (warn crit old t : Int) : Nat :=
  if crit ≤ t then 2
  else if old = 2 ∧ crit - 20 ≤ t then 2
  else if warn ≤ t then 1
  else if 1 ≤ old ∧ warn - 20 ≤ t then 1
  else 0

/-- A mean in whole units, a half away from zero (notes/assumptions/124.md). -/
def roundMean (sum : Int) (n : Nat) : Int :=
  if 0 ≤ sum then (2 * sum + n) / (2 * n) else -((2 * -sum + n) / (2 * n))

/-- A reading of die sensor n (1 to 4), in 0.1 °C: published, judged, and handed to what follows the PA's temperature. -/
def State.temperature (n : Nat) (t : Int) (s : State) : State :=
  let s := s.setNum (obj 0x7000 n) t
  let s := s.setNum 0x700007 (max t (s.num 0x700007))
  let s := if n = 4 then s.paTemperature t else s
  let old := nthD s.power.levels (n - 1) 0
  let new := levelAfter (s.num 0x700005) (s.num 0x700006) old t
  if new = old then s
  else
    let levels := setNth s.power.levels (n - 1) new
    let s := { s with power := { s.power with levels := levels } }.setNat 0x740002
      (putBit (s.nat 0x740002) 4 (levels.contains 2))
    s.raise 23 (if new = 0 then 3 else new) 0x7000 [(1, n), (2, t)]

/-- Whether the monitors of R433 and R437 to R439 run: with the management domain (R468). -/
def State.monitored (s : State) : Bool := s.clockRuns .management

/-- Whether the next sample of a sensor or a supply, by the object that publishes it, is due: the period after its last one. -/
def State.sampleDue (s : State) (key period : Nat) : Bool :=
  match s.power.sampledAt.find? fun p => p.1 == key with
  | some p => decide (p.2 + period ≤ s.gnomon)
  | none => true

/-- A sample taken: its instant, which also shows that the firmware serves its watchdog (notes/assumptions/149.md). -/
def State.sampled (key : Nat) (s : State) : State :=
  { s with power := { s.power with
    sampledAt := Map.put (fun _ => 0) s.power.sampledAt key s.gnomon, beat := s.gnomon } }

/-- TEMPERATURE_CROSSING (R437): the next sample of die sensor 1 to 4, one every 100 µs. The mean of the last ten is published and
judged; ten samples in a row at 135 °C or above call for SAFE. -/
def execTemperatureCrossing (sensor : Nat) (sample : Int) (s : State) : Host.Outcome State Fault Refusal :=
  .next (
    if s.monitored && 1 ≤ sensor && sensor ≤ 4 && s.sampleDue (obj 0x7000 sensor) 15360 then
      let last := lastN 10 (Map.get (fun _ => []) s.power.dieSamples sensor ++ [sample])
      let s := { s with power := { s.power with dieSamples := Map.put (fun _ => []) s.power.dieSamples sensor last } }
      let s := s.sampled (obj 0x7000 sensor)
      if last.length < 10 then s
      else
        let t := clampInt (-32768) 32767 (roundMean (last.foldl (· + ·) 0) 10)
        let s := s.temperature sensor t
        if last.all fun x => decide (1350 ≤ x) then s.askSafe 1 sensor t else s
    else s)

/-! ### Supplies (R438) -/

/-- The nominal of monitor m in mV (R438, R476); VDD_PA, monitor 6, has none. -/
def State.nominal (s : State) (m : Nat) : Nat :=
  match m with
  | 1 | 2 => 800
  | 3 => 900
  | 4 | 5 | 7 => 1800
  | 8 => nthD s.power.vddio 0 3300
  | 9 => nthD s.power.vddio 1 3300
  | _ => 0

/-- The warning band (`pct` 5) or the severe band (`pct` 10) of monitor m. -/
def State.band (s : State) (m pct : Nat) : Nat × Nat :=
  if m = 6 then if pct = 5 then (1750, 3700) else (1710, 3780)
  else (s.nominal m * (100 - pct) / 100, s.nominal m * (100 + pct) / 100)

/-- Whether a reading lies outside a band. -/
def outside (b : Nat × Nat) (mv : Nat) : Bool := mv < b.1 || b.2 < mv

/-- What monitor m does about a supply outside its severe band (R438): the rails of the management domain and VDD_AON reset the device
when low; all else calls for SAFE. -/
def State.severe (m mv : Nat) (s : State) : State :=
  let s := s.setNat 0x70010A (setBit (s.nat 0x70010A) (m + 15))
  if (m == 1 || m == 7) && mv < (s.band m 10).1 then s.doReset 3 (m != 7) else s.askSafe 2 m mv

/-- SUPPLY_LEVEL (R438): the next sample of monitor 1 to 9, one every 10 µs. The mean of the last hundred is published; a hundred in a
row outside the warning band are flagged, and ten in a row outside the severe band are flagged and acted on. -/
def execSupplyLevel (monitor sample : Nat) (s : State) : Host.Outcome State Fault Refusal :=
  .next (
    if s.monitored && 1 ≤ monitor && monitor ≤ 9 && s.sampleDue (obj 0x7001 monitor) 1536 then
      let last := lastN 100 (Map.get (fun _ => []) s.power.railSamples monitor ++ [sample])
      let recent := lastN 10 last
      let s := { s with power := { s.power with railSamples := Map.put (fun _ => []) s.power.railSamples monitor last } }
      let s := s.sampled (obj 0x7001 monitor)
      let s := if last.length < 100 then s
        else
          let s := s.setNat (obj 0x7001 monitor) (min 65535 ((2 * last.foldl (· + ·) 0 + 100) / 200))
          if last.all (outside (s.band monitor 5)) then s.setNat 0x70010A (setBit (s.nat 0x70010A) (monitor - 1)) else s
      if recent.length == 10 && recent.all (outside (s.band monitor 10)) then s.severe monitor sample else s
    else s)

/-! ### Clock monitors (R439) -/

/-- Whether the sample clock has been unlocked for more than 10 ms on a path. -/
def State.unlockedLong (s : State) : Bool :=
  [0, 1].any fun p => match (s.path p).unlockedAt with
    | some t => s.nat (obj (0x3000 + p) 1) == 3 && decide (t + 10 * msTicks < s.gnomon)
    | none => false

/-- The unlocks of the sample clock within the last second (R439). -/
def State.unlocksLately (s : State) : Nat :=
  (s.power.unlocks.filter fun t => decide (s.gnomon < t + 1000 * msTicks)).length

/-- CLOCK_MONITOR_FAULT (R439): monitor 1 reference, with no edge for so many nanoseconds; 2 sample-clock PLL, by how long and how
often it has been unlocked; 3 fabric PLL, and 4 CAN PLL, `locked` or not. The CAN PLL only stops Quoin until it locks again. -/
def execClockMonitorFault (monitor quiet : Nat) (locked : Bool) (s : State) : Host.Outcome State Fault Refusal :=
  .next (
    if !s.monitored then s
    else match monitor with
      | 1 => if quiet < 2000 then s else (s.setNat 0x700201 2).askSafe 3 1 0
      | 2 =>
        if 16 < s.unlocksLately ∨ s.unlockedLong then (s.setNat 0x700202 2).askSafe 3 2 s.unlocksLately else s
      | 3 => if locked then s else (s.setNat 0x700203 2).askSafe 3 3 0
      | 4 =>
        if locked then
          if s.nat 0x700204 = 0 then s else (s.setNat 0x700204 0).quoinMode s.mode s.mode
        else if s.nat 0x700204 = 1 then s
        else ((s.setNat 0x700204 1).setNat 0x104101 0).raise 23 1 0x7002 []
      | _ => s)

/-! ### SAFE and the watchdog (R433, R447) -/

/-- SAFE entered by the trigger that waits. -/
def State.takeSafe (s : State) : State :=
  match s.power.safeDue with
  | some c => s.enterSafe c
  | none => s

/-- SAFE_ENTRY (R447): the device goes into SAFE by the trigger that waits. -/
def execSafeEntry (s : State) : Host.Outcome State Fault Refusal := .next s.takeSafe

/-- A trigger has waited for the 100 µs of R447. -/
def State.tickSafe (s : State) : State :=
  match s.power.safeDue with
  | some c => if c.at_ + 15360 ≤ s.gnomon then s.enterSafe c else s
  | none => s

/-- MANAGEMENT_WATCHDOG (R433): 100 ms after the firmware last served it, in every mode but OFF and PARKED. -/
def execManagementWatchdog (s : State) : Host.Outcome State Fault Refusal :=
  .next (if s.monitored ∧ s.power.beat + 100 * msTicks ≤ s.gnomon then s.doReset 4 true else s)

/-! ### The log (R441) -/

/-- Whether the log is due for a flush: 255 entries, or 60 s after the oldest. -/
def State.flushDue (s : State) : Bool :=
  decide (255 ≤ s.log.sram.length) || (!s.log.sram.isEmpty && decide (s.log.oldestAt + 60000 * msTicks ≤ s.gnomon))

/-- LOG_FLUSH (R441): a flush that is due; one that fails raises kind 10 and keeps the entries. -/
def execLogFlush (fails : Bool) (s : State) : Host.Outcome State Fault Refusal :=
  .next (
    if s.monitored && s.flushDue then
      if fails then (s.setNat 0x740002 (setBit (s.nat 0x740002) 2)).raise 23 10 0x7100 [] else s.flushLog
    else s)

/-- LOG_QUERY (R441): a write of 0x7100:02. -/
def execLogQuery (by_ : Requester) (seq : Nat) (s : State) : Host.Outcome State Fault Refusal :=
  .next (s.request by_ 0x710002 (leNat 4 seq) (State.applyWrite 0x710002 (leNat 4 seq)))

/-- TAP_ENABLE_WRITE (R435): a write of 0x7310:04. -/
def execTapEnableWrite (by_ : Requester) (value : Nat) (s : State) : Host.Outcome State Fault Refusal :=
  .next (s.request by_ 0x731004 (leNat 1 value) (State.applyWrite 0x731004 (leNat 1 value)))

/-- GPIO_WRITE (R475): a write of 0x7700:01, :02, :04, :05 or :06. -/
def execGpioWrite (by_ : Requester) (sub value : Nat) (s : State) : Host.Outcome State Fault Refusal :=
  if sub = 1 ∨ sub = 2 ∨ sub = 4 ∨ sub = 5 ∨ sub = 6 then
    .next (s.request by_ (obj 0x7700 sub) (leNat 1 value) (State.applyWrite (obj 0x7700 sub) (leNat 1 value)))
  else .next s

/-! ### The update (R443) -/

/-- The areas of the flash (R442). -/
inductive FlashArea where
  | bankA | bankB | bankControl | store | keys | counters | log
  deriving DecidableEq, Repr

/-- Where an area begins and how many bytes it holds (R442). -/
def FlashArea.place : FlashArea → Nat × Nat
  | .bankA => (0x000000, 0x3C0000)
  | .bankB => (0x3C0000, 0x3C0000)
  | .bankControl => (0x780000, 0x4000)
  | .store => (0x784000, 0x10000)
  | .keys => (0x794000, 0x8000)
  | .counters => (0x79C000, 0x4000)
  | .log => (0x7A0000, 0x60000)

/-- The size of a bank in bytes (R442). -/
abbrev bankSize : Nat := FlashArea.bankB.place.2

/-- The update state changed, with its event. -/
def State.setUpdate (n : Nat) (s : State) : State :=
  if s.nat 0x720002 = n then s else (s.setNat 0x720002 n).raise 23 5 0x7200 []

/-- An update outcome. -/
def State.updateOutcome (code cmd failing : Nat) (s : State) : State :=
  s.issuePaired 0x720003 code (leNat 2 code ++ [cmd % 256, failing, 0, 0] ++ leNat 4 s.upd.data.length
    ++ leNat 4 s.flash.other.shown)

/-- The other bank's state changed. -/
def State.setOtherState (n : Nat) (s : State) : State :=
  { s with flash := s.flash.setOther { s.flash.other with state := n } }

/-- The images that a bank's bytes hold: each on a 4 KB boundary, ended by a header of 256 zero bytes (R442). -/
def imagesOf : Nat → Bytes → List Bytes
  | 0, _ => []
  | fuel + 1, b =>
    let h := b.take 256
    if h.all (· == 0) then []
    else
      let n := 256 + fieldLe h 16 4
      b.take n :: imagesOf fuel (b.drop (roundUp 4096 n))

/-- The hash that a key slot must give: the slot's, or the ROM test key's for slot 0xFF (R416). -/
def Otp.hashOf (o : Otp) (slot : Nat) : Bytes :=
  if slot = 0xFF then o.testKeyHash else nthD o.slotHash slot (List.replicate 32 0)

/-- Whether a key slot is programmed. -/
def Otp.programmed (o : Otp) (slot : Nat) : Bool := slot < 4 && (o.hashOf slot).any (· != 0)

/-- The header of an image taken apart (R415). -/
def imageHeader (b : Bytes) : Image := ⟨fieldLe b 6 2, fieldLe b 8 4, nthD b 12 0, nthD b 13 0, sliceB b 20 32⟩

/-- An image judged under R416: 0, or the code of the first check that fails. -/
def Otp.judgeImage (o : Otp) (b : Bytes) : Nat :=
  let i := imageHeader b
  let key := sliceB b 52 64
  firstCode [
    refuseIf (b.length < 256 || fieldLe b 0 4 != 0x4F534E4C || fieldLe b 4 2 != 1 || i.kind < 1 || 5 < i.kind
      || fieldLe b 14 2 != 0 || (sliceB b 180 76).any (· != 0)) 0x1C05,
    refuseIf (if i.slot = 0xFF then o.lifecycle != 0 else !o.programmed i.slot) 0x1C04,
    refuseIf (Config.sha256 key != o.hashOf i.slot) 0x1C05,
    refuseIf (i.slot != 0xFF && bitOf o.revoked i.slot) 0x1C06,
    refuseIf (!Config.ecdsaVerifies key (sliceB b 116 64) (b.take 116)) 0x1C05,
    refuseIf (Config.sha256 (sliceB b 256 (fieldLe b 16 4)) != sliceB b 20 32) 0x1C05,
    refuseIf (i.security < o.antiRollback) 0x1D04]

/-- The verdict of Finish: the code and the kind of the image that failed (0 none). -/
def Otp.judgeBank (o : Otp) (images : List Bytes) (engines : Bool) : Nat × Nat :=
  match images.find? fun b => o.judgeImage b != 0 with
  | some b => (o.judgeImage b, (imageHeader b).kind)
  | none =>
    match [1, 2, 3, 4, 5].find? fun k => (images.filter fun b => (imageHeader b).kind == k).length != 1 with
    | some k => (0x1D03, k)
    | none => if engines then (0, 0) else (0x1D03, 0)

/-- The largest number of images that Finish looks for: one every 4 KB. -/
abbrev imageFuel : Nat := 960

/-- The update commands of R443: 1 Begin, 2 Finish, 3 Activate, 4 Cancel. For Finish the outcome of the engine images' hashes
and the staged catalogue come with the command, as the layout of the catalogue's payload is not given
(notes/assumptions/47.md). -/
def State.updateCommand (cmd : Nat) (engines : Bool) (catalogue : List Bytes) (s : State) : State :=
  let st := s.nat 0x720002
  match cmd with
  | 1 =>
    if !(st == 0 || st == 4 || st == 5) || s.nat 0x750001 == 1 then s.updateOutcome 0x1D02 cmd 0
    else
      let s := { s with upd := { s.upd with data := [] }, flash := s.flash.setOther ⟨0, 0, [], []⟩ }
      (s.setUpdate 1).updateOutcome 0 cmd 0
  | 2 =>
    if st ≠ 2 then s.updateOutcome 0x1D02 cmd 0
    else
      let images := imagesOf imageFuel s.upd.data
      let v := s.otp.judgeBank images engines
      let s := s.setUpdate 3
      if v.1 ≠ 0 then (s.setUpdate 5).updateOutcome v.1 cmd v.2
      else
        let hs := images.map imageHeader
        let version := ((hs.find? fun i => i.kind == 1).map (·.version)).getD 0
        let s := { s with flash := s.flash.setOther ⟨1, version, hs, catalogue⟩ }
        (s.setUpdate 4).updateOutcome 0 cmd 0
  | 3 =>
    if st ≠ 4 then s.updateOutcome 0x1D02 cmd 0
    else
      let s := s.setOtherState 2
      let s := { s with flash := { s.flash with trial := 1 }, power := { s.power with resetDue := some 5 } }
      s.updateOutcome 0 cmd 0
  | 4 =>
    if st = 0 then s.updateOutcome 0x1D02 cmd 0
    else
      let s := { s with upd := { s.upd with data := [] }, flash := s.flash.setOther ⟨0, 0, [], []⟩ }
      (s.setUpdate 0).updateOutcome 0 cmd 0
  | _ => s.updateOutcome 0x1D01 cmd 0

/-- BEGIN (R443): update command 1. -/
def execUpdateBegin (by_ : Requester) (s : State) : Host.Outcome State Fault Refusal :=
  .next (s.request by_ 0x720001 [1] (accept (State.updateCommand 1 true [])))

/-- ERASE_COMPLETE (R443): the erasure of the inactive bank ends. -/
def execEraseComplete (s : State) : Host.Outcome State Fault Refusal :=
  .next (if s.nat 0x720002 = 1 then s.setUpdate 2 else s)

/-- A chunk (R443): its refusal, or its bytes programmed and read back through CV3 (R410). -/
def State.updateChunk (b : Bytes) (s : State) : State × Nat :=
  let off := fieldLe b 0 4
  let d := b.drop 4
  let got := s.upd.data.length
  if s.nat 0x720002 ≠ 2 then (s, 0x1D02)
  else if got < off then (s, 0x1D01)
  else if off < got then (s, if sliceB s.upd.data off d.length = d then 0 else 0x1D03)
  else if bankSize < off + d.length then (s, 0x1D01)
  else
    let s := (s.cvStream 3 0 d).cvClose 3 0
    ({ s with upd := { s.upd with data := s.upd.data ++ d } }, 0)

/-- CHUNK (R443): a write of 0x7201:01. -/
def execUpdateChunk (by_ : Requester) (data : Bytes) (s : State) : Host.Outcome State Fault Refusal :=
  .next (s.request by_ 0x720101 data (State.updateChunk data))

/-- FINISH (R443): update command 2. -/
def execUpdateFinish (by_ : Requester) (engines : Bool) (catalogue : List Bytes) (s : State) :
    Host.Outcome State Fault Refusal :=
  .next (s.request by_ 0x720001 [2] (accept (State.updateCommand 2 engines catalogue)))

/-- ACTIVATE (R443): update command 3. The reset with cause 5 follows within 100 ms as RESET. -/
def execUpdateActivate (by_ : Requester) (s : State) : Host.Outcome State Fault Refusal :=
  .next (s.request by_ 0x720001 [3] (accept (State.updateCommand 3 true [])))

/-- CANCEL (R443): update command 4. -/
def execUpdateCancel (by_ : Requester) (s : State) : Host.Outcome State Fault Refusal :=
  .next (s.request by_ 0x720001 [4] (accept (State.updateCommand 4 true [])))

/-! ### Trial (R444, R445) -/

/-- Anti-rollback fuses blown in order up to the least security version of the running bank, at most 32 (R444). -/
def State.advanceRollback (s : State) : State :=
  match s.flash.run.images.map (·.security) with
  | [] => s
  | v :: vs =>
    let least := min 32 (vs.foldl min v)
    if least ≤ s.otp.antiRollback then s
    else ({ s with otp := { s.otp with antiRollback := least } } : State).raise 23 9 0x7500 []

/-- The trial confirmed (R444). -/
def State.confirmTrial (s : State) : State :=
  let f := s.flash.setRun { s.flash.run with state := 3 }
  let s := { s with flash := { f with trial := 0 }, upd := { s.upd with trialFrom := none } }.setNat 0x750001 2
  (s.raise 23 6 0x7500 []).advanceRollback

/-- The command object 0x7500:02 (R444), refused outside a running trial. -/
def State.confirmCommand (s : State) : State × Nat := guarded (refuseIf (s.nat 0x750001 != 1) 0x1D02) State.confirmTrial s

/-- CONFIRM (R444): a write of 1 to 0x7500:02. -/
def execUpdateConfirm (by_ : Requester) (s : State) : Host.Outcome State Fault Refusal :=
  .next (s.request by_ 0x750002 [1] State.confirmCommand)

/-- TRIAL_EXPIRY (R445): 60 s after the trial's ready event. -/
def execTrialExpiry (s : State) : Host.Outcome State Fault Refusal :=
  .next (match s.upd.trialFrom with
    | some t => if s.nat 0x750001 = 1 ∧ t + 60000 * msTicks ≤ s.gnomon then s.doReset 6 true else s
    | none => s)

end Sys2Proof.Machine
end

