-- ==== Sys2Proof/Machine/Power.lean ====
section
/-!
DEFINITION. Machine/Power.lean: the power manager (spec/24_power_clocks_reset.md): mode requests and transitions, PARKED and the
wakes from it, WAKE_OUT, reset and bring-up.
-/
namespace Sys2Proof.Machine

/-! ### Requests (R450 to R453) -/

/-- Whether an enabled source of 0x7600:07 can wake the device from PARKED (R465). -/
def State.canWake (s : State) : Bool :=
  let m := s.nat 0x760007
  bitOf m 1 || bitOf m 2 || (bitOf m 0 && s.nat 0x601001 == 1)

/-- The longest time in ticks that a requested transition takes (R451), none where the matrix refuses it. -/
def transitionBound (old new : Mode) : Option Nat :=
  match old, new with
  | .watch, .parked => some 4608000
  | .watch, .listen => some 5836800
  | .watch, .full => some 7680000
  | .watch, .update => some 1536000
  | .listen, .parked => some 5376000
  | .listen, .watch => some 768000
  | .listen, .full => some 1843200
  | .listen, .update => some 1536000
  | .full, .parked => some 5683200
  | .full, .watch => some 1075200
  | .full, .listen => some 307200
  | .full, .update => some 1536000
  | .update, .watch => some 1536000
  | .update, .listen => some 7372800
  | .update, .full => some 9216000
  | _, _ => none

/-- The refusal of a request for a mode (R450 to R453, R465): the first code that applies. -/
def State.modeRefusal (t : Nat) (s : State) : Nat :=
  let m := modeOf t
  firstCode [refuseIf (t < 2 || 6 < t) 0x1E01, refuseIf s.power.transition.isSome 0x1E02,
    if s.mode = m then 0
    else firstCode [refuseIf ((transitionBound s.mode m).isNone || (m == .parked && !s.canWake)) 0x1E01,
      refuseIf (s.mode == .update && (s.nat 0x720002 == 1 || s.nat 0x720002 == 3)) 0x1D02,
      refuseIf (s.barred m) 0x0809]]

/-- A transition begins (R436, R452): host-owned units that the target does not provide are released with the management
core's own, and the paths that the target does not power go down. -/
def State.beginTransition (s : State) : State :=
  match s.power.transition with
  | none => s
  | some t =>
    let s := { s with power := { s.power with transition := some { t with held := false, began := s.gnomon }, pathStep := 0 } }
    let s := (s.setNat 0x760005 2).releaseUnprovided t.target false
    let s := (s.removeUnavailable t.target).tapStep t.old t.target
    let s := if t.target = .full then s else s.pathDown 1
    if broadcast t.target then s else s.pathDown 0

/-- Whether a change removes the mesh radio (R436). -/
def removesRadio (old new : Mode) : Bool := (old == .watch || broadcast old) && (new == .parked || new == .update)

/-- A mode asked for with its trigger (R450 to R453, R436): the outcome at once for a refusal and for the mode in force; else
the transition starts, held while the mesh radio is in use. -/
def State.requestMode (trigger t : Nat) (s : State) : State :=
  let c := s.modeRefusal t
  let old := modeCode s.mode
  if c ≠ 0 ∨ s.mode = modeOf t then
    let waits := s.awaiting.contains 0x760003
    let s := s.modeOutcome c old t trigger
    if waits then s.await 0x760003 else s
  else
    let new := modeOf t
    let s := { s with power := { s.power with transition := some ⟨s.mode, new, trigger, true, s.gnomon⟩, pathStep := 0 } }
    let s := (s.modeEvent 1 old t trigger).await 0x760003
    if removesRadio s.mode new then
      let s := (s.removeEntries 2 fun e => e.kind == 8).unbindFrames
      if s.onAir || s.ackWindow then s.setNat 0x760005 1 else s.beginTransition
    else s.beginTransition

/-- MODE_REQUEST (R451): a write of 0x7600:02. -/
def execModeRequest (by_ : Requester) (target : Nat) (s : State) : Host.Outcome State Fault Refusal :=
  .next (s.request by_ 0x760002 (leNat 1 target) (accept (State.requestMode 1 target)))

/-- TRANSITION_HOLD_END (R436): nothing on air and no acknowledgement window open, or 500 ms gone. -/
def execTransitionHoldEnd (s : State) : Host.Outcome State Fault Refusal :=
  .next (match s.power.transition with
    | some t =>
      if t.held && ((!s.onAir && !s.ackWindow) || decide (t.began + 500 * msTicks ≤ s.gnomon)) then s.beginTransition else s
    | none => s)

/-! ### Powering the paths (R467) -/

/-- The steps of R467 that a transition runs between its start and its end. -/
def pathSteps (old new : Mode) : List Nat :=
  if new == .listen && !broadcast old then [2, 3, 4, 5]
  else if new == .full && !broadcast old then [2, 3, 4, 5, 7, 8]
  else if new == .full && old == .listen then [7, 8]
  else []

/-- Whether every step of R467 that a transition needs is done. -/
def State.pathsReady (s : State) (t : Transition) : Bool :=
  match (pathSteps t.old t.target).getLast? with
  | some n => s.power.pathStep == n
  | none => true

/-- What one step does: the sample clock locked, the path in service, the path-A tap chain claimed. -/
def State.pathStepAct (n : Nat) (s : State) : State :=
  match n with
  | 2 => s.setNat 0x300001 1
  | 4 => s.pathUp 0
  | 5 =>
    let u := s.nat 0x731002
    if s.nat 0x731004 = 1 ∧ s.owner u = 0xFF then s.claimedBy u 0 else s
  | 7 => s.setNat 0x300101 1
  | 8 => s.pathUp 1
  | _ => s

/-- PATH_POWER_UP (R467): the next step of the table, 2 to 5, 7 or 8. -/
def execPathPowerUp (step : Nat) (s : State) : Host.Outcome State Fault Refusal :=
  .next (match s.power.transition with
    | some t =>
      match (pathSteps t.old t.target).find? fun n => decide (s.power.pathStep < n) with
      | some n =>
        if !t.held && n == step then
          { s with power := { s.power with pathStep := n } }.pathStepAct n
        else s
      | none => s
    | none => s)

/-! ### Wakes (R462 to R464) -/

/-- Whether an edge of WAKE_IN is one that 0x7600:08 names. -/
def State.wakeEdge (s : State) (rising : Bool) : Bool :=
  s.nat 0x760008 == 2 || (s.nat 0x760008 == 0) == rising

/-- A wake from PARKED by source 0 Glimmer, 1 WAKE_IN or 2 START: PWR_REQ rises, and the source is recorded. -/
def State.wakeParked (src : Nat) (s : State) : State :=
  if s.power.waking.isSome then s
  else { s with power := { s.power with waking := some src, pwrReq := true, wokeAt := s.power.rtcPeriods } }.setNat 0x76000A (src + 1)

/-- A wake detected: at once in PARKED, held while PARKED is being entered (R465). -/
def State.wake (src : Nat) (s : State) : State :=
  if s.mode = .parked then s.wakeParked src
  else match s.power.transition with
    | some t =>
      if t.target = .parked ∧ s.power.heldWake.isNone then { s with power := { s.power with heldWake := some src } } else s
    | none => s

/-- The least width of a WAKE_IN edge in µs (R462). -/
abbrev wakeWidth : Nat := 10

/-- WAKE (R462): sources detected together, bit 0 a matching Glimmer word, bit 1 an edge of WAKE_IN so many µs wide, bit 2 START; the
first that is enabled counts. -/
def execWake (sources : Nat) (rising : Bool) (micros : Nat) (s : State) : Host.Outcome State Fault Refusal :=
  let m := s.nat 0x760007
  let on := fun i => bitOf sources i && bitOf m i
  .next (
    if on 0 && s.nat 0x601001 == 1 then s.wake 0
    else if on 1 && s.wakeEdge rising && wakeWidth ≤ micros then s.wake 1
    else if on 2 then s.wake 2
    else s)

/-- A WAKE_IN edge in WATCH (R386, R462): the Quoin controller powers up, and the action of 0x7600:09 follows. -/
def State.watchWakeIn (s : State) : State :=
  let s := { s with radio := { s.radio with judged := none } }
  let s := if s.nat 0x104101 = 5 then
      { s with quoin := { s.quoin with activeAt := s.gnomon } }.setNat 0x104101 2 else s
  if s.nat 0x760009 = 0 then s else s.requestMode 4 (s.nat 0x760009 + 3)

/-- WAKE_IN_WATCH (R462): an edge so many µs wide, in WATCH; a transition holds it (R453). -/
def execWakeInWatch (rising : Bool) (micros : Nat) (s : State) : Host.Outcome State Fault Refusal :=
  .next (
    if !s.wakeEdge rising ∨ micros < wakeWidth then s
    else match s.power.transition with
      | some t =>
        if (t.target = .watch ∨ s.mode = .watch) ∧ t.target ≠ .parked ∧ s.power.heldWake.isNone then
          { s with power := { s.power with heldWake := some 1 } }
        else s
      | none => if s.mode = .watch then s.watchWakeIn else s)

/-- A Glimmer word that matched in WATCH (R462, R464). -/
def State.watchMatch (s : State) : State :=
  ({ s with power := { s.power with matched := some s.gnomon } }.setNat 0x76000A 1).raise 4 3 0x7600 [(1, 1)]

/-- What a transition held acts at its end, where it means something in the new mode. -/
def State.releaseWake (s : State) : State :=
  match s.power.heldWake with
  | none => s
  | some src =>
    let s := { s with power := { s.power with heldWake := none } }
    if s.mode = .watch then if src = 1 then s.watchWakeIn else if src = 0 then s.watchMatch else s else s

/-- WAKE_OUT_END (R464): 2 s after WATCH was reached, or after the match. -/
def execWakeOutEnd (s : State) : Host.Outcome State Fault Refusal :=
  let keep := fun (o : Option Nat) => o.filter fun t => decide (s.gnomon < t + 2000 * msTicks)
  .next { s with power := { s.power with left := keep s.power.left, matched := keep s.power.matched } }

/-! ### The end of a transition -/

/-- The end of a transition as the outcome and the mode event tell it (R450, R453). -/
def State.endTransition (t : Transition) (s : State) : State :=
  let s := { s with power := { s.power with transition := none, pathStep := 0 } }.setNat 0x760005 0
  let s := s.modeOutcome 0 (modeCode t.old) (modeCode t.target) t.trigger
  (s.modeEvent 2 (modeCode t.old) (modeCode t.target) t.trigger).bump 0x76000C

/-- TRANSITION_COMPLETE (R451 to R454): the new mode is in force; UPDATE flushes the log (R441). -/
def execTransitionComplete (s : State) : Host.Outcome State Fault Refusal :=
  .next (match s.power.transition with
    | some t =>
      if !t.held && t.target != .parked && s.pathsReady t then
        let s := (s.releaseUnprovided t.target true).removeUnavailable t.target
        let s := s.enterMode t.target
        let s := if t.target = .update then (s.removeEntries 2 fun _ => true).flushLog else s
        (s.endTransition t).releaseWake
      else s
    | none => s)

/-! ### PARKED (R454, R455, R465) -/

/-- What the ports lose in PARKED (R385, R454, R455): queued events, open transfers, kept and unread responses, the frames that
wait for the bus. -/
def State.portsDown (s : State) : State :=
  let s := s.bumpBy 0x980003 s.events.quoinQ.length
  let s := [1, 2, 3, 4].foldl (fun s p => if (s.port p).transfer.isSome then s.bump 0x104104 else s) s
  let down := fun (p : Port) => { Port.init with error := p.error, reset := p.reset }
  let s := [1, 2, 3, 4].foldl (fun s p => s.setPort p (down (s.port p))) s
  let s := (List.range 16).foldl (fun s f => s.setPdo f { s.pdo f with waiting := none, held := false }) s
  { s with events := { s.events with history := [], quoinQ := [], twoWireQ := [], spiQ := [] } }.setNat 0x104101 0

/-- The node table without its retention (R454, R465): identities and counters as at reset. -/
def Node.forgotten (n : Node) : Node :=
  { Node.init with
    ext := n.ext, short := n.short, state := n.state, role := n.role, interval := n.interval, dnode := n.dnode
    listen := n.listen, valueCount := n.valueCount, lastCounter := n.lastCounter }

/-- The mesh core's memory without retention. -/
def State.forgetNodes (s : State) : State :=
  { s with
    mesh := { s.mesh with
      nodes := s.mesh.nodes.filterMap fun p =>
        if p.2.forgotten = Node.init then none else some (p.1, p.2.forgotten)
      seen := [], rx := [], work := [], joins := [] }
    link := { s.link with extCache := [], extPending := [] } }

/-- Every pending counter record written (R465). -/
def State.writeRecords (s : State) : State :=
  let counters := s.mesh.nodes.filterMap fun p =>
    if p.2.state ≠ 0 ∧ p.2.lastCounter ≠ 0 then some (p.1, p.2.lastCounter) else none
  { s with flash := { s.flash with
    frameCounter := max s.flash.frameCounter (s.nat 0x602401), nodeCounters := counters } }

/-- What entry to PARKED releases (R452, R454, R465): units, entries, the ports' frames, the token, the level, a challenge. -/
def State.parkUnits (s : State) : State :=
  let s := (s.releaseUnprovided .parked true).tapStop [s.nat 0x731002, s.nat 0x731003, s.tapEngine] 4
  let s := (s.meshUnits .parked).removeEntries 3 fun _ => true
  let s := (s.portsDown.moveToken 0 5).setLevel 0 0xFF
  let s := { s with sec := { s.sec with challenge := none } }
  { s with events := { s.events with history := [], quoinQ := [], twoWireQ := [], spiQ := [] } }

/-- What entry to PARKED writes to flash and keeps of the node table (R465). -/
def State.parkRecords (s : State) : State :=
  let s := s.flushLog.writeRecords
  if s.nat 0x760006 = 1 then s else s.forgetNodes

/-- The mode PARKED taken: Gnomon is recorded and PWR_REQ falls (R40, R463). -/
def State.parkPower (s : State) : State :=
  let s := ((s.gloamingDown.inMode .parked).targetMode .parked).quoinMode .parked .parked
  let s := (s.refreshAntenna 0).refreshAntenna 1
  let s := { s with awaiting := [], held := [], saving := none }
  { s with power := { s.power with
    gEntry := s.gnomon, rtcPeriods := 0, pwrReq := false, waking := none, left := none, matched := none, heldWake := none,
    safeDue := none, dieSamples := [], railSamples := [], sampledAt := [] } }

/-- PARKED_ENTRY (R465): the entry in its order; a wake that came during it acts at once. -/
def execParkedEntry (s : State) : Host.Outcome State Fault Refusal :=
  .next (match s.power.transition with
    | some t =>
      if !t.held && t.target == .parked then
        let held := s.power.heldWake
        let s := (s.endTransition t).parkUnits.parkRecords.parkPower
        match held with
        | some src => s.wakeParked src
        | none => s
      else s
    | none => s)

/-! ### The persistent store at a start (R351, R352) -/

/-- Objects whose values live outside the store and survive PARKED: Glimmer's settings (R295) and the key store (R352). -/
def keptApart (idx : Nat) : Bool := idx == 0x6010 || idx == 0x8100 || idx == 0x8200 || idx == 0x8210

/-- Whether a subindex holds a value that a start brings back to its default. -/
def startsOver (key : Nat) : Bool :=
  !keptApart (key / 256) && match findRow key with
  | some r => r.acc == .rw || r.acc == .rws || r.acc == .wo
  | none => false

/-- One stored value loaded, judged by checks 9 to 11 as a write of class M; one that fails is counted and told of. -/
def State.loadValue (key : Nat) (v : Val) (s : State) : State :=
  match findRow key with
  | none => s
  | some row =>
    let b := encodeVal row.ty v
    let c := firstCode [refuseIf (!lengthFits row.ty b.length) 0x0104, s.check10 key row.acc]
    let r := if c ≠ 0 then (s, c) else s.applyWrite key b
    if r.2 = 0 then r.1 else (s.bump16 0x110004).raise 1 3 (key / 256) [(1, (key % 256 : Nat)), (2, r.2)]

/-- The store loaded in ascending order; what the Quoin controller starts with is in force (R370). -/
def State.loadStore (s : State) : State :=
  let s := s.flash.store.foldl (fun s p => s.loadValue p.1 p.2) s
  let s := s.commitKeys ((List.range 7).map fun i => 0x104001 + i)
  (s.setNat 0x110003 s.flash.storedSize).setNat 0x110005 s.flash.stores

/-! ### Leaving PARKED (R466) -/

/-- WAKE_FAILURE (R466): the rails are not in band 10 ms, 328 RTC periods, after PWR_REQ rose; it falls, and the failure is counted. -/
def execWakeFailure (s : State) : Host.Outcome State Fault Refusal :=
  .next (
    if s.mode = .parked ∧ s.power.waking.isSome ∧ s.power.wokeAt + 328 ≤ s.power.rtcPeriods then
      { s with power := { s.power with pwrReq := false, waking := none, failedWake := true } }.bump16 0x76000D
    else s)

/-- WATCH reached from PARKED (R462, R464, R466). -/
def State.resumeWatch (src : Nat) (s : State) : State :=
  let asleep := s.twoWire.asleep
  let s := s.writeGnomon (s.power.gEntry + s.power.rtcPeriods * 9375 / 2) 2
  let s := { s with dict := s.dict.filter fun p => !startsOver p.1, committed := [] }
  let s := (s.loadStore).enterMode .watch
  let s := { s with
    twoWire := { s.twoWire with asleep := asleep && src != 2 }
    radio := { s.radio with judged := some s.gnomon }
    power := { s.power with waking := none, left := some s.gnomon, beat := s.gnomon } }
  let s := s.raise 4 3 0x7600 [(1, (src + 1 : Nat))]
  let s := (s.modeEvent 1 2 3 3).endTransition ⟨.parked, .watch, 3, false, s.gnomon⟩
  let s := if s.power.failedWake then
      { s with power := { s.power with failedWake := false } }.raise 4 4 0x7600 [(2, (s.nat 0x76000D : Nat))] else s
  if src = 1 then s.watchWakeIn else s

/-- The kind of the first image re-read at a wake whose hash is not the recorded one (R466), 0 when all four match: management
firmware, mesh core, link sequencer and catalogue, in this order. -/
def ResumeRecord.mismatch (r : ResumeRecord) (hashes : List Bytes) : Nat :=
  match [1, 2, 3, 5].zipIdx.find? fun p => nthD hashes p.2 [] != Map.get (fun _ => []) r.hashes p.1 with
  | some p => p.1
  | none => 0

/-- PARKED_RESUME (R466): the hashes of the four images as re-read, with Gnomon running since the RTC edge that follows the PLLs'
lock, the twelfth after the wake. A mismatch abandons the resume for a bring-up as after a power-on; its mode event is held until
ready. -/
def execParkedResume (hashes : List Bytes) (s : State) : Host.Outcome State Fault Refusal :=
  .next (match s.power.waking with
    | some src =>
      if s.mode ≠ .parked ∨ s.power.rtcPeriods < s.power.wokeAt + 12 then s
      else
        let kind := s.power.resumeRecord.mismatch hashes
        if kind = 0 then s.resumeWatch src
        else
          let s := s.doReset 1 false
          s.holdEvent ⟨0, s.gnomon, 4, 5, 0x7600, packFields 16 [(1, (kind : Nat))]⟩
    | none => s)

/-! ### Reset (R456) -/

/-- RESET (R456): causes 1 power-on, 2 RESET_N held low for so many nanoseconds, at least 1 µs, 3 brown-out and, once it is due, 5 update
activation. `kept` tells that VDD_AON stayed in its band, which keeps the log. Causes 4 and 6 have rows of their own. -/
def execReset (cause nanos : Nat) (kept : Bool) (s : State) : Host.Outcome State Fault Refusal :=
  .next (
    if cause = 1 then s.doReset 1 false
    else if cause = 2 ∧ 1000 ≤ nanos ∨ cause = 3 ∨ (cause = 5 ∧ s.power.resetDue = some 5) then s.doReset cause kept
    else s)

/-! ### Bring-up (R457 to R460) -/

/-- Whether a bank can be started: it holds images, they verify (`good`), and OTP admits their versions and signers (R416). -/
def Otp.fits (o : Otp) (b : Bank) (good : Bool) : Bool :=
  good && b.state != 0 && b.images.all fun i =>
    decide (o.antiRollback ≤ i.security) && (if i.slot = 0xFF then o.lifecycle == 0 else o.programmed i.slot && !bitOf o.revoked i.slot)

/-- Which bank starts (R444 to R446), with its events; the flag tells whether any does. -/
def State.chooseBank (goodA goodB : Bool) (s : State) : State × Bool :=
  let fit := fun (s : State) (run : Bool) =>
    let a := (s.flash.running == 0) == run
    s.otp.fits (if a then s.flash.bankA else s.flash.bankB) (if a then goodA else goodB)
  let swap := fun (s : State) => { s with flash := { s.flash with running := 1 - s.flash.running } }
  let reverted := fun (s : State) =>
    ({ s with flash := { s.flash with trial := 0 } }.setNat 0x750001 3).raise 23 7 0x7500 []
  if s.flash.trial = 1 ∧ fit s false then
    let s := swap s
    ({ s with flash := { s.flash with trial := 2 } }.setNat 0x750001 1, true)
  else
    let s := if s.flash.trial = 1 then reverted { s with flash := s.flash.setOther { s.flash.other with state := 4 } }
      else if s.flash.trial = 3 then reverted s else s
    if fit s true then (s, true)
    else if fit s false then ((swap s).raise 23 8 0x7500 [], true)
    else (s, false)

/-- A node restored from flash (R325): its identity, and the stored counter plus 1,024. -/
def restoredNode (b : Bytes) (counter : Nat) : Node :=
  { Node.init with
    ext := fieldLe b 0 8, short := fieldLe b 8 2, state := nthD b 10 0, role := nthD b 11 0, interval := nthD b 12 0
    dnode := nthD b 13 0, listen := nthD b 14 0, valueCount := nthD b 15 0, lastCounter := min 0xFFFFFFFF (counter + 1024) }

/-- What OTP gives at bring-up (R412, R413, R430): the extended address, the factory region, the level. -/
def State.restoreOtp (s : State) : State :=
  let s := s.otp.factory.foldl (fun s p => s.setVal p.1 p.2) s
  s.setAll [(0x602003, s.otp.extAddr), (0x830001, if s.lifecycle = 0 then 2 else 0), (0x830002, 0xFF)]

/-- What flash gives at bring-up (R128, R305, R324, R325, R352): the records, the grants, the catalogue, the nodes. -/
def State.restoreFlash (s : State) : State :=
  let f := s.flash
  let entries := f.run.catalogue.take 16
  let s := s.setAll [(0x602401, f.frameCounter), (0x248001, (entries.filter fun e => bitOf (nthD e 9 0) 0).length), (0x248002, f.running)]
  let s := entries.zipIdx.foldl (fun s p => s.setBytes (obj (0x2481 + p.2) 0) p.1) s
  let s := f.grants.foldl (fun s p => s.setVal p.1 p.2) s
  { s with mesh := { s.mesh with
    nodes := f.nodes.map fun p => (p.1, restoredNode p.2 (Map.get (fun _ => 0) f.nodeCounters p.1)) } }

/-- The sensors and supplies measured during bring-up (R351, R437, R438); the VDDIO nominals follow the levels found. -/
def State.measure (temps : List Int) (supplies : List Nat) (s : State) : State :=
  let io := fun i => if nthD supplies i 3300 < 2500 then 1800 else 3300
  let s := { s with power := { s.power with vddio := [io 7, io 8] } }.setNum 0x700007 (-32768)
  let s := temps.zipIdx.foldl (fun s p => if p.2 < 4 then s.temperature (p.2 + 1) p.1 else s) s
  supplies.zipIdx.foldl (fun s p => if p.2 < 9 then s.setNat (obj 0x7001 (p.2 + 1)) (min p.1 65535) else s) s

/-- The resume record written (R457, R466): the running bank and the SHA-256 of its five images. -/
def State.recordResume (s : State) : State :=
  { s with power := { s.power with
    resumeRecord := ⟨s.flash.running, (s.flash.run.images.filter fun i => 1 ≤ i.kind && i.kind ≤ 5).map fun i => (i.kind, i.hash)⟩ } }

/-- The ready event with sequence 1, then the events held, in order (R364); the reset cause is logged (R440, R449), and the antenna
supplies are driven as the mode has them (R78). -/
def State.becomeReady (cause : Nat) (s : State) : State :=
  let held := s.events.held
  let missed := s.events.uncounted
  let s := { s with ready := true, events := { s.events with held := [], uncounted := 0 } }.setNat 0x102006 s.gnomon
  let s := (s.raise 1 1 0 [(1, cause), (4, s.nat 0x102005), (2, missed)]).appendLog 23 12 cause
  let s := held.foldl (fun s e =>
    (if e.cls = 4 ∧ e.kind = 5 then s.appendLog 4 5 e.src else s).issueEvent e) s
  let s := [2, 3, 4].foldl (fun s p => s.setPort p { s.port p with reset := true }) s
  let s := (s.refreshAntenna 0).refreshAntenna 1
  let s := { s with power := { s.power with beat := s.gnomon } }
  { s with quoin := { s.quoin with activeAt := s.gnomon }, upd := { s.upd with
    trialFrom := if s.nat 0x750001 = 1 then some s.gnomon else none } }

/-- The mode that BOOT ends in (R460), entered with no event raised or logged (R364). -/
def State.startIn (m : Mode) (s : State) : State :=
  let t := s.enterMode m
  { t with events := s.events, log := s.log }

/-- Steps 1 to 7 of R457: what the levels, OTP, flash and the sensors give, the resume record, the fuses that a confirmation left to
blow (R446), and the store in force. Where no bank can start, the boot
ROM serves UPDATE at once (R417, R458). -/
def State.bringUpEarly (gpio2 gpio3 goodA goodB : Bool) (temps : List Int) (supplies : List Nat) (s : State) : State :=
  let n := (s.flash.resetCount + 1) % 2 ^ 32
  let s := { s with flash := { s.flash with resetCount := n } }
  let s := s.setAll [(0x105001, if gpio2 then 0x3B else 0x3A), (0x76000E, boolNat gpio3), (0x102005, n)]
  let r := if gpio3 then (s, false) else s.chooseBank goodA goodB
  let s := r.1.restoreOtp.measure temps supplies
  if r.2 then
    let s := s.flushLog.restoreFlash.recordResume
    let s := if s.flash.run.state = 3 ∧ s.flash.trial ≠ 2 then s.advanceRollback else s
    { s with power := { s.power with bootStep := 7 } }.loadStore
  else (s.startIn .update).becomeReady (if gpio3 then s.power.resetCause else 7)

/-- Steps 8 to 10 of R457: the cores and the start mode's domains, then the ready event. -/
def State.bringUpLate (s : State) : State := (s.startIn (modeOf (s.nat 0x760004))).becomeReady s.power.resetCause

/-- BRING_UP (R457 to R460): from the levels of GPIO2 and GPIO3, whether each bank's images verify, and what the sensors and
supplies read. The first one takes BOOT to the end of step 7, where CLK_OUT may start (R490); the second takes it to the ready
event. -/
def execBringUp (gpio2 gpio3 goodA goodB : Bool) (temps : List Int) (supplies : List Nat) (s : State) :
    Host.Outcome State Fault Refusal :=
  .next (
    if s.mode ≠ .boot ∨ s.ready then s
    else if s.power.bootStep = 0 then s.bringUpEarly gpio2 gpio3 goodA goodB temps supplies
    else s.bringUpLate)

end Sys2Proof.Machine
end

