-- ==== Sys2Proof/Machine/Security.lean ====
section
/-!
DEFINITION. Machine/Security.lean: lifecycle steps, authorisation, the key store, access violations and the TAP
(spec/22_security_debug.md), the frames of DBG_ACCESS apart.
-/
namespace Sys2Proof.Machine

/-! ### Lifecycle (R414) -/

/-- A security outcome (R418): command 1 step to SECURED, 3 step to RETURNED, 4 revoke. -/
def State.securityOutcome (code cmd : Nat) (s : State) : State :=
  s.issuePaired 0x800003 code (leNat 2 code ++ [cmd % 256, 0, 0, 0])

/-- Whether a slot is programmed and not revoked. -/
def Otp.usable (o : Otp) (slot : Nat) : Bool := o.programmed slot && !bitOf o.revoked slot

/-- The step from BLANK to SECURED (R414). -/
def State.stepToSecured (v : Nat) (s : State) : State :=
  let c := firstCode [refuseIf (v != 1) 0x010B, refuseIf (s.lifecycle != 0) 0x1C02,
    refuseIf (!(List.range 4).any s.otp.usable) 0x1C04]
  if c ≠ 0 then s.securityOutcome c 1
  else
    let s := { s with otp := { s.otp with securedFuses := 8 } }.setLevel 0 0xFF
    (s.raise 3 3 0x8000 []).securityOutcome 0 1

/-- STEP_TO_SECURED (R414): a write of 1 to 0x8000:02. -/
def execStepToSecured (by_ : Requester) (s : State) : Host.Outcome State Fault Refusal :=
  .next (s.request by_ 0x800002 [1] (accept (State.stepToSecured 1)))

/-- The step from SECURED to RETURNED (R414): keys, grants and frame-counter records erased, then the fuses. -/
def State.stepToReturned (s : State) : State :=
  let grants := s.flash.grants.map (·.1)
  let s := { s with
    flash := { s.flash with keys := [], grants := [], frameCounter := 0, nodeCounters := [] }
    otp := { s.otp with returnedFuses := 8 } }
  ((s.clearKeys grants).setLevel 0 0xFF).raise 3 3 0x8000 []

/-! ### Challenges (R421, R422) -/

/-- Whether a new challenge is refused for its wait: 1 s after a failure, 600 s once there are 8. -/
def State.challengeWait (s : State) : Bool :=
  match s.flash.waitUntil with
  | some t => decide (s.gnomon < t)
  | none => false

/-- A new challenge, which replaces any outstanding one; its nonce is free (notes/assumptions/3.md). -/
def State.newChallenge (s : State) : State × Bytes :=
  let b := leNat 4 0x2460 ++ leNat 4 s.otp.serial ++ leNat 4 (s.nat 0x102005) ++ [s.lifecycle, s.debugLevel, 0, 0]
    ++ padTo 32 (Config.nonce s.freeCtr)
  ({ s with freeCtr := s.freeCtr + 1, sec := { s.sec with challenge := some ⟨b, s.gnomon⟩ } }, b)

/-- A challenge asked for by the dictionary. -/
def State.requestChallenge (s : State) : State × Nat :=
  if s.challengeWait then (s, 0x1C03)
  else
    let r := s.newChallenge
    (r.1.issuePaired 0x800102 0 r.2, 0)

/-- CHALLENGE_REQUEST (R421): a write of 1 to 0x8001:01. -/
def execChallengeRequest (by_ : Requester) (s : State) : Host.Outcome State Fault Refusal :=
  .next (s.request by_ 0x800101 [1] State.requestChallenge)

/-- The life of a challenge: 60 s. -/
abbrev challengeTicks : Nat := 9216000000

/-- CHALLENGE_EXPIRY (R421). -/
def execChallengeExpiry (s : State) : Host.Outcome State Fault Refusal :=
  .next (match s.sec.challenge with
    | some c => if c.at_ + challengeTicks ≤ s.gnomon then { s with sec := { s.sec with challenge := none } } else s
    | none => s)

/-- Whether a signer is accepted for a purpose in a lifecycle (R421); `arg` is the slot to revoke. -/
def signerOk (lifecycle purpose signer arg : Nat) : Bool :=
  match purpose with
  | 1 | 2 => (signer == 0 && lifecycle == 1) || (1 ≤ signer && signer ≤ 4 && 1 ≤ lifecycle) || (signer == 5 && lifecycle == 0)
  | 3 => 1 ≤ signer && signer ≤ 4
  | 4 => (1 ≤ signer && signer ≤ 4 && signer != arg + 1) || (signer == 5 && lifecycle == 0)
  | _ => false

/-- The customer debug key, if one is stored (R419). -/
def State.debugKey (s : State) : Option Bytes := (s.flash.keys.find? fun p => p.2.type == 2).map (·.2.key)

/-- A response judged under R422 for the purposes that its carrier takes. Use of the debug key is key use (R419, R432); a reserved
byte or an argument out of place is 0x010B (R491; notes/assumptions/48.md). -/
def State.judgeResponse (s : State) (purposes : List Nat) (b : Bytes) : Nat :=
  let purpose := nthD b 0 0
  let signer := nthD b 1 0
  let arg := nthD b 2 0
  let slot := signer - 1
  let key := sliceB b 4 64
  match s.sec.challenge with
  | none => 0x1C03
  | some c =>
    firstCode [refuseIf (decide (c.at_ + challengeTicks ≤ s.gnomon)) 0x1C03,
      refuseIf (nthD b 3 0 != 0 || (purpose != 4 && arg != 0) || (purpose == 4 && 3 < arg)
        || (signer == 0 && key.any (· != 0))) 0x010B,
      refuseIf (!purposes.contains purpose || !signerOk s.lifecycle purpose signer arg) 0x1C04,
      refuseIf (1 ≤ signer && signer ≤ 4 && bitOf s.otp.revoked slot) 0x1C06,
      refuseIf (signer == 0 && !s.keyUse) 0x1C01,
      if signer = 0 then refuseIf s.debugKey.isNone 0x1C05
      else refuseIf (Config.sha256 key != s.otp.hashOf (if signer = 5 then 0xFF else slot)) 0x1C05,
      refuseIf (!Config.ecdsaVerifies (if signer = 0 then s.debugKey.getD [] else key) (sliceB b 68 64) (c.body ++ b.take 68))
        0x1C05]

/-- A response consumed with its verdict (R421, R422): the count of failures, its event, the wait. -/
def State.settleResponse (code : Nat) (s : State) : State :=
  let s := { s with sec := { s.sec with challenge := none } }
  if code = 0 then { s with flash := { s.flash with failures := 0, waitUntil := none } }
  else
    let n := min 65535 (s.flash.failures + 1)
    let t := s.gnomon + (if 8 ≤ n then 600000 else 1000) * msTicks
    ({ s with flash := { s.flash with failures := n, waitUntil := some t } } : State).raise 3 4 0x8001 []

/-- A slot revoked (R418): the refusal, or the fuse blown. -/
def State.revokeSlot (slot : Nat) (s : State) : State × Nat :=
  let left := (List.range 4).any fun i => i != slot && s.otp.usable i
  let ours := s.flash.run.images.any fun i => i.kind == 1 && i.slot == slot
  if !left || ours then (s, 0x1C04) else ({ s with otp := { s.otp with revoked := setBit s.otp.revoked slot } }, 0)

/-- An authorised command (R418): judged, consumed, acted on, and its outcome issued. -/
def State.authorised (b : Bytes) (s : State) : State :=
  let c := s.judgeResponse [3, 4] b
  let purpose := nthD b 0 0
  let s := s.settleResponse c
  if c ≠ 0 then s.securityOutcome c purpose
  else if purpose = 4 then
    let r := s.revokeSlot (nthD b 2 0)
    r.1.securityOutcome r.2 4
  else if s.lifecycle ≠ 1 then s.securityOutcome 0x1C02 3
  else s.stepToReturned.securityOutcome 0 3

/-- A write of 0x8002:01. -/
def State.writeAuthorised (r : Requester) (b : Bytes) (s : State) : State :=
  s.request r 0x800201 b (accept (State.authorised b))

/-- STEP_TO_RETURNED (R414, R418): an authorisation response of purpose 3, its other 131 bytes given. -/
def execStepToReturned (by_ : Requester) (rest : Bytes) (s : State) : Host.Outcome State Fault Refusal :=
  .next (s.writeAuthorised by_ (3 :: rest))

/-- REVOKE_SLOT (R418): an authorisation response of purpose 4. -/
def execRevokeSlot (by_ : Requester) (rest : Bytes) (s : State) : Host.Outcome State Fault Refusal :=
  .next (s.writeAuthorised by_ (4 :: rest))

/-! ### Key store and level (R420, R430) -/

/-- KEY_SLOT_WRITE (R420): a write of 0x8100, slot 0 to 31. -/
def execKeySlotWrite (by_ : Requester) (slot : Nat) (data : Bytes) (s : State) : Host.Outcome State Fault Refusal :=
  let key := obj 0x8100 (slot % 32 + 1)
  .next (s.request by_ key data (State.applyWrite key data))

/-- A slot erased (R420); refused while its index is named for sending. -/
def State.eraseSlot (n : Nat) (s : State) : State × Nat :=
  let k := s.keySlot n
  if k.type = 1 ∧ (k.index = s.nat 0x602402 ∨ k.index = s.nat 0x602403) then (s, 0x1C04)
  else (({ s with flash := { s.flash with keys := s.flash.keys.erase n } } : State).keyEvent 0x8120, 0)

/-- KEY_SLOT_ERASE (R420): a write of 0x8120:01. -/
def execKeySlotErase (by_ : Requester) (slot : Nat) (s : State) : Host.Outcome State Fault Refusal :=
  .next (s.request by_ 0x812001 (leNat 1 slot) (State.eraseSlot slot))

/-- The level lowered (R430): a value above the level in force is refused. The signer stands while a level above CLOSED does. -/
def State.lowerLevel (v : Nat) (s : State) : State × Nat :=
  if s.debugLevel < v then (s, 0x010B) else (s.setLevel v (if v = 0 then 0xFF else s.nat 0x830002), 0)

/-- LOWER_LEVEL (R430): a write of 0x8300:03. -/
def execLowerLevel (by_ : Requester) (level : Nat) (s : State) : Host.Outcome State Fault Refusal :=
  .next (s.request by_ 0x830003 (leNat 1 level) (State.lowerLevel level))

/-! ### Access violations (R426) -/

/-- The rights as bits (R426): R, W, X and K. -/
abbrev rightR : Nat := 1
abbrev rightW : Nat := 2
abbrev rightX : Nat := 4
abbrev rightK : Nat := 8

/-- The engines that decode the output of a receiver engine: those loaded with an image, whose source object names it. -/
def State.decodersOf (s : State) (image table e : Nat) : List Nat :=
  (List.range 12).filter fun m => s.loadedWith m image && s.cnat (obj (table + m) 1) == 0x200 + e

/-- The master IDs of engines. -/
def engineMasters (es : List Nat) : List Nat := es.map (3 + ·)

/-- The masters that produce into a buffer and those that consume from it, by its kind (R243, R425); the host bridges read what a
dictionary object exposes. The 64 KB buffer of a DRM receiver is its data FIFO. -/
def State.bufferMasters (s : State) (a : Alloc) : List Nat × List Nat :=
  let e := a.owner % 256
  let host := [16, 17, 18]
  let pair := (s.dabMembers (s.parent a.owner)).map (· % 256)
  match a.kind with
  | 1 => (engineMasters pair, [])
  | 2 => (engineMasters [e], [])
  | 3 => (engineMasters pair, engineMasters (s.decodersOf 0x0201 0x4480 e))
  | 4 => (engineMasters pair, host)
  | 5 => (engineMasters [e], if a.size = 65536 then host else engineMasters (s.decodersOf 0x0202 0x4780 e))
  | 6 => (engineMasters [e], [15])
  | 7 => (engineMasters [e], host)
  | 8 => ([], host)
  | 9 => ([20], host)
  | 10 => ([15], [])
  | _ => ([], host)

/-- The rights on an address of shared memory (R425): those of its buffer, the audio engine's own areas of the blend pool (R242), and
outside every buffer the management core alone. -/
def State.sharedRights (s : State) (master address : Nat) : Nat :=
  if master = 0 then rightR + rightW
  else if (0x100000 ≤ address ∧ address < 0x344800) ∨ (0x345000 ≤ address ∧ address < 0x380000) then
    if master = 15 then rightR + rightW else 0
  else match s.shm.find? fun a => a.base ≤ address && decide (address < a.base + a.size) with
    | none => 0
    | some a =>
      let m := s.bufferMasters a
      if m.1.contains master then rightR + rightW else if m.2.contains master then rightR else 0

/-- Whether an engine's memory is being loaded or zeroed (R129, R136, R424). -/
def State.filling (s : State) (e : Nat) : Bool := s.loads.contains e || (s.engine e).zeroing

/-- Whether an OTP address lies in the hardware unique key (R412). -/
def hukAddress (address : Nat) : Bool := 0xA9 ≤ address && address < 0xB9

/-- The access tables (R424): the rights of a master on a target, by its record code, at an address. -/
def State.tableRights (s : State) (master target address : Nat) : Nat :=
  match target, master with
  | 0, 0 => rightR + rightX
  | 1, 0 => rightR + rightW + rightX
  | 1, 19 => if s.debugLevel = 2 then rightR + rightW else 0
  | 2, 0 => if hukAddress address then 0 else rightR + (if s.lifecycle = 0 then rightW else 0)
  | 3, 0 => rightW + rightK
  | 3, 2 => rightK
  | 4, 0 => rightR + rightW
  | 5, 1 => rightR + rightW + rightX
  | 5, 2 => if Config.linkWindow ≤ address ∧ address < Config.linkWindow + 32768 then rightR + rightW else 0
  | 5, 0 => rightR + rightW
  | 6, 15 => rightR + rightW + rightX
  | 6, 22 => if Config.portBuffers.1 ≤ address ∧ address < Config.portBuffers.2 then rightR else 0
  | 6, 0 => rightR + rightW
  | 7, 20 => rightR + rightW
  | 7, 0 => rightR
  | 8, 0 => rightW
  | 9, m => s.sharedRights m address
  | t, m =>
    if 0x10 ≤ t ∧ t < 0x1C then
      if m = t - 0x10 + 3 then rightR + rightW + rightX
      else if m = 0 then rightR + (if s.filling (t - 0x10) then rightW else 0)
      else 0
    else 0

/-- Whether a master holds every right that it attempts (R424): at debug level FULL the debug port also reads every target but the key
store and the hardware unique key. -/
def State.permits (s : State) (master target right address : Nat) : Bool :=
  let held := s.tableRights master target address
  let debug := master == 19 && s.debugLevel == 2 && target != 3 && !(target == 2 && hukAddress address)
  right &&& (held ||| (if debug then rightR else 0)) == right

/-- A violation handled (R426): the count, the record, the log and the event, then the engine's fault, or SAFE at the fourth within
1 s. The read returns zero, the write is ignored. -/
def State.violation (master target right region address : Nat) (s : State) : State :=
  let record := [master, target % 256, right % 16, region % 256] ++ leNat 4 address ++ leNat 8 s.gnomon
  let s := (s.bump (obj 0x8040 (master + 1))).setBytes 0x804101 record
  let s := (s.appendLog 3 1 (master * 256 + target % 256)).tell 3 1 0x8041 []
  if 3 ≤ master ∧ master ≤ 14 then
    if s.engineLive (master - 3) then s.faultEngine (master - 3) 0x0203 else s
  else if master = 0 ∨ master = 19 then s
  else
    let recent := s.sec.violations.filter fun v => decide (s.gnomon < v.2 + 1000 * msTicks)
    let s := { s with sec := { s.sec with violations := recent ++ [(master, s.gnomon)] } }
    if 3 ≤ (recent.filter fun v => v.1 == master).length then s.askSafe 4 master 4 else s

/-- ACCESS_VIOLATION (R424 to R426): a master attempts a right on a target at an address. Where its table grants the right the access
is no violation and changes nothing here. -/
def execAccessViolation (master target right region address : Nat) (s : State) : Host.Outcome State Fault Refusal :=
  .next (s.actAndHold fun s =>
    if !s.monitored ∨ 23 < master ∨ s.permits master target (right % 16) address then s
    else s.violation master (target % 256) right region address)

/-- The first region, of some that a job takes a right on, that the submitting engine does not hold (R133, R425), by its first and last
address. -/
def State.ungranted (s : State) (engine right : Nat) (regions : List (Nat × Nat)) : Option Nat :=
  (regions.find? fun r => !(s.permits (3 + engine) 9 right r.1 && s.permits (3 + engine) 9 right (r.1 + r.2 - 1))).map (·.1)

/-- The course on whose shares a job of an engine runs, where the accelerator is the one that its image finds (R132). -/
def State.jobHolder (s : State) (accel engine : Nat) (kind : JobKind) : Option Nat :=
  match s.findAccel kind.unit 9 (s.parent (0x200 + engine)) with
  | some m => if m.2.1 = 0x600 + accel then some m.1 else none
  | none => none

/-- ACCELERATOR_JOB_SUBMIT (R132 to R134, R425): a RUNNING engine's job, within the limits of its kind, joins the queue of the RUNNING
accelerator that its image uses. The regions that it reads and writes, each a base and a length, are checked with the rights of the
engine; where one is not granted it is a violation by the accelerators, and the job runs without it. -/
def execAcceleratorJobSubmit (accel engine : Nat) (kind : JobKind) (reads writes : List (Nat × Nat)) (s : State) :
    Host.Outcome State Fault Refusal :=
  .next <|
    match s.jobHolder accel engine kind with
    | none => s
    | some holder =>
      if accel < 8 ∧ engine < 12 ∧ s.ustate (0x600 + accel) = 2 ∧ s.ustate (0x200 + engine) = 2 ∧ kind.fits then
        let s := (s.sign engine).setAccel accel { s.accel accel with
          jobs := (s.accel accel).jobs ++ [⟨engine, holder, s.gnomon, kind.ticks, 0⟩] }
        let s := match s.ungranted engine rightR reads with
          | some a => s.violation 21 9 rightR (a / 0x80000) a
          | none => s
        match s.ungranted engine rightW writes with
        | some a => s.violation 21 9 rightW (a / 0x80000) a
        | none => s
      else s

/-! ### The TAP (R428) -/

/-- An instruction in the TAP's register with what it shifts out. -/
def State.tap (code : Nat) (out : List Bytes) (s : State) : State :=
  { s with sec := { s.sec with tap := code } }.setPort 4 { s.port 4 with out := out }

/-- Whether the TAP serves the instructions that need the ready event. -/
def State.tapServes (s : State) : Bool := s.ready && s.mode != .off && s.mode != .parked

/-- An instruction that is not served acts as BYPASS. -/
def State.tapBypass (s : State) : State := s.tap 0xFF []

/-- IDCODE (R428). -/
def execIdcode (s : State) : Host.Outcome State Fault Refusal := .next (s.tap 0x02 [leNat 4 0x22460B47])

/-- DBG_STATUS (R428): level, lifecycle, ready, challenge outstanding. -/
def execDbgStatus (s : State) : Host.Outcome State Fault Refusal :=
  .next (s.tap 0x20 [[s.debugLevel % 4 + 4 * (s.lifecycle % 4) + 16 * boolNat s.ready
    + 32 * boolNat s.sec.challenge.isSome]])

/-- DBG_CHALLENGE (R421, R428): a new challenge shifts out; none while it must wait (R422). -/
def execDbgChallenge (s : State) : Host.Outcome State Fault Refusal :=
  .next (
    if !s.tapServes then s.tapBypass
    else if s.challengeWait then s.tap 0x21 []
    else
      let r := s.newChallenge
      r.1.tap 0x21 [r.2])

/-- DBG_RESPONSE (R422, R428, R429): 132 bytes judged at Update-DR; purpose 1 or 2 sets the level. -/
def execDbgResponse (response : Bytes) (s : State) : Host.Outcome State Fault Refusal :=
  .next (
    if !s.tapServes then s.tapBypass
    else
      let b := padTo 132 response
      let c := s.judgeResponse [1, 2] b
      let s := (s.tap 0x22 []).settleResponse c
      if c ≠ 0 then s else (s.setLevel (nthD b 0 0) (nthD b 1 0)).bump 0x830004)

/-- CORE_DEBUG (R428): at level FULL, operation 0 runs, 1 halts and 2 steps a core; 3 reads `count` bytes of its memory, whose
contents are the firmware's (free values). Masters 0, 1 and 15 have it. -/
def execCoreDebug (master operation count : Nat) (s : State) : Host.Outcome State Fault Refusal :=
  .next (
    if !s.tapServes ∨ s.debugLevel ≠ 2 ∨ !(master == 0 || master == 1 || master == 15) then s.tapBypass
    else
      let s := s.tap 0x30 []
      match operation with
      | 0 => { s with sec := { s.sec with halted := s.sec.halted.filter (· != master) } }
      | 1 | 2 => { s with sec := { s.sec with halted := insertSorted master s.sec.halted } }
      | 3 =>
        let r := s.fresh (256 ^ count)
        r.2.tap 0x30 [leNat count r.1]
      | _ => s)

/-- SAMPLE/PRELOAD (R428): the boundary register is preloaded, and what the balls show shifts out (a free value). -/
def execSamplePreload (register : Bytes) (s : State) : Host.Outcome State Fault Refusal :=
  let r := s.fresh (256 ^ register.length)
  let s := r.2.tap 0x01 [leNat register.length r.1]
  .next { s with sec := { s.sec with preload := register } }

/-- An instruction that takes the balls (R428): with RESET_N high the device enters SAFE, the level falls to CLOSED and the
boundary register holds the balls until reset. -/
def State.takeBalls (code : Nat) (resetN : Bool) (s : State) : State :=
  let s := s.tap code []
  if !resetN then s
  else
    let s := s.askSafe 5 19 0
    { s with sec := { s.sec with boundaryHold := true } }.setLevel 0 0xFF

/-- EXTEST (R428): the boundary register drives the balls. -/
def execExtest (register : Bytes) (resetN : Bool) (s : State) : Host.Outcome State Fault Refusal :=
  let s := s.takeBalls 0x00 resetN
  .next { s with sec := { s.sec with preload := register } }

/-- CLAMP (R428): the balls stay as the boundary register has them. -/
def execClamp (resetN : Bool) (s : State) : Host.Outcome State Fault Refusal := .next (s.takeBalls 0x03 resetN)

/-- HIGHZ (R428): the balls float. -/
def execHighz (resetN : Bool) (s : State) : Host.Outcome State Fault Refusal := .next (s.takeBalls 0x04 resetN)

/-- BYPASS (R428), and any code that is not listed. -/
def execBypass (s : State) : Host.Outcome State Fault Refusal := .next s.tapBypass

end Sys2Proof.Machine
end

