-- ==== Sys2Proof/Machine/Frames.lean ====
section
/-!
DEFINITION. Machine/Frames.lean: what the ports share (R366, R372, R376 to R378, R387 to R390): responses, their delivery, the end of a
transfer, the move of the token away from a port, and the status byte.
-/
namespace Sys2Proof.Machine

/-- The requester of a port: 1 Quoin, 2 two-wire, 3 SPI, 4 DBG_ACCESS. -/
def portClass (p : Nat) : Requester :=
  match p with
  | 1 => .quoin
  | 2 => .twoWire
  | 3 => .spi
  | _ => .debug

/-- The longest value of a port that moves without a transfer (R371, R387). -/
def valueLimit (p : Nat) : Nat := nthD [48, 48, 224] p 1008

/-- The data bytes of a port's segments (R371, R387). -/
def segmentSize (p : Nat) : Nat := nthD [60, 60, 240] p 1020

/-- The code of a port for a value out of place (R387). -/
def paramCode (p : Nat) : Nat := if p = 1 then 0x1901 else 0x1A01

/-- The code of a port for a frame shorter than its kind needs, or whose L disagrees with its length (R371, R387). -/
def shortCode (p : Nat) : Nat := nthD [0x1901, 0x1901, 0x1A01] p 0x1A02

/-- The transfer timeout of a port in ms. -/
def State.transferMs (s : State) (p : Nat) : Nat := s.nat (nthD [0x10400C, 0x10400C, 0x105007] p 0x106002)

/-- The block size of a port (R374, R387). -/
def State.blockSize (s : State) (p : Nat) : Nat := if p = 1 then s.nat 0x10400D else 16

/-- The check-value unit and the master that computes a port's transfer CRC (R407); the debug port has none. -/
def transferCv (p : Nat) : Option (Nat × Nat) :=
  match p with
  | 1 => some (0, 16)
  | 2 => some (1, 17)
  | 3 => some (1, 18)
  | _ => none

/-- Bytes of a transfer fed to its check-value unit. -/
def State.feedCv (p : Nat) (b : Bytes) (s : State) : State :=
  match transferCv p with
  | some (u, m) => s.cvStream u m b
  | none => s

/-- A port's check-value unit free of its transfer. -/
def State.leaveCv (p : Nat) (s : State) : State :=
  match transferCv p with
  | some (u, m) => s.cvClose u m
  | none => s

/-! ### Responses (R372) -/

/-- A response frame: kind, sequence, code, key, flags, read number, data. -/
def State.response (s : State) (kind seq code key flags readNo : Nat) (data : Bytes) : Bytes :=
  [kind % 256, seq] ++ leNat 2 code ++ leNat 2 (key / 256) ++ [key % 256, flags] ++ leNat 2 readNo ++ leNat 2 data.length
    ++ leNat 2 (s.nat 0x980006) ++ [0, 0] ++ data

/-- The valid CAN FD lengths (R370). -/
def canLength (n : Nat) : Nat := if n ≤ 8 then n else fdLength n

/-- A frame sent on Quoin, padded; the controller was active (R386). -/
def State.sendCan (b : Bytes) (s : State) : State :=
  { s.setPort 1 { s.port 1 with out := (s.port 1).out ++ [padTo (canLength b.length) b] } with
    quoin := { s.quoin with activeAt := s.gnomon } }

/-- A response or read segment on its way: sent on Quoin, queued on the other ports (R388). -/
def State.deliver (p : Nat) (b : Bytes) (s : State) : State :=
  if p = 1 then s.sendCan b else s.setPort p { s.port p with unread := (s.port p).unread ++ [b] }

/-- A request of a host port answered (R366): its sequence is shown, and the snapshot of 0x1020:07 follows. -/
def State.answered (p seq : Nat) (resp : Bytes) (s : State) : State :=
  let s := (s.setPort p { s.port p with kept := some (seq, resp) }).deliver p resp
  if 1 ≤ p ∧ p ≤ 3 then
    ({ s with answeredPorts := setBit s.answeredPorts (p - 1) }.setNat (obj 0x1020 p) seq).refreshSync
  else s

/-! ### The end of a transfer (R377) -/

/-- A port's transfer ended: counted unless it was applied. -/
def State.closeTransfer (p : Nat) (applied : Bool) (s : State) : State :=
  match (s.port p).transfer with
  | none => s
  | some _ =>
    let s := (s.setPort p { s.port p with transfer := none }).leaveCv p
    if applied then s else s.bump 0x104104

/-- A port's transfer aborted by the device with a code. -/
def State.failTransfer (p code : Nat) (s : State) : State :=
  match (s.port p).transfer with
  | none => s
  | some t => (s.deliver p (s.response 0x89 t.seq code t.key 0 0 [])).closeTransfer p false

/-- The token given up by its holder (R361): a segmented write of that port is aborted with 0x0108. -/
def State.leaveToken (new reason : Nat) (s : State) : State :=
  let old := s.nat 0x103001
  let s := s.moveToken new reason
  match (s.port old).transfer with
  | some t => if t.write && 1 ≤ old && old != new then s.failTransfer old 0x0108 else s
  | none => s

/-! ### Status (R390) -/

/-- The events that wait for a port. -/
def State.portEvents (s : State) (p : Nat) : List Event :=
  match p with
  | 1 => s.events.quoinQ
  | 2 => s.events.twoWireQ
  | 3 => s.events.spiQ
  | _ => []

/-- Whether a port is served (R390, R397, R398, R404). -/
def State.portReady (s : State) : Bool := s.ready && s.mode != .off && s.mode != .boot && s.mode != .parked

/-- The responses of a port that wait, read segments apart (R388). -/
def Port.responses (p : Port) : Nat := (p.unread.filter fun b => nthD b 0 0 != 0xC6).length

/-- Whether a port is busy (R390). -/
def State.portBusy (s : State) (p : Nat) : Bool := !s.portReady || decide (8 ≤ (s.port p).responses)

/-- The status byte of a port. -/
def State.portStatus (s : State) (p : Nat) : Nat :=
  let r := s.port p
  boolNat s.portReady + 2 * boolNat (!r.unread.isEmpty) + 4 * boolNat (!(s.portEvents p).isEmpty) + 8 * boolNat (s.portBusy p)
    + 16 * boolNat (1 ≤ p && s.nat 0x103001 == p) + 32 * boolNat r.transfer.isSome + 64 * boolNat r.error
    + 128 * boolNat r.reset

/-- A read of the status clears Error and Reset of that port. -/
def State.clearStatus (p : Nat) (s : State) : State := s.setPort p { s.port p with error := false, reset := false }

/-- A frame of a port dropped for its check value or form. -/
def State.frameError (p key : Nat) (s : State) : State :=
  (if key = 0 then s else s.bump key).setPort p { s.port p with error := true }

/-- Whether the device pulls HOST_IRQ_N low (R405). -/
def State.hostIrq (s : State) : Bool :=
  let mask := s.nat 0x106001
  s.portReady && s.mode != .watch &&
    ((bitOf mask 0 && !(s.port 3).unread.isEmpty) || (bitOf mask 1 && !s.events.spiQ.isEmpty) || (bitOf mask 2 && (s.port 3).reset)
      || (bitOf mask 3 && !(s.port 2).unread.isEmpty) || (bitOf mask 4 && !s.events.twoWireQ.isEmpty))

end Sys2Proof.Machine
end

