-- ==== Sys2Proof/Machine/Dictionary.lean ====
section
/-!
DEFINITION. Machine/Dictionary.lean: the token (R359 to R361), the persistent store (R352, R353), the Quoin apply (R370), and the act of
every command object, for a write that comes by its key alone.
-/
namespace Sys2Proof.Machine

/-! ### The token -/

/-- Whether a requester is the holder of the token. -/
def State.holdsToken (s : State) (r : Requester) : Bool := isHost r && s.nat 0x103001 == portNo r

/-- The token command of R360. -/
def State.tokenCommand (r : Requester) (v : Nat) (s : State) : State × Nat :=
  let holder := s.nat 0x103001
  if 1 ≤ v ∧ v ≤ 3 then
    if v ≠ portNo r then (s, 0x0109)
    else if holder = v then (s, 0)
    else if holder ≠ 0 then (s, 0x010E)
    else (s.moveToken v 1, 0)
  else if !s.holdsToken r then (s, 0x0108)
  else if v = 0 then (s.leaveToken 0 2, 0)
  else if v - 0x80 = holder then (s, 0)
  else (s.leaveToken (v - 0x80) 3, 0)

/-- A write of the token command. -/
def State.writeToken (r : Requester) (v : Nat) (s : State) : State :=
  s.request r 0x103002 (leNat 1 v) (State.tokenCommand r v)

/-- TOKEN_TAKE (R360): a port of 1 to 3 named. -/
def execTokenTake (by_ : Requester) (port : Nat) (s : State) : Host.Outcome State Fault Refusal :=
  .next (s.writeToken by_ (port % 3 + 1))

/-- TOKEN_RELEASE (R360): token command 0. -/
def execTokenRelease (by_ : Requester) (s : State) : Host.Outcome State Fault Refusal := .next (s.writeToken by_ 0)

/-- TOKEN_HANDOVER (R360): token command 0x81 to 0x83. -/
def execTokenHandover (by_ : Requester) (port : Nat) (s : State) : Host.Outcome State Fault Refusal :=
  .next (s.writeToken by_ (0x81 + port % 3))

/-- TOKEN_TIMEOUT (R361): no request of the holder's port accepted for the timeout. -/
def execTokenTimeout (s : State) : Host.Outcome State Fault Refusal :=
  .next (if s.ready ∧ s.nat 0x103001 ≠ 0 ∧ s.nat 0x103005 + s.nat 0x103003 * msTicks ≤ s.gnomon then s.leaveToken 0 4 else s)

/-! ### The persistent store -/

/-- Whether a subindex is in the persistent set (R352); 0x2002:05 is, since R490 speaks of its stored value (DEDUCED,
notes/assumptions/121.md). -/
def persistent (key : Nat) : Bool :=
  let idx := key / 256
  let inRange := (0x1000 ≤ idx && idx ≤ 0x1FFF) || (0x3000 ≤ idx && idx ≤ 0x9FFF) || key == 0x200205
  let kept := idx == 0x1030 || idx == 0x6010 || idx == 0x9810 || idx == 0x8200 || idx == 0x8210
  inRange && !kept && match findRow key with
    | some r => r.acc == .rw || r.acc == .rws
    | none => false

/-- The values of the persistent set that differ from their defaults (R353); an RWS subindex's is its staged value, which a read
returns (DEDUCED, notes/assumptions/51.md). -/
def State.snapshot (s : State) : Map Val := s.dict.filter fun p => persistent p.1

/-- The bytes that an entry's value takes. -/
def valueLength (key : Nat) (v : Val) : Nat :=
  match findRow key with
  | some r => (encodeVal r.ty v).length
  | none => 0

/-- The size of a snapshot: 4 bytes and the length of the value for each entry (R353). -/
def storeSize (m : Map Val) : Nat := m.foldl (fun n p => n + 4 + valueLength p.1 p.2) 0

/-- The outcome of a store command (R352), and the store event. -/
def State.storeOutcome (code bytes : Nat) (s : State) : State :=
  (s.issuePaired 0x110002 code (leNat 2 code ++ leNat 4 bytes)).raise 1 2 0x1100 [(2, code), (4, bytes)]

/-- A store command acted on (R352, R353, R491). -/
def State.storeCommand (v : Nat) (s : State) : State :=
  match v with
  | 1 =>
    let m := s.snapshot
    let n := storeSize m
    if 16384 < n then s.storeOutcome 0x010F 0 else ({ s with saving := some ⟨m, n⟩ } : State).await 0x110002
  | 2 => (({ s with flash := { s.flash with store := [], storedSize := 0 } } : State).setNat 0x110003 0).storeOutcome 0 0
  | _ => s.storeOutcome 0x010B 0

/-- A write of the store command. -/
def State.writeStore (r : Requester) (v : Nat) (s : State) : State :=
  s.request r 0x110001 (leNat 1 v) (State.pairedBusy 0x110001 0x110002 r (leNat 1 v) (State.storeCommand v))

/-- STORE (R353): store command 1. -/
def execStore (by_ : Requester) (s : State) : Host.Outcome State Fault Refusal := .next (s.writeStore by_ 1)

/-- STORE_ERASE (R352): store command 2. -/
def execStoreErase (by_ : Requester) (s : State) : Host.Outcome State Fault Refusal := .next (s.writeStore by_ 2)

/-- A store command held while its predecessor ran (R356). -/
def State.runHeldStore (s : State) : State :=
  match Map.get (fun _ => none) s.held 0x110001 with
  | none => s
  | some h => ({ s with held := s.held.erase 0x110001 } : State).storeCommand (ofLe h.body)

/-- STORE_COMPLETE (R353): the write is verified and the halves switch, or the flash fails and the previous store stands. -/
def execStoreComplete (ok : Bool) (s : State) : Host.Outcome State Fault Refusal :=
  .next (match s.saving with
    | none => s
    | some v =>
      let s := ({ s with saving := none } : State)
      let s := if ok then
          let n := satAdd 32 s.flash.stores 1
          let s := { s with flash := { s.flash with store := v.snapshot, storedSize := v.size, stores := n } }
          (((s.setNat 0x110003 v.size).setNat 0x110005 n).cvManagement v.size).storeOutcome 0 v.size
        else s.storeOutcome 0x0111 0
      s.runHeldStore)

/-! ### History and apply -/

/-- HISTORY_QUERY (R365): a write of 0x9810:01. -/
def execHistoryQuery (by_ : Requester) (seq : Nat) (s : State) : Host.Outcome State Fault Refusal :=
  .next (s.request by_ 0x981001 (leNat 4 seq) (State.applyWrite 0x981001 (leNat 4 seq)))

/-- An apply (R368, R370): the staged identifiers and rates are in force, and a segmented transfer of the port ends. -/
def State.applyQuoin (s : State) : State × Nat :=
  let clash := (List.range 16).any fun f => s.pdoOn f && s.stagedIds.contains (s.pdoKey f)
  guarded (refuseIf clash 0x1901)
    (fun s => (s.commitKeys ((List.range 7).map fun i => 0x104001 + i)).closeTransfer 1 false) s

/-- QUOIN_APPLY (R370): command 1 on 0x1040:08. -/
def execQuoinApply (by_ : Requester) (s : State) : Host.Outcome State Fault Refusal :=
  .next (s.request by_ 0x104008 [1] State.applyQuoin)

/-! ### Any write by its key -/

/-- An update command written by its key: what the image check answers, and the catalogue it stages, are free. -/
def State.updateFree (v : Nat) (s : State) : State :=
  if v ≠ 2 then s.updateCommand v true []
  else
    let (e, s) := s.fresh 2
    let (c, s) := s.fresh (256 ^ 256)
    let b := leNat 256 c
    s.updateCommand 2 (e == 1) ((List.range 16).map fun i => sliceB b (16 * i) 16)

/-- The act of a command object of 0x1000 to 0x4FFF. -/
def cmdAct1 (r : Requester) (key : Nat) (b : Bytes) (s : State) : State × Nat :=
  let idx := key / 256
  let sub := key % 256
  let v := ofLe b
  if key = 0x103002 then s.tokenCommand r v
  else if key = 0x104008 then s.applyQuoin
  else if key = 0x107801 then s.pairedBusy 0x107801 0x107802 r b (State.runJob b)
  else if key = 0x110001 then s.pairedBusy 0x110001 0x110002 r b (State.storeCommand v)
  else if key = 0x201001 then s.pairedBusy 0x201001 0x201002 r b (State.verbBlock r b)
  else if key = 0x201101 then (s.launchBlock r b, 0)
  else if idx / 4 = 0x2560 / 4 then s.captureCommand (idx - 0x2560) v
  else if idx = 0x3010 ∨ idx = 0x3011 then (s.restoreAntenna (idx - 0x3010), 0)
  else if idx = 0x3020 ∨ idx = 0x3021 then s.plumbCommand (idx - 0x3020) v
  else if idx / 32 = 0x3100 / 32 then if sub = 8 then s.selectResponse (idx - 0x3100) v else s.reverseFade (idx - 0x3100)
  else if key = 0x43000A then (if v = 1 then s.clearDatabase else s.clearAfLists, 0)
  else if key = 0x490006 then s.blendCommand v
  else if key = 0x490007 then (s.reverseCommand, 0)
  else (s.selectEq (idx - 0x4910) v, 0)

/-- The act of a command object of 0x6000 to 0x9FFF. -/
def cmdAct2 (r : Requester) (key : Nat) (b : Bytes) (s : State) : State × Nat :=
  let v := ofLe b
  if key = 0x600110 then s.pairedBusy 0x600110 0x600111 r b (State.radioTest b)
  else if key = 0x601101 then s.pairedBusy 0x601101 0x601102 r b (State.wakeRequest b)
  else if key = 0x604001 then (s.downlink b, 0)
  else if key = 0x604004 then s.nodeCommand b
  else if key = 0x720001 then (s.updateFree v, 0)
  else if key = 0x720101 then s.updateChunk b
  else if key = 0x750002 then s.confirmCommand
  else if key = 0x760002 then (s.requestMode 1 v, 0)
  else if key = 0x800002 then (s.stepToSecured v, 0)
  else if key = 0x800101 then s.requestChallenge
  else if key = 0x800201 then (s.authorised b, 0)
  else if key = 0x812001 then s.eraseSlot v
  else s.lowerLevel v

/-- What a write that passed its checks does, by its key. -/
def writeAct (r : Requester) (key : Nat) (b : Bytes) (s : State) : State × Nat :=
  match findRow key with
  | none => (s, 0x0105)
  | some row =>
    if row.acc == .cmd then if key < 0x600000 then cmdAct1 r key b s else cmdAct2 r key b s
    else s.applyWrite key b

/-- A write of any subindex (R349). -/
def State.writeObject (r : Requester) (key : Nat) (b : Bytes) (s : State) : State := s.request r key b (writeAct r key b)

/-- OBJECT_WRITE (R349): a write of a subindex by its index and subindex. -/
def execObjectWrite (by_ : Requester) (index sub : Nat) (data : Bytes) (s : State) : Host.Outcome State Fault Refusal :=
  .next (s.writeObject by_ (obj (index % 65536) (sub % 256)) data)

end Sys2Proof.Machine
end

