-- ==== Sys2Proof/Machine/Glimmer.lean ====
section
/-!
DEFINITION. Machine/Glimmer.lean: wake words received (R295 to R297).
-/
namespace Sys2Proof.Machine

/-- The instant now, counted on through PARKED by the RTC (R40). -/
def State.wall (s : State) : Nat := if s.mode = .parked then s.gnomon + s.power.rtcPeriods * 9375 / 2 else s.gnomon

/-- An hour in ticks. -/
abbrev hourTicks : Nat := 3600 * 153600000

/-- Whether Glimmer listens (R295). -/
def State.glimmerListens (s : State) : Bool :=
  s.nat 0x601001 == 1 && (s.mode == .parked || (s.mode == .watch && s.radioState < 2 && s.arrived))

/-- A matching word that wakes (R297, R462): from PARKED where its source is enabled, in WATCH as an event. -/
def State.glimmerWake (s : State) : State :=
  if s.mode = .parked then
    if bitOf (s.nat 0x760007) 0 && s.power.waking.isNone then (s.wake 0).bump 0x601007 else s
  else match s.power.transition with
    | none => s.watchMatch
    | some t =>
      if t.target = .parked then if bitOf (s.nat 0x760007) 0 then s.wake 0 else s
      else if s.power.heldWake.isNone then { s with power := { s.power with heldWake := some 0 } } else s

/-- The bits of a Manchester stretch (R296), where none of its pairs is a violation: off and on is 1, on and off is 0. -/
def manchester : List Bool → Option (List Bool)
  | [] => some []
  | [_] => none
  | a :: b :: rest => if a = b then none else (manchester rest).map fun bs => b :: bs

/-- The number that bits spell, the most significant first. -/
def msbNumber (bits : List Bool) : Nat := bits.foldl (fun n b => 2 * n + boolNat b) 0

/-- The code and target of a telegram (R296): at least 8 preamble bits, the sync and 32 bits with no violation, at a bit rate within ±3 % of
1 kbit/s; `rate` is in bits per 1,000 s. -/
def wakeWord (preamble rate : Nat) (halves : List Bool) : Option (Nat × Nat) :=
  if preamble < 8 ∨ rate < 970000 ∨ 1030000 < rate ∨ halves.length < 80 then none
  else match manchester (halves.take 80) with
    | some bits =>
      if msbNumber (bits.take 8) = 0x1D then some (msbNumber ((bits.drop 8).take 16), msbNumber (bits.drop 24)) else none
    | none => none

/-- A decoded wake word (R297). In match mode 1 a wake needs two matching words whose ends lie at most 200 ms apart. -/
def State.takeWord (code target : Nat) (s : State) : State :=
  if code ≠ s.nat 0x601003 then s
  else if !(target == s.nat 0x601004 || (target == 0xFFFF && s.nat 0x601005 == 1)) then s.bump 0x601008
  else
    let s := s.setNat 0x60100A (code * 65536 + target)
    if s.nat 0x601006 = 0 then s.glimmerWake
    else match s.radio.matchEnd with
      | some t =>
        if s.wall ≤ t + 200 * msTicks then { s with radio := { s.radio with matchEnd := none } }.glimmerWake
        else { s with radio := { s.radio with matchEnd := some s.wall } }
      | none => { s with radio := { s.radio with matchEnd := some s.wall } }

/-- GLIMMER_WORD (R296, R297): what Glimmer hears of a telegram: the preamble bits, the bit rate, and the carrier on or off in each half bit
from the sync on. -/
def execGlimmerWord (preamble rate : Nat) (halves : List Bool) (s : State) : Host.Outcome State Fault Refusal :=
  .next (
    if s.glimmerListens then
      match wakeWord preamble rate halves with
      | some w => s.takeWord w.1 w.2
      | none => s
    else s)

/-- SPURIOUS_WAKE (R297): 2 s after WATCH was reached with nothing that justifies the wake; the eighth in an hour sets match
mode 1. -/
def execSpuriousWake (s : State) : Host.Outcome State Fault Refusal :=
  .next (match s.radio.judged with
    | some t =>
      if s.gnomon < t + 2000 * msTicks then s
      else
        let recent := (s.radio.spurious.filter fun x => decide (s.gnomon < x + hourTicks)) ++ [s.gnomon]
        let s := { s with radio := { s.radio with judged := none, spurious := recent } }.bump 0x601009
        if 8 ≤ recent.length then s.setNat 0x601006 1 else s
    | none => s)

/-- MATCH_MODE_RESET (R297): an hour without a spurious wake. -/
def execMatchModeReset (s : State) : Host.Outcome State Fault Refusal :=
  .next (
    if s.nat 0x601006 = 1 ∧ (s.radio.spurious.all fun x => decide (x + hourTicks ≤ s.gnomon)) then
      { s with radio := { s.radio with spurious := [], matchEnd := none } }.setNat 0x601006 0
    else s)

end Sys2Proof.Machine
end

