-- ==== Sys2Proof/Machine/Ports.lean ====
section
/-!
DEFINITION. Machine/Ports.lean: the request frames of R371, their segmented transfers (R374 to R378), Quoin (R380, R384 to R386), and the
service requests of the mesh (R320, R427). One handler serves every port; R387 gives the differences.
-/
namespace Sys2Proof.Machine

/-! ### Answers -/

/-- The kinds that R366 matches (R378). -/
def matchedKind (kind : Nat) : Bool := (1 ≤ kind && kind ≤ 4) || kind == 7 || kind == 8

/-- The least length of each kind, Write without its value (R371); none for an unlisted kind. -/
def leastLength (kind : Nat) : Option Nat :=
  match kind with
  | 0x01 | 0x02 | 0x03 | 0x05 | 0x07 | 0x08 | 0x0F => some 8
  | 0x04 => some 12
  | 0x06 => some 4
  | _ => none

/-- A request answered: the response is kept where its kind is matched (R366, R378). -/
def State.answerFrame (p kind seq code key flags readNo : Nat) (data : Bytes) (s : State) : State :=
  let resp := s.response (kind + 0x80) seq code key flags readNo data
  if matchedKind kind then s.answered p seq resp else s.deliver p resp

/-- The key that a frame names in bytes 2 to 4. -/
def frameKey (f : Bytes) : Nat := obj (fieldLe f 2 2) (nthD f 4 0)

/-- The flags of an accepted read (R372). -/
def readFlags (key : Nat) (again stale : Bool) : Nat := boolNat stale + 2 * boolNat (again && fifoKey key) + 4 * boolNat (fifoKey key)

/-- A port's transfer touched by one of its frames (R361, R377). -/
def State.transferSeen (p : Nat) (t : Transfer) (s : State) : State :=
  (s.setPort p { s.port p with transfer := some { t with at_ := s.gnomon } }).touch (portClass p)

/-! ### Expedited requests (R371, R372, R387) -/

/-- Read. -/
def State.frameRead (p seq : Nat) (f : Bytes) (s : State) : State :=
  let key := frameKey f
  let again := bitOf (nthD f 5 0) 1
  let s := s.readAs (portClass p) key (bitOf (nthD f 5 0) 0) again (valueLimit p) (paramCode p)
  let a := s.answer
  s.answerFrame p 1 seq a.code key (if a.code = 0 then readFlags key again a.stale else 0) a.readNo a.data

/-- Write: L above the port's limit, or a frame whose length disagrees with L (Quoin frames may be padded), is refused. -/
def State.frameWrite (p seq : Nat) (f : Bytes) (s : State) : State :=
  let key := frameKey f
  let n := fieldLe f 6 2
  if valueLimit p < n then s.answerFrame p 2 seq (paramCode p) key 0 0 []
  else if f.length < 8 + n ∨ (p ≠ 1 ∧ f.length ≠ 8 + n) then s.answerFrame p 2 seq (shortCode p) key 0 0 []
  else
    let s := s.writeObject (portClass p) key (sliceB f 8 n)
    s.answerFrame p 2 seq s.answer.code key 0 0 []

/-! ### Segmented transfers (R374 to R377) -/

/-- Initiate read: the snapshot is taken, and its CRC computed. -/
def State.frameInitiateRead (p seq : Nat) (f : Bytes) (s : State) : State :=
  let key := frameKey f
  let again := bitOf (nthD f 5 0) 1
  let s := s.closeTransfer p false
  let s := s.readAs (portClass p) key (bitOf (nthD f 5 0) 0) again transferMax (paramCode p)
  let a := s.answer
  if a.code ≠ 0 then s.answerFrame p 3 seq a.code key 0 0 []
  else
    let s := (s.feedCv p a.data).leaveCv p
    let s := s.setPort p { s.port p with transfer := some ⟨false, seq, key, a.data.length, a.data, 0, 0, s.gnomon⟩ }
    s.answerFrame p 3 seq 0 key (readFlags key again a.stale) a.readNo (leNat 4 a.data.length ++ leNat 4 (crcOf 0 a.data))

/-- Initiate write: judged by checks 1 to 9 with N as the length. -/
def State.frameInitiateWrite (p seq : Nat) (f : Bytes) (s : State) : State :=
  let key := frameKey f
  let n := fieldLe f 8 4
  let s := s.closeTransfer p false
  if n < 1 ∨ transferMax < n then s.answerFrame p 4 seq (paramCode p) key 0 0 []
  else
    let s := s.autoTake (portClass p) key
    let c := s.judgeLength (portClass p) key n
    if c ≠ 0 then s.answerFrame p 4 seq c key 0 0 []
    else
      let b := s.blockSize p
      (s.transferSeen p ⟨true, seq, key, n, [], 0, b, s.gnomon⟩).answerFrame p 4 seq 0 key 0 0 (leNat 2 b)

/-- The segments of a transfer. -/
def segmentCount (p n : Nat) : Nat := (n + segmentSize p - 1) / segmentSize p

/-- A frame that belongs to no open transfer, dropped. -/
def State.dropSegment (s : State) : State := s.bump 0x104108

/-- Block request: its segments are delivered. -/
def State.frameBlockRequest (p seq : Nat) (f : Bytes) (s : State) : State :=
  match (s.port p).transfer with
  | none => s.dropSegment
  | some t =>
    let first := fieldLe f 2 2
    let n := nthD f 4 0
    if t.seq ≠ seq then s.dropSegment
    else if t.write ∨ segmentCount p t.size ≤ first then s.answerFrame p 5 seq 0x1903 t.key 0 0 []
    else if n < 1 ∨ 32 < n then s.answerFrame p 5 seq (paramCode p) t.key 0 0 []
    else
      let last := min (first + n) (segmentCount p t.size)
      (List.range (last - first)).foldl (fun s i =>
          s.deliver p ([0xC6, seq] ++ leNat 2 (first + i) ++ sliceB t.data ((first + i) * segmentSize p) (segmentSize p)))
        (s.transferSeen p t)

/-- Whether segment n ends a block, or the transfer. -/
def Transfer.ends (t : Transfer) (p n : Nat) : Bool := (n + 1) % t.block == 0 || n + 1 == segmentCount p t.size

/-- The acknowledgement of a block. -/
def State.acknowledge (p : Nat) (t : Transfer) (next : Nat) (s : State) : State :=
  s.deliver p (s.response 0x86 t.seq 0 t.key 0 0 (leNat 2 next))

/-- Segment of a write: the next one is taken; a duplicate is ignored; any other ends the transfer. -/
def State.frameSegment (p seq : Nat) (f : Bytes) (s : State) : State :=
  match (s.port p).transfer with
  | none => s.dropSegment
  | some t =>
    let n := fieldLe f 2 2
    if !t.write || t.seq != seq then s.dropSegment
    else
      let s := s.transferSeen p t
      let want := min (segmentSize p) (t.size - t.data.length)
      if f.length < 4 then s.failTransfer p (paramCode p)
      else if n < t.next then if t.ends p n then s.acknowledge p t (n + 1) else s
      else if t.next < n ∨ segmentCount p t.size ≤ n then s.failTransfer p 0x1903
      else if f.length < 4 + want then s.failTransfer p (paramCode p)
      else
        let d := sliceB f 4 want
        let t := { t with data := t.data ++ d, next := n + 1, at_ := s.gnomon }
        let s := (s.setPort p { s.port p with transfer := some t }).feedCv p d
        if t.ends p n then s.acknowledge p t (n + 1) else s

/-- End: a read's snapshot is freed; a write is applied whole when it is complete, its CRC agrees and checks 5, 10 and 11 pass. -/
def State.frameEnd (p seq : Nat) (f : Bytes) (s : State) : State :=
  match (s.port p).transfer with
  | none => s.answerFrame p 7 seq 0x1903 0 0 0 []
  | some t =>
    let s := s.closeTransfer p true
    if !t.write then (s.touch (portClass p)).answerFrame p 7 seq 0 t.key 0 0 []
    else
      let r := portClass p
      let early := if t.data.length < t.size then 0x1903 else if fieldLe f 4 4 ≠ crcOf 0 t.data then 0x1902 else 0
      let s := s.carryOut r t.key t.data (writeAct r t.key t.data) (firstCode [early, s.check5 t.key, s.unitCheck t.key])
      let c := s.answer.code
      (if c = 0 then s else s.bump 0x104104).answerFrame p 7 seq c t.key 0 0 []

/-- Abort: answered whether or not a transfer is open. -/
def State.frameAbort (p seq : Nat) (s : State) : State :=
  ((s.closeTransfer p false).touch (portClass p)).answerFrame p 8 seq 0 0 0 0 []

/-- The event queue of the port that a Sync tells of. -/
def State.syncData (s : State) (p : Nat) : Bytes :=
  leNat 1 (match (s.port p).kept with | some k => k.1 | none => 0) ++ leNat 1 (boolNat (s.port p).kept.isSome)
    ++ leNat 4 (s.nat 0x980006) ++ leNat 4 (s.nat 0x102005)
    ++ leNat 4 (if 1 ≤ p ∧ p ≤ 3 then s.nat (0x980002 + p) else 0) ++ leNat 1 (s.portEvents p).length ++ [0]

/-- Sync (R379): answered without judging. -/
def State.frameSync (p seq : Nat) (s : State) : State := s.answerFrame p 0x0F seq 0 0 0 0 (s.syncData p)

/-! ### One frame -/

/-- A request frame as the device acts on it, once: a repeat gets the kept response with flag bit 3 (R366, R378). -/
def State.handleFrame (p : Nat) (f : Bytes) (s : State) : State :=
  let kind := nthD f 0 0
  let seq := nthD f 1 0
  let kept := match (s.port p).kept with
    | some k => if matchedKind kind && decide (2 ≤ f.length) && k.1 == seq then some k.2 else none
    | none => none
  match kept with
  | some b => s.deliver p (b.take 7 ++ [setBit (nthD b 7 0) 3] ++ b.drop 8)
  | none => match leastLength kind with
    | none => s.answerFrame p kind seq (paramCode p) 0 0 0 []
    | some need =>
      let openSegment := kind == 6 && decide (2 ≤ f.length) && (s.port p).transfer.isSome
      if f.length < need ∧ !openSegment then s.answerFrame p kind seq (shortCode p) 0 0 0 []
      else match kind with
        | 0x01 => s.frameRead p seq f
        | 0x02 => s.frameWrite p seq f
        | 0x03 => s.frameInitiateRead p seq f
        | 0x04 => s.frameInitiateWrite p seq f
        | 0x05 => s.frameBlockRequest p seq f
        | 0x06 => s.frameSegment p seq f
        | 0x07 => s.frameEnd p seq f
        | 0x08 => s.frameAbort p seq
        | _ => s.frameSync p seq

/-- What a port sent is forgotten when the next command reaches it (the model's own record; notes/assumptions/2.md). -/
def State.clearOut (p : Nat) (s : State) : State := s.setPort p { s.port p with out := [] }

/-! ### Quoin -/

/-- A frame received on the request identifier (R370, R373, R384): `good` when it is an ISO CAN FD data frame of the format in
force. -/
def State.quoinFrame (kind : Nat) (good : Bool) (seq : Nat) (body : Bytes) (s : State) : State :=
  let st := s.nat 0x104101
  let s := s.clearOut 1
  if st = 0 ∨ 4 ≤ st then s
  else if st = 1 ∨ !good then s.bump 0x104103
  else ({ s with quoin := { s.quoin with activeAt := s.gnomon } }.bump 0x104102).handleFrame 1 (kind :: seq % 256 :: body)

/-- QUOIN_READ (R371): kind 0x01. -/
def execQuoinRead (good : Bool) (seq : Nat) (body : Bytes) (s : State) : Host.Outcome State Fault Refusal :=
  .next (s.quoinFrame 0x01 good seq body)

/-- QUOIN_WRITE (R371): kind 0x02. -/
def execQuoinWrite (good : Bool) (seq : Nat) (body : Bytes) (s : State) : Host.Outcome State Fault Refusal :=
  .next (s.quoinFrame 0x02 good seq body)

/-- INITIATE_READ (R375): kind 0x03. -/
def execInitiateRead (good : Bool) (seq : Nat) (body : Bytes) (s : State) : Host.Outcome State Fault Refusal :=
  .next (s.quoinFrame 0x03 good seq body)

/-- INITIATE_WRITE (R374): kind 0x04. -/
def execInitiateWrite (good : Bool) (seq : Nat) (body : Bytes) (s : State) : Host.Outcome State Fault Refusal :=
  .next (s.quoinFrame 0x04 good seq body)

/-- BLOCK_REQUEST (R375): kind 0x05. -/
def execBlockRequest (good : Bool) (seq : Nat) (body : Bytes) (s : State) : Host.Outcome State Fault Refusal :=
  .next (s.quoinFrame 0x05 good seq body)

/-- SEGMENT (R374): kind 0x06. -/
def execSegment (good : Bool) (seq : Nat) (body : Bytes) (s : State) : Host.Outcome State Fault Refusal :=
  .next (s.quoinFrame 0x06 good seq body)

/-- END (R374, R375): kind 0x07. -/
def execEndTransfer (good : Bool) (seq : Nat) (body : Bytes) (s : State) : Host.Outcome State Fault Refusal :=
  .next (s.quoinFrame 0x07 good seq body)

/-- ABORT (R377): kind 0x08. -/
def execAbortTransfer (good : Bool) (seq : Nat) (body : Bytes) (s : State) : Host.Outcome State Fault Refusal :=
  .next (s.quoinFrame 0x08 good seq body)

/-- SYNC (R379): kind 0x0F. -/
def execSyncRequest (good : Bool) (seq : Nat) (body : Bytes) (s : State) : Host.Outcome State Fault Refusal :=
  .next (s.quoinFrame 0x0F good seq body)

/-- TRANSFER_TIMEOUT (R377): no frame of the transfer of port 1 to 4 for its timeout. -/
def execTransferTimeout (port : Nat) (s : State) : Host.Outcome State Fault Refusal :=
  let p := port % 4 + 1
  .next (match (s.port p).transfer with
    | some t => if t.at_ + s.transferMs p * msTicks ≤ s.gnomon then (s.clearOut p).failTransfer p 0x1904 else s
    | none => s)

/-- An event as an event frame carries it (R380). -/
def Event.framed (e : Event) : Bytes := leNat 2 e.seq ++ e.encode.drop 4

/-- Whether the event frame may start now (R373, R380): the controller is up, an event waits, the inhibit is over, and no process-data
frame of a lower identifier waits. -/
def State.eventFrameDue (s : State) : Bool :=
  let st := s.nat 0x104101
  s.ready && (st == 2 || st == 3) && !s.events.quoinQ.isEmpty
    && (match s.quoin.eventAt with
      | some t => decide (t + s.nat 0x104009 * msTicks ≤ s.gnomon)
      | none => true)
    && (match leastId s.pdoWaiting with
      | some w => decide (nthD s.quoinIds 2 0 % 2 ^ 29 < w.1)
      | none => true)

/-- An event frame sent with one or two events. -/
def State.sendEvents (s : State) : State :=
  let q := s.events.quoinQ
  let n := min 2 q.length
  let s := { s with events := { s.events with quoinQ := q.drop n }, quoin := { s.quoin with eventAt := some s.gnomon } }
  (s.clearOut 1).sendCan ([n, 0] ++ (q.take n).flatMap Event.framed)

/-- EVENT_FRAME (R380). -/
def execEventFrame (s : State) : Host.Outcome State Fault Refusal := .next (if s.eventFrameDue then s.sendEvents else s)

/-- Whether WATCH leaves the controller to sleep (R386). -/
def State.quoinSleeps (s : State) : Bool := s.mode == .watch && s.nat 0x10400A == 0

/-- QUOIN_WATCH_WAKE (R386): a WAKE_IN edge, or an event or process-data frame that is due. -/
def execQuoinWatchWake (edge : Bool) (s : State) : Host.Outcome State Fault Refusal :=
  .next (if s.mode = .watch ∧ s.nat 0x104101 = 5 ∧ (edge || !s.events.quoinQ.isEmpty || !s.pdoWaiting.isEmpty) then
      ({ s with quoin := { s.quoin with activeAt := s.gnomon } } : State).setNat 0x104101 2
    else s)

/-- QUOIN_IDLE (R386): the idle time is over with nothing waiting. -/
def execQuoinIdle (s : State) : Host.Outcome State Fault Refusal :=
  let st := s.nat 0x104101
  .next (if s.quoinSleeps ∧ (st = 2 ∨ st = 3) ∧ s.quoin.activeAt + s.nat 0x10400B * msTicks ≤ s.gnomon
      ∧ s.events.quoinQ.isEmpty ∧ s.pdoWaiting.isEmpty ∧ (s.port 1).transfer.isNone then s.setNat 0x104101 5 else s)

/-- BUS_OFF (R386): the fault confinement moves the two error counters, and the state with them. -/
def execBusOff (tec rec_ : Nat) (s : State) : Host.Outcome State Fault Refusal :=
  let st := s.nat 0x104101
  .next (
    if st = 2 ∨ st = 3 then
      let s := (s.setNat 0x104106 (min tec 255)).setNat 0x104107 (min rec_ 255)
      if 255 < tec then (s.setNat 0x104101 4).bump 0x104105
      else s.setNat 0x104101 (if 127 < tec ∨ 127 < rec_ then 3 else 2)
    else s)

/-- BUS_OFF_RECOVERY (R386): 128 occurrences of 11 recessive bits. -/
def execBusOffRecovery (s : State) : Host.Outcome State Fault Refusal :=
  .next (if s.nat 0x104101 = 4 then ((s.setNat 0x104101 2).setNat 0x104106 0).setNat 0x104107 0 else s)

/-! ### Service requests (R320, R427) -/

/-- Whether an extended address is on the service list. -/
def State.serves (s : State) (ext : Nat) : Bool :=
  let b := s.bytes 0x821001
  (List.range (b.length / 8)).any fun j => fieldLe b (8 * j) 8 == ext

/-- A class N request and its response, laid out as Quoin's Read and Write (PRESUMED, notes/assumptions/50.md). -/
def State.serviceFrame (ext : Nat) (f : Bytes) (s : State) : Bytes × State :=
  let kind := nthD f 0 0
  let seq := nthD f 1 0
  let key := frameKey f
  let n := fieldLe f 6 2
  let refuse := fun (s : State) => (s.response (kind + 0x80) seq 0x1901 key 0 0 [], s)
  if f.length < 8 then refuse s
  else if kind = 1 then
    let again := bitOf (nthD f 5 0) 1
    let s := s.readAs (.node ext) key (bitOf (nthD f 5 0) 0) again 48 0x1901
    let a := s.answer
    (s.response 0x81 seq a.code key (if a.code = 0 then readFlags key again a.stale else 0) a.readNo a.data, s)
  else if kind = 2 ∧ n ≤ 48 ∧ f.length = 8 + n then
    let s := s.writeObject (.node ext) key (f.drop 8)
    (s.response 0x82 seq s.answer.code key 0 0 [], s)
  else refuse s

/-- SERVICE_REQUEST (R320, R427): a kind-5 frame, answered by a kind-6 frame; one of a node that is not on the service list is
dropped and counted. -/
def execServiceRequest (s : State) : Host.Outcome State Fault Refusal :=
  .next (match s.takeWork 5 with
    | none => s
    | some (w, s) =>
      let n := s.node w.node
      if 512 ≤ w.node ∨ n.state = 0 ∨ !s.serves n.ext then s.bump 0x821002
      else
        let (resp, s) := s.serviceFrame n.ext w.body
        let f := freshFrame .service w.node (.short (if n.via = 0 then n.short else n.via)) (s.voussoir 6 0 n.short [] resp)
        s.handVoussoir { f with
          channel := s.homeChannel, preamble := s.cnat 0x600006, route := if n.via = 0 then 4 else 3 })

end Sys2Proof.Machine
end

