-- ==== Sys2Proof/Machine/HostPorts.lean ====
section
/-!
DEFINITION. Machine/HostPorts.lean: the two-wire port (R392 to R400), the SPI port (R401 to R404) and DBG_ACCESS (R428), which carry the
frames of Machine/Ports.lean.
-/
namespace Sys2Proof.Machine

/-! ### Items (R389, R391) -/

/-- An event block of at most n records. -/
def eventBlock (n : Nat) (q : List Event) : Bytes := [min n q.length, 0] ++ (q.take n).flatMap Event.encode

/-- A port's event queue without its first n events. -/
def State.dropEvents (p n : Nat) (s : State) : State :=
  let e := s.events
  match p with
  | 2 => { s with events := { e with twoWireQ := e.twoWireQ.drop n } }
  | 3 => { s with events := { e with spiQ := e.spiQ.drop n } }
  | _ => s

/-- The oldest response or read segment consumed. -/
def State.consumeResponse (p : Nat) (s : State) : State :=
  let r := s.port p
  match r.unread with
  | [] => s
  | b :: rest => s.setPort p { r with unread := rest, lastItem := b }

/-- An event block of at most n records consumed. -/
def State.consumeEvents (p n : Nat) (s : State) : State :=
  let b := eventBlock n (s.portEvents p)
  (s.setPort p { s.port p with lastEvents := b }).dropEvents p (nthD b 0 0)

/-- What a port sent in answer to a command. -/
def State.sendOut (p : Nat) (b : List Bytes) (s : State) : State := s.setPort p { s.port p with out := b }

/-! ### The two-wire port -/

/-- Whether the target acknowledges its address (R397, R398): after ready, powered, awake, and 150 us after the START that woke it. -/
def State.twoWireAcks (s : State) : Bool :=
  s.ready && s.mode != .off && s.mode != .boot && !s.twoWire.asleep && match s.twoWire.wokenAt with
    | some t => decide (t + 23040 ≤ s.wall)
    | none => true

/-- A transaction addressed to the device. -/
def State.twoWireSeen (s : State) : State := { s with twoWire := { s.twoWire with lastAt := s.wall } }

/-- A transaction addressed to the device and completed (R399). -/
def State.twoWireDone (s : State) : State :=
  let s := s.bump 0x105101
  { s with twoWire := { s.twoWire with lastAt := s.wall, since := s.wall } }

/-- The bits that a notify has told of follow the status down (R399). -/
def State.twoWireSettle (s : State) : State :=
  { s with twoWire := { s.twoWire with
      toldResponse := s.twoWire.toldResponse && !(s.port 2).unread.isEmpty
      toldEvent := s.twoWire.toldEvent && !s.events.twoWireQ.isEmpty } }

/-- The CRC-8 of R394. -/
def crc8 (b : Bytes) : Bytes := [crcOf 2 b]

/-- The PEC of a Block Write of REQUEST (R394): over the address byte, the command, the count and the data. -/
def State.requestPec (s : State) (count : Nat) (data : Bytes) : Nat := crcOf 2 ([2 * s.nat 0x105001, 0x10, count] ++ data)

/-- REQUEST (R392, R394): the count, the data bytes that arrived of it, and the byte after the last where one came before STOP. -/
def execTwoWireRequest (count : Nat) (data : Bytes) (pec : Option Nat) (s : State) : Host.Outcome State Fault Refusal :=
  .next (
    if !s.twoWireAcks then s
    else
      let s := (s.clearOut 2).twoWireSeen
      if s.portBusy 2 then s.bump 0x105104
      else if count = 0 ∨ data.length ≠ count ∨ 255 < count then s.frameError 2 0x105103
      else if (match pec with
          | some b => b != s.requestPec count data
          | none => s.nat 0x105002 == 1) then s.frameError 2 0x105102
      else s.twoWireDone.handleFrame 2 data)

/-- A Block Read of a command (R392): refused in PARKED, else the item sent, with its PEC where the host clocks it (R394), and what consuming
it does when the host clocked all of it and the PEC where it is required (R391). -/
def State.blockRead (command : Nat) (item : Bytes) (take : State → State) (taken pec : Bool) (s : State) : State :=
  if !s.twoWireAcks then s
  else
    let s := (s.clearOut 2).twoWireSeen
    if s.mode = .parked then s.bump 0x105103
    else
      let block := if item.isEmpty then [1, 0] else item.length :: item
      let address := 2 * s.nat 0x105001
      let s := s.sendOut 2 [if taken && pec then block ++ crc8 ([address, command, address + 1] ++ block) else block]
      let s := if taken then s.twoWireDone else s
      if taken && (s.nat 0x105002 == 0 || pec) then (take s).twoWireSettle else s

/-- RESPONSE (R392): the oldest response or read segment. -/
def execTwoWireResponse (taken pec : Bool) (s : State) : Host.Outcome State Fault Refusal :=
  .next (s.blockRead 0x11 ((s.port 2).unread.head?.getD []) (State.consumeResponse 2) taken pec)

/-- EVENTS (R392, R389): at most 7 records. -/
def execTwoWireEvents (taken pec : Bool) (s : State) : Host.Outcome State Fault Refusal :=
  .next (s.blockRead 0x12 (eventBlock 7 s.events.twoWireQ) (State.consumeEvents 2 7) taken pec)

/-- RESPONSE REPEAT (R391). -/
def execTwoWireResponseRepeat (taken : Bool) (s : State) : Host.Outcome State Fault Refusal :=
  .next (s.blockRead 0x13 (s.port 2).lastItem id taken true)

/-- EVENTS REPEAT (R391). -/
def execTwoWireEventsRepeat (taken : Bool) (s : State) : Host.Outcome State Fault Refusal :=
  .next (s.blockRead 0x14 (s.port 2).lastEvents id taken true)

/-- STATUS (R390, R392): the status byte; reading it clears Error and Reset. -/
def execTwoWireStatus (s : State) : Host.Outcome State Fault Refusal :=
  .next (if !s.twoWireAcks then s else (s.twoWireDone.sendOut 2 [[s.portStatus 2]]).clearStatus 2)

/-- Whether the port takes part in the bus (R397, R398). -/
def State.twoWireUp (s : State) : Bool := s.ready && s.mode != .off && s.mode != .boot && !s.twoWire.asleep

/-- A bus-error event (R395, R396). -/
def State.busErrorEvent (cause : Nat) (s : State) : State := s.raise 1 16 0x1050 [(1, 2), (1, (cause : Nat))]

/-- SCL_TIMEOUT (R395): SCL stayed low for 25 ms. -/
def execSclTimeout (s : State) : Host.Outcome State Fault Refusal :=
  .next (if s.twoWireUp then ((s.clearOut 2).bump 0x105106).busErrorEvent 3 else s)

/-- BUS_ERROR (R396): cause 1 a condition inside a byte, 2 a START in place of an acknowledge; 0 a repeated START after an acknowledge
of a write, which only aborts it. -/
def execBusError (cause : Nat) (s : State) : Host.Outcome State Fault Refusal :=
  .next (
    if !s.twoWireUp then s
    else if cause = 0 then (s.clearOut 2).frameError 2 0x105103
    else ((s.clearOut 2).bump 0x105105).busErrorEvent cause)

/-- TARGET_WAKE (R398): a START while the target sleeps; in PARKED it is a wake source as well. -/
def execTargetWake (s : State) : Host.Outcome State Fault Refusal :=
  .next (
    if s.ready ∧ s.twoWire.asleep ∧ (s.mode = .watch ∨ s.mode = .parked) then
      let s := ({ s with twoWire := { s.twoWire with asleep := false, wokenAt := some s.wall, lastAt := s.wall } } : State).clearOut 2
      if bitOf (s.nat 0x760007) 2 then s.wake 2 else s
    else s)

/-- TARGET_WAKE_IDLE (R398): in WATCH, no transaction addressed to the device for the wake idle time. -/
def execTargetWakeIdle (s : State) : Host.Outcome State Fault Refusal :=
  .next (
    if s.mode = .watch ∧ !s.twoWire.asleep ∧ s.twoWire.lastAt + s.nat 0x105006 * msTicks ≤ s.gnomon then
      { s with twoWire := { s.twoWire with asleep := true, wokenAt := none } }
    else s)

/-- Whether a Host Notify is due (R399): a bit rose and has not been told of, or the repeat interval is over, and no transaction was
addressed to the device, nor did it wake, within 50 µs. -/
def State.notifyDue (s : State) : Bool :=
  let r := !(s.port 2).unread.isEmpty
  let e := !s.events.twoWireQ.isEmpty
  s.portReady && s.nat 0x105003 == 1 && (s.twoWire.lastAt == 0 || decide (s.twoWire.lastAt + 7680 ≤ s.wall))
    && ((r && !s.twoWire.toldResponse) || (e && !s.twoWire.toldEvent)
      || ((r || e) && decide (s.twoWire.since + s.nat 0x105005 * msTicks ≤ s.gnomon)))

/-- HOST_NOTIFY (R399): the transaction sent, and whether its address was acknowledged. -/
def execHostNotify (acked : Bool) (s : State) : Host.Outcome State Fault Refusal :=
  .next (
    if !s.notifyDue then s
    else
      let bytes := [2 * s.nat 0x105004, 2 * s.nat 0x105001, s.portStatus 2, s.nat 0x980006 % 256]
      let s := (s.sendOut 2 [if acked then bytes else bytes.take 1]).bump (if acked then 0x105108 else 0x105109)
      { s with twoWire := { s.twoWire with
          toldResponse := !(s.port 2).unread.isEmpty, toldEvent := !s.events.twoWireQ.isEmpty, since := s.gnomon } })

/-- ARBITRATION_LOST (R400): the notify gives way and stays due; lost to a controller that names the device, the device becomes
target. -/
def execArbitrationLost (addressed : Bool) (s : State) : Host.Outcome State Fault Refusal :=
  .next (
    if !s.notifyDue then s
    else
      let s := (s.clearOut 2).bump 0x105107
      if addressed then s.twoWireSeen else s)

/-! ### Frames of the SPI form, ports 3 and 4 -/

/-- A counter of the SPI port (R404's table); the debug port has none. -/
def spiKey (p sub : Nat) : Nat := if p = 3 then obj 0x1061 sub else 0

/-- A counter of the SPI port advanced. -/
def State.spiCount (p sub : Nat) (s : State) : State := if p = 3 then s.bump (spiKey p sub) else s

/-- Whether the SPI port is powered (R404). -/
def State.spiPowered (s : State) : Bool := s.mode != .off && s.mode != .watch && s.mode != .parked

/-- Byte 0 of every frame: the status goes out and is cleared (R390, R401). -/
def State.spiByte0 (p : Nat) (s : State) : State := (s.sendOut p [[s.portStatus p]]).clearStatus p

/-- What follows the status on the wire. -/
def State.spiOut (p : Nat) (b : Bytes) (s : State) : State := s.setPort p { s.port p with out := (s.port p).out ++ [b] }

/-- A frame longer than byte 0; before ready it is dropped (R404). -/
def State.spiFrame (p : Nat) (act : State → State) (s : State) : State :=
  let live := s.portReady || p == 4
  let s := (s.spiByte0 p).spiCount p 1
  if live then act s else s.spiCount p 5

/-- Whether bytes 1 to 3 of a frame fit its byte 0 (R401, R403): the CRC-8 of the header, and no reserved bit. -/
def headerGood (command length check : Nat) : Bool := check == crcOf 2 (command :: leNat 2 length) && decide (command < 32)

/-- REQUEST of R402: a good header, exactly the payload announced and its CRC, and room. -/
def State.spiRequest (p : Nat) (header : Bool) (length : Nat) (rest : Bytes) (s : State) : State :=
  let payload := rest.take length
  if !header || decide (length < 1) || decide (1028 < length) || rest.length != length + 1 then s.frameError p (spiKey p 3)
  else if rest.drop length != crc8 payload then s.frameError p (spiKey p 2)
  else if decide (8 ≤ (s.port p).responses) then s.frameError p (spiKey p 4)
  else s.handleFrame p payload

/-- A read of R403: the count, the item and their CRC; an item longer than the host takes is told by its length alone, and nothing is
consumed. -/
def State.spiRead (p : Nat) (header : Bool) (length : Nat) (item : Bytes) (take : State → State) (taken : Bool) (s : State) : State :=
  if !header || decide (1028 < length) then s.frameError p (spiKey p 3)
  else
    let body := leNat 2 item.length ++ (if item.length ≤ length then item else [])
    let s := s.spiOut p (body ++ crc8 body)
    if taken && decide (item.length ≤ length) then take s else s

/-- The events that fit a length (R389). -/
def spiEvents (length : Nat) : Nat := min 31 ((length - 2) / 32)

/-- A frame of R401 on a port: byte 0 with the operation (1 REQUEST, 2 RESPONSE, 3 EVENTS, 4 RESPONSE REPEAT, 5 EVENTS REPEAT; any other is
dropped), the length, the header check, what follows, and whether the host clocks all of the item. -/
def State.spiOperation (p command length check : Nat) (rest : Bytes) (taken : Bool) (s : State) : State :=
  let header := headerGood command length check
  match command % 16 with
  | 1 => s.spiRequest p header length rest
  | 2 => s.spiRead p header length ((s.port p).unread.head?.getD []) (State.consumeResponse p) taken
  | 3 => s.spiRead p header length (eventBlock (spiEvents length) (s.portEvents p)) (State.consumeEvents p (spiEvents length)) taken
  | 4 => s.spiRead p header length (s.port p).lastItem id taken
  | 5 => s.spiRead p header length (s.port p).lastEvents id taken
  | _ => s.frameError p (spiKey p 3)

/-- A frame at the SPI port: `flags` are the bits [7:4] of byte 0, of which bit 0 is quad; quad frames carry the same bytes (R401). -/
def State.spiPort (operation flags length check : Nat) (rest : Bytes) (taken : Bool) (s : State) : State :=
  if s.spiPowered then s.spiFrame 3 (State.spiOperation 3 (16 * flags + operation) length check rest taken) else s

/-- SPI_REQUEST (R402). -/
def execSpiRequest (flags length check : Nat) (rest : Bytes) (s : State) : Host.Outcome State Fault Refusal :=
  .next (s.spiPort 1 flags length check rest true)

/-- SPI_RESPONSE (R403). -/
def execSpiResponse (flags length check : Nat) (taken : Bool) (s : State) : Host.Outcome State Fault Refusal :=
  .next (s.spiPort 2 flags length check [] taken)

/-- SPI_EVENTS (R389, R403). -/
def execSpiEvents (flags length check : Nat) (taken : Bool) (s : State) : Host.Outcome State Fault Refusal :=
  .next (s.spiPort 3 flags length check [] taken)

/-- SPI_RESPONSE_REPEAT (R391). -/
def execSpiResponseRepeat (flags length check : Nat) (s : State) : Host.Outcome State Fault Refusal :=
  .next (s.spiPort 4 flags length check [] true)

/-- SPI_EVENTS_REPEAT (R391). -/
def execSpiEventsRepeat (flags length check : Nat) (s : State) : Host.Outcome State Fault Refusal :=
  .next (s.spiPort 5 flags length check [] true)

/-- STATUS_POLL (R401): a frame that ends after byte 0. -/
def execStatusPoll (s : State) : Host.Outcome State Fault Refusal := .next (if s.spiPowered then s.spiByte0 3 else s)

/-- DBG_ACCESS (R428): an SPI frame of R401 to R403 as class D, at OBSERVE or above, with its own kept sequence; byte 0 alone, as 0, is a
status poll. -/
def execDbgAccess (command length check : Nat) (rest : Bytes) (taken : Bool) (s : State) : Host.Outcome State Fault Refusal :=
  .next (
    if !s.tapServes || s.debugLevel == 0 then s.tapBypass
    else
      let s := s.tap 0x23 []
      if command = 0 then s.spiByte0 4 else s.spiFrame 4 (State.spiOperation 4 command length check rest taken))

end Sys2Proof.Machine
end

