-- ==== Sys2Proof/Machine/Balls.lean ====
section
/-!
DEFINITION. Machine/Balls.lean: what each signal ball does in each mode (R472, R475, R485), with the rules of the chapters that own
its function.
-/
namespace Sys2Proof.Machine

/-- The signal balls of R471, those of one kind together: a path's RF pair, the three balls of an audio port, the four pairs of a bus. -/
inductive Ball where
  | rf (path : Nat)
  | amin
  | mrx
  | mtx
  | mswTx
  | mswRx
  | xtal
  | rtc
  | clkOut
  | tbSync
  | resetN
  | pwrReq
  | wakeIn
  | wakeOut
  | antPwrEn (path : Nat)
  | antIsns (path : Nat)
  | gpio (n : Nat)
  | canTxd
  | canRxd
  | canStb
  | smb
  | jtagIn
  | jtagTdo
  | amclk
  | apIn (port : Nat)
  | apSd (port : Nat)
  | spdifOut
  | spiIn
  | spiIo1
  | hostIrqN
  | qspi
  deriving DecidableEq, Repr

/-- The supplies that signal balls belong to (R472). -/
inductive Supply where
  | rf | pa | aon | ioA | ioB
  deriving DecidableEq, Repr

/-- The supply of a ball (R472); MRX is fed from VDD_AON for Glimmer. -/
def Ball.supply : Ball → Supply
  | .rf _ | .amin => .rf
  | .mtx => .pa
  | .mrx | .mswTx | .mswRx | .xtal | .rtc | .clkOut | .tbSync => .aon
  | .resetN | .pwrReq | .wakeIn | .wakeOut | .antPwrEn _ | .antIsns _ | .gpio _ | .canTxd | .canRxd | .canStb | .smb => .ioA
  | .jtagIn | .jtagTdo | .amclk | .apIn _ | .apSd _ | .spdifOut | .spiIn | .spiIo1 | .hostIrqN | .qspi => .ioB

/-- Where the balls of a kind stand on the package (R471). -/
def Ball.places : Ball → List String
  | .rf 0 => ["A2", "A3"]
  | .rf _ => ["A5", "A6"]
  | .amin => ["C1", "C2"]
  | .mrx => ["A11"]
  | .mtx => ["A13"]
  | .mswTx => ["A15"]
  | .mswRx => ["A16"]
  | .xtal => ["E1", "E2"]
  | .rtc => ["F1", "F2"]
  | .clkOut => ["H16"]
  | .tbSync => ["J14"]
  | .resetN => ["G15"]
  | .pwrReq => ["F16"]
  | .wakeIn => ["E16"]
  | .wakeOut => ["F15"]
  | .antPwrEn p => [if p = 0 then "B15" else "B16"]
  | .antIsns p => [if p = 0 then "C15" else "C16"]
  | .gpio n => [nthD ["J15", "J16", "K15", "K16", "L14", "L15", "L16"] n "M15"]
  | .canTxd => ["D16"]
  | .canRxd => ["E14"]
  | .canStb => ["E15"]
  | .smb => ["G16", "H15"]
  | .jtagIn => ["G1", "G2", "H1", "J1"]
  | .jtagTdo => ["H2"]
  | .amclk => ["K1"]
  | .apIn p => nthD [["L1", "L2"], ["M1", "M2"], ["N1", "N2"]] p ["P1", "P2"]
  | .apSd p => [nthD ["L3", "M3", "N3"] p "P3"]
  | .spdifOut => ["K2"]
  | .spiIn => ["T4", "T5", "T6", "T8", "T9"]
  | .spiIo1 => ["T7"]
  | .hostIrqN => ["T10"]
  | .qspi => ["T12", "T13", "U12", "U13", "U14", "U15"]

/-- What a ball does: its domain is unpowered; it floats; it drives a level; its input is not taken, or its function is off; it is an
input with its pulls; its function is at work on it; the boundary register holds it. -/
inductive BallState where
  | off
  | highZ
  | low
  | high
  | idle
  | input (pullUp pullDown : Bool)
  | active
  | boundary
  deriving DecidableEq, Repr

/-- A driven level. -/
def driven (b : Bool) : BallState := if b then .high else .low

/-- An input that is taken or not. -/
def inputOf (b : Bool) : BallState := if b then .input false false else .idle

/-- Whether a ball is off in PARKED: every rail but VDD_AON and VDDIO_A is (R463, R472). -/
def Ball.offInParked (b : Ball) : Bool := b.supply != .aon && b.supply != .ioA

/-- Whether the boundary register covers a ball (R485). -/
def Ball.onBoundary : Ball → Bool
  | .rf _ | .amin | .mrx | .mtx | .antIsns _ | .xtal | .rtc | .jtagIn | .jtagTdo => false
  | _ => true

/-- A GPIO ball (R475): as its direction, its level and its pulls say; in PARKED without the hold an input with no pull. -/
def State.gpioBall (s : State) (n : Nat) : BallState :=
  if s.mode == .parked && s.nat 0x770006 != 1 then .input false false
  else if bitOf (s.nat 0x770001) n then driven (bitOf (s.nat 0x770002) n)
  else .input (bitOf (s.nat 0x770004) n) (bitOf (s.nat 0x770005) n)

/-- The CAN balls (R384, R386): the transmitter floats in PARKED and is recessive while the controller does not send; the receiver is
heard while the controller is up; standby is high while WATCH keeps the controller off. -/
def State.canBall (s : State) (b : Ball) : BallState :=
  let st := s.nat 0x104101
  let parked := s.mode == .parked
  match b with
  | .canTxd => if parked then .highZ else if s.ready && (st == 2 || st == 3) then .active else .high
  | .canRxd => inputOf (!parked && 1 ≤ st && st ≤ 4)
  | _ => if parked then .highZ else driven (st == 5)

/-- An audio output ball of unit 0x0400 to 0x0404 (R268, R472): floating while the audio subsystem is down, low until its stream plays. -/
def State.audioBall (s : State) (u : Nat) : BallState :=
  if !broadcast s.mode then .highZ else if s.ustate u == 2 then .active else .low

/-- Whether MTX carries the radio's signal: from the PA's ramp-up to the end of its ramp-down (R283), or the carrier of a wake telegram
(R296). -/
def State.carrierOn (s : State) : Bool :=
  match s.radio.wake.bind fun w => w.start.map fun _ => w with
  | some w => w.carrier s.gnomon
  | none => s.onAir && decide (s.radio.arrives ≤ s.gnomon + 1229)

/-- What a ball does (R472): the table's BOOT and PARKED columns, and after the ready event the rules of its owner (R55, R78, R287,
R405, R462 to R464, R475, R490). -/
def State.ball (s : State) (b : Ball) : BallState :=
  let parked := s.mode == .parked
  if s.mode = .off then .off
  else if parked && b.offInParked then .off
  else if s.sec.boundaryHold && b.onBoundary then .boundary
  else match b with
    | .rf p => if s.nat (obj (0x3000 + p) 1) = 2 then .active else .idle
    | .amin => if s.nat 0x300001 = 2 then .active else .idle
    | .mrx => if s.radioState = 3 ∨ s.glimmerListens then .active else .idle
    | .mtx => if s.carrierOn then .active else .idle
    | .mswTx => driven (s.transmitting && decide (s.radio.txHigh ≤ s.gnomon))
    | .mswRx => driven ((s.radioState == 3 || s.glimmerListens) && decide (s.radio.airUntil + 154 ≤ s.gnomon))
    | .xtal => if parked && s.power.waking.isNone then .idle else .active
    | .rtc => .active
    | .clkOut => if s.clkOut then .active else .low
    | .tbSync => match s.nat 0x200201 with
      | 1 => if parked then .idle else driven s.tbPulse
      | r => inputOf (2 ≤ r && !parked)
    | .resetN => .input false true
    | .pwrReq => driven s.power.pwrReq
    | .wakeIn => inputOf (parked || s.mode == .watch)
    | .wakeOut => driven s.wakeOut
    | .antPwrEn p => if s.ready then driven (s.antenna p).enable else .highZ
    | .antIsns p => inputOf (s.ready && s.antennaMode p)
    | .gpio n => s.gpioBall n
    | .canTxd | .canRxd | .canStb => s.canBall b
    | .smb => inputOf s.ready
    | .jtagIn => .active
    | .jtagTdo => .highZ
    | .amclk | .apIn _ => inputOf (broadcast s.mode)
    | .apSd p => s.audioBall (0x400 + p)
    | .spdifOut => s.audioBall 0x404
    | .spiIn => inputOf s.spiPowered
    | .spiIo1 => .highZ
    | .hostIrqN => if s.hostIrq then .low else .highZ
    | .qspi => .active

end Sys2Proof.Machine
end

