-- ==== Sys2Proof/Machine/Dispatch.lean ====
section
/-!
DEFINITION. Machine/Dispatch.lean: one arm for each command, each a direct call of its meaning.
-/
namespace Sys2Proof.Machine

def exec (i : Instr) (s : State) : Host.Outcome State Fault Refusal :=
  match i with
  | .claim by_ unit any param => Sys2Proof.Machine.execClaim by_ unit any param s
  | .claimAcceleratorShares by_ unit any shares => Sys2Proof.Machine.execClaimAcceleratorShares by_ unit any shares s
  | .configure by_ unit => Sys2Proof.Machine.execConfigure by_ unit s
  | .courseConfigure by_ course => Sys2Proof.Machine.execCourseConfigure by_ course s
  | .start by_ unit instant => Sys2Proof.Machine.execStart by_ unit instant s
  | .hold by_ unit instant => Sys2Proof.Machine.execHold by_ unit instant s
  | .resume by_ unit instant => Sys2Proof.Machine.execResume by_ unit instant s
  | .release by_ unit => Sys2Proof.Machine.execRelease by_ unit s
  | .releaseAcceleratorShares by_ unit => Sys2Proof.Machine.execReleaseAcceleratorShares by_ unit s
  | .launchPlace by_ instant phase kind flags target period count param => Sys2Proof.Machine.execLaunchPlace by_ instant phase kind flags target period count param s
  | .launchCancel by_ entry => Sys2Proof.Machine.execLaunchCancel by_ entry s
  | .launchStartFiring entry => Sys2Proof.Machine.execLaunchStartFiring entry s
  | .courseLeafPrepare entry => Sys2Proof.Machine.execCourseLeafPrepare entry s
  | .launchHoldFiring entry => Sys2Proof.Machine.execLaunchHoldFiring entry s
  | .courseRankHeld unit => Sys2Proof.Machine.execCourseRankHeld unit s
  | .launchResumeFiring entry => Sys2Proof.Machine.execLaunchResumeFiring entry s
  | .chainRetune entry => Sys2Proof.Machine.execChainRetune entry s
  | .antennaSwitch entry => Sys2Proof.Machine.execAntennaSwitch entry s
  | .portGroupStart entry => Sys2Proof.Machine.execPortGroupStart entry s
  | .plumbBlank entry => Sys2Proof.Machine.execPlumbBlank entry s
  | .plumbTrimChange path => Sys2Proof.Machine.execPlumbTrimChange path s
  | .plumbBlankEnd path => Sys2Proof.Machine.execPlumbBlankEnd path s
  | .meshTx entry => Sys2Proof.Machine.execMeshTx entry s
  | .gpioChange entry => Sys2Proof.Machine.execGpioChange entry s
  | .captureTrigger entry => Sys2Proof.Machine.execCaptureTrigger entry s
  | .tbSyncPulse entry => Sys2Proof.Machine.execTbSyncPulse entry s
  | .lockGroupWrite by_ group bitmap => Sys2Proof.Machine.execLockGroupWrite by_ group bitmap s
  | .tbSyncFollowerLoad => Sys2Proof.Machine.execTbSyncFollowerLoad s
  | .tbSyncCheck => Sys2Proof.Machine.execTbSyncCheck s
  | .clkOutEnableWrite by_ value => Sys2Proof.Machine.execClkOutEnableWrite by_ value s
  | .agcWindowEnd path codes => Sys2Proof.Machine.execAgcWindowEnd path codes s
  | .agcReleaseStep path => Sys2Proof.Machine.execAgcReleaseStep path s
  | .lnaTrip path => Sys2Proof.Machine.execLnaTrip path s
  | .manualGrWrite by_ path gr => Sys2Proof.Machine.execManualGrWrite by_ path gr s
  | .agcModeWrite by_ path mode => Sys2Proof.Machine.execAgcModeWrite by_ path mode s
  | .amAttenuationStep level => Sys2Proof.Machine.execAmAttenuationStep level s
  | .sampleClockUnlock lastGood => Sys2Proof.Machine.execSampleClockUnlock lastGood s
  | .sampleClockRelock => Sys2Proof.Machine.execSampleClockRelock s
  | .overloadFlagsClear by_ path bits => Sys2Proof.Machine.execOverloadFlagsClear by_ path bits s
  | .antennaShort path current => Sys2Proof.Machine.execAntennaShort path current s
  | .antennaCurrentJudge path codes => Sys2Proof.Machine.execAntennaCurrentJudge path codes s
  | .antennaRetry path => Sys2Proof.Machine.execAntennaRetry path s
  | .antennaRestore by_ path value => Sys2Proof.Machine.execAntennaRestore by_ path value s
  | .plumbWindowEnd path sums => Sys2Proof.Machine.execPlumbWindowEnd path sums s
  | .plumbProposalReady path => Sys2Proof.Machine.execPlumbProposalReady path s
  | .plumbPostCheck path => Sys2Proof.Machine.execPlumbPostCheck path s
  | .plumbProtectedLost path => Sys2Proof.Machine.execPlumbProtectedLost path s
  | .plumbRunCycle by_ path => Sys2Proof.Machine.execPlumbRunCycle by_ path s
  | .plumbRestoreKept by_ path => Sys2Proof.Machine.execPlumbRestoreKept by_ path s
  | .plumbLoadFactory by_ path => Sys2Proof.Machine.execPlumbLoadFactory by_ path s
  | .plumbApplyStaged by_ path => Sys2Proof.Machine.execPlumbApplyStaged by_ path s
  | .plumbBlankTestStart by_ path => Sys2Proof.Machine.execPlumbBlankTestStart by_ path s
  | .plumbBlankTestStop by_ path => Sys2Proof.Machine.execPlumbBlankTestStop by_ path s
  | .plumbModeWrite by_ path mode => Sys2Proof.Machine.execPlumbModeWrite by_ path mode s
  | .responseSelect by_ chain response => Sys2Proof.Machine.execResponseSelect by_ chain response s
  | .fadeReverse by_ chain => Sys2Proof.Machine.execFadeReverse by_ chain s
  | .fadeEnd chain => Sys2Proof.Machine.execFadeEnd chain s
  | .dcFreezeWrite by_ chain value => Sys2Proof.Machine.execDcFreezeWrite by_ chain value s
  | .chainBlockOut chain pathA pathB saturated => Sys2Proof.Machine.execChainBlockOut chain pathA pathB saturated s
  | .saturationClear by_ chain bits => Sys2Proof.Machine.execSaturationClear by_ chain bits s
  | .detectorBlockEnd chain pathA pathB saturated => Sys2Proof.Machine.execDetectorBlockEnd chain pathA pathB saturated s
  | .detectorSettingWrite by_ chain sub value => Sys2Proof.Machine.execDetectorSettingWrite by_ chain sub value s
  | .engineLoadComplete engine hashMatches => Sys2Proof.Machine.execEngineLoadComplete engine hashMatches s
  | .engineZeroingComplete engine => Sys2Proof.Machine.execEngineZeroingComplete engine s
  | .engineFault engine cause => Sys2Proof.Machine.execEngineFault engine cause s
  | .engineWatchdog engine => Sys2Proof.Machine.execEngineWatchdog engine s
  | .engineRestartReload engine => Sys2Proof.Machine.execEngineRestartReload engine s
  | .engineRestoreEnd engine => Sys2Proof.Machine.execEngineRestoreEnd engine s
  | .acceleratorJobSubmit accel engine kind reads writes => Sys2Proof.Machine.execAcceleratorJobSubmit accel engine kind reads writes s
  | .acceleratorJobComplete accel engine => Sys2Proof.Machine.execAcceleratorJobComplete accel engine s
  | .acceleratorTimeout accel => Sys2Proof.Machine.execAcceleratorTimeout accel s
  | .acceleratorMemoryError accel => Sys2Proof.Machine.execAcceleratorMemoryError accel s
  | .acceleratorWaitClear by_ accel value => Sys2Proof.Machine.execAcceleratorWaitClear by_ accel value s
  | .peakCycleLoadClear by_ engine value => Sys2Proof.Machine.execPeakCycleLoadClear by_ engine value s
  | .fmControlUpdate engine => Sys2Proof.Machine.execFmControlUpdate engine s
  | .fmMetricsPublish engine => Sys2Proof.Machine.execFmMetricsPublish engine s
  | .pilotDetected engine => Sys2Proof.Machine.execPilotDetected engine s
  | .pilotLost engine => Sys2Proof.Machine.execPilotLost engine s
  | .fmBandwidthJudge engine => Sys2Proof.Machine.execFmBandwidthJudge engine s
  | .diversityEstimate engine => Sys2Proof.Machine.execDiversityEstimate engine s
  | .diversitySelect engine => Sys2Proof.Machine.execDiversitySelect engine s
  | .inputBAbsent engine => Sys2Proof.Machine.execInputBAbsent engine s
  | .fmBlockProcess engine chain => Sys2Proof.Machine.execFmBlockProcess engine chain s
  | .rdsSyncGained engine first second => Sys2Proof.Machine.execRdsSyncGained engine first second s
  | .rdsSyncLost engine => Sys2Proof.Machine.execRdsSyncLost engine s
  | .rdsGroup engine group => Sys2Proof.Machine.execRdsGroup engine group s
  | .tmcGroup fromLantern source group => Sys2Proof.Machine.execTmcGroup fromLantern source group s
  | .tmcIncompleteTimeout index => Sys2Proof.Machine.execTmcIncompleteTimeout index s
  | .lanternPeriodEnd codes => Sys2Proof.Machine.execLanternPeriodEnd codes s
  | .lanternConfirmation source pi instant cls => Sys2Proof.Machine.execLanternConfirmation source pi instant cls s
  | .entryExpiry position => Sys2Proof.Machine.execEntryExpiry position s
  | .lanternFieldUpdate slot group => Sys2Proof.Machine.execLanternFieldUpdate slot group s
  | .lanternEventMerge position => Sys2Proof.Machine.execLanternEventMerge position s
  | .lanternClearDatabase by_ => Sys2Proof.Machine.execLanternClearDatabase by_ s
  | .lanternClearAf by_ => Sys2Proof.Machine.execLanternClearAf by_ s
  | .queryPi by_ pi => Sys2Proof.Machine.execQueryPi by_ pi s
  | .lanternRawGroup slot group => Sys2Proof.Machine.execLanternRawGroup slot group s
  | .dabNullFound engine => Sys2Proof.Machine.execDabNullFound engine s
  | .dabPrsCorrelate engine offset => Sys2Proof.Machine.execDabPrsCorrelate engine offset s
  | .dabFicAcquired engine => Sys2Proof.Machine.execDabFicAcquired engine s
  | .dabAcquisitionFail engine => Sys2Proof.Machine.execDabAcquisitionFail engine s
  | .dabSyncLost engine => Sys2Proof.Machine.execDabSyncLost engine s
  | .dabSyncRegained engine => Sys2Proof.Machine.execDabSyncRegained engine s
  | .dabLostTimeout engine => Sys2Proof.Machine.execDabLostTimeout engine s
  | .dabNullReport engine nullStart => Sys2Proof.Machine.execDabNullReport engine nullStart s
  | .dabFrameEnd engine nullStart fibs ficErrors fic offset => Sys2Proof.Machine.execDabFrameEnd engine nullStart fibs ficErrors fic offset s
  | .dabCifDecode engine cif nullStart position before symbols frames => Sys2Proof.Machine.execDabCifDecode engine cif nullStart position before symbols frames s
  | .dabReconfiguration engine cif => Sys2Proof.Machine.execDabReconfiguration engine cif s
  | .dabFigDecode engine type ext raw nullStart cif fig => Sys2Proof.Machine.execDabFigDecode engine type ext raw nullStart cif fig s
  | .dabSiCompleteTimeout engine => Sys2Proof.Machine.execDabSiCompleteTimeout engine s
  | .dabServiceSelect engine slot => Sys2Proof.Machine.execDabServiceSelect engine slot s
  | .dabAccessUnit engine slot unit => Sys2Proof.Machine.execDabAccessUnit engine slot unit s
  | .dabPacketGroup engine filter instant crcPresent crcGood lost data => Sys2Proof.Machine.execDabPacketGroup engine filter instant crcPresent crcGood lost data s
  | .announcementStart engine cluster => Sys2Proof.Machine.execAnnouncementStart engine cluster s
  | .announcementEnd engine cluster => Sys2Proof.Machine.execAnnouncementEnd engine cluster s
  | .amPlllockChange engine => Sys2Proof.Machine.execAmPlllockChange engine s
  | .amBandwidthJudge engine => Sys2Proof.Machine.execAmBandwidthJudge engine s
  | .amMetricsPublish engine => Sys2Proof.Machine.execAmMetricsPublish engine s
  | .noiseBlankerSuspend engine => Sys2Proof.Machine.execNoiseBlankerSuspend engine s
  | .amBlockProcess engine chain => Sys2Proof.Machine.execAmBlockProcess engine chain s
  | .drmModeFound engine mode => Sys2Proof.Machine.execDrmModeFound engine mode s
  | .drmFrameSync engine frameStart offset => Sys2Proof.Machine.execDrmFrameSync engine frameStart offset s
  | .drmFacAcquired engine occupancy constellation => Sys2Proof.Machine.execDrmFacAcquired engine occupancy constellation s
  | .drmSyncLost engine timing => Sys2Proof.Machine.execDrmSyncLost engine timing s
  | .drmLostTimeout engine => Sys2Proof.Machine.execDrmLostTimeout engine s
  | .drmAcquisitionFail engine => Sys2Proof.Machine.execDrmAcquisitionFail engine s
  | .drmMscFrame engine frameStart facGood cells doppler spread frames groups decoder units => Sys2Proof.Machine.execDrmMscFrame engine frameStart facGood cells doppler spread frames groups decoder units s
  | .drmSdcDecode engine superStart good services alternatives schedules utc half => Sys2Proof.Machine.execDrmSdcDecode engine superStart good services alternatives schedules utc half s
  | .drmScheduleEval engine => Sys2Proof.Machine.execDrmScheduleEval engine s
  | .drmServiceSelect engine => Sys2Proof.Machine.execDrmServiceSelect engine s
  | .drmTextMessage engine text => Sys2Proof.Machine.execDrmTextMessage engine text s
  | .candidateListUpdate origin kHz id system => Sys2Proof.Machine.execCandidateListUpdate origin kHz id system s
  | .candidateAgeOut kHz id system => Sys2Proof.Machine.execCandidateAgeOut kHz id system s
  | .identityChange => Sys2Proof.Machine.execIdentityChange s
  | .afCheck chain kHz id block1 => Sys2Proof.Machine.execAfCheck chain kHz id block1 s
  | .ensembleCheck kHz => Sys2Proof.Machine.execEnsembleCheck kHz s
  | .switchRequest row target => Sys2Proof.Machine.execSwitchRequest row target s
  | .landing kHz id system slot => Sys2Proof.Machine.execLanding kHz id system slot s
  | .landingTimeout => Sys2Proof.Machine.execLandingTimeout s
  | .blendBackReverse => Sys2Proof.Machine.execBlendBackReverse s
  | .gloamingEnable by_ => Sys2Proof.Machine.execGloamingEnable by_ s
  | .gloamingDisable by_ => Sys2Proof.Machine.execGloamingDisable by_ s
  | .slotSourceWrite by_ slot word => Sys2Proof.Machine.execSlotSourceWrite by_ slot word s
  | .lagEstimate slot => Sys2Proof.Machine.execLagEstimate slot s
  | .blendTarget by_ slot => Sys2Proof.Machine.execBlendTarget by_ slot s
  | .blendFadeReverse by_ => Sys2Proof.Machine.execBlendFadeReverse by_ s
  | .blendFadeEnd => Sys2Proof.Machine.execBlendFadeEnd s
  | .eqSelect by_ slot bank => Sys2Proof.Machine.execEqSelect by_ slot bank s
  | .eqFadeEnd slot => Sys2Proof.Machine.execEqFadeEnd slot s
  | .tonalMatchUpdate slot => Sys2Proof.Machine.execTonalMatchUpdate slot s
  | .blendOutputFrame => Sys2Proof.Machine.execBlendOutputFrame s
  | .captureArm by_ capture => Sys2Proof.Machine.execCaptureArm by_ capture s
  | .captureTriggerNow by_ capture => Sys2Proof.Machine.execCaptureTriggerNow by_ capture s
  | .captureAbort by_ capture => Sys2Proof.Machine.execCaptureAbort by_ capture s
  | .captureFree by_ capture => Sys2Proof.Machine.execCaptureFree by_ capture s
  | .captureComplete capture a b => Sys2Proof.Machine.execCaptureComplete capture a b s
  | .ringRead by_ index limit again => Sys2Proof.Machine.execRingRead by_ index limit again s
  | .streamIdentify stream => Sys2Proof.Machine.execStreamIdentify stream s
  | .rateThreshold stream => Sys2Proof.Machine.execRateThreshold stream s
  | .streamSoloStart stream => Sys2Proof.Machine.execStreamSoloStart stream s
  | .rateLoopUpdate stream => Sys2Proof.Machine.execRateLoopUpdate stream s
  | .streamFrameProduce stream => Sys2Proof.Machine.execStreamFrameProduce stream s
  | .postRoll stream => Sys2Proof.Machine.execPostRoll stream s
  | .postRollEnd stream => Sys2Proof.Machine.execPostRollEnd stream s
  | .pairSourceWrite by_ stream pair word => Sys2Proof.Machine.execPairSourceWrite by_ stream pair word s
  | .underrun stream => Sys2Proof.Machine.execUnderrun stream s
  | .reEntry stream => Sys2Proof.Machine.execReEntry stream s
  | .clockLost stream => Sys2Proof.Machine.execClockLost stream s
  | .clockReturn stream => Sys2Proof.Machine.execClockReturn stream s
  | .glitch stream => Sys2Proof.Machine.execGlitch stream s
  | .rateChange stream => Sys2Proof.Machine.execRateChange stream s
  | .groupMemberRemoved stream => Sys2Proof.Machine.execGroupMemberRemoved stream s
  | .audioFlagsClear by_ stream bits => Sys2Proof.Machine.execAudioFlagsClear by_ stream bits s
  | .channelStatusWrite by_ block => Sys2Proof.Machine.execChannelStatusWrite by_ block s
  | .userDataPacket => Sys2Proof.Machine.execUserDataPacket s
  | .radioTransition target hz => Sys2Proof.Machine.execRadioTransition target hz s
  | .synthUnlock => Sys2Proof.Machine.execSynthUnlock s
  | .calibrationStart => Sys2Proof.Machine.execCalibrationStart s
  | .calibrationComplete => Sys2Proof.Machine.execCalibrationComplete s
  | .calibrationAbort => Sys2Proof.Machine.execCalibrationAbort s
  | .calibrationOverdue calibration => Sys2Proof.Machine.execCalibrationOverdue calibration s
  | .narrowbandFrame sfd last phr psdu plain rssi snr => Sys2Proof.Machine.execNarrowbandFrame sfd last phr psdu plain rssi snr s
  | .tapCopy path sfd last phr psdu plain rssi lq => Sys2Proof.Machine.execTapCopy path sfd last phr psdu plain rssi lq s
  | .copySelectionEnd sfd => Sys2Proof.Machine.execCopySelectionEnd sfd s
  | .glimmerWord preamble rate halves => Sys2Proof.Machine.execGlimmerWord preamble rate halves s
  | .spuriousWake => Sys2Proof.Machine.execSpuriousWake s
  | .matchModeReset => Sys2Proof.Machine.execMatchModeReset s
  | .wakeRequest by_ body => Sys2Proof.Machine.execWakeRequest by_ body s
  | .radioTest by_ body => Sys2Proof.Machine.execRadioTest by_ body s
  | .linkFrameReceive => Sys2Proof.Machine.execLinkFrameReceive s
  | .ackSend => Sys2Proof.Machine.execAckSend s
  | .ackWaitExpiry handle => Sys2Proof.Machine.execAckWaitExpiry handle s
  | .ackReceive => Sys2Proof.Machine.execAckReceive s
  | .immediateFrame => Sys2Proof.Machine.execImmediateFrame s
  | .backoffExpiry handle => Sys2Proof.Machine.execBackoffExpiry handle s
  | .ccaEnd handle rssi preamble => Sys2Proof.Machine.execCcaEnd handle rssi preamble s
  | .scheduledFrame => Sys2Proof.Machine.execScheduledFrame s
  | .frameRetry handle => Sys2Proof.Machine.execFrameRetry handle s
  | .transmitReport => Sys2Proof.Machine.execTransmitReport s
  | .frameCounterRecord => Sys2Proof.Machine.execFrameCounterRecord s
  | .joinRequest => Sys2Proof.Machine.execJoinRequest s
  | .joinResponse => Sys2Proof.Machine.execJoinResponse s
  | .leave => Sys2Proof.Machine.execLeave s
  | .readings => Sys2Proof.Machine.execReadings s
  | .serviceRequest => Sys2Proof.Machine.execServiceRequest s
  | .voussoirFrame => Sys2Proof.Machine.execVoussoirFrame s
  | .rendezvous index => Sys2Proof.Machine.execRendezvous index s
  | .rendezvousMiss index => Sys2Proof.Machine.execRendezvousMiss index s
  | .wakeTrain index => Sys2Proof.Machine.execWakeTrain index s
  | .wakeTrainRetry index => Sys2Proof.Machine.execWakeTrainRetry index s
  | .phaseGate index => Sys2Proof.Machine.execPhaseGate index s
  | .downlink by_ body => Sys2Proof.Machine.execDownlink by_ body s
  | .downlinkExpiry handle => Sys2Proof.Machine.execDownlinkExpiry handle s
  | .nodeRemove by_ body => Sys2Proof.Machine.execNodeRemove by_ body s
  | .absentTimeout index => Sys2Proof.Machine.execAbsentTimeout index s
  | .joiningCountdown => Sys2Proof.Machine.execJoiningCountdown s
  | .nodeCounterRecord index => Sys2Proof.Machine.execNodeCounterRecord index s
  | .objectWrite by_ index sub data => Sys2Proof.Machine.execObjectWrite by_ index sub data s
  | .fifoRead by_ index sub limit => Sys2Proof.Machine.execFifoRead by_ index sub limit s
  | .fifoRepeatRead by_ index sub limit => Sys2Proof.Machine.execFifoRepeatRead by_ index sub limit s
  | .store by_ => Sys2Proof.Machine.execStore by_ s
  | .storeComplete ok => Sys2Proof.Machine.execStoreComplete ok s
  | .storeErase by_ => Sys2Proof.Machine.execStoreErase by_ s
  | .tokenTake by_ port => Sys2Proof.Machine.execTokenTake by_ port s
  | .tokenRelease by_ => Sys2Proof.Machine.execTokenRelease by_ s
  | .tokenHandover by_ port => Sys2Proof.Machine.execTokenHandover by_ port s
  | .tokenTimeout => Sys2Proof.Machine.execTokenTimeout s
  | .historyQuery by_ seq => Sys2Proof.Machine.execHistoryQuery by_ seq s
  | .quoinRead good seq body => Sys2Proof.Machine.execQuoinRead good seq body s
  | .quoinWrite good seq body => Sys2Proof.Machine.execQuoinWrite good seq body s
  | .initiateRead good seq body => Sys2Proof.Machine.execInitiateRead good seq body s
  | .initiateWrite good seq body => Sys2Proof.Machine.execInitiateWrite good seq body s
  | .blockRequest good seq body => Sys2Proof.Machine.execBlockRequest good seq body s
  | .segment good seq body => Sys2Proof.Machine.execSegment good seq body s
  | .endTransfer good seq body => Sys2Proof.Machine.execEndTransfer good seq body s
  | .abortTransfer good seq body => Sys2Proof.Machine.execAbortTransfer good seq body s
  | .syncRequest good seq body => Sys2Proof.Machine.execSyncRequest good seq body s
  | .transferTimeout port => Sys2Proof.Machine.execTransferTimeout port s
  | .quoinApply by_ => Sys2Proof.Machine.execQuoinApply by_ s
  | .eventFrame => Sys2Proof.Machine.execEventFrame s
  | .pdoEnable by_ frame => Sys2Proof.Machine.execPdoEnable by_ frame s
  | .pdoPeriodic frame => Sys2Proof.Machine.execPdoPeriodic frame s
  | .pdoChange frame => Sys2Proof.Machine.execPdoChange frame s
  | .quoinWatchWake edge => Sys2Proof.Machine.execQuoinWatchWake edge s
  | .quoinIdle => Sys2Proof.Machine.execQuoinIdle s
  | .busOffRecovery => Sys2Proof.Machine.execBusOffRecovery s
  | .twoWireRequest count data pec => Sys2Proof.Machine.execTwoWireRequest count data pec s
  | .twoWireResponse taken pec => Sys2Proof.Machine.execTwoWireResponse taken pec s
  | .twoWireEvents taken pec => Sys2Proof.Machine.execTwoWireEvents taken pec s
  | .twoWireResponseRepeat taken => Sys2Proof.Machine.execTwoWireResponseRepeat taken s
  | .twoWireEventsRepeat taken => Sys2Proof.Machine.execTwoWireEventsRepeat taken s
  | .twoWireStatus => Sys2Proof.Machine.execTwoWireStatus s
  | .sclTimeout => Sys2Proof.Machine.execSclTimeout s
  | .busError cause => Sys2Proof.Machine.execBusError cause s
  | .targetWake => Sys2Proof.Machine.execTargetWake s
  | .targetWakeIdle => Sys2Proof.Machine.execTargetWakeIdle s
  | .hostNotify acked => Sys2Proof.Machine.execHostNotify acked s
  | .arbitrationLost addressed => Sys2Proof.Machine.execArbitrationLost addressed s
  | .spiRequest flags length check rest => Sys2Proof.Machine.execSpiRequest flags length check rest s
  | .spiResponse flags length check taken => Sys2Proof.Machine.execSpiResponse flags length check taken s
  | .spiEvents flags length check taken => Sys2Proof.Machine.execSpiEvents flags length check taken s
  | .spiResponseRepeat flags length check => Sys2Proof.Machine.execSpiResponseRepeat flags length check s
  | .spiEventsRepeat flags length check => Sys2Proof.Machine.execSpiEventsRepeat flags length check s
  | .statusPoll => Sys2Proof.Machine.execStatusPoll s
  | .hostJob by_ data => Sys2Proof.Machine.execHostJob by_ data s
  | .contextSwitch unit master head data => Sys2Proof.Machine.execContextSwitch unit master head data s
  | .contextRestore unit => Sys2Proof.Machine.execContextRestore unit s
  | .stepToSecured by_ => Sys2Proof.Machine.execStepToSecured by_ s
  | .challengeRequest by_ => Sys2Proof.Machine.execChallengeRequest by_ s
  | .challengeExpiry => Sys2Proof.Machine.execChallengeExpiry s
  | .stepToReturned by_ rest => Sys2Proof.Machine.execStepToReturned by_ rest s
  | .revokeSlot by_ rest => Sys2Proof.Machine.execRevokeSlot by_ rest s
  | .keySlotWrite by_ slot data => Sys2Proof.Machine.execKeySlotWrite by_ slot data s
  | .keySlotErase by_ slot => Sys2Proof.Machine.execKeySlotErase by_ slot s
  | .lowerLevel by_ level => Sys2Proof.Machine.execLowerLevel by_ level s
  | .accessViolation master target right region address => Sys2Proof.Machine.execAccessViolation master target right region address s
  | .dbgChallenge => Sys2Proof.Machine.execDbgChallenge s
  | .dbgResponse response => Sys2Proof.Machine.execDbgResponse response s
  | .dbgAccess command length check rest taken => Sys2Proof.Machine.execDbgAccess command length check rest taken s
  | .coreDebug master operation count => Sys2Proof.Machine.execCoreDebug master operation count s
  | .idcode => Sys2Proof.Machine.execIdcode s
  | .dbgStatus => Sys2Proof.Machine.execDbgStatus s
  | .samplePreload register => Sys2Proof.Machine.execSamplePreload register s
  | .extest register resetN => Sys2Proof.Machine.execExtest register resetN s
  | .clamp resetN => Sys2Proof.Machine.execClamp resetN s
  | .highz resetN => Sys2Proof.Machine.execHighz resetN s
  | .bypass => Sys2Proof.Machine.execBypass s
  | .managementWatchdog => Sys2Proof.Machine.execManagementWatchdog s
  | .tapEnableWrite by_ value => Sys2Proof.Machine.execTapEnableWrite by_ value s
  | .temperatureCrossing sensor sample => Sys2Proof.Machine.execTemperatureCrossing sensor sample s
  | .supplyLevel monitor sample => Sys2Proof.Machine.execSupplyLevel monitor sample s
  | .clockMonitorFault monitor quiet locked => Sys2Proof.Machine.execClockMonitorFault monitor quiet locked s
  | .logFlush fails => Sys2Proof.Machine.execLogFlush fails s
  | .logQuery by_ seq => Sys2Proof.Machine.execLogQuery by_ seq s
  | .updateBegin by_ => Sys2Proof.Machine.execUpdateBegin by_ s
  | .eraseComplete => Sys2Proof.Machine.execEraseComplete s
  | .updateChunk by_ data => Sys2Proof.Machine.execUpdateChunk by_ data s
  | .updateFinish by_ engines catalogue => Sys2Proof.Machine.execUpdateFinish by_ engines catalogue s
  | .updateActivate by_ => Sys2Proof.Machine.execUpdateActivate by_ s
  | .updateCancel by_ => Sys2Proof.Machine.execUpdateCancel by_ s
  | .updateConfirm by_ => Sys2Proof.Machine.execUpdateConfirm by_ s
  | .trialExpiry => Sys2Proof.Machine.execTrialExpiry s
  | .safeEntry => Sys2Proof.Machine.execSafeEntry s
  | .modeRequest by_ target => Sys2Proof.Machine.execModeRequest by_ target s
  | .transitionHoldEnd => Sys2Proof.Machine.execTransitionHoldEnd s
  | .transitionComplete => Sys2Proof.Machine.execTransitionComplete s
  | .parkedEntry => Sys2Proof.Machine.execParkedEntry s
  | .wake sources rising micros => Sys2Proof.Machine.execWake sources rising micros s
  | .parkedResume hashes => Sys2Proof.Machine.execParkedResume hashes s
  | .wakeFailure => Sys2Proof.Machine.execWakeFailure s
  | .wakeInWatch rising micros => Sys2Proof.Machine.execWakeInWatch rising micros s
  | .wakeOutEnd => Sys2Proof.Machine.execWakeOutEnd s
  | .reset cause nanos kept => Sys2Proof.Machine.execReset cause nanos kept s
  | .bringUp gpio2 gpio3 goodA goodB temps supplies => Sys2Proof.Machine.execBringUp gpio2 gpio3 goodA goodB temps supplies s
  | .pathPowerUp step => Sys2Proof.Machine.execPathPowerUp step s
  | .gpioWrite by_ sub value => Sys2Proof.Machine.execGpioWrite by_ sub value s
  | .lanternMemoryError => Sys2Proof.Machine.execLanternMemoryError s
  | .frameStartEdge stream => Sys2Proof.Machine.execFrameStartEdge stream s
  | .busOff tec rec_ => Sys2Proof.Machine.execBusOff tec rec_ s
  | .estimatorWindowStart path => Sys2Proof.Machine.execEstimatorWindowStart path s
  | .preambleDetected source sfd length => Sys2Proof.Machine.execPreambleDetected source sfd length s

end Sys2Proof.Machine
end

