-- ==== Sys2Proof/Machine/Tick.lean ====
section
/-!
DEFINITION. Machine/Tick.lean: what one tick of the Gnomon does when no command waits (notes/assumptions/1.md): the count, the wake
duty cycle, the channel-access wait, the check-value units, the gain changes that land, the process-data frame that is next on the
bus, the placement of a blank that waits for its candidate, and the entry to SAFE that is due.
-/
namespace Sys2Proof.Machine

/-- The Gnomon counts ticks modulo 2^64 (R38); in PARKED the RTC's periods are counted instead (R466). -/
def State.count (s : State) : State :=
  if s.mode = .parked then { s with power := { s.power with rtcPeriods := s.power.rtcPeriods + 1 } }
  else { s with gnomon := (s.gnomon + 1) % 2 ^ 64 }

/-- The waiting process-data frame of least identifier transmitted, where an event frame of a lower identifier does not go first
(R373, R382). -/
def State.tickPdo (s : State) : State :=
  let st := s.nat 0x104101
  match leastId s.pdoWaiting with
  | some w => if (st = 2 ∨ st = 3) ∧ pdoMode s.mode ∧ !s.eventFrameDue then s.sendPdo w.2 else s
  | none => s

/-- The accelerators' slots (R134). -/
def State.tickAccels (s : State) : State := (List.range 8).foldl (fun s a => s.tickAccel a) s

/-- A path's placement (R92 to R94): by the protected ensemble as it now is; a repeating test's next window is announced. -/
def State.tickPlumb (p : Nat) (s : State) : State := ((s.rejudgeNulls p).tryPlace p).announceTest p

/-- One tick. -/
def State.tick (s : State) : State := (((((s.count.tickWake).tickBackoff).tickCv 0).tickCv 1).tickCv 2).tickCv 3 |>.tickGain 0 |>.tickGain 1 |>.tickAccels |>.tickLoads |>.tickPdo |>.tickPlumb 0 |>.tickPlumb 1 |>.tickSafe

end Sys2Proof.Machine
end

