-- ==== Sys2Proof/WellFormed.lean ====
section
/-!
DEFINITION. WellFormed.lean: which commands are well formed: every operand fits the field or the set of units that the specification gives it.
-/
namespace Sys2Proof

open Machine

/-! ### Fields -/

def u8 (n : Nat) : Bool := n < 2 ^ 8
def u16 (n : Nat) : Bool := n < 2 ^ 16
def u32 (n : Nat) : Bool := n < 2 ^ 32
def u64 (n : Nat) : Bool := n < 2 ^ 64
def i16 (i : Int) : Bool := -2 ^ 15 ≤ i && i < 2 ^ 15
def i32 (i : Int) : Bool := -2 ^ 31 ≤ i && i < 2 ^ 31

/-- A byte string holds bytes. -/
def bytesOk (b : Bytes) : Bool := b.all u8

/-! ### Units (R22) -/

def engineOk (n : Nat) : Bool := n < 12
def pathOk (n : Nat) : Bool := n < 2
def chainOk (n : Nat) : Bool := n < 32
def accelOk (n : Nat) : Bool := n < 8
def courseOk (n : Nat) : Bool := n < 48

/-- An audio stream: the objects 0x5000 to 0x5003, and 0x5004. -/
def streamOk (n : Nat) : Bool := n < 5

/-- A launch entry (R43). -/
def entryOk (n : Nat) : Bool := n < 64

/-- A capture descriptor (R251). -/
def captureOk (n : Nat) : Bool := n < 4

/-- A lock group (R56). -/
def groupOk (n : Nat) : Bool := 1 ≤ n && n ≤ 8

/-- A process-data frame (R381). -/
def frameOk (n : Nat) : Bool := n < 16

/-- A port by its place among the ports. -/
def portOk (n : Nat) : Bool := n < 4

/-! ### Records -/

/-- The ADC codes of a stretch have 12 bits (R75). -/
def adcOk (x : AdcSpan) : Bool := u64 x.first && x.codes.all fun c => -2048 ≤ c && c ≤ 2047

/-- A node's extended address has 64 bits (R302). -/
def requesterOk : Requester → Bool
  | .node e => u64 e
  | _ => true

/-- An RDS group has four 16-bit blocks with a class from 0 to 3 each (R157). -/
def rdsGroupOk (g : RdsGroup) : Bool :=
  u64 g.instant && g.blocks.length == 4 && g.blocks.all u16 && g.classes.length == 4 && g.classes.all fun c => decide (c ≤ 3)

/-- A symbol has 1,536 carriers and a weight for each (R185). -/
def dabSymbolOk : Option DabSymbol → Bool
  | some x => x.z.length == 1536 && x.h.length == 1536
  | none => true

/-- An access unit's codec byte fields, 24-bit samples and X-PAD groups (R193, R215). -/
def audioUnitOk (u : AudioUnit) : Bool :=
  u8 u.taken && decide (u.codec < 8) && decide (u.rate < 8)
    && (u.samples.all fun x => decide (-8388608 ≤ x.1 ∧ x.1 < 8388608 ∧ -8388608 ≤ x.2 ∧ x.2 < 8388608))
    && u.pads.all fun g => u8 g.app && bytesOk g.data

/-- A cell stands in one of at most 40 symbols (R208). -/
def drmCellOk : Option DrmCell → Bool
  | some x => decide (x.symbol < 40)
  | none => true

/-- Whether a command is well formed. -/
def Instr.wellFormed : Instr → Bool
  | .claim by_ unit _ param => requesterOk by_ && u16 unit && u8 param
  | .claimAcceleratorShares by_ unit _ shares => requesterOk by_ && u16 unit && u8 shares
  | .configure by_ unit => requesterOk by_ && u16 unit
  | .courseConfigure by_ course => requesterOk by_ && courseOk course
  | .start by_ unit instant => requesterOk by_ && u16 unit && u64 instant
  | .hold by_ unit instant => requesterOk by_ && u16 unit && u64 instant
  | .resume by_ unit instant => requesterOk by_ && u16 unit && u64 instant
  | .release by_ unit => requesterOk by_ && u16 unit
  | .releaseAcceleratorShares by_ unit => requesterOk by_ && u16 unit
  | .launchPlace by_ instant phase kind flags target period count param => requesterOk by_ && u64 instant && u32 phase &&
      u8 kind && u32 flags && u16 target && u64 period && u32 count && bytesOk param
  | .launchCancel by_ entry => requesterOk by_ && entryOk entry
  | .launchStartFiring entry => entryOk entry
  | .courseLeafPrepare entry => entryOk entry
  | .launchHoldFiring entry => entryOk entry
  | .courseRankHeld unit => u16 unit
  | .launchResumeFiring entry => entryOk entry
  | .chainRetune entry => entryOk entry
  | .antennaSwitch entry => entryOk entry
  | .portGroupStart entry => entryOk entry
  | .plumbBlank entry => entryOk entry
  | .plumbTrimChange path => pathOk path
  | .plumbBlankEnd path => pathOk path
  | .meshTx entry => entryOk entry
  | .gpioChange entry => entryOk entry
  | .captureTrigger entry => entryOk entry
  | .tbSyncPulse entry => entryOk entry
  | .lockGroupWrite by_ group bitmap => requesterOk by_ && groupOk group && u32 bitmap
  | .tbSyncFollowerLoad => true
  | .tbSyncCheck => true
  | .clkOutEnableWrite by_ value => requesterOk by_ && u32 value
  | .agcWindowEnd path codes => pathOk path && codes.length == 4096 && codes.all fun c => -2048 ≤ c && c ≤ 2047
  | .agcReleaseStep path => pathOk path
  | .lnaTrip path => pathOk path
  | .manualGrWrite by_ path gr => requesterOk by_ && pathOk path && u8 gr
  | .agcModeWrite by_ path mode => requesterOk by_ && pathOk path && u8 mode
  | .amAttenuationStep level => i16 level
  | .sampleClockUnlock lastGood => u64 lastGood
  | .sampleClockRelock => true
  | .overloadFlagsClear by_ path bits => requesterOk by_ && pathOk path && u32 bits
  | .antennaShort path current => pathOk path && u16 current
  | .antennaCurrentJudge path codes => pathOk path && codes.length == 100 && codes.all (· < 1024)
  | .antennaRetry path => pathOk path
  | .antennaRestore by_ path value => requesterOk by_ && pathOk path && u32 value
  | .plumbWindowEnd path sums => pathOk path && sums.first.sums.length == 16 && sums.second.sums.length == 16
  | .plumbProposalReady path => pathOk path
  | .plumbPostCheck path => pathOk path
  | .plumbProtectedLost path => pathOk path
  | .plumbRunCycle by_ path => requesterOk by_ && pathOk path
  | .plumbRestoreKept by_ path => requesterOk by_ && pathOk path
  | .plumbLoadFactory by_ path => requesterOk by_ && pathOk path
  | .plumbApplyStaged by_ path => requesterOk by_ && pathOk path
  | .plumbBlankTestStart by_ path => requesterOk by_ && pathOk path
  | .plumbBlankTestStop by_ path => requesterOk by_ && pathOk path
  | .plumbModeWrite by_ path mode => requesterOk by_ && pathOk path && u8 mode
  | .responseSelect by_ chain response => requesterOk by_ && chainOk chain && u8 response
  | .fadeReverse by_ chain => requesterOk by_ && chainOk chain
  | .fadeEnd chain => chainOk chain
  | .dcFreezeWrite by_ chain value => requesterOk by_ && chainOk chain && u32 value
  | .chainBlockOut chain a b saturated => chainOk chain && adcOk a && adcOk b && u16 saturated
  | .saturationClear by_ chain bits => requesterOk by_ && chainOk chain && u32 bits
  | .detectorBlockEnd chain a b _ => chainOk chain && adcOk a && adcOk b
  | .detectorSettingWrite by_ chain sub value => requesterOk by_ && chainOk chain && u8 sub && i32 value
  | .engineLoadComplete engine _ => engineOk engine
  | .engineZeroingComplete engine => engineOk engine
  | .engineFault engine cause => engineOk engine && u8 cause
  | .engineWatchdog engine => engineOk engine
  | .engineRestartReload engine => engineOk engine
  | .engineRestoreEnd engine => engineOk engine
  | .acceleratorJobSubmit accel engine kind reads writes => accelOk accel && engineOk engine && kind.fits &&
      (reads ++ writes).all fun r => u32 r.1 && u32 r.2
  | .acceleratorJobComplete accel engine => accelOk accel && engineOk engine
  | .acceleratorTimeout accel => accelOk accel
  | .acceleratorMemoryError accel => accelOk accel
  | .acceleratorWaitClear by_ accel value => requesterOk by_ && accelOk accel && u32 value
  | .peakCycleLoadClear by_ engine value => requesterOk by_ && engineOk engine && u32 value
  | .fmControlUpdate engine => engineOk engine
  | .fmMetricsPublish engine => engineOk engine
  | .pilotDetected engine => engineOk engine
  | .pilotLost engine => engineOk engine
  | .fmBandwidthJudge engine => engineOk engine
  | .diversityEstimate engine => engineOk engine
  | .diversitySelect engine => engineOk engine
  | .inputBAbsent engine => engineOk engine
  | .fmBlockProcess engine chain => engineOk engine && chainOk chain
  | .rdsSyncGained engine first second => engineOk engine && decide (first < 2 ^ 26) && decide (second < 2 ^ 26)
  | .rdsSyncLost engine => engineOk engine
  | .rdsGroup engine group => engineOk engine && rdsGroupOk group
  | .tmcGroup _ source group => u8 source && rdsGroupOk group
  | .tmcIncompleteTimeout index => u16 index
  | .lanternPeriodEnd codes => adcOk codes
  | .lanternConfirmation source pi instant cls => u32 source && u16 pi && u64 instant && cls ≤ 3
  | .entryExpiry position => u32 position
  | .lanternFieldUpdate slot group => u16 slot && rdsGroupOk group
  | .lanternEventMerge position => u32 position
  | .lanternClearDatabase by_ => requesterOk by_
  | .lanternClearAf by_ => requesterOk by_
  | .queryPi by_ pi => requesterOk by_ && u16 pi
  | .lanternRawGroup slot group => u16 slot && rdsGroupOk group
  | .dabNullFound engine => engineOk engine
  | .dabPrsCorrelate engine offset => engineOk engine && i32 offset
  | .dabFicAcquired engine => engineOk engine
  | .dabAcquisitionFail engine => engineOk engine
  | .dabSyncLost engine => engineOk engine
  | .dabSyncRegained engine => engineOk engine
  | .dabLostTimeout engine => engineOk engine
  | .dabNullReport engine nullStart => engineOk engine && u64 nullStart
  | .dabFrameEnd engine nullStart fibs ficErrors fic offset => engineOk engine && u64 nullStart &&
      decide (fibs.length ≤ 12) && u16 ficErrors && fic.length == 3 && i32 offset
  | .dabCifDecode engine cif nullStart position before symbols frames => engineOk engine && decide (cif < 5000) &&
      u64 nullStart && decide (position < 4) && before.length == 1536 && symbols.length == 18 && symbols.all dabSymbolOk &&
      frames.all fun f => bytesOk f.data
  | .dabReconfiguration engine cif => engineOk engine && u16 cif
  | .dabFigDecode engine type ext raw nullStart cif _ => engineOk engine && u8 type && u8 ext && bytesOk raw &&
      u64 nullStart && u16 cif
  | .dabSiCompleteTimeout engine => engineOk engine
  | .dabServiceSelect engine slot => engineOk engine && u8 slot
  | .dabAccessUnit engine slot unit => engineOk engine && u8 slot && unit.all audioUnitOk
  | .dabPacketGroup engine filter instant _ _ _ data => engineOk engine && u8 filter && u64 instant && bytesOk data
  | .announcementStart engine cluster => engineOk engine && u8 cluster
  | .announcementEnd engine cluster => engineOk engine && u8 cluster
  | .amPlllockChange engine => engineOk engine
  | .amBandwidthJudge engine => engineOk engine
  | .amMetricsPublish engine => engineOk engine
  | .noiseBlankerSuspend engine => engineOk engine
  | .amBlockProcess engine chain => engineOk engine && chainOk chain
  | .drmModeFound engine mode => engineOk engine && u8 mode
  | .drmFrameSync engine frameStart offset => engineOk engine && u64 frameStart && i32 offset
  | .drmFacAcquired engine occupancy constellation => engineOk engine && u8 occupancy && u8 constellation
  | .drmSyncLost engine _ => engineOk engine
  | .drmLostTimeout engine => engineOk engine
  | .drmAcquisitionFail engine => engineOk engine
  | .drmMscFrame engine frameStart _ cells doppler spread frames _ decoder units => engineOk engine && u64 frameStart &&
      cells.all drmCellOk && u16 doppler && u16 spread && frames.all bytesOk && u8 decoder && units.all audioUnitOk
  | .drmSdcDecode engine superStart _ _ _ _ _ half => engineOk engine && u64 superStart && i16 half
  | .drmScheduleEval engine => engineOk engine
  | .drmServiceSelect engine => engineOk engine
  | .drmTextMessage engine text => engineOk engine && bytesOk text
  | .candidateListUpdate origin kHz id system => u8 origin && u32 kHz && u32 id && u8 system
  | .candidateAgeOut kHz id system => u32 kHz && u32 id && u8 system
  | .identityChange => true
  | .afCheck chain kHz id block1 => chainOk chain && u32 kHz && u32 id && block1.all fun v => u16 v.1 && decide (v.2 < 4)
  | .ensembleCheck kHz => u32 kHz
  | .switchRequest row target => u8 row && u16 target
  | .landing kHz id system slot => u32 kHz && u32 id && u8 system && u8 slot
  | .landingTimeout => true
  | .blendBackReverse => true
  | .gloamingEnable by_ => requesterOk by_
  | .gloamingDisable by_ => requesterOk by_
  | .slotSourceWrite by_ slot word => requesterOk by_ && u8 slot && u32 word
  | .lagEstimate slot => u8 slot
  | .blendTarget by_ slot => requesterOk by_ && u8 slot
  | .blendFadeReverse by_ => requesterOk by_
  | .blendFadeEnd => true
  | .eqSelect by_ slot bank => requesterOk by_ && u8 slot && u8 bank
  | .eqFadeEnd slot => u8 slot
  | .tonalMatchUpdate slot => u8 slot
  | .blendOutputFrame => true
  | .captureArm by_ capture => requesterOk by_ && captureOk capture
  | .captureTriggerNow by_ capture => requesterOk by_ && captureOk capture
  | .captureAbort by_ capture => requesterOk by_ && captureOk capture
  | .captureFree by_ capture => requesterOk by_ && captureOk capture
  | .captureComplete capture a b => captureOk capture && adcOk a && adcOk b
  | .ringRead by_ index limit _ => requesterOk by_ && u16 index && u32 limit
  | .streamIdentify stream => streamOk stream
  | .rateThreshold stream => streamOk stream
  | .streamSoloStart stream => streamOk stream
  | .rateLoopUpdate stream => streamOk stream
  | .streamFrameProduce stream => streamOk stream
  | .postRoll stream => streamOk stream
  | .postRollEnd stream => streamOk stream
  | .pairSourceWrite by_ stream pair word => requesterOk by_ && streamOk stream && u8 pair && u32 word
  | .underrun stream => streamOk stream
  | .reEntry stream => streamOk stream
  | .clockLost stream => streamOk stream
  | .clockReturn stream => streamOk stream
  | .glitch stream => streamOk stream
  | .rateChange stream => streamOk stream
  | .groupMemberRemoved stream => streamOk stream
  | .audioFlagsClear by_ stream bits => requesterOk by_ && streamOk stream && u32 bits
  | .channelStatusWrite by_ block => requesterOk by_ && bytesOk block
  | .userDataPacket => true
  | .radioTransition target hz => u16 target && u32 hz
  | .synthUnlock => true
  | .calibrationStart => true
  | .calibrationComplete => true
  | .calibrationAbort => true
  | .calibrationOverdue calibration => u8 calibration
  | .narrowbandFrame sfd last phr psdu plain rssi snr => u64 sfd && u64 last && u16 phr.length && bytesOk psdu && plain.all bytesOk && i16 rssi && i16 snr
  | .tapCopy path sfd last phr psdu plain rssi lq => pathOk path && u64 sfd && u64 last && u16 phr.length && bytesOk psdu && plain.all bytesOk &&
      i16 rssi && u8 lq
  | .copySelectionEnd sfd => u64 sfd
  | .glimmerWord preamble rate halves => u16 preamble && u32 rate && halves.length ≤ 1000
  | .spuriousWake => true
  | .matchModeReset => true
  | .wakeRequest by_ body => requesterOk by_ && bytesOk body
  | .radioTest by_ body => requesterOk by_ && bytesOk body
  | .linkFrameReceive => true
  | .ackSend => true
  | .ackWaitExpiry handle => u16 handle
  | .ackReceive => true
  | .immediateFrame => true
  | .backoffExpiry handle => u16 handle
  | .ccaEnd handle rssi _ => u16 handle && i16 rssi
  | .scheduledFrame => true
  | .frameRetry handle => u16 handle
  | .transmitReport => true
  | .frameCounterRecord => true
  | .joinRequest => true
  | .joinResponse => true
  | .leave => true
  | .readings => true
  | .serviceRequest => true
  | .voussoirFrame => true
  | .rendezvous index => u16 index
  | .rendezvousMiss index => u16 index
  | .wakeTrain index => u16 index
  | .wakeTrainRetry index => u16 index
  | .phaseGate index => u16 index
  | .downlink by_ body => requesterOk by_ && bytesOk body
  | .downlinkExpiry handle => u16 handle
  | .nodeRemove by_ body => requesterOk by_ && bytesOk body
  | .absentTimeout index => u16 index
  | .joiningCountdown => true
  | .nodeCounterRecord index => u16 index
  | .objectWrite by_ index sub data => requesterOk by_ && u16 index && u8 sub && bytesOk data
  | .fifoRead by_ index sub limit => requesterOk by_ && u16 index && u8 sub && u32 limit
  | .fifoRepeatRead by_ index sub limit => requesterOk by_ && u16 index && u8 sub && u32 limit
  | .store by_ => requesterOk by_
  | .storeComplete _ => true
  | .storeErase by_ => requesterOk by_
  | .tokenTake by_ port => requesterOk by_ && portOk port
  | .tokenRelease by_ => requesterOk by_
  | .tokenHandover by_ port => requesterOk by_ && portOk port
  | .tokenTimeout => true
  | .historyQuery by_ seq => requesterOk by_ && u32 seq
  | .quoinRead _ seq body => u8 seq && bytesOk body
  | .quoinWrite _ seq body => u8 seq && bytesOk body
  | .initiateRead _ seq body => u8 seq && bytesOk body
  | .initiateWrite _ seq body => u8 seq && bytesOk body
  | .blockRequest _ seq body => u8 seq && bytesOk body
  | .segment _ seq body => u8 seq && bytesOk body
  | .endTransfer _ seq body => u8 seq && bytesOk body
  | .abortTransfer _ seq body => u8 seq && bytesOk body
  | .syncRequest _ seq body => u8 seq && bytesOk body
  | .transferTimeout port => portOk port
  | .quoinApply by_ => requesterOk by_
  | .eventFrame => true
  | .pdoEnable by_ frame => requesterOk by_ && frameOk frame
  | .pdoPeriodic frame => frameOk frame
  | .pdoChange frame => frameOk frame
  | .quoinWatchWake _ => true
  | .quoinIdle => true
  | .busOffRecovery => true
  | .twoWireRequest count data pec => u8 count && bytesOk data && pec.all u8
  | .twoWireResponse _ _ => true
  | .twoWireEvents _ _ => true
  | .twoWireResponseRepeat _ => true
  | .twoWireEventsRepeat _ => true
  | .twoWireStatus => true
  | .sclTimeout => true
  | .busError cause => u8 cause
  | .targetWake => true
  | .targetWakeIdle => true
  | .hostNotify _ => true
  | .arbitrationLost _ => true
  | .spiRequest flags length check rest => flags < 16 && u16 length && u8 check && bytesOk rest
  | .spiResponse flags length check _ => flags < 16 && u16 length && u8 check
  | .spiEvents flags length check _ => flags < 16 && u16 length && u8 check
  | .spiResponseRepeat flags length check => flags < 16 && u16 length && u8 check
  | .spiEventsRepeat flags length check => flags < 16 && u16 length && u8 check
  | .statusPoll => true
  | .hostJob by_ data => requesterOk by_ && bytesOk data
  | .contextSwitch unit master head data => u16 unit && u8 master && bytesOk head && bytesOk data
  | .contextRestore unit => u16 unit
  | .stepToSecured by_ => requesterOk by_
  | .challengeRequest by_ => requesterOk by_
  | .challengeExpiry => true
  | .stepToReturned by_ rest => requesterOk by_ && bytesOk rest
  | .revokeSlot by_ rest => requesterOk by_ && bytesOk rest
  | .keySlotWrite by_ slot data => requesterOk by_ && u8 slot && bytesOk data
  | .keySlotErase by_ slot => requesterOk by_ && u8 slot
  | .lowerLevel by_ level => requesterOk by_ && u8 level
  | .accessViolation master target right region address => u8 master && u16 target && u8 right && u8 region && u32 address
  | .dbgChallenge => true
  | .dbgResponse response => bytesOk response
  | .dbgAccess command length check rest _ => u8 command && u16 length && u8 check && bytesOk rest
  | .coreDebug master operation count => u8 master && u8 operation && u32 count
  | .idcode => true
  | .dbgStatus => true
  | .samplePreload register => bytesOk register
  | .extest register _ => bytesOk register
  | .clamp _ => true
  | .highz _ => true
  | .bypass => true
  | .managementWatchdog => true
  | .tapEnableWrite by_ value => requesterOk by_ && u32 value
  | .temperatureCrossing sensor sample => u8 sensor && i16 sample
  | .supplyLevel monitor sample => u8 monitor && u16 sample
  | .clockMonitorFault monitor quiet _ => u8 monitor && u32 quiet
  | .logFlush _ => true
  | .logQuery by_ seq => requesterOk by_ && u32 seq
  | .updateBegin by_ => requesterOk by_
  | .eraseComplete => true
  | .updateChunk by_ data => requesterOk by_ && bytesOk data
  | .updateFinish by_ _ catalogue => requesterOk by_ && catalogue.all bytesOk
  | .updateActivate by_ => requesterOk by_
  | .updateCancel by_ => requesterOk by_
  | .updateConfirm by_ => requesterOk by_
  | .trialExpiry => true
  | .safeEntry => true
  | .modeRequest by_ target => requesterOk by_ && u16 target
  | .transitionHoldEnd => true
  | .transitionComplete => true
  | .parkedEntry => true
  | .wake sources _ micros => u8 sources && u32 micros
  | .parkedResume hashes => hashes.length == 4 && hashes.all bytesOk
  | .wakeFailure => true
  | .wakeInWatch _ micros => u32 micros
  | .wakeOutEnd => true
  | .reset cause nanos _ => u8 cause && u32 nanos
  | .bringUp _ _ _ _ temps supplies => temps.all i32 && supplies.all u32
  | .pathPowerUp step => u8 step
  | .gpioWrite by_ sub value => requesterOk by_ && u8 sub && u32 value
  | .lanternMemoryError => true
  | .frameStartEdge stream => streamOk stream
  | .busOff tec rec_ => u16 tec && u16 rec_
  | .estimatorWindowStart path => pathOk path
  | .preambleDetected source sfd length => u8 source && (sfd.all u64) && length.all u16

end Sys2Proof
end

