-- ==== Sys2Proof/Safety.lean ====
section
/-!
DEFINITION. Safety.lean: the terms in which statements speak of the block: a command that completes, a write that is accepted, and the
canonical form of the dictionary.
-/
namespace Sys2Proof.Machine

/-- A command that answers a next state in which P holds. -/
def Gives (c : Instr) (s : State) (P : State → Prop) : Prop := ∃ t, exec c s = .next t ∧ P t

/-- A write that passes every check before its act (R349): the automatic take of R361 comes first; then checks 1 to 10; then, for a
subindex whose refusals do not appear in a paired result, the ranges of its table. -/
abbrev State.Accepts (s : State) (r : Requester) (key : Nat) (b : Bytes) : Prop :=
  (s.autoTake r key).judgeWrite r key b = 0 ∧ ((pairedRes key).isSome ∨ rangeCheck key b = 0)

/-- A verb block that is acted on (R22, R349): the write is accepted, no outcome is awaited, the unit exists. -/
abbrev State.VerbTaken (s : State) (r : Requester) (u : Nat) (b : Bytes) : Prop :=
  s.Accepts r 0x201001 b ∧ s.awaiting.contains 0x201002 = false ∧ unitExists u = true

/-- A verb block that reaches its verb (R25 to R27): no parent course and no pending verb or load stands in the way. -/
abbrev State.VerbReady (s : State) (r : Requester) (u : Nat) (b : Bytes) : Prop :=
  s.VerbTaken r u b ∧ (u / 256 = 6 ∨ s.parent u = 0xFFFF) ∧ s.verbPending u = false
    ∧ (u / 256 = 2 → s.loads.contains (u % 256) = false)

/-- A sequence that a port does not hold a response for (R366). -/
abbrev State.Unkept (s : State) (p seq : Nat) : Prop := (s.port p).kept.map (·.1) ≠ some seq

/-- The Quoin controller takes request frames (R386): active or error-passive. -/
abbrev State.QuoinServes (s : State) : Prop := s.nat 0x104101 = 2 ∨ s.nat 0x104101 = 3

/-- A subindex, no FIFO object and no result that is not ready, that a requester reads in at most n bytes (R349). -/
abbrev State.Readable (s : State) (r : Requester) (key n : Nat) : Prop :=
  s.judgeRead r key = 0 ∧ fifoKey key = false ∧ (findRow key).map (fun w => s.unready key w.acc) ≠ some true
    ∧ (s.readBytes key).length ≤ n

/-- An RW or RWS subindex of 0x1000 to 0x1FFF whose value is its own, with no rule beside its range: those of the port
configurations 0x1040 and 0x1050 apart. -/
abbrev PlainRow (i j : Nat) (row : Row) : Prop :=
  0x1000 ≤ i ∧ i ≤ 0x1FFF ∧ i ≠ 0x1040 ∧ i ≠ 0x1050 ∧ j < 256 ∧ findRow (obj i j) = some row ∧ (row.acc = .rw ∨ row.acc = .rws)

/-- Every subindex keeps its value but those of the index ranges listed and those that raising an event may write. -/
def State.KeepsOutside (s t : State) (ranges : List (Nat × Nat)) : Prop :=
  ∀ k, k ∉ eventKeys → (∀ r ∈ ranges, ¬(r.1 ≤ k / 256 ∧ k / 256 ≤ r.2)) → t.val k = s.val k

/-- The dictionary and its committed copies are in the one canonical form: subindices rising, none at its default. -/
abbrev State.Canonical (s : State) : Prop := Map.wf dflt s.dict = true ∧ Map.wf dflt s.committed = true

end Sys2Proof.Machine
end

