-- ==== Sys2Proof/Certificates/Slice0/Obligations.lean ====
section
/-!
DEFINITION. Certificates/Slice0/Obligations.lean: the statements of this model, for the provers.
-/
open Sys2Proof Sys2Proof.Machine

/-! ### RF inputs and Plumb -/

/-- RF commands (R65, R69 to R73, R76, R79): what each leaves where it acts. -/
def Obligations.RfCompletes : Prop :=
  (∀ path codes (s : State), path < 2 → 2 ≤ s.nat (obj (0x3000 + path) 1) → s.gnomon % 256 = 0 →
    Gives (.agcWindowEnd path codes) s fun t =>
      t.num (obj (0x3000 + path) 0x0B) = (s.publishLevels path codes).num (obj (0x3000 + path) 0x0B) ∧
      t.num (obj (0x3000 + path) 0x0C) = (s.publishLevels path codes).num (obj (0x3000 + path) 0x0C))
  ∧ (∀ path codes (s : State), path < 2 → 2 ≤ s.nat (obj (0x3000 + path) 1) → s.gnomon % 256 = 0 →
    s.nat (obj (0x3000 + path) 2) ≠ 0 → (clipsOf s.gnomon codes).isSome = true →
    Gives (.agcWindowEnd path codes) s fun t =>
      (landing (s.gnomon + 8), GainMove.rise 6) ∈ (t.path path).moves ∧ bitOf (t.nat (obj (0x3000 + path) 0x10)) 0 = true)
  ∧ (∀ path s, path < 2 → s.releaseDue path = true → s.releaseHeld path = false →
      Gives (.agcReleaseStep path) s fun t =>
        (landing s.gnomon, GainMove.fall) ∈ (t.path path).moves ∧ (t.path path).lastRelease = some (landing s.gnomon))
  ∧ (∀ path (s : State), path < 2 → 2 ≤ s.nat (obj (0x3000 + path) 1) →
      Gives (.lnaTrip path) s fun t =>
        (landing s.gnomon, GainMove.trip) ∈ (t.path path).moves ∧ bitOf (t.nat (obj (0x3000 + path) 0x10)) 1 = true)
  ∧ (∀ path land (s : State), path < 2 → s.nat (obj (0x3000 + path) 7) = 0 → s.linked = false →
      (s.landGain path land .trip).nat (obj (0x3000 + path) 7) = 1 ∧
        (s.landGain path land .trip).nat (obj (0x3000 + path) 6) = s.nat (obj (0x3000 + path) 6) + 12)
  ∧ (∀ path land (s : State), path < 2 → s.linked = false → s.nat (obj (0x3000 + path) 4) < s.nat (obj (0x3000 + path) 6) →
      s.nat (obj (0x3000 + path) 6) ≤ 30 → s.nat (obj (0x3000 + path) 7) = 0 →
      (s.landGain path land .fall).nat (obj (0x3000 + path) 6) = s.nat (obj (0x3000 + path) 6) - 1)
  ∧ (∀ r path gr (s : State), path < 2 → s.Accepts r (obj (0x3000 + path) 3) (leNat 1 gr) → s.nat (obj (0x3000 + path) 2) = 0 →
      Gives (.manualGrWrite r path gr) s fun t => t.nat (obj (0x3000 + path) 3) = gr ∧
        (2 ≤ s.nat (obj (0x3000 + path) 1) → (landing (s.gnomon + 8), GainMove.manual gr) ∈ (t.path path).moves))
  ∧ (∀ r path mode (s : State), path < 2 → s.Accepts r (obj (0x3000 + path) 2) (leNat 1 mode) →
      Gives (.agcModeWrite r path mode) s fun t => t.nat (obj (0x3000 + path) 2) = mode)
  ∧ (∀ level (s : State), s.nat 0x300020 = 1 → s.nat 0x300022 = 1 → s.nat 0x300001 = 2 → -100 < level →
      Gives (.amAttenuationStep level) s fun t =>
        (landing s.gnomon, GainMove.am (min 36 (s.nat 0x300023 + 6))) ∈ (t.path 0).moves ∧ t.amQuietSince = none)
  ∧ (∀ r path bits (s : State), path < 2 → s.Accepts r (obj (0x3000 + path) 0x10) (leNat 1 bits) →
      Gives (.overloadFlagsClear r path bits) s fun t =>
        t.nat (obj (0x3000 + path) 0x10) = clearWritten 8 (s.nat (obj (0x3000 + path) 0x10)) bits)
  ∧ (∀ path current s, path < 2 → (s.antenna path).enable = true → s.shorted path current = true →
      Gives (.antennaShort path current) s fun t => (t.antenna path).enable = false ∧
        t.nat (obj (0x3010 + path) 7) = if s.nat (obj (0x3010 + path) 8) ≤ (s.antenna path).retries then 5 else 4)
  ∧ (∀ path codes s, path < 2 → codes.length = 100 → (s.antenna path).meanAt = none →
      Gives (.antennaCurrentJudge path codes) s fun t =>
        t.nat (obj (0x3010 + path) 6) = min 65535 (s.senseMean path codes))
  ∧ (∀ path since s, path < 2 → s.nat (obj (0x3010 + path) 7) = 4 → s.antennaMode path = true →
      (s.antenna path).retries < s.nat (obj (0x3010 + path) 8) → (s.antenna path).faultAt = some since →
      since + 153600000 ≤ s.gnomon →
      Gives (.antennaRetry path) s fun t => (t.antenna path).enable = true ∧ t.nat (obj (0x3010 + path) 7) = 1)
  ∧ (∀ r path value s, path < 2 → s.Accepts r (obj (0x3010 + path) 9) (leNat 1 value) →
      s.nat (obj (0x3010 + path) 7) = 5 →
      Gives (.antennaRestore r path value) s fun t => t.nat (obj (0x3010 + path) 7) ≤ 1)
  ∧ (∀ lastGood s, s.nat 0x300001 = 2 →
      Gives (.sampleClockUnlock lastGood) s fun t =>
        t.nat 0x300001 = 3 ∧ t.nat 0x700202 = 1 ∧ s.gnomon ∈ t.power.unlocks)

/-- Plumb commands (R83, R86 to R97): what each leaves where it acts. -/
def Obligations.PlumbCompletes : Prop :=
  (∀ path sums s, path < 2 → (s.plumbOf path).phase = .window → (s.plumbOf path).stats = none →
    (s.plumbOf path).windowStart + 16777216 ≤ s.gnomon →
    Gives (.plumbWindowEnd path sums) s fun t => t.nat (obj (0x3020 + path) 8) = satAdd 32 (s.nat (obj (0x3020 + path) 8)) 1)
  ∧ (∀ path w s, path < 2 → (s.plumbOf path).phase = .proposal → (s.plumbOf path).stats = some w → s.preCheck path w = 0 →
      w.whole.all Trim.noChange = true →
      Gives (.plumbProposalReady path) s fun t => t.nat (obj (0x3020 + path) 0x0D) = 2)
  ∧ (∀ path w s, path < 2 → (s.plumbOf path).phase = .post → (s.plumbOf path).stats = some w →
      w.o ≤ (s.plumbOf path).prevO + 30 → w.g ≤ (s.plumbOf path).prevG + 30 →
      Gives (.plumbPostCheck path) s fun t => t.nat (obj (0x3020 + path) 0x0D) = 1)
  ∧ (∀ path s, path < 2 →
      Gives (.plumbProtectedLost path) s fun t => (t.plumbOf path).nullStart = none)
  ∧ (∀ entry e s, s.dueEntry entry [7] = some e → e.target = 0x800 → 2 ≤ s.nat 0x300001 →
      Gives (.plumbBlank entry) s fun t =>
        (t.path 0).blankOpen = true ∧ ((t.plumbOf 0).blanks.map (·.at_)).getLast? = some e.instant)
  ∧ (∀ path b s, path < 2 → (s.plumbOf path).changing = some b → b.at_ + 384 ≤ s.gnomon →
      Gives (.plumbTrimChange path) s fun t =>
        t.trims 0x3026 path = s.trims 0x3024 path ∧ t.nat (obj (0x3020 + path) 0x10) = b.at_ + 384 ∧
        (∀ i, i < 16 → t.nat (obj (0x3024 + path) (i + 1)) = nthD b.job.target i 0))
  ∧ (∀ path b s, path < 2 → (s.plumbOf path).blanks.head? = some b → b.at_ + 1920 ≤ s.gnomon → b.job.action = 0 →
      Gives (.plumbBlankEnd path) s fun t => (t.plumbOf path).blanks = (s.plumbOf path).blanks.erase b)
  ∧ (∀ path s, path < 2 → (s.plumbOf path).phase = .idle → s.nat (obj (0x3020 + path) 1) = 0 →
      2 ≤ s.nat (obj (0x3000 + path) 1) →
      (s.plumbOf path).lastWindowStart + s.nat (obj (0x3020 + path) 2) * msTicks ≤ s.gnomon →
      Gives (.estimatorWindowStart path) s fun t =>
        (t.plumbOf path).phase = .window ∧ (t.plumbOf path).windowStart = s.gnomon)
  ∧ (∀ r path s, path < 2 → s.Accepts r (obj (0x3020 + path) 0x12) [1] → s.nat (obj (0x3000 + path) 1) ≠ 0 →
      s.nat (obj (0x3020 + path) 1) ≠ 2 → (s.plumbOf path).phase = .idle →
      Gives (.plumbRunCycle r path) s fun t => (t.plumbOf path).phase = .window ∧ (t.plumbOf path).windowStart = s.gnomon)
  ∧ (∀ r path s, path < 2 → s.Accepts r (obj (0x3020 + path) 0x12) [2] → s.nat (obj (0x3000 + path) 1) ≠ 0 →
      s.applyArmed path = false →
      Gives (.plumbRestoreKept r path) s fun t =>
        (t.plumbOf path).jobs.getLast? = some ⟨2, s.trims 0x3026 path, 9⟩)
  ∧ (∀ r path s, path < 2 → s.Accepts r (obj (0x3020 + path) 0x12) [3] → s.nat (obj (0x3000 + path) 1) ≠ 0 →
      s.applyArmed path = false →
      Gives (.plumbLoadFactory r path) s fun t =>
        (t.plumbOf path).jobs.getLast? = some ⟨2, s.trims 0x302A path, 9⟩)
  ∧ (∀ r path s, path < 2 → s.Accepts r (obj (0x3020 + path) 0x12) [4] → s.nat (obj (0x3000 + path) 1) ≠ 0 →
      s.nat (obj (0x3020 + path) 1) = 2 → s.applyArmed path = false →
      Gives (.plumbApplyStaged r path) s fun t =>
        (t.plumbOf path).jobs.getLast? = some ⟨1, s.trims 0x3028 path, 10⟩)
  ∧ (∀ r path n s, path < 2 → s.Accepts r (obj (0x3020 + path) 0x12) [5] → s.nat (obj (0x3000 + path) 1) ≠ 0 →
      s.nat (obj (0x3020 + path) 1) ≠ 0 → bitOf (s.nat (obj (0x3020 + path) 7)) 6 = false → s.entryFor true = some n →
      Gives (.plumbBlankTestStart r path) s fun t => ∃ e, t.entry n = some e ∧ e.instant = s.gnomon + 1536 ∧ e.kind = 7)
  ∧ (∀ r path s, path < 2 → s.Accepts r (obj (0x3020 + path) 0x12) [6] → s.nat (obj (0x3000 + path) 1) ≠ 0 →
      Gives (.plumbBlankTestStop r path) s fun t => bitOf (t.nat (obj (0x3020 + path) 7)) 6 = false)
  ∧ (∀ r path mode (s : State), path < 2 → s.Accepts r (obj (0x3020 + path) 1) (leNat 1 mode) → (s.plumbOf path).phase = .idle →
      Gives (.plumbModeWrite r path mode) s fun t => t.nat (obj (0x3020 + path) 1) = mode)

/-! ### Prism chains and captures -/

/-- Chain commands (R106 to R124, R47, R48, R75): what each leaves where it acts, for a chain that shares no lock group. -/
def Obligations.ChainsComplete : Prop :=
  (∀ r n v s, 24 ≤ n → n < 32 → s.Accepts r (ck n 8) (leNat 1 v) → s.ustate (0x100 + n) = 2 → s.lockSet n = [n] →
    (s.chain n).fade = none → s.nat (cs n 3) ≠ v → s.nat (ck n 9) ≠ 0 →
    Gives (.responseSelect r n v) s fun t =>
      (t.chain n).fade = some ⟨s.nat (cs n 3), v, s.nat (ck n 9), 0, s.firNow n, false⟩ ∧ t.answer.code = 0)
  ∧ (∀ r n f s, 24 ≤ n → n < 32 → s.Accepts r (ck n 0x0A) [1] → s.lockSet n = [n] → (s.chain n).fade = some f → f.len ≠ 0 →
      Gives (.fadeReverse r n) s fun t => (t.chain n).fade = some (f.turn (s.firNow n)))
  ∧ (∀ n f s, n < 32 → s.lockSet n = [n] → (s.chain n).fade = some f → f.done ≤ s.firNow n → s.nat (cs n 4) = 0xFF →
      Gives (.fadeEnd n) s fun t =>
        (t.chain n).fade = none ∧ t.nat (cs n 3) = (if f.reversing then f.old else f.new) ∧ t.nat (cs n 5) = 0)
  ∧ (∀ r n v s, n < 32 → s.Accepts r (ck n 0x0E) (leNat 1 v) →
      Gives (.dcFreezeWrite r n v) s fun t => t.nat (ck n 0x0E) = v)
  ∧ (∀ r n bits s, n < 32 → s.Accepts r (cs n 2) (leNat 2 bits) →
      Gives (.saturationClear r n bits) s fun t => t.nat (cs n 2) = clearWritten 16 (s.nat (cs n 2)) bits)
  ∧ (∀ n first a b sat s, n < 32 → (s.chain n).detNext = some first → s.ustate (0x100 + n) = 2 →
      s.nat (obj (0x3160 + n) 1) = 1 → s.quick n = 0 → s.computed n (first + s.nat (obj (0x3160 + n) 3) - 1) = true →
      Gives (.detectorBlockEnd n a b sat) s fun t =>
        t.nat (obj (0x3160 + n) 1) = 0 ∧ (t.chain n).detNext = none ∧
          sliceB (t.bytes (obj (0x3160 + n) 4)) 4 8 = leNat 8 (s.gridTick n first))
  ∧ (∀ r n sub v s, n < 32 → s.Accepts r (obj (0x3160 + n) sub) (numBytes (obj (0x3160 + n) sub) v) →
      Gives (.detectorSettingWrite r n sub v) s fun t => t.answer.code = 0 ∧
        (sub = 1 → t.nat (obj (0x3160 + n) 1) = v.toNat) ∧
        (sub = 2 ∨ sub = 3 → s.nat (obj (0x3160 + n) 1) = 0 ∨ s.ustate (0x100 + n) ≠ 2 ∨ s.quick n ≠ 0 →
          t.num (obj (0x3160 + n) sub) = v) ∧
        (sub = 2 → s.nat (obj (0x3160 + n) 1) ≠ 0 → s.ustate (0x100 + n) = 2 → s.quick n = 0 →
          (t.chain n).detFreq = some v ∧ t.num (obj (0x3160 + n) 2) = s.num (obj (0x3160 + n) 2)) ∧
        (sub = 3 → s.nat (obj (0x3160 + n) 1) ≠ 0 → s.ustate (0x100 + n) = 2 → s.quick n = 0 →
          (t.chain n).detLen = some v.toNat ∧ t.nat (obj (0x3160 + n) 3) = s.nat (obj (0x3160 + n) 3)))
  ∧ (∀ entry n e s, n < 32 → s.dueEntry entry [4] = some e → e.target = 0x100 + n → s.chainLive (0x100 + n) = true →
      s.lockSet n = [n] →
      Gives (.chainRetune entry) s fun t =>
        t.num (cs n 0x0A) = signed 4 (fieldLe e.param 0 4) ∧ t.nat (cs n 0x0B) = nthD e.param 4 0)
  ∧ (∀ entry n e s, n < 32 → s.dueEntry entry [5] = some e → e.target = 0x100 + n → s.chainLive (0x100 + n) = true →
      s.lockSet n = [n] →
      Gives (.antennaSwitch entry) s fun t => (t.chain n).path = nthD e.param 0 0)
  ∧ (∀ n a b sat grid stop s, n < 32 → s.nextBlock n = some (grid, stop) → s.ustate (0x100 + n) = 2 →
      s.nat (obj (0x3000 + (s.chain n).path) 1) = 2 → s.computed n (stop - 1) = true → s.cnat (ck n 0x12) = 0 →
      (s.fifo (obj (0x2520 + n) 0)).recs.length < 16 →
      Gives (.chainBlockOut n a b sat) s fun t => (t.chain n).next = stop ∧
        (t.chain n).blockSeq = ((s.chain n).blockSeq + 1) % 65536 ∧ t.nat (cs n 7) = satAdd 32 (s.nat (cs n 7)) 1 ∧
          (t.fifo (obj (0x2520 + n) 0)).recs.length = (s.fifo (obj (0x2520 + n) 0)).recs.length + 1)
  ∧ (∀ s, s.nat 0x300001 = 3 →
      Gives .sampleClockRelock s fun t => t.nat 0x300001 = 2 ∧ t.nat 0x700202 = 0)

/-- Captures (R250 to R253, R54): arm, trigger, abort, free, the launch trigger, and the end of a capture. -/
def Obligations.CapturesComplete : Prop :=
  (∀ r c u s, c < 4 → s.Accepts r (cap c 5) [1] → s.captureBusy c = false → (s.autoTake r (cap c 5)).captureCheck c = 0 →
    (s.autoTake r (cap c 5)).captureBuffer c = some u →
    Gives (.captureArm r c) s fun t => t.nat (cap c 6) = 1 ∧ t.awaiting.contains (cap c 7) = true)
  ∧ (∀ r c s, c < 4 → s.Accepts r (cap c 5) [2] → s.captureWaits c = true →
      Gives (.captureTriggerNow r c) s fun t => t.nat (cap c 6) = 2 ∧ (t.capture c).trigger = some (s.gnomon, 0))
  ∧ (∀ r c s, c < 4 → s.Accepts r (cap c 5) [3] → s.captureBusy c = true →
      Gives (.captureAbort r c) s fun t => t.nat (cap c 6) = 4)
  ∧ (∀ r c s, c < 4 → s.Accepts r (cap c 5) [4] → s.captureBusy c = false →
      Gives (.captureFree r c) s fun t => t.nat (cap c 6) = 0 ∧ t.capture c = Capture.init)
  ∧ (∀ entry c e s, c < 4 → s.dueEntry entry [0x0A] = some e → fieldLe e.param 0 2 = c → s.captureWaits c = true →
      Gives (.captureTrigger entry) s fun t => t.nat (cap c 6) = 2 ∧ (t.capture c).trigger = some (e.instant, e.phase))
  ∧ (∀ c x a b s, c < 4 → (s.capture c).stopped = some x → s.captureBusy c = true →
      Gives (.captureComplete c a b) s fun t => t.nat (cap c 6) = 3)

/-! ### Ashlar engines and accelerators -/

/-- Engine and accelerator commands (R129 to R140): what each leaves where it acts. -/
def Obligations.EnginesComplete : Prop :=
  (∀ e s, e < 12 → s.loads.head? = some e → (s.engine e).loadFrom.isSome = true →
    Gives (.engineLoadComplete e true) s fun t =>
      t.nat (ek e 3) = 2 ∧ (t.engine e).image = s.cnat (ek e 1) ∧ e ∉ t.loads)
  ∧ (∀ e cause s, s.engineLive e = true → 0x0202 ≤ cause → cause ≤ 0x0204 → s.parent (0x200 + e) = 0xFFFF →
      Gives (.engineFault e cause) s fun t => t.nat (ek e 0x0B) = cause ∧ t.nat (ek e 0x0C) = s.gnomon)
  ∧ (∀ e cause s, s.engineLive e = true → 0x0202 ≤ cause → cause ≤ 0x0204 → s.cnat (ek e 5) = 1 →
      (s.recentRestarts e).length < 3 →
      Gives (.engineFault e cause) s fun t =>
        (t.engine e).restart = some ⟨1, s.gnomon⟩ ∧ t.nat (ek e 0x0B) = cause ∧ t.ustate (0x200 + e) = s.ustate (0x200 + e))
  ∧ (∀ e s, s.engineLive e = true → s.ustate (0x200 + e) = 2 → (s.engine e).restart = none →
      (s.engine e).beat + 1536000 ≤ s.gnomon → s.parent (0x200 + e) = 0xFFFF →
      Gives (.engineWatchdog e) s fun t => t.nat (ek e 0x0B) = 0x0201 ∧ t.nat (ek e 0x0C) = s.gnomon)
  ∧ (∀ e d s, e < 12 → (s.engine e).restart = some ⟨1, d⟩ → d + 1536 ≤ s.gnomon →
      Gives (.engineRestartReload e) s fun t => (t.engine e).restart = some ⟨2, d⟩ ∧ e ∈ t.loads)
  ∧ (∀ e d s, e < 12 → (s.engine e).restart = some ⟨3, d⟩ →
      Gives (.engineRestoreEnd e) s fun t => (t.engine e).restart = none)
  ∧ (∀ a e kind holder reads writes s, a < 8 → e < 12 → s.ustate (0x600 + a) = 2 → s.ustate (0x200 + e) = 2 →
      kind.fits = true → s.jobHolder a e kind = some holder →
      Gives (.acceleratorJobSubmit a e kind reads writes) s fun t =>
        (t.accel a).jobs = (s.accel a).jobs ++ [⟨e, holder, s.gnomon, kind.ticks, 0⟩])
  ∧ (∀ a e j rest s, a < 8 →
      takeFirst (fun j : Job => j.engine == e && decide (j.ticks ≤ j.done)) (s.accel a).jobs = some (j, rest) →
      Gives (.acceleratorJobComplete a e) s fun t =>
        (t.accel a).jobs = rest ∧ t.nat (ak a 1) = satAdd 32 (s.nat (ak a 1)) 1)
  ∧ (∀ a s, a < 8 → s.ustate (0x600 + a) ≠ 4 →
      (s.accel a).jobs.any (fun j => 4 * j.ticks + 4096 < j.done) = true → (s.accel a).resets = [] →
      Gives (.acceleratorTimeout a) s fun t => (t.accel a).jobs = [] ∧ t.nat (ak a 3) = satAdd 32 (s.nat (ak a 3)) 1)
  ∧ (∀ a s, a < 8 → s.ustate (0x600 + a) ≠ 4 →
      (∀ c, c ∈ s.naming (0x600 + a) → s.ustate c ≠ 2 ∨ s.cnat (desc c 8) = 1) →
      Gives (.acceleratorMemoryError a) s fun t => t.nat (desc (0x600 + a) 5) = 0x0602)
  ∧ (∀ r a s, a < 8 → s.Accepts r (ak a 5) (leNat 4 0) →
      Gives (.acceleratorWaitClear r a 0) s fun t => t.nat (ak a 5) = 0)
  ∧ (∀ r e s, e < 12 → s.Accepts r (ek e 9) (leNat 1 0) →
      Gives (.peakCycleLoadClear r e 0) s fun t => t.nat (ek e 9) = 0)

/-! ### FM, RDS, TMC and Lantern -/

/-- FM, RDS and TMC commands (R144 to R161): what each leaves where it acts. -/
def Obligations.FmCompletes : Prop :=
  (∀ e s, s.runs e 0x0101 = true → 300 ≤ (s.fm e).dem.ctlAt → (s.fm e).dem.ctlAt ≤ (s.fm e).dem.next →
    (s.fm e).dem.marks.colds = [] →
    Gives (.fmControlUpdate e) s fun t => (t.fm e).effective = s.effectiveLevel e (s.fmFigures e))
  ∧ (∀ e x s, s.runs e 0x0101 = true → (s.fm e).dem.ms.length = 10 → (s.fm e).dem.ms.getLast? = some x →
      Gives (.fmMetricsPublish e) s fun t =>
        t.num (fmm e 1) = meanFigure (s.fm e).dem.ms FmFigures.levelA ∧
          t.num (fmm e 3) = meanFigure (s.fm e).dem.ms FmFigures.usn ∧ t.nat (fmm e 6) = x.peak ∧
          t.num (fmm e 0x0B) = (s.fm e).effective ∧ (t.fm e).tally = [0, 0, 0] ∧ (t.fm e).dem.ms = [])
  ∧ (∀ e s, s.runs e 0x0101 = true → (s.fm e).pilot = false → 50 ≤ (s.fm e).dem.strong →
      Gives (.pilotDetected e) s fun t => (t.fm e).pilot = true ∧ t.nat (fmm e 7) = 1)
  ∧ (∀ e s, s.runs e 0x0101 = true → (s.fm e).pilot = true → 50 ≤ (s.fm e).dem.weak →
      Gives (.pilotLost e) s fun t => (t.fm e).pilot = false ∧ (t.fm e).factor = 0 ∧ t.nat (fmm e 7) = 0 ∧ t.nat (fmm e 8) = 0)
  ∧ (∀ e n s, s.runs e 0x0101 = true → s.inputA e = some n → s.cnat (fmk e 4) = 1 → isRom n = true →
      s.adjacentOf e ≠ 0x7FFF → (s.chain n).fade = none → s.nat (cs n 4) = 0xFF → s.ustate (0x100 + n) = 2 →
      s.lockSet n = [n] → s.nat (ck n 9) ≠ 0 → bandwidthChoice (s.adjacentOf e) (s.nat (cs n 3)) ≠ s.nat (cs n 3) →
      Gives (.fmBandwidthJudge e) s fun t => (t.chain n).fade =
        some ⟨s.nat (cs n 3), bandwidthChoice (s.adjacentOf e) (s.nat (cs n 3)), s.nat (ck n 9), 0, s.firNow n, false⟩)
  ∧ (∀ e s, s.runs e 0x0101 = true → s.diversity e = 2 → 64 ≤ (s.fm e).dem.estAt → (s.fm e).dem.estAt ≤ (s.fm e).dem.next →
      (s.fm e).dem.marks.colds = [] →
      Gives (.diversityEstimate e) s fun t => (t.fm e).selected = 2 ∧ (t.fm e).tally = tallied (s.fm e).tally 2)
  ∧ (∀ e s, s.runs e 0x0101 = true → s.diversity e = 1 → (s.fm e).selected = 0 → 300 ≤ (s.fm e).dem.selAt →
      (s.fm e).dem.selAt ≤ (s.fm e).dem.next → (s.fm e).dem.marks.colds = [] →
      Gives (.diversitySelect e) s fun t => (t.fm e).selected =
        (if (s.fm e).dem.inputMultipath (s.fm e).dem.b + 3 ≤ (s.fm e).dem.inputMultipath (s.fm e).dem.a then 1 else 0))
  ∧ (∀ e s, s.runs e 0x0101 = true → (s.inputB e).isSome = true → (s.fm e).bAbsent = false →
      (s.fm e).lastB + 3072000 ≤ s.gnomon → (s.fm e).dem.marks.colds = [] →
      Gives (.inputBAbsent e) s fun t => (t.fm e).bAbsent = true ∧ (t.fm e).selected = 0 ∧ t.nat (fmm e 0x0C) = 0)
  ∧ (∀ e n b rest s, s.runs e 0x0101 = true → n < 32 → s.cnat (ck n 0x12) = 0x200 + e → (s.chain n).queue = b :: rest →
      Gives (.fmBlockProcess e n) s fun t => (t.chain n).queue = rest)
  ∧ (∀ e first second s, s.runs e 0x0101 = true → s.nat (fmr e 1) = 1 → inStep first second = true →
      Gives (.rdsSyncGained e first second) s fun t => t.nat (fmr e 6) = 1 ∧ (t.fm e).sinceSync = [])
  ∧ (∀ e s, s.runs e 0x0101 = true → outOfStep (s.fm e).sinceSync = true →
      Gives (.rdsSyncLost e) s fun t => t.nat (fmr e 6) = 0)
  ∧ (∀ e g s, s.runs e 0x0101 = true → s.nat (fmr e 1) = 1 → s.nat (fmr e 6) = 1 → s.nat (fmr e 2) = 1 →
      g.offsetE = true → (∀ i, i < 4 → nthD g.classes i 3 = 0) → s.fmErased e = [] → (s.fifo (fmq e 1)).recs.length < 64 →
      Gives (.rdsGroup e g) s fun t => (t.fifo (fmq e 1)).recs.length = (s.fifo (fmq e 1)).recs.length + 1 ∧
        t.nat (fmr e 8) = satAdd 32 (s.nat (fmr e 8)) 1)
  ∧ (∀ src b1 b2 b3 c i s, s.tmcSource = (1, src) → groupType b2 = 6 → s.nat (fmr src 1) = 1 → s.nat (fmr src 6) = 1 →
      c ≤ s.nat (fmr src 3) →
      Gives (.tmcGroup false src ⟨i, [b1, b2, b3, 0xCD46], [c, c, c, c], false, false⟩) s fun t =>
        t.tmc.app = some (b2 % 32) ∧ t.tmc.lastApp = some s.gnomon ∧ t.nat 0x428004 = 0xCD46)
  ∧ (∀ k p s, s.tmc.partials[k]? = some p → p.began + 1536000000 ≤ s.gnomon →
      Gives (.tmcIncompleteTimeout k) s fun t =>
        t.tmc.partials = s.tmc.partials.eraseIdx k ∧ t.nat 0x428009 = satAdd 32 (s.nat 0x428009) 1)

/-- Lantern and its database (R168 to R177): what each command leaves where it acts. -/
def Obligations.LanternCompletes : Prop :=
  (∀ i pi at_ cls s, i < 0x10000 → s.ustate 0x700 = 2 → (s.slot i).active = true → (s.slot i).sync = true →
    erasedClass cls (erasedBits at_ 0 s.lanternCores) ≤ 1 → (s.slot i).lastGroup ≠ some at_ →
    Gives (.lanternConfirmation i pi at_ cls) s fun t => (t.slot i).pi = pi ∧
      (t.slot i).piState = (if (s.slot i).piState ≠ 0 ∧ (s.slot i).pi = pi then 2 else 1))
  ∧ (∀ i s, (s.dbEntry i).state = 1 → (s.dbEntry i).firstHeard + 1536000000 ≤ s.gnomon →
      Gives (.entryExpiry i) s fun t => t.dbEntry i = Entry.init)
  ∧ (∀ slot g i s, s.ustate 0x700 = 2 → (s.slot slot).active = true → (s.slot slot).sync = true → (s.slot slot).piState = 2 →
      g.offsetE = false → s.slotClass g 1 ≤ 2 → s.entryOf (s.slot slot).pi = some i → (s.dbEntry i).state = 2 →
      (s.dbEntry i).best = some slot → (s.dbEntry i).fg = none →
      groupType (nthD g.blocks 1 0) = 4 →
      Gives (.lanternFieldUpdate slot g) s fun t => (t.dbEntry i).fields =
        (s.dbEntry i).fields.group (nthD g.blocks 1 0) (nthD g.blocks 2 0) (nthD g.blocks 3 0) (s.slotClass g))
  ∧ (∀ i at_ s, (s.dbEntry i).lastChange = some at_ → (s.dbEntry i).state ≠ 0 → (s.dbEntry i).held ≠ 0 →
      at_ + 15360000 ≤ s.gnomon →
      Gives (.lanternEventMerge i) s fun t => (t.dbEntry i).held = 0 ∧ (t.dbEntry i).lastChange = some s.gnomon)
  ∧ (∀ r s, s.Accepts r 0x43000A [1] →
      Gives (.lanternClearDatabase r) s fun t => t.lantern.entries = [] ∧ t.nat 0x430013 = 0 ∧ t.nat 0x430014 = 0)
  ∧ (∀ r i s, s.Accepts r 0x43000A [2] →
      Gives (.lanternClearAf r) s fun t => (t.dbEntry i).afs = [])
  ∧ (∀ r pi s, pi < 65536 → s.Accepts r 0x431001 (leNat 2 pi) →
      Gives (.queryPi r pi) s fun t => t.nat 0x431001 = pi)
  ∧ (∀ slot g s, s.ustate 0x700 = 2 → (s.slot slot).active = true → (s.slot slot).sync = true →
      Gives (.lanternRawGroup slot g) s fun t => (t.slot slot).groups = satAdd 32 (s.slot slot).groups 1)
  ∧ (∀ s, 1 ≤ s.ustate 0x700 → s.ustate 0x700 ≤ 3 → s.parent 0x700 = 0xFFFF →
      Gives .lanternMemoryError s fun t => t.ustate 0x700 = 4 ∧ t.nat (desc 0x700 5) = 0x0701)

/-! ### DAB, AM and DRM -/

/-- DAB receivers and decoders (R182 to R198): what each command leaves where it acts. -/
def Obligations.DabCompletes : Prop :=
  (∀ e s, s.dabRuns e = true → s.dabState e = 1 →
    Gives (.dabNullFound e) s fun t => t.dabState e = 2)
  ∧ (∀ e off s, s.dabRuns e = true → s.dabState e = 2 → -25000 ≤ off → off ≤ 25000 →
      Gives (.dabPrsCorrelate e off) s fun t => t.dabState e = 3 ∧ t.num (dk e 4) = off)
  ∧ (∀ e s, s.dabRuns e = true → s.dabState e = 3 → (s.dab e).gotEnsemble = true → 2 ≤ (s.dab e).goodRun →
      Gives (.dabFicAcquired e) s fun t => t.dabState e = 4 ∧ (t.dab e).since = s.gnomon ∧ (t.dab e).softFrom = s.gnomon ∧
        t.nat (dk e 8) = satAdd 32 (s.nat (dk e 8)) 1)
  ∧ (∀ e s, s.dabRuns e = true → 2 ≤ s.dabState e → s.dabState e ≤ 3 →
      (s.dab e).since + (if s.dabState e = 2 then 4 else 10) * dabFrameTicks ≤ s.gnomon →
      Gives (.dabAcquisitionFail e) s fun t => t.dabState e = 1)
  ∧ (∀ e s, s.dabRuns e = true → s.dabState e = 4 → (s.dab e).lost s.gnomon = true →
      Gives (.dabSyncLost e) s fun t => t.dabState e = 5 ∧ (t.dab e).since = s.gnomon ∧ t.nat (dk e 3) = 0)
  ∧ (∀ e at_ s, s.dabRuns e = true → s.dabState e = 5 → (s.dab e).goodAt = some at_ →
      Gives (.dabSyncRegained e) s fun t => t.dabState e = 4 ∧ (t.dab e).nullAt = at_)
  ∧ (∀ e s, s.dabRuns e = true → s.dabState e = 5 → (s.dab e).since + s.nat (dk e 0x0A) * msTicks ≤ s.gnomon →
      Gives (.dabLostTimeout e) s fun t => t.dabState e = 1 ∧ (t.dab e).subs = [] ∧ (t.dab e).services = [])
  ∧ (∀ e at_ s, s.dabRuns e = true → s.dabState e = 4 → nullFits (s.dab e).nullAt at_ = true → at_ + dabNullTicks ≤ s.gnomon →
      Gives (.dabNullReport e at_) s fun t => t.nat (dk e 3) = at_ ∧ (t.dab e).nullAt = at_)
  ∧ (∀ e cif at_ p b xs fs s, s.dabRuns e = true → s.dabState e = 4 ∨ s.dabState e = 5 → (s.dab e).softFrom ≤ at_ →
      Gives (.dabCifDecode e cif at_ p b xs fs) s fun t =>
        let u := (s.mciFor e cif).storeCif e cif at_ p b xs
        (t.dab e).slots = (u.dab e).slots ∧ (t.dab e).subs =
          (u.dab e).subs.map fun c => (c.receive (u.dab e).slots cif (at_ + 3686400 * (p % 4)) fs).1)
  ∧ (∀ e cif s, s.dabRuns e = true → s.dabState e = 4 ∨ s.dabState e = 5 → s.mciDue e cif = true →
      Gives (.dabReconfiguration e cif) s fun t => (t.dab e).subs = (s.dab e).nextSubs.map (keepQueue (s.dab e).subs) ∧
        (t.dab e).nextSubs = [] ∧ (t.dab e).mciCif = cif ∧ t.nat (dk e 7) = 0xFFFF)
  ∧ (∀ e raw at_ cif id n change s, s.dabRuns e = true → 3 ≤ s.dabState e →
      Gives (.dabFigDecode e 0 0 raw at_ cif (.ensemble id n change)) s fun t => (t.dab e).gotEnsemble = true ∧
        t.nat (dk e 5) = id ∧ t.nat (dk e 6) = n ∧ t.nat (dk e 7) = change.getD 0xFFFF)
  ∧ (∀ e s, s.dabRuns e = true → s.dabState e = 4 → (s.dab e).siComplete = false →
      (s.dab e).since + 1536000000 ≤ s.gnomon →
      Gives (.dabSiCompleteTimeout e) s fun t => (t.dab e).siComplete = true)
  ∧ (∀ m i s, s.runs m 0x0201 = true → i < 2 →
      nthD (s.dabDecoder m).sel i (0, 0) ≠ (s.nat (ddec m (2 + 2 * i)), s.nat (ddec m (3 + 2 * i))) →
      Gives (.dabServiceSelect m i) s fun t => t.nat (ddec m (8 + i)) = 0 ∧ (t.dabDecoder m).sel =
        setNth (s.dabDecoder m).sel i (s.nat (ddec m (2 + 2 * i)), s.nat (ddec m (3 + 2 * i))))
  ∧ (∀ m i u n c s, s.runs m 0x0201 = true → i < 2 → 1 ≤ s.nat (ddec m (6 + i)) → s.nat (ddec m (6 + i)) ≤ 3 →
      s.slotSub m i = some (n, c) → u.taken ≤ c.queue.length → u.crc = some true → u.broken = false →
      Gives (.dabAccessUnit m i (some u)) s fun t =>
        t.nat (ddec m (6 + i)) = 2 ∧ t.nat (ddec m (8 + i)) = u.codecByte)
  ∧ (∀ e f at_ crc data s, s.dabRuns e = true → s.dabState e = 4 → f < 8 → bitOf (s.nat (ddat e (1 + f))) 31 = true →
      (s.fifo (ddat e 9)).recs = [] → data.length ≤ 8191 →
      Gives (.dabPacketGroup e f at_ crc true false data) s fun t =>
        (t.fifo (ddat e 9)).recs = [dataRecord at_ (s.dab e).dataSeq f crc 0 data])
  ∧ (∀ e c at_ flags sub new s, s.dabRuns e = true → s.dabState e = 4 →
      Map.get (fun _ => (0, 0, 0, 0)) (s.dab e).annSeen c = (at_, flags, sub, new) → flags ≠ 0 → s.gnomon < at_ + 307200000 →
      ((s.dab e).anns.find? fun a => a.1 == c) ≠ some (c, flags, sub, new) →
      Gives (.announcementStart e c) s fun t =>
        (t.dab e).anns = ((s.dab e).anns.filter fun a => a.1 != c) ++ [(c, flags, sub, new)])
  ∧ (∀ e c at_ sub new s, s.dabRuns e = true → ((s.dab e).anns.find? fun a => a.1 == c).isSome = true →
      Map.get (fun _ => (0, 0, 0, 0)) (s.dab e).annSeen c = (at_, 0, sub, new) →
      Gives (.announcementEnd e c) s fun t => (t.dab e).anns = (s.dab e).anns.filter fun a => a.1 != c)

/-- AM receivers (R201 to R207): what each command leaves where it acts. -/
def Obligations.AmCompletes : Prop :=
  (∀ e s, s.runs e 0x0102 = true → s.nat (amm e 8) = 0 → 50 ≤ (s.am e).dem.near →
    Gives (.amPlllockChange e) s fun t => t.nat (amm e 8) = 1)
  ∧ (∀ e s, s.runs e 0x0102 = true → s.nat (amm e 8) = 1 → 50 ≤ (s.am e).dem.far →
      Gives (.amPlllockChange e) s fun t => t.nat (amm e 8) = 0)
  ∧ (∀ e x s, s.runs e 0x0102 = true → s.amAutomatic e = true → (s.am e).fade = none → (s.am e).wanted = none →
      (s.am e).width = 3000 → 3 < s.nat (amk e 4) → (s.am e).dem.ms.getLast? = some x → x.upper < -330 → x.lower < -330 →
      (s.am e).judgedAt + 2400 ≤ (s.am e).dem.next →
      Gives (.amBandwidthJudge e) s fun t => (t.am e).fade = some ⟨3000, amWidth (s.nat (amk e 4)) 0, (s.am e).dem.next⟩)
  ∧ (∀ e s, s.runs e 0x0102 = true → (s.am e).dem.ms.length = 10 →
      Gives (.amMetricsPublish e) s fun t => t.num (amm e 1) = meanAm (s.am e).dem.ms AmFigures.level ∧
        t.num (amm e 2) = meanAm (s.am e).dem.ms AmFigures.offset ∧ t.num (amm e 4) = meanAm (s.am e).dem.ms AmFigures.upper ∧
        t.num (amm e 5) = meanAm (s.am e).dem.ms AmFigures.lower ∧ t.nat (amm e 3) ≤ 150 ∧ (t.am e).dem.ms = [])
  ∧ (∀ e x s, s.runs e 0x0102 = true → s.nat (amk e 5) = 1 → (s.am e).dem.ms.getLast? = some x → x.level < 200 →
      Gives (.noiseBlankerSuspend e) s fun t => (t.am e).suspendedUntil = (s.am e).dem.next + 4800)
  ∧ (∀ e n b rest s, s.runs e 0x0102 = true → n < 32 → s.cnat (ck n 0x12) = 0x200 + e → (s.chain n).queue = b :: rest →
      Gives (.amBlockProcess e n) s fun t => (t.chain n).queue = rest)

/-- DRM receivers and decoders (R208 to R217): what each command leaves where it acts. -/
def Obligations.DrmCompletes : Prop :=
  (∀ e m s, s.drmRuns e = true → s.drmState e = 1 → 1 ≤ m → m ≤ 4 → 1 ≤ (s.gnomon - (s.drm e).since) / 30720000 →
    (s.drm e).leader = some (m, (s.gnomon - (s.drm e).since) / 30720000 - 1) →
    Gives (.drmModeFound e m) s fun t => t.drmState e = 2 ∧
      t.nat (rk e 3) = if s.cnat (rk e 2) = 0 then m else s.cnat (rk e 2))
  ∧ (∀ e at_ off b s, s.drmRuns e = true → s.drmState e = 2 → -300 ≤ off → off ≤ 300 → (s.drm e).since ≤ at_ →
      (s.drm e).lastSync = some b → nextFrame (drmFrameTicks (s.nat (rk e 3))) b at_ = true →
      Gives (.drmFrameSync e at_ off) s fun t => t.drmState e = 3 ∧ t.num (rk e 6) = off ∧ t.nat (rk e 0x0A) = at_ ∧
        (t.drm e).kept = some at_)
  ∧ (∀ e o c s, s.drmRuns e = true → s.drmState e = 3 → 2 ≤ (s.drm e).goodRun →
      facSupported ((s.engine e).image == 0x0105) o c = true →
      Gives (.drmFacAcquired e o c) s fun t => t.drmState e = 4 ∧ t.nat (rk e 4) = o ∧ t.nat (rk e 5) = c ∧
        (t.drm e).keptCells = [] ∧ (t.drm e).frames = (s.drm e).frames + (s.drm e).keptCells.length)
  ∧ (∀ e timing s, s.drmRuns e = true → s.drmState e = 4 → timing = true ∨ 5 ≤ (s.drm e).badRun →
      Gives (.drmSyncLost e timing) s fun t => t.drmState e = 5 ∧ (t.drm e).since = s.gnomon)
  ∧ (∀ e s, s.drmRuns e = true → s.drmState e = 5 → (s.drm e).since + s.nat (rk e 7) * msTicks ≤ s.gnomon →
      Gives (.drmLostTimeout e) s fun t => t.drmState e = s.drmFirst e ∧ (t.drm e).services = [])
  ∧ (∀ e s, s.drmRuns e = true → 2 ≤ s.drmState e → s.drmState e ≤ 3 →
      (s.drm e).since + (if s.drmState e = 2 then 4 else 10) * drmFrameTicks (s.nat (rk e 3)) ≤ s.gnomon →
      Gives (.drmAcquisitionFail e) s fun t =>
        t.drmState e = if (s.engine e).image = 0x0105 then 2 else 1)
  ∧ (∀ e at_ fac cs d sp fs gs m us s, s.drmRuns e = true → 3 ≤ s.drmState e →
      Gives (.drmMscFrame e at_ fac cs d sp fs gs m us) s fun t => t.nat (rk e 0x0A) = at_ ∧ t.nat (rq e 7) = d ∧
        t.nat (rq e 8) = sp ∧ t.nat (rq e 4) = badRate (lastN 100 ((s.drm e).facs ++ [fac])) ∧
        (t.drm e).goodRun = (if fac then (s.drm e).goodRun + 1 else 0) ∧ (t.drm e).badRun = (if fac then 0 else (s.drm e).badRun + 1))
  ∧ (∀ e at_ svcs alts scheds utc half s, s.drmRuns e = true → s.drmState e = 4 →
      Gives (.drmSdcDecode e at_ true svcs alts scheds utc half) s fun t => (t.drm e).services = svcs.take 4 ∧
        (t.drm e).superFrames = (s.drm e).superFrames + 1 ∧ (t.drm e).schedules = scheds)
  ∧ (∀ e s, s.drmRuns e = true →
      (s.drm e).alternatives.map (s.scheduleFlags (s.drm e).schedules) ≠ (s.drm e).alternatives →
      Gives (.drmScheduleEval e) s fun t =>
        (t.drm e).alternatives = (s.drm e).alternatives.map (s.scheduleFlags (s.drm e).schedules))
  ∧ (∀ m s, s.runs m 0x0202 = true → s.drmSelection m ≠ s.nat (rdec m 2) →
      Gives (.drmServiceSelect m) s fun t => t.drmSelection m = s.nat (rdec m 2) ∧ t.nat (rdec m 4) = 0)
  ∧ (∀ m text s, s.runs m 0x0202 = true → text.length ≤ 128 →
      Gives (.drmTextMessage m text) s fun t => t.bytes (rdec m 6) = text ∧
        t.nat (rdec m 7) = (s.nat (rdec m 7) + 1) % 65536)

/-! ### Following and Gloaming -/

/-- Following, with the ends of Lantern periods and DAB frames (R165, R192, R219 to R229): what each command leaves where it acts. -/
def Obligations.FollowingCompletes : Prop :=
  (∀ codes s, s.ustate 0x700 = 2 → s.lantern.lastPeriod < s.gnomon / 7680000 →
    Gives (.lanternPeriodEnd codes) s fun t => t.lantern.lastPeriod = s.gnomon / 7680000)
  ∧ (∀ e null fibs errors fic off s, s.dabRuns e = true → 3 ≤ s.dabState e →
      Gives (.dabFrameEnd e null fibs errors fic off) s fun t => t.num (dk e 4) = off ∧
        (t.dab e).fibs = lastN 100 ((s.dab e).fibs ++ fibs) ∧
        (t.dab e).badRun = (if fibs.any id then 0 else (s.dab e).badRun + 1))
  ∧ (∀ o k i sys s, s.nat 0x480001 ≠ 0 → s.namedBy o k i sys = true → s.candidate k i sys = none →
      s.following.candidates.length < 32 →
      Gives (.candidateListUpdate o k i sys) s fun t =>
        t.following.candidates.length = s.following.candidates.length + 1 ∧
          (t.candidate k i sys).map (·.origin) = some (2 ^ o))
  ∧ (∀ k i sys s,
      Gives (.candidateAgeOut k i sys) s fun t => t.following.candidates =
        s.following.candidates.filter fun c => !(c.is k i sys && decide (c.namedAt + 9216000000 ≤ s.gnomon)))
  ∧ (∀ s, s.nat 0x480002 ≠ (s.identity.getD (0xFF, 0)).2 →
      Gives .identityChange s fun t => t.nat 0x480002 = (s.identity.getD (0xFF, 0)).2 ∧
        t.nat 0x480003 = (s.identity.getD (0xFF, 0)).1 ∧ t.following.candidates = [])
  ∧ (∀ n k i b c s, (s.following.afChecks.find? fun k => k.chain == n) = none → s.candidate k i 0 = some c →
      s.afServes n = true → s.afDue c = true →
      (s.following.candidates.all fun d => !s.afDue d || decide (c.evaluatedAt ≤ d.evaluatedAt)) = true →
      (s.placeRetune (3 + (s.nat 0x480007 - 0x200)) n k).isSome = true →
      Gives (.afCheck n k i b) s fun t => t.nat 0x480010 = satAdd 32 (s.nat 0x480010) 1 ∧
        (t.candidate k i 0).map (·.checkedAt) = some (some s.gnomon) ∧
        t.following.afChecks.length = s.following.afChecks.length + 1)
  ∧ (∀ n x y k since cls c s, (s.following.afChecks.find? fun k => k.chain == n) = some k → s.afServes n = true →
      k.rds = some since → s.gnomon < since + 76800000 → 1 ≤ k.hits → cls ≤ 1 → s.candidate k.kHz k.id 0 = some c →
      Gives (.afCheck n x y (some (k.id, cls))) s fun t => (t.candidate k.kHz k.id 0).map (·.state) = some 2 ∧
        (t.following.afChecks.find? fun k => k.chain == n) = none)
  ∧ (∀ k n s, s.following.check = none → s.nat 0x480001 ≠ 0 → s.dabRuns (s.nat 0x480006 - 0x200) = true →
      (s.inputs (s.nat 0x480006 - 0x200)).head? = some n → s.receiverHeard (s.nat 0x480006 - 0x200) = false →
      s.routeOf k 1 = 3 → ((s.following.candidates.filter fun c => c.onDab k).all fun c => c.checkedAt.isNone) = true →
      (s.following.candidates.any fun c => c.onDab k && decide (c.mismatchUntil ≤ s.gnomon)) = true →
      (s.placeRetune 15 n k).isSome = true →
      Gives (.ensembleCheck k) s fun t => t.following.check.map (fun v => (v.kHz, v.mers)) = some (k, []) ∧
        t.nat 0x480010 = satAdd 32 (s.nat 0x480010) 1)
  ∧ (∀ k x s, s.following.check = some x → x.at_ + 460800000 ≤ s.gnomon →
      Gives (.ensembleCheck k) s fun t => t.following.check = none)
  ∧ (∀ row target s, target ≤ 2 → s.blending = true → target ≠ s.nat 0x490005 → s.nat (gk target 1) = 2 →
      s.rowFits row target = true → s.mayRequest = true → s.fading = false →
      Gives (.switchRequest row target) s fun t => t.gloaming.fade.map (·.new) = some target ∧
        t.nat 0x48000F = satAdd 32 (s.nat 0x48000F) 1)
  ∧ (∀ k i slot c w n s, s.following.landing = none → s.candidate k i 0 = some c → slot ≤ 2 → s.blending = true →
      s.mayRequest = true → s.landable c = true → s.landingWord 0 = some w → s.slotSource slot = 0 → s.slotBusy slot = false →
      s.inputA (wordEngine w) = some n → (s.placeRetune 15 n k).isSome = true →
      Gives (.landing k i 0 slot) s fun t => t.following.landing.map (fun l => (l.slot, l.step, l.source)) = some (slot, 1, w))
  ∧ (∀ k i slot c w s, s.following.landing = none → s.candidate k i 1 = some c → slot ≤ 2 → s.blending = true →
      s.mayRequest = true → s.landable c = true → s.landingWord 1 = some w → s.slotSource slot = 0 → s.slotBusy slot = false →
      Gives (.landing k i 1 slot) s fun t => t.following.landing.map (fun l => (l.slot, l.step, l.source)) = some (slot, 1, w) ∧
        t.nat (ddec (wordEngine w) (2 + 2 * (w / 65536 % 2))) = i)
  ∧ (∀ l s, s.following.landing = some l → l.step < 3 → l.since + 3072000000 ≤ s.gnomon →
      Gives .landingTimeout s fun t => t.following.landing = none)
  ∧ (∀ f s, s.gloaming.fade = some f → f.followBack = true → f.reversing = false → s.nat 0x480001 = 2 →
      s.targetBad f.new = true →
      Gives .blendBackReverse s fun t => t.gloaming.fade = some { f with reversing := true } ∧ t.nat 0x490012 = 2)
  ∧ (∀ f s, s.gloaming.fade = some f → f.ended = true → s.gloaming.owed = 0 → s.nat 0x490014 = 0xFF →
      Gives .blendFadeEnd s fun t => t.gloaming.fade = none ∧
        t.nat 0x490005 = (if f.reversing then f.old else f.new) ∧ t.nat 0x490017 = satAdd 32 (s.nat 0x490017) 1)

/-- Gloaming (R218, R230 to R240): what each command leaves where it acts. -/
def Obligations.GloamingCompletes : Prop :=
  (∀ r s, s.Accepts r 0x490001 [1] → s.blending = false → (s.mode = .listen ∨ s.mode = .full) →
    s.slotSource 0 = 0 → s.slotSource 1 = 0 → s.slotSource 2 = 0 →
    Gives (.gloamingEnable r) s fun t => t.nat 0x490001 = 1 ∧ t.nat 0x490011 = s.nat 0x49000C * msTicks + msTicks)
  ∧ (∀ r s, s.Accepts r 0x490001 [0] → s.blending = true →
      Gives (.gloamingDisable r) s fun t => t.nat 0x490001 = 0 ∧ t.gloaming = { Gloaming.init with output := t.gloaming.output })
  ∧ (∀ r i w s, i < 3 → w < 2 ^ 32 → s.Accepts r (obj 0x4900 (2 + i)) (leNat 4 w) → s.blending = false →
      s.wordOk i w = true →
      Gives (.slotSourceWrite r i w) s fun t => t.slotSource i = w ∧ t.nat (gk i 1) = (if w = 0 then 0 else 1))
  ∧ (∀ i a b s, s.blending = true → i ≤ 2 → s.slotSource i ≠ 0 → s.nat 0x490005 ≠ i → (s.gslot i).estimatedAt < s.estimateEnd i →
      (s.gslot i).meter.window (s.estimateEnd i) = some a → (s.gslot (s.nat 0x490005)).meter.window (s.estimateEnd i) = some b →
      windowVoid a = false → windowVoid b = false →
      Gives (.lagEstimate i) s fun t =>
        let e := lagEstimate (s.gslot i) (s.gslot (s.nat 0x490005)) (s.estimateEnd i) a b
        t.nat (gk i 4) = (clampInt 0 100 (roundRat (100 * e.rho))).toNat ∧
          t.nat (gk i 5) = (clampInt 0 65535 (roundRat (100 * e.ratio))).toNat)
  ∧ (∀ r i s, s.Accepts r 0x490006 (leNat 1 i) → i ≤ 2 → s.blending = true → s.nat (gk i 1) = 2 → s.fading = false →
      s.nat 0x490005 ≠ i →
      Gives (.blendTarget r i) s fun t => t.gloaming.fade.map (·.new) = some i ∧ t.nat 0x490012 = 1)
  ∧ (∀ r f s, s.Accepts r 0x490007 [1] → s.gloaming.fade = some f →
      Gives (.blendFadeReverse r) s fun t => t.gloaming.fade = some { f with reversing := !f.reversing })
  ∧ (∀ r i b s, i < 3 → b < 256 → s.Accepts r (gk i 9) (leNat 1 b) → s.blending = false →
      Gives (.eqSelect r i b) s fun t => t.nat (gk i 7) = b)
  ∧ (∀ r i b s, i < 3 → b < 256 → s.Accepts r (gk i 9) (leNat 1 b) → s.blending = true → s.fading = false →
      (s.gslot i).eqFade = none → s.nat (gk i 7) ≠ b →
      Gives (.eqSelect r i b) s fun t =>
        (t.gslot i).eqFade = some ⟨b, s.bytes (gk i (0x0A + b)), 48 * s.nat (gk i 0x0C), 0⟩)
  ∧ (∀ i f s, (s.gslot i).eqFade = some f → f.len ≤ f.run → s.nat (gk i 8) = 0xFF →
      Gives (.eqFadeEnd i) s fun t => (t.gslot i).eqFade = none ∧ t.nat (gk i 7) = f.bank)
  ∧ (∀ i gains s, s.bandGains i = some gains → s.blending = true → s.nat 0x49000F = 1 → i ≤ 2 → s.nat (gk i 1) = 2 →
      s.nat 0x490005 ≠ i → (s.gslot i).eqFade = none → s.nat (gk i 7) ≤ 1 →
      Gives (.tonalMatchUpdate i) s fun t => t.bytes (gk i (0x0B - s.nat (gk i 7))) = tonalBank gains)
  ∧ (∀ s, s.blending = true → s.gloaming.next + s.nat 0x490011 ≤ s.gnomon →
      Gives .blendOutputFrame s fun t => t.gloaming.next = s.gloaming.next + 3200 ∧
        (t.gloaming.output.getLast?).map (·.i) = some (s.gloaming.next / 3200) ∧
        t.gloaming.output.length = min 4096 (s.gloaming.output.length + 1))

/-! ### Audio ports -/

/-- Audio streams and the IEC output (R49, R257 to R276): what each command leaves where it acts. -/
def Obligations.AudioCompletes : Prop :=
  (∀ r u bits s, s.Accepts r (as_ u 0x0E) (leNat 1 bits) →
    Gives (.audioFlagsClear r u bits) s fun t => t.nat (as_ u 0x0E) = clearWritten 8 (s.nat (as_ u 0x0E)) bits)
  ∧ (∀ r u q w s, u < 5 → q < 4 → w < 2 ^ 32 → s.Accepts r (pairKey u q) (leNat 4 w) → s.streamState u ≤ 1 →
      s.pairOk u (if u = 4 then 0 else q) w = true →
      Gives (.pairSourceWrite r u q w) s fun t => t.nat (pairKey u q) = w)
  ∧ (∀ u f s, u < 5 → s.streamState u = 1 ∧ s.nat (as_ u 3) = 0 ∨ s.streamState u = 6 → 64 ≤ (s.stream u).stable →
      s.identifyRate u (s.stream u).rate64 = some f →
      Gives (.streamIdentify u) s fun t => t.nat (as_ u 2) = (s.stream u).rate64 ∧ t.nat (as_ u 3) = f ∧ t.streamState u = 1 ∧
        (t.stream u).readyAt = s.gnomon)
  ∧ (∀ u s, u < 5 → s.streamState u = 1 ∧ s.nat (as_ u 3) = 0 ∨ s.streamState u = 6 → 64 ≤ (s.stream u).stable →
      s.identifyRate u (s.stream u).rate64 = none →
      Gives (.streamIdentify u) s fun t =>
        t.nat (as_ u 2) = (s.stream u).rate64 ∧ t.nat (as_ u 3) = 0 ∧ t.streamState u = 6)
  ∧ (∀ u s, u < 5 → s.streamState u ≠ 0 →
      (s.stream u).refRate * s.nat (if u = 4 then 0x500407 else ap u 7)
        < ((s.nat (as_ u 2) : Int) - (s.stream u).refRate).natAbs * 1000000 →
      Gives (.rateThreshold u) s fun t => (t.stream u).refRate = s.nat (as_ u 2))
  ∧ (∀ u s, u < 5 → s.streamState u = 1 → s.nat (as_ u 3) ≠ 0 → (s.stream u).readyAt + 307200 ≤ s.lastEdge u →
      s.startMode u = 0 → (s.stream u).rejoin = false →
      Gives (.streamSoloStart u) s fun t => t.streamState u = 3 ∧ t.nat (as_ u 7) = 0 ∧ t.nat (as_ u 0x0F) = s.lastEdge u)
  ∧ (∀ n u e s, s.dueEntry n [6] = some e → u < 5 → bitOf (nthD e.param 0 0) u = true → s.streamState u = 1 →
      s.startMode u = 1 → s.nat (as_ u 3) ≠ 0 →
      Gives (.portGroupStart n) s fun t => t.streamState u = 2 ∧ (t.stream u).startAt = e.instant)
  ∧ (∀ u s, u < 5 → s.streamState u = 3 →
      (s.stream u).content + ((s.stream u).bound + 153600) * 65536 ≤ s.gnomon * 65536 → (s.stream u).next < 512 →
      s.nat (as_ u 7) ≤ (s.stream u).next →
      Gives (.streamFrameProduce u) s fun t => (t.stream u).next = (s.stream u).next + 1 ∧
        (t.stream u).has (s.stream u).next = true)
  ∧ (∀ u s, u < 5 → s.streamState u = 3 →
      Gives (.frameStartEdge u) s fun t => t.nat (as_ u 7) = s.nat (as_ u 7) + 1 ∧
        (t.stream u).edgeNo = (s.stream u).edgeNo + 1)
  ∧ (∀ u s, u < 5 → s.streamState u = 3 → s.nat (as_ u 0x10) = 0 → 48 < ((s.fill u : Int) - 256).natAbs →
      (s.stream u).loopAt + 64 ≤ s.nat (as_ u 7) →
      Gives (.rateLoopUpdate u) s fun t => t.num (as_ u 5) = clampInt (-1000000) 1000000
        (Config.loopStep (s.num (as_ u 5)) (s.stream u).integrator ((s.fill u : Int) - 256) true).1)
  ∧ (∀ u l s, ((List.range 5).find? fun v => bitOf (s.nat (as_ u 0x10)) v && v != u && s.streamState v == 3) = some l →
      u < 5 → bitOf (s.nat (as_ u 0x10)) u = true → l < u → s.streamState u = 3 →
      ((s.stream u).firstEdge + 8 < (s.stream l).firstEdge ∨ (s.stream l).firstEdge + 8 < (s.stream u).firstEdge) →
      Gives (.groupMemberRemoved u) s fun t => t.nat (as_ u 0x10) = 0)
  ∧ (∀ u s, u < 5 → (s.stream u).holdLanded = true → s.streamState u = 3 →
      Gives (.postRoll u) s fun t => t.streamState u = 7 ∧ (t.stream u).fadeFrom = s.nat (as_ u 7))
  ∧ (∀ u s, u < 5 → s.streamState u = 7 → (s.stream u).fadeFrom + 128 ≤ s.nat (as_ u 7) → (s.stream u).holdLanded = true →
      Gives (.postRollEnd u) s fun t => t.streamState u = 0 ∧ t.ustate (0x400 + u) = 3)
  ∧ (∀ u s, u < 5 → s.streamState u = 7 → (s.stream u).fadeFrom + 128 ≤ s.nat (as_ u 7) → (s.stream u).holdLanded = false →
      Gives (.postRollEnd u) s fun t => t.streamState u = 1 ∧ t.nat (as_ u 3) = 0 ∧ (t.stream u).rejoin = true)
  ∧ (∀ u s, u < 5 → s.streamState u = 3 → (s.stream u).has (s.nat (as_ u 7) + 127) = false →
      Gives (.underrun u) s fun t => t.streamState u = 4 ∧ t.nat (as_ u 9) = satAdd 32 (s.nat (as_ u 9)) 1)
  ∧ (∀ u s, u < 5 → s.streamState u = 4 → (s.stream u).fadeFrom + 128 ≤ s.nat (as_ u 7) →
      ((List.range 128).all fun i => (s.stream u).has (s.nat (as_ u 7) + i)) = true →
      Gives (.reEntry u) s fun t => t.streamState u = 3)
  ∧ (∀ u s, u < 5 → s.streamState u ≠ 0 → s.streamState u ≠ 5 → (s.stream u).holdLanded = false →
      Gives (.clockLost u) s fun t => t.streamState u = 5 ∧ (t.stream u).ring = [] ∧
        t.nat (as_ u 0x0C) = satAdd 32 (s.nat (as_ u 0x0C)) 1)
  ∧ (∀ u f s, u < 5 → s.streamState u = 5 → 64 ≤ (s.stream u).stable → s.identifyRate u (s.stream u).rate64 = some f →
      s.nat (as_ u 0x10) = 0 →
      Gives (.clockReturn u) s fun t => t.streamState u = 1 ∧ t.nat (as_ u 2) = (s.stream u).rate64 ∧ t.nat (as_ u 3) = f)
  ∧ (∀ u s, u < 4 → s.streamState u = 3 → (s.stream u).glitchRun = 0 →
      Gives (.glitch u) s fun t => t.nat (as_ u 0x0B) = satAdd 32 (s.nat (as_ u 0x0B)) 1 ∧ (t.stream u).glitchRun = 1)
  ∧ (∀ u s, u < 5 → s.streamState u = 3 → s.nat (as_ u 3) ≠ 0 → 65 ≤ (s.stream u).edges.length →
      s.nat (as_ u 3) * 10 < (((s.stream u).rate64 : Int) - s.nat (as_ u 3) * 1000).natAbs →
      Gives (.rateChange u) s fun t => t.streamState u = 7 ∧ t.nat (as_ u 2) = (s.stream u).rate64)
  ∧ (∀ r b s, s.Accepts r 0x500410 b →
      Gives (.channelStatusWrite r b) s fun t => t.bytes 0x500410 = b)
  ∧ (∀ s, s.streamState 4 = 3 → s.nat 0x500412 = 2 → s.iec.user.bits = [] → s.iec.user.programme ≠ (0xFF, 0, s.nat 0x500408) →
      Gives .userDataPacket s fun t => t.iec.user.programme = (0xFF, 0, s.nat 0x500408) ∧ t.iec.user.clears = 2)

/-! ### The mesh: radio, link, core, Glimmer -/

/-- The mesh radio (R278 to R299): what each command leaves where it acts. -/
def Obligations.RadioCompletes : Prop :=
  (∀ hz s, s.radioUp = true → s.radioState = 2 → s.radioStays 3 = false → s.mayReceive hz = true →
    Gives (.radioTransition 3 hz) s fun t => t.radioState = 3 ∧ t.nat 0x600102 = hz ∧ t.radio.rxSince = some s.gnomon ∧
      t.radio.arrives = s.gnomon + 9831)
  ∧ (∀ hz s, s.radioUp = true → s.radioState = 3 → s.radioStays 2 = false →
      Gives (.radioTransition 2 hz) s fun t => t.radioState = 2 ∧ t.radio.rxSince = none ∧ t.radio.arrives = s.gnomon + 308)
  ∧ (∀ s, s.radioUp = true → s.radioState = 3 → s.radioStays 4 = false → s.ackDue (s.nat 0x600102) 7373 = true →
      Gives (.radioTransition 4 (s.nat 0x600102)) s fun t => t.radioState = 4 ∧ t.radio.arrives = s.gnomon + 7373)
  ∧ (∀ s, s.radioUp = true → 2 ≤ s.radioState →
      Gives .synthUnlock s fun t => t.nat 0x600109 = satAdd 32 (s.nat 0x600109) 1 ∧
        t.radioState = (if s.radioState = 4 then 2 else s.radioState))
  ∧ (∀ k s, ((List.range 4).find? fun k => (s.calDue k).isSome) = some k → s.radioUp = true → s.radioState = 2 ∨ s.radioState = 3 →
      s.radio.calib = none → s.ackWindow = false → s.onAir = false → s.hearing = false → s.inCsma = false →
      s.radio.wake = none → s.radio.test = none → s.arrived = true →
      (s.commitments.all fun t => decide (s.gnomon + 308 + calTicks k + 1536 ≤ t)) = true →
      Gives .calibrationStart s fun t => t.radioState = 2 ∧
        t.radio.calib = some ⟨k, s.gnomon + (if s.radioState = 3 then 308 else 0), s.radioState⟩)
  ∧ (∀ c s, s.radio.calib = some c → c.started + calTicks c.kind ≤ s.gnomon →
      Gives .calibrationComplete s fun t => t.radio.calib = none ∧ t.nat (0x600205 + c.kind) = s.gnomon)
  ∧ (∀ c s, s.radio.calib = some c → (s.commitments.any fun i => decide (i < c.started + calTicks c.kind)) = true →
      Gives .calibrationAbort s fun t => t.radio.calib = none ∧ t.nat 0x600203 = satAdd 32 (s.nat 0x600203) 1)
  ∧ (∀ k i s, s.calDue k = some i → k < 4 → i + 1536000000 ≤ s.gnomon → bitOf (s.nat 0x600204) k = false →
      s.radioUp = true →
      Gives (.calibrationOverdue k) s fun t => t.nat 0x600204 = setBit (s.nat 0x600204) k)
  ∧ (∀ sfd last phr psdu plain rssi snr s, s.radioUp = true → s.radioState = 3 → s.radio.arrives ≤ sfd → s.radio.test = none →
      phr.kept = true → phr.good psdu = true →
      Gives (.narrowbandFrame sfd last phr psdu plain rssi snr) s fun t =>
        t.nat 0x60010A = satAdd 32 (s.nat 0x60010A) 1 ∧ t.radio.receiving = none)
  ∧ (∀ sfd last phr psdu plain rssi snr s, s.radioUp = true → s.radioState = 3 → s.radio.arrives ≤ sfd → phr.kept = false →
      Gives (.narrowbandFrame sfd last phr psdu plain rssi snr) s fun t => t.nat 0x60010B = satAdd 32 (s.nat 0x60010B) 1 ∧
        t.link.receptions = s.link.receptions)
  ∧ (∀ p sfd last phr psdu plain rssi lq s, p < 2 → s.tapRuns = true → s.mode = .full → s.transmitting = false →
      s.tapStraddles p sfd last = false → phr.kept = true → phr.good psdu = true → s.gnomon ≤ last + 61440 →
      s.link.receptions = [] →
      Gives (.tapCopy p sfd last phr psdu plain rssi lq) s fun t =>
        t.link.receptions.map (fun r => r.chosen) =
          [some ⟨p + 1, sfd, last, phr.length, rssi, min lq 255, true, plain.isSome, macFrame phr.fcs psdu plain⟩] ∧
        t.nat (0x60010C + (p + 1)) = satAdd 32 (s.nat (0x60010C + (p + 1))) 1)
  ∧ (∀ sfd n s, s.radioUp = true → s.radioState = 3 → s.arrived = true →
      Gives (.preambleDetected 0 sfd n) s fun t => t.radio.receiving = some s.gnomon ∧ t.radio.rxUntil = s.receptionEnd sfd n)
  ∧ (∀ p sfd n s, 1 ≤ p → p ≤ (if s.mode = .full then 2 else 1) → s.tapRuns = true →
      Gives (.preambleDetected p sfd n) s fun t => (t.path (p - 1)).tapSince = some s.gnomon ∧
        (t.path (p - 1)).tapUntil = s.receptionEnd sfd n)
  ∧ (∀ r code target n freq i p s, s.Accepts r 0x601101 (leNat 2 code ++ leNat 2 target ++ [n, freq, i, 0]) → 0 < code →
      code < 0xFFFF → target < 65536 → 1 ≤ n → n ≤ 8 → freq ≤ 1 → i ≤ 79 → s.awaiting.contains 0x601102 = false → s.radio.wake = none →
      s.txPower (glimmerHz freq) i = some p →
      ((s.autoTake r 0x601101).enrol (s.nearestChannel (glimmerHz freq)) (n * telegramTicks) false).1 = 0 →
      Gives (.wakeRequest r (leNat 2 code ++ leNat 2 target ++ [n, freq, i, 0])) s fun t =>
        t.radio.wake = some ⟨code, target, n, freq, p.1, none⟩ ∧ t.nat 0x601103 = 1)
  ∧ (∀ r kHz s, s.Accepts r 0x600110 ([3] ++ leNat 4 kHz ++ [0, 0, 0]) → kHz < 2 ^ 32 → s.ustate 0x502 ≠ 2 →
      s.awaiting.contains 0x600111 = false →
      Gives (.radioTest r ([3] ++ leNat 4 kHz ++ [0, 0, 0])) s fun t =>
        t.radio.test = some ⟨3, kHz, 0, 0, 0, 0⟩ ∧ t.radioState = 3)

/-- The Voussoir link (R303 to R318): what each command leaves where it acts. -/
def Obligations.LinkCompletes : Prop :=
  (∀ c s, s.nextReception = some c → s.meshUp = true → s.link.ack = none → s.ackedFrame c = none →
    s.filter c.frame = true → s.secure c = true → s.duplicate c.frame = false → s.replay c.frame = false →
    s.mesh.rx.length < 16 →
    Gives .linkFrameReceive s fun t => t.mesh.rx.length = s.mesh.rx.length + 1 ∧
      t.nat 0x602101 = satAdd 32 (s.nat 0x602101) 1)
  ∧ (∀ c f s, s.nextReception = some c → s.ackedFrame c = some f → s.meshUp = true →
      Gives .ackReceive s fun t => t.nat 0x60210A = satAdd 32 (s.nat 0x60210A) 1 ∧
        (t.link.frames.find? fun g => g.handle == f.handle).map (·.stage) = some .ended)
  ∧ (∀ h f s, (s.link.frames.find? fun f => f.handle == h && f.stage == .sent && f.ar) = some f → s.meshUp = true →
      s.link.receptions = [] → f.wait ≤ s.gnomon →
      Gives (.ackWaitExpiry h) s fun t => t.nat 0x60210B = satAdd 32 (s.nat 0x60210B) 1 ∧
        (t.link.frames.find? fun g => g.handle == h).map (·.stage)
          = some (if f.at_.isNone ∧ f.tries ≤ s.nat 0x60200C then .retry else .ended))
  ∧ (∀ f s, (s.link.frames.find? fun f => f.stage == .queued && f.at_.isNone) = some f → s.meshUp = true →
      s.immediateFree = true → (f.secured && !s.canSecure) = false → s.radio.test = none →
      (s.txPower (s.channelHz f.channel) 79).isSome = true → (s.enrol f.channel (s.airtime f) false).1 = 0 →
      Gives .immediateFrame s fun t => t.link.dsn = (s.link.dsn + 1) % 256 ∧
        (t.link.frames.find? fun g => g.handle == f.handle).map (·.stage) = some .backoff)
  ∧ (∀ h f s, s.frameAt h .retry = some f → s.meshUp = true → (s.txPower (s.channelHz f.channel) 79).isSome = true →
      (s.enrol f.channel (s.airtime f) false).1 = 0 →
      Gives (.frameRetry h) s fun t => t.nat 0x60210C = satAdd 32 (s.nat 0x60210C) 1 ∧
        (t.link.frames.find? fun g => g.handle == h).map (·.stage) = some .backoff)
  ∧ (∀ h f s, s.frameAt h .backoff = some f → s.meshUp = true → f.left = 0 → s.radioState = 3 → s.arrived = true →
      s.nat 0x600102 = s.channelHz f.channel → s.backoffRuns = true →
      s.radio.calib = none → s.reachesScheduled f = false →
      Gives (.backoffExpiry h) s fun t => (t.frameAt h .cca).map (·.wait) = some s.gnomon)
  ∧ (∀ h rssi pre f s, s.frameAt h .cca = some f → s.meshUp = true → f.wait + s.tcca ≤ s.gnomon → s.ccaBusy f.wait rssi pre = false →
      s.radioState = 3 → s.arrived = true → s.radio.calib = none →
      Gives (.ccaEnd h rssi pre) s fun t => t.radioState = 4 ∧ t.nat 0x600105 = satAdd 32 (s.nat 0x600105) (f.train + 1))
  ∧ (∀ f n s, (s.link.frames.find? fun f => f.stage == .queued && f.at_.isSome) = some f → s.meshUp = true →
      (f.secured && !s.canSecure) = false → (s.txPower (s.channelHz f.channel) 79).isSome = true →
      s.entryFor true = some n →
      Gives .scheduledFrame s fun t => (t.entry n).map (·.kind) = some 8 ∧
        (t.link.frames.find? fun g => g.handle == f.handle).map (·.stage) = some .armed)
  ∧ (∀ n e f s, s.dueEntry n [8] = some e → s.link.ack = none → s.onAir = false →
      (s.link.frames.find? fun f => f.handle == fieldLe e.param 0 2 && (f.stage == .clear || f.stage == .armed)) = some f →
      f.stage = .clear → s.radioState = 4 → s.arrived = true → s.meshUp = true → s.gnomon ≤ f.at_.getD 0 + s.nat 0x60000A →
      Gives (.meshTx n) s fun t => t.radioState = 4 ∧ t.nat 0x600105 = satAdd 32 (s.nat 0x600105) (f.train + 1))
  ∧ (∀ s, s.flash.frameCounter ≤ s.nat 0x602401 →
      Gives .frameCounterRecord s fun t =>
        t.flash.frameCounter = min 0xFFFFFFFF ((s.nat 0x602401 / 65536 + 1) * 65536))

/-- The mesh core (R294, R307, R314, R319 to R342): what each command leaves where it acts. -/
def Obligations.MeshCompletes : Prop :=
  (∀ sfd q s, (copySelectionEnd sfd s).2 = some q →
    Gives (.copySelectionEnd sfd) s fun t => t.nat 0x60010F = satAdd 32 (s.nat 0x60010F) 1 ∧ q ∉ t.link.receptions)
  ∧ (∀ a s, s.link.ack = some a → s.radioUp = true → a.last + 153600 ≤ s.gnomon → s.onAir = false → s.radioState = 4 → s.arrived = true →
      (s.txPower (s.nat 0x600102) 79).isSome = true →
      (s.enrol (s.nearestChannel (s.nat 0x600102)) (s.ackTicks a.dst) true).1 = 0 →
      Gives .ackSend s fun t => t.link.ack = none ∧ t.nat 0x602106 = satAdd 32 (s.nat 0x602106) 1 ∧
        t.radio.air = [withFcs (s.cnat 0x600007) (ackOctets (s.cnat 0x602001) a.dsn a.dst a.pending a.nack a.correction)])
  ∧ (∀ f s, (s.link.frames.find? fun f => f.stage == .ended && decide (f.last ≤ s.gnomon)) = some f → 512 ≤ f.node →
      Gives .transmitReport s fun t => t.link.frames = s.link.frames.filter fun g => g.handle != f.handle)
  ∧ (∀ f e s, (s.link.frames.find? fun f => f.stage == .ended && decide (f.last ≤ s.gnomon)) = some f → f.node < 512 →
      (s.node f.node).state ≠ 0 → f.purpose = .join e → f.status = 0 →
      Gives .transmitReport s fun t => (t.node f.node).state = 2)
  ∧ (∀ w u e i s, s.takeWork 1 = some (w, u) → w.from_.src = .ext e → s.joiningOpen = true → s.blocked e = false →
      s.nodeByExt e = none → s.freeNode = some i →
      Gives .joinRequest s fun t => (t.node i).ext = e ∧ (t.node i).state = 1 ∧ (t.node i).short = s.cnat 0x603001 + i)
  ∧ (∀ j s, (s.mesh.joins.find? fun j => j.at_.isSome) = some j → s.meshUp = true →
      Gives .joinResponse s fun t => t.link.frames.getLast?.map (·.purpose) = some (.join j.ext) ∧
        t.mesh.joins = s.mesh.joins.filter fun k => k.ext != j.ext)
  ∧ (∀ w u s, s.takeWork 7 = some (w, u) → w.node < 512 → (s.node w.node).state ≠ 0 →
      Gives .leave s fun t => t.node w.node = Node.init)
  ∧ (∀ w u s, s.takeWork 0 = some (w, u) → w.node < 512 → (s.node w.node).state ≠ 0 →
      Gives .readings s fun t => t.nat (obj (0x6800 + w.node) 3) = w.from_.sfd ∧
        t.nat (obj (0x6800 + w.node) 4) = w.seq)
  ∧ (∀ d rest s, s.mesh.rx = d :: rest → s.meshUp = true → 9 ≤ d.payload.length → nthD d.payload 0 0 / 16 = 1 →
      nthD d.payload 1 0 = 0 → bodyOk (nthD d.payload 0 0 % 16) (d.payload.drop 9) = true → fieldLe d.payload 5 2 = 0 →
      (s.mesh.seen.any fun q => q.1 == fieldLe d.payload 3 2 * 65536 + fieldLe d.payload 7 2) = false →
      Gives .voussoirFrame s fun t => t.mesh.rx = rest ∧ t.nat 0x603201 = satAdd 32 (s.nat 0x603201) 1)
  ∧ (∀ i d p s, (s.node i).nextDownlink = some d → s.chooseSample (s.node i) = some p → s.meshUp = true →
      (s.node i).immediate = false → (s.node i).state = 2 → (s.node i).missAt = none → s.needsTrain (s.node i) = false →
      Gives (.rendezvous i) s fun t => t.link.frames.length = s.link.frames.length + 1 ∧
        t.mesh.seq = (s.mesh.seq + 1) % 65536)
  ∧ (∀ i m s, (s.node i).missAt = some m →
      Gives (.rendezvousMiss i) s fun t => (t.node i).misses = satAdd 8 (s.node i).misses 1 ∧ (t.node i).missAt = none ∧
        t.nat 0x603203 = satAdd 32 (s.nat 0x603203) 1)
  ∧ (∀ i d s, (s.node i).nextDownlink = some d → s.meshUp = true → (s.node i).immediate = false → (s.node i).state = 2 →
      (s.node i).missAt = none → (s.node i).trainAt = none → s.needsTrain (s.node i) = true →
      Gives (.wakeTrain i) s fun t => t.link.frames.length = s.link.frames.length + 1 ∧
        t.nat 0x603204 = satAdd 32 (s.nat 0x603204) 1)
  ∧ (∀ i d m s, (s.node i).nextDownlink = some d → s.meshUp = true → (s.node i).immediate = false →
      (s.node i).trainAt = some m → m ≤ s.gnomon →
      Gives (.wakeTrainRetry i) s fun t => t.link.frames.length = s.link.frames.length + 1 ∧
        t.nat 0x603204 = satAdd 32 (s.nat 0x603204) 1 ∧ (t.node i).trainAt = none)
  ∧ (∀ i s, s.meshUp = true → s.nat 0x60300B = 1 → (s.node i).state = 2 →
      ((s.node i).phaseAt s.gnomon s.gnomon).isSome = true → s.nat 0x60300C ≤ (s.goodRun (s.node i)).2 →
      bitOf (s.node i).echo 7 = false → (s.node i).gateAt = none →
      ((s.node i).queue.any fun d => d.handle == 0) = false →
      Gives (.phaseGate i) s fun t => (t.node i).gateAt = some s.gnomon ∧
        (t.node i).queue.length = (s.node i).queue.length + 1)
  ∧ (∀ r short life data i s, s.Accepts r 0x604001 (leNat 2 short ++ [3, data.length] ++ leNat 2 life ++ [0, 0] ++ data) →
      short < 65536 → s.joinedAt short = some i → ((s.node i).queue.filter fun d => d.handle != 0).length < 4 →
      1 ≤ data.length → data.length ≤ 64 → 1 ≤ life → life ≤ 3600 → s.canSecure = true →
      Gives (.downlink r (leNat 2 short ++ [3, data.length] ++ leNat 2 life ++ [0, 0] ++ data)) s fun t =>
        t.mesh.handle = (if 65535 ≤ s.mesh.handle then 1 else s.mesh.handle + 1) ∧
          (t.node i).queue.length = (s.node i).queue.length + 1)
  ∧ (∀ h i n d s, (s.mesh.nodes.find? fun p => p.2.queue.any fun d => d.handle == h && decide (d.ends ≤ s.gnomon)) = some (i, n) →
      (n.queue.find? fun d => d.handle == h && decide (d.ends ≤ s.gnomon)) = some d → d.busy = false →
      Gives (.downlinkExpiry h) s fun t => t.nat 0x603206 = satAdd 32 (s.nat 0x603206) 1 ∧
        (t.node i).queue = (s.node i).queue.filter fun q => q.handle != h)
  ∧ (∀ r short i s, s.Accepts r 0x604004 ([1] ++ leNat 2 short ++ [0, 0, 0, 0, 0]) → short < 65536 → s.joinedAt short = some i →
      (s.node i).state ≠ 0 →
      Gives (.nodeRemove r ([1] ++ leNat 2 short ++ [0, 0, 0, 0, 0])) s fun t => t.node i = Node.init)
  ∧ (∀ i s, (s.node i).state = 2 → (s.node i).heardAt + s.nat 0x603008 * 153600000 ≤ s.gnomon → s.tableFull = false →
      Gives (.absentTimeout i) s fun t => t.node i = { s.node i with state := 3 })
  ∧ (∀ s, s.nat 0x603007 ≠ 65535 → s.nat 0x603007 ≠ 0 → s.joiningLeft = 0 →
      Gives .joiningCountdown s fun t => t.nat 0x603007 = 0 ∧ t.joiningOpen = false)
  ∧ (∀ i s, (s.node i).state ≠ 0 → Map.get (fun _ => 0) s.flash.nodeCounters i + 1024 ≤ (s.node i).lastCounter →
      Gives (.nodeCounterRecord i) s fun t =>
        Map.get (fun _ => 0) t.flash.nodeCounters i = (s.node i).lastCounter)

/-- Glimmer wake words (R295 to R297): what each command leaves where it acts. -/
def Obligations.GlimmerCompletes : Prop :=
  (∀ pre rate xs s, wakeWord pre rate xs = some (s.nat 0x601003, s.nat 0x601004) → s.glimmerListens = true →
    s.nat 0x601006 ≠ 0 → s.radio.matchEnd = none →
    Gives (.glimmerWord pre rate xs) s fun t => t.radio.matchEnd = some s.wall ∧
      t.nat 0x60100A = s.nat 0x601003 * 65536 + s.nat 0x601004)
  ∧ (∀ pre rate xs target s, wakeWord pre rate xs = some (s.nat 0x601003, target) → s.glimmerListens = true → target ≠ s.nat 0x601004 → target ≠ 0xFFFF →
      Gives (.glimmerWord pre rate xs) s fun t => t.nat 0x601008 = satAdd 32 (s.nat 0x601008) 1)
  ∧ (∀ at_ s, s.radio.judged = some at_ → at_ + 2000 * msTicks ≤ s.gnomon →
      Gives .spuriousWake s fun t => t.radio.judged = none ∧ t.nat 0x601009 = satAdd 32 (s.nat 0x601009) 1)
  ∧ (∀ s, s.nat 0x601006 = 1 → (s.radio.spurious.all fun x => decide (x + hourTicks ≤ s.gnomon)) = true →
      Gives .matchModeReset s fun t => t.nat 0x601006 = 0 ∧ t.radio.spurious = [])

/-! ### Units, courses and the launch table -/

/-- The verbs (R25 to R37): what each leaves where it acts. -/
def Obligations.VerbsComplete : Prop :=
  (∀ r u s, s.VerbReady r u (verbBytes u 1 0 0 0) → u / 256 ≠ 6 → (u / 256 = 8 → ownerId r ≠ 0xFE) →
    modeProvides s.mode u = true → s.reserved (ownerId r) = false →
    (u / 256 = 1 → isRom (u % 256) = true → ownerId r = 0 ∨ ownerId r = 0xFE) →
    (ownerId r = 0xFE → s.tapReserved u = false) → (u / 256 = 2 → (s.engine (u % 256)).zeroing = false) → s.owner u = 0xFF →
    Gives (.claim r u false 0) s fun t => t.owner u = ownerId r ∧ Map.get (fun _ => 0) t.claimedAt u = s.gnomon)
  ∧ (∀ r u n s, s.VerbReady r u (verbBytes u 1 0 n 0) → u / 256 = 6 → modeProvides s.mode u = true →
      (ownerId r = 0xFE → s.tapReserved u = false) → s.ustate u ≠ 4 → 1 ≤ n → n ≤ 16 → n ≤ s.freeShares (u % 256) →
      Gives (.claimAcceleratorShares r u false n) s fun t =>
        t.sharesOf (u % 256) (ownerId r) = s.sharesOf (u % 256) (ownerId r) + n)
  ∧ (∀ r u s, s.VerbReady r u (verbBytes u 2 0 0 0) → u / 256 ≠ 6 → u / 256 ≠ 3 → s.owns (ownerId r) u = true →
      s.ustate u = 0 → ((s.autoTake r 0x201001).configureUnit u).2 = 0 →
      Gives (.configure r u) s fun t => t.ustate u = 1)
  ∧ (∀ r u s, s.VerbReady r u (verbBytes u 2 0 0 0) → u / 256 = 3 → s.owns (ownerId r) u = true → s.ustate u = 0 →
      ((s.autoTake r 0x201001).configureCourse u).2.1 = 0 → ((s.autoTake r 0x201001).configureCourse u).1.ustate u = 1 →
      Gives (.courseConfigure r u) s fun t => t.ustate u = 1 ∧ t.answer.code = 0)
  ∧ (∀ r u i n s, s.VerbReady r u (verbBytes u 3 0 0 i) → s.owns (ownerId r) u = true → s.parent u = 0xFFFF →
      s.ustate u = 1 → i ≤ s.gnomon + 2 ^ 40 → i < 2 ^ 64 → s.entryFor (ownerId r == 0) = some n →
      Gives (.start r u i) s fun t => (t.entry n).map (fun e => (e.kind, e.target, e.owner)) = some (1, u, ownerId r))
  ∧ (∀ r u i n s, s.VerbReady r u (verbBytes u 4 0 0 i) → s.owns (ownerId r) u = true → s.parent u = 0xFFFF →
      s.ustate u = 2 → i ≤ s.gnomon + 2 ^ 40 → i < 2 ^ 64 → s.entryFor (ownerId r == 0) = some n →
      Gives (.hold r u i) s fun t => (t.entry n).map (fun e => (e.kind, e.target, e.owner)) = some (2, u, ownerId r))
  ∧ (∀ r u i n s, s.VerbReady r u (verbBytes u 5 0 0 i) → s.owns (ownerId r) u = true → s.parent u = 0xFFFF →
      s.ustate u = 3 → i ≤ s.gnomon + 2 ^ 40 → i < 2 ^ 64 → s.entryFor (ownerId r == 0) = some n →
      Gives (.resume r u i) s fun t => (t.entry n).map (fun e => (e.kind, e.target, e.owner)) = some (3, u, ownerId r))
  ∧ (∀ r u s, s.VerbTaken r u (verbBytes u 6 0 0 0) → s.parent u = 0xFFFF → s.owns (ownerId r) u = true → u / 256 ≠ 6 →
      u / 256 ≠ 3 → s.tapReserved u = false ∨ ownerId r = 0 → s.releasing u = false →
      (u / 256 = 4 → s.ustate u = 2 → s.streamState (u % 256) ≠ 3 ∧ s.streamState (u % 256) ≠ 4 ∧ s.streamState (u % 256) ≠ 7) →
      Gives (.release r u) s fun t => t.owner u = 0xFF ∧ t.parent u = 0xFFFF)
  ∧ (∀ r u s, s.VerbTaken r u (verbBytes u 6 0 0 0) → s.owns (ownerId r) u = true → u / 256 = 6 →
      Gives (.releaseAcceleratorShares r u) s fun t => t.sharesOf (u % 256) (ownerId r) =
        min (s.sharesOf (u % 256) (ownerId r)) (s.namedShares u (ownerId r)))
  ∧ (∀ e s, (s.engine e).zeroing = true → (s.engine e).heldClaim = none → s.tapReserved (0x200 + e) = false →
      Gives (.engineZeroingComplete e) s fun t => (t.engine e).zeroing = false ∧ t.ustate (0x200 + e) = 0)
  ∧ (∀ r u s, s.VerbTaken r u (verbBytes u 6 0 0 0) → s.parent u = 0xFFFF → s.owns (ownerId r) u = true → u / 256 = 3 →
      (∀ v, v ∈ s.leaves u → unitExists v = true ∧ s.ustate v ≠ 2 ∧ s.tapReserved v = false) → s.releasing u = false →
      Gives (.release r u) s fun t => t.owner u = 0xFF ∧ t.parent u = 0xFFFF)
  ∧ (∀ r u s, s.VerbTaken r u (verbBytes u 6 0 0 0) → s.parent u = 0xFFFF → s.owns (ownerId r) u = true → u / 256 = 4 →
      s.ustate u = 2 → s.streamState (u % 256) = 3 → s.tapReserved u = false → s.releasing u = false →
      Gives (.release r u) s fun t => t.ustate u = 2 ∧ t.releasing u = true ∧ (t.stream (u % 256)).holdLanded = true)

/-- The launch table, lock groups, TB_SYNC and CLK_OUT (R33 to R58, R490): what each command leaves where it acts. -/
def Obligations.LaunchCompletes : Prop :=
  (∀ r instant phase kind flags target period count param n s,
    s.Accepts r 0x201101 (leNat 8 instant ++ [phase, kind, flags, 1] ++ leNat 2 target ++ [0, 0] ++ leNat 4 period
      ++ leNat 2 count ++ [0, 0] ++ padTo 8 param) →
    (s.autoTake r 0x201101).placeCheck (leNat 8 instant ++ [phase, kind, flags, 1] ++ leNat 2 target ++ [0, 0]
      ++ leNat 4 period ++ leNat 2 count ++ [0, 0] ++ padTo 8 param) = 0 →
    instant < 2 ^ 64 → s.entryFor (ownerId r == 0) = some n →
    Gives (.launchPlace r instant phase kind flags target period count param) s fun t =>
      (t.entry n).map (fun e => (e.kind, e.owner, e.instant)) = some (kind, ownerId r, s.placedAt kind instant))
  ∧ (∀ r n e s, s.Accepts r 0x201101 (List.replicate 11 0 ++ [2, 0, 0, n] ++ List.replicate 17 0) → n ≤ 63 →
      s.entry n = some e → e.owner = ownerId r →
      Gives (.launchCancel r n) s fun t => t.entry n = none)
  ∧ (∀ n e s, s.dueEntry n [1] = some e → e.target / 256 = 1 → s.ustate e.target = 1 → s.prepDone n = [] →
      Gives (.launchStartFiring n) s fun t => t.ustate e.target = 2 ∧ t.entry n = none)
  ∧ (∀ n e s, s.dueEntry n [3] = some e → e.target / 256 = 1 → s.ustate e.target = 3 → s.prepDone n = [] →
      Gives (.launchResumeFiring n) s fun t => t.ustate e.target = 2 ∧ t.entry n = none)
  ∧ (∀ n e s, s.dueEntry n [2] = some e → e.target / 256 = 1 → s.ustate e.target = 2 →
      s.mayWait e = false → (s.holdings.any fun h => h.top == e.target) = false →
      e.owner ≠ 0 ∨ s.tapChains.contains e.target = false →
      Gives (.launchHoldFiring n) s fun t => t.ustate e.target = 3 ∧ t.entry n = none)
  ∧ (∀ n e u s, s.entry n = some e → e.kind = 1 ∨ e.kind = 3 → s.ustate e.target = e.needs →
      (s.prepOrder e)[(s.prepDone n).length]? = some u →
      e.instant ≤ s.gnomon + 384 * ((s.prepOrder e).length - (s.prepDone n).length) → s.loadAwaited n e = none →
      s.leafReady e u = true →
      Gives (.courseLeafPrepare n) s fun t => t.prepDone n = s.prepDone n ++ [u])
  ∧ (∀ u h s, (s.holdings.find? fun h => h.top == u) = some h → h.release = none →
      (∀ v, v ∈ s.leaves u → unitExists v = true) →
      Gives (.courseRankHeld u) s fun t =>
        (∀ v, v ∈ (h.ranks.dropWhile fun r => r.all s.countsHeld).headD [] → unitExists v = true → s.ustate v = 2 →
          v / 256 ≠ 2 → v / 256 ≠ 4 → v / 256 ≠ 6 → t.ustate v = 3)
        ∧ ((h.ranks.dropWhile fun r => r.all s.countsHeld) = [] →
          t.holdings = (s.holdings.filter fun k => k.top != h.top) ∧
            (∀ c, c ∈ h.courses → c / 256 = 3 → unitExists c = true → s.ustate c = 2 → t.ustate c = 3)))
  ∧ (∀ n e s, s.dueEntry n [9] = some e → nthD e.param 0 0 &&& s.nat 0x770001 = nthD e.param 0 0 →
      Gives (.gpioChange n) s fun t => t.gpioFired = some (s.gnomon, nthD e.param 0 0, nthD e.param 1 0))
  ∧ (∀ n e s, s.dueEntry n [0x0B] = some e → s.nat 0x200201 = 1 →
      Gives (.tbSyncPulse n) s fun t => t.tbSync.lastPulse = some e.instant)
  ∧ (∀ r g b s, b < 2 ^ 32 → s.Accepts r (obj 0x2008 g) (leNat 4 b) → s.lockRule g b = 0 →
      Gives (.lockGroupWrite r g b) s fun t => t.nat (obj 0x2008 g) = b)
  ∧ (∀ s, s.nat 0x200201 = 2 →
      Gives .tbSyncFollowerLoad s fun t => t.gnomon = (s.nat 0x200202 + 4) % 2 ^ 64 ∧ t.nat 0x200201 = 0 ∧
        t.nat 0x200002 = (s.nat 0x200002 + 1) % 65536)
  ∧ (∀ e s, s.nat 0x200201 = 3 → s.tbSync.lastEdge = some e →
      Gives .tbSyncCheck s fun t => t.tbSync.lastEdge = some s.gnomon ∧
        t.num 0x200203 = signed 4 ((((s.gnomon : Int) - (e + s.nat 0x200204 : Nat)) % 2 ^ 32).toNat))
  ∧ (∀ r v s, s.Accepts r 0x200205 [v] →
      Gives (.clkOutEnableWrite r v) s fun t => t.nat 0x200205 = v)
  ∧ (∀ u h w s, (s.holdings.find? fun h => h.top == u) = some h → h.release = some w →
      (h.ranks.dropWhile fun r => r.all s.countsHeld) = [] → unitExists u = true → u / 256 ≠ 3 → u / 256 ≠ 6 →
      s.tapReserved u = false →
      Gives (.courseRankHeld u) s fun t => t.owner u = 0xFF ∧ t.parent u = 0xFFFF ∧ t.releasing u = false)
  ∧ (∀ u s, (s.holdings.find? fun h => h.top == u) = none → Gives (.courseRankHeld u) s fun t => t = s)

/-- FIFO objects, process data and the CV units (R254, R357, R358, R382, R383, R407 to R410): what each command leaves where
it acts. -/
def Obligations.AccessCompletes : Prop :=
  (∀ r i n b rest s, s.judgeRead r (obj i 0) = 0 → ringKey (obj i 0) = true →
    takeRecords true n (s.fifo (obj i 0)).recs = some (b, rest) → b ≠ [] →
    Gives (.ringRead r i n false) s fun t => t.answer.data = b ∧ (t.fifo (obj i 0)).recs = rest ∧
      (t.fifo (obj i 0)).readNo = ((s.fifo (obj i 0)).readNo + 1) % 65536)
  ∧ (∀ r i j n b rest s, s.judgeRead r (obj i j) = 0 → fifoKey (obj i j) = true → ringKey (obj i j) = false →
      (s.fifo (obj i j)).recs = b :: rest → b ≠ [] → b.length ≤ n →
      Gives (.fifoRead r i j n) s fun t => t.answer.data = b ∧ (t.fifo (obj i j)).recs = rest ∧
        (t.fifo (obj i j)).last = b)
  ∧ (∀ r i j n s, s.judgeRead r (obj i j) = 0 → fifoKey (obj i j) = true → (s.fifo (obj i j)).last ≠ [] →
      (s.fifo (obj i j)).lastPort = readerNo r → (s.fifo (obj i j)).last.length ≤ n →
      Gives (.fifoRepeatRead r i j n) s fun t => t.answer.data = (s.fifo (obj i j)).last ∧ t.fifos = s.fifos)
  ∧ (∀ r f s, f < 16 → s.Accepts r (pk f 1) [1] → s.pdoOn f = false → (s.autoTake r (pk f 1)).pdoCheck f = 0 →
      Gives (.pdoEnable r f) s fun t => t.pdoOn f = true)
  ∧ (∀ f s, f < 16 → s.ready = true → pdoMode s.mode = true → s.pdoPeriodic f = true → (s.pdo f).built ≠ some s.gnomon →
      s.gnomon % (s.nat (pk f 4) * msTicks) = 0 → s.canSend false = true →
      Gives (.pdoPeriodic f) s fun t => (t.pdo f).built = some s.gnomon ∧ (t.pdo f).waiting.isSome = true)
  ∧ (∀ f s, f < 16 → s.ready = true → pdoMode s.mode = true → s.pdoOnChange f = true → (s.pdo f).built ≠ some s.gnomon →
      s.gnomon % msTicks = 0 → s.pdoChanged f = true → s.pdoInhibited f = false → s.canSend true = true →
      Gives (.pdoChange f) s fun t => (t.pdo f).built = some s.gnomon ∧ (t.pdo f).waiting.isSome = true)
  ∧ (∀ f s, f < 16 → s.ready = true → pdoMode s.mode = true → s.pdoOnChange f = true → (s.pdo f).built ≠ some s.gnomon →
      s.gnomon % msTicks = 0 → s.pdoChanged f = true → s.pdoInhibited f = true →
      Gives (.pdoChange f) s fun t => (t.pdo f).held = true)
  ∧ (∀ r data s, s.Accepts r 0x107801 data → s.awaiting.contains 0x107802 = false →
      (s.autoTake r 0x107801).jobCheck data = 0 → (s.cvUnit 3).active = none →
      Gives (.hostJob r data) s fun t =>
        (t.cvUnit 3).active = some ⟨0xFE, data.take 16, crcStart (data.take 16), data.drop 16⟩)
  ∧ (∀ u m head data s, (posOf m (cvMasters u)).isSome = true → m ≠ 0xFE → (s.cvUnit u).busy = 0 → (s.cvUnit u).active = none →
      Gives (.contextSwitch u m head data) s fun t => (t.cvUnit u).active = some ⟨m, padTo 16 head, crcStart head, data⟩)
  ∧ (∀ u m head data a i s, posOf m (cvMasters u) = some i → m ≠ 0xFE → (s.cvUnit u).busy = 0 →
      (s.cvUnit u).active = some a → i < (posOf a.master (cvMasters u)).getD 99 → (s.cvUnit u).saved = none →
      Gives (.contextSwitch u m head data) s fun t => (t.cvUnit u).active = some ⟨m, padTo 16 head, crcStart head, data⟩ ∧
        (t.cvUnit u).saved = some a ∧ t.nat (cvk u 5) = satAdd 32 (s.nat (cvk u 5)) 1)
  ∧ (∀ u a k s, (s.cvUnit u).active = some a → (s.cvUnit u).busy = 0 → a.left = [] → a.master ≠ 0xFE →
      (s.cvUnit u).saved = some k → (s.cvUnit u).waiting = [] →
      Gives (.contextRestore u) s fun t => (t.cvUnit u).active = some k ∧ (t.cvUnit u).saved = none)

/-! ### Management, power and security -/

/-- Sensors, monitors, the log, GPIO and the tap (R433, R435, R437 to R441, R447, R475): what each command leaves where it acts. -/
def Obligations.ManagementCompletes : Prop :=
  (∀ s, s.monitored = true → s.power.beat + 100 * msTicks ≤ s.gnomon →
    Gives .managementWatchdog s fun t => t.mode = .boot ∧ t.ready = false ∧ t.power.resetCause = 4 ∧ t.log = s.log)
  ∧ (∀ r v s, s.Accepts r 0x731004 [v] → broadcast s.mode = false → s.owner (s.nat 0x731002) ≠ 0 → s.owner s.tapEngine ≠ 0 →
      Gives (.tapEnableWrite r v) s fun t => t.nat 0x731004 = v)
  ∧ (∀ n x last mean s, s.monitored = true → 1 ≤ n → n ≤ 4 → s.sampleDue (obj 0x7000 n) 15360 = true →
      last = lastN 10 (Map.get (fun _ => []) s.power.dieSamples n ++ [x]) → last.length = 10 →
      mean = clampInt (-32768) 32767 (roundMean (last.foldl (· + ·) 0) 10) →
      Gives (.temperatureCrossing n x) s fun t => Map.get (fun _ => []) t.power.dieSamples n = last ∧
        t.num (obj 0x7000 n) = mean ∧ t.num 0x700007 = max mean (s.num 0x700007))
  ∧ (∀ n x last s, s.monitored = true → s.mode ≠ .safe → s.power.safeDue = none → 1 ≤ n → n ≤ 4 →
      s.sampleDue (obj 0x7000 n) 15360 = true →
      last = lastN 10 (Map.get (fun _ => []) s.power.dieSamples n ++ [x]) → last.length = 10 →
      (∀ y, y ∈ last → 1350 ≤ y) →
      Gives (.temperatureCrossing n x) s fun t => t.power.safeDue =
        some ⟨1, n, clampInt (-32768) 32767 (roundMean (last.foldl (· + ·) 0) 10), s.gnomon⟩)
  ∧ (∀ m x last s, s.monitored = true → 1 ≤ m → m ≤ 9 → s.sampleDue (obj 0x7001 m) 1536 = true →
      last = lastN 100 (Map.get (fun _ => []) s.power.railSamples m ++ [x]) → last.length = 100 →
      (lastN 10 last).all (outside (s.band m 10)) = false →
      Gives (.supplyLevel m x) s fun t => t.nat (obj 0x7001 m) = min 65535 ((2 * last.foldl (· + ·) 0 + 100) / 200))
  ∧ (∀ m x recent s, s.monitored = true → m = 1 ∨ m = 7 → s.sampleDue (obj 0x7001 m) 1536 = true →
      recent = lastN 10 (lastN 100 (Map.get (fun _ => []) s.power.railSamples m ++ [x])) → recent.length = 10 →
      recent.all (outside (s.band m 10)) = true → x < (s.band m 10).1 →
      Gives (.supplyLevel m x) s fun t => t.mode = .boot ∧ t.power.resetCause = 3)
  ∧ (∀ m x recent s, s.monitored = true → s.mode ≠ .safe → s.power.safeDue = none → 1 ≤ m → m ≤ 9 →
      s.sampleDue (obj 0x7001 m) 1536 = true →
      recent = lastN 10 (lastN 100 (Map.get (fun _ => []) s.power.railSamples m ++ [x])) → recent.length = 10 →
      recent.all (outside (s.band m 10)) = true → (m ≠ 1 ∧ m ≠ 7) ∨ (s.band m 10).1 ≤ x →
      Gives (.supplyLevel m x) s fun t => t.power.safeDue = some ⟨2, m, clampInt (-32768) 32767 x, s.gnomon⟩)
  ∧ (∀ quiet locked s, s.monitored = true → s.mode ≠ .safe → s.power.safeDue = none → 2000 ≤ quiet →
      Gives (.clockMonitorFault 1 quiet locked) s fun t => t.nat 0x700201 = 2 ∧
        t.power.safeDue = some ⟨3, 1, 0, s.gnomon⟩)
  ∧ (∀ quiet s, s.monitored = true → s.nat 0x700204 = 0 →
      Gives (.clockMonitorFault 4 quiet false) s fun t => t.nat 0x700204 = 1 ∧ t.nat 0x104101 = 0)
  ∧ (∀ s, s.monitored = true → s.flushDue = true →
      Gives (.logFlush false) s fun t => t.log.sram = [])
  ∧ (∀ r q e s, q < 2 ^ 32 → s.Accepts r 0x710002 (leNat 4 q) →
      ((s.autoTake r 0x710002).log.held.find? fun e => e.seq == q) = some e →
      Gives (.logQuery r q) s fun t => t.nat 0x710002 = q ∧ (t.bytes 0x710003).drop 2 = e.encode)
  ∧ (∀ c s, s.power.safeDue = some c → s.mode ≠ .off → s.mode ≠ .parked → s.mode ≠ .safe →
      Gives .safeEntry s fun t => t.mode = .safe ∧ (t.bytes 0x740001).take 2 = [c.cause, c.source])
  ∧ (∀ r k v s, k = 1 ∨ k = 6 → v < 256 → s.Accepts r (obj 0x7700 k) [v] →
      Gives (.gpioWrite r k v) s fun t => t.nat (obj 0x7700 k) = v)
  ∧ (∀ r v s, v < 256 → s.Accepts r 0x770002 [v] → s.gpioFired = none →
      Gives (.gpioWrite r 2 v) s fun t => t.nat 0x770002 = v)
  ∧ (∀ quiet locked s, s.monitored = true → s.mode ≠ .safe → s.power.safeDue = none → 16 < s.unlocksLately ∨ s.unlockedLong = true →
      Gives (.clockMonitorFault 2 quiet locked) s fun t => t.nat 0x700202 = 2 ∧
        t.power.safeDue = some ⟨3, 2, clampInt (-32768) 32767 s.unlocksLately, s.gnomon⟩)
  ∧ (∀ quiet s, s.monitored = true → s.mode ≠ .safe → s.power.safeDue = none →
      Gives (.clockMonitorFault 3 quiet false) s fun t => t.nat 0x700203 = 2 ∧
        t.power.safeDue = some ⟨3, 3, 0, s.gnomon⟩)
  ∧ (∀ quiet s, s.monitored = true →
      Gives (.clockMonitorFault 4 quiet true) s fun t => t.nat 0x700204 = 0)

/-- The A/B update and its trial (R443 to R445): what each command leaves where it acts. -/
def Obligations.UpdateCompletes : Prop :=
  (∀ r s, s.Accepts r 0x720001 [1] → s.nat 0x720002 = 0 ∨ s.nat 0x720002 = 4 ∨ s.nat 0x720002 = 5 → s.nat 0x750001 ≠ 1 →
    Gives (.updateBegin r) s fun t => t.nat 0x720002 = 1 ∧ t.upd.data = [] ∧ t.flash.other.state = 0)
  ∧ (∀ s, s.nat 0x720002 = 1 → Gives .eraseComplete s fun t => t.nat 0x720002 = 2)
  ∧ (∀ r b s, s.Accepts r 0x720101 b → s.nat 0x720002 = 2 → fieldLe b 0 4 = s.upd.data.length →
      fieldLe b 0 4 + (b.drop 4).length ≤ bankSize →
      Gives (.updateChunk r b) s fun t => t.upd.data = s.upd.data ++ b.drop 4)
  ∧ (∀ r engines catalogue s, s.Accepts r 0x720001 [2] → s.nat 0x720002 = 2 →
      Gives (.updateFinish r engines catalogue) s fun t =>
        t.nat 0x720002 = (if (s.otp.judgeBank (imagesOf imageFuel s.upd.data) engines).1 = 0 then 4 else 5) ∧
        ((s.otp.judgeBank (imagesOf imageFuel s.upd.data) engines).1 = 0 → t.flash.other.state = 1 ∧
          t.flash.other.images = (imagesOf imageFuel s.upd.data).map imageHeader))
  ∧ (∀ r s, s.Accepts r 0x720001 [3] → s.nat 0x720002 = 4 →
      Gives (.updateActivate r) s fun t => t.flash.trial = 1 ∧ t.flash.other.state = 2 ∧ t.power.resetDue = some 5)
  ∧ (∀ r s, s.Accepts r 0x720001 [4] → s.nat 0x720002 ≠ 0 →
      Gives (.updateCancel r) s fun t => t.nat 0x720002 = 0 ∧ t.upd.data = [] ∧ t.flash.other.state = 0)
  ∧ (∀ r s, s.Accepts r 0x750002 [1] → s.nat 0x750001 = 1 →
      Gives (.updateConfirm r) s fun t => t.nat 0x750001 = 2 ∧ t.flash.trial = 0 ∧ t.flash.run.state = 3)
  ∧ (∀ from_ s, s.upd.trialFrom = some from_ → s.nat 0x750001 = 1 → from_ + 60000 * msTicks ≤ s.gnomon →
      Gives .trialExpiry s fun t => t.mode = .boot ∧ t.power.resetCause = 6 ∧ (s.flash.trial = 2 → t.flash.trial = 3))

/-- Modes, PARKED, wakes and reset (R436, R450 to R467): what each command leaves where it acts. -/
def Obligations.PowerCompletes : Prop :=
  (∀ r target s, s.Accepts r 0x760002 [target] → (s.autoTake r 0x760002).modeRefusal target = 0 → s.mode ≠ modeOf target →
    removesRadio s.mode (modeOf target) = false →
    Gives (.modeRequest r target) s fun t => t.power.transition = some ⟨s.mode, modeOf target, 1, false, s.gnomon⟩ ∧
      t.nat 0x760005 = 2)
  ∧ (∀ r target s, s.Accepts r 0x760002 [target] → (s.autoTake r 0x760002).modeRefusal target = 0 → s.mode = modeOf target →
      Gives (.modeRequest r target) s fun t => t.power.transition = none ∧
        (t.bytes 0x760003).drop 2 = leNat 2 0 ++ [modeCode s.mode, target, 1, 0] ++ leNat 8 s.gnomon)
  ∧ (∀ tr s, s.power.transition = some tr → tr.held = true → tr.began + 500 * msTicks ≤ s.gnomon →
      Gives .transitionHoldEnd s fun t =>
        t.power.transition = some { tr with held := false, began := s.gnomon } ∧ t.nat 0x760005 = 2)
  ∧ (∀ tr s, s.power.transition = some tr → tr.held = false → tr.target ≠ .parked → s.pathsReady tr = true →
      s.power.heldWake = none →
      Gives .transitionComplete s fun t => t.mode = tr.target ∧ t.power.transition = none ∧ t.nat 0x760005 = 0)
  ∧ (∀ tr s, s.power.transition = some tr → tr.held = false → tr.target = .parked → s.power.heldWake = none →
      Gives .parkedEntry s fun t => t.mode = .parked ∧ t.power.pwrReq = false ∧ t.power.gEntry = s.gnomon)
  ∧ (∀ sources rising micros s, s.mode = .parked → s.power.waking = none → bitOf sources 0 = true →
      bitOf (s.nat 0x760007) 0 = true → s.nat 0x601001 = 1 →
      Gives (.wake sources rising micros) s fun t => t.power.waking = some 0 ∧ t.power.pwrReq = true ∧ t.nat 0x76000A = 1)
  ∧ (∀ sources rising micros s, s.mode = .parked → s.power.waking = none → bitOf sources 0 = false → bitOf sources 1 = true →
      bitOf (s.nat 0x760007) 1 = true → s.wakeEdge rising = true → 10 ≤ micros →
      Gives (.wake sources rising micros) s fun t => t.power.waking = some 1 ∧ t.power.pwrReq = true ∧ t.nat 0x76000A = 2)
  ∧ (∀ src hashes s, s.mode = .parked → s.power.waking = some src → s.power.wokeAt + 12 ≤ s.power.rtcPeriods →
      s.power.resumeRecord.mismatch hashes = 0 →
      Gives (.parkedResume hashes) s fun t => t.mode = .watch ∧ t.power.waking = none ∧
        t.gnomon = (s.power.gEntry + s.power.rtcPeriods * 9375 / 2) % 2 ^ 64)
  ∧ (∀ s, s.mode = .parked → s.power.waking.isSome = true → s.power.wokeAt + 328 ≤ s.power.rtcPeriods →
      Gives .wakeFailure s fun t => t.power.waking = none ∧ t.power.pwrReq = false ∧
        t.nat 0x76000D = satAdd 16 (s.nat 0x76000D) 1)
  ∧ (∀ rising micros s, s.mode = .watch → s.wakeEdge rising = true → 10 ≤ micros → s.power.transition = none →
      s.nat 0x760009 = 0 → s.nat 0x104101 = 5 →
      Gives (.wakeInWatch rising micros) s fun t => t.nat 0x104101 = 2 ∧ t.radio.judged = none)
  ∧ (∀ from_ s, s.power.left = some from_ → from_ + 2000 * msTicks ≤ s.gnomon →
      Gives .wakeOutEnd s fun t => t.power.left = none)
  ∧ (∀ c nanos kept s, c = 1 ∨ (c = 2 ∧ 1000 ≤ nanos) ∨ c = 3 ∨ (c = 5 ∧ s.power.resetDue = some 5) →
      Gives (.reset c nanos kept) s fun t => t.mode = .boot ∧ t.ready = false ∧ t.power.resetCause = c ∧ t.gnomon = 0 ∧
        t.pending = s.pending ∧ t.otp = s.otp)
  ∧ (∀ gpio2 gpio3 goodA goodB temps supplies s, s.mode = .boot → s.ready = false → s.power.bootStep = 0 →
      gpio3 = true ∨ (s.chooseBank goodA goodB).2 = false →
      Gives (.bringUp gpio2 gpio3 goodA goodB temps supplies) s fun t => t.ready = true ∧ t.mode = .update ∧
        t.flash.resetCount = (s.flash.resetCount + 1) % 2 ^ 32)
  ∧ (∀ step tr s, s.power.transition = some tr → tr.held = false →
      ((pathSteps tr.old tr.target).find? fun n => decide (s.power.pathStep < n)) = some step →
      Gives (.pathPowerUp step) s fun t => t.power.pathStep = step)
  ∧ (∀ gpio2 goodA goodB temps supplies s, s.mode = .boot → s.ready = false → s.power.bootStep = 0 →
      (s.chooseBank goodA goodB).2 = true →
      Gives (.bringUp gpio2 false goodA goodB temps supplies) s fun t => t.power.bootStep = 7 ∧
        t.flash.resetCount = (s.flash.resetCount + 1) % 2 ^ 32)
  ∧ (∀ gpio2 gpio3 goodA goodB temps supplies s, s.mode = .boot → s.ready = false → s.power.bootStep ≠ 0 →
      Gives (.bringUp gpio2 gpio3 goodA goodB temps supplies) s fun t => t.ready = true ∧ t.mode = modeOf (s.nat 0x760004))
  ∧ (∀ gpio2 gpio3 goodA goodB temps supplies s, s.mode ≠ .boot ∨ s.ready = true →
      Gives (.bringUp gpio2 gpio3 goodA goodB temps supplies) s fun t => t = s)
  ∧ (∀ src hashes s, s.mode = .parked → s.power.waking = some src → s.power.wokeAt + 12 ≤ s.power.rtcPeriods →
      s.power.resumeRecord.mismatch hashes ≠ 0 →
      Gives (.parkedResume hashes) s fun t => t.mode = .boot ∧ t.ready = false ∧ t.power.resetCause = 1 ∧ t.gnomon = 0)
  ∧ (∀ sources rising micros s, s.mode = .parked → s.power.waking = none → bitOf sources 0 = false → bitOf sources 1 = false →
      bitOf sources 2 = true → bitOf (s.nat 0x760007) 2 = true →
      Gives (.wake sources rising micros) s fun t => t.power.waking = some 2 ∧ t.power.pwrReq = true ∧ t.nat 0x76000A = 3)

/-- Lifecycle, authorisation, keys, violations and the TAP (R414, R418 to R422, R426, R428, R430): what each command leaves where
it acts. -/
def Obligations.SecurityCompletes : Prop :=
  (∀ r s, s.Accepts r 0x800002 [1] → s.lifecycle = 0 → (List.range 4).any s.otp.usable = true →
    Gives (.stepToSecured r) s fun t => t.otp.securedFuses = 8 ∧ t.nat 0x830001 = 0)
  ∧ (∀ r s, s.Accepts r 0x800101 [1] → s.challengeWait = false →
      Gives (.challengeRequest r) s fun t => t.sec.challenge = some ⟨(t.bytes 0x800102).drop 2, s.gnomon⟩)
  ∧ (∀ c s, s.sec.challenge = some c → c.at_ + challengeTicks ≤ s.gnomon →
      Gives .challengeExpiry s fun t => t.sec.challenge = none)
  ∧ (∀ r rest s, s.Accepts r 0x800201 (3 :: rest) →
      Gives (.stepToReturned r rest) s fun t => t.sec.challenge = none ∧
        (s.judgeResponse [3, 4] (3 :: rest) = 0 → s.lifecycle = 1 → t.otp.returnedFuses = 8 ∧ t.flash.keys = []))
  ∧ (∀ r rest s, s.Accepts r 0x800201 (4 :: rest) →
      Gives (.revokeSlot r rest) s fun t => t.sec.challenge = none ∧
        (s.judgeResponse [3, 4] (4 :: rest) = 0 → (s.revokeSlot (nthD rest 1 0)).2 = 0 →
          t.otp.revoked = setBit s.otp.revoked (nthD rest 1 0)))
  ∧ (∀ r n i key s, n < 32 → 1 ≤ i → i < 256 → key.length = 16 →
      s.Accepts r (obj 0x8100 (n + 1)) ([1, i, 0, 0, 0, 0, 0, 0] ++ key) → (s.keySlot n).type = 0 →
      (s.flash.keys.all fun p => p.2.type != 1 || p.2.index != i) = true →
      Gives (.keySlotWrite r n ([1, i, 0, 0, 0, 0, 0, 0] ++ key)) s fun t => t.keySlot n = ⟨1, i, key⟩)
  ∧ (∀ r n s, n < 32 → s.Accepts r 0x812001 [n] →
      (s.keySlot n).type ≠ 1 ∨ ((s.keySlot n).index ≠ s.nat 0x602402 ∧ (s.keySlot n).index ≠ s.nat 0x602403) →
      Gives (.keySlotErase r n) s fun t => t.flash.keys = s.flash.keys.erase n)
  ∧ (∀ r v s, s.Accepts r 0x830003 [v] → v ≤ s.debugLevel →
      Gives (.lowerLevel r v) s fun t => t.nat 0x830001 = v)
  ∧ (∀ m target right region address s, s.monitored = true → m = 0 ∨ m = 19 →
      s.permits m target (right % 16) address = false →
      Gives (.accessViolation m target right region address) s fun t =>
        t.nat (obj 0x8040 (m + 1)) = satAdd 32 (s.nat (obj 0x8040 (m + 1))) 1 ∧
        t.bytes 0x804101 = [m, target % 256, right % 16, region % 256] ++ leNat 4 address ++ leNat 8 s.gnomon)
  ∧ (∀ m target right region address s, s.monitored = true → m = 1 ∨ m = 2 ∨ (15 ≤ m ∧ m ≤ 18) ∨ (20 ≤ m ∧ m ≤ 23) →
      s.sec.violations = [] → s.permits m target (right % 16) address = false →
      Gives (.accessViolation m target right region address) s fun t => t.sec.violations = [(m, s.gnomon)] ∧
        t.nat (obj 0x8040 (m + 1)) = satAdd 32 (s.nat (obj 0x8040 (m + 1))) 1)
  ∧ (∀ m target right region address s, s.monitored = true → 3 ≤ m → m ≤ 14 → s.engineLive (m - 3) = true →
      s.permits m target (right % 16) address = false →
      Gives (.accessViolation m target right region address) s fun t => t.nat (ek (m - 3) 0x0B) = 0x0203)
  ∧ (∀ s, s.tapServes = true → s.challengeWait = false →
      Gives .dbgChallenge s fun t => t.sec.tap = 0x21 ∧
        t.sec.challenge = (t.port 4).out.head?.map fun b => ⟨b, s.gnomon⟩)
  ∧ (∀ b s, s.tapServes = true →
      Gives (.dbgResponse b) s fun t => t.sec.tap = 0x22 ∧ t.sec.challenge = none ∧
        (s.judgeResponse [1, 2] (padTo 132 b) = 0 → t.nat 0x830001 = nthD (padTo 132 b) 0 0))
  ∧ (∀ m n s, s.tapServes = true → s.debugLevel = 2 → m = 0 ∨ m = 1 ∨ m = 15 →
      Gives (.coreDebug m 1 n) s fun t => t.sec.tap = 0x30 ∧ t.sec.halted = insertSorted m s.sec.halted)
  ∧ (∀ m n s, s.tapServes = true → s.debugLevel = 2 → m = 0 ∨ m = 1 ∨ m = 15 →
      Gives (.coreDebug m 0 n) s fun t => t.sec.halted = s.sec.halted.filter (· != m))
  ∧ (∀ m n s, s.tapServes = true → s.debugLevel = 2 → m = 0 ∨ m = 1 ∨ m = 15 →
      Gives (.coreDebug m 3 n) s fun t => (t.port 4).out.map List.length = [n])
  ∧ (∀ s, Gives .idcode s fun t => t.sec.tap = 2 ∧ (t.port 4).out = [leNat 4 0x22460B47])
  ∧ (∀ s, Gives .dbgStatus s fun t => t.sec.tap = 0x20 ∧ (t.port 4).out =
      [[s.debugLevel % 4 + 4 * (s.lifecycle % 4) + 16 * boolNat s.ready + 32 * boolNat s.sec.challenge.isSome]])
  ∧ (∀ b s, Gives (.samplePreload b) s fun t => t.sec.tap = 1 ∧ t.sec.preload = b ∧
      (t.port 4).out.map List.length = [b.length])
  ∧ (∀ b s, Gives (.extest b false) s fun t => t.sec.tap = 0 ∧ t.sec.preload = b)
  ∧ (∀ b s, Gives (.extest b true) s fun t => t.sec.boundaryHold = true ∧ t.sec.preload = b ∧ t.nat 0x830001 = 0)
  ∧ (∀ s, Gives (.clamp false) s fun t => t.sec.tap = 3)
  ∧ (∀ s, Gives (.clamp true) s fun t => t.sec.boundaryHold = true ∧ t.nat 0x830001 = 0)
  ∧ (∀ s, Gives (.highz false) s fun t => t.sec.tap = 4)
  ∧ (∀ s, Gives (.highz true) s fun t => t.sec.boundaryHold = true ∧ t.nat 0x830001 = 0)
  ∧ (∀ s, Gives .bypass s fun t => t.sec.tap = 0xFF ∧ (t.port 4).out = [])
  ∧ (∀ m target right region address s, s.permits m target (right % 16) address = true →
      Gives (.accessViolation m target right region address) s fun t => t = s)
  ∧ (∀ m target right region address a b c s, s.monitored = true → s.mode ≠ .safe → s.power.safeDue = none →
      m = 1 ∨ m = 2 ∨ (15 ≤ m ∧ m ≤ 18) ∨ (20 ≤ m ∧ m ≤ 23) → s.sec.violations = [(m, a), (m, b), (m, c)] →
      s.gnomon < a + 1000 * msTicks → s.gnomon < b + 1000 * msTicks → s.gnomon < c + 1000 * msTicks →
      s.permits m target (right % 16) address = false →
      Gives (.accessViolation m target right region address) s fun t => t.power.safeDue = some ⟨4, m, 4, s.gnomon⟩)

/-! ### The dictionary and the ports -/

/-- The token, the persistent store, the history and the Quoin apply (R349, R352, R353, R359 to R361, R365, R370): what each command
leaves where it acts. -/
def Obligations.DictionaryCompletes : Prop :=
  (∀ r i j b row s, PlainRow i j row → s.Accepts r (obj i j) b →
    Gives (.objectWrite r i j b) s fun t => t.val (obj i j) = decodeVal row.ty b ∧ t.answer.code = 0)
  ∧ (∀ r i j b s, i < 65536 → j < 256 → s.Accepts r (obj i j) b →
      Gives (.objectWrite r i j b) s fun t => t.answer.code = (writeAct r (obj i j) b (s.autoTake r (obj i j))).2)
  ∧ (∀ r s, s.Accepts r 0x110001 [1] → s.awaiting.contains 0x110002 = false →
      storeSize (s.autoTake r 0x110001).snapshot ≤ 16384 →
      Gives (.store r) s fun t => t.saving.map (·.snapshot) = some (s.autoTake r 0x110001).snapshot)
  ∧ (∀ v s, s.saving = some v → Map.get (fun _ => none) s.held 0x110001 = none →
      Gives (.storeComplete true) s fun t => t.saving = none ∧ t.flash.store = v.snapshot ∧ t.nat 0x110003 = v.size ∧
        t.flash.stores = satAdd 32 s.flash.stores 1)
  ∧ (∀ v s, s.saving = some v → Map.get (fun _ => none) s.held 0x110001 = none →
      Gives (.storeComplete false) s fun t => t.saving = none ∧ t.flash.store = s.flash.store ∧
        (t.bytes 0x110002).drop 2 = leNat 2 0x0111 ++ leNat 4 0)
  ∧ (∀ r s, s.Accepts r 0x110001 [2] → s.awaiting.contains 0x110002 = false →
      Gives (.storeErase r) s fun t => t.flash.store = [] ∧ t.nat 0x110003 = 0)
  ∧ (∀ r p s, s.Accepts r 0x103002 [p % 3 + 1] → portNo r = p % 3 + 1 → s.nat 0x103001 = 0 →
      Gives (.tokenTake r p) s fun t => t.nat 0x103001 = p % 3 + 1)
  ∧ (∀ r s, s.Accepts r 0x103002 [0] → s.holdsToken r = true →
      Gives (.tokenRelease r) s fun t => t.nat 0x103001 = 0)
  ∧ (∀ r p s, s.Accepts r 0x103002 [0x81 + p % 3] → s.holdsToken r = true →
      Gives (.tokenHandover r p) s fun t => t.nat 0x103001 = p % 3 + 1)
  ∧ (∀ s, s.ready = true → s.nat 0x103001 ≠ 0 → s.nat 0x103005 + s.nat 0x103003 * msTicks ≤ s.gnomon →
      Gives .tokenTimeout s fun t => t.nat 0x103001 = 0)
  ∧ (∀ r q e s, q < 2 ^ 32 → s.Accepts r 0x981001 (leNat 4 q) → q ≤ (s.autoTake r 0x981001).nat 0x980006 →
      ((s.autoTake r 0x981001).events.history.find? fun e => e.seq == q) = some e →
      Gives (.historyQuery r q) s fun t => t.nat 0x981001 = q ∧ (t.bytes 0x981002).drop 2 = e.encode)
  ∧ (∀ r s, s.Accepts r 0x104008 [1] → ((List.range 16).any fun f => s.pdoOn f && s.stagedIds.contains (s.pdoKey f)) = false →
      Gives (.quoinApply r) s fun t => t.quoinIds = s.stagedIds)

/-- The request frames on Quoin, their segmented transfers, event frames, sleep and bus-off (R366 to R380, R384 to R386), and a node's
service request (R320): what each command leaves where it acts. -/
def Obligations.QuoinCompletes : Prop :=
  (∀ seq i j flags rest s, seq < 256 → i < 65536 → j < 256 → 2 ≤ rest.length → s.QuoinServes → s.Unkept 1 seq →
    s.Readable .quoin (obj i j) 48 → obj i j ≠ 0x104102 →
    Gives (.quoinRead true seq (leNat 2 i ++ [j, flags] ++ rest)) s fun t =>
      ∃ b, (t.port 1).kept = some (seq, b) ∧ (t.port 1).out = [padTo (canLength b.length) b] ∧
        b.take 4 = [0x81, seq, 0, 0] ∧ b.drop 16 = s.readBytes (obj i j))
  ∧ (∀ seq i j flags data row s, seq < 256 → PlainRow i j row → data.length ≤ 48 → s.QuoinServes → s.Unkept 1 seq →
      s.Accepts .quoin (obj i j) data →
      Gives (.quoinWrite true seq (leNat 2 i ++ [j, flags] ++ leNat 2 data.length ++ data)) s fun t =>
        t.val (obj i j) = decodeVal row.ty data ∧
        ∃ b, (t.port 1).kept = some (seq, b) ∧ b.take 4 = [0x82, seq, 0, 0])
  ∧ (∀ seq i j flags rest s, seq < 256 → i < 65536 → j < 256 → 2 ≤ rest.length → s.QuoinServes → s.Unkept 1 seq →
      (s.port 1).transfer = none → s.Readable .quoin (obj i j) transferMax → obj i j ≠ 0x104102 →
      Gives (.initiateRead true seq (leNat 2 i ++ [j, flags] ++ rest)) s fun t => (t.port 1).transfer =
        some ⟨false, seq, obj i j, (s.readBytes (obj i j)).length, s.readBytes (obj i j), 0, 0, s.gnomon⟩)
  ∧ (∀ seq i j flags n rest s, seq < 256 → i < 65536 → j < 256 → 1 ≤ n → n ≤ transferMax → s.QuoinServes → s.Unkept 1 seq →
      (s.port 1).transfer = none → (s.autoTake .quoin (obj i j)).judgeLength .quoin (obj i j) n = 0 →
      Gives (.initiateWrite true seq (leNat 2 i ++ [j, flags, 0, 0] ++ leNat 4 n ++ rest)) s fun t => (t.port 1).transfer =
        some ⟨true, seq, obj i j, n, [], 0, s.nat 0x10400D, s.gnomon⟩)
  ∧ (∀ first n rest tr s, (s.port 1).transfer = some tr → tr.write = false → tr.seq < 256 → first < 65536 →
      first < segmentCount 1 tr.size → 1 ≤ n → n ≤ 32 → 3 ≤ rest.length → s.QuoinServes →
      Gives (.blockRequest true tr.seq (leNat 2 first ++ [n] ++ rest)) s fun t =>
        (t.port 1).out.length = min (first + n) (segmentCount 1 tr.size) - first ∧
        (t.port 1).transfer = some { tr with at_ := s.gnomon })
  ∧ (∀ data rest tr s, (s.port 1).transfer = some tr → tr.write = true → tr.seq < 256 → tr.next < 65536 →
      tr.next < segmentCount 1 tr.size → data.length = min 60 (tr.size - tr.data.length) → s.QuoinServes →
      Gives (.segment true tr.seq (leNat 2 tr.next ++ data ++ rest)) s fun t => (t.port 1).transfer =
        some { tr with data := tr.data ++ data, next := tr.next + 1, at_ := s.gnomon })
  ∧ (∀ seq body tr s, (s.port 1).transfer = some tr → tr.write = false → seq < 256 → 6 ≤ body.length → s.QuoinServes →
      s.Unkept 1 seq →
      Gives (.endTransfer true seq body) s fun t => (t.port 1).transfer = none ∧
        ∃ b, (t.port 1).kept = some (seq, b) ∧ b.take 4 = [0x87, seq, 0, 0])
  ∧ (∀ seq i j row rest tr s, (s.port 1).transfer = some tr → tr.write = true → tr.key = obj i j → PlainRow i j row →
      tr.data.length = tr.size → seq < 256 → s.QuoinServes → s.Unkept 1 seq → s.check5 tr.key = 0 → s.unitCheck tr.key = 0 →
      rangeCheck tr.key tr.data = 0 →
      Gives (.endTransfer true seq ([0, 0] ++ leNat 4 (crcOf 0 tr.data) ++ rest)) s fun t => (t.port 1).transfer = none ∧
        t.val (obj i j) = decodeVal row.ty tr.data)
  ∧ (∀ seq body s, seq < 256 → 6 ≤ body.length → s.QuoinServes → s.Unkept 1 seq →
      Gives (.abortTransfer true seq body) s fun t => (t.port 1).transfer = none ∧
        ∃ b, (t.port 1).kept = some (seq, b) ∧ b.take 4 = [0x88, seq, 0, 0])
  ∧ (∀ seq body s, seq < 256 → 6 ≤ body.length → s.QuoinServes →
      Gives (.syncRequest true seq body) s fun t =>
        ∃ b, (t.port 1).out = [padTo (canLength b.length) b] ∧ b.take 4 = [0x8F, seq, 0, 0] ∧ b.drop 16 = s.syncData 1)
  ∧ (∀ p tr s, (s.port (p % 4 + 1)).transfer = some tr → tr.at_ + s.transferMs (p % 4 + 1) * msTicks ≤ s.gnomon →
      Gives (.transferTimeout p) s fun t => (t.port (p % 4 + 1)).transfer = none ∧
        t.nat 0x104104 = satAdd 32 (s.nat 0x104104) 1)
  ∧ (∀ s, s.eventFrameDue = true →
      Gives .eventFrame s fun t => t.events.quoinQ = s.events.quoinQ.drop 2 ∧ (t.port 1).out =
        [padTo (canLength (2 + ((s.events.quoinQ.take 2).flatMap Event.framed).length))
          ([min 2 s.events.quoinQ.length, 0] ++ (s.events.quoinQ.take 2).flatMap Event.framed)])
  ∧ (∀ s, s.mode = .watch → s.nat 0x104101 = 5 →
      Gives (.quoinWatchWake true) s fun t => t.nat 0x104101 = 2)
  ∧ (∀ s, s.quoinSleeps = true → s.QuoinServes → s.quoin.activeAt + s.nat 0x10400B * msTicks ≤ s.gnomon →
      s.events.quoinQ = [] → s.pdoWaiting = [] → (s.port 1).transfer = none →
      Gives .quoinIdle s fun t => t.nat 0x104101 = 5)
  ∧ (∀ tec rec_ s, s.QuoinServes → 255 < tec →
      Gives (.busOff tec rec_) s fun t => t.nat 0x104101 = 4 ∧ t.nat 0x104105 = satAdd 32 (s.nat 0x104105) 1)
  ∧ (∀ tec rec_ s, s.QuoinServes → tec ≤ 255 → rec_ ≤ 255 →
      Gives (.busOff tec rec_) s fun t => t.nat 0x104106 = tec ∧ t.nat 0x104107 = rec_ ∧
        t.nat 0x104101 = if 127 < tec ∨ 127 < rec_ then 3 else 2)
  ∧ (∀ s, s.nat 0x104101 = 4 →
      Gives .busOffRecovery s fun t => t.nat 0x104101 = 2 ∧ t.nat 0x104106 = 0 ∧ t.nat 0x104107 = 0)
  ∧ (∀ w ws s, s.mesh.work = w :: ws → w.kind = 5 → w.node < 512 → (s.node w.node).state ≠ 0 →
      s.serves (s.node w.node).ext = true → 8 ≤ w.body.length → nthD w.body 0 0 = 1 →
      Gives .serviceRequest s fun t => t.mesh.work = ws ∧ t.link.frames.length = s.link.frames.length + 1 ∧
        (t.link.frames.getLast?.map fun f => (f.purpose, f.node)) = some (.service, w.node))

/-- The two-wire port, the SPI port and DBG_ACCESS (R387 to R404, R428): what each command leaves where it acts. -/
def Obligations.HostPortsComplete : Prop :=
  (∀ seq i j flags rest data pec s, data = [1, seq] ++ leNat 2 i ++ [j, flags] ++ rest → seq < 256 → i < 65536 → j < 256 →
    2 ≤ rest.length → rest.length ≤ 249 → (pec = none ∧ s.nat 0x105002 ≠ 1) ∨ pec = some (s.requestPec data.length data) →
    s.twoWireAcks = true → s.portBusy 2 = false → s.Unkept 2 seq → s.Readable .twoWire (obj i j) 48 → obj i j ≠ 0x105101 →
    Gives (.twoWireRequest data.length data pec) s fun t =>
      ∃ b, (t.port 2).kept = some (seq, b) ∧ (t.port 2).unread = (s.port 2).unread ++ [b] ∧
        b.take 4 = [0x81, seq, 0, 0] ∧ b.drop 16 = s.readBytes (obj i j))
  ∧ (∀ b rest s, s.twoWireAcks = true → s.mode ≠ .parked → (s.port 2).unread = b :: rest → b ≠ [] →
      Gives (.twoWireResponse true true) s fun t => (t.port 2).out = [b.length :: b ++
          crc8 ([2 * s.nat 0x105001, 0x11, 2 * s.nat 0x105001 + 1] ++ b.length :: b)] ∧ (t.port 2).unread = rest ∧
        (t.port 2).lastItem = b)
  ∧ (∀ s, s.twoWireAcks = true → s.mode ≠ .parked →
      Gives (.twoWireEvents true true) s fun t => t.events.twoWireQ = s.events.twoWireQ.drop 7 ∧
        (t.port 2).lastEvents = eventBlock 7 s.events.twoWireQ)
  ∧ (∀ b s, s.twoWireAcks = true → s.mode ≠ .parked → (s.port 2).lastItem = b → b ≠ [] →
      Gives (.twoWireResponseRepeat true) s fun t => (t.port 2).out = [b.length :: b ++
        crc8 ([2 * s.nat 0x105001, 0x13, 2 * s.nat 0x105001 + 1] ++ b.length :: b)] ∧ (t.port 2).unread = (s.port 2).unread)
  ∧ (∀ b s, s.twoWireAcks = true → s.mode ≠ .parked → (s.port 2).lastEvents = b → b ≠ [] →
      Gives (.twoWireEventsRepeat true) s fun t => (t.port 2).out = [b.length :: b ++
        crc8 ([2 * s.nat 0x105001, 0x14, 2 * s.nat 0x105001 + 1] ++ b.length :: b)] ∧ t.events = s.events)
  ∧ (∀ s, s.twoWireAcks = true →
      Gives .twoWireStatus s fun t => (t.port 2).out = [[s.portStatus 2]] ∧ (t.port 2).error = false ∧ (t.port 2).reset = false)
  ∧ (∀ s, s.twoWireUp = true →
      Gives .sclTimeout s fun t => t.nat 0x105106 = satAdd 32 (s.nat 0x105106) 1)
  ∧ (∀ s, s.twoWireUp = true →
      Gives (.busError 0) s fun t => (t.port 2).error = true ∧ t.nat 0x105103 = satAdd 32 (s.nat 0x105103) 1)
  ∧ (∀ c s, s.twoWireUp = true → c ≠ 0 →
      Gives (.busError c) s fun t => t.nat 0x105105 = satAdd 32 (s.nat 0x105105) 1)
  ∧ (∀ s, s.ready = true → s.twoWire.asleep = true → s.mode = .watch →
      Gives .targetWake s fun t => t.twoWire.asleep = false ∧ t.twoWire.wokenAt = some s.wall)
  ∧ (∀ s, s.ready = true → s.twoWire.asleep = true → s.mode = .parked → bitOf (s.nat 0x760007) 2 = true → s.power.waking = none →
      Gives .targetWake s fun t => t.twoWire.asleep = false ∧ t.power.waking = some 2)
  ∧ (∀ s, s.mode = .watch → s.twoWire.asleep = false → s.twoWire.lastAt + s.nat 0x105006 * msTicks ≤ s.gnomon →
      Gives .targetWakeIdle s fun t => t.twoWire.asleep = true)
  ∧ (∀ s, s.notifyDue = true →
      Gives (.hostNotify true) s fun t => (t.port 2).out =
          [[2 * s.nat 0x105004, 2 * s.nat 0x105001, s.portStatus 2, s.nat 0x980006 % 256]] ∧
        t.nat 0x105108 = satAdd 32 (s.nat 0x105108) 1 ∧ t.twoWire.since = s.gnomon)
  ∧ (∀ a s, s.notifyDue = true →
      Gives (.arbitrationLost a) s fun t => t.nat 0x105107 = satAdd 32 (s.nat 0x105107) 1 ∧ (t.port 2).out = [])
  ∧ (∀ quad seq i j flags rest data s, data = [1, seq] ++ leNat 2 i ++ [j, flags] ++ rest → quad ≤ 1 → seq < 256 → i < 65536 →
      j < 256 → 2 ≤ rest.length → rest.length ≤ 1022 → s.spiPowered = true →
      s.portReady = true → (s.port 3).responses < 8 → s.Unkept 3 seq → s.Readable .spi (obj i j) 224 → obj i j ≠ 0x106101 →
      Gives (.spiRequest quad data.length (crcOf 2 ((16 * quad + 1) :: leNat 2 data.length)) (data ++ crc8 data)) s fun t =>
        ∃ b, (t.port 3).kept = some (seq, b) ∧ (t.port 3).unread = (s.port 3).unread ++ [b] ∧
          (t.port 3).out = [[s.portStatus 3]] ∧ b.take 4 = [0x81, seq, 0, 0] ∧ b.drop 16 = s.readBytes (obj i j))
  ∧ (∀ quad n b rest s, quad ≤ 1 → s.spiPowered = true → s.portReady = true → (s.port 3).unread = b :: rest → b.length ≤ n →
      n ≤ 1028 →
      Gives (.spiResponse quad n (crcOf 2 ((16 * quad + 2) :: leNat 2 n)) true) s fun t =>
        (t.port 3).unread = rest ∧ (t.port 3).lastItem = b ∧
        (t.port 3).out = [[s.portStatus 3], leNat 2 b.length ++ b ++ crc8 (leNat 2 b.length ++ b)])
  ∧ (∀ quad n b s, quad ≤ 1 → s.spiPowered = true → s.portReady = true → eventBlock (spiEvents n) s.events.spiQ = b →
      b.length ≤ n → n ≤ 1028 →
      Gives (.spiEvents quad n (crcOf 2 ((16 * quad + 3) :: leNat 2 n)) true) s fun t =>
        (t.port 3).lastEvents = b ∧ t.events.spiQ = s.events.spiQ.drop (nthD b 0 0) ∧
        (t.port 3).out = [[s.portStatus 3], leNat 2 b.length ++ b ++ crc8 (leNat 2 b.length ++ b)])
  ∧ (∀ quad n b s, quad ≤ 1 → s.spiPowered = true → s.portReady = true → (s.port 3).lastItem = b → b.length ≤ n → n ≤ 1028 →
      Gives (.spiResponseRepeat quad n (crcOf 2 ((16 * quad + 4) :: leNat 2 n))) s fun t =>
        (t.port 3).unread = (s.port 3).unread ∧
        (t.port 3).out = [[s.portStatus 3], leNat 2 b.length ++ b ++ crc8 (leNat 2 b.length ++ b)])
  ∧ (∀ quad n b s, quad ≤ 1 → s.spiPowered = true → s.portReady = true → (s.port 3).lastEvents = b → b.length ≤ n → n ≤ 1028 →
      Gives (.spiEventsRepeat quad n (crcOf 2 ((16 * quad + 5) :: leNat 2 n))) s fun t => t.events = s.events ∧
        (t.port 3).out = [[s.portStatus 3], leNat 2 b.length ++ b ++ crc8 (leNat 2 b.length ++ b)])
  ∧ (∀ s, s.spiPowered = true →
      Gives .statusPoll s fun t => (t.port 3).out = [[s.portStatus 3]] ∧ (t.port 3).error = false ∧ (t.port 3).reset = false)
  ∧ (∀ n c r k s, s.tapServes = true → s.debugLevel ≠ 0 →
      Gives (.dbgAccess 0 n c r k) s fun t => t.sec.tap = 0x23 ∧ (t.port 4).out = [[s.portStatus 4]])
  ∧ (∀ quad n r b rest s, quad ≤ 1 → s.tapServes = true → s.debugLevel ≠ 0 → (s.port 4).unread = b :: rest → b.length ≤ n →
      n ≤ 1028 →
      Gives (.dbgAccess (16 * quad + 2) n (crcOf 2 ((16 * quad + 2) :: leNat 2 n)) r true) s fun t => (t.port 4).unread = rest ∧
        (t.port 4).out = [[s.portStatus 4], leNat 2 b.length ++ b ++ crc8 (leNat 2 b.length ++ b)])
  ∧ (∀ flags n c r s, s.spiPowered = true → s.portReady = true → headerGood (16 * flags + 1) n c = false →
      Gives (.spiRequest flags n c r) s fun t => (t.port 3).error = true ∧ (t.port 3).unread = (s.port 3).unread ∧
        t.nat 0x106103 = satAdd 32 (s.nat 0x106103) 1)

/-! ### What each command leaves as it was

Every clause: after a command of the list that is well formed, State is as before but for the fields named, and every subindex
outside the index ranges named, with those that raising an event may write, keeps its value. -/

/-- The front-end, the antenna supplies and Plumb (chapters 3 and 4 of the specification): the frame of their commands. A well-formed one leaves State as it was but for the fields named, and, where index
ranges are named, every subindex outside them but those that raising an event may write. -/
def Obligations.RfFrame : Prop :=
  (∀ c s t, (c matches .agcWindowEnd .. | .agcReleaseStep .. | .lnaTrip .. | .amAttenuationStep .. | .antennaShort .. |
      .antennaCurrentJudge .. | .antennaRetry ..) → c.wellFormed = true → exec c s = .next t →
      t = { s with
        amQuietSince := t.amQuietSince, antennas := t.antennas, awaiting := t.awaiting, captures := t.captures
        chains := t.chains, dict := t.dict, events := t.events, log := t.log, paths := t.paths } ∧
      s.KeepsOutside t [(0x3000, 0x3011)])
  ∧ (∀ c s t, (c matches .manualGrWrite .. | .agcModeWrite .. | .overloadFlagsClear .. | .antennaRestore ..) → c.wellFormed =
      true → exec c s = .next t →
      t = { s with
        answer := t.answer, antennas := t.antennas, awaiting := t.awaiting, dict := t.dict, events := t.events
        log := t.log, paths := t.paths, power := t.power, radio := t.radio } ∧
      s.KeepsOutside t [(0x1030, 0x1030), (0x3000, 0x3011)])
  ∧ (∀ c s t, (c matches .plumbBlank .. | .plumbTrimChange .. | .plumbBlankEnd .. | .sampleClockUnlock .. | .plumbWindowEnd
      .. | .plumbProposalReady .. | .plumbPostCheck .. | .plumbProtectedLost .. | .estimatorWindowStart ..) → c.wellFormed =
      true → exec c s = .next t →
      t = { s with
        awaiting := t.awaiting, captures := t.captures, chains := t.chains, dict := t.dict, events := t.events
        launch := t.launch, log := t.log, paths := t.paths, plumb := t.plumb, power := t.power } ∧
      s.KeepsOutside t [(0x2001, 0x2001), (0x2300, 0x2301), (0x3000, 2 ^ 32)])
  ∧ (∀ c s t, (c matches .plumbRunCycle .. | .plumbRestoreKept .. | .plumbLoadFactory .. | .plumbApplyStaged .. |
      .plumbBlankTestStart .. | .plumbBlankTestStop .. | .plumbModeWrite ..) → c.wellFormed = true → exec c s = .next t →
      t = { s with
        answer := t.answer, awaiting := t.awaiting, dict := t.dict, events := t.events, launch := t.launch
        log := t.log, plumb := t.plumb, power := t.power, radio := t.radio } ∧
      s.KeepsOutside t [(0x1030, 0x1030), (0x2001, 0x2001), (0x2300, 0x2301), (0x3000, 2 ^ 32)])

/-- The chains, the captures, the engines and the accelerators: the frame of their commands. A well-formed one leaves State as it was but for the fields named, and, where index
ranges are named, every subindex outside them but those that raising an event may write. -/
def Obligations.ChainFrame : Prop :=
  (∀ c s t, (c matches .fadeEnd .. | .detectorBlockEnd .. | .captureTrigger .. | .captureComplete .. | .chainRetune .. |
      .antennaSwitch ..) → c.wellFormed = true → exec c s = .next t →
      t = { s with
        awaiting := t.awaiting, captures := t.captures, chains := t.chains, dict := t.dict, events := t.events
        gloaming := t.gloaming, launch := t.launch, log := t.log, paths := t.paths, plumb := t.plumb } ∧
      s.KeepsOutside t [(0x2001, 0x2001), (0x2500, 2 ^ 32)])
  ∧ (∀ c s t, (c matches .responseSelect .. | .fadeReverse .. | .dcFreezeWrite .. | .saturationClear .. |
      .detectorSettingWrite ..) → c.wellFormed = true → exec c s = .next t →
      t = { s with
        answer := t.answer, awaiting := t.awaiting, captures := t.captures, chains := t.chains, dict := t.dict
        events := t.events, log := t.log, power := t.power, radio := t.radio } ∧
      s.KeepsOutside t [(0x1030, 0x1030), (0x3100, 0x31FF)])
  ∧ (∀ c s t, (c matches .captureArm .. | .captureTriggerNow .. | .captureAbort .. | .captureFree ..) → c.wellFormed = true →
      exec c s = .next t →
      t = { s with
        answer := t.answer, awaiting := t.awaiting, captures := t.captures, dict := t.dict, events := t.events
        log := t.log, power := t.power, radio := t.radio, shm := t.shm } ∧
      s.KeepsOutside t [(0x1030, 0x1030), (0x2560, 0x2563)])
  ∧ (∀ c s t, (c matches .sampleClockRelock .. | .chainBlockOut .. | .engineRestoreEnd ..) → c.wellFormed = true → exec c s =
      .next t →
      t = { s with
        ams := t.ams, awaiting := t.awaiting, captures := t.captures, chains := t.chains, dabs := t.dabs
        dict := t.dict, drms := t.drms, engines := t.engines, events := t.events, fifos := t.fifos, fms := t.fms
        following := t.following, gloaming := t.gloaming, heard := t.heard, lantern := t.lantern
        launch := t.launch, log := t.log, paths := t.paths, pcm := t.pcm, pcmSeq := t.pcmSeq, plumb := t.plumb
        shm := t.shm, voices := t.voices })
  ∧ (∀ c s t, (c matches .engineLoadComplete .. | .engineFault .. | .engineWatchdog .. | .engineRestartReload .. |
      .acceleratorJobSubmit .. | .acceleratorJobComplete .. | .acceleratorTimeout .. | .acceleratorMemoryError ..) →
      c.wellFormed = true → exec c s = .next t →
      t = { s with
        accelConfigured := t.accelConfigured, accelOwn := t.accelOwn, accels := t.accels, ams := t.ams
        awaiting := t.awaiting, captures := t.captures, chains := t.chains, committed := t.committed
        dabDecoders := t.dabDecoders, dabs := t.dabs, dict := t.dict, drmSel := t.drmSel, drms := t.drms
        engines := t.engines, events := t.events, fifos := t.fifos, fms := t.fms, following := t.following
        gloaming := t.gloaming, heard := t.heard, holdings := t.holdings, lantern := t.lantern, launch := t.launch
        loads := t.loads, log := t.log, paths := t.paths, pcm := t.pcm, pcmSeq := t.pcmSeq, plumb := t.plumb
        power := t.power, prep := t.prep, radio := t.radio, sec := t.sec, shares := t.shares, shm := t.shm
        streams := t.streams } ∧
      s.KeepsOutside t [(0x2001, 0x2001), (0x2100, 2 ^ 32)])
  ∧ (∀ c s t, (c matches .acceleratorWaitClear .. | .peakCycleLoadClear ..) → c.wellFormed = true → exec c s = .next t →
      t = { s with
        answer := t.answer, awaiting := t.awaiting, dict := t.dict, events := t.events, log := t.log
        power := t.power, radio := t.radio } ∧
      s.KeepsOutside t [(0x1030, 0x1030), (0x2400, 0x2447)])

/-- The FM receivers, TMC and Lantern: the frame of their commands. A well-formed one leaves State as it was but for the fields named, and, where index
ranges are named, every subindex outside them but those that raising an event may write. -/
def Obligations.BroadcastFrame : Prop :=
  (∀ c s t, (c matches .fmControlUpdate .. | .fmMetricsPublish .. | .pilotDetected .. | .pilotLost .. | .fmBandwidthJudge ..
      | .diversityEstimate .. | .diversitySelect .. | .inputBAbsent .. | .fmBlockProcess .. | .rdsSyncGained .. |
      .rdsSyncLost .. | .rdsGroup .. | .tmcGroup .. | .tmcIncompleteTimeout ..) → c.wellFormed = true → exec c s = .next t →
      t = { s with
        awaiting := t.awaiting, captures := t.captures, chains := t.chains, dict := t.dict, events := t.events
        fifos := t.fifos, fms := t.fms, following := t.following, gloaming := t.gloaming, heard := t.heard
        lantern := t.lantern, log := t.log, pcm := t.pcm, pcmSeq := t.pcmSeq, shm := t.shm, tmc := t.tmc
        utcPrev := t.utcPrev } ∧
      s.KeepsOutside t [(0x2003, 0x2003), (0x3100, 0x31FF), (0x4000, 0x43FF)])
  ∧ (∀ c s t, (c matches .lanternConfirmation .. | .entryExpiry .. | .lanternFieldUpdate .. | .lanternEventMerge .. |
      .lanternRawGroup .. | .lanternPeriodEnd ..) → c.wellFormed = true → exec c s = .next t →
      t = { s with
        awaiting := t.awaiting, dict := t.dict, events := t.events, fifos := t.fifos, following := t.following
        lantern := t.lantern, log := t.log, shm := t.shm, utcPrev := t.utcPrev } ∧
      s.KeepsOutside t [(0x2003, 0x2003), (0x4300, 0x43FF)])
  ∧ (∀ c s t, (c matches .lanternMemoryError ..) → c.wellFormed = true → exec c s = .next t →
      t = { s with
        accelConfigured := t.accelConfigured, accelOwn := t.accelOwn, ams := t.ams, awaiting := t.awaiting
        captures := t.captures, chains := t.chains, committed := t.committed, dabDecoders := t.dabDecoders
        dabs := t.dabs, dict := t.dict, drmSel := t.drmSel, drms := t.drms, engines := t.engines
        events := t.events, fifos := t.fifos, fms := t.fms, following := t.following, gloaming := t.gloaming
        heard := t.heard, holdings := t.holdings, lantern := t.lantern, launch := t.launch, loads := t.loads
        log := t.log, paths := t.paths, pcm := t.pcm, pcmSeq := t.pcmSeq, plumb := t.plumb, radio := t.radio
        shares := t.shares, shm := t.shm, streams := t.streams } ∧
      s.KeepsOutside t [(0x2001, 0x2001), (0x2100, 2 ^ 32)])
  ∧ (∀ c s t, (c matches .lanternClearDatabase .. | .lanternClearAf .. | .queryPi ..) → c.wellFormed = true → exec c s =
      .next t →
      t = { s with
        answer := t.answer, awaiting := t.awaiting, dict := t.dict, events := t.events, lantern := t.lantern
        log := t.log, power := t.power, radio := t.radio } ∧
      s.KeepsOutside t [(0x1030, 0x1030), (0x4300, 0x43FF)])

/-- The DAB receivers: the frame of their commands. A well-formed one leaves State as it was but for the fields named, and, where index
ranges are named, every subindex outside them but those that raising an event may write. -/
def Obligations.DabFrame : Prop :=
  (∀ c s t, (c matches .dabNullFound .. | .dabPrsCorrelate .. | .dabFicAcquired .. | .dabAcquisitionFail .. |
      .dabSyncRegained .. | .dabNullReport .. | .dabCifDecode .. | .dabReconfiguration .. | .dabFigDecode .. |
      .dabSiCompleteTimeout .. | .dabServiceSelect .. | .dabAccessUnit .. | .dabPacketGroup .. | .announcementStart .. |
      .announcementEnd .. | .dabFrameEnd ..) → c.wellFormed = true → exec c s = .next t →
      t = { s with
        awaiting := t.awaiting, dabDecoders := t.dabDecoders, dabs := t.dabs, dict := t.dict, events := t.events
        fifos := t.fifos, following := t.following, gloaming := t.gloaming, heard := t.heard, launch := t.launch
        log := t.log, pcm := t.pcm, pcmSeq := t.pcmSeq, plumb := t.plumb, shm := t.shm, utcPrev := t.utcPrev
        voices := t.voices } ∧
      s.KeepsOutside t [(0x2003, 0x2003), (0x4400, 0x44FF), (0x4900, 0x49FF)])
  ∧ (∀ c s t, (c matches .dabSyncLost .. | .dabLostTimeout ..) → c.wellFormed = true → exec c s = .next t →
      t = { s with
        awaiting := t.awaiting, dabs := t.dabs, dict := t.dict, events := t.events, gloaming := t.gloaming
        heard := t.heard, launch := t.launch, log := t.log, pcm := t.pcm, pcmSeq := t.pcmSeq, plumb := t.plumb
        shm := t.shm, voices := t.voices })

/-- The AM and DRM receivers: the frame of their commands. A well-formed one leaves State as it was but for the fields named, and, where index
ranges are named, every subindex outside them but those that raising an event may write. -/
def Obligations.AmDrmFrame : Prop :=
  (∀ c s t, (c matches .amPlllockChange .. | .amBandwidthJudge .. | .amMetricsPublish .. | .noiseBlankerSuspend .. |
      .amBlockProcess .. | .drmModeFound .. | .drmFrameSync .. | .drmFacAcquired .. | .drmSyncLost .. | .drmLostTimeout .. |
      .drmAcquisitionFail .. | .drmMscFrame .. | .drmSdcDecode .. | .drmScheduleEval .. | .drmServiceSelect .. |
      .drmTextMessage ..) → c.wellFormed = true → exec c s = .next t →
      t = { s with
        ams := t.ams, awaiting := t.awaiting, chains := t.chains, dict := t.dict, drmSel := t.drmSel
        drms := t.drms, events := t.events, fifos := t.fifos, gloaming := t.gloaming, heard := t.heard
        log := t.log, pcm := t.pcm, pcmSeq := t.pcmSeq, shm := t.shm, utcPrev := t.utcPrev, voices := t.voices } ∧
      s.KeepsOutside t [(0x2003, 0x2003), (0x4600, 0x47FF), (0x4900, 0x49FF)])

/-- Following and Gloaming: the frame of their commands. A well-formed one leaves State as it was but for the fields named, and, where index
ranges are named, every subindex outside them but those that raising an event may write. -/
def Obligations.FollowFrame : Prop :=
  (∀ c s t, (c matches .candidateListUpdate .. | .candidateAgeOut .. | .identityChange .. | .afCheck .. | .switchRequest .. |
      .landing .. | .landingTimeout .. | .blendBackReverse .. | .blendFadeEnd .. | .lagEstimate .. | .eqFadeEnd .. |
      .tonalMatchUpdate .. | .blendOutputFrame ..) → c.wellFormed = true → exec c s = .next t →
      t = { s with
        awaiting := t.awaiting, chains := t.chains, dict := t.dict, events := t.events, following := t.following
        gloaming := t.gloaming, heard := t.heard, launch := t.launch, log := t.log, pcm := t.pcm, shm := t.shm } ∧
      s.KeepsOutside t [(0x3100, 2 ^ 32)])
  ∧ (∀ c s t, (c matches .ensembleCheck ..) → c.wellFormed = true → exec c s = .next t →
      t = { s with
        dict := t.dict, following := t.following, launch := t.launch })
  ∧ (∀ c s t, (c matches .gloamingEnable .. | .gloamingDisable .. | .slotSourceWrite .. | .blendTarget .. | .blendFadeReverse
      .. | .eqSelect ..) → c.wellFormed = true → exec c s = .next t →
      t = { s with
        answer := t.answer, awaiting := t.awaiting, dict := t.dict, events := t.events, gloaming := t.gloaming
        heard := t.heard, log := t.log, pcm := t.pcm, power := t.power, radio := t.radio, shm := t.shm } ∧
      s.KeepsOutside t [(0x1030, 0x1030), (0x4800, 0x49FF)])

/-- The audio ports: the frame of their commands. A well-formed one leaves State as it was but for the fields named, and, where index
ranges are named, every subindex outside them but those that raising an event may write. -/
def Obligations.AudioFrame : Prop :=
  (∀ c s t, (c matches .portGroupStart .. | .streamIdentify .. | .rateThreshold .. | .streamSoloStart .. | .rateLoopUpdate ..
      | .streamFrameProduce .. | .postRoll .. | .postRollEnd .. | .underrun .. | .reEntry .. | .clockLost .. | .clockReturn
      .. | .glitch .. | .rateChange .. | .groupMemberRemoved .. | .userDataPacket .. | .frameStartEdge ..) → c.wellFormed =
      true → exec c s = .next t →
      t = { s with
        awaiting := t.awaiting, dict := t.dict, events := t.events, iec := t.iec, launch := t.launch, log := t.log
        streams := t.streams } ∧
      s.KeepsOutside t [(0x2001, 0x2001), (0x2200, 0x223F), (0x5000, 0x50FF)])
  ∧ (∀ c s t, (c matches .pairSourceWrite .. | .audioFlagsClear .. | .channelStatusWrite ..) → c.wellFormed = true → exec c s
      = .next t →
      t = { s with
        answer := t.answer, awaiting := t.awaiting, dict := t.dict, events := t.events, gloaming := t.gloaming
        heard := t.heard, log := t.log, pcm := t.pcm, power := t.power, radio := t.radio, streams := t.streams } ∧
      s.KeepsOutside t [(0x1030, 0x1030), (0x5000, 0x50FF)])

/-- The mesh radio, the link sequencer, the mesh core and Glimmer: the frame of their commands. A well-formed one leaves State as it was but for the fields named, and, where index
ranges are named, every subindex outside them but those that raising an event may write. -/
def Obligations.MeshFrame : Prop :=
  (∀ c s t, (c matches .radioTransition .. | .synthUnlock .. | .calibrationStart .. | .calibrationComplete .. |
      .calibrationAbort .. | .calibrationOverdue .. | .narrowbandFrame .. | .tapCopy .. | .preambleDetected .. | .glimmerWord
      .. | .spuriousWake .. | .matchModeReset ..) → c.wellFormed = true → exec c s = .next t →
      t = { s with
        awaiting := t.awaiting, dict := t.dict, events := t.events, launch := t.launch, link := t.link
        log := t.log, paths := t.paths, power := t.power, radio := t.radio } ∧
      s.KeepsOutside t [(0x6000, 0x61FF), (0x7600, 0x7600)])
  ∧ (∀ c s t, (c matches .wakeRequest .. | .radioTest ..) → c.wellFormed = true → exec c s = .next t →
      t = { s with
        answer := t.answer, awaiting := t.awaiting, dict := t.dict, events := t.events, held := t.held
        link := t.link, log := t.log, power := t.power, radio := t.radio } ∧
      s.KeepsOutside t [(0x1030, 0x1030), (0x6000, 0x61FF)])
  ∧ (∀ c s t, (c matches .meshTx .. | .linkFrameReceive .. | .ackWaitExpiry .. | .ackReceive .. | .immediateFrame .. |
      .backoffExpiry .. | .ccaEnd .. | .scheduledFrame .. | .frameRetry .. | .frameCounterRecord ..) → c.wellFormed = true →
      exec c s = .next t →
      t = { s with
        awaiting := t.awaiting, dict := t.dict, events := t.events, flash := t.flash, freeCtr := t.freeCtr
        launch := t.launch, link := t.link, log := t.log, mesh := t.mesh, radio := t.radio } ∧
      s.KeepsOutside t [(0x2001, 0x2001), (0x6000, 0x60FF)])
  ∧ (∀ c s t, (c matches .copySelectionEnd .. | .ackSend .. | .transmitReport .. | .joinRequest .. | .joinResponse .. |
      .readings .. | .voussoirFrame .. | .rendezvous .. | .rendezvousMiss .. | .wakeTrain .. | .wakeTrainRetry .. |
      .phaseGate .. | .downlinkExpiry .. | .joiningCountdown .. | .nodeCounterRecord ..) → c.wellFormed = true → exec c s =
      .next t →
      t = { s with
        dict := t.dict, fifos := t.fifos, flash := t.flash, launch := t.launch, link := t.link, mesh := t.mesh
        radio := t.radio } ∧
      s.KeepsOutside t [(0x2001, 0x2001), (0x6000, 2 ^ 32)])
  ∧ (∀ c s t, (c matches .leave .. | .absentTimeout ..) → c.wellFormed = true → exec c s = .next t →
      t = { s with
        committed := t.committed, dict := t.dict, fifos := t.fifos, flash := t.flash, launch := t.launch
        link := t.link, mesh := t.mesh } ∧
      s.KeepsOutside t [(0x2001, 0x2001), (0x6000, 2 ^ 32)])
  ∧ (∀ c s t, (c matches .downlink .. | .nodeRemove ..) → c.wellFormed = true → exec c s = .next t →
      t = { s with
        answer := t.answer, awaiting := t.awaiting, committed := t.committed, dict := t.dict, events := t.events
        fifos := t.fifos, flash := t.flash, launch := t.launch, link := t.link, log := t.log, mesh := t.mesh
        power := t.power, radio := t.radio } ∧
      s.KeepsOutside t [(0x1030, 0x1030), (0x2001, 0x2001), (0x6000, 2 ^ 32)])

/-- The verbs, the launch table, TB_SYNC and CLK_OUT: the frame of their commands. A well-formed one leaves State as it was but for the fields named, and, where index
ranges are named, every subindex outside them but those that raising an event may write. -/
def Obligations.UnitsFrame : Prop :=
  (∀ c s t, (c matches .claim .. | .claimAcceleratorShares .. | .configure .. | .courseConfigure .. | .start .. | .hold .. |
      .resume .. | .release .. | .releaseAcceleratorShares .. | .engineZeroingComplete ..) → c.wellFormed = true → exec c s =
      .next t →
      t = { s with
        accelConfigured := t.accelConfigured, accelOwn := t.accelOwn, ams := t.ams, answer := t.answer
        awaiting := t.awaiting, captures := t.captures, chains := t.chains, claimedAt := t.claimedAt
        committed := t.committed, dabDecoders := t.dabDecoders, dabs := t.dabs, dict := t.dict, drmSel := t.drmSel
        drms := t.drms, engines := t.engines, events := t.events, fifos := t.fifos, fms := t.fms
        following := t.following, gloaming := t.gloaming, heard := t.heard, held := t.held, holdings := t.holdings
        lantern := t.lantern, launch := t.launch, loads := t.loads, log := t.log, paths := t.paths, pcm := t.pcm
        pcmSeq := t.pcmSeq, plumb := t.plumb, power := t.power, prep := t.prep, radio := t.radio
        shares := t.shares, shm := t.shm, streams := t.streams })
  ∧ (∀ c s t, (c matches .launchStartFiring .. | .courseLeafPrepare .. | .launchHoldFiring .. | .courseRankHeld .. |
      .launchResumeFiring ..) → c.wellFormed = true → exec c s = .next t →
      t = { s with
        accelConfigured := t.accelConfigured, accelOwn := t.accelOwn, ams := t.ams, awaiting := t.awaiting
        captures := t.captures, chains := t.chains, claimedAt := t.claimedAt, committed := t.committed
        dabDecoders := t.dabDecoders, dabs := t.dabs, dict := t.dict, drmSel := t.drmSel, drms := t.drms
        engines := t.engines, events := t.events, fifos := t.fifos, fms := t.fms, following := t.following
        gloaming := t.gloaming, heard := t.heard, holdings := t.holdings, lantern := t.lantern, launch := t.launch
        loads := t.loads, log := t.log, paths := t.paths, pcm := t.pcm, pcmSeq := t.pcmSeq, plumb := t.plumb
        prep := t.prep, radio := t.radio, shares := t.shares, shm := t.shm, streams := t.streams
        voices := t.voices })
  ∧ (∀ c s t, (c matches .launchPlace .. | .launchCancel ..) → c.wellFormed = true → exec c s = .next t →
      t = { s with
        accelConfigured := t.accelConfigured, accelOwn := t.accelOwn, ams := t.ams, answer := t.answer
        awaiting := t.awaiting, captures := t.captures, chains := t.chains, dabs := t.dabs, dict := t.dict
        drms := t.drms, events := t.events, fms := t.fms, following := t.following, gloaming := t.gloaming
        heard := t.heard, lantern := t.lantern, launch := t.launch, log := t.log, paths := t.paths, pcm := t.pcm
        pcmSeq := t.pcmSeq, plumb := t.plumb, power := t.power, prep := t.prep, radio := t.radio, shm := t.shm
        streams := t.streams } ∧
      s.KeepsOutside t [(0x1030, 0x1030), (0x2001, 0x2001), (0x2011, 0x2011), (0x2100, 0x6001)])
  ∧ (∀ c s t, (c matches .gpioChange .. | .tbSyncPulse .. | .tbSyncCheck ..) → c.wellFormed = true → exec c s = .next t →
      t = { s with
        awaiting := t.awaiting, dict := t.dict, events := t.events, gpioFired := t.gpioFired, launch := t.launch
        log := t.log, tbSync := t.tbSync } ∧
      s.KeepsOutside t [(0x2000, 0x2002), (0x7700, 0x7700)])
  ∧ (∀ c s t, (c matches .tbSyncFollowerLoad ..) → c.wellFormed = true → exec c s = .next t →
      t = { s with
        accelConfigured := t.accelConfigured, accelOwn := t.accelOwn, ams := t.ams, awaiting := t.awaiting
        captures := t.captures, chains := t.chains, dabs := t.dabs, dict := t.dict, drms := t.drms
        events := t.events, fms := t.fms, following := t.following, gloaming := t.gloaming, gnomon := t.gnomon
        heard := t.heard, lantern := t.lantern, launch := t.launch, link := t.link, log := t.log, paths := t.paths
        pcm := t.pcm, pcmSeq := t.pcmSeq, plumb := t.plumb, prep := t.prep, radio := t.radio, shm := t.shm
        streams := t.streams } ∧
      s.KeepsOutside t [(0x2000, 0x2002), (0x2100, 0x6001)])
  ∧ (∀ c s t, (c matches .lockGroupWrite .. | .clkOutEnableWrite ..) → c.wellFormed = true → exec c s = .next t →
      t = { s with
        answer := t.answer, awaiting := t.awaiting, chains := t.chains, dict := t.dict, events := t.events
        log := t.log, power := t.power, radio := t.radio } ∧
      s.KeepsOutside t [(0x1030, 0x1030), (0x2002, 0x2008), (0x3120, 0x313F)])

/-- The ports, the process data and the check-value units: the frame of their commands. A well-formed one leaves State as it was but for the fields named, and, where index
ranges are named, every subindex outside them but those that raising an event may write. -/
def Obligations.PortsFrame : Prop :=
  (∀ c s t, (c matches .twoWireResponse .. | .twoWireEvents .. | .twoWireResponseRepeat .. | .twoWireEventsRepeat .. |
      .twoWireStatus .. | .sclTimeout .. | .busError .. | .targetWakeIdle .. | .hostNotify .. | .arbitrationLost .. |
      .statusPoll .. | .transferTimeout .. | .eventFrame .. | .quoinWatchWake .. | .quoinIdle .. | .busOffRecovery .. |
      .busOff .. | .pdoPeriodic .. | .pdoChange ..) → c.wellFormed = true → exec c s = .next t →
      t = { s with
        awaiting := t.awaiting, cvs := t.cvs, dict := t.dict, events := t.events, log := t.log, pdos := t.pdos
        ports := t.ports, quoin := t.quoin, twoWire := t.twoWire } ∧
      s.KeepsOutside t [(0x1040, 0x1078), (0x9000, 0x900F)])
  ∧ (∀ c s t, (c matches .targetWake ..) → c.wellFormed = true → exec c s = .next t →
      t = { s with
        dict := t.dict, ports := t.ports, power := t.power, twoWire := t.twoWire } ∧
      s.KeepsOutside t [(0x7600, 0x7600)])
  ∧ (∀ c s t, (c matches .spiResponse .. | .spiEvents .. | .spiResponseRepeat .. | .spiEventsRepeat ..) → c.wellFormed = true
      → exec c s = .next t →
      t = { s with
        dict := t.dict, events := t.events, ports := t.ports } ∧
      s.KeepsOutside t [(0x1061, 0x1061)])
  ∧ (∀ c s t, (c matches .quoinRead ..) → c.wellFormed = true → exec c s = .next t →
      t = { s with
        answer := t.answer, answeredPorts := t.answeredPorts, awaiting := t.awaiting, dict := t.dict
        fifos := t.fifos, ports := t.ports, power := t.power, quoin := t.quoin, radio := t.radio } ∧
      s.KeepsOutside t [(0x1020, 0x1020), (0x1030, 0x1030), (0x1041, 0x1041)])
  ∧ (∀ c s t, (c matches .initiateRead ..) → c.wellFormed = true → exec c s = .next t →
      t = { s with
        answer := t.answer, answeredPorts := t.answeredPorts, awaiting := t.awaiting, cvs := t.cvs, dict := t.dict
        fifos := t.fifos, ports := t.ports, power := t.power, quoin := t.quoin, radio := t.radio } ∧
      s.KeepsOutside t [(0x1020, 0x1020), (0x1030, 0x1030), (0x1041, 0x1041), (0x1070, 0x1078)])
  ∧ (∀ c s t, (c matches .initiateWrite ..) → c.wellFormed = true → exec c s = .next t →
      t = { s with
        answeredPorts := t.answeredPorts, awaiting := t.awaiting, cvs := t.cvs, dict := t.dict, events := t.events
        log := t.log, ports := t.ports, power := t.power, quoin := t.quoin, radio := t.radio } ∧
      s.KeepsOutside t [(0x1020, 0x1020), (0x1030, 0x1030), (0x1041, 0x1041), (0x1070, 0x1078)])
  ∧ (∀ c s t, (c matches .blockRequest .. | .segment .. | .abortTransfer .. | .syncRequest ..) → c.wellFormed = true → exec c
      s = .next t →
      t = { s with
        answeredPorts := t.answeredPorts, awaiting := t.awaiting, cvs := t.cvs, dict := t.dict, ports := t.ports
        power := t.power, quoin := t.quoin, radio := t.radio } ∧
      s.KeepsOutside t [(0x1020, 0x1020), (0x1030, 0x1030), (0x1041, 0x1041), (0x1070, 0x1078)])
  ∧ (∀ c s t, (c matches .quoinWrite .. | .endTransfer .. | .twoWireRequest .. | .spiRequest .. | .dbgAccess .. |
      .objectWrite .. | .serviceRequest ..) → c.wellFormed = true → exec c s = .next t →
      t = { s with
        accelConfigured := t.accelConfigured, accelOwn := t.accelOwn, amQuietSince := t.amQuietSince, ams := t.ams
        answer := t.answer, answeredPorts := t.answeredPorts, antennas := t.antennas, awaiting := t.awaiting
        captures := t.captures, chains := t.chains, claimedAt := t.claimedAt, committed := t.committed
        cvs := t.cvs, dabDecoders := t.dabDecoders, dabs := t.dabs, dict := t.dict, drmSel := t.drmSel
        drms := t.drms, engines := t.engines, events := t.events, fifos := t.fifos, flash := t.flash, fms := t.fms
        following := t.following, freeCtr := t.freeCtr, gloaming := t.gloaming, heard := t.heard, held := t.held
        holdings := t.holdings, lantern := t.lantern, launch := t.launch, link := t.link, loads := t.loads
        log := t.log, mesh := t.mesh, otp := t.otp, paths := t.paths, pcm := t.pcm, pcmSeq := t.pcmSeq
        pdos := t.pdos, plumb := t.plumb, ports := t.ports, power := t.power, prep := t.prep, quoin := t.quoin
        radio := t.radio, saving := t.saving, sec := t.sec, shares := t.shares, shm := t.shm, streams := t.streams
        tbSync := t.tbSync, twoWire := t.twoWire, upd := t.upd })
  ∧ (∀ c s t, (c matches .contextSwitch .. | .contextRestore ..) → c.wellFormed = true → exec c s = .next t →
      t = { s with
        cvs := t.cvs, dict := t.dict } ∧
      s.KeepsOutside t [(0x1070, 0x1078)])
  ∧ (∀ c s t, (c matches .hostJob ..) → c.wellFormed = true → exec c s = .next t →
      t = { s with
        answer := t.answer, awaiting := t.awaiting, cvs := t.cvs, dict := t.dict, events := t.events
        held := t.held, log := t.log, power := t.power, radio := t.radio } ∧
      s.KeepsOutside t [(0x1030, 0x1030), (0x1070, 0x1078)])
  ∧ (∀ c s t, (c matches .ringRead .. | .fifoRead .. | .fifoRepeatRead ..) → c.wellFormed = true → exec c s = .next t →
      t = { s with
        answer := t.answer, dict := t.dict, fifos := t.fifos, power := t.power, radio := t.radio } ∧
      s.KeepsOutside t [(0x1030, 0x1030)])

/-- The store, the token, the history and process-data settings: the frame of their commands. A well-formed one leaves State as it was but for the fields named, and, where index
ranges are named, every subindex outside them but those that raising an event may write. -/
def Obligations.DictionaryFrame : Prop :=
  (∀ c s t, (c matches .store .. | .storeComplete .. | .storeErase .. | .tokenTake .. | .tokenRelease .. | .tokenHandover ..
      | .tokenTimeout ..) → c.wellFormed = true → exec c s = .next t →
      t = { s with
        answer := t.answer, awaiting := t.awaiting, cvs := t.cvs, dict := t.dict, events := t.events
        flash := t.flash, freeCtr := t.freeCtr, held := t.held, log := t.log, ports := t.ports, power := t.power
        quoin := t.quoin, radio := t.radio, saving := t.saving } ∧
      s.KeepsOutside t [(0x1030, 0x1041), (0x1070, 0x1078), (0x1100, 0x1100)])
  ∧ (∀ c s t, (c matches .historyQuery ..) → c.wellFormed = true → exec c s = .next t →
      t = { s with
        answer := t.answer, awaiting := t.awaiting, dict := t.dict, events := t.events, log := t.log
        power := t.power, radio := t.radio } ∧
      s.KeepsOutside t [(0x1030, 0x1030), (0x9810, 0x9810)])
  ∧ (∀ c s t, (c matches .quoinApply ..) → c.wellFormed = true → exec c s = .next t →
      t = { s with
        answer := t.answer, awaiting := t.awaiting, committed := t.committed, cvs := t.cvs, dict := t.dict
        events := t.events, log := t.log, ports := t.ports, power := t.power, radio := t.radio } ∧
      s.KeepsOutside t [(0x1030, 0x1030), (0x1041, 0x1041), (0x1070, 0x1078)])
  ∧ (∀ c s t, (c matches .pdoEnable ..) → c.wellFormed = true → exec c s = .next t →
      t = { s with
        answer := t.answer, awaiting := t.awaiting, dict := t.dict, events := t.events, log := t.log
        pdos := t.pdos, power := t.power, radio := t.radio } ∧
      s.KeepsOutside t [(0x1030, 0x1030), (0x9000, 0x900F)])

/-- Sensors, monitors, the log, the update and GPIO: the frame of their commands. A well-formed one leaves State as it was but for the fields named, and, where index
ranges are named, every subindex outside them but those that raising an event may write. -/
def Obligations.ManagementFrame : Prop :=
  (∀ c s t, (c matches .logQuery ..) → c.wellFormed = true → exec c s = .next t →
      t = { s with
        answer := t.answer, awaiting := t.awaiting, dict := t.dict, events := t.events, log := t.log
        power := t.power, radio := t.radio } ∧
      s.KeepsOutside t [(0x1030, 0x1030), (0x7100, 0x7100)])
  ∧ (∀ c s t, (c matches .logFlush ..) → c.wellFormed = true → exec c s = .next t →
      t = { s with
        awaiting := t.awaiting, dict := t.dict, events := t.events, freeCtr := t.freeCtr, log := t.log } ∧
      s.KeepsOutside t [(0x1070, 0x1078), (0x7400, 0x7400)])
  ∧ (∀ c s t, (c matches .gpioWrite ..) → c.wellFormed = true → exec c s = .next t →
      t = { s with
        answer := t.answer, awaiting := t.awaiting, dict := t.dict, events := t.events, log := t.log
        power := t.power, radio := t.radio } ∧
      s.KeepsOutside t [(0x1030, 0x1030), (0x7700, 0x7700)])
  ∧ (∀ c s t, (c matches .tapEnableWrite ..) → c.wellFormed = true → exec c s = .next t →
      t = { s with
        accelConfigured := t.accelConfigured, accelOwn := t.accelOwn, amQuietSince := t.amQuietSince, ams := t.ams
        answer := t.answer, antennas := t.antennas, awaiting := t.awaiting, captures := t.captures
        chains := t.chains, claimedAt := t.claimedAt, committed := t.committed, dabDecoders := t.dabDecoders
        dabs := t.dabs, dict := t.dict, drmSel := t.drmSel, drms := t.drms, engines := t.engines
        events := t.events, fifos := t.fifos, flash := t.flash, fms := t.fms, following := t.following
        gloaming := t.gloaming, heard := t.heard, holdings := t.holdings, lantern := t.lantern, launch := t.launch
        link := t.link, loads := t.loads, log := t.log, mesh := t.mesh, paths := t.paths, pcm := t.pcm
        pcmSeq := t.pcmSeq, pdos := t.pdos, plumb := t.plumb, power := t.power, prep := t.prep, radio := t.radio
        shares := t.shares, shm := t.shm, streams := t.streams, tbSync := t.tbSync })
  ∧ (∀ c s t, (c matches .updateBegin .. | .eraseComplete .. | .updateChunk .. | .updateFinish .. | .updateActivate .. |
      .updateCancel .. | .updateConfirm ..) → c.wellFormed = true → exec c s = .next t →
      t = { s with
        answer := t.answer, awaiting := t.awaiting, cvs := t.cvs, dict := t.dict, events := t.events
        flash := t.flash, log := t.log, otp := t.otp, power := t.power, radio := t.radio, upd := t.upd } ∧
      s.KeepsOutside t [(0x1030, 0x1030), (0x1070, 0x1078), (0x7200, 0x7200), (0x7500, 0x7500)])
  ∧ (∀ c s t, (c matches .temperatureCrossing .. | .clockMonitorFault .. | .safeEntry ..) → c.wellFormed = true → exec c s =
      .next t →
      t = { s with
        antennas := t.antennas, awaiting := t.awaiting, captures := t.captures, dict := t.dict, events := t.events
        freeCtr := t.freeCtr, gloaming := t.gloaming, holdings := t.holdings, lantern := t.lantern
        launch := t.launch, link := t.link, loads := t.loads, log := t.log, mesh := t.mesh, mode := t.mode
        paths := t.paths, plumb := t.plumb, power := t.power, prep := t.prep, quoin := t.quoin, radio := t.radio
        sec := t.sec, shm := t.shm, twoWire := t.twoWire })

/-- Modes and wakes: the frame of their commands. A well-formed one leaves State as it was but for the fields named, and, where index
ranges are named, every subindex outside them but those that raising an event may write. -/
def Obligations.PowerFrame : Prop :=
  (∀ c s t, (c matches .wake .. | .wakeFailure .. | .wakeOutEnd ..) → c.wellFormed = true → exec c s = .next t →
      t = { s with
        dict := t.dict, power := t.power } ∧
      s.KeepsOutside t [(0x7600, 0x7600)])
  ∧ (∀ c s t, (c matches .modeRequest .. | .transitionHoldEnd .. | .wakeInWatch ..) → c.wellFormed = true → exec c s = .next t →
      t = { s with
        accelConfigured := t.accelConfigured, accelOwn := t.accelOwn, ams := t.ams, answer := t.answer
        awaiting := t.awaiting, captures := t.captures, chains := t.chains, committed := t.committed
        dabDecoders := t.dabDecoders, dabs := t.dabs, dict := t.dict, drmSel := t.drmSel, drms := t.drms
        engines := t.engines, events := t.events, fifos := t.fifos, fms := t.fms, following := t.following
        gloaming := t.gloaming, heard := t.heard, holdings := t.holdings, lantern := t.lantern, launch := t.launch
        link := t.link, loads := t.loads, log := t.log, paths := t.paths, pcm := t.pcm, pcmSeq := t.pcmSeq
        plumb := t.plumb, power := t.power, prep := t.prep, quoin := t.quoin, radio := t.radio, shares := t.shares
        shm := t.shm, streams := t.streams })
  ∧ (∀ c s t, (c matches .transitionComplete .. | .parkedEntry ..) → c.wellFormed = true → exec c s = .next t →
      t = { s with
        accelConfigured := t.accelConfigured, accelOwn := t.accelOwn, amQuietSince := t.amQuietSince, ams := t.ams
        antennas := t.antennas, awaiting := t.awaiting, captures := t.captures, chains := t.chains
        claimedAt := t.claimedAt, committed := t.committed, dabDecoders := t.dabDecoders, dabs := t.dabs
        dict := t.dict, drmSel := t.drmSel, drms := t.drms, engines := t.engines, events := t.events
        fifos := t.fifos, flash := t.flash, fms := t.fms, following := t.following, freeCtr := t.freeCtr
        gloaming := t.gloaming, heard := t.heard, held := t.held, holdings := t.holdings, lantern := t.lantern
        launch := t.launch, link := t.link, loads := t.loads, log := t.log, mesh := t.mesh, mode := t.mode
        paths := t.paths, pcm := t.pcm, pcmSeq := t.pcmSeq, pdos := t.pdos, plumb := t.plumb, ports := t.ports
        power := t.power, prep := t.prep, quoin := t.quoin, radio := t.radio, saving := t.saving, sec := t.sec
        shares := t.shares, shm := t.shm, streams := t.streams, twoWire := t.twoWire })
  ∧ (∀ c s t, (c matches .pathPowerUp ..) → c.wellFormed = true → exec c s = .next t →
      t = { s with
        amQuietSince := t.amQuietSince, awaiting := t.awaiting, claimedAt := t.claimedAt, dict := t.dict
        events := t.events, log := t.log, paths := t.paths, plumb := t.plumb, power := t.power })
  ∧ (∀ c s t, (c matches .bringUp ..) → c.wellFormed = true → exec c s = .next t →
      t = { s with
        accelConfigured := t.accelConfigured, accelOwn := t.accelOwn, amQuietSince := t.amQuietSince, ams := t.ams
        antennas := t.antennas, awaiting := t.awaiting, captures := t.captures, chains := t.chains
        claimedAt := t.claimedAt, committed := t.committed, dabDecoders := t.dabDecoders, dabs := t.dabs
        dict := t.dict, drmSel := t.drmSel, drms := t.drms, engines := t.engines, events := t.events
        fifos := t.fifos, flash := t.flash, fms := t.fms, following := t.following, freeCtr := t.freeCtr
        gloaming := t.gloaming, heard := t.heard, holdings := t.holdings, lantern := t.lantern, launch := t.launch
        link := t.link, loads := t.loads, log := t.log, mesh := t.mesh, mode := t.mode, otp := t.otp
        paths := t.paths, pcm := t.pcm, pcmSeq := t.pcmSeq, pdos := t.pdos, plumb := t.plumb, ports := t.ports
        power := t.power, prep := t.prep, quoin := t.quoin, radio := t.radio, ready := t.ready, shares := t.shares
        shm := t.shm, streams := t.streams, tbSync := t.tbSync, twoWire := t.twoWire, upd := t.upd })

/-- Lifecycle, keys, challenges, violations and the TAP: the frame of their commands. A well-formed one leaves State as it was but for the fields named, and, where index
ranges are named, every subindex outside them but those that raising an event may write. -/
def Obligations.SecurityFrame : Prop :=
  (∀ c s t, (c matches .stepToSecured .. | .challengeRequest .. | .challengeExpiry .. | .keySlotErase .. | .lowerLevel ..) →
      c.wellFormed = true → exec c s = .next t →
      t = { s with
        answer := t.answer, awaiting := t.awaiting, dict := t.dict, events := t.events, flash := t.flash
        freeCtr := t.freeCtr, log := t.log, otp := t.otp, power := t.power, radio := t.radio, sec := t.sec } ∧
      s.KeepsOutside t [(0x1030, 0x1030), (0x8000, 0x8001), (0x8300, 0x8300)])
  ∧ (∀ c s t, (c matches .keySlotWrite ..) → c.wellFormed = true → exec c s = .next t →
      t = { s with
        answer := t.answer, awaiting := t.awaiting, dict := t.dict, events := t.events, flash := t.flash
        log := t.log, power := t.power, radio := t.radio } ∧
      s.KeepsOutside t [(0x1030, 0x1030)])
  ∧ (∀ c s t, (c matches .stepToReturned .. | .revokeSlot ..) → c.wellFormed = true → exec c s = .next t →
      t = { s with
        answer := t.answer, awaiting := t.awaiting, committed := t.committed, dict := t.dict, events := t.events
        flash := t.flash, log := t.log, otp := t.otp, power := t.power, radio := t.radio, sec := t.sec })
  ∧ (∀ c s t, (c matches .idcode .. | .dbgStatus .. | .samplePreload .. | .bypass .. | .dbgChallenge .. | .dbgResponse .. |
      .coreDebug ..) → c.wellFormed = true → exec c s = .next t →
      t = { s with
        awaiting := t.awaiting, dict := t.dict, events := t.events, flash := t.flash, freeCtr := t.freeCtr
        log := t.log, ports := t.ports, sec := t.sec } ∧
      s.KeepsOutside t [(0x8300, 0x8300)])
  ∧ (∀ c s t, (c matches .accessViolation .. | .extest .. | .clamp .. | .highz ..) → c.wellFormed = true → exec c s = .next t →
      t = { s with
        accelConfigured := t.accelConfigured, accelOwn := t.accelOwn, ams := t.ams, awaiting := t.awaiting
        captures := t.captures, chains := t.chains, committed := t.committed, dabDecoders := t.dabDecoders
        dabs := t.dabs, dict := t.dict, drmSel := t.drmSel, drms := t.drms, engines := t.engines
        events := t.events, fifos := t.fifos, fms := t.fms, following := t.following, gloaming := t.gloaming
        heard := t.heard, holdings := t.holdings, lantern := t.lantern, launch := t.launch, loads := t.loads
        log := t.log, paths := t.paths, pcm := t.pcm, pcmSeq := t.pcmSeq, plumb := t.plumb, ports := t.ports
        power := t.power, radio := t.radio, sec := t.sec, shares := t.shares, shm := t.shm, streams := t.streams })

/-! ### The block as a whole -/

/-- A step with a command in front of the queue is that command on the state with the rest of the queue. -/
def Obligations.StepRunsFront : Prop := ∀ c rest s, s.pending = c :: rest → step s = exec c { s with pending := rest }

/-- A step on an empty queue is one tick (DESIGN CHOICE, notes/assumptions/1.md): Gnomon counts modulo 2^64, but in PARKED, where the
RTC's periods are counted (R38, R39, R466). -/
def Obligations.StepIdleTicks : Prop :=
  (∀ s, s.pending = [] → ∃ t, step s = .next t ∧ t.pending = [] ∧
    (s.mode ≠ .parked → t.gnomon = (s.gnomon + 1) % 2 ^ 64) ∧
    (s.mode = .parked → t.gnomon = s.gnomon ∧ t.power.rtcPeriods = s.power.rtcPeriods + 1))

/-- Every command answers a next state from every state: the specification gives each of them an effect, or a refusal that is a
response of the device. -/
def Obligations.EveryCommandAnswers : Prop := ∀ c s, ∃ t, exec c s = .next t

/-- No command changes the queue of the commands behind it. -/
def Obligations.QueueKept : Prop := ∀ c s t, exec c s = .next t → t.pending = s.pending

/-- What reset leaves (R22 to R24, R39, R351, R361, R364, R454, R472): BOOT before ready, Gnomon 0, every subindex at its default,
every unit DORMANT without owner or parent, the token free, the event sequence 0, the balls named as the BOOT column of R472 has them;
and, where no rule gives a value (DESIGN CHOICE, notes/assumptions/7.md), nothing armed, queued or kept. -/
def Obligations.ResetState : Prop :=
  State.reset.mode = .boot ∧ State.reset.ready = false ∧ State.reset.gnomon = 0 ∧ (∀ k, State.reset.val k = dflt k)
  ∧ (∀ u, unitExists u = true → State.reset.ustate u = 0 ∧ State.reset.owner u = 0xFF ∧ State.reset.parent u = 0xFFFF)
  ∧ State.reset.nat 0x103001 = 0 ∧ State.reset.nat 0x980006 = 0 ∧ (∀ n, State.reset.entry n = none)
  ∧ (∀ p, State.reset.port p = Port.init) ∧ (∀ k, State.reset.fifo k = Fifo.init) ∧ State.reset.log.sram = []
  ∧ State.reset.events.quoinQ = [] ∧ State.reset.events.twoWireQ = [] ∧ State.reset.events.spiQ = []
  ∧ State.reset.pending = [] ∧ State.reset.sec.challenge = none ∧ State.reset.power.transition = none
  ∧ (∀ b, b ∈ [Ball.pwrReq, .canTxd] → State.reset.ball b = .high)
  ∧ (∀ b, b ∈ [Ball.mswTx, .mswRx, .clkOut, .wakeOut, .canStb] → State.reset.ball b = .low)
  ∧ (∀ b, b ∈ [Ball.antPwrEn 0, .antPwrEn 1, .hostIrqN, .spiIo1, .jtagTdo, .spdifOut, .apSd 0, .apSd 1, .apSd 2, .apSd 3] →
      State.reset.ball b = .highZ)
  ∧ (∀ b, b ∈ [Ball.rf 0, .rf 1, .amin, .mrx, .mtx, .tbSync, .wakeIn, .smb, .amclk] → State.reset.ball b = .idle)
  ∧ (∀ n, State.reset.ball (.gpio n) = .input false false)

/-- The dictionary and its committed copies are canonical at reset. -/
def Obligations.ResetCanonical : Prop := State.reset.Canonical

/-- Every step keeps the dictionary and its committed copies canonical: subindices rising, none listed at its default. -/
def Obligations.StepKeepsCanonical : Prop := ∀ s t, s.Canonical → step s = .next t → t.Canonical

/-- OTP fuses are only ever blown (R412 to R414, R418, R444): no command takes back a lifecycle group, a revocation or an
anti-rollback fuse. -/
def Obligations.FusesOnlyBlown : Prop :=
  (∀ c s t, s.otp.securedFuses ≤ 8 → s.otp.returnedFuses ≤ 8 → exec c s = .next t →
    s.otp.securedFuses ≤ t.otp.securedFuses ∧ t.otp.securedFuses ≤ 8 ∧
    s.otp.returnedFuses ≤ t.otp.returnedFuses ∧ t.otp.returnedFuses ≤ 8 ∧
    s.otp.antiRollback ≤ t.otp.antiRollback ∧ (∀ i, bitOf s.otp.revoked i = true → bitOf t.otp.revoked i = true) ∧
    s.lifecycle ≤ t.lifecycle)

/-- Gnomon is never written but by the PARKED resume, a TB_SYNC follower's load and the resets (R39, R40, R53, R454): no other
command changes it. -/
def Obligations.GnomonOnlyCounts : Prop :=
  ∀ c s t, (c matches .parkedResume .. | .tbSyncFollowerLoad | .reset .. | .managementWatchdog | .supplyLevel .. |
      .trialExpiry) = false → exec c s = .next t → t.gnomon = s.gnomon

/-- A write that one of checks 1 to 10 refuses, after the automatic take of R361, changes nothing else and is answered with the
first failing check's code; every other subindex and field is as before (R349). -/
def Obligations.RefusedWriteHasNoEffect : Prop :=
  (∀ r i j b s t, i < 65536 → j < 256 → (s.autoTake r (obj i j)).judgeWrite r (obj i j) b ≠ 0 →
    exec (.objectWrite r i j b) s = .next t →
    t = { s with dict := t.dict, awaiting := t.awaiting, events := t.events, log := t.log, answer := t.answer }
    ∧ s.KeepsOutside t [(0x1030, 0x1030)] ∧ t.answer.code = (s.autoTake r (obj i j)).judgeWrite r (obj i j) b
    ∧ (s.nat 0x103001 ≠ 0 ∨ s.nat 0x103004 ≠ 1 ∨ isHost r = false → { t with answer := s.answer } = s))

/-- Only the token's holder writes (R359): a host port's write, once checks 1 to 7 pass, is refused with 0x0108 while another port
holds the token. -/
def Obligations.OnlyTheHolderWrites : Prop :=
  (∀ r i j b row s t, i < 65536 → j < 256 → isHost r = true → obj i j ≠ 0x103002 → s.nat 0x103001 ≠ 0 →
    s.nat 0x103001 ≠ portNo r → findRow (obj i j) = some row →
    firstCode [s.check1, check2 (obj i j), refuseIf (!s.classRight r (obj i j) true) 0x0109, s.check4 r (obj i j),
      s.check5 (obj i j), s.check6 (obj i j) true row.acc, s.imageCheck i, check7w row.acc] = 0 →
    exec (.objectWrite r i j b) s = .next t →
    t.answer.code = 0x0108 ∧ { t with answer := s.answer } = s)

/-- The bytes of a value spell it, and a value spells its bytes, in every type (R4, R345). -/
def Obligations.ValuesRoundTrip : Prop :=
  (∀ ty b, bytesOk b = true → lengthFits ty b.length = true → encodeVal ty (decodeVal ty b) = b)
  ∧ (∀ w n, n < 256 ^ w → ofLe (leNat w n) = n)
  ∧ (∀ w n, 1 ≤ w → -(2 ^ (8 * w - 1) : Int) ≤ n → n < 2 ^ (8 * w - 1) → signed w (ofLe (leInt w n)) = n)

/-- What is written is what is read (R345, R349): an accepted write of a plain RW or RWS subindex, then a read of it, gives the bytes
written. -/
def Obligations.WriteThenRead : Prop :=
  ∀ r i j b row s t, PlainRow i j row → bytesOk b = true → s.Accepts r (obj i j) b →
    exec (.objectWrite r i j b) s = .next t → t.readBytes (obj i j) = b

/-- The token command (R360): the whole table of outcomes. -/
def Obligations.TokenCommands : Prop :=
  (∀ r p s, isHost r = true → s.Accepts r 0x103002 [p % 3 + 1] → portNo r = p % 3 + 1 → s.nat 0x103001 = 0 →
    Gives (.tokenTake r p) s fun t => t.answer.code = 0 ∧ t.nat 0x103001 = p % 3 + 1)
  ∧ (∀ r p s, isHost r = true → s.Accepts r 0x103002 [p % 3 + 1] → portNo r = p % 3 + 1 → s.nat 0x103001 = p % 3 + 1 →
      Gives (.tokenTake r p) s fun t => t.answer.code = 0 ∧ t.nat 0x103001 = p % 3 + 1)
  ∧ (∀ r p s, isHost r = true → s.Accepts r 0x103002 [p % 3 + 1] → portNo r = p % 3 + 1 → s.nat 0x103001 ≠ 0 →
      s.nat 0x103001 ≠ p % 3 + 1 →
      Gives (.tokenTake r p) s fun t => t.answer.code = 0x010E ∧ t.nat 0x103001 = s.nat 0x103001)
  ∧ (∀ r p s, isHost r = true → s.Accepts r 0x103002 [p % 3 + 1] → portNo r ≠ p % 3 + 1 →
      Gives (.tokenTake r p) s fun t => t.answer.code = 0x0109 ∧ t.nat 0x103001 = s.nat 0x103001)
  ∧ (∀ r s, isHost r = true → s.Accepts r 0x103002 [0] → s.nat 0x103001 = portNo r →
      Gives (.tokenRelease r) s fun t => t.answer.code = 0 ∧ t.nat 0x103001 = 0)
  ∧ (∀ r s, isHost r = true → s.Accepts r 0x103002 [0] → s.nat 0x103001 ≠ portNo r →
      Gives (.tokenRelease r) s fun t => t.answer.code = 0x0108 ∧ t.nat 0x103001 = s.nat 0x103001)
  ∧ (∀ r p s, isHost r = true → s.Accepts r 0x103002 [0x81 + p % 3] → s.nat 0x103001 = portNo r →
      Gives (.tokenHandover r p) s fun t => t.answer.code = 0 ∧ t.nat 0x103001 = p % 3 + 1)
  ∧ (∀ r p s, isHost r = true → s.Accepts r 0x103002 [0x81 + p % 3] → s.nat 0x103001 ≠ portNo r →
      Gives (.tokenHandover r p) s fun t => t.answer.code = 0x0108 ∧ t.nat 0x103001 = s.nat 0x103001)

/-- A read with repeat (R358): the last data consumed from the FIFO again, with the same read number, when the same port consumed it
and no read has consumed since; otherwise 0x010D; nothing is consumed. -/
def Obligations.RepeatReadsLast : Prop :=
  (∀ r i j n s, s.judgeRead r (obj i j) = 0 → fifoKey (obj i j) = true → (s.fifo (obj i j)).last ≠ [] →
    (s.fifo (obj i j)).lastPort = readerNo r → (s.fifo (obj i j)).last.length ≤ n →
    Gives (.fifoRepeatRead r i j n) s fun t => t.answer.code = 0 ∧ t.answer.data = (s.fifo (obj i j)).last ∧
      t.answer.readNo = (s.fifo (obj i j)).readNo ∧ t.fifos = s.fifos)
  ∧ (∀ r i j n s, s.judgeRead r (obj i j) = 0 → fifoKey (obj i j) = true →
      (s.fifo (obj i j)).last = [] ∨ (s.fifo (obj i j)).lastPort ≠ readerNo r →
      Gives (.fifoRepeatRead r i j n) s fun t => t.answer.code = 0x010D ∧ t.fifos = s.fifos)
  ∧ (∀ r i j n b rest s, s.judgeRead r (obj i j) = 0 → fifoKey (obj i j) = true → ringKey (obj i j) = false →
      (s.fifo (obj i j)).recs = b :: rest → b ≠ [] → b.length ≤ n →
      Gives (.fifoRead r i j n) s fun t => (t.fifo (obj i j)).last = b ∧ (t.fifo (obj i j)).lastPort = readerNo r)

/-- A response, a read segment or an event block is consumed only when the host has clocked all of it, with its check byte where the
mode requires one; the repeat commands return the item last consumed, or the empty form, and consume nothing (R391). -/
def Obligations.ConsumedOnlyWhenTaken : Prop :=
  (∀ taken pec s t, exec (.twoWireResponse taken pec) s = .next t → taken = false ∨ (s.nat 0x105002 ≠ 0 ∧ pec = false) →
    (t.port 2).unread = (s.port 2).unread ∧ (t.port 2).lastItem = (s.port 2).lastItem)
  ∧ (∀ taken pec s t, exec (.twoWireEvents taken pec) s = .next t → taken = false ∨ (s.nat 0x105002 ≠ 0 ∧ pec = false) →
      t.events = s.events ∧ (t.port 2).lastEvents = (s.port 2).lastEvents)
  ∧ (∀ flags n c s t, exec (.spiResponse flags n c false) s = .next t →
      (t.port 3).unread = (s.port 3).unread ∧ (t.port 3).lastItem = (s.port 3).lastItem)
  ∧ (∀ flags n c s t, exec (.spiEvents flags n c false) s = .next t →
      t.events = s.events ∧ (t.port 3).lastEvents = (s.port 3).lastEvents)
  ∧ (∀ b s, s.twoWireAcks = true → s.mode ≠ .parked →
      b = (if (s.port 2).lastItem = [] then [1, 0] else (s.port 2).lastItem.length :: (s.port 2).lastItem) →
      Gives (.twoWireResponseRepeat true) s fun t => (t.port 2).unread = (s.port 2).unread ∧
        (t.port 2).out = [b ++ crc8 ([2 * s.nat 0x105001, 0x13, 2 * s.nat 0x105001 + 1] ++ b)])
  ∧ (∀ b s, s.twoWireAcks = true → s.mode ≠ .parked →
      b = (if (s.port 2).lastEvents = [] then [1, 0] else (s.port 2).lastEvents.length :: (s.port 2).lastEvents) →
      Gives (.twoWireEventsRepeat true) s fun t => t.events = s.events ∧
        (t.port 2).out = [b ++ crc8 ([2 * s.nat 0x105001, 0x14, 2 * s.nat 0x105001 + 1] ++ b)])
  ∧ (∀ quad n b s, quad ≤ 1 → s.spiPowered = true → s.portReady = true → (s.port 3).lastItem = b → b.length ≤ n → n ≤ 1028 →
      Gives (.spiResponseRepeat quad n (crcOf 2 ((16 * quad + 4) :: leNat 2 n))) s fun t =>
        (t.port 3).unread = (s.port 3).unread ∧
        (t.port 3).out = [[s.portStatus 3], leNat 2 b.length ++ b ++ crc8 (leNat 2 b.length ++ b)])
  ∧ (∀ quad n b s, quad ≤ 1 → s.spiPowered = true → s.portReady = true → (s.port 3).lastEvents = b → b.length ≤ n → n ≤ 1028 →
      Gives (.spiEventsRepeat quad n (crcOf 2 ((16 * quad + 5) :: leNat 2 n))) s fun t => t.events = s.events ∧
        (t.port 3).out = [[s.portStatus 3], leNat 2 b.length ++ b ++ crc8 (leNat 2 b.length ++ b)])

/-- A request acts once (R366, R378): a frame of a matched kind that repeats the sequence of the last request answered is answered by
the kept response with flag bit 3 set and by nothing else; every frame of a matched kind leaves its sequence kept; the other
kinds never match and leave what is kept, and 0x1020:01 to :03, as they were; so a second copy of a Write on Quoin changes
nothing but what the port sends and its counters. -/
def Obligations.RequestActsOnce : Prop :=
  (∀ (p : Nat) (f b : Bytes) (s : State), matchedKind (nthD f 0 0) = true → 2 ≤ f.length → (s.port p).kept = some (nthD f 1 0, b) →
    s.handleFrame p f = s.deliver p (b.take 7 ++ [setBit (nthD b 7 0) 3] ++ b.drop 8) ∧
      ((s.handleFrame p f).port p).transfer = (s.port p).transfer)
  ∧ (∀ (p : Nat) (f : Bytes) (s : State), matchedKind (nthD f 0 0) = true → 2 ≤ f.length →
      ((s.handleFrame p f).port p).kept.map (·.1) = some (nthD f 1 0))
  ∧ (∀ (p : Nat) (f : Bytes) (s : State), matchedKind (nthD f 0 0) = false → 1 ≤ p → p ≤ 3 → ((s.handleFrame p f).port p).kept = (s.port p).kept ∧
      (s.handleFrame p f).nat (obj 0x1020 p) = s.nat (obj 0x1020 p))
  ∧ (∀ seq body s t, seq < 256 → s.QuoinServes → t.QuoinServes → exec (.quoinWrite true seq body) s = .next t →
      Gives (.quoinWrite true seq body) t fun u =>
        u = { t with ports := u.ports, quoin := u.quoin, dict := u.dict } ∧ t.KeepsOutside u [(0x1041, 0x1041)] ∧
        (u.port 1).transfer = (t.port 1).transfer)

/-- An event raised after ready, of an enabled class, takes the next sequence modulo 2^32 and closes the history of 256; one of a
class that is not enabled takes none; no port's queue grows beyond 64 (R362, R364, R365). -/
def Obligations.EventsAreNumbered : Prop :=
  (∀ cls kind src fields s, s.ready = true → bitOf (s.nat 0x980001) (cls - 1) = true →
    (State.raise cls kind src fields s).nat 0x980006 = (s.nat 0x980006 + 1) % 2 ^ 32 ∧
    (State.raise cls kind src fields s).events.history.getLast? =
      some ⟨(s.nat 0x980006 + 1) % 2 ^ 32, s.gnomon, cls, kind, src, packFields 16 fields⟩ ∧
    (State.raise cls kind src fields s).events.history.length ≤ 256)
  ∧ (∀ cls kind src fields s, bitOf (s.nat 0x980001) (cls - 1) = false →
      (State.raise cls kind src fields s).events = s.events ∧
      (State.raise cls kind src fields s).nat 0x980006 = s.nat 0x980006)
  ∧ (∀ cls kind src fields s, s.events.quoinQ.length ≤ 64 → s.events.twoWireQ.length ≤ 64 → s.events.spiQ.length ≤ 64 →
      (State.raise cls kind src fields s).events.quoinQ.length ≤ 64 ∧
      (State.raise cls kind src fields s).events.twoWireQ.length ≤ 64 ∧
      (State.raise cls kind src fields s).events.spiQ.length ≤ 64)

/-- Entry to SAFE (R447): every unit is FAULTED with code 1, the launch table is empty, both paths are off, no transition is in
progress, and the fault record holds the cause, the source, the reading and the instant. -/
def Obligations.SafeFaultsEveryUnit : Prop :=
  (∀ c s, s.power.safeDue = some c → s.mode ≠ .off → s.mode ≠ .parked → s.mode ≠ .safe →
    Gives .safeEntry s fun t =>
      (∀ u, unitExists u = true → t.ustate u = 4 ∧ t.nat (desc u 5) = 1) ∧ (∀ n, n < 64 → t.entry n = none) ∧
      t.nat 0x300001 = 0 ∧ t.nat 0x300101 = 0 ∧ t.power.transition = none ∧ t.holdings = [] ∧
      (t.bytes 0x740001).take 12 = [c.cause, c.source] ++ leInt 2 c.reading ++ leNat 8 c.at_)
end

