-- ==== Sys2Proof/Laws/Blocks.lean ====
section
/-!
SUPPORT. Laws/Blocks.lean: what the block-scaled formats and the grids of ticks can give: the bounds of shifts and sizes (R248, R250), the
ticks on which gain changes land (R67), and the range of the mesh network time (R61).
-/
namespace Sys2Proof.Machine

/-- A block's exponent never exceeds the largest one. -/
theorem leastShift_le (most bits : Nat) (xs : List Int) : leastShift most bits xs ≤ most := by
  unfold leastShift
  cases h : (List.range (most + 1)).find? _ with
  | none => simp
  | some s =>
    have := List.mem_of_find?_eq_some h
    simp only [List.mem_range] at this
    simp only [Option.getD_some]
    omega

/-- Where some exponent makes every value fit, the one chosen does. -/
theorem leastShift_fits (most bits : Nat) (xs : List Int) (s : Nat) (hs : s ≤ most)
    (h : ∀ x ∈ xs, -2 ^ (bits - 1) ≤ shiftRound s x ∧ shiftRound s x < 2 ^ (bits - 1)) :
    ∀ x ∈ xs, -2 ^ (bits - 1) ≤ shiftRound (leastShift most bits xs) x ∧ shiftRound (leastShift most bits xs) x < 2 ^ (bits - 1) := by
  unfold leastShift
  cases hf : (List.range (most + 1)).find? _ with
  | none =>
    have := List.find?_eq_none.mp hf s (by simp; omega)
    simp only [List.all_eq_true, Bool.and_eq_true, decide_eq_true_eq] at this
    exact absurd h this
  | some k =>
    have := List.find?_some hf
    simpa only [Option.getD_some, List.all_eq_true, Bool.and_eq_true, decide_eq_true_eq] using this

/-- A block of R250 has a shift of at most 8 and a word for each sample. -/
theorem pcmBlock_shape (xs : List Int) : (pcmBlock xs).shift ≤ 8 ∧ (pcmBlock xs).words.length = xs.length :=
  ⟨leastShift_le 8 16 xs, by simp [pcmBlock]⟩

/-- A pair of BS-IQ8 blocks takes 65 bytes (R248). -/
theorem iq8Pair_length (a b : List Int) (ha : a.length = 32) (hb : b.length = 32) : (iq8Pair a b).length = 65 := by
  have one : ∀ l : List Int, (l.flatMap (leInt 1)).length = l.length := fun l => by
    induction l with
    | nil => rfl
    | cons x xs ih => simp only [List.flatMap_cons, List.length_append, ih, List.length_cons]; show 1 + _ = _; omega
  simp [iq8Pair, one, ha, hb]

/-- A gain change lands within 4 ticks, on a multiple of 4 (R67). -/
theorem landing_spec (t : Nat) : landing t % 4 = 0 ∧ t ≤ landing t ∧ landing t < t + 4 := by
  unfold landing; omega

/-- The mesh network time has 32 bits (R61). -/
theorem networkTime_lt (s : State) : s.networkTime < 2 ^ 32 := Nat.mod_lt _ (by decide)

end Sys2Proof.Machine
end

