-- ==== Sys2Proof/Laws/Map.lean ====
section
/-!
SUPPORT. Laws/Map.lean: what a read of a sparse map gives after a write, and that every map operation keeps the canonical form.
-/
namespace Sys2Proof.Machine

variable {α : Type}

/-- A key read after an erase is at its default; every other key reads as before. -/
theorem map_get_erase (d : Nat → α) (m : Map α) (k j : Nat) :
    Map.get d (m.erase k) j = if j = k then d j else Map.get d m j := by
  induction m with
  | nil => by_cases h : j = k <;> simp [Map.erase, Map.get, h]
  | cons p m ih =>
    obtain ⟨q, v⟩ := p
    simp only [Map.erase, List.filter_cons] at ih ⊢
    by_cases hq : q = k
    · subst hq
      by_cases hj : j = q <;> simp_all [Map.get]
    · have hq' : (q != k) = true := by simpa using hq
      by_cases hj : j = k
      · subst hj
        have : ¬ j = q := fun h => hq h.symm
        simp_all [Map.get]
      · by_cases hjq : j = q <;> simp_all [Map.get]

/-- A key read after an insertion where it is not listed. -/
theorem map_get_insert (d : Nat → α) (m : Map α) (k j : Nat) (v : α) (hk : ∀ p ∈ m, p.1 ≠ k) :
    Map.get d (Map.insert k v m) j = if j = k then v else Map.get d m j := by
  induction m with
  | nil => simp [Map.insert, Map.get]
  | cons p m ih =>
    obtain ⟨q, w⟩ := p
    have hq : q ≠ k := hk (q, w) (by simp)
    have hm : ∀ p ∈ m, p.1 ≠ k := fun p hp => hk p (by simp [hp])
    by_cases h : k < q
    · simp [Map.insert, h, Map.get]
    · by_cases hjq : j = q
      · subst hjq
        simp [Map.insert, h, Map.get, hq]
      · simp [Map.insert, h, Map.get, hjq, ih hm]

/-- No entry of a map without a key has that key. -/
theorem map_erase_ne (m : Map α) (k : Nat) : ∀ p ∈ m.erase k, p.1 ≠ k := by
  intro p hp
  simpa [Map.erase] using (List.mem_filter.mp hp).2

/-- Read after write: the key written gives the value, every other key reads as before. -/
theorem map_get_put [DecidableEq α] (d : Nat → α) (m : Map α) (k j : Nat) (v : α) :
    Map.get d (Map.put d m k v) j = if j = k then v else Map.get d m j := by
  unfold Map.put
  split
  · rename_i h
    rw [map_get_erase]
    by_cases hj : j = k <;> simp_all
  · rw [map_get_insert _ _ _ _ _ (map_erase_ne m k), map_get_erase]
    by_cases hj : j = k <;> simp_all

/-! ### The canonical form -/

/-- The form of a map whose first entry is known. -/
theorem map_wf_cons [DecidableEq α] (d : Nat → α) (k : Nat) (v : α) (m : Map α) :
    Map.wf d ((k, v) :: m) = true ↔ v ≠ d k ∧ (∀ p ∈ m.head?, k < p.1) ∧ Map.wf d m = true := by
  cases m with
  | nil => simp [Map.wf]
  | cons p m => obtain ⟨q, w⟩ := p; simp [Map.wf, and_assoc]

/-- Every key of a canonical map after the first is larger. -/
theorem map_wf_lt [DecidableEq α] (d : Nat → α) (k : Nat) (v : α) (m : Map α) (h : Map.wf d ((k, v) :: m) = true) :
    ∀ p ∈ m, k < p.1 := by
  induction m generalizing k v with
  | nil => simp
  | cons q m ih =>
    obtain ⟨j, w⟩ := q
    rw [map_wf_cons] at h
    have hj : k < j := h.2.1 (j, w) (by simp)
    intro p hp
    rcases List.mem_cons.mp hp with rfl | hp
    · exact hj
    · exact lt_trans hj (ih j w h.2.2 p hp)

/-- A filter keeps the form. -/
theorem map_wf_filter [DecidableEq α] (d : Nat → α) (m : Map α) (f : Nat × α → Bool) (h : Map.wf d m = true) :
    Map.wf d (m.filter f) = true := by
  induction m with
  | nil => simp [Map.wf]
  | cons p m ih =>
    obtain ⟨k, v⟩ := p
    have hlt := map_wf_lt d k v m h
    rw [map_wf_cons] at h
    rw [List.filter_cons]
    split
    · rw [map_wf_cons]
      refine ⟨h.1, ?_, ih h.2.2⟩
      intro p hp
      exact hlt p (List.mem_of_mem_filter (List.mem_of_mem_head? hp))
    · exact ih h.2.2

/-- An erase keeps the form. -/
theorem map_wf_erase [DecidableEq α] (d : Nat → α) (m : Map α) (k : Nat) (h : Map.wf d m = true) :
    Map.wf d (m.erase k) = true := map_wf_filter d m _ h

/-- An insertion of an unlisted key with a value that is no default keeps the form. -/
theorem map_wf_insert [DecidableEq α] (d : Nat → α) (m : Map α) (k : Nat) (v : α) (hv : v ≠ d k) (hk : ∀ p ∈ m, p.1 ≠ k)
    (h : Map.wf d m = true) : Map.wf d (Map.insert k v m) = true := by
  induction m with
  | nil => simp [Map.insert, Map.wf, hv]
  | cons p m ih =>
    obtain ⟨j, w⟩ := p
    have hj : j ≠ k := hk (j, w) (by simp)
    have hm : ∀ p ∈ m, p.1 ≠ k := fun p hp => hk p (by simp [hp])
    by_cases hlt : k < j
    · simp only [Map.insert, hlt, if_true]
      rw [map_wf_cons]
      exact ⟨hv, by simp [hlt], h⟩
    · simp only [Map.insert, hlt, if_false]
      have hjk : j < k := lt_of_le_of_ne (Nat.le_of_not_lt hlt) hj
      have hh := (map_wf_cons d j w m).mp h
      rw [map_wf_cons]
      refine ⟨hh.1, ?_, ih hm hh.2.2⟩
      intro p hp
      cases m with
      | nil => simp [Map.insert] at hp; simp [← hp, hjk]
      | cons q m =>
        obtain ⟨i, x⟩ := q
        by_cases hki : k < i
        · simp [Map.insert, hki] at hp; simp [← hp, hjk]
        · simp [Map.insert, hki] at hp
          simpa [← hp] using hh.2.1 (i, x) (by simp)

/-- A write keeps the form. -/
theorem map_wf_put [DecidableEq α] (d : Nat → α) (m : Map α) (k : Nat) (v : α) (h : Map.wf d m = true) :
    Map.wf d (Map.put d m k v) = true := by
  unfold Map.put
  split
  · exact map_wf_erase d m k h
  · exact map_wf_insert d _ k v ‹_› (map_erase_ne m k) (map_wf_erase d m k h)

end Sys2Proof.Machine
end

