-- ==== Sys2Proof/Laws/State.lean ====
section
/-!
SUPPORT. Laws/State.lean: what each named update of State changes: the field it writes, and every other field as it was; and what a read
gives after a write.
-/
namespace Sys2Proof.Machine

/-! ### setVal -/

@[simp] theorem setVal_pending (k : Nat) (v : Val) (s : State) : (s.setVal k v).pending = s.pending := rfl
@[simp] theorem setVal_mode (k : Nat) (v : Val) (s : State) : (s.setVal k v).mode = s.mode := rfl
@[simp] theorem setVal_ready (k : Nat) (v : Val) (s : State) : (s.setVal k v).ready = s.ready := rfl
@[simp] theorem setVal_gnomon (k : Nat) (v : Val) (s : State) : (s.setVal k v).gnomon = s.gnomon := rfl
@[simp] theorem setVal_freeCtr (k : Nat) (v : Val) (s : State) : (s.setVal k v).freeCtr = s.freeCtr := rfl
@[simp] theorem setVal_committed (k : Nat) (v : Val) (s : State) : (s.setVal k v).committed = s.committed := rfl
@[simp] theorem setVal_awaiting (k : Nat) (v : Val) (s : State) : (s.setVal k v).awaiting = s.awaiting := rfl
@[simp] theorem setVal_held (k : Nat) (v : Val) (s : State) : (s.setVal k v).held = s.held := rfl
@[simp] theorem setVal_fifos (k : Nat) (v : Val) (s : State) : (s.setVal k v).fifos = s.fifos := rfl
@[simp] theorem setVal_events (k : Nat) (v : Val) (s : State) : (s.setVal k v).events = s.events := rfl
@[simp] theorem setVal_answer (k : Nat) (v : Val) (s : State) : (s.setVal k v).answer = s.answer := rfl
@[simp] theorem setVal_answeredPorts (k : Nat) (v : Val) (s : State) : (s.setVal k v).answeredPorts = s.answeredPorts := rfl
@[simp] theorem setVal_launch (k : Nat) (v : Val) (s : State) : (s.setVal k v).launch = s.launch := rfl
@[simp] theorem setVal_prep (k : Nat) (v : Val) (s : State) : (s.setVal k v).prep = s.prep := rfl
@[simp] theorem setVal_holdings (k : Nat) (v : Val) (s : State) : (s.setVal k v).holdings = s.holdings := rfl
@[simp] theorem setVal_shares (k : Nat) (v : Val) (s : State) : (s.setVal k v).shares = s.shares := rfl
@[simp] theorem setVal_accelConfigured (k : Nat) (v : Val) (s : State) : (s.setVal k v).accelConfigured = s.accelConfigured := rfl
@[simp] theorem setVal_accelOwn (k : Nat) (v : Val) (s : State) : (s.setVal k v).accelOwn = s.accelOwn := rfl
@[simp] theorem setVal_utcPrev (k : Nat) (v : Val) (s : State) : (s.setVal k v).utcPrev = s.utcPrev := rfl
@[simp] theorem setVal_tbSync (k : Nat) (v : Val) (s : State) : (s.setVal k v).tbSync = s.tbSync := rfl
@[simp] theorem setVal_otp (k : Nat) (v : Val) (s : State) : (s.setVal k v).otp = s.otp := rfl
@[simp] theorem setVal_flash (k : Nat) (v : Val) (s : State) : (s.setVal k v).flash = s.flash := rfl
@[simp] theorem setVal_sec (k : Nat) (v : Val) (s : State) : (s.setVal k v).sec = s.sec := rfl
@[simp] theorem setVal_log (k : Nat) (v : Val) (s : State) : (s.setVal k v).log = s.log := rfl
@[simp] theorem setVal_upd (k : Nat) (v : Val) (s : State) : (s.setVal k v).upd = s.upd := rfl
@[simp] theorem setVal_gpioFired (k : Nat) (v : Val) (s : State) : (s.setVal k v).gpioFired = s.gpioFired := rfl
@[simp] theorem setVal_power (k : Nat) (v : Val) (s : State) : (s.setVal k v).power = s.power := rfl
@[simp] theorem setVal_paths (k : Nat) (v : Val) (s : State) : (s.setVal k v).paths = s.paths := rfl
@[simp] theorem setVal_amQuietSince (k : Nat) (v : Val) (s : State) : (s.setVal k v).amQuietSince = s.amQuietSince := rfl
@[simp] theorem setVal_antennas (k : Nat) (v : Val) (s : State) : (s.setVal k v).antennas = s.antennas := rfl
@[simp] theorem setVal_plumb (k : Nat) (v : Val) (s : State) : (s.setVal k v).plumb = s.plumb := rfl
@[simp] theorem setVal_chains (k : Nat) (v : Val) (s : State) : (s.setVal k v).chains = s.chains := rfl
@[simp] theorem setVal_engines (k : Nat) (v : Val) (s : State) : (s.setVal k v).engines = s.engines := rfl
@[simp] theorem setVal_loads (k : Nat) (v : Val) (s : State) : (s.setVal k v).loads = s.loads := rfl
@[simp] theorem setVal_accels (k : Nat) (v : Val) (s : State) : (s.setVal k v).accels = s.accels := rfl
@[simp] theorem setVal_claimedAt (k : Nat) (v : Val) (s : State) : (s.setVal k v).claimedAt = s.claimedAt := rfl
@[simp] theorem setVal_shm (k : Nat) (v : Val) (s : State) : (s.setVal k v).shm = s.shm := rfl
@[simp] theorem setVal_captures (k : Nat) (v : Val) (s : State) : (s.setVal k v).captures = s.captures := rfl
@[simp] theorem setVal_fms (k : Nat) (v : Val) (s : State) : (s.setVal k v).fms = s.fms := rfl
@[simp] theorem setVal_pcm (k : Nat) (v : Val) (s : State) : (s.setVal k v).pcm = s.pcm := rfl
@[simp] theorem setVal_pcmSeq (k : Nat) (v : Val) (s : State) : (s.setVal k v).pcmSeq = s.pcmSeq := rfl
@[simp] theorem setVal_heard (k : Nat) (v : Val) (s : State) : (s.setVal k v).heard = s.heard := rfl
@[simp] theorem setVal_tmc (k : Nat) (v : Val) (s : State) : (s.setVal k v).tmc = s.tmc := rfl
@[simp] theorem setVal_lantern (k : Nat) (v : Val) (s : State) : (s.setVal k v).lantern = s.lantern := rfl
@[simp] theorem setVal_dabs (k : Nat) (v : Val) (s : State) : (s.setVal k v).dabs = s.dabs := rfl
@[simp] theorem setVal_dabDecoders (k : Nat) (v : Val) (s : State) : (s.setVal k v).dabDecoders = s.dabDecoders := rfl
@[simp] theorem setVal_voices (k : Nat) (v : Val) (s : State) : (s.setVal k v).voices = s.voices := rfl
@[simp] theorem setVal_ams (k : Nat) (v : Val) (s : State) : (s.setVal k v).ams = s.ams := rfl
@[simp] theorem setVal_drms (k : Nat) (v : Val) (s : State) : (s.setVal k v).drms = s.drms := rfl
@[simp] theorem setVal_drmSel (k : Nat) (v : Val) (s : State) : (s.setVal k v).drmSel = s.drmSel := rfl
@[simp] theorem setVal_following (k : Nat) (v : Val) (s : State) : (s.setVal k v).following = s.following := rfl
@[simp] theorem setVal_gloaming (k : Nat) (v : Val) (s : State) : (s.setVal k v).gloaming = s.gloaming := rfl
@[simp] theorem setVal_streams (k : Nat) (v : Val) (s : State) : (s.setVal k v).streams = s.streams := rfl
@[simp] theorem setVal_iec (k : Nat) (v : Val) (s : State) : (s.setVal k v).iec = s.iec := rfl
@[simp] theorem setVal_radio (k : Nat) (v : Val) (s : State) : (s.setVal k v).radio = s.radio := rfl
@[simp] theorem setVal_link (k : Nat) (v : Val) (s : State) : (s.setVal k v).link = s.link := rfl
@[simp] theorem setVal_mesh (k : Nat) (v : Val) (s : State) : (s.setVal k v).mesh = s.mesh := rfl
@[simp] theorem setVal_cvs (k : Nat) (v : Val) (s : State) : (s.setVal k v).cvs = s.cvs := rfl
@[simp] theorem setVal_ports (k : Nat) (v : Val) (s : State) : (s.setVal k v).ports = s.ports := rfl
@[simp] theorem setVal_quoin (k : Nat) (v : Val) (s : State) : (s.setVal k v).quoin = s.quoin := rfl
@[simp] theorem setVal_twoWire (k : Nat) (v : Val) (s : State) : (s.setVal k v).twoWire = s.twoWire := rfl
@[simp] theorem setVal_pdos (k : Nat) (v : Val) (s : State) : (s.setVal k v).pdos = s.pdos := rfl
@[simp] theorem setVal_saving (k : Nat) (v : Val) (s : State) : (s.setVal k v).saving = s.saving := rfl

/-! ### setNum -/

@[simp] theorem setNum_pending (k : Nat) (i : Int) (s : State) : (s.setNum k i).pending = s.pending := rfl
@[simp] theorem setNum_mode (k : Nat) (i : Int) (s : State) : (s.setNum k i).mode = s.mode := rfl
@[simp] theorem setNum_ready (k : Nat) (i : Int) (s : State) : (s.setNum k i).ready = s.ready := rfl
@[simp] theorem setNum_gnomon (k : Nat) (i : Int) (s : State) : (s.setNum k i).gnomon = s.gnomon := rfl
@[simp] theorem setNum_freeCtr (k : Nat) (i : Int) (s : State) : (s.setNum k i).freeCtr = s.freeCtr := rfl
@[simp] theorem setNum_committed (k : Nat) (i : Int) (s : State) : (s.setNum k i).committed = s.committed := rfl
@[simp] theorem setNum_awaiting (k : Nat) (i : Int) (s : State) : (s.setNum k i).awaiting = s.awaiting := rfl
@[simp] theorem setNum_held (k : Nat) (i : Int) (s : State) : (s.setNum k i).held = s.held := rfl
@[simp] theorem setNum_fifos (k : Nat) (i : Int) (s : State) : (s.setNum k i).fifos = s.fifos := rfl
@[simp] theorem setNum_events (k : Nat) (i : Int) (s : State) : (s.setNum k i).events = s.events := rfl
@[simp] theorem setNum_answer (k : Nat) (i : Int) (s : State) : (s.setNum k i).answer = s.answer := rfl
@[simp] theorem setNum_answeredPorts (k : Nat) (i : Int) (s : State) : (s.setNum k i).answeredPorts = s.answeredPorts := rfl
@[simp] theorem setNum_launch (k : Nat) (i : Int) (s : State) : (s.setNum k i).launch = s.launch := rfl
@[simp] theorem setNum_prep (k : Nat) (i : Int) (s : State) : (s.setNum k i).prep = s.prep := rfl
@[simp] theorem setNum_holdings (k : Nat) (i : Int) (s : State) : (s.setNum k i).holdings = s.holdings := rfl
@[simp] theorem setNum_shares (k : Nat) (i : Int) (s : State) : (s.setNum k i).shares = s.shares := rfl
@[simp] theorem setNum_accelConfigured (k : Nat) (i : Int) (s : State) : (s.setNum k i).accelConfigured = s.accelConfigured := rfl
@[simp] theorem setNum_accelOwn (k : Nat) (i : Int) (s : State) : (s.setNum k i).accelOwn = s.accelOwn := rfl
@[simp] theorem setNum_utcPrev (k : Nat) (i : Int) (s : State) : (s.setNum k i).utcPrev = s.utcPrev := rfl
@[simp] theorem setNum_tbSync (k : Nat) (i : Int) (s : State) : (s.setNum k i).tbSync = s.tbSync := rfl
@[simp] theorem setNum_otp (k : Nat) (i : Int) (s : State) : (s.setNum k i).otp = s.otp := rfl
@[simp] theorem setNum_flash (k : Nat) (i : Int) (s : State) : (s.setNum k i).flash = s.flash := rfl
@[simp] theorem setNum_sec (k : Nat) (i : Int) (s : State) : (s.setNum k i).sec = s.sec := rfl
@[simp] theorem setNum_log (k : Nat) (i : Int) (s : State) : (s.setNum k i).log = s.log := rfl
@[simp] theorem setNum_upd (k : Nat) (i : Int) (s : State) : (s.setNum k i).upd = s.upd := rfl
@[simp] theorem setNum_gpioFired (k : Nat) (i : Int) (s : State) : (s.setNum k i).gpioFired = s.gpioFired := rfl
@[simp] theorem setNum_power (k : Nat) (i : Int) (s : State) : (s.setNum k i).power = s.power := rfl
@[simp] theorem setNum_paths (k : Nat) (i : Int) (s : State) : (s.setNum k i).paths = s.paths := rfl
@[simp] theorem setNum_amQuietSince (k : Nat) (i : Int) (s : State) : (s.setNum k i).amQuietSince = s.amQuietSince := rfl
@[simp] theorem setNum_antennas (k : Nat) (i : Int) (s : State) : (s.setNum k i).antennas = s.antennas := rfl
@[simp] theorem setNum_plumb (k : Nat) (i : Int) (s : State) : (s.setNum k i).plumb = s.plumb := rfl
@[simp] theorem setNum_chains (k : Nat) (i : Int) (s : State) : (s.setNum k i).chains = s.chains := rfl
@[simp] theorem setNum_engines (k : Nat) (i : Int) (s : State) : (s.setNum k i).engines = s.engines := rfl
@[simp] theorem setNum_loads (k : Nat) (i : Int) (s : State) : (s.setNum k i).loads = s.loads := rfl
@[simp] theorem setNum_accels (k : Nat) (i : Int) (s : State) : (s.setNum k i).accels = s.accels := rfl
@[simp] theorem setNum_claimedAt (k : Nat) (i : Int) (s : State) : (s.setNum k i).claimedAt = s.claimedAt := rfl
@[simp] theorem setNum_shm (k : Nat) (i : Int) (s : State) : (s.setNum k i).shm = s.shm := rfl
@[simp] theorem setNum_captures (k : Nat) (i : Int) (s : State) : (s.setNum k i).captures = s.captures := rfl
@[simp] theorem setNum_fms (k : Nat) (i : Int) (s : State) : (s.setNum k i).fms = s.fms := rfl
@[simp] theorem setNum_pcm (k : Nat) (i : Int) (s : State) : (s.setNum k i).pcm = s.pcm := rfl
@[simp] theorem setNum_pcmSeq (k : Nat) (i : Int) (s : State) : (s.setNum k i).pcmSeq = s.pcmSeq := rfl
@[simp] theorem setNum_heard (k : Nat) (i : Int) (s : State) : (s.setNum k i).heard = s.heard := rfl
@[simp] theorem setNum_tmc (k : Nat) (i : Int) (s : State) : (s.setNum k i).tmc = s.tmc := rfl
@[simp] theorem setNum_lantern (k : Nat) (i : Int) (s : State) : (s.setNum k i).lantern = s.lantern := rfl
@[simp] theorem setNum_dabs (k : Nat) (i : Int) (s : State) : (s.setNum k i).dabs = s.dabs := rfl
@[simp] theorem setNum_dabDecoders (k : Nat) (i : Int) (s : State) : (s.setNum k i).dabDecoders = s.dabDecoders := rfl
@[simp] theorem setNum_voices (k : Nat) (i : Int) (s : State) : (s.setNum k i).voices = s.voices := rfl
@[simp] theorem setNum_ams (k : Nat) (i : Int) (s : State) : (s.setNum k i).ams = s.ams := rfl
@[simp] theorem setNum_drms (k : Nat) (i : Int) (s : State) : (s.setNum k i).drms = s.drms := rfl
@[simp] theorem setNum_drmSel (k : Nat) (i : Int) (s : State) : (s.setNum k i).drmSel = s.drmSel := rfl
@[simp] theorem setNum_following (k : Nat) (i : Int) (s : State) : (s.setNum k i).following = s.following := rfl
@[simp] theorem setNum_gloaming (k : Nat) (i : Int) (s : State) : (s.setNum k i).gloaming = s.gloaming := rfl
@[simp] theorem setNum_streams (k : Nat) (i : Int) (s : State) : (s.setNum k i).streams = s.streams := rfl
@[simp] theorem setNum_iec (k : Nat) (i : Int) (s : State) : (s.setNum k i).iec = s.iec := rfl
@[simp] theorem setNum_radio (k : Nat) (i : Int) (s : State) : (s.setNum k i).radio = s.radio := rfl
@[simp] theorem setNum_link (k : Nat) (i : Int) (s : State) : (s.setNum k i).link = s.link := rfl
@[simp] theorem setNum_mesh (k : Nat) (i : Int) (s : State) : (s.setNum k i).mesh = s.mesh := rfl
@[simp] theorem setNum_cvs (k : Nat) (i : Int) (s : State) : (s.setNum k i).cvs = s.cvs := rfl
@[simp] theorem setNum_ports (k : Nat) (i : Int) (s : State) : (s.setNum k i).ports = s.ports := rfl
@[simp] theorem setNum_quoin (k : Nat) (i : Int) (s : State) : (s.setNum k i).quoin = s.quoin := rfl
@[simp] theorem setNum_twoWire (k : Nat) (i : Int) (s : State) : (s.setNum k i).twoWire = s.twoWire := rfl
@[simp] theorem setNum_pdos (k : Nat) (i : Int) (s : State) : (s.setNum k i).pdos = s.pdos := rfl
@[simp] theorem setNum_saving (k : Nat) (i : Int) (s : State) : (s.setNum k i).saving = s.saving := rfl

/-! ### setNat -/

@[simp] theorem setNat_pending (k n : Nat) (s : State) : (s.setNat k n).pending = s.pending := rfl
@[simp] theorem setNat_mode (k n : Nat) (s : State) : (s.setNat k n).mode = s.mode := rfl
@[simp] theorem setNat_ready (k n : Nat) (s : State) : (s.setNat k n).ready = s.ready := rfl
@[simp] theorem setNat_gnomon (k n : Nat) (s : State) : (s.setNat k n).gnomon = s.gnomon := rfl
@[simp] theorem setNat_freeCtr (k n : Nat) (s : State) : (s.setNat k n).freeCtr = s.freeCtr := rfl
@[simp] theorem setNat_committed (k n : Nat) (s : State) : (s.setNat k n).committed = s.committed := rfl
@[simp] theorem setNat_awaiting (k n : Nat) (s : State) : (s.setNat k n).awaiting = s.awaiting := rfl
@[simp] theorem setNat_held (k n : Nat) (s : State) : (s.setNat k n).held = s.held := rfl
@[simp] theorem setNat_fifos (k n : Nat) (s : State) : (s.setNat k n).fifos = s.fifos := rfl
@[simp] theorem setNat_events (k n : Nat) (s : State) : (s.setNat k n).events = s.events := rfl
@[simp] theorem setNat_answer (k n : Nat) (s : State) : (s.setNat k n).answer = s.answer := rfl
@[simp] theorem setNat_answeredPorts (k n : Nat) (s : State) : (s.setNat k n).answeredPorts = s.answeredPorts := rfl
@[simp] theorem setNat_launch (k n : Nat) (s : State) : (s.setNat k n).launch = s.launch := rfl
@[simp] theorem setNat_prep (k n : Nat) (s : State) : (s.setNat k n).prep = s.prep := rfl
@[simp] theorem setNat_holdings (k n : Nat) (s : State) : (s.setNat k n).holdings = s.holdings := rfl
@[simp] theorem setNat_shares (k n : Nat) (s : State) : (s.setNat k n).shares = s.shares := rfl
@[simp] theorem setNat_accelConfigured (k n : Nat) (s : State) : (s.setNat k n).accelConfigured = s.accelConfigured := rfl
@[simp] theorem setNat_accelOwn (k n : Nat) (s : State) : (s.setNat k n).accelOwn = s.accelOwn := rfl
@[simp] theorem setNat_utcPrev (k n : Nat) (s : State) : (s.setNat k n).utcPrev = s.utcPrev := rfl
@[simp] theorem setNat_tbSync (k n : Nat) (s : State) : (s.setNat k n).tbSync = s.tbSync := rfl
@[simp] theorem setNat_otp (k n : Nat) (s : State) : (s.setNat k n).otp = s.otp := rfl
@[simp] theorem setNat_flash (k n : Nat) (s : State) : (s.setNat k n).flash = s.flash := rfl
@[simp] theorem setNat_sec (k n : Nat) (s : State) : (s.setNat k n).sec = s.sec := rfl
@[simp] theorem setNat_log (k n : Nat) (s : State) : (s.setNat k n).log = s.log := rfl
@[simp] theorem setNat_upd (k n : Nat) (s : State) : (s.setNat k n).upd = s.upd := rfl
@[simp] theorem setNat_gpioFired (k n : Nat) (s : State) : (s.setNat k n).gpioFired = s.gpioFired := rfl
@[simp] theorem setNat_power (k n : Nat) (s : State) : (s.setNat k n).power = s.power := rfl
@[simp] theorem setNat_paths (k n : Nat) (s : State) : (s.setNat k n).paths = s.paths := rfl
@[simp] theorem setNat_amQuietSince (k n : Nat) (s : State) : (s.setNat k n).amQuietSince = s.amQuietSince := rfl
@[simp] theorem setNat_antennas (k n : Nat) (s : State) : (s.setNat k n).antennas = s.antennas := rfl
@[simp] theorem setNat_plumb (k n : Nat) (s : State) : (s.setNat k n).plumb = s.plumb := rfl
@[simp] theorem setNat_chains (k n : Nat) (s : State) : (s.setNat k n).chains = s.chains := rfl
@[simp] theorem setNat_engines (k n : Nat) (s : State) : (s.setNat k n).engines = s.engines := rfl
@[simp] theorem setNat_loads (k n : Nat) (s : State) : (s.setNat k n).loads = s.loads := rfl
@[simp] theorem setNat_accels (k n : Nat) (s : State) : (s.setNat k n).accels = s.accels := rfl
@[simp] theorem setNat_claimedAt (k n : Nat) (s : State) : (s.setNat k n).claimedAt = s.claimedAt := rfl
@[simp] theorem setNat_shm (k n : Nat) (s : State) : (s.setNat k n).shm = s.shm := rfl
@[simp] theorem setNat_captures (k n : Nat) (s : State) : (s.setNat k n).captures = s.captures := rfl
@[simp] theorem setNat_fms (k n : Nat) (s : State) : (s.setNat k n).fms = s.fms := rfl
@[simp] theorem setNat_pcm (k n : Nat) (s : State) : (s.setNat k n).pcm = s.pcm := rfl
@[simp] theorem setNat_pcmSeq (k n : Nat) (s : State) : (s.setNat k n).pcmSeq = s.pcmSeq := rfl
@[simp] theorem setNat_heard (k n : Nat) (s : State) : (s.setNat k n).heard = s.heard := rfl
@[simp] theorem setNat_tmc (k n : Nat) (s : State) : (s.setNat k n).tmc = s.tmc := rfl
@[simp] theorem setNat_lantern (k n : Nat) (s : State) : (s.setNat k n).lantern = s.lantern := rfl
@[simp] theorem setNat_dabs (k n : Nat) (s : State) : (s.setNat k n).dabs = s.dabs := rfl
@[simp] theorem setNat_dabDecoders (k n : Nat) (s : State) : (s.setNat k n).dabDecoders = s.dabDecoders := rfl
@[simp] theorem setNat_voices (k n : Nat) (s : State) : (s.setNat k n).voices = s.voices := rfl
@[simp] theorem setNat_ams (k n : Nat) (s : State) : (s.setNat k n).ams = s.ams := rfl
@[simp] theorem setNat_drms (k n : Nat) (s : State) : (s.setNat k n).drms = s.drms := rfl
@[simp] theorem setNat_drmSel (k n : Nat) (s : State) : (s.setNat k n).drmSel = s.drmSel := rfl
@[simp] theorem setNat_following (k n : Nat) (s : State) : (s.setNat k n).following = s.following := rfl
@[simp] theorem setNat_gloaming (k n : Nat) (s : State) : (s.setNat k n).gloaming = s.gloaming := rfl
@[simp] theorem setNat_streams (k n : Nat) (s : State) : (s.setNat k n).streams = s.streams := rfl
@[simp] theorem setNat_iec (k n : Nat) (s : State) : (s.setNat k n).iec = s.iec := rfl
@[simp] theorem setNat_radio (k n : Nat) (s : State) : (s.setNat k n).radio = s.radio := rfl
@[simp] theorem setNat_link (k n : Nat) (s : State) : (s.setNat k n).link = s.link := rfl
@[simp] theorem setNat_mesh (k n : Nat) (s : State) : (s.setNat k n).mesh = s.mesh := rfl
@[simp] theorem setNat_cvs (k n : Nat) (s : State) : (s.setNat k n).cvs = s.cvs := rfl
@[simp] theorem setNat_ports (k n : Nat) (s : State) : (s.setNat k n).ports = s.ports := rfl
@[simp] theorem setNat_quoin (k n : Nat) (s : State) : (s.setNat k n).quoin = s.quoin := rfl
@[simp] theorem setNat_twoWire (k n : Nat) (s : State) : (s.setNat k n).twoWire = s.twoWire := rfl
@[simp] theorem setNat_pdos (k n : Nat) (s : State) : (s.setNat k n).pdos = s.pdos := rfl
@[simp] theorem setNat_saving (k n : Nat) (s : State) : (s.setNat k n).saving = s.saving := rfl

/-! ### setBytes -/

@[simp] theorem setBytes_pending (k : Nat) (b : Bytes) (s : State) : (s.setBytes k b).pending = s.pending := rfl
@[simp] theorem setBytes_mode (k : Nat) (b : Bytes) (s : State) : (s.setBytes k b).mode = s.mode := rfl
@[simp] theorem setBytes_ready (k : Nat) (b : Bytes) (s : State) : (s.setBytes k b).ready = s.ready := rfl
@[simp] theorem setBytes_gnomon (k : Nat) (b : Bytes) (s : State) : (s.setBytes k b).gnomon = s.gnomon := rfl
@[simp] theorem setBytes_freeCtr (k : Nat) (b : Bytes) (s : State) : (s.setBytes k b).freeCtr = s.freeCtr := rfl
@[simp] theorem setBytes_committed (k : Nat) (b : Bytes) (s : State) : (s.setBytes k b).committed = s.committed := rfl
@[simp] theorem setBytes_awaiting (k : Nat) (b : Bytes) (s : State) : (s.setBytes k b).awaiting = s.awaiting := rfl
@[simp] theorem setBytes_held (k : Nat) (b : Bytes) (s : State) : (s.setBytes k b).held = s.held := rfl
@[simp] theorem setBytes_fifos (k : Nat) (b : Bytes) (s : State) : (s.setBytes k b).fifos = s.fifos := rfl
@[simp] theorem setBytes_events (k : Nat) (b : Bytes) (s : State) : (s.setBytes k b).events = s.events := rfl
@[simp] theorem setBytes_answer (k : Nat) (b : Bytes) (s : State) : (s.setBytes k b).answer = s.answer := rfl
@[simp] theorem setBytes_answeredPorts (k : Nat) (b : Bytes) (s : State) : (s.setBytes k b).answeredPorts = s.answeredPorts := rfl
@[simp] theorem setBytes_launch (k : Nat) (b : Bytes) (s : State) : (s.setBytes k b).launch = s.launch := rfl
@[simp] theorem setBytes_prep (k : Nat) (b : Bytes) (s : State) : (s.setBytes k b).prep = s.prep := rfl
@[simp] theorem setBytes_holdings (k : Nat) (b : Bytes) (s : State) : (s.setBytes k b).holdings = s.holdings := rfl
@[simp] theorem setBytes_shares (k : Nat) (b : Bytes) (s : State) : (s.setBytes k b).shares = s.shares := rfl
@[simp] theorem setBytes_accelConfigured (k : Nat) (b : Bytes) (s : State) : (s.setBytes k b).accelConfigured = s.accelConfigured := rfl
@[simp] theorem setBytes_accelOwn (k : Nat) (b : Bytes) (s : State) : (s.setBytes k b).accelOwn = s.accelOwn := rfl
@[simp] theorem setBytes_utcPrev (k : Nat) (b : Bytes) (s : State) : (s.setBytes k b).utcPrev = s.utcPrev := rfl
@[simp] theorem setBytes_tbSync (k : Nat) (b : Bytes) (s : State) : (s.setBytes k b).tbSync = s.tbSync := rfl
@[simp] theorem setBytes_otp (k : Nat) (b : Bytes) (s : State) : (s.setBytes k b).otp = s.otp := rfl
@[simp] theorem setBytes_flash (k : Nat) (b : Bytes) (s : State) : (s.setBytes k b).flash = s.flash := rfl
@[simp] theorem setBytes_sec (k : Nat) (b : Bytes) (s : State) : (s.setBytes k b).sec = s.sec := rfl
@[simp] theorem setBytes_log (k : Nat) (b : Bytes) (s : State) : (s.setBytes k b).log = s.log := rfl
@[simp] theorem setBytes_upd (k : Nat) (b : Bytes) (s : State) : (s.setBytes k b).upd = s.upd := rfl
@[simp] theorem setBytes_gpioFired (k : Nat) (b : Bytes) (s : State) : (s.setBytes k b).gpioFired = s.gpioFired := rfl
@[simp] theorem setBytes_power (k : Nat) (b : Bytes) (s : State) : (s.setBytes k b).power = s.power := rfl
@[simp] theorem setBytes_paths (k : Nat) (b : Bytes) (s : State) : (s.setBytes k b).paths = s.paths := rfl
@[simp] theorem setBytes_amQuietSince (k : Nat) (b : Bytes) (s : State) : (s.setBytes k b).amQuietSince = s.amQuietSince := rfl
@[simp] theorem setBytes_antennas (k : Nat) (b : Bytes) (s : State) : (s.setBytes k b).antennas = s.antennas := rfl
@[simp] theorem setBytes_plumb (k : Nat) (b : Bytes) (s : State) : (s.setBytes k b).plumb = s.plumb := rfl
@[simp] theorem setBytes_chains (k : Nat) (b : Bytes) (s : State) : (s.setBytes k b).chains = s.chains := rfl
@[simp] theorem setBytes_engines (k : Nat) (b : Bytes) (s : State) : (s.setBytes k b).engines = s.engines := rfl
@[simp] theorem setBytes_loads (k : Nat) (b : Bytes) (s : State) : (s.setBytes k b).loads = s.loads := rfl
@[simp] theorem setBytes_accels (k : Nat) (b : Bytes) (s : State) : (s.setBytes k b).accels = s.accels := rfl
@[simp] theorem setBytes_claimedAt (k : Nat) (b : Bytes) (s : State) : (s.setBytes k b).claimedAt = s.claimedAt := rfl
@[simp] theorem setBytes_shm (k : Nat) (b : Bytes) (s : State) : (s.setBytes k b).shm = s.shm := rfl
@[simp] theorem setBytes_captures (k : Nat) (b : Bytes) (s : State) : (s.setBytes k b).captures = s.captures := rfl
@[simp] theorem setBytes_fms (k : Nat) (b : Bytes) (s : State) : (s.setBytes k b).fms = s.fms := rfl
@[simp] theorem setBytes_pcm (k : Nat) (b : Bytes) (s : State) : (s.setBytes k b).pcm = s.pcm := rfl
@[simp] theorem setBytes_pcmSeq (k : Nat) (b : Bytes) (s : State) : (s.setBytes k b).pcmSeq = s.pcmSeq := rfl
@[simp] theorem setBytes_heard (k : Nat) (b : Bytes) (s : State) : (s.setBytes k b).heard = s.heard := rfl
@[simp] theorem setBytes_tmc (k : Nat) (b : Bytes) (s : State) : (s.setBytes k b).tmc = s.tmc := rfl
@[simp] theorem setBytes_lantern (k : Nat) (b : Bytes) (s : State) : (s.setBytes k b).lantern = s.lantern := rfl
@[simp] theorem setBytes_dabs (k : Nat) (b : Bytes) (s : State) : (s.setBytes k b).dabs = s.dabs := rfl
@[simp] theorem setBytes_dabDecoders (k : Nat) (b : Bytes) (s : State) : (s.setBytes k b).dabDecoders = s.dabDecoders := rfl
@[simp] theorem setBytes_voices (k : Nat) (b : Bytes) (s : State) : (s.setBytes k b).voices = s.voices := rfl
@[simp] theorem setBytes_ams (k : Nat) (b : Bytes) (s : State) : (s.setBytes k b).ams = s.ams := rfl
@[simp] theorem setBytes_drms (k : Nat) (b : Bytes) (s : State) : (s.setBytes k b).drms = s.drms := rfl
@[simp] theorem setBytes_drmSel (k : Nat) (b : Bytes) (s : State) : (s.setBytes k b).drmSel = s.drmSel := rfl
@[simp] theorem setBytes_following (k : Nat) (b : Bytes) (s : State) : (s.setBytes k b).following = s.following := rfl
@[simp] theorem setBytes_gloaming (k : Nat) (b : Bytes) (s : State) : (s.setBytes k b).gloaming = s.gloaming := rfl
@[simp] theorem setBytes_streams (k : Nat) (b : Bytes) (s : State) : (s.setBytes k b).streams = s.streams := rfl
@[simp] theorem setBytes_iec (k : Nat) (b : Bytes) (s : State) : (s.setBytes k b).iec = s.iec := rfl
@[simp] theorem setBytes_radio (k : Nat) (b : Bytes) (s : State) : (s.setBytes k b).radio = s.radio := rfl
@[simp] theorem setBytes_link (k : Nat) (b : Bytes) (s : State) : (s.setBytes k b).link = s.link := rfl
@[simp] theorem setBytes_mesh (k : Nat) (b : Bytes) (s : State) : (s.setBytes k b).mesh = s.mesh := rfl
@[simp] theorem setBytes_cvs (k : Nat) (b : Bytes) (s : State) : (s.setBytes k b).cvs = s.cvs := rfl
@[simp] theorem setBytes_ports (k : Nat) (b : Bytes) (s : State) : (s.setBytes k b).ports = s.ports := rfl
@[simp] theorem setBytes_quoin (k : Nat) (b : Bytes) (s : State) : (s.setBytes k b).quoin = s.quoin := rfl
@[simp] theorem setBytes_twoWire (k : Nat) (b : Bytes) (s : State) : (s.setBytes k b).twoWire = s.twoWire := rfl
@[simp] theorem setBytes_pdos (k : Nat) (b : Bytes) (s : State) : (s.setBytes k b).pdos = s.pdos := rfl
@[simp] theorem setBytes_saving (k : Nat) (b : Bytes) (s : State) : (s.setBytes k b).saving = s.saving := rfl

/-! ### bumpBy -/

@[simp] theorem bumpBy_pending (k n : Nat) (s : State) : (s.bumpBy k n).pending = s.pending := rfl
@[simp] theorem bumpBy_mode (k n : Nat) (s : State) : (s.bumpBy k n).mode = s.mode := rfl
@[simp] theorem bumpBy_ready (k n : Nat) (s : State) : (s.bumpBy k n).ready = s.ready := rfl
@[simp] theorem bumpBy_gnomon (k n : Nat) (s : State) : (s.bumpBy k n).gnomon = s.gnomon := rfl
@[simp] theorem bumpBy_freeCtr (k n : Nat) (s : State) : (s.bumpBy k n).freeCtr = s.freeCtr := rfl
@[simp] theorem bumpBy_committed (k n : Nat) (s : State) : (s.bumpBy k n).committed = s.committed := rfl
@[simp] theorem bumpBy_awaiting (k n : Nat) (s : State) : (s.bumpBy k n).awaiting = s.awaiting := rfl
@[simp] theorem bumpBy_held (k n : Nat) (s : State) : (s.bumpBy k n).held = s.held := rfl
@[simp] theorem bumpBy_fifos (k n : Nat) (s : State) : (s.bumpBy k n).fifos = s.fifos := rfl
@[simp] theorem bumpBy_events (k n : Nat) (s : State) : (s.bumpBy k n).events = s.events := rfl
@[simp] theorem bumpBy_answer (k n : Nat) (s : State) : (s.bumpBy k n).answer = s.answer := rfl
@[simp] theorem bumpBy_answeredPorts (k n : Nat) (s : State) : (s.bumpBy k n).answeredPorts = s.answeredPorts := rfl
@[simp] theorem bumpBy_launch (k n : Nat) (s : State) : (s.bumpBy k n).launch = s.launch := rfl
@[simp] theorem bumpBy_prep (k n : Nat) (s : State) : (s.bumpBy k n).prep = s.prep := rfl
@[simp] theorem bumpBy_holdings (k n : Nat) (s : State) : (s.bumpBy k n).holdings = s.holdings := rfl
@[simp] theorem bumpBy_shares (k n : Nat) (s : State) : (s.bumpBy k n).shares = s.shares := rfl
@[simp] theorem bumpBy_accelConfigured (k n : Nat) (s : State) : (s.bumpBy k n).accelConfigured = s.accelConfigured := rfl
@[simp] theorem bumpBy_accelOwn (k n : Nat) (s : State) : (s.bumpBy k n).accelOwn = s.accelOwn := rfl
@[simp] theorem bumpBy_utcPrev (k n : Nat) (s : State) : (s.bumpBy k n).utcPrev = s.utcPrev := rfl
@[simp] theorem bumpBy_tbSync (k n : Nat) (s : State) : (s.bumpBy k n).tbSync = s.tbSync := rfl
@[simp] theorem bumpBy_otp (k n : Nat) (s : State) : (s.bumpBy k n).otp = s.otp := rfl
@[simp] theorem bumpBy_flash (k n : Nat) (s : State) : (s.bumpBy k n).flash = s.flash := rfl
@[simp] theorem bumpBy_sec (k n : Nat) (s : State) : (s.bumpBy k n).sec = s.sec := rfl
@[simp] theorem bumpBy_log (k n : Nat) (s : State) : (s.bumpBy k n).log = s.log := rfl
@[simp] theorem bumpBy_upd (k n : Nat) (s : State) : (s.bumpBy k n).upd = s.upd := rfl
@[simp] theorem bumpBy_gpioFired (k n : Nat) (s : State) : (s.bumpBy k n).gpioFired = s.gpioFired := rfl
@[simp] theorem bumpBy_power (k n : Nat) (s : State) : (s.bumpBy k n).power = s.power := rfl
@[simp] theorem bumpBy_paths (k n : Nat) (s : State) : (s.bumpBy k n).paths = s.paths := rfl
@[simp] theorem bumpBy_amQuietSince (k n : Nat) (s : State) : (s.bumpBy k n).amQuietSince = s.amQuietSince := rfl
@[simp] theorem bumpBy_antennas (k n : Nat) (s : State) : (s.bumpBy k n).antennas = s.antennas := rfl
@[simp] theorem bumpBy_plumb (k n : Nat) (s : State) : (s.bumpBy k n).plumb = s.plumb := rfl
@[simp] theorem bumpBy_chains (k n : Nat) (s : State) : (s.bumpBy k n).chains = s.chains := rfl
@[simp] theorem bumpBy_engines (k n : Nat) (s : State) : (s.bumpBy k n).engines = s.engines := rfl
@[simp] theorem bumpBy_loads (k n : Nat) (s : State) : (s.bumpBy k n).loads = s.loads := rfl
@[simp] theorem bumpBy_accels (k n : Nat) (s : State) : (s.bumpBy k n).accels = s.accels := rfl
@[simp] theorem bumpBy_claimedAt (k n : Nat) (s : State) : (s.bumpBy k n).claimedAt = s.claimedAt := rfl
@[simp] theorem bumpBy_shm (k n : Nat) (s : State) : (s.bumpBy k n).shm = s.shm := rfl
@[simp] theorem bumpBy_captures (k n : Nat) (s : State) : (s.bumpBy k n).captures = s.captures := rfl
@[simp] theorem bumpBy_fms (k n : Nat) (s : State) : (s.bumpBy k n).fms = s.fms := rfl
@[simp] theorem bumpBy_pcm (k n : Nat) (s : State) : (s.bumpBy k n).pcm = s.pcm := rfl
@[simp] theorem bumpBy_pcmSeq (k n : Nat) (s : State) : (s.bumpBy k n).pcmSeq = s.pcmSeq := rfl
@[simp] theorem bumpBy_heard (k n : Nat) (s : State) : (s.bumpBy k n).heard = s.heard := rfl
@[simp] theorem bumpBy_tmc (k n : Nat) (s : State) : (s.bumpBy k n).tmc = s.tmc := rfl
@[simp] theorem bumpBy_lantern (k n : Nat) (s : State) : (s.bumpBy k n).lantern = s.lantern := rfl
@[simp] theorem bumpBy_dabs (k n : Nat) (s : State) : (s.bumpBy k n).dabs = s.dabs := rfl
@[simp] theorem bumpBy_dabDecoders (k n : Nat) (s : State) : (s.bumpBy k n).dabDecoders = s.dabDecoders := rfl
@[simp] theorem bumpBy_voices (k n : Nat) (s : State) : (s.bumpBy k n).voices = s.voices := rfl
@[simp] theorem bumpBy_ams (k n : Nat) (s : State) : (s.bumpBy k n).ams = s.ams := rfl
@[simp] theorem bumpBy_drms (k n : Nat) (s : State) : (s.bumpBy k n).drms = s.drms := rfl
@[simp] theorem bumpBy_drmSel (k n : Nat) (s : State) : (s.bumpBy k n).drmSel = s.drmSel := rfl
@[simp] theorem bumpBy_following (k n : Nat) (s : State) : (s.bumpBy k n).following = s.following := rfl
@[simp] theorem bumpBy_gloaming (k n : Nat) (s : State) : (s.bumpBy k n).gloaming = s.gloaming := rfl
@[simp] theorem bumpBy_streams (k n : Nat) (s : State) : (s.bumpBy k n).streams = s.streams := rfl
@[simp] theorem bumpBy_iec (k n : Nat) (s : State) : (s.bumpBy k n).iec = s.iec := rfl
@[simp] theorem bumpBy_radio (k n : Nat) (s : State) : (s.bumpBy k n).radio = s.radio := rfl
@[simp] theorem bumpBy_link (k n : Nat) (s : State) : (s.bumpBy k n).link = s.link := rfl
@[simp] theorem bumpBy_mesh (k n : Nat) (s : State) : (s.bumpBy k n).mesh = s.mesh := rfl
@[simp] theorem bumpBy_cvs (k n : Nat) (s : State) : (s.bumpBy k n).cvs = s.cvs := rfl
@[simp] theorem bumpBy_ports (k n : Nat) (s : State) : (s.bumpBy k n).ports = s.ports := rfl
@[simp] theorem bumpBy_quoin (k n : Nat) (s : State) : (s.bumpBy k n).quoin = s.quoin := rfl
@[simp] theorem bumpBy_twoWire (k n : Nat) (s : State) : (s.bumpBy k n).twoWire = s.twoWire := rfl
@[simp] theorem bumpBy_pdos (k n : Nat) (s : State) : (s.bumpBy k n).pdos = s.pdos := rfl
@[simp] theorem bumpBy_saving (k n : Nat) (s : State) : (s.bumpBy k n).saving = s.saving := rfl

/-! ### bump -/

@[simp] theorem bump_pending (k : Nat) (s : State) : (s.bump k).pending = s.pending := rfl
@[simp] theorem bump_mode (k : Nat) (s : State) : (s.bump k).mode = s.mode := rfl
@[simp] theorem bump_ready (k : Nat) (s : State) : (s.bump k).ready = s.ready := rfl
@[simp] theorem bump_gnomon (k : Nat) (s : State) : (s.bump k).gnomon = s.gnomon := rfl
@[simp] theorem bump_freeCtr (k : Nat) (s : State) : (s.bump k).freeCtr = s.freeCtr := rfl
@[simp] theorem bump_committed (k : Nat) (s : State) : (s.bump k).committed = s.committed := rfl
@[simp] theorem bump_awaiting (k : Nat) (s : State) : (s.bump k).awaiting = s.awaiting := rfl
@[simp] theorem bump_held (k : Nat) (s : State) : (s.bump k).held = s.held := rfl
@[simp] theorem bump_fifos (k : Nat) (s : State) : (s.bump k).fifos = s.fifos := rfl
@[simp] theorem bump_events (k : Nat) (s : State) : (s.bump k).events = s.events := rfl
@[simp] theorem bump_answer (k : Nat) (s : State) : (s.bump k).answer = s.answer := rfl
@[simp] theorem bump_answeredPorts (k : Nat) (s : State) : (s.bump k).answeredPorts = s.answeredPorts := rfl
@[simp] theorem bump_launch (k : Nat) (s : State) : (s.bump k).launch = s.launch := rfl
@[simp] theorem bump_prep (k : Nat) (s : State) : (s.bump k).prep = s.prep := rfl
@[simp] theorem bump_holdings (k : Nat) (s : State) : (s.bump k).holdings = s.holdings := rfl
@[simp] theorem bump_shares (k : Nat) (s : State) : (s.bump k).shares = s.shares := rfl
@[simp] theorem bump_accelConfigured (k : Nat) (s : State) : (s.bump k).accelConfigured = s.accelConfigured := rfl
@[simp] theorem bump_accelOwn (k : Nat) (s : State) : (s.bump k).accelOwn = s.accelOwn := rfl
@[simp] theorem bump_utcPrev (k : Nat) (s : State) : (s.bump k).utcPrev = s.utcPrev := rfl
@[simp] theorem bump_tbSync (k : Nat) (s : State) : (s.bump k).tbSync = s.tbSync := rfl
@[simp] theorem bump_otp (k : Nat) (s : State) : (s.bump k).otp = s.otp := rfl
@[simp] theorem bump_flash (k : Nat) (s : State) : (s.bump k).flash = s.flash := rfl
@[simp] theorem bump_sec (k : Nat) (s : State) : (s.bump k).sec = s.sec := rfl
@[simp] theorem bump_log (k : Nat) (s : State) : (s.bump k).log = s.log := rfl
@[simp] theorem bump_upd (k : Nat) (s : State) : (s.bump k).upd = s.upd := rfl
@[simp] theorem bump_gpioFired (k : Nat) (s : State) : (s.bump k).gpioFired = s.gpioFired := rfl
@[simp] theorem bump_power (k : Nat) (s : State) : (s.bump k).power = s.power := rfl
@[simp] theorem bump_paths (k : Nat) (s : State) : (s.bump k).paths = s.paths := rfl
@[simp] theorem bump_amQuietSince (k : Nat) (s : State) : (s.bump k).amQuietSince = s.amQuietSince := rfl
@[simp] theorem bump_antennas (k : Nat) (s : State) : (s.bump k).antennas = s.antennas := rfl
@[simp] theorem bump_plumb (k : Nat) (s : State) : (s.bump k).plumb = s.plumb := rfl
@[simp] theorem bump_chains (k : Nat) (s : State) : (s.bump k).chains = s.chains := rfl
@[simp] theorem bump_engines (k : Nat) (s : State) : (s.bump k).engines = s.engines := rfl
@[simp] theorem bump_loads (k : Nat) (s : State) : (s.bump k).loads = s.loads := rfl
@[simp] theorem bump_accels (k : Nat) (s : State) : (s.bump k).accels = s.accels := rfl
@[simp] theorem bump_claimedAt (k : Nat) (s : State) : (s.bump k).claimedAt = s.claimedAt := rfl
@[simp] theorem bump_shm (k : Nat) (s : State) : (s.bump k).shm = s.shm := rfl
@[simp] theorem bump_captures (k : Nat) (s : State) : (s.bump k).captures = s.captures := rfl
@[simp] theorem bump_fms (k : Nat) (s : State) : (s.bump k).fms = s.fms := rfl
@[simp] theorem bump_pcm (k : Nat) (s : State) : (s.bump k).pcm = s.pcm := rfl
@[simp] theorem bump_pcmSeq (k : Nat) (s : State) : (s.bump k).pcmSeq = s.pcmSeq := rfl
@[simp] theorem bump_heard (k : Nat) (s : State) : (s.bump k).heard = s.heard := rfl
@[simp] theorem bump_tmc (k : Nat) (s : State) : (s.bump k).tmc = s.tmc := rfl
@[simp] theorem bump_lantern (k : Nat) (s : State) : (s.bump k).lantern = s.lantern := rfl
@[simp] theorem bump_dabs (k : Nat) (s : State) : (s.bump k).dabs = s.dabs := rfl
@[simp] theorem bump_dabDecoders (k : Nat) (s : State) : (s.bump k).dabDecoders = s.dabDecoders := rfl
@[simp] theorem bump_voices (k : Nat) (s : State) : (s.bump k).voices = s.voices := rfl
@[simp] theorem bump_ams (k : Nat) (s : State) : (s.bump k).ams = s.ams := rfl
@[simp] theorem bump_drms (k : Nat) (s : State) : (s.bump k).drms = s.drms := rfl
@[simp] theorem bump_drmSel (k : Nat) (s : State) : (s.bump k).drmSel = s.drmSel := rfl
@[simp] theorem bump_following (k : Nat) (s : State) : (s.bump k).following = s.following := rfl
@[simp] theorem bump_gloaming (k : Nat) (s : State) : (s.bump k).gloaming = s.gloaming := rfl
@[simp] theorem bump_streams (k : Nat) (s : State) : (s.bump k).streams = s.streams := rfl
@[simp] theorem bump_iec (k : Nat) (s : State) : (s.bump k).iec = s.iec := rfl
@[simp] theorem bump_radio (k : Nat) (s : State) : (s.bump k).radio = s.radio := rfl
@[simp] theorem bump_link (k : Nat) (s : State) : (s.bump k).link = s.link := rfl
@[simp] theorem bump_mesh (k : Nat) (s : State) : (s.bump k).mesh = s.mesh := rfl
@[simp] theorem bump_cvs (k : Nat) (s : State) : (s.bump k).cvs = s.cvs := rfl
@[simp] theorem bump_ports (k : Nat) (s : State) : (s.bump k).ports = s.ports := rfl
@[simp] theorem bump_quoin (k : Nat) (s : State) : (s.bump k).quoin = s.quoin := rfl
@[simp] theorem bump_twoWire (k : Nat) (s : State) : (s.bump k).twoWire = s.twoWire := rfl
@[simp] theorem bump_pdos (k : Nat) (s : State) : (s.bump k).pdos = s.pdos := rfl
@[simp] theorem bump_saving (k : Nat) (s : State) : (s.bump k).saving = s.saving := rfl

/-! ### bump16 -/

@[simp] theorem bump16_pending (k : Nat) (s : State) : (s.bump16 k).pending = s.pending := rfl
@[simp] theorem bump16_mode (k : Nat) (s : State) : (s.bump16 k).mode = s.mode := rfl
@[simp] theorem bump16_ready (k : Nat) (s : State) : (s.bump16 k).ready = s.ready := rfl
@[simp] theorem bump16_gnomon (k : Nat) (s : State) : (s.bump16 k).gnomon = s.gnomon := rfl
@[simp] theorem bump16_freeCtr (k : Nat) (s : State) : (s.bump16 k).freeCtr = s.freeCtr := rfl
@[simp] theorem bump16_committed (k : Nat) (s : State) : (s.bump16 k).committed = s.committed := rfl
@[simp] theorem bump16_awaiting (k : Nat) (s : State) : (s.bump16 k).awaiting = s.awaiting := rfl
@[simp] theorem bump16_held (k : Nat) (s : State) : (s.bump16 k).held = s.held := rfl
@[simp] theorem bump16_fifos (k : Nat) (s : State) : (s.bump16 k).fifos = s.fifos := rfl
@[simp] theorem bump16_events (k : Nat) (s : State) : (s.bump16 k).events = s.events := rfl
@[simp] theorem bump16_answer (k : Nat) (s : State) : (s.bump16 k).answer = s.answer := rfl
@[simp] theorem bump16_answeredPorts (k : Nat) (s : State) : (s.bump16 k).answeredPorts = s.answeredPorts := rfl
@[simp] theorem bump16_launch (k : Nat) (s : State) : (s.bump16 k).launch = s.launch := rfl
@[simp] theorem bump16_prep (k : Nat) (s : State) : (s.bump16 k).prep = s.prep := rfl
@[simp] theorem bump16_holdings (k : Nat) (s : State) : (s.bump16 k).holdings = s.holdings := rfl
@[simp] theorem bump16_shares (k : Nat) (s : State) : (s.bump16 k).shares = s.shares := rfl
@[simp] theorem bump16_accelConfigured (k : Nat) (s : State) : (s.bump16 k).accelConfigured = s.accelConfigured := rfl
@[simp] theorem bump16_accelOwn (k : Nat) (s : State) : (s.bump16 k).accelOwn = s.accelOwn := rfl
@[simp] theorem bump16_utcPrev (k : Nat) (s : State) : (s.bump16 k).utcPrev = s.utcPrev := rfl
@[simp] theorem bump16_tbSync (k : Nat) (s : State) : (s.bump16 k).tbSync = s.tbSync := rfl
@[simp] theorem bump16_otp (k : Nat) (s : State) : (s.bump16 k).otp = s.otp := rfl
@[simp] theorem bump16_flash (k : Nat) (s : State) : (s.bump16 k).flash = s.flash := rfl
@[simp] theorem bump16_sec (k : Nat) (s : State) : (s.bump16 k).sec = s.sec := rfl
@[simp] theorem bump16_log (k : Nat) (s : State) : (s.bump16 k).log = s.log := rfl
@[simp] theorem bump16_upd (k : Nat) (s : State) : (s.bump16 k).upd = s.upd := rfl
@[simp] theorem bump16_gpioFired (k : Nat) (s : State) : (s.bump16 k).gpioFired = s.gpioFired := rfl
@[simp] theorem bump16_power (k : Nat) (s : State) : (s.bump16 k).power = s.power := rfl
@[simp] theorem bump16_paths (k : Nat) (s : State) : (s.bump16 k).paths = s.paths := rfl
@[simp] theorem bump16_amQuietSince (k : Nat) (s : State) : (s.bump16 k).amQuietSince = s.amQuietSince := rfl
@[simp] theorem bump16_antennas (k : Nat) (s : State) : (s.bump16 k).antennas = s.antennas := rfl
@[simp] theorem bump16_plumb (k : Nat) (s : State) : (s.bump16 k).plumb = s.plumb := rfl
@[simp] theorem bump16_chains (k : Nat) (s : State) : (s.bump16 k).chains = s.chains := rfl
@[simp] theorem bump16_engines (k : Nat) (s : State) : (s.bump16 k).engines = s.engines := rfl
@[simp] theorem bump16_loads (k : Nat) (s : State) : (s.bump16 k).loads = s.loads := rfl
@[simp] theorem bump16_accels (k : Nat) (s : State) : (s.bump16 k).accels = s.accels := rfl
@[simp] theorem bump16_claimedAt (k : Nat) (s : State) : (s.bump16 k).claimedAt = s.claimedAt := rfl
@[simp] theorem bump16_shm (k : Nat) (s : State) : (s.bump16 k).shm = s.shm := rfl
@[simp] theorem bump16_captures (k : Nat) (s : State) : (s.bump16 k).captures = s.captures := rfl
@[simp] theorem bump16_fms (k : Nat) (s : State) : (s.bump16 k).fms = s.fms := rfl
@[simp] theorem bump16_pcm (k : Nat) (s : State) : (s.bump16 k).pcm = s.pcm := rfl
@[simp] theorem bump16_pcmSeq (k : Nat) (s : State) : (s.bump16 k).pcmSeq = s.pcmSeq := rfl
@[simp] theorem bump16_heard (k : Nat) (s : State) : (s.bump16 k).heard = s.heard := rfl
@[simp] theorem bump16_tmc (k : Nat) (s : State) : (s.bump16 k).tmc = s.tmc := rfl
@[simp] theorem bump16_lantern (k : Nat) (s : State) : (s.bump16 k).lantern = s.lantern := rfl
@[simp] theorem bump16_dabs (k : Nat) (s : State) : (s.bump16 k).dabs = s.dabs := rfl
@[simp] theorem bump16_dabDecoders (k : Nat) (s : State) : (s.bump16 k).dabDecoders = s.dabDecoders := rfl
@[simp] theorem bump16_voices (k : Nat) (s : State) : (s.bump16 k).voices = s.voices := rfl
@[simp] theorem bump16_ams (k : Nat) (s : State) : (s.bump16 k).ams = s.ams := rfl
@[simp] theorem bump16_drms (k : Nat) (s : State) : (s.bump16 k).drms = s.drms := rfl
@[simp] theorem bump16_drmSel (k : Nat) (s : State) : (s.bump16 k).drmSel = s.drmSel := rfl
@[simp] theorem bump16_following (k : Nat) (s : State) : (s.bump16 k).following = s.following := rfl
@[simp] theorem bump16_gloaming (k : Nat) (s : State) : (s.bump16 k).gloaming = s.gloaming := rfl
@[simp] theorem bump16_streams (k : Nat) (s : State) : (s.bump16 k).streams = s.streams := rfl
@[simp] theorem bump16_iec (k : Nat) (s : State) : (s.bump16 k).iec = s.iec := rfl
@[simp] theorem bump16_radio (k : Nat) (s : State) : (s.bump16 k).radio = s.radio := rfl
@[simp] theorem bump16_link (k : Nat) (s : State) : (s.bump16 k).link = s.link := rfl
@[simp] theorem bump16_mesh (k : Nat) (s : State) : (s.bump16 k).mesh = s.mesh := rfl
@[simp] theorem bump16_cvs (k : Nat) (s : State) : (s.bump16 k).cvs = s.cvs := rfl
@[simp] theorem bump16_ports (k : Nat) (s : State) : (s.bump16 k).ports = s.ports := rfl
@[simp] theorem bump16_quoin (k : Nat) (s : State) : (s.bump16 k).quoin = s.quoin := rfl
@[simp] theorem bump16_twoWire (k : Nat) (s : State) : (s.bump16 k).twoWire = s.twoWire := rfl
@[simp] theorem bump16_pdos (k : Nat) (s : State) : (s.bump16 k).pdos = s.pdos := rfl
@[simp] theorem bump16_saving (k : Nat) (s : State) : (s.bump16 k).saving = s.saving := rfl

/-! ### setCommitted -/

@[simp] theorem setCommitted_pending (k : Nat) (v : Val) (s : State) : (s.setCommitted k v).pending = s.pending := rfl
@[simp] theorem setCommitted_mode (k : Nat) (v : Val) (s : State) : (s.setCommitted k v).mode = s.mode := rfl
@[simp] theorem setCommitted_ready (k : Nat) (v : Val) (s : State) : (s.setCommitted k v).ready = s.ready := rfl
@[simp] theorem setCommitted_gnomon (k : Nat) (v : Val) (s : State) : (s.setCommitted k v).gnomon = s.gnomon := rfl
@[simp] theorem setCommitted_freeCtr (k : Nat) (v : Val) (s : State) : (s.setCommitted k v).freeCtr = s.freeCtr := rfl
@[simp] theorem setCommitted_dict (k : Nat) (v : Val) (s : State) : (s.setCommitted k v).dict = s.dict := rfl
@[simp] theorem setCommitted_awaiting (k : Nat) (v : Val) (s : State) : (s.setCommitted k v).awaiting = s.awaiting := rfl
@[simp] theorem setCommitted_held (k : Nat) (v : Val) (s : State) : (s.setCommitted k v).held = s.held := rfl
@[simp] theorem setCommitted_fifos (k : Nat) (v : Val) (s : State) : (s.setCommitted k v).fifos = s.fifos := rfl
@[simp] theorem setCommitted_events (k : Nat) (v : Val) (s : State) : (s.setCommitted k v).events = s.events := rfl
@[simp] theorem setCommitted_answer (k : Nat) (v : Val) (s : State) : (s.setCommitted k v).answer = s.answer := rfl
@[simp] theorem setCommitted_answeredPorts (k : Nat) (v : Val) (s : State) : (s.setCommitted k v).answeredPorts = s.answeredPorts := rfl
@[simp] theorem setCommitted_launch (k : Nat) (v : Val) (s : State) : (s.setCommitted k v).launch = s.launch := rfl
@[simp] theorem setCommitted_prep (k : Nat) (v : Val) (s : State) : (s.setCommitted k v).prep = s.prep := rfl
@[simp] theorem setCommitted_holdings (k : Nat) (v : Val) (s : State) : (s.setCommitted k v).holdings = s.holdings := rfl
@[simp] theorem setCommitted_shares (k : Nat) (v : Val) (s : State) : (s.setCommitted k v).shares = s.shares := rfl
@[simp] theorem setCommitted_accelConfigured (k : Nat) (v : Val) (s : State) : (s.setCommitted k v).accelConfigured = s.accelConfigured := rfl
@[simp] theorem setCommitted_accelOwn (k : Nat) (v : Val) (s : State) : (s.setCommitted k v).accelOwn = s.accelOwn := rfl
@[simp] theorem setCommitted_utcPrev (k : Nat) (v : Val) (s : State) : (s.setCommitted k v).utcPrev = s.utcPrev := rfl
@[simp] theorem setCommitted_tbSync (k : Nat) (v : Val) (s : State) : (s.setCommitted k v).tbSync = s.tbSync := rfl
@[simp] theorem setCommitted_otp (k : Nat) (v : Val) (s : State) : (s.setCommitted k v).otp = s.otp := rfl
@[simp] theorem setCommitted_flash (k : Nat) (v : Val) (s : State) : (s.setCommitted k v).flash = s.flash := rfl
@[simp] theorem setCommitted_sec (k : Nat) (v : Val) (s : State) : (s.setCommitted k v).sec = s.sec := rfl
@[simp] theorem setCommitted_log (k : Nat) (v : Val) (s : State) : (s.setCommitted k v).log = s.log := rfl
@[simp] theorem setCommitted_upd (k : Nat) (v : Val) (s : State) : (s.setCommitted k v).upd = s.upd := rfl
@[simp] theorem setCommitted_gpioFired (k : Nat) (v : Val) (s : State) : (s.setCommitted k v).gpioFired = s.gpioFired := rfl
@[simp] theorem setCommitted_power (k : Nat) (v : Val) (s : State) : (s.setCommitted k v).power = s.power := rfl
@[simp] theorem setCommitted_paths (k : Nat) (v : Val) (s : State) : (s.setCommitted k v).paths = s.paths := rfl
@[simp] theorem setCommitted_amQuietSince (k : Nat) (v : Val) (s : State) : (s.setCommitted k v).amQuietSince = s.amQuietSince := rfl
@[simp] theorem setCommitted_antennas (k : Nat) (v : Val) (s : State) : (s.setCommitted k v).antennas = s.antennas := rfl
@[simp] theorem setCommitted_plumb (k : Nat) (v : Val) (s : State) : (s.setCommitted k v).plumb = s.plumb := rfl
@[simp] theorem setCommitted_chains (k : Nat) (v : Val) (s : State) : (s.setCommitted k v).chains = s.chains := rfl
@[simp] theorem setCommitted_engines (k : Nat) (v : Val) (s : State) : (s.setCommitted k v).engines = s.engines := rfl
@[simp] theorem setCommitted_loads (k : Nat) (v : Val) (s : State) : (s.setCommitted k v).loads = s.loads := rfl
@[simp] theorem setCommitted_accels (k : Nat) (v : Val) (s : State) : (s.setCommitted k v).accels = s.accels := rfl
@[simp] theorem setCommitted_claimedAt (k : Nat) (v : Val) (s : State) : (s.setCommitted k v).claimedAt = s.claimedAt := rfl
@[simp] theorem setCommitted_shm (k : Nat) (v : Val) (s : State) : (s.setCommitted k v).shm = s.shm := rfl
@[simp] theorem setCommitted_captures (k : Nat) (v : Val) (s : State) : (s.setCommitted k v).captures = s.captures := rfl
@[simp] theorem setCommitted_fms (k : Nat) (v : Val) (s : State) : (s.setCommitted k v).fms = s.fms := rfl
@[simp] theorem setCommitted_pcm (k : Nat) (v : Val) (s : State) : (s.setCommitted k v).pcm = s.pcm := rfl
@[simp] theorem setCommitted_pcmSeq (k : Nat) (v : Val) (s : State) : (s.setCommitted k v).pcmSeq = s.pcmSeq := rfl
@[simp] theorem setCommitted_heard (k : Nat) (v : Val) (s : State) : (s.setCommitted k v).heard = s.heard := rfl
@[simp] theorem setCommitted_tmc (k : Nat) (v : Val) (s : State) : (s.setCommitted k v).tmc = s.tmc := rfl
@[simp] theorem setCommitted_lantern (k : Nat) (v : Val) (s : State) : (s.setCommitted k v).lantern = s.lantern := rfl
@[simp] theorem setCommitted_dabs (k : Nat) (v : Val) (s : State) : (s.setCommitted k v).dabs = s.dabs := rfl
@[simp] theorem setCommitted_dabDecoders (k : Nat) (v : Val) (s : State) : (s.setCommitted k v).dabDecoders = s.dabDecoders := rfl
@[simp] theorem setCommitted_voices (k : Nat) (v : Val) (s : State) : (s.setCommitted k v).voices = s.voices := rfl
@[simp] theorem setCommitted_ams (k : Nat) (v : Val) (s : State) : (s.setCommitted k v).ams = s.ams := rfl
@[simp] theorem setCommitted_drms (k : Nat) (v : Val) (s : State) : (s.setCommitted k v).drms = s.drms := rfl
@[simp] theorem setCommitted_drmSel (k : Nat) (v : Val) (s : State) : (s.setCommitted k v).drmSel = s.drmSel := rfl
@[simp] theorem setCommitted_following (k : Nat) (v : Val) (s : State) : (s.setCommitted k v).following = s.following := rfl
@[simp] theorem setCommitted_gloaming (k : Nat) (v : Val) (s : State) : (s.setCommitted k v).gloaming = s.gloaming := rfl
@[simp] theorem setCommitted_streams (k : Nat) (v : Val) (s : State) : (s.setCommitted k v).streams = s.streams := rfl
@[simp] theorem setCommitted_iec (k : Nat) (v : Val) (s : State) : (s.setCommitted k v).iec = s.iec := rfl
@[simp] theorem setCommitted_radio (k : Nat) (v : Val) (s : State) : (s.setCommitted k v).radio = s.radio := rfl
@[simp] theorem setCommitted_link (k : Nat) (v : Val) (s : State) : (s.setCommitted k v).link = s.link := rfl
@[simp] theorem setCommitted_mesh (k : Nat) (v : Val) (s : State) : (s.setCommitted k v).mesh = s.mesh := rfl
@[simp] theorem setCommitted_cvs (k : Nat) (v : Val) (s : State) : (s.setCommitted k v).cvs = s.cvs := rfl
@[simp] theorem setCommitted_ports (k : Nat) (v : Val) (s : State) : (s.setCommitted k v).ports = s.ports := rfl
@[simp] theorem setCommitted_quoin (k : Nat) (v : Val) (s : State) : (s.setCommitted k v).quoin = s.quoin := rfl
@[simp] theorem setCommitted_twoWire (k : Nat) (v : Val) (s : State) : (s.setCommitted k v).twoWire = s.twoWire := rfl
@[simp] theorem setCommitted_pdos (k : Nat) (v : Val) (s : State) : (s.setCommitted k v).pdos = s.pdos := rfl
@[simp] theorem setCommitted_saving (k : Nat) (v : Val) (s : State) : (s.setCommitted k v).saving = s.saving := rfl

/-! ### await -/

@[simp] theorem await_pending (k : Nat) (s : State) : (s.await k).pending = s.pending := rfl
@[simp] theorem await_mode (k : Nat) (s : State) : (s.await k).mode = s.mode := rfl
@[simp] theorem await_ready (k : Nat) (s : State) : (s.await k).ready = s.ready := rfl
@[simp] theorem await_gnomon (k : Nat) (s : State) : (s.await k).gnomon = s.gnomon := rfl
@[simp] theorem await_freeCtr (k : Nat) (s : State) : (s.await k).freeCtr = s.freeCtr := rfl
@[simp] theorem await_dict (k : Nat) (s : State) : (s.await k).dict = s.dict := rfl
@[simp] theorem await_committed (k : Nat) (s : State) : (s.await k).committed = s.committed := rfl
@[simp] theorem await_held (k : Nat) (s : State) : (s.await k).held = s.held := rfl
@[simp] theorem await_fifos (k : Nat) (s : State) : (s.await k).fifos = s.fifos := rfl
@[simp] theorem await_events (k : Nat) (s : State) : (s.await k).events = s.events := rfl
@[simp] theorem await_answer (k : Nat) (s : State) : (s.await k).answer = s.answer := rfl
@[simp] theorem await_answeredPorts (k : Nat) (s : State) : (s.await k).answeredPorts = s.answeredPorts := rfl
@[simp] theorem await_launch (k : Nat) (s : State) : (s.await k).launch = s.launch := rfl
@[simp] theorem await_prep (k : Nat) (s : State) : (s.await k).prep = s.prep := rfl
@[simp] theorem await_holdings (k : Nat) (s : State) : (s.await k).holdings = s.holdings := rfl
@[simp] theorem await_shares (k : Nat) (s : State) : (s.await k).shares = s.shares := rfl
@[simp] theorem await_accelConfigured (k : Nat) (s : State) : (s.await k).accelConfigured = s.accelConfigured := rfl
@[simp] theorem await_accelOwn (k : Nat) (s : State) : (s.await k).accelOwn = s.accelOwn := rfl
@[simp] theorem await_utcPrev (k : Nat) (s : State) : (s.await k).utcPrev = s.utcPrev := rfl
@[simp] theorem await_tbSync (k : Nat) (s : State) : (s.await k).tbSync = s.tbSync := rfl
@[simp] theorem await_otp (k : Nat) (s : State) : (s.await k).otp = s.otp := rfl
@[simp] theorem await_flash (k : Nat) (s : State) : (s.await k).flash = s.flash := rfl
@[simp] theorem await_sec (k : Nat) (s : State) : (s.await k).sec = s.sec := rfl
@[simp] theorem await_log (k : Nat) (s : State) : (s.await k).log = s.log := rfl
@[simp] theorem await_upd (k : Nat) (s : State) : (s.await k).upd = s.upd := rfl
@[simp] theorem await_gpioFired (k : Nat) (s : State) : (s.await k).gpioFired = s.gpioFired := rfl
@[simp] theorem await_power (k : Nat) (s : State) : (s.await k).power = s.power := rfl
@[simp] theorem await_paths (k : Nat) (s : State) : (s.await k).paths = s.paths := rfl
@[simp] theorem await_amQuietSince (k : Nat) (s : State) : (s.await k).amQuietSince = s.amQuietSince := rfl
@[simp] theorem await_antennas (k : Nat) (s : State) : (s.await k).antennas = s.antennas := rfl
@[simp] theorem await_plumb (k : Nat) (s : State) : (s.await k).plumb = s.plumb := rfl
@[simp] theorem await_chains (k : Nat) (s : State) : (s.await k).chains = s.chains := rfl
@[simp] theorem await_engines (k : Nat) (s : State) : (s.await k).engines = s.engines := rfl
@[simp] theorem await_loads (k : Nat) (s : State) : (s.await k).loads = s.loads := rfl
@[simp] theorem await_accels (k : Nat) (s : State) : (s.await k).accels = s.accels := rfl
@[simp] theorem await_claimedAt (k : Nat) (s : State) : (s.await k).claimedAt = s.claimedAt := rfl
@[simp] theorem await_shm (k : Nat) (s : State) : (s.await k).shm = s.shm := rfl
@[simp] theorem await_captures (k : Nat) (s : State) : (s.await k).captures = s.captures := rfl
@[simp] theorem await_fms (k : Nat) (s : State) : (s.await k).fms = s.fms := rfl
@[simp] theorem await_pcm (k : Nat) (s : State) : (s.await k).pcm = s.pcm := rfl
@[simp] theorem await_pcmSeq (k : Nat) (s : State) : (s.await k).pcmSeq = s.pcmSeq := rfl
@[simp] theorem await_heard (k : Nat) (s : State) : (s.await k).heard = s.heard := rfl
@[simp] theorem await_tmc (k : Nat) (s : State) : (s.await k).tmc = s.tmc := rfl
@[simp] theorem await_lantern (k : Nat) (s : State) : (s.await k).lantern = s.lantern := rfl
@[simp] theorem await_dabs (k : Nat) (s : State) : (s.await k).dabs = s.dabs := rfl
@[simp] theorem await_dabDecoders (k : Nat) (s : State) : (s.await k).dabDecoders = s.dabDecoders := rfl
@[simp] theorem await_voices (k : Nat) (s : State) : (s.await k).voices = s.voices := rfl
@[simp] theorem await_ams (k : Nat) (s : State) : (s.await k).ams = s.ams := rfl
@[simp] theorem await_drms (k : Nat) (s : State) : (s.await k).drms = s.drms := rfl
@[simp] theorem await_drmSel (k : Nat) (s : State) : (s.await k).drmSel = s.drmSel := rfl
@[simp] theorem await_following (k : Nat) (s : State) : (s.await k).following = s.following := rfl
@[simp] theorem await_gloaming (k : Nat) (s : State) : (s.await k).gloaming = s.gloaming := rfl
@[simp] theorem await_streams (k : Nat) (s : State) : (s.await k).streams = s.streams := rfl
@[simp] theorem await_iec (k : Nat) (s : State) : (s.await k).iec = s.iec := rfl
@[simp] theorem await_radio (k : Nat) (s : State) : (s.await k).radio = s.radio := rfl
@[simp] theorem await_link (k : Nat) (s : State) : (s.await k).link = s.link := rfl
@[simp] theorem await_mesh (k : Nat) (s : State) : (s.await k).mesh = s.mesh := rfl
@[simp] theorem await_cvs (k : Nat) (s : State) : (s.await k).cvs = s.cvs := rfl
@[simp] theorem await_ports (k : Nat) (s : State) : (s.await k).ports = s.ports := rfl
@[simp] theorem await_quoin (k : Nat) (s : State) : (s.await k).quoin = s.quoin := rfl
@[simp] theorem await_twoWire (k : Nat) (s : State) : (s.await k).twoWire = s.twoWire := rfl
@[simp] theorem await_pdos (k : Nat) (s : State) : (s.await k).pdos = s.pdos := rfl
@[simp] theorem await_saving (k : Nat) (s : State) : (s.await k).saving = s.saving := rfl

/-! ### setFifo -/

@[simp] theorem setFifo_pending (k : Nat) (f : Fifo) (s : State) : (s.setFifo k f).pending = s.pending := rfl
@[simp] theorem setFifo_mode (k : Nat) (f : Fifo) (s : State) : (s.setFifo k f).mode = s.mode := rfl
@[simp] theorem setFifo_ready (k : Nat) (f : Fifo) (s : State) : (s.setFifo k f).ready = s.ready := rfl
@[simp] theorem setFifo_gnomon (k : Nat) (f : Fifo) (s : State) : (s.setFifo k f).gnomon = s.gnomon := rfl
@[simp] theorem setFifo_freeCtr (k : Nat) (f : Fifo) (s : State) : (s.setFifo k f).freeCtr = s.freeCtr := rfl
@[simp] theorem setFifo_dict (k : Nat) (f : Fifo) (s : State) : (s.setFifo k f).dict = s.dict := rfl
@[simp] theorem setFifo_committed (k : Nat) (f : Fifo) (s : State) : (s.setFifo k f).committed = s.committed := rfl
@[simp] theorem setFifo_awaiting (k : Nat) (f : Fifo) (s : State) : (s.setFifo k f).awaiting = s.awaiting := rfl
@[simp] theorem setFifo_held (k : Nat) (f : Fifo) (s : State) : (s.setFifo k f).held = s.held := rfl
@[simp] theorem setFifo_events (k : Nat) (f : Fifo) (s : State) : (s.setFifo k f).events = s.events := rfl
@[simp] theorem setFifo_answer (k : Nat) (f : Fifo) (s : State) : (s.setFifo k f).answer = s.answer := rfl
@[simp] theorem setFifo_answeredPorts (k : Nat) (f : Fifo) (s : State) : (s.setFifo k f).answeredPorts = s.answeredPorts := rfl
@[simp] theorem setFifo_launch (k : Nat) (f : Fifo) (s : State) : (s.setFifo k f).launch = s.launch := rfl
@[simp] theorem setFifo_prep (k : Nat) (f : Fifo) (s : State) : (s.setFifo k f).prep = s.prep := rfl
@[simp] theorem setFifo_holdings (k : Nat) (f : Fifo) (s : State) : (s.setFifo k f).holdings = s.holdings := rfl
@[simp] theorem setFifo_shares (k : Nat) (f : Fifo) (s : State) : (s.setFifo k f).shares = s.shares := rfl
@[simp] theorem setFifo_accelConfigured (k : Nat) (f : Fifo) (s : State) : (s.setFifo k f).accelConfigured = s.accelConfigured := rfl
@[simp] theorem setFifo_accelOwn (k : Nat) (f : Fifo) (s : State) : (s.setFifo k f).accelOwn = s.accelOwn := rfl
@[simp] theorem setFifo_utcPrev (k : Nat) (f : Fifo) (s : State) : (s.setFifo k f).utcPrev = s.utcPrev := rfl
@[simp] theorem setFifo_tbSync (k : Nat) (f : Fifo) (s : State) : (s.setFifo k f).tbSync = s.tbSync := rfl
@[simp] theorem setFifo_otp (k : Nat) (f : Fifo) (s : State) : (s.setFifo k f).otp = s.otp := rfl
@[simp] theorem setFifo_flash (k : Nat) (f : Fifo) (s : State) : (s.setFifo k f).flash = s.flash := rfl
@[simp] theorem setFifo_sec (k : Nat) (f : Fifo) (s : State) : (s.setFifo k f).sec = s.sec := rfl
@[simp] theorem setFifo_log (k : Nat) (f : Fifo) (s : State) : (s.setFifo k f).log = s.log := rfl
@[simp] theorem setFifo_upd (k : Nat) (f : Fifo) (s : State) : (s.setFifo k f).upd = s.upd := rfl
@[simp] theorem setFifo_gpioFired (k : Nat) (f : Fifo) (s : State) : (s.setFifo k f).gpioFired = s.gpioFired := rfl
@[simp] theorem setFifo_power (k : Nat) (f : Fifo) (s : State) : (s.setFifo k f).power = s.power := rfl
@[simp] theorem setFifo_paths (k : Nat) (f : Fifo) (s : State) : (s.setFifo k f).paths = s.paths := rfl
@[simp] theorem setFifo_amQuietSince (k : Nat) (f : Fifo) (s : State) : (s.setFifo k f).amQuietSince = s.amQuietSince := rfl
@[simp] theorem setFifo_antennas (k : Nat) (f : Fifo) (s : State) : (s.setFifo k f).antennas = s.antennas := rfl
@[simp] theorem setFifo_plumb (k : Nat) (f : Fifo) (s : State) : (s.setFifo k f).plumb = s.plumb := rfl
@[simp] theorem setFifo_chains (k : Nat) (f : Fifo) (s : State) : (s.setFifo k f).chains = s.chains := rfl
@[simp] theorem setFifo_engines (k : Nat) (f : Fifo) (s : State) : (s.setFifo k f).engines = s.engines := rfl
@[simp] theorem setFifo_loads (k : Nat) (f : Fifo) (s : State) : (s.setFifo k f).loads = s.loads := rfl
@[simp] theorem setFifo_accels (k : Nat) (f : Fifo) (s : State) : (s.setFifo k f).accels = s.accels := rfl
@[simp] theorem setFifo_claimedAt (k : Nat) (f : Fifo) (s : State) : (s.setFifo k f).claimedAt = s.claimedAt := rfl
@[simp] theorem setFifo_shm (k : Nat) (f : Fifo) (s : State) : (s.setFifo k f).shm = s.shm := rfl
@[simp] theorem setFifo_captures (k : Nat) (f : Fifo) (s : State) : (s.setFifo k f).captures = s.captures := rfl
@[simp] theorem setFifo_fms (k : Nat) (f : Fifo) (s : State) : (s.setFifo k f).fms = s.fms := rfl
@[simp] theorem setFifo_pcm (k : Nat) (f : Fifo) (s : State) : (s.setFifo k f).pcm = s.pcm := rfl
@[simp] theorem setFifo_pcmSeq (k : Nat) (f : Fifo) (s : State) : (s.setFifo k f).pcmSeq = s.pcmSeq := rfl
@[simp] theorem setFifo_heard (k : Nat) (f : Fifo) (s : State) : (s.setFifo k f).heard = s.heard := rfl
@[simp] theorem setFifo_tmc (k : Nat) (f : Fifo) (s : State) : (s.setFifo k f).tmc = s.tmc := rfl
@[simp] theorem setFifo_lantern (k : Nat) (f : Fifo) (s : State) : (s.setFifo k f).lantern = s.lantern := rfl
@[simp] theorem setFifo_dabs (k : Nat) (f : Fifo) (s : State) : (s.setFifo k f).dabs = s.dabs := rfl
@[simp] theorem setFifo_dabDecoders (k : Nat) (f : Fifo) (s : State) : (s.setFifo k f).dabDecoders = s.dabDecoders := rfl
@[simp] theorem setFifo_voices (k : Nat) (f : Fifo) (s : State) : (s.setFifo k f).voices = s.voices := rfl
@[simp] theorem setFifo_ams (k : Nat) (f : Fifo) (s : State) : (s.setFifo k f).ams = s.ams := rfl
@[simp] theorem setFifo_drms (k : Nat) (f : Fifo) (s : State) : (s.setFifo k f).drms = s.drms := rfl
@[simp] theorem setFifo_drmSel (k : Nat) (f : Fifo) (s : State) : (s.setFifo k f).drmSel = s.drmSel := rfl
@[simp] theorem setFifo_following (k : Nat) (f : Fifo) (s : State) : (s.setFifo k f).following = s.following := rfl
@[simp] theorem setFifo_gloaming (k : Nat) (f : Fifo) (s : State) : (s.setFifo k f).gloaming = s.gloaming := rfl
@[simp] theorem setFifo_streams (k : Nat) (f : Fifo) (s : State) : (s.setFifo k f).streams = s.streams := rfl
@[simp] theorem setFifo_iec (k : Nat) (f : Fifo) (s : State) : (s.setFifo k f).iec = s.iec := rfl
@[simp] theorem setFifo_radio (k : Nat) (f : Fifo) (s : State) : (s.setFifo k f).radio = s.radio := rfl
@[simp] theorem setFifo_link (k : Nat) (f : Fifo) (s : State) : (s.setFifo k f).link = s.link := rfl
@[simp] theorem setFifo_mesh (k : Nat) (f : Fifo) (s : State) : (s.setFifo k f).mesh = s.mesh := rfl
@[simp] theorem setFifo_cvs (k : Nat) (f : Fifo) (s : State) : (s.setFifo k f).cvs = s.cvs := rfl
@[simp] theorem setFifo_ports (k : Nat) (f : Fifo) (s : State) : (s.setFifo k f).ports = s.ports := rfl
@[simp] theorem setFifo_quoin (k : Nat) (f : Fifo) (s : State) : (s.setFifo k f).quoin = s.quoin := rfl
@[simp] theorem setFifo_twoWire (k : Nat) (f : Fifo) (s : State) : (s.setFifo k f).twoWire = s.twoWire := rfl
@[simp] theorem setFifo_pdos (k : Nat) (f : Fifo) (s : State) : (s.setFifo k f).pdos = s.pdos := rfl
@[simp] theorem setFifo_saving (k : Nat) (f : Fifo) (s : State) : (s.setFifo k f).saving = s.saving := rfl

/-! ### setEntry -/

@[simp] theorem setEntry_pending (n : Nat) (e : Option LaunchEntry) (s : State) : (s.setEntry n e).pending = s.pending := rfl
@[simp] theorem setEntry_mode (n : Nat) (e : Option LaunchEntry) (s : State) : (s.setEntry n e).mode = s.mode := rfl
@[simp] theorem setEntry_ready (n : Nat) (e : Option LaunchEntry) (s : State) : (s.setEntry n e).ready = s.ready := rfl
@[simp] theorem setEntry_gnomon (n : Nat) (e : Option LaunchEntry) (s : State) : (s.setEntry n e).gnomon = s.gnomon := rfl
@[simp] theorem setEntry_freeCtr (n : Nat) (e : Option LaunchEntry) (s : State) : (s.setEntry n e).freeCtr = s.freeCtr := rfl
@[simp] theorem setEntry_dict (n : Nat) (e : Option LaunchEntry) (s : State) : (s.setEntry n e).dict = s.dict := rfl
@[simp] theorem setEntry_committed (n : Nat) (e : Option LaunchEntry) (s : State) : (s.setEntry n e).committed = s.committed := rfl
@[simp] theorem setEntry_awaiting (n : Nat) (e : Option LaunchEntry) (s : State) : (s.setEntry n e).awaiting = s.awaiting := rfl
@[simp] theorem setEntry_held (n : Nat) (e : Option LaunchEntry) (s : State) : (s.setEntry n e).held = s.held := rfl
@[simp] theorem setEntry_fifos (n : Nat) (e : Option LaunchEntry) (s : State) : (s.setEntry n e).fifos = s.fifos := rfl
@[simp] theorem setEntry_events (n : Nat) (e : Option LaunchEntry) (s : State) : (s.setEntry n e).events = s.events := rfl
@[simp] theorem setEntry_answer (n : Nat) (e : Option LaunchEntry) (s : State) : (s.setEntry n e).answer = s.answer := rfl
@[simp] theorem setEntry_answeredPorts (n : Nat) (e : Option LaunchEntry) (s : State) : (s.setEntry n e).answeredPorts = s.answeredPorts := rfl
@[simp] theorem setEntry_prep (n : Nat) (e : Option LaunchEntry) (s : State) : (s.setEntry n e).prep = s.prep := rfl
@[simp] theorem setEntry_holdings (n : Nat) (e : Option LaunchEntry) (s : State) : (s.setEntry n e).holdings = s.holdings := rfl
@[simp] theorem setEntry_shares (n : Nat) (e : Option LaunchEntry) (s : State) : (s.setEntry n e).shares = s.shares := rfl
@[simp] theorem setEntry_accelConfigured (n : Nat) (e : Option LaunchEntry) (s : State) : (s.setEntry n e).accelConfigured = s.accelConfigured := rfl
@[simp] theorem setEntry_accelOwn (n : Nat) (e : Option LaunchEntry) (s : State) : (s.setEntry n e).accelOwn = s.accelOwn := rfl
@[simp] theorem setEntry_utcPrev (n : Nat) (e : Option LaunchEntry) (s : State) : (s.setEntry n e).utcPrev = s.utcPrev := rfl
@[simp] theorem setEntry_tbSync (n : Nat) (e : Option LaunchEntry) (s : State) : (s.setEntry n e).tbSync = s.tbSync := rfl
@[simp] theorem setEntry_otp (n : Nat) (e : Option LaunchEntry) (s : State) : (s.setEntry n e).otp = s.otp := rfl
@[simp] theorem setEntry_flash (n : Nat) (e : Option LaunchEntry) (s : State) : (s.setEntry n e).flash = s.flash := rfl
@[simp] theorem setEntry_sec (n : Nat) (e : Option LaunchEntry) (s : State) : (s.setEntry n e).sec = s.sec := rfl
@[simp] theorem setEntry_log (n : Nat) (e : Option LaunchEntry) (s : State) : (s.setEntry n e).log = s.log := rfl
@[simp] theorem setEntry_upd (n : Nat) (e : Option LaunchEntry) (s : State) : (s.setEntry n e).upd = s.upd := rfl
@[simp] theorem setEntry_gpioFired (n : Nat) (e : Option LaunchEntry) (s : State) : (s.setEntry n e).gpioFired = s.gpioFired := rfl
@[simp] theorem setEntry_power (n : Nat) (e : Option LaunchEntry) (s : State) : (s.setEntry n e).power = s.power := rfl
@[simp] theorem setEntry_paths (n : Nat) (e : Option LaunchEntry) (s : State) : (s.setEntry n e).paths = s.paths := rfl
@[simp] theorem setEntry_amQuietSince (n : Nat) (e : Option LaunchEntry) (s : State) : (s.setEntry n e).amQuietSince = s.amQuietSince := rfl
@[simp] theorem setEntry_antennas (n : Nat) (e : Option LaunchEntry) (s : State) : (s.setEntry n e).antennas = s.antennas := rfl
@[simp] theorem setEntry_plumb (n : Nat) (e : Option LaunchEntry) (s : State) : (s.setEntry n e).plumb = s.plumb := rfl
@[simp] theorem setEntry_chains (n : Nat) (e : Option LaunchEntry) (s : State) : (s.setEntry n e).chains = s.chains := rfl
@[simp] theorem setEntry_engines (n : Nat) (e : Option LaunchEntry) (s : State) : (s.setEntry n e).engines = s.engines := rfl
@[simp] theorem setEntry_loads (n : Nat) (e : Option LaunchEntry) (s : State) : (s.setEntry n e).loads = s.loads := rfl
@[simp] theorem setEntry_accels (n : Nat) (e : Option LaunchEntry) (s : State) : (s.setEntry n e).accels = s.accels := rfl
@[simp] theorem setEntry_claimedAt (n : Nat) (e : Option LaunchEntry) (s : State) : (s.setEntry n e).claimedAt = s.claimedAt := rfl
@[simp] theorem setEntry_shm (n : Nat) (e : Option LaunchEntry) (s : State) : (s.setEntry n e).shm = s.shm := rfl
@[simp] theorem setEntry_captures (n : Nat) (e : Option LaunchEntry) (s : State) : (s.setEntry n e).captures = s.captures := rfl
@[simp] theorem setEntry_fms (n : Nat) (e : Option LaunchEntry) (s : State) : (s.setEntry n e).fms = s.fms := rfl
@[simp] theorem setEntry_pcm (n : Nat) (e : Option LaunchEntry) (s : State) : (s.setEntry n e).pcm = s.pcm := rfl
@[simp] theorem setEntry_pcmSeq (n : Nat) (e : Option LaunchEntry) (s : State) : (s.setEntry n e).pcmSeq = s.pcmSeq := rfl
@[simp] theorem setEntry_heard (n : Nat) (e : Option LaunchEntry) (s : State) : (s.setEntry n e).heard = s.heard := rfl
@[simp] theorem setEntry_tmc (n : Nat) (e : Option LaunchEntry) (s : State) : (s.setEntry n e).tmc = s.tmc := rfl
@[simp] theorem setEntry_lantern (n : Nat) (e : Option LaunchEntry) (s : State) : (s.setEntry n e).lantern = s.lantern := rfl
@[simp] theorem setEntry_dabs (n : Nat) (e : Option LaunchEntry) (s : State) : (s.setEntry n e).dabs = s.dabs := rfl
@[simp] theorem setEntry_dabDecoders (n : Nat) (e : Option LaunchEntry) (s : State) : (s.setEntry n e).dabDecoders = s.dabDecoders := rfl
@[simp] theorem setEntry_voices (n : Nat) (e : Option LaunchEntry) (s : State) : (s.setEntry n e).voices = s.voices := rfl
@[simp] theorem setEntry_ams (n : Nat) (e : Option LaunchEntry) (s : State) : (s.setEntry n e).ams = s.ams := rfl
@[simp] theorem setEntry_drms (n : Nat) (e : Option LaunchEntry) (s : State) : (s.setEntry n e).drms = s.drms := rfl
@[simp] theorem setEntry_drmSel (n : Nat) (e : Option LaunchEntry) (s : State) : (s.setEntry n e).drmSel = s.drmSel := rfl
@[simp] theorem setEntry_following (n : Nat) (e : Option LaunchEntry) (s : State) : (s.setEntry n e).following = s.following := rfl
@[simp] theorem setEntry_gloaming (n : Nat) (e : Option LaunchEntry) (s : State) : (s.setEntry n e).gloaming = s.gloaming := rfl
@[simp] theorem setEntry_streams (n : Nat) (e : Option LaunchEntry) (s : State) : (s.setEntry n e).streams = s.streams := rfl
@[simp] theorem setEntry_iec (n : Nat) (e : Option LaunchEntry) (s : State) : (s.setEntry n e).iec = s.iec := rfl
@[simp] theorem setEntry_radio (n : Nat) (e : Option LaunchEntry) (s : State) : (s.setEntry n e).radio = s.radio := rfl
@[simp] theorem setEntry_link (n : Nat) (e : Option LaunchEntry) (s : State) : (s.setEntry n e).link = s.link := rfl
@[simp] theorem setEntry_mesh (n : Nat) (e : Option LaunchEntry) (s : State) : (s.setEntry n e).mesh = s.mesh := rfl
@[simp] theorem setEntry_cvs (n : Nat) (e : Option LaunchEntry) (s : State) : (s.setEntry n e).cvs = s.cvs := rfl
@[simp] theorem setEntry_ports (n : Nat) (e : Option LaunchEntry) (s : State) : (s.setEntry n e).ports = s.ports := rfl
@[simp] theorem setEntry_quoin (n : Nat) (e : Option LaunchEntry) (s : State) : (s.setEntry n e).quoin = s.quoin := rfl
@[simp] theorem setEntry_twoWire (n : Nat) (e : Option LaunchEntry) (s : State) : (s.setEntry n e).twoWire = s.twoWire := rfl
@[simp] theorem setEntry_pdos (n : Nat) (e : Option LaunchEntry) (s : State) : (s.setEntry n e).pdos = s.pdos := rfl
@[simp] theorem setEntry_saving (n : Nat) (e : Option LaunchEntry) (s : State) : (s.setEntry n e).saving = s.saving := rfl

/-! ### setPath -/

@[simp] theorem setPath_pending (p : Nat) (r : RfPath) (s : State) : (s.setPath p r).pending = s.pending := rfl
@[simp] theorem setPath_mode (p : Nat) (r : RfPath) (s : State) : (s.setPath p r).mode = s.mode := rfl
@[simp] theorem setPath_ready (p : Nat) (r : RfPath) (s : State) : (s.setPath p r).ready = s.ready := rfl
@[simp] theorem setPath_gnomon (p : Nat) (r : RfPath) (s : State) : (s.setPath p r).gnomon = s.gnomon := rfl
@[simp] theorem setPath_freeCtr (p : Nat) (r : RfPath) (s : State) : (s.setPath p r).freeCtr = s.freeCtr := rfl
@[simp] theorem setPath_dict (p : Nat) (r : RfPath) (s : State) : (s.setPath p r).dict = s.dict := rfl
@[simp] theorem setPath_committed (p : Nat) (r : RfPath) (s : State) : (s.setPath p r).committed = s.committed := rfl
@[simp] theorem setPath_awaiting (p : Nat) (r : RfPath) (s : State) : (s.setPath p r).awaiting = s.awaiting := rfl
@[simp] theorem setPath_held (p : Nat) (r : RfPath) (s : State) : (s.setPath p r).held = s.held := rfl
@[simp] theorem setPath_fifos (p : Nat) (r : RfPath) (s : State) : (s.setPath p r).fifos = s.fifos := rfl
@[simp] theorem setPath_events (p : Nat) (r : RfPath) (s : State) : (s.setPath p r).events = s.events := rfl
@[simp] theorem setPath_answer (p : Nat) (r : RfPath) (s : State) : (s.setPath p r).answer = s.answer := rfl
@[simp] theorem setPath_answeredPorts (p : Nat) (r : RfPath) (s : State) : (s.setPath p r).answeredPorts = s.answeredPorts := rfl
@[simp] theorem setPath_launch (p : Nat) (r : RfPath) (s : State) : (s.setPath p r).launch = s.launch := rfl
@[simp] theorem setPath_prep (p : Nat) (r : RfPath) (s : State) : (s.setPath p r).prep = s.prep := rfl
@[simp] theorem setPath_holdings (p : Nat) (r : RfPath) (s : State) : (s.setPath p r).holdings = s.holdings := rfl
@[simp] theorem setPath_shares (p : Nat) (r : RfPath) (s : State) : (s.setPath p r).shares = s.shares := rfl
@[simp] theorem setPath_accelConfigured (p : Nat) (r : RfPath) (s : State) : (s.setPath p r).accelConfigured = s.accelConfigured := rfl
@[simp] theorem setPath_accelOwn (p : Nat) (r : RfPath) (s : State) : (s.setPath p r).accelOwn = s.accelOwn := rfl
@[simp] theorem setPath_utcPrev (p : Nat) (r : RfPath) (s : State) : (s.setPath p r).utcPrev = s.utcPrev := rfl
@[simp] theorem setPath_tbSync (p : Nat) (r : RfPath) (s : State) : (s.setPath p r).tbSync = s.tbSync := rfl
@[simp] theorem setPath_otp (p : Nat) (r : RfPath) (s : State) : (s.setPath p r).otp = s.otp := rfl
@[simp] theorem setPath_flash (p : Nat) (r : RfPath) (s : State) : (s.setPath p r).flash = s.flash := rfl
@[simp] theorem setPath_sec (p : Nat) (r : RfPath) (s : State) : (s.setPath p r).sec = s.sec := rfl
@[simp] theorem setPath_log (p : Nat) (r : RfPath) (s : State) : (s.setPath p r).log = s.log := rfl
@[simp] theorem setPath_upd (p : Nat) (r : RfPath) (s : State) : (s.setPath p r).upd = s.upd := rfl
@[simp] theorem setPath_gpioFired (p : Nat) (r : RfPath) (s : State) : (s.setPath p r).gpioFired = s.gpioFired := rfl
@[simp] theorem setPath_power (p : Nat) (r : RfPath) (s : State) : (s.setPath p r).power = s.power := rfl
@[simp] theorem setPath_amQuietSince (p : Nat) (r : RfPath) (s : State) : (s.setPath p r).amQuietSince = s.amQuietSince := rfl
@[simp] theorem setPath_antennas (p : Nat) (r : RfPath) (s : State) : (s.setPath p r).antennas = s.antennas := rfl
@[simp] theorem setPath_plumb (p : Nat) (r : RfPath) (s : State) : (s.setPath p r).plumb = s.plumb := rfl
@[simp] theorem setPath_chains (p : Nat) (r : RfPath) (s : State) : (s.setPath p r).chains = s.chains := rfl
@[simp] theorem setPath_engines (p : Nat) (r : RfPath) (s : State) : (s.setPath p r).engines = s.engines := rfl
@[simp] theorem setPath_loads (p : Nat) (r : RfPath) (s : State) : (s.setPath p r).loads = s.loads := rfl
@[simp] theorem setPath_accels (p : Nat) (r : RfPath) (s : State) : (s.setPath p r).accels = s.accels := rfl
@[simp] theorem setPath_claimedAt (p : Nat) (r : RfPath) (s : State) : (s.setPath p r).claimedAt = s.claimedAt := rfl
@[simp] theorem setPath_shm (p : Nat) (r : RfPath) (s : State) : (s.setPath p r).shm = s.shm := rfl
@[simp] theorem setPath_captures (p : Nat) (r : RfPath) (s : State) : (s.setPath p r).captures = s.captures := rfl
@[simp] theorem setPath_fms (p : Nat) (r : RfPath) (s : State) : (s.setPath p r).fms = s.fms := rfl
@[simp] theorem setPath_pcm (p : Nat) (r : RfPath) (s : State) : (s.setPath p r).pcm = s.pcm := rfl
@[simp] theorem setPath_pcmSeq (p : Nat) (r : RfPath) (s : State) : (s.setPath p r).pcmSeq = s.pcmSeq := rfl
@[simp] theorem setPath_heard (p : Nat) (r : RfPath) (s : State) : (s.setPath p r).heard = s.heard := rfl
@[simp] theorem setPath_tmc (p : Nat) (r : RfPath) (s : State) : (s.setPath p r).tmc = s.tmc := rfl
@[simp] theorem setPath_lantern (p : Nat) (r : RfPath) (s : State) : (s.setPath p r).lantern = s.lantern := rfl
@[simp] theorem setPath_dabs (p : Nat) (r : RfPath) (s : State) : (s.setPath p r).dabs = s.dabs := rfl
@[simp] theorem setPath_dabDecoders (p : Nat) (r : RfPath) (s : State) : (s.setPath p r).dabDecoders = s.dabDecoders := rfl
@[simp] theorem setPath_voices (p : Nat) (r : RfPath) (s : State) : (s.setPath p r).voices = s.voices := rfl
@[simp] theorem setPath_ams (p : Nat) (r : RfPath) (s : State) : (s.setPath p r).ams = s.ams := rfl
@[simp] theorem setPath_drms (p : Nat) (r : RfPath) (s : State) : (s.setPath p r).drms = s.drms := rfl
@[simp] theorem setPath_drmSel (p : Nat) (r : RfPath) (s : State) : (s.setPath p r).drmSel = s.drmSel := rfl
@[simp] theorem setPath_following (p : Nat) (r : RfPath) (s : State) : (s.setPath p r).following = s.following := rfl
@[simp] theorem setPath_gloaming (p : Nat) (r : RfPath) (s : State) : (s.setPath p r).gloaming = s.gloaming := rfl
@[simp] theorem setPath_streams (p : Nat) (r : RfPath) (s : State) : (s.setPath p r).streams = s.streams := rfl
@[simp] theorem setPath_iec (p : Nat) (r : RfPath) (s : State) : (s.setPath p r).iec = s.iec := rfl
@[simp] theorem setPath_radio (p : Nat) (r : RfPath) (s : State) : (s.setPath p r).radio = s.radio := rfl
@[simp] theorem setPath_link (p : Nat) (r : RfPath) (s : State) : (s.setPath p r).link = s.link := rfl
@[simp] theorem setPath_mesh (p : Nat) (r : RfPath) (s : State) : (s.setPath p r).mesh = s.mesh := rfl
@[simp] theorem setPath_cvs (p : Nat) (r : RfPath) (s : State) : (s.setPath p r).cvs = s.cvs := rfl
@[simp] theorem setPath_ports (p : Nat) (r : RfPath) (s : State) : (s.setPath p r).ports = s.ports := rfl
@[simp] theorem setPath_quoin (p : Nat) (r : RfPath) (s : State) : (s.setPath p r).quoin = s.quoin := rfl
@[simp] theorem setPath_twoWire (p : Nat) (r : RfPath) (s : State) : (s.setPath p r).twoWire = s.twoWire := rfl
@[simp] theorem setPath_pdos (p : Nat) (r : RfPath) (s : State) : (s.setPath p r).pdos = s.pdos := rfl
@[simp] theorem setPath_saving (p : Nat) (r : RfPath) (s : State) : (s.setPath p r).saving = s.saving := rfl

/-! ### setAntenna -/

@[simp] theorem setAntenna_pending (p : Nat) (a : Antenna) (s : State) : (s.setAntenna p a).pending = s.pending := rfl
@[simp] theorem setAntenna_mode (p : Nat) (a : Antenna) (s : State) : (s.setAntenna p a).mode = s.mode := rfl
@[simp] theorem setAntenna_ready (p : Nat) (a : Antenna) (s : State) : (s.setAntenna p a).ready = s.ready := rfl
@[simp] theorem setAntenna_gnomon (p : Nat) (a : Antenna) (s : State) : (s.setAntenna p a).gnomon = s.gnomon := rfl
@[simp] theorem setAntenna_freeCtr (p : Nat) (a : Antenna) (s : State) : (s.setAntenna p a).freeCtr = s.freeCtr := rfl
@[simp] theorem setAntenna_dict (p : Nat) (a : Antenna) (s : State) : (s.setAntenna p a).dict = s.dict := rfl
@[simp] theorem setAntenna_committed (p : Nat) (a : Antenna) (s : State) : (s.setAntenna p a).committed = s.committed := rfl
@[simp] theorem setAntenna_awaiting (p : Nat) (a : Antenna) (s : State) : (s.setAntenna p a).awaiting = s.awaiting := rfl
@[simp] theorem setAntenna_held (p : Nat) (a : Antenna) (s : State) : (s.setAntenna p a).held = s.held := rfl
@[simp] theorem setAntenna_fifos (p : Nat) (a : Antenna) (s : State) : (s.setAntenna p a).fifos = s.fifos := rfl
@[simp] theorem setAntenna_events (p : Nat) (a : Antenna) (s : State) : (s.setAntenna p a).events = s.events := rfl
@[simp] theorem setAntenna_answer (p : Nat) (a : Antenna) (s : State) : (s.setAntenna p a).answer = s.answer := rfl
@[simp] theorem setAntenna_answeredPorts (p : Nat) (a : Antenna) (s : State) : (s.setAntenna p a).answeredPorts = s.answeredPorts := rfl
@[simp] theorem setAntenna_launch (p : Nat) (a : Antenna) (s : State) : (s.setAntenna p a).launch = s.launch := rfl
@[simp] theorem setAntenna_prep (p : Nat) (a : Antenna) (s : State) : (s.setAntenna p a).prep = s.prep := rfl
@[simp] theorem setAntenna_holdings (p : Nat) (a : Antenna) (s : State) : (s.setAntenna p a).holdings = s.holdings := rfl
@[simp] theorem setAntenna_shares (p : Nat) (a : Antenna) (s : State) : (s.setAntenna p a).shares = s.shares := rfl
@[simp] theorem setAntenna_accelConfigured (p : Nat) (a : Antenna) (s : State) : (s.setAntenna p a).accelConfigured = s.accelConfigured := rfl
@[simp] theorem setAntenna_accelOwn (p : Nat) (a : Antenna) (s : State) : (s.setAntenna p a).accelOwn = s.accelOwn := rfl
@[simp] theorem setAntenna_utcPrev (p : Nat) (a : Antenna) (s : State) : (s.setAntenna p a).utcPrev = s.utcPrev := rfl
@[simp] theorem setAntenna_tbSync (p : Nat) (a : Antenna) (s : State) : (s.setAntenna p a).tbSync = s.tbSync := rfl
@[simp] theorem setAntenna_otp (p : Nat) (a : Antenna) (s : State) : (s.setAntenna p a).otp = s.otp := rfl
@[simp] theorem setAntenna_flash (p : Nat) (a : Antenna) (s : State) : (s.setAntenna p a).flash = s.flash := rfl
@[simp] theorem setAntenna_sec (p : Nat) (a : Antenna) (s : State) : (s.setAntenna p a).sec = s.sec := rfl
@[simp] theorem setAntenna_log (p : Nat) (a : Antenna) (s : State) : (s.setAntenna p a).log = s.log := rfl
@[simp] theorem setAntenna_upd (p : Nat) (a : Antenna) (s : State) : (s.setAntenna p a).upd = s.upd := rfl
@[simp] theorem setAntenna_gpioFired (p : Nat) (a : Antenna) (s : State) : (s.setAntenna p a).gpioFired = s.gpioFired := rfl
@[simp] theorem setAntenna_power (p : Nat) (a : Antenna) (s : State) : (s.setAntenna p a).power = s.power := rfl
@[simp] theorem setAntenna_paths (p : Nat) (a : Antenna) (s : State) : (s.setAntenna p a).paths = s.paths := rfl
@[simp] theorem setAntenna_amQuietSince (p : Nat) (a : Antenna) (s : State) : (s.setAntenna p a).amQuietSince = s.amQuietSince := rfl
@[simp] theorem setAntenna_plumb (p : Nat) (a : Antenna) (s : State) : (s.setAntenna p a).plumb = s.plumb := rfl
@[simp] theorem setAntenna_chains (p : Nat) (a : Antenna) (s : State) : (s.setAntenna p a).chains = s.chains := rfl
@[simp] theorem setAntenna_engines (p : Nat) (a : Antenna) (s : State) : (s.setAntenna p a).engines = s.engines := rfl
@[simp] theorem setAntenna_loads (p : Nat) (a : Antenna) (s : State) : (s.setAntenna p a).loads = s.loads := rfl
@[simp] theorem setAntenna_accels (p : Nat) (a : Antenna) (s : State) : (s.setAntenna p a).accels = s.accels := rfl
@[simp] theorem setAntenna_claimedAt (p : Nat) (a : Antenna) (s : State) : (s.setAntenna p a).claimedAt = s.claimedAt := rfl
@[simp] theorem setAntenna_shm (p : Nat) (a : Antenna) (s : State) : (s.setAntenna p a).shm = s.shm := rfl
@[simp] theorem setAntenna_captures (p : Nat) (a : Antenna) (s : State) : (s.setAntenna p a).captures = s.captures := rfl
@[simp] theorem setAntenna_fms (p : Nat) (a : Antenna) (s : State) : (s.setAntenna p a).fms = s.fms := rfl
@[simp] theorem setAntenna_pcm (p : Nat) (a : Antenna) (s : State) : (s.setAntenna p a).pcm = s.pcm := rfl
@[simp] theorem setAntenna_pcmSeq (p : Nat) (a : Antenna) (s : State) : (s.setAntenna p a).pcmSeq = s.pcmSeq := rfl
@[simp] theorem setAntenna_heard (p : Nat) (a : Antenna) (s : State) : (s.setAntenna p a).heard = s.heard := rfl
@[simp] theorem setAntenna_tmc (p : Nat) (a : Antenna) (s : State) : (s.setAntenna p a).tmc = s.tmc := rfl
@[simp] theorem setAntenna_lantern (p : Nat) (a : Antenna) (s : State) : (s.setAntenna p a).lantern = s.lantern := rfl
@[simp] theorem setAntenna_dabs (p : Nat) (a : Antenna) (s : State) : (s.setAntenna p a).dabs = s.dabs := rfl
@[simp] theorem setAntenna_dabDecoders (p : Nat) (a : Antenna) (s : State) : (s.setAntenna p a).dabDecoders = s.dabDecoders := rfl
@[simp] theorem setAntenna_voices (p : Nat) (a : Antenna) (s : State) : (s.setAntenna p a).voices = s.voices := rfl
@[simp] theorem setAntenna_ams (p : Nat) (a : Antenna) (s : State) : (s.setAntenna p a).ams = s.ams := rfl
@[simp] theorem setAntenna_drms (p : Nat) (a : Antenna) (s : State) : (s.setAntenna p a).drms = s.drms := rfl
@[simp] theorem setAntenna_drmSel (p : Nat) (a : Antenna) (s : State) : (s.setAntenna p a).drmSel = s.drmSel := rfl
@[simp] theorem setAntenna_following (p : Nat) (a : Antenna) (s : State) : (s.setAntenna p a).following = s.following := rfl
@[simp] theorem setAntenna_gloaming (p : Nat) (a : Antenna) (s : State) : (s.setAntenna p a).gloaming = s.gloaming := rfl
@[simp] theorem setAntenna_streams (p : Nat) (a : Antenna) (s : State) : (s.setAntenna p a).streams = s.streams := rfl
@[simp] theorem setAntenna_iec (p : Nat) (a : Antenna) (s : State) : (s.setAntenna p a).iec = s.iec := rfl
@[simp] theorem setAntenna_radio (p : Nat) (a : Antenna) (s : State) : (s.setAntenna p a).radio = s.radio := rfl
@[simp] theorem setAntenna_link (p : Nat) (a : Antenna) (s : State) : (s.setAntenna p a).link = s.link := rfl
@[simp] theorem setAntenna_mesh (p : Nat) (a : Antenna) (s : State) : (s.setAntenna p a).mesh = s.mesh := rfl
@[simp] theorem setAntenna_cvs (p : Nat) (a : Antenna) (s : State) : (s.setAntenna p a).cvs = s.cvs := rfl
@[simp] theorem setAntenna_ports (p : Nat) (a : Antenna) (s : State) : (s.setAntenna p a).ports = s.ports := rfl
@[simp] theorem setAntenna_quoin (p : Nat) (a : Antenna) (s : State) : (s.setAntenna p a).quoin = s.quoin := rfl
@[simp] theorem setAntenna_twoWire (p : Nat) (a : Antenna) (s : State) : (s.setAntenna p a).twoWire = s.twoWire := rfl
@[simp] theorem setAntenna_pdos (p : Nat) (a : Antenna) (s : State) : (s.setAntenna p a).pdos = s.pdos := rfl
@[simp] theorem setAntenna_saving (p : Nat) (a : Antenna) (s : State) : (s.setAntenna p a).saving = s.saving := rfl

/-! ### setPlumb -/

@[simp] theorem setPlumb_pending (p : Nat) (r : Plumb) (s : State) : (s.setPlumb p r).pending = s.pending := rfl
@[simp] theorem setPlumb_mode (p : Nat) (r : Plumb) (s : State) : (s.setPlumb p r).mode = s.mode := rfl
@[simp] theorem setPlumb_ready (p : Nat) (r : Plumb) (s : State) : (s.setPlumb p r).ready = s.ready := rfl
@[simp] theorem setPlumb_gnomon (p : Nat) (r : Plumb) (s : State) : (s.setPlumb p r).gnomon = s.gnomon := rfl
@[simp] theorem setPlumb_freeCtr (p : Nat) (r : Plumb) (s : State) : (s.setPlumb p r).freeCtr = s.freeCtr := rfl
@[simp] theorem setPlumb_dict (p : Nat) (r : Plumb) (s : State) : (s.setPlumb p r).dict = s.dict := rfl
@[simp] theorem setPlumb_committed (p : Nat) (r : Plumb) (s : State) : (s.setPlumb p r).committed = s.committed := rfl
@[simp] theorem setPlumb_awaiting (p : Nat) (r : Plumb) (s : State) : (s.setPlumb p r).awaiting = s.awaiting := rfl
@[simp] theorem setPlumb_held (p : Nat) (r : Plumb) (s : State) : (s.setPlumb p r).held = s.held := rfl
@[simp] theorem setPlumb_fifos (p : Nat) (r : Plumb) (s : State) : (s.setPlumb p r).fifos = s.fifos := rfl
@[simp] theorem setPlumb_events (p : Nat) (r : Plumb) (s : State) : (s.setPlumb p r).events = s.events := rfl
@[simp] theorem setPlumb_answer (p : Nat) (r : Plumb) (s : State) : (s.setPlumb p r).answer = s.answer := rfl
@[simp] theorem setPlumb_answeredPorts (p : Nat) (r : Plumb) (s : State) : (s.setPlumb p r).answeredPorts = s.answeredPorts := rfl
@[simp] theorem setPlumb_launch (p : Nat) (r : Plumb) (s : State) : (s.setPlumb p r).launch = s.launch := rfl
@[simp] theorem setPlumb_prep (p : Nat) (r : Plumb) (s : State) : (s.setPlumb p r).prep = s.prep := rfl
@[simp] theorem setPlumb_holdings (p : Nat) (r : Plumb) (s : State) : (s.setPlumb p r).holdings = s.holdings := rfl
@[simp] theorem setPlumb_shares (p : Nat) (r : Plumb) (s : State) : (s.setPlumb p r).shares = s.shares := rfl
@[simp] theorem setPlumb_accelConfigured (p : Nat) (r : Plumb) (s : State) : (s.setPlumb p r).accelConfigured = s.accelConfigured := rfl
@[simp] theorem setPlumb_accelOwn (p : Nat) (r : Plumb) (s : State) : (s.setPlumb p r).accelOwn = s.accelOwn := rfl
@[simp] theorem setPlumb_utcPrev (p : Nat) (r : Plumb) (s : State) : (s.setPlumb p r).utcPrev = s.utcPrev := rfl
@[simp] theorem setPlumb_tbSync (p : Nat) (r : Plumb) (s : State) : (s.setPlumb p r).tbSync = s.tbSync := rfl
@[simp] theorem setPlumb_otp (p : Nat) (r : Plumb) (s : State) : (s.setPlumb p r).otp = s.otp := rfl
@[simp] theorem setPlumb_flash (p : Nat) (r : Plumb) (s : State) : (s.setPlumb p r).flash = s.flash := rfl
@[simp] theorem setPlumb_sec (p : Nat) (r : Plumb) (s : State) : (s.setPlumb p r).sec = s.sec := rfl
@[simp] theorem setPlumb_log (p : Nat) (r : Plumb) (s : State) : (s.setPlumb p r).log = s.log := rfl
@[simp] theorem setPlumb_upd (p : Nat) (r : Plumb) (s : State) : (s.setPlumb p r).upd = s.upd := rfl
@[simp] theorem setPlumb_gpioFired (p : Nat) (r : Plumb) (s : State) : (s.setPlumb p r).gpioFired = s.gpioFired := rfl
@[simp] theorem setPlumb_power (p : Nat) (r : Plumb) (s : State) : (s.setPlumb p r).power = s.power := rfl
@[simp] theorem setPlumb_paths (p : Nat) (r : Plumb) (s : State) : (s.setPlumb p r).paths = s.paths := rfl
@[simp] theorem setPlumb_amQuietSince (p : Nat) (r : Plumb) (s : State) : (s.setPlumb p r).amQuietSince = s.amQuietSince := rfl
@[simp] theorem setPlumb_antennas (p : Nat) (r : Plumb) (s : State) : (s.setPlumb p r).antennas = s.antennas := rfl
@[simp] theorem setPlumb_chains (p : Nat) (r : Plumb) (s : State) : (s.setPlumb p r).chains = s.chains := rfl
@[simp] theorem setPlumb_engines (p : Nat) (r : Plumb) (s : State) : (s.setPlumb p r).engines = s.engines := rfl
@[simp] theorem setPlumb_loads (p : Nat) (r : Plumb) (s : State) : (s.setPlumb p r).loads = s.loads := rfl
@[simp] theorem setPlumb_accels (p : Nat) (r : Plumb) (s : State) : (s.setPlumb p r).accels = s.accels := rfl
@[simp] theorem setPlumb_claimedAt (p : Nat) (r : Plumb) (s : State) : (s.setPlumb p r).claimedAt = s.claimedAt := rfl
@[simp] theorem setPlumb_shm (p : Nat) (r : Plumb) (s : State) : (s.setPlumb p r).shm = s.shm := rfl
@[simp] theorem setPlumb_captures (p : Nat) (r : Plumb) (s : State) : (s.setPlumb p r).captures = s.captures := rfl
@[simp] theorem setPlumb_fms (p : Nat) (r : Plumb) (s : State) : (s.setPlumb p r).fms = s.fms := rfl
@[simp] theorem setPlumb_pcm (p : Nat) (r : Plumb) (s : State) : (s.setPlumb p r).pcm = s.pcm := rfl
@[simp] theorem setPlumb_pcmSeq (p : Nat) (r : Plumb) (s : State) : (s.setPlumb p r).pcmSeq = s.pcmSeq := rfl
@[simp] theorem setPlumb_heard (p : Nat) (r : Plumb) (s : State) : (s.setPlumb p r).heard = s.heard := rfl
@[simp] theorem setPlumb_tmc (p : Nat) (r : Plumb) (s : State) : (s.setPlumb p r).tmc = s.tmc := rfl
@[simp] theorem setPlumb_lantern (p : Nat) (r : Plumb) (s : State) : (s.setPlumb p r).lantern = s.lantern := rfl
@[simp] theorem setPlumb_dabs (p : Nat) (r : Plumb) (s : State) : (s.setPlumb p r).dabs = s.dabs := rfl
@[simp] theorem setPlumb_dabDecoders (p : Nat) (r : Plumb) (s : State) : (s.setPlumb p r).dabDecoders = s.dabDecoders := rfl
@[simp] theorem setPlumb_voices (p : Nat) (r : Plumb) (s : State) : (s.setPlumb p r).voices = s.voices := rfl
@[simp] theorem setPlumb_ams (p : Nat) (r : Plumb) (s : State) : (s.setPlumb p r).ams = s.ams := rfl
@[simp] theorem setPlumb_drms (p : Nat) (r : Plumb) (s : State) : (s.setPlumb p r).drms = s.drms := rfl
@[simp] theorem setPlumb_drmSel (p : Nat) (r : Plumb) (s : State) : (s.setPlumb p r).drmSel = s.drmSel := rfl
@[simp] theorem setPlumb_following (p : Nat) (r : Plumb) (s : State) : (s.setPlumb p r).following = s.following := rfl
@[simp] theorem setPlumb_gloaming (p : Nat) (r : Plumb) (s : State) : (s.setPlumb p r).gloaming = s.gloaming := rfl
@[simp] theorem setPlumb_streams (p : Nat) (r : Plumb) (s : State) : (s.setPlumb p r).streams = s.streams := rfl
@[simp] theorem setPlumb_iec (p : Nat) (r : Plumb) (s : State) : (s.setPlumb p r).iec = s.iec := rfl
@[simp] theorem setPlumb_radio (p : Nat) (r : Plumb) (s : State) : (s.setPlumb p r).radio = s.radio := rfl
@[simp] theorem setPlumb_link (p : Nat) (r : Plumb) (s : State) : (s.setPlumb p r).link = s.link := rfl
@[simp] theorem setPlumb_mesh (p : Nat) (r : Plumb) (s : State) : (s.setPlumb p r).mesh = s.mesh := rfl
@[simp] theorem setPlumb_cvs (p : Nat) (r : Plumb) (s : State) : (s.setPlumb p r).cvs = s.cvs := rfl
@[simp] theorem setPlumb_ports (p : Nat) (r : Plumb) (s : State) : (s.setPlumb p r).ports = s.ports := rfl
@[simp] theorem setPlumb_quoin (p : Nat) (r : Plumb) (s : State) : (s.setPlumb p r).quoin = s.quoin := rfl
@[simp] theorem setPlumb_twoWire (p : Nat) (r : Plumb) (s : State) : (s.setPlumb p r).twoWire = s.twoWire := rfl
@[simp] theorem setPlumb_pdos (p : Nat) (r : Plumb) (s : State) : (s.setPlumb p r).pdos = s.pdos := rfl
@[simp] theorem setPlumb_saving (p : Nat) (r : Plumb) (s : State) : (s.setPlumb p r).saving = s.saving := rfl

/-! ### setChain -/

@[simp] theorem setChain_pending (n : Nat) (c : Chain) (s : State) : (s.setChain n c).pending = s.pending := rfl
@[simp] theorem setChain_mode (n : Nat) (c : Chain) (s : State) : (s.setChain n c).mode = s.mode := rfl
@[simp] theorem setChain_ready (n : Nat) (c : Chain) (s : State) : (s.setChain n c).ready = s.ready := rfl
@[simp] theorem setChain_gnomon (n : Nat) (c : Chain) (s : State) : (s.setChain n c).gnomon = s.gnomon := rfl
@[simp] theorem setChain_freeCtr (n : Nat) (c : Chain) (s : State) : (s.setChain n c).freeCtr = s.freeCtr := rfl
@[simp] theorem setChain_dict (n : Nat) (c : Chain) (s : State) : (s.setChain n c).dict = s.dict := rfl
@[simp] theorem setChain_committed (n : Nat) (c : Chain) (s : State) : (s.setChain n c).committed = s.committed := rfl
@[simp] theorem setChain_awaiting (n : Nat) (c : Chain) (s : State) : (s.setChain n c).awaiting = s.awaiting := rfl
@[simp] theorem setChain_held (n : Nat) (c : Chain) (s : State) : (s.setChain n c).held = s.held := rfl
@[simp] theorem setChain_fifos (n : Nat) (c : Chain) (s : State) : (s.setChain n c).fifos = s.fifos := rfl
@[simp] theorem setChain_events (n : Nat) (c : Chain) (s : State) : (s.setChain n c).events = s.events := rfl
@[simp] theorem setChain_answer (n : Nat) (c : Chain) (s : State) : (s.setChain n c).answer = s.answer := rfl
@[simp] theorem setChain_answeredPorts (n : Nat) (c : Chain) (s : State) : (s.setChain n c).answeredPorts = s.answeredPorts := rfl
@[simp] theorem setChain_launch (n : Nat) (c : Chain) (s : State) : (s.setChain n c).launch = s.launch := rfl
@[simp] theorem setChain_prep (n : Nat) (c : Chain) (s : State) : (s.setChain n c).prep = s.prep := rfl
@[simp] theorem setChain_holdings (n : Nat) (c : Chain) (s : State) : (s.setChain n c).holdings = s.holdings := rfl
@[simp] theorem setChain_shares (n : Nat) (c : Chain) (s : State) : (s.setChain n c).shares = s.shares := rfl
@[simp] theorem setChain_accelConfigured (n : Nat) (c : Chain) (s : State) : (s.setChain n c).accelConfigured = s.accelConfigured := rfl
@[simp] theorem setChain_accelOwn (n : Nat) (c : Chain) (s : State) : (s.setChain n c).accelOwn = s.accelOwn := rfl
@[simp] theorem setChain_utcPrev (n : Nat) (c : Chain) (s : State) : (s.setChain n c).utcPrev = s.utcPrev := rfl
@[simp] theorem setChain_tbSync (n : Nat) (c : Chain) (s : State) : (s.setChain n c).tbSync = s.tbSync := rfl
@[simp] theorem setChain_otp (n : Nat) (c : Chain) (s : State) : (s.setChain n c).otp = s.otp := rfl
@[simp] theorem setChain_flash (n : Nat) (c : Chain) (s : State) : (s.setChain n c).flash = s.flash := rfl
@[simp] theorem setChain_sec (n : Nat) (c : Chain) (s : State) : (s.setChain n c).sec = s.sec := rfl
@[simp] theorem setChain_log (n : Nat) (c : Chain) (s : State) : (s.setChain n c).log = s.log := rfl
@[simp] theorem setChain_upd (n : Nat) (c : Chain) (s : State) : (s.setChain n c).upd = s.upd := rfl
@[simp] theorem setChain_gpioFired (n : Nat) (c : Chain) (s : State) : (s.setChain n c).gpioFired = s.gpioFired := rfl
@[simp] theorem setChain_power (n : Nat) (c : Chain) (s : State) : (s.setChain n c).power = s.power := rfl
@[simp] theorem setChain_paths (n : Nat) (c : Chain) (s : State) : (s.setChain n c).paths = s.paths := rfl
@[simp] theorem setChain_amQuietSince (n : Nat) (c : Chain) (s : State) : (s.setChain n c).amQuietSince = s.amQuietSince := rfl
@[simp] theorem setChain_antennas (n : Nat) (c : Chain) (s : State) : (s.setChain n c).antennas = s.antennas := rfl
@[simp] theorem setChain_plumb (n : Nat) (c : Chain) (s : State) : (s.setChain n c).plumb = s.plumb := rfl
@[simp] theorem setChain_engines (n : Nat) (c : Chain) (s : State) : (s.setChain n c).engines = s.engines := rfl
@[simp] theorem setChain_loads (n : Nat) (c : Chain) (s : State) : (s.setChain n c).loads = s.loads := rfl
@[simp] theorem setChain_accels (n : Nat) (c : Chain) (s : State) : (s.setChain n c).accels = s.accels := rfl
@[simp] theorem setChain_claimedAt (n : Nat) (c : Chain) (s : State) : (s.setChain n c).claimedAt = s.claimedAt := rfl
@[simp] theorem setChain_shm (n : Nat) (c : Chain) (s : State) : (s.setChain n c).shm = s.shm := rfl
@[simp] theorem setChain_captures (n : Nat) (c : Chain) (s : State) : (s.setChain n c).captures = s.captures := rfl
@[simp] theorem setChain_fms (n : Nat) (c : Chain) (s : State) : (s.setChain n c).fms = s.fms := rfl
@[simp] theorem setChain_pcm (n : Nat) (c : Chain) (s : State) : (s.setChain n c).pcm = s.pcm := rfl
@[simp] theorem setChain_pcmSeq (n : Nat) (c : Chain) (s : State) : (s.setChain n c).pcmSeq = s.pcmSeq := rfl
@[simp] theorem setChain_heard (n : Nat) (c : Chain) (s : State) : (s.setChain n c).heard = s.heard := rfl
@[simp] theorem setChain_tmc (n : Nat) (c : Chain) (s : State) : (s.setChain n c).tmc = s.tmc := rfl
@[simp] theorem setChain_lantern (n : Nat) (c : Chain) (s : State) : (s.setChain n c).lantern = s.lantern := rfl
@[simp] theorem setChain_dabs (n : Nat) (c : Chain) (s : State) : (s.setChain n c).dabs = s.dabs := rfl
@[simp] theorem setChain_dabDecoders (n : Nat) (c : Chain) (s : State) : (s.setChain n c).dabDecoders = s.dabDecoders := rfl
@[simp] theorem setChain_voices (n : Nat) (c : Chain) (s : State) : (s.setChain n c).voices = s.voices := rfl
@[simp] theorem setChain_ams (n : Nat) (c : Chain) (s : State) : (s.setChain n c).ams = s.ams := rfl
@[simp] theorem setChain_drms (n : Nat) (c : Chain) (s : State) : (s.setChain n c).drms = s.drms := rfl
@[simp] theorem setChain_drmSel (n : Nat) (c : Chain) (s : State) : (s.setChain n c).drmSel = s.drmSel := rfl
@[simp] theorem setChain_following (n : Nat) (c : Chain) (s : State) : (s.setChain n c).following = s.following := rfl
@[simp] theorem setChain_gloaming (n : Nat) (c : Chain) (s : State) : (s.setChain n c).gloaming = s.gloaming := rfl
@[simp] theorem setChain_streams (n : Nat) (c : Chain) (s : State) : (s.setChain n c).streams = s.streams := rfl
@[simp] theorem setChain_iec (n : Nat) (c : Chain) (s : State) : (s.setChain n c).iec = s.iec := rfl
@[simp] theorem setChain_radio (n : Nat) (c : Chain) (s : State) : (s.setChain n c).radio = s.radio := rfl
@[simp] theorem setChain_link (n : Nat) (c : Chain) (s : State) : (s.setChain n c).link = s.link := rfl
@[simp] theorem setChain_mesh (n : Nat) (c : Chain) (s : State) : (s.setChain n c).mesh = s.mesh := rfl
@[simp] theorem setChain_cvs (n : Nat) (c : Chain) (s : State) : (s.setChain n c).cvs = s.cvs := rfl
@[simp] theorem setChain_ports (n : Nat) (c : Chain) (s : State) : (s.setChain n c).ports = s.ports := rfl
@[simp] theorem setChain_quoin (n : Nat) (c : Chain) (s : State) : (s.setChain n c).quoin = s.quoin := rfl
@[simp] theorem setChain_twoWire (n : Nat) (c : Chain) (s : State) : (s.setChain n c).twoWire = s.twoWire := rfl
@[simp] theorem setChain_pdos (n : Nat) (c : Chain) (s : State) : (s.setChain n c).pdos = s.pdos := rfl
@[simp] theorem setChain_saving (n : Nat) (c : Chain) (s : State) : (s.setChain n c).saving = s.saving := rfl

/-! ### setEngine -/

@[simp] theorem setEngine_pending (n : Nat) (e : Engine) (s : State) : (s.setEngine n e).pending = s.pending := rfl
@[simp] theorem setEngine_mode (n : Nat) (e : Engine) (s : State) : (s.setEngine n e).mode = s.mode := rfl
@[simp] theorem setEngine_ready (n : Nat) (e : Engine) (s : State) : (s.setEngine n e).ready = s.ready := rfl
@[simp] theorem setEngine_gnomon (n : Nat) (e : Engine) (s : State) : (s.setEngine n e).gnomon = s.gnomon := rfl
@[simp] theorem setEngine_freeCtr (n : Nat) (e : Engine) (s : State) : (s.setEngine n e).freeCtr = s.freeCtr := rfl
@[simp] theorem setEngine_dict (n : Nat) (e : Engine) (s : State) : (s.setEngine n e).dict = s.dict := rfl
@[simp] theorem setEngine_committed (n : Nat) (e : Engine) (s : State) : (s.setEngine n e).committed = s.committed := rfl
@[simp] theorem setEngine_awaiting (n : Nat) (e : Engine) (s : State) : (s.setEngine n e).awaiting = s.awaiting := rfl
@[simp] theorem setEngine_held (n : Nat) (e : Engine) (s : State) : (s.setEngine n e).held = s.held := rfl
@[simp] theorem setEngine_fifos (n : Nat) (e : Engine) (s : State) : (s.setEngine n e).fifos = s.fifos := rfl
@[simp] theorem setEngine_events (n : Nat) (e : Engine) (s : State) : (s.setEngine n e).events = s.events := rfl
@[simp] theorem setEngine_answer (n : Nat) (e : Engine) (s : State) : (s.setEngine n e).answer = s.answer := rfl
@[simp] theorem setEngine_answeredPorts (n : Nat) (e : Engine) (s : State) : (s.setEngine n e).answeredPorts = s.answeredPorts := rfl
@[simp] theorem setEngine_launch (n : Nat) (e : Engine) (s : State) : (s.setEngine n e).launch = s.launch := rfl
@[simp] theorem setEngine_prep (n : Nat) (e : Engine) (s : State) : (s.setEngine n e).prep = s.prep := rfl
@[simp] theorem setEngine_holdings (n : Nat) (e : Engine) (s : State) : (s.setEngine n e).holdings = s.holdings := rfl
@[simp] theorem setEngine_shares (n : Nat) (e : Engine) (s : State) : (s.setEngine n e).shares = s.shares := rfl
@[simp] theorem setEngine_accelConfigured (n : Nat) (e : Engine) (s : State) : (s.setEngine n e).accelConfigured = s.accelConfigured := rfl
@[simp] theorem setEngine_accelOwn (n : Nat) (e : Engine) (s : State) : (s.setEngine n e).accelOwn = s.accelOwn := rfl
@[simp] theorem setEngine_utcPrev (n : Nat) (e : Engine) (s : State) : (s.setEngine n e).utcPrev = s.utcPrev := rfl
@[simp] theorem setEngine_tbSync (n : Nat) (e : Engine) (s : State) : (s.setEngine n e).tbSync = s.tbSync := rfl
@[simp] theorem setEngine_otp (n : Nat) (e : Engine) (s : State) : (s.setEngine n e).otp = s.otp := rfl
@[simp] theorem setEngine_flash (n : Nat) (e : Engine) (s : State) : (s.setEngine n e).flash = s.flash := rfl
@[simp] theorem setEngine_sec (n : Nat) (e : Engine) (s : State) : (s.setEngine n e).sec = s.sec := rfl
@[simp] theorem setEngine_log (n : Nat) (e : Engine) (s : State) : (s.setEngine n e).log = s.log := rfl
@[simp] theorem setEngine_upd (n : Nat) (e : Engine) (s : State) : (s.setEngine n e).upd = s.upd := rfl
@[simp] theorem setEngine_gpioFired (n : Nat) (e : Engine) (s : State) : (s.setEngine n e).gpioFired = s.gpioFired := rfl
@[simp] theorem setEngine_power (n : Nat) (e : Engine) (s : State) : (s.setEngine n e).power = s.power := rfl
@[simp] theorem setEngine_paths (n : Nat) (e : Engine) (s : State) : (s.setEngine n e).paths = s.paths := rfl
@[simp] theorem setEngine_amQuietSince (n : Nat) (e : Engine) (s : State) : (s.setEngine n e).amQuietSince = s.amQuietSince := rfl
@[simp] theorem setEngine_antennas (n : Nat) (e : Engine) (s : State) : (s.setEngine n e).antennas = s.antennas := rfl
@[simp] theorem setEngine_plumb (n : Nat) (e : Engine) (s : State) : (s.setEngine n e).plumb = s.plumb := rfl
@[simp] theorem setEngine_chains (n : Nat) (e : Engine) (s : State) : (s.setEngine n e).chains = s.chains := rfl
@[simp] theorem setEngine_loads (n : Nat) (e : Engine) (s : State) : (s.setEngine n e).loads = s.loads := rfl
@[simp] theorem setEngine_accels (n : Nat) (e : Engine) (s : State) : (s.setEngine n e).accels = s.accels := rfl
@[simp] theorem setEngine_claimedAt (n : Nat) (e : Engine) (s : State) : (s.setEngine n e).claimedAt = s.claimedAt := rfl
@[simp] theorem setEngine_shm (n : Nat) (e : Engine) (s : State) : (s.setEngine n e).shm = s.shm := rfl
@[simp] theorem setEngine_captures (n : Nat) (e : Engine) (s : State) : (s.setEngine n e).captures = s.captures := rfl
@[simp] theorem setEngine_fms (n : Nat) (e : Engine) (s : State) : (s.setEngine n e).fms = s.fms := rfl
@[simp] theorem setEngine_pcm (n : Nat) (e : Engine) (s : State) : (s.setEngine n e).pcm = s.pcm := rfl
@[simp] theorem setEngine_pcmSeq (n : Nat) (e : Engine) (s : State) : (s.setEngine n e).pcmSeq = s.pcmSeq := rfl
@[simp] theorem setEngine_heard (n : Nat) (e : Engine) (s : State) : (s.setEngine n e).heard = s.heard := rfl
@[simp] theorem setEngine_tmc (n : Nat) (e : Engine) (s : State) : (s.setEngine n e).tmc = s.tmc := rfl
@[simp] theorem setEngine_lantern (n : Nat) (e : Engine) (s : State) : (s.setEngine n e).lantern = s.lantern := rfl
@[simp] theorem setEngine_dabs (n : Nat) (e : Engine) (s : State) : (s.setEngine n e).dabs = s.dabs := rfl
@[simp] theorem setEngine_dabDecoders (n : Nat) (e : Engine) (s : State) : (s.setEngine n e).dabDecoders = s.dabDecoders := rfl
@[simp] theorem setEngine_voices (n : Nat) (e : Engine) (s : State) : (s.setEngine n e).voices = s.voices := rfl
@[simp] theorem setEngine_ams (n : Nat) (e : Engine) (s : State) : (s.setEngine n e).ams = s.ams := rfl
@[simp] theorem setEngine_drms (n : Nat) (e : Engine) (s : State) : (s.setEngine n e).drms = s.drms := rfl
@[simp] theorem setEngine_drmSel (n : Nat) (e : Engine) (s : State) : (s.setEngine n e).drmSel = s.drmSel := rfl
@[simp] theorem setEngine_following (n : Nat) (e : Engine) (s : State) : (s.setEngine n e).following = s.following := rfl
@[simp] theorem setEngine_gloaming (n : Nat) (e : Engine) (s : State) : (s.setEngine n e).gloaming = s.gloaming := rfl
@[simp] theorem setEngine_streams (n : Nat) (e : Engine) (s : State) : (s.setEngine n e).streams = s.streams := rfl
@[simp] theorem setEngine_iec (n : Nat) (e : Engine) (s : State) : (s.setEngine n e).iec = s.iec := rfl
@[simp] theorem setEngine_radio (n : Nat) (e : Engine) (s : State) : (s.setEngine n e).radio = s.radio := rfl
@[simp] theorem setEngine_link (n : Nat) (e : Engine) (s : State) : (s.setEngine n e).link = s.link := rfl
@[simp] theorem setEngine_mesh (n : Nat) (e : Engine) (s : State) : (s.setEngine n e).mesh = s.mesh := rfl
@[simp] theorem setEngine_cvs (n : Nat) (e : Engine) (s : State) : (s.setEngine n e).cvs = s.cvs := rfl
@[simp] theorem setEngine_ports (n : Nat) (e : Engine) (s : State) : (s.setEngine n e).ports = s.ports := rfl
@[simp] theorem setEngine_quoin (n : Nat) (e : Engine) (s : State) : (s.setEngine n e).quoin = s.quoin := rfl
@[simp] theorem setEngine_twoWire (n : Nat) (e : Engine) (s : State) : (s.setEngine n e).twoWire = s.twoWire := rfl
@[simp] theorem setEngine_pdos (n : Nat) (e : Engine) (s : State) : (s.setEngine n e).pdos = s.pdos := rfl
@[simp] theorem setEngine_saving (n : Nat) (e : Engine) (s : State) : (s.setEngine n e).saving = s.saving := rfl

/-! ### setAccel -/

@[simp] theorem setAccel_pending (n : Nat) (a : Accel) (s : State) : (s.setAccel n a).pending = s.pending := rfl
@[simp] theorem setAccel_mode (n : Nat) (a : Accel) (s : State) : (s.setAccel n a).mode = s.mode := rfl
@[simp] theorem setAccel_ready (n : Nat) (a : Accel) (s : State) : (s.setAccel n a).ready = s.ready := rfl
@[simp] theorem setAccel_gnomon (n : Nat) (a : Accel) (s : State) : (s.setAccel n a).gnomon = s.gnomon := rfl
@[simp] theorem setAccel_freeCtr (n : Nat) (a : Accel) (s : State) : (s.setAccel n a).freeCtr = s.freeCtr := rfl
@[simp] theorem setAccel_dict (n : Nat) (a : Accel) (s : State) : (s.setAccel n a).dict = s.dict := rfl
@[simp] theorem setAccel_committed (n : Nat) (a : Accel) (s : State) : (s.setAccel n a).committed = s.committed := rfl
@[simp] theorem setAccel_awaiting (n : Nat) (a : Accel) (s : State) : (s.setAccel n a).awaiting = s.awaiting := rfl
@[simp] theorem setAccel_held (n : Nat) (a : Accel) (s : State) : (s.setAccel n a).held = s.held := rfl
@[simp] theorem setAccel_fifos (n : Nat) (a : Accel) (s : State) : (s.setAccel n a).fifos = s.fifos := rfl
@[simp] theorem setAccel_events (n : Nat) (a : Accel) (s : State) : (s.setAccel n a).events = s.events := rfl
@[simp] theorem setAccel_answer (n : Nat) (a : Accel) (s : State) : (s.setAccel n a).answer = s.answer := rfl
@[simp] theorem setAccel_answeredPorts (n : Nat) (a : Accel) (s : State) : (s.setAccel n a).answeredPorts = s.answeredPorts := rfl
@[simp] theorem setAccel_launch (n : Nat) (a : Accel) (s : State) : (s.setAccel n a).launch = s.launch := rfl
@[simp] theorem setAccel_prep (n : Nat) (a : Accel) (s : State) : (s.setAccel n a).prep = s.prep := rfl
@[simp] theorem setAccel_holdings (n : Nat) (a : Accel) (s : State) : (s.setAccel n a).holdings = s.holdings := rfl
@[simp] theorem setAccel_shares (n : Nat) (a : Accel) (s : State) : (s.setAccel n a).shares = s.shares := rfl
@[simp] theorem setAccel_accelConfigured (n : Nat) (a : Accel) (s : State) : (s.setAccel n a).accelConfigured = s.accelConfigured := rfl
@[simp] theorem setAccel_accelOwn (n : Nat) (a : Accel) (s : State) : (s.setAccel n a).accelOwn = s.accelOwn := rfl
@[simp] theorem setAccel_utcPrev (n : Nat) (a : Accel) (s : State) : (s.setAccel n a).utcPrev = s.utcPrev := rfl
@[simp] theorem setAccel_tbSync (n : Nat) (a : Accel) (s : State) : (s.setAccel n a).tbSync = s.tbSync := rfl
@[simp] theorem setAccel_otp (n : Nat) (a : Accel) (s : State) : (s.setAccel n a).otp = s.otp := rfl
@[simp] theorem setAccel_flash (n : Nat) (a : Accel) (s : State) : (s.setAccel n a).flash = s.flash := rfl
@[simp] theorem setAccel_sec (n : Nat) (a : Accel) (s : State) : (s.setAccel n a).sec = s.sec := rfl
@[simp] theorem setAccel_log (n : Nat) (a : Accel) (s : State) : (s.setAccel n a).log = s.log := rfl
@[simp] theorem setAccel_upd (n : Nat) (a : Accel) (s : State) : (s.setAccel n a).upd = s.upd := rfl
@[simp] theorem setAccel_gpioFired (n : Nat) (a : Accel) (s : State) : (s.setAccel n a).gpioFired = s.gpioFired := rfl
@[simp] theorem setAccel_power (n : Nat) (a : Accel) (s : State) : (s.setAccel n a).power = s.power := rfl
@[simp] theorem setAccel_paths (n : Nat) (a : Accel) (s : State) : (s.setAccel n a).paths = s.paths := rfl
@[simp] theorem setAccel_amQuietSince (n : Nat) (a : Accel) (s : State) : (s.setAccel n a).amQuietSince = s.amQuietSince := rfl
@[simp] theorem setAccel_antennas (n : Nat) (a : Accel) (s : State) : (s.setAccel n a).antennas = s.antennas := rfl
@[simp] theorem setAccel_plumb (n : Nat) (a : Accel) (s : State) : (s.setAccel n a).plumb = s.plumb := rfl
@[simp] theorem setAccel_chains (n : Nat) (a : Accel) (s : State) : (s.setAccel n a).chains = s.chains := rfl
@[simp] theorem setAccel_engines (n : Nat) (a : Accel) (s : State) : (s.setAccel n a).engines = s.engines := rfl
@[simp] theorem setAccel_loads (n : Nat) (a : Accel) (s : State) : (s.setAccel n a).loads = s.loads := rfl
@[simp] theorem setAccel_claimedAt (n : Nat) (a : Accel) (s : State) : (s.setAccel n a).claimedAt = s.claimedAt := rfl
@[simp] theorem setAccel_shm (n : Nat) (a : Accel) (s : State) : (s.setAccel n a).shm = s.shm := rfl
@[simp] theorem setAccel_captures (n : Nat) (a : Accel) (s : State) : (s.setAccel n a).captures = s.captures := rfl
@[simp] theorem setAccel_fms (n : Nat) (a : Accel) (s : State) : (s.setAccel n a).fms = s.fms := rfl
@[simp] theorem setAccel_pcm (n : Nat) (a : Accel) (s : State) : (s.setAccel n a).pcm = s.pcm := rfl
@[simp] theorem setAccel_pcmSeq (n : Nat) (a : Accel) (s : State) : (s.setAccel n a).pcmSeq = s.pcmSeq := rfl
@[simp] theorem setAccel_heard (n : Nat) (a : Accel) (s : State) : (s.setAccel n a).heard = s.heard := rfl
@[simp] theorem setAccel_tmc (n : Nat) (a : Accel) (s : State) : (s.setAccel n a).tmc = s.tmc := rfl
@[simp] theorem setAccel_lantern (n : Nat) (a : Accel) (s : State) : (s.setAccel n a).lantern = s.lantern := rfl
@[simp] theorem setAccel_dabs (n : Nat) (a : Accel) (s : State) : (s.setAccel n a).dabs = s.dabs := rfl
@[simp] theorem setAccel_dabDecoders (n : Nat) (a : Accel) (s : State) : (s.setAccel n a).dabDecoders = s.dabDecoders := rfl
@[simp] theorem setAccel_voices (n : Nat) (a : Accel) (s : State) : (s.setAccel n a).voices = s.voices := rfl
@[simp] theorem setAccel_ams (n : Nat) (a : Accel) (s : State) : (s.setAccel n a).ams = s.ams := rfl
@[simp] theorem setAccel_drms (n : Nat) (a : Accel) (s : State) : (s.setAccel n a).drms = s.drms := rfl
@[simp] theorem setAccel_drmSel (n : Nat) (a : Accel) (s : State) : (s.setAccel n a).drmSel = s.drmSel := rfl
@[simp] theorem setAccel_following (n : Nat) (a : Accel) (s : State) : (s.setAccel n a).following = s.following := rfl
@[simp] theorem setAccel_gloaming (n : Nat) (a : Accel) (s : State) : (s.setAccel n a).gloaming = s.gloaming := rfl
@[simp] theorem setAccel_streams (n : Nat) (a : Accel) (s : State) : (s.setAccel n a).streams = s.streams := rfl
@[simp] theorem setAccel_iec (n : Nat) (a : Accel) (s : State) : (s.setAccel n a).iec = s.iec := rfl
@[simp] theorem setAccel_radio (n : Nat) (a : Accel) (s : State) : (s.setAccel n a).radio = s.radio := rfl
@[simp] theorem setAccel_link (n : Nat) (a : Accel) (s : State) : (s.setAccel n a).link = s.link := rfl
@[simp] theorem setAccel_mesh (n : Nat) (a : Accel) (s : State) : (s.setAccel n a).mesh = s.mesh := rfl
@[simp] theorem setAccel_cvs (n : Nat) (a : Accel) (s : State) : (s.setAccel n a).cvs = s.cvs := rfl
@[simp] theorem setAccel_ports (n : Nat) (a : Accel) (s : State) : (s.setAccel n a).ports = s.ports := rfl
@[simp] theorem setAccel_quoin (n : Nat) (a : Accel) (s : State) : (s.setAccel n a).quoin = s.quoin := rfl
@[simp] theorem setAccel_twoWire (n : Nat) (a : Accel) (s : State) : (s.setAccel n a).twoWire = s.twoWire := rfl
@[simp] theorem setAccel_pdos (n : Nat) (a : Accel) (s : State) : (s.setAccel n a).pdos = s.pdos := rfl
@[simp] theorem setAccel_saving (n : Nat) (a : Accel) (s : State) : (s.setAccel n a).saving = s.saving := rfl

/-! ### setCapture -/

@[simp] theorem setCapture_pending (c : Nat) (r : Capture) (s : State) : (s.setCapture c r).pending = s.pending := rfl
@[simp] theorem setCapture_mode (c : Nat) (r : Capture) (s : State) : (s.setCapture c r).mode = s.mode := rfl
@[simp] theorem setCapture_ready (c : Nat) (r : Capture) (s : State) : (s.setCapture c r).ready = s.ready := rfl
@[simp] theorem setCapture_gnomon (c : Nat) (r : Capture) (s : State) : (s.setCapture c r).gnomon = s.gnomon := rfl
@[simp] theorem setCapture_freeCtr (c : Nat) (r : Capture) (s : State) : (s.setCapture c r).freeCtr = s.freeCtr := rfl
@[simp] theorem setCapture_dict (c : Nat) (r : Capture) (s : State) : (s.setCapture c r).dict = s.dict := rfl
@[simp] theorem setCapture_committed (c : Nat) (r : Capture) (s : State) : (s.setCapture c r).committed = s.committed := rfl
@[simp] theorem setCapture_awaiting (c : Nat) (r : Capture) (s : State) : (s.setCapture c r).awaiting = s.awaiting := rfl
@[simp] theorem setCapture_held (c : Nat) (r : Capture) (s : State) : (s.setCapture c r).held = s.held := rfl
@[simp] theorem setCapture_fifos (c : Nat) (r : Capture) (s : State) : (s.setCapture c r).fifos = s.fifos := rfl
@[simp] theorem setCapture_events (c : Nat) (r : Capture) (s : State) : (s.setCapture c r).events = s.events := rfl
@[simp] theorem setCapture_answer (c : Nat) (r : Capture) (s : State) : (s.setCapture c r).answer = s.answer := rfl
@[simp] theorem setCapture_answeredPorts (c : Nat) (r : Capture) (s : State) : (s.setCapture c r).answeredPorts = s.answeredPorts := rfl
@[simp] theorem setCapture_launch (c : Nat) (r : Capture) (s : State) : (s.setCapture c r).launch = s.launch := rfl
@[simp] theorem setCapture_prep (c : Nat) (r : Capture) (s : State) : (s.setCapture c r).prep = s.prep := rfl
@[simp] theorem setCapture_holdings (c : Nat) (r : Capture) (s : State) : (s.setCapture c r).holdings = s.holdings := rfl
@[simp] theorem setCapture_shares (c : Nat) (r : Capture) (s : State) : (s.setCapture c r).shares = s.shares := rfl
@[simp] theorem setCapture_accelConfigured (c : Nat) (r : Capture) (s : State) : (s.setCapture c r).accelConfigured = s.accelConfigured := rfl
@[simp] theorem setCapture_accelOwn (c : Nat) (r : Capture) (s : State) : (s.setCapture c r).accelOwn = s.accelOwn := rfl
@[simp] theorem setCapture_utcPrev (c : Nat) (r : Capture) (s : State) : (s.setCapture c r).utcPrev = s.utcPrev := rfl
@[simp] theorem setCapture_tbSync (c : Nat) (r : Capture) (s : State) : (s.setCapture c r).tbSync = s.tbSync := rfl
@[simp] theorem setCapture_otp (c : Nat) (r : Capture) (s : State) : (s.setCapture c r).otp = s.otp := rfl
@[simp] theorem setCapture_flash (c : Nat) (r : Capture) (s : State) : (s.setCapture c r).flash = s.flash := rfl
@[simp] theorem setCapture_sec (c : Nat) (r : Capture) (s : State) : (s.setCapture c r).sec = s.sec := rfl
@[simp] theorem setCapture_log (c : Nat) (r : Capture) (s : State) : (s.setCapture c r).log = s.log := rfl
@[simp] theorem setCapture_upd (c : Nat) (r : Capture) (s : State) : (s.setCapture c r).upd = s.upd := rfl
@[simp] theorem setCapture_gpioFired (c : Nat) (r : Capture) (s : State) : (s.setCapture c r).gpioFired = s.gpioFired := rfl
@[simp] theorem setCapture_power (c : Nat) (r : Capture) (s : State) : (s.setCapture c r).power = s.power := rfl
@[simp] theorem setCapture_paths (c : Nat) (r : Capture) (s : State) : (s.setCapture c r).paths = s.paths := rfl
@[simp] theorem setCapture_amQuietSince (c : Nat) (r : Capture) (s : State) : (s.setCapture c r).amQuietSince = s.amQuietSince := rfl
@[simp] theorem setCapture_antennas (c : Nat) (r : Capture) (s : State) : (s.setCapture c r).antennas = s.antennas := rfl
@[simp] theorem setCapture_plumb (c : Nat) (r : Capture) (s : State) : (s.setCapture c r).plumb = s.plumb := rfl
@[simp] theorem setCapture_chains (c : Nat) (r : Capture) (s : State) : (s.setCapture c r).chains = s.chains := rfl
@[simp] theorem setCapture_engines (c : Nat) (r : Capture) (s : State) : (s.setCapture c r).engines = s.engines := rfl
@[simp] theorem setCapture_loads (c : Nat) (r : Capture) (s : State) : (s.setCapture c r).loads = s.loads := rfl
@[simp] theorem setCapture_accels (c : Nat) (r : Capture) (s : State) : (s.setCapture c r).accels = s.accels := rfl
@[simp] theorem setCapture_claimedAt (c : Nat) (r : Capture) (s : State) : (s.setCapture c r).claimedAt = s.claimedAt := rfl
@[simp] theorem setCapture_shm (c : Nat) (r : Capture) (s : State) : (s.setCapture c r).shm = s.shm := rfl
@[simp] theorem setCapture_fms (c : Nat) (r : Capture) (s : State) : (s.setCapture c r).fms = s.fms := rfl
@[simp] theorem setCapture_pcm (c : Nat) (r : Capture) (s : State) : (s.setCapture c r).pcm = s.pcm := rfl
@[simp] theorem setCapture_pcmSeq (c : Nat) (r : Capture) (s : State) : (s.setCapture c r).pcmSeq = s.pcmSeq := rfl
@[simp] theorem setCapture_heard (c : Nat) (r : Capture) (s : State) : (s.setCapture c r).heard = s.heard := rfl
@[simp] theorem setCapture_tmc (c : Nat) (r : Capture) (s : State) : (s.setCapture c r).tmc = s.tmc := rfl
@[simp] theorem setCapture_lantern (c : Nat) (r : Capture) (s : State) : (s.setCapture c r).lantern = s.lantern := rfl
@[simp] theorem setCapture_dabs (c : Nat) (r : Capture) (s : State) : (s.setCapture c r).dabs = s.dabs := rfl
@[simp] theorem setCapture_dabDecoders (c : Nat) (r : Capture) (s : State) : (s.setCapture c r).dabDecoders = s.dabDecoders := rfl
@[simp] theorem setCapture_voices (c : Nat) (r : Capture) (s : State) : (s.setCapture c r).voices = s.voices := rfl
@[simp] theorem setCapture_ams (c : Nat) (r : Capture) (s : State) : (s.setCapture c r).ams = s.ams := rfl
@[simp] theorem setCapture_drms (c : Nat) (r : Capture) (s : State) : (s.setCapture c r).drms = s.drms := rfl
@[simp] theorem setCapture_drmSel (c : Nat) (r : Capture) (s : State) : (s.setCapture c r).drmSel = s.drmSel := rfl
@[simp] theorem setCapture_following (c : Nat) (r : Capture) (s : State) : (s.setCapture c r).following = s.following := rfl
@[simp] theorem setCapture_gloaming (c : Nat) (r : Capture) (s : State) : (s.setCapture c r).gloaming = s.gloaming := rfl
@[simp] theorem setCapture_streams (c : Nat) (r : Capture) (s : State) : (s.setCapture c r).streams = s.streams := rfl
@[simp] theorem setCapture_iec (c : Nat) (r : Capture) (s : State) : (s.setCapture c r).iec = s.iec := rfl
@[simp] theorem setCapture_radio (c : Nat) (r : Capture) (s : State) : (s.setCapture c r).radio = s.radio := rfl
@[simp] theorem setCapture_link (c : Nat) (r : Capture) (s : State) : (s.setCapture c r).link = s.link := rfl
@[simp] theorem setCapture_mesh (c : Nat) (r : Capture) (s : State) : (s.setCapture c r).mesh = s.mesh := rfl
@[simp] theorem setCapture_cvs (c : Nat) (r : Capture) (s : State) : (s.setCapture c r).cvs = s.cvs := rfl
@[simp] theorem setCapture_ports (c : Nat) (r : Capture) (s : State) : (s.setCapture c r).ports = s.ports := rfl
@[simp] theorem setCapture_quoin (c : Nat) (r : Capture) (s : State) : (s.setCapture c r).quoin = s.quoin := rfl
@[simp] theorem setCapture_twoWire (c : Nat) (r : Capture) (s : State) : (s.setCapture c r).twoWire = s.twoWire := rfl
@[simp] theorem setCapture_pdos (c : Nat) (r : Capture) (s : State) : (s.setCapture c r).pdos = s.pdos := rfl
@[simp] theorem setCapture_saving (c : Nat) (r : Capture) (s : State) : (s.setCapture c r).saving = s.saving := rfl

/-! ### setFm -/

@[simp] theorem setFm_pending (e : Nat) (r : Fm) (s : State) : (s.setFm e r).pending = s.pending := rfl
@[simp] theorem setFm_mode (e : Nat) (r : Fm) (s : State) : (s.setFm e r).mode = s.mode := rfl
@[simp] theorem setFm_ready (e : Nat) (r : Fm) (s : State) : (s.setFm e r).ready = s.ready := rfl
@[simp] theorem setFm_gnomon (e : Nat) (r : Fm) (s : State) : (s.setFm e r).gnomon = s.gnomon := rfl
@[simp] theorem setFm_freeCtr (e : Nat) (r : Fm) (s : State) : (s.setFm e r).freeCtr = s.freeCtr := rfl
@[simp] theorem setFm_dict (e : Nat) (r : Fm) (s : State) : (s.setFm e r).dict = s.dict := rfl
@[simp] theorem setFm_committed (e : Nat) (r : Fm) (s : State) : (s.setFm e r).committed = s.committed := rfl
@[simp] theorem setFm_awaiting (e : Nat) (r : Fm) (s : State) : (s.setFm e r).awaiting = s.awaiting := rfl
@[simp] theorem setFm_held (e : Nat) (r : Fm) (s : State) : (s.setFm e r).held = s.held := rfl
@[simp] theorem setFm_fifos (e : Nat) (r : Fm) (s : State) : (s.setFm e r).fifos = s.fifos := rfl
@[simp] theorem setFm_events (e : Nat) (r : Fm) (s : State) : (s.setFm e r).events = s.events := rfl
@[simp] theorem setFm_answer (e : Nat) (r : Fm) (s : State) : (s.setFm e r).answer = s.answer := rfl
@[simp] theorem setFm_answeredPorts (e : Nat) (r : Fm) (s : State) : (s.setFm e r).answeredPorts = s.answeredPorts := rfl
@[simp] theorem setFm_launch (e : Nat) (r : Fm) (s : State) : (s.setFm e r).launch = s.launch := rfl
@[simp] theorem setFm_prep (e : Nat) (r : Fm) (s : State) : (s.setFm e r).prep = s.prep := rfl
@[simp] theorem setFm_holdings (e : Nat) (r : Fm) (s : State) : (s.setFm e r).holdings = s.holdings := rfl
@[simp] theorem setFm_shares (e : Nat) (r : Fm) (s : State) : (s.setFm e r).shares = s.shares := rfl
@[simp] theorem setFm_accelConfigured (e : Nat) (r : Fm) (s : State) : (s.setFm e r).accelConfigured = s.accelConfigured := rfl
@[simp] theorem setFm_accelOwn (e : Nat) (r : Fm) (s : State) : (s.setFm e r).accelOwn = s.accelOwn := rfl
@[simp] theorem setFm_utcPrev (e : Nat) (r : Fm) (s : State) : (s.setFm e r).utcPrev = s.utcPrev := rfl
@[simp] theorem setFm_tbSync (e : Nat) (r : Fm) (s : State) : (s.setFm e r).tbSync = s.tbSync := rfl
@[simp] theorem setFm_otp (e : Nat) (r : Fm) (s : State) : (s.setFm e r).otp = s.otp := rfl
@[simp] theorem setFm_flash (e : Nat) (r : Fm) (s : State) : (s.setFm e r).flash = s.flash := rfl
@[simp] theorem setFm_sec (e : Nat) (r : Fm) (s : State) : (s.setFm e r).sec = s.sec := rfl
@[simp] theorem setFm_log (e : Nat) (r : Fm) (s : State) : (s.setFm e r).log = s.log := rfl
@[simp] theorem setFm_upd (e : Nat) (r : Fm) (s : State) : (s.setFm e r).upd = s.upd := rfl
@[simp] theorem setFm_gpioFired (e : Nat) (r : Fm) (s : State) : (s.setFm e r).gpioFired = s.gpioFired := rfl
@[simp] theorem setFm_power (e : Nat) (r : Fm) (s : State) : (s.setFm e r).power = s.power := rfl
@[simp] theorem setFm_paths (e : Nat) (r : Fm) (s : State) : (s.setFm e r).paths = s.paths := rfl
@[simp] theorem setFm_amQuietSince (e : Nat) (r : Fm) (s : State) : (s.setFm e r).amQuietSince = s.amQuietSince := rfl
@[simp] theorem setFm_antennas (e : Nat) (r : Fm) (s : State) : (s.setFm e r).antennas = s.antennas := rfl
@[simp] theorem setFm_plumb (e : Nat) (r : Fm) (s : State) : (s.setFm e r).plumb = s.plumb := rfl
@[simp] theorem setFm_chains (e : Nat) (r : Fm) (s : State) : (s.setFm e r).chains = s.chains := rfl
@[simp] theorem setFm_engines (e : Nat) (r : Fm) (s : State) : (s.setFm e r).engines = s.engines := rfl
@[simp] theorem setFm_loads (e : Nat) (r : Fm) (s : State) : (s.setFm e r).loads = s.loads := rfl
@[simp] theorem setFm_accels (e : Nat) (r : Fm) (s : State) : (s.setFm e r).accels = s.accels := rfl
@[simp] theorem setFm_claimedAt (e : Nat) (r : Fm) (s : State) : (s.setFm e r).claimedAt = s.claimedAt := rfl
@[simp] theorem setFm_shm (e : Nat) (r : Fm) (s : State) : (s.setFm e r).shm = s.shm := rfl
@[simp] theorem setFm_captures (e : Nat) (r : Fm) (s : State) : (s.setFm e r).captures = s.captures := rfl
@[simp] theorem setFm_pcm (e : Nat) (r : Fm) (s : State) : (s.setFm e r).pcm = s.pcm := rfl
@[simp] theorem setFm_pcmSeq (e : Nat) (r : Fm) (s : State) : (s.setFm e r).pcmSeq = s.pcmSeq := rfl
@[simp] theorem setFm_heard (e : Nat) (r : Fm) (s : State) : (s.setFm e r).heard = s.heard := rfl
@[simp] theorem setFm_tmc (e : Nat) (r : Fm) (s : State) : (s.setFm e r).tmc = s.tmc := rfl
@[simp] theorem setFm_lantern (e : Nat) (r : Fm) (s : State) : (s.setFm e r).lantern = s.lantern := rfl
@[simp] theorem setFm_dabs (e : Nat) (r : Fm) (s : State) : (s.setFm e r).dabs = s.dabs := rfl
@[simp] theorem setFm_dabDecoders (e : Nat) (r : Fm) (s : State) : (s.setFm e r).dabDecoders = s.dabDecoders := rfl
@[simp] theorem setFm_voices (e : Nat) (r : Fm) (s : State) : (s.setFm e r).voices = s.voices := rfl
@[simp] theorem setFm_ams (e : Nat) (r : Fm) (s : State) : (s.setFm e r).ams = s.ams := rfl
@[simp] theorem setFm_drms (e : Nat) (r : Fm) (s : State) : (s.setFm e r).drms = s.drms := rfl
@[simp] theorem setFm_drmSel (e : Nat) (r : Fm) (s : State) : (s.setFm e r).drmSel = s.drmSel := rfl
@[simp] theorem setFm_following (e : Nat) (r : Fm) (s : State) : (s.setFm e r).following = s.following := rfl
@[simp] theorem setFm_gloaming (e : Nat) (r : Fm) (s : State) : (s.setFm e r).gloaming = s.gloaming := rfl
@[simp] theorem setFm_streams (e : Nat) (r : Fm) (s : State) : (s.setFm e r).streams = s.streams := rfl
@[simp] theorem setFm_iec (e : Nat) (r : Fm) (s : State) : (s.setFm e r).iec = s.iec := rfl
@[simp] theorem setFm_radio (e : Nat) (r : Fm) (s : State) : (s.setFm e r).radio = s.radio := rfl
@[simp] theorem setFm_link (e : Nat) (r : Fm) (s : State) : (s.setFm e r).link = s.link := rfl
@[simp] theorem setFm_mesh (e : Nat) (r : Fm) (s : State) : (s.setFm e r).mesh = s.mesh := rfl
@[simp] theorem setFm_cvs (e : Nat) (r : Fm) (s : State) : (s.setFm e r).cvs = s.cvs := rfl
@[simp] theorem setFm_ports (e : Nat) (r : Fm) (s : State) : (s.setFm e r).ports = s.ports := rfl
@[simp] theorem setFm_quoin (e : Nat) (r : Fm) (s : State) : (s.setFm e r).quoin = s.quoin := rfl
@[simp] theorem setFm_twoWire (e : Nat) (r : Fm) (s : State) : (s.setFm e r).twoWire = s.twoWire := rfl
@[simp] theorem setFm_pdos (e : Nat) (r : Fm) (s : State) : (s.setFm e r).pdos = s.pdos := rfl
@[simp] theorem setFm_saving (e : Nat) (r : Fm) (s : State) : (s.setFm e r).saving = s.saving := rfl

/-! ### setDab -/

@[simp] theorem setDab_pending (e : Nat) (r : Dab) (s : State) : (s.setDab e r).pending = s.pending := rfl
@[simp] theorem setDab_mode (e : Nat) (r : Dab) (s : State) : (s.setDab e r).mode = s.mode := rfl
@[simp] theorem setDab_ready (e : Nat) (r : Dab) (s : State) : (s.setDab e r).ready = s.ready := rfl
@[simp] theorem setDab_gnomon (e : Nat) (r : Dab) (s : State) : (s.setDab e r).gnomon = s.gnomon := rfl
@[simp] theorem setDab_freeCtr (e : Nat) (r : Dab) (s : State) : (s.setDab e r).freeCtr = s.freeCtr := rfl
@[simp] theorem setDab_dict (e : Nat) (r : Dab) (s : State) : (s.setDab e r).dict = s.dict := rfl
@[simp] theorem setDab_committed (e : Nat) (r : Dab) (s : State) : (s.setDab e r).committed = s.committed := rfl
@[simp] theorem setDab_awaiting (e : Nat) (r : Dab) (s : State) : (s.setDab e r).awaiting = s.awaiting := rfl
@[simp] theorem setDab_held (e : Nat) (r : Dab) (s : State) : (s.setDab e r).held = s.held := rfl
@[simp] theorem setDab_fifos (e : Nat) (r : Dab) (s : State) : (s.setDab e r).fifos = s.fifos := rfl
@[simp] theorem setDab_events (e : Nat) (r : Dab) (s : State) : (s.setDab e r).events = s.events := rfl
@[simp] theorem setDab_answer (e : Nat) (r : Dab) (s : State) : (s.setDab e r).answer = s.answer := rfl
@[simp] theorem setDab_answeredPorts (e : Nat) (r : Dab) (s : State) : (s.setDab e r).answeredPorts = s.answeredPorts := rfl
@[simp] theorem setDab_launch (e : Nat) (r : Dab) (s : State) : (s.setDab e r).launch = s.launch := rfl
@[simp] theorem setDab_prep (e : Nat) (r : Dab) (s : State) : (s.setDab e r).prep = s.prep := rfl
@[simp] theorem setDab_holdings (e : Nat) (r : Dab) (s : State) : (s.setDab e r).holdings = s.holdings := rfl
@[simp] theorem setDab_shares (e : Nat) (r : Dab) (s : State) : (s.setDab e r).shares = s.shares := rfl
@[simp] theorem setDab_accelConfigured (e : Nat) (r : Dab) (s : State) : (s.setDab e r).accelConfigured = s.accelConfigured := rfl
@[simp] theorem setDab_accelOwn (e : Nat) (r : Dab) (s : State) : (s.setDab e r).accelOwn = s.accelOwn := rfl
@[simp] theorem setDab_utcPrev (e : Nat) (r : Dab) (s : State) : (s.setDab e r).utcPrev = s.utcPrev := rfl
@[simp] theorem setDab_tbSync (e : Nat) (r : Dab) (s : State) : (s.setDab e r).tbSync = s.tbSync := rfl
@[simp] theorem setDab_otp (e : Nat) (r : Dab) (s : State) : (s.setDab e r).otp = s.otp := rfl
@[simp] theorem setDab_flash (e : Nat) (r : Dab) (s : State) : (s.setDab e r).flash = s.flash := rfl
@[simp] theorem setDab_sec (e : Nat) (r : Dab) (s : State) : (s.setDab e r).sec = s.sec := rfl
@[simp] theorem setDab_log (e : Nat) (r : Dab) (s : State) : (s.setDab e r).log = s.log := rfl
@[simp] theorem setDab_upd (e : Nat) (r : Dab) (s : State) : (s.setDab e r).upd = s.upd := rfl
@[simp] theorem setDab_gpioFired (e : Nat) (r : Dab) (s : State) : (s.setDab e r).gpioFired = s.gpioFired := rfl
@[simp] theorem setDab_power (e : Nat) (r : Dab) (s : State) : (s.setDab e r).power = s.power := rfl
@[simp] theorem setDab_paths (e : Nat) (r : Dab) (s : State) : (s.setDab e r).paths = s.paths := rfl
@[simp] theorem setDab_amQuietSince (e : Nat) (r : Dab) (s : State) : (s.setDab e r).amQuietSince = s.amQuietSince := rfl
@[simp] theorem setDab_antennas (e : Nat) (r : Dab) (s : State) : (s.setDab e r).antennas = s.antennas := rfl
@[simp] theorem setDab_plumb (e : Nat) (r : Dab) (s : State) : (s.setDab e r).plumb = s.plumb := rfl
@[simp] theorem setDab_chains (e : Nat) (r : Dab) (s : State) : (s.setDab e r).chains = s.chains := rfl
@[simp] theorem setDab_engines (e : Nat) (r : Dab) (s : State) : (s.setDab e r).engines = s.engines := rfl
@[simp] theorem setDab_loads (e : Nat) (r : Dab) (s : State) : (s.setDab e r).loads = s.loads := rfl
@[simp] theorem setDab_accels (e : Nat) (r : Dab) (s : State) : (s.setDab e r).accels = s.accels := rfl
@[simp] theorem setDab_claimedAt (e : Nat) (r : Dab) (s : State) : (s.setDab e r).claimedAt = s.claimedAt := rfl
@[simp] theorem setDab_shm (e : Nat) (r : Dab) (s : State) : (s.setDab e r).shm = s.shm := rfl
@[simp] theorem setDab_captures (e : Nat) (r : Dab) (s : State) : (s.setDab e r).captures = s.captures := rfl
@[simp] theorem setDab_fms (e : Nat) (r : Dab) (s : State) : (s.setDab e r).fms = s.fms := rfl
@[simp] theorem setDab_pcm (e : Nat) (r : Dab) (s : State) : (s.setDab e r).pcm = s.pcm := rfl
@[simp] theorem setDab_pcmSeq (e : Nat) (r : Dab) (s : State) : (s.setDab e r).pcmSeq = s.pcmSeq := rfl
@[simp] theorem setDab_heard (e : Nat) (r : Dab) (s : State) : (s.setDab e r).heard = s.heard := rfl
@[simp] theorem setDab_tmc (e : Nat) (r : Dab) (s : State) : (s.setDab e r).tmc = s.tmc := rfl
@[simp] theorem setDab_lantern (e : Nat) (r : Dab) (s : State) : (s.setDab e r).lantern = s.lantern := rfl
@[simp] theorem setDab_dabDecoders (e : Nat) (r : Dab) (s : State) : (s.setDab e r).dabDecoders = s.dabDecoders := rfl
@[simp] theorem setDab_voices (e : Nat) (r : Dab) (s : State) : (s.setDab e r).voices = s.voices := rfl
@[simp] theorem setDab_ams (e : Nat) (r : Dab) (s : State) : (s.setDab e r).ams = s.ams := rfl
@[simp] theorem setDab_drms (e : Nat) (r : Dab) (s : State) : (s.setDab e r).drms = s.drms := rfl
@[simp] theorem setDab_drmSel (e : Nat) (r : Dab) (s : State) : (s.setDab e r).drmSel = s.drmSel := rfl
@[simp] theorem setDab_following (e : Nat) (r : Dab) (s : State) : (s.setDab e r).following = s.following := rfl
@[simp] theorem setDab_gloaming (e : Nat) (r : Dab) (s : State) : (s.setDab e r).gloaming = s.gloaming := rfl
@[simp] theorem setDab_streams (e : Nat) (r : Dab) (s : State) : (s.setDab e r).streams = s.streams := rfl
@[simp] theorem setDab_iec (e : Nat) (r : Dab) (s : State) : (s.setDab e r).iec = s.iec := rfl
@[simp] theorem setDab_radio (e : Nat) (r : Dab) (s : State) : (s.setDab e r).radio = s.radio := rfl
@[simp] theorem setDab_link (e : Nat) (r : Dab) (s : State) : (s.setDab e r).link = s.link := rfl
@[simp] theorem setDab_mesh (e : Nat) (r : Dab) (s : State) : (s.setDab e r).mesh = s.mesh := rfl
@[simp] theorem setDab_cvs (e : Nat) (r : Dab) (s : State) : (s.setDab e r).cvs = s.cvs := rfl
@[simp] theorem setDab_ports (e : Nat) (r : Dab) (s : State) : (s.setDab e r).ports = s.ports := rfl
@[simp] theorem setDab_quoin (e : Nat) (r : Dab) (s : State) : (s.setDab e r).quoin = s.quoin := rfl
@[simp] theorem setDab_twoWire (e : Nat) (r : Dab) (s : State) : (s.setDab e r).twoWire = s.twoWire := rfl
@[simp] theorem setDab_pdos (e : Nat) (r : Dab) (s : State) : (s.setDab e r).pdos = s.pdos := rfl
@[simp] theorem setDab_saving (e : Nat) (r : Dab) (s : State) : (s.setDab e r).saving = s.saving := rfl

/-! ### setDabDecoder -/

@[simp] theorem setDabDecoder_pending (e : Nat) (r : DabDecoder) (s : State) : (s.setDabDecoder e r).pending = s.pending := rfl
@[simp] theorem setDabDecoder_mode (e : Nat) (r : DabDecoder) (s : State) : (s.setDabDecoder e r).mode = s.mode := rfl
@[simp] theorem setDabDecoder_ready (e : Nat) (r : DabDecoder) (s : State) : (s.setDabDecoder e r).ready = s.ready := rfl
@[simp] theorem setDabDecoder_gnomon (e : Nat) (r : DabDecoder) (s : State) : (s.setDabDecoder e r).gnomon = s.gnomon := rfl
@[simp] theorem setDabDecoder_freeCtr (e : Nat) (r : DabDecoder) (s : State) : (s.setDabDecoder e r).freeCtr = s.freeCtr := rfl
@[simp] theorem setDabDecoder_dict (e : Nat) (r : DabDecoder) (s : State) : (s.setDabDecoder e r).dict = s.dict := rfl
@[simp] theorem setDabDecoder_committed (e : Nat) (r : DabDecoder) (s : State) : (s.setDabDecoder e r).committed = s.committed := rfl
@[simp] theorem setDabDecoder_awaiting (e : Nat) (r : DabDecoder) (s : State) : (s.setDabDecoder e r).awaiting = s.awaiting := rfl
@[simp] theorem setDabDecoder_held (e : Nat) (r : DabDecoder) (s : State) : (s.setDabDecoder e r).held = s.held := rfl
@[simp] theorem setDabDecoder_fifos (e : Nat) (r : DabDecoder) (s : State) : (s.setDabDecoder e r).fifos = s.fifos := rfl
@[simp] theorem setDabDecoder_events (e : Nat) (r : DabDecoder) (s : State) : (s.setDabDecoder e r).events = s.events := rfl
@[simp] theorem setDabDecoder_answer (e : Nat) (r : DabDecoder) (s : State) : (s.setDabDecoder e r).answer = s.answer := rfl
@[simp] theorem setDabDecoder_answeredPorts (e : Nat) (r : DabDecoder) (s : State) : (s.setDabDecoder e r).answeredPorts = s.answeredPorts := rfl
@[simp] theorem setDabDecoder_launch (e : Nat) (r : DabDecoder) (s : State) : (s.setDabDecoder e r).launch = s.launch := rfl
@[simp] theorem setDabDecoder_prep (e : Nat) (r : DabDecoder) (s : State) : (s.setDabDecoder e r).prep = s.prep := rfl
@[simp] theorem setDabDecoder_holdings (e : Nat) (r : DabDecoder) (s : State) : (s.setDabDecoder e r).holdings = s.holdings := rfl
@[simp] theorem setDabDecoder_shares (e : Nat) (r : DabDecoder) (s : State) : (s.setDabDecoder e r).shares = s.shares := rfl
@[simp] theorem setDabDecoder_accelConfigured (e : Nat) (r : DabDecoder) (s : State) : (s.setDabDecoder e r).accelConfigured = s.accelConfigured := rfl
@[simp] theorem setDabDecoder_accelOwn (e : Nat) (r : DabDecoder) (s : State) : (s.setDabDecoder e r).accelOwn = s.accelOwn := rfl
@[simp] theorem setDabDecoder_utcPrev (e : Nat) (r : DabDecoder) (s : State) : (s.setDabDecoder e r).utcPrev = s.utcPrev := rfl
@[simp] theorem setDabDecoder_tbSync (e : Nat) (r : DabDecoder) (s : State) : (s.setDabDecoder e r).tbSync = s.tbSync := rfl
@[simp] theorem setDabDecoder_otp (e : Nat) (r : DabDecoder) (s : State) : (s.setDabDecoder e r).otp = s.otp := rfl
@[simp] theorem setDabDecoder_flash (e : Nat) (r : DabDecoder) (s : State) : (s.setDabDecoder e r).flash = s.flash := rfl
@[simp] theorem setDabDecoder_sec (e : Nat) (r : DabDecoder) (s : State) : (s.setDabDecoder e r).sec = s.sec := rfl
@[simp] theorem setDabDecoder_log (e : Nat) (r : DabDecoder) (s : State) : (s.setDabDecoder e r).log = s.log := rfl
@[simp] theorem setDabDecoder_upd (e : Nat) (r : DabDecoder) (s : State) : (s.setDabDecoder e r).upd = s.upd := rfl
@[simp] theorem setDabDecoder_gpioFired (e : Nat) (r : DabDecoder) (s : State) : (s.setDabDecoder e r).gpioFired = s.gpioFired := rfl
@[simp] theorem setDabDecoder_power (e : Nat) (r : DabDecoder) (s : State) : (s.setDabDecoder e r).power = s.power := rfl
@[simp] theorem setDabDecoder_paths (e : Nat) (r : DabDecoder) (s : State) : (s.setDabDecoder e r).paths = s.paths := rfl
@[simp] theorem setDabDecoder_amQuietSince (e : Nat) (r : DabDecoder) (s : State) : (s.setDabDecoder e r).amQuietSince = s.amQuietSince := rfl
@[simp] theorem setDabDecoder_antennas (e : Nat) (r : DabDecoder) (s : State) : (s.setDabDecoder e r).antennas = s.antennas := rfl
@[simp] theorem setDabDecoder_plumb (e : Nat) (r : DabDecoder) (s : State) : (s.setDabDecoder e r).plumb = s.plumb := rfl
@[simp] theorem setDabDecoder_chains (e : Nat) (r : DabDecoder) (s : State) : (s.setDabDecoder e r).chains = s.chains := rfl
@[simp] theorem setDabDecoder_engines (e : Nat) (r : DabDecoder) (s : State) : (s.setDabDecoder e r).engines = s.engines := rfl
@[simp] theorem setDabDecoder_loads (e : Nat) (r : DabDecoder) (s : State) : (s.setDabDecoder e r).loads = s.loads := rfl
@[simp] theorem setDabDecoder_accels (e : Nat) (r : DabDecoder) (s : State) : (s.setDabDecoder e r).accels = s.accels := rfl
@[simp] theorem setDabDecoder_claimedAt (e : Nat) (r : DabDecoder) (s : State) : (s.setDabDecoder e r).claimedAt = s.claimedAt := rfl
@[simp] theorem setDabDecoder_shm (e : Nat) (r : DabDecoder) (s : State) : (s.setDabDecoder e r).shm = s.shm := rfl
@[simp] theorem setDabDecoder_captures (e : Nat) (r : DabDecoder) (s : State) : (s.setDabDecoder e r).captures = s.captures := rfl
@[simp] theorem setDabDecoder_fms (e : Nat) (r : DabDecoder) (s : State) : (s.setDabDecoder e r).fms = s.fms := rfl
@[simp] theorem setDabDecoder_pcm (e : Nat) (r : DabDecoder) (s : State) : (s.setDabDecoder e r).pcm = s.pcm := rfl
@[simp] theorem setDabDecoder_pcmSeq (e : Nat) (r : DabDecoder) (s : State) : (s.setDabDecoder e r).pcmSeq = s.pcmSeq := rfl
@[simp] theorem setDabDecoder_heard (e : Nat) (r : DabDecoder) (s : State) : (s.setDabDecoder e r).heard = s.heard := rfl
@[simp] theorem setDabDecoder_tmc (e : Nat) (r : DabDecoder) (s : State) : (s.setDabDecoder e r).tmc = s.tmc := rfl
@[simp] theorem setDabDecoder_lantern (e : Nat) (r : DabDecoder) (s : State) : (s.setDabDecoder e r).lantern = s.lantern := rfl
@[simp] theorem setDabDecoder_dabs (e : Nat) (r : DabDecoder) (s : State) : (s.setDabDecoder e r).dabs = s.dabs := rfl
@[simp] theorem setDabDecoder_voices (e : Nat) (r : DabDecoder) (s : State) : (s.setDabDecoder e r).voices = s.voices := rfl
@[simp] theorem setDabDecoder_ams (e : Nat) (r : DabDecoder) (s : State) : (s.setDabDecoder e r).ams = s.ams := rfl
@[simp] theorem setDabDecoder_drms (e : Nat) (r : DabDecoder) (s : State) : (s.setDabDecoder e r).drms = s.drms := rfl
@[simp] theorem setDabDecoder_drmSel (e : Nat) (r : DabDecoder) (s : State) : (s.setDabDecoder e r).drmSel = s.drmSel := rfl
@[simp] theorem setDabDecoder_following (e : Nat) (r : DabDecoder) (s : State) : (s.setDabDecoder e r).following = s.following := rfl
@[simp] theorem setDabDecoder_gloaming (e : Nat) (r : DabDecoder) (s : State) : (s.setDabDecoder e r).gloaming = s.gloaming := rfl
@[simp] theorem setDabDecoder_streams (e : Nat) (r : DabDecoder) (s : State) : (s.setDabDecoder e r).streams = s.streams := rfl
@[simp] theorem setDabDecoder_iec (e : Nat) (r : DabDecoder) (s : State) : (s.setDabDecoder e r).iec = s.iec := rfl
@[simp] theorem setDabDecoder_radio (e : Nat) (r : DabDecoder) (s : State) : (s.setDabDecoder e r).radio = s.radio := rfl
@[simp] theorem setDabDecoder_link (e : Nat) (r : DabDecoder) (s : State) : (s.setDabDecoder e r).link = s.link := rfl
@[simp] theorem setDabDecoder_mesh (e : Nat) (r : DabDecoder) (s : State) : (s.setDabDecoder e r).mesh = s.mesh := rfl
@[simp] theorem setDabDecoder_cvs (e : Nat) (r : DabDecoder) (s : State) : (s.setDabDecoder e r).cvs = s.cvs := rfl
@[simp] theorem setDabDecoder_ports (e : Nat) (r : DabDecoder) (s : State) : (s.setDabDecoder e r).ports = s.ports := rfl
@[simp] theorem setDabDecoder_quoin (e : Nat) (r : DabDecoder) (s : State) : (s.setDabDecoder e r).quoin = s.quoin := rfl
@[simp] theorem setDabDecoder_twoWire (e : Nat) (r : DabDecoder) (s : State) : (s.setDabDecoder e r).twoWire = s.twoWire := rfl
@[simp] theorem setDabDecoder_pdos (e : Nat) (r : DabDecoder) (s : State) : (s.setDabDecoder e r).pdos = s.pdos := rfl
@[simp] theorem setDabDecoder_saving (e : Nat) (r : DabDecoder) (s : State) : (s.setDabDecoder e r).saving = s.saving := rfl

/-! ### setAm -/

@[simp] theorem setAm_pending (e : Nat) (r : Am) (s : State) : (s.setAm e r).pending = s.pending := rfl
@[simp] theorem setAm_mode (e : Nat) (r : Am) (s : State) : (s.setAm e r).mode = s.mode := rfl
@[simp] theorem setAm_ready (e : Nat) (r : Am) (s : State) : (s.setAm e r).ready = s.ready := rfl
@[simp] theorem setAm_gnomon (e : Nat) (r : Am) (s : State) : (s.setAm e r).gnomon = s.gnomon := rfl
@[simp] theorem setAm_freeCtr (e : Nat) (r : Am) (s : State) : (s.setAm e r).freeCtr = s.freeCtr := rfl
@[simp] theorem setAm_dict (e : Nat) (r : Am) (s : State) : (s.setAm e r).dict = s.dict := rfl
@[simp] theorem setAm_committed (e : Nat) (r : Am) (s : State) : (s.setAm e r).committed = s.committed := rfl
@[simp] theorem setAm_awaiting (e : Nat) (r : Am) (s : State) : (s.setAm e r).awaiting = s.awaiting := rfl
@[simp] theorem setAm_held (e : Nat) (r : Am) (s : State) : (s.setAm e r).held = s.held := rfl
@[simp] theorem setAm_fifos (e : Nat) (r : Am) (s : State) : (s.setAm e r).fifos = s.fifos := rfl
@[simp] theorem setAm_events (e : Nat) (r : Am) (s : State) : (s.setAm e r).events = s.events := rfl
@[simp] theorem setAm_answer (e : Nat) (r : Am) (s : State) : (s.setAm e r).answer = s.answer := rfl
@[simp] theorem setAm_answeredPorts (e : Nat) (r : Am) (s : State) : (s.setAm e r).answeredPorts = s.answeredPorts := rfl
@[simp] theorem setAm_launch (e : Nat) (r : Am) (s : State) : (s.setAm e r).launch = s.launch := rfl
@[simp] theorem setAm_prep (e : Nat) (r : Am) (s : State) : (s.setAm e r).prep = s.prep := rfl
@[simp] theorem setAm_holdings (e : Nat) (r : Am) (s : State) : (s.setAm e r).holdings = s.holdings := rfl
@[simp] theorem setAm_shares (e : Nat) (r : Am) (s : State) : (s.setAm e r).shares = s.shares := rfl
@[simp] theorem setAm_accelConfigured (e : Nat) (r : Am) (s : State) : (s.setAm e r).accelConfigured = s.accelConfigured := rfl
@[simp] theorem setAm_accelOwn (e : Nat) (r : Am) (s : State) : (s.setAm e r).accelOwn = s.accelOwn := rfl
@[simp] theorem setAm_utcPrev (e : Nat) (r : Am) (s : State) : (s.setAm e r).utcPrev = s.utcPrev := rfl
@[simp] theorem setAm_tbSync (e : Nat) (r : Am) (s : State) : (s.setAm e r).tbSync = s.tbSync := rfl
@[simp] theorem setAm_otp (e : Nat) (r : Am) (s : State) : (s.setAm e r).otp = s.otp := rfl
@[simp] theorem setAm_flash (e : Nat) (r : Am) (s : State) : (s.setAm e r).flash = s.flash := rfl
@[simp] theorem setAm_sec (e : Nat) (r : Am) (s : State) : (s.setAm e r).sec = s.sec := rfl
@[simp] theorem setAm_log (e : Nat) (r : Am) (s : State) : (s.setAm e r).log = s.log := rfl
@[simp] theorem setAm_upd (e : Nat) (r : Am) (s : State) : (s.setAm e r).upd = s.upd := rfl
@[simp] theorem setAm_gpioFired (e : Nat) (r : Am) (s : State) : (s.setAm e r).gpioFired = s.gpioFired := rfl
@[simp] theorem setAm_power (e : Nat) (r : Am) (s : State) : (s.setAm e r).power = s.power := rfl
@[simp] theorem setAm_paths (e : Nat) (r : Am) (s : State) : (s.setAm e r).paths = s.paths := rfl
@[simp] theorem setAm_amQuietSince (e : Nat) (r : Am) (s : State) : (s.setAm e r).amQuietSince = s.amQuietSince := rfl
@[simp] theorem setAm_antennas (e : Nat) (r : Am) (s : State) : (s.setAm e r).antennas = s.antennas := rfl
@[simp] theorem setAm_plumb (e : Nat) (r : Am) (s : State) : (s.setAm e r).plumb = s.plumb := rfl
@[simp] theorem setAm_chains (e : Nat) (r : Am) (s : State) : (s.setAm e r).chains = s.chains := rfl
@[simp] theorem setAm_engines (e : Nat) (r : Am) (s : State) : (s.setAm e r).engines = s.engines := rfl
@[simp] theorem setAm_loads (e : Nat) (r : Am) (s : State) : (s.setAm e r).loads = s.loads := rfl
@[simp] theorem setAm_accels (e : Nat) (r : Am) (s : State) : (s.setAm e r).accels = s.accels := rfl
@[simp] theorem setAm_claimedAt (e : Nat) (r : Am) (s : State) : (s.setAm e r).claimedAt = s.claimedAt := rfl
@[simp] theorem setAm_shm (e : Nat) (r : Am) (s : State) : (s.setAm e r).shm = s.shm := rfl
@[simp] theorem setAm_captures (e : Nat) (r : Am) (s : State) : (s.setAm e r).captures = s.captures := rfl
@[simp] theorem setAm_fms (e : Nat) (r : Am) (s : State) : (s.setAm e r).fms = s.fms := rfl
@[simp] theorem setAm_pcm (e : Nat) (r : Am) (s : State) : (s.setAm e r).pcm = s.pcm := rfl
@[simp] theorem setAm_pcmSeq (e : Nat) (r : Am) (s : State) : (s.setAm e r).pcmSeq = s.pcmSeq := rfl
@[simp] theorem setAm_heard (e : Nat) (r : Am) (s : State) : (s.setAm e r).heard = s.heard := rfl
@[simp] theorem setAm_tmc (e : Nat) (r : Am) (s : State) : (s.setAm e r).tmc = s.tmc := rfl
@[simp] theorem setAm_lantern (e : Nat) (r : Am) (s : State) : (s.setAm e r).lantern = s.lantern := rfl
@[simp] theorem setAm_dabs (e : Nat) (r : Am) (s : State) : (s.setAm e r).dabs = s.dabs := rfl
@[simp] theorem setAm_dabDecoders (e : Nat) (r : Am) (s : State) : (s.setAm e r).dabDecoders = s.dabDecoders := rfl
@[simp] theorem setAm_voices (e : Nat) (r : Am) (s : State) : (s.setAm e r).voices = s.voices := rfl
@[simp] theorem setAm_drms (e : Nat) (r : Am) (s : State) : (s.setAm e r).drms = s.drms := rfl
@[simp] theorem setAm_drmSel (e : Nat) (r : Am) (s : State) : (s.setAm e r).drmSel = s.drmSel := rfl
@[simp] theorem setAm_following (e : Nat) (r : Am) (s : State) : (s.setAm e r).following = s.following := rfl
@[simp] theorem setAm_gloaming (e : Nat) (r : Am) (s : State) : (s.setAm e r).gloaming = s.gloaming := rfl
@[simp] theorem setAm_streams (e : Nat) (r : Am) (s : State) : (s.setAm e r).streams = s.streams := rfl
@[simp] theorem setAm_iec (e : Nat) (r : Am) (s : State) : (s.setAm e r).iec = s.iec := rfl
@[simp] theorem setAm_radio (e : Nat) (r : Am) (s : State) : (s.setAm e r).radio = s.radio := rfl
@[simp] theorem setAm_link (e : Nat) (r : Am) (s : State) : (s.setAm e r).link = s.link := rfl
@[simp] theorem setAm_mesh (e : Nat) (r : Am) (s : State) : (s.setAm e r).mesh = s.mesh := rfl
@[simp] theorem setAm_cvs (e : Nat) (r : Am) (s : State) : (s.setAm e r).cvs = s.cvs := rfl
@[simp] theorem setAm_ports (e : Nat) (r : Am) (s : State) : (s.setAm e r).ports = s.ports := rfl
@[simp] theorem setAm_quoin (e : Nat) (r : Am) (s : State) : (s.setAm e r).quoin = s.quoin := rfl
@[simp] theorem setAm_twoWire (e : Nat) (r : Am) (s : State) : (s.setAm e r).twoWire = s.twoWire := rfl
@[simp] theorem setAm_pdos (e : Nat) (r : Am) (s : State) : (s.setAm e r).pdos = s.pdos := rfl
@[simp] theorem setAm_saving (e : Nat) (r : Am) (s : State) : (s.setAm e r).saving = s.saving := rfl

/-! ### setDrm -/

@[simp] theorem setDrm_pending (e : Nat) (r : Drm) (s : State) : (s.setDrm e r).pending = s.pending := rfl
@[simp] theorem setDrm_mode (e : Nat) (r : Drm) (s : State) : (s.setDrm e r).mode = s.mode := rfl
@[simp] theorem setDrm_ready (e : Nat) (r : Drm) (s : State) : (s.setDrm e r).ready = s.ready := rfl
@[simp] theorem setDrm_gnomon (e : Nat) (r : Drm) (s : State) : (s.setDrm e r).gnomon = s.gnomon := rfl
@[simp] theorem setDrm_freeCtr (e : Nat) (r : Drm) (s : State) : (s.setDrm e r).freeCtr = s.freeCtr := rfl
@[simp] theorem setDrm_dict (e : Nat) (r : Drm) (s : State) : (s.setDrm e r).dict = s.dict := rfl
@[simp] theorem setDrm_committed (e : Nat) (r : Drm) (s : State) : (s.setDrm e r).committed = s.committed := rfl
@[simp] theorem setDrm_awaiting (e : Nat) (r : Drm) (s : State) : (s.setDrm e r).awaiting = s.awaiting := rfl
@[simp] theorem setDrm_held (e : Nat) (r : Drm) (s : State) : (s.setDrm e r).held = s.held := rfl
@[simp] theorem setDrm_fifos (e : Nat) (r : Drm) (s : State) : (s.setDrm e r).fifos = s.fifos := rfl
@[simp] theorem setDrm_events (e : Nat) (r : Drm) (s : State) : (s.setDrm e r).events = s.events := rfl
@[simp] theorem setDrm_answer (e : Nat) (r : Drm) (s : State) : (s.setDrm e r).answer = s.answer := rfl
@[simp] theorem setDrm_answeredPorts (e : Nat) (r : Drm) (s : State) : (s.setDrm e r).answeredPorts = s.answeredPorts := rfl
@[simp] theorem setDrm_launch (e : Nat) (r : Drm) (s : State) : (s.setDrm e r).launch = s.launch := rfl
@[simp] theorem setDrm_prep (e : Nat) (r : Drm) (s : State) : (s.setDrm e r).prep = s.prep := rfl
@[simp] theorem setDrm_holdings (e : Nat) (r : Drm) (s : State) : (s.setDrm e r).holdings = s.holdings := rfl
@[simp] theorem setDrm_shares (e : Nat) (r : Drm) (s : State) : (s.setDrm e r).shares = s.shares := rfl
@[simp] theorem setDrm_accelConfigured (e : Nat) (r : Drm) (s : State) : (s.setDrm e r).accelConfigured = s.accelConfigured := rfl
@[simp] theorem setDrm_accelOwn (e : Nat) (r : Drm) (s : State) : (s.setDrm e r).accelOwn = s.accelOwn := rfl
@[simp] theorem setDrm_utcPrev (e : Nat) (r : Drm) (s : State) : (s.setDrm e r).utcPrev = s.utcPrev := rfl
@[simp] theorem setDrm_tbSync (e : Nat) (r : Drm) (s : State) : (s.setDrm e r).tbSync = s.tbSync := rfl
@[simp] theorem setDrm_otp (e : Nat) (r : Drm) (s : State) : (s.setDrm e r).otp = s.otp := rfl
@[simp] theorem setDrm_flash (e : Nat) (r : Drm) (s : State) : (s.setDrm e r).flash = s.flash := rfl
@[simp] theorem setDrm_sec (e : Nat) (r : Drm) (s : State) : (s.setDrm e r).sec = s.sec := rfl
@[simp] theorem setDrm_log (e : Nat) (r : Drm) (s : State) : (s.setDrm e r).log = s.log := rfl
@[simp] theorem setDrm_upd (e : Nat) (r : Drm) (s : State) : (s.setDrm e r).upd = s.upd := rfl
@[simp] theorem setDrm_gpioFired (e : Nat) (r : Drm) (s : State) : (s.setDrm e r).gpioFired = s.gpioFired := rfl
@[simp] theorem setDrm_power (e : Nat) (r : Drm) (s : State) : (s.setDrm e r).power = s.power := rfl
@[simp] theorem setDrm_paths (e : Nat) (r : Drm) (s : State) : (s.setDrm e r).paths = s.paths := rfl
@[simp] theorem setDrm_amQuietSince (e : Nat) (r : Drm) (s : State) : (s.setDrm e r).amQuietSince = s.amQuietSince := rfl
@[simp] theorem setDrm_antennas (e : Nat) (r : Drm) (s : State) : (s.setDrm e r).antennas = s.antennas := rfl
@[simp] theorem setDrm_plumb (e : Nat) (r : Drm) (s : State) : (s.setDrm e r).plumb = s.plumb := rfl
@[simp] theorem setDrm_chains (e : Nat) (r : Drm) (s : State) : (s.setDrm e r).chains = s.chains := rfl
@[simp] theorem setDrm_engines (e : Nat) (r : Drm) (s : State) : (s.setDrm e r).engines = s.engines := rfl
@[simp] theorem setDrm_loads (e : Nat) (r : Drm) (s : State) : (s.setDrm e r).loads = s.loads := rfl
@[simp] theorem setDrm_accels (e : Nat) (r : Drm) (s : State) : (s.setDrm e r).accels = s.accels := rfl
@[simp] theorem setDrm_claimedAt (e : Nat) (r : Drm) (s : State) : (s.setDrm e r).claimedAt = s.claimedAt := rfl
@[simp] theorem setDrm_shm (e : Nat) (r : Drm) (s : State) : (s.setDrm e r).shm = s.shm := rfl
@[simp] theorem setDrm_captures (e : Nat) (r : Drm) (s : State) : (s.setDrm e r).captures = s.captures := rfl
@[simp] theorem setDrm_fms (e : Nat) (r : Drm) (s : State) : (s.setDrm e r).fms = s.fms := rfl
@[simp] theorem setDrm_pcm (e : Nat) (r : Drm) (s : State) : (s.setDrm e r).pcm = s.pcm := rfl
@[simp] theorem setDrm_pcmSeq (e : Nat) (r : Drm) (s : State) : (s.setDrm e r).pcmSeq = s.pcmSeq := rfl
@[simp] theorem setDrm_heard (e : Nat) (r : Drm) (s : State) : (s.setDrm e r).heard = s.heard := rfl
@[simp] theorem setDrm_tmc (e : Nat) (r : Drm) (s : State) : (s.setDrm e r).tmc = s.tmc := rfl
@[simp] theorem setDrm_lantern (e : Nat) (r : Drm) (s : State) : (s.setDrm e r).lantern = s.lantern := rfl
@[simp] theorem setDrm_dabs (e : Nat) (r : Drm) (s : State) : (s.setDrm e r).dabs = s.dabs := rfl
@[simp] theorem setDrm_dabDecoders (e : Nat) (r : Drm) (s : State) : (s.setDrm e r).dabDecoders = s.dabDecoders := rfl
@[simp] theorem setDrm_voices (e : Nat) (r : Drm) (s : State) : (s.setDrm e r).voices = s.voices := rfl
@[simp] theorem setDrm_ams (e : Nat) (r : Drm) (s : State) : (s.setDrm e r).ams = s.ams := rfl
@[simp] theorem setDrm_drmSel (e : Nat) (r : Drm) (s : State) : (s.setDrm e r).drmSel = s.drmSel := rfl
@[simp] theorem setDrm_following (e : Nat) (r : Drm) (s : State) : (s.setDrm e r).following = s.following := rfl
@[simp] theorem setDrm_gloaming (e : Nat) (r : Drm) (s : State) : (s.setDrm e r).gloaming = s.gloaming := rfl
@[simp] theorem setDrm_streams (e : Nat) (r : Drm) (s : State) : (s.setDrm e r).streams = s.streams := rfl
@[simp] theorem setDrm_iec (e : Nat) (r : Drm) (s : State) : (s.setDrm e r).iec = s.iec := rfl
@[simp] theorem setDrm_radio (e : Nat) (r : Drm) (s : State) : (s.setDrm e r).radio = s.radio := rfl
@[simp] theorem setDrm_link (e : Nat) (r : Drm) (s : State) : (s.setDrm e r).link = s.link := rfl
@[simp] theorem setDrm_mesh (e : Nat) (r : Drm) (s : State) : (s.setDrm e r).mesh = s.mesh := rfl
@[simp] theorem setDrm_cvs (e : Nat) (r : Drm) (s : State) : (s.setDrm e r).cvs = s.cvs := rfl
@[simp] theorem setDrm_ports (e : Nat) (r : Drm) (s : State) : (s.setDrm e r).ports = s.ports := rfl
@[simp] theorem setDrm_quoin (e : Nat) (r : Drm) (s : State) : (s.setDrm e r).quoin = s.quoin := rfl
@[simp] theorem setDrm_twoWire (e : Nat) (r : Drm) (s : State) : (s.setDrm e r).twoWire = s.twoWire := rfl
@[simp] theorem setDrm_pdos (e : Nat) (r : Drm) (s : State) : (s.setDrm e r).pdos = s.pdos := rfl
@[simp] theorem setDrm_saving (e : Nat) (r : Drm) (s : State) : (s.setDrm e r).saving = s.saving := rfl

/-! ### setStream -/

@[simp] theorem setStream_pending (u : Nat) (r : Stream) (s : State) : (s.setStream u r).pending = s.pending := rfl
@[simp] theorem setStream_mode (u : Nat) (r : Stream) (s : State) : (s.setStream u r).mode = s.mode := rfl
@[simp] theorem setStream_ready (u : Nat) (r : Stream) (s : State) : (s.setStream u r).ready = s.ready := rfl
@[simp] theorem setStream_gnomon (u : Nat) (r : Stream) (s : State) : (s.setStream u r).gnomon = s.gnomon := rfl
@[simp] theorem setStream_freeCtr (u : Nat) (r : Stream) (s : State) : (s.setStream u r).freeCtr = s.freeCtr := rfl
@[simp] theorem setStream_dict (u : Nat) (r : Stream) (s : State) : (s.setStream u r).dict = s.dict := rfl
@[simp] theorem setStream_committed (u : Nat) (r : Stream) (s : State) : (s.setStream u r).committed = s.committed := rfl
@[simp] theorem setStream_awaiting (u : Nat) (r : Stream) (s : State) : (s.setStream u r).awaiting = s.awaiting := rfl
@[simp] theorem setStream_held (u : Nat) (r : Stream) (s : State) : (s.setStream u r).held = s.held := rfl
@[simp] theorem setStream_fifos (u : Nat) (r : Stream) (s : State) : (s.setStream u r).fifos = s.fifos := rfl
@[simp] theorem setStream_events (u : Nat) (r : Stream) (s : State) : (s.setStream u r).events = s.events := rfl
@[simp] theorem setStream_answer (u : Nat) (r : Stream) (s : State) : (s.setStream u r).answer = s.answer := rfl
@[simp] theorem setStream_answeredPorts (u : Nat) (r : Stream) (s : State) : (s.setStream u r).answeredPorts = s.answeredPorts := rfl
@[simp] theorem setStream_launch (u : Nat) (r : Stream) (s : State) : (s.setStream u r).launch = s.launch := rfl
@[simp] theorem setStream_prep (u : Nat) (r : Stream) (s : State) : (s.setStream u r).prep = s.prep := rfl
@[simp] theorem setStream_holdings (u : Nat) (r : Stream) (s : State) : (s.setStream u r).holdings = s.holdings := rfl
@[simp] theorem setStream_shares (u : Nat) (r : Stream) (s : State) : (s.setStream u r).shares = s.shares := rfl
@[simp] theorem setStream_accelConfigured (u : Nat) (r : Stream) (s : State) : (s.setStream u r).accelConfigured = s.accelConfigured := rfl
@[simp] theorem setStream_accelOwn (u : Nat) (r : Stream) (s : State) : (s.setStream u r).accelOwn = s.accelOwn := rfl
@[simp] theorem setStream_utcPrev (u : Nat) (r : Stream) (s : State) : (s.setStream u r).utcPrev = s.utcPrev := rfl
@[simp] theorem setStream_tbSync (u : Nat) (r : Stream) (s : State) : (s.setStream u r).tbSync = s.tbSync := rfl
@[simp] theorem setStream_otp (u : Nat) (r : Stream) (s : State) : (s.setStream u r).otp = s.otp := rfl
@[simp] theorem setStream_flash (u : Nat) (r : Stream) (s : State) : (s.setStream u r).flash = s.flash := rfl
@[simp] theorem setStream_sec (u : Nat) (r : Stream) (s : State) : (s.setStream u r).sec = s.sec := rfl
@[simp] theorem setStream_log (u : Nat) (r : Stream) (s : State) : (s.setStream u r).log = s.log := rfl
@[simp] theorem setStream_upd (u : Nat) (r : Stream) (s : State) : (s.setStream u r).upd = s.upd := rfl
@[simp] theorem setStream_gpioFired (u : Nat) (r : Stream) (s : State) : (s.setStream u r).gpioFired = s.gpioFired := rfl
@[simp] theorem setStream_power (u : Nat) (r : Stream) (s : State) : (s.setStream u r).power = s.power := rfl
@[simp] theorem setStream_paths (u : Nat) (r : Stream) (s : State) : (s.setStream u r).paths = s.paths := rfl
@[simp] theorem setStream_amQuietSince (u : Nat) (r : Stream) (s : State) : (s.setStream u r).amQuietSince = s.amQuietSince := rfl
@[simp] theorem setStream_antennas (u : Nat) (r : Stream) (s : State) : (s.setStream u r).antennas = s.antennas := rfl
@[simp] theorem setStream_plumb (u : Nat) (r : Stream) (s : State) : (s.setStream u r).plumb = s.plumb := rfl
@[simp] theorem setStream_chains (u : Nat) (r : Stream) (s : State) : (s.setStream u r).chains = s.chains := rfl
@[simp] theorem setStream_engines (u : Nat) (r : Stream) (s : State) : (s.setStream u r).engines = s.engines := rfl
@[simp] theorem setStream_loads (u : Nat) (r : Stream) (s : State) : (s.setStream u r).loads = s.loads := rfl
@[simp] theorem setStream_accels (u : Nat) (r : Stream) (s : State) : (s.setStream u r).accels = s.accels := rfl
@[simp] theorem setStream_claimedAt (u : Nat) (r : Stream) (s : State) : (s.setStream u r).claimedAt = s.claimedAt := rfl
@[simp] theorem setStream_shm (u : Nat) (r : Stream) (s : State) : (s.setStream u r).shm = s.shm := rfl
@[simp] theorem setStream_captures (u : Nat) (r : Stream) (s : State) : (s.setStream u r).captures = s.captures := rfl
@[simp] theorem setStream_fms (u : Nat) (r : Stream) (s : State) : (s.setStream u r).fms = s.fms := rfl
@[simp] theorem setStream_pcm (u : Nat) (r : Stream) (s : State) : (s.setStream u r).pcm = s.pcm := rfl
@[simp] theorem setStream_pcmSeq (u : Nat) (r : Stream) (s : State) : (s.setStream u r).pcmSeq = s.pcmSeq := rfl
@[simp] theorem setStream_heard (u : Nat) (r : Stream) (s : State) : (s.setStream u r).heard = s.heard := rfl
@[simp] theorem setStream_tmc (u : Nat) (r : Stream) (s : State) : (s.setStream u r).tmc = s.tmc := rfl
@[simp] theorem setStream_lantern (u : Nat) (r : Stream) (s : State) : (s.setStream u r).lantern = s.lantern := rfl
@[simp] theorem setStream_dabs (u : Nat) (r : Stream) (s : State) : (s.setStream u r).dabs = s.dabs := rfl
@[simp] theorem setStream_dabDecoders (u : Nat) (r : Stream) (s : State) : (s.setStream u r).dabDecoders = s.dabDecoders := rfl
@[simp] theorem setStream_voices (u : Nat) (r : Stream) (s : State) : (s.setStream u r).voices = s.voices := rfl
@[simp] theorem setStream_ams (u : Nat) (r : Stream) (s : State) : (s.setStream u r).ams = s.ams := rfl
@[simp] theorem setStream_drms (u : Nat) (r : Stream) (s : State) : (s.setStream u r).drms = s.drms := rfl
@[simp] theorem setStream_drmSel (u : Nat) (r : Stream) (s : State) : (s.setStream u r).drmSel = s.drmSel := rfl
@[simp] theorem setStream_following (u : Nat) (r : Stream) (s : State) : (s.setStream u r).following = s.following := rfl
@[simp] theorem setStream_gloaming (u : Nat) (r : Stream) (s : State) : (s.setStream u r).gloaming = s.gloaming := rfl
@[simp] theorem setStream_iec (u : Nat) (r : Stream) (s : State) : (s.setStream u r).iec = s.iec := rfl
@[simp] theorem setStream_radio (u : Nat) (r : Stream) (s : State) : (s.setStream u r).radio = s.radio := rfl
@[simp] theorem setStream_link (u : Nat) (r : Stream) (s : State) : (s.setStream u r).link = s.link := rfl
@[simp] theorem setStream_mesh (u : Nat) (r : Stream) (s : State) : (s.setStream u r).mesh = s.mesh := rfl
@[simp] theorem setStream_cvs (u : Nat) (r : Stream) (s : State) : (s.setStream u r).cvs = s.cvs := rfl
@[simp] theorem setStream_ports (u : Nat) (r : Stream) (s : State) : (s.setStream u r).ports = s.ports := rfl
@[simp] theorem setStream_quoin (u : Nat) (r : Stream) (s : State) : (s.setStream u r).quoin = s.quoin := rfl
@[simp] theorem setStream_twoWire (u : Nat) (r : Stream) (s : State) : (s.setStream u r).twoWire = s.twoWire := rfl
@[simp] theorem setStream_pdos (u : Nat) (r : Stream) (s : State) : (s.setStream u r).pdos = s.pdos := rfl
@[simp] theorem setStream_saving (u : Nat) (r : Stream) (s : State) : (s.setStream u r).saving = s.saving := rfl

/-! ### setPort -/

@[simp] theorem setPort_pending (p : Nat) (r : Port) (s : State) : (s.setPort p r).pending = s.pending := rfl
@[simp] theorem setPort_mode (p : Nat) (r : Port) (s : State) : (s.setPort p r).mode = s.mode := rfl
@[simp] theorem setPort_ready (p : Nat) (r : Port) (s : State) : (s.setPort p r).ready = s.ready := rfl
@[simp] theorem setPort_gnomon (p : Nat) (r : Port) (s : State) : (s.setPort p r).gnomon = s.gnomon := rfl
@[simp] theorem setPort_freeCtr (p : Nat) (r : Port) (s : State) : (s.setPort p r).freeCtr = s.freeCtr := rfl
@[simp] theorem setPort_dict (p : Nat) (r : Port) (s : State) : (s.setPort p r).dict = s.dict := rfl
@[simp] theorem setPort_committed (p : Nat) (r : Port) (s : State) : (s.setPort p r).committed = s.committed := rfl
@[simp] theorem setPort_awaiting (p : Nat) (r : Port) (s : State) : (s.setPort p r).awaiting = s.awaiting := rfl
@[simp] theorem setPort_held (p : Nat) (r : Port) (s : State) : (s.setPort p r).held = s.held := rfl
@[simp] theorem setPort_fifos (p : Nat) (r : Port) (s : State) : (s.setPort p r).fifos = s.fifos := rfl
@[simp] theorem setPort_events (p : Nat) (r : Port) (s : State) : (s.setPort p r).events = s.events := rfl
@[simp] theorem setPort_answer (p : Nat) (r : Port) (s : State) : (s.setPort p r).answer = s.answer := rfl
@[simp] theorem setPort_answeredPorts (p : Nat) (r : Port) (s : State) : (s.setPort p r).answeredPorts = s.answeredPorts := rfl
@[simp] theorem setPort_launch (p : Nat) (r : Port) (s : State) : (s.setPort p r).launch = s.launch := rfl
@[simp] theorem setPort_prep (p : Nat) (r : Port) (s : State) : (s.setPort p r).prep = s.prep := rfl
@[simp] theorem setPort_holdings (p : Nat) (r : Port) (s : State) : (s.setPort p r).holdings = s.holdings := rfl
@[simp] theorem setPort_shares (p : Nat) (r : Port) (s : State) : (s.setPort p r).shares = s.shares := rfl
@[simp] theorem setPort_accelConfigured (p : Nat) (r : Port) (s : State) : (s.setPort p r).accelConfigured = s.accelConfigured := rfl
@[simp] theorem setPort_accelOwn (p : Nat) (r : Port) (s : State) : (s.setPort p r).accelOwn = s.accelOwn := rfl
@[simp] theorem setPort_utcPrev (p : Nat) (r : Port) (s : State) : (s.setPort p r).utcPrev = s.utcPrev := rfl
@[simp] theorem setPort_tbSync (p : Nat) (r : Port) (s : State) : (s.setPort p r).tbSync = s.tbSync := rfl
@[simp] theorem setPort_otp (p : Nat) (r : Port) (s : State) : (s.setPort p r).otp = s.otp := rfl
@[simp] theorem setPort_flash (p : Nat) (r : Port) (s : State) : (s.setPort p r).flash = s.flash := rfl
@[simp] theorem setPort_sec (p : Nat) (r : Port) (s : State) : (s.setPort p r).sec = s.sec := rfl
@[simp] theorem setPort_log (p : Nat) (r : Port) (s : State) : (s.setPort p r).log = s.log := rfl
@[simp] theorem setPort_upd (p : Nat) (r : Port) (s : State) : (s.setPort p r).upd = s.upd := rfl
@[simp] theorem setPort_gpioFired (p : Nat) (r : Port) (s : State) : (s.setPort p r).gpioFired = s.gpioFired := rfl
@[simp] theorem setPort_power (p : Nat) (r : Port) (s : State) : (s.setPort p r).power = s.power := rfl
@[simp] theorem setPort_paths (p : Nat) (r : Port) (s : State) : (s.setPort p r).paths = s.paths := rfl
@[simp] theorem setPort_amQuietSince (p : Nat) (r : Port) (s : State) : (s.setPort p r).amQuietSince = s.amQuietSince := rfl
@[simp] theorem setPort_antennas (p : Nat) (r : Port) (s : State) : (s.setPort p r).antennas = s.antennas := rfl
@[simp] theorem setPort_plumb (p : Nat) (r : Port) (s : State) : (s.setPort p r).plumb = s.plumb := rfl
@[simp] theorem setPort_chains (p : Nat) (r : Port) (s : State) : (s.setPort p r).chains = s.chains := rfl
@[simp] theorem setPort_engines (p : Nat) (r : Port) (s : State) : (s.setPort p r).engines = s.engines := rfl
@[simp] theorem setPort_loads (p : Nat) (r : Port) (s : State) : (s.setPort p r).loads = s.loads := rfl
@[simp] theorem setPort_accels (p : Nat) (r : Port) (s : State) : (s.setPort p r).accels = s.accels := rfl
@[simp] theorem setPort_claimedAt (p : Nat) (r : Port) (s : State) : (s.setPort p r).claimedAt = s.claimedAt := rfl
@[simp] theorem setPort_shm (p : Nat) (r : Port) (s : State) : (s.setPort p r).shm = s.shm := rfl
@[simp] theorem setPort_captures (p : Nat) (r : Port) (s : State) : (s.setPort p r).captures = s.captures := rfl
@[simp] theorem setPort_fms (p : Nat) (r : Port) (s : State) : (s.setPort p r).fms = s.fms := rfl
@[simp] theorem setPort_pcm (p : Nat) (r : Port) (s : State) : (s.setPort p r).pcm = s.pcm := rfl
@[simp] theorem setPort_pcmSeq (p : Nat) (r : Port) (s : State) : (s.setPort p r).pcmSeq = s.pcmSeq := rfl
@[simp] theorem setPort_heard (p : Nat) (r : Port) (s : State) : (s.setPort p r).heard = s.heard := rfl
@[simp] theorem setPort_tmc (p : Nat) (r : Port) (s : State) : (s.setPort p r).tmc = s.tmc := rfl
@[simp] theorem setPort_lantern (p : Nat) (r : Port) (s : State) : (s.setPort p r).lantern = s.lantern := rfl
@[simp] theorem setPort_dabs (p : Nat) (r : Port) (s : State) : (s.setPort p r).dabs = s.dabs := rfl
@[simp] theorem setPort_dabDecoders (p : Nat) (r : Port) (s : State) : (s.setPort p r).dabDecoders = s.dabDecoders := rfl
@[simp] theorem setPort_voices (p : Nat) (r : Port) (s : State) : (s.setPort p r).voices = s.voices := rfl
@[simp] theorem setPort_ams (p : Nat) (r : Port) (s : State) : (s.setPort p r).ams = s.ams := rfl
@[simp] theorem setPort_drms (p : Nat) (r : Port) (s : State) : (s.setPort p r).drms = s.drms := rfl
@[simp] theorem setPort_drmSel (p : Nat) (r : Port) (s : State) : (s.setPort p r).drmSel = s.drmSel := rfl
@[simp] theorem setPort_following (p : Nat) (r : Port) (s : State) : (s.setPort p r).following = s.following := rfl
@[simp] theorem setPort_gloaming (p : Nat) (r : Port) (s : State) : (s.setPort p r).gloaming = s.gloaming := rfl
@[simp] theorem setPort_streams (p : Nat) (r : Port) (s : State) : (s.setPort p r).streams = s.streams := rfl
@[simp] theorem setPort_iec (p : Nat) (r : Port) (s : State) : (s.setPort p r).iec = s.iec := rfl
@[simp] theorem setPort_radio (p : Nat) (r : Port) (s : State) : (s.setPort p r).radio = s.radio := rfl
@[simp] theorem setPort_link (p : Nat) (r : Port) (s : State) : (s.setPort p r).link = s.link := rfl
@[simp] theorem setPort_mesh (p : Nat) (r : Port) (s : State) : (s.setPort p r).mesh = s.mesh := rfl
@[simp] theorem setPort_cvs (p : Nat) (r : Port) (s : State) : (s.setPort p r).cvs = s.cvs := rfl
@[simp] theorem setPort_quoin (p : Nat) (r : Port) (s : State) : (s.setPort p r).quoin = s.quoin := rfl
@[simp] theorem setPort_twoWire (p : Nat) (r : Port) (s : State) : (s.setPort p r).twoWire = s.twoWire := rfl
@[simp] theorem setPort_pdos (p : Nat) (r : Port) (s : State) : (s.setPort p r).pdos = s.pdos := rfl
@[simp] theorem setPort_saving (p : Nat) (r : Port) (s : State) : (s.setPort p r).saving = s.saving := rfl

/-! ### setPdo -/

@[simp] theorem setPdo_pending (f : Nat) (r : Pdo) (s : State) : (s.setPdo f r).pending = s.pending := rfl
@[simp] theorem setPdo_mode (f : Nat) (r : Pdo) (s : State) : (s.setPdo f r).mode = s.mode := rfl
@[simp] theorem setPdo_ready (f : Nat) (r : Pdo) (s : State) : (s.setPdo f r).ready = s.ready := rfl
@[simp] theorem setPdo_gnomon (f : Nat) (r : Pdo) (s : State) : (s.setPdo f r).gnomon = s.gnomon := rfl
@[simp] theorem setPdo_freeCtr (f : Nat) (r : Pdo) (s : State) : (s.setPdo f r).freeCtr = s.freeCtr := rfl
@[simp] theorem setPdo_dict (f : Nat) (r : Pdo) (s : State) : (s.setPdo f r).dict = s.dict := rfl
@[simp] theorem setPdo_committed (f : Nat) (r : Pdo) (s : State) : (s.setPdo f r).committed = s.committed := rfl
@[simp] theorem setPdo_awaiting (f : Nat) (r : Pdo) (s : State) : (s.setPdo f r).awaiting = s.awaiting := rfl
@[simp] theorem setPdo_held (f : Nat) (r : Pdo) (s : State) : (s.setPdo f r).held = s.held := rfl
@[simp] theorem setPdo_fifos (f : Nat) (r : Pdo) (s : State) : (s.setPdo f r).fifos = s.fifos := rfl
@[simp] theorem setPdo_events (f : Nat) (r : Pdo) (s : State) : (s.setPdo f r).events = s.events := rfl
@[simp] theorem setPdo_answer (f : Nat) (r : Pdo) (s : State) : (s.setPdo f r).answer = s.answer := rfl
@[simp] theorem setPdo_answeredPorts (f : Nat) (r : Pdo) (s : State) : (s.setPdo f r).answeredPorts = s.answeredPorts := rfl
@[simp] theorem setPdo_launch (f : Nat) (r : Pdo) (s : State) : (s.setPdo f r).launch = s.launch := rfl
@[simp] theorem setPdo_prep (f : Nat) (r : Pdo) (s : State) : (s.setPdo f r).prep = s.prep := rfl
@[simp] theorem setPdo_holdings (f : Nat) (r : Pdo) (s : State) : (s.setPdo f r).holdings = s.holdings := rfl
@[simp] theorem setPdo_shares (f : Nat) (r : Pdo) (s : State) : (s.setPdo f r).shares = s.shares := rfl
@[simp] theorem setPdo_accelConfigured (f : Nat) (r : Pdo) (s : State) : (s.setPdo f r).accelConfigured = s.accelConfigured := rfl
@[simp] theorem setPdo_accelOwn (f : Nat) (r : Pdo) (s : State) : (s.setPdo f r).accelOwn = s.accelOwn := rfl
@[simp] theorem setPdo_utcPrev (f : Nat) (r : Pdo) (s : State) : (s.setPdo f r).utcPrev = s.utcPrev := rfl
@[simp] theorem setPdo_tbSync (f : Nat) (r : Pdo) (s : State) : (s.setPdo f r).tbSync = s.tbSync := rfl
@[simp] theorem setPdo_otp (f : Nat) (r : Pdo) (s : State) : (s.setPdo f r).otp = s.otp := rfl
@[simp] theorem setPdo_flash (f : Nat) (r : Pdo) (s : State) : (s.setPdo f r).flash = s.flash := rfl
@[simp] theorem setPdo_sec (f : Nat) (r : Pdo) (s : State) : (s.setPdo f r).sec = s.sec := rfl
@[simp] theorem setPdo_log (f : Nat) (r : Pdo) (s : State) : (s.setPdo f r).log = s.log := rfl
@[simp] theorem setPdo_upd (f : Nat) (r : Pdo) (s : State) : (s.setPdo f r).upd = s.upd := rfl
@[simp] theorem setPdo_gpioFired (f : Nat) (r : Pdo) (s : State) : (s.setPdo f r).gpioFired = s.gpioFired := rfl
@[simp] theorem setPdo_power (f : Nat) (r : Pdo) (s : State) : (s.setPdo f r).power = s.power := rfl
@[simp] theorem setPdo_paths (f : Nat) (r : Pdo) (s : State) : (s.setPdo f r).paths = s.paths := rfl
@[simp] theorem setPdo_amQuietSince (f : Nat) (r : Pdo) (s : State) : (s.setPdo f r).amQuietSince = s.amQuietSince := rfl
@[simp] theorem setPdo_antennas (f : Nat) (r : Pdo) (s : State) : (s.setPdo f r).antennas = s.antennas := rfl
@[simp] theorem setPdo_plumb (f : Nat) (r : Pdo) (s : State) : (s.setPdo f r).plumb = s.plumb := rfl
@[simp] theorem setPdo_chains (f : Nat) (r : Pdo) (s : State) : (s.setPdo f r).chains = s.chains := rfl
@[simp] theorem setPdo_engines (f : Nat) (r : Pdo) (s : State) : (s.setPdo f r).engines = s.engines := rfl
@[simp] theorem setPdo_loads (f : Nat) (r : Pdo) (s : State) : (s.setPdo f r).loads = s.loads := rfl
@[simp] theorem setPdo_accels (f : Nat) (r : Pdo) (s : State) : (s.setPdo f r).accels = s.accels := rfl
@[simp] theorem setPdo_claimedAt (f : Nat) (r : Pdo) (s : State) : (s.setPdo f r).claimedAt = s.claimedAt := rfl
@[simp] theorem setPdo_shm (f : Nat) (r : Pdo) (s : State) : (s.setPdo f r).shm = s.shm := rfl
@[simp] theorem setPdo_captures (f : Nat) (r : Pdo) (s : State) : (s.setPdo f r).captures = s.captures := rfl
@[simp] theorem setPdo_fms (f : Nat) (r : Pdo) (s : State) : (s.setPdo f r).fms = s.fms := rfl
@[simp] theorem setPdo_pcm (f : Nat) (r : Pdo) (s : State) : (s.setPdo f r).pcm = s.pcm := rfl
@[simp] theorem setPdo_pcmSeq (f : Nat) (r : Pdo) (s : State) : (s.setPdo f r).pcmSeq = s.pcmSeq := rfl
@[simp] theorem setPdo_heard (f : Nat) (r : Pdo) (s : State) : (s.setPdo f r).heard = s.heard := rfl
@[simp] theorem setPdo_tmc (f : Nat) (r : Pdo) (s : State) : (s.setPdo f r).tmc = s.tmc := rfl
@[simp] theorem setPdo_lantern (f : Nat) (r : Pdo) (s : State) : (s.setPdo f r).lantern = s.lantern := rfl
@[simp] theorem setPdo_dabs (f : Nat) (r : Pdo) (s : State) : (s.setPdo f r).dabs = s.dabs := rfl
@[simp] theorem setPdo_dabDecoders (f : Nat) (r : Pdo) (s : State) : (s.setPdo f r).dabDecoders = s.dabDecoders := rfl
@[simp] theorem setPdo_voices (f : Nat) (r : Pdo) (s : State) : (s.setPdo f r).voices = s.voices := rfl
@[simp] theorem setPdo_ams (f : Nat) (r : Pdo) (s : State) : (s.setPdo f r).ams = s.ams := rfl
@[simp] theorem setPdo_drms (f : Nat) (r : Pdo) (s : State) : (s.setPdo f r).drms = s.drms := rfl
@[simp] theorem setPdo_drmSel (f : Nat) (r : Pdo) (s : State) : (s.setPdo f r).drmSel = s.drmSel := rfl
@[simp] theorem setPdo_following (f : Nat) (r : Pdo) (s : State) : (s.setPdo f r).following = s.following := rfl
@[simp] theorem setPdo_gloaming (f : Nat) (r : Pdo) (s : State) : (s.setPdo f r).gloaming = s.gloaming := rfl
@[simp] theorem setPdo_streams (f : Nat) (r : Pdo) (s : State) : (s.setPdo f r).streams = s.streams := rfl
@[simp] theorem setPdo_iec (f : Nat) (r : Pdo) (s : State) : (s.setPdo f r).iec = s.iec := rfl
@[simp] theorem setPdo_radio (f : Nat) (r : Pdo) (s : State) : (s.setPdo f r).radio = s.radio := rfl
@[simp] theorem setPdo_link (f : Nat) (r : Pdo) (s : State) : (s.setPdo f r).link = s.link := rfl
@[simp] theorem setPdo_mesh (f : Nat) (r : Pdo) (s : State) : (s.setPdo f r).mesh = s.mesh := rfl
@[simp] theorem setPdo_cvs (f : Nat) (r : Pdo) (s : State) : (s.setPdo f r).cvs = s.cvs := rfl
@[simp] theorem setPdo_ports (f : Nat) (r : Pdo) (s : State) : (s.setPdo f r).ports = s.ports := rfl
@[simp] theorem setPdo_quoin (f : Nat) (r : Pdo) (s : State) : (s.setPdo f r).quoin = s.quoin := rfl
@[simp] theorem setPdo_twoWire (f : Nat) (r : Pdo) (s : State) : (s.setPdo f r).twoWire = s.twoWire := rfl
@[simp] theorem setPdo_saving (f : Nat) (r : Pdo) (s : State) : (s.setPdo f r).saving = s.saving := rfl

/-! ### Reads after writes -/

@[simp] theorem setVal_val (k : Nat) (v : Val) (s : State) (j : Nat) : (s.setVal k v).val j = if j = k then v else s.val j := by
  simp [State.setVal, State.val, map_get_put]

@[simp] theorem setFifo_fifo (k : Nat) (f : Fifo) (s : State) (j : Nat) : (s.setFifo k f).fifo j = if j = k then f else s.fifo j := by
  simp [State.setFifo, State.fifo, map_get_put]

@[simp] theorem setEntry_entry (n : Nat) (e : Option LaunchEntry) (s : State) (j : Nat) : (s.setEntry n e).entry j = if j = n then e else s.entry j := by
  simp [State.setEntry, State.entry, map_get_put]

@[simp] theorem setPath_path (p : Nat) (r : RfPath) (s : State) (j : Nat) : (s.setPath p r).path j = if j = p then r else s.path j := by
  simp [State.setPath, State.path, map_get_put]

@[simp] theorem setAntenna_antenna (p : Nat) (a : Antenna) (s : State) (j : Nat) : (s.setAntenna p a).antenna j = if j = p then a else s.antenna j := by
  simp [State.setAntenna, State.antenna, map_get_put]

@[simp] theorem setPlumb_plumbOf (p : Nat) (r : Plumb) (s : State) (j : Nat) : (s.setPlumb p r).plumbOf j = if j = p then r else s.plumbOf j := by
  simp [State.setPlumb, State.plumbOf, map_get_put]

@[simp] theorem setChain_chain (n : Nat) (c : Chain) (s : State) (j : Nat) : (s.setChain n c).chain j = if j = n then c else s.chain j := by
  simp [State.setChain, State.chain, map_get_put]

@[simp] theorem setEngine_engine (n : Nat) (e : Engine) (s : State) (j : Nat) : (s.setEngine n e).engine j = if j = n then e else s.engine j := by
  simp [State.setEngine, State.engine, map_get_put]

@[simp] theorem setAccel_accel (n : Nat) (a : Accel) (s : State) (j : Nat) : (s.setAccel n a).accel j = if j = n then a else s.accel j := by
  simp [State.setAccel, State.accel, map_get_put]

@[simp] theorem setCapture_capture (c : Nat) (r : Capture) (s : State) (j : Nat) : (s.setCapture c r).capture j = if j = c then r else s.capture j := by
  simp [State.setCapture, State.capture, map_get_put]

@[simp] theorem setFm_fm (e : Nat) (r : Fm) (s : State) (j : Nat) : (s.setFm e r).fm j = if j = e then r else s.fm j := by
  simp [State.setFm, State.fm, map_get_put]

@[simp] theorem setDab_dab (e : Nat) (r : Dab) (s : State) (j : Nat) : (s.setDab e r).dab j = if j = e then r else s.dab j := by
  simp [State.setDab, State.dab, map_get_put]

@[simp] theorem setDabDecoder_dabDecoder (e : Nat) (r : DabDecoder) (s : State) (j : Nat) : (s.setDabDecoder e r).dabDecoder j = if j = e then r else s.dabDecoder j := by
  simp [State.setDabDecoder, State.dabDecoder, map_get_put]

@[simp] theorem setAm_am (e : Nat) (r : Am) (s : State) (j : Nat) : (s.setAm e r).am j = if j = e then r else s.am j := by
  simp [State.setAm, State.am, map_get_put]

@[simp] theorem setDrm_drm (e : Nat) (r : Drm) (s : State) (j : Nat) : (s.setDrm e r).drm j = if j = e then r else s.drm j := by
  simp [State.setDrm, State.drm, map_get_put]

@[simp] theorem setStream_stream (u : Nat) (r : Stream) (s : State) (j : Nat) : (s.setStream u r).stream j = if j = u then r else s.stream j := by
  simp [State.setStream, State.stream, map_get_put]

@[simp] theorem setPort_port (p : Nat) (r : Port) (s : State) (j : Nat) : (s.setPort p r).port j = if j = p then r else s.port j := by
  simp [State.setPort, State.port, map_get_put]

@[simp] theorem setPdo_pdo (f : Nat) (r : Pdo) (s : State) (j : Nat) : (s.setPdo f r).pdo j = if j = f then r else s.pdo j := by
  simp [State.setPdo, State.pdo, map_get_put]

/-- A number read after a write of any value. -/
theorem num_of_val (s : State) (k : Nat) (i : Int) (h : s.val k = .num i) : s.num k = i := by simp [State.num, h]

@[simp] theorem setNum_val (k : Nat) (i : Int) (s : State) (j : Nat) :
    (s.setNum k i).val j = if j = k then .num i else s.val j := by simp [State.setNum]

@[simp] theorem setNat_val (k n : Nat) (s : State) (j : Nat) :
    (s.setNat k n).val j = if j = k then .num n else s.val j := by simp [State.setNat]

@[simp] theorem setBytes_val (k : Nat) (b : Bytes) (s : State) (j : Nat) :
    (s.setBytes k b).val j = if j = k then .raw b else s.val j := by simp [State.setBytes]

@[simp] theorem setNum_num (k : Nat) (i : Int) (s : State) (j : Nat) :
    (s.setNum k i).num j = if j = k then i else s.num j := by
  unfold State.num
  by_cases h : j = k <;> simp [h]

@[simp] theorem setNat_num (k n : Nat) (s : State) (j : Nat) :
    (s.setNat k n).num j = if j = k then (n : Int) else s.num j := by
  unfold State.num
  by_cases h : j = k <;> simp [h]

@[simp] theorem setNum_nat (k : Nat) (i : Int) (s : State) (j : Nat) :
    (s.setNum k i).nat j = if j = k then i.toNat else s.nat j := by
  unfold State.nat
  by_cases h : j = k <;> simp [h]

@[simp] theorem setNat_nat (k n : Nat) (s : State) (j : Nat) :
    (s.setNat k n).nat j = if j = k then n else s.nat j := by
  unfold State.nat
  by_cases h : j = k <;> simp [h]

@[simp] theorem setBytes_bytes (k : Nat) (b : Bytes) (s : State) (j : Nat) :
    (s.setBytes k b).bytes j = if j = k then b else s.bytes j := by
  unfold State.bytes
  by_cases h : j = k <;> simp [h]

@[simp] theorem bumpBy_nat (k n : Nat) (s : State) (j : Nat) :
    (s.bumpBy k n).nat j = if j = k then satAdd 32 (s.nat k) n else s.nat j := by simp [State.bumpBy]

@[simp] theorem bump_nat (k : Nat) (s : State) (j : Nat) :
    (s.bump k).nat j = if j = k then satAdd 32 (s.nat k) 1 else s.nat j := by simp [State.bump]

@[simp] theorem bump16_nat (k : Nat) (s : State) (j : Nat) :
    (s.bump16 k).nat j = if j = k then satAdd 16 (s.nat k) 1 else s.nat j := by simp [State.bump16]

/-- A write of bytes leaves every number as it was, where the subindex held bytes and its reader asks for another. -/
theorem setBytes_nat (k : Nat) (b : Bytes) (s : State) (j : Nat) (h : j ≠ k) : (s.setBytes k b).nat j = s.nat j := by
  unfold State.nat State.num
  rw [setBytes_val, if_neg h]

/-- A write of a number leaves the bytes of every other subindex. -/
theorem setNat_bytes (k n : Nat) (s : State) (j : Nat) (h : j ≠ k) : (s.setNat k n).bytes j = s.bytes j := by
  unfold State.bytes
  rw [setNat_val, if_neg h]

end Sys2Proof.Machine
end

