-- ==== Sys2Proof/Laws/Ops.lean ====
section
/-!
SUPPORT. Laws/Ops.lean: what the shared operations can do: events, results, the log, requests. Each lemma says once which fields an
operation writes and which subindices keep their values.
-/
namespace Sys2Proof.Machine

/-- Two states that agree but for the dictionary, the awaited results, the events and the log. -/
def State.EventsOnly (s t : State) : Prop :=
  t = { s with dict := t.dict, awaiting := t.awaiting, events := t.events, log := t.log }
    ∧ ∀ j, j ∉ eventKeys → t.val j = s.val j

theorem State.EventsOnly.refl (s : State) : s.EventsOnly s := ⟨rfl, fun _ _ => rfl⟩

theorem State.EventsOnly.trans {s t u : State} (h : s.EventsOnly t) (g : t.EventsOnly u) : s.EventsOnly u := by
  refine ⟨?_, fun j hj => (g.2 j hj).trans (h.2 j hj)⟩
  obtain ⟨h1, _⟩ := h
  obtain ⟨g1, _⟩ := g
  rw [g1, h1]

theorem State.EventsOnly.ofSetNat (s : State) (k n : Nat) (h : k ∈ eventKeys) : s.EventsOnly (s.setNat k n) := by
  refine ⟨rfl, fun j hj => ?_⟩
  have : j ≠ k := fun e => hj (e ▸ h)
  simp [this]

/-- A result issued in the sync snapshot. -/
theorem issue_eventsOnly (s : State) (k : Nat) (b : Bytes) (h : k ∈ eventKeys) : s.EventsOnly (s.issue k b) := by
  refine ⟨rfl, fun j hj => ?_⟩
  have hj' : j ≠ k := fun e => hj (e ▸ h)
  show (s.setBytes k _).val j = s.val j
  simp [hj']

theorem refreshSync_eventsOnly (s : State) : s.EventsOnly s.refreshSync := by
  unfold State.refreshSync
  split
  · exact State.EventsOnly.refl s
  · exact issue_eventsOnly s _ _ (by decide)

theorem bump_eventsOnly (s : State) (k : Nat) (h : k ∈ eventKeys) : s.EventsOnly (s.bump k) := State.EventsOnly.ofSetNat s k _ h

theorem setEvents_eventsOnly (s : State) (e : Events) : s.EventsOnly { s with events := e } := ⟨rfl, fun _ _ => rfl⟩

/-- An event issued changes only what events change. -/
theorem issueEvent_eventsOnly (s : State) (e : Event) : s.EventsOnly (s.issueEvent e) := by
  unfold State.issueEvent
  extract_lets n e en q1 q2 q3 ev s1 s2 s3 s4
  have h1 : s.EventsOnly s1 := setEvents_eventsOnly s _
  have h2 : s1.EventsOnly s2 := by
    show s1.EventsOnly (if q1.2 then _ else _)
    split
    · exact bump_eventsOnly _ _ (by decide)
    · exact State.EventsOnly.refl _
  have h3 : s2.EventsOnly s3 := by
    show s2.EventsOnly (if q2.2 then _ else _)
    split
    · exact bump_eventsOnly _ _ (by decide)
    · exact State.EventsOnly.refl _
  have h4 : s3.EventsOnly s4 := by
    show s3.EventsOnly (if q3.2 then _ else _)
    split
    · exact bump_eventsOnly _ _ (by decide)
    · exact State.EventsOnly.refl _
  exact (((h1.trans h2).trans h3).trans h4).trans ((State.EventsOnly.ofSetNat _ _ _ (by decide)).trans (refreshSync_eventsOnly _))

theorem holdEvent_eventsOnly (s : State) (e : Event) : s.EventsOnly (s.holdEvent e) := by
  unfold State.holdEvent
  split <;> exact setEvents_eventsOnly s _

theorem setLog_eventsOnly (s : State) (l : Log) : s.EventsOnly { s with log := l } := ⟨rfl, fun _ _ => rfl⟩

theorem appendLog_eventsOnly (s : State) (cls kind detail : Nat) : s.EventsOnly (s.appendLog cls kind detail) := by
  unfold State.appendLog
  extract_lets e full sram s1
  have h : s.EventsOnly s1 := by
    show s.EventsOnly (if full then _ else _)
    split
    · exact bump_eventsOnly _ _ (by decide)
    · exact State.EventsOnly.refl _
  exact State.EventsOnly.trans h (setLog_eventsOnly _ _)

/-- An event told, or held before ready. -/
theorem tell_eventsOnly (s : State) (cls kind src : Nat) (f : List (Nat × Int)) : s.EventsOnly (s.tell cls kind src f) := by
  unfold State.tell
  split
  · dsimp only
    split
    · exact issueEvent_eventsOnly s _
    · exact holdEvent_eventsOnly s _
  · exact State.EventsOnly.refl s

/-- Everything that raising an event can do. -/
theorem raise_eventsOnly (s : State) (cls kind src : Nat) (f : List (Nat × Int)) : s.EventsOnly (s.raise cls kind src f) := by
  unfold State.raise
  refine State.EventsOnly.trans ?_ (tell_eventsOnly _ _ _ _ _)
  split
  · exact appendLog_eventsOnly s _ _ _
  · exact State.EventsOnly.refl s

/-- A subindex that events do not write keeps its number. -/
theorem raise_nat (s : State) (cls kind src : Nat) (f : List (Nat × Int)) (j : Nat) (h : j ∉ eventKeys) :
    (s.raise cls kind src f).nat j = s.nat j := by
  unfold State.nat State.num
  rw [(raise_eventsOnly s cls kind src f).2 j h]

/-! ### Requests -/

/-- What the answer to a request changes. -/
@[simp] theorem reply_val (s : State) (c : Nat) (d : Bytes) (j : Nat) : (s.reply c d).val j = s.val j := rfl

@[simp] theorem reply_nat (s : State) (c : Nat) (d : Bytes) (j : Nat) : (s.reply c d).nat j = s.nat j := rfl

/-- An accepted request of a requester writes only the holder's activity instant (R359). -/
theorem touch_nat (s : State) (r : Requester) (j : Nat) (h : j ≠ 0x103005) : (s.touch r).nat j = s.nat j := by
  unfold State.touch
  split
  · show State.nat (if s.nat 0x103001 = portNo r then s.setNat 0x103005 s.gnomon else s) j = s.nat j
    split
    · simp [h]
    · rfl
  · rfl

/-- A refused write changes nothing but the answer, and what the automatic take of the token has done (R349, R361). -/
theorem request_refused (s : State) (r : Requester) (key : Nat) (b : Bytes) (act : State → State × Nat)
    (h : (s.autoTake r key).judgeWrite r key b ≠ 0) :
    s.request r key b act = (s.autoTake r key).reply ((s.autoTake r key).judgeWrite r key b) [] := by
  unfold State.request State.carryOut
  simp [firstCode, h]

/-- An accepted write does its action, is counted as activity, and is answered with 0. -/
theorem request_done (s : State) (r : Requester) (key : Nat) (b : Bytes) (act : State → State × Nat)
    (h : (s.autoTake r key).judgeWrite r key b = 0) (hr : (pairedRes key).isSome ∨ rangeCheck key b = 0)
    (ha : (act (s.autoTake r key)).2 = 0) :
    s.request r key b act = ((act (s.autoTake r key)).1.touch r).reply 0 [] := by
  unfold State.request State.carryOut
  have hc : firstCode [(s.autoTake r key).judgeWrite r key b, if (pairedRes key).isSome then 0 else rangeCheck key b] = 0 := by
    rcases hr with hr | hr <;> simp [firstCode, h, hr]
  simp [hc, ha]

end Sys2Proof.Machine
end

