-- ==== Sys2Proof/Tests/Slice0.lean ====
section
/-!
SUPPORT. Tests/Slice0.lean: witnesses that meet the hypotheses of the statements, with their conclusions, and the smoke tests.
-/
namespace Sys2Proof.Tests

open Sys2Proof Sys2Proof.Machine

set_option maxRecDepth 100000

/-- A device that runs in LISTEN. -/
def live : State := { State.reset with mode := .listen, ready := true }

/-- The same with a time on the Gnomon. -/
def late : State := { live with gnomon := 10 ^ 12 }

/-- A device that runs in FULL. -/
def full : State := { late with mode := .full }


/-- Engine e runs the FM image. -/
def fmOn (e : Nat) : State :=
  (full.setUStateQuiet (0x200 + e) 2).setEngine e { Engine.init with image := 0x0101 }

/-- The same with its demodulator. -/
def fmWith (e : Nat) (d : FmDemod) : State := (fmOn e).setFm e { Fm.init with dem := d }

/-- Chain n runs and feeds engine e. -/
def feed (n e : Nat) (s : State) : State :=
  (s.setUStateQuiet (0x100 + n) 2).setCommitted (ck n 0x12) (.num (0x200 + e : Nat))

/-- Lantern runs, with an active slot of a verified PI. -/
def lanternOn (i pi : Nat) : State :=
  (full.setUStateQuiet 0x700 2).setSlot i { Slot.init with active := true, sync := true, pi := pi, piState := 2 }

/-- Engine e runs an image. -/
def runImage (e image : Nat) : State :=
  (full.setUStateQuiet (0x200 + e) 2).setEngine e { Engine.init with image := image }

/-- Engine e is the front engine of a running ensemble receiver in a state. -/
def dabOn (e st : Nat) : State :=
  ((((((runImage e 0x0103).setNat (desc (0x200 + e) 4) 0x300).setCommitted (desc 0x300 9) (.num 2)).setCommitted
    (desc 0x300 0x10) (.num (0x200 + e : Nat))).setCommitted (desc 0x300 0x11) (.num (0x201 + e : Nat))).setCommitted
    (obj (0x2400 + e) 1) (.num 0x0103)).setNat (dk e 1) st

/-- Engine e runs a DRM receiver in a state. -/
def drmOn (e st : Nat) : State := (runImage e 0x0104).setNat (rk e 1) st

/-- A sub-channel. -/
def aSub (id : Nat) (q : List LogicalFrame) : SubChannel := ⟨id, 1, 2, 0, 96, [], 15, q⟩

/-- A service. -/
def aService : DabService := ⟨⟨0xD210, 0, 0, 63, 3, 0, true, false, false⟩, true, 0, 0, 0, [], 0⟩

/-- A good unit of one logical frame. -/
def aUnit : AudioUnit := ⟨1, some true, false, 1, 0, true, [(1, 2)], []⟩

/-- Gloaming blends: slot 0, in force, reads FM engine 0 with a verified PI; following is automatic. -/
def blendOn : State :=
  let s := ((fmOn 0).setUStateQuiet 0x201 2).setEngine 1 { Engine.init with image := 0x0101 }
  ((((s.setNat 0x490002 0x200).setNat 0x490001 1).setNat 0x480001 2).setNat (fmf 0 2) 2).setNat (fmf 0 1) 0xD210

/-- A candidate for following. -/
def aCandidate (kHz id system : Nat) : Candidate := ⟨kHz, id, system, 1, 2, 1, 5000, 0, 0, none, 0, none⟩

/-- The AF-check engine 6 serves chain 5. -/
def checkOn (cs : List Candidate) : State :=
  (feed 5 6 ({ (blendOn.setUStateQuiet 0x206 2).setEngine 6 { Engine.init with image := 0x0302 } with
    following := { Following.init with candidates := cs } })).setNat 0x480007 0x206

/-- A DAB decoder in state 2 with a service, as the source of slot i. -/
def dabSlot (i e : Nat) (s : State) : State :=
  ((((s.setUStateQuiet (0x200 + e) 2).setEngine e { Engine.init with image := 0x0201 }).setNat (obj 0x4900 (2 + i)) (0x200 + e)).setNat
    (ddec e 6) 2).setDabDecoder e ⟨[(0xD210, 0), (0, 0)], 0⟩

/-- The foreground is DAB and mostly bad; following is automatic. -/
def mostly : State :=
  ((dabSlot 0 2 full).setAll [(0x490001, 1), (0x480001, 2)]).setGslot 0
    { GSlot.init with meter := { Meter.init with ms := [{ MonoMs.init with hidden := 48000 }] } }

/-- 1 ms of sound. -/
def loud : MonoMs := { MonoMs.init with power := 2 ^ 47 }

/-- A slot with 8 s of sound. -/
def heardSlot (at_ : Nat) : GSlot :=
  { GSlot.init with next := some 384000, estimatedAt := at_, meter := { Meter.init with ms := List.replicate 8000 loud, last := 7999 } }

/-- Slots 0 and 1 have 8 s of sound. -/
def metered (at_ : Nat) : State :=
  ((blendOn.setAll [(0x490003, 0x201), (gk 1 1, 2), (0x49000F, 1)]).setGslot 0 (heardSlot at_)).setGslot 1 (heardSlot at_)

theorem heard_window (at_ : Nat) : (heardSlot at_).meter.window 384000 = some (List.replicate 8000 loud) := by
  simp [heardSlot, Meter.window, lastN]

theorem heard_clear : windowVoid (List.replicate 8000 loud) = false := by
  have h : ∀ (n : Nat) (a x : Rat), (List.replicate n x).foldl (· + ·) a = a + n * x := by
    intro n
    induction n with
    | zero => intros; simp
    | succ n ih => intro a x; rw [List.replicate_succ, List.foldl_cons, ih]; push_cast; ring
  have k : ∀ n a : Nat, (List.replicate n 0).foldl (· + ·) a = a := by
    intro n
    induction n with
    | zero => intros; rfl
    | succ n ih => intro a; rw [List.replicate_succ, List.foldl_cons, ih]; omega
  unfold windowVoid
  rw [List.map_replicate, List.map_replicate, h, show loud.hidden = 0 from rfl, k, show loud.power = 2 ^ 47 from rfl]
  norm_num

theorem heard_bands : ((metered 384000).bandGains 1).isSome = true := by
  have a : ((metered 384000).gslot 1).meter.window ((metered 384000).gslot 1).estimatedAt = some (List.replicate 8000 loud) :=
    heard_window _
  have b : ((metered 384000).gslot ((metered 384000).nat 0x490005)).meter.window ((metered 384000).gslot 1).estimatedAt
      = some (List.replicate 8000 loud) := heard_window _
  unfold State.bandGains
  simp only [a, b, heard_clear]
  rfl

/-- A floor from its bounds. -/
theorem floor_of (x : Rat) (k : Int) (a : (k : Rat) ≤ x) (b : x < k + 1) : x.floor = k := Int.floor_eq_iff.mpr ⟨a, b⟩

/-- The fit over two edges 3,200 ticks apart. -/
theorem two_edges : fittedRate [(0, 0), (1, 3200)] = 48000000 := by
  norm_num [fittedRate, meanOf, quot, roundRat, clampInt]
  rw [floor_of _ 48000000 (by norm_num) (by norm_num)]
  decide

/-- The fit over two edges 1,000 ticks apart. -/
theorem fast_edges : fittedRate [(0, 0), (1, 1000)] = 153600000 := by
  norm_num [fittedRate, meanOf, quot, roundRat, clampInt]
  rw [floor_of _ 153600000 (by norm_num) (by norm_num)]
  decide

/-- The fit over 64 edges on one tick and one 3,200 ticks later. -/
theorem same_edges : fittedRate (List.replicate 64 (0, 0) ++ [(1, 3200)]) = 48000000 := by
  norm_num [fittedRate, meanOf, quot, roundRat, clampInt, List.replicate]
  rw [floor_of _ 48000000 (by norm_num) (by norm_num)]
  decide

/-- A blend-back that following began. -/
def aFade : BlendFade := ⟨0, 1, 96, 96, 0, 0, false, 0, [], true⟩

/-- Stream u is in a state. -/
def stream (u st : Nat) : State := (full.setUStateQuiet (0x400 + u) 2).setNat (as_ u 1) st

/-- The rate loop's flag leaves the correction. -/
theorem flag_num (s : State) (b : Bool) :
    State.num (if b = true then s.setAudioFlag 0 0 else s) (as_ 0 5) = s.num (as_ 0 5) := by
  have k : as_ 0 5 ∉ eventKeys := by decide
  have e : as_ 0 5 ≠ as_ 0 0x0E := by decide
  cases b
  · rfl
  · simp only [if_true]
    unfold State.setAudioFlag
    split
    · rfl
    · unfold State.audioEvent State.num
      rw [(raise_eventsOnly _ _ _ _ _).2 _ k]
      unfold State.setNat
      rw [setVal_val, if_neg e]

/-- A correction set is the correction read. -/
theorem corr_num (s : State) (r : Stream) (c : Int) : ((s.setStream 0 r).setCorrection 0 c).num (as_ 0 5) = c := by
  unfold State.setCorrection State.setNum State.setNat State.num
  rw [setVal_val, if_neg (by decide), setVal_val, if_pos rfl]

/-- The mesh network runs. -/
def meshOn : State := ((full.setUStateQuiet 0x500 2).setUStateQuiet 0x502 2).setNat 0x700106 3300

/-- The mesh tap runs. -/
def tapOn : State :=
  ((meshOn.setNat 0x731001 0x203).setUStateQuiet 0x203 2).setEngine 3 { Engine.init with image := 0x0301 }
    |>.setNat (desc 0x203 3) 0

/-- The half bits of a wake telegram from its sync on. -/
def halvesOf (code target : Nat) : List Bool := ((telegramBits code target).drop 16).flatMap fun b => [!b, b]

/-- A MAC frame to this device. -/
def aMac : MacFrame := ⟨1, 2, false, true, 5, 0xFFFF, .short 0xFFFF, .ext 9, 0, 0, 0, 0, 0, [1, 2]⟩

/-- A copy of it. -/
def aCopy : FrameCopy := ⟨0, 5, 900, 20, -70, 99, true, true, aMac⟩

/-- An immediate frame in hand. -/
def aFrame : OutFrame := { freshFrame .service 512 (.short 7) [1, 2] with handle := 5, secured := false }

/-- One that awaits its acknowledgement. -/
def sentFrame : OutFrame := { aFrame with stage := .sent, dsn := 5, last := 4, wait := 1000 }

/-- The acknowledgement. -/
def ackCopy : FrameCopy := { aCopy with frame := { aMac with type := 2, dst := .none, src := .none } }

/-- A frame accepted by the mesh core. -/
def aWork (kind : Nat) (src : Addr) (node : Nat) (body : Bytes) : Work :=
  ⟨⟨src, true, 1, 5, 900, 99, -70, []⟩, node, kind, 9, 1, [], [], body⟩

/-- The same awaiting its kind. -/
def withWork (w : Work) : State := { meshOn with mesh := { Mesh.init with work := [w] } }

/-- A sleepy node with a fix and a downlink. -/
def sleepy : Node :=
  { Node.init with
    state := 2, short := 7, interval := 5, listen := 40, fix := 10 ^ 12 - 10 ^ 6, anchor := 10 ^ 12 - 10 ^ 6,
    queue := [⟨3, 3, 10 ^ 13, [1], 0, false⟩] }

/-- The mesh network with a key. -/
def keyed : State :=
  { meshOn.setNat 0x602402 1 with
    otp := { meshOn.otp with securedFuses := 8 }, flash := { meshOn.flash with keys := [(0, ⟨1, 1, []⟩)] } }

/-- A launch entry that falls due now. -/
def aEntry (kind target : Nat) (param : Bytes) : LaunchEntry :=
  ⟨10 ^ 12, 10 ^ 12, 0, kind, 0, target, 0, 0, 0, 0, padTo 8 param⟩

/-- A claimed course with one claimed unit. -/
def courseReady : State :=
  (((full.setNat (desc 0x300 3) 0).setNat (desc 0x501 3) 0).setNat (desc 0x300 9) 1).setNat (desc 0x300 0x10) 0x501

/-- An event. -/
def anEvent (seq : Nat) : Event := ⟨seq, 5, 4, 1, 0x7600, List.replicate 16 0⟩

/-- The Quoin controller is active. -/
def onBus : State := full.setNat 0x104101 2

/-- Engine 2 runs in a course with shares of the second transform unit. -/
def jobReady : State :=
  ((((full.setUStateQuiet 0x202 2).setUStateQuiet 0x601 2).setNat (desc 0x202 4) 0x300).setCommitted (desc 0x300 9)
    (.num 1)).setCommitted (desc 0x300 0x10) (.num 0x080601)

/-- Clauses of `Obligations.RfCompletes` have instances: the hypotheses hold together, and the conclusion with them. -/
theorem witness_RfCompletes_1 :
    (∃ (path : _) (codes : _) (s : State), (path < 2) ∧ (2 ≤ s.nat (obj (0x3000 + path) 1)) ∧ (s.gnomon % 256 = 0) ∧ (Gives (.agcWindowEnd path codes) s fun _ => True)) ∧
    (∃ (path : _) (codes : _) (s : State), (path < 2) ∧ (2 ≤ s.nat (obj (0x3000 + path) 1)) ∧ (s.gnomon % 256 = 0) ∧ (s.nat (obj (0x3000 + path) 2) ≠ 0) ∧ ((clipsOf s.gnomon codes).isSome = true) ∧ (Gives (.agcWindowEnd path codes) s fun _ => True)) ∧
    (∃ (path : _) (s : State), (path < 2) ∧ (s.releaseDue path = true) ∧ (s.releaseHeld path = false) ∧ (Gives (.agcReleaseStep path) s fun t => (landing s.gnomon, GainMove.fall) ∈ (t.path path).moves ∧ (t.path path).lastRelease = some (landing s.gnomon))) ∧
    (∃ (path : _) (s : State), (path < 2) ∧ (2 ≤ s.nat (obj (0x3000 + path) 1)) ∧ (Gives (.lnaTrip path) s fun t => (landing s.gnomon, GainMove.trip) ∈ (t.path path).moves ∧ bitOf (t.nat (obj (0x3000 + path) 0x10)) 1 = true)) ∧
    (∃ (path : _) (land : _) (s : State), (path < 2) ∧ (s.nat (obj (0x3000 + path) 7) = 0) ∧ (s.linked = false) ∧ ((s.landGain path land .trip).nat (obj (0x3000 + path) 7) = 1 ∧ (s.landGain path land .trip).nat (obj (0x3000 + path) 6) = s.nat (obj (0x3000 + path) 6) + 12)) ∧
    (∃ (path : _) (land : _) (s : State), (path < 2) ∧ (s.linked = false) ∧ (s.nat (obj (0x3000 + path) 4) < s.nat (obj (0x3000 + path) 6)) ∧ (s.nat (obj (0x3000 + path) 6) ≤ 30) ∧ (s.nat (obj (0x3000 + path) 7) = 0) ∧ ((s.landGain path land .fall).nat (obj (0x3000 + path) 6) = s.nat (obj (0x3000 + path) 6) - 1)) ∧
    (∃ (r : _) (path : _) (gr : _) (s : State), (path < 2) ∧ (s.Accepts r (obj (0x3000 + path) 3) (leNat 1 gr)) ∧ (s.nat (obj (0x3000 + path) 2) = 0) ∧ (Gives (.manualGrWrite r path gr) s fun t => t.nat (obj (0x3000 + path) 3) = gr ∧ (2 ≤ s.nat (obj (0x3000 + path) 1) → (landing (s.gnomon + 8), GainMove.manual gr) ∈ (t.path path).moves))) ∧
    (∃ (r : _) (path : _) (mode : _) (s : State), (path < 2) ∧ (s.Accepts r (obj (0x3000 + path) 2) (leNat 1 mode)) ∧ (Gives (.agcModeWrite r path mode) s fun t => t.nat (obj (0x3000 + path) 2) = mode)) :=
  ⟨⟨0, [], { live.setNat 0x300001 2 with gnomon := 512 }, by decide, by decide, by decide, _, rfl, trivial⟩,
    ⟨0, [2047], { (live.setNat 0x300001 2).setNat 0x300002 1 with gnomon := 512 }, by decide, by decide, by decide, by decide, by decide, _, rfl, trivial⟩,
    ⟨0, (((late.setNat 0x300001 2).setNat 0x300002 1).setNat 0x300006 9), by decide, by decide, by decide, _, rfl, by decide, by decide⟩,
    ⟨1, (live.setNat 0x300101 2), by decide, by decide, _, rfl, by decide, by decide⟩,
    ⟨1, 0, (live.setNat 0x300101 2), by decide, by decide, by decide, by decide⟩,
    ⟨0, 4, ((late.setNat 0x300001 2).setNat 0x300006 9), by decide, by decide, by decide, by decide, by decide, by decide⟩,
    ⟨.mgmt, 0, 12, (live.setNat 0x300002 0).setNat 0x300001 2, by decide, by decide, by decide, _, rfl, by decide, by decide⟩,
    ⟨.quoin, 1, 2, full, by decide, by decide, _, rfl, by decide⟩⟩

/-- Clauses of `Obligations.RfCompletes` have instances: the hypotheses hold together, and the conclusion with them. -/
theorem witness_RfCompletes_2 :
    (∃ (level : _) (s : State), (s.nat 0x300020 = 1) ∧ (s.nat 0x300022 = 1) ∧ (s.nat 0x300001 = 2) ∧ (-100 < level) ∧ (Gives (.amAttenuationStep level) s fun t => (landing s.gnomon, GainMove.am (min 36 (s.nat 0x300023 + 6))) ∈ (t.path 0).moves ∧ t.amQuietSince = none)) ∧
    (∃ (r : _) (path : _) (bits : _) (s : State), (path < 2) ∧ (s.Accepts r (obj (0x3000 + path) 0x10) (leNat 1 bits)) ∧ (Gives (.overloadFlagsClear r path bits) s fun t => t.nat (obj (0x3000 + path) 0x10) = clearWritten 8 (s.nat (obj (0x3000 + path) 0x10)) bits)) ∧
    (∃ (path : _) (current : _) (s : State), (path < 2) ∧ ((s.antenna path).enable = true) ∧ (s.shorted path current = true) ∧ (Gives (.antennaShort path current) s fun t => (t.antenna path).enable = false ∧ t.nat (obj (0x3010 + path) 7) = if s.nat (obj (0x3010 + path) 8) ≤ (s.antenna path).retries then 5 else 4)) ∧
    (∃ (path : _) (codes : _) (s : State), (path < 2) ∧ (codes.length = 100) ∧ ((s.antenna path).meanAt = none) ∧ (Gives (.antennaCurrentJudge path codes) s fun t => t.nat (obj (0x3010 + path) 6) = min 65535 (s.senseMean path codes))) ∧
    (∃ (path : _) (since : _) (s : State), (path < 2) ∧ (s.nat (obj (0x3010 + path) 7) = 4) ∧ (s.antennaMode path = true) ∧ ((s.antenna path).retries < s.nat (obj (0x3010 + path) 8)) ∧ ((s.antenna path).faultAt = some since) ∧ (since + 153600000 ≤ s.gnomon) ∧ (Gives (.antennaRetry path) s fun t => (t.antenna path).enable = true ∧ t.nat (obj (0x3010 + path) 7) = 1)) ∧
    (∃ (r : _) (path : _) (value : _) (s : State), (path < 2) ∧ (s.Accepts r (obj (0x3010 + path) 9) (leNat 1 value)) ∧ (s.nat (obj (0x3010 + path) 7) = 5) ∧ (Gives (.antennaRestore r path value) s fun t => t.nat (obj (0x3010 + path) 7) ≤ 1)) ∧
    (∃ (lastGood : _) (s : State), (s.nat 0x300001 = 2) ∧ (Gives (.sampleClockUnlock lastGood) s fun t => t.nat 0x300001 = 3 ∧ t.nat 0x700202 = 1 ∧ s.gnomon ∈ t.power.unlocks)) :=
  ⟨⟨-50, ((live.setNat 0x300020 1).setNat 0x300022 1).setNat 0x300001 2, by decide, by decide, by decide, by decide, _, rfl, by decide, by decide⟩,
    ⟨.spi, 0, 3, live.setNat 0x300010 7, by decide, by decide, _, rfl, by decide⟩,
    ⟨1, 300, live.setAntenna 1 { Antenna.init with enable := true }, by decide, by decide, by decide, _, rfl, by decide, by decide⟩,
    ⟨0, List.replicate 100 512, live, by decide, by decide, by decide, _, rfl, by decide⟩,
    ⟨0, 5, (late.setNat 0x301007 4).setAntenna 0 { Antenna.init with faultAt := some 5 }, by decide, by decide, by decide, by decide, by decide, by decide, _, rfl, by decide, by decide⟩,
    ⟨.twoWire, 0, 1, live.setNat 0x301007 5, by decide, by decide, by decide, _, rfl, by decide⟩,
    ⟨0, live.setNat 0x300001 2, by decide, _, rfl, by decide, by decide, by decide⟩⟩

/-- Clauses of `Obligations.PlumbCompletes` have instances: the hypotheses hold together, and the conclusion with them. -/
theorem witness_PlumbCompletes_1 :
    (∃ (path : _) (sums : _) (s : State), (path < 2) ∧ ((s.plumbOf path).phase = .window) ∧ ((s.plumbOf path).stats = none) ∧ ((s.plumbOf path).windowStart + 16777216 ≤ s.gnomon) ∧ (Gives (.plumbWindowEnd path sums) s fun t => t.nat (obj (0x3020 + path) 8) = satAdd 32 (s.nat (obj (0x3020 + path) 8)) 1)) ∧
    (∃ (path : _) (w : _) (s : State), (path < 2) ∧ ((s.plumbOf path).phase = .proposal) ∧ ((s.plumbOf path).stats = some w) ∧ (s.preCheck path w = 0) ∧ (w.whole.all Trim.noChange = true) ∧ (Gives (.plumbProposalReady path) s fun t => t.nat (obj (0x3020 + path) 0x0D) = 2)) ∧
    (∃ (path : _) (w : _) (s : State), (path < 2) ∧ ((s.plumbOf path).phase = .post) ∧ ((s.plumbOf path).stats = some w) ∧ (w.o ≤ (s.plumbOf path).prevO + 30) ∧ (w.g ≤ (s.plumbOf path).prevG + 30) ∧ (Gives (.plumbPostCheck path) s fun t => t.nat (obj (0x3020 + path) 0x0D) = 1)) ∧
    (∃ (path : _) (s : State), (path < 2) ∧ (Gives (.plumbProtectedLost path) s fun t => (t.plumbOf path).nullStart = none)) ∧
    (∃ (entry : _) (e : _) (s : State), (s.dueEntry entry [7] = some e) ∧ (e.target = 0x800) ∧ (2 ≤ s.nat 0x300001) ∧ (Gives (.plumbBlank entry) s fun t => (t.path 0).blankOpen = true ∧ ((t.plumbOf 0).blanks.map (·.at_)).getLast? = some e.instant)) ∧
    (∃ (path : _) (b : _) (s : State), (path < 2) ∧ ((s.plumbOf path).changing = some b) ∧ (b.at_ + 384 ≤ s.gnomon) ∧ (Gives (.plumbTrimChange path) s fun _ => True)) ∧
    (∃ (path : _) (b : _) (s : State), (path < 2) ∧ ((s.plumbOf path).blanks.head? = some b) ∧ (b.at_ + 1920 ≤ s.gnomon) ∧ (b.job.action = 0) ∧ (Gives (.plumbBlankEnd path) s fun t => (t.plumbOf path).blanks = (s.plumbOf path).blanks.erase b)) ∧
    (∃ (path : _) (s : State), (path < 2) ∧ ((s.plumbOf path).phase = .idle) ∧ (s.nat (obj (0x3020 + path) 1) = 0) ∧ (2 ≤ s.nat (obj (0x3000 + path) 1)) ∧ ((s.plumbOf path).lastWindowStart + s.nat (obj (0x3020 + path) 2) * msTicks ≤ s.gnomon) ∧ (Gives (.estimatorWindowStart path) s fun t => (t.plumbOf path).phase = .window ∧ (t.plumbOf path).windowStart = s.gnomon)) :=
  ⟨⟨0, ⟨⟨20000, []⟩, ⟨0, []⟩⟩, full.setPlumb 0 { Plumb.init with phase := .window }, by decide, by decide, by decide, by decide, _, rfl, by decide⟩,
    ⟨0, ⟨true, 9, -100, 20, [], [], []⟩, full.setPlumb 0 { Plumb.init with phase := .proposal, stats := some ⟨true, 9, -100, 20, [], [], []⟩ }, by decide, by decide, by decide, by decide, by decide, _, rfl, by decide⟩,
    ⟨1, ⟨true, 9, -100, 20, [], [], []⟩, full.setPlumb 1 { Plumb.init with phase := .post, stats := some ⟨true, 9, -100, 20, [], [], []⟩ }, by decide, by decide, by decide, by decide, by decide, _, rfl, by decide⟩,
    ⟨1, full, by decide, _, rfl, by decide⟩,
    ⟨3, ⟨10 ^ 12, 10 ^ 12, 0, 7, 0, 0x800, 23, 0, 1, 0, [0, 0, 0, 0, 0, 0, 0, 0]⟩, (full.setNat 0x300001 2).setEntry 3 (some ⟨10 ^ 12, 10 ^ 12, 0, 7, 0, 0x800, 23, 0, 1, 0, [0, 0, 0, 0, 0, 0, 0, 0]⟩), by decide, by decide, by decide, _, rfl, by decide, by decide⟩,
    ⟨0, ⟨7, ⟨1, [3], 9⟩, false⟩, (full.setNat 0x302401 9).setPlumb 0 { Plumb.init with blanks := [⟨7, ⟨1, [3], 9⟩, false⟩] }, by decide, by decide, by decide, _, rfl, trivial⟩,
    ⟨0, ⟨7, ⟨0, [], 0⟩, false⟩, full.setPlumb 0 { Plumb.init with blanks := [⟨7, ⟨0, [], 0⟩, false⟩] }, by decide, by decide, by decide, by decide, _, rfl, by decide⟩,
    ⟨0, full.setNat 0x300001 2, by decide, by decide, by decide, by decide, by decide, _, rfl, by decide, by decide⟩⟩

/-- Clauses of `Obligations.PlumbCompletes` have instances: the hypotheses hold together, and the conclusion with them. -/
theorem witness_PlumbCompletes_2 :
    (∃ (r : _) (path : _) (s : State), (path < 2) ∧ (s.Accepts r (obj (0x3020 + path) 0x12) [1]) ∧ (s.nat (obj (0x3000 + path) 1) ≠ 0) ∧ (s.nat (obj (0x3020 + path) 1) ≠ 2) ∧ ((s.plumbOf path).phase = .idle) ∧ (Gives (.plumbRunCycle r path) s fun t => (t.plumbOf path).phase = .window ∧ (t.plumbOf path).windowStart = s.gnomon)) ∧
    (∃ (r : _) (path : _) (s : State), (path < 2) ∧ (s.Accepts r (obj (0x3020 + path) 0x12) [2]) ∧ (s.nat (obj (0x3000 + path) 1) ≠ 0) ∧ (s.applyArmed path = false) ∧ (Gives (.plumbRestoreKept r path) s fun t => (t.plumbOf path).jobs.getLast? = some ⟨2, s.trims 0x3026 path, 9⟩)) ∧
    (∃ (r : _) (path : _) (s : State), (path < 2) ∧ (s.Accepts r (obj (0x3020 + path) 0x12) [3]) ∧ (s.nat (obj (0x3000 + path) 1) ≠ 0) ∧ (s.applyArmed path = false) ∧ (Gives (.plumbLoadFactory r path) s fun t => (t.plumbOf path).jobs.getLast? = some ⟨2, s.trims 0x302A path, 9⟩)) ∧
    (∃ (r : _) (path : _) (s : State), (path < 2) ∧ (s.Accepts r (obj (0x3020 + path) 0x12) [4]) ∧ (s.nat (obj (0x3000 + path) 1) ≠ 0) ∧ (s.nat (obj (0x3020 + path) 1) = 2) ∧ (s.applyArmed path = false) ∧ (Gives (.plumbApplyStaged r path) s fun t => (t.plumbOf path).jobs.getLast? = some ⟨1, s.trims 0x3028 path, 10⟩)) ∧
    (∃ (r : _) (path : _) (n : _) (s : State), (path < 2) ∧ (s.Accepts r (obj (0x3020 + path) 0x12) [5]) ∧ (s.nat (obj (0x3000 + path) 1) ≠ 0) ∧ (s.nat (obj (0x3020 + path) 1) ≠ 0) ∧ (bitOf (s.nat (obj (0x3020 + path) 7)) 6 = false) ∧ (s.entryFor true = some n) ∧ (Gives (.plumbBlankTestStart r path) s fun t => ∃ e, t.entry n = some e ∧ e.instant = s.gnomon + 1536 ∧ e.kind = 7)) ∧
    (∃ (r : _) (path : _) (s : State), (path < 2) ∧ (s.Accepts r (obj (0x3020 + path) 0x12) [6]) ∧ (s.nat (obj (0x3000 + path) 1) ≠ 0) ∧ (Gives (.plumbBlankTestStop r path) s fun t => bitOf (t.nat (obj (0x3020 + path) 7)) 6 = false)) ∧
    (∃ (r : _) (path : _) (mode : _) (s : State), (path < 2) ∧ (s.Accepts r (obj (0x3020 + path) 1) (leNat 1 mode)) ∧ ((s.plumbOf path).phase = .idle) ∧ (Gives (.plumbModeWrite r path mode) s fun t => t.nat (obj (0x3020 + path) 1) = mode)) :=
  ⟨⟨.mgmt, 0, full.setNat 0x300001 2, by decide, by decide, by decide, by decide, by decide, _, rfl, by decide, by decide⟩,
    ⟨.mgmt, 0, full.setNat 0x300001 2, by decide, by decide, by decide, by decide, _, rfl, by decide⟩,
    ⟨.mgmt, 1, full.setNat 0x300101 2, by decide, by decide, by decide, by decide, _, rfl, by decide⟩,
    ⟨.mgmt, 0, (full.setNat 0x300001 2).setNat 0x302001 2, by decide, by decide, by decide, by decide, by decide, _, rfl, by decide⟩,
    ⟨.mgmt, 0, 0, (full.setNat 0x300001 2).setNat 0x302001 1, by decide, by decide, by decide, by decide, by decide, by decide, _, rfl, ⟨_, rfl, by decide, by decide⟩⟩,
    ⟨.mgmt, 0, ((full.setNat 0x300001 2).setNat 0x302001 1).setNat 0x302007 64, by decide, by decide, by decide, _, rfl, by decide⟩,
    ⟨.mgmt, 0, 1, full, by decide, by decide, by decide, _, rfl, by decide⟩⟩

/-- Clauses of `Obligations.ChainsComplete` have instances: the hypotheses hold together, and the conclusion with them. -/
theorem witness_ChainsComplete_1 :
    (∃ (r : _) (n : _) (v : _) (s : State), (24 ≤ n) ∧ (n < 32) ∧ (s.Accepts r (ck n 8) (leNat 1 v)) ∧ (s.ustate (0x100 + n) = 2) ∧ (s.lockSet n = [n]) ∧ ((s.chain n).fade = none) ∧ (s.nat (cs n 3) ≠ v) ∧ (s.nat (ck n 9) ≠ 0) ∧ (Gives (.responseSelect r n v) s fun t => (t.chain n).fade = some ⟨s.nat (cs n 3), v, s.nat (ck n 9), 0, s.firNow n, false⟩ ∧ t.answer.code = 0)) ∧
    (∃ (r : _) (n : _) (f : _) (s : State), (24 ≤ n) ∧ (n < 32) ∧ (s.Accepts r (ck n 0x0A) [1]) ∧ (s.lockSet n = [n]) ∧ ((s.chain n).fade = some f) ∧ (f.len ≠ 0) ∧ (Gives (.fadeReverse r n) s fun t => (t.chain n).fade = some (f.turn (s.firNow n)))) ∧
    (∃ (n : _) (f : _) (s : State), (n < 32) ∧ (s.lockSet n = [n]) ∧ ((s.chain n).fade = some f) ∧ (f.done ≤ s.firNow n) ∧ (s.nat (cs n 4) = 0xFF) ∧ (Gives (.fadeEnd n) s fun t => (t.chain n).fade = none ∧ t.nat (cs n 3) = (if f.reversing then f.old else f.new) ∧ t.nat (cs n 5) = 0)) ∧
    (∃ (r : _) (n : _) (v : _) (s : State), (n < 32) ∧ (s.Accepts r (ck n 0x0E) (leNat 1 v)) ∧ (Gives (.dcFreezeWrite r n v) s fun t => t.nat (ck n 0x0E) = v)) ∧
    (∃ (r : _) (n : _) (bits : _) (s : State), (n < 32) ∧ (s.Accepts r (cs n 2) (leNat 2 bits)) ∧ (Gives (.saturationClear r n bits) s fun t => t.nat (cs n 2) = clearWritten 16 (s.nat (cs n 2)) bits)) ∧
    (∃ (n : _) (first : _) (a : _) (b : _) (sat : _) (s : State), (n < 32) ∧ ((s.chain n).detNext = some first) ∧ (s.ustate (0x100 + n) = 2) ∧ (s.nat (obj (0x3160 + n) 1) = 1) ∧ (s.quick n = 0) ∧ (s.computed n (first + s.nat (obj (0x3160 + n) 3) - 1) = true) ∧ (Gives (.detectorBlockEnd n a b sat) s fun _ => True)) :=
  ⟨⟨.mgmt, 30, 5, (full.setNat (desc 0x11E 2) 2).setNat (ck 30 9) 32, by decide, by decide, by decide, by decide, by decide, by decide, by decide, by decide, _, rfl, by decide, by decide⟩,
    ⟨.mgmt, 24, ⟨0, 3, 9, 0, 5, false⟩, full.setChain 24 { Chain.init with fade := some ⟨0, 3, 9, 0, 5, false⟩ }, by decide, by decide, by decide, by decide, by decide, by decide, _, rfl, by decide⟩,
    ⟨24, ⟨0, 3, 9, 0, 5, false⟩, full.setChain 24 { Chain.init with fade := some ⟨0, 3, 9, 0, 5, false⟩ }, by decide, by decide, by decide, by decide, by decide, _, rfl, by decide, by decide, by decide⟩,
    ⟨.mgmt, 31, 1, full, by decide, by decide, _, rfl, by decide⟩,
    ⟨.spi, 0, 5, full.setNat (cs 0 2) 7, by decide, by decide, _, rfl, by decide⟩,
    ⟨2, 64, ⟨0, []⟩, ⟨0, []⟩, true, ((full.setNat (desc 0x102 2) 2).setNat 0x316201 1).setChain 2 { Chain.init with detNext := some 64 }, by decide, by decide, by decide, by decide, by decide, by decide, _, rfl, trivial⟩⟩

/-- Clauses of `Obligations.ChainsComplete` have instances: the hypotheses hold together, and the conclusion with them. -/
theorem witness_ChainsComplete_2 :
    (∃ (r : _) (n : _) (sub : _) (v : _) (s : State), (n < 32) ∧ (s.Accepts r (obj (0x3160 + n) sub) (numBytes (obj (0x3160 + n) sub) v)) ∧ (Gives (.detectorSettingWrite r n sub v) s fun t => t.answer.code = 0 ∧ (sub = 1 → t.nat (obj (0x3160 + n) 1) = v.toNat) ∧ (sub = 2 ∨ sub = 3 → s.nat (obj (0x3160 + n) 1) = 0 ∨ s.ustate (0x100 + n) ≠ 2 ∨ s.quick n ≠ 0 → t.num (obj (0x3160 + n) sub) = v) ∧ (sub = 2 → s.nat (obj (0x3160 + n) 1) ≠ 0 → s.ustate (0x100 + n) = 2 → s.quick n = 0 → (t.chain n).detFreq = some v ∧ t.num (obj (0x3160 + n) 2) = s.num (obj (0x3160 + n) 2)) ∧ (sub = 3 → s.nat (obj (0x3160 + n) 1) ≠ 0 → s.ustate (0x100 + n) = 2 → s.quick n = 0 → (t.chain n).detLen = some v.toNat ∧ t.nat (obj (0x3160 + n) 3) = s.nat (obj (0x3160 + n) 3)))) ∧
    (∃ (entry : _) (n : _) (e : _) (s : State), (n < 32) ∧ (s.dueEntry entry [4] = some e) ∧ (e.target = 0x100 + n) ∧ (s.chainLive (0x100 + n) = true) ∧ (s.lockSet n = [n]) ∧ (Gives (.chainRetune entry) s fun t => t.num (cs n 0x0A) = signed 4 (fieldLe e.param 0 4) ∧ t.nat (cs n 0x0B) = nthD e.param 4 0)) ∧
    (∃ (entry : _) (n : _) (e : _) (s : State), (n < 32) ∧ (s.dueEntry entry [5] = some e) ∧ (e.target = 0x100 + n) ∧ (s.chainLive (0x100 + n) = true) ∧ (s.lockSet n = [n]) ∧ (Gives (.antennaSwitch entry) s fun t => (t.chain n).path = nthD e.param 0 0)) ∧
    (∃ (n : _) (a : _) (b : _) (sat : _) (grid : _) (stop : _) (s : State), (n < 32) ∧ (s.nextBlock n = some (grid, stop)) ∧ (s.ustate (0x100 + n) = 2) ∧ (s.nat (obj (0x3000 + (s.chain n).path) 1) = 2) ∧ (s.computed n (stop - 1) = true) ∧ (s.cnat (ck n 0x12) = 0) ∧ ((s.fifo (obj (0x2520 + n) 0)).recs.length < 16) ∧ (Gives (.chainBlockOut n a b sat) s fun _ => True)) ∧
    (∃ (s : State), (s.nat 0x300001 = 3) ∧ (Gives .sampleClockRelock s fun t => t.nat 0x300001 = 2 ∧ t.nat 0x700202 = 0)) :=
  ⟨⟨.mgmt, 2, 3, 2048, ((full.setNat (desc 0x102 2) 2).setNat 0x316201 2), by decide, by decide, _, rfl, by decide, by decide, by decide, by decide, by decide⟩,
    ⟨3, 5, ⟨10 ^ 12, 10 ^ 12, 0, 4, 0, 0x105, 0xFE, 0, 1, 0, [1, 2, 0, 0, 9, 0, 0, 0]⟩, (full.setNat (desc 0x105 2) 2).setEntry 3 (some ⟨10 ^ 12, 10 ^ 12, 0, 4, 0, 0x105, 0xFE, 0, 1, 0, [1, 2, 0, 0, 9, 0, 0, 0]⟩), by decide, by decide, by decide, by decide, by decide, _, rfl, by decide, by decide⟩,
    ⟨3, 5, ⟨10 ^ 12, 10 ^ 12, 0, 5, 0, 0x105, 0xFE, 0, 1, 0, [1, 0, 0, 0, 0, 0, 0, 0]⟩, (full.setNat (desc 0x105 2) 2).setEntry 3 (some ⟨10 ^ 12, 10 ^ 12, 0, 5, 0, 0x105, 0xFE, 0, 1, 0, [1, 0, 0, 0, 0, 0, 0, 0]⟩), by decide, by decide, by decide, by decide, by decide, _, rfl, by decide⟩,
    ⟨1, ⟨0, []⟩, ⟨0, []⟩, 0, 64, 160, ((((full.setNat 0x300001 2).setNat (desc 0x101 2) 2).setCommitted (ck 1 0x12) (.num 0)).setCommitted (ck 1 0x11) (.num 160)).setChain 1 { Chain.init with next := 64, gap := none }, by decide, by decide, by decide, by decide, by decide, by decide, by decide, _, rfl, trivial⟩,
    ⟨full.setNat 0x300001 3, by decide, _, rfl, by decide, by decide⟩⟩

/-- Clauses of `Obligations.CapturesComplete` have instances: the hypotheses hold together, and the conclusion with them. -/
theorem witness_CapturesComplete :
    (∃ (r : _) (c : _) (u : _) (s : State), (c < 4) ∧ (s.Accepts r (cap c 5) [1]) ∧ (s.captureBusy c = false) ∧ ((s.autoTake r (cap c 5)).captureCheck c = 0) ∧ ((s.autoTake r (cap c 5)).captureBuffer c = some u) ∧ (Gives (.captureArm r c) s fun t => t.nat (cap c 6) = 1 ∧ t.awaiting.contains (cap c 7) = true)) ∧
    (∃ (r : _) (c : _) (s : State), (c < 4) ∧ (s.Accepts r (cap c 5) [2]) ∧ (s.captureWaits c = true) ∧ (Gives (.captureTriggerNow r c) s fun t => t.nat (cap c 6) = 2 ∧ (t.capture c).trigger = some (s.gnomon, 0))) ∧
    (∃ (r : _) (c : _) (s : State), (c < 4) ∧ (s.Accepts r (cap c 5) [3]) ∧ (s.captureBusy c = true) ∧ (Gives (.captureAbort r c) s fun t => t.nat (cap c 6) = 4)) ∧
    (∃ (r : _) (c : _) (s : State), (c < 4) ∧ (s.Accepts r (cap c 5) [4]) ∧ (s.captureBusy c = false) ∧ (Gives (.captureFree r c) s fun t => t.nat (cap c 6) = 0 ∧ t.capture c = Capture.init)) ∧
    (∃ (entry : _) (c : _) (e : _) (s : State), (c < 4) ∧ (s.dueEntry entry [0x0A] = some e) ∧ (fieldLe e.param 0 2 = c) ∧ (s.captureWaits c = true) ∧ (Gives (.captureTrigger entry) s fun t => t.nat (cap c 6) = 2 ∧ (t.capture c).trigger = some (e.instant, e.phase))) ∧
    (∃ (c : _) (x : _) (a : _) (b : _) (s : State), (c < 4) ∧ ((s.capture c).stopped = some x) ∧ (s.captureBusy c = true) ∧ (Gives (.captureComplete c a b) s fun _ => True)) :=
  ⟨⟨.mgmt, 0, _, ((full.setNat (cap 0 1) 0x100).setNat (cap 0 2) 0).setNat (cap 0 3) 64, by decide, by decide, by decide, by decide, rfl, _, rfl, by decide, by decide⟩,
    ⟨.mgmt, 3, full.setNat (cap 3 6) 1, by decide, by decide, by decide, _, rfl, by decide, by decide⟩,
    ⟨.mgmt, 3, full.setNat (cap 3 6) 1, by decide, by decide, by decide, _, rfl, by decide⟩,
    ⟨.mgmt, 1, full.setNat (cap 1 6) 3, by decide, by decide, by decide, _, rfl, by decide, by decide⟩,
    ⟨3, 2, ⟨10 ^ 12, 10 ^ 12, 1, 0x0A, 0, 0, 0xFE, 0, 1, 0, [2, 0, 0, 0, 0, 0, 0, 0]⟩, (full.setNat (cap 2 6) 1).setEntry 3 (some ⟨10 ^ 12, 10 ^ 12, 1, 0x0A, 0, 0, 0xFE, 0, 1, 0, [2, 0, 0, 0, 0, 0, 0, 0]⟩), by decide, by decide, by decide, by decide, _, rfl, by decide, by decide⟩,
    ⟨1, 5, ⟨0, []⟩, ⟨0, []⟩, (full.setNat (cap 1 6) 2).setCapture 1 { Capture.init with stopped := some 5 }, by decide, by decide, by decide, _, rfl, trivial⟩⟩

/-- Clauses of `Obligations.EnginesComplete` have instances: the hypotheses hold together, and the conclusion with them. -/
theorem witness_EnginesComplete_1 :
    (∃ (e : _) (s : State), (e < 12) ∧ (s.loads.head? = some e) ∧ ((s.engine e).loadFrom.isSome = true) ∧ (Gives (.engineLoadComplete e true) s fun t => t.nat (ek e 3) = 2 ∧ (t.engine e).image = s.cnat (ek e 1) ∧ e ∉ t.loads)) ∧
    (∃ (e : _) (cause : _) (s : State), (s.engineLive e = true) ∧ (0x0202 ≤ cause) ∧ (cause ≤ 0x0204) ∧ (s.parent (0x200 + e) = 0xFFFF) ∧ (Gives (.engineFault e cause) s fun t => t.nat (ek e 0x0B) = cause ∧ t.nat (ek e 0x0C) = s.gnomon)) ∧
    (∃ (e : _) (cause : _) (s : State), (s.engineLive e = true) ∧ (0x0202 ≤ cause) ∧ (cause ≤ 0x0204) ∧ (s.cnat (ek e 5) = 1) ∧ ((s.recentRestarts e).length < 3) ∧ (Gives (.engineFault e cause) s fun t => (t.engine e).restart = some ⟨1, s.gnomon⟩ ∧ t.nat (ek e 0x0B) = cause ∧ t.ustate (0x200 + e) = s.ustate (0x200 + e))) ∧
    (∃ (e : _) (s : State), (s.engineLive e = true) ∧ (s.ustate (0x200 + e) = 2) ∧ ((s.engine e).restart = none) ∧ ((s.engine e).beat + 1536000 ≤ s.gnomon) ∧ (s.parent (0x200 + e) = 0xFFFF) ∧ (Gives (.engineWatchdog e) s fun t => t.nat (ek e 0x0B) = 0x0201 ∧ t.nat (ek e 0x0C) = s.gnomon)) ∧
    (∃ (e : _) (d : _) (s : State), (e < 12) ∧ ((s.engine e).restart = some ⟨1, d⟩) ∧ (d + 1536 ≤ s.gnomon) ∧ (Gives (.engineRestartReload e) s fun t => (t.engine e).restart = some ⟨2, d⟩ ∧ e ∈ t.loads)) ∧
    (∃ (e : _) (d : _) (s : State), (e < 12) ∧ ((s.engine e).restart = some ⟨3, d⟩) ∧ (Gives (.engineRestoreEnd e) s fun t => (t.engine e).restart = none)) :=
  ⟨⟨4, { (full.setEngine 4 { Engine.init with loadFrom := some 7 }) with loads := [4, 5] }, by decide, by decide, by decide, _, rfl, by decide, by decide, by decide⟩,
    ⟨11, 0x0203, full.setNat (desc 0x20B 2) 3, by decide, by decide, by decide, by decide, _, rfl, by decide, by decide⟩,
    ⟨0, 0x0202, (full.setNat (desc 0x200 2) 2).setCommitted (ek 0 5) (.num 1), by decide, by decide, by decide, by decide, by decide, _, rfl, by decide, by decide, by decide⟩,
    ⟨0, full.setNat (desc 0x200 2) 2, by decide, by decide, by decide, by decide, by decide, _, rfl, by decide, by decide⟩,
    ⟨0, 9, full.setEngine 0 { Engine.init with restart := some ⟨1, 9⟩ }, by decide, by decide, by decide, _, rfl, by decide, by decide⟩,
    ⟨0, 9, full.setEngine 0 { Engine.init with restart := some ⟨3, 9⟩ }, by decide, by decide, _, rfl, by decide⟩⟩

/-- Clauses of `Obligations.EnginesComplete` have instances: the hypotheses hold together, and the conclusion with them. -/
theorem witness_EnginesComplete_2 :
    (∃ (a : _) (e : _) (kind : _) (holder : _) (reads : _) (writes : _) (s : State), (a < 8) ∧ (e < 12) ∧ (s.ustate (0x600 + a) = 2) ∧ (s.ustate (0x200 + e) = 2) ∧ (kind.fits = true) ∧ (s.jobHolder a e kind = some holder) ∧ (Gives (.acceleratorJobSubmit a e kind reads writes) s fun t => (t.accel a).jobs = (s.accel a).jobs ++ [⟨e, holder, s.gnomon, kind.ticks, 0⟩])) ∧
    (∃ (a : _) (e : _) (j : _) (rest : _) (s : State), (a < 8) ∧ (takeFirst (fun j : Job => j.engine == e && decide (j.ticks ≤ j.done)) (s.accel a).jobs = some (j, rest)) ∧ (Gives (.acceleratorJobComplete a e) s fun t => (t.accel a).jobs = rest ∧ t.nat (ak a 1) = satAdd 32 (s.nat (ak a 1)) 1)) ∧
    (∃ (a : _) (s : State), (a < 8) ∧ (s.ustate (0x600 + a) ≠ 4) ∧ ((s.accel a).jobs.any (fun j => 4 * j.ticks + 4096 < j.done) = true) ∧ ((s.accel a).resets = []) ∧ (Gives (.acceleratorTimeout a) s fun t => (t.accel a).jobs = [] ∧ t.nat (ak a 3) = satAdd 32 (s.nat (ak a 3)) 1)) ∧
    (∃ (a : _) (s : State), (a < 8) ∧ (s.ustate (0x600 + a) ≠ 4) ∧ ((∀ c, c ∈ s.naming (0x600 + a) → s.ustate c ≠ 2 ∨ s.cnat (desc c 8) = 1)) ∧ (Gives (.acceleratorMemoryError a) s fun t => t.nat (desc (0x600 + a) 5) = 0x0602)) ∧
    (∃ (r : _) (a : _) (s : State), (a < 8) ∧ (s.Accepts r (ak a 5) (leNat 4 0)) ∧ (Gives (.acceleratorWaitClear r a 0) s fun t => t.nat (ak a 5) = 0)) ∧
    (∃ (r : _) (e : _) (s : State), (e < 12) ∧ (s.Accepts r (ek e 9) (leNat 1 0)) ∧ (Gives (.peakCycleLoadClear r e 0) s fun t => t.nat (ek e 9) = 0)) :=
  ⟨⟨1, 2, .fft 2048 false, 0x300, [], [], jobReady, by decide, by decide, by decide, by decide, by decide, by decide, _, rfl, by decide⟩,
    ⟨7, 2, ⟨2, 0x300, 5, 90, 90⟩, [], full.setAccel 7 { Accel.init with jobs := [⟨2, 0x300, 5, 90, 90⟩] }, by decide, by decide, _, rfl, by decide, by decide⟩,
    ⟨7, full.setAccel 7 { Accel.init with jobs := [⟨2, 0x300, 5, 90, 9000⟩] }, by decide, by decide, by decide, by decide, _, rfl, by decide, by decide⟩,
    ⟨0, full, by decide, by decide, by decide, _, rfl, by decide⟩,
    ⟨.mgmt, 0, full.setNat (ak 0 5) 8, by decide, by decide, _, rfl, by decide⟩,
    ⟨.mgmt, 3, full.setNat (ek 3 9) 8, by decide, by decide, _, rfl, by decide⟩⟩

/-- Clauses of `Obligations.FmCompletes` have instances: the hypotheses hold together, and the conclusion with them. -/
theorem witness_FmCompletes_1 :
    (∃ (e : _) (s : State), (s.runs e 0x0101 = true) ∧ (300 ≤ (s.fm e).dem.ctlAt) ∧ ((s.fm e).dem.ctlAt ≤ (s.fm e).dem.next) ∧ ((s.fm e).dem.marks.colds = []) ∧ (Gives (.fmControlUpdate e) s fun _ => True)) ∧
    (∃ (e : _) (x : _) (s : State), (s.runs e 0x0101 = true) ∧ ((s.fm e).dem.ms.length = 10) ∧ ((s.fm e).dem.ms.getLast? = some x) ∧ (Gives (.fmMetricsPublish e) s fun _ => True)) ∧
    (∃ (e : _) (s : State), (s.runs e 0x0101 = true) ∧ ((s.fm e).pilot = false) ∧ (50 ≤ (s.fm e).dem.strong) ∧ (Gives (.pilotDetected e) s fun t => (t.fm e).pilot = true ∧ t.nat (fmm e 7) = 1)) ∧
    (∃ (e : _) (s : State), (s.runs e 0x0101 = true) ∧ ((s.fm e).pilot = true) ∧ (50 ≤ (s.fm e).dem.weak) ∧ (Gives (.pilotLost e) s fun _ => True)) ∧
    (∃ (e : _) (n : _) (s : State), (s.runs e 0x0101 = true) ∧ (s.inputA e = some n) ∧ (s.cnat (fmk e 4) = 1) ∧ (isRom n = true) ∧ (s.adjacentOf e ≠ 0x7FFF) ∧ ((s.chain n).fade = none) ∧ (s.nat (cs n 4) = 0xFF) ∧ (s.ustate (0x100 + n) = 2) ∧ (s.lockSet n = [n]) ∧ (s.nat (ck n 9) ≠ 0) ∧ (bandwidthChoice (s.adjacentOf e) (s.nat (cs n 3)) ≠ s.nat (cs n 3)) ∧ (Gives (.fmBandwidthJudge e) s fun t => (t.chain n).fade = some ⟨s.nat (cs n 3), bandwidthChoice (s.adjacentOf e) (s.nat (cs n 3)), s.nat (ck n 9), 0, s.firNow n, false⟩)) ∧
    (∃ (e : _) (s : State), (s.runs e 0x0101 = true) ∧ (s.diversity e = 2) ∧ (64 ≤ (s.fm e).dem.estAt) ∧ ((s.fm e).dem.estAt ≤ (s.fm e).dem.next) ∧ ((s.fm e).dem.marks.colds = []) ∧ (Gives (.diversityEstimate e) s fun _ => True)) ∧
    (∃ (e : _) (s : State), (s.runs e 0x0101 = true) ∧ (s.diversity e = 1) ∧ ((s.fm e).selected = 0) ∧ (300 ≤ (s.fm e).dem.selAt) ∧ ((s.fm e).dem.selAt ≤ (s.fm e).dem.next) ∧ ((s.fm e).dem.marks.colds = []) ∧ (Gives (.diversitySelect e) s fun _ => True)) :=
  ⟨⟨0, fmWith 0 { FmDemod.init with ctlAt := 300, next := 900 }, by decide, by decide, by decide, by decide, _, rfl, trivial⟩,
    ⟨1, ⟨512, -500, -1400, -600, 3, 7, 4⟩, fmWith 1 { FmDemod.init with ms := List.replicate 10 ⟨512, -500, -1400, -600, 3, 7, 4⟩ }, by decide, by decide, by decide, _, rfl, trivial⟩,
    ⟨11, fmWith 11 { FmDemod.init with strong := 50 }, by decide, by decide, by decide, _, rfl, by decide, by decide⟩,
    ⟨2, (fmOn 2).setFm 2 { Fm.init with pilot := true, dem := { FmDemod.init with weak := 50 } }, by decide, by decide, by decide, _, rfl, trivial⟩,
    ⟨0, 30, ((((((((feed 30 0 (fmOn 0)).setCommitted (fmk 0 4) (.num 1)).setNat (cs 30 3) 2).setNat (ck 30 9) 32).setUStateQuiet 0x700 2).setNat 0x430010 206).setNat (cs 30 0x0B) 5).setCommitted 0x430004 (.num 96000)).setSlot 0 { Slot.init with adjacent := 500 }, by decide, by decide, by decide, by decide, by decide, by decide, by decide, by decide, by decide, by decide, by decide, _, rfl, by decide⟩,
    ⟨0, (feed 4 0 (feed 3 0 (fmWith 0 { FmDemod.init with estAt := 64, next := 900 }))).setCommitted (fmk 0 1) (.num 2), by decide, by decide, by decide, by decide, by decide, _, rfl, trivial⟩,
    ⟨0, (feed 4 0 (feed 3 0 (fmWith 0 { FmDemod.init with selAt := 300, next := 900 }))).setCommitted (fmk 0 1) (.num 1), by decide, by decide, by decide, by decide, by decide, by decide, _, rfl, trivial⟩⟩

/-- Clauses of `Obligations.FmCompletes` have instances: the hypotheses hold together, and the conclusion with them. -/
theorem witness_FmCompletes_2 :
    (∃ (e : _) (s : State), (s.runs e 0x0101 = true) ∧ ((s.inputB e).isSome = true) ∧ ((s.fm e).bAbsent = false) ∧ ((s.fm e).lastB + 3072000 ≤ s.gnomon) ∧ ((s.fm e).dem.marks.colds = []) ∧ (Gives (.inputBAbsent e) s fun t => (t.fm e).bAbsent = true ∧ (t.fm e).selected = 0 ∧ t.nat (fmm e 0x0C) = 0)) ∧
    (∃ (e : _) (n : _) (b : _) (rest : _) (s : State), (s.runs e 0x0101 = true) ∧ (n < 32) ∧ (s.cnat (ck n 0x12) = 0x200 + e) ∧ ((s.chain n).queue = b :: rest) ∧ (Gives (.fmBlockProcess e n) s fun t => (t.chain n).queue = rest)) ∧
    (∃ (e : _) (first : _) (second : _) (s : State), (s.runs e 0x0101 = true) ∧ (s.nat (fmr e 1) = 1) ∧ (inStep first second = true) ∧ (Gives (.rdsSyncGained e first second) s fun t => t.nat (fmr e 6) = 1 ∧ (t.fm e).sinceSync = [])) ∧
    (∃ (e : _) (s : State), (s.runs e 0x0101 = true) ∧ (outOfStep (s.fm e).sinceSync = true) ∧ (Gives (.rdsSyncLost e) s fun t => t.nat (fmr e 6) = 0)) ∧
    (∃ (e : _) (g : _) (s : State), (s.runs e 0x0101 = true) ∧ (s.nat (fmr e 1) = 1) ∧ (s.nat (fmr e 6) = 1) ∧ (s.nat (fmr e 2) = 1) ∧ (g.offsetE = true) ∧ ((∀ i, i < 4 → nthD g.classes i 3 = 0)) ∧ (s.fmErased e = []) ∧ ((s.fifo (fmq e 1)).recs.length < 64) ∧ (Gives (.rdsGroup e g) s fun t => (t.fifo (fmq e 1)).recs.length = (s.fifo (fmq e 1)).recs.length + 1 ∧ t.nat (fmr e 8) = satAdd 32 (s.nat (fmr e 8)) 1)) ∧
    (∃ (src : _) (b1 : _) (b2 : _) (b3 : _) (c : _) (i : _) (s : State), (s.tmcSource = (1, src)) ∧ (groupType b2 = 6) ∧ (s.nat (fmr src 1) = 1) ∧ (s.nat (fmr src 6) = 1) ∧ (c ≤ s.nat (fmr src 3)) ∧ (Gives (.tmcGroup false src ⟨i, [b1, b2, b3, 0xCD46], [c, c, c, c], false, false⟩) s fun t => t.tmc.app = some (b2 % 32) ∧ t.tmc.lastApp = some s.gnomon ∧ t.nat 0x428004 = 0xCD46)) ∧
    (∃ (k : _) (p : _) (s : State), (s.tmc.partials[k]? = some p) ∧ (p.began + 1536000000 ≤ s.gnomon) ∧ (Gives (.tmcIncompleteTimeout k) s fun t => t.tmc.partials = s.tmc.partials.eraseIdx k ∧ t.nat 0x428009 = satAdd 32 (s.nat 0x428009) 1)) :=
  ⟨⟨0, feed 4 0 (feed 3 0 (fmOn 0)), by decide, by decide, by decide, by decide, by decide, _, rfl, by decide, by decide, by decide⟩,
    ⟨0, 5, List.replicate 32 0, [[2]], (feed 5 0 (fmOn 0)).setChain 5 { Chain.init with queue := [List.replicate 32 0, [2]] }, by decide, by decide, by decide, by decide, _, rfl, by decide⟩,
    ⟨0, 0x00000FC, 0x0000198, (fmOn 0).setNat (fmr 0 1) 1, by decide, by decide, by decide, _, rfl, by decide, by decide⟩,
    ⟨3, ((fmOn 3).setNat (fmr 3 6) 1).setFm 3 { Fm.init with sinceSync := List.replicate 12 3 }, by decide, by decide, _, rfl, by decide⟩,
    ⟨0, ⟨5, [1, 2, 3, 4], [0, 0, 0, 0], false, true⟩, (((fmOn 0).setNat (fmr 0 1) 1).setNat (fmr 0 2) 1).setNat (fmr 0 6) 1, by decide, by decide, by decide, by decide, by decide, by decide, by decide, by decide, _, rfl, by decide, by decide⟩,
    ⟨2, 0x6201, 12305, 0, 0, 77, ((fmOn 2).setNat (fmr 2 1) 1).setNat (fmr 2 6) 1, by decide, by decide, by decide, by decide, by decide, _, rfl, by decide, by decide, by decide⟩,
    ⟨0, ⟨1, 2, [[3, 4]], 5, 0⟩, { late with tmc := { Tmc.init with partials := [⟨1, 2, [[3, 4]], 5, 0⟩] } }, by decide, by decide, _, rfl, by decide, by decide⟩⟩

/-- Clauses of `Obligations.LanternCompletes` have instances: the hypotheses hold together, and the conclusion with them. -/
theorem witness_LanternCompletes :
    (∃ (i : _) (pi : _) (at_ : _) (cls : _) (s : State), (i < 0x10000) ∧ (s.ustate 0x700 = 2) ∧ ((s.slot i).active = true) ∧ ((s.slot i).sync = true) ∧ (erasedClass cls (erasedBits at_ 0 s.lanternCores) ≤ 1) ∧ ((s.slot i).lastGroup ≠ some at_) ∧ (Gives (.lanternConfirmation i pi at_ cls) s fun t => (t.slot i).pi = pi ∧ (t.slot i).piState = (if (s.slot i).piState ≠ 0 ∧ (s.slot i).pi = pi then 2 else 1))) ∧
    (∃ (i : _) (s : State), ((s.dbEntry i).state = 1) ∧ ((s.dbEntry i).firstHeard + 1536000000 ≤ s.gnomon) ∧ (Gives (.entryExpiry i) s fun t => t.dbEntry i = Entry.init)) ∧
    (∃ (slot : _) (g : _) (i : _) (s : State), (s.ustate 0x700 = 2) ∧ ((s.slot slot).active = true) ∧ ((s.slot slot).sync = true) ∧ ((s.slot slot).piState = 2) ∧ (g.offsetE = false) ∧ (s.slotClass g 1 ≤ 2) ∧ (s.entryOf (s.slot slot).pi = some i) ∧ ((s.dbEntry i).state = 2) ∧ ((s.dbEntry i).best = some slot) ∧ ((s.dbEntry i).fg = none) ∧ (groupType (nthD g.blocks 1 0) = 4) ∧ (Gives (.lanternFieldUpdate slot g) s fun t => (t.dbEntry i).fields = (s.dbEntry i).fields.group (nthD g.blocks 1 0) (nthD g.blocks 2 0) (nthD g.blocks 3 0) (s.slotClass g))) ∧
    (∃ (i : _) (at_ : _) (s : State), ((s.dbEntry i).lastChange = some at_) ∧ ((s.dbEntry i).state ≠ 0) ∧ ((s.dbEntry i).held ≠ 0) ∧ (at_ + 15360000 ≤ s.gnomon) ∧ (Gives (.lanternEventMerge i) s fun t => (t.dbEntry i).held = 0 ∧ (t.dbEntry i).lastChange = some s.gnomon)) ∧
    (∃ (r : _) (s : State), (s.Accepts r 0x43000A [1]) ∧ (Gives (.lanternClearDatabase r) s fun t => t.lantern.entries = [] ∧ t.nat 0x430013 = 0 ∧ t.nat 0x430014 = 0)) ∧
    (∃ (r : _) (i : _) (s : State), (s.Accepts r 0x43000A [2]) ∧ (Gives (.lanternClearAf r) s fun t => (t.dbEntry i).afs = [])) ∧
    (∃ (r : _) (pi : _) (s : State), (pi < 65536) ∧ (s.Accepts r 0x431001 (leNat 2 pi)) ∧ (Gives (.queryPi r pi) s fun t => t.nat 0x431001 = pi)) ∧
    (∃ (slot : _) (g : _) (s : State), (s.ustate 0x700 = 2) ∧ ((s.slot slot).active = true) ∧ ((s.slot slot).sync = true) ∧ (Gives (.lanternRawGroup slot g) s fun t => (t.slot slot).groups = satAdd 32 (s.slot slot).groups 1)) ∧
    (∃ (s : State), (1 ≤ s.ustate 0x700) ∧ (s.ustate 0x700 ≤ 3) ∧ (s.parent 0x700 = 0xFFFF) ∧ (Gives .lanternMemoryError s fun t => t.ustate 0x700 = 4 ∧ t.nat (desc 0x700 5) = 0x0701)) :=
  ⟨⟨9, 0x6201, 55, 1, (lanternOn 0 0).setSlot 9 { Slot.init with active := true, sync := true, pi := 0x6201, piState := 1 }, by decide, by decide, by decide, by decide, by decide, by decide, _, rfl, by decide, by decide⟩,
    ⟨255, late.setDbEntry 255 { Entry.init with pi := 7, state := 1, firstHeard := 3 }, by decide, by decide, _, rfl, by decide⟩,
    ⟨4, ⟨5, [0x6201, 8192 + 32 * 9, 0, 0], [0, 0, 0, 0], false, false⟩, 6, (lanternOn 4 0x6201).setDbEntry 6 { Entry.init with pi := 0x6201, state := 2, best := some 4 }, by decide, by decide, by decide, by decide, by decide, by decide, by decide, by decide, by decide, by decide, by decide, _, rfl, by decide⟩,
    ⟨6, 5, late.setDbEntry 6 { Entry.init with pi := 7, state := 2, held := 1, lastChange := some 5 }, by decide, by decide, by decide, by decide, _, rfl, by decide, by decide⟩,
    ⟨.mgmt, (lanternOn 4 7).setDbEntry 6 { Entry.init with pi := 7, state := 2 }, by decide, _, rfl, by decide, by decide, by decide⟩,
    ⟨.mgmt, 6, (lanternOn 4 7).setDbEntry 6 { Entry.init with pi := 7, state := 2, afs := [9] }, by decide, _, rfl, by decide⟩,
    ⟨.spi, 0xFFFF, lanternOn 4 7, by decide, by decide, _, rfl, by decide⟩,
    ⟨4, ⟨5, [0x6201, 8192, 0, 0], [0, 0, 0, 0], false, false⟩, lanternOn 4 0x6201, by decide, by decide, by decide, _, rfl, by decide⟩,
    ⟨lanternOn 4 7, by decide, by decide, by decide, _, rfl, by decide, by decide⟩⟩

/-- Clauses of `Obligations.DabCompletes` have instances: the hypotheses hold together, and the conclusion with them. -/
theorem witness_DabCompletes_1 :
    (∃ (e : _) (s : State), (s.dabRuns e = true) ∧ (s.dabState e = 1) ∧ (Gives (.dabNullFound e) s fun t => t.dabState e = 2)) ∧
    (∃ (e : _) (off : _) (s : State), (s.dabRuns e = true) ∧ (s.dabState e = 2) ∧ (-25000 ≤ off) ∧ (off ≤ 25000) ∧ (Gives (.dabPrsCorrelate e off) s fun t => t.dabState e = 3 ∧ t.num (dk e 4) = off)) ∧
    (∃ (e : _) (s : State), (s.dabRuns e = true) ∧ (s.dabState e = 3) ∧ ((s.dab e).gotEnsemble = true) ∧ (2 ≤ (s.dab e).goodRun) ∧ (Gives (.dabFicAcquired e) s fun t => t.dabState e = 4 ∧ (t.dab e).since = s.gnomon ∧ (t.dab e).softFrom = s.gnomon ∧ t.nat (dk e 8) = satAdd 32 (s.nat (dk e 8)) 1)) ∧
    (∃ (e : _) (s : State), (s.dabRuns e = true) ∧ (2 ≤ s.dabState e) ∧ (s.dabState e ≤ 3) ∧ ((s.dab e).since + (if s.dabState e = 2 then 4 else 10) * dabFrameTicks ≤ s.gnomon) ∧ (Gives (.dabAcquisitionFail e) s fun t => t.dabState e = 1)) ∧
    (∃ (e : _) (s : State), (s.dabRuns e = true) ∧ (s.dabState e = 4) ∧ ((s.dab e).lost s.gnomon = true) ∧ (Gives (.dabSyncLost e) s fun t => t.dabState e = 5 ∧ (t.dab e).since = s.gnomon ∧ t.nat (dk e 3) = 0)) ∧
    (∃ (e : _) (at_ : _) (s : State), (s.dabRuns e = true) ∧ (s.dabState e = 5) ∧ ((s.dab e).goodAt = some at_) ∧ (Gives (.dabSyncRegained e) s fun t => t.dabState e = 4 ∧ (t.dab e).nullAt = at_)) ∧
    (∃ (e : _) (s : State), (s.dabRuns e = true) ∧ (s.dabState e = 5) ∧ ((s.dab e).since + s.nat (dk e 0x0A) * msTicks ≤ s.gnomon) ∧ (Gives (.dabLostTimeout e) s fun _ => True)) ∧
    (∃ (e : _) (at_ : _) (s : State), (s.dabRuns e = true) ∧ (s.dabState e = 4) ∧ (nullFits (s.dab e).nullAt at_ = true) ∧ (at_ + dabNullTicks ≤ s.gnomon) ∧ (Gives (.dabNullReport e at_) s fun t => t.nat (dk e 3) = at_ ∧ (t.dab e).nullAt = at_)) ∧
    (∃ (e : _) (cif : _) (at_ : _) (p : _) (b : _) (xs : _) (fs : _) (s : State), (s.dabRuns e = true) ∧ (s.dabState e = 4 ∨ s.dabState e = 5) ∧ ((s.dab e).softFrom ≤ at_) ∧ (Gives (.dabCifDecode e cif at_ p b xs fs) s fun _ => True)) :=
  ⟨⟨0, dabOn 0 1, by decide, by decide, _, rfl, by decide⟩,
    ⟨3, -25000, dabOn 3 2, by decide, by decide, by decide, by decide, _, rfl, by decide, by decide⟩,
    ⟨3, (dabOn 3 3).setDab 3 { Dab.init with gotEnsemble := true, goodRun := 2 }, by decide, by decide, by decide, by decide, _, rfl, by decide, by decide, by decide, by decide⟩,
    ⟨3, dabOn 3 3, by decide, by decide, by decide, by decide, _, rfl, by decide⟩,
    ⟨3, (dabOn 3 4).setNat (dk 3 3) 9, by decide, by decide, by decide, _, rfl, by decide, by decide, by decide⟩,
    ⟨3, 7, (dabOn 3 5).setDab 3 { Dab.init with goodAt := some 7 }, by decide, by decide, by decide, _, rfl, by decide, by decide⟩,
    ⟨3, (dabOn 3 5).setDab 3 { Dab.init with subs := [aSub 3 []] }, by decide, by decide, by decide, _, rfl, trivial⟩,
    ⟨3, 14745600, dabOn 3 4, by decide, by decide, by decide, by decide, _, rfl, by decide, by decide⟩,
    ⟨3, 7, 100, 2, [], [], [], (dabOn 3 4).setDab 3 { Dab.init with subs := [aSub 3 []] }, by decide, by decide, by decide, _, rfl, trivial⟩⟩

/-- Clauses of `Obligations.DabCompletes` have instances: the hypotheses hold together, and the conclusion with them. -/
theorem witness_DabCompletes_2 :
    (∃ (e : _) (cif : _) (s : State), (s.dabRuns e = true) ∧ (s.dabState e = 4 ∨ s.dabState e = 5) ∧ (s.mciDue e cif = true) ∧ (Gives (.dabReconfiguration e cif) s fun t => (t.dab e).subs = (s.dab e).nextSubs.map (keepQueue (s.dab e).subs) ∧ (t.dab e).nextSubs = [] ∧ (t.dab e).mciCif = cif ∧ t.nat (dk e 7) = 0xFFFF)) ∧
    (∃ (e : _) (raw : _) (at_ : _) (cif : _) (id : _) (n : _) (change : _) (s : State), (s.dabRuns e = true) ∧ (3 ≤ s.dabState e) ∧ (Gives (.dabFigDecode e 0 0 raw at_ cif (.ensemble id n change)) s fun t => (t.dab e).gotEnsemble = true ∧ t.nat (dk e 5) = id ∧ t.nat (dk e 6) = n ∧ t.nat (dk e 7) = change.getD 0xFFFF)) ∧
    (∃ (e : _) (s : State), (s.dabRuns e = true) ∧ (s.dabState e = 4) ∧ ((s.dab e).siComplete = false) ∧ ((s.dab e).since + 1536000000 ≤ s.gnomon) ∧ (Gives (.dabSiCompleteTimeout e) s fun t => (t.dab e).siComplete = true)) ∧
    (∃ (m : _) (i : _) (s : State), (s.runs m 0x0201 = true) ∧ (i < 2) ∧ (nthD (s.dabDecoder m).sel i (0, 0) ≠ (s.nat (ddec m (2 + 2 * i)), s.nat (ddec m (3 + 2 * i)))) ∧ (Gives (.dabServiceSelect m i) s fun t => t.nat (ddec m (8 + i)) = 0 ∧ (t.dabDecoder m).sel = setNth (s.dabDecoder m).sel i (s.nat (ddec m (2 + 2 * i)), s.nat (ddec m (3 + 2 * i))))) ∧
    (∃ (m : _) (i : _) (u : _) (n : _) (c : _) (s : State), (s.runs m 0x0201 = true) ∧ (i < 2) ∧ (1 ≤ s.nat (ddec m (6 + i))) ∧ (s.nat (ddec m (6 + i)) ≤ 3) ∧ (s.slotSub m i = some (n, c)) ∧ (u.taken ≤ c.queue.length) ∧ (u.crc = some true) ∧ (u.broken = false) ∧ (Gives (.dabAccessUnit m i (some u)) s fun _ => True)) ∧
    (∃ (e : _) (f : _) (at_ : _) (crc : _) (data : _) (s : State), (s.dabRuns e = true) ∧ (s.dabState e = 4) ∧ (f < 8) ∧ (bitOf (s.nat (ddat e (1 + f))) 31 = true) ∧ ((s.fifo (ddat e 9)).recs = []) ∧ (data.length ≤ 8191) ∧ (Gives (.dabPacketGroup e f at_ crc true false data) s fun t => (t.fifo (ddat e 9)).recs = [dataRecord at_ (s.dab e).dataSeq f crc 0 data])) ∧
    (∃ (e : _) (c : _) (at_ : _) (flags : _) (sub : _) (new : _) (s : State), (s.dabRuns e = true) ∧ (s.dabState e = 4) ∧ (Map.get (fun _ => (0, 0, 0, 0)) (s.dab e).annSeen c = (at_, flags, sub, new)) ∧ (flags ≠ 0) ∧ (s.gnomon < at_ + 307200000) ∧ (((s.dab e).anns.find? fun a => a.1 == c) ≠ some (c, flags, sub, new)) ∧ (Gives (.announcementStart e c) s fun t => (t.dab e).anns = ((s.dab e).anns.filter fun a => a.1 != c) ++ [(c, flags, sub, new)])) ∧
    (∃ (e : _) (c : _) (at_ : _) (sub : _) (new : _) (s : State), (s.dabRuns e = true) ∧ (((s.dab e).anns.find? fun a => a.1 == c).isSome = true) ∧ (Map.get (fun _ => (0, 0, 0, 0)) (s.dab e).annSeen c = (at_, 0, sub, new)) ∧ (Gives (.announcementEnd e c) s fun t => (t.dab e).anns = (s.dab e).anns.filter fun a => a.1 != c)) :=
  ⟨⟨3, 7, ((dabOn 3 4).setNat (dk 3 7) 7).setDab 3 { Dab.init with nextSubs := [aSub 3 []] }, by decide, by decide, by decide, _, rfl, by decide, by decide, by decide, by decide⟩,
    ⟨3, [5, 0, 1, 2, 3, 4], 100, 2, 0xC181, 77, none, dabOn 3 3, by decide, by decide, _, rfl, by decide, by decide, by decide, by decide⟩,
    ⟨3, dabOn 3 4, by decide, by decide, by decide, by decide, _, rfl, by decide⟩,
    ⟨1, 1, (runImage 1 0x0201).setNat (ddec 1 4) 0xD210, by decide, by decide, by decide, _, rfl, by decide, by decide⟩,
    ⟨1, 0, aUnit, 3, aSub 3 [⟨0, 7, [1], false⟩], ((((runImage 1 0x0201).setCommitted (ddec 1 1) (.num 0x203)).setNat (ddec 1 6) 1).setDab 3 { Dab.init with services := [aService], subs := [aSub 3 [⟨0, 7, [1], false⟩]] }).setDabDecoder 1 ⟨[(0xD210, 0), (0, 0)], 0⟩, by decide, by decide, by decide, by decide, by decide, by decide, by decide, by decide, _, rfl, trivial⟩,
    ⟨3, 7, 55, true, [1, 2], (dabOn 3 4).setNat (ddat 3 8) (2 ^ 31), by decide, by decide, by decide, by decide, by decide, by decide, _, rfl, by decide⟩,
    ⟨3, 1, 10 ^ 12, 2, 3, 0, (dabOn 3 4).setDab 3 { Dab.init with annSeen := [(1, (10 ^ 12, 2, 3, 0))] }, by decide, by decide, by decide, by decide, by decide, by decide, _, rfl, by decide⟩,
    ⟨3, 1, 0, 0, 0, (dabOn 3 4).setDab 3 { Dab.init with anns := [(1, 2, 3, 0)] }, by decide, by decide, by decide, _, rfl, by decide⟩⟩

/-- Clauses of `Obligations.AmCompletes` have instances: the hypotheses hold together, and the conclusion with them. -/
theorem witness_AmCompletes :
    (∃ (e : _) (s : State), (s.runs e 0x0102 = true) ∧ (s.nat (amm e 8) = 0) ∧ (50 ≤ (s.am e).dem.near) ∧ (Gives (.amPlllockChange e) s fun _ => True)) ∧
    (∃ (e : _) (s : State), (s.runs e 0x0102 = true) ∧ (s.nat (amm e 8) = 1) ∧ (50 ≤ (s.am e).dem.far) ∧ (Gives (.amPlllockChange e) s fun _ => True)) ∧
    (∃ (e : _) (x : _) (s : State), (s.runs e 0x0102 = true) ∧ (s.amAutomatic e = true) ∧ ((s.am e).fade = none) ∧ ((s.am e).wanted = none) ∧ ((s.am e).width = 3000) ∧ (3 < s.nat (amk e 4)) ∧ ((s.am e).dem.ms.getLast? = some x) ∧ (x.upper < -330) ∧ (x.lower < -330) ∧ ((s.am e).judgedAt + 2400 ≤ (s.am e).dem.next) ∧ (Gives (.amBandwidthJudge e) s fun _ => True)) ∧
    (∃ (e : _) (s : State), (s.runs e 0x0102 = true) ∧ ((s.am e).dem.ms.length = 10) ∧ (Gives (.amMetricsPublish e) s fun _ => True)) ∧
    (∃ (e : _) (x : _) (s : State), (s.runs e 0x0102 = true) ∧ (s.nat (amk e 5) = 1) ∧ ((s.am e).dem.ms.getLast? = some x) ∧ (x.level < 200) ∧ (Gives (.noiseBlankerSuspend e) s fun _ => True)) ∧
    (∃ (e : _) (n : _) (b : _) (rest : _) (s : State), (s.runs e 0x0102 = true) ∧ (n < 32) ∧ (s.cnat (ck n 0x12) = 0x200 + e) ∧ ((s.chain n).queue = b :: rest) ∧ (Gives (.amBlockProcess e n) s fun _ => True)) :=
  ⟨⟨0, (runImage 0 0x0102).setAm 0 { Am.init with dem := { AmDemod.init with near := 50 } }, by decide, by decide, by decide, _, rfl, trivial⟩,
    ⟨11, ((runImage 11 0x0102).setNat (amm 11 8) 1).setAm 11 { Am.init with dem := { AmDemod.init with far := 50 } }, by decide, by decide, by decide, _, rfl, trivial⟩,
    ⟨0, ⟨0, 0, 0, -331, -400⟩, (((runImage 0 0x0102).setNat (amk 0 2) 1).setNat (amk 0 4) 9).setAm 0 { Am.init with dem := { AmDemod.init with next := 2400, ms := [⟨0, 0, 0, -331, -400⟩] } }, by decide, by decide, by decide, by decide, by decide, by decide, by decide, by decide, by decide, by decide, _, rfl, trivial⟩,
    ⟨0, (runImage 0 0x0102).setAm 0 { Am.init with dem := { AmDemod.init with ms := List.replicate 10 ⟨0, 5, 0, -331, -400⟩ } }, by decide, by decide, _, rfl, trivial⟩,
    ⟨0, ⟨0, 199, 0, -331, -400⟩, ((runImage 0 0x0102).setNat (amk 0 5) 1).setAm 0 { Am.init with dem := { AmDemod.init with ms := [⟨0, 199, 0, -331, -400⟩] } }, by decide, by decide, by decide, by decide, _, rfl, trivial⟩,
    ⟨0, 5, List.replicate 32 0, [[2]], (feed 5 0 (runImage 0 0x0102)).setChain 5 { Chain.init with queue := [List.replicate 32 0, [2]] }, by decide, by decide, by decide, by decide, _, rfl, trivial⟩⟩

/-- Clauses of `Obligations.DrmCompletes` have instances: the hypotheses hold together, and the conclusion with them. -/
theorem witness_DrmCompletes_1 :
    (∃ (e : _) (m : _) (s : State), (s.drmRuns e = true) ∧ (s.drmState e = 1) ∧ (1 ≤ m) ∧ (m ≤ 4) ∧ (1 ≤ (s.gnomon - (s.drm e).since) / 30720000) ∧ ((s.drm e).leader = some (m, (s.gnomon - (s.drm e).since) / 30720000 - 1)) ∧ (Gives (.drmModeFound e m) s fun t => t.drmState e = 2 ∧ t.nat (rk e 3) = if s.cnat (rk e 2) = 0 then m else s.cnat (rk e 2))) ∧
    (∃ (e : _) (at_ : _) (off : _) (b : _) (s : State), (s.drmRuns e = true) ∧ (s.drmState e = 2) ∧ (-300 ≤ off) ∧ (off ≤ 300) ∧ ((s.drm e).since ≤ at_) ∧ ((s.drm e).lastSync = some b) ∧ (nextFrame (drmFrameTicks (s.nat (rk e 3))) b at_ = true) ∧ (Gives (.drmFrameSync e at_ off) s fun t => t.drmState e = 3 ∧ t.num (rk e 6) = off ∧ t.nat (rk e 0x0A) = at_ ∧ (t.drm e).kept = some at_)) ∧
    (∃ (e : _) (o : _) (c : _) (s : State), (s.drmRuns e = true) ∧ (s.drmState e = 3) ∧ (2 ≤ (s.drm e).goodRun) ∧ (facSupported ((s.engine e).image == 0x0105) o c = true) ∧ (Gives (.drmFacAcquired e o c) s fun t => t.drmState e = 4 ∧ t.nat (rk e 4) = o ∧ t.nat (rk e 5) = c ∧ (t.drm e).keptCells = [] ∧ (t.drm e).frames = (s.drm e).frames + (s.drm e).keptCells.length)) ∧
    (∃ (e : _) (timing : _) (s : State), (s.drmRuns e = true) ∧ (s.drmState e = 4) ∧ (timing = true ∨ 5 ≤ (s.drm e).badRun) ∧ (Gives (.drmSyncLost e timing) s fun t => t.drmState e = 5 ∧ (t.drm e).since = s.gnomon)) ∧
    (∃ (e : _) (s : State), (s.drmRuns e = true) ∧ (s.drmState e = 5) ∧ ((s.drm e).since + s.nat (rk e 7) * msTicks ≤ s.gnomon) ∧ (Gives (.drmLostTimeout e) s fun t => t.drmState e = s.drmFirst e ∧ (t.drm e).services = [])) ∧
    (∃ (e : _) (s : State), (s.drmRuns e = true) ∧ (2 ≤ s.drmState e) ∧ (s.drmState e ≤ 3) ∧ ((s.drm e).since + (if s.drmState e = 2 then 4 else 10) * drmFrameTicks (s.nat (rk e 3)) ≤ s.gnomon) ∧ (Gives (.drmAcquisitionFail e) s fun t => t.drmState e = if (s.engine e).image = 0x0105 then 2 else 1)) :=
  ⟨⟨2, 4, (drmOn 2 1).setDrm 2 { Drm.init with leader := some (4, (10 ^ 12) / 30720000 - 1) }, by decide, by decide, by decide, by decide, by decide, by decide, _, rfl, by decide, by decide⟩,
    ⟨2, 61440099, -300, 99, (drmOn 2 2).setDrm 2 { Drm.init with lastSync := some 99 }, by decide, by decide, by decide, by decide, by decide, by decide, by decide, _, rfl, by decide, by decide, by decide, by decide⟩,
    ⟨2, 3, 3, (drmOn 2 3).setDrm 2 { Drm.init with goodRun := 2 }, by decide, by decide, by decide, by decide, _, rfl, by decide, by decide, by decide, by decide, by decide⟩,
    ⟨2, true, drmOn 2 4, by decide, by decide, by decide, _, rfl, by decide, by decide⟩,
    ⟨2, drmOn 2 5, by decide, by decide, by decide, _, rfl, by decide, by decide⟩,
    ⟨2, drmOn 2 3, by decide, by decide, by decide, by decide, _, rfl, by decide⟩⟩

/-- Clauses of `Obligations.DrmCompletes` have instances: the hypotheses hold together, and the conclusion with them. -/
theorem witness_DrmCompletes_2 :
    (∃ (e : _) (at_ : _) (fac : _) (cs : _) (d : _) (sp : _) (fs : _) (gs : _) (m : _) (us : _) (s : State), (s.drmRuns e = true) ∧ (3 ≤ s.drmState e) ∧ (Gives (.drmMscFrame e at_ fac cs d sp fs gs m us) s fun _ => True)) ∧
    (∃ (e : _) (at_ : _) (svcs : _) (alts : _) (scheds : _) (utc : _) (half : _) (s : State), (s.drmRuns e = true) ∧ (s.drmState e = 4) ∧ (Gives (.drmSdcDecode e at_ true svcs alts scheds utc half) s fun t => (t.drm e).services = svcs.take 4 ∧ (t.drm e).superFrames = (s.drm e).superFrames + 1 ∧ (t.drm e).schedules = scheds)) ∧
    (∃ (e : _) (s : State), (s.drmRuns e = true) ∧ ((s.drm e).alternatives.map (s.scheduleFlags (s.drm e).schedules) ≠ (s.drm e).alternatives) ∧ (Gives (.drmScheduleEval e) s fun t => (t.drm e).alternatives = (s.drm e).alternatives.map (s.scheduleFlags (s.drm e).schedules))) ∧
    (∃ (m : _) (s : State), (s.runs m 0x0202 = true) ∧ (s.drmSelection m ≠ s.nat (rdec m 2)) ∧ (Gives (.drmServiceSelect m) s fun t => t.drmSelection m = s.nat (rdec m 2) ∧ t.nat (rdec m 4) = 0)) ∧
    (∃ (m : _) (text : _) (s : State), (s.runs m 0x0202 = true) ∧ (text.length ≤ 128) ∧ (Gives (.drmTextMessage m text) s fun t => t.bytes (rdec m 6) = text ∧ t.nat (rdec m 7) = (s.nat (rdec m 7) + 1) % 65536)) :=
  ⟨⟨2, 99, true, [], 5, 7, [], [], 0, [], drmOn 2 3, by decide, by decide, _, rfl, trivial⟩,
    ⟨2, 99, [], [], [], none, 0, drmOn 2 4, by decide, by decide, _, rfl, by decide, by decide, by decide⟩,
    ⟨2, (drmOn 2 4).setDrm 2 { Drm.init with alternatives := [⟨6000, 0, 4, 0, 0, 1⟩] }, by decide, by decide, _, rfl, by decide⟩,
    ⟨2, (runImage 2 0x0202).setNat (rdec 2 2) 77, by decide, by decide, _, rfl, by decide, by decide⟩,
    ⟨2, [72, 105], runImage 2 0x0202, by decide, by decide, _, rfl, by decide, by decide⟩⟩

/-- Clauses of `Obligations.FollowingCompletes` have instances: the hypotheses hold together, and the conclusion with them. -/
theorem witness_FollowingCompletes_1 :
    (∃ (codes : _) (s : State), (s.ustate 0x700 = 2) ∧ (s.lantern.lastPeriod < s.gnomon / 7680000) ∧ (Gives (.lanternPeriodEnd codes) s fun _ => True)) ∧
    (∃ (e : _) (null : _) (fibs : _) (errors : _) (fic : _) (off : _) (s : State), (s.dabRuns e = true) ∧ (3 ≤ s.dabState e) ∧ (Gives (.dabFrameEnd e null fibs errors fic off) s fun _ => True)) ∧
    (∃ (o : _) (k : _) (i : _) (sys : _) (s : State), (s.nat 0x480001 ≠ 0) ∧ (s.namedBy o k i sys = true) ∧ (s.candidate k i sys = none) ∧ (s.following.candidates.length < 32) ∧ (Gives (.candidateListUpdate o k i sys) s fun t => t.following.candidates.length = s.following.candidates.length + 1 ∧ (t.candidate k i sys).map (·.origin) = some (2 ^ o))) ∧
    (∃ (k : _) (i : _) (sys : _) (s : State), (Gives (.candidateAgeOut k i sys) s fun t => t.following.candidates = s.following.candidates.filter fun c => !(c.is k i sys && decide (c.namedAt + 9216000000 ≤ s.gnomon)))) ∧
    (∃ (s : State), (s.nat 0x480002 ≠ (s.identity.getD (0xFF, 0)).2) ∧ (Gives .identityChange s fun t => t.nat 0x480002 = (s.identity.getD (0xFF, 0)).2 ∧ t.nat 0x480003 = (s.identity.getD (0xFF, 0)).1 ∧ t.following.candidates = [])) ∧
    (∃ (n : _) (k : _) (i : _) (b : _) (c : _) (s : State), ((s.following.afChecks.find? fun k => k.chain == n) = none) ∧ (s.candidate k i 0 = some c) ∧ (s.afServes n = true) ∧ (s.afDue c = true) ∧ ((s.following.candidates.all fun d => !s.afDue d || decide (c.evaluatedAt ≤ d.evaluatedAt)) = true) ∧ ((s.placeRetune (3 + (s.nat 0x480007 - 0x200)) n k).isSome = true) ∧ (Gives (.afCheck n k i b) s fun t => t.nat 0x480010 = satAdd 32 (s.nat 0x480010) 1 ∧ (t.candidate k i 0).map (·.checkedAt) = some (some s.gnomon) ∧ t.following.afChecks.length = s.following.afChecks.length + 1)) ∧
    (∃ (n : _) (x : _) (y : _) (k : _) (since : _) (cls : _) (c : _) (s : State), ((s.following.afChecks.find? fun k => k.chain == n) = some k) ∧ (s.afServes n = true) ∧ (k.rds = some since) ∧ (s.gnomon < since + 76800000) ∧ (1 ≤ k.hits) ∧ (cls ≤ 1) ∧ (s.candidate k.kHz k.id 0 = some c) ∧ (Gives (.afCheck n x y (some (k.id, cls))) s fun t => (t.candidate k.kHz k.id 0).map (·.state) = some 2 ∧ (t.following.afChecks.find? fun k => k.chain == n) = none)) ∧
    (∃ (k : _) (n : _) (s : State), (s.following.check = none) ∧ (s.nat 0x480001 ≠ 0) ∧ (s.dabRuns (s.nat 0x480006 - 0x200) = true) ∧ ((s.inputs (s.nat 0x480006 - 0x200)).head? = some n) ∧ (s.receiverHeard (s.nat 0x480006 - 0x200) = false) ∧ (s.routeOf k 1 = 3) ∧ (((s.following.candidates.filter fun c => c.onDab k).all fun c => c.checkedAt.isNone) = true) ∧ ((s.following.candidates.any fun c => c.onDab k && decide (c.mismatchUntil ≤ s.gnomon)) = true) ∧ ((s.placeRetune 15 n k).isSome = true) ∧ (Gives (.ensembleCheck k) s fun t => t.following.check.map (fun v => (v.kHz, v.mers)) = some (k, []) ∧ t.nat 0x480010 = satAdd 32 (s.nat 0x480010) 1)) :=
  ⟨⟨⟨0, []⟩, lanternOn 4 7, by decide, by decide, _, rfl, trivial⟩,
    ⟨3, 100, [true], 5, [true, true, true], -312, dabOn 3 4, by decide, by decide, _, rfl, trivial⟩,
    ⟨3, 0, 0xD210, 1, blendOn, by decide, by decide, by decide, by decide, _, rfl, by decide, by decide⟩,
    ⟨100000, 7, 0, { blendOn with following := { Following.init with candidates := [aCandidate 100000 7 0] } }, _, rfl, by decide⟩,
    ⟨blendOn, by decide, _, rfl, by decide, by decide, by decide⟩,
    ⟨5, 100000, 7, none, aCandidate 100000 7 0, checkOn [aCandidate 100000 7 0], by decide, by decide, by decide, by decide, by decide, by decide, _, rfl, by decide, by decide, by decide⟩,
    ⟨5, 0, 0, ⟨5, 100000, 7, 0, [], some (10 ^ 12), 1, []⟩, 10 ^ 12, 1, aCandidate 100000 7 0, { checkOn [aCandidate 100000 7 0] with following := { Following.init with candidates := [aCandidate 100000 7 0], afChecks := [⟨5, 100000, 7, 0, [], some (10 ^ 12), 1, []⟩] } }, by decide, by decide, by decide, by decide, by decide, by decide, by decide, _, rfl, by decide, by decide⟩,
    ⟨225000, 5, ((feed 5 3 ({ dabOn 3 4 with following := { Following.init with candidates := [aCandidate 225000 7 1] } })).setNat 0x480006 0x203).setNat 0x480001 1, by decide, by decide, by decide, by decide, by decide, by decide, by decide, by decide, by decide, _, rfl, by decide, by decide⟩⟩

/-- Clauses of `Obligations.FollowingCompletes` have instances: the hypotheses hold together, and the conclusion with them. -/
theorem witness_FollowingCompletes_2 :
    (∃ (k : _) (x : _) (s : State), (s.following.check = some x) ∧ (x.at_ + 460800000 ≤ s.gnomon) ∧ (Gives (.ensembleCheck k) s fun t => t.following.check = none)) ∧
    (∃ (row : _) (target : _) (s : State), (target ≤ 2) ∧ (s.blending = true) ∧ (target ≠ s.nat 0x490005) ∧ (s.nat (gk target 1) = 2) ∧ (s.rowFits row target = true) ∧ (s.mayRequest = true) ∧ (s.fading = false) ∧ (Gives (.switchRequest row target) s fun t => t.gloaming.fade.map (·.new) = some target ∧ t.nat 0x48000F = satAdd 32 (s.nat 0x48000F) 1)) ∧
    (∃ (k : _) (i : _) (slot : _) (c : _) (w : _) (n : _) (s : State), (s.following.landing = none) ∧ (s.candidate k i 0 = some c) ∧ (slot ≤ 2) ∧ (s.blending = true) ∧ (s.mayRequest = true) ∧ (s.landable c = true) ∧ (s.landingWord 0 = some w) ∧ (s.slotSource slot = 0) ∧ (s.slotBusy slot = false) ∧ (s.inputA (wordEngine w) = some n) ∧ ((s.placeRetune 15 n k).isSome = true) ∧ (Gives (.landing k i 0 slot) s fun t => t.following.landing.map (fun l => (l.slot, l.step, l.source)) = some (slot, 1, w))) ∧
    (∃ (k : _) (i : _) (slot : _) (c : _) (w : _) (s : State), (s.following.landing = none) ∧ (s.candidate k i 1 = some c) ∧ (slot ≤ 2) ∧ (s.blending = true) ∧ (s.mayRequest = true) ∧ (s.landable c = true) ∧ (s.landingWord 1 = some w) ∧ (s.slotSource slot = 0) ∧ (s.slotBusy slot = false) ∧ (Gives (.landing k i 1 slot) s fun t => t.following.landing.map (fun l => (l.slot, l.step, l.source)) = some (slot, 1, w) ∧ t.nat (ddec (wordEngine w) (2 + 2 * (w / 65536 % 2))) = i)) ∧
    (∃ (l : _) (s : State), (s.following.landing = some l) ∧ (l.step < 3) ∧ (l.since + 3072000000 ≤ s.gnomon) ∧ (Gives .landingTimeout s fun t => t.following.landing = none)) ∧
    (∃ (f : _) (s : State), (s.gloaming.fade = some f) ∧ (f.followBack = true) ∧ (f.reversing = false) ∧ (s.nat 0x480001 = 2) ∧ (s.targetBad f.new = true) ∧ (Gives .blendBackReverse s fun t => t.gloaming.fade = some { f with reversing := true } ∧ t.nat 0x490012 = 2)) ∧
    (∃ (f : _) (s : State), (s.gloaming.fade = some f) ∧ (f.ended = true) ∧ (s.gloaming.owed = 0) ∧ (s.nat 0x490014 = 0xFF) ∧ (Gives .blendFadeEnd s fun t => t.gloaming.fade = none ∧ t.nat 0x490005 = (if f.reversing then f.old else f.new) ∧ t.nat 0x490017 = satAdd 32 (s.nat 0x490017) 1)) :=
  ⟨⟨225000, ⟨225000, 9, []⟩, { blendOn with following := { Following.init with check := some ⟨225000, 9, []⟩ } }, by decide, by decide, _, rfl, by decide⟩,
    ⟨2, 1, ((dabSlot 1 4 blendOn).setAll [(gk 1 1, 2), (0x48000D, 1)]), by decide, by decide, by decide, by decide, by decide, by decide, by decide, _, rfl, by decide, by decide⟩,
    ⟨100000, 7, 2, { aCandidate 100000 7 0 with goodSince := some 0 }, 0x201, 5, feed 5 1 { blendOn.setNat 0x480004 0x201 with following := { Following.init with candidates := [{ aCandidate 100000 7 0 with goodSince := some 0 }] } }, by decide, by decide, by decide, by decide, by decide, by decide, by decide, by decide, by decide, by decide, by decide, _, rfl, by decide⟩,
    ⟨225000, 0xD210, 2, { aCandidate 225000 0xD210 1 with q := 9000 }, 0x204, ((({ mostly with following := { Following.init with candidates := [{ aCandidate 225000 0xD210 1 with q := 9000 }] } }).setUStateQuiet 0x204 2).setEngine 4 { Engine.init with image := 0x0201 }).setNat 0x480005 0x204, by decide, by decide, by decide, by decide, by decide, by decide, by decide, by decide, by decide, _, rfl, by decide, by decide⟩,
    ⟨⟨100000, 7, 0, 2, 1, 5, 0x201, 0x200, []⟩, { blendOn with following := { Following.init with landing := some ⟨100000, 7, 0, 2, 1, 5, 0x201, 0x200, []⟩ } }, by decide, by decide, by decide, _, rfl, by decide⟩,
    ⟨aFade, { blendOn with gloaming := { Gloaming.init with fade := some aFade } }, by decide, by decide, by decide, by decide, by decide, _, rfl, by decide, by decide⟩,
    ⟨{ aFade with pos := 96 * 96 }, { blendOn with gloaming := { Gloaming.init with fade := some { aFade with pos := 96 * 96 } } }, by decide, by decide, by decide, by decide, _, rfl, by decide, by decide, by decide⟩⟩

/-- Clauses of `Obligations.GloamingCompletes` have instances: the hypotheses hold together, and the conclusion with them. -/
theorem witness_GloamingCompletes_1 :
    (∃ (r : _) (s : State), (s.Accepts r 0x490001 [1]) ∧ (s.blending = false) ∧ ((s.mode = .listen ∨ s.mode = .full)) ∧ (s.slotSource 0 = 0) ∧ (s.slotSource 1 = 0) ∧ (s.slotSource 2 = 0) ∧ (Gives (.gloamingEnable r) s fun t => t.nat 0x490001 = 1 ∧ t.nat 0x490011 = s.nat 0x49000C * msTicks + msTicks)) ∧
    (∃ (r : _) (s : State), (s.Accepts r 0x490001 [0]) ∧ (s.blending = true) ∧ (Gives (.gloamingDisable r) s fun _ => True)) ∧
    (∃ (r : _) (i : _) (w : _) (s : State), (i < 3) ∧ (w < 2 ^ 32) ∧ (s.Accepts r (obj 0x4900 (2 + i)) (leNat 4 w)) ∧ (s.blending = false) ∧ (s.wordOk i w = true) ∧ (Gives (.slotSourceWrite r i w) s fun t => t.slotSource i = w ∧ t.nat (gk i 1) = (if w = 0 then 0 else 1))) ∧
    (∃ (i : _) (a : _) (b : _) (s : State), (s.blending = true) ∧ (i ≤ 2) ∧ (s.slotSource i ≠ 0) ∧ (s.nat 0x490005 ≠ i) ∧ ((s.gslot i).estimatedAt < s.estimateEnd i) ∧ ((s.gslot i).meter.window (s.estimateEnd i) = some a) ∧ ((s.gslot (s.nat 0x490005)).meter.window (s.estimateEnd i) = some b) ∧ (windowVoid a = false) ∧ (windowVoid b = false) ∧ (Gives (.lagEstimate i) s fun _ => True)) ∧
    (∃ (r : _) (i : _) (s : State), (s.Accepts r 0x490006 (leNat 1 i)) ∧ (i ≤ 2) ∧ (s.blending = true) ∧ (s.nat (gk i 1) = 2) ∧ (s.fading = false) ∧ (s.nat 0x490005 ≠ i) ∧ (Gives (.blendTarget r i) s fun t => t.gloaming.fade.map (·.new) = some i ∧ t.nat 0x490012 = 1)) ∧
    (∃ (r : _) (f : _) (s : State), (s.Accepts r 0x490007 [1]) ∧ (s.gloaming.fade = some f) ∧ (Gives (.blendFadeReverse r) s fun t => t.gloaming.fade = some { f with reversing := !f.reversing })) :=
  ⟨⟨.mgmt, full, by decide, by decide, by decide, by decide, by decide, by decide, _, rfl, by decide, by decide⟩,
    ⟨.mgmt, blendOn, by decide, by decide, _, rfl, trivial⟩,
    ⟨.mgmt, 2, 0x201, full.setEngine 1 { Engine.init with image := 0x0102 }, by decide, by decide, by decide, by decide, by decide, _, rfl, by decide, by decide⟩,
    ⟨1, List.replicate 8000 loud, List.replicate 8000 loud, metered 0, by decide, by decide, by decide, by decide, by decide, heard_window _, heard_window _, heard_clear, heard_clear, _, rfl, trivial⟩,
    ⟨.spi, 1, blendOn.setNat (gk 1 1) 2, by decide, by decide, by decide, by decide, by decide, by decide, _, rfl, by decide, by decide⟩,
    ⟨.mgmt, aFade, { blendOn with gloaming := { Gloaming.init with fade := some aFade } }, by decide, by decide, _, rfl, by decide⟩⟩

/-- Clauses of `Obligations.GloamingCompletes` have instances: the hypotheses hold together, and the conclusion with them. -/
theorem witness_GloamingCompletes_2 :
    (∃ (r : _) (i : _) (b : _) (s : State), (i < 3) ∧ (b < 256) ∧ (s.Accepts r (gk i 9) (leNat 1 b)) ∧ (s.blending = false) ∧ (Gives (.eqSelect r i b) s fun t => t.nat (gk i 7) = b)) ∧
    (∃ (r : _) (i : _) (b : _) (s : State), (i < 3) ∧ (b < 256) ∧ (s.Accepts r (gk i 9) (leNat 1 b)) ∧ (s.blending = true) ∧ (s.fading = false) ∧ ((s.gslot i).eqFade = none) ∧ (s.nat (gk i 7) ≠ b) ∧ (Gives (.eqSelect r i b) s fun t => (t.gslot i).eqFade = some ⟨b, s.bytes (gk i (0x0A + b)), 48 * s.nat (gk i 0x0C), 0⟩)) ∧
    (∃ (i : _) (f : _) (s : State), ((s.gslot i).eqFade = some f) ∧ (f.len ≤ f.run) ∧ (s.nat (gk i 8) = 0xFF) ∧ (Gives (.eqFadeEnd i) s fun _ => True)) ∧
    (∃ (i : _) (gains : _) (s : State), (s.bandGains i = some gains) ∧ (s.blending = true) ∧ (s.nat 0x49000F = 1) ∧ (i ≤ 2) ∧ (s.nat (gk i 1) = 2) ∧ (s.nat 0x490005 ≠ i) ∧ ((s.gslot i).eqFade = none) ∧ (s.nat (gk i 7) ≤ 1) ∧ (Gives (.tonalMatchUpdate i) s fun _ => True)) ∧
    (∃ (s : State), (s.blending = true) ∧ (s.gloaming.next + s.nat 0x490011 ≤ s.gnomon) ∧ (Gives .blendOutputFrame s fun _ => True)) :=
  ⟨⟨.mgmt, 2, 1, full, by decide, by decide, by decide, by decide, _, rfl, by decide⟩,
    ⟨.mgmt, 2, 1, blendOn, by decide, by decide, by decide, by decide, by decide, by decide, by decide, _, rfl, by decide⟩,
    ⟨2, ⟨1, [], 480, 480⟩, blendOn.setGslot 2 { GSlot.init with eqFade := some ⟨1, [], 480, 480⟩ }, by decide, by decide, by decide, _, rfl, trivial⟩,
    ⟨1, ((metered 384000).bandGains 1).get heard_bands, metered 384000, (Option.some_get heard_bands).symm, by decide, by decide, by decide, by decide, by decide, by decide, by decide, _, rfl, trivial⟩,
    ⟨blendOn, by decide, by decide, _, rfl, trivial⟩⟩

/-- Clauses of `Obligations.AudioCompletes` have instances: the hypotheses hold together, and the conclusion with them. -/
theorem witness_AudioCompletes_1 :
    (∃ (r : _) (u : _) (bits : _) (s : State), (s.Accepts r (as_ u 0x0E) (leNat 1 bits)) ∧ (Gives (.audioFlagsClear r u bits) s fun t => t.nat (as_ u 0x0E) = clearWritten 8 (s.nat (as_ u 0x0E)) bits)) ∧
    (∃ (r : _) (u : _) (q : _) (w : _) (s : State), (u < 5) ∧ (q < 4) ∧ (w < 2 ^ 32) ∧ (s.Accepts r (pairKey u q) (leNat 4 w)) ∧ (s.streamState u ≤ 1) ∧ (s.pairOk u (if u = 4 then 0 else q) w = true) ∧ (Gives (.pairSourceWrite r u q w) s fun t => t.nat (pairKey u q) = w)) ∧
    (∃ (u : _) (f : _) (s : State), (u < 5) ∧ (s.streamState u = 1 ∧ s.nat (as_ u 3) = 0 ∨ s.streamState u = 6) ∧ (64 ≤ (s.stream u).stable) ∧ (s.identifyRate u (s.stream u).rate64 = some f) ∧ (Gives (.streamIdentify u) s fun _ => True)) ∧
    (∃ (u : _) (s : State), (u < 5) ∧ (s.streamState u = 1 ∧ s.nat (as_ u 3) = 0 ∨ s.streamState u = 6) ∧ (64 ≤ (s.stream u).stable) ∧ (s.identifyRate u (s.stream u).rate64 = none) ∧ (Gives (.streamIdentify u) s fun _ => True)) ∧
    (∃ (u : _) (s : State), (u < 5) ∧ (s.streamState u ≠ 0) ∧ ((s.stream u).refRate * s.nat (if u = 4 then 0x500407 else ap u 7) < ((s.nat (as_ u 2) : Int) - (s.stream u).refRate).natAbs * 1000000) ∧ (Gives (.rateThreshold u) s fun t => (t.stream u).refRate = s.nat (as_ u 2))) ∧
    (∃ (u : _) (s : State), (u < 5) ∧ (s.streamState u = 1) ∧ (s.nat (as_ u 3) ≠ 0) ∧ ((s.stream u).readyAt + 307200 ≤ s.lastEdge u) ∧ (s.startMode u = 0) ∧ ((s.stream u).rejoin = false) ∧ (Gives (.streamSoloStart u) s fun _ => True)) ∧
    (∃ (n : _) (u : _) (e : _) (s : State), (s.dueEntry n [6] = some e) ∧ (u < 5) ∧ (bitOf (nthD e.param 0 0) u = true) ∧ (s.streamState u = 1) ∧ (s.startMode u = 1) ∧ (s.nat (as_ u 3) ≠ 0) ∧ (Gives (.portGroupStart n) s fun _ => True)) ∧
    (∃ (u : _) (s : State), (u < 5) ∧ (s.streamState u = 3) ∧ ((s.stream u).content + ((s.stream u).bound + 153600) * 65536 ≤ s.gnomon * 65536) ∧ ((s.stream u).next < 512) ∧ (s.nat (as_ u 7) ≤ (s.stream u).next) ∧ (Gives (.streamFrameProduce u) s fun _ => True)) :=
  ⟨⟨.mgmt, 4, 3, full.setNat (as_ 4 0x0E) 7, by decide, _, rfl, by decide⟩,
    ⟨.mgmt, 1, 1, 0x201, ((runImage 1 0x0101).setCommitted (ap 1 2) (.num 8)), by decide, by decide, by decide, by decide, by decide, by decide, _, rfl, by decide⟩,
    ⟨0, 48000, (stream 0 1).setStream 0 { Stream.init with stable := 64, edges := [(0, 0), (1, 3200)] }, by decide, Or.inl ⟨by decide, by decide⟩, by decide, by unfold Stream.rate64 State.stream; rw [show lastN 65 _ = [(0, 0), (1, 3200)] from rfl, two_edges]; decide, _, rfl, trivial⟩,
    ⟨0, (stream 0 6).setStream 0 { Stream.init with stable := 64, edges := [(0, 0), (1, 1000)] }, by decide, Or.inr (by decide), by decide, by unfold Stream.rate64 State.stream; rw [show lastN 65 _ = [(0, 0), (1, 1000)] from rfl, fast_edges]; decide, _, rfl, trivial⟩,
    ⟨4, ((stream 4 3).setNat (as_ 4 2) 48100000).setStream 4 { Stream.init with refRate := 48000000 }, by decide, by decide, by decide, _, rfl, by decide⟩,
    ⟨2, ((stream 2 1).setNat (as_ 2 3) 48000).setCommitted (ap 2 6) (.num 0), by decide, by decide, by decide, by decide, by decide, by decide, _, rfl, trivial⟩,
    ⟨9, 1, ⟨10 ^ 12, 10 ^ 12, 1, 6, 0, 0, 0xFE, 0, 1, 0, [6, 0, 0, 0, 0, 0, 0, 0]⟩, (((stream 1 1).setCommitted (ap 1 6) (.num 1)).setNat (as_ 1 3) 48000).setEntry 9 (some ⟨10 ^ 12, 10 ^ 12, 1, 6, 0, 0, 0xFE, 0, 1, 0, [6, 0, 0, 0, 0, 0, 0, 0]⟩), by decide, by decide, by decide, by decide, by decide, by decide, _, rfl, trivial⟩,
    ⟨1, stream 1 3, by decide, by decide, by decide, by decide, by decide, _, rfl, trivial⟩⟩

/-- Clauses of `Obligations.AudioCompletes` have instances: the hypotheses hold together, and the conclusion with them. -/
theorem witness_AudioCompletes_2 :
    (∃ (u : _) (s : State), (u < 5) ∧ (s.streamState u = 3) ∧ (Gives (.frameStartEdge u) s fun _ => True)) ∧
    (∃ (u : _) (s : State), (u < 5) ∧ (s.streamState u = 3) ∧ (s.nat (as_ u 0x10) = 0) ∧ (48 < ((s.fill u : Int) - 256).natAbs) ∧ ((s.stream u).loopAt + 64 ≤ s.nat (as_ u 7)) ∧ (Gives (.rateLoopUpdate u) s fun _ => True)) ∧
    (∃ (u : _) (l : _) (s : State), (((List.range 5).find? fun v => bitOf (s.nat (as_ u 0x10)) v && v != u && s.streamState v == 3) = some l) ∧ (u < 5) ∧ (bitOf (s.nat (as_ u 0x10)) u = true) ∧ (l < u) ∧ (s.streamState u = 3) ∧ (((s.stream u).firstEdge + 8 < (s.stream l).firstEdge ∨ (s.stream l).firstEdge + 8 < (s.stream u).firstEdge)) ∧ (Gives (.groupMemberRemoved u) s fun t => t.nat (as_ u 0x10) = 0)) ∧
    (∃ (u : _) (s : State), (u < 5) ∧ ((s.stream u).holdLanded = true) ∧ (s.streamState u = 3) ∧ (Gives (.postRoll u) s fun _ => True)) ∧
    (∃ (u : _) (s : State), (u < 5) ∧ (s.streamState u = 7) ∧ ((s.stream u).fadeFrom + 128 ≤ s.nat (as_ u 7)) ∧ ((s.stream u).holdLanded = true) ∧ (Gives (.postRollEnd u) s fun t => t.streamState u = 0 ∧ t.ustate (0x400 + u) = 3)) ∧
    (∃ (u : _) (s : State), (u < 5) ∧ (s.streamState u = 7) ∧ ((s.stream u).fadeFrom + 128 ≤ s.nat (as_ u 7)) ∧ ((s.stream u).holdLanded = false) ∧ (Gives (.postRollEnd u) s fun t => t.streamState u = 1 ∧ t.nat (as_ u 3) = 0 ∧ (t.stream u).rejoin = true)) ∧
    (∃ (u : _) (s : State), (u < 5) ∧ (s.streamState u = 3) ∧ ((s.stream u).has (s.nat (as_ u 7) + 127) = false) ∧ (Gives (.underrun u) s fun _ => True)) ∧
    (∃ (u : _) (s : State), (u < 5) ∧ (s.streamState u = 4) ∧ ((s.stream u).fadeFrom + 128 ≤ s.nat (as_ u 7)) ∧ (((List.range 128).all fun i => (s.stream u).has (s.nat (as_ u 7) + i)) = true) ∧ (Gives (.reEntry u) s fun _ => True)) :=
  ⟨⟨1, stream 1 3, by decide, by decide, _, rfl, trivial⟩,
    ⟨0, (stream 0 3).setNat (as_ 0 7) 64, by decide, by decide, by decide, by decide, by decide, _, rfl, trivial⟩,
    ⟨2, 0, ((((stream 2 3).setNat (as_ 0 1) 3).setNat (as_ 2 0x10) 5).setNat (as_ 0 0x10) 5).setStream 2 { Stream.init with firstEdge := 100 }, by decide, by decide, by decide, by decide, by decide, by decide, _, rfl, by decide⟩,
    ⟨3, ((stream 3 3).setNat (as_ 3 7) 900).setStream 3 { Stream.init with holdLanded := true }, by decide, by decide, by decide, _, rfl, trivial⟩,
    ⟨3, ((stream 3 7).setNat (as_ 3 7) 900).setStream 3 { Stream.init with holdLanded := true }, by decide, by decide, by decide, by decide, _, rfl, by decide, by decide⟩,
    ⟨3, ((stream 3 7).setNat (as_ 3 7) 900), by decide, by decide, by decide, by decide, _, rfl, by decide, by decide, by decide⟩,
    ⟨3, stream 3 3, by decide, by decide, by decide, _, rfl, trivial⟩,
    ⟨1, ((stream 1 4).setNat (as_ 1 7) 128).setStream 1 { Stream.init with ring := (List.range 128).map fun i => (128 + i, []) }, by decide, by decide, by decide, by decide, _, rfl, trivial⟩⟩

/-- Clauses of `Obligations.AudioCompletes` have instances: the hypotheses hold together, and the conclusion with them. -/
theorem witness_AudioCompletes_3 :
    (∃ (u : _) (s : State), (u < 5) ∧ (s.streamState u ≠ 0) ∧ (s.streamState u ≠ 5) ∧ ((s.stream u).holdLanded = false) ∧ (Gives (.clockLost u) s fun t => t.streamState u = 5 ∧ (t.stream u).ring = [] ∧ t.nat (as_ u 0x0C) = satAdd 32 (s.nat (as_ u 0x0C)) 1)) ∧
    (∃ (u : _) (f : _) (s : State), (u < 5) ∧ (s.streamState u = 5) ∧ (64 ≤ (s.stream u).stable) ∧ (s.identifyRate u (s.stream u).rate64 = some f) ∧ (s.nat (as_ u 0x10) = 0) ∧ (Gives (.clockReturn u) s fun _ => True)) ∧
    (∃ (u : _) (s : State), (u < 4) ∧ (s.streamState u = 3) ∧ ((s.stream u).glitchRun = 0) ∧ (Gives (.glitch u) s fun t => t.nat (as_ u 0x0B) = satAdd 32 (s.nat (as_ u 0x0B)) 1 ∧ (t.stream u).glitchRun = 1)) ∧
    (∃ (u : _) (s : State), (u < 5) ∧ (s.streamState u = 3) ∧ (s.nat (as_ u 3) ≠ 0) ∧ (65 ≤ (s.stream u).edges.length) ∧ (s.nat (as_ u 3) * 10 < (((s.stream u).rate64 : Int) - s.nat (as_ u 3) * 1000).natAbs) ∧ (Gives (.rateChange u) s fun _ => True)) ∧
    (∃ (r : _) (b : _) (s : State), (s.Accepts r 0x500410 b) ∧ (Gives (.channelStatusWrite r b) s fun t => t.bytes 0x500410 = b)) ∧
    (∃ (s : State), (s.streamState 4 = 3) ∧ (s.nat 0x500412 = 2) ∧ (s.iec.user.bits = []) ∧ (s.iec.user.programme ≠ (0xFF, 0, s.nat 0x500408)) ∧ (Gives .userDataPacket s fun t => t.iec.user.programme = (0xFF, 0, s.nat 0x500408) ∧ t.iec.user.clears = 2)) :=
  ⟨⟨1, stream 1 3, by decide, by decide, by decide, by decide, _, rfl, by decide, by decide, by decide⟩,
    ⟨0, 48000, (stream 0 5).setStream 0 { Stream.init with stable := 64, edges := [(0, 0), (1, 3200)] }, by decide, by decide, by decide, by unfold Stream.rate64 State.stream; rw [show lastN 65 _ = [(0, 0), (1, 3200)] from rfl, two_edges]; decide, by decide, _, rfl, trivial⟩,
    ⟨3, stream 3 3, by decide, by decide, by decide, _, rfl, by decide, by decide⟩,
    ⟨1, ((stream 1 3).setNat (as_ 1 3) 44100).setStream 1 { Stream.init with edges := List.replicate 64 (0, 0) ++ [(1, 3200)] }, by decide, by decide, by decide, by decide, by unfold Stream.rate64 State.stream; rw [show lastN 65 _ = List.replicate 64 (0, 0) ++ [(1, 3200)] from rfl, same_edges]; decide, _, rfl, trivial⟩,
    ⟨.mgmt, List.replicate 24 4, full, by decide, _, rfl, by decide⟩,
    ⟨((stream 4 3).setNat 0x500412 2).setNat 0x500408 0x201, by decide, by decide, by decide, by decide, _, rfl, by decide, by decide⟩⟩

/-- Clauses of `Obligations.RadioCompletes` have instances: the hypotheses hold together, and the conclusion with them. -/
theorem witness_RadioCompletes_1 :
    (∃ (hz : _) (s : State), (s.radioUp = true) ∧ (s.radioState = 2) ∧ (s.radioStays 3 = false) ∧ (s.mayReceive hz = true) ∧ (Gives (.radioTransition 3 hz) s fun t => t.radioState = 3 ∧ t.nat 0x600102 = hz ∧ t.radio.rxSince = some s.gnomon ∧ t.radio.arrives = s.gnomon + 9831)) ∧
    (∃ (hz : _) (s : State), (s.radioUp = true) ∧ (s.radioState = 3) ∧ (s.radioStays 2 = false) ∧ (Gives (.radioTransition 2 hz) s fun t => t.radioState = 2 ∧ t.radio.rxSince = none ∧ t.radio.arrives = s.gnomon + 308)) ∧
    (∃ (s : State), (s.radioUp = true) ∧ (s.radioState = 3) ∧ (s.radioStays 4 = false) ∧ (s.ackDue (s.nat 0x600102) 7373 = true) ∧ (Gives (.radioTransition 4 (s.nat 0x600102)) s fun t => t.radioState = 4 ∧ t.radio.arrives = s.gnomon + 7373)) ∧
    (∃ (s : State), (s.radioUp = true) ∧ (2 ≤ s.radioState) ∧ (Gives .synthUnlock s fun t => t.nat 0x600109 = satAdd 32 (s.nat 0x600109) 1 ∧ t.radioState = (if s.radioState = 4 then 2 else s.radioState))) ∧
    (∃ (k : _) (s : State), (((List.range 4).find? fun k => (s.calDue k).isSome) = some k) ∧ (s.radioUp = true) ∧ (s.radioState = 2 ∨ s.radioState = 3) ∧ (s.radio.calib = none) ∧ (s.ackWindow = false) ∧ (s.onAir = false) ∧ (s.hearing = false) ∧ (s.inCsma = false) ∧ (s.radio.wake = none) ∧ (s.radio.test = none) ∧ (s.arrived = true) ∧ ((s.commitments.all fun t => decide (s.gnomon + 308 + calTicks k + 1536 ≤ t)) = true) ∧ (Gives .calibrationStart s fun t => t.radioState = 2 ∧ t.radio.calib = some ⟨k, s.gnomon + (if s.radioState = 3 then 308 else 0), s.radioState⟩)) ∧
    (∃ (c : _) (s : State), (s.radio.calib = some c) ∧ (c.started + calTicks c.kind ≤ s.gnomon) ∧ (Gives .calibrationComplete s fun t => t.radio.calib = none ∧ t.nat (0x600205 + c.kind) = s.gnomon)) ∧
    (∃ (c : _) (s : State), (s.radio.calib = some c) ∧ ((s.commitments.any fun i => decide (i < c.started + calTicks c.kind)) = true) ∧ (Gives .calibrationAbort s fun t => t.radio.calib = none ∧ t.nat 0x600203 = satAdd 32 (s.nat 0x600203) 1)) ∧
    (∃ (k : _) (i : _) (s : State), (s.calDue k = some i) ∧ (k < 4) ∧ (i + 1536000000 ≤ s.gnomon) ∧ (bitOf (s.nat 0x600204) k = false) ∧ (s.radioUp = true) ∧ (Gives (.calibrationOverdue k) s fun t => t.nat 0x600204 = setBit (s.nat 0x600204) k)) :=
  ⟨⟨863100000, (meshOn.setNat 0x600101 2).setCommitted 0x603101 (.num 0), by decide, by decide, by decide, by decide, _, rfl, by decide, by decide, by decide, by decide⟩,
    ⟨868300000, meshOn.setRadio 3, by decide, by decide, by decide, _, rfl, by decide, by decide, by decide⟩,
    ⟨{ meshOn.setAll [(0x600101, 3), (0x600102, 868300000)] with link := { Link.init with ack := some ⟨9, 1, .short 7, false, false, 0⟩ } }, by decide, by decide, by decide, by decide, _, rfl, by decide, by decide⟩,
    ⟨meshOn.setNat 0x600101 4, by decide, by decide, _, rfl, by decide, by decide⟩,
    ⟨0, meshOn.setNat 0x600101 3, by decide, by decide, by decide, by decide, by decide, by decide, by decide, by decide, by decide, by decide, by decide, by decide, _, rfl, by decide, by decide⟩,
    ⟨⟨3, 5, 2⟩, { meshOn with radio := { Radio.init with calib := some ⟨3, 5, 2⟩ } }, by decide, by decide, _, rfl, by decide, by decide⟩,
    ⟨⟨3, 10 ^ 12, 2⟩, ({ meshOn with radio := { Radio.init with calib := some ⟨3, 10 ^ 12, 2⟩ } }).setEntry 3 (some ⟨10 ^ 12, 10 ^ 12, 0, 8, 0, 0, 2, 0, 0, 0, [0, 0]⟩), by decide, by decide, _, rfl, by decide, by decide⟩,
    ⟨0, 0, meshOn, by decide, by decide, by decide, by decide, by decide, _, rfl, by decide⟩⟩

/-- Clauses of `Obligations.RadioCompletes` have instances: the hypotheses hold together, and the conclusion with them. -/
theorem witness_RadioCompletes_2 :
    (∃ (sfd : _) (last : _) (phr : _) (psdu : _) (plain : _) (rssi : _) (snr : _) (s : State), (s.radioUp = true) ∧ (s.radioState = 3) ∧ (s.radio.arrives ≤ sfd) ∧ (s.radio.test = none) ∧ (phr.kept = true) ∧ (phr.good psdu = true) ∧ (Gives (.narrowbandFrame sfd last phr psdu plain rssi snr) s fun t => t.nat 0x60010A = satAdd 32 (s.nat 0x60010A) 1 ∧ t.radio.receiving = none)) ∧
    (∃ (sfd : _) (last : _) (phr : _) (psdu : _) (plain : _) (rssi : _) (snr : _) (s : State), (s.radioUp = true) ∧ (s.radioState = 3) ∧ (s.radio.arrives ≤ sfd) ∧ (phr.kept = false) ∧ (Gives (.narrowbandFrame sfd last phr psdu plain rssi snr) s fun t => t.nat 0x60010B = satAdd 32 (s.nat 0x60010B) 1 ∧ t.link.receptions = s.link.receptions)) ∧
    (∃ (p : _) (sfd : _) (last : _) (phr : _) (psdu : _) (plain : _) (rssi : _) (lq : _) (s : State), (p < 2) ∧ (s.tapRuns = true) ∧ (s.mode = .full) ∧ (s.transmitting = false) ∧ (s.tapStraddles p sfd last = false) ∧ (phr.kept = true) ∧ (phr.good psdu = true) ∧ (s.gnomon ≤ last + 61440) ∧ (s.link.receptions = []) ∧ (Gives (.tapCopy p sfd last phr psdu plain rssi lq) s fun t => t.link.receptions.map (fun r => r.chosen) = [some ⟨p + 1, sfd, last, phr.length, rssi, min lq 255, true, plain.isSome, macFrame phr.fcs psdu plain⟩] ∧ t.nat (0x60010C + (p + 1)) = satAdd 32 (s.nat (0x60010C + (p + 1))) 1)) ∧
    (∃ (sfd : _) (n : _) (s : State), (s.radioUp = true) ∧ (s.radioState = 3) ∧ (s.arrived = true) ∧ (Gives (.preambleDetected 0 sfd n) s fun t => t.radio.receiving = some s.gnomon ∧ t.radio.rxUntil = s.receptionEnd sfd n)) ∧
    (∃ (p : _) (sfd : _) (n : _) (s : State), (1 ≤ p) ∧ (p ≤ (if s.mode = .full then 2 else 1)) ∧ (s.tapRuns = true) ∧ (Gives (.preambleDetected p sfd n) s fun t => (t.path (p - 1)).tapSince = some s.gnomon ∧ (t.path (p - 1)).tapUntil = s.receptionEnd sfd n)) ∧
    (∃ (r : _) (code : _) (target : _) (n : _) (freq : _) (i : _) (p : _) (s : State), (s.Accepts r 0x601101 (leNat 2 code ++ leNat 2 target ++ [n, freq, i, 0])) ∧ (0 < code) ∧ (code < 0xFFFF) ∧ (target < 65536) ∧ (1 ≤ n) ∧ (n ≤ 8) ∧ (freq ≤ 1) ∧ (i ≤ 79) ∧ (s.awaiting.contains 0x601102 = false) ∧ (s.radio.wake = none) ∧ (s.txPower (glimmerHz freq) i = some p) ∧ (((s.autoTake r 0x601101).enrol (s.nearestChannel (glimmerHz freq)) (n * telegramTicks) false).1 = 0) ∧ (Gives (.wakeRequest r (leNat 2 code ++ leNat 2 target ++ [n, freq, i, 0])) s fun t => t.radio.wake = some ⟨code, target, n, freq, p.1, none⟩ ∧ t.nat 0x601103 = 1)) ∧
    (∃ (r : _) (kHz : _) (s : State), (s.Accepts r 0x600110 ([3] ++ leNat 4 kHz ++ [0, 0, 0])) ∧ (kHz < 2 ^ 32) ∧ (s.ustate 0x502 ≠ 2) ∧ (s.awaiting.contains 0x600111 = false) ∧ (Gives (.radioTest r ([3] ++ leNat 4 kHz ++ [0, 0, 0])) s fun t => t.radio.test = some ⟨3, kHz, 0, 0, 0, 0⟩ ∧ t.radioState = 3)) :=
  ⟨⟨5, 900, ⟨false, true, 5, true⟩, withFcs 2 [1, 2, 3], none, -70, 2000, meshOn.setNat 0x600101 3, by decide, by decide, by decide, by decide, by decide, by decide, _, rfl, by decide, by decide⟩,
    ⟨5, 900, ⟨true, true, 5, true⟩, [], none, -70, 2000, meshOn.setNat 0x600101 3, by decide, by decide, by decide, by decide, _, rfl, by decide, by decide⟩,
    ⟨1, 10 ^ 12 - 900, 10 ^ 12, ⟨false, true, 5, true⟩, withFcs 2 [1, 2, 3], none, -70, 99, tapOn.setNat 0x600101 3, by decide, by decide, by decide, by decide, by decide, by decide, by decide, by decide, by decide, _, rfl, by decide, by decide⟩,
    ⟨some 5, none, meshOn.setNat 0x600101 3, by decide, by decide, by decide, _, rfl, by decide, by decide⟩,
    ⟨2, none, none, tapOn, by decide, by decide, by decide, _, rfl, by decide, by decide⟩,
    ⟨.mgmt, 0x1234, 7, 3, 1, 79, _, meshOn, by decide, by decide, by decide, by decide, by decide, by decide, by decide, by decide, by decide, by decide, rfl, by decide, _, rfl, by decide, by decide⟩,
    ⟨.mgmt, 868300, meshOn.setUStateQuiet 0x502 0, by decide, by decide, by decide, by decide, _, rfl, by decide, by decide⟩⟩

/-- Clauses of `Obligations.LinkCompletes` have instances: the hypotheses hold together, and the conclusion with them. -/
theorem witness_LinkCompletes :
    (∃ (c : _) (s : State), (s.nextReception = some c) ∧ (s.meshUp = true) ∧ (s.link.ack = none) ∧ (s.ackedFrame c = none) ∧ (s.filter c.frame = true) ∧ (s.secure c = true) ∧ (s.duplicate c.frame = false) ∧ (s.replay c.frame = false) ∧ (s.mesh.rx.length < 16) ∧ (Gives .linkFrameReceive s fun t => t.mesh.rx.length = s.mesh.rx.length + 1 ∧ t.nat 0x602101 = satAdd 32 (s.nat 0x602101) 1)) ∧
    (∃ (c : _) (f : _) (s : State), (s.nextReception = some c) ∧ (s.ackedFrame c = some f) ∧ (s.meshUp = true) ∧ (Gives .ackReceive s fun t => t.nat 0x60210A = satAdd 32 (s.nat 0x60210A) 1 ∧ (t.link.frames.find? fun g => g.handle == f.handle).map (·.stage) = some .ended)) ∧
    (∃ (h : _) (f : _) (s : State), ((s.link.frames.find? fun f => f.handle == h && f.stage == .sent && f.ar) = some f) ∧ (s.meshUp = true) ∧ (s.link.receptions = []) ∧ (f.wait ≤ s.gnomon) ∧ (Gives (.ackWaitExpiry h) s fun t => t.nat 0x60210B = satAdd 32 (s.nat 0x60210B) 1 ∧ (t.link.frames.find? fun g => g.handle == h).map (·.stage) = some (if f.at_.isNone ∧ f.tries ≤ s.nat 0x60200C then .retry else .ended))) ∧
    (∃ (f : _) (s : State), ((s.link.frames.find? fun f => f.stage == .queued && f.at_.isNone) = some f) ∧ (s.meshUp = true) ∧ (s.immediateFree = true) ∧ ((f.secured && !s.canSecure) = false) ∧ (s.radio.test = none) ∧ ((s.txPower (s.channelHz f.channel) 79).isSome = true) ∧ ((s.enrol f.channel (s.airtime f) false).1 = 0) ∧ (Gives .immediateFrame s fun t => t.link.dsn = (s.link.dsn + 1) % 256 ∧ (t.link.frames.find? fun g => g.handle == f.handle).map (·.stage) = some .backoff)) ∧
    (∃ (h : _) (f : _) (s : State), (s.frameAt h .retry = some f) ∧ (s.meshUp = true) ∧ ((s.txPower (s.channelHz f.channel) 79).isSome = true) ∧ ((s.enrol f.channel (s.airtime f) false).1 = 0) ∧ (Gives (.frameRetry h) s fun t => t.nat 0x60210C = satAdd 32 (s.nat 0x60210C) 1 ∧ (t.link.frames.find? fun g => g.handle == h).map (·.stage) = some .backoff)) ∧
    (∃ (h : _) (f : _) (s : State), (s.frameAt h .backoff = some f) ∧ (s.meshUp = true) ∧ (f.left = 0) ∧ (s.radioState = 3) ∧ (s.arrived = true) ∧ (s.nat 0x600102 = s.channelHz f.channel) ∧ (s.backoffRuns = true) ∧ (s.radio.calib = none) ∧ (s.reachesScheduled f = false) ∧ (Gives (.backoffExpiry h) s fun t => (t.frameAt h .cca).map (·.wait) = some s.gnomon)) ∧
    (∃ (h : _) (rssi : _) (pre : _) (f : _) (s : State), (s.frameAt h .cca = some f) ∧ (s.meshUp = true) ∧ (f.wait + s.tcca ≤ s.gnomon) ∧ (s.ccaBusy f.wait rssi pre = false) ∧ (s.radioState = 3) ∧ (s.arrived = true) ∧ (s.radio.calib = none) ∧ (Gives (.ccaEnd h rssi pre) s fun t => t.radioState = 4 ∧ t.nat 0x600105 = satAdd 32 (s.nat 0x600105) (f.train + 1))) ∧
    (∃ (f : _) (n : _) (s : State), ((s.link.frames.find? fun f => f.stage == .queued && f.at_.isSome) = some f) ∧ (s.meshUp = true) ∧ ((f.secured && !s.canSecure) = false) ∧ ((s.txPower (s.channelHz f.channel) 79).isSome = true) ∧ (s.entryFor true = some n) ∧ (Gives .scheduledFrame s fun t => (t.entry n).map (·.kind) = some 8 ∧ (t.link.frames.find? fun g => g.handle == f.handle).map (·.stage) = some .armed)) ∧
    (∃ (n : _) (e : _) (f : _) (s : State), (s.dueEntry n [8] = some e) ∧ (s.link.ack = none) ∧ (s.onAir = false) ∧ ((s.link.frames.find? fun f => f.handle == fieldLe e.param 0 2 && (f.stage == .clear || f.stage == .armed)) = some f) ∧ (f.stage = .clear) ∧ (s.radioState = 4) ∧ (s.arrived = true) ∧ (s.meshUp = true) ∧ (s.gnomon ≤ f.at_.getD 0 + s.nat 0x60000A) ∧ (Gives (.meshTx n) s fun t => t.radioState = 4 ∧ t.nat 0x600105 = satAdd 32 (s.nat 0x600105) (f.train + 1))) ∧
    (∃ (s : State), (s.flash.frameCounter ≤ s.nat 0x602401) ∧ (Gives .frameCounterRecord s fun t => t.flash.frameCounter = min 0xFFFFFFFF ((s.nat 0x602401 / 65536 + 1) * 65536))) :=
  ⟨⟨aCopy, { meshOn.setNat 0x602011 1 with link := { Link.init with receptions := [⟨[aCopy], some aCopy, 0, false⟩] } }, by decide, by decide, by decide, by decide, by decide, by decide, by decide, by decide, by decide, _, rfl, by decide, by decide⟩,
    ⟨ackCopy, sentFrame, { meshOn with link := { Link.init with frames := [sentFrame], receptions := [⟨[ackCopy], some ackCopy, 0, false⟩] } }, by decide, by decide, by decide, _, rfl, by decide, by decide⟩,
    ⟨5, sentFrame, { meshOn with link := { Link.init with frames := [sentFrame] } }, by decide, by decide, by decide, by decide, _, rfl, by decide, by decide⟩,
    ⟨{ aFrame with channel := 3 }, { meshOn with link := { Link.init with frames := [{ aFrame with channel := 3 }] } }, by decide, by decide, by decide, by decide, by decide, by decide, by decide, _, rfl, by decide, by decide⟩,
    ⟨5, { aFrame with stage := .retry }, { meshOn with link := { Link.init with frames := [{ aFrame with stage := .retry }] } }, by decide, by decide, by decide, by decide, _, rfl, by decide, by decide⟩,
    ⟨5, { aFrame with stage := .backoff }, { meshOn.setAll [(0x600101, 3), (0x600102, 863100000)] with link := { Link.init with frames := [{ aFrame with stage := .backoff }] } }, by decide, by decide, by decide, by decide, by decide, by decide, by decide, by decide, by decide, _, rfl, by decide⟩,
    ⟨5, -120, false, { aFrame with stage := .cca }, { meshOn.setNat 0x600101 3 with link := { Link.init with frames := [{ aFrame with stage := .cca }] } }, by decide, by decide, by decide, by decide, by decide, by decide, by decide, _, rfl, by decide, by decide⟩,
    ⟨{ aFrame with at_ := some 7 }, 0, { meshOn with link := { Link.init with frames := [{ aFrame with at_ := some 7 }] } }, by decide, by decide, by decide, by decide, by decide, _, rfl, by decide, by decide⟩,
    ⟨3, ⟨10 ^ 12, 10 ^ 12, 0, 8, 0, 0, 2, 0, 0, 0, [5, 0]⟩, { aFrame with stage := .clear, at_ := some (10 ^ 12) }, ({ meshOn.setNat 0x600101 4 with link := { Link.init with frames := [{ aFrame with stage := .clear, at_ := some (10 ^ 12) }] } }).setEntry 3 (some ⟨10 ^ 12, 10 ^ 12, 0, 8, 0, 0, 2, 0, 0, 0, [5, 0]⟩), by decide, by decide, by decide, by decide, by decide, by decide, by decide, by decide, by decide, _, rfl, by decide, by decide⟩,
    ⟨meshOn.setNat 0x602401 70000, by decide, _, rfl, by decide⟩⟩

/-- Clauses of `Obligations.MeshCompletes` have instances: the hypotheses hold together, and the conclusion with them. -/
theorem witness_MeshCompletes_1 :
    (∃ (sfd : _) (q : _) (s : State), ((copySelectionEnd sfd s).2 = some q) ∧ (Gives (.copySelectionEnd sfd) s fun t => t.nat 0x60010F = satAdd 32 (s.nat 0x60010F) 1 ∧ q ∉ t.link.receptions)) ∧
    (∃ (a : _) (s : State), (s.link.ack = some a) ∧ (s.radioUp = true) ∧ (a.last + 153600 ≤ s.gnomon) ∧ (s.onAir = false) ∧ (s.radioState = 4) ∧ (s.arrived = true) ∧ ((s.txPower (s.nat 0x600102) 79).isSome = true) ∧ ((s.enrol (s.nearestChannel (s.nat 0x600102)) (s.ackTicks a.dst) true).1 = 0) ∧ (Gives .ackSend s fun t => t.link.ack = none ∧ t.nat 0x602106 = satAdd 32 (s.nat 0x602106) 1 ∧ t.radio.air = [withFcs (s.cnat 0x600007) (ackOctets (s.cnat 0x602001) a.dsn a.dst a.pending a.nack a.correction)])) ∧
    (∃ (f : _) (s : State), ((s.link.frames.find? fun f => f.stage == .ended && decide (f.last ≤ s.gnomon)) = some f) ∧ (512 ≤ f.node) ∧ (Gives .transmitReport s fun t => t.link.frames = s.link.frames.filter fun g => g.handle != f.handle)) ∧
    (∃ (f : _) (e : _) (s : State), ((s.link.frames.find? fun f => f.stage == .ended && decide (f.last ≤ s.gnomon)) = some f) ∧ (f.node < 512) ∧ ((s.node f.node).state ≠ 0) ∧ (f.purpose = .join e) ∧ (f.status = 0) ∧ (Gives .transmitReport s fun t => (t.node f.node).state = 2)) ∧
    (∃ (w : _) (u : _) (e : _) (i : _) (s : State), (s.takeWork 1 = some (w, u)) ∧ (w.from_.src = .ext e) ∧ (s.joiningOpen = true) ∧ (s.blocked e = false) ∧ (s.nodeByExt e = none) ∧ (s.freeNode = some i) ∧ (Gives .joinRequest s fun t => (t.node i).ext = e ∧ (t.node i).state = 1 ∧ (t.node i).short = s.cnat 0x603001 + i)) ∧
    (∃ (j : _) (s : State), ((s.mesh.joins.find? fun j => j.at_.isSome) = some j) ∧ (s.meshUp = true) ∧ (Gives .joinResponse s fun t => t.link.frames.getLast?.map (·.purpose) = some (.join j.ext) ∧ t.mesh.joins = s.mesh.joins.filter fun k => k.ext != j.ext)) ∧
    (∃ (w : _) (u : _) (s : State), (s.takeWork 7 = some (w, u)) ∧ (w.node < 512) ∧ ((s.node w.node).state ≠ 0) ∧ (Gives .leave s fun t => t.node w.node = Node.init)) ∧
    (∃ (w : _) (u : _) (s : State), (s.takeWork 0 = some (w, u)) ∧ (w.node < 512) ∧ ((s.node w.node).state ≠ 0) ∧ (Gives .readings s fun t => t.nat (obj (0x6800 + w.node) 3) = w.from_.sfd ∧ t.nat (obj (0x6800 + w.node) 4) = w.seq)) ∧
    (∃ (d : _) (rest : _) (s : State), (s.mesh.rx = d :: rest) ∧ (s.meshUp = true) ∧ (9 ≤ d.payload.length) ∧ (nthD d.payload 0 0 / 16 = 1) ∧ (nthD d.payload 1 0 = 0) ∧ (bodyOk (nthD d.payload 0 0 % 16) (d.payload.drop 9) = true) ∧ (fieldLe d.payload 5 2 = 0) ∧ ((s.mesh.seen.any fun q => q.1 == fieldLe d.payload 3 2 * 65536 + fieldLe d.payload 7 2) = false) ∧ (Gives .voussoirFrame s fun t => t.mesh.rx = rest ∧ t.nat 0x603201 = satAdd 32 (s.nat 0x603201) 1)) ∧
    (∃ (i : _) (d : _) (p : _) (s : State), ((s.node i).nextDownlink = some d) ∧ (s.chooseSample (s.node i) = some p) ∧ (s.meshUp = true) ∧ ((s.node i).immediate = false) ∧ ((s.node i).state = 2) ∧ ((s.node i).missAt = none) ∧ (s.needsTrain (s.node i) = false) ∧ (Gives (.rendezvous i) s fun t => t.link.frames.length = s.link.frames.length + 1 ∧ t.mesh.seq = (s.mesh.seq + 1) % 65536)) :=
  ⟨⟨5, ⟨[{ aCopy with good := false }], none, 0, false⟩, { meshOn with link := { Link.init with receptions := [⟨[{ aCopy with good := false }], none, 0, false⟩] } }, by decide, _, rfl, by decide, by decide⟩,
    ⟨⟨9, 1, .short 7, false, false, 0⟩, { meshOn.setAll [(0x600101, 4), (0x600102, 868300000)] with link := { Link.init with ack := some ⟨9, 1, .short 7, false, false, 0⟩ } }, by decide, by decide, by decide, by decide, by decide, by decide, by decide, by decide, _, rfl, by decide, by decide, by decide⟩,
    ⟨{ aFrame with stage := .ended }, { meshOn with link := { Link.init with frames := [{ aFrame with stage := .ended }] } }, by decide, by decide, _, rfl, by decide⟩,
    ⟨{ aFrame with stage := .ended, node := 4, purpose := .join 9 }, 9, ({ meshOn with link := { Link.init with frames := [{ aFrame with stage := .ended, node := 4, purpose := .join 9 }] } }).setNode 4 { Node.init with state := 1 }, by decide, by decide, by decide, by decide, by decide, _, rfl, by decide⟩,
    ⟨aWork 1 (.ext 9) 512 [0, 0, 2, 1, 2, 0, 0, 0, 0, 0, 0, 0, 0, 0, 0], _, 9, 0, (withWork (aWork 1 (.ext 9) 512 [0, 0, 2, 1, 2, 0, 0, 0, 0, 0, 0, 0, 0, 0, 0])).setNat 0x603007 65535, rfl, by decide, by decide, by decide, by decide, by decide, _, rfl, by decide, by decide, by decide⟩,
    ⟨⟨9, 0, 4, some 77⟩, { meshOn with mesh := { Mesh.init with joins := [⟨9, 0, 4, some 77⟩] } }, by decide, by decide, _, rfl, by decide, by decide⟩,
    ⟨aWork 7 (.short 9) 4 [], _, (withWork (aWork 7 (.short 9) 4 [])).setNode 4 { Node.init with state := 2 }, rfl, by decide, by decide, _, rfl, by decide⟩,
    ⟨aWork 0 (.short 9) 4 [1, 7, 0, 0, 0], _, (withWork (aWork 0 (.short 9) 4 [1, 7, 0, 0, 0])).setNode 4 { Node.init with state := 2 }, rfl, by decide, by decide, _, rfl, by decide, by decide⟩,
    ⟨⟨.short 9, true, 1, 5, 900, 99, -70, [23, 0, 3, 9, 0, 0, 0, 1, 0]⟩, [], { meshOn with mesh := { Mesh.init with rx := [⟨.short 9, true, 1, 5, 900, 99, -70, [23, 0, 3, 9, 0, 0, 0, 1, 0]⟩] } }, by decide, by decide, by decide, by decide, by decide, by decide, by decide, by decide, _, rfl, by decide, by decide⟩,
    ⟨4, ⟨3, 3, 10 ^ 13, [1], 0, false⟩, (1, 10 ^ 12 - 10 ^ 6 + 2 ^ 5 * 2400000), meshOn.setNode 4 sleepy, by decide, by decide, by decide, by decide, by decide, by decide, by decide, _, rfl, by decide, by decide⟩⟩

/-- Clauses of `Obligations.MeshCompletes` have instances: the hypotheses hold together, and the conclusion with them. -/
theorem witness_MeshCompletes_2 :
    (∃ (i : _) (m : _) (s : State), ((s.node i).missAt = some m) ∧ (Gives (.rendezvousMiss i) s fun t => (t.node i).misses = satAdd 8 (s.node i).misses 1 ∧ (t.node i).missAt = none ∧ t.nat 0x603203 = satAdd 32 (s.nat 0x603203) 1)) ∧
    (∃ (i : _) (d : _) (s : State), ((s.node i).nextDownlink = some d) ∧ (s.meshUp = true) ∧ ((s.node i).immediate = false) ∧ ((s.node i).state = 2) ∧ ((s.node i).missAt = none) ∧ ((s.node i).trainAt = none) ∧ (s.needsTrain (s.node i) = true) ∧ (Gives (.wakeTrain i) s fun t => t.link.frames.length = s.link.frames.length + 1 ∧ t.nat 0x603204 = satAdd 32 (s.nat 0x603204) 1)) ∧
    (∃ (i : _) (d : _) (m : _) (s : State), ((s.node i).nextDownlink = some d) ∧ (s.meshUp = true) ∧ ((s.node i).immediate = false) ∧ ((s.node i).trainAt = some m) ∧ (m ≤ s.gnomon) ∧ (Gives (.wakeTrainRetry i) s fun t => t.link.frames.length = s.link.frames.length + 1 ∧ t.nat 0x603204 = satAdd 32 (s.nat 0x603204) 1 ∧ (t.node i).trainAt = none)) ∧
    (∃ (i : _) (s : State), (s.meshUp = true) ∧ (s.nat 0x60300B = 1) ∧ ((s.node i).state = 2) ∧ (((s.node i).phaseAt s.gnomon s.gnomon).isSome = true) ∧ (s.nat 0x60300C ≤ (s.goodRun (s.node i)).2) ∧ (bitOf (s.node i).echo 7 = false) ∧ ((s.node i).gateAt = none) ∧ (((s.node i).queue.any fun d => d.handle == 0) = false) ∧ (Gives (.phaseGate i) s fun t => (t.node i).gateAt = some s.gnomon ∧ (t.node i).queue.length = (s.node i).queue.length + 1)) ∧
    (∃ (r : _) (short : _) (life : _) (data : _) (i : _) (s : State), (s.Accepts r 0x604001 (leNat 2 short ++ [3, data.length] ++ leNat 2 life ++ [0, 0] ++ data)) ∧ (short < 65536) ∧ (s.joinedAt short = some i) ∧ (((s.node i).queue.filter fun d => d.handle != 0).length < 4) ∧ (1 ≤ data.length) ∧ (data.length ≤ 64) ∧ (1 ≤ life) ∧ (life ≤ 3600) ∧ (s.canSecure = true) ∧ (Gives (.downlink r (leNat 2 short ++ [3, data.length] ++ leNat 2 life ++ [0, 0] ++ data)) s fun t => t.mesh.handle = (if 65535 ≤ s.mesh.handle then 1 else s.mesh.handle + 1) ∧ (t.node i).queue.length = (s.node i).queue.length + 1)) ∧
    (∃ (h : _) (i : _) (n : _) (d : _) (s : State), ((s.mesh.nodes.find? fun p => p.2.queue.any fun d => d.handle == h && decide (d.ends ≤ s.gnomon)) = some (i, n)) ∧ ((n.queue.find? fun d => d.handle == h && decide (d.ends ≤ s.gnomon)) = some d) ∧ (d.busy = false) ∧ (Gives (.downlinkExpiry h) s fun t => t.nat 0x603206 = satAdd 32 (s.nat 0x603206) 1 ∧ (t.node i).queue = (s.node i).queue.filter fun q => q.handle != h)) ∧
    (∃ (r : _) (short : _) (i : _) (s : State), (s.Accepts r 0x604004 ([1] ++ leNat 2 short ++ [0, 0, 0, 0, 0])) ∧ (short < 65536) ∧ (s.joinedAt short = some i) ∧ ((s.node i).state ≠ 0) ∧ (Gives (.nodeRemove r ([1] ++ leNat 2 short ++ [0, 0, 0, 0, 0])) s fun t => t.node i = Node.init)) ∧
    (∃ (i : _) (s : State), ((s.node i).state = 2) ∧ ((s.node i).heardAt + s.nat 0x603008 * 153600000 ≤ s.gnomon) ∧ (s.tableFull = false) ∧ (Gives (.absentTimeout i) s fun t => t.node i = { s.node i with state := 3 })) ∧
    (∃ (s : State), (s.nat 0x603007 ≠ 65535) ∧ (s.nat 0x603007 ≠ 0) ∧ (s.joiningLeft = 0) ∧ (Gives .joiningCountdown s fun t => t.nat 0x603007 = 0 ∧ t.joiningOpen = false)) ∧
    (∃ (i : _) (s : State), ((s.node i).state ≠ 0) ∧ (Map.get (fun _ => 0) s.flash.nodeCounters i + 1024 ≤ (s.node i).lastCounter) ∧ (Gives (.nodeCounterRecord i) s fun t => Map.get (fun _ => 0) t.flash.nodeCounters i = (s.node i).lastCounter)) :=
  ⟨⟨4, 5, meshOn.setNode 4 { Node.init with missAt := some 5 }, by decide, _, rfl, by decide, by decide, by decide⟩,
    ⟨4, ⟨3, 3, 10 ^ 13, [1], 0, false⟩, meshOn.setNode 4 { sleepy with fix := 0 }, by decide, by decide, by decide, by decide, by decide, by decide, by decide, _, rfl, by decide, by decide⟩,
    ⟨4, ⟨3, 3, 10 ^ 13, [1], 0, false⟩, 9, meshOn.setNode 4 { sleepy with fix := 0, trainAt := some 9 }, by decide, by decide, by decide, by decide, by decide, _, rfl, by decide, by decide, by decide⟩,
    ⟨4, (meshOn.setNat 0x60300B 1).setNode 4 { sleepy with period := 100, rotAt := 10 ^ 12 - 5, queue := [] }, by decide, by decide, by decide, by decide, by decide, by decide, by decide, by decide, _, rfl, by decide, by decide⟩,
    ⟨.mgmt, 7, 60, [1, 2], 4, keyed.setNode 4 sleepy, by decide, by decide, by decide, by decide, by decide, by decide, by decide, by decide, by decide, _, rfl, by decide, by decide⟩,
    ⟨3, 4, { sleepy with queue := [⟨3, 3, 5, [1], 0, false⟩] }, ⟨3, 3, 5, [1], 0, false⟩, meshOn.setNode 4 { sleepy with queue := [⟨3, 3, 5, [1], 0, false⟩] }, by decide, by decide, by decide, _, rfl, by decide, by decide⟩,
    ⟨.mgmt, 7, 4, meshOn.setNode 4 sleepy, by decide, by decide, by decide, by decide, _, rfl, by decide⟩,
    ⟨4, (meshOn.setNat 0x603008 60).setNode 4 sleepy, by decide, by decide, by decide, _, rfl, by decide⟩,
    ⟨meshOn.setNat 0x603007 60, by decide, by decide, by decide, _, rfl, by decide, by decide⟩,
    ⟨4, meshOn.setNode 4 { sleepy with lastCounter := 2000 }, by decide, by decide, _, rfl, by decide⟩⟩

/-- Clauses of `Obligations.GlimmerCompletes` have instances: the hypotheses hold together, and the conclusion with them. -/
theorem witness_GlimmerCompletes :
    (∃ (pre : _) (rate : _) (xs : _) (s : State), (wakeWord pre rate xs = some (s.nat 0x601003, s.nat 0x601004)) ∧ (s.glimmerListens = true) ∧ (s.nat 0x601006 ≠ 0) ∧ (s.radio.matchEnd = none) ∧ (Gives (.glimmerWord pre rate xs) s fun t => t.radio.matchEnd = some s.wall ∧ t.nat 0x60100A = s.nat 0x601003 * 65536 + s.nat 0x601004)) ∧
    (∃ (pre : _) (rate : _) (xs : _) (target : _) (s : State), (wakeWord pre rate xs = some (s.nat 0x601003, target)) ∧ (s.glimmerListens = true) ∧ (target ≠ s.nat 0x601004) ∧ (target ≠ 0xFFFF) ∧ (Gives (.glimmerWord pre rate xs) s fun t => t.nat 0x601008 = satAdd 32 (s.nat 0x601008) 1)) ∧
    (∃ (at_ : _) (s : State), (s.radio.judged = some at_) ∧ (at_ + 2000 * msTicks ≤ s.gnomon) ∧ (Gives .spuriousWake s fun t => t.radio.judged = none ∧ t.nat 0x601009 = satAdd 32 (s.nat 0x601009) 1)) ∧
    (∃ (s : State), (s.nat 0x601006 = 1) ∧ ((s.radio.spurious.all fun x => decide (x + hourTicks ≤ s.gnomon)) = true) ∧ (Gives .matchModeReset s fun t => t.nat 0x601006 = 0 ∧ t.radio.spurious = [])) :=
  ⟨⟨8, 1000000, halvesOf 77 5, (({ late with mode := .watch }).setAll [(0x601001, 1), (0x601003, 77), (0x601004, 5)]).setNat 0x601006 1, by decide, by decide, by decide, by decide, _, rfl, by decide, by decide⟩,
    ⟨8, 1000000, halvesOf 77 9, 9, ({ late with mode := .watch }).setAll [(0x601001, 1), (0x601003, 77)], by decide, by decide, by decide, by decide, _, rfl, by decide⟩,
    ⟨9, { late with radio := { Radio.init with judged := some 9 } }, by decide, by decide, _, rfl, by decide, by decide⟩,
    ⟨late.setNat 0x601006 1, by decide, by decide, _, rfl, by decide, by decide⟩⟩

/-- Clauses of `Obligations.VerbsComplete` have instances: the hypotheses hold together, and the conclusion with them. -/
theorem witness_VerbsComplete_1 :
    (∃ (r : _) (u : _) (s : State), (s.VerbReady r u (verbBytes u 1 0 0 0)) ∧ (u / 256 ≠ 6) ∧ ((u / 256 = 8 → ownerId r ≠ 0xFE)) ∧ (modeProvides s.mode u = true) ∧ (s.reserved (ownerId r) = false) ∧ ((u / 256 = 1 → isRom (u % 256) = true → ownerId r = 0 ∨ ownerId r = 0xFE)) ∧ ((ownerId r = 0xFE → s.tapReserved u = false)) ∧ ((u / 256 = 2 → (s.engine (u % 256)).zeroing = false)) ∧ (s.owner u = 0xFF) ∧ (Gives (.claim r u false 0) s fun t => t.owner u = ownerId r ∧ Map.get (fun _ => 0) t.claimedAt u = s.gnomon)) ∧
    (∃ (r : _) (u : _) (n : _) (s : State), (s.VerbReady r u (verbBytes u 1 0 n 0)) ∧ (u / 256 = 6) ∧ (modeProvides s.mode u = true) ∧ ((ownerId r = 0xFE → s.tapReserved u = false)) ∧ (s.ustate u ≠ 4) ∧ (1 ≤ n) ∧ (n ≤ 16) ∧ (n ≤ s.freeShares (u % 256)) ∧ (Gives (.claimAcceleratorShares r u false n) s fun t => t.sharesOf (u % 256) (ownerId r) = s.sharesOf (u % 256) (ownerId r) + n)) ∧
    (∃ (r : _) (u : _) (s : State), (s.VerbReady r u (verbBytes u 2 0 0 0)) ∧ (u / 256 ≠ 6) ∧ (u / 256 ≠ 3) ∧ (s.owns (ownerId r) u = true) ∧ (s.ustate u = 0) ∧ (((s.autoTake r 0x201001).configureUnit u).2 = 0) ∧ (Gives (.configure r u) s fun t => t.ustate u = 1)) ∧
    (∃ (r : _) (u : _) (s : State), (s.VerbReady r u (verbBytes u 2 0 0 0)) ∧ (u / 256 = 3) ∧ (s.owns (ownerId r) u = true) ∧ (s.ustate u = 0) ∧ (((s.autoTake r 0x201001).configureCourse u).2.1 = 0) ∧ (((s.autoTake r 0x201001).configureCourse u).1.ustate u = 1) ∧ (Gives (.courseConfigure r u) s fun t => t.ustate u = 1 ∧ t.answer.code = 0)) ∧
    (∃ (r : _) (u : _) (i : _) (n : _) (s : State), (s.VerbReady r u (verbBytes u 3 0 0 i)) ∧ (s.owns (ownerId r) u = true) ∧ (s.parent u = 0xFFFF) ∧ (s.ustate u = 1) ∧ (i ≤ s.gnomon + 2 ^ 40) ∧ (i < 2 ^ 64) ∧ (s.entryFor (ownerId r == 0) = some n) ∧ (Gives (.start r u i) s fun t => (t.entry n).map (fun e => (e.kind, e.target, e.owner)) = some (1, u, ownerId r))) ∧
    (∃ (r : _) (u : _) (i : _) (n : _) (s : State), (s.VerbReady r u (verbBytes u 4 0 0 i)) ∧ (s.owns (ownerId r) u = true) ∧ (s.parent u = 0xFFFF) ∧ (s.ustate u = 2) ∧ (i ≤ s.gnomon + 2 ^ 40) ∧ (i < 2 ^ 64) ∧ (s.entryFor (ownerId r == 0) = some n) ∧ (Gives (.hold r u i) s fun t => (t.entry n).map (fun e => (e.kind, e.target, e.owner)) = some (2, u, ownerId r))) :=
  ⟨⟨.mgmt, 0x118, full, by decide, by decide, by decide, by decide, by decide, by decide, by decide, by decide, by decide, _, rfl, by decide, by decide⟩,
    ⟨.mgmt, 0x607, 16, full, by decide, by decide, by decide, by decide, by decide, by decide, by decide, by decide, _, rfl, by decide⟩,
    ⟨.mgmt, 0x501, full.setNat (desc 0x501 3) 0, by decide, by decide, by decide, by decide, by decide, by decide, _, rfl, by decide⟩,
    ⟨.mgmt, 0x300, courseReady, by decide, by decide, by decide, by decide, by decide, by decide, _, rfl, by decide, by decide⟩,
    ⟨.mgmt, 0x105, 7, 0, (full.setNat (desc 0x105 3) 0).setUStateQuiet 0x105 1, by decide, by decide, by decide, by decide, by decide, by decide, by decide, _, rfl, by decide⟩,
    ⟨.mgmt, 0x105, 10 ^ 12 + 2 ^ 40, 0, (full.setNat (desc 0x105 3) 0).setUStateQuiet 0x105 2, by decide, by decide, by decide, by decide, by decide, by decide, by decide, _, rfl, by decide⟩⟩

/-- Clauses of `Obligations.VerbsComplete` have instances: the hypotheses hold together, and the conclusion with them. -/
theorem witness_VerbsComplete_2 :
    (∃ (r : _) (u : _) (i : _) (n : _) (s : State), (s.VerbReady r u (verbBytes u 5 0 0 i)) ∧ (s.owns (ownerId r) u = true) ∧ (s.parent u = 0xFFFF) ∧ (s.ustate u = 3) ∧ (i ≤ s.gnomon + 2 ^ 40) ∧ (i < 2 ^ 64) ∧ (s.entryFor (ownerId r == 0) = some n) ∧ (Gives (.resume r u i) s fun t => (t.entry n).map (fun e => (e.kind, e.target, e.owner)) = some (3, u, ownerId r))) ∧
    (∃ (r : _) (u : _) (s : State), (s.VerbTaken r u (verbBytes u 6 0 0 0)) ∧ (s.parent u = 0xFFFF) ∧ (s.owns (ownerId r) u = true) ∧ (u / 256 ≠ 6) ∧ (u / 256 ≠ 3) ∧ (s.tapReserved u = false ∨ ownerId r = 0) ∧ (s.releasing u = false) ∧ ((u / 256 = 4 → s.ustate u = 2 → s.streamState (u % 256) ≠ 3 ∧ s.streamState (u % 256) ≠ 4 ∧ s.streamState (u % 256) ≠ 7)) ∧ (Gives (.release r u) s fun t => t.owner u = 0xFF ∧ t.parent u = 0xFFFF)) ∧
    (∃ (r : _) (u : _) (s : State), (s.VerbTaken r u (verbBytes u 6 0 0 0)) ∧ (s.owns (ownerId r) u = true) ∧ (u / 256 = 6) ∧ (Gives (.releaseAcceleratorShares r u) s fun t => t.sharesOf (u % 256) (ownerId r) = min (s.sharesOf (u % 256) (ownerId r)) (s.namedShares u (ownerId r)))) ∧
    (∃ (e : _) (s : State), ((s.engine e).zeroing = true) ∧ ((s.engine e).heldClaim = none) ∧ (s.tapReserved (0x200 + e) = false) ∧ (Gives (.engineZeroingComplete e) s fun t => (t.engine e).zeroing = false ∧ t.ustate (0x200 + e) = 0)) ∧
    (∃ (r : _) (u : _) (s : State), (s.VerbTaken r u (verbBytes u 6 0 0 0)) ∧ (s.parent u = 0xFFFF) ∧ (s.owns (ownerId r) u = true) ∧ (u / 256 = 3) ∧ ((∀ v, v ∈ s.leaves u → unitExists v = true ∧ s.ustate v ≠ 2 ∧ s.tapReserved v = false)) ∧ (s.releasing u = false) ∧ (Gives (.release r u) s fun t => t.owner u = 0xFF ∧ t.parent u = 0xFFFF)) ∧
    (∃ (r : _) (u : _) (s : State), (s.VerbTaken r u (verbBytes u 6 0 0 0)) ∧ (s.parent u = 0xFFFF) ∧ (s.owns (ownerId r) u = true) ∧ (u / 256 = 4) ∧ (s.ustate u = 2) ∧ (s.streamState (u % 256) = 3) ∧ (s.tapReserved u = false) ∧ (s.releasing u = false) ∧ (Gives (.release r u) s fun t => t.ustate u = 2 ∧ t.releasing u = true ∧ (t.stream (u % 256)).holdLanded = true)) :=
  ⟨⟨.mgmt, 0x105, 0, 0, (full.setNat (desc 0x105 3) 0).setUStateQuiet 0x105 3, by decide, by decide, by decide, by decide, by decide, by decide, by decide, _, rfl, by decide⟩,
    ⟨.mgmt, 0x105, (full.setNat (desc 0x105 3) 0).setUStateQuiet 0x105 2, by decide, by decide, by decide, by decide, by decide, by decide, by decide, by decide, _, rfl, by decide, by decide⟩,
    ⟨.mgmt, 0x600, full.setShares 0 0 5, by decide, by decide, by decide, _, rfl, by decide⟩,
    ⟨3, full.setEngine 3 { Engine.init with zeroing := true }, by decide, by decide, by decide, _, rfl, by decide, by decide⟩,
    ⟨.mgmt, 0x300, courseReady, by decide, by decide, by decide, by decide, by decide, by decide, _, rfl, by decide, by decide⟩,
    ⟨.mgmt, 0x402, ((full.setNat (desc 0x402 3) 0).setUStateQuiet 0x402 2).setNat (as_ 2 1) 3, by decide, by decide, by decide, by decide, by decide, by decide, by decide, by decide, _, rfl, by decide, by decide, by decide⟩⟩

/-- Clauses of `Obligations.LaunchCompletes` have instances: the hypotheses hold together, and the conclusion with them. -/
theorem witness_LaunchCompletes_1 :
    (∃ (r : _) (instant : _) (phase : _) (kind : _) (flags : _) (target : _) (period : _) (count : _) (param : _) (n : _) (s : State), (s.Accepts r 0x201101 (leNat 8 instant ++ [phase, kind, flags, 1] ++ leNat 2 target ++ [0, 0] ++ leNat 4 period ++ leNat 2 count ++ [0, 0] ++ padTo 8 param)) ∧ ((s.autoTake r 0x201101).placeCheck (leNat 8 instant ++ [phase, kind, flags, 1] ++ leNat 2 target ++ [0, 0] ++ leNat 4 period ++ leNat 2 count ++ [0, 0] ++ padTo 8 param) = 0) ∧ (instant < 2 ^ 64) ∧ (s.entryFor (ownerId r == 0) = some n) ∧ (Gives (.launchPlace r instant phase kind flags target period count param) s fun t => (t.entry n).map (fun e => (e.kind, e.owner, e.instant)) = some (kind, ownerId r, s.placedAt kind instant))) ∧
    (∃ (r : _) (n : _) (e : _) (s : State), (s.Accepts r 0x201101 (List.replicate 11 0 ++ [2, 0, 0, n] ++ List.replicate 17 0)) ∧ (n ≤ 63) ∧ (s.entry n = some e) ∧ (e.owner = ownerId r) ∧ (Gives (.launchCancel r n) s fun t => t.entry n = none)) ∧
    (∃ (n : _) (e : _) (s : State), (s.dueEntry n [1] = some e) ∧ (e.target / 256 = 1) ∧ (s.ustate e.target = 1) ∧ (s.prepDone n = []) ∧ (Gives (.launchStartFiring n) s fun t => t.ustate e.target = 2 ∧ t.entry n = none)) ∧
    (∃ (n : _) (e : _) (s : State), (s.dueEntry n [3] = some e) ∧ (e.target / 256 = 1) ∧ (s.ustate e.target = 3) ∧ (s.prepDone n = []) ∧ (Gives (.launchResumeFiring n) s fun t => t.ustate e.target = 2 ∧ t.entry n = none)) ∧
    (∃ (n : _) (e : _) (s : State), (s.dueEntry n [2] = some e) ∧ (e.target / 256 = 1) ∧ (s.ustate e.target = 2) ∧ (s.mayWait e = false) ∧ ((s.holdings.any fun h => h.top == e.target) = false) ∧ (e.owner ≠ 0 ∨ s.tapChains.contains e.target = false) ∧ (Gives (.launchHoldFiring n) s fun t => t.ustate e.target = 3 ∧ t.entry n = none)) ∧
    (∃ (n : _) (e : _) (u : _) (s : State), (s.entry n = some e) ∧ (e.kind = 1 ∨ e.kind = 3) ∧ (s.ustate e.target = e.needs) ∧ ((s.prepOrder e)[(s.prepDone n).length]? = some u) ∧ (e.instant ≤ s.gnomon + 384 * ((s.prepOrder e).length - (s.prepDone n).length)) ∧ (s.loadAwaited n e = none) ∧ (s.leafReady e u = true) ∧ (Gives (.courseLeafPrepare n) s fun t => t.prepDone n = s.prepDone n ++ [u])) ∧
    (∃ (u : _) (h : _) (s : State), ((s.holdings.find? fun h => h.top == u) = some h) ∧ (h.release = none) ∧ ((∀ v, v ∈ s.leaves u → unitExists v = true)) ∧ (Gives (.courseRankHeld u) s fun t => (∀ v, v ∈ (h.ranks.dropWhile fun r => r.all s.countsHeld).headD [] → unitExists v = true → s.ustate v = 2 → v / 256 ≠ 2 → v / 256 ≠ 4 → v / 256 ≠ 6 → t.ustate v = 3) ∧ ((h.ranks.dropWhile fun r => r.all s.countsHeld) = [] → t.holdings = (s.holdings.filter fun k => k.top != h.top) ∧ (∀ c, c ∈ h.courses → c / 256 = 3 → unitExists c = true → s.ustate c = 2 → t.ustate c = 3)))) ∧
    (∃ (n : _) (e : _) (s : State), (s.dueEntry n [9] = some e) ∧ (nthD e.param 0 0 &&& s.nat 0x770001 = nthD e.param 0 0) ∧ (Gives (.gpioChange n) s fun t => t.gpioFired = some (s.gnomon, nthD e.param 0 0, nthD e.param 1 0))) :=
  ⟨⟨.mgmt, 0, 0, 9, 0, 0, 0, 0, [1, 1], 0, full, by decide, by decide, by decide, by decide, _, rfl, by decide⟩,
    ⟨.mgmt, 63, aEntry 9 0 [1, 1], full.setEntry 63 (some (aEntry 9 0 [1, 1])), by decide, by decide, by decide, by decide, _, rfl, by decide⟩,
    ⟨3, aEntry 1 0x105 [], (full.setUStateQuiet 0x105 1).setEntry 3 (some (aEntry 1 0x105 [])), by decide, by decide, by decide, by decide, _, rfl, by decide, by decide⟩,
    ⟨3, aEntry 3 0x105 [], (full.setUStateQuiet 0x105 3).setEntry 3 (some (aEntry 3 0x105 [])), by decide, by decide, by decide, by decide, _, rfl, by decide, by decide⟩,
    ⟨3, aEntry 2 0x105 [], (full.setUStateQuiet 0x105 2).setEntry 3 (some (aEntry 2 0x105 [])), by decide, by decide, by decide, by decide, by decide, by decide, _, rfl, by decide, by decide⟩,
    ⟨3, aEntry 1 0x105 [], 0x105, (full.setUStateQuiet 0x105 1).setEntry 3 (some (aEntry 1 0x105 [])), by decide, by decide, by decide, by decide, by decide, by decide, by decide, _, rfl, by decide⟩,
    ⟨0x300, ⟨0x300, [[0x105], [0x700]], [0x300], 2, 0, none⟩, { full.setUStateQuiet 0x105 2 with holdings := [⟨0x300, [[0x105], [0x700]], [0x300], 2, 0, none⟩] }, by decide, by decide, by decide, _, rfl, by decide, by decide⟩,
    ⟨3, aEntry 9 0 [1, 1], (full.setNat 0x770001 1).setEntry 3 (some (aEntry 9 0 [1, 1])), by decide, by decide, _, rfl, by decide⟩⟩

/-- Clauses of `Obligations.LaunchCompletes` have instances: the hypotheses hold together, and the conclusion with them. -/
theorem witness_LaunchCompletes_2 :
    (∃ (n : _) (e : _) (s : State), (s.dueEntry n [0x0B] = some e) ∧ (s.nat 0x200201 = 1) ∧ (Gives (.tbSyncPulse n) s fun t => t.tbSync.lastPulse = some e.instant)) ∧
    (∃ (r : _) (g : _) (b : _) (s : State), (b < 2 ^ 32) ∧ (s.Accepts r (obj 0x2008 g) (leNat 4 b)) ∧ (s.lockRule g b = 0) ∧ (Gives (.lockGroupWrite r g b) s fun t => t.nat (obj 0x2008 g) = b)) ∧
    (∃ (s : State), (s.nat 0x200201 = 2) ∧ (Gives .tbSyncFollowerLoad s fun t => t.gnomon = (s.nat 0x200202 + 4) % 2 ^ 64 ∧ t.nat 0x200201 = 0 ∧ t.nat 0x200002 = (s.nat 0x200002 + 1) % 65536)) ∧
    (∃ (e : _) (s : State), (s.nat 0x200201 = 3) ∧ (s.tbSync.lastEdge = some e) ∧ (Gives .tbSyncCheck s fun t => t.tbSync.lastEdge = some s.gnomon ∧ t.num 0x200203 = signed 4 ((((s.gnomon : Int) - (e + s.nat 0x200204 : Nat)) % 2 ^ 32).toNat))) ∧
    (∃ (r : _) (v : _) (s : State), (s.Accepts r 0x200205 [v]) ∧ (Gives (.clkOutEnableWrite r v) s fun t => t.nat 0x200205 = v)) ∧
    (∃ (u : _) (h : _) (w : _) (s : State), ((s.holdings.find? fun h => h.top == u) = some h) ∧ (h.release = some w) ∧ ((h.ranks.dropWhile fun r => r.all s.countsHeld) = []) ∧ (unitExists u = true) ∧ (u / 256 ≠ 3) ∧ (u / 256 ≠ 6) ∧ (s.tapReserved u = false) ∧ (Gives (.courseRankHeld u) s fun t => t.owner u = 0xFF ∧ t.parent u = 0xFFFF ∧ t.releasing u = false)) ∧
    (∃ (u : _) (s : State), ((s.holdings.find? fun h => h.top == u) = none) ∧ (Gives (.courseRankHeld u) s fun _ => True)) :=
  ⟨⟨3, aEntry 0x0B 0 [], (full.setNat 0x200201 1).setEntry 3 (some (aEntry 0x0B 0 [])), by decide, by decide, _, rfl, by decide⟩,
    ⟨.mgmt, 8, 3, full, by decide, by decide, by decide, _, rfl, by decide⟩,
    ⟨full.setNat 0x200201 2, by decide, _, rfl, by decide, by decide, by decide⟩,
    ⟨7, { full.setNat 0x200201 3 with tbSync := { full.tbSync with lastEdge := some 7 } }, by decide, by decide, _, rfl, by decide, by decide⟩,
    ⟨.mgmt, 1, full, by decide, _, rfl, by decide⟩,
    ⟨0x402, ⟨0x402, [[0x402]], [], 1, 6, some (1, 6)⟩, (1, 6), { full.setUStateQuiet 0x402 3 with holdings := [⟨0x402, [[0x402]], [], 1, 6, some (1, 6)⟩] }, by decide, by decide, by decide, by decide, by decide, by decide, by decide, _, rfl, by decide, by decide, by decide⟩,
    ⟨0x105, full, by decide, _, rfl, trivial⟩⟩

/-- Clauses of `Obligations.AccessCompletes` have instances: the hypotheses hold together, and the conclusion with them. -/
theorem witness_AccessCompletes_1 :
    (∃ (r : _) (i : _) (n : _) (b : _) (rest : _) (s : State), (s.judgeRead r (obj i 0) = 0) ∧ (ringKey (obj i 0) = true) ∧ (takeRecords true n (s.fifo (obj i 0)).recs = some (b, rest)) ∧ (b ≠ []) ∧ (Gives (.ringRead r i n false) s fun t => t.answer.data = b ∧ (t.fifo (obj i 0)).recs = rest ∧ (t.fifo (obj i 0)).readNo = ((s.fifo (obj i 0)).readNo + 1) % 65536)) ∧
    (∃ (r : _) (i : _) (j : _) (n : _) (b : _) (rest : _) (s : State), (s.judgeRead r (obj i j) = 0) ∧ (fifoKey (obj i j) = true) ∧ (ringKey (obj i j) = false) ∧ ((s.fifo (obj i j)).recs = b :: rest) ∧ (b ≠ []) ∧ (b.length ≤ n) ∧ (Gives (.fifoRead r i j n) s fun t => t.answer.data = b ∧ (t.fifo (obj i j)).recs = rest ∧ (t.fifo (obj i j)).last = b)) ∧
    (∃ (r : _) (i : _) (j : _) (n : _) (s : State), (s.judgeRead r (obj i j) = 0) ∧ (fifoKey (obj i j) = true) ∧ ((s.fifo (obj i j)).last ≠ []) ∧ ((s.fifo (obj i j)).lastPort = readerNo r) ∧ ((s.fifo (obj i j)).last.length ≤ n) ∧ (Gives (.fifoRepeatRead r i j n) s fun t => t.answer.data = (s.fifo (obj i j)).last ∧ t.fifos = s.fifos)) ∧
    (∃ (r : _) (f : _) (s : State), (f < 16) ∧ (s.Accepts r (pk f 1) [1]) ∧ (s.pdoOn f = false) ∧ ((s.autoTake r (pk f 1)).pdoCheck f = 0) ∧ (Gives (.pdoEnable r f) s fun t => t.pdoOn f = true)) ∧
    (∃ (f : _) (s : State), (f < 16) ∧ (s.ready = true) ∧ (pdoMode s.mode = true) ∧ (s.pdoPeriodic f = true) ∧ ((s.pdo f).built ≠ some s.gnomon) ∧ (s.gnomon % (s.nat (pk f 4) * msTicks) = 0) ∧ (s.canSend false = true) ∧ (Gives (.pdoPeriodic f) s fun t => (t.pdo f).built = some s.gnomon ∧ (t.pdo f).waiting.isSome = true)) ∧
    (∃ (f : _) (s : State), (f < 16) ∧ (s.ready = true) ∧ (pdoMode s.mode = true) ∧ (s.pdoOnChange f = true) ∧ ((s.pdo f).built ≠ some s.gnomon) ∧ (s.gnomon % msTicks = 0) ∧ (s.pdoChanged f = true) ∧ (s.pdoInhibited f = false) ∧ (s.canSend true = true) ∧ (Gives (.pdoChange f) s fun t => (t.pdo f).built = some s.gnomon ∧ (t.pdo f).waiting.isSome = true)) :=
  ⟨⟨.mgmt, 0x2540, 10, [1, 2, 3, 4], [], (full.setNat 0x430201 1).setFifo 0x254000 { Fifo.init with recs := [[1, 2], [3, 4]] }, by decide, by decide, by decide, by decide, _, rfl, by decide, by decide, by decide⟩,
    ⟨.mgmt, 0x6040, 3, 2, [1, 2], [[3, 4]], full.setFifo 0x604003 { Fifo.init with recs := [[1, 2], [3, 4]] }, by decide, by decide, by decide, by decide, by decide, by decide, _, rfl, by decide, by decide, by decide⟩,
    ⟨.quoin, 0x6040, 3, 2, full.setFifo 0x604003 { Fifo.init with last := [1, 2], lastPort := 1 }, by decide, by decide, by decide, by decide, by decide, _, rfl, by decide, by decide⟩,
    ⟨.mgmt, 15, ((full.setNat (obj 0x910F 1) 1).setNat (obj 0x910F 2) (0x200201 * 256 + 1)).setNat (pk 15 2) 0x100, by decide, by decide, by decide, by decide, _, rfl, by decide⟩,
    ⟨15, { (((full.setNat (pk 15 1) 1).setNat (pk 15 3) 0).setNat (pk 15 4) 100).setNat 0x104101 2 with gnomon := 100 * 153600 }, by decide, by decide, by decide, by decide, by decide, by decide, by decide, _, rfl, by decide, by decide⟩,
    ⟨15, { ((full.setNat (pk 15 1) 1).setNat (pk 15 3) 1).setNat 0x104101 2 with gnomon := 100 * 153600 }, by decide, by decide, by decide, by decide, by decide, by decide, by decide, by decide, by decide, _, rfl, by decide, by decide⟩⟩

/-- Clauses of `Obligations.AccessCompletes` have instances: the hypotheses hold together, and the conclusion with them. -/
theorem witness_AccessCompletes_2 :
    (∃ (f : _) (s : State), (f < 16) ∧ (s.ready = true) ∧ (pdoMode s.mode = true) ∧ (s.pdoOnChange f = true) ∧ ((s.pdo f).built ≠ some s.gnomon) ∧ (s.gnomon % msTicks = 0) ∧ (s.pdoChanged f = true) ∧ (s.pdoInhibited f = true) ∧ (Gives (.pdoChange f) s fun t => (t.pdo f).held = true)) ∧
    (∃ (r : _) (data : _) (s : State), (s.Accepts r 0x107801 data) ∧ (s.awaiting.contains 0x107802 = false) ∧ ((s.autoTake r 0x107801).jobCheck data = 0) ∧ ((s.cvUnit 3).active = none) ∧ (Gives (.hostJob r data) s fun t => (t.cvUnit 3).active = some ⟨0xFE, data.take 16, crcStart (data.take 16), data.drop 16⟩)) ∧
    (∃ (u : _) (m : _) (head : _) (data : _) (s : State), ((posOf m (cvMasters u)).isSome = true) ∧ (m ≠ 0xFE) ∧ ((s.cvUnit u).busy = 0) ∧ ((s.cvUnit u).active = none) ∧ (Gives (.contextSwitch u m head data) s fun t => (t.cvUnit u).active = some ⟨m, padTo 16 head, crcStart head, data⟩)) ∧
    (∃ (u : _) (m : _) (head : _) (data : _) (a : _) (i : _) (s : State), (posOf m (cvMasters u) = some i) ∧ (m ≠ 0xFE) ∧ ((s.cvUnit u).busy = 0) ∧ ((s.cvUnit u).active = some a) ∧ (i < (posOf a.master (cvMasters u)).getD 99) ∧ ((s.cvUnit u).saved = none) ∧ (Gives (.contextSwitch u m head data) s fun t => (t.cvUnit u).active = some ⟨m, padTo 16 head, crcStart head, data⟩ ∧ (t.cvUnit u).saved = some a ∧ t.nat (cvk u 5) = satAdd 32 (s.nat (cvk u 5)) 1)) ∧
    (∃ (u : _) (a : _) (k : _) (s : State), ((s.cvUnit u).active = some a) ∧ ((s.cvUnit u).busy = 0) ∧ (a.left = []) ∧ (a.master ≠ 0xFE) ∧ ((s.cvUnit u).saved = some k) ∧ ((s.cvUnit u).waiting = []) ∧ (Gives (.contextRestore u) s fun t => (t.cvUnit u).active = some k ∧ (t.cvUnit u).saved = none)) :=
  ⟨⟨15, { (((full.setNat (pk 15 1) 1).setNat (pk 15 3) 1).setNat (pk 15 5) 10).setPdo 15 { Pdo.init with built := some (99 * 153600) } with gnomon := 100 * 153600 }, by decide, by decide, by decide, by decide, by decide, by decide, by decide, by decide, _, rfl, by decide⟩,
    ⟨.mgmt, [2, 0, 0, 0, 0, 0, 0, 0, 0, 0, 0, 0, 0, 0, 0, 0, 1, 2, 3], full, by decide, by decide, by decide, by decide, _, rfl, by decide⟩,
    ⟨1, 18, [2], [1, 2], full, by decide, by decide, by decide, by decide, _, rfl, by decide⟩,
    ⟨1, 17, [2], [1, 2], ⟨18, [2], 0, []⟩, 0, full.setCvUnit 1 { Cv.init with active := some ⟨18, [2], 0, []⟩ }, by decide, by decide, by decide, by decide, by decide, by decide, _, rfl, by decide, by decide, by decide⟩,
    ⟨1, ⟨17, [2], 0, []⟩, ⟨18, [2], 0, [1]⟩, full.setCvUnit 1 { Cv.init with active := some ⟨17, [2], 0, []⟩, saved := some ⟨18, [2], 0, [1]⟩ }, by decide, by decide, by decide, by decide, by decide, by decide, _, rfl, by decide, by decide⟩⟩

/-- Clauses of `Obligations.ManagementCompletes` have instances: the hypotheses hold together, and the conclusion with them. -/
theorem witness_ManagementCompletes_1 :
    (∃ (s : State), (s.monitored = true) ∧ (s.power.beat + 100 * msTicks ≤ s.gnomon) ∧ (Gives .managementWatchdog s fun t => t.mode = .boot ∧ t.ready = false ∧ t.power.resetCause = 4 ∧ t.log = s.log)) ∧
    (∃ (r : _) (v : _) (s : State), (s.Accepts r 0x731004 [v]) ∧ (broadcast s.mode = false) ∧ (s.owner (s.nat 0x731002) ≠ 0) ∧ (s.owner s.tapEngine ≠ 0) ∧ (Gives (.tapEnableWrite r v) s fun t => t.nat 0x731004 = v)) ∧
    (∃ (n : _) (x : _) (last : _) (mean : _) (s : State), (s.monitored = true) ∧ (1 ≤ n) ∧ (n ≤ 4) ∧ (s.sampleDue (obj 0x7000 n) 15360 = true) ∧ (last = lastN 10 (Map.get (fun _ => []) s.power.dieSamples n ++ [x])) ∧ (last.length = 10) ∧ (mean = clampInt (-32768) 32767 (roundMean (last.foldl (· + ·) 0) 10)) ∧ (Gives (.temperatureCrossing n x) s fun _ => True)) ∧
    (∃ (n : _) (x : _) (last : _) (s : State), (s.monitored = true) ∧ (s.mode ≠ .safe) ∧ (s.power.safeDue = none) ∧ (1 ≤ n) ∧ (n ≤ 4) ∧ (s.sampleDue (obj 0x7000 n) 15360 = true) ∧ (last = lastN 10 (Map.get (fun _ => []) s.power.dieSamples n ++ [x])) ∧ (last.length = 10) ∧ ((∀ y, y ∈ last → 1350 ≤ y)) ∧ (Gives (.temperatureCrossing n x) s fun _ => True)) ∧
    (∃ (m : _) (x : _) (last : _) (s : State), (s.monitored = true) ∧ (1 ≤ m) ∧ (m ≤ 9) ∧ (s.sampleDue (obj 0x7001 m) 1536 = true) ∧ (last = lastN 100 (Map.get (fun _ => []) s.power.railSamples m ++ [x])) ∧ (last.length = 100) ∧ ((lastN 10 last).all (outside (s.band m 10)) = false) ∧ (Gives (.supplyLevel m x) s fun _ => True)) ∧
    (∃ (m : _) (x : _) (recent : _) (s : State), (s.monitored = true) ∧ (m = 1 ∨ m = 7) ∧ (s.sampleDue (obj 0x7001 m) 1536 = true) ∧ (recent = lastN 10 (lastN 100 (Map.get (fun _ => []) s.power.railSamples m ++ [x]))) ∧ (recent.length = 10) ∧ (recent.all (outside (s.band m 10)) = true) ∧ (x < (s.band m 10).1) ∧ (Gives (.supplyLevel m x) s fun _ => True)) ∧
    (∃ (m : _) (x : _) (recent : _) (s : State), (s.monitored = true) ∧ (s.mode ≠ .safe) ∧ (s.power.safeDue = none) ∧ (1 ≤ m) ∧ (m ≤ 9) ∧ (s.sampleDue (obj 0x7001 m) 1536 = true) ∧ (recent = lastN 10 (lastN 100 (Map.get (fun _ => []) s.power.railSamples m ++ [x]))) ∧ (recent.length = 10) ∧ (recent.all (outside (s.band m 10)) = true) ∧ ((m ≠ 1 ∧ m ≠ 7) ∨ (s.band m 10).1 ≤ x) ∧ (Gives (.supplyLevel m x) s fun _ => True)) ∧
    (∃ (quiet : _) (locked : _) (s : State), (s.monitored = true) ∧ (s.mode ≠ .safe) ∧ (s.power.safeDue = none) ∧ (2000 ≤ quiet) ∧ (Gives (.clockMonitorFault 1 quiet locked) s fun t => t.nat 0x700201 = 2 ∧ t.power.safeDue = some ⟨3, 1, 0, s.gnomon⟩)) ∧
    (∃ (quiet : _) (s : State), (s.monitored = true) ∧ (s.nat 0x700204 = 0) ∧ (Gives (.clockMonitorFault 4 quiet false) s fun t => t.nat 0x700204 = 1 ∧ t.nat 0x104101 = 0)) :=
  ⟨⟨full, by decide, by decide, _, rfl, by decide, by decide, by decide, by decide⟩,
    ⟨.mgmt, 1, { late with mode := .watch }, by decide, by decide, by decide, by decide, _, rfl, by decide⟩,
    ⟨4, 300, List.replicate 10 300, 300, { full with power := { full.power with dieSamples := [(4, List.replicate 9 300)] } }, by decide, by decide, by decide, by decide, by decide, by decide, by decide, _, rfl, trivial⟩,
    ⟨1, 1350, List.replicate 10 1350, { full with power := { full.power with dieSamples := [(1, List.replicate 9 1350)] } }, by decide, by decide, by decide, by decide, by decide, by decide, by decide, by decide, by decide, _, rfl, trivial⟩,
    ⟨9, 3300, List.replicate 100 3300, { full with power := { full.power with railSamples := [(9, List.replicate 99 3300)] } }, by decide, by decide, by decide, by decide, by decide, by decide, by decide, _, rfl, trivial⟩,
    ⟨7, 1619, List.replicate 10 1619, { full with power := { full.power with railSamples := [(7, List.replicate 99 1619)] } }, by decide, by decide, by decide, by decide, by decide, by decide, by decide, _, rfl, trivial⟩,
    ⟨6, 1000, List.replicate 10 1000, { full with power := { full.power with railSamples := [(6, List.replicate 99 1000)] } }, by decide, by decide, by decide, by decide, by decide, by decide, by decide, by decide, by decide, by decide, _, rfl, trivial⟩,
    ⟨2000, false, full, by decide, by decide, by decide, by decide, _, rfl, by decide, by decide⟩,
    ⟨0, full, by decide, by decide, _, rfl, by decide, by decide⟩⟩

/-- Clauses of `Obligations.ManagementCompletes` have instances: the hypotheses hold together, and the conclusion with them. -/
theorem witness_ManagementCompletes_2 :
    (∃ (s : State), (s.monitored = true) ∧ (s.flushDue = true) ∧ (Gives (.logFlush false) s fun t => t.log.sram = [])) ∧
    (∃ (r : _) (q : _) (e : _) (s : State), (q < 2 ^ 32) ∧ (s.Accepts r 0x710002 (leNat 4 q)) ∧ (((s.autoTake r 0x710002).log.held.find? fun e => e.seq == q) = some e) ∧ (Gives (.logQuery r q) s fun t => t.nat 0x710002 = q ∧ (t.bytes 0x710003).drop 2 = e.encode)) ∧
    (∃ (c : _) (s : State), (s.power.safeDue = some c) ∧ (s.mode ≠ .off) ∧ (s.mode ≠ .parked) ∧ (s.mode ≠ .safe) ∧ (Gives .safeEntry s fun _ => True)) ∧
    (∃ (r : _) (k : _) (v : _) (s : State), (k = 1 ∨ k = 6) ∧ (v < 256) ∧ (s.Accepts r (obj 0x7700 k) [v]) ∧ (Gives (.gpioWrite r k v) s fun t => t.nat (obj 0x7700 k) = v)) ∧
    (∃ (r : _) (v : _) (s : State), (v < 256) ∧ (s.Accepts r 0x770002 [v]) ∧ (s.gpioFired = none) ∧ (Gives (.gpioWrite r 2 v) s fun t => t.nat 0x770002 = v)) ∧
    (∃ (quiet : _) (locked : _) (s : State), (s.monitored = true) ∧ (s.mode ≠ .safe) ∧ (s.power.safeDue = none) ∧ (16 < s.unlocksLately ∨ s.unlockedLong = true) ∧ (Gives (.clockMonitorFault 2 quiet locked) s fun t => t.nat 0x700202 = 2 ∧ t.power.safeDue = some ⟨3, 2, clampInt (-32768) 32767 s.unlocksLately, s.gnomon⟩)) ∧
    (∃ (quiet : _) (s : State), (s.monitored = true) ∧ (s.mode ≠ .safe) ∧ (s.power.safeDue = none) ∧ (Gives (.clockMonitorFault 3 quiet false) s fun t => t.nat 0x700203 = 2 ∧ t.power.safeDue = some ⟨3, 3, 0, s.gnomon⟩)) ∧
    (∃ (quiet : _) (s : State), (s.monitored = true) ∧ (Gives (.clockMonitorFault 4 quiet true) s fun t => t.nat 0x700204 = 0)) :=
  ⟨⟨{ full with log := { full.log with sram := [⟨1, 5, 1, 23, 12, 1⟩], oldestAt := 5 } }, by decide, by decide, _, rfl, by decide⟩,
    ⟨.mgmt, 1, ⟨1, 5, 1, 23, 12, 1⟩, { full with log := { full.log with sram := [⟨1, 5, 1, 23, 12, 1⟩], oldestAt := 5 } }, by decide, by decide, by decide, _, rfl, by decide, by decide⟩,
    ⟨⟨5, 19, 0, 0⟩, { full with power := { full.power with safeDue := some ⟨5, 19, 0, 0⟩ } }, by decide, by decide, by decide, by decide, _, rfl, trivial⟩,
    ⟨.mgmt, 1, 5, full, by decide, by decide, by decide, _, rfl, by decide⟩,
    ⟨.mgmt, 255, full, by decide, by decide, by decide, _, rfl, by decide⟩,
    ⟨0, true, { full with power := { full.power with unlocks := List.replicate 17 (10 ^ 12) } }, by decide, by decide, by decide, by decide, _, rfl, by decide, by decide⟩,
    ⟨0, full, by decide, by decide, by decide, _, rfl, by decide, by decide⟩,
    ⟨0, full, by decide, _, rfl, by decide⟩⟩

/-- Clauses of `Obligations.UpdateCompletes` have instances: the hypotheses hold together, and the conclusion with them. -/
theorem witness_UpdateCompletes :
    (∃ (r : _) (s : State), (s.Accepts r 0x720001 [1]) ∧ (s.nat 0x720002 = 0 ∨ s.nat 0x720002 = 4 ∨ s.nat 0x720002 = 5) ∧ (s.nat 0x750001 ≠ 1) ∧ (Gives (.updateBegin r) s fun t => t.nat 0x720002 = 1 ∧ t.upd.data = [] ∧ t.flash.other.state = 0)) ∧
    (∃ (s : State), (s.nat 0x720002 = 1) ∧ (Gives .eraseComplete s fun t => t.nat 0x720002 = 2)) ∧
    (∃ (r : _) (b : _) (s : State), (s.Accepts r 0x720101 b) ∧ (s.nat 0x720002 = 2) ∧ (fieldLe b 0 4 = s.upd.data.length) ∧ (fieldLe b 0 4 + (b.drop 4).length ≤ bankSize) ∧ (Gives (.updateChunk r b) s fun t => t.upd.data = s.upd.data ++ b.drop 4)) ∧
    (∃ (r : _) (engines : _) (catalogue : _) (s : State), (s.Accepts r 0x720001 [2]) ∧ (s.nat 0x720002 = 2) ∧ (Gives (.updateFinish r engines catalogue) s fun t => t.nat 0x720002 = (if (s.otp.judgeBank (imagesOf imageFuel s.upd.data) engines).1 = 0 then 4 else 5) ∧ ((s.otp.judgeBank (imagesOf imageFuel s.upd.data) engines).1 = 0 → t.flash.other.state = 1 ∧ t.flash.other.images = (imagesOf imageFuel s.upd.data).map imageHeader))) ∧
    (∃ (r : _) (s : State), (s.Accepts r 0x720001 [3]) ∧ (s.nat 0x720002 = 4) ∧ (Gives (.updateActivate r) s fun t => t.flash.trial = 1 ∧ t.flash.other.state = 2 ∧ t.power.resetDue = some 5)) ∧
    (∃ (r : _) (s : State), (s.Accepts r 0x720001 [4]) ∧ (s.nat 0x720002 ≠ 0) ∧ (Gives (.updateCancel r) s fun t => t.nat 0x720002 = 0 ∧ t.upd.data = [] ∧ t.flash.other.state = 0)) ∧
    (∃ (r : _) (s : State), (s.Accepts r 0x750002 [1]) ∧ (s.nat 0x750001 = 1) ∧ (Gives (.updateConfirm r) s fun t => t.nat 0x750001 = 2 ∧ t.flash.trial = 0 ∧ t.flash.run.state = 3)) ∧
    (∃ (from_ : _) (s : State), (s.upd.trialFrom = some from_) ∧ (s.nat 0x750001 = 1) ∧ (from_ + 60000 * msTicks ≤ s.gnomon) ∧ (Gives .trialExpiry s fun t => t.mode = .boot ∧ t.power.resetCause = 6 ∧ (s.flash.trial = 2 → t.flash.trial = 3))) :=
  ⟨⟨.mgmt, { full with mode := .update }, by decide, by decide, by decide, _, rfl, by decide, by decide, by decide⟩,
    ⟨full.setNat 0x720002 1, by decide, _, rfl, by decide⟩,
    ⟨.mgmt, [0, 0, 0, 0, 7], { full with mode := .update }.setNat 0x720002 2, by decide, by decide, by decide, by decide, _, rfl, by decide⟩,
    ⟨.mgmt, true, [], { full with mode := .update }.setNat 0x720002 2, by decide, by decide, _, rfl, by decide, by decide⟩,
    ⟨.mgmt, { full with mode := .update }.setNat 0x720002 4, by decide, by decide, _, rfl, by decide, by decide, by decide⟩,
    ⟨.mgmt, { full with mode := .update }.setNat 0x720002 2, by decide, by decide, _, rfl, by decide, by decide, by decide⟩,
    ⟨.mgmt, full.setNat 0x750001 1, by decide, by decide, _, rfl, by decide, by decide, by decide⟩,
    ⟨5, { full.setNat 0x750001 1 with upd := { full.upd with trialFrom := some 5 }, flash := { full.flash with trial := 2 } }, by decide, by decide, by decide, _, rfl, by decide, by decide, by decide⟩⟩

/-- Clauses of `Obligations.PowerCompletes` have instances: the hypotheses hold together, and the conclusion with them. -/
theorem witness_PowerCompletes_1 :
    (∃ (r : _) (target : _) (s : State), (s.Accepts r 0x760002 [target]) ∧ ((s.autoTake r 0x760002).modeRefusal target = 0) ∧ (s.mode ≠ modeOf target) ∧ (removesRadio s.mode (modeOf target) = false) ∧ (Gives (.modeRequest r target) s fun t => t.power.transition = some ⟨s.mode, modeOf target, 1, false, s.gnomon⟩ ∧ t.nat 0x760005 = 2)) ∧
    (∃ (r : _) (target : _) (s : State), (s.Accepts r 0x760002 [target]) ∧ ((s.autoTake r 0x760002).modeRefusal target = 0) ∧ (s.mode = modeOf target) ∧ (Gives (.modeRequest r target) s fun t => t.power.transition = none ∧ (t.bytes 0x760003).drop 2 = leNat 2 0 ++ [modeCode s.mode, target, 1, 0] ++ leNat 8 s.gnomon)) ∧
    (∃ (tr : _) (s : State), (s.power.transition = some tr) ∧ (tr.held = true) ∧ (tr.began + 500 * msTicks ≤ s.gnomon) ∧ (Gives .transitionHoldEnd s fun t => t.power.transition = some { tr with held := false, began := s.gnomon } ∧ t.nat 0x760005 = 2)) ∧
    (∃ (tr : _) (s : State), (s.power.transition = some tr) ∧ (tr.held = false) ∧ (tr.target ≠ .parked) ∧ (s.pathsReady tr = true) ∧ (s.power.heldWake = none) ∧ (Gives .transitionComplete s fun t => t.mode = tr.target ∧ t.power.transition = none ∧ t.nat 0x760005 = 0)) ∧
    (∃ (tr : _) (s : State), (s.power.transition = some tr) ∧ (tr.held = false) ∧ (tr.target = .parked) ∧ (s.power.heldWake = none) ∧ (Gives .parkedEntry s fun _ => True)) ∧
    (∃ (sources : _) (rising : _) (micros : _) (s : State), (s.mode = .parked) ∧ (s.power.waking = none) ∧ (bitOf sources 0 = true) ∧ (bitOf (s.nat 0x760007) 0 = true) ∧ (s.nat 0x601001 = 1) ∧ (Gives (.wake sources rising micros) s fun t => t.power.waking = some 0 ∧ t.power.pwrReq = true ∧ t.nat 0x76000A = 1)) ∧
    (∃ (sources : _) (rising : _) (micros : _) (s : State), (s.mode = .parked) ∧ (s.power.waking = none) ∧ (bitOf sources 0 = false) ∧ (bitOf sources 1 = true) ∧ (bitOf (s.nat 0x760007) 1 = true) ∧ (s.wakeEdge rising = true) ∧ (10 ≤ micros) ∧ (Gives (.wake sources rising micros) s fun t => t.power.waking = some 1 ∧ t.power.pwrReq = true ∧ t.nat 0x76000A = 2)) ∧
    (∃ (src : _) (hashes : _) (s : State), (s.mode = .parked) ∧ (s.power.waking = some src) ∧ (s.power.wokeAt + 12 ≤ s.power.rtcPeriods) ∧ (s.power.resumeRecord.mismatch hashes = 0) ∧ (Gives (.parkedResume hashes) s fun _ => True)) ∧
    (∃ (s : State), (s.mode = .parked) ∧ (s.power.waking.isSome = true) ∧ (s.power.wokeAt + 328 ≤ s.power.rtcPeriods) ∧ (Gives .wakeFailure s fun t => t.power.waking = none ∧ t.power.pwrReq = false ∧ t.nat 0x76000D = satAdd 16 (s.nat 0x76000D) 1)) ∧
    (∃ (rising : _) (micros : _) (s : State), (s.mode = .watch) ∧ (s.wakeEdge rising = true) ∧ (10 ≤ micros) ∧ (s.power.transition = none) ∧ (s.nat 0x760009 = 0) ∧ (s.nat 0x104101 = 5) ∧ (Gives (.wakeInWatch rising micros) s fun t => t.nat 0x104101 = 2 ∧ t.radio.judged = none)) :=
  ⟨⟨.mgmt, 5, live, by decide, by decide, by decide, by decide, _, rfl, by decide, by decide⟩,
    ⟨.mgmt, 5, full, by decide, by decide, by decide, _, rfl, by decide, by decide⟩,
    ⟨⟨.full, .update, 1, true, 5⟩, { full with power := { full.power with transition := some ⟨.full, .update, 1, true, 5⟩ } }, by decide, by decide, by decide, _, rfl, by decide, by decide⟩,
    ⟨⟨.full, .update, 1, false, 5⟩, { full with power := { full.power with transition := some ⟨.full, .update, 1, false, 5⟩ } }, by decide, by decide, by decide, by decide, by decide, _, rfl, by decide, by decide, by decide⟩,
    ⟨⟨.full, .parked, 1, false, 5⟩, { full with power := { full.power with transition := some ⟨.full, .parked, 1, false, 5⟩ } }, by decide, by decide, by decide, by decide, _, rfl, trivial⟩,
    ⟨1, true, 0, { (full.setNat 0x760007 1).setNat 0x601001 1 with mode := .parked }, by decide, by decide, by decide, by decide, by decide, _, rfl, by decide, by decide, by decide⟩,
    ⟨2, true, 10, { full.setNat 0x760007 2 with mode := .parked }, by decide, by decide, by decide, by decide, by decide, by decide, by decide, _, rfl, by decide, by decide, by decide⟩,
    ⟨2, [[], [], [], []], { full with mode := .parked, power := { full.power with waking := some 2, gEntry := 7, rtcPeriods := 12 } }, by decide, by decide, by decide, by decide, _, rfl, trivial⟩,
    ⟨{ full with mode := .parked, power := { full.power with waking := some 2, rtcPeriods := 328 } }, by decide, by decide, by decide, _, rfl, by decide, by decide, by decide⟩,
    ⟨true, 10, { (full.setNat 0x104101 5).setNat 0x760009 0 with mode := .watch }, by decide, by decide, by decide, by decide, by decide, by decide, _, rfl, by decide, by decide⟩⟩

/-- Clauses of `Obligations.PowerCompletes` have instances: the hypotheses hold together, and the conclusion with them. -/
theorem witness_PowerCompletes_2 :
    (∃ (from_ : _) (s : State), (s.power.left = some from_) ∧ (from_ + 2000 * msTicks ≤ s.gnomon) ∧ (Gives .wakeOutEnd s fun t => t.power.left = none)) ∧
    (∃ (c : _) (nanos : _) (kept : _) (s : State), (c = 1 ∨ (c = 2 ∧ 1000 ≤ nanos) ∨ c = 3 ∨ (c = 5 ∧ s.power.resetDue = some 5)) ∧ (Gives (.reset c nanos kept) s fun t => t.mode = .boot ∧ t.ready = false ∧ t.power.resetCause = c ∧ t.gnomon = 0 ∧ t.pending = s.pending ∧ t.otp = s.otp)) ∧
    (∃ (gpio2 : _) (gpio3 : _) (goodA : _) (goodB : _) (temps : _) (supplies : _) (s : State), (s.mode = .boot) ∧ (s.ready = false) ∧ (s.power.bootStep = 0) ∧ (gpio3 = true ∨ (s.chooseBank goodA goodB).2 = false) ∧ (Gives (.bringUp gpio2 gpio3 goodA goodB temps supplies) s fun _ => True)) ∧
    (∃ (step : _) (tr : _) (s : State), (s.power.transition = some tr) ∧ (tr.held = false) ∧ (((pathSteps tr.old tr.target).find? fun n => decide (s.power.pathStep < n)) = some step) ∧ (Gives (.pathPowerUp step) s fun t => t.power.pathStep = step)) ∧
    (∃ (gpio2 : _) (goodA : _) (goodB : _) (temps : _) (supplies : _) (s : State), (s.mode = .boot) ∧ (s.ready = false) ∧ (s.power.bootStep = 0) ∧ ((s.chooseBank goodA goodB).2 = true) ∧ (Gives (.bringUp gpio2 false goodA goodB temps supplies) s fun _ => True)) ∧
    (∃ (gpio2 : _) (gpio3 : _) (goodA : _) (goodB : _) (temps : _) (supplies : _) (s : State), (s.mode = .boot) ∧ (s.ready = false) ∧ (s.power.bootStep ≠ 0) ∧ (Gives (.bringUp gpio2 gpio3 goodA goodB temps supplies) s fun _ => True)) ∧
    (∃ (gpio2 : _) (gpio3 : _) (goodA : _) (goodB : _) (temps : _) (supplies : _) (s : State), (s.mode ≠ .boot ∨ s.ready = true) ∧ (Gives (.bringUp gpio2 gpio3 goodA goodB temps supplies) s fun _ => True)) ∧
    (∃ (src : _) (hashes : _) (s : State), (s.mode = .parked) ∧ (s.power.waking = some src) ∧ (s.power.wokeAt + 12 ≤ s.power.rtcPeriods) ∧ (s.power.resumeRecord.mismatch hashes ≠ 0) ∧ (Gives (.parkedResume hashes) s fun _ => True)) ∧
    (∃ (sources : _) (rising : _) (micros : _) (s : State), (s.mode = .parked) ∧ (s.power.waking = none) ∧ (bitOf sources 0 = false) ∧ (bitOf sources 1 = false) ∧ (bitOf sources 2 = true) ∧ (bitOf (s.nat 0x760007) 2 = true) ∧ (Gives (.wake sources rising micros) s fun t => t.power.waking = some 2 ∧ t.power.pwrReq = true ∧ t.nat 0x76000A = 3)) :=
  ⟨⟨5, { full with power := { full.power with left := some 5 } }, by decide, by decide, _, rfl, by decide⟩,
    ⟨2, 1000, true, full, by decide, _, rfl, by decide, by decide, by decide, by decide, by decide, by decide⟩,
    ⟨true, true, true, true, [250], [800], State.reset, by decide, by decide, by decide, by decide, _, rfl, trivial⟩,
    ⟨7, ⟨.listen, .full, 1, false, 5⟩, { live with power := { live.power with transition := some ⟨.listen, .full, 1, false, 5⟩ } }, by decide, by decide, by decide, _, rfl, by decide⟩,
    ⟨true, true, true, [250], [800], { State.reset with flash := { State.reset.flash with bankA := { State.reset.flash.bankA with state := 3 } } }, by decide, by decide, by decide, by decide, _, rfl, trivial⟩,
    ⟨true, true, true, true, [250], [800], { State.reset with power := { State.reset.power with bootStep := 7 } }, by decide, by decide, by decide, _, rfl, trivial⟩,
    ⟨true, true, true, true, [250], [800], full, by decide, _, rfl, trivial⟩,
    ⟨2, [[1]], { full with mode := .parked, power := { full.power with waking := some 2, gEntry := 7, rtcPeriods := 12 } }, by decide, by decide, by decide, by decide, _, rfl, trivial⟩,
    ⟨4, true, 0, { full.setNat 0x760007 4 with mode := .parked }, by decide, by decide, by decide, by decide, by decide, by decide, _, rfl, by decide, by decide, by decide⟩⟩

/-- Clauses of `Obligations.SecurityCompletes` have instances: the hypotheses hold together, and the conclusion with them. -/
theorem witness_SecurityCompletes_1 :
    (∃ (r : _) (s : State), (s.Accepts r 0x800002 [1]) ∧ (s.lifecycle = 0) ∧ ((List.range 4).any s.otp.usable = true) ∧ (Gives (.stepToSecured r) s fun t => t.otp.securedFuses = 8 ∧ t.nat 0x830001 = 0)) ∧
    (∃ (r : _) (s : State), (s.Accepts r 0x800101 [1]) ∧ (s.challengeWait = false) ∧ (Gives (.challengeRequest r) s fun t => t.sec.challenge = some ⟨(t.bytes 0x800102).drop 2, s.gnomon⟩)) ∧
    (∃ (c : _) (s : State), (s.sec.challenge = some c) ∧ (c.at_ + challengeTicks ≤ s.gnomon) ∧ (Gives .challengeExpiry s fun t => t.sec.challenge = none)) ∧
    (∃ (r : _) (rest : _) (s : State), (s.Accepts r 0x800201 (3 :: rest)) ∧ (Gives (.stepToReturned r rest) s fun t => t.sec.challenge = none ∧ (s.judgeResponse [3, 4] (3 :: rest) = 0 → s.lifecycle = 1 → t.otp.returnedFuses = 8 ∧ t.flash.keys = []))) ∧
    (∃ (r : _) (rest : _) (s : State), (s.Accepts r 0x800201 (4 :: rest)) ∧ (Gives (.revokeSlot r rest) s fun t => t.sec.challenge = none ∧ (s.judgeResponse [3, 4] (4 :: rest) = 0 → (s.revokeSlot (nthD rest 1 0)).2 = 0 → t.otp.revoked = setBit s.otp.revoked (nthD rest 1 0)))) ∧
    (∃ (r : _) (n : _) (i : _) (key : _) (s : State), (n < 32) ∧ (1 ≤ i) ∧ (i < 256) ∧ (key.length = 16) ∧ (s.Accepts r (obj 0x8100 (n + 1)) ([1, i, 0, 0, 0, 0, 0, 0] ++ key)) ∧ ((s.keySlot n).type = 0) ∧ ((s.flash.keys.all fun p => p.2.type != 1 || p.2.index != i) = true) ∧ (Gives (.keySlotWrite r n ([1, i, 0, 0, 0, 0, 0, 0] ++ key)) s fun t => t.keySlot n = ⟨1, i, key⟩)) ∧
    (∃ (r : _) (n : _) (s : State), (n < 32) ∧ (s.Accepts r 0x812001 [n]) ∧ ((s.keySlot n).type ≠ 1 ∨ ((s.keySlot n).index ≠ s.nat 0x602402 ∧ (s.keySlot n).index ≠ s.nat 0x602403)) ∧ (Gives (.keySlotErase r n) s fun t => t.flash.keys = s.flash.keys.erase n)) ∧
    (∃ (r : _) (v : _) (s : State), (s.Accepts r 0x830003 [v]) ∧ (v ≤ s.debugLevel) ∧ (Gives (.lowerLevel r v) s fun t => t.nat 0x830001 = v)) ∧
    (∃ (m : _) (target : _) (right : _) (region : _) (address : _) (s : State), (s.monitored = true) ∧ (m = 0 ∨ m = 19) ∧ (s.permits m target (right % 16) address = false) ∧ (Gives (.accessViolation m target right region address) s fun t => t.nat (obj 0x8040 (m + 1)) = satAdd 32 (s.nat (obj 0x8040 (m + 1))) 1 ∧ t.bytes 0x804101 = [m, target % 256, right % 16, region % 256] ++ leNat 4 address ++ leNat 8 s.gnomon)) ∧
    (∃ (m : _) (target : _) (right : _) (region : _) (address : _) (s : State), (s.monitored = true) ∧ (m = 1 ∨ m = 2 ∨ (15 ≤ m ∧ m ≤ 18) ∨ (20 ≤ m ∧ m ≤ 23)) ∧ (s.sec.violations = []) ∧ (s.permits m target (right % 16) address = false) ∧ (Gives (.accessViolation m target right region address) s fun t => t.sec.violations = [(m, s.gnomon)] ∧ t.nat (obj 0x8040 (m + 1)) = satAdd 32 (s.nat (obj 0x8040 (m + 1))) 1)) :=
  ⟨⟨.mgmt, { full with otp := { full.otp with slotHash := [[1]] } }, by decide, by decide, by decide, _, rfl, by decide, by decide⟩,
    ⟨.mgmt, full, by decide, by decide, _, rfl, rfl⟩,
    ⟨⟨[], 5⟩, { full with sec := { full.sec with challenge := some ⟨[], 5⟩ } }, by decide, by decide, _, rfl, by decide⟩,
    ⟨.mgmt, List.replicate 131 0, full, by decide, _, rfl, by decide, by decide⟩,
    ⟨.mgmt, List.replicate 131 0, full, by decide, _, rfl, by decide, by decide⟩,
    ⟨.mgmt, 31, 9, List.replicate 16 5, keyed, by decide, by decide, by decide, by decide, by decide, by decide, by decide, _, rfl, by decide⟩,
    ⟨.mgmt, 31, keyed, by decide, by decide, by decide, _, rfl, by decide⟩,
    ⟨.mgmt, 0, full, by decide, by decide, _, rfl, by decide⟩,
    ⟨19, 1, 2, 3, 4, full, by decide, by decide, by decide, _, rfl, by decide, by decide⟩,
    ⟨23, 1, 2, 3, 4, full, by decide, by decide, by decide, by decide, _, rfl, by decide, by decide⟩⟩

/-- Clauses of `Obligations.SecurityCompletes` have instances: the hypotheses hold together, and the conclusion with them. -/
theorem witness_SecurityCompletes_2 :
    (∃ (m : _) (target : _) (right : _) (region : _) (address : _) (s : State), (s.monitored = true) ∧ (3 ≤ m) ∧ (m ≤ 14) ∧ (s.engineLive (m - 3) = true) ∧ (s.permits m target (right % 16) address = false) ∧ (Gives (.accessViolation m target right region address) s fun t => t.nat (ek (m - 3) 0x0B) = 0x0203)) ∧
    (∃ (s : State), (s.tapServes = true) ∧ (s.challengeWait = false) ∧ (Gives .dbgChallenge s fun t => t.sec.tap = 0x21 ∧ t.sec.challenge = (t.port 4).out.head?.map fun b => ⟨b, s.gnomon⟩)) ∧
    (∃ (b : _) (s : State), (s.tapServes = true) ∧ (Gives (.dbgResponse b) s fun t => t.sec.tap = 0x22 ∧ t.sec.challenge = none ∧ (s.judgeResponse [1, 2] (padTo 132 b) = 0 → t.nat 0x830001 = nthD (padTo 132 b) 0 0))) ∧
    (∃ (m : _) (n : _) (s : State), (s.tapServes = true) ∧ (s.debugLevel = 2) ∧ (m = 0 ∨ m = 1 ∨ m = 15) ∧ (Gives (.coreDebug m 1 n) s fun t => t.sec.tap = 0x30 ∧ t.sec.halted = insertSorted m s.sec.halted)) ∧
    (∃ (m : _) (n : _) (s : State), (s.tapServes = true) ∧ (s.debugLevel = 2) ∧ (m = 0 ∨ m = 1 ∨ m = 15) ∧ (Gives (.coreDebug m 0 n) s fun t => t.sec.halted = s.sec.halted.filter (· != m))) ∧
    (∃ (m : _) (n : _) (s : State), (s.tapServes = true) ∧ (s.debugLevel = 2) ∧ (m = 0 ∨ m = 1 ∨ m = 15) ∧ (Gives (.coreDebug m 3 n) s fun t => (t.port 4).out.map List.length = [n])) ∧
    (∃ (s : State), (Gives .idcode s fun t => t.sec.tap = 2 ∧ (t.port 4).out = [leNat 4 0x22460B47])) ∧
    (∃ (s : State), (Gives .dbgStatus s fun t => t.sec.tap = 0x20 ∧ (t.port 4).out = [[s.debugLevel % 4 + 4 * (s.lifecycle % 4) + 16 * boolNat s.ready + 32 * boolNat s.sec.challenge.isSome]])) ∧
    (∃ (b : _) (s : State), (Gives (.samplePreload b) s fun t => t.sec.tap = 1 ∧ t.sec.preload = b ∧ (t.port 4).out.map List.length = [b.length])) ∧
    (∃ (b : _) (s : State), (Gives (.extest b false) s fun t => t.sec.tap = 0 ∧ t.sec.preload = b)) :=
  ⟨⟨14, 1, 2, 3, 4, full.setUStateQuiet 0x20B 2, by decide, by decide, by decide, by decide, by decide, _, rfl, by decide⟩,
    ⟨full, by decide, by decide, _, rfl, by decide, rfl⟩,
    ⟨[], full, by decide, _, rfl, by decide, by decide, by decide⟩,
    ⟨15, 0, full.setNat 0x830001 2, by decide, by decide, by decide, _, rfl, by decide, by decide⟩,
    ⟨0, 0, full.setNat 0x830001 2, by decide, by decide, by decide, _, rfl, by decide⟩,
    ⟨1, 4, full.setNat 0x830001 2, by decide, by decide, by decide, _, rfl, by decide⟩,
    ⟨full, _, rfl, by decide, by decide⟩,
    ⟨full, _, rfl, by decide, by decide⟩,
    ⟨[1, 2], full, _, rfl, by decide, by decide, by decide⟩,
    ⟨[1, 2], full, _, rfl, by decide, by decide⟩⟩

/-- Clauses of `Obligations.SecurityCompletes` have instances: the hypotheses hold together, and the conclusion with them. -/
theorem witness_SecurityCompletes_3 :
    (∃ (b : _) (s : State), (Gives (.extest b true) s fun _ => True)) ∧
    (∃ (s : State), (Gives (.clamp false) s fun t => t.sec.tap = 3)) ∧
    (∃ (s : State), (Gives (.clamp true) s fun _ => True)) ∧
    (∃ (s : State), (Gives (.highz false) s fun t => t.sec.tap = 4)) ∧
    (∃ (s : State), (Gives (.highz true) s fun _ => True)) ∧
    (∃ (s : State), (Gives .bypass s fun t => t.sec.tap = 0xFF ∧ (t.port 4).out = [])) ∧
    (∃ (m : _) (target : _) (right : _) (region : _) (address : _) (s : State), (s.permits m target (right % 16) address = true) ∧ (Gives (.accessViolation m target right region address) s fun _ => True)) ∧
    (∃ (m : _) (target : _) (right : _) (region : _) (address : _) (a : _) (b : _) (c : _) (s : State), (s.monitored = true) ∧ (s.mode ≠ .safe) ∧ (s.power.safeDue = none) ∧ (m = 1 ∨ m = 2 ∨ (15 ≤ m ∧ m ≤ 18) ∨ (20 ≤ m ∧ m ≤ 23)) ∧ (s.sec.violations = [(m, a), (m, b), (m, c)]) ∧ (s.gnomon < a + 1000 * msTicks) ∧ (s.gnomon < b + 1000 * msTicks) ∧ (s.gnomon < c + 1000 * msTicks) ∧ (s.permits m target (right % 16) address = false) ∧ (Gives (.accessViolation m target right region address) s fun _ => True)) :=
  ⟨⟨[1, 2], full, _, rfl, trivial⟩,
    ⟨full, _, rfl, by decide⟩,
    ⟨full, _, rfl, trivial⟩,
    ⟨full, _, rfl, by decide⟩,
    ⟨full, _, rfl, trivial⟩,
    ⟨full, _, rfl, by decide, by decide⟩,
    ⟨0, 4, 1, 2, 3, full, by decide, _, rfl, trivial⟩,
    ⟨23, 1, 2, 3, 4, 10 ^ 12, 10 ^ 12, 10 ^ 12, { full with sec := { full.sec with violations := [(23, 10 ^ 12), (23, 10 ^ 12), (23, 10 ^ 12)] } }, by decide, by decide, by decide, by decide, by decide, by decide, by decide, by decide, by decide, _, rfl, trivial⟩⟩

/-- Clauses of `Obligations.DictionaryCompletes` have instances: the hypotheses hold together, and the conclusion with them. -/
theorem witness_DictionaryCompletes_1 :
    (∃ (r : _) (i : _) (j : _) (b : _) (row : _) (s : State), (PlainRow i j row) ∧ (s.Accepts r (obj i j) b) ∧ (Gives (.objectWrite r i j b) s fun t => t.val (obj i j) = decodeVal row.ty b ∧ t.answer.code = 0)) ∧
    (∃ (r : _) (i : _) (j : _) (b : _) (s : State), (i < 65536) ∧ (j < 256) ∧ (s.Accepts r (obj i j) b) ∧ (Gives (.objectWrite r i j b) s fun t => t.answer.code = (writeAct r (obj i j) b (s.autoTake r (obj i j))).2)) ∧
    (∃ (r : _) (s : State), (s.Accepts r 0x110001 [1]) ∧ (s.awaiting.contains 0x110002 = false) ∧ (storeSize (s.autoTake r 0x110001).snapshot ≤ 16384) ∧ (Gives (.store r) s fun t => t.saving.map (·.snapshot) = some (s.autoTake r 0x110001).snapshot)) ∧
    (∃ (v : _) (s : State), (s.saving = some v) ∧ (Map.get (fun _ => none) s.held 0x110001 = none) ∧ (Gives (.storeComplete true) s fun _ => True)) ∧
    (∃ (v : _) (s : State), (s.saving = some v) ∧ (Map.get (fun _ => none) s.held 0x110001 = none) ∧ (Gives (.storeComplete false) s fun t => t.saving = none ∧ t.flash.store = s.flash.store ∧ (t.bytes 0x110002).drop 2 = leNat 2 0x0111 ++ leNat 4 0)) ∧
    (∃ (r : _) (s : State), (s.Accepts r 0x110001 [2]) ∧ (s.awaiting.contains 0x110002 = false) ∧ (Gives (.storeErase r) s fun t => t.flash.store = [] ∧ t.nat 0x110003 = 0)) :=
  ⟨⟨.mgmt, 0x1030, 3, leNat 2 5000, ⟨0x1030, 1, 3, 3, .u16, .rw, 2000, [(100, 60000)]⟩, full, by decide, by decide, _, rfl, by decide, by decide⟩,
    ⟨.mgmt, 0x1030, 3, leNat 2 5000, full, by decide, by decide, by decide, _, rfl, by decide⟩,
    ⟨.mgmt, full, by decide, by decide, by decide, _, rfl, by decide⟩,
    ⟨⟨[], 0⟩, { full with saving := some ⟨[], 0⟩ }, by decide, by decide, _, rfl, trivial⟩,
    ⟨⟨[], 0⟩, { full with saving := some ⟨[], 0⟩ }, by decide, by decide, _, rfl, by decide, by decide, by decide⟩,
    ⟨.mgmt, full, by decide, by decide, _, rfl, by decide, by decide⟩⟩

/-- Clauses of `Obligations.DictionaryCompletes` have instances: the hypotheses hold together, and the conclusion with them. -/
theorem witness_DictionaryCompletes_2 :
    (∃ (r : _) (p : _) (s : State), (s.Accepts r 0x103002 [p % 3 + 1]) ∧ (portNo r = p % 3 + 1) ∧ (s.nat 0x103001 = 0) ∧ (Gives (.tokenTake r p) s fun t => t.nat 0x103001 = p % 3 + 1)) ∧
    (∃ (r : _) (s : State), (s.Accepts r 0x103002 [0]) ∧ (s.holdsToken r = true) ∧ (Gives (.tokenRelease r) s fun t => t.nat 0x103001 = 0)) ∧
    (∃ (r : _) (p : _) (s : State), (s.Accepts r 0x103002 [0x81 + p % 3]) ∧ (s.holdsToken r = true) ∧ (Gives (.tokenHandover r p) s fun t => t.nat 0x103001 = p % 3 + 1)) ∧
    (∃ (s : State), (s.ready = true) ∧ (s.nat 0x103001 ≠ 0) ∧ (s.nat 0x103005 + s.nat 0x103003 * msTicks ≤ s.gnomon) ∧ (Gives .tokenTimeout s fun t => t.nat 0x103001 = 0)) ∧
    (∃ (r : _) (q : _) (e : _) (s : State), (q < 2 ^ 32) ∧ (s.Accepts r 0x981001 (leNat 4 q)) ∧ (q ≤ (s.autoTake r 0x981001).nat 0x980006) ∧ (((s.autoTake r 0x981001).events.history.find? fun e => e.seq == q) = some e) ∧ (Gives (.historyQuery r q) s fun t => t.nat 0x981001 = q ∧ (t.bytes 0x981002).drop 2 = e.encode)) ∧
    (∃ (r : _) (s : State), (s.Accepts r 0x104008 [1]) ∧ (((List.range 16).any fun f => s.pdoOn f && s.stagedIds.contains (s.pdoKey f)) = false) ∧ (Gives (.quoinApply r) s fun t => t.quoinIds = s.stagedIds)) :=
  ⟨⟨.spi, 2, full, by decide, by decide, by decide, _, rfl, by decide⟩,
    ⟨.twoWire, full.setNat 0x103001 2, by decide, by decide, _, rfl, by decide⟩,
    ⟨.twoWire, 2, full.setNat 0x103001 2, by decide, by decide, _, rfl, by decide⟩,
    ⟨full.setNat 0x103001 2, by decide, by decide, by decide, _, rfl, by decide⟩,
    ⟨.mgmt, 7, anEvent 7, { full.setNat 0x980006 8 with events := { full.events with history := [anEvent 7] } }, by decide, by decide, by decide, by decide, _, rfl, by decide, by decide⟩,
    ⟨.mgmt, full.setNat 0x104002 0x100, by decide, by decide, _, rfl, by decide⟩⟩

/-- Clauses of `Obligations.QuoinCompletes` have instances: the hypotheses hold together, and the conclusion with them. -/
theorem witness_QuoinCompletes_1 :
    (∃ (seq : _) (i : _) (j : _) (flags : _) (rest : _) (s : State), (seq < 256) ∧ (i < 65536) ∧ (j < 256) ∧ (2 ≤ rest.length) ∧ (s.QuoinServes) ∧ (s.Unkept 1 seq) ∧ (s.Readable .quoin (obj i j) 48) ∧ (obj i j ≠ 0x104102) ∧ (Gives (.quoinRead true seq (leNat 2 i ++ [j, flags] ++ rest)) s fun t => ∃ b, (t.port 1).kept = some (seq, b) ∧ (t.port 1).out = [padTo (canLength b.length) b] ∧ b.take 4 = [0x81, seq, 0, 0] ∧ b.drop 16 = s.readBytes (obj i j))) ∧
    (∃ (seq : _) (i : _) (j : _) (flags : _) (data : _) (row : _) (s : State), (seq < 256) ∧ (PlainRow i j row) ∧ (data.length ≤ 48) ∧ (s.QuoinServes) ∧ (s.Unkept 1 seq) ∧ (s.Accepts .quoin (obj i j) data) ∧ (Gives (.quoinWrite true seq (leNat 2 i ++ [j, flags] ++ leNat 2 data.length ++ data)) s fun t => t.val (obj i j) = decodeVal row.ty data ∧ ∃ b, (t.port 1).kept = some (seq, b) ∧ b.take 4 = [0x82, seq, 0, 0])) ∧
    (∃ (seq : _) (i : _) (j : _) (flags : _) (rest : _) (s : State), (seq < 256) ∧ (i < 65536) ∧ (j < 256) ∧ (2 ≤ rest.length) ∧ (s.QuoinServes) ∧ (s.Unkept 1 seq) ∧ ((s.port 1).transfer = none) ∧ (s.Readable .quoin (obj i j) transferMax) ∧ (obj i j ≠ 0x104102) ∧ (Gives (.initiateRead true seq (leNat 2 i ++ [j, flags] ++ rest)) s fun t => (t.port 1).transfer = some ⟨false, seq, obj i j, (s.readBytes (obj i j)).length, s.readBytes (obj i j), 0, 0, s.gnomon⟩)) ∧
    (∃ (seq : _) (i : _) (j : _) (flags : _) (n : _) (rest : _) (s : State), (seq < 256) ∧ (i < 65536) ∧ (j < 256) ∧ (1 ≤ n) ∧ (n ≤ transferMax) ∧ (s.QuoinServes) ∧ (s.Unkept 1 seq) ∧ ((s.port 1).transfer = none) ∧ ((s.autoTake .quoin (obj i j)).judgeLength .quoin (obj i j) n = 0) ∧ (Gives (.initiateWrite true seq (leNat 2 i ++ [j, flags, 0, 0] ++ leNat 4 n ++ rest)) s fun t => (t.port 1).transfer = some ⟨true, seq, obj i j, n, [], 0, s.nat 0x10400D, s.gnomon⟩)) ∧
    (∃ (first : _) (n : _) (rest : _) (tr : _) (s : State), ((s.port 1).transfer = some tr) ∧ (tr.write = false) ∧ (tr.seq < 256) ∧ (first < 65536) ∧ (first < segmentCount 1 tr.size) ∧ (1 ≤ n) ∧ (n ≤ 32) ∧ (3 ≤ rest.length) ∧ (s.QuoinServes) ∧ (Gives (.blockRequest true tr.seq (leNat 2 first ++ [n] ++ rest)) s fun t => (t.port 1).out.length = min (first + n) (segmentCount 1 tr.size) - first ∧ (t.port 1).transfer = some { tr with at_ := s.gnomon })) ∧
    (∃ (data : _) (rest : _) (tr : _) (s : State), ((s.port 1).transfer = some tr) ∧ (tr.write = true) ∧ (tr.seq < 256) ∧ (tr.next < 65536) ∧ (tr.next < segmentCount 1 tr.size) ∧ (data.length = min 60 (tr.size - tr.data.length)) ∧ (s.QuoinServes) ∧ (Gives (.segment true tr.seq (leNat 2 tr.next ++ data ++ rest)) s fun t => (t.port 1).transfer = some { tr with data := tr.data ++ data, next := tr.next + 1, at_ := s.gnomon })) ∧
    (∃ (seq : _) (body : _) (tr : _) (s : State), ((s.port 1).transfer = some tr) ∧ (tr.write = false) ∧ (seq < 256) ∧ (6 ≤ body.length) ∧ (s.QuoinServes) ∧ (s.Unkept 1 seq) ∧ (Gives (.endTransfer true seq body) s fun t => (t.port 1).transfer = none ∧ ∃ b, (t.port 1).kept = some (seq, b) ∧ b.take 4 = [0x87, seq, 0, 0])) ∧
    (∃ (seq : _) (i : _) (j : _) (row : _) (rest : _) (tr : _) (s : State), ((s.port 1).transfer = some tr) ∧ (tr.write = true) ∧ (tr.key = obj i j) ∧ (PlainRow i j row) ∧ (tr.data.length = tr.size) ∧ (seq < 256) ∧ (s.QuoinServes) ∧ (s.Unkept 1 seq) ∧ (s.check5 tr.key = 0) ∧ (s.unitCheck tr.key = 0) ∧ (rangeCheck tr.key tr.data = 0) ∧ (Gives (.endTransfer true seq ([0, 0] ++ leNat 4 (crcOf 0 tr.data) ++ rest)) s fun t => (t.port 1).transfer = none ∧ t.val (obj i j) = decodeVal row.ty tr.data)) ∧
    (∃ (seq : _) (body : _) (s : State), (seq < 256) ∧ (6 ≤ body.length) ∧ (s.QuoinServes) ∧ (s.Unkept 1 seq) ∧ (Gives (.abortTransfer true seq body) s fun t => (t.port 1).transfer = none ∧ ∃ b, (t.port 1).kept = some (seq, b) ∧ b.take 4 = [0x88, seq, 0, 0])) :=
  ⟨⟨255, 0x1030, 3, 0, [0, 0], onBus, by decide, by decide, by decide, by decide, by decide, by decide, by decide, by decide, _, rfl, _, rfl, by decide, by decide, by decide⟩,
    ⟨0, 0x1030, 3, 0, leNat 2 5000, ⟨0x1030, 1, 3, 3, .u16, .rw, 2000, [(100, 60000)]⟩, onBus.setNat 0x103001 1, by decide, by decide, by decide, by decide, by decide, by decide, _, rfl, by decide, _, rfl, by decide⟩,
    ⟨0, 0x1030, 3, 0, [0, 0], onBus, by decide, by decide, by decide, by decide, by decide, by decide, by decide, by decide, by decide, _, rfl, by decide⟩,
    ⟨0, 0x1030, 3, 0, 2, [], onBus.setNat 0x103001 1, by decide, by decide, by decide, by decide, by decide, by decide, by decide, by decide, by decide, _, rfl, by decide⟩,
    ⟨1, 32, [0, 0, 0], ⟨false, 3, 0x821001, 130, List.replicate 130 7, 0, 0, 5⟩, onBus.setPort 1 { Port.init with transfer := some ⟨false, 3, 0x821001, 130, List.replicate 130 7, 0, 0, 5⟩ }, by decide, by decide, by decide, by decide, by decide, by decide, by decide, by decide, by decide, _, rfl, by decide, by decide⟩,
    ⟨[1, 2], [], ⟨true, 3, 0x103003, 2, [], 0, 16, 5⟩, onBus.setPort 1 { Port.init with transfer := some ⟨true, 3, 0x103003, 2, [], 0, 16, 5⟩ }, by decide, by decide, by decide, by decide, by decide, by decide, by decide, _, rfl, by decide⟩,
    ⟨9, List.replicate 6 0, ⟨false, 3, 0x821001, 2, [1, 2], 0, 0, 5⟩, onBus.setPort 1 { Port.init with transfer := some ⟨false, 3, 0x821001, 2, [1, 2], 0, 0, 5⟩ }, by decide, by decide, by decide, by decide, by decide, by decide, _, rfl, by decide, _, rfl, by decide⟩,
    ⟨9, 0x1030, 3, ⟨0x1030, 1, 3, 3, .u16, .rw, 2000, [(100, 60000)]⟩, [], ⟨true, 3, 0x103003, 2, leNat 2 5000, 1, 16, 5⟩, onBus.setPort 1 { Port.init with transfer := some ⟨true, 3, 0x103003, 2, leNat 2 5000, 1, 16, 5⟩ }, by decide, by decide, by decide, by decide, by decide, by decide, by decide, by decide, by decide, by decide, by decide, _, rfl, by decide, by decide⟩,
    ⟨9, List.replicate 6 0, onBus, by decide, by decide, by decide, by decide, _, rfl, by decide, _, rfl, by decide⟩⟩

/-- Clauses of `Obligations.QuoinCompletes` have instances: the hypotheses hold together, and the conclusion with them. -/
theorem witness_QuoinCompletes_2 :
    (∃ (seq : _) (body : _) (s : State), (seq < 256) ∧ (6 ≤ body.length) ∧ (s.QuoinServes) ∧ (Gives (.syncRequest true seq body) s fun t => ∃ b, (t.port 1).out = [padTo (canLength b.length) b] ∧ b.take 4 = [0x8F, seq, 0, 0] ∧ b.drop 16 = s.syncData 1)) ∧
    (∃ (p : _) (tr : _) (s : State), ((s.port (p % 4 + 1)).transfer = some tr) ∧ (tr.at_ + s.transferMs (p % 4 + 1) * msTicks ≤ s.gnomon) ∧ (Gives (.transferTimeout p) s fun t => (t.port (p % 4 + 1)).transfer = none ∧ t.nat 0x104104 = satAdd 32 (s.nat 0x104104) 1)) ∧
    (∃ (s : State), (s.eventFrameDue = true) ∧ (Gives .eventFrame s fun t => t.events.quoinQ = s.events.quoinQ.drop 2 ∧ (t.port 1).out = [padTo (canLength (2 + ((s.events.quoinQ.take 2).flatMap Event.framed).length)) ([min 2 s.events.quoinQ.length, 0] ++ (s.events.quoinQ.take 2).flatMap Event.framed)])) ∧
    (∃ (s : State), (s.mode = .watch) ∧ (s.nat 0x104101 = 5) ∧ (Gives (.quoinWatchWake true) s fun t => t.nat 0x104101 = 2)) ∧
    (∃ (s : State), (s.quoinSleeps = true) ∧ (s.QuoinServes) ∧ (s.quoin.activeAt + s.nat 0x10400B * msTicks ≤ s.gnomon) ∧ (s.events.quoinQ = []) ∧ (s.pdoWaiting = []) ∧ ((s.port 1).transfer = none) ∧ (Gives .quoinIdle s fun t => t.nat 0x104101 = 5)) ∧
    (∃ (tec : _) (rec_ : _) (s : State), (s.QuoinServes) ∧ (255 < tec) ∧ (Gives (.busOff tec rec_) s fun t => t.nat 0x104101 = 4 ∧ t.nat 0x104105 = satAdd 32 (s.nat 0x104105) 1)) ∧
    (∃ (tec : _) (rec_ : _) (s : State), (s.QuoinServes) ∧ (tec ≤ 255) ∧ (rec_ ≤ 255) ∧ (Gives (.busOff tec rec_) s fun t => t.nat 0x104106 = tec ∧ t.nat 0x104107 = rec_ ∧ t.nat 0x104101 = if 127 < tec ∨ 127 < rec_ then 3 else 2)) ∧
    (∃ (s : State), (s.nat 0x104101 = 4) ∧ (Gives .busOffRecovery s fun t => t.nat 0x104101 = 2 ∧ t.nat 0x104106 = 0 ∧ t.nat 0x104107 = 0)) ∧
    (∃ (w : _) (ws : _) (s : State), (s.mesh.work = w :: ws) ∧ (w.kind = 5) ∧ (w.node < 512) ∧ ((s.node w.node).state ≠ 0) ∧ (s.serves (s.node w.node).ext = true) ∧ (8 ≤ w.body.length) ∧ (nthD w.body 0 0 = 1) ∧ (Gives .serviceRequest s fun t => t.mesh.work = ws ∧ t.link.frames.length = s.link.frames.length + 1 ∧ (t.link.frames.getLast?.map fun f => (f.purpose, f.node)) = some (.service, w.node))) :=
  ⟨⟨9, List.replicate 6 0, onBus, by decide, by decide, by decide, _, rfl, _, rfl, by decide, by decide⟩,
    ⟨3, ⟨false, 3, 0x821001, 2, [1, 2], 0, 0, 5⟩, onBus.setPort 4 { Port.init with transfer := some ⟨false, 3, 0x821001, 2, [1, 2], 0, 0, 5⟩ }, by decide, by decide, _, rfl, by decide, by decide⟩,
    ⟨{ onBus with events := { onBus.events with quoinQ := [anEvent 7] } }, by decide, _, rfl, by decide, by decide⟩,
    ⟨{ onBus.setNat 0x104101 5 with mode := .watch }, by decide, by decide, _, rfl, by decide⟩,
    ⟨{ onBus.setNat 0x10400A 0 with mode := .watch }, by decide, by decide, by decide, by decide, by decide, by decide, _, rfl, by decide⟩,
    ⟨256, 0, onBus, by decide, by decide, _, rfl, by decide, by decide⟩,
    ⟨255, 127, onBus, by decide, by decide, by decide, _, rfl, by decide, by decide, by decide⟩,
    ⟨onBus.setNat 0x104101 4, by decide, _, rfl, by decide, by decide, by decide⟩,
    ⟨{ aWork 5 (.short 7) 2 [1, 0, 0x30, 0x10, 3, 0, 0, 0] with origin := 7 }, [], ((withWork { aWork 5 (.short 7) 2 [1, 0, 0x30, 0x10, 3, 0, 0, 0] with origin := 7 }).setNode 2 { Node.init with state := 2, short := 7, ext := 77 }).setBytes 0x821001 (leNat 8 77), by decide, by decide, by decide, by decide, by decide, by decide, by decide, _, rfl, by decide, by decide, by decide⟩⟩

/-- Clauses of `Obligations.HostPortsComplete` have instances: the hypotheses hold together, and the conclusion with them. -/
theorem witness_HostPortsComplete_1 :
    (∃ (seq : _) (i : _) (j : _) (flags : _) (rest : _) (data : _) (pec : _) (s : State), (data = [1, seq] ++ leNat 2 i ++ [j, flags] ++ rest) ∧ (seq < 256) ∧ (i < 65536) ∧ (j < 256) ∧ (2 ≤ rest.length) ∧ (rest.length ≤ 249) ∧ ((pec = none ∧ s.nat 0x105002 ≠ 1) ∨ pec = some (s.requestPec data.length data)) ∧ (s.twoWireAcks = true) ∧ (s.portBusy 2 = false) ∧ (s.Unkept 2 seq) ∧ (s.Readable .twoWire (obj i j) 48) ∧ (obj i j ≠ 0x105101) ∧ (Gives (.twoWireRequest data.length data pec) s fun t => ∃ b, (t.port 2).kept = some (seq, b) ∧ (t.port 2).unread = (s.port 2).unread ++ [b] ∧ b.take 4 = [0x81, seq, 0, 0] ∧ b.drop 16 = s.readBytes (obj i j))) ∧
    (∃ (b : _) (rest : _) (s : State), (s.twoWireAcks = true) ∧ (s.mode ≠ .parked) ∧ ((s.port 2).unread = b :: rest) ∧ (b ≠ []) ∧ (Gives (.twoWireResponse true true) s fun t => (t.port 2).out = [b.length :: b ++ crc8 ([2 * s.nat 0x105001, 0x11, 2 * s.nat 0x105001 + 1] ++ b.length :: b)] ∧ (t.port 2).unread = rest ∧ (t.port 2).lastItem = b)) ∧
    (∃ (s : State), (s.twoWireAcks = true) ∧ (s.mode ≠ .parked) ∧ (Gives (.twoWireEvents true true) s fun t => t.events.twoWireQ = s.events.twoWireQ.drop 7 ∧ (t.port 2).lastEvents = eventBlock 7 s.events.twoWireQ)) ∧
    (∃ (b : _) (s : State), (s.twoWireAcks = true) ∧ (s.mode ≠ .parked) ∧ ((s.port 2).lastItem = b) ∧ (b ≠ []) ∧ (Gives (.twoWireResponseRepeat true) s fun t => (t.port 2).out = [b.length :: b ++ crc8 ([2 * s.nat 0x105001, 0x13, 2 * s.nat 0x105001 + 1] ++ b.length :: b)] ∧ (t.port 2).unread = (s.port 2).unread)) ∧
    (∃ (b : _) (s : State), (s.twoWireAcks = true) ∧ (s.mode ≠ .parked) ∧ ((s.port 2).lastEvents = b) ∧ (b ≠ []) ∧ (Gives (.twoWireEventsRepeat true) s fun t => (t.port 2).out = [b.length :: b ++ crc8 ([2 * s.nat 0x105001, 0x14, 2 * s.nat 0x105001 + 1] ++ b.length :: b)] ∧ t.events = s.events)) ∧
    (∃ (s : State), (s.twoWireAcks = true) ∧ (Gives .twoWireStatus s fun t => (t.port 2).out = [[s.portStatus 2]] ∧ (t.port 2).error = false ∧ (t.port 2).reset = false)) ∧
    (∃ (s : State), (s.twoWireUp = true) ∧ (Gives .sclTimeout s fun t => t.nat 0x105106 = satAdd 32 (s.nat 0x105106) 1)) ∧
    (∃ (s : State), (s.twoWireUp = true) ∧ (Gives (.busError 0) s fun t => (t.port 2).error = true ∧ t.nat 0x105103 = satAdd 32 (s.nat 0x105103) 1)) :=
  ⟨⟨255, 0x1030, 3, 0, [0, 0], [1, 255, 0x30, 0x10, 3, 0, 0, 0], none, full, by decide, by decide, by decide, by decide, by decide, by decide, by decide, by decide, by decide, by decide, by decide, by decide, _, rfl, _, rfl, by decide, by decide, by decide⟩,
    ⟨[9], [[8]], full.setPort 2 { Port.init with unread := [[9], [8]] }, by decide, by decide, by decide, by decide, _, rfl, by decide, by decide, by decide⟩,
    ⟨{ full with events := { full.events with twoWireQ := [anEvent 7] } }, by decide, by decide, _, rfl, by decide, by decide⟩,
    ⟨[9], full.setPort 2 { Port.init with lastItem := [9] }, by decide, by decide, by decide, by decide, _, rfl, by decide, by decide⟩,
    ⟨[0, 0], full.setPort 2 { Port.init with lastEvents := [0, 0] }, by decide, by decide, by decide, by decide, _, rfl, by decide, by decide⟩,
    ⟨full.setPort 2 { Port.init with error := true }, by decide, _, rfl, by decide, by decide, by decide⟩,
    ⟨full, by decide, _, rfl, by decide⟩,
    ⟨full, by decide, _, rfl, by decide, by decide⟩⟩

/-- Clauses of `Obligations.HostPortsComplete` have instances: the hypotheses hold together, and the conclusion with them. -/
theorem witness_HostPortsComplete_2 :
    (∃ (c : _) (s : State), (s.twoWireUp = true) ∧ (c ≠ 0) ∧ (Gives (.busError c) s fun t => t.nat 0x105105 = satAdd 32 (s.nat 0x105105) 1)) ∧
    (∃ (s : State), (s.ready = true) ∧ (s.twoWire.asleep = true) ∧ (s.mode = .watch) ∧ (Gives .targetWake s fun t => t.twoWire.asleep = false ∧ t.twoWire.wokenAt = some s.wall)) ∧
    (∃ (s : State), (s.ready = true) ∧ (s.twoWire.asleep = true) ∧ (s.mode = .parked) ∧ (bitOf (s.nat 0x760007) 2 = true) ∧ (s.power.waking = none) ∧ (Gives .targetWake s fun t => t.twoWire.asleep = false ∧ t.power.waking = some 2)) ∧
    (∃ (s : State), (s.mode = .watch) ∧ (s.twoWire.asleep = false) ∧ (s.twoWire.lastAt + s.nat 0x105006 * msTicks ≤ s.gnomon) ∧ (Gives .targetWakeIdle s fun t => t.twoWire.asleep = true)) ∧
    (∃ (s : State), (s.notifyDue = true) ∧ (Gives (.hostNotify true) s fun t => (t.port 2).out = [[2 * s.nat 0x105004, 2 * s.nat 0x105001, s.portStatus 2, s.nat 0x980006 % 256]] ∧ t.nat 0x105108 = satAdd 32 (s.nat 0x105108) 1 ∧ t.twoWire.since = s.gnomon)) ∧
    (∃ (a : _) (s : State), (s.notifyDue = true) ∧ (Gives (.arbitrationLost a) s fun t => t.nat 0x105107 = satAdd 32 (s.nat 0x105107) 1 ∧ (t.port 2).out = [])) ∧
    (∃ (quad : _) (seq : _) (i : _) (j : _) (flags : _) (rest : _) (data : _) (s : State), (data = [1, seq] ++ leNat 2 i ++ [j, flags] ++ rest) ∧ (quad ≤ 1) ∧ (seq < 256) ∧ (i < 65536) ∧ (j < 256) ∧ (2 ≤ rest.length) ∧ (rest.length ≤ 1022) ∧ (s.spiPowered = true) ∧ (s.portReady = true) ∧ ((s.port 3).responses < 8) ∧ (s.Unkept 3 seq) ∧ (s.Readable .spi (obj i j) 224) ∧ (obj i j ≠ 0x106101) ∧ (Gives (.spiRequest quad data.length (crcOf 2 ((16 * quad + 1) :: leNat 2 data.length)) (data ++ crc8 data)) s fun t => ∃ b, (t.port 3).kept = some (seq, b) ∧ (t.port 3).unread = (s.port 3).unread ++ [b] ∧ (t.port 3).out = [[s.portStatus 3]] ∧ b.take 4 = [0x81, seq, 0, 0] ∧ b.drop 16 = s.readBytes (obj i j))) ∧
    (∃ (quad : _) (n : _) (b : _) (rest : _) (s : State), (quad ≤ 1) ∧ (s.spiPowered = true) ∧ (s.portReady = true) ∧ ((s.port 3).unread = b :: rest) ∧ (b.length ≤ n) ∧ (n ≤ 1028) ∧ (Gives (.spiResponse quad n (crcOf 2 ((16 * quad + 2) :: leNat 2 n)) true) s fun t => (t.port 3).unread = rest ∧ (t.port 3).lastItem = b ∧ (t.port 3).out = [[s.portStatus 3], leNat 2 b.length ++ b ++ crc8 (leNat 2 b.length ++ b)])) :=
  ⟨⟨2, full, by decide, by decide, _, rfl, by decide⟩,
    ⟨{ full with mode := .watch, twoWire := { full.twoWire with asleep := true } }, by decide, by decide, by decide, _, rfl, by decide, by decide⟩,
    ⟨{ full.setNat 0x760007 4 with mode := .parked, twoWire := { full.twoWire with asleep := true } }, by decide, by decide, by decide, by decide, by decide, _, rfl, by decide, by decide⟩,
    ⟨{ full with mode := .watch }, by decide, by decide, by decide, _, rfl, by decide⟩,
    ⟨(full.setNat 0x105003 1).setPort 2 { Port.init with unread := [[9]] }, by decide, _, rfl, by decide, by decide, by decide⟩,
    ⟨true, (full.setNat 0x105003 1).setPort 2 { Port.init with unread := [[9]] }, by decide, _, rfl, by decide, by decide⟩,
    ⟨1, 255, 0x1030, 3, 0, [0, 0], [1, 255, 0x30, 0x10, 3, 0, 0, 0], full, by decide, by decide, by decide, by decide, by decide, by decide, by decide, by decide, by decide, by decide, by decide, by decide, by decide, _, rfl, _, rfl, by decide, by decide, by decide, by decide⟩,
    ⟨1, 1028, [9], [], full.setPort 3 { Port.init with unread := [[9]] }, by decide, by decide, by decide, by decide, by decide, by decide, _, rfl, by decide, by decide, by decide⟩⟩

/-- Clauses of `Obligations.HostPortsComplete` have instances: the hypotheses hold together, and the conclusion with them. -/
theorem witness_HostPortsComplete_3 :
    (∃ (quad : _) (n : _) (b : _) (s : State), (quad ≤ 1) ∧ (s.spiPowered = true) ∧ (s.portReady = true) ∧ (eventBlock (spiEvents n) s.events.spiQ = b) ∧ (b.length ≤ n) ∧ (n ≤ 1028) ∧ (Gives (.spiEvents quad n (crcOf 2 ((16 * quad + 3) :: leNat 2 n)) true) s fun t => (t.port 3).lastEvents = b ∧ t.events.spiQ = s.events.spiQ.drop (nthD b 0 0) ∧ (t.port 3).out = [[s.portStatus 3], leNat 2 b.length ++ b ++ crc8 (leNat 2 b.length ++ b)])) ∧
    (∃ (quad : _) (n : _) (b : _) (s : State), (quad ≤ 1) ∧ (s.spiPowered = true) ∧ (s.portReady = true) ∧ ((s.port 3).lastItem = b) ∧ (b.length ≤ n) ∧ (n ≤ 1028) ∧ (Gives (.spiResponseRepeat quad n (crcOf 2 ((16 * quad + 4) :: leNat 2 n))) s fun t => (t.port 3).unread = (s.port 3).unread ∧ (t.port 3).out = [[s.portStatus 3], leNat 2 b.length ++ b ++ crc8 (leNat 2 b.length ++ b)])) ∧
    (∃ (quad : _) (n : _) (b : _) (s : State), (quad ≤ 1) ∧ (s.spiPowered = true) ∧ (s.portReady = true) ∧ ((s.port 3).lastEvents = b) ∧ (b.length ≤ n) ∧ (n ≤ 1028) ∧ (Gives (.spiEventsRepeat quad n (crcOf 2 ((16 * quad + 5) :: leNat 2 n))) s fun t => t.events = s.events ∧ (t.port 3).out = [[s.portStatus 3], leNat 2 b.length ++ b ++ crc8 (leNat 2 b.length ++ b)])) ∧
    (∃ (s : State), (s.spiPowered = true) ∧ (Gives .statusPoll s fun t => (t.port 3).out = [[s.portStatus 3]] ∧ (t.port 3).error = false ∧ (t.port 3).reset = false)) ∧
    (∃ (n : _) (c : _) (r : _) (k : _) (s : State), (s.tapServes = true) ∧ (s.debugLevel ≠ 0) ∧ (Gives (.dbgAccess 0 n c r k) s fun t => t.sec.tap = 0x23 ∧ (t.port 4).out = [[s.portStatus 4]])) ∧
    (∃ (quad : _) (n : _) (r : _) (b : _) (rest : _) (s : State), (quad ≤ 1) ∧ (s.tapServes = true) ∧ (s.debugLevel ≠ 0) ∧ ((s.port 4).unread = b :: rest) ∧ (b.length ≤ n) ∧ (n ≤ 1028) ∧ (Gives (.dbgAccess (16 * quad + 2) n (crcOf 2 ((16 * quad + 2) :: leNat 2 n)) r true) s fun t => (t.port 4).unread = rest ∧ (t.port 4).out = [[s.portStatus 4], leNat 2 b.length ++ b ++ crc8 (leNat 2 b.length ++ b)])) ∧
    (∃ (flags : _) (n : _) (c : _) (r : _) (s : State), (s.spiPowered = true) ∧ (s.portReady = true) ∧ (headerGood (16 * flags + 1) n c = false) ∧ (Gives (.spiRequest flags n c r) s fun t => (t.port 3).error = true ∧ (t.port 3).unread = (s.port 3).unread ∧ t.nat 0x106103 = satAdd 32 (s.nat 0x106103) 1)) :=
  ⟨⟨0, 34, [1, 0] ++ (anEvent 7).encode, { full with events := { full.events with spiQ := [anEvent 7, anEvent 8] } }, by decide, by decide, by decide, by decide, by decide, by decide, _, rfl, by decide, by decide, by decide⟩,
    ⟨1, 1, [9], full.setPort 3 { Port.init with lastItem := [9] }, by decide, by decide, by decide, by decide, by decide, by decide, _, rfl, by decide, by decide⟩,
    ⟨0, 2, [0, 0], full.setPort 3 { Port.init with lastEvents := [0, 0] }, by decide, by decide, by decide, by decide, by decide, by decide, _, rfl, by decide, by decide⟩,
    ⟨full, by decide, _, rfl, by decide, by decide, by decide⟩,
    ⟨1028, 256, [], true, full.setNat 0x830001 1, by decide, by decide, _, rfl, by decide, by decide⟩,
    ⟨1, 1, [], [9], [], (full.setNat 0x830001 1).setPort 4 { Port.init with unread := [[9]] }, by decide, by decide, by decide, by decide, by decide, by decide, _, rfl, by decide, by decide⟩,
    ⟨2, 8, 0, [], full, by decide, by decide, by decide, _, rfl, by decide, by decide, by decide⟩⟩

/-- Clauses of `Obligations.RfFrame` have instances: the hypotheses hold together, and the conclusion with them. -/
theorem witness_RfFrame :
    (∃ (c : _) (s : State) (t : _), ((c matches .agcWindowEnd .. | .agcReleaseStep .. | .lnaTrip .. | .amAttenuationStep .. | .antennaShort .. | .antennaCurrentJudge .. | .antennaRetry ..)) ∧ (c.wellFormed = true) ∧ (exec c s = .next t)) ∧
    (∃ (c : _) (s : State) (t : _), ((c matches .manualGrWrite .. | .agcModeWrite .. | .overloadFlagsClear .. | .antennaRestore ..)) ∧ (c.wellFormed = true) ∧ (exec c s = .next t)) ∧
    (∃ (c : _) (s : State) (t : _), ((c matches .plumbBlank .. | .plumbTrimChange .. | .plumbBlankEnd .. | .sampleClockUnlock .. | .plumbWindowEnd .. | .plumbProposalReady .. | .plumbPostCheck .. | .plumbProtectedLost .. | .estimatorWindowStart ..)) ∧ (c.wellFormed = true) ∧ (exec c s = .next t)) ∧
    (∃ (c : _) (s : State) (t : _), ((c matches .plumbRunCycle .. | .plumbRestoreKept .. | .plumbLoadFactory .. | .plumbApplyStaged .. | .plumbBlankTestStart .. | .plumbBlankTestStop .. | .plumbModeWrite ..)) ∧ (c.wellFormed = true) ∧ (exec c s = .next t)) :=
  ⟨⟨(.antennaCurrentJudge (0) (List.replicate 100 512)), live, _, by decide, by decide, rfl⟩,
    ⟨(.antennaRestore (.twoWire) (0) (1)), live.setNat 0x301007 5, _, by decide, by decide, rfl⟩,
    ⟨(.plumbProtectedLost (1)), full, _, by decide, by decide, rfl⟩,
    ⟨(.plumbRunCycle (.mgmt) (0)), full.setNat 0x300001 2, _, by decide, by decide, rfl⟩⟩

/-- Clauses of `Obligations.ChainFrame` have instances: the hypotheses hold together, and the conclusion with them. -/
theorem witness_ChainFrame :
    (∃ (c : _) (s : State) (t : _), ((c matches .fadeEnd .. | .detectorBlockEnd .. | .captureTrigger .. | .captureComplete .. | .chainRetune .. | .antennaSwitch ..)) ∧ (c.wellFormed = true) ∧ (exec c s = .next t)) ∧
    (∃ (c : _) (s : State) (t : _), ((c matches .responseSelect .. | .fadeReverse .. | .dcFreezeWrite .. | .saturationClear .. | .detectorSettingWrite ..)) ∧ (c.wellFormed = true) ∧ (exec c s = .next t)) ∧
    (∃ (c : _) (s : State) (t : _), ((c matches .captureArm .. | .captureTriggerNow .. | .captureAbort .. | .captureFree ..)) ∧ (c.wellFormed = true) ∧ (exec c s = .next t)) ∧
    (∃ (c : _) (s : State) (t : _), ((c matches .sampleClockRelock .. | .chainBlockOut .. | .engineRestoreEnd ..)) ∧ (c.wellFormed = true) ∧ (exec c s = .next t)) ∧
    (∃ (c : _) (s : State) (t : _), ((c matches .engineLoadComplete .. | .engineFault .. | .engineWatchdog .. | .engineRestartReload .. | .acceleratorJobSubmit .. | .acceleratorJobComplete .. | .acceleratorTimeout .. | .acceleratorMemoryError ..)) ∧ (c.wellFormed = true) ∧ (exec c s = .next t)) ∧
    (∃ (c : _) (s : State) (t : _), ((c matches .acceleratorWaitClear .. | .peakCycleLoadClear ..)) ∧ (c.wellFormed = true) ∧ (exec c s = .next t)) :=
  ⟨⟨(.fadeEnd (24)), full.setChain 24 { Chain.init with fade := some ⟨0, 3, 9, 0, 5, false⟩ }, _, by decide, by decide, rfl⟩,
    ⟨(.dcFreezeWrite (.mgmt) (31) (1)), full, _, by decide, by decide, rfl⟩,
    ⟨(.captureFree (.mgmt) (1)), full.setNat (cap 1 6) 3, _, by decide, by decide, rfl⟩,
    ⟨.sampleClockRelock, full.setNat 0x300001 3, _, by decide, by decide, rfl⟩,
    ⟨(.acceleratorMemoryError (0)), full, _, by decide, by decide, rfl⟩,
    ⟨(.peakCycleLoadClear (.mgmt) (3) 0), full.setNat (ek 3 9) 8, _, by decide, by decide, rfl⟩⟩

/-- Clauses of `Obligations.BroadcastFrame` have instances: the hypotheses hold together, and the conclusion with them. -/
theorem witness_BroadcastFrame :
    (∃ (c : _) (s : State) (t : _), ((c matches .fmControlUpdate .. | .fmMetricsPublish .. | .pilotDetected .. | .pilotLost .. | .fmBandwidthJudge .. | .diversityEstimate .. | .diversitySelect .. | .inputBAbsent .. | .fmBlockProcess .. | .rdsSyncGained .. | .rdsSyncLost .. | .rdsGroup .. | .tmcGroup .. | .tmcIncompleteTimeout ..)) ∧ (c.wellFormed = true) ∧ (exec c s = .next t)) ∧
    (∃ (c : _) (s : State) (t : _), ((c matches .lanternConfirmation .. | .entryExpiry .. | .lanternFieldUpdate .. | .lanternEventMerge .. | .lanternRawGroup .. | .lanternPeriodEnd ..)) ∧ (c.wellFormed = true) ∧ (exec c s = .next t)) ∧
    (∃ (c : _) (s : State) (t : _), ((c matches .lanternMemoryError ..)) ∧ (c.wellFormed = true) ∧ (exec c s = .next t)) ∧
    (∃ (c : _) (s : State) (t : _), ((c matches .lanternClearDatabase .. | .lanternClearAf .. | .queryPi ..)) ∧ (c.wellFormed = true) ∧ (exec c s = .next t)) :=
  ⟨⟨(.inputBAbsent (0)), feed 4 0 (feed 3 0 (fmOn 0)), _, by decide, by decide, rfl⟩,
    ⟨(.lanternPeriodEnd (⟨0, []⟩)), lanternOn 4 7, _, by decide, by decide, rfl⟩,
    ⟨.lanternMemoryError, lanternOn 4 7, _, by decide, by decide, rfl⟩,
    ⟨(.queryPi (.spi) (0xFFFF)), lanternOn 4 7, _, by decide, by decide, rfl⟩⟩

/-- Clauses of `Obligations.DabFrame` have instances: the hypotheses hold together, and the conclusion with them. -/
theorem witness_DabFrame :
    (∃ (c : _) (s : State) (t : _), ((c matches .dabNullFound .. | .dabPrsCorrelate .. | .dabFicAcquired .. | .dabAcquisitionFail .. | .dabSyncRegained .. | .dabNullReport .. | .dabCifDecode .. | .dabReconfiguration .. | .dabFigDecode .. | .dabSiCompleteTimeout .. | .dabServiceSelect .. | .dabAccessUnit .. | .dabPacketGroup .. | .announcementStart .. | .announcementEnd .. | .dabFrameEnd ..)) ∧ (c.wellFormed = true) ∧ (exec c s = .next t)) ∧
    (∃ (c : _) (s : State) (t : _), ((c matches .dabSyncLost .. | .dabLostTimeout ..)) ∧ (c.wellFormed = true) ∧ (exec c s = .next t)) :=
  ⟨⟨(.dabNullFound (0)), dabOn 0 1, _, by decide, by decide, rfl⟩,
    ⟨(.dabSyncLost (3)), (dabOn 3 4).setNat (dk 3 3) 9, _, by decide, by decide, rfl⟩⟩

/-- Clauses of `Obligations.AmDrmFrame` have instances: the hypotheses hold together, and the conclusion with them. -/
theorem witness_AmDrmFrame :
    (∃ (c : _) (s : State) (t : _), ((c matches .amPlllockChange .. | .amBandwidthJudge .. | .amMetricsPublish .. | .noiseBlankerSuspend .. | .amBlockProcess .. | .drmModeFound .. | .drmFrameSync .. | .drmFacAcquired .. | .drmSyncLost .. | .drmLostTimeout .. | .drmAcquisitionFail .. | .drmMscFrame .. | .drmSdcDecode .. | .drmScheduleEval .. | .drmServiceSelect .. | .drmTextMessage ..)) ∧ (c.wellFormed = true) ∧ (exec c s = .next t)) :=
  ⟨(.drmLostTimeout (2)), drmOn 2 5, _, by decide, by decide, rfl⟩

/-- Clauses of `Obligations.FollowFrame` have instances: the hypotheses hold together, and the conclusion with them. -/
theorem witness_FollowFrame :
    (∃ (c : _) (s : State) (t : _), ((c matches .candidateListUpdate .. | .candidateAgeOut .. | .identityChange .. | .afCheck .. | .switchRequest .. | .landing .. | .landingTimeout .. | .blendBackReverse .. | .blendFadeEnd .. | .lagEstimate .. | .eqFadeEnd .. | .tonalMatchUpdate .. | .blendOutputFrame ..)) ∧ (c.wellFormed = true) ∧ (exec c s = .next t)) ∧
    (∃ (c : _) (s : State) (t : _), ((c matches .ensembleCheck ..)) ∧ (c.wellFormed = true) ∧ (exec c s = .next t)) ∧
    (∃ (c : _) (s : State) (t : _), ((c matches .gloamingEnable .. | .gloamingDisable .. | .slotSourceWrite .. | .blendTarget .. | .blendFadeReverse .. | .eqSelect ..)) ∧ (c.wellFormed = true) ∧ (exec c s = .next t)) :=
  ⟨⟨.identityChange, blendOn, _, by decide, by decide, rfl⟩,
    ⟨(.ensembleCheck (225000)), { blendOn with following := { Following.init with check := some ⟨225000, 9, []⟩ } }, _, by decide, by decide, rfl⟩,
    ⟨(.gloamingEnable (.mgmt)), full, _, by decide, by decide, rfl⟩⟩

/-- Clauses of `Obligations.AudioFrame` have instances: the hypotheses hold together, and the conclusion with them. -/
theorem witness_AudioFrame :
    (∃ (c : _) (s : State) (t : _), ((c matches .portGroupStart .. | .streamIdentify .. | .rateThreshold .. | .streamSoloStart .. | .rateLoopUpdate .. | .streamFrameProduce .. | .postRoll .. | .postRollEnd .. | .underrun .. | .reEntry .. | .clockLost .. | .clockReturn .. | .glitch .. | .rateChange .. | .groupMemberRemoved .. | .userDataPacket .. | .frameStartEdge ..)) ∧ (c.wellFormed = true) ∧ (exec c s = .next t)) ∧
    (∃ (c : _) (s : State) (t : _), ((c matches .pairSourceWrite .. | .audioFlagsClear .. | .channelStatusWrite ..)) ∧ (c.wellFormed = true) ∧ (exec c s = .next t)) :=
  ⟨⟨(.glitch (3)), stream 3 3, _, by decide, by decide, rfl⟩,
    ⟨(.channelStatusWrite (.mgmt) (List.replicate 24 4)), full, _, by decide, by decide, rfl⟩⟩

/-- Clauses of `Obligations.MeshFrame` have instances: the hypotheses hold together, and the conclusion with them. -/
theorem witness_MeshFrame :
    (∃ (c : _) (s : State) (t : _), ((c matches .radioTransition .. | .synthUnlock .. | .calibrationStart .. | .calibrationComplete .. | .calibrationAbort .. | .calibrationOverdue .. | .narrowbandFrame .. | .tapCopy .. | .preambleDetected .. | .glimmerWord .. | .spuriousWake .. | .matchModeReset ..)) ∧ (c.wellFormed = true) ∧ (exec c s = .next t)) ∧
    (∃ (c : _) (s : State) (t : _), ((c matches .wakeRequest .. | .radioTest ..)) ∧ (c.wellFormed = true) ∧ (exec c s = .next t)) ∧
    (∃ (c : _) (s : State) (t : _), ((c matches .meshTx .. | .linkFrameReceive .. | .ackWaitExpiry .. | .ackReceive .. | .immediateFrame .. | .backoffExpiry .. | .ccaEnd .. | .scheduledFrame .. | .frameRetry .. | .frameCounterRecord ..)) ∧ (c.wellFormed = true) ∧ (exec c s = .next t)) ∧
    (∃ (c : _) (s : State) (t : _), ((c matches .copySelectionEnd .. | .ackSend .. | .transmitReport .. | .joinRequest .. | .joinResponse .. | .readings .. | .voussoirFrame .. | .rendezvous .. | .rendezvousMiss .. | .wakeTrain .. | .wakeTrainRetry .. | .phaseGate .. | .downlinkExpiry .. | .joiningCountdown .. | .nodeCounterRecord ..)) ∧ (c.wellFormed = true) ∧ (exec c s = .next t)) ∧
    (∃ (c : _) (s : State) (t : _), ((c matches .leave .. | .absentTimeout ..)) ∧ (c.wellFormed = true) ∧ (exec c s = .next t)) ∧
    (∃ (c : _) (s : State) (t : _), ((c matches .downlink .. | .nodeRemove ..)) ∧ (c.wellFormed = true) ∧ (exec c s = .next t)) :=
  ⟨⟨(.calibrationOverdue (0)), meshOn, _, by decide, by decide, rfl⟩,
    ⟨(.wakeRequest (.mgmt) (leNat 2 (0x1234) ++ leNat 2 (7) ++ [(3), (1), (79), 0])), meshOn, _, by decide, by decide, rfl⟩,
    ⟨.frameCounterRecord, meshOn.setNat 0x602401 70000, _, by decide, by decide, rfl⟩,
    ⟨(.rendezvous (4)), meshOn.setNode 4 sleepy, _, by decide, by decide, rfl⟩,
    ⟨(.absentTimeout (4)), (meshOn.setNat 0x603008 60).setNode 4 sleepy, _, by decide, by decide, rfl⟩,
    ⟨(.nodeRemove (.mgmt) ([1] ++ leNat 2 (7) ++ [0, 0, 0, 0, 0])), meshOn.setNode 4 sleepy, _, by decide, by decide, rfl⟩⟩

/-- Clauses of `Obligations.UnitsFrame` have instances: the hypotheses hold together, and the conclusion with them. -/
theorem witness_UnitsFrame :
    (∃ (c : _) (s : State) (t : _), ((c matches .claim .. | .claimAcceleratorShares .. | .configure .. | .courseConfigure .. | .start .. | .hold .. | .resume .. | .release .. | .releaseAcceleratorShares .. | .engineZeroingComplete ..)) ∧ (c.wellFormed = true) ∧ (exec c s = .next t)) ∧
    (∃ (c : _) (s : State) (t : _), ((c matches .launchStartFiring .. | .courseLeafPrepare .. | .launchHoldFiring .. | .courseRankHeld .. | .launchResumeFiring ..)) ∧ (c.wellFormed = true) ∧ (exec c s = .next t)) ∧
    (∃ (c : _) (s : State) (t : _), ((c matches .launchPlace .. | .launchCancel ..)) ∧ (c.wellFormed = true) ∧ (exec c s = .next t)) ∧
    (∃ (c : _) (s : State) (t : _), ((c matches .gpioChange .. | .tbSyncPulse .. | .tbSyncCheck ..)) ∧ (c.wellFormed = true) ∧ (exec c s = .next t)) ∧
    (∃ (c : _) (s : State) (t : _), ((c matches .tbSyncFollowerLoad ..)) ∧ (c.wellFormed = true) ∧ (exec c s = .next t)) ∧
    (∃ (c : _) (s : State) (t : _), ((c matches .lockGroupWrite .. | .clkOutEnableWrite ..)) ∧ (c.wellFormed = true) ∧ (exec c s = .next t)) :=
  ⟨⟨(.claim (.mgmt) (0x118) false 0), full, _, by decide, by decide, rfl⟩,
    ⟨(.courseRankHeld (0x105)), { full.setUStateQuiet 0x105 2 with holdings := [⟨0x105, [[0x105]], [], 2, 0, none⟩] }, _, by decide, by decide, rfl⟩,
    ⟨(.launchPlace (.mgmt) (0) (0) (9) (0) (0) (0) (0) ([1, 1])), full, _, by decide, by decide, rfl⟩,
    ⟨(.gpioChange (3)), (full.setNat 0x770001 1).setEntry 3 (some (aEntry 9 0 [1, 1])), _, by decide, by decide, rfl⟩,
    ⟨.tbSyncFollowerLoad, full.setNat 0x200201 2, _, by decide, by decide, rfl⟩,
    ⟨(.clkOutEnableWrite (.mgmt) (1)), full, _, by decide, by decide, rfl⟩⟩

/-- Clauses of `Obligations.PortsFrame` have instances: the hypotheses hold together, and the conclusion with them. -/
theorem witness_PortsFrame_1 :
    (∃ (c : _) (s : State) (t : _), ((c matches .twoWireResponse .. | .twoWireEvents .. | .twoWireResponseRepeat .. | .twoWireEventsRepeat .. | .twoWireStatus .. | .sclTimeout .. | .busError .. | .targetWakeIdle .. | .hostNotify .. | .arbitrationLost .. | .statusPoll .. | .transferTimeout .. | .eventFrame .. | .quoinWatchWake .. | .quoinIdle .. | .busOffRecovery .. | .busOff .. | .pdoPeriodic .. | .pdoChange ..)) ∧ (c.wellFormed = true) ∧ (exec c s = .next t)) ∧
    (∃ (c : _) (s : State) (t : _), ((c matches .targetWake ..)) ∧ (c.wellFormed = true) ∧ (exec c s = .next t)) ∧
    (∃ (c : _) (s : State) (t : _), ((c matches .spiResponse .. | .spiEvents .. | .spiResponseRepeat .. | .spiEventsRepeat ..)) ∧ (c.wellFormed = true) ∧ (exec c s = .next t)) ∧
    (∃ (c : _) (s : State) (t : _), ((c matches .quoinRead ..)) ∧ (c.wellFormed = true) ∧ (exec c s = .next t)) ∧
    (∃ (c : _) (s : State) (t : _), ((c matches .initiateRead ..)) ∧ (c.wellFormed = true) ∧ (exec c s = .next t)) ∧
    (∃ (c : _) (s : State) (t : _), ((c matches .initiateWrite ..)) ∧ (c.wellFormed = true) ∧ (exec c s = .next t)) :=
  ⟨⟨.sclTimeout, full, _, by decide, by decide, rfl⟩,
    ⟨.targetWake, { full with mode := .watch, twoWire := { full.twoWire with asleep := true } }, _, by decide, by decide, rfl⟩,
    ⟨(.spiResponseRepeat 0 1 (crcOf 2 [4, 1, 0])), full.setPort 3 { Port.init with lastItem := [9] }, _, by decide, by decide, rfl⟩,
    ⟨(.quoinRead true (255) (leNat 2 (0x1030) ++ [(3), (0)] ++ ([0, 0]))), onBus, _, by decide, by decide, rfl⟩,
    ⟨(.initiateRead true (0) (leNat 2 (0x1030) ++ [(3), (0)] ++ ([0, 0]))), onBus, _, by decide, by decide, rfl⟩,
    ⟨(.initiateWrite true (0) (leNat 2 (0x1030) ++ [(3), (0), 0, 0] ++ leNat 4 (2) ++ ([]))), onBus.setNat 0x103001 1, _, by decide, by decide, rfl⟩⟩

/-- Clauses of `Obligations.PortsFrame` have instances: the hypotheses hold together, and the conclusion with them. -/
theorem witness_PortsFrame_2 :
    (∃ (c : _) (s : State) (t : _), ((c matches .blockRequest .. | .segment .. | .abortTransfer .. | .syncRequest ..)) ∧ (c.wellFormed = true) ∧ (exec c s = .next t)) ∧
    (∃ (c : _) (s : State) (t : _), ((c matches .quoinWrite .. | .endTransfer .. | .twoWireRequest .. | .spiRequest .. | .dbgAccess .. | .objectWrite .. | .serviceRequest ..)) ∧ (c.wellFormed = true) ∧ (exec c s = .next t)) ∧
    (∃ (c : _) (s : State) (t : _), ((c matches .contextSwitch .. | .contextRestore ..)) ∧ (c.wellFormed = true) ∧ (exec c s = .next t)) ∧
    (∃ (c : _) (s : State) (t : _), ((c matches .hostJob ..)) ∧ (c.wellFormed = true) ∧ (exec c s = .next t)) ∧
    (∃ (c : _) (s : State) (t : _), ((c matches .ringRead .. | .fifoRead .. | .fifoRepeatRead ..)) ∧ (c.wellFormed = true) ∧ (exec c s = .next t)) :=
  ⟨⟨(.syncRequest true (9) (List.replicate 6 0)), onBus, _, by decide, by decide, rfl⟩,
    ⟨(.spiRequest (2) (8) (0) ([])), full, _, by decide, by decide, rfl⟩,
    ⟨(.contextSwitch (1) (18) ([2]) ([1, 2])), full, _, by decide, by decide, rfl⟩,
    ⟨(.hostJob (.mgmt) ([2, 0, 0, 0, 0, 0, 0, 0, 0, 0, 0, 0, 0, 0, 0, 0, 1, 2, 3])), full, _, by decide, by decide, rfl⟩,
    ⟨(.fifoRead (.mgmt) (0x6040) (3) (2)), full.setFifo 0x604003 { Fifo.init with recs := [[1, 2], [3, 4]] }, _, by decide, by decide, rfl⟩⟩

/-- Clauses of `Obligations.DictionaryFrame` have instances: the hypotheses hold together, and the conclusion with them. -/
theorem witness_DictionaryFrame :
    (∃ (c : _) (s : State) (t : _), ((c matches .store .. | .storeComplete .. | .storeErase .. | .tokenTake .. | .tokenRelease .. | .tokenHandover .. | .tokenTimeout ..)) ∧ (c.wellFormed = true) ∧ (exec c s = .next t)) ∧
    (∃ (c : _) (s : State) (t : _), ((c matches .historyQuery ..)) ∧ (c.wellFormed = true) ∧ (exec c s = .next t)) ∧
    (∃ (c : _) (s : State) (t : _), ((c matches .quoinApply ..)) ∧ (c.wellFormed = true) ∧ (exec c s = .next t)) ∧
    (∃ (c : _) (s : State) (t : _), ((c matches .pdoEnable ..)) ∧ (c.wellFormed = true) ∧ (exec c s = .next t)) :=
  ⟨⟨(.store (.mgmt)), full, _, by decide, by decide, rfl⟩,
    ⟨(.historyQuery (.mgmt) (7)), { full.setNat 0x980006 8 with events := { full.events with history := [anEvent 7] } }, _, by decide, by decide, rfl⟩,
    ⟨(.quoinApply (.mgmt)), full.setNat 0x104002 0x100, _, by decide, by decide, rfl⟩,
    ⟨(.pdoEnable (.mgmt) (15)), ((full.setNat (obj 0x910F 1) 1).setNat (obj 0x910F 2) (0x200201 * 256 + 1)).setNat (pk 15 2) 0x100, _, by decide, by decide, rfl⟩⟩

/-- Clauses of `Obligations.ManagementFrame` have instances: the hypotheses hold together, and the conclusion with them. -/
theorem witness_ManagementFrame :
    (∃ (c : _) (s : State) (t : _), ((c matches .logQuery ..)) ∧ (c.wellFormed = true) ∧ (exec c s = .next t)) ∧
    (∃ (c : _) (s : State) (t : _), ((c matches .logFlush ..)) ∧ (c.wellFormed = true) ∧ (exec c s = .next t)) ∧
    (∃ (c : _) (s : State) (t : _), ((c matches .gpioWrite ..)) ∧ (c.wellFormed = true) ∧ (exec c s = .next t)) ∧
    (∃ (c : _) (s : State) (t : _), ((c matches .tapEnableWrite ..)) ∧ (c.wellFormed = true) ∧ (exec c s = .next t)) ∧
    (∃ (c : _) (s : State) (t : _), ((c matches .updateBegin .. | .eraseComplete .. | .updateChunk .. | .updateFinish .. | .updateActivate .. | .updateCancel .. | .updateConfirm ..)) ∧ (c.wellFormed = true) ∧ (exec c s = .next t)) ∧
    (∃ (c : _) (s : State) (t : _), ((c matches .temperatureCrossing .. | .clockMonitorFault .. | .safeEntry ..)) ∧ (c.wellFormed = true) ∧ (exec c s = .next t)) :=
  ⟨⟨(.logQuery (.mgmt) (1)), { full with log := { full.log with sram := [⟨1, 5, 1, 23, 12, 1⟩], oldestAt := 5 } }, _, by decide, by decide, rfl⟩,
    ⟨(.logFlush false), { full with log := { full.log with sram := [⟨1, 5, 1, 23, 12, 1⟩], oldestAt := 5 } }, _, by decide, by decide, rfl⟩,
    ⟨(.gpioWrite (.mgmt) (1) (5)), full, _, by decide, by decide, rfl⟩,
    ⟨(.tapEnableWrite (.mgmt) (1)), { late with mode := .watch }, _, by decide, by decide, rfl⟩,
    ⟨.eraseComplete, full.setNat 0x720002 1, _, by decide, by decide, rfl⟩,
    ⟨(.clockMonitorFault 1 (2000) true), full, _, by decide, by decide, rfl⟩⟩

/-- Clauses of `Obligations.PowerFrame` have instances: the hypotheses hold together, and the conclusion with them. -/
theorem witness_PowerFrame :
    (∃ (c : _) (s : State) (t : _), ((c matches .wake .. | .wakeFailure .. | .wakeOutEnd ..)) ∧ (c.wellFormed = true) ∧ (exec c s = .next t)) ∧
    (∃ (c : _) (s : State) (t : _), ((c matches .modeRequest .. | .transitionHoldEnd .. | .wakeInWatch ..)) ∧ (c.wellFormed = true) ∧ (exec c s = .next t)) ∧
    (∃ (c : _) (s : State) (t : _), ((c matches .transitionComplete .. | .parkedEntry ..)) ∧ (c.wellFormed = true) ∧ (exec c s = .next t)) ∧
    (∃ (c : _) (s : State) (t : _), ((c matches .pathPowerUp ..)) ∧ (c.wellFormed = true) ∧ (exec c s = .next t)) ∧
    (∃ (c : _) (s : State) (t : _), ((c matches .bringUp ..)) ∧ (c.wellFormed = true) ∧ (exec c s = .next t)) :=
  ⟨⟨.wakeOutEnd, { full with power := { full.power with left := some 5 } }, _, by decide, by decide, rfl⟩,
    ⟨(.modeRequest (.mgmt) (5)), full, _, by decide, by decide, rfl⟩,
    ⟨.parkedEntry, { full with power := { full.power with transition := some ⟨.full, .parked, 1, false, 5⟩ } }, _, by decide, by decide, rfl⟩,
    ⟨(.pathPowerUp (7)), { live with power := { live.power with transition := some ⟨.listen, .full, 1, false, 5⟩ } }, _, by decide, by decide, rfl⟩,
    ⟨(.bringUp (true) (true) (true) (true) ([250]) ([800])), State.reset, _, by decide, by decide, rfl⟩⟩

/-- Clauses of `Obligations.SecurityFrame` have instances: the hypotheses hold together, and the conclusion with them. -/
theorem witness_SecurityFrame :
    (∃ (c : _) (s : State) (t : _), ((c matches .stepToSecured .. | .challengeRequest .. | .challengeExpiry .. | .keySlotErase .. | .lowerLevel ..)) ∧ (c.wellFormed = true) ∧ (exec c s = .next t)) ∧
    (∃ (c : _) (s : State) (t : _), ((c matches .keySlotWrite ..)) ∧ (c.wellFormed = true) ∧ (exec c s = .next t)) ∧
    (∃ (c : _) (s : State) (t : _), ((c matches .stepToReturned .. | .revokeSlot ..)) ∧ (c.wellFormed = true) ∧ (exec c s = .next t)) ∧
    (∃ (c : _) (s : State) (t : _), ((c matches .idcode .. | .dbgStatus .. | .samplePreload .. | .bypass .. | .dbgChallenge .. | .dbgResponse .. | .coreDebug ..)) ∧ (c.wellFormed = true) ∧ (exec c s = .next t)) ∧
    (∃ (c : _) (s : State) (t : _), ((c matches .accessViolation .. | .extest .. | .clamp .. | .highz ..)) ∧ (c.wellFormed = true) ∧ (exec c s = .next t)) :=
  ⟨⟨(.lowerLevel (.mgmt) (0)), full, _, by decide, by decide, rfl⟩,
    ⟨(.keySlotWrite (.mgmt) (31) ([1, (9), 0, 0, 0, 0, 0, 0] ++ (List.replicate 16 5))), keyed, _, by decide, by decide, rfl⟩,
    ⟨(.revokeSlot (.mgmt) (List.replicate 131 0)), full, _, by decide, by decide, rfl⟩,
    ⟨.bypass, full, _, by decide, by decide, rfl⟩,
    ⟨(.clamp true), full, _, by decide, by decide, rfl⟩⟩

/-- Clauses of `Obligations.StepRunsFront` have instances: the hypotheses hold together, and the conclusion with them. -/
theorem witness_StepRunsFront :
    (∃ (c : _) (rest : _) (s : State), (s.pending = c :: rest) ∧ (step s = exec c { s with pending := rest })) :=
  ⟨.bypass, [], { full with pending := [.bypass] }, by decide, rfl⟩

/-- Clauses of `Obligations.StepIdleTicks` have instances: the hypotheses hold together, and the conclusion with them. -/
theorem witness_StepIdleTicks :
    (∃ (s : State), (s.pending = []) ∧ (∃ t, step s = .next t ∧ t.pending = [] ∧ (s.mode ≠ .parked → t.gnomon = (s.gnomon + 1) % 2 ^ 64) ∧ (s.mode = .parked → t.gnomon = s.gnomon ∧ t.power.rtcPeriods = s.power.rtcPeriods + 1))) :=
  ⟨full, by decide, ⟨_, rfl, by decide, by decide, by decide⟩⟩

/-- Clauses of `Obligations.QueueKept` have instances: the hypotheses hold together, and the conclusion with them. -/
theorem witness_QueueKept :
    (∃ (c : _) (s : State) (t : _), (exec c s = .next t) ∧ (t.pending = s.pending)) :=
  ⟨.bypass, full, _, rfl, rfl⟩

/-- Clauses of `Obligations.ResetState` have instances: the hypotheses hold together, and the conclusion with them. -/
theorem witness_ResetState :
    (∃ u, (unitExists u = true) ∧ (State.reset.ustate u = 0 ∧ State.reset.owner u = 0xFF ∧ State.reset.parent u = 0xFFFF)) ∧
    (∃ b, (b ∈ [Ball.pwrReq, .canTxd]) ∧ (State.reset.ball b = .high)) ∧
    (∃ b, (b ∈ [Ball.mswTx, .mswRx, .clkOut, .wakeOut, .canStb]) ∧ (State.reset.ball b = .low)) ∧
    (∃ b, (b ∈ [Ball.antPwrEn 0, .antPwrEn 1, .hostIrqN, .spiIo1, .jtagTdo, .spdifOut, .apSd 0, .apSd 1, .apSd 2, .apSd 3]) ∧ (State.reset.ball b = .highZ)) ∧
    (∃ b, (b ∈ [Ball.rf 0, .rf 1, .amin, .mrx, .mtx, .tbSync, .wakeIn, .smb, .amclk]) ∧ (State.reset.ball b = .idle)) :=
  ⟨⟨0x100, by decide, by decide⟩,
    ⟨.pwrReq, by decide, by decide⟩,
    ⟨.canStb, by decide, by decide⟩,
    ⟨.apSd 3, by decide, by decide⟩,
    ⟨.mrx, by decide, by decide⟩⟩

/-- Clauses of `Obligations.StepKeepsCanonical` have instances: the hypotheses hold together, and the conclusion with them. -/
theorem witness_StepKeepsCanonical :
    (∃ (s : State) (t : _), (s.Canonical) ∧ (step s = .next t)) :=
  ⟨full, _, by decide, rfl⟩

/-- Clauses of `Obligations.FusesOnlyBlown` have instances: the hypotheses hold together, and the conclusion with them. -/
theorem witness_FusesOnlyBlown :
    (∃ (c : _) (s : State) (t : _), (s.otp.securedFuses ≤ 8) ∧ (s.otp.returnedFuses ≤ 8) ∧ (exec c s = .next t)) :=
  ⟨.stepToSecured .mgmt, { full with otp := { full.otp with slotHash := [[1]] } }, _, by decide, by decide, rfl⟩

/-- Clauses of `Obligations.GnomonOnlyCounts` have instances: the hypotheses hold together, and the conclusion with them. -/
theorem witness_GnomonOnlyCounts :
    (∃ (c : _) (s : State) (t : _), ((c matches .parkedResume .. | .tbSyncFollowerLoad | .reset .. | .managementWatchdog | .supplyLevel .. | .trialExpiry) = false) ∧ (exec c s = .next t) ∧ (t.gnomon = s.gnomon)) :=
  ⟨.bypass, full, _, by decide, rfl, rfl⟩

/-- Clauses of `Obligations.RefusedWriteHasNoEffect` have instances: the hypotheses hold together, and the conclusion with them. -/
theorem witness_RefusedWriteHasNoEffect :
    (∃ (r : _) (i : _) (j : _) (b : _) (s : State) (t : _), (i < 65536) ∧ (j < 256) ∧ ((s.autoTake r (obj i j)).judgeWrite r (obj i j) b ≠ 0) ∧ (exec (.objectWrite r i j b) s = .next t)) :=
  ⟨.spi, 0x1030, 3, [1], full, _, by decide, by decide, by decide, rfl⟩

/-- Clauses of `Obligations.OnlyTheHolderWrites` have instances: the hypotheses hold together, and the conclusion with them. -/
theorem witness_OnlyTheHolderWrites :
    (∃ (r : _) (i : _) (j : _) (b : _) (row : _) (s : State) (t : _), (i < 65536) ∧ (j < 256) ∧ (isHost r = true) ∧ (obj i j ≠ 0x103002) ∧ (s.nat 0x103001 ≠ 0) ∧ (s.nat 0x103001 ≠ portNo r) ∧ (findRow (obj i j) = some row) ∧ (firstCode [s.check1, check2 (obj i j), refuseIf (!s.classRight r (obj i j) true) 0x0109, s.check4 r (obj i j), s.check5 (obj i j), s.check6 (obj i j) true row.acc, s.imageCheck i, check7w row.acc] = 0) ∧ (exec (.objectWrite r i j b) s = .next t)) :=
  ⟨.spi, 0x1030, 3, leNat 2 5000, ⟨0x1030, 1, 3, 3, .u16, .rw, 2000, [(100, 60000)]⟩, full.setNat 0x103001 1, _, by decide, by decide, by decide, by decide, by decide, by decide, by decide, by decide, rfl⟩

/-- Clauses of `Obligations.ValuesRoundTrip` have instances: the hypotheses hold together, and the conclusion with them. -/
theorem witness_ValuesRoundTrip :
    (∃ (ty : _) (b : _), (bytesOk b = true) ∧ (lengthFits ty b.length = true) ∧ (encodeVal ty (decodeVal ty b) = b)) ∧
    (∃ (w : _) (n : _), (n < 256 ^ w) ∧ (ofLe (leNat w n) = n)) ∧
    (∃ (w : _) (n : _), (1 ≤ w) ∧ (-(2 ^ (8 * w - 1) : Int) ≤ n) ∧ (n < 2 ^ (8 * w - 1)) ∧ (signed w (ofLe (leInt w n)) = n)) :=
  ⟨⟨.i16, [255, 255], by decide, by decide, by decide⟩,
    ⟨2, 65535, by decide, by decide⟩,
    ⟨1, -128, by decide, by decide, by decide, by decide⟩⟩

/-- Clauses of `Obligations.WriteThenRead` have instances: the hypotheses hold together, and the conclusion with them. -/
theorem witness_WriteThenRead :
    (∃ (r : _) (i : _) (j : _) (b : _) (row : _) (s : State) (t : _), (PlainRow i j row) ∧ (bytesOk b = true) ∧ (s.Accepts r (obj i j) b) ∧ (exec (.objectWrite r i j b) s = .next t) ∧ (t.readBytes (obj i j) = b)) :=
  ⟨.mgmt, 0x1030, 3, leNat 2 5000, ⟨0x1030, 1, 3, 3, .u16, .rw, 2000, [(100, 60000)]⟩, full, _, by decide, by decide, by decide, rfl, by decide⟩

/-- Clauses of `Obligations.TokenCommands` have instances: the hypotheses hold together, and the conclusion with them. -/
theorem witness_TokenCommands :
    (∃ (r : _) (p : _) (s : State), (isHost r = true) ∧ (s.Accepts r 0x103002 [p % 3 + 1]) ∧ (portNo r = p % 3 + 1) ∧ (s.nat 0x103001 = 0) ∧ (Gives (.tokenTake r p) s fun t => t.answer.code = 0 ∧ t.nat 0x103001 = p % 3 + 1)) ∧
    (∃ (r : _) (p : _) (s : State), (isHost r = true) ∧ (s.Accepts r 0x103002 [p % 3 + 1]) ∧ (portNo r = p % 3 + 1) ∧ (s.nat 0x103001 = p % 3 + 1) ∧ (Gives (.tokenTake r p) s fun t => t.answer.code = 0 ∧ t.nat 0x103001 = p % 3 + 1)) ∧
    (∃ (r : _) (p : _) (s : State), (isHost r = true) ∧ (s.Accepts r 0x103002 [p % 3 + 1]) ∧ (portNo r = p % 3 + 1) ∧ (s.nat 0x103001 ≠ 0) ∧ (s.nat 0x103001 ≠ p % 3 + 1) ∧ (Gives (.tokenTake r p) s fun t => t.answer.code = 0x010E ∧ t.nat 0x103001 = s.nat 0x103001)) ∧
    (∃ (r : _) (p : _) (s : State), (isHost r = true) ∧ (s.Accepts r 0x103002 [p % 3 + 1]) ∧ (portNo r ≠ p % 3 + 1) ∧ (Gives (.tokenTake r p) s fun t => t.answer.code = 0x0109 ∧ t.nat 0x103001 = s.nat 0x103001)) ∧
    (∃ (r : _) (s : State), (isHost r = true) ∧ (s.Accepts r 0x103002 [0]) ∧ (s.nat 0x103001 = portNo r) ∧ (Gives (.tokenRelease r) s fun t => t.answer.code = 0 ∧ t.nat 0x103001 = 0)) ∧
    (∃ (r : _) (s : State), (isHost r = true) ∧ (s.Accepts r 0x103002 [0]) ∧ (s.nat 0x103001 ≠ portNo r) ∧ (Gives (.tokenRelease r) s fun t => t.answer.code = 0x0108 ∧ t.nat 0x103001 = s.nat 0x103001)) ∧
    (∃ (r : _) (p : _) (s : State), (isHost r = true) ∧ (s.Accepts r 0x103002 [0x81 + p % 3]) ∧ (s.nat 0x103001 = portNo r) ∧ (Gives (.tokenHandover r p) s fun t => t.answer.code = 0 ∧ t.nat 0x103001 = p % 3 + 1)) ∧
    (∃ (r : _) (p : _) (s : State), (isHost r = true) ∧ (s.Accepts r 0x103002 [0x81 + p % 3]) ∧ (s.nat 0x103001 ≠ portNo r) ∧ (Gives (.tokenHandover r p) s fun t => t.answer.code = 0x0108 ∧ t.nat 0x103001 = s.nat 0x103001)) :=
  ⟨⟨.spi, 2, full, by decide, by decide, by decide, by decide, _, rfl, by decide, by decide⟩,
    ⟨.spi, 2, full.setNat 0x103001 3, by decide, by decide, by decide, by decide, _, rfl, by decide, by decide⟩,
    ⟨.spi, 2, full.setNat 0x103001 1, by decide, by decide, by decide, by decide, by decide, _, rfl, by decide, by decide⟩,
    ⟨.spi, 0, full, by decide, by decide, by decide, _, rfl, by decide, by decide⟩,
    ⟨.twoWire, full.setNat 0x103001 2, by decide, by decide, by decide, _, rfl, by decide, by decide⟩,
    ⟨.twoWire, full.setNat 0x103001 3, by decide, by decide, by decide, _, rfl, by decide, by decide⟩,
    ⟨.twoWire, 2, full.setNat 0x103001 2, by decide, by decide, by decide, _, rfl, by decide, by decide⟩,
    ⟨.twoWire, 2, full, by decide, by decide, by decide, _, rfl, by decide, by decide⟩⟩

/-- Clauses of `Obligations.RepeatReadsLast` have instances: the hypotheses hold together, and the conclusion with them. -/
theorem witness_RepeatReadsLast :
    (∃ (r : _) (i : _) (j : _) (n : _) (s : State), (s.judgeRead r (obj i j) = 0) ∧ (fifoKey (obj i j) = true) ∧ ((s.fifo (obj i j)).last ≠ []) ∧ ((s.fifo (obj i j)).lastPort = readerNo r) ∧ ((s.fifo (obj i j)).last.length ≤ n) ∧ (Gives (.fifoRepeatRead r i j n) s fun t => t.answer.code = 0 ∧ t.answer.data = (s.fifo (obj i j)).last ∧ t.answer.readNo = (s.fifo (obj i j)).readNo ∧ t.fifos = s.fifos)) ∧
    (∃ (r : _) (i : _) (j : _) (n : _) (s : State), (s.judgeRead r (obj i j) = 0) ∧ (fifoKey (obj i j) = true) ∧ ((s.fifo (obj i j)).last = [] ∨ (s.fifo (obj i j)).lastPort ≠ readerNo r) ∧ (Gives (.fifoRepeatRead r i j n) s fun t => t.answer.code = 0x010D ∧ t.fifos = s.fifos)) ∧
    (∃ (r : _) (i : _) (j : _) (n : _) (b : _) (rest : _) (s : State), (s.judgeRead r (obj i j) = 0) ∧ (fifoKey (obj i j) = true) ∧ (ringKey (obj i j) = false) ∧ ((s.fifo (obj i j)).recs = b :: rest) ∧ (b ≠ []) ∧ (b.length ≤ n) ∧ (Gives (.fifoRead r i j n) s fun t => (t.fifo (obj i j)).last = b ∧ (t.fifo (obj i j)).lastPort = readerNo r)) :=
  ⟨⟨.quoin, 0x6040, 3, 2, full.setFifo 0x604003 { Fifo.init with last := [1, 2], lastPort := 1, readNo := 65535 }, by decide, by decide, by decide, by decide, by decide, _, rfl, by decide, by decide, by decide, by decide⟩,
    ⟨.spi, 0x6040, 3, 2, full.setFifo 0x604003 { Fifo.init with last := [1, 2], lastPort := 1 }, by decide, by decide, by decide, _, rfl, by decide, by decide⟩,
    ⟨.spi, 0x6040, 3, 2, [1, 2], [[3, 4]], full.setFifo 0x604003 { Fifo.init with recs := [[1, 2], [3, 4]] }, by decide, by decide, by decide, by decide, by decide, by decide, _, rfl, by decide, by decide⟩⟩

/-- Clauses of `Obligations.ConsumedOnlyWhenTaken` have instances: the hypotheses hold together, and the conclusion with them. -/
theorem witness_ConsumedOnlyWhenTaken :
    (∃ (taken : _) (pec : _) (s : State) (t : _), (exec (.twoWireResponse taken pec) s = .next t) ∧ (taken = false ∨ (s.nat 0x105002 ≠ 0 ∧ pec = false)) ∧ ((t.port 2).unread = (s.port 2).unread ∧ (t.port 2).lastItem = (s.port 2).lastItem)) ∧
    (∃ (taken : _) (pec : _) (s : State) (t : _), (exec (.twoWireEvents taken pec) s = .next t) ∧ (taken = false ∨ (s.nat 0x105002 ≠ 0 ∧ pec = false)) ∧ (t.events = s.events ∧ (t.port 2).lastEvents = (s.port 2).lastEvents)) ∧
    (∃ (flags : _) (n : _) (c : _) (s : State) (t : _), (exec (.spiResponse flags n c false) s = .next t) ∧ ((t.port 3).unread = (s.port 3).unread ∧ (t.port 3).lastItem = (s.port 3).lastItem)) ∧
    (∃ (flags : _) (n : _) (c : _) (s : State) (t : _), (exec (.spiEvents flags n c false) s = .next t) ∧ (t.events = s.events ∧ (t.port 3).lastEvents = (s.port 3).lastEvents)) ∧
    (∃ (b : _) (s : State), (s.twoWireAcks = true) ∧ (s.mode ≠ .parked) ∧ (b = (if (s.port 2).lastItem = [] then [1, 0] else (s.port 2).lastItem.length :: (s.port 2).lastItem)) ∧ (Gives (.twoWireResponseRepeat true) s fun t => (t.port 2).unread = (s.port 2).unread ∧ (t.port 2).out = [b ++ crc8 ([2 * s.nat 0x105001, 0x13, 2 * s.nat 0x105001 + 1] ++ b)])) ∧
    (∃ (b : _) (s : State), (s.twoWireAcks = true) ∧ (s.mode ≠ .parked) ∧ (b = (if (s.port 2).lastEvents = [] then [1, 0] else (s.port 2).lastEvents.length :: (s.port 2).lastEvents)) ∧ (Gives (.twoWireEventsRepeat true) s fun t => t.events = s.events ∧ (t.port 2).out = [b ++ crc8 ([2 * s.nat 0x105001, 0x14, 2 * s.nat 0x105001 + 1] ++ b)])) ∧
    (∃ (quad : _) (n : _) (b : _) (s : State), (quad ≤ 1) ∧ (s.spiPowered = true) ∧ (s.portReady = true) ∧ ((s.port 3).lastItem = b) ∧ (b.length ≤ n) ∧ (n ≤ 1028) ∧ (Gives (.spiResponseRepeat quad n (crcOf 2 ((16 * quad + 4) :: leNat 2 n))) s fun t => (t.port 3).unread = (s.port 3).unread ∧ (t.port 3).out = [[s.portStatus 3], leNat 2 b.length ++ b ++ crc8 (leNat 2 b.length ++ b)])) ∧
    (∃ (quad : _) (n : _) (b : _) (s : State), (quad ≤ 1) ∧ (s.spiPowered = true) ∧ (s.portReady = true) ∧ ((s.port 3).lastEvents = b) ∧ (b.length ≤ n) ∧ (n ≤ 1028) ∧ (Gives (.spiEventsRepeat quad n (crcOf 2 ((16 * quad + 5) :: leNat 2 n))) s fun t => t.events = s.events ∧ (t.port 3).out = [[s.portStatus 3], leNat 2 b.length ++ b ++ crc8 (leNat 2 b.length ++ b)])) :=
  ⟨⟨true, false, (full.setNat 0x105002 1).setPort 2 { Port.init with unread := [[9], [8]] }, _, rfl, by decide, by decide⟩,
    ⟨false, true, { full with events := { full.events with twoWireQ := [anEvent 7] } }, _, rfl, by decide, by decide⟩,
    ⟨0, 100, crcOf 2 (2 :: leNat 2 100), full.setPort 3 { Port.init with unread := [[9], [8]] }, _, rfl, by decide⟩,
    ⟨1, 100, crcOf 2 (19 :: leNat 2 100), { full with events := { full.events with spiQ := [anEvent 7] } }, _, rfl, by decide⟩,
    ⟨[1, 0], full, by decide, by decide, by decide, _, rfl, by decide, by decide⟩,
    ⟨[1, 0], full, by decide, by decide, by decide, _, rfl, by decide, by decide⟩,
    ⟨0, 0, [], full, by decide, by decide, by decide, by decide, by decide, by decide, _, rfl, by decide, by decide⟩,
    ⟨1, 2, [0, 0], full.setPort 3 { Port.init with lastEvents := [0, 0] }, by decide, by decide, by decide, by decide, by decide, by decide, _, rfl, by decide, by decide⟩⟩

/-- Clauses of `Obligations.RequestActsOnce` have instances: the hypotheses hold together, and the conclusion with them. -/
theorem witness_RequestActsOnce :
    (∃ (p : Nat) (f b : Bytes) (s : State), (matchedKind (nthD f 0 0) = true) ∧ (2 ≤ f.length) ∧ ((s.port p).kept = some (nthD f 1 0, b)) ∧ (s.handleFrame p f = s.deliver p (b.take 7 ++ [setBit (nthD b 7 0) 3] ++ b.drop 8) ∧ ((s.handleFrame p f).port p).transfer = (s.port p).transfer)) ∧
    (∃ (p : Nat) (f : Bytes) (s : State), (matchedKind (nthD f 0 0) = true) ∧ (2 ≤ f.length) ∧ (((s.handleFrame p f).port p).kept.map (·.1) = some (nthD f 1 0))) ∧
    (∃ (p : Nat) (f : Bytes) (s : State), (matchedKind (nthD f 0 0) = false) ∧ (1 ≤ p) ∧ (p ≤ 3) ∧ (((s.handleFrame p f).port p).kept = (s.port p).kept ∧ (s.handleFrame p f).nat (obj 0x1020 p) = s.nat (obj 0x1020 p))) ∧
    (∃ (seq : _) (body : _) (s : State) (t : _), (seq < 256) ∧ (s.QuoinServes) ∧ (t.QuoinServes) ∧ (exec (.quoinWrite true seq body) s = .next t)) :=
  ⟨⟨2, [8, 9], [0x88, 9, 0, 0, 0, 0, 0, 0], full.setPort 2 { Port.init with kept := some (9, [0x88, 9, 0, 0, 0, 0, 0, 0]) }, by decide, by decide, by decide, by decide⟩,
    ⟨2, [8, 9], full, by decide, by decide, by decide⟩,
    ⟨3, [15, 9, 0, 0, 0, 0, 0, 0], full, by decide, by decide, by decide, by decide⟩,
    ⟨9, leNat 2 0x1030 ++ [3, 0] ++ leNat 2 2 ++ leNat 2 5000, onBus, _, by decide, by decide, by decide, rfl⟩⟩

/-- Clauses of `Obligations.EventsAreNumbered` have instances: the hypotheses hold together, and the conclusion with them. -/
theorem witness_EventsAreNumbered :
    (∃ (cls : _) (kind : _) (src : _) (fields : _) (s : State), (s.ready = true) ∧ (bitOf (s.nat 0x980001) (cls - 1) = true) ∧ ((State.raise cls kind src fields s).nat 0x980006 = (s.nat 0x980006 + 1) % 2 ^ 32 ∧ (State.raise cls kind src fields s).events.history.getLast? = some ⟨(s.nat 0x980006 + 1) % 2 ^ 32, s.gnomon, cls, kind, src, packFields 16 fields⟩ ∧ (State.raise cls kind src fields s).events.history.length ≤ 256)) ∧
    (∃ (cls : _) (kind : _) (src : _) (fields : _) (s : State), (bitOf (s.nat 0x980001) (cls - 1) = false) ∧ ((State.raise cls kind src fields s).events = s.events ∧ (State.raise cls kind src fields s).nat 0x980006 = s.nat 0x980006)) ∧
    (∃ (cls : _) (kind : _) (src : _) (fields : _) (s : State), (s.events.quoinQ.length ≤ 64) ∧ (s.events.twoWireQ.length ≤ 64) ∧ (s.events.spiQ.length ≤ 64) ∧ ((State.raise cls kind src fields s).events.quoinQ.length ≤ 64 ∧ (State.raise cls kind src fields s).events.twoWireQ.length ≤ 64 ∧ (State.raise cls kind src fields s).events.spiQ.length ≤ 64)) :=
  ⟨⟨4, 1, 0x7600, [], full.setNat 0x980006 (2 ^ 32 - 1), by decide, by decide, by decide⟩,
    ⟨5, 1, 0x7600, [], full.setNat 0x980001 15, by decide, by decide⟩,
    ⟨4, 1, 0x7600, [], { full with events := { full.events with quoinQ := List.replicate 64 (anEvent 7) } }, by decide, by decide, by decide, by decide⟩⟩

/-- Clauses of `Obligations.SafeFaultsEveryUnit` have instances: the hypotheses hold together, and the conclusion with them. -/
theorem witness_SafeFaultsEveryUnit :
    (∃ (c : _) (s : State), (s.power.safeDue = some c) ∧ (s.mode ≠ .off) ∧ (s.mode ≠ .parked) ∧ (s.mode ≠ .safe) ∧ (Gives .safeEntry s fun _ => True)) :=
  ⟨⟨5, 19, 0, 7⟩, { full with power := { full.power with safeDue := some ⟨5, 19, 0, 7⟩ } }, by decide, by decide, by decide, by decide, _, rfl, trivial⟩

/-! ### Ill-formed commands, one for each check of WellFormed -/

theorem test_u8 : Instr.wellFormed (.claim .quoin 0x100 false 256) = false := by decide
theorem test_u16 : Instr.wellFormed (.configure .quoin 65536) = false := by decide
theorem test_u32 : Instr.wellFormed (.logQuery .quoin (2 ^ 32)) = false := by decide
theorem test_u64 : Instr.wellFormed (.start .quoin 0x100 (2 ^ 64)) = false := by decide
theorem test_i16 : Instr.wellFormed (.amAttenuationStep (-32769)) = false := by decide
theorem test_i32 : Instr.wellFormed (.dabPrsCorrelate 0 (2 ^ 31)) = false := by decide
theorem test_bytesOk : Instr.wellFormed (.objectWrite .quoin 0x1030 3 [256]) = false := by decide
theorem test_engineOk : Instr.wellFormed (.engineWatchdog 12) = false := by decide
theorem test_pathOk : Instr.wellFormed (.lnaTrip 2) = false := by decide
theorem test_chainOk : Instr.wellFormed (.fadeEnd 32) = false := by decide
theorem test_accelOk : Instr.wellFormed (.acceleratorTimeout 8) = false := by decide
theorem test_courseOk : Instr.wellFormed (.courseConfigure .quoin 48) = false := by decide
theorem test_streamOk : Instr.wellFormed (.underrun 5) = false := by decide
theorem test_entryOk : Instr.wellFormed (.launchCancel .quoin 64) = false := by decide
theorem test_captureOk : Instr.wellFormed (.captureArm .quoin 4) = false := by decide
theorem test_groupOk : Instr.wellFormed (.lockGroupWrite .quoin 0 1) = false := by decide
theorem test_frameOk : Instr.wellFormed (.pdoPeriodic 16) = false := by decide
theorem test_portOk : Instr.wellFormed (.transferTimeout 4) = false := by decide
theorem test_requesterOk : Instr.wellFormed (.configure (.node (2 ^ 64)) 0x100) = false := by decide
theorem test_adcOk : Instr.wellFormed (.chainBlockOut 0 ⟨0, [2048]⟩ ⟨0, []⟩ 0) = false := by decide
theorem test_rdsGroupOk : Instr.wellFormed (.rdsGroup 0 ⟨0, [1, 2, 3], [0, 0, 0, 0], false, false⟩) = false := by decide
theorem test_symbolOk :
    Instr.wellFormed (.dabCifDecode 0 0 0 0 (List.replicate 1536 (0, 0)) (List.replicate 18 (some ⟨[], []⟩)) []) = false := by
  decide
theorem test_unitOk : Instr.wellFormed (.dabAccessUnit 0 0 (some { aUnit with codec := 8 })) = false := by decide
theorem test_cellOk :
    Instr.wellFormed (.drmMscFrame 0 0 false [some ⟨40, 0, 0, 0⟩] 0 0 [] [] 0 []) = false := by decide
theorem test_codes : Instr.wellFormed (.antennaCurrentJudge 0 (List.replicate 99 0)) = false := by decide
theorem test_hashes : Instr.wellFormed (.parkedResume [[], [], []]) = false := by decide
theorem test_flags : Instr.wellFormed (.spiRequest 16 1 0 []) = false := by decide
theorem test_region : Instr.wellFormed (.acceleratorJobSubmit 0 0 (.fft 64 false) [(2 ^ 32, 4)] []) = false := by decide
theorem test_wellFormed :
    Instr.wellFormed (.narrowbandFrame 0 0 ⟨false, true, 2, false⟩ [1, 2] none 0 0) = true := by decide

/-! ### Figures that the specification prints -/

/-- The ASCII string "123456789". -/
def digits : Bytes := [0x31, 0x32, 0x33, 0x34, 0x35, 0x36, 0x37, 0x38, 0x39]

/-- The check values of the four presets (R406). -/
theorem test_presets : (List.range 4).map (fun p => crcOf p digits) = [0xCBF43926, 0x29B1, 0xF4, 0x2189] := by decide

/-- The running value of the worked example of spec/21_check_value_units.md, whole and resumed after "1234". -/
theorem test_running :
    crcOut (crcSet (presetHead 0)) (crcFeed (crcSet (presetHead 0)) digits 0xFFFFFFFF) = 0x340BC6D9 ∧
    (let c := crcSet (presetHead 0)
     let mid := crcOut c (crcFeed c (digits.take 4) 0xFFFFFFFF)
     crcOut c (crcFeed c (digits.drop 4) (crcStart ([0, 16, 0, 0, 0, 0, 0, 0] ++ leNat 4 mid ++ [0, 0, 0, 0])))) =
      0x340BC6D9 := by decide

/-- The read of 0x1018:03 by node 33 (spec/19_quoin_can_fd.md, after R373): the response printed there. -/
theorem test_quoin_read : ∃ t, exec (.quoinRead true 5 [0x18, 0x10, 3, 0, 0, 0]) (onBus.setNat 0x980006 2) = .next t ∧
    (t.port 1).out = [[0x81, 5, 0, 0, 0x18, 0x10, 3, 0, 0, 0, 4, 0, 2, 0, 0, 0, 1, 0, 2, 0]] :=
  ⟨_, rfl, by decide⟩

/-- The acknowledgement of spec/16_voussoir_link.md's worked example (R308): its octets before the FCS. -/
theorem test_ack : ackOctets 0x4E52 0x5C (.short 0x0A17) true false 0 =
    [0x12, 0x2A, 0x5C, 0x52, 0x4E, 0x17, 0x0A, 0x02, 0x0F, 0, 0] := by decide

/-- The group record that spec/08_fm_rds.md prints after R157, but its sequence. -/
theorem test_group : groupRecord ⟨40000000000, [0xD3A1, 0x054A, 0x4470, 0x454C], [0, 0, 1, 0], false, false⟩
    (fun i => nthD [0, 0, 1, 0] i 0) 0 =
    [0, 0x90, 0x2F, 0x50, 9, 0, 0, 0, 0xA1, 0xD3, 0x4A, 5, 0x70, 0x44, 0x4C, 0x45, 0x10, 0] := by decide

/-- The block that spec/13_shared_memory_compression.md works out after R248: its exponent, and the mantissa of 1,020. -/
theorem test_iq8 : iq8Exponent (1020 :: List.replicate 31 0) = 4 ∧
    (iq8Pair (1020 :: List.replicate 31 0) (List.replicate 32 0)).take 2 = [4, 64] := by decide

/-- The frame length of the worked example "two tyres on one frame": 2 + 11 + 11 bytes. -/
theorem test_fd_length : fdLength (2 + 11 + 11) = 24 := by decide

/-- No word spells a command: the opcode table gives no row any bits. -/
theorem test_decode : decodeTableWord 8 0 = none := by decide


end Sys2Proof.Tests
end

section
/-!
PROOFS. The token command (R359 to R361) and the repeat reads of FIFO objects (R357, R358).
-/
namespace Sys2Proof.Machine

/-! ### Requests whose action is refused -/

/-- A write that passes its checks and whose action refuses it is answered with the action's code, and changes only what the automatic
take has done (R349, R361). -/
theorem request_actRefused (s : State) (r : Requester) (key : Nat) (b : Bytes) (act : State → State × Nat)
    (h : s.Accepts r key b) (ha : (act (s.autoTake r key)).2 ≠ 0) :
    s.request r key b act = (s.autoTake r key).reply (act (s.autoTake r key)).2 [] := by
  obtain ⟨hjudge, hrange⟩ := h
  have hc : firstCode [(s.autoTake r key).judgeWrite r key b, if (pairedRes key).isSome then 0 else rangeCheck key b] = 0 := by
    rcases hrange with hr | hr <;> simp [firstCode, hjudge, hr]
  unfold State.request State.carryOut
  simp [hc, ha]

/-! ### What the check-value units leave unchanged -/

@[simp] theorem setCvUnit_nat (u : Nat) (c : Cv) (s : State) (j : Nat) : (s.setCvUnit u c).nat j = s.nat j := rfl

/-- A unit's subindices lie at 0x1070 and above (R407). -/
theorem cvk_ge (u sub : Nat) : 0x107000 ≤ cvk u sub := by
  unfold cvk obj
  omega

/-- Showing a unit's context writes no number below the units' own objects. -/
theorem showCv_nat (u : Nat) (s : State) (j : Nat) (hj : j < 0x107000) : (s.showCv u).nat j = s.nat j := by
  have hne (sub : Nat) : j ≠ cvk u sub := (hj.trans_le (cvk_ge u sub)).ne
  unfold State.showCv
  split
  · simp [hne]
  · simp [hne, setBytes_nat]

/-- A stream closed in a unit writes no number below the units' own objects (R408). -/
theorem cvClose_nat (u master : Nat) (s : State) (j : Nat) (hj : j < 0x107000) : (s.cvClose u master).nat j = s.nat j := by
  unfold State.cvClose
  dsimp only
  split
  · split
    · simp [showCv_nat, hj]
    · split
      · split <;> simp
      · rfl
  · rfl

/-- A port that leaves its check-value unit writes no number below the units' own objects. -/
theorem leaveCv_nat (p : Nat) (s : State) (j : Nat) (hj : j < 0x107000) : (s.leaveCv p).nat j = s.nat j := by
  unfold State.leaveCv
  split
  · exact cvClose_nat _ _ s j hj
  · rfl

/-! ### What the end of a transfer leaves unchanged (R377) -/

@[simp] theorem setPort_nat (p : Nat) (c : Port) (s : State) (j : Nat) : (s.setPort p c).nat j = s.nat j := rfl

@[simp] theorem deliver_nat (p : Nat) (b : Bytes) (s : State) (j : Nat) : (s.deliver p b).nat j = s.nat j := by
  unfold State.deliver
  split <;> rfl

/-- A transfer's end writes no number below the check-value units but the count of aborted transfers. -/
theorem closeTransfer_nat (p : Nat) (applied : Bool) (s : State) (j : Nat) (hj : j < 0x107000) (hcount : j ≠ 0x104104) :
    (s.closeTransfer p applied).nat j = s.nat j := by
  unfold State.closeTransfer
  split
  · rfl
  · cases applied <;> simp [leaveCv_nat, hj, hcount]

/-- A transfer aborted with a code writes no number below the check-value units but the count of aborted transfers. -/
theorem failTransfer_nat (p code : Nat) (s : State) (j : Nat) (hj : j < 0x107000) (hcount : j ≠ 0x104104) :
    (s.failTransfer p code).nat j = s.nat j := by
  unfold State.failTransfer
  split
  · rfl
  · simp [closeTransfer_nat, hj, hcount]

/-! ### The holder of the token (R359 to R361) -/

/-- After the token has moved, the new holder is shown. -/
@[simp] theorem moveToken_holder (new reason : Nat) (s : State) : (s.moveToken new reason).nat 0x103001 = new := by
  unfold State.moveToken
  dsimp only
  split
  · assumption
  · rw [raise_nat _ _ _ _ _ _ (by decide)]
    simp

/-- A token given up goes to the new holder, whether or not a segmented write is aborted by it. -/
@[simp] theorem leaveToken_holder (new reason : Nat) (s : State) : (s.leaveToken new reason).nat 0x103001 = new := by
  unfold State.leaveToken
  dsimp only
  split
  · split
    · rw [failTransfer_nat _ _ _ _ (by decide) (by decide), moveToken_holder]
    · exact moveToken_holder new reason s
  · exact moveToken_holder new reason s

/-- A write of the token command never takes the token automatically (R361). -/
@[simp] theorem autoTake_tokenCommand (r : Requester) (s : State) : s.autoTake r 0x103002 = s := by
  simp [State.autoTake]

/-- The holder's port is a host port that holds the token. -/
theorem holdsToken_iff (r : Requester) (s : State) (hr : isHost r = true) :
    s.holdsToken r = true ↔ s.nat 0x103001 = portNo r := by
  simp [State.holdsToken, hr]

/-! ### The token command (R360), a lemma per row of its table -/

section
variable {r : Requester} {v : Nat} {s : State}

/-- A port that names itself while the token is free takes it. -/
theorem tokenCommand_take_free (hv : 1 ≤ v ∧ v ≤ 3) (hport : portNo r = v) (hfree : s.nat 0x103001 = 0) :
    (s.tokenCommand r v).2 = 0 ∧ (s.tokenCommand r v).1.nat 0x103001 = v := by
  have hnone : 0 ≠ v := by omega
  simp [State.tokenCommand, hv, hport, hfree, hnone]

/-- A port that names itself while it holds the token is accepted, and goes on holding it. -/
theorem tokenCommand_take_held (hv : 1 ≤ v ∧ v ≤ 3) (hport : portNo r = v) (hheld : s.nat 0x103001 = v) :
    (s.tokenCommand r v).2 = 0 ∧ (s.tokenCommand r v).1.nat 0x103001 = v := by
  simp [State.tokenCommand, hv, hport, hheld]

/-- A port that names itself while another holds the token is refused with TOKEN_HELD. -/
theorem tokenCommand_take_other (hv : 1 ≤ v ∧ v ≤ 3) (hport : portNo r = v) (htaken : s.nat 0x103001 ≠ 0)
    (hother : s.nat 0x103001 ≠ v) : s.tokenCommand r v = (s, 0x010E) := by
  simp [State.tokenCommand, hv, hport, htaken, hother]

/-- A port that names another is refused with CLASS_DENIED. -/
theorem tokenCommand_take_foreign (hv : 1 ≤ v ∧ v ≤ 3) (hport : portNo r ≠ v) : s.tokenCommand r v = (s, 0x0109) := by
  simp [State.tokenCommand, hv, hport.symm]

/-- A release or handover by a port that does not hold the token is refused with NO_TOKEN. -/
theorem tokenCommand_give_notHolder (hv : ¬(1 ≤ v ∧ v ≤ 3)) (hother : s.nat 0x103001 ≠ portNo r) :
    s.tokenCommand r v = (s, 0x0108) := by
  simp [State.tokenCommand, hv, State.holdsToken, hother]

/-- The holder's release leaves the token free. -/
theorem tokenCommand_release (hr : isHost r = true) (hheld : s.nat 0x103001 = portNo r) :
    (s.tokenCommand r 0).2 = 0 ∧ (s.tokenCommand r 0).1.nat 0x103001 = 0 := by
  simp [State.tokenCommand, (holdsToken_iff r s hr).mpr hheld]

/-- The holder's handover is accepted, and the port it names holds the token afterwards; naming itself it keeps it. -/
theorem tokenCommand_handover (hr : isHost r = true) (hv : 0x81 ≤ v) (hheld : s.nat 0x103001 = portNo r) :
    (s.tokenCommand r v).2 = 0 ∧ (s.tokenCommand r v).1.nat 0x103001 = v - 0x80 := by
  have htake : ¬(1 ≤ v ∧ v ≤ 3) := by omega
  have hrelease : v ≠ 0 := by omega
  have hcmd : s.tokenCommand r v = if v - 0x80 = s.nat 0x103001 then (s, 0) else (s.leaveToken (v - 0x80) 3, 0) := by
    simp [State.tokenCommand, htake, hrelease, (holdsToken_iff r s hr).mpr hheld]
  rw [hcmd]
  split
  next hself => exact ⟨rfl, hself.symm⟩
  next => exact ⟨rfl, leaveToken_holder _ _ s⟩

/-! ### Writes of the token command -/

/-- A token command that its table accepts is answered with 0, and the holder is the one it leaves. -/
theorem writeToken_accepted {holder : Nat} (hacc : s.Accepts r 0x103002 (leNat 1 v))
    (hcmd : (s.tokenCommand r v).2 = 0 ∧ (s.tokenCommand r v).1.nat 0x103001 = holder) :
    (s.writeToken r v).answer.code = 0 ∧ (s.writeToken r v).nat 0x103001 = holder := by
  obtain ⟨hjudge, hrange⟩ := hacc
  obtain ⟨hcode, hholder⟩ := hcmd
  have hdone := request_done s r 0x103002 (leNat 1 v) (State.tokenCommand r v) hjudge hrange (by simpa using hcode)
  rw [autoTake_tokenCommand] at hdone
  rw [State.writeToken, hdone]
  exact ⟨rfl, (touch_nat _ r _ (by decide)).trans hholder⟩

/-- A token command that its table refuses is answered with the table's code, and the holder stays. -/
theorem writeToken_refused {c : Nat} (hacc : s.Accepts r 0x103002 (leNat 1 v)) (hcmd : s.tokenCommand r v = (s, c))
    (hc : c ≠ 0) : (s.writeToken r v).answer.code = c ∧ (s.writeToken r v).nat 0x103001 = s.nat 0x103001 := by
  have hrefused := request_actRefused s r 0x103002 (leNat 1 v) (State.tokenCommand r v) hacc (by simpa [hcmd] using hc)
  rw [autoTake_tokenCommand, hcmd] at hrefused
  rw [State.writeToken, hrefused]
  exact ⟨rfl, rfl⟩

end

/-- The byte of a token command is the command. -/
theorem leNat_one {v : Nat} (h : v < 256) : leNat 1 v = [v] := by
  simp [leNat, Nat.mod_eq_of_lt h]

theorem exec_tokenTake (r : Requester) (p : Nat) (s : State) :
    exec (.tokenTake r p) s = .next (s.writeToken r (p % 3 + 1)) := rfl

theorem exec_tokenRelease (r : Requester) (s : State) : exec (.tokenRelease r) s = .next (s.writeToken r 0) := rfl

theorem exec_tokenHandover (r : Requester) (p : Nat) (s : State) :
    exec (.tokenHandover r p) s = .next (s.writeToken r (0x81 + p % 3)) := rfl

/-- Settles O55: each clause is a row of R360's table for `State.tokenCommand`, answered as `State.writeToken` answers. -/
theorem tokenCommands : Obligations.TokenCommands := by
  unfold Obligations.TokenCommands
  have hport (p : Nat) : 1 ≤ p % 3 + 1 ∧ p % 3 + 1 ≤ 3 := by omega
  have hgive (p : Nat) : ¬(1 ≤ 0x81 + p % 3 ∧ 0x81 + p % 3 ≤ 3) := by omega
  have htakeByte (p : Nat) : leNat 1 (p % 3 + 1) = [p % 3 + 1] := leNat_one (by omega)
  have hgiveByte (p : Nat) : leNat 1 (0x81 + p % 3) = [0x81 + p % 3] := leNat_one (by omega)
  refine ⟨?takeFree, ?takeHeld, ?takeOther, ?takeForeign, ?release, ?releaseNotHolder, ?handover, ?handoverNotHolder⟩
  case takeFree =>
    intro r p s _ hacc hself hfree
    exact ⟨_, exec_tokenTake r p s,
      writeToken_accepted (htakeByte p ▸ hacc) (tokenCommand_take_free (hport p) hself hfree)⟩
  case takeHeld =>
    intro r p s _ hacc hself hheld
    exact ⟨_, exec_tokenTake r p s,
      writeToken_accepted (htakeByte p ▸ hacc) (tokenCommand_take_held (hport p) hself hheld)⟩
  case takeOther =>
    intro r p s _ hacc hself htaken hother
    exact ⟨_, exec_tokenTake r p s,
      writeToken_refused (htakeByte p ▸ hacc) (tokenCommand_take_other (hport p) hself htaken hother) (by decide)⟩
  case takeForeign =>
    intro r p s _ hacc hforeign
    exact ⟨_, exec_tokenTake r p s,
      writeToken_refused (htakeByte p ▸ hacc) (tokenCommand_take_foreign (hport p) hforeign) (by decide)⟩
  case release =>
    intro r s hr hacc hheld
    exact ⟨_, exec_tokenRelease r s, writeToken_accepted hacc (tokenCommand_release hr hheld)⟩
  case releaseNotHolder =>
    intro r s _ hacc hother
    exact ⟨_, exec_tokenRelease r s,
      writeToken_refused hacc (tokenCommand_give_notHolder (by decide) hother) (by decide)⟩
  case handover =>
    intro r p s hr hacc hheld
    have hnew : 0x81 + p % 3 - 0x80 = p % 3 + 1 := by omega
    exact ⟨_, exec_tokenHandover r p s, hnew ▸
      writeToken_accepted (hgiveByte p ▸ hacc) (tokenCommand_handover hr (Nat.le_add_right _ _) hheld)⟩
  case handoverNotHolder =>
    intro r p s _ hacc hother
    exact ⟨_, exec_tokenHandover r p s,
      writeToken_refused (hgiveByte p ▸ hacc) (tokenCommand_give_notHolder (hgive p) hother) (by decide)⟩

/-! ### Reads of FIFO objects (R357, R358) -/

@[simp] theorem touch_fifos (s : State) (r : Requester) : (s.touch r).fifos = s.fifos := by
  unfold State.touch
  split
  · dsimp only
    split <;> rfl
  · rfl

@[simp] theorem touch_answer (s : State) (r : Requester) : (s.touch r).answer = s.answer := by
  unfold State.touch
  split
  · dsimp only
    split <;> rfl
  · rfl

/-- A permitted read of a FIFO object is a read of its FIFO, counted as activity of the reader. -/
theorem readAs_of_fifoKey {s : State} {r : Requester} {key : Nat} (hjudge : s.judgeRead r key = 0)
    (hkey : fifoKey key = true) (stale again : Bool) (limit beyond : Nat) :
    s.readAs r key stale again limit beyond = (s.readFifo r key again limit beyond).touch r := by
  simp [State.readAs, hjudge, hkey]

section
variable {r : Requester} {key limit beyond : Nat} {s : State}

/-- The port that consumed last is answered with the data and the read number it had, and nothing else changes. -/
theorem readFifo_repeat (hlast : (s.fifo key).last ≠ []) (hport : (s.fifo key).lastPort = readerNo r)
    (hfits : (s.fifo key).last.length ≤ limit) :
    s.readFifo r key true limit beyond = { s with answer := ⟨0, (s.fifo key).last, (s.fifo key).readNo, false⟩ } := by
  simp [State.readFifo, hlast, hport, hfits]

/-- A repeat of what another reader consumed, or of nothing, is refused with REPEAT_UNAVAILABLE. -/
theorem readFifo_repeat_unavailable (h : (s.fifo key).last = [] ∨ (s.fifo key).lastPort ≠ readerNo r) :
    s.readFifo r key true limit beyond = s.reply 0x010D [] := by
  simp [State.readFifo, h]

/-- A read of a FIFO that is no ring takes the oldest record alone (R371). -/
theorem takeRecords_oldest {b : Bytes} (rest : List Bytes) (hfits : b.length ≤ limit) :
    takeRecords false limit (b :: rest) = some (b, rest) := by
  simp [takeRecords, hfits]

/-- A read that consumes a record keeps it, with its reader, for a repeat. -/
theorem readFifo_keeps_consumed {b : Bytes} {rest : List Bytes} (hring : ringKey key = false)
    (hrecs : (s.fifo key).recs = b :: rest) (hb : b ≠ []) (hfits : b.length ≤ limit) :
    (s.readFifo r key false limit beyond).fifos =
      (s.setFifo key ⟨rest, ((s.fifo key).readNo + 1) % 65536, readerNo r, b⟩).fifos := by
  simp [State.readFifo, hring, hrecs, takeRecords_oldest rest hfits, hb]

end

theorem exec_fifoRepeatRead {r : Requester} {i j n : Nat} {s : State} (hjudge : s.judgeRead r (obj i j) = 0)
    (hkey : fifoKey (obj i j) = true) :
    exec (.fifoRepeatRead r i j n) s = .next ((s.readFifo r (obj i j) true n 0x1901).touch r) := by
  show execFifoRepeatRead r i j n s = _
  rw [execFifoRepeatRead, if_pos hkey, readAs_of_fifoKey hjudge hkey]

theorem exec_fifoRead {r : Requester} {i j n : Nat} {s : State} (hjudge : s.judgeRead r (obj i j) = 0)
    (hkey : fifoKey (obj i j) = true) (hring : ringKey (obj i j) = false) :
    exec (.fifoRead r i j n) s = .next ((s.readFifo r (obj i j) false n 0x1901).touch r) := by
  show execFifoRead r i j n s = _
  rw [execFifoRead, if_pos (by simp [hkey, hring]), readAs_of_fifoKey hjudge hkey]

/-- Settles O56: a repeat answers from what the last consuming read kept, and a consuming read keeps its record and reader. -/
theorem repeatReadsLast : Obligations.RepeatReadsLast := by
  unfold Obligations.RepeatReadsLast
  refine ⟨?repeated, ?unavailable, ?consumed⟩
  case repeated =>
    intro r i j n s hjudge hkey hlast hport hfits
    refine ⟨_, exec_fifoRepeatRead hjudge hkey, ?_⟩
    rw [readFifo_repeat hlast hport hfits]
    simp
  case unavailable =>
    intro r i j n s hjudge hkey hnone
    refine ⟨_, exec_fifoRepeatRead hjudge hkey, ?_⟩
    rw [readFifo_repeat_unavailable hnone]
    simp [State.reply]
  case consumed =>
    intro r i j n b rest s hjudge hkey hring hrecs hb hfits
    refine ⟨_, exec_fifoRead hjudge hkey hring, ?_⟩
    have hkept := readFifo_keeps_consumed (r := r) (beyond := 0x1901) hring hrecs hb hfits
    have hfifo : ((s.readFifo r (obj i j) false n 0x1901).touch r).fifo (obj i j) =
        ⟨rest, ((s.fifo (obj i j)).readNo + 1) % 65536, readerNo r, b⟩ := by
      rw [State.fifo, touch_fifos, hkept]
      exact (setFifo_fifo _ _ s _).trans (if_pos rfl)
    simp [hfifo]

end Sys2Proof.Machine
end

section
/-!
PROOFS. A request acts once (R366, R378): the kept response of a port, and what one request frame does with it.
-/
namespace Sys2Proof.Machine

/-! ### Ports whose map is unchanged -/

theorem port_of_ports_eq {s t : State} (h : t.ports = s.ports) (p : Nat) : t.port p = s.port p := by
  unfold State.port
  rw [h]

@[simp] theorem setCvUnit_ports (u : Nat) (c : Cv) (s : State) : (s.setCvUnit u c).ports = s.ports := rfl

@[simp] theorem showCv_ports (u : Nat) (s : State) : (s.showCv u).ports = s.ports := by
  unfold State.showCv
  split <;> simp

/-- A stream through a unit replaces the unit's record and counts its bytes; a switch of contexts is counted as well (R408). -/
theorem cvStream_eq (u master : Nat) (b : Bytes) (s : State) : ∃ c t,
    (t = s.setCvUnit u c ∨ t = (s.setCvUnit u c).bump (cvk u 5)) ∧
      s.cvStream u master b = (t.bumpBy (cvk u 4) b.length).showCv u := by
  unfold State.cvStream
  dsimp only
  split
  · exact ⟨_, _, .inl rfl, rfl⟩
  · split
    · exact ⟨_, _, .inl rfl, rfl⟩
    · exact ⟨_, _, .inr rfl, rfl⟩

@[simp] theorem cvStream_ports (u master : Nat) (b : Bytes) (s : State) : (s.cvStream u master b).ports = s.ports := by
  obtain ⟨c, t, rfl | rfl, hstream⟩ := cvStream_eq u master b s <;> simp [hstream]

@[simp] theorem cvClose_ports (u master : Nat) (s : State) : (s.cvClose u master).ports = s.ports := by
  unfold State.cvClose
  dsimp only
  split
  · split
    · simp
    · split
      · split <;> rfl
      · rfl
  · rfl

@[simp] theorem feedCv_ports (p : Nat) (b : Bytes) (s : State) : (s.feedCv p b).ports = s.ports := by
  unfold State.feedCv
  split <;> simp

@[simp] theorem leaveCv_ports (p : Nat) (s : State) : (s.leaveCv p).ports = s.ports := by
  unfold State.leaveCv
  split <;> simp

@[simp] theorem touch_ports (r : Requester) (s : State) : (s.touch r).ports = s.ports := by
  unfold State.touch
  split
  · dsimp only
    split <;> rfl
  · rfl

@[simp] theorem refreshSync_ports (s : State) : s.refreshSync.ports = s.ports := by
  unfold State.refreshSync
  split <;> rfl

/-! ### Numbers that a stream through a check-value unit leaves -/

/-- Bytes streamed through a unit write no number below the units' own objects (R408). -/
theorem cvStream_nat (u master : Nat) (b : Bytes) (s : State) (j : Nat) (hj : j < 0x107000) :
    (s.cvStream u master b).nat j = s.nat j := by
  have hne (sub : Nat) : j ≠ cvk u sub := (hj.trans_le (cvk_ge u sub)).ne
  obtain ⟨c, t, rfl | rfl, hstream⟩ := cvStream_eq u master b s <;> simp [hstream, showCv_nat, hj, hne]

theorem feedCv_nat (p : Nat) (b : Bytes) (s : State) (j : Nat) (hj : j < 0x107000) : (s.feedCv p b).nat j = s.nat j := by
  unfold State.feedCv
  split
  · exact cvStream_nat _ _ b s j hj
  · rfl

/-! ### A response delivered, and a request answered (R366, R388) -/

/-- A frame sent on Quoin is added to what port 1 has sent, and to nothing else of any port (R370). -/
@[simp] theorem sendCan_port (b : Bytes) (s : State) (j : Nat) : (s.sendCan b).port j =
    if j = 1 then { s.port 1 with out := (s.port 1).out ++ [padTo (canLength b.length) b] } else s.port j := by
  rw [← setPort_port]
  exact port_of_ports_eq rfl j

@[simp] theorem deliver_val (p : Nat) (b : Bytes) (s : State) (j : Nat) : (s.deliver p b).val j = s.val j := by
  unfold State.deliver
  split <;> rfl

@[simp] theorem deliver_kept (p : Nat) (b : Bytes) (s : State) : ((s.deliver p b).port p).kept = (s.port p).kept := by
  unfold State.deliver
  split
  · subst p
    simp
  · simp

@[simp] theorem deliver_transfer (p : Nat) (b : Bytes) (s : State) :
    ((s.deliver p b).port p).transfer = (s.port p).transfer := by
  unfold State.deliver
  split
  · subst p
    simp
  · simp

/-- An answered request leaves its sequence kept with the response that it got. -/
theorem answered_kept (p seq : Nat) (resp : Bytes) (s : State) :
    ((s.answered p seq resp).port p).kept = some (seq, resp) := by
  have hkept : (((s.setPort p { s.port p with kept := some (seq, resp) }).deliver p resp).port p).kept = some (seq, resp) := by
    simp
  unfold State.answered
  dsimp only
  split
  · rw [port_of_ports_eq (refreshSync_ports _), port_of_ports_eq (setNat_ports _ _ _)]
    exact hkept
  · exact hkept

/-- An answer to a frame of a matched kind leaves the frame's sequence kept (R378). -/
theorem answerFrame_kept_seq {kind : Nat} (hkind : matchedKind kind = true) (p seq code key flags readNo : Nat) (data : Bytes)
    (s : State) : ((s.answerFrame p kind seq code key flags readNo data).port p).kept.map (·.1) = some seq := by
  simp [State.answerFrame, hkind, answered_kept]

/-! ### The handlers of the matched kinds end in an answer (R366) -/

section
variable (p seq : Nat) (f : Bytes) (s : State)

theorem frameWrite_kept_seq : ((s.frameWrite p seq f).port p).kept.map (·.1) = some seq := by
  unfold State.frameWrite
  dsimp only
  split_ifs <;> exact answerFrame_kept_seq rfl ..

theorem frameInitiateRead_kept_seq : ((s.frameInitiateRead p seq f).port p).kept.map (·.1) = some seq := by
  unfold State.frameInitiateRead
  dsimp only
  split_ifs <;> exact answerFrame_kept_seq rfl ..

theorem frameInitiateWrite_kept_seq : ((s.frameInitiateWrite p seq f).port p).kept.map (·.1) = some seq := by
  unfold State.frameInitiateWrite
  dsimp only
  split_ifs <;> exact answerFrame_kept_seq rfl ..

theorem frameEnd_kept_seq : ((s.frameEnd p seq f).port p).kept.map (·.1) = some seq := by
  unfold State.frameEnd
  split
  · exact answerFrame_kept_seq rfl ..
  · dsimp only
    split_ifs <;> exact answerFrame_kept_seq rfl ..

end

/-! ### What one frame does -/

/-- What a request frame can do (R366, R371, R378): a repeat gets the kept response with flag bit 3; a frame of an unlisted kind, or
shorter than its kind needs, is refused; every other frame goes to the handler of its kind. -/
inductive State.FrameOutcome (p : Nat) (f : Bytes) (s : State) : State → Prop
  | repeated (b : Bytes) (hkept : (s.port p).kept = some (nthD f 1 0, b)) (hkind : matchedKind (nthD f 0 0) = true) :
      s.FrameOutcome p f (s.deliver p (b.take 7 ++ [setBit (nthD b 7 0) 3] ++ b.drop 8))
  | refused (code : Nat) : s.FrameOutcome p f (s.answerFrame p (nthD f 0 0) (nthD f 1 0) code 0 0 0 [])
  | read (hkind : nthD f 0 0 = 1) : s.FrameOutcome p f (s.frameRead p (nthD f 1 0) f)
  | write (hkind : nthD f 0 0 = 2) : s.FrameOutcome p f (s.frameWrite p (nthD f 1 0) f)
  | initiateRead (hkind : nthD f 0 0 = 3) : s.FrameOutcome p f (s.frameInitiateRead p (nthD f 1 0) f)
  | initiateWrite (hkind : nthD f 0 0 = 4) : s.FrameOutcome p f (s.frameInitiateWrite p (nthD f 1 0) f)
  | blockRequest (hkind : nthD f 0 0 = 5) : s.FrameOutcome p f (s.frameBlockRequest p (nthD f 1 0) f)
  | segment (hkind : nthD f 0 0 = 6) : s.FrameOutcome p f (s.frameSegment p (nthD f 1 0) f)
  | endTransfer (hkind : nthD f 0 0 = 7) : s.FrameOutcome p f (s.frameEnd p (nthD f 1 0) f)
  | abort (hkind : nthD f 0 0 = 8) : s.FrameOutcome p f (s.frameAbort p (nthD f 1 0))
  | sync (hkind : nthD f 0 0 = 15) : s.FrameOutcome p f (s.frameSync p (nthD f 1 0))

/-- The kinds that R371 lists. -/
theorem kind_of_leastLength {kind need : Nat} (h : leastLength kind = some need) : (1 ≤ kind ∧ kind ≤ 8) ∨ kind = 15 := by
  unfold leastLength at h
  split at h
  case h_10 => contradiction
  all_goals omega

theorem handleFrame_outcome (p : Nat) (f : Bytes) (s : State) : s.FrameOutcome p f (s.handleFrame p f) := by
  unfold State.handleFrame
  extract_lets kind seq kept openSegment
  have hrepeat (b : Bytes) (hb : kept = some b) : (s.port p).kept = some (seq, b) ∧ matchedKind kind = true := by
    simp only [kept] at hb
    grind
  clear_value kept
  cases kept with
  | some b =>
    obtain ⟨hkept, hkind⟩ := hrepeat b rfl
    exact .repeated b hkept hkind
  | none =>
    dsimp only
    split
    case h_1 => exact .refused _
    case h_2 need hneed =>
      split
      · exact .refused _
      · dsimp only [kind]
        split
        case h_1 h => exact .read h
        case h_2 h => exact .write h
        case h_3 h => exact .initiateRead h
        case h_4 h => exact .initiateWrite h
        case h_5 h => exact .blockRequest h
        case h_6 h => exact .segment h
        case h_7 h => exact .endTransfer h
        case h_8 h => exact .abort h
        case h_9 =>
          have := kind_of_leastLength hneed
          exact .sync (by grind)

/-- A frame that repeats the sequence of the last request answered is answered by the kept response, and nothing else happens. -/
theorem handleFrame_repeat {p : Nat} {f b : Bytes} {s : State} (hkind : matchedKind (nthD f 0 0) = true) (hlen : 2 ≤ f.length)
    (hkept : (s.port p).kept = some (nthD f 1 0, b)) :
    s.handleFrame p f = s.deliver p (b.take 7 ++ [setBit (nthD b 7 0) 3] ++ b.drop 8) := by
  simp [State.handleFrame, hkind, hlen, hkept]

/-- Whatever a frame of a matched kind does, its sequence is kept afterwards: a repeat leaves it, and every handler ends in an answer. -/
theorem State.FrameOutcome.kept_seq {p : Nat} {f : Bytes} {s t : State} (h : s.FrameOutcome p f t)
    (hkind : matchedKind (nthD f 0 0) = true) : (t.port p).kept.map (·.1) = some (nthD f 1 0) := by
  cases h with
  | repeated b hkept => simp [hkept]
  | refused code => exact answerFrame_kept_seq hkind ..
  | read => exact answerFrame_kept_seq (kind := 1) rfl ..
  | write => exact frameWrite_kept_seq ..
  | initiateRead => exact frameInitiateRead_kept_seq ..
  | initiateWrite => exact frameInitiateWrite_kept_seq ..
  | endTransfer => exact frameEnd_kept_seq ..
  | abort => exact answerFrame_kept_seq (kind := 8) rfl ..
  | blockRequest h | segment h | sync h => exact absurd hkind (by simp [h, matchedKind])

/-! ### Frames of the kinds that are not matched (R378) -/

/-- A port's kept response and the sequence shown for it are as they were. -/
def State.KeepsAnswer (p : Nat) (s t : State) : Prop :=
  (t.port p).kept = (s.port p).kept ∧ t.nat (obj 0x1020 p) = s.nat (obj 0x1020 p)

namespace State.KeepsAnswer

theorem refl (p : Nat) (s : State) : s.KeepsAnswer p s := ⟨rfl, rfl⟩

theorem trans {p : Nat} {s t u : State} (h : s.KeepsAnswer p t) (g : t.KeepsAnswer p u) : s.KeepsAnswer p u :=
  ⟨g.1.trans h.1, g.2.trans h.2⟩

end State.KeepsAnswer

theorem deliver_keepsAnswer (p : Nat) (b : Bytes) (s : State) : s.KeepsAnswer p (s.deliver p b) :=
  ⟨deliver_kept p b s, deliver_nat p b s _⟩

/-- A frame of an unmatched kind is answered without its response being kept. -/
theorem answerFrame_keepsAnswer {kind : Nat} (hkind : matchedKind kind = false) (p seq code key flags readNo : Nat)
    (data : Bytes) (s : State) : s.KeepsAnswer p (s.answerFrame p kind seq code key flags readNo data) := by
  rw [State.answerFrame, if_neg (by simp [hkind])]
  exact deliver_keepsAnswer ..

theorem deliverAll_keepsAnswer (p : Nat) (seg : Nat → Bytes) (is : List Nat) (s : State) :
    s.KeepsAnswer p (is.foldl (fun s i => s.deliver p (seg i)) s) := by
  induction is generalizing s with
  | nil => exact .refl p s
  | cons i is ih => exact (deliver_keepsAnswer p (seg i) s).trans (ih _)

theorem acknowledge_keepsAnswer (p : Nat) (t : Transfer) (next : Nat) (s : State) : s.KeepsAnswer p (s.acknowledge p t next) :=
  deliver_keepsAnswer ..

theorem setTransfer_keepsAnswer (p : Nat) (o : Option Transfer) (s : State) :
    s.KeepsAnswer p (s.setPort p { s.port p with transfer := o }) :=
  ⟨by simp, rfl⟩

section
variable {p : Nat} (hp : p ≤ 3)
include hp

/-- The key of the sequence that a host port shows lies among 0x1020:00 to :03 (R366). -/
theorem shownSeq_range : 0x102000 ≤ obj 0x1020 p ∧ obj 0x1020 p ≤ 0x102003 := by
  unfold obj
  omega

theorem bump_keepsAnswer {k : Nat} (hk : 0x102003 < k) (s : State) : s.KeepsAnswer p (s.bump k) := by
  have := shownSeq_range hp
  exact ⟨by rw [port_of_ports_eq (bump_ports k s)], by rw [bump_nat, if_neg (by omega)]⟩

theorem touch_keepsAnswer (r : Requester) (s : State) : s.KeepsAnswer p (s.touch r) := by
  have := shownSeq_range hp
  exact ⟨by rw [port_of_ports_eq (touch_ports r s)], touch_nat s r _ (by omega)⟩

theorem feedCv_keepsAnswer (b : Bytes) (s : State) : s.KeepsAnswer p (s.feedCv p b) := by
  have := shownSeq_range hp
  exact ⟨by rw [port_of_ports_eq (feedCv_ports p b s)], feedCv_nat p b s _ (by omega)⟩

theorem leaveCv_keepsAnswer (s : State) : s.KeepsAnswer p (s.leaveCv p) := by
  have := shownSeq_range hp
  exact ⟨by rw [port_of_ports_eq (leaveCv_ports p s)], leaveCv_nat p s _ (by omega)⟩

theorem transferSeen_keepsAnswer (t : Transfer) (s : State) : s.KeepsAnswer p (s.transferSeen p t) :=
  (setTransfer_keepsAnswer ..).trans (touch_keepsAnswer hp _ _)

theorem closeTransfer_keepsAnswer (applied : Bool) (s : State) : s.KeepsAnswer p (s.closeTransfer p applied) := by
  unfold State.closeTransfer
  split
  · exact .refl p s
  · have hclosed := (setTransfer_keepsAnswer p none s).trans (leaveCv_keepsAnswer hp _)
    cases applied
    · exact hclosed.trans (bump_keepsAnswer hp (by decide) _)
    · exact hclosed

theorem failTransfer_keepsAnswer (code : Nat) (s : State) : s.KeepsAnswer p (s.failTransfer p code) := by
  unfold State.failTransfer
  split
  · exact .refl p s
  · exact (deliver_keepsAnswer ..).trans (closeTransfer_keepsAnswer hp _ _)

theorem dropSegment_keepsAnswer (s : State) : s.KeepsAnswer p s.dropSegment := bump_keepsAnswer hp (by decide) s

theorem frameBlockRequest_keepsAnswer (seq : Nat) (f : Bytes) (s : State) : s.KeepsAnswer p (s.frameBlockRequest p seq f) := by
  unfold State.frameBlockRequest
  split
  · exact dropSegment_keepsAnswer hp s
  · dsimp only
    split_ifs
    · exact dropSegment_keepsAnswer hp s
    · exact answerFrame_keepsAnswer rfl ..
    · exact answerFrame_keepsAnswer rfl ..
    · exact (transferSeen_keepsAnswer hp _ s).trans (deliverAll_keepsAnswer ..)

theorem frameSegment_keepsAnswer (seq : Nat) (f : Bytes) (s : State) : s.KeepsAnswer p (s.frameSegment p seq f) := by
  unfold State.frameSegment
  split
  · exact dropSegment_keepsAnswer hp s
  next t _ =>
    have hseen := transferSeen_keepsAnswer hp t s
    have htaken (r : Transfer) (d : Bytes) :=
      hseen.trans ((setTransfer_keepsAnswer p (some r) _).trans (feedCv_keepsAnswer hp d _))
    dsimp only
    split_ifs
    · exact dropSegment_keepsAnswer hp s
    · exact hseen.trans (failTransfer_keepsAnswer hp _ _)
    · exact hseen.trans (acknowledge_keepsAnswer ..)
    · exact hseen
    · exact hseen.trans (failTransfer_keepsAnswer hp _ _)
    · exact hseen.trans (failTransfer_keepsAnswer hp _ _)
    · exact (htaken _ _).trans (acknowledge_keepsAnswer ..)
    · exact htaken _ _

/-- A segment, a block request, a Sync, and a refused frame leave a port's kept response and the sequence it shows. -/
theorem State.FrameOutcome.keepsAnswer {f : Bytes} {s t : State} (h : s.FrameOutcome p f t)
    (hkind : matchedKind (nthD f 0 0) = false) : s.KeepsAnswer p t := by
  cases h with
  | repeated => exact deliver_keepsAnswer ..
  | refused code => exact answerFrame_keepsAnswer hkind ..
  | blockRequest => exact frameBlockRequest_keepsAnswer hp ..
  | segment => exact frameSegment_keepsAnswer hp ..
  | sync => exact answerFrame_keepsAnswer rfl ..
  | read h | write h | initiateRead h | initiateWrite h | endTransfer h | abort h =>
    exact absurd hkind (by simp [h, matchedKind])

end

/-! ### A Write on Quoin -/

/-- A request frame taken on Quoin, before it is acted on: what the port sent before is forgotten, and the frame is counted (R370). -/
def State.quoinTaken (s : State) : State :=
  ({ s.clearOut 1 with quoin := { s.quoin with activeAt := s.gnomon } } : State).bump 0x104102

theorem exec_quoinWrite (good : Bool) (seq : Nat) (body : Bytes) (s : State) :
    exec (.quoinWrite good seq body) s = .next (s.quoinFrame 2 good seq body) := rfl

theorem quoinFrame_served {s : State} (h : s.QuoinServes) (kind seq : Nat) (body : Bytes) :
    s.quoinFrame kind true seq body = s.quoinTaken.handleFrame 1 (kind :: seq % 256 :: body) := by
  unfold State.quoinFrame
  dsimp only
  rw [if_neg (by omega), if_neg (by simp; omega)]
  rfl

theorem quoinTaken_port (s : State) : s.quoinTaken.port 1 = { s.port 1 with out := [] } :=
  (port_of_ports_eq (t := s.quoinTaken) (s := s.clearOut 1) rfl 1).trans ((setPort_port 1 _ s 1).trans (if_pos rfl))

/-- Sending a response to a frame taken on Quoin changes only the ports' records, the controller's activity and the count of requests. -/
theorem quoinTaken_deliver_frame (b : Bytes) (s : State) : s.quoinTaken.deliver 1 b =
    { s with ports := (s.quoinTaken.deliver 1 b).ports, quoin := (s.quoinTaken.deliver 1 b).quoin,
             dict := (s.quoinTaken.deliver 1 b).dict } := rfl

theorem quoinTaken_val {k : Nat} (hk : k ≠ 0x104102) (s : State) : s.quoinTaken.val k = s.val k :=
  (setNat_val _ _ _ k).trans (if_neg hk)

theorem quoinTaken_deliver_keepsOutside (b : Bytes) (s : State) :
    s.KeepsOutside (s.quoinTaken.deliver 1 b) [(0x1041, 0x1041)] := by
  intro k _ hrange
  have hk : k ≠ 0x104102 := by
    rintro rfl
    exact hrange _ (List.mem_singleton.2 rfl) (by decide)
  rw [deliver_val, quoinTaken_val hk]

/-- Settles O58: each handler of a matched kind ends in an answer that is kept, no other kind keeps one, and a frame whose sequence is kept
is answered before any handler sees it. -/
theorem requestActsOnce : Obligations.RequestActsOnce := by
  unfold Obligations.RequestActsOnce
  refine ⟨?repeated, ?kept, ?unmatched, ?secondWrite⟩
  case repeated =>
    intro p f b s hkind hlen hkept
    have hsame := handleFrame_repeat hkind hlen hkept
    exact ⟨hsame, by rw [hsame, deliver_transfer]⟩
  case kept =>
    intro p f s hkind _
    exact (handleFrame_outcome p f s).kept_seq hkind
  case unmatched =>
    intro p f s hkind _ hp
    exact (handleFrame_outcome p f s).keepsAnswer hp hkind
  case secondWrite =>
    intro seq body s t _ hs ht hexec
    rw [exec_quoinWrite, quoinFrame_served hs] at hexec
    obtain rfl := Host.Outcome.next.inj hexec
    have hseq := (handleFrame_outcome 1 (2 :: seq % 256 :: body) s.quoinTaken).kept_seq rfl
    set t := s.quoinTaken.handleFrame 1 (2 :: seq % 256 :: body)
    obtain ⟨⟨_, b⟩, hkept, rfl⟩ := Option.map_eq_some_iff.1 hseq
    have hagain := handleFrame_repeat (f := 2 :: seq % 256 :: body) (s := t.quoinTaken) rfl (by simp)
      ((congrArg Port.kept (quoinTaken_port t)).trans hkept)
    refine ⟨_, exec_quoinWrite .., ?_⟩
    rw [quoinFrame_served ht, hagain]
    exact ⟨quoinTaken_deliver_frame _ t, quoinTaken_deliver_keepsOutside _ t,
      by rw [deliver_transfer, quoinTaken_port]⟩

end Sys2Proof.Machine
end

section
/-!
PROOFS. An item is consumed only when all of it is clocked (R391): what the two-wire Block Reads and the SPI reads leave of a port's items.
-/
namespace Sys2Proof.Machine

/-- A port's items are as they were: the unread responses and segments, the item and the block of events consumed last, and the events
that wait. -/
structure State.KeepsItems (p : Nat) (s t : State) : Prop where
  unread : (t.port p).unread = (s.port p).unread
  lastItem : (t.port p).lastItem = (s.port p).lastItem
  lastEvents : (t.port p).lastEvents = (s.port p).lastEvents
  events : t.events = s.events

namespace State.KeepsItems

theorem refl (p : Nat) (s : State) : s.KeepsItems p s := ⟨rfl, rfl, rfl, rfl⟩

theorem trans {p : Nat} {s t u : State} (h : s.KeepsItems p t) (g : t.KeepsItems p u) : s.KeepsItems p u :=
  ⟨g.unread.trans h.unread, g.lastItem.trans h.lastItem, g.lastEvents.trans h.lastEvents, g.events.trans h.events⟩

/-- What writes neither the ports nor the events leaves the items. -/
theorem of_ports {p : Nat} {s t : State} (hports : t.ports = s.ports) (hevents : t.events = s.events) : s.KeepsItems p t := by
  have hport := port_of_ports_eq hports p
  exact ⟨by rw [hport], by rw [hport], by rw [hport], hevents⟩

/-- A port's record replaced by one with the same items leaves the items. -/
theorem of_setPort {p : Nat} {s : State} {r : Port} (hunread : r.unread = (s.port p).unread) (hitem : r.lastItem = (s.port p).lastItem)
    (hevents : r.lastEvents = (s.port p).lastEvents) : s.KeepsItems p (s.setPort p r) :=
  ⟨by simp [hunread], by simp [hitem], by simp [hevents], rfl⟩

end State.KeepsItems

/-! ### What leaves a port's items -/

section
variable (p : Nat) (s : State)

theorem bump_keepsItems (k : Nat) : s.KeepsItems p (s.bump k) := .of_ports rfl rfl

theorem clearOut_keepsItems : s.KeepsItems p (s.clearOut p) := .of_setPort rfl rfl rfl

theorem sendOut_keepsItems (b : List Bytes) : s.KeepsItems p (s.sendOut p b) := .of_setPort rfl rfl rfl

theorem clearStatus_keepsItems : s.KeepsItems p (s.clearStatus p) := .of_setPort rfl rfl rfl

theorem spiOut_keepsItems (b : Bytes) : s.KeepsItems p (s.spiOut p b) := .of_setPort rfl rfl rfl

theorem spiByte0_keepsItems : s.KeepsItems p (s.spiByte0 p) := (sendOut_keepsItems p s _).trans (clearStatus_keepsItems p _)

theorem spiCount_keepsItems (sub : Nat) : s.KeepsItems p (s.spiCount p sub) := by
  unfold State.spiCount
  split
  · exact bump_keepsItems p s _
  · exact .refl p s

/-- A dropped frame sets the port's Error and consumes nothing. -/
theorem frameError_keepsItems (key : Nat) : s.KeepsItems p (s.frameError p key) := by
  unfold State.frameError
  split
  · exact .of_setPort rfl rfl rfl
  · exact (bump_keepsItems p s key).trans (.of_setPort rfl rfl rfl)

theorem twoWireSeen_keepsItems : s.KeepsItems p s.twoWireSeen := .of_ports rfl rfl

theorem twoWireDone_keepsItems : s.KeepsItems p s.twoWireDone := .of_ports rfl rfl

theorem twoWireSettle_keepsItems : s.KeepsItems p s.twoWireSettle := .of_ports rfl rfl

end

/-! ### The two-wire Block Reads (R391, R392, R394) -/

/-- An item as a Block Read carries it: its count and its bytes, or the empty form (R392). -/
def blockForm (item : Bytes) : Bytes := if item.isEmpty then [1, 0] else item.length :: item

theorem blockForm_eq (item : Bytes) : blockForm item = if item = [] then [1, 0] else item.length :: item := by
  simp [blockForm]

/-- A Block Read of a command as far as the item has gone out, with the PEC of R394 where the host clocks it. -/
def State.blockSent (command : Nat) (item : Bytes) (pec : Bool) (s : State) : State :=
  (s.clearOut 2).twoWireSeen.sendOut 2
    [if pec then
      blockForm item ++ crc8 ([2 * s.nat 0x105001, command, 2 * s.nat 0x105001 + 1] ++ blockForm item)
    else blockForm item]

theorem blockSent_out (command : Nat) (item : Bytes) (s : State) : ((s.blockSent command item true).port 2).out =
    [blockForm item ++ crc8 ([2 * s.nat 0x105001, command, 2 * s.nat 0x105001 + 1] ++ blockForm item)] := by
  simp [State.blockSent, State.sendOut]

theorem twoWireSettle_out (s : State) : (s.twoWireSettle.port 2).out = (s.port 2).out := rfl

theorem twoWireDone_out (s : State) : (s.twoWireDone.port 2).out = (s.port 2).out := rfl

theorem twoWireDone_nat {k : Nat} (hk : k ≠ 0x105101) (s : State) : s.twoWireDone.nat k = s.nat k :=
  (bump_nat 0x105101 s k).trans (if_neg hk)

theorem blockSent_keepsItems (command : Nat) (item : Bytes) (pec : Bool) (s : State) :
    s.KeepsItems 2 (s.blockSent command item pec) :=
  ((clearOut_keepsItems 2 s).trans (twoWireSeen_keepsItems 2 _)).trans (sendOut_keepsItems 2 _ _)

/-- What a Block Read of a served command does with its item out: nothing where it ended earlier, the transaction counted where the PEC that
the mode requires is missing, and else what the command takes as well (R391). -/
def State.blockEnd (take : State → State) (taken pec : Bool) (s : State) : State :=
  match taken with
  | true => if s.nat 0x105002 = 0 ∨ pec = true then (take s.twoWireDone).twoWireSettle else s.twoWireDone
  | false => s

/-- The Block Read of R392 by its cases: the target does not answer, PARKED refuses it, or the item goes out. -/
theorem blockRead_eq (command : Nat) (item : Bytes) (take : State → State) (taken pec : Bool) (s : State) :
    s.blockRead command item take taken pec =
      if s.twoWireAcks = false then s
      else if s.mode = .parked then (s.clearOut 2).twoWireSeen.bump 0x105103
      else (s.blockSent command item (taken && pec)).blockEnd take taken pec := by
  have hclocked (u : State) : (true && (u.twoWireDone.nat 0x105002 == 0 || pec)) = true ↔ u.nat 0x105002 = 0 ∨ pec = true := by
    simp [twoWireDone_nat]
  have hrefused : (!s.twoWireAcks) = true ↔ s.twoWireAcks = false := by simp
  cases taken with
  | false => exact if_congr hrefused rfl rfl
  | true => exact if_congr hrefused rfl (if_congr .rfl rfl (if_congr (hclocked _) rfl rfl))

/-- A Block Read consumes nothing where the host did not clock all of it, its PEC included where the mode requires one, nor where its
command takes nothing. -/
theorem blockRead_keepsItems {taken pec : Bool} {take : State → State} {s : State}
    (h : (taken = false ∨ (s.nat 0x105002 ≠ 0 ∧ pec = false)) ∨ ∀ u : State, u.KeepsItems 2 (take u)) (command : Nat) (item : Bytes) :
    s.KeepsItems 2 (s.blockRead command item take taken pec) := by
  have hsent := blockSent_keepsItems command item (taken && pec) s
  have hdone := hsent.trans (twoWireDone_keepsItems 2 _)
  rw [blockRead_eq]
  unfold State.blockEnd
  split
  · exact .refl 2 s
  split
  · exact ((clearOut_keepsItems 2 s).trans (twoWireSeen_keepsItems 2 _)).trans (bump_keepsItems 2 _ _)
  cases taken with
  | false => exact hsent
  | true =>
    dsimp only
    split
    case isFalse => exact hdone
    case isTrue hclocked =>
      have htakes : ∀ u : State, u.KeepsItems 2 (take u) := by
        refine h.resolve_left ?_
        rintro (hcut | ⟨hrequired, hnone⟩)
        · cases hcut
        · exact hclocked.elim hrequired (by simp [hnone])
      exact (hdone.trans (htakes _)).trans (twoWireSettle_keepsItems 2 _)

/-- A repeat that the host clocks whole sends its item with the PEC. -/
theorem blockRead_repeat_out {s : State} (hacks : s.twoWireAcks = true) (hmode : s.mode ≠ .parked) (command : Nat) (item : Bytes) :
    ((s.blockRead command item id true true).port 2).out =
      [blockForm item ++ crc8 ([2 * s.nat 0x105001, command, 2 * s.nat 0x105001 + 1] ++ blockForm item)] := by
  rw [blockRead_eq, if_neg (by simp [hacks]), if_neg hmode, State.blockEnd, if_pos (.inr rfl), id, twoWireSettle_out,
    twoWireDone_out, Bool.and_self, blockSent_out]

/-! ### The SPI reads (R391, R401 to R403) -/

/-- An SPI read consumes nothing where the host did not clock all of it, nor where its operation takes nothing. -/
theorem spiRead_keepsItems {taken : Bool} {take : State → State} (p : Nat)
    (h : taken = false ∨ ∀ u : State, u.KeepsItems p (take u)) (header : Bool) (length : Nat) (item : Bytes) (s : State) :
    s.KeepsItems p (s.spiRead p header length item take taken) := by
  unfold State.spiRead
  dsimp only
  split
  · exact frameError_keepsItems p s _
  split
  case isFalse => exact spiOut_keepsItems p s _
  case isTrue hwhole =>
    have htakes : ∀ u : State, u.KeepsItems p (take u) := h.resolve_left fun hcut => by simp [hcut] at hwhole
    exact (spiOut_keepsItems p s _).trans (htakes _)

/-- An SPI operation other than a REQUEST that is not clocked whole, or is a repeat, consumes nothing. -/
theorem spiOperation_keepsItems {command : Nat} {taken : Bool} (hread : command % 16 ≠ 1) (h : taken = false ∨ 4 ≤ command % 16)
    (p length check : Nat) (rest : Bytes) (s : State) : s.KeepsItems p (s.spiOperation p command length check rest taken) := by
  unfold State.spiOperation
  dsimp only
  split
  case h_1 heq => exact absurd heq hread
  case h_2 heq => exact spiRead_keepsItems p (.inl (h.resolve_right (by omega))) ..
  case h_3 heq => exact spiRead_keepsItems p (.inl (h.resolve_right (by omega))) ..
  case h_4 => exact spiRead_keepsItems p (.inr (.refl p)) ..
  case h_5 => exact spiRead_keepsItems p (.inr (.refl p)) ..
  case h_6 => exact frameError_keepsItems p s _

/-- An SPI frame at a port before its operation is acted on: byte 0 has gone out, and the frame is counted (R401). -/
def State.spiTaken (s : State) : State := (s.spiByte0 3).spiCount 3 1

theorem spiTaken_keepsItems (s : State) : s.KeepsItems 3 s.spiTaken :=
  (spiByte0_keepsItems 3 s).trans (spiCount_keepsItems 3 _ 1)

theorem spiTaken_out (s : State) : (s.spiTaken.port 3).out = [[s.portStatus 3]] := by
  simp [State.spiTaken, State.spiCount, State.spiByte0, State.clearStatus, State.sendOut, port_of_ports_eq (bump_ports _ _)]

/-- The SPI port by its cases: unpowered it takes no frame, before ready it drops one, and else the operation is acted on. -/
theorem spiPort_eq (operation flags length check : Nat) (rest : Bytes) (taken : Bool) (s : State) :
    s.spiPort operation flags length check rest taken =
      if s.spiPowered = false then s
      else if s.portReady = true then s.spiTaken.spiOperation 3 (16 * flags + operation) length check rest taken
      else s.spiTaken.spiCount 3 5 := by
  unfold State.spiPort State.spiFrame
  cases s.spiPowered <;> cases s.portReady <;> rfl

/-- A frame at the SPI port that is no REQUEST and is not clocked whole, or is a repeat, consumes nothing. -/
theorem spiPort_keepsItems {operation : Nat} {taken : Bool} (hread : 2 ≤ operation ∧ operation < 16) (h : taken = false ∨ 4 ≤ operation)
    (flags length check : Nat) (rest : Bytes) (s : State) :
    s.KeepsItems 3 (s.spiPort operation flags length check rest taken) := by
  have hop : (16 * flags + operation) % 16 = operation := by omega
  rw [spiPort_eq]
  split
  · exact .refl 3 s
  split
  · exact (spiTaken_keepsItems s).trans (spiOperation_keepsItems (by omega) (by rwa [hop]) ..)
  · exact (spiTaken_keepsItems s).trans (spiCount_keepsItems 3 _ 5)

/-- A repeat whose item fits the host's length sends the count, the item and their check byte. -/
theorem spiRead_repeat_out {length : Nat} {item : Bytes} (hfits : item.length ≤ length) (hlength : length ≤ 1028) (p : Nat) (s : State) :
    ((s.spiRead p true length item id true).port p).out =
      (s.port p).out ++ [leNat 2 item.length ++ item ++ crc8 (leNat 2 item.length ++ item)] := by
  have hlength' : ¬1028 < length := by omega
  simp [State.spiRead, State.spiOut, hfits, hlength']

theorem spiOperation_responseRepeat {command : Nat} (hop : command % 16 = 4) (p length check : Nat) (rest : Bytes) (taken : Bool)
    (s : State) : s.spiOperation p command length check rest taken =
      s.spiRead p (headerGood command length check) length (s.port p).lastItem id taken := by
  simp only [State.spiOperation, hop]

theorem spiOperation_eventsRepeat {command : Nat} (hop : command % 16 = 5) (p length check : Nat) (rest : Bytes) (taken : Bool)
    (s : State) : s.spiOperation p command length check rest taken =
      s.spiRead p (headerGood command length check) length (s.port p).lastEvents id taken := by
  simp only [State.spiOperation, hop]

/-- The header check that fits a command of R401 and a length. -/
theorem headerGood_of_check {command : Nat} (hcommand : command < 32) (length : Nat) :
    headerGood command length (crcOf 2 (command :: leNat 2 length)) = true := by
  simp [headerGood, hcommand]

section
variable {quad n : Nat} {s : State} (hquad : quad ≤ 1) (hpowered : s.spiPowered = true) (hready : s.portReady = true) (hn : n ≤ 1028)
include hquad hpowered hready hn

/-- A response repeat with a good header sends, after its status, the item consumed last. -/
theorem spiPort_responseRepeat_out (hfits : (s.port 3).lastItem.length ≤ n) :
    ((s.spiPort 4 quad n (crcOf 2 ((16 * quad + 4) :: leNat 2 n)) [] true).port 3).out = [[s.portStatus 3],
      leNat 2 (s.port 3).lastItem.length ++ (s.port 3).lastItem ++ crc8 (leNat 2 (s.port 3).lastItem.length ++ (s.port 3).lastItem)] := by
  rw [spiPort_eq, if_neg (by simp [hpowered]), if_pos hready, spiOperation_responseRepeat (by omega), headerGood_of_check (by omega),
    (spiTaken_keepsItems s).lastItem, spiRead_repeat_out hfits hn, spiTaken_out, List.singleton_append]

/-- An events repeat with a good header sends, after its status, the block consumed last. -/
theorem spiPort_eventsRepeat_out (hfits : (s.port 3).lastEvents.length ≤ n) :
    ((s.spiPort 5 quad n (crcOf 2 ((16 * quad + 5) :: leNat 2 n)) [] true).port 3).out = [[s.portStatus 3],
      leNat 2 (s.port 3).lastEvents.length ++ (s.port 3).lastEvents ++
        crc8 (leNat 2 (s.port 3).lastEvents.length ++ (s.port 3).lastEvents)] := by
  rw [spiPort_eq, if_neg (by simp [hpowered]), if_pos hready, spiOperation_eventsRepeat (by omega), headerGood_of_check (by omega),
    (spiTaken_keepsItems s).lastEvents, spiRead_repeat_out hfits hn, spiTaken_out, List.singleton_append]

end

/-! ### The reads as commands -/

theorem exec_twoWireResponse (taken pec : Bool) (s : State) : exec (.twoWireResponse taken pec) s =
    .next (s.blockRead 0x11 ((s.port 2).unread.head?.getD []) (State.consumeResponse 2) taken pec) := rfl

theorem exec_twoWireEvents (taken pec : Bool) (s : State) : exec (.twoWireEvents taken pec) s =
    .next (s.blockRead 0x12 (eventBlock 7 s.events.twoWireQ) (State.consumeEvents 2 7) taken pec) := rfl

theorem exec_twoWireResponseRepeat (taken : Bool) (s : State) : exec (.twoWireResponseRepeat taken) s =
    .next (s.blockRead 0x13 (s.port 2).lastItem id taken true) := rfl

theorem exec_twoWireEventsRepeat (taken : Bool) (s : State) : exec (.twoWireEventsRepeat taken) s =
    .next (s.blockRead 0x14 (s.port 2).lastEvents id taken true) := rfl

theorem exec_spiResponse (flags length check : Nat) (taken : Bool) (s : State) :
    exec (.spiResponse flags length check taken) s = .next (s.spiPort 2 flags length check [] taken) := rfl

theorem exec_spiEvents (flags length check : Nat) (taken : Bool) (s : State) :
    exec (.spiEvents flags length check taken) s = .next (s.spiPort 3 flags length check [] taken) := rfl

theorem exec_spiResponseRepeat (flags length check : Nat) (s : State) :
    exec (.spiResponseRepeat flags length check) s = .next (s.spiPort 4 flags length check [] true) := rfl

theorem exec_spiEventsRepeat (flags length check : Nat) (s : State) :
    exec (.spiEventsRepeat flags length check) s = .next (s.spiPort 5 flags length check [] true) := rfl

/-- Settles O57: a read that is cut short, or lacks a PEC that is required, ends before its command takes anything, and a repeat has nothing
to take. -/
theorem consumedOnlyWhenTaken : Obligations.ConsumedOnlyWhenTaken := by
  unfold Obligations.ConsumedOnlyWhenTaken
  refine ⟨?response, ?events, ?spiResponse, ?spiEvents, ?responseRepeat, ?eventsRepeat, ?spiResponseRepeat, ?spiEventsRepeat⟩
  case response =>
    intro taken pec s t hexec hcut
    obtain rfl := Host.Outcome.next.inj ((exec_twoWireResponse taken pec s).symm.trans hexec)
    have hkeeps := blockRead_keepsItems (take := State.consumeResponse 2) (.inl hcut) 0x11 ((s.port 2).unread.head?.getD [])
    exact ⟨hkeeps.unread, hkeeps.lastItem⟩
  case events =>
    intro taken pec s t hexec hcut
    obtain rfl := Host.Outcome.next.inj ((exec_twoWireEvents taken pec s).symm.trans hexec)
    have hkeeps := blockRead_keepsItems (take := State.consumeEvents 2 7) (.inl hcut) 0x12 (eventBlock 7 s.events.twoWireQ)
    exact ⟨hkeeps.events, hkeeps.lastEvents⟩
  case spiResponse =>
    intro flags n c s t hexec
    obtain rfl := Host.Outcome.next.inj ((exec_spiResponse flags n c false s).symm.trans hexec)
    have hkeeps := spiPort_keepsItems (operation := 2) (by decide) (.inl rfl) flags n c [] s
    exact ⟨hkeeps.unread, hkeeps.lastItem⟩
  case spiEvents =>
    intro flags n c s t hexec
    obtain rfl := Host.Outcome.next.inj ((exec_spiEvents flags n c false s).symm.trans hexec)
    have hkeeps := spiPort_keepsItems (operation := 3) (by decide) (.inl rfl) flags n c [] s
    exact ⟨hkeeps.events, hkeeps.lastEvents⟩
  case responseRepeat =>
    rintro _ s hacks hmode rfl
    refine ⟨_, exec_twoWireResponseRepeat true s, (blockRead_keepsItems (.inr (.refl 2)) ..).unread, ?_⟩
    rw [← blockForm_eq]
    exact blockRead_repeat_out hacks hmode ..
  case eventsRepeat =>
    rintro _ s hacks hmode rfl
    refine ⟨_, exec_twoWireEventsRepeat true s, (blockRead_keepsItems (.inr (.refl 2)) ..).events, ?_⟩
    rw [← blockForm_eq]
    exact blockRead_repeat_out hacks hmode ..
  case spiResponseRepeat =>
    rintro quad n _ s hquad hpowered hready rfl hfits hn
    exact ⟨_, exec_spiResponseRepeat .., (spiPort_keepsItems (by decide) (.inr (by decide)) ..).unread,
      spiPort_responseRepeat_out hquad hpowered hready hn hfits⟩
  case spiEventsRepeat =>
    rintro quad n _ s hquad hpowered hready rfl hfits hn
    exact ⟨_, exec_spiEventsRepeat .., (spiPort_keepsItems (by decide) (.inr (by decide)) ..).events,
      spiPort_eventsRepeat_out hquad hpowered hready hn hfits⟩

end Sys2Proof.Machine
end

section
/-!
PROOFS. The block as a whole: the front of the queue, the answer of every command, and what reset leaves.
-/
namespace Sys2Proof.Machine

/-- Settles O42. -/
theorem stepRunsFront : Obligations.StepRunsFront := by
  intro c rest s h
  unfold step
  rw [h]

theorem answers_of_ite {c : Prop} [Decidable c] {t u : State} :
    ∃ v, (if c then Host.Outcome.next t else .next u : Host.Outcome State Fault Refusal) = .next v := by
  split <;> exact ⟨_, rfl⟩

/-- Settles O44: the meaning of each command is a state, or one of two states on a condition. -/
theorem everyCommandAnswers : Obligations.EveryCommandAnswers := by
  intro c s
  cases c with
  | fifoRead | fifoRepeatRead | ringRead | gpioWrite => exact answers_of_ite
  | _ => exact ⟨_, rfl⟩

theorem mem_allUnits_of_unitExists {u : Nat} (h : unitExists u = true) : u ∈ allUnits := by
  have hsize : u % 256 < classSize (u / 256) := by
    unfold unitExists at h
    unfold classSize
    split at h <;> simp_all
  have hclass : u / 256 ∈ [1, 2, 3, 4, 5, 6, 7, 8] := by
    unfold classSize at hsize
    split at hsize <;> simp_all
  exact List.mem_flatMap.2 ⟨u / 256, hclass, List.mem_map.2 ⟨u % 256, List.mem_range.2 hsize, by omega⟩⟩

/-- Every unit's descriptor has it DORMANT, without owner or parent (R22 to R24). -/
theorem reset_unit : ∀ u ∈ allUnits, State.reset.ustate u = 0 ∧ State.reset.owner u = 0xFF ∧ State.reset.parent u = 0xFFFF := by
  decide +kernel

/-- The GPIO registers are 0 at reset: every ball is an input without a pull (R475). -/
theorem reset_gpioBall (n : Nat) : State.reset.gpioBall n = .input false false := by
  have hregs : ∀ k ∈ [0x770001, 0x770004, 0x770005], State.reset.nat k = 0 := by decide
  have hmode : (State.reset.mode == .parked) = false := rfl
  have hzero : bitOf 0 n = false := by simp [bitOf]
  simp [State.gpioBall, hregs, hmode, hzero]

/-- Settles O46: the state of reset evaluated, its units one by one. -/
theorem resetState : Obligations.ResetState := by
  have hunits : ∀ u, unitExists u = true → _ := fun u hu => reset_unit u (mem_allUnits_of_unitExists hu)
  exact ⟨rfl, rfl, rfl, fun _ => rfl, hunits, by decide, by decide, fun _ => rfl, fun _ => rfl, fun _ => rfl, rfl, rfl, rfl, rfl, rfl,
    rfl, rfl, by decide, by decide, by decide, by decide, reset_gpioBall⟩

/-- Settles O47: both maps are empty. -/
theorem resetCanonical : Obligations.ResetCanonical := ⟨rfl, rfl⟩

end Sys2Proof.Machine
end

section
/-!
PROOFS. The bytes of a value (R4, R345).
-/
namespace Sys2Proof.Machine

theorem leNat_ofLe {b : Bytes} (h : bytesOk b = true) : leNat b.length (ofLe b) = b := by
  induction b with
  | nil => rfl
  | cons x xs ih =>
    simp only [bytesOk, List.all_cons, Bool.and_eq_true, u8, decide_eq_true_eq] at h
    obtain ⟨hx, hxs⟩ := h
    have hhead : (x + 256 * ofLe xs) % 256 = x := by omega
    have htail : (x + 256 * ofLe xs) / 256 = ofLe xs := by omega
    simp only [List.length_cons, ofLe, leNat, hhead, htail, ih hxs]

theorem ofLe_leNat {w n : Nat} (h : n < 256 ^ w) : ofLe (leNat w n) = n := by
  induction w generalizing n with
  | zero => simp [leNat, ofLe]; omega
  | succ w ih =>
    have hdiv : n / 256 < 256 ^ w := Nat.div_lt_of_lt_mul (by rwa [Nat.pow_succ, Nat.mul_comm] at h)
    simp only [leNat, ofLe, ih hdiv]
    omega

theorem ofLe_lt {b : Bytes} (h : bytesOk b = true) : ofLe b < 256 ^ b.length := by
  induction b with
  | nil => simp [ofLe]
  | cons x xs ih =>
    simp only [bytesOk, List.all_cons, Bool.and_eq_true, u8, decide_eq_true_eq] at h
    have := ih h.2
    simp only [ofLe, List.length_cons, Nat.pow_succ]
    omega

theorem leInt_natCast {w n : Nat} (h : n < 256 ^ w) : leInt w n = leNat w n := by
  have hmod : (n : Int) % ((256 ^ w : Nat) : Int) = n := Int.emod_eq_of_lt (by omega) (by exact_mod_cast h)
  rw [leInt, hmod, Int.toNat_natCast]

/-- The two's complement reading of a number, taken modulo 256 to the width, is the number. -/
theorem signed_emod {w n : Nat} (h : n < 256 ^ w) : (signed w n % ((256 ^ w : Nat) : Int)).toNat = n := by
  have hn : ((n : Int) % ((256 ^ w : Nat) : Int)) = n := Int.emod_eq_of_lt (by omega) (by exact_mod_cast h)
  unfold signed
  split
  · rw [hn, Int.toNat_natCast]
  · rw [Int.sub_emod_right, hn, Int.toNat_natCast]

theorem signed_toNat_emod {w : Nat} {n : Int} (hw : 1 ≤ w) (hlo : -(2 ^ (8 * w - 1) : Int) ≤ n) (hhi : n < 2 ^ (8 * w - 1)) :
    signed w (n % ((256 ^ w : Nat) : Int)).toNat = n := by
  have hsize : 256 ^ w = 2 * 2 ^ (8 * w - 1) := by
    rw [← Nat.pow_succ', Nat.succ_eq_add_one, Nat.sub_add_cancel (by omega), Nat.pow_mul]
  have hhalf : ((2 ^ (8 * w - 1) : Nat) : Int) = 2 ^ (8 * w - 1) := by push_cast; rfl
  rw [← hhalf] at hlo hhi
  unfold signed
  rw [hsize]
  generalize 2 ^ (8 * w - 1) = half at *
  rcases Int.lt_or_le n 0 with hneg | hpos
  · have hmod : n % ((2 * half : Nat) : Int) = n + (2 * half : Nat) := by
      rw [← Int.add_emod_right, Int.emod_eq_of_lt (by omega) (by omega)]
    rw [hmod, if_neg (by omega)]
    omega
  · rw [Int.emod_eq_of_lt hpos (by omega), if_pos (by omega)]
    omega

theorem encodeVal_decodeVal {ty : Ty} {b : Bytes} (hb : bytesOk b = true) (hlen : lengthFits ty b.length = true) :
    encodeVal ty (decodeVal ty b) = b := by
  have hunsigned (w : Nat) (hw : w = b.length) : leInt w (ofLe b) = b := by
    rw [hw, leInt_natCast (ofLe_lt hb), leNat_ofLe hb]
  have hsigned (w : Nat) (hw : w = b.length) : leInt w (signed b.length (ofLe b)) = b := by
    rw [hw, leInt, signed_emod (ofLe_lt hb), leNat_ofLe hb]
  cases ty with
  | str | oct | dom => rfl
  | bool | u8 | u16 | u32 | u64 | f32 | time64 => exact hunsigned _ (by simpa [lengthFits, Ty.size] using hlen)
  | i8 | i16 | i32 => exact hsigned _ (by simpa [lengthFits, Ty.size] using hlen)

/-- Settles O53, type by type; the bytes of a number and the number they spell by induction on the width. -/
theorem valuesRoundTrip : Obligations.ValuesRoundTrip := by
  refine ⟨fun ty b hb hlen => encodeVal_decodeVal hb hlen, fun w n h => ofLe_leNat h, fun w n hw hlo hhi => ?_⟩
  have hsmall : (n % ((256 ^ w : Nat) : Int)).toNat < 256 ^ w := by
    have hpos : (0 : Int) < (256 ^ w : Nat) := by positivity
    have := Int.emod_lt_of_pos n hpos
    have := Int.emod_nonneg n hpos.ne'
    omega
  rw [leInt, ofLe_leNat hsmall, signed_toNat_emod hw hlo hhi]

end Sys2Proof.Machine
end

section
/-!
PROOFS. Refused writes (R349, R359) and the numbering of events (R362 to R365).
-/
namespace Sys2Proof.Machine

/-! ### Refused writes -/

theorem exec_objectWrite (r : Requester) {i j : Nat} (b : Bytes) (s : State) (hi : i < 65536) (hj : j < 256) :
    exec (.objectWrite r i j b) s = .next (s.request r (obj i j) b (writeAct r (obj i j) b)) := by
  show Host.Outcome.next (s.writeObject r (obj (i % 65536) (j % 256)) b) = _
  rw [Nat.mod_eq_of_lt hi, Nat.mod_eq_of_lt hj]
  rfl

theorem moveToken_frame (new reason : Nat) (s : State) :
    s.moveToken new reason = { s with
      dict := (s.moveToken new reason).dict, awaiting := (s.moveToken new reason).awaiting
      events := (s.moveToken new reason).events, log := (s.moveToken new reason).log } ∧
    s.KeepsOutside (s.moveToken new reason) [(0x1030, 0x1030)] := by
  unfold State.moveToken
  extract_lets old
  split
  · exact ⟨rfl, fun _ _ _ => rfl⟩
  · obtain ⟨hfields, hval⟩ := raise_eventsOnly ((s.setNat 0x103001 new).setNat 0x103005 s.gnomon) 2 1 0x1030 [(1, old), (1, new), (1, reason)]
    refine ⟨by rw [hfields]; rfl, fun k hk hout => ?_⟩
    have hindex : ¬(0x1030 ≤ k / 256 ∧ k / 256 ≤ 0x1030) := hout (0x1030, 0x1030) List.mem_cons_self
    have hne : k ≠ 0x103001 ∧ k ≠ 0x103005 := by omega
    rw [hval k hk]
    simp [hne]

theorem autoTake_frame (r : Requester) (key : Nat) (s : State) :
    s.autoTake r key = { s with
      dict := (s.autoTake r key).dict, awaiting := (s.autoTake r key).awaiting
      events := (s.autoTake r key).events, log := (s.autoTake r key).log } ∧
    s.KeepsOutside (s.autoTake r key) [(0x1030, 0x1030)] := by
  unfold State.autoTake
  split
  · exact moveToken_frame (portNo r) 1 s
  · exact ⟨rfl, fun _ _ _ => rfl⟩

/-- No automatic take where the token is held, the setting is another, or the requester is no host port (R361). -/
theorem autoTake_eq_self {r : Requester} {s : State} (h : s.nat 0x103001 ≠ 0 ∨ s.nat 0x103004 ≠ 1 ∨ isHost r = false) (key : Nat) :
    s.autoTake r key = s := by
  unfold State.autoTake
  rcases h with h | h | h <;> simp [h]

/-- Settles O51: a refused request is the automatic take, then the answer. -/
theorem refusedWriteHasNoEffect : Obligations.RefusedWriteHasNoEffect := by
  intro r i j b s t hi hj hrefused hexec
  rw [exec_objectWrite r b s hi hj, request_refused s r _ b _ hrefused] at hexec
  obtain rfl := Host.Outcome.next.inj hexec
  obtain ⟨hfields, hkeeps⟩ := autoTake_frame r (obj i j) s
  refine ⟨?_, hkeeps, rfl, fun htoken => ?_⟩
  · rw [hfields]
    rfl
  · rw [autoTake_eq_self htoken]
    rfl

theorem firstCode_append (as bs : List Nat) : firstCode (as ++ bs) = if firstCode as = 0 then firstCode bs else firstCode as := by
  induction as with
  | nil => rfl
  | cons c cs ih =>
    simp only [List.cons_append, firstCode]
    split
    · exact ih
    · rfl

theorem firstCode_append_eq_zero {as bs : List Nat} : firstCode (as ++ bs) = 0 ↔ firstCode as = 0 ∧ firstCode bs = 0 := by
  rw [firstCode_append]
  split <;> simp_all

/-- Where the checks before it pass, check 8 refuses a host port that does not hold the token (R359). -/
theorem judgeWrite_token {r : Requester} {key : Nat} {b : Bytes} {row : Row} {s : State} (hhost : isHost r = true)
    (hkey : key ≠ 0x103002) (hholder : s.nat 0x103001 ≠ portNo r) (hrow : findRow key = some row)
    (hearly : firstCode [s.check1, check2 key, refuseIf (!s.classRight r key true) 0x0109, s.check4 r key, s.check5 key,
      s.check6 key true row.acc, s.imageCheck (key / 256), check7w row.acc] = 0) :
    s.judgeWrite r key b = 0x0108 := by
  have htoken : s.check8 r key = 0x0108 := by simp [State.check8, refuseIf, hhost, hkey, hholder]
  change firstCode ([s.check1, check2 key, refuseIf (!s.classRight r key true) 0x0109, s.check4 r key, s.check5 key] ++
    [s.check6 key true row.acc, s.imageCheck (key / 256), check7w row.acc]) = 0 at hearly
  obtain ⟨hfirst, hlast⟩ := firstCode_append_eq_zero.1 hearly
  have hlength : s.judgeLength r key b.length = 0x0108 := by
    unfold State.judgeLength
    simp only [hrow]
    have hpassed : firstCode [firstCode [s.check1, check2 key, refuseIf (!s.classRight r key true) 0x0109, s.check4 r key,
        s.check5 key], s.check6 key true row.acc, s.imageCheck (key / 256), check7w row.acc] = 0 :=
      (if_pos hfirst).trans hlast
    refine (firstCode_append [_, _, _, _] [_, _]).trans ?_
    rw [if_pos hpassed, firstCode, htoken]
    rfl
  rw [State.judgeWrite, firstCode, hlength]
  rfl

/-- Settles O52. -/
theorem onlyTheHolderWrites : Obligations.OnlyTheHolderWrites := by
  intro r i j b row s t hi hj hhost hkey hheld hholder hrow hearly hexec
  have htake : s.autoTake r (obj i j) = s := autoTake_eq_self (.inl hheld) _
  have hindex : obj i j / 256 = i := by simp only [obj]; omega
  have hcode : (s.autoTake r (obj i j)).judgeWrite r (obj i j) b = 0x0108 := by
    rw [htake]
    exact judgeWrite_token hhost hkey hholder hrow (by rwa [hindex])
  rw [exec_objectWrite r b s hi hj, request_refused s r _ b _ (by rw [hcode]; decide), hcode, htake] at hexec
  obtain rfl := Host.Outcome.next.inj hexec
  exact ⟨rfl, rfl⟩

/-! ### The numbering of events -/

theorem enqueueEvent_length {on : Bool} {q : List Event} (e : Event) (h : q.length ≤ 64) : (enqueueEvent on q e).1.length ≤ 64 := by
  unfold enqueueEvent
  split
  · exact h
  · split
    · simp only [List.length_append, List.length_cons, List.length_nil]; omega
    · exact h

@[simp] theorem refreshSync_events (s : State) : s.refreshSync.events = s.events := by
  unfold State.refreshSync
  split <;> rfl

theorem refreshSync_nat {s : State} {k : Nat} (h : k ≠ 0x102007) : s.refreshSync.nat k = s.nat k := by
  unfold State.refreshSync
  split
  · rfl
  · exact setBytes_nat _ _ s _ h

theorem appendLog_frame (cls kind detail : Nat) (s : State) :
    s.appendLog cls kind detail = { s with
      dict := (s.appendLog cls kind detail).dict, log := (s.appendLog cls kind detail).log } := by
  unfold State.appendLog
  extract_lets e full sram t
  have ht : t = { s with dict := t.dict } := by
    show (if full then _ else _) = { s with dict := State.dict (if full then _ else _) }
    split <;> rfl
  rw [ht]

theorem appendLog_nat {s : State} {k : Nat} (cls kind detail : Nat) (h : k ≠ 0x710007) :
    (s.appendLog cls kind detail).nat k = s.nat k := by
  unfold State.appendLog
  extract_lets e full sram t
  show State.nat (if full then _ else _) k = _
  split
  · simp [State.bump, State.bumpBy, h]
  · rfl

/-- What an event that takes a sequence leaves in the history and in the queues (R364, R365). -/
theorem issueEvent_events (e : Event) (s : State) :
    (s.issueEvent e).events = { s.events with
      history := lastN 256 (s.events.history ++ [{ e with seq := (s.nat 0x980006 + 1) % 2 ^ 32 }])
      quoinQ := (enqueueEvent (bitOf (s.nat 0x980002) 0) s.events.quoinQ { e with seq := (s.nat 0x980006 + 1) % 2 ^ 32 }).1
      twoWireQ := (enqueueEvent (bitOf (s.nat 0x980002) 1) s.events.twoWireQ { e with seq := (s.nat 0x980006 + 1) % 2 ^ 32 }).1
      spiQ := (enqueueEvent (bitOf (s.nat 0x980002) 2) s.events.spiQ { e with seq := (s.nat 0x980006 + 1) % 2 ^ 32 }).1 } := by
  unfold State.issueEvent
  extract_lets n e en q1 q2 q3 ev s1 s2 s3 s4
  rw [refreshSync_events]
  have h2 : s2.events = s1.events := by show State.events (if _ then _ else _) = _; split <;> rfl
  have h3 : s3.events = s2.events := by show State.events (if _ then _ else _) = _; split <;> rfl
  have h4 : s4.events = s3.events := by show State.events (if _ then _ else _) = _; split <;> rfl
  exact h4.trans (h3.trans h2)

theorem issueEvent_history (e : Event) (s : State) :
    (s.issueEvent e).events.history = lastN 256 (s.events.history ++ [{ e with seq := (s.nat 0x980006 + 1) % 2 ^ 32 }]) := by
  rw [issueEvent_events]

@[simp] theorem issueEvent_sequence (e : Event) (s : State) : (s.issueEvent e).nat 0x980006 = (s.nat 0x980006 + 1) % 2 ^ 32 := by
  unfold State.issueEvent
  extract_lets n
  rw [refreshSync_nat (by decide)]
  simp [n]

/-- The state in which an event is told: its class's log entry comes first (R440). -/
def State.logged (cls kind src : Nat) (s : State) : State := if s.logs cls then s.appendLog cls kind src else s

theorem raise_eq (cls kind src : Nat) (fields : List (Nat × Int)) (s : State) :
    s.raise cls kind src fields = (s.logged cls kind src).tell cls kind src fields := rfl

theorem logged_frame (cls kind src : Nat) (s : State) :
    s.logged cls kind src = { s with dict := (s.logged cls kind src).dict, log := (s.logged cls kind src).log } := by
  unfold State.logged
  split
  · exact appendLog_frame cls kind src s
  · rfl

theorem logged_nat {s : State} {k : Nat} (cls kind src : Nat) (h : k ≠ 0x710007) : (s.logged cls kind src).nat k = s.nat k := by
  unfold State.logged
  split
  · exact appendLog_nat cls kind src h
  · rfl

@[simp] theorem logged_events (cls kind src : Nat) (s : State) : (s.logged cls kind src).events = s.events := by
  rw [logged_frame]

@[simp] theorem logged_ready (cls kind src : Nat) (s : State) : (s.logged cls kind src).ready = s.ready := by
  rw [logged_frame]

@[simp] theorem logged_gnomon (cls kind src : Nat) (s : State) : (s.logged cls kind src).gnomon = s.gnomon := by
  rw [logged_frame]

/-- A raised event of an enabled class, after ready, is issued. -/
theorem raise_enabled {cls : Nat} {s : State} (kind src : Nat) (fields : List (Nat × Int)) (hready : s.ready = true)
    (hon : bitOf (s.nat 0x980001) (cls - 1) = true) :
    s.raise cls kind src fields =
      (s.logged cls kind src).issueEvent ⟨0, s.gnomon, cls, kind, src, packFields 16 fields⟩ := by
  have hbit : bitOf ((s.logged cls kind src).nat 0x980001) (cls - 1) = true := by rwa [logged_nat cls kind src (by decide)]
  rw [raise_eq, State.tell, if_pos hbit]
  simp [hready]

/-- A raised event of a class that is not enabled is logged at most. -/
theorem raise_disabled {cls : Nat} {s : State} (kind src : Nat) (fields : List (Nat × Int))
    (hoff : bitOf (s.nat 0x980001) (cls - 1) = false) : s.raise cls kind src fields = s.logged cls kind src := by
  have hbit : ¬bitOf ((s.logged cls kind src).nat 0x980001) (cls - 1) = true := by
    rw [logged_nat cls kind src (by decide), hoff]
    decide
  rw [raise_eq, State.tell, if_neg hbit]

/-- The event queues of the three host ports within their bound of 64 (R365). -/
def Events.Bounded (e : Events) : Prop := e.quoinQ.length ≤ 64 ∧ e.twoWireQ.length ≤ 64 ∧ e.spiQ.length ≤ 64

theorem tell_bounded {s : State} (cls kind src : Nat) (fields : List (Nat × Int)) (h : s.events.Bounded) :
    (s.tell cls kind src fields).events.Bounded := by
  obtain ⟨hquoin, htwoWire, hspi⟩ := h
  unfold State.tell
  split
  · extract_lets e
    split
    · rw [issueEvent_events]
      exact ⟨enqueueEvent_length _ hquoin, enqueueEvent_length _ htwoWire, enqueueEvent_length _ hspi⟩
    · unfold State.holdEvent
      split <;> exact ⟨hquoin, htwoWire, hspi⟩
  · exact ⟨hquoin, htwoWire, hspi⟩

theorem lastN_length_le {α : Type} (n : Nat) (l : List α) : (lastN n l).length ≤ n := by
  simp only [lastN, List.length_drop]
  omega

theorem getLast?_lastN {α : Type} {n : Nat} (l : List α) (x : α) (h : 0 < n) : (lastN n (l ++ [x])).getLast? = some x := by
  simp only [lastN, List.getLast?_drop, List.getLast?_concat, List.length_append, List.length_cons, List.length_nil]
  exact if_neg (by omega)

/-- Settles O59. -/
theorem eventsAreNumbered : Obligations.EventsAreNumbered := by
  refine ⟨fun cls kind src fields s hready hon => ?_, fun cls kind src fields s hoff => ?_, fun cls kind src fields s hq h2 h3 => ?_⟩
  · rw [raise_enabled kind src fields hready hon, issueEvent_sequence, issueEvent_history, logged_nat cls kind src (by decide)]
    exact ⟨rfl, getLast?_lastN _ _ (by decide), lastN_length_le _ _⟩
  · rw [raise_disabled kind src fields hoff]
    exact ⟨logged_events .., logged_nat cls kind src (by decide)⟩
  · rw [raise_eq]
    exact tell_bounded cls kind src fields (by rw [logged_events]; exact ⟨hq, h2, h3⟩)

end Sys2Proof.Machine
end

section
/-!
PROOFS. What every command keeps: the fields that an operation may change, the canonical form of the dictionary and the blown fuses.
-/
namespace Sys2Proof.Machine

set_option Elab.async false

/-! ### The relation -/

/-- The fields of State, by name. -/
inductive FieldName where
  | pending | mode | ready | gnomon | freeCtr | dict | committed | awaiting | held | fifos | events | answer | answeredPorts
  | launch | prep | holdings | shares | accelConfigured | accelOwn | utcPrev | tbSync | otp | flash | sec | log | upd
  | gpioFired | power | paths | amQuietSince | antennas | plumb | chains | engines | loads | accels | claimedAt | shm
  | captures | fms | pcm | pcmSeq | heard | tmc | lantern | dabs | dabDecoders | voices | ams | drms | drmSel | following
  | gloaming | streams | iec | radio | link | mesh | cvs | ports | quoin | twoWire | pdos | saving
  deriving DecidableEq

/-- Whether two states agree in a field. -/
def State.Same (s t : State) : FieldName → Prop
  | .pending => t.pending = s.pending
  | .mode => t.mode = s.mode
  | .ready => t.ready = s.ready
  | .gnomon => t.gnomon = s.gnomon
  | .freeCtr => t.freeCtr = s.freeCtr
  | .dict => t.dict = s.dict
  | .committed => t.committed = s.committed
  | .awaiting => t.awaiting = s.awaiting
  | .held => t.held = s.held
  | .fifos => t.fifos = s.fifos
  | .events => t.events = s.events
  | .answer => t.answer = s.answer
  | .answeredPorts => t.answeredPorts = s.answeredPorts
  | .launch => t.launch = s.launch
  | .prep => t.prep = s.prep
  | .holdings => t.holdings = s.holdings
  | .shares => t.shares = s.shares
  | .accelConfigured => t.accelConfigured = s.accelConfigured
  | .accelOwn => t.accelOwn = s.accelOwn
  | .utcPrev => t.utcPrev = s.utcPrev
  | .tbSync => t.tbSync = s.tbSync
  | .otp => t.otp = s.otp
  | .flash => t.flash = s.flash
  | .sec => t.sec = s.sec
  | .log => t.log = s.log
  | .upd => t.upd = s.upd
  | .gpioFired => t.gpioFired = s.gpioFired
  | .power => t.power = s.power
  | .paths => t.paths = s.paths
  | .amQuietSince => t.amQuietSince = s.amQuietSince
  | .antennas => t.antennas = s.antennas
  | .plumb => t.plumb = s.plumb
  | .chains => t.chains = s.chains
  | .engines => t.engines = s.engines
  | .loads => t.loads = s.loads
  | .accels => t.accels = s.accels
  | .claimedAt => t.claimedAt = s.claimedAt
  | .shm => t.shm = s.shm
  | .captures => t.captures = s.captures
  | .fms => t.fms = s.fms
  | .pcm => t.pcm = s.pcm
  | .pcmSeq => t.pcmSeq = s.pcmSeq
  | .heard => t.heard = s.heard
  | .tmc => t.tmc = s.tmc
  | .lantern => t.lantern = s.lantern
  | .dabs => t.dabs = s.dabs
  | .dabDecoders => t.dabDecoders = s.dabDecoders
  | .voices => t.voices = s.voices
  | .ams => t.ams = s.ams
  | .drms => t.drms = s.drms
  | .drmSel => t.drmSel = s.drmSel
  | .following => t.following = s.following
  | .gloaming => t.gloaming = s.gloaming
  | .streams => t.streams = s.streams
  | .iec => t.iec = s.iec
  | .radio => t.radio = s.radio
  | .link => t.link = s.link
  | .mesh => t.mesh = s.mesh
  | .cvs => t.cvs = s.cvs
  | .ports => t.ports = s.ports
  | .quoin => t.quoin = s.quoin
  | .twoWire => t.twoWire = s.twoWire
  | .pdos => t.pdos = s.pdos
  | .saving => t.saving = s.saving

/-- The second state's value in the fields listed, the first one's in every other field. -/
def State.patch (F : List FieldName) (s t : State) : State where
  pending := if .pending ∈ F then t.pending else s.pending
  mode := if .mode ∈ F then t.mode else s.mode
  ready := if .ready ∈ F then t.ready else s.ready
  gnomon := if .gnomon ∈ F then t.gnomon else s.gnomon
  freeCtr := if .freeCtr ∈ F then t.freeCtr else s.freeCtr
  dict := if .dict ∈ F then t.dict else s.dict
  committed := if .committed ∈ F then t.committed else s.committed
  awaiting := if .awaiting ∈ F then t.awaiting else s.awaiting
  held := if .held ∈ F then t.held else s.held
  fifos := if .fifos ∈ F then t.fifos else s.fifos
  events := if .events ∈ F then t.events else s.events
  answer := if .answer ∈ F then t.answer else s.answer
  answeredPorts := if .answeredPorts ∈ F then t.answeredPorts else s.answeredPorts
  launch := if .launch ∈ F then t.launch else s.launch
  prep := if .prep ∈ F then t.prep else s.prep
  holdings := if .holdings ∈ F then t.holdings else s.holdings
  shares := if .shares ∈ F then t.shares else s.shares
  accelConfigured := if .accelConfigured ∈ F then t.accelConfigured else s.accelConfigured
  accelOwn := if .accelOwn ∈ F then t.accelOwn else s.accelOwn
  utcPrev := if .utcPrev ∈ F then t.utcPrev else s.utcPrev
  tbSync := if .tbSync ∈ F then t.tbSync else s.tbSync
  otp := if .otp ∈ F then t.otp else s.otp
  flash := if .flash ∈ F then t.flash else s.flash
  sec := if .sec ∈ F then t.sec else s.sec
  log := if .log ∈ F then t.log else s.log
  upd := if .upd ∈ F then t.upd else s.upd
  gpioFired := if .gpioFired ∈ F then t.gpioFired else s.gpioFired
  power := if .power ∈ F then t.power else s.power
  paths := if .paths ∈ F then t.paths else s.paths
  amQuietSince := if .amQuietSince ∈ F then t.amQuietSince else s.amQuietSince
  antennas := if .antennas ∈ F then t.antennas else s.antennas
  plumb := if .plumb ∈ F then t.plumb else s.plumb
  chains := if .chains ∈ F then t.chains else s.chains
  engines := if .engines ∈ F then t.engines else s.engines
  loads := if .loads ∈ F then t.loads else s.loads
  accels := if .accels ∈ F then t.accels else s.accels
  claimedAt := if .claimedAt ∈ F then t.claimedAt else s.claimedAt
  shm := if .shm ∈ F then t.shm else s.shm
  captures := if .captures ∈ F then t.captures else s.captures
  fms := if .fms ∈ F then t.fms else s.fms
  pcm := if .pcm ∈ F then t.pcm else s.pcm
  pcmSeq := if .pcmSeq ∈ F then t.pcmSeq else s.pcmSeq
  heard := if .heard ∈ F then t.heard else s.heard
  tmc := if .tmc ∈ F then t.tmc else s.tmc
  lantern := if .lantern ∈ F then t.lantern else s.lantern
  dabs := if .dabs ∈ F then t.dabs else s.dabs
  dabDecoders := if .dabDecoders ∈ F then t.dabDecoders else s.dabDecoders
  voices := if .voices ∈ F then t.voices else s.voices
  ams := if .ams ∈ F then t.ams else s.ams
  drms := if .drms ∈ F then t.drms else s.drms
  drmSel := if .drmSel ∈ F then t.drmSel else s.drmSel
  following := if .following ∈ F then t.following else s.following
  gloaming := if .gloaming ∈ F then t.gloaming else s.gloaming
  streams := if .streams ∈ F then t.streams else s.streams
  iec := if .iec ∈ F then t.iec else s.iec
  radio := if .radio ∈ F then t.radio else s.radio
  link := if .link ∈ F then t.link else s.link
  mesh := if .mesh ∈ F then t.mesh else s.mesh
  cvs := if .cvs ∈ F then t.cvs else s.cvs
  ports := if .ports ∈ F then t.ports else s.ports
  quoin := if .quoin ∈ F then t.quoin else s.quoin
  twoWire := if .twoWire ∈ F then t.twoWire else s.twoWire
  pdos := if .pdos ∈ F then t.pdos else s.pdos
  saving := if .saving ∈ F then t.saving else s.saving
/-- No blown fuse is taken back (R412 to R414, R418, R444), where the two lifecycle groups have at most their 8 fuses blown. -/
def Otp.Grows (o p : Otp) : Prop :=
  o.securedFuses ≤ 8 → o.returnedFuses ≤ 8 →
    (o.securedFuses ≤ p.securedFuses ∧ p.securedFuses ≤ 8) ∧ (o.returnedFuses ≤ p.returnedFuses ∧ p.returnedFuses ≤ 8) ∧
      o.antiRollback ≤ p.antiRollback ∧ ∀ i, bitOf o.revoked i = true → bitOf p.revoked i = true

theorem Otp.Grows.refl (o : Otp) : o.Grows o := fun hs hr => ⟨⟨le_rfl, hs⟩, ⟨le_rfl, hr⟩, le_rfl, fun _ h => h⟩

theorem Otp.Grows.trans {o p q : Otp} (h : o.Grows p) (g : p.Grows q) : o.Grows q := by
  intro hs hr
  obtain ⟨⟨hs1, hs2⟩, ⟨hr1, hr2⟩, ha, hb⟩ := h hs hr
  obtain ⟨⟨gs1, gs2⟩, ⟨gr1, gr2⟩, ga, gb⟩ := g hs2 hr2
  exact ⟨⟨hs1.trans gs1, gs2⟩, ⟨hr1.trans gr1, gr2⟩, ha.trans ga, fun i hi => gb i (hb i hi)⟩

/-- The second state comes from the first by a change of the fields listed that keeps the canonical form and every blown fuse. -/
structure State.Keeps (F : List FieldName) (s t : State) : Prop where
  same : ∀ f, f ∉ F → s.Same t f
  canonical : s.Canonical → t.Canonical
  fuses : s.otp.Grows t.otp

theorem State.Same.refl (s : State) (f : FieldName) : s.Same s f := by cases f <;> rfl

theorem State.Same.trans {s t u : State} {f : FieldName} (h : s.Same t f) (g : t.Same u f) : s.Same u f := by
  cases f <;> exact Eq.trans g h

namespace State.Keeps
variable {F G : List FieldName} {s t u : State}

theorem refl : s.Keeps F s := ⟨fun f _ => .refl s f, id, .refl _⟩

theorem trans (h : s.Keeps F t) (g : t.Keeps F u) : s.Keeps F u :=
  ⟨fun f hf => (h.same f hf).trans (g.same f hf), g.canonical ∘ h.canonical, h.fuses.trans g.fuses⟩

theorem mono (h : s.Keeps G t) (hG : G ⊆ F := by decide) : s.Keeps F t :=
  ⟨fun f hf => h.same f (fun hg => hf (hG hg)), h.canonical, h.fuses⟩

/-- One more operation, after those before it. -/
theorem step (h : t.Keeps G u) (g : s.Keeps F t) (hG : G ⊆ F := by decide) : s.Keeps F u := g.trans (h.mono hG)

theorem ite {c : Prop} [Decidable c] (h : s.Keeps F t) (g : s.Keeps F u) : s.Keeps F (if c then t else u) := by
  split <;> assumption

/-- An operation done on a condition, after those before it. -/
theorem iteThen {c : Prop} [Decidable c] (g : s.Keeps F t) (h : t.Keeps F u) : s.Keeps F (if c then u else t) :=
  .ite (g.trans h) g

/-- An operation done unless a condition holds, after those before it. -/
theorem iteElse {c : Prop} [Decidable c] (g : s.Keeps F t) (h : t.Keeps F u) : s.Keeps F (if c then t else u) :=
  .ite g (g.trans h)

theorem foldl {α : Type} {f : State → α → State} {xs : List α} (hf : ∀ (t : State) x, t.Keeps F (f t x)) (h : s.Keeps F t) :
    s.Keeps F (xs.foldl f t) := by
  induction xs generalizing t with
  | nil => exact h
  | cons x xs ih => exact ih (h.trans (hf t x))

/-- An update that leaves the dictionary, its committed copies and OTP. -/
theorem raw (hF : s.patch F t = t := by rfl) (hd : t.dict = s.dict := by rfl) (hc : t.committed = s.committed := by rfl)
    (ho : t.otp = s.otp := by rfl) : s.Keeps F t := by
  refine ⟨fun f hf => ?_, fun h => ?_, ho ▸ .refl _⟩
  · rw [← hF]
    cases f <;> exact if_neg hf
  · unfold State.Canonical at *
    rwa [hd, hc]

end State.Keeps

/-- The answer to a command is a state that the relation leads to. -/
def State.Leads (F : List FieldName) (s : State) : Host.Outcome State Fault Refusal → Prop
  | .next t => s.Keeps F t
  | _ => False

theorem State.Leads.next {F : List FieldName} {s t : State} (h : s.Keeps F t) : s.Leads F (.next t) := h

/-- A choice between two answers that carry a state. -/
theorem State.Keeps.iteFst {α : Type} {F : List FieldName} {s : State} {c : Prop} [Decidable c] {a b : State × α} (ha : s.Keeps F a.1)
    (hb : s.Keeps F b.1) : s.Keeps F (if c then a else b).1 := by
  split <;> assumption

theorem State.Leads.ite {F : List FieldName} {s : State} {c : Prop} [Decidable c] {a b : Host.Outcome State Fault Refusal}
    (ha : s.Leads F a) (hb : s.Leads F b) : s.Leads F (if c then a else b) := by
  split <;> assumption

theorem State.Keeps.fst {α : Type} {F : List FieldName} {s t : State} {x : α} (h : s.Keeps F t) : s.Keeps F (t, x).1 := h

/-- What a write's action, where there is one, leaves. -/
def State.Acts (F : List FieldName) (s : State) : Option (State × Nat) → Prop
  | some p => s.Keeps F p.1
  | none => True

namespace State.Acts
variable {F G : List FieldName} {s : State} {a b : Option (State × Nat)}

theorem some {p : State × Nat} (h : s.Keeps F p.1) : s.Acts F (some p) := h

theorem none : s.Acts F none := trivial

theorem ite {c : Prop} [Decidable c] (h : s.Acts F a) (g : s.Acts F b) : s.Acts F (if c then a else b) := by
  split <;> assumption

theorem mono (h : s.Acts G a) (hG : G ⊆ F := by decide) : s.Acts F a := by
  cases a with
  | none => trivial
  | some p => exact State.Keeps.mono h hG

end State.Acts

/-- Every field but the commands that wait. -/
def anything : List FieldName :=
  [.mode, .ready, .gnomon, .freeCtr, .dict, .committed, .awaiting, .held, .fifos, .events, .answer, .answeredPorts, .launch,
    .prep, .holdings, .shares, .accelConfigured, .accelOwn, .utcPrev, .tbSync, .otp, .flash, .sec, .log, .upd, .gpioFired, .power,
    .paths, .amQuietSince, .antennas, .plumb, .chains, .engines, .loads, .accels, .claimedAt, .shm, .captures, .fms, .pcm, .pcmSeq,
    .heard, .tmc, .lantern, .dabs, .dabDecoders, .voices, .ams, .drms, .drmSel, .following, .gloaming, .streams, .iec, .radio,
    .link, .mesh, .cvs, .ports, .quoin, .twoWire, .pdos, .saving]

/-- Every field but the commands that wait and the Gnomon count. -/
def running : List FieldName :=
  [.mode, .ready, .freeCtr, .dict, .committed, .awaiting, .held, .fifos, .events, .answer, .answeredPorts, .launch,
    .prep, .holdings, .shares, .accelConfigured, .accelOwn, .utcPrev, .tbSync, .otp, .flash, .sec, .log, .upd, .gpioFired, .power,
    .paths, .amQuietSince, .antennas, .plumb, .chains, .engines, .loads, .accels, .claimedAt, .shm, .captures, .fms, .pcm, .pcmSeq,
    .heard, .tmc, .lantern, .dabs, .dabDecoders, .voices, .ams, .drms, .drmSel, .following, .gloaming, .streams, .iec, .radio,
    .link, .mesh, .cvs, .ports, .quoin, .twoWire, .pdos, .saving]

/-- The fields that a unit's fault, hold or release may change, with the courses above it. -/
def unitFields : List FieldName :=
  [.accelConfigured, .accelOwn, .ams, .awaiting, .captures, .chains, .committed, .dabDecoders, .dabs, .dict, .drmSel, .drms,
    .engines, .events, .fifos, .fms, .following, .gloaming, .heard, .holdings, .lantern, .launch, .loads, .log, .paths, .pcm,
    .pcmSeq, .plumb, .radio, .shares, .shm, .streams]

theorem blowFuses_keeps {o} {s : State} (h : s.otp.Grows o) : s.Keeps [.otp] { s with otp := o } where
  same f hf := by cases f <;> first | rfl | exact absurd (by decide) hf
  canonical := id
  fuses := h

/-! ### Updates of single fields -/

theorem update_twoWire_keeps {x} {s : State} : s.Keeps [.twoWire] { s with twoWire := x } := .raw
theorem update_awaiting_keeps {x} {s : State} : s.Keeps [.awaiting] { s with awaiting := x } := .raw
theorem update_events_keeps {x} {s : State} : s.Keeps [.events] { s with events := x } := .raw
theorem update_log_keeps {x} {s : State} : s.Keeps [.log] { s with log := x } := .raw
theorem update_utcPrev_keeps {x} {s : State} : s.Keeps [.utcPrev] { s with utcPrev := x } := .raw
theorem update_gloaming_keeps {x} {s : State} : s.Keeps [.gloaming] { s with gloaming := x } := .raw
theorem update_heard_keeps {x} {s : State} : s.Keeps [.heard] { s with heard := x } := .raw
theorem update_shm_keeps {x} {s : State} : s.Keeps [.shm] { s with shm := x } := .raw
theorem update_pcmSeq_keeps {x} {s : State} : s.Keeps [.pcmSeq] { s with pcmSeq := x } := .raw
theorem update_pcm_keeps {x} {s : State} : s.Keeps [.pcm] { s with pcm := x } := .raw
theorem update_voices_keeps {x} {s : State} : s.Keeps [.voices] { s with voices := x } := .raw
theorem update_paths_keeps {x} {s : State} : s.Keeps [.paths] { s with paths := x } := .raw
theorem update_chains_keeps {x} {s : State} : s.Keeps [.chains] { s with chains := x } := .raw
theorem update_cvs_keeps {x} {s : State} : s.Keeps [.cvs] { s with cvs := x } := .raw
theorem update_ports_keeps {x} {s : State} : s.Keeps [.ports] { s with ports := x } := .raw
theorem update_answer_keeps {x} {s : State} : s.Keeps [.answer] { s with answer := x } := .raw
theorem update_power_radio_keeps {x y} {s : State} : s.Keeps [.power, .radio] { s with power := x, radio := y } := .raw
theorem update_fifos_keeps {x} {s : State} : s.Keeps [.fifos] { s with fifos := x } := .raw
theorem update_quoin_keeps {x} {s : State} : s.Keeps [.quoin] { s with quoin := x } := .raw
theorem update_answeredPorts_keeps {x} {s : State} : s.Keeps [.answeredPorts] { s with answeredPorts := x } := .raw
theorem update_launch_keeps {x} {s : State} : s.Keeps [.launch] { s with launch := x } := .raw
theorem update_prep_keeps {x} {s : State} : s.Keeps [.prep] { s with prep := x } := .raw
theorem update_accelOwn_keeps {x} {s : State} : s.Keeps [.accelOwn] { s with accelOwn := x } := .raw
theorem update_captures_keeps {x} {s : State} : s.Keeps [.captures] { s with captures := x } := .raw
theorem update_engines_keeps {x} {s : State} : s.Keeps [.engines] { s with engines := x } := .raw
theorem update_dabs_keeps {x} {s : State} : s.Keeps [.dabs] { s with dabs := x } := .raw
theorem update_drms_keeps {x} {s : State} : s.Keeps [.drms] { s with drms := x } := .raw
theorem update_streams_keeps {x} {s : State} : s.Keeps [.streams] { s with streams := x } := .raw
theorem update_lantern_keeps {x} {s : State} : s.Keeps [.lantern] { s with lantern := x } := .raw
theorem update_following_keeps {x} {s : State} : s.Keeps [.following] { s with following := x } := .raw
theorem update_plumb_keeps {x} {s : State} : s.Keeps [.plumb] { s with plumb := x } := .raw
theorem update_fms_keeps {x} {s : State} : s.Keeps [.fms] { s with fms := x } := .raw
theorem update_ams_keeps {x} {s : State} : s.Keeps [.ams] { s with ams := x } := .raw
theorem update_radio_keeps {x} {s : State} : s.Keeps [.radio] { s with radio := x } := .raw
theorem update_accelConfigured_keeps {x} {s : State} : s.Keeps [.accelConfigured] { s with accelConfigured := x } := .raw
theorem update_power_keeps {x} {s : State} : s.Keeps [.power] { s with power := x } := .raw
theorem update_sec_keeps {x} {s : State} : s.Keeps [.sec] { s with sec := x } := .raw
theorem update_link_keeps {x} {s : State} : s.Keeps [.link] { s with link := x } := .raw
theorem update_mesh_keeps {x} {s : State} : s.Keeps [.mesh] { s with mesh := x } := .raw
theorem update_loads_keeps {x} {s : State} : s.Keeps [.loads] { s with loads := x } := .raw
theorem update_shares_keeps {x} {s : State} : s.Keeps [.shares] { s with shares := x } := .raw
theorem update_holdings_keeps {x} {s : State} : s.Keeps [.holdings] { s with holdings := x } := .raw
theorem update_saving_keeps {x} {s : State} : s.Keeps [.saving] { s with saving := x } := .raw
theorem update_flash_keeps {x} {s : State} : s.Keeps [.flash] { s with flash := x } := .raw
theorem update_claimedAt_keeps {x} {s : State} : s.Keeps [.claimedAt] { s with claimedAt := x } := .raw
theorem update_antennas_keeps {x} {s : State} : s.Keeps [.antennas] { s with antennas := x } := .raw
theorem update_flash_upd_keeps {x y} {s : State} : s.Keeps [.flash, .upd] { s with flash := x, upd := y } := .raw
theorem update_flash_power_keeps {x y} {s : State} : s.Keeps [.flash, .power] { s with flash := x, power := y } := .raw
theorem update_freeCtr_keeps {x} {s : State} : s.Keeps [.freeCtr] { s with freeCtr := x } := .raw
theorem update_upd_keeps {x} {s : State} : s.Keeps [.upd] { s with upd := x } := .raw
theorem update_freeCtr_sec_keeps {x y} {s : State} : s.Keeps [.freeCtr, .sec] { s with freeCtr := x, sec := y } := .raw
theorem update_amQuietSince_keeps {x} {s : State} : s.Keeps [.amQuietSince] { s with amQuietSince := x } := .raw
theorem update_tbSync_keeps {x} {s : State} : s.Keeps [.tbSync] { s with tbSync := x } := .raw
theorem update_pdos_keeps {x} {s : State} : s.Keeps [.pdos] { s with pdos := x } := .raw
theorem update_gnomon_keeps {x} {s : State} : s.Keeps [.gnomon] { s with gnomon := x } := .raw
theorem update_mode_keeps {x} {s : State} : s.Keeps [.mode] { s with mode := x } := .raw
theorem update_radio_link_mesh_keeps {x y z} {s : State} :
    s.Keeps [.radio, .link, .mesh] { s with radio := x, link := y, mesh := z } := .raw
theorem update_iec_keeps {x} {s : State} : s.Keeps [.iec] { s with iec := x } := .raw
theorem update_drmSel_keeps {x} {s : State} : s.Keeps [.drmSel] { s with drmSel := x } := .raw
theorem update_link_mesh_keeps {x y} {s : State} : s.Keeps [.link, .mesh] { s with link := x, mesh := y } := .raw
theorem update_events_log_keeps {x y} {s : State} : s.Keeps [.events, .log] { s with events := x, log := y } := .raw
theorem update_tmc_keeps {x} {s : State} : s.Keeps [.tmc] { s with tmc := x } := .raw
theorem update_held_keeps {x} {s : State} : s.Keeps [.held] { s with held := x } := .raw
theorem update_upd_quoin_keeps {x y} {s : State} : s.Keeps [.upd, .quoin] { s with upd := x, quoin := y } := .raw
theorem update_ready_events_keeps {x y} {s : State} : s.Keeps [.ready, .events] { s with ready := x, events := y } := .raw
theorem update_dabDecoders_keeps {x} {s : State} : s.Keeps [.dabDecoders] { s with dabDecoders := x } := .raw
theorem update_radio_mesh_keeps {x y} {s : State} : s.Keeps [.radio, .mesh] { s with radio := x, mesh := y } := .raw
theorem update_following_gloaming_keeps {x y} {s : State} :
    s.Keeps [.following, .gloaming] { s with following := x, gloaming := y } := .raw
theorem update_accels_keeps {x} {s : State} : s.Keeps [.accels] { s with accels := x } := .raw
theorem update_awaiting_held_saving_keeps {x y z} {s : State} :
    s.Keeps [.awaiting, .held, .saving] { s with awaiting := x, held := y, saving := z } := .raw
theorem update_events_quoin_keeps {x y} {s : State} : s.Keeps [.events, .quoin] { s with events := x, quoin := y } := .raw
theorem update_holdings_loads_keeps {x y} {s : State} : s.Keeps [.holdings, .loads] { s with holdings := x, loads := y } := .raw
theorem update_gpioFired_keeps {x} {s : State} : s.Keeps [.gpioFired] { s with gpioFired := x } := .raw
theorem update_radio_link_keeps {x y} {s : State} : s.Keeps [.radio, .link] { s with radio := x, link := y } := .raw

theorem setVal_keeps {k v} {s : State} : s.Keeps [.dict] (s.setVal k v) where
  same f hf := by cases f <;> first | rfl | exact absurd (by decide) hf
  canonical h := ⟨map_wf_put _ _ k v h.1, h.2⟩
  fuses := .refl _

theorem setNum_keeps {k i} {s : State} : s.Keeps [.dict] (s.setNum k i) := by
  unfold State.setNum
  exact setVal_keeps

theorem setNat_keeps {k n} {s : State} : s.Keeps [.dict] (s.setNat k n) := by
  unfold State.setNat
  exact setVal_keeps

theorem setBytes_keeps {k b} {s : State} : s.Keeps [.dict] (s.setBytes k b) := by
  unfold State.setBytes
  exact setVal_keeps

theorem setAll_keeps {ps} {s : State} : s.Keeps [.dict] (s.setAll ps) := by
  induction ps generalizing s with
  | nil => exact .refl
  | cons p ps ih => exact .trans setNum_keeps ih

theorem bumpBy_keeps {k n} {s : State} : s.Keeps [.dict] (s.bumpBy k n) := by
  unfold State.bumpBy
  exact setNat_keeps

theorem bump_keeps {k} {s : State} : s.Keeps [.dict] (s.bump k) := by
  unfold State.bump
  exact bumpBy_keeps

theorem bump16_keeps {k} {s : State} : s.Keeps [.dict] (s.bump16 k) := by
  unfold State.bump16
  exact setNat_keeps

theorem setCommitted_keeps {k v} {s : State} : s.Keeps [.committed] (s.setCommitted k v) where
  same f hf := by cases f <;> first | rfl | exact absurd (by decide) hf
  canonical h := ⟨h.1, map_wf_put _ _ k v h.2⟩
  fuses := .refl _

theorem commitKeys_keeps {ks} {s : State} : s.Keeps [.committed] (s.commitKeys ks) := by
  induction ks generalizing s with
  | nil => exact .refl
  | cons k ks ih => exact .trans (setCommitted_keeps (v := s.val k)) ih

theorem clearKey_keeps {k} {s : State} :
    s.Keeps [.dict, .committed] { s with dict := s.dict.erase k, committed := s.committed.erase k } where
  same f hf := by cases f <;> first | rfl | exact absurd (by decide) hf
  canonical h := ⟨map_wf_erase _ _ k h.1, map_wf_erase _ _ k h.2⟩
  fuses := .refl _

theorem clearKeys_keeps {ks} {s : State} : s.Keeps [.dict, .committed] (s.clearKeys ks) := by
  induction ks generalizing s with
  | nil => exact .refl
  | cons k ks ih => exact .trans (clearKey_keeps (k := k)) ih

theorem fresh_keeps {m} {s : State} : s.Keeps [.freeCtr] (s.fresh m).2 := by
  unfold State.fresh
  exact update_freeCtr_keeps

theorem issue_keeps {k body} {s : State} : s.Keeps [.dict, .awaiting] (s.issue k body) := by
  unfold State.issue
  exact .step update_awaiting_keeps <| .step setBytes_keeps .refl

theorem await_keeps {k} {s : State} : s.Keeps [.awaiting] (s.await k) := by
  unfold State.await
  exact update_awaiting_keeps

theorem refreshSync_keeps {s : State} : s.Keeps [.dict, .awaiting] s.refreshSync := by
  unfold State.refreshSync
  exact .ite .refl (.step issue_keeps .refl)

theorem issueEvent_keeps {e} {s : State} : s.Keeps [.dict, .awaiting, .events] (s.issueEvent e) := by
  unfold State.issueEvent
  exact .step refreshSync_keeps <| .step setNat_keeps <|
    .iteThen (.iteThen (.iteThen (.step update_events_keeps .refl) (.step bump_keeps .refl)) (.step bump_keeps .refl))
    (.step bump_keeps .refl)

theorem holdEvent_keeps {e} {s : State} : s.Keeps [.events] (s.holdEvent e) := by
  unfold State.holdEvent
  exact .ite (.step update_events_keeps .refl) (.step update_events_keeps .refl)

theorem appendLog_keeps {cls kind detail} {s : State} : s.Keeps [.dict, .log] (s.appendLog cls kind detail) := by
  unfold State.appendLog
  exact .step update_log_keeps <| .ite (.step bump_keeps .refl) .refl

theorem tell_keeps {cls kind src fields} {s : State} : s.Keeps [.dict, .awaiting, .events] (s.tell cls kind src fields) := by
  unfold State.tell
  exact .ite (.ite (.step issueEvent_keeps .refl) (.step holdEvent_keeps .refl)) .refl

theorem raise_keeps {cls kind src fields} {s : State} :
    s.Keeps [.dict, .awaiting, .events, .log] (s.raise cls kind src fields) := by
  unfold State.raise
  exact .step tell_keeps <| .ite (.step appendLog_keeps .refl) .refl

theorem issuePaired_keeps {k code body} {s : State} : s.Keeps [.dict, .awaiting, .events, .log] (s.issuePaired k code body) := by
  unfold State.issuePaired
  exact .step raise_keeps <| .step issue_keeps .refl

theorem setFifo_keeps {k f} {s : State} : s.Keeps [.fifos] (s.setFifo k f) := by
  unfold State.setFifo
  exact update_fifos_keeps

theorem pushFifo_keeps {k cap rec} {s : State} : s.Keeps [.fifos] (s.pushFifo k cap rec).1 := by
  unfold State.pushFifo
  extract_lets
  split
  · exact setFifo_keeps
  · exact .refl

theorem clearFifo_keeps {k} {s : State} : s.Keeps [.fifos] (s.clearFifo k) := by
  unfold State.clearFifo
  exact setFifo_keeps

theorem claimNow_keeps {u} {s : State} : s.Keeps [.claimedAt] (s.claimNow u) := by
  unfold State.claimNow
  exact update_claimedAt_keeps

theorem claimedBy_keeps {u owner} {s : State} : s.Keeps [.dict, .claimedAt] (s.claimedBy u owner) := by
  unfold State.claimedBy
  exact .step setNat_keeps <| .step claimNow_keeps .refl

theorem setUState_keeps {u new cause verb} {s : State} :
    s.Keeps [.dict, .awaiting, .events, .log] (s.setUState u new cause verb) := by
  unfold State.setUState
  exact .ite .refl (.step raise_keeps <| .step setNat_keeps .refl)

theorem setUStateQuiet_keeps {u new} {s : State} : s.Keeps [.dict] (s.setUStateQuiet u new) := by
  unfold State.setUStateQuiet
  exact setNat_keeps

theorem setUStates_keeps {us new cause verb} {s : State} :
    s.Keeps [.dict, .awaiting, .events, .log] (s.setUStates us new cause verb) := by
  unfold State.setUStates
  exact .foldl (fun _ _ => .step setUState_keeps .refl) .refl

theorem setShares_keeps {a owner n} {s : State} : s.Keeps [.shares] (s.setShares a owner n) := by
  unfold State.setShares
  exact update_shares_keeps

theorem setAccelOwn_keeps {a st} {s : State} : s.Keeps [.accelOwn] (s.setAccelOwn a st) := by
  unfold State.setAccelOwn
  exact update_accelOwn_keeps

theorem refreshAccel_keeps {a} {s : State} : s.Keeps [.dict] (s.refreshAccel a) := by
  unfold State.refreshAccel
  exact .step setNat_keeps <| .step setNat_keeps .refl

theorem setEntry_keeps {n e} {s : State} : s.Keeps [.launch] (s.setEntry n e) := by
  unfold State.setEntry
  exact update_launch_keeps

theorem afterFiring_keeps {n e} {s : State} : s.Keeps [.launch] (s.afterFiring n e) := by
  unfold State.afterFiring
  exact .ite (.step setEntry_keeps .refl) (.step setEntry_keeps .refl)

theorem dropFiring_keeps {n e} {s : State} : s.Keeps [.dict, .awaiting, .events, .launch, .log] (s.dropFiring n e) := by
  unfold State.dropFiring
  exact .step raise_keeps <| .step bump_keeps <| .step afterFiring_keeps .refl

theorem removeEntry_keeps {reason n} {s : State} :
    s.Keeps [.dict, .awaiting, .events, .launch, .prep, .log] (s.removeEntry reason n) := by
  unfold State.removeEntry
  split
  · exact .refl
  · exact .step raise_keeps <| .step update_prep_keeps <| .step setEntry_keeps .refl

theorem removeEntries_keeps {reason p} {s : State} :
    s.Keeps [.dict, .awaiting, .events, .launch, .prep, .log] (s.removeEntries reason p) := by
  unfold State.removeEntries
  exact .foldl (fun _ _ => by
      split
      · exact .ite (.step removeEntry_keeps .refl) .refl
      · exact .refl) .refl

theorem writeGnomon_keeps {new cause} {s : State} :
    s.Keeps [.gnomon, .dict, .awaiting, .events, .log] (s.writeGnomon new cause) := by
  unfold State.writeGnomon
  exact .step raise_keeps <| .step setNat_keeps <| .step setNat_keeps <| .step update_gnomon_keeps .refl

theorem setPath_keeps {p r} {s : State} : s.Keeps [.paths] (s.setPath p r) := by
  unfold State.setPath
  exact update_paths_keeps

theorem setAntenna_keeps {p a} {s : State} : s.Keeps [.antennas] (s.setAntenna p a) := by
  unfold State.setAntenna
  exact update_antennas_keeps

theorem setPlumb_keeps {p r} {s : State} : s.Keeps [.plumb] (s.setPlumb p r) := by
  unfold State.setPlumb
  exact update_plumb_keeps

theorem setChain_keeps {n c} {s : State} : s.Keeps [.chains] (s.setChain n c) := by
  unfold State.setChain
  exact update_chains_keeps

theorem setEngine_keeps {n e} {s : State} : s.Keeps [.engines] (s.setEngine n e) := by
  unfold State.setEngine
  exact update_engines_keeps

theorem setAccel_keeps {n a} {s : State} : s.Keeps [.accels] (s.setAccel n a) := by
  unfold State.setAccel
  exact update_accels_keeps

theorem setCapture_keeps {c r} {s : State} : s.Keeps [.captures] (s.setCapture c r) := by
  unfold State.setCapture
  exact update_captures_keeps

theorem setFm_keeps {e r} {s : State} : s.Keeps [.fms] (s.setFm e r) := by
  unfold State.setFm
  exact update_fms_keeps

theorem setSlot_keeps {i r} {s : State} : s.Keeps [.lantern] (s.setSlot i r) := by
  unfold State.setSlot
  exact update_lantern_keeps

theorem setDbEntry_keeps {i r} {s : State} : s.Keeps [.lantern] (s.setDbEntry i r) := by
  unfold State.setDbEntry
  exact update_lantern_keeps

theorem setDab_keeps {e r} {s : State} : s.Keeps [.dabs] (s.setDab e r) := by
  unfold State.setDab
  exact update_dabs_keeps

theorem setDabDecoder_keeps {e r} {s : State} : s.Keeps [.dabDecoders] (s.setDabDecoder e r) := by
  unfold State.setDabDecoder
  exact update_dabDecoders_keeps

theorem setAm_keeps {e r} {s : State} : s.Keeps [.ams] (s.setAm e r) := by
  unfold State.setAm
  exact update_ams_keeps

theorem setDrm_keeps {e r} {s : State} : s.Keeps [.drms] (s.setDrm e r) := by
  unfold State.setDrm
  exact update_drms_keeps

theorem setVoice_keeps {k v} {s : State} : s.Keeps [.voices] (s.setVoice k v) := by
  unfold State.setVoice
  exact update_voices_keeps

theorem setDrmSelection_keeps {m id} {s : State} : s.Keeps [.drmSel] (s.setDrmSelection m id) := by
  unfold State.setDrmSelection
  exact update_drmSel_keeps

theorem setGslot_keeps {i r} {s : State} : s.Keeps [.gloaming] (s.setGslot i r) := by
  unfold State.setGslot
  exact update_gloaming_keeps

theorem setStream_keeps {u r} {s : State} : s.Keeps [.streams] (s.setStream u r) := by
  unfold State.setStream
  exact update_streams_keeps

theorem setPort_keeps {p r} {s : State} : s.Keeps [.ports] (s.setPort p r) := by
  unfold State.setPort
  exact update_ports_keeps

theorem setPdo_keeps {f r} {s : State} : s.Keeps [.pdos] (s.setPdo f r) := by
  unfold State.setPdo
  exact update_pdos_keeps

theorem moveToken_keeps {new reason} {s : State} : s.Keeps [.dict, .awaiting, .events, .log] (s.moveToken new reason) := by
  unfold State.moveToken
  exact .ite .refl (.step raise_keeps <| .step setNat_keeps <| .step setNat_keeps .refl)

theorem autoTake_keeps {r key} {s : State} : s.Keeps [.dict, .awaiting, .events, .log] (s.autoTake r key) := by
  unfold State.autoTake
  exact .ite (.step moveToken_keeps .refl) .refl

theorem touch_keeps {r} {s : State} : s.Keeps [.dict, .power, .radio] (s.touch r) := by
  unfold State.touch
  exact .ite (.step update_power_radio_keeps <| .ite (.step setNat_keeps .refl) .refl) .refl

theorem reply_keeps {code data} {s : State} : s.Keeps [.answer] (s.reply code data) := by
  unfold State.reply
  exact update_answer_keeps

theorem State.Keeps.carryOut {F r key b act c} {s t : State} (hact : ∀ t : State, t.Keeps F (act t).1) (h : s.Keeps F t)
    (hF : [.dict, .answer, .power, .radio] ⊆ F := by decide) : s.Keeps F (t.carryOut r key b act c) := by
  have touched {u : State} : u.Keeps F ((u.touch r).reply 0 []) :=
    (State.Keeps.step reply_keeps (.step touch_keeps .refl) : u.Keeps [.dict, .answer, .power, .radio] _).mono hF
  have answered {code} {u : State} : u.Keeps F (u.reply code []) :=
    (State.Keeps.step reply_keeps .refl : u.Keeps [.dict, .answer, .power, .radio] _).mono hF
  exact h.trans (.ite (.ite ((hact t).trans touched) answered) answered)

theorem State.Keeps.request {F r key b act} {s t : State} (hact : ∀ t : State, t.Keeps F (act t).1) (h : s.Keeps F t)
    (hF : [.dict, .awaiting, .events, .answer, .log, .power, .radio] ⊆ F := by decide) : s.Keeps F (t.request r key b act) :=
  .carryOut hact (.step autoTake_keeps h (List.Subset.trans (by decide) hF)) (List.Subset.trans (by decide) hF)

theorem State.Keeps.accept {F f} {s t : State} (h : s.Keeps F (f t)) : s.Keeps F (accept f t).1 := h

theorem State.Keeps.guarded {F c f} {s t : State} (hf : ∀ t : State, t.Keeps F (f t)) (h : s.Keeps F t) :
    s.Keeps F (guarded c f t).1 := by
  unfold Machine.guarded
  split
  · exact h.trans (hf t)
  · exact h

theorem State.Keeps.pairedBusy {F key res r b act} {s t : State} (hact : ∀ t : State, t.Keeps F (act t)) (h : s.Keeps F t)
    (hF : [.held] ⊆ F := by decide) : s.Keeps F (t.pairedBusy key res r b act).1 := by
  unfold State.pairedBusy
  split
  · split
    · exact h
    · exact .step update_held_keeps h hF
  · exact h.trans (hact t)

theorem setCvUnit_keeps {u c} {s : State} : s.Keeps [.cvs] (s.setCvUnit u c) := by
  unfold State.setCvUnit
  exact update_cvs_keeps

theorem showCv_keeps {u} {s : State} : s.Keeps [.dict] (s.showCv u) := by
  unfold State.showCv
  split
  · exact setNat_keeps
  · exact .step setNat_keeps <| .step setBytes_keeps <| .step setNat_keeps .refl

theorem loadCv_keeps {u j} {s : State} : s.Keeps [.dict, .cvs] (s.loadCv u j) := by
  unfold State.loadCv
  exact .step showCv_keeps <| .step setCvUnit_keeps .refl

theorem nextCv_keeps {u} {s : State} : s.Keeps [.dict, .cvs] (s.nextCv u) := by
  unfold State.nextCv
  extract_lets
  split
  · exact .step loadCv_keeps <| .step setCvUnit_keeps .refl
  · exact .step showCv_keeps <| .step setCvUnit_keeps .refl

theorem cvStream_keeps {u master data} {s : State} : s.Keeps [.dict, .cvs] (s.cvStream u master data) := by
  unfold State.cvStream
  exact .step showCv_keeps <| .step bumpBy_keeps <| .iteThen (.step setCvUnit_keeps .refl) (.step bump_keeps .refl)

theorem cvClose_keeps {u master} {s : State} : s.Keeps [.dict, .cvs] (s.cvClose u master) := by
  unfold State.cvClose
  extract_lets
  split
  · exact .ite (.step showCv_keeps <| .step setCvUnit_keeps .refl) (by
      split
      · exact .ite (.step setCvUnit_keeps .refl) .refl
      · exact .refl)
  · exact .refl

theorem cvManagement_keeps {n} {s : State} : s.Keeps [.freeCtr, .dict] (s.cvManagement n) := by
  unfold State.cvManagement
  exact .step bumpBy_keeps <| .step setNat_keeps <| .step setBytes_keeps <| .step update_freeCtr_keeps .refl

theorem jobResult_keeps {code check running} {s : State} :
    s.Keeps [.dict, .awaiting, .events, .log] (s.jobResult code check running) := by
  unfold State.jobResult
  exact issuePaired_keeps

theorem runJob_keeps {b} {s : State} : s.Keeps [.dict, .awaiting, .events, .log, .cvs] (s.runJob b) := by
  unfold State.runJob
  exact .ite (.step jobResult_keeps .refl) (.ite (.step loadCv_keeps <| .step await_keeps .refl) (.step setCvUnit_keeps <|
    .step await_keeps .refl))

theorem writeJob_keeps {r b} {s : State} :
    s.Keeps [.dict, .awaiting, .held, .events, .answer, .log, .power, .radio, .cvs] (s.writeJob r b) := by
  unfold State.writeJob
  exact .request (fun _ => .pairedBusy (fun _ => .step runJob_keeps .refl) .refl) .refl

theorem runHeldJob_keeps {s : State} : s.Keeps [.dict, .awaiting, .held, .events, .log, .cvs] s.runHeldJob := by
  unfold State.runHeldJob
  split
  · exact .step runJob_keeps <| .step update_held_keeps .refl
  · exact .refl

theorem tickCv_keeps {u} {s : State} : s.Keeps [.dict, .awaiting, .held, .events, .log, .cvs] (s.tickCv u) := by
  unfold State.tickCv
  exact .ite (.step setCvUnit_keeps .refl) (by
    split
    · exact .refl
    · exact .ite (.step showCv_keeps <| .step bumpBy_keeps <| .step setCvUnit_keeps .refl) (.ite (.step runHeldJob_keeps <|
        .step jobResult_keeps <| .step nextCv_keeps .refl) .refl))

theorem execHostJob_keeps {by_ data} {s : State} :
    s.Leads [.dict, .awaiting, .held, .events, .answer, .log, .power, .radio, .cvs] (execHostJob by_ data s) := by
  unfold execHostJob
  exact .next writeJob_keeps.mono

theorem execContextSwitch_keeps {unit master head data} {s : State} :
    s.Leads [.dict, .cvs] (execContextSwitch unit master head data s) := by
  unfold execContextSwitch
  refine .next ?_
  extract_lets
  split
  · exact .refl
  · exact .ite .refl (by
      split
      · exact loadCv_keeps
      · exact .ite (.step showCv_keeps <| .step bump_keeps <| .step setCvUnit_keeps .refl) (.step setCvUnit_keeps .refl))

theorem execContextRestore_keeps {unit} {s : State} : s.Leads [.dict, .cvs] (execContextRestore unit s) := by
  unfold execContextRestore
  refine .next ?_
  extract_lets c
  split
  · exact .refl
  · refine .ite .refl ?_
    split
    · dsimp only
      split
      · exact .step showCv_keeps <| .step bump_keeps <| .step setCvUnit_keeps .refl
      · exact .step showCv_keeps <| .step setCvUnit_keeps .refl
    · exact nextCv_keeps

theorem recordEvent_keeps {u m} {s : State} : s.Keeps [.captures] (s.recordEvent u m) := by
  unfold State.recordEvent
  exact .foldl (fun _ _ => .ite (.step setCapture_keeps .refl) .refl) .refl

theorem addMarker_keeps {n m} {s : State} : s.Keeps [.chains, .captures] (s.addMarker n m) := by
  unfold State.addMarker
  exact .step recordEvent_keeps <| .step setChain_keeps .refl

theorem tapEnds_keeps {p} {s : State} : s.Keeps [.paths] (s.tapEnds p) := by
  unfold State.tapEnds
  exact setPath_keeps

theorem markPath_keeps {p m} {s : State} : s.Keeps [.chains, .captures] (s.markPath p m) := by
  unfold State.markPath
  exact .step recordEvent_keeps <| .foldl (fun _ _ => .step addMarker_keeps .refl) .refl

theorem setOverload_keeps {p bit} {s : State} : s.Keeps [.dict, .awaiting, .events, .log, .paths] (s.setOverload p bit) := by
  unfold State.setOverload
  exact .ite .refl (.iteElse (.step setNat_keeps .refl) (.step raise_keeps <| .step setPath_keeps .refl))

theorem setSaturation_keeps {n bits} {s : State} :
    s.Keeps [.dict, .awaiting, .events, .log, .chains] (s.setSaturation n bits) := by
  unfold State.setSaturation
  exact .iteElse (.step setChain_keeps <| .step setNat_keeps .refl) (.step raise_keeps <| .step setChain_keeps .refl)

theorem setPlumbStatus_keeps {p bit on} {s : State} : s.Keeps [.dict] (s.setPlumbStatus p bit on) := by
  unfold State.setPlumbStatus
  exact setNat_keeps

theorem noteGain_keeps {p land} {s : State} : s.Keeps [.paths] (s.noteGain p land) := by
  unfold State.noteGain
  exact setPath_keeps

theorem setGain_keeps {p want land} {s : State} : s.Keeps [.dict, .paths, .chains, .captures] (s.setGain p want land) := by
  unfold State.setGain
  exact .iteElse (.step setNat_keeps .refl) (.step markPath_keeps <| .step noteGain_keeps <| .iteThen (.step bump_keeps <|
    .step setNat_keeps .refl) (.step setPath_keeps .refl))

theorem alignPaths_keeps {land} {s : State} : s.Keeps [.dict, .paths, .chains, .captures] (s.alignPaths land) := by
  unfold State.alignPaths
  exact .step setGain_keeps <| .step setGain_keeps .refl

theorem applyDemand_keeps {p d land} {s : State} : s.Keeps [.dict, .paths, .chains, .captures] (s.applyDemand p d land) := by
  unfold State.applyDemand
  exact .ite (.step alignPaths_keeps <| .step setPath_keeps .refl) (.step setGain_keeps <| .step setPath_keeps .refl)

theorem planGain_keeps {p at_ m} {s : State} : s.Keeps [.paths] (s.planGain p at_ m) := by
  unfold State.planGain
  exact setPath_keeps

theorem raiseGr_keeps {p step land} {s : State} : s.Keeps [.dict, .awaiting, .events, .log, .paths] (s.raiseGr p step land) := by
  unfold State.raiseGr
  exact .step planGain_keeps <| .step setPath_keeps <| .ite (.step setOverload_keeps .refl) .refl

theorem tripGain_keeps {p land} {s : State} : s.Keeps [.dict, .paths, .chains, .captures] (s.tripGain p land) := by
  unfold State.tripGain
  exact .ite .refl (.iteThen (.step markPath_keeps <| .step noteGain_keeps <| .step setPath_keeps <| .step bump_keeps <|
    .step setNat_keeps <| .step setNat_keeps .refl) (.step setGain_keeps .refl))

theorem landAm_keeps {land new} {s : State} : s.Keeps [.dict, .paths, .chains, .captures] (s.landAm land new) := by
  unfold State.landAm
  exact .iteElse (.step setPath_keeps <| .step setNat_keeps .refl) (.step markPath_keeps <| .step bump_keeps .refl)

theorem landGain_keeps {p land m} {s : State} : s.Keeps [.dict, .paths, .chains, .captures] (s.landGain p land m) := by
  unfold State.landGain
  extract_lets
  split
  · exact .ite .refl (.step applyDemand_keeps .refl)
  · exact .ite .refl (.step applyDemand_keeps .refl)
  · exact .ite (.step setGain_keeps .refl) .refl
  · exact tripGain_keeps
  · exact landAm_keeps

theorem tickGain_keeps {p} {s : State} : s.Keeps [.dict, .paths, .chains, .captures] (s.tickGain p) := by
  unfold State.tickGain
  exact .iteThen (.foldl (fun _ _ => .step landGain_keeps .refl) (.ite .refl (.step setPath_keeps .refl)))
    (.step noteGain_keeps <| .step setNat_keeps .refl)

theorem releaseStep_keeps {p land} {s : State} : s.Keeps [.paths] (s.releaseStep p land) := by
  unfold State.releaseStep
  exact .ite (.step planGain_keeps <| .step setPath_keeps .refl) .refl

theorem publishLevels_keeps {p codes} {s : State} : s.Keeps [.dict, .paths] (s.publishLevels p codes) := by
  unfold State.publishLevels
  exact .step setNum_keeps <| .step setNum_keeps <| .step setPath_keeps .refl

theorem execAgcWindowEnd_keeps {path codes} {s : State} :
    s.Leads [.dict, .awaiting, .events, .log, .paths, .chains, .captures] (execAgcWindowEnd path codes s) := by
  unfold execAgcWindowEnd
  exact .next <| .ite (.iteElse (.iteElse (by
    split
    · exact publishLevels_keeps.mono
    · exact .step markPath_keeps <| .step setOverload_keeps <| .step bumpBy_keeps <|
        .step publishLevels_keeps .refl) (.step setPath_keeps .refl)) (.ite (.step raiseGr_keeps .refl) (.ite
        (.step raiseGr_keeps .refl) (.step releaseStep_keeps .refl)))) .refl

theorem execAgcReleaseStep_keeps {path} {s : State} : s.Leads [.paths] (execAgcReleaseStep path s) := by
  unfold execAgcReleaseStep
  exact .next <| .ite (.step releaseStep_keeps .refl) .refl

theorem execLnaTrip_keeps {path} {s : State} : s.Leads [.dict, .awaiting, .events, .log, .paths] (execLnaTrip path s) := by
  unfold execLnaTrip
  exact .next <| .ite (.step planGain_keeps <| .step setOverload_keeps <| .step setPath_keeps .refl) .refl

theorem writeManualGr_keeps {p gr} {s : State} : s.Keeps [.dict, .paths] (s.writeManualGr p gr).1 := by
  unfold State.writeManualGr
  exact .guarded (fun _ => .iteThen (.step setNat_keeps .refl) (.step planGain_keeps .refl)) .refl

theorem writeAgcMode_keeps {p m} {s : State} : s.Keeps [.dict, .paths] (s.writeAgcMode p m) := by
  unfold State.writeAgcMode
  exact .ite (.step setNat_keeps <| .iteElse (.ite (.step setNat_keeps <| .step setNat_keeps <|
    .iteElse (.ite (.step setNat_keeps .refl) .refl) (.step setPath_keeps .refl)) (.step setNat_keeps <|
    .iteElse (.ite (.step setNat_keeps .refl) .refl) (.step setPath_keeps .refl))) (.step setPath_keeps .refl))
    (.step setNat_keeps <| .iteElse (.ite (.step setNat_keeps .refl) .refl) (.step setPath_keeps .refl))

theorem execManualGrWrite_keeps {by_ path gr} {s : State} :
    s.Leads [.dict, .awaiting, .events, .answer, .log, .power, .paths, .radio] (execManualGrWrite by_ path gr s) := by
  unfold execManualGrWrite
  exact .next <| .request (fun _ => .step writeManualGr_keeps .refl) .refl

theorem execAgcModeWrite_keeps {by_ path mode} {s : State} :
    s.Leads [.dict, .awaiting, .events, .answer, .log, .power, .paths, .radio] (execAgcModeWrite by_ path mode s) := by
  unfold execAgcModeWrite
  exact .next <| .request (fun _ => .accept (.step writeAgcMode_keeps .refl)) .refl

theorem setAmAttenuation_keeps {new} {s : State} : s.Keeps [.dict, .paths, .chains, .captures] (s.setAmAttenuation new) := by
  unfold State.setAmAttenuation
  exact .ite (.step landAm_keeps .refl) (.step planGain_keeps .refl)

theorem execAmAttenuationStep_keeps {level} {s : State} :
    s.Leads [.dict, .awaiting, .events, .log, .paths, .amQuietSince, .chains, .captures] (execAmAttenuationStep level s) := by
  unfold execAmAttenuationStep
  exact .next <| .ite (.ite (.iteThen (.step setAmAttenuation_keeps <|
    .step update_amQuietSince_keeps .refl) (.step setOverload_keeps .refl)) (.ite (by
    extract_lets
    split
    · exact update_amQuietSince_keeps.mono
    · exact .ite (.step update_amQuietSince_keeps <|
        .step setAmAttenuation_keeps .refl) .refl) (.step update_amQuietSince_keeps .refl)))
        (.step update_amQuietSince_keeps .refl)

theorem execOverloadFlagsClear_keeps {by_ path bits} {s : State} :
    s.Leads [.dict, .awaiting, .events, .answer, .log, .power, .radio] (execOverloadFlagsClear by_ path bits s) := by
  unfold execOverloadFlagsClear
  exact .next <| .request (fun _ => .accept (.step setNat_keeps .refl)) .refl

theorem setAntennaStatus_keeps {p new} {s : State} : s.Keeps [.dict, .awaiting, .events, .log] (s.setAntennaStatus p new) := by
  unfold State.setAntennaStatus
  exact .ite .refl (.step raise_keeps <| .step setNat_keeps .refl)

theorem refreshAntenna_keeps {p} {s : State} : s.Keeps [.dict, .awaiting, .events, .log, .antennas] (s.refreshAntenna p) := by
  unfold State.refreshAntenna
  exact .iteElse (.step setAntenna_keeps .refl) (.ite (.ite (.step setAntennaStatus_keeps .refl) .refl)
    (.step setAntennaStatus_keeps .refl))

theorem antennaFault_keeps {p st} {s : State} : s.Keeps [.dict, .awaiting, .events, .log, .antennas] (s.antennaFault p st) := by
  unfold State.antennaFault
  exact .step setAntennaStatus_keeps <| .step bump_keeps <| .step setAntenna_keeps .refl

theorem execAntennaShort_keeps {path current} {s : State} :
    s.Leads [.dict, .awaiting, .events, .log, .antennas] (execAntennaShort path current s) := by
  unfold execAntennaShort
  exact .next <| .ite (.step antennaFault_keeps .refl) .refl

theorem judgeAntenna_keeps {path mean} {s : State} :
    s.Keeps [.dict, .awaiting, .events, .log, .antennas] (s.judgeAntenna path mean) := by
  unfold State.judgeAntenna
  exact .ite (.ite .refl (.step antennaFault_keeps .refl)) (.step setAntennaStatus_keeps <| .step setAntenna_keeps .refl)

theorem execAntennaCurrentJudge_keeps {path codes} {s : State} :
    s.Leads [.dict, .awaiting, .events, .log, .antennas] (execAntennaCurrentJudge path codes s) := by
  unfold execAntennaCurrentJudge
  exact .next <| .ite (by
    extract_lets
    split
    · exact .step judgeAntenna_keeps <| .step setAntenna_keeps <| .step setNat_keeps .refl
    · exact .step setAntenna_keeps <| .step setNat_keeps .refl) .refl

theorem execAntennaRetry_keeps {path} {s : State} :
    s.Leads [.dict, .awaiting, .events, .log, .antennas] (execAntennaRetry path s) := by
  unfold execAntennaRetry
  exact .next <| .ite (by
    split
    · exact .ite (.step setAntennaStatus_keeps <| .step setAntenna_keeps .refl) .refl
    · exact .refl) .refl

theorem restoreAntenna_keeps {path} {s : State} :
    s.Keeps [.dict, .awaiting, .events, .log, .antennas] (s.restoreAntenna path) := by
  unfold State.restoreAntenna
  exact .ite (.step refreshAntenna_keeps <| .step setAntennaStatus_keeps <| .step setAntenna_keeps .refl) .refl

theorem execAntennaRestore_keeps {by_ path value} {s : State} :
    s.Leads [.dict, .awaiting, .events, .answer, .log, .power, .antennas, .radio] (execAntennaRestore by_ path value s) := by
  unfold execAntennaRestore
  exact .next <| .request (fun _ => .accept (.step restoreAntenna_keeps .refl)) .refl

theorem rfEffect_keeps {key} {s : State} :
    s.Keeps [.dict, .awaiting, .events, .log, .paths, .amQuietSince, .antennas, .chains, .captures] (s.rfEffect key) := by
  unfold State.rfEffect
  exact .ite (.step refreshAntenna_keeps .refl) (.ite (.iteThen (.ite (.step update_amQuietSince_keeps .refl) .refl)
    (.step setAmAttenuation_keeps .refl)) .refl)

theorem powerPath_keeps {p} {s : State} : s.Keeps [.dict, .paths, .amQuietSince] (s.powerPath p) := by
  unfold State.powerPath
  exact .step setNat_keeps <| .step setNat_keeps <| .step setNat_keeps <|
    .iteThen (.step setPath_keeps .refl) (.step update_amQuietSince_keeps .refl)

theorem setTrims_keeps {table p ts} {s : State} : s.Keeps [.dict] (s.setTrims table p ts) := by
  unfold State.setTrims
  exact .foldl (fun _ _ => .step setNat_keeps .refl) .refl

theorem plumbOutcome_keeps {p n} {s : State} : s.Keeps [.dict, .awaiting, .events, .log, .plumb] (s.plumbOutcome p n) := by
  unfold State.plumbOutcome
  exact .step raise_keeps <|
    .iteThen (.iteElse (.iteThen (.iteThen (.iteThen (.iteThen (.step setNat_keeps .refl) (.step bump_keeps .refl))
    (.step bump_keeps .refl)) (.step bump_keeps .refl)) (.step setPlumbStatus_keeps <|
    .step setPlumbStatus_keeps .refl)) (.step setPlumb_keeps .refl)) (.step setPlumb_keeps .refl)

theorem startWindow_keeps {p phase} {s : State} : s.Keeps [.dict, .plumb] (s.startWindow p phase) := by
  unfold State.startWindow
  exact .step setPlumbStatus_keeps <| .step setPlumbStatus_keeps <| .step setPlumb_keeps .refl

theorem plumbUnitState_keeps {p} {s : State} : s.Keeps [.dict, .awaiting, .events, .log] (s.plumbUnitState p) := by
  unfold State.plumbUnitState
  exact .ite .refl (.step setUState_keeps .refl)

theorem endCycle_keeps {p} {s : State} : s.Keeps [.dict, .awaiting, .events, .log, .plumb] (s.endCycle p) := by
  unfold State.endCycle
  exact .iteThen (.step setPlumbStatus_keeps <| .step setPlumbStatus_keeps <| .step setPlumb_keeps <| by
    split
    · exact .step plumbUnitState_keeps <| .step setNat_keeps .refl
    · exact .refl) (.step startWindow_keeps .refl)

theorem dropBlanks_keeps {p changes} {s : State} : s.Keeps [.launch] (s.dropBlanks p changes) := by
  unfold State.dropBlanks
  exact .foldl (fun _ _ => by
      split
      · exact .ite (.step setEntry_keeps .refl) .refl
      · exact .refl) .refl

theorem announceBlank_keeps {p action l} {s : State} :
    s.Keeps [.dict, .awaiting, .events, .log] (s.announceBlank p action l) := by
  unfold State.announceBlank
  exact raise_keeps

theorem tryPlace_keeps {p} {s : State} : s.Keeps [.dict, .awaiting, .events, .launch, .log, .plumb] (s.tryPlace p) := by
  unfold State.tryPlace
  extract_lets r l
  split
  · exact .refl
  next j _ =>
    refine .ite .refl ?_
    extract_lets e place
    have hplace {t : State} : t.Keeps [.dict, .awaiting, .events, .launch, .log, .plumb] (place t) := by
      unfold place
      split
      · exact .refl
      · exact .step announceBlank_keeps <| .step setPlumbStatus_keeps <| .step setEntry_keeps .refl
    split
    · exact .ite .refl (.ite (.step setPlumb_keeps .refl) hplace)
    · exact .iteElse (.step setPlumb_keeps .refl) hplace

theorem askBlank_keeps {p j} {s : State} : s.Keeps [.dict, .awaiting, .events, .launch, .log, .plumb] (s.askBlank p j) := by
  unfold State.askBlank
  exact .step tryPlace_keeps <| .step setPlumb_keeps .refl

theorem cancelApply_keeps {p} {s : State} : s.Keeps [.dict, .launch, .plumb] (s.cancelApply p) := by
  unfold State.cancelApply
  exact .step setPlumbStatus_keeps <| .step setPlumb_keeps <| .step dropBlanks_keeps .refl

theorem announceTest_keeps {p} {s : State} : s.Keeps [.dict, .awaiting, .events, .log] (s.announceTest p) := by
  unfold State.announceTest
  exact .foldl (fun _ _ => by
      split
      · exact .ite (.step announceBlank_keeps .refl) .refl
      · exact .refl) .refl

theorem cancelTest_keeps {p} {s : State} : s.Keeps [.dict, .launch] (s.cancelTest p) := by
  unfold State.cancelTest
  exact .step setPlumbStatus_keeps <| .step dropBlanks_keeps .refl

theorem actOnProposal_keeps {p w} {s : State} :
    s.Keeps [.dict, .awaiting, .events, .launch, .log, .plumb] (s.actOnProposal p w) := by
  unfold State.actOnProposal
  exact .ite (.step endCycle_keeps <| .step plumbOutcome_keeps <|
    .iteElse (.ite .refl (.step setPlumbStatus_keeps .refl)) (.step setTrims_keeps .refl)) (.ite (.step endCycle_keeps <|
    .step plumbOutcome_keeps <| .step setPlumbStatus_keeps <|
    .iteElse (.ite .refl (.step setPlumbStatus_keeps .refl)) (.step setTrims_keeps .refl)) (.step askBlank_keeps <|
    .step setPlumb_keeps <| .iteElse (.ite .refl (.step setPlumbStatus_keeps .refl)) (.step setTrims_keeps .refl)))

theorem execPlumbWindowEnd_keeps {path sums} {s : State} :
    s.Leads [.dict, .awaiting, .events, .log, .plumb] (execPlumbWindowEnd path sums s) := by
  unfold execPlumbWindowEnd
  exact .next <| .ite (.ite (.ite (.step startWindow_keeps <| .step setPlumbStatus_keeps <|
    .step bump_keeps .refl) (.step endCycle_keeps <| .step plumbOutcome_keeps <| .step setPlumbStatus_keeps <|
    .step bump_keeps .refl)) (.step setPlumb_keeps <| .step setNat_keeps <| .step setNum_keeps <| .step setNum_keeps <|
    .step setPlumbStatus_keeps <| .step bump_keeps .refl)) .refl

theorem execPlumbProposalReady_keeps {path} {s : State} :
    s.Leads [.dict, .awaiting, .events, .launch, .log, .plumb] (execPlumbProposalReady path s) := by
  unfold execPlumbProposalReady
  exact .next <| .ite (by
    split
    · exact actOnProposal_keeps
    · exact .refl) (.ite (.step tryPlace_keeps .refl) .refl)

theorem execPlumbPostCheck_keeps {path} {s : State} :
    s.Leads [.dict, .awaiting, .events, .launch, .log, .plumb] (execPlumbPostCheck path s) := by
  unfold execPlumbPostCheck
  exact .next <| .ite (by
    extract_lets
    split
    · exact .refl
    · exact .ite (.step askBlank_keeps <| .iteThen (.step setPlumb_keeps <|
        .step plumbOutcome_keeps .refl) (.step appendLog_keeps <|
        .step setPlumbStatus_keeps .refl)) (.ite (.step endCycle_keeps <|
        .step plumbOutcome_keeps .refl) (.step setPlumb_keeps <| .step plumbOutcome_keeps .refl))) .refl

theorem protectedLost_keeps {path} {s : State} :
    s.Keeps [.dict, .awaiting, .events, .launch, .log, .plumb] (s.protectedLost path) := by
  unfold State.protectedLost
  exact .ite (.step tryPlace_keeps <| .step setPlumb_keeps .refl) .refl

theorem execPlumbProtectedLost_keeps {path} {s : State} :
    s.Leads [.dict, .awaiting, .events, .launch, .log, .plumb] (execPlumbProtectedLost path s) := by
  unfold execPlumbProtectedLost
  exact .next protectedLost_keeps.mono

theorem setBlanks_keeps {p bs} {s : State} : s.Keeps [.paths, .plumb] (s.setBlanks p bs) := by
  unfold State.setBlanks
  exact .step setPlumb_keeps <| .step setPath_keeps .refl

theorem execPlumbBlank_keeps {entry} {s : State} :
    s.Leads [.dict, .awaiting, .events, .launch, .log, .paths, .plumb, .chains, .captures] (execPlumbBlank entry s) := by
  unfold execPlumbBlank
  refine .next ?_
  split
  · exact .refl
  · exact .ite (.step dropFiring_keeps .refl) (.step markPath_keeps <| .step setPath_keeps <| .ite (.step setBlanks_keeps <|
      .iteThen (.step afterFiring_keeps .refl) (.step setPlumb_keeps .refl)) (.step setPlumbStatus_keeps <|
      .step setBlanks_keeps <| .step setPlumb_keeps <| .iteThen (.step afterFiring_keeps .refl) (.step setPlumb_keeps .refl)))

theorem execPlumbTrimChange_keeps {path} {s : State} :
    s.Leads [.dict, .awaiting, .events, .log, .plumb] (execPlumbTrimChange path s) := by
  unfold execPlumbTrimChange
  refine .next ?_
  extract_lets
  split
  · exact .refl
  · exact .ite (.iteThen (.step setPlumb_keeps <| .step setNum_keeps <| .step setNat_keeps <| .step bump_keeps <|
      .step setTrims_keeps <| .step setTrims_keeps .refl) (.step plumbOutcome_keeps .refl)) .refl

theorem endBlank_keeps {p b} {s : State} :
    s.Keeps [.dict, .awaiting, .events, .log, .paths, .plumb, .chains, .captures] (s.endBlank p b) := by
  unfold State.endBlank
  exact .ite (.iteElse (.step markPath_keeps <|
    .step setBlanks_keeps .refl) (.step setPlumbStatus_keeps .refl)) (.ite (.step startWindow_keeps <| .step markPath_keeps <|
    .step setBlanks_keeps .refl) (.iteThen (.step markPath_keeps <| .step setBlanks_keeps .refl) (.step endCycle_keeps .refl)))

theorem execPlumbBlankEnd_keeps {path} {s : State} :
    s.Leads [.dict, .awaiting, .events, .log, .paths, .plumb, .chains, .captures] (execPlumbBlankEnd path s) := by
  unfold execPlumbBlankEnd
  refine .next ?_
  split
  · exact .refl
  · exact .ite (.step endBlank_keeps .refl) .refl

theorem execEstimatorWindowStart_keeps {path} {s : State} : s.Leads [.dict, .plumb] (execEstimatorWindowStart path s) := by
  unfold execEstimatorWindowStart
  exact .next <| .ite (.step startWindow_keeps .refl) .refl

theorem plumbRun_keeps {p} {s : State} : s.Keeps [.dict, .plumb] (s.plumbRun p).1 := by
  unfold State.plumbRun
  exact .guarded (fun _ => .step startWindow_keeps <| .step setPlumb_keeps .refl) .refl

theorem plumbBlankCommand_keeps {p action outcome modeCode table} {s : State} :
    s.Keeps [.dict, .awaiting, .events, .launch, .log, .plumb] (s.plumbBlankCommand p action outcome modeCode table).1 := by
  unfold State.plumbBlankCommand
  exact .guarded (fun _ => .step askBlank_keeps .refl) .refl

theorem plumbTestStart_keeps {p} {s : State} : s.Keeps [.dict, .awaiting, .events, .launch, .log] (s.plumbTestStart p).1 := by
  unfold State.plumbTestStart
  exact .guarded (fun _ => by
      split
      · exact .refl
      · exact .step announceBlank_keeps <| .step setPlumbStatus_keeps <| .step setEntry_keeps .refl) .refl

theorem plumbTestStop_keeps {p} {s : State} : s.Keeps [.dict, .launch] (s.plumbTestStop p).1 := by
  unfold State.plumbTestStop
  exact .guarded (fun _ => .step cancelTest_keeps .refl) .refl

theorem plumbCommand_keeps {p v} {s : State} :
    s.Keeps [.dict, .awaiting, .events, .launch, .log, .plumb] (s.plumbCommand p v).1 := by
  unfold State.plumbCommand
  split
  · exact plumbRun_keeps.mono
  · exact plumbBlankCommand_keeps
  · exact plumbBlankCommand_keeps
  · exact plumbBlankCommand_keeps
  · exact plumbTestStart_keeps.mono
  · exact plumbTestStop_keeps.mono
  · exact .refl

theorem execPlumbRunCycle_keeps {by_ path} {s : State} :
    s.Leads [.dict, .awaiting, .events, .answer, .launch, .log, .power, .plumb, .radio] (execPlumbRunCycle by_ path s) := by
  unfold execPlumbRunCycle
  exact .next <| .request (fun _ => .step plumbCommand_keeps .refl) .refl

theorem execPlumbRestoreKept_keeps {by_ path} {s : State} :
    s.Leads [.dict, .awaiting, .events, .answer, .launch, .log, .power, .plumb, .radio] (execPlumbRestoreKept by_ path s) := by
  unfold execPlumbRestoreKept
  exact .next <| .request (fun _ => .step plumbCommand_keeps .refl) .refl

theorem execPlumbLoadFactory_keeps {by_ path} {s : State} :
    s.Leads [.dict, .awaiting, .events, .answer, .launch, .log, .power, .plumb, .radio] (execPlumbLoadFactory by_ path s) := by
  unfold execPlumbLoadFactory
  exact .next <| .request (fun _ => .step plumbCommand_keeps .refl) .refl

theorem execPlumbApplyStaged_keeps {by_ path} {s : State} :
    s.Leads [.dict, .awaiting, .events, .answer, .launch, .log, .power, .plumb, .radio] (execPlumbApplyStaged by_ path s) := by
  unfold execPlumbApplyStaged
  exact .next <| .request (fun _ => .step plumbCommand_keeps .refl) .refl

theorem execPlumbBlankTestStart_keeps {by_ path} {s : State} :
    s.Leads [.dict, .awaiting, .events, .answer, .launch, .log, .power, .plumb, .radio] (execPlumbBlankTestStart by_ path s) := by
  unfold execPlumbBlankTestStart
  exact .next <| .request (fun _ => .step plumbCommand_keeps .refl) .refl

theorem execPlumbBlankTestStop_keeps {by_ path} {s : State} :
    s.Leads [.dict, .awaiting, .events, .answer, .launch, .log, .power, .plumb, .radio] (execPlumbBlankTestStop by_ path s) := by
  unfold execPlumbBlankTestStop
  exact .next <| .request (fun _ => .step plumbCommand_keeps .refl) .refl

theorem writePlumbMode_keeps {p m} {s : State} :
    s.Keeps [.dict, .awaiting, .events, .launch, .log, .plumb] (s.writePlumbMode p m) := by
  unfold State.writePlumbMode
  exact .ite (.step plumbUnitState_keeps <| .step endCycle_keeps <| .step setNat_keeps <|
    .ite (.step cancelTest_keeps .refl) .refl) (.ite (.step setPlumb_keeps <|
    .ite (.step cancelTest_keeps .refl) .refl) (.step plumbUnitState_keeps <| .step endCycle_keeps <| .step setNat_keeps <|
    .step plumbOutcome_keeps <| .step cancelApply_keeps <| .ite (.step cancelTest_keeps .refl) .refl))

theorem execPlumbModeWrite_keeps {by_ path mode} {s : State} :
    s.Leads [.dict, .awaiting, .events, .answer, .launch, .log, .power, .plumb, .radio] (execPlumbModeWrite by_ path mode s) := by
  unfold execPlumbModeWrite
  exact .next <| .request (fun _ => .accept (.step writePlumbMode_keeps .refl)) .refl

theorem plumbUnlock_keeps {p} {s : State} : s.Keeps [.dict, .awaiting, .events, .launch, .log, .plumb] (s.plumbUnlock p) := by
  unfold State.plumbUnlock
  exact .iteThen (.step setPlumb_keeps .refl) (.iteThen (.step plumbOutcome_keeps <| .step setPlumbStatus_keeps <|
    .step setPlumb_keeps <| .step dropBlanks_keeps .refl) (.step endCycle_keeps .refl))

theorem plumbPowerDown_keeps {p} {s : State} :
    s.Keeps [.dict, .awaiting, .events, .log, .paths, .plumb] (s.plumbPowerDown p) := by
  unfold State.plumbPowerDown
  exact .step setNat_keeps <| .step setUState_keeps <| .step setNat_keeps <| .step setPath_keeps <| .step setPlumb_keeps <| by
    split
    · exact .step setNat_keeps <| .ite .refl (.step plumbOutcome_keeps .refl)
    · exact .ite .refl (.step plumbOutcome_keeps .refl)

theorem plumbPowerUp_keeps {p} {s : State} :
    s.Keeps [.dict, .awaiting, .events, .log, .plumb, .claimedAt] (s.plumbPowerUp p) := by
  unfold State.plumbPowerUp
  exact .iteThen (.iteThen (.step setUState_keeps <| .step setUState_keeps <| .step claimedBy_keeps <| .step setPlumb_keeps <|
    .step setPlumbStatus_keeps <| .ite .refl (.step setPlumbStatus_keeps <| .step setTrims_keeps <|
    .step setTrims_keeps .refl)) (.step setUState_keeps .refl)) (.step startWindow_keeps .refl)

theorem execSampleClockUnlock_keeps {lastGood} {s : State} :
    s.Leads [.dict, .awaiting, .events, .launch, .log, .power, .paths, .plumb, .chains, .captures]
      (execSampleClockUnlock lastGood s) := by
  unfold execSampleClockUnlock
  exact .next <| .ite (.step update_power_keeps <| .step setNat_keeps <| .ite (.step plumbUnlock_keeps <|
    .step setOverload_keeps <| .step markPath_keeps <| .step setPath_keeps <| .step setNat_keeps <|
    .ite (.step plumbUnlock_keeps <| .step setOverload_keeps <| .step markPath_keeps <| .step setPath_keeps <|
    .step setNat_keeps .refl) .refl) (.ite (.step plumbUnlock_keeps <| .step setOverload_keeps <| .step markPath_keeps <|
    .step setPath_keeps <| .step setNat_keeps .refl) .refl)) .refl

theorem alloc_keeps {pool size owner kind} {s : State} {p : State × Nat} (h : s.alloc pool size owner kind = some p) :
    s.Keeps [.shm] p.1 := by
  unfold State.alloc at h
  dsimp only at h
  split at h
  · cases h
  · cases h
    exact update_shm_keeps

theorem allocAll_keeps {xs} {s t : State} (h : s.allocAll xs = some t) : s.Keeps [.shm] t := by
  induction xs generalizing s with
  | nil =>
    cases h
    exact .refl
  | cons x xs ih =>
    unfold State.allocAll at h
    split at h
    · cases h
    next u base hu => exact .trans (alloc_keeps hu) (ih h)

theorem freeOwner_keeps {owner} {s : State} : s.Keeps [.shm] (s.freeOwner owner) := by
  unfold State.freeOwner
  exact update_shm_keeps

theorem freeAt_keeps {base} {s : State} : s.Keeps [.shm] (s.freeAt base) := by
  unfold State.freeAt
  exact update_shm_keeps

theorem countDrop_keeps {owner kind} {s : State} : s.Keeps [.shm] (s.countDrop owner kind) := by
  unfold State.countDrop
  exact update_shm_keeps

theorem shareNco_keeps {n} {s : State} : s.Keeps [.dict, .chains] (s.shareNco n) := by
  unfold State.shareNco
  split
  · exact .refl
  · exact .step setNat_keeps <| .step setNum_keeps <| .step setChain_keeps .refl

theorem commitChain_keeps {n} {s : State} : s.Keeps [.dict, .committed, .chains] (s.commitChain n) := by
  unfold State.commitChain
  exact .step shareNco_keeps <| .step setChain_keeps <| .ite (.iteElse (.step setNat_keeps <| .step setNat_keeps <|
    .step setNum_keeps <| .step setNat_keeps <| .step commitKeys_keeps .refl) (.step setNat_keeps .refl)) (.step setNat_keeps <|
    .step setNat_keeps <| .step setNat_keeps <| .step setNum_keeps <| .step setNat_keeps <| .step commitKeys_keeps .refl)

theorem startChain_keeps {n t} {s : State} : s.Keeps [.chains, .captures] (s.startChain n t) := by
  unfold State.startChain
  exact .step addMarker_keeps <| .step setChain_keeps .refl

theorem setFade_keeps {n f} {s : State} : s.Keeps [.chains] (s.setFade n f) := by
  unfold State.setFade
  exact setChain_keeps

theorem startFade_keeps {n new i} {s : State} : s.Keeps [.dict, .chains, .captures] (s.startFade n new i) := by
  unfold State.startFade
  exact .step setNat_keeps <| .step addMarker_keeps <| .step setFade_keeps .refl

theorem takeResponse_keeps {n v} {s : State} : s.Keeps [.dict, .chains, .captures] (s.takeResponse n v) := by
  unfold State.takeResponse
  exact .ite .refl (.ite (.step setNat_keeps <| .step setNat_keeps .refl) (.ite .refl (by
    split
    · exact setNat_keeps.mono
    · exact .ite .refl (.step startFade_keeps .refl))))

theorem endFade_keeps {n} {s : State} : s.Keeps [.dict, .chains, .captures] (s.endFade n) := by
  unfold State.endFade
  split
  · exact .refl
  · exact .iteElse (.step setNat_keeps <| .step setNat_keeps <|
      .step setFade_keeps .refl) (.iteElse (.step setNat_keeps .refl) (.step startFade_keeps .refl))

theorem selectResponse_keeps {n v} {s : State} : s.Keeps [.dict, .chains, .captures] (s.selectResponse n v).1 := by
  unfold State.selectResponse
  exact .guarded (fun _ => .foldl (fun _ _ => .step takeResponse_keeps .refl) .refl) .refl

theorem reverseFade_keeps {n} {s : State} : s.Keeps [.dict, .chains, .captures] (s.reverseFade n).1 := by
  unfold State.reverseFade
  exact .guarded (fun _ => .foldl (fun _ _ => by
      extract_lets
      split
      · exact .refl
      · exact .step setNat_keeps <| .step addMarker_keeps <| .step setFade_keeps .refl) .refl) .refl

theorem execResponseSelect_keeps {by_ chain response} {s : State} :
    s.Leads [.dict, .awaiting, .events, .answer, .log, .power, .chains, .captures, .radio]
      (execResponseSelect by_ chain response s) := by
  unfold execResponseSelect
  exact .next <| .request (fun _ => .step selectResponse_keeps .refl) .refl

theorem execFadeReverse_keeps {by_ chain} {s : State} :
    s.Leads [.dict, .awaiting, .events, .answer, .log, .power, .chains, .captures, .radio] (execFadeReverse by_ chain s) := by
  unfold execFadeReverse
  exact .next <| .request (fun _ => .step reverseFade_keeps .refl) .refl

theorem execFadeEnd_keeps {chain} {s : State} : s.Leads [.dict, .chains, .captures] (execFadeEnd chain s) := by
  unfold execFadeEnd
  exact .next <| .foldl (fun _ _ => by
      split
      · exact .refl
      · exact .ite (.step endFade_keeps .refl) .refl) .refl

theorem writeDcFreeze_keeps {n value} {s : State} : s.Keeps [.dict, .chains] (s.writeDcFreeze n value) := by
  unfold State.writeDcFreeze
  exact .step setNat_keeps <| .ite .refl (.ite (.step setChain_keeps .refl) (.step setChain_keeps .refl))

theorem execDcFreezeWrite_keeps {by_ chain value} {s : State} :
    s.Leads [.dict, .awaiting, .events, .answer, .log, .power, .chains, .radio] (execDcFreezeWrite by_ chain value s) := by
  unfold execDcFreezeWrite
  exact .next <| .request (fun _ => .accept (.step writeDcFreeze_keeps .refl)) .refl

theorem takeDetector_keeps {n} {s : State} : s.Keeps [.dict, .chains] (s.takeDetector n) := by
  unfold State.takeDetector
  exact .step setChain_keeps <| by
    split
    · exact .step setNat_keeps <| by
        split
        · exact setNum_keeps.mono
        · exact .refl
    · split
      · exact setNum_keeps.mono
      · exact .refl

theorem shortenCaptures_keeps {u} {s : State} : s.Keeps [.captures] (s.shortenCaptures u) := by
  unfold State.shortenCaptures
  exact .foldl (fun _ _ => .ite (.step setCapture_keeps .refl) .refl) .refl

theorem endTapOf_keeps {n} {s : State} : s.Keeps [.paths] (s.endTapOf n) := by
  unfold State.endTapOf
  extract_lets
  split
  · exact tapEnds_keeps
  · exact .refl

theorem setQuickOff_keeps {n off} {s : State} : s.Keeps [.dict, .chains] (s.setQuickOff n off) := by
  unfold State.setQuickOff
  exact .ite .refl (.step setNat_keeps <| .step setChain_keeps <| .step setChain_keeps .refl)

theorem endAfCheck_keeps {n} {s : State} : s.Keeps [.dict, .chains, .following] (s.endAfCheck n) := by
  unfold State.endAfCheck
  extract_lets
  split
  · exact .refl
  · exact .step setQuickOff_keeps <| .step update_following_keeps .refl

theorem holdChain_keeps {n} {s : State} : s.Keeps [.dict, .paths, .chains, .captures, .following] (s.holdChain n) := by
  unfold State.holdChain
  exact .step shortenCaptures_keeps <| .step setChain_keeps <| .iteElse (by
    split
    · exact .step endTapOf_keeps <| .step takeDetector_keeps <| .step endAfCheck_keeps .refl
    · exact .step setNat_keeps <| .step setNat_keeps <| .step setChain_keeps <| .step endTapOf_keeps <|
        .step takeDetector_keeps <| .step endAfCheck_keeps .refl) (.step setNat_keeps <| .step setNat_keeps .refl)

theorem releaseChain_keeps {n} {s : State} :
    s.Keeps [.dict, .fifos, .paths, .chains, .shm, .captures, .following] (s.releaseChain n) := by
  unfold State.releaseChain
  exact .step clearFifo_keeps <| .step setChain_keeps <| .step freeOwner_keeps <| .step holdChain_keeps .refl

theorem retuned_keeps {n t moved m} {s : State} : s.Keeps [.chains, .captures] (s.retuned n t moved m) := by
  unfold State.retuned
  exact .step addMarker_keeps <| .step setChain_keeps .refl

theorem retuneChain_keeps {n t param} {s : State} : s.Keeps [.dict, .chains, .captures] (s.retuneChain n t param) := by
  unfold State.retuneChain
  exact .step retuned_keeps <| .step setNat_keeps <| .step setNum_keeps <| .step setChain_keeps .refl

theorem moveToPath_keeps {n path t} {s : State} : s.Keeps [.paths, .chains, .captures] (s.moveToPath n path t) := by
  unfold State.moveToPath
  exact .ite .refl (.step retuned_keeps <| .step setChain_keeps <| .step endTapOf_keeps .refl)

theorem execSaturationClear_keeps {by_ chain bits} {s : State} :
    s.Leads [.dict, .awaiting, .events, .answer, .log, .power, .radio] (execSaturationClear by_ chain bits s) := by
  unfold execSaturationClear
  exact .next <| .request (fun _ => .accept (.step setNat_keeps .refl)) .refl

theorem execDetectorBlockEnd_keeps {chain a b saturated} {s : State} :
    s.Leads [.dict, .awaiting, .events, .log, .chains] (execDetectorBlockEnd chain a b saturated s) := by
  unfold execDetectorBlockEnd
  refine .next ?_
  extract_lets
  split
  · exact .refl
  · exact .ite (.step takeDetector_keeps <| .step setChain_keeps <| .iteElse (.step issue_keeps <|
      .ite (.step setSaturation_keeps .refl) .refl) (.step setNat_keeps .refl)) .refl

theorem writeDetectorMode_keeps {n mode} {s : State} : s.Keeps [.dict, .chains] (s.writeDetectorMode n mode) := by
  unfold State.writeDetectorMode
  exact .ite (.step takeDetector_keeps <| .step setChain_keeps <|
    .step setNat_keeps .refl) (.iteThen (.step setNat_keeps .refl) (.step setChain_keeps .refl))

theorem writeDetector_keeps {n sub v} {s : State} : s.Keeps [.dict, .chains] (s.writeDetector n sub v) := by
  unfold State.writeDetector
  exact .ite (.step setNum_keeps .refl) (.ite (.step setChain_keeps .refl) (.step setChain_keeps .refl))

theorem execDetectorSettingWrite_keeps {by_ chain sub value} {s : State} :
    s.Leads [.dict, .awaiting, .events, .answer, .log, .power, .chains, .radio]
      (execDetectorSettingWrite by_ chain sub value s) := by
  unfold execDetectorSettingWrite
  exact .next <|
    .request (fun _ => .accept (.ite (.step writeDetectorMode_keeps .refl) (.ite (.step writeDetector_keeps .refl)
    (.step setNum_keeps .refl)))) .refl

theorem captureBuffer_keeps {c} {s t : State} (h : s.captureBuffer c = some t) : s.Keeps [.shm, .captures] t := by
  have placed {pool size owner kind} {u : State}
      (h : (u.alloc pool size owner kind).map (fun p => p.1.setCapture c { p.1.capture c with buf := some p.2 }) = some t) :
      u.Keeps [.shm, .captures] t := by
    obtain ⟨p, hp, rfl⟩ := Option.map_eq_some_iff.mp h
    exact .step setCapture_keeps (alloc_keeps hp).mono
  unfold State.captureBuffer at h
  extract_lets size held at h
  clear_value held
  cases held with
  | none => exact placed h
  | some a =>
    dsimp only at h
    split at h
    · obtain rfl := Option.some.inj h
      exact .refl
    · exact .trans freeAt_keeps.mono (placed h)

theorem armCapture_keeps {c} {s : State} : s.Keeps [.dict, .awaiting, .shm, .captures] (s.armCapture c).1 := by
  unfold State.armCapture
  extract_lets
  split
  · exact .refl
  · split
    · exact .refl
    · rename_i t h
      exact .trans (.step (captureBuffer_keeps h) .refl) <| .step await_keeps <| .step setNat_keeps <|
        .step setCapture_keeps .refl

theorem triggerCapture_keeps {c t phase} {s : State} : s.Keeps [.dict, .captures] (s.triggerCapture c t phase) := by
  unfold State.triggerCapture
  exact .step setNat_keeps <| .step setCapture_keeps .refl

theorem endCapture_keeps {c state flags upTo sample} {s : State} :
    s.Keeps [.dict, .awaiting, .captures] (s.endCapture c state flags upTo sample) := by
  unfold State.endCapture
  exact .step issue_keeps <| .step setNat_keeps <| .step setCapture_keeps .refl

theorem captureBlock_keeps {n grid quick data} {s : State} : s.Keeps [.captures] (s.captureBlock n grid quick data) := by
  unfold State.captureBlock
  exact .foldl (fun _ _ => .ite (.step setCapture_keeps .refl) .refl) .refl

theorem triggerNow_keeps {c} {s : State} : s.Keeps [.dict, .captures] (s.triggerNow c) := by
  unfold State.triggerNow
  exact .ite (.step triggerCapture_keeps .refl) .refl

theorem abortCapture_keeps {c} {s : State} : s.Keeps [.dict, .awaiting, .captures] (s.abortCapture c) := by
  unfold State.abortCapture
  exact .ite (.step endCapture_keeps .refl) .refl

theorem freeCapture_keeps {c} {s : State} : s.Keeps [.dict, .shm, .captures] (s.freeCapture c).1 := by
  unfold State.freeCapture
  exact .guarded (fun _ => .step setNat_keeps <| .step setCapture_keeps <| by
    split
    · exact freeAt_keeps.mono
    · exact .refl) .refl

theorem captureCommand_keeps {c v} {s : State} : s.Keeps [.dict, .awaiting, .shm, .captures] (s.captureCommand c v).1 := by
  unfold State.captureCommand
  split
  · exact armCapture_keeps
  · exact triggerNow_keeps.mono
  · exact abortCapture_keeps.mono
  · exact freeCapture_keeps.mono
  · exact .refl

theorem execCaptureArm_keeps {by_ capture} {s : State} :
    s.Leads [.dict, .awaiting, .events, .answer, .log, .power, .shm, .captures, .radio] (execCaptureArm by_ capture s) := by
  unfold execCaptureArm
  exact .next <| .request (fun _ => .step armCapture_keeps .refl) .refl

theorem execCaptureTriggerNow_keeps {by_ capture} {s : State} :
    s.Leads [.dict, .awaiting, .events, .answer, .log, .power, .captures, .radio] (execCaptureTriggerNow by_ capture s) := by
  unfold execCaptureTriggerNow
  exact .next <| .request (fun _ => .accept (.step triggerNow_keeps .refl)) .refl

theorem execCaptureAbort_keeps {by_ capture} {s : State} :
    s.Leads [.dict, .awaiting, .events, .answer, .log, .power, .captures, .radio] (execCaptureAbort by_ capture s) := by
  unfold execCaptureAbort
  exact .next <| .request (fun _ => .accept (.step abortCapture_keeps .refl)) .refl

theorem execCaptureFree_keeps {by_ capture} {s : State} :
    s.Leads [.dict, .awaiting, .events, .answer, .log, .power, .shm, .captures, .radio] (execCaptureFree by_ capture s) := by
  unfold execCaptureFree
  exact .next <| .request (fun _ => .step freeCapture_keeps .refl) .refl

theorem execCaptureTrigger_keeps {entry} {s : State} :
    s.Leads [.dict, .awaiting, .events, .launch, .log, .captures] (execCaptureTrigger entry s) := by
  unfold execCaptureTrigger
  refine .next ?_
  split
  · exact .refl
  · exact .ite (.step triggerCapture_keeps <| .step afterFiring_keeps .refl) (.step dropFiring_keeps .refl)

theorem chainSamples_keeps {c stop a b} {s : State} : s.Keeps [.captures] (s.chainSamples c stop a b) := by
  unfold State.chainSamples
  exact .ite .refl (.step captureBlock_keeps .refl)

theorem execCaptureComplete_keeps {capture a b} {s : State} :
    s.Leads [.dict, .awaiting, .captures] (execCaptureComplete capture a b s) := by
  unfold execCaptureComplete
  refine .next ?_
  extract_lets
  split
  · exact .ite (.step endCapture_keeps <| .step chainSamples_keeps .refl) .refl
  · exact .ite (.step endCapture_keeps <| .step chainSamples_keeps .refl) .refl
  · exact .refl

theorem abortCaptures_keeps {p} {s : State} : s.Keeps [.dict, .awaiting, .captures] (s.abortCaptures p) := by
  unfold State.abortCaptures
  exact .foldl (fun _ _ => .ite (.step abortCapture_keeps .refl) .refl) .refl

theorem startLoad_keeps {s : State} : s.Keeps [.dict, .engines] s.startLoad := by
  unfold State.startLoad
  split
  · exact .refl
  · split
    · exact .refl
    · exact .step setNat_keeps <| .step setEngine_keeps .refl

theorem queueLoad_keeps {e} {s : State} : s.Keeps [.dict, .engines, .loads] (s.queueLoad e) := by
  unfold State.queueLoad
  exact .step startLoad_keeps <| .step update_loads_keeps <| .step setNat_keeps .refl

theorem dequeueLoad_keeps {e} {s : State} : s.Keeps [.dict, .engines, .loads] (s.dequeueLoad e) := by
  unfold State.dequeueLoad
  exact .step startLoad_keeps <| .step update_loads_keeps <| .step setEngine_keeps .refl

theorem commitEngine_keeps {e} {s : State} : s.Keeps [.dict, .committed, .engines, .loads] (s.commitEngine e) := by
  unfold State.commitEngine
  exact .iteElse (.step commitKeys_keeps .refl) (.step queueLoad_keeps <| .ite .refl (.step setNat_keeps <|
    .step setEngine_keeps .refl))

theorem sign_keeps {e} {s : State} : s.Keeps [.engines] (s.sign e) := by
  unfold State.sign
  exact setEngine_keeps

theorem coldStart_keeps {e} {s : State} : s.Keeps [.awaiting] (s.coldStart e) := by
  unfold State.coldStart
  exact .foldl (fun _ _ => .ite .refl (.step await_keeps .refl)) .refl

theorem flushInputs_keeps {e} {s : State} : s.Keeps [.chains] (s.flushInputs e) := by
  unfold State.flushInputs
  exact .foldl (fun _ _ => .ite (.step setChain_keeps .refl) .refl) .refl

theorem releaseEngine_keeps {e why} {s : State} : s.Keeps [.dict, .chains, .engines, .loads, .shm] (s.releaseEngine e why) := by
  unfold State.releaseEngine
  exact .step setNat_keeps <| .step setNat_keeps <| .step setNat_keeps <| .step flushInputs_keeps <| .step setEngine_keeps <|
    .step freeOwner_keeps <| .step dequeueLoad_keeps .refl

theorem beginHold_keeps {top leaves courses cause verb release} {s : State} :
    s.Keeps [.holdings] (s.beginHold top leaves courses cause verb release) := by
  unfold State.beginHold
  exact update_holdings_keeps

theorem faultCourse_keeps {fuel u} {s : State} : s.Keeps [.dict, .awaiting, .events, .holdings, .log] (s.faultCourse fuel u) := by
  induction fuel generalizing s u with
  | zero => exact .refl
  | succ fuel ih =>
    unfold State.faultCourse
    exact .ite .refl (.ite (.step setNat_keeps .refl)
      (.trans (.step setNat_keeps <| .step setUState_keeps <| .step beginHold_keeps .refl) ih))

theorem faultUnit_keeps {u code} {s : State} : s.Keeps [.dict, .awaiting, .events, .holdings, .log] (s.faultUnit u code) := by
  unfold State.faultUnit
  exact .step faultCourse_keeps <| .step setNat_keeps <| .step setUState_keeps .refl

theorem faultAccel_keeps {a code} {s : State} : s.Keeps [.dict, .awaiting, .events, .holdings, .log] (s.faultAccel a code) := by
  unfold State.faultAccel
  exact .foldl (fun _ _ => .ite .refl (.ite (.step setNat_keeps .refl) (.step faultCourse_keeps <| .step setNat_keeps <|
    .step setUState_keeps <| .step beginHold_keeps .refl))) (.step setNat_keeps <| .step setUState_keeps .refl)

theorem faultEngine_keeps {e cause} {s : State} :
    s.Keeps [.dict, .awaiting, .events, .holdings, .log, .chains, .engines, .loads] (s.faultEngine e cause) := by
  unfold State.faultEngine
  exact .ite (.step setNat_keeps <| .step bump_keeps <| .step setEngine_keeps <| .step flushInputs_keeps <|
    .step dequeueLoad_keeps <| .step raise_keeps <| .step setNat_keeps <| .step setNat_keeps <|
    .step setNat_keeps .refl) (.step faultUnit_keeps <| .step setEngine_keeps <| .step dequeueLoad_keeps <| .step raise_keeps <|
    .step setNat_keeps <| .step setNat_keeps <| .step setNat_keeps .refl)

theorem execEngineRestartReload_keeps {engine} {s : State} :
    s.Leads [.dict, .engines, .loads] (execEngineRestartReload engine s) := by
  unfold execEngineRestartReload
  refine .next ?_
  split
  · exact .ite (.step queueLoad_keeps <| .step setEngine_keeps .refl) .refl
  · exact .refl

theorem tickAccel_keeps {a} {s : State} : s.Keeps [.accels] (s.tickAccel a) := by
  unfold State.tickAccel
  exact .ite .refl (by
    extract_lets
    split
    · exact .refl
    · exact .step setAccel_keeps .refl)

theorem tickLoads_keeps {s : State} : s.Keeps [.dict, .engines] s.tickLoads := by
  unfold State.tickLoads
  exact .ite .refl (.foldl (fun _ _ => .ite .refl (.step bumpBy_keeps <|
    .iteThen (.step setEngine_keeps .refl) (.step setNat_keeps .refl))) .refl)

theorem execAcceleratorJobComplete_keeps {accel engine} {s : State} :
    s.Leads [.dict, .accels] (execAcceleratorJobComplete accel engine s) := by
  unfold execAcceleratorJobComplete
  refine .next ?_
  split
  · exact .refl
  · exact .step setNat_keeps <| .step bump_keeps <| .step setAccel_keeps .refl

theorem execAcceleratorWaitClear_keeps {by_ accel value} {s : State} :
    s.Leads [.dict, .awaiting, .events, .answer, .log, .power, .radio] (execAcceleratorWaitClear by_ accel value s) := by
  unfold execAcceleratorWaitClear
  exact .next <| .request (fun _ => .guarded (fun _ => .step setNat_keeps .refl) .refl) .refl

theorem execPeakCycleLoadClear_keeps {by_ engine value} {s : State} :
    s.Leads [.dict, .awaiting, .events, .answer, .log, .power, .radio] (execPeakCycleLoadClear by_ engine value s) := by
  unfold execPeakCycleLoadClear
  exact .next <| .request (fun _ => .guarded (fun _ => .step setNat_keeps .refl) .refl) .refl

theorem hearSlot_keeps {k slot} {s : State} : s.Keeps [.heard, .gloaming] (s.hearSlot k slot) := by
  unfold State.hearSlot
  exact .iteThen (.foldl (fun _ _ => .ite (.step setGslot_keeps .refl) .refl) .refl) (.step update_heard_keeps .refl)

theorem pushPcm_keeps {e o p} {s : State} : s.Keeps [.shm, .pcm, .pcmSeq, .heard, .gloaming] (s.pushPcm e o p) := by
  unfold State.pushPcm
  exact .ite (.step hearSlot_keeps <| .step update_pcmSeq_keeps .refl) (.ite (.step update_pcm_keeps <|
    .step update_pcmSeq_keeps .refl) (.step countDrop_keeps .refl))

theorem drainPcm_keeps {k} {s : State} : s.Keeps [.pcm, .heard, .gloaming] (s.drainPcm k) := by
  unfold State.drainPcm
  exact .ite .refl (.foldl (fun _ _ => .step hearSlot_keeps .refl) (.step update_pcm_keeps .refl))

theorem clearPcm_keeps {e} {s : State} : s.Keeps [.pcm] (s.clearPcm e) := by
  unfold State.clearPcm
  exact .foldl (fun _ _ => .step update_pcm_keeps .refl) .refl

theorem utcAnchor_keeps {prio tick utc local_} {s : State} :
    s.Keeps [.dict, .awaiting, .events, .utcPrev, .log] (s.utcAnchor prio tick utc local_) := by
  unfold State.utcAnchor
  exact .iteThen (.ite (.step raise_keeps .refl) .refl) (.step setNum_keeps <| .step setNum_keeps <| .step setNat_keeps <|
    .step setNat_keeps <| .step setNat_keeps <| .step update_utcPrev_keeps .refl)

theorem searchAgain_keeps {i} {s : State} : s.Keeps [.dict, .awaiting, .events, .log, .gloaming] (s.searchAgain i) := by
  unfold State.searchAgain
  exact .ite (.iteThen (.step setGslot_keeps <| .step setNat_keeps .refl) (.step raise_keeps <| .step setNat_keeps .refl)) .refl

theorem disturb_keeps {p} {s : State} : s.Keeps [.dict, .awaiting, .events, .log, .gloaming] (s.disturb p) := by
  unfold State.disturb
  exact .foldl (fun _ _ => .ite (.step searchAgain_keeps .refl) .refl) .refl

theorem followAnnouncement_keeps {hit} {s : State} : s.Keeps [.dict, .awaiting, .events, .log] (s.followAnnouncement hit) := by
  unfold State.followAnnouncement
  exact .ite (.step raise_keeps .refl) .refl

theorem lanternEvent_keeps {kind pi seq mask} {s : State} :
    s.Keeps [.dict, .awaiting, .events, .log] (s.lanternEvent kind pi seq mask) := by
  unfold State.lanternEvent
  exact .ite (.step raise_keeps .refl) .refl

theorem refreshLantern_keeps {s : State} : s.Keeps [.dict] s.refreshLantern := by
  unfold State.refreshLantern
  exact .step setNat_keeps <| .step setNat_keeps .refl

theorem writeEntry_keeps {i e} {s : State} : s.Keeps [.dict, .lantern] (s.writeEntry i e) := by
  unfold State.writeEntry
  exact .step refreshLantern_keeps <| .step setDbEntry_keeps .refl

theorem fieldsChanged_keeps {i mask} {s : State} :
    s.Keeps [.dict, .awaiting, .events, .log, .lantern] (s.fieldsChanged i mask) := by
  unfold State.fieldsChanged
  exact .ite .refl (.ite (.step lanternEvent_keeps <| .step setDbEntry_keeps .refl) (.step setDbEntry_keeps .refl))

theorem changeEntry_keeps {i extra e} {s : State} :
    s.Keeps [.dict, .awaiting, .events, .log, .lantern] (s.changeEntry i extra e) := by
  unfold State.changeEntry
  exact .step fieldsChanged_keeps <| .iteThen (.step followAnnouncement_keeps <|
    .iteElse (.step writeEntry_keeps .refl) (.step lanternEvent_keeps .refl)) (.step lanternEvent_keeps .refl)

theorem freeDbEntry_keeps {i} {s : State} : s.Keeps [.dict, .awaiting, .events, .log, .lantern] (s.freeDbEntry i) := by
  unfold State.freeDbEntry
  exact .step lanternEvent_keeps <| .step refreshLantern_keeps <| .step setDbEntry_keeps .refl

theorem confirmPi_keeps {src pi instant} {s : State} :
    s.Keeps [.dict, .awaiting, .events, .log, .lantern] (s.confirmPi src pi instant) := by
  unfold State.confirmPi
  split
  · exact .ite .refl (.iteThen (.step writeEntry_keeps .refl) (.step lanternEvent_keeps .refl))
  · split
    · exact bump_keeps.mono
    · exact .step lanternEvent_keeps <| .step writeEntry_keeps <| by
        split
        · exact freeDbEntry_keeps
        · exact .refl

theorem clearDatabase_keeps {s : State} : s.Keeps [.dict, .awaiting, .events, .log, .lantern] s.clearDatabase := by
  unfold State.clearDatabase
  exact .step lanternEvent_keeps <| .step refreshLantern_keeps <| .step update_lantern_keeps .refl

theorem commitLantern_keeps {s : State} : s.Keeps [.dict, .committed] s.commitLantern := by
  unfold State.commitLantern
  exact .step setNat_keeps <| .step commitKeys_keeps .refl

theorem startLantern_keeps {t} {s : State} : s.Keeps [.dict, .awaiting, .events, .log, .lantern] (s.startLantern t) := by
  unfold State.startLantern
  exact .foldl (fun _ _ => by
      extract_lets
      split
      · exact .refl
      · split
        · exact setDbEntry_keeps.mono
        · exact .step changeEntry_keeps .refl) (.step setNat_keeps <| .step setNat_keeps <| .step update_lantern_keeps .refl)

theorem releaseLantern_keeps {s : State} :
    s.Keeps [.dict, .awaiting, .fifos, .events, .log, .shm, .lantern] s.releaseLantern := by
  unfold State.releaseLantern
  exact .step setBytes_keeps <| .step setNat_keeps <| .step setNat_keeps <| .step setNat_keeps <| .step update_lantern_keeps <|
    .step clearFifo_keeps <| .step freeOwner_keeps <| .step clearDatabase_keeps .refl

theorem writeFigures_keeps {x boundary} {s : State} : s.Keeps [.lantern] (s.writeFigures x boundary) := by
  unfold State.writeFigures
  exact .foldl (fun _ _ => .step setSlot_keeps .refl) (.ite .refl (.foldl (fun _ _ => .step setSlot_keeps .refl) .refl))

theorem publishSlots_keeps {boundary} {s : State} : s.Keeps [.dict, .lantern] (s.publishSlots boundary) := by
  unfold State.publishSlots
  exact .step setBytes_keeps <| .step update_lantern_keeps .refl

theorem deactivate_keeps {i} {s : State} : s.Keeps [.lantern] (s.deactivate i) := by
  unfold State.deactivate
  exact setSlot_keeps

theorem activate_keeps {i} {s : State} : s.Keeps [.lantern] (s.activate i) := by
  unfold State.activate
  exact setSlot_keeps

theorem activationRules_keeps {s : State} : s.Keeps [.lantern] s.activationRules := by
  unfold State.activationRules
  exact .foldl (fun _ _ => by
      split
      · exact .ite (.step activate_keeps <| .step deactivate_keeps .refl) .refl
      · exact .refl) (.foldl (fun _ _ => .ite (.step activate_keeps .refl) .refl) (.foldl (fun _ _ => .ite
          (.step deactivate_keeps .refl) .refl) (.foldl (fun _ _ => .step setSlot_keeps .refl) .refl)))

theorem entryPeriodEnd_keeps {secondEnd i} {s : State} :
    s.Keeps [.dict, .awaiting, .events, .log, .lantern] (s.entryPeriodEnd secondEnd i) := by
  unfold State.entryPeriodEnd
  exact .ite .refl (.step changeEntry_keeps .refl)

theorem lanternPeriodEnd_keeps {x} {s : State} : s.Keeps [.dict, .awaiting, .events, .log, .lantern] (s.lanternPeriodEnd x) := by
  unfold State.lanternPeriodEnd
  exact .ite (.step update_lantern_keeps <| .iteThen (.step setNat_keeps <| .step setNat_keeps <| .step activationRules_keeps <|
    .foldl (fun _ _ => .step entryPeriodEnd_keeps .refl) (.step publishSlots_keeps <| .step writeFigures_keeps <|
    .step update_lantern_keeps .refl)) (.step lanternEvent_keeps .refl)) .refl

theorem execLanternConfirmation_keeps {source pi instant cls} {s : State} :
    s.Leads [.dict, .awaiting, .events, .log, .lantern] (execLanternConfirmation source pi instant cls s) := by
  unfold execLanternConfirmation
  exact .next <| .ite .refl (.ite (.ite .refl (.ite (.step confirmPi_keeps <|
    .step setSlot_keeps .refl) .refl)) (.ite (.step confirmPi_keeps .refl) .refl))

theorem execEntryExpiry_keeps {position} {s : State} :
    s.Leads [.dict, .awaiting, .events, .log, .lantern] (execEntryExpiry position s) := by
  unfold execEntryExpiry
  exact .next <| .ite (.step freeDbEntry_keeps .refl) .refl

theorem addAfs_keeps {i cs} {s : State} : s.Keeps [.dict, .awaiting, .events, .log, .lantern] (s.addAfs i cs) := by
  induction cs generalizing s with
  | nil => exact .refl
  | cons c cs ih =>
    unfold State.addAfs
    exact .ite ih (.ite (.trans (changeEntry_keeps.mono) ih) (.trans (bump_keeps.mono) ih))

theorem execLanternFieldUpdate_keeps {slot group} {s : State} :
    s.Leads [.dict, .awaiting, .events, .utcPrev, .log, .lantern] (execLanternFieldUpdate slot group s) := by
  unfold execLanternFieldUpdate
  refine .next <| .ite ?_ .refl
  split
  · exact .refl
  · refine .ite .refl ?_
    extract_lets t e f
    have ht : s.Keeps [.dict, .awaiting, .events, .utcPrev, .log, .lantern] t := .ite (.step addAfs_keeps .refl) .refl
    refine .ite ht ?_
    split
    · exact .step changeEntry_keeps ht
    · exact .step utcAnchor_keeps <| .step changeEntry_keeps ht

theorem execLanternEventMerge_keeps {position} {s : State} :
    s.Leads [.dict, .awaiting, .events, .log, .lantern] (execLanternEventMerge position s) := by
  unfold execLanternEventMerge
  refine .next ?_
  extract_lets
  split
  · exact .ite (.step lanternEvent_keeps <| .step setDbEntry_keeps .refl) .refl
  · exact .refl

theorem execLanternClearDatabase_keeps {by_} {s : State} :
    s.Leads [.dict, .awaiting, .events, .answer, .log, .power, .lantern, .radio] (execLanternClearDatabase by_ s) := by
  unfold execLanternClearDatabase
  exact .next <| .request (fun _ => .accept (.step clearDatabase_keeps .refl)) .refl

theorem clearAfLists_keeps {s : State} : s.Keeps [.dict, .awaiting, .events, .log, .lantern] s.clearAfLists := by
  unfold State.clearAfLists
  exact .foldl (fun _ _ => .ite .refl (.step changeEntry_keeps .refl)) .refl

theorem execLanternClearAf_keeps {by_} {s : State} :
    s.Leads [.dict, .awaiting, .events, .answer, .log, .power, .lantern, .radio] (execLanternClearAf by_ s) := by
  unfold execLanternClearAf
  exact .next <| .request (fun _ => .accept (.step clearAfLists_keeps .refl)) .refl

theorem execQueryPi_keeps {by_ pi} {s : State} :
    s.Leads [.dict, .awaiting, .events, .answer, .log, .power, .radio] (execQueryPi by_ pi s) := by
  unfold execQueryPi
  exact .next <| .request (fun _ => .accept (.step setNat_keeps .refl)) .refl

theorem execLanternRawGroup_keeps {slot group} {s : State} :
    s.Leads [.dict, .fifos, .shm, .lantern] (execLanternRawGroup slot group s) := by
  unfold execLanternRawGroup
  exact .next <| .ite (.iteThen (.step setSlot_keeps .refl) (.ite (.step countDrop_keeps <| .step bump_keeps <|
    .step pushFifo_keeps .refl) (.step bump_keeps <| .step update_lantern_keeps <| .step pushFifo_keeps .refl))) .refl

theorem dropForeground_keeps {e} {s : State} : s.Keeps [.dict, .awaiting, .events, .log, .lantern] (s.dropForeground e) := by
  unfold State.dropForeground
  exact .foldl (fun _ _ => .ite (.step changeEntry_keeps .refl) .refl) .refl

theorem publishFields_keeps {e} {s : State} : s.Keeps [.dict] (s.publishFields e) := by
  unfold State.publishFields
  exact .step setAll_keeps <| .step setBytes_keeps <| .step setBytes_keeps .refl

theorem clearFields_keeps {e} {s : State} : s.Keeps [.dict, .awaiting, .events, .log, .fms, .lantern] (s.clearFields e) := by
  unfold State.clearFields
  exact .step publishFields_keeps <| .step setAll_keeps <| .step setFm_keeps <| .step dropForeground_keeps .refl

theorem writeForeground_keeps {e} {s : State} : s.Keeps [.dict, .awaiting, .events, .log, .lantern] (s.writeForeground e) := by
  unfold State.writeForeground
  exact .ite (by
    split
    · exact .ite (.step changeEntry_keeps .refl) .refl
    · exact .refl) .refl

theorem fmColdStart_keeps {e} {s : State} : s.Keeps [.dict, .awaiting, .events, .log, .fms, .lantern] (s.fmColdStart e) := by
  unfold State.fmColdStart
  exact .step clearFields_keeps <| .iteElse (.step setAll_keeps <| .step setFm_keeps .refl) (.step await_keeps .refl)

theorem takeBlock_keeps {e n b} {s t : State} (h : s.takeBlock e n = some (b, t)) : s.Keeps [.chains] t := by
  unfold State.takeBlock at h
  split at h
  · split at h
    · cases h
    · cases h
      exact setChain_keeps
  · cases h

theorem fmTake_keeps {e n b} {s : State} : s.Keeps [.dict, .fms] (s.fmTake e n b) := by
  unfold State.fmTake
  exact .step setFm_keeps <| .ite (.step bump_keeps .refl) .refl

theorem countCores_keeps {e i two} {s : State} : s.Keeps [.dict] (s.countCores e i two) := by
  unfold State.countCores
  exact .foldl (fun _ _ => .ite .refl (.ite (.step bump_keeps .refl) (.ite (.step bump_keeps .refl) .refl))) .refl

theorem fmStep_keeps {e} {s : State} : s.Keeps [.dict, .awaiting, .events, .log, .fms, .lantern] (s.fmStep e) := by
  unfold State.fmStep
  extract_lets
  split
  · exact .refl
  · exact .step setFm_keeps <| .step countCores_keeps <| .ite (.step fmColdStart_keeps <| .step setFm_keeps .refl) .refl

theorem fmEmit_keeps {e ended} {s : State} : s.Keeps [.shm, .fms, .pcm, .pcmSeq, .heard, .gloaming] (s.fmEmit e ended) := by
  unfold State.fmEmit
  exact .foldl (fun _ _ => .step pushPcm_keeps <| .step setFm_keeps .refl) .refl

theorem fmRun_keeps {e ended} {s : State} :
    s.Keeps [.dict, .awaiting, .events, .log, .shm, .fms, .pcm, .pcmSeq, .heard, .lantern, .gloaming] (s.fmRun e ended) := by
  unfold State.fmRun
  exact .step setFm_keeps <| .step fmEmit_keeps <| .foldl (fun _ _ => .ite (.step fmStep_keeps .refl) .refl) .refl

theorem fmFlush_keeps {e} {s : State} :
    s.Keeps [.dict, .awaiting, .events, .log, .shm, .fms, .pcm, .pcmSeq, .heard, .lantern, .gloaming] (s.fmFlush e) := by
  unfold State.fmFlush
  extract_lets
  split
  · exact .refl
  · exact .step fmRun_keeps <| .step setFm_keeps .refl

theorem execFmBlockProcess_keeps {engine chain} {s : State} : s.Leads [.dict, .awaiting, .events, .log, .chains, .shm, .fms, .pcm, .pcmSeq, .heard, .lantern, .gloaming] (execFmBlockProcess engine chain s) := by
  unfold execFmBlockProcess
  refine .next ?_
  split
  · exact .refl
  next b t ht =>
    have taken : s.takeBlock engine chain = some (b, t) := by
      split at ht
      · exact ht
      · cases ht
    exact .step fmRun_keeps <| .step fmTake_keeps <|
      .iteThen (.step (takeBlock_keeps taken) .refl) (.step setFm_keeps .refl)

theorem execFmControlUpdate_keeps {engine} {s : State} :
    s.Leads [.dict, .awaiting, .events, .log, .shm, .fms, .pcm, .pcmSeq, .heard, .lantern, .gloaming]
      (execFmControlUpdate engine s) := by
  unfold execFmControlUpdate
  exact .next <| .ite (.step fmRun_keeps <| .step setFm_keeps .refl) .refl

theorem publishFm_keeps {engine} {s : State} : s.Keeps [.dict, .awaiting, .fms] (s.publishFm engine) := by
  unfold State.publishFm
  extract_lets
  split
  · exact .refl
  · exact .step issue_keeps <| .step setFm_keeps <| .step setAll_keeps .refl

theorem execPilotDetected_keeps {engine} {s : State} : s.Leads [.dict, .fms] (execPilotDetected engine s) := by
  unfold execPilotDetected
  exact .next <| .ite (.step setNat_keeps <| .step setFm_keeps .refl) .refl

theorem execPilotLost_keeps {engine} {s : State} : s.Leads [.dict, .fms] (execPilotLost engine s) := by
  unfold execPilotLost
  exact .next <| .ite (.step setNat_keeps <| .step setNat_keeps <| .step setFm_keeps .refl) .refl

theorem writeChoice_keeps {n v} {s : State} : s.Keeps [.dict, .chains, .captures] (s.writeChoice n v) := by
  unfold State.writeChoice
  exact .ite .refl (.ite (.step reverseFade_keeps .refl) (.step selectResponse_keeps .refl))

theorem execFmBandwidthJudge_keeps {engine} {s : State} :
    s.Leads [.dict, .chains, .captures] (execFmBandwidthJudge engine s) := by
  unfold execFmBandwidthJudge
  refine .next ?_
  split
  · exact .refl
  · exact .ite (.step writeChoice_keeps .refl) .refl

theorem execDiversityEstimate_keeps {engine} {s : State} :
    s.Leads [.dict, .awaiting, .events, .log, .shm, .fms, .pcm, .pcmSeq, .heard, .lantern, .gloaming]
      (execDiversityEstimate engine s) := by
  unfold execDiversityEstimate
  exact .next <| .ite (.step fmRun_keeps <| .step setFm_keeps .refl) .refl

theorem execDiversitySelect_keeps {engine} {s : State} :
    s.Leads [.dict, .awaiting, .events, .log, .shm, .fms, .pcm, .pcmSeq, .heard, .lantern, .gloaming]
      (execDiversitySelect engine s) := by
  unfold execDiversitySelect
  exact .next <| .ite (.step fmRun_keeps <| .step setFm_keeps .refl) .refl

theorem execInputBAbsent_keeps {engine} {s : State} :
    s.Leads [.dict, .awaiting, .events, .log, .shm, .fms, .pcm, .pcmSeq, .heard, .lantern, .gloaming]
      (execInputBAbsent engine s) := by
  unfold execInputBAbsent
  exact .next <| .ite (.step fmRun_keeps <| .step setNat_keeps <| .step setFm_keeps .refl) .refl

theorem execRdsSyncGained_keeps {engine first second} {s : State} :
    s.Leads [.dict, .fms] (execRdsSyncGained engine first second s) := by
  unfold execRdsSyncGained
  exact .next <| .ite (.step setNat_keeps <| .step setFm_keeps .refl) .refl

theorem execRdsSyncLost_keeps {engine} {s : State} : s.Leads [.dict] (execRdsSyncLost engine s) := by
  unfold execRdsSyncLost
  exact .next <| .ite (.step setNat_keeps .refl) .refl

theorem writeRdsEnable_keeps {e v} {s : State} : s.Keeps [.dict] (s.writeRdsEnable e v) := by
  unfold State.writeRdsEnable
  exact .iteThen (.step setNat_keeps .refl) (.step setNat_keeps .refl)

theorem takePi_keeps {e pi instant} {s : State} :
    s.Keeps [.dict, .awaiting, .events, .log, .fms, .lantern] (s.takePi e pi instant) := by
  unfold State.takePi
  exact .iteThen (.ite (.step setNat_keeps .refl) (.step setNat_keeps <| .step setNat_keeps <|
    .ite .refl (.step clearFields_keeps .refl))) (.step confirmPi_keeps .refl)

theorem execRdsGroup_keeps {engine group} {s : State} :
    s.Leads [.dict, .awaiting, .fifos, .events, .utcPrev, .log, .fms, .lantern] (execRdsGroup engine group s) := by
  unfold execRdsGroup
  refine .next <| .ite ?_ .refl
  extract_lets region limit cls f seen f s1 r s2 b s3 f4 s4 s5 s6
  have h1 : s.Keeps [.dict, .awaiting, .fifos, .events, .utcPrev, .log, .fms, .lantern] s1 :=
    .step setNat_keeps <| .step setFm_keeps .refl
  have h2 : s.Keeps [.dict, .awaiting, .fifos, .events, .utcPrev, .log, .fms, .lantern] s2 :=
    .ite (.ite (.step bump_keeps <| .step pushFifo_keeps h1) (.step bump_keeps <| .step setFm_keeps <| .step pushFifo_keeps h1))
      (.step bump_keeps h1)
  have h4 : s.Keeps [.dict, .awaiting, .fifos, .events, .utcPrev, .log, .fms, .lantern] s4 :=
    .iteThen (.iteThen h2 takePi_keeps.mono) (.step publishFields_keeps <| .step setFm_keeps .refl)
  have h5 : s.Keeps [.dict, .awaiting, .fifos, .events, .utcPrev, .log, .fms, .lantern] s5 := by
    refine .ite ?_ h4
    cases s4.entryOf (s4.nat (fmf engine 1)) with
    | none => exact h4
    | some i => exact .iteThen h4 addAfs_keeps.mono
  have h6 : s.Keeps [.dict, .awaiting, .fifos, .events, .utcPrev, .log, .fms, .lantern] s6 := .step writeForeground_keeps h5
  refine .ite h2 ?_
  split
  · exact .step utcAnchor_keeps h6
  · exact h6

theorem deliverTmc_keeps {pi kind groups instant} {s : State} :
    s.Keeps [.dict, .fifos, .tmc] (s.deliverTmc pi kind groups instant) := by
  unfold State.deliverTmc
  exact .ite (.step bump_keeps <| .step update_tmc_keeps .refl) (.ite (.step bump_keeps <| .step pushFifo_keeps <|
    .step update_tmc_keeps .refl) (.step bump_keeps <| .step update_tmc_keeps <| .step pushFifo_keeps <|
    .step update_tmc_keeps .refl))

theorem assembleTmc_keeps {pi ci g instant} {s : State} : s.Keeps [.dict, .fifos, .tmc] (s.assembleTmc pi ci g instant) := by
  unfold State.assembleTmc
  exact .ite .refl (.ite (.step update_tmc_keeps <| .ite (.step bump_keeps .refl) .refl) (by
    extract_lets
    split
    · exact .refl
    · exact .ite (.ite (.step deliverTmc_keeps <|
        .step update_tmc_keeps .refl) (.step update_tmc_keeps .refl)) (.step bump_keeps <| .step update_tmc_keeps .refl)))

theorem execTmcGroup_keeps {fromLantern source group} {s : State} :
    s.Leads [.dict, .fifos, .tmc] (execTmcGroup fromLantern source group s) := by
  unfold execTmcGroup
  exact .next <| .ite (.ite (.ite (.step deliverTmc_keeps <| .ite (.step setNat_keeps <| .step setNat_keeps <|
    .step update_tmc_keeps .refl) (.iteThen (.step setNat_keeps <|
    .step update_tmc_keeps .refl) (.step setNat_keeps .refl))) .refl) (.ite (.ite (.step deliverTmc_keeps .refl) (.ite
    (.step deliverTmc_keeps .refl) (.step assembleTmc_keeps .refl))) .refl)) .refl

theorem execTmcIncompleteTimeout_keeps {index} {s : State} : s.Leads [.dict, .tmc] (execTmcIncompleteTimeout index s) := by
  unfold execTmcIncompleteTimeout
  refine .next ?_
  split
  · exact .ite (.step bump_keeps <| .step update_tmc_keeps .refl) .refl
  · exact .refl

theorem emitVoice_keeps {e o} {s : State} : s.Keeps [.shm, .pcm, .pcmSeq, .heard, .voices, .gloaming] (s.emitVoice e o) := by
  unfold State.emitVoice
  exact .foldl (fun _ _ => .step pushPcm_keeps <| .step setVoice_keeps .refl) .refl

theorem speak_keeps {e o g} {s : State} : s.Keeps [.shm, .pcm, .pcmSeq, .heard, .voices, .gloaming] (s.speak e o g) := by
  unfold State.speak
  exact .step emitVoice_keeps <| .step setVoice_keeps .refl

theorem silenceVoice_keeps {e o lag} {s : State} :
    s.Keeps [.shm, .pcm, .pcmSeq, .heard, .voices, .gloaming] (s.silenceVoice e o lag) := by
  unfold State.silenceVoice
  exact speak_keeps

theorem publishSubs_keeps {e} {s : State} : s.Keeps [.dabs] (s.publishSubs e) := by
  unfold State.publishSubs
  exact setDab_keeps

theorem publishSi_keeps {e} {s : State} : s.Keeps [.dict, .dabs] (s.publishSi e) := by
  unfold State.publishSi
  exact .step setBytes_keeps <| .step setDab_keeps .refl

theorem publishAnns_keeps {e} {s : State} : s.Keeps [.dict, .dabs] (s.publishAnns e) := by
  unfold State.publishAnns
  exact .step setBytes_keeps <| .step setDab_keeps .refl

theorem setSlotState_keeps {m i new} {s : State} : s.Keeps [.dict, .awaiting, .events, .log] (s.setSlotState m i new) := by
  unfold State.setSlotState
  exact .ite .refl (.step raise_keeps <| .step setNat_keeps .refl)

theorem judgeSlots_keeps {n} {s : State} : s.Keeps [.dict, .awaiting, .events, .log] (s.judgeSlots n) := by
  unfold State.judgeSlots
  exact .foldl (fun _ _ => .ite (.foldl (fun _ _ => .step setSlotState_keeps .refl) .refl) .refl) .refl

theorem restartSlots_keeps {n} {s : State} :
    s.Keeps [.dict, .awaiting, .events, .log, .shm, .pcm, .pcmSeq, .heard, .voices, .gloaming] (s.restartSlots n) := by
  unfold State.restartSlots
  exact .foldl (fun _ _ => .ite (.foldl (fun _ _ => .step speak_keeps <| .step setSlotState_keeps .refl) .refl) .refl) .refl

theorem setDabState_keeps {e new} {s : State} : s.Keeps [.dict, .awaiting, .events, .log, .dabs] (s.setDabState e new) := by
  unfold State.setDabState
  exact .ite .refl (.step raise_keeps <| .ite (.step bump_keeps <| .step setDab_keeps <|
    .step setNat_keeps .refl) (.iteThen (.step setDab_keeps <| .step setNat_keeps .refl) (.step bump_keeps .refl)))

theorem stopNulls_keeps {e} {s : State} : s.Keeps [.dict, .awaiting, .events, .launch, .log, .plumb] (s.stopNulls e) := by
  unfold State.stopNulls
  exact .foldl (fun _ _ => .ite (.step protectedLost_keeps .refl) .refl) (.step setNat_keeps <| .step setNat_keeps .refl)

theorem dabColdStart_keeps {e} {s : State} : s.Keeps running (s.dabColdStart e) := by
  unfold State.dabColdStart
  exact .step restartSlots_keeps <| .step publishAnns_keeps <| .step publishSi_keeps <| .step publishSubs_keeps <|
    .iteElse (.step setAll_keeps <| .step setDab_keeps <| .step stopNulls_keeps <|
    .step setDabState_keeps .refl) (.step await_keeps .refl)

theorem execDabNullFound_keeps {engine} {s : State} :
    s.Leads [.dict, .awaiting, .events, .log, .dabs] (execDabNullFound engine s) := by
  unfold execDabNullFound
  exact .next <| .ite (.step setDabState_keeps .refl) .refl

theorem execDabPrsCorrelate_keeps {engine offset} {s : State} :
    s.Leads [.dict, .awaiting, .events, .log, .dabs] (execDabPrsCorrelate engine offset s) := by
  unfold execDabPrsCorrelate
  exact .next <| .ite (.step setNum_keeps <| .step setDabState_keeps .refl) .refl

theorem execDabFicAcquired_keeps {engine} {s : State} :
    s.Leads [.dict, .awaiting, .events, .log, .dabs] (execDabFicAcquired engine s) := by
  unfold execDabFicAcquired
  exact .next <| .ite (.step judgeSlots_keeps <| .step setDab_keeps <| .step setDabState_keeps .refl) .refl

theorem execDabAcquisitionFail_keeps {engine} {s : State} :
    s.Leads [.dict, .awaiting, .events, .log, .dabs] (execDabAcquisitionFail engine s) := by
  unfold execDabAcquisitionFail
  exact .next <| .ite (.step setDabState_keeps .refl) .refl

theorem dabLose_keeps {e} {s : State} : s.Keeps [.dict, .awaiting, .events, .launch, .log, .plumb, .dabs] (s.dabLose e) := by
  unfold State.dabLose
  exact .step judgeSlots_keeps <| .step stopNulls_keeps <| .step setDabState_keeps .refl

theorem execDabSyncLost_keeps {engine} {s : State} :
    s.Leads [.dict, .awaiting, .events, .launch, .log, .plumb, .dabs] (execDabSyncLost engine s) := by
  unfold execDabSyncLost
  exact .next <| .ite (.step dabLose_keeps .refl) .refl

theorem execDabSyncRegained_keeps {engine} {s : State} :
    s.Leads [.dict, .awaiting, .events, .log, .dabs] (execDabSyncRegained engine s) := by
  unfold execDabSyncRegained
  refine .next ?_
  split
  · exact .ite (.step judgeSlots_keeps <| .step setDab_keeps <| .step setDabState_keeps .refl) .refl
  · exact .refl

theorem execDabLostTimeout_keeps {engine} {s : State} : s.Leads running (execDabLostTimeout engine s) := by
  unfold execDabLostTimeout
  exact .next <| .ite (.step dabColdStart_keeps .refl) .refl

theorem rejudgeNulls_keeps {p} {s : State} : s.Keeps [.dict, .awaiting, .events, .launch, .log, .plumb] (s.rejudgeNulls p) := by
  unfold State.rejudgeNulls
  extract_lets
  split
  · exact .ite .refl (.step setPlumb_keeps <| .step setNat_keeps <|
      .foldl (fun _ _ => .ite (.step setNat_keeps .refl) .refl) .refl)
  · exact .ite .refl (.step protectedLost_keeps <| .step setNat_keeps .refl)

theorem execDabNullReport_keeps {engine nullStart} {s : State} :
    s.Leads [.dict, .awaiting, .events, .launch, .log, .plumb, .dabs] (execDabNullReport engine nullStart s) := by
  unfold execDabNullReport
  exact .next <| .ite (.iteThen (.step rejudgeNulls_keeps <| .step setNat_keeps <|
    .step setDab_keeps .refl) (.step setPlumb_keeps .refl)) .refl

theorem judgeSi_keeps {e} {s : State} : s.Keeps [.dict, .awaiting, .events, .log, .dabs] (s.judgeSi e) := by
  unfold State.judgeSi
  exact .ite (.step judgeSlots_keeps <| .step publishSi_keeps <| .step setDab_keeps .refl) .refl

theorem dabFrameEnd_keeps {engine nullStart fibs ficErrors fic offset} {s : State} :
    s.Keeps [.dict, .awaiting, .events, .log, .dabs] (s.dabFrameEnd engine nullStart fibs ficErrors fic offset) := by
  unfold State.dabFrameEnd
  exact .ite (.step judgeSi_keeps <| .step issue_keeps <| .step bumpBy_keeps <| .step bumpBy_keeps <| .step setAll_keeps <|
    .step setDab_keeps .refl) .refl

theorem reconfigure_keeps {engine cif} {s : State} :
    s.Keeps [.dict, .awaiting, .events, .log, .dabs] (s.reconfigure engine cif) := by
  unfold State.reconfigure
  exact .step judgeSlots_keeps <| .step raise_keeps <| .step publishSi_keeps <| .step publishSubs_keeps <| .step setNat_keeps <|
    .step setDab_keeps .refl

theorem execDabReconfiguration_keeps {engine cif} {s : State} :
    s.Leads [.dict, .awaiting, .events, .log, .dabs] (execDabReconfiguration engine cif s) := by
  unfold execDabReconfiguration
  exact .next <| .ite (.step reconfigure_keeps .refl) .refl

theorem mciFor_keeps {e cif} {s : State} : s.Keeps [.dict, .awaiting, .events, .log, .dabs] (s.mciFor e cif) := by
  unfold State.mciFor
  exact .ite (.step reconfigure_keeps .refl) (.ite (.step setDab_keeps .refl) .refl)

theorem storeCif_keeps {e cif nullStart position before symbols} {s : State} :
    s.Keeps [.dict, .dabs] (s.storeCif e cif nullStart position before symbols) := by
  unfold State.storeCif
  exact .step bumpBy_keeps <| .step setDab_keeps .refl

theorem execDabCifDecode_keeps {engine cif nullStart position before symbols frames} {s : State} :
    s.Leads [.dict, .awaiting, .events, .log, .shm, .dabs]
      (execDabCifDecode engine cif nullStart position before symbols frames s) := by
  unfold execDabCifDecode
  exact .next <| .ite (.foldl (fun _ _ => .step countDrop_keeps .refl) (.step setDab_keeps <| .step storeCif_keeps <|
    .step mciFor_keeps .refl)) .refl

theorem placeFig_keeps {e type ext raw nullStart cif} {s : State} :
    s.Keeps [.dict, .fifos, .dabs] (s.placeFig e type ext raw nullStart cif) := by
  unfold State.placeFig
  exact .ite .refl (.ite (.step bump_keeps <| .step pushFifo_keeps .refl) (.step setDab_keeps <| .step pushFifo_keeps .refl))

theorem execDabFigDecode_keeps {engine type ext raw nullStart cif fig} {s : State} :
    s.Leads [.dict, .awaiting, .fifos, .events, .utcPrev, .log, .dabs]
      (execDabFigDecode engine type ext raw nullStart cif fig s) := by
  unfold execDabFigDecode
  exact .next <| .ite (.step judgeSlots_keeps <| .step judgeSi_keeps <| .iteThen (.iteThen (by
    split
    · exact .step setNat_keeps <| .step setNat_keeps <| .step setNat_keeps <| .iteThen (.step setDab_keeps <|
        .step setDab_keeps <| .step placeFig_keeps .refl) (.step bump_keeps .refl)
    · exact .step utcAnchor_keeps <| .iteThen (.step setDab_keeps <| .step setDab_keeps <|
        .step placeFig_keeps .refl) (.step bump_keeps .refl)
    · exact .iteThen (.step setDab_keeps <| .step setDab_keeps <|
        .step placeFig_keeps .refl) (.step bump_keeps .refl)) (.step publishSubs_keeps .refl))
        (.step publishSi_keeps .refl)) .refl

theorem execDabSiCompleteTimeout_keeps {engine} {s : State} :
    s.Leads [.dict, .awaiting, .events, .log, .dabs] (execDabSiCompleteTimeout engine s) := by
  unfold execDabSiCompleteTimeout
  exact .next <| .ite (.step judgeSi_keeps .refl) .refl

theorem execDabServiceSelect_keeps {engine slot} {s : State} :
    s.Leads [.dict, .awaiting, .events, .log, .shm, .pcm, .pcmSeq, .heard, .dabDecoders, .voices, .gloaming]
      (execDabServiceSelect engine slot s) := by
  unfold execDabServiceSelect
  exact .next <| .ite (.step speak_keeps <| .step setSlotState_keeps <| .step disturb_keeps <| .step setSlotState_keeps <|
    .step setNat_keeps <| .step setDabDecoder_keeps .refl) .refl

theorem pushBytes_keeps {k room rec} {s : State} : s.Keeps [.fifos] (s.pushBytes k room rec).1 := by
  unfold State.pushBytes
  extract_lets
  split
  · exact setFifo_keeps
  · exact .refl

theorem pushPads_keeps {m slot instant gs} {s : State} : s.Keeps [.dict, .fifos, .shm, .dabDecoders]
  (s.pushPads m slot instant gs) := by
  induction gs generalizing s with
  | nil => exact .refl
  | cons g gs ih =>
    unfold State.pushPads
    exact .trans (.ite (.step countDrop_keeps <| .step bump_keeps <| .step pushBytes_keeps .refl)
      (.step setDabDecoder_keeps <| .step pushBytes_keeps .refl)) ih

theorem takeFrames_keeps {m i count} {s : State} : s.Keeps [.dabs, .voices] (s.takeFrames m i count) := by
  unfold State.takeFrames
  split
  · exact .refl
  · extract_lets
    split
    · exact .refl
    · exact .step setVoice_keeps <| .step setDab_keeps .refl

theorem dabUnit_keeps {m i u} {s : State} : s.Keeps running (s.dabUnit m i u) := by
  unfold State.dabUnit
  exact .ite (.iteThen (.step speak_keeps <| .step setSlotState_keeps <| .step setNat_keeps <|
    .iteThen (.step takeFrames_keeps .refl) (.step bump_keeps .refl)) (.step pushPads_keeps .refl)) (.ite
    (.step silenceVoice_keeps <| .iteThen (.step takeFrames_keeps .refl) (.step bump_keeps .refl)) (.step speak_keeps <|
    .step setSlotState_keeps <| .step bump_keeps <| .iteThen (.step takeFrames_keeps .refl) (.step bump_keeps .refl)))

theorem execDabAccessUnit_keeps {engine slot unit} {s : State} : s.Leads running (execDabAccessUnit engine slot unit s) := by
  unfold execDabAccessUnit
  exact .next <| .ite (by
    extract_lets
    split
    · exact .ite (.step dabUnit_keeps .refl) .refl
    · exact .ite .refl (.step silenceVoice_keeps .refl)) .refl

theorem execDabPacketGroup_keeps {engine filter instant crcPresent crcGood lost data} {s : State} :
    s.Leads [.dict, .fifos, .shm, .dabs] (execDabPacketGroup engine filter instant crcPresent crcGood lost data s) := by
  unfold execDabPacketGroup
  exact .next <| .ite (.ite (.step bump_keeps .refl) (.ite (.step countDrop_keeps <| .step bump_keeps <|
    .step pushBytes_keeps .refl) (.step setDab_keeps <| .step pushBytes_keeps .refl))) .refl

theorem annEvent_keeps {e cluster flags subch} {s : State} :
    s.Keeps [.dict, .awaiting, .events, .log] (s.annEvent e cluster flags subch) := by
  unfold State.annEvent
  exact .ite (.step raise_keeps .refl) .refl

theorem execAnnouncementStart_keeps {engine cluster} {s : State} :
    s.Leads [.dict, .awaiting, .events, .log, .dabs] (execAnnouncementStart engine cluster s) := by
  unfold execAnnouncementStart
  exact .next <| .ite (.ite .refl (.iteElse (.step annEvent_keeps <| .step publishAnns_keeps <|
    .step setDab_keeps .refl) (.step followAnnouncement_keeps .refl))) .refl

theorem execAnnouncementEnd_keeps {engine cluster} {s : State} :
    s.Leads [.dict, .awaiting, .events, .log, .dabs] (execAnnouncementEnd engine cluster s) := by
  unfold execAnnouncementEnd
  refine .next ?_
  extract_lets
  split
  · split
    · exact .refl
    · exact .ite (.step annEvent_keeps <| .step publishAnns_keeps <| .step setDab_keeps .refl) .refl

theorem amAsk_keeps {e b} {s : State} : s.Keeps [.ams] (s.amAsk e b) := by
  unfold State.amAsk
  extract_lets
  split
  · exact setAm_keeps
  · exact .ite .refl (.step setAm_keeps .refl)

theorem amSettle_keeps {e} {s : State} : s.Keeps [.dict, .ams] (s.amSettle e) := by
  unfold State.amSettle
  exact .iteElse (by
    split
    · exact .ite (by
        extract_lets
        split
        · exact .step amAsk_keeps <| .step setNat_keeps <| .step setAm_keeps .refl
        · exact .step setNat_keeps <| .step setAm_keeps .refl) .refl
    · exact .refl) (.step amAsk_keeps .refl)

theorem amColdStart_keeps {e} {s : State} : s.Keeps [.dict, .awaiting, .ams] (s.amColdStart e) := by
  unfold State.amColdStart
  exact .iteElse (.step setAll_keeps <| .step setAm_keeps .refl) (.step await_keeps .refl)

theorem execAmPlllockChange_keeps {engine} {s : State} : s.Leads [.dict] (execAmPlllockChange engine s) := by
  unfold execAmPlllockChange
  exact .next <| .ite (.ite (.step setNat_keeps .refl) (.ite (.step setNat_keeps .refl) .refl)) .refl

theorem execAmBandwidthJudge_keeps {engine} {s : State} : s.Leads [.dict, .ams] (execAmBandwidthJudge engine s) := by
  unfold execAmBandwidthJudge
  refine .next ?_
  split
  · exact .refl
  · exact .ite (.step amAsk_keeps <| .step setAm_keeps <| .step amSettle_keeps .refl) .refl

theorem execAmMetricsPublish_keeps {engine} {s : State} : s.Leads [.dict, .awaiting, .ams] (execAmMetricsPublish engine s) := by
  unfold execAmMetricsPublish
  refine .next ?_
  extract_lets
  split
  · exact .refl
  · exact .ite (.step issue_keeps <| .step setAll_keeps <| .step setAm_keeps <| .step amSettle_keeps .refl) .refl

theorem execNoiseBlankerSuspend_keeps {engine} {s : State} : s.Leads [.ams] (execNoiseBlankerSuspend engine s) := by
  unfold execNoiseBlankerSuspend
  exact .next <| .ite (.step setAm_keeps .refl) .refl

theorem amStep_keeps {e} {s : State} : s.Keeps [.dict, .awaiting, .ams] (s.amStep e) := by
  unfold State.amStep
  split
  · exact .refl
  · exact .iteThen (.step setAm_keeps <|
      .iteThen (.step setAm_keeps .refl) (.step amColdStart_keeps .refl)) (.step bump_keeps .refl)

theorem amEmit_keeps {e ended} {s : State} : s.Keeps [.shm, .pcm, .pcmSeq, .heard, .ams, .gloaming] (s.amEmit e ended) := by
  unfold State.amEmit
  exact .foldl (fun _ _ => .step pushPcm_keeps <| .step setAm_keeps .refl) .refl

theorem amRun_keeps {e ended} {s : State} :
    s.Keeps [.dict, .awaiting, .shm, .pcm, .pcmSeq, .heard, .ams, .gloaming] (s.amRun e ended) := by
  unfold State.amRun
  exact .step amEmit_keeps <| .foldl (fun _ _ => .step amStep_keeps <| .step amSettle_keeps .refl) .refl

theorem amFlush_keeps {e} {s : State} :
    s.Keeps [.dict, .awaiting, .shm, .pcm, .pcmSeq, .heard, .ams, .gloaming] (s.amFlush e) := by
  unfold State.amFlush
  exact .step amRun_keeps <| .step setAm_keeps .refl

theorem execAmBlockProcess_keeps {engine chain} {s : State} : s.Leads [.dict, .awaiting, .chains, .shm, .pcm, .pcmSeq, .heard, .ams, .gloaming] (execAmBlockProcess engine chain s) := by
  unfold execAmBlockProcess
  refine .next ?_
  split
  · exact .refl
  next b t ht =>
    have taken : s.takeBlock engine chain = some (b, t) := by
      split at ht
      · exact ht
      · cases ht
    exact .step amRun_keeps <| .step setAm_keeps <|
      .iteThen (.step (takeBlock_keeps taken) .refl) (.step bump_keeps .refl)

theorem setDrmState_keeps {e new} {s : State} : s.Keeps [.dict, .awaiting, .events, .log, .drms] (s.setDrmState e new) := by
  unfold State.setDrmState
  exact .ite .refl (.step raise_keeps <| .iteThen (.ite (.step setDrm_keeps <| .step bump_keeps <| .step setDrm_keeps <|
    .step setNat_keeps .refl) (.iteThen (.step setDrm_keeps <|
    .step setNat_keeps .refl) (.step bump_keeps .refl))) (.step setNat_keeps <| .step setDrm_keeps .refl))

theorem drmRestart_keeps {e} {s : State} : s.Keeps [.dict, .awaiting, .events, .log, .drms] (s.drmRestart e) := by
  unfold State.drmRestart
  exact .step setNat_keeps <| .step setDrmState_keeps .refl

theorem publishDrmSi_keeps {e} {s : State} : s.Keeps [.dict, .drms] (s.publishDrmSi e) := by
  unfold State.publishDrmSi
  exact .step setBytes_keeps <| .step setDrm_keeps .refl

theorem publishAlternatives_keeps {e} {s : State} : s.Keeps [.dict, .drms] (s.publishAlternatives e) := by
  unfold State.publishAlternatives
  exact .step setBytes_keeps <| .step setDrm_keeps .refl

theorem judgeDrm_keeps {e} {s : State} : s.Keeps [.dict] (s.judgeDrm e) := by
  unfold State.judgeDrm
  exact .foldl (fun _ _ => .step setNat_keeps .refl) .refl

theorem drmColdStart_keeps {e} {s : State} :
    s.Keeps [.dict, .awaiting, .events, .log, .shm, .pcm, .pcmSeq, .heard, .voices, .drms, .gloaming] (s.drmColdStart e) := by
  unfold State.drmColdStart
  exact .foldl (fun _ _ => .step speak_keeps <| .step setNat_keeps .refl) (.step publishAlternatives_keeps <|
    .step publishDrmSi_keeps <| .iteElse (.step setAll_keeps <| .step setDrm_keeps <|
    .step drmRestart_keeps .refl) (.step await_keeps .refl))

theorem execDrmModeFound_keeps {engine mode} {s : State} :
    s.Leads [.dict, .awaiting, .events, .log, .drms] (execDrmModeFound engine mode s) := by
  unfold execDrmModeFound
  exact .next <| .ite (.ite (.step setNat_keeps <| .step setDrmState_keeps .refl) (.step setDrm_keeps .refl)) .refl

theorem execDrmFrameSync_keeps {engine frameStart offset} {s : State} :
    s.Leads [.dict, .awaiting, .events, .log, .drms] (execDrmFrameSync engine frameStart offset s) := by
  unfold execDrmFrameSync
  exact .next <| .ite (.ite (.step setDrm_keeps <| .step setNat_keeps <| .step setNum_keeps <|
    .step setDrmState_keeps .refl) (.step setDrm_keeps .refl)) .refl

theorem storeFrame_keeps {e start cells} {s : State} : s.Keeps [.dict, .drms] (s.storeFrame e start cells) := by
  unfold State.storeFrame
  exact .step bumpBy_keeps <| .step setDrm_keeps .refl

theorem execDrmFacAcquired_keeps {engine occupancy constellation} {s : State} :
    s.Leads [.dict, .awaiting, .events, .log, .drms] (execDrmFacAcquired engine occupancy constellation s) := by
  unfold execDrmFacAcquired
  exact .next <| .ite (.step judgeDrm_keeps <| .foldl (fun _ _ => .step storeFrame_keeps .refl) (.step setDrm_keeps <|
    .step setNat_keeps <| .step setNat_keeps <| .step setDrmState_keeps .refl)) .refl

theorem drmLose_keeps {e} {s : State} : s.Keeps [.dict, .awaiting, .events, .log, .drms] (s.drmLose e) := by
  unfold State.drmLose
  exact .step judgeDrm_keeps <| .step setDrmState_keeps .refl

theorem execDrmSyncLost_keeps {engine timing} {s : State} :
    s.Leads [.dict, .awaiting, .events, .log, .drms] (execDrmSyncLost engine timing s) := by
  unfold execDrmSyncLost
  exact .next <| .ite (.step drmLose_keeps .refl) .refl

theorem execDrmLostTimeout_keeps {engine} {s : State} :
    s.Leads [.dict, .awaiting, .events, .log, .shm, .pcm, .pcmSeq, .heard, .voices, .drms, .gloaming]
      (execDrmLostTimeout engine s) := by
  unfold execDrmLostTimeout
  exact .next <| .ite (.step drmColdStart_keeps .refl) .refl

theorem execDrmAcquisitionFail_keeps {engine} {s : State} :
    s.Leads [.dict, .awaiting, .events, .log, .drms] (execDrmAcquisitionFail engine s) := by
  unfold execDrmAcquisitionFail
  exact .next <| .ite (.ite (.ite (.step setDrm_keeps .refl) (.step drmRestart_keeps .refl)) (.step setNat_keeps <|
    .step setDrmState_keeps .refl)) .refl

theorem pushDrmGroups_keeps {e instant gs} {s : State} : s.Keeps [.dict, .fifos, .shm, .drms] (s.pushDrmGroups e instant gs) := by
  induction gs generalizing s with
  | nil => exact .refl
  | cons g gs ih =>
    unfold State.pushDrmGroups
    exact .trans (.ite (.step bump_keeps .refl)
      (.ite (.step countDrop_keeps <| .step bump_keeps <| .step pushBytes_keeps .refl)
        (.step setDrm_keeps <| .step pushBytes_keeps .refl))) ih

theorem drmUnit_keeps {m first u} {s : State} :
    s.Keeps [.dict, .shm, .pcm, .pcmSeq, .heard, .voices, .gloaming] (s.drmUnit m first u) := by
  unfold State.drmUnit
  exact .ite (.step speak_keeps <| .step setNat_keeps <| .step setNat_keeps .refl) (.ite .refl (.step speak_keeps <|
    .step setNat_keeps <| .step bump_keeps .refl))

theorem drmDecode_keeps {m e units} {s : State} :
    s.Keeps [.dict, .shm, .pcm, .pcmSeq, .heard, .voices, .drms, .gloaming] (s.drmDecode m e units) := by
  unfold State.drmDecode
  extract_lets
  split
  · exact .ite .refl (.step silenceVoice_keeps .refl)
  · exact .ite (.iteThen (.foldl (fun _ _ => .step drmUnit_keeps .refl) (.step setDrm_keeps .refl))
      (.step silenceVoice_keeps .refl)) (.step silenceVoice_keeps <| .step setDrm_keeps .refl)

theorem queueMsc_keeps {e depth groups fs} {s : State} : s.Keeps [.dict, .fifos, .shm, .drms] (s.queueMsc e depth groups fs) := by
  induction fs generalizing s with
  | nil => exact .refl
  | cons f fs ih =>
    unfold State.queueMsc
    dsimp only
    split
    · exact .refl
    · exact .ite .refl (.trans (.iteThen (.ite (.step setDrm_keeps <| .step setDrm_keeps .refl)
        (.step countDrop_keeps <| .step setDrm_keeps .refl)) (.step pushDrmGroups_keeps .refl)) ih)

theorem drmMetrics_keeps {e start doppler spread cells} {s : State} :
    s.Keeps [.dict, .awaiting] (s.drmMetrics e start doppler spread cells) := by
  unfold State.drmMetrics
  exact .step issue_keeps <| .step bumpBy_keeps <| .iteElse (.step setAll_keeps .refl) (.step setAll_keeps .refl)

theorem execDrmMscFrame_keeps {engine frameStart facGood cells doppler spread frames groups decoder units} {s : State} :
    s.Leads [.dict, .awaiting, .fifos, .shm, .pcm, .pcmSeq, .heard, .voices, .drms, .gloaming]
      (execDrmMscFrame engine frameStart facGood cells doppler spread frames groups decoder units s) := by
  unfold execDrmMscFrame
  exact .next <| .ite (.iteThen (.step queueMsc_keeps <| .step drmMetrics_keeps <|
    .iteElse (.step setDrm_keeps .refl) (.step storeFrame_keeps .refl)) (.step drmDecode_keeps .refl)) .refl

theorem execDrmSdcDecode_keeps {engine superStart good services alternatives schedules utc half} {s : State} :
    s.Leads [.dict, .awaiting, .events, .utcPrev, .log, .drms]
      (execDrmSdcDecode engine superStart good services alternatives schedules utc half s) := by
  unfold execDrmSdcDecode
  exact .next <| .ite (.step judgeDrm_keeps <| by
    split
    · exact .step utcAnchor_keeps <| .step bumpBy_keeps <| .iteElse (.iteElse (.step setDrm_keeps <|
        .step setDrm_keeps .refl) (.step publishDrmSi_keeps .refl)) (.step publishAlternatives_keeps .refl)
    · exact .step bumpBy_keeps <| .iteElse (.iteElse (.step setDrm_keeps <|
        .step setDrm_keeps .refl) (.step publishDrmSi_keeps .refl)) (.step publishAlternatives_keeps .refl)) .refl

theorem execDrmScheduleEval_keeps {engine} {s : State} : s.Leads [.dict, .drms] (execDrmScheduleEval engine s) := by
  unfold execDrmScheduleEval
  exact .next <| .ite (.step publishAlternatives_keeps <| .step setDrm_keeps .refl) .refl

theorem execDrmServiceSelect_keeps {engine} {s : State} :
    s.Leads [.dict, .awaiting, .events, .log, .shm, .pcm, .pcmSeq, .heard, .voices, .drmSel, .gloaming]
      (execDrmServiceSelect engine s) := by
  unfold execDrmServiceSelect
  exact .next <| .ite (.step speak_keeps <| .step setNat_keeps <| .step disturb_keeps <| .step setNat_keeps <|
    .step setNat_keeps <| .step setDrmSelection_keeps .refl) .refl

theorem execDrmTextMessage_keeps {engine text} {s : State} : s.Leads [.dict] (execDrmTextMessage engine text s) := by
  unfold execDrmTextMessage
  exact .next <| .ite (.step setNat_keeps <| .step setBytes_keeps .refl) .refl

theorem placeTail_keeps {lambda i w} {s t : State} (h : s.placeTail lambda i w = some t) : s.Keeps [.shm, .gloaming] t := by
  unfold State.placeTail at h
  split at h
  · cases h
    exact .refl
  · obtain ⟨p, hp, rfl⟩ := Option.map_eq_some_iff.mp h
    exact .step setGslot_keeps (.step (alloc_keeps hp) .refl)

theorem freeTail_keeps {i} {s : State} : s.Keeps [.shm, .gloaming] (s.freeTail i) := by
  unfold State.freeTail
  split
  · exact .step setGslot_keeps <| .step freeAt_keeps .refl
  · exact .refl

theorem startBlend_keeps {new lenMs first followBack} {s : State} :
    s.Keeps [.dict, .gloaming] (s.startBlend new lenMs first followBack) := by
  unfold State.startBlend
  exact .step setNat_keeps <| .step setNat_keeps <| .step setNat_keeps <| .step update_gloaming_keeps .refl

theorem requestBlend_keeps {slot lenMs first followBack} {s : State} :
    s.Keeps [.dict, .gloaming] (s.requestBlend slot lenMs first followBack).1 := by
  unfold State.requestBlend
  split
  · exact .refl
  · split
    · exact .step setNat_keeps <| .step update_gloaming_keeps .refl
    · split
      · exact .refl
      · exact startBlend_keeps

theorem reverseBlend_keeps {s : State} : s.Keeps [.dict, .gloaming] s.reverseBlend := by
  unfold State.reverseBlend
  split
  · exact .refl
  · exact .step setNat_keeps <| .step update_gloaming_keeps .refl

theorem startBuild_keeps {share} {s : State} : s.Keeps [.dict, .gloaming] (s.startBuild share) := by
  unfold State.startBuild
  exact .iteElse (.step setNat_keeps <| .step update_gloaming_keeps .refl) (.step bump_keeps <| .step setNat_keeps .refl)

theorem startEq_keeps {i bank} {s : State} : s.Keeps [.dict, .gloaming] (s.startEq i bank) := by
  unfold State.startEq
  exact .step setNat_keeps <| .step setGslot_keeps .refl

theorem selectEq_keeps {i bank} {s : State} : s.Keeps [.dict, .gloaming] (s.selectEq i bank) := by
  unfold State.selectEq
  exact .ite (.step setNat_keeps .refl) (.ite (.step setNat_keeps .refl) (.ite .refl (.step startEq_keeps .refl)))

theorem startPendingEq_keeps {s : State} : s.Keeps [.dict, .gloaming] s.startPendingEq := by
  unfold State.startPendingEq
  exact .ite .refl (.foldl (fun _ _ => .ite .refl (.ite (.step setNat_keeps .refl) (.step startEq_keeps .refl))) .refl)

theorem slotOut_keeps {i f due} {s : State} : s.Keeps [.gloaming] (s.slotOut i f due).1 := by
  unfold State.slotOut
  exact setGslot_keeps

theorem advanceSlots_keeps {s : State} : s.Keeps [.dict, .gloaming] s.advanceSlots := by
  unfold State.advanceSlots
  extract_lets
  split
  · exact .foldl (fun _ _ => by
        extract_lets
        split
        · exact .iteElse (.ite .refl (.step setNum_keeps .refl)) (.step setGslot_keeps .refl)
        · exact .ite (.step setGslot_keeps <| .ite .refl (.step setNum_keeps .refl)) (.ite (.step setNum_keeps <|
            .step setGslot_keeps <| .ite .refl (.step setNum_keeps .refl)) (.ite (.step setGslot_keeps <|
            .ite .refl (.step setNum_keeps .refl)) (.step setNum_keeps <| .step setGslot_keeps <|
            .ite .refl (.step setNum_keeps .refl))))) .refl
  · exact .iteThen (.step update_gloaming_keeps <| .foldl (fun _ _ => by
        extract_lets
        split
        · exact .iteElse (.ite .refl (.step setNum_keeps .refl)) (.step setGslot_keeps .refl)
        · exact .ite (.step setGslot_keeps <| .ite .refl (.step setNum_keeps .refl)) (.ite (.step setNum_keeps <|
            .step setGslot_keeps <| .ite .refl (.step setNum_keeps .refl)) (.ite (.step setGslot_keeps <|
            .ite .refl (.step setNum_keeps .refl)) (.step setNum_keeps <| .step setGslot_keeps <|
            .ite .refl (.step setNum_keeps .refl))))) .refl) (.step setNat_keeps .refl)

theorem emitFrame_keeps {gain} {s : State} : s.Keeps [.dict, .gloaming] (s.emitFrame gain) := by
  have heard {v due} (is : List Nat) (t : State × List (Option (Rat × Rat))) (ht : s.Keeps [.dict, .gloaming] t.1) :
      s.Keeps [.dict, .gloaming] (is.foldl (fun (t : State × List (Option (Rat × Rat))) i =>
        if t.1.slotSource i = 0 then (t.1, t.2 ++ [none])
        else
          let o := t.1.slotOut i (v / 3200) due
          (o.1, t.2 ++ [o.2])) t).1 := by
    induction is generalizing t with
    | nil => exact ht
    | cons i is ih => exact ih _ (.iteFst ht (.step slotOut_keeps ht))
  unfold State.emitFrame
  refine .step advanceSlots_keeps ?_
  dsimp only
  split
  · exact .step setNat_keeps <| .step update_gloaming_keeps <| .step setNat_keeps <| .step bumpBy_keeps <| heard _ _ .refl
  · exact .step update_gloaming_keeps <| .step setNat_keeps <| .step bumpBy_keeps <| heard _ _ .refl

theorem freshSlot_keeps {i} {s : State} : s.Keeps [.gloaming] (s.freshSlot i) := by
  unfold State.freshSlot
  exact setGslot_keeps

theorem placeTails_keeps {lambda} {is : List Nat} {o : Option State} {s t : State}
  (ho : ∀ u, o = some u → s.Keeps [.shm, .gloaming] u)
    (h : is.foldl (fun (o : Option State) i => o.bind fun s => s.placeTail lambda i (s.slotSource i)) o = some t) :
    s.Keeps [.shm, .gloaming] t := by
  induction is generalizing o with
  | nil => exact ho t h
  | cons i is ih =>
    refine ih (fun u hu => ?_) h
    obtain ⟨v, rfl, hv⟩ := Option.bind_eq_some_iff.mp hu
    exact .trans (ho v rfl) (placeTail_keeps hv)

theorem enableGloaming_keeps {s : State} : s.Keeps [.dict, .shm, .pcm, .heard, .gloaming] s.enableGloaming.1 := by
  have hstarted {t : State} {i k} : t.Keeps [.dict, .gloaming]
    ((t.freshSlot i).setAll k) := .step setAll_keeps freshSlot_keeps.mono
  have hdrained {t : State} {i} : t.Keeps [.dict, .shm, .pcm, .heard, .gloaming]
      (if t.slotSource i = 0 then t else t.drainPcm (queueOf (t.slotSource i))) := .ite .refl drainPcm_keeps.mono
  unfold State.enableGloaming
  extract_lets lambda tails
  have htails : ∀ t, tails = some t → s.Keeps [.dict, .shm, .pcm, .heard, .gloaming] t := fun t ht =>
    (placeTails_keeps (fun u hu => by cases hu; exact .refl) ht).mono
  clear_value tails
  refine .iteFst .refl (.iteFst setNat_keeps.mono ?_)
  cases tails with
  | none => exact .refl
  | some t =>
    exact .fst <| .foldl (fun _ _ => hdrained) <| .step setAll_keeps <| .step update_gloaming_keeps <|
      .foldl (fun _ _ => hstarted.mono) (htails t rfl)

theorem disableGloaming_keeps {s : State} : s.Keeps [.dict, .shm, .gloaming] s.disableGloaming := by
  unfold State.disableGloaming
  exact .step setAll_keeps <| .step update_gloaming_keeps <| .foldl (fun _ _ => .step setAll_keeps <| .step setGslot_keeps <|
    .step freeTail_keeps .refl) (.foldl (fun _ _ => .step emitFrame_keeps .refl) .refl)

theorem execGloamingEnable_keeps {by_} {s : State} :
    s.Leads [.dict, .awaiting, .events, .answer, .log, .power, .shm, .pcm, .heard, .gloaming, .radio]
      (execGloamingEnable by_ s) := by
  unfold execGloamingEnable
  exact .next <| .request (fun _ => .step enableGloaming_keeps .refl) .refl

theorem execGloamingDisable_keeps {by_} {s : State} :
    s.Leads [.dict, .awaiting, .events, .answer, .log, .power, .shm, .gloaming, .radio] (execGloamingDisable by_ s) := by
  unfold execGloamingDisable
  exact .next <| .request (fun _ => .accept (.ite (.step disableGloaming_keeps .refl) .refl)) .refl

theorem assignSlot_keeps {i w} {s : State} : s.Keeps [.dict, .shm, .pcm, .heard, .gloaming] (s.assignSlot i w).1 := by
  unfold State.assignSlot
  extract_lets code freed placed
  have hplaced : ∀ t, placed = some t → s.Keeps [.dict, .shm, .pcm, .heard, .gloaming] t := by
    intro t ht
    have hfreed : s.Keeps [.dict, .shm, .pcm, .heard, .gloaming] freed := .step freeTail_keeps .refl
    unfold placed at ht
    split at ht
    · exact .step (placeTail_keeps ht) hfreed
    · exact Option.some.inj ht ▸ hfreed
  clear_value placed
  refine .iteFst .refl ?_
  cases placed with
  | none => exact .refl
  | some t => exact .iteThen (.step setAll_keeps <| .step freshSlot_keeps (hplaced t rfl)) drainPcm_keeps.mono

theorem execSlotSourceWrite_keeps {by_ slot word} {s : State} :
    s.Leads [.dict, .awaiting, .events, .answer, .log, .power, .shm, .pcm, .heard, .gloaming, .radio]
      (execSlotSourceWrite by_ slot word s) := by
  unfold execSlotSourceWrite
  exact .next <| .request (fun _ => .step assignSlot_keeps .refl) .refl

theorem lockSlot_keeps {i fine} {s : State} : s.Keeps [.dict, .gloaming] (s.lockSlot i fine) := by
  unfold State.lockSlot
  exact .ite (.step setNat_keeps .refl) (.ite (.step setNum_keeps <| .step setGslot_keeps <| .step setNum_keeps <|
    .step setNat_keeps .refl) (.ite (.step update_gloaming_keeps <| .step setNat_keeps <|
    .foldl (fun _ _ => .ite .refl (.step setNat_keeps .refl)) (.step setGslot_keeps <| .step setNum_keeps <|
    .step setNat_keeps .refl)) (.step startBuild_keeps <| .step setNat_keeps <|
    .foldl (fun _ _ => .ite .refl (.step setNat_keeps .refl)) (.step setGslot_keeps <| .step setNum_keeps <|
    .step setNat_keeps .refl))))

theorem judgeEstimate_keeps {i e} {s : State} : s.Keeps [.dict, .awaiting, .events, .log, .gloaming] (s.judgeEstimate i e) := by
  unfold State.judgeEstimate
  exact .ite (.ite (.step searchAgain_keeps .refl) .refl) (.ite (.ite (.ite (.step searchAgain_keeps .refl)
    (.step setGslot_keeps .refl)) (.ite (.step setGslot_keeps .refl) (.step setGslot_keeps .refl))) (.ite
    (.step setGslot_keeps <| .step setNat_keeps .refl) (.iteThen (.step setGslot_keeps .refl) (.step lockSlot_keeps .refl))))

theorem aimLevel_keeps {i a b} {s : State} : s.Keeps [.gloaming] (s.aimLevel i a b) := by
  unfold State.aimLevel
  exact .ite (.step setGslot_keeps .refl) .refl

theorem execLagEstimate_keeps {slot} {s : State} :
    s.Leads [.dict, .awaiting, .events, .log, .gloaming] (execLagEstimate slot s) := by
  have hissued {g k b} : s.Keeps [.dict, .awaiting, .events, .log, .gloaming] ((s.setGslot slot g).issue k b) :=
    .step issue_keeps setGslot_keeps.mono
  unfold execLagEstimate
  refine .next <| .ite ?_ .refl
  cases (s.gslot slot).meter.window (s.estimateEnd slot) with
  | none => exact .refl
  | some a =>
    cases (s.gslot (s.nat 0x490005)).meter.window (s.estimateEnd slot) with
    | none => exact .refl
    | some b =>
      exact .ite (.step judgeEstimate_keeps hissued)
        (.step aimLevel_keeps <| .step judgeEstimate_keeps <| .step setNat_keeps <| .step setNat_keeps hissued)

theorem suspendFollowing_keeps {fadeTicks} {s : State} : s.Keeps [.dict, .gloaming] (s.suspendFollowing fadeTicks) := by
  unfold State.suspendFollowing
  exact .ite (.step setNat_keeps <| .step update_gloaming_keeps .refl) .refl

theorem blendCommand_keeps {slot} {s : State} : s.Keeps [.dict, .gloaming] (s.blendCommand slot).1 := by
  unfold State.blendCommand
  extract_lets r
  have hr : s.Keeps [.dict, .gloaming] r.1 := by
    unfold r
    split
    · exact requestBlend_keeps
    · exact .refl
  split
  · exact .step suspendFollowing_keeps hr
  · exact hr

theorem reverseCommand_keeps {s : State} : s.Keeps [.dict, .gloaming] s.reverseCommand := by
  unfold State.reverseCommand
  exact .step suspendFollowing_keeps <| .step reverseBlend_keeps .refl

theorem execBlendTarget_keeps {by_ slot} {s : State} :
    s.Leads [.dict, .awaiting, .events, .answer, .log, .power, .gloaming, .radio] (execBlendTarget by_ slot s) := by
  unfold execBlendTarget
  exact .next <| .request (fun _ => .step blendCommand_keeps .refl) .refl

theorem execBlendFadeReverse_keeps {by_} {s : State} :
    s.Leads [.dict, .awaiting, .events, .answer, .log, .power, .gloaming, .radio] (execBlendFadeReverse by_ s) := by
  unfold execBlendFadeReverse
  exact .next <| .request (fun _ => .accept (.step reverseCommand_keeps .refl)) .refl

theorem execEqSelect_keeps {by_ slot bank} {s : State} :
    s.Leads [.dict, .awaiting, .events, .answer, .log, .power, .gloaming, .radio] (execEqSelect by_ slot bank s) := by
  unfold execEqSelect
  exact .next <| .request (fun _ => .accept (.step selectEq_keeps .refl)) .refl

theorem execEqFadeEnd_keeps {slot} {s : State} : s.Leads [.dict, .gloaming] (execEqFadeEnd slot s) := by
  unfold execEqFadeEnd
  refine .next ?_
  split
  · exact .ite (.step startPendingEq_keeps <| .step setNat_keeps <| .step setGslot_keeps .refl) .refl
  · exact .refl

theorem execTonalMatchUpdate_keeps {slot} {s : State} : s.Leads [.dict, .gloaming] (execTonalMatchUpdate slot s) := by
  unfold execTonalMatchUpdate
  refine .next ?_
  cases s.bandGains slot with
  | none => exact .refl
  | some x => exact .ite (.iteThen (.step setBytes_keeps .refl) (.step selectEq_keeps setGslot_keeps.mono)) .refl

theorem execBlendOutputFrame_keeps {s : State} : s.Leads [.dict, .gloaming] (execBlendOutputFrame s) := by
  unfold execBlendOutputFrame
  exact .next <| .ite (.step emitFrame_keeps .refl) .refl

theorem settleFade_keeps {f} {s : State} : s.Keeps [.dict, .gloaming] (s.settleFade f) := by
  unfold State.settleFade
  exact .step setNat_keeps <| .step setNat_keeps <| .step setNat_keeps <| .step setNat_keeps <| .step bump_keeps <|
    .step update_gloaming_keeps .refl

theorem afterFade_keeps {s : State} : s.Keeps [.dict, .gloaming] s.afterFade := by
  unfold State.afterFade
  exact .ite (.step startBuild_keeps .refl) (.ite (.step startPendingEq_keeps .refl) (.ite (.step startPendingEq_keeps <|
    .step setNat_keeps .refl) (.step startBlend_keeps <| .step setNat_keeps .refl)))

theorem setCandidates_keeps {cs} {s : State} : s.Keeps [.following] (s.setCandidates cs) := by
  unfold State.setCandidates
  exact update_following_keeps

theorem mapCandidate_keeps {kHz id system g} {s : State} : s.Keeps [.following] (s.mapCandidate kHz id system g) := by
  unfold State.mapCandidate
  exact setCandidates_keeps

theorem execCandidateListUpdate_keeps {origin kHz id system} {s : State} :
    s.Leads [.dict, .following] (execCandidateListUpdate origin kHz id system s) := by
  unfold execCandidateListUpdate
  exact .next <| .ite (by
    extract_lets
    split
    · exact mapCandidate_keeps.mono
    · exact .ite (.step setCandidates_keeps .refl) (.step bump_keeps .refl)) .refl

theorem execCandidateAgeOut_keeps {kHz id system} {s : State} : s.Leads [.following] (execCandidateAgeOut kHz id system s) := by
  unfold execCandidateAgeOut
  exact .next setCandidates_keeps.mono

theorem execIdentityChange_keeps {s : State} : s.Leads [.dict, .chains, .following] (execIdentityChange s) := by
  unfold execIdentityChange
  exact .next <| .ite .refl (.step setNat_keeps <| .step setNat_keeps <|
    .foldl (fun _ _ => .step endAfCheck_keeps .refl) (.step update_following_keeps .refl))

theorem followLantern_keeps {s : State} : s.Keeps [.following] s.followLantern := by
  unfold State.followLantern
  exact .ite .refl (.step setCandidates_keeps .refl)

theorem execLanternPeriodEnd_keeps {codes} {s : State} :
    s.Leads [.dict, .awaiting, .events, .log, .lantern, .following] (execLanternPeriodEnd codes s) := by
  unfold execLanternPeriodEnd
  exact .next <| .ite (.step followLantern_keeps <| .step lanternPeriodEnd_keeps .refl) .refl

theorem hearCheck_keeps {e} {s : State} : s.Keeps [.following] (s.hearCheck e) := by
  unfold State.hearCheck
  split
  · exact .ite (.step update_following_keeps .refl) .refl
  · exact .refl

theorem judgeLanding_keeps {good} {s : State} : s.Keeps [.following] (s.judgeLanding good) := by
  unfold State.judgeLanding
  split
  · exact update_following_keeps
  · exact .refl

theorem followDab_keeps {e} {s : State} : s.Keeps [.following] (s.followDab e) := by
  unfold State.followDab
  exact .ite .refl (by
    extract_lets
    split
    · exact .iteThen (.step setCandidates_keeps <| .step hearCheck_keeps .refl) (.step judgeLanding_keeps .refl)
    · exact .step setCandidates_keeps <| .step hearCheck_keeps .refl)

theorem execDabFrameEnd_keeps {engine nullStart fibs ficErrors fic offset} {s : State} :
    s.Leads [.dict, .awaiting, .events, .log, .dabs, .following]
      (execDabFrameEnd engine nullStart fibs ficErrors fic offset s) := by
  unfold execDabFrameEnd
  exact .next <| .step followDab_keeps <| .step dabFrameEnd_keeps .refl

theorem placeRetune_keeps {owner n kHz i} {s t : State} (h : s.placeRetune owner n kHz = some (t, i)) : s.Keeps [.launch] t := by
  unfold State.placeRetune at h
  extract_lets t0 at h
  split at h
  extract_lets taken at h
  split at h
  · cases h
  · obtain ⟨j, -, hj⟩ := Option.map_eq_some_iff.mp h
    cases hj
    exact setEntry_keeps

theorem beginAfCheck_keeps {chain kHz id} {s : State} : s.Keeps [.dict, .launch, .following] (s.beginAfCheck chain kHz id) := by
  unfold State.beginAfCheck
  split
  · exact .refl
  · exact .ite (by
      split
      · exact .refl
      · rename_i t t h
        exact .trans (.step (placeRetune_keeps h) .refl) <| .step mapCandidate_keeps <| .step update_following_keeps <|
          .step bump_keeps .refl) .refl

theorem hearQuick_keeps {chain grid data} {s : State} : s.Keeps [.following] (s.hearQuick chain grid data) := by
  unfold State.hearQuick
  exact update_following_keeps

theorem closeAfCheck_keeps {k state q} {s : State} : s.Keeps [.dict, .chains, .following] (s.closeAfCheck k state q) := by
  unfold State.closeAfCheck
  exact .step endAfCheck_keeps <| .step mapCandidate_keeps .refl

theorem setAfCheck_keeps {k} {s : State} : s.Keeps [.following] (s.setAfCheck k) := by
  unfold State.setAfCheck
  exact update_following_keeps

theorem stepAfCheck_keeps {k block1} {s : State} : s.Keeps [.dict, .chains, .following] (s.stepAfCheck k block1) := by
  unfold State.stepAfCheck
  split
  · exact .ite .refl (.ite (.step closeAfCheck_keeps .refl) (.step setQuickOff_keeps <| .step setAfCheck_keeps <|
      .step mapCandidate_keeps .refl))
  · exact .ite (.step closeAfCheck_keeps .refl) (by
      split
      · exact .ite .refl (.ite (.ite (.step closeAfCheck_keeps .refl) (.step setAfCheck_keeps .refl)) (.ite
          (.step closeAfCheck_keeps .refl) (.step setAfCheck_keeps .refl)))
      · exact .refl)

theorem execAfCheck_keeps {chain kHz id block1} {s : State} :
    s.Leads [.dict, .launch, .chains, .following] (execAfCheck chain kHz id block1 s) := by
  unfold execAfCheck
  refine .next ?_
  split
  · exact beginAfCheck_keeps.mono
  · exact .ite (.step stepAfCheck_keeps .refl) (.step endAfCheck_keeps .refl)

theorem execEnsembleCheck_keeps {kHz} {s : State} : s.Leads [.dict, .launch, .following] (execEnsembleCheck kHz s) := by
  unfold execEnsembleCheck
  refine .next ?_
  extract_lets
  split
  · exact .ite (by
      split
      · exact .refl
      · rename_i t t h
        exact .trans (.step (placeRetune_keeps h) .refl) <| .step setCandidates_keeps <| .step update_following_keeps <|
          .step bump_keeps .refl) .refl
  · exact .refl
  · exact .ite (.step setCandidates_keeps <| .step update_following_keeps .refl) .refl

theorem followRequest_keeps {slot lenMs first back} {s : State} :
    s.Keeps [.dict, .gloaming] (s.followRequest slot lenMs first back) := by
  unfold State.followRequest
  exact .ite (.step bump_keeps <| .step update_gloaming_keeps <| .step requestBlend_keeps .refl) .refl

theorem execSwitchRequest_keeps {row target} {s : State} :
    s.Leads [.dict, .awaiting, .events, .log, .gloaming] (execSwitchRequest row target s) := by
  unfold execSwitchRequest
  exact .next <|
    .ite (.ite (.step raise_keeps .refl) (.ite (.ite (.step followRequest_keeps .refl)
    (.step followRequest_keeps .refl)) .refl)) .refl

theorem endLanding_keeps {s : State} : s.Keeps [.following] s.endLanding := by
  unfold State.endLanding
  exact update_following_keeps

theorem beginLanding_keeps {c slot} {s : State} : s.Keeps [.dict, .awaiting, .events, .launch, .log, .following]
  (s.beginLanding c slot) := by
  unfold State.beginLanding
  split
  · exact raise_keeps.mono
  · dsimp only
    split
    · exact raise_keeps.mono
    · split
      · exact .refl
      next t at_ ht =>
        refine .step update_following_keeps ?_
        split at ht
        · obtain ⟨n, -, hn⟩ := Option.bind_eq_some_iff.mp ht
          exact (placeRetune_keeps hn).mono
        · cases ht
          exact setNat_keeps.mono

theorem followFm_keeps {e} {s : State} : s.Keeps [.following] (s.followFm e) := by
  unfold State.followFm
  exact .ite .refl (by
    extract_lets
    split
    · exact .iteThen (.iteThen (.step update_following_keeps .refl) (.step setCandidates_keeps .refl))
        (.step judgeLanding_keeps .refl)
    · exact .iteThen (.step update_following_keeps .refl) (.step setCandidates_keeps .refl))

theorem execFmMetricsPublish_keeps {engine} {s : State} :
    s.Leads [.dict, .awaiting, .fms, .following] (execFmMetricsPublish engine s) := by
  unfold execFmMetricsPublish
  exact .next <| .ite (.step followFm_keeps <| .step publishFm_keeps .refl) .refl

theorem failLanding_keeps {l state} {s : State} : s.Keeps [.following] (s.failLanding l state) := by
  unfold State.failLanding
  exact .step endLanding_keeps <| .step mapCandidate_keeps .refl

theorem landingIdentity_keeps {l} {s : State} :
    s.Keeps [.dict, .awaiting, .events, .log, .shm, .pcm, .heard, .following, .gloaming] (s.landingIdentity l) := by
  unfold State.landingIdentity
  exact .ite .refl (.ite (.step failLanding_keeps .refl) (.ite (.step failLanding_keeps .refl) (.ite .refl (.ite
    (.step update_following_keeps <| by
    split
    · exact searchAgain_keeps.mono
    · exact .step assignSlot_keeps .refl) (.step endLanding_keeps .refl)))))

theorem execLanding_keeps {kHz id system slot} {s : State} :
    s.Leads [.dict, .awaiting, .events, .launch, .log, .shm, .pcm, .heard, .following, .gloaming]
      (execLanding kHz id system slot s) := by
  unfold execLanding
  refine .next ?_
  split
  · split
    · exact .ite (.step beginLanding_keeps .refl) .refl
    · exact .refl
  · exact .ite (.step landingIdentity_keeps .refl) (.ite (.step update_following_keeps <| .step followRequest_keeps .refl) .refl)

theorem execLandingTimeout_keeps {s : State} : s.Leads [.following] (execLandingTimeout s) := by
  unfold execLandingTimeout
  refine .next ?_
  split
  · exact .refl
  · exact .ite (.ite (.step failLanding_keeps .refl) (.step endLanding_keeps .refl)) .refl

theorem finishLanding_keeps {f} {s : State} : s.Keeps [.dict, .following] (s.finishLanding f) := by
  unfold State.finishLanding
  split
  · exact .ite (.iteElse (.step endLanding_keeps .refl) (.step setNat_keeps .refl)) .refl
  · exact .refl

theorem execBlendBackReverse_keeps {s : State} : s.Leads [.dict, .gloaming] (execBlendBackReverse s) := by
  unfold execBlendBackReverse
  refine .next ?_
  split
  · exact .ite (.step reverseBlend_keeps .refl) .refl
  · exact .refl

theorem execBlendFadeEnd_keeps {s : State} : s.Leads [.dict, .following, .gloaming] (execBlendFadeEnd s) := by
  unfold execBlendFadeEnd
  refine .next ?_
  split
  · exact .ite (.step afterFade_keeps <| .step finishLanding_keeps <| .step update_following_gloaming_keeps <|
      .iteThen (.step settleFade_keeps .refl) (.step setNat_keeps .refl)) .refl
  · exact .ite (.step afterFade_keeps <| .step setNat_keeps <| .step update_gloaming_keeps .refl) .refl
  · exact .refl

theorem audioEvent_keeps {u kind} {s : State} : s.Keeps [.dict, .awaiting, .events, .log] (s.audioEvent u kind) := by
  unfold State.audioEvent
  exact raise_keeps

theorem setStreamState_keeps {u new kind} {s : State} :
    s.Keeps [.dict, .awaiting, .events, .log] (s.setStreamState u new kind) := by
  unfold State.setStreamState
  exact .ite .refl (.step audioEvent_keeps <| .step setNat_keeps .refl)

theorem setAudioFlag_keeps {u bit} {s : State} : s.Keeps [.dict, .awaiting, .events, .log] (s.setAudioFlag u bit) := by
  unfold State.setAudioFlag
  exact .ite .refl (.step audioEvent_keeps <| .step setNat_keeps .refl)

theorem execAudioFlagsClear_keeps {by_ stream bits} {s : State} :
    s.Leads [.dict, .awaiting, .events, .answer, .log, .power, .radio] (execAudioFlagsClear by_ stream bits s) := by
  unfold execAudioFlagsClear
  exact .next <| .request (fun _ => .accept (.step setNat_keeps .refl)) .refl

theorem writePair_keeps {u q w} {s : State} : s.Keeps [.dict, .pcm, .heard, .gloaming, .streams] (s.writePair u q w).1 := by
  unfold State.writePair
  extract_lets
  split
  · exact .refl
  · exact .iteThen (.step setStream_keeps <| .step setNat_keeps .refl) (.step drainPcm_keeps .refl)

theorem execPairSourceWrite_keeps {by_ stream pair word} {s : State} :
    s.Leads [.dict, .awaiting, .events, .answer, .log, .power, .pcm, .heard, .gloaming, .streams, .radio]
      (execPairSourceWrite by_ stream pair word s) := by
  unfold execPairSourceWrite
  exact .next <| .request (fun _ => .step writePair_keeps .refl) .refl

theorem setCorrection_keeps {u c} {s : State} : s.Keeps [.dict] (s.setCorrection u c) := by
  unfold State.setCorrection
  exact .step setNat_keeps <| .step setNum_keeps .refl

theorem setRate_keeps {u rate} {s : State} : s.Keeps [.dict, .streams] (s.setRate u rate) := by
  unfold State.setRate
  exact .step setStream_keeps <| .step setNat_keeps .refl

theorem rateUnsupported_keeps {u rate} {s : State} :
    s.Keeps [.dict, .awaiting, .events, .log, .streams] (s.rateUnsupported u rate) := by
  unfold State.rateUnsupported
  exact .step setStreamState_keeps <| .step setAudioFlag_keeps <| .step setNat_keeps <| .step setStream_keeps <|
    .step setRate_keeps .refl

theorem execStreamIdentify_keeps {stream} {s : State} :
    s.Leads [.dict, .awaiting, .events, .log, .streams] (execStreamIdentify stream s) := by
  unfold execStreamIdentify
  exact .next <| .ite (by
    split
    · exact rateUnsupported_keeps
    · exact .step audioEvent_keeps <| .step setStreamState_keeps <| .step setStream_keeps <| .step setRate_keeps <|
        .step setNat_keeps .refl) .refl

theorem execRateThreshold_keeps {stream} {s : State} :
    s.Leads [.dict, .awaiting, .events, .log, .streams] (execRateThreshold stream s) := by
  unfold execRateThreshold
  exact .next <| .ite (.step audioEvent_keeps <| .step setRate_keeps .refl) .refl

theorem armStream_keeps {u} {s : State} :
    s.Keeps [.dict, .awaiting, .events, .log, .pcm, .heard, .gloaming, .streams] (s.armStream u) := by
  unfold State.armStream
  exact .foldl (fun _ _ => .ite .refl (.step drainPcm_keeps .refl)) (.step setStreamState_keeps <| .step setAll_keeps <|
    .foldl (fun _ _ => .ite (.step setStream_keeps .refl) .refl) (.step setStream_keeps .refl))

theorem refreshFill_keeps {u} {s : State} : s.Keeps [.dict] (s.refreshFill u) := by
  unfold State.refreshFill
  exact setNat_keeps

theorem produce_keeps {u} {s : State} : s.Keeps [.dict, .awaiting, .events, .log, .streams, .iec] (s.produce u) := by
  unfold State.produce
  exact .ite (.ite (.step setAudioFlag_keeps <| .step bump_keeps <| .step setStream_keeps <|
    .step bumpBy_keeps .refl) (.ite (.step bump_keeps <| .step setStream_keeps <|
    .step bumpBy_keeps .refl) (.step refreshFill_keeps <| .step setStream_keeps <|
    .iteThen (.step bumpBy_keeps .refl) (.step update_iec_keeps .refl)))) .refl

theorem execStreamFrameProduce_keeps {stream} {s : State} :
    s.Leads [.dict, .awaiting, .events, .log, .streams, .iec] (execStreamFrameProduce stream s) := by
  unfold execStreamFrameProduce
  exact .next <| .ite (.step produce_keeps .refl) .refl

theorem takeUserBits_keeps {s : State} : s.Keeps [.iec] s.takeUserBits := by
  unfold State.takeUserBits
  exact .ite (.step update_iec_keeps .refl) (.step update_iec_keeps .refl)

theorem putOut_keeps {u} {s : State} : s.Keeps [.streams, .iec] (s.putOut u) := by
  unfold State.putOut
  exact .step setStream_keeps <| .ite (.step update_iec_keeps .refl) .refl

theorem preRoll_keeps {u} {s : State} : s.Keeps [.dict, .awaiting, .events, .log, .streams, .iec] (s.preRoll u) := by
  unfold State.preRoll
  exact .foldl (fun _ _ => .step produce_keeps .refl) .refl

theorem startStreams_keeps {us tg} {s : State} : s.Keeps [.dict, .streams] (s.startStreams us tg) := by
  unfold State.startStreams
  exact .foldl (fun _ _ => .step setCorrection_keeps <| .step setNat_keeps <| .step setNat_keeps <|
    .step setStream_keeps .refl) .refl

theorem playFirst_keeps {u} {s : State} : s.Keeps [.dict, .awaiting, .events, .log, .streams] (s.playFirst u) := by
  unfold State.playFirst
  exact .step setStreamState_keeps <| .step setNat_keeps <| .step setNat_keeps <| .step setStream_keeps .refl

theorem execStreamSoloStart_keeps {stream} {s : State} :
    s.Leads [.dict, .awaiting, .events, .log, .streams, .iec] (execStreamSoloStart stream s) := by
  unfold execStreamSoloStart
  exact .next <| .ite (.foldl (fun _ _ => .step putOut_keeps <| .step playFirst_keeps <|
    .step preRoll_keeps .refl) (.step startStreams_keeps .refl)) .refl

theorem joinStream_keeps {u lead} {s : State} : s.Keeps [.dict, .streams] (s.joinStream u lead) := by
  unfold State.joinStream
  exact .step setCorrection_keeps <| .step setNat_keeps <| .step setNat_keeps <|
    .foldl (fun _ _ => .ite (.step setNat_keeps .refl) .refl) (.step setStream_keeps .refl)

theorem execPortGroupStart_keeps {entry} {s : State} :
    s.Leads [.dict, .awaiting, .events, .launch, .log, .streams, .iec] (execPortGroupStart entry s) := by
  unfold execPortGroupStart
  refine .next ?_
  split
  · exact .refl
  · exact .ite (.step dropFiring_keeps <|
      .foldl (fun _ _ => .step audioEvent_keeps .refl) .refl) (.foldl (fun _ _ => .step preRoll_keeps <|
      .step setStreamState_keeps .refl) (.foldl (fun _ _ => .ite (.step setNat_keeps .refl) .refl) (.step afterFiring_keeps <|
      .step startStreams_keeps <| .foldl (fun _ _ => .step audioEvent_keeps .refl) .refl)))

theorem takeEdge_keeps {u} {s : State} : s.Keeps [.dict, .streams] (s.takeEdge u) := by
  unfold State.takeEdge
  exact .iteThen (.step setStream_keeps .refl) (.step setNat_keeps .refl)

theorem execFrameStartEdge_keeps {stream} {s : State} :
    s.Leads [.dict, .awaiting, .events, .log, .streams, .iec] (execFrameStartEdge stream s) := by
  unfold execFrameStartEdge
  exact .next <| .ite (.step refreshFill_keeps <| .step putOut_keeps <| .iteThen (.iteElse (.step takeEdge_keeps .refl) (.ite (by
    split
    · exact .iteThen (.step setNat_keeps .refl) (.step setStreamState_keeps <| .step setStream_keeps .refl)
    · exact .ite (.step playFirst_keeps .refl) .refl) (.step setNat_keeps .refl))) (.step takeUserBits_keeps <|
        .step update_iec_keeps .refl)) .refl

theorem execRateLoopUpdate_keeps {stream} {s : State} :
    s.Leads [.dict, .awaiting, .events, .log, .streams] (execRateLoopUpdate stream s) := by
  unfold execRateLoopUpdate
  exact .next <| .ite (.iteThen (.foldl (fun _ _ => .step setCorrection_keeps <|
    .step setStream_keeps .refl) (.step setStream_keeps .refl)) (.step setAudioFlag_keeps .refl)) .refl

theorem execGroupMemberRemoved_keeps {stream} {s : State} :
    s.Leads [.dict, .awaiting, .events, .log] (execGroupMemberRemoved stream s) := by
  unfold execGroupMemberRemoved
  refine .next ?_
  extract_lets
  split
  · exact .ite (.step audioEvent_keeps <| .step setNat_keeps <|
      .foldl (fun _ _ => .ite (.step setNat_keeps .refl) .refl) .refl) .refl
  · exact .refl

theorem landHold_keeps {u} {s : State} : s.Keeps [.dict, .awaiting, .events, .log, .streams] (s.landHold u).1 := by
  unfold State.landHold
  extract_lets
  split
  · exact setStream_keeps.mono
  · exact .step setStreamState_keeps <| .step setStream_keeps .refl

theorem clearRing_keeps {u} {s : State} : s.Keeps [.dict, .streams] (s.clearRing u) := by
  unfold State.clearRing
  exact .step refreshFill_keeps <| .step setStream_keeps .refl

theorem leaveGroup_keeps {u} {s : State} : s.Keeps [.dict] (s.leaveGroup u) := by
  unfold State.leaveGroup
  exact .step setNat_keeps <| .foldl (fun _ _ => .ite (.step setNat_keeps .refl) .refl) .refl

theorem finishHold_keeps {u cause verb} {s : State} :
    s.Keeps [.dict, .awaiting, .events, .log, .streams] (s.finishHold u cause verb) := by
  unfold State.finishHold
  exact .step setUState_keeps <| .step setStreamState_keeps <| .step setStream_keeps <| .step leaveGroup_keeps <|
    .step clearRing_keeps .refl

theorem disarmStream_keeps {u} {s : State} : s.Keeps [.dict, .awaiting, .events, .log, .streams] (s.disarmStream u) := by
  unfold State.disarmStream
  exact .step setStreamState_keeps <| .step setStream_keeps <| .step leaveGroup_keeps <| .step clearRing_keeps .refl

theorem execPostRoll_keeps {stream} {s : State} :
    s.Leads [.dict, .awaiting, .events, .log, .streams, .iec] (execPostRoll stream s) := by
  unfold execPostRoll
  exact .next <| .ite (.step putOut_keeps <| .step setStreamState_keeps <| .step setStream_keeps .refl) .refl

theorem execPostRollEnd_keeps {stream} {s : State} :
    s.Leads [.dict, .awaiting, .events, .log, .streams] (execPostRollEnd stream s) := by
  unfold execPostRollEnd
  exact .next <| .ite (.ite (.step finishHold_keeps .refl) (.step setStreamState_keeps <| .step setStream_keeps <|
    .step setNat_keeps <| .step clearRing_keeps .refl)) .refl

theorem execUnderrun_keeps {stream} {s : State} :
    s.Leads [.dict, .awaiting, .events, .log, .streams, .iec] (execUnderrun stream s) := by
  unfold execUnderrun
  exact .next <| .ite (.step putOut_keeps <| .step setAudioFlag_keeps <| .step bump_keeps <| .step setStreamState_keeps <|
    .step setStream_keeps .refl) .refl

theorem execReEntry_keeps {stream} {s : State} :
    s.Leads [.dict, .awaiting, .events, .log, .streams, .iec] (execReEntry stream s) := by
  unfold execReEntry
  exact .next <| .ite (.step putOut_keeps <| .step setStreamState_keeps <| .step setStream_keeps .refl) .refl

theorem loseClock_keeps {u} {s : State} : s.Keeps [.dict, .awaiting, .events, .log, .streams] (s.loseClock u) := by
  unfold State.loseClock
  exact .ite (.step finishHold_keeps <| .step setStream_keeps <| .step bump_keeps <| .step setAudioFlag_keeps <|
    .step clearRing_keeps .refl) (.step setStreamState_keeps <| .step setStream_keeps <| .step bump_keeps <|
    .step setAudioFlag_keeps <| .step clearRing_keeps .refl)

theorem execClockLost_keeps {stream} {s : State} :
    s.Leads [.dict, .awaiting, .events, .log, .streams] (execClockLost stream s) := by
  unfold execClockLost
  exact .next <| .ite (.step loseClock_keeps .refl) .refl

theorem execClockReturn_keeps {stream} {s : State} :
    s.Leads [.dict, .awaiting, .events, .log, .streams] (execClockReturn stream s) := by
  unfold execClockReturn
  exact .next <| .ite (by
    split
    · exact rateUnsupported_keeps
    · extract_lets
      split
      · exact .step setStreamState_keeps <| .step bumpBy_keeps <| .step joinStream_keeps <| .step setStream_keeps <|
          .step audioEvent_keeps <| .step setRate_keeps <| .step setNat_keeps .refl
      · exact .step setStreamState_keeps <| .step setStream_keeps <| .step setStream_keeps <| .step audioEvent_keeps <|
          .step setRate_keeps <| .step setNat_keeps .refl) .refl

theorem execGlitch_keeps {stream} {s : State} : s.Leads [.dict, .awaiting, .events, .log, .streams] (execGlitch stream s) := by
  unfold execGlitch
  exact .next <| .ite (.ite (.step loseClock_keeps <| .iteThen (.step setAudioFlag_keeps <| .step setStream_keeps <|
    .step bump_keeps .refl) (.step audioEvent_keeps .refl)) (.iteThen (.step setAudioFlag_keeps <| .step setStream_keeps <|
    .step bump_keeps .refl) (.step audioEvent_keeps .refl))) .refl

theorem execRateChange_keeps {stream} {s : State} :
    s.Leads [.dict, .awaiting, .events, .log, .streams, .iec] (execRateChange stream s) := by
  unfold execRateChange
  exact .next <| .ite (.step putOut_keeps <| .step setStreamState_keeps <| .step setStream_keeps <| .step setAudioFlag_keeps <|
    .step audioEvent_keeps <| .step setNat_keeps .refl) .refl

theorem execChannelStatusWrite_keeps {by_ block} {s : State} :
    s.Leads [.dict, .awaiting, .events, .answer, .log, .power, .radio] (execChannelStatusWrite by_ block s) := by
  unfold execChannelStatusWrite
  exact .next <| .request (fun _ => .accept (.step setBytes_keeps .refl)) .refl

theorem sendPacket_keeps {kind system id text old} {s : State} : s.Keeps [.iec] (s.sendPacket kind system id text old) := by
  unfold State.sendPacket
  exact update_iec_keeps

theorem execUserDataPacket_keeps {s : State} : s.Leads [.iec] (execUserDataPacket s) := by
  unfold execUserDataPacket
  exact .next <| .ite (.ite (.step update_iec_keeps <| .step sendPacket_keeps <| .step update_iec_keeps .refl) (by
    extract_lets
    split
    · exact update_iec_keeps
    · exact .step update_iec_keeps <| .step sendPacket_keeps <| .step update_iec_keeps .refl
    · exact .step update_iec_keeps <| .step sendPacket_keeps <| .step update_iec_keeps .refl
    · exact .ite (.step update_iec_keeps <| .step sendPacket_keeps <|
        .step update_iec_keeps .refl) (.ite (.step update_iec_keeps <| .step sendPacket_keeps <|
        .step update_iec_keeps .refl) (.ite (.step update_iec_keeps <| .step sendPacket_keeps <|
        .step update_iec_keeps .refl) (.step update_iec_keeps <| .step sendPacket_keeps <| .step update_iec_keeps .refl))))) .refl

theorem commitAudio_keeps {u} {s : State} : s.Keeps [.committed, .streams] (s.commitAudio u) := by
  unfold State.commitAudio
  exact .step setStream_keeps <| .step commitKeys_keeps .refl

theorem releaseAudio_keeps {u} {s : State} : s.Keeps [.dict, .awaiting, .events, .log, .streams] (s.releaseAudio u) := by
  unfold State.releaseAudio
  exact .step setStreamState_keeps <| .step setStream_keeps <| .step leaveGroup_keeps <| .step clearRing_keeps .refl

theorem enrol_keeps {channel airtime isAck} {s : State} : s.Keeps [.link] (s.enrol channel airtime isAck).2 := by
  unfold State.enrol
  extract_lets
  split
  · exact update_link_keeps
  · split
    · exact update_link_keeps
    · exact .step update_link_keeps <| .step update_link_keeps .refl

theorem giveBack_keeps {channel airtime} {s : State} : s.Keeps [.link] (s.giveBack channel airtime) := by
  unfold State.giveBack
  exact update_link_keeps

theorem setRadio_keeps {new} {s : State} : s.Keeps [.dict, .radio] (s.setRadio new) := by
  unfold State.setRadio
  exact .step setNat_keeps <| .step update_radio_keeps .refl

theorem moveRadio_keeps {new same} {s : State} : s.Keeps [.dict, .radio] (s.moveRadio new same) := by
  unfold State.moveRadio
  exact .step update_radio_keeps <| .step setRadio_keeps .refl

theorem paTemperature_keeps {t} {s : State} : s.Keeps [.radio] (s.paTemperature t) := by
  unfold State.paTemperature
  exact .foldl (fun _ _ => .ite (.step update_radio_keeps .refl) .refl) .refl

theorem retuneTap_keeps {hz t} {s : State} : s.Keeps [.launch] (s.retuneTap hz t) := by
  unfold State.retuneTap
  exact .ite (.foldl (fun _ _ => .ite (by
    split
    · exact setEntry_keeps
    · exact .refl) .refl) .refl) .refl

theorem wakeResult_keeps {code start sent} {s : State} :
    s.Keeps [.dict, .awaiting, .events, .log] (s.wakeResult code start sent) := by
  unfold State.wakeResult
  exact issuePaired_keeps

theorem endWake_keeps {w start sent} {s : State} :
    s.Keeps [.dict, .awaiting, .events, .log, .radio] (s.endWake w start sent) := by
  unfold State.endWake
  exact .step wakeResult_keeps <| .step setNat_keeps <| .step update_radio_keeps <| .ite (.step moveRadio_keeps .refl) .refl

theorem endFrame_keeps {handle status} {s : State} : s.Keeps [.link] (s.endFrame handle status) := by
  unfold State.endFrame
  exact update_link_keeps

theorem refuseFrame_keeps {handle code} {s : State} : s.Keeps [.dict, .link] (s.refuseFrame handle code) := by
  unfold State.refuseFrame
  exact .step bump_keeps <| .step endFrame_keeps .refl

theorem execRadioTransition_keeps {target hz} {s : State} :
    s.Leads [.dict, .launch, .radio, .link] (execRadioTransition target hz s) := by
  unfold execRadioTransition
  refine .next ?_
  extract_lets
  split
  · exact .refl
  · exact .ite .refl (.ite (.ite .refl (.iteElse (.step setNat_keeps <| .step moveRadio_keeps .refl) (.step retuneTap_keeps <|
      .step update_radio_keeps .refl))) (.ite (.ite (.step setNat_keeps <| .step moveRadio_keeps <|
      .ite (.step bump_keeps .refl) .refl) (by
      split
      · exact .refl
      · exact .ite (.step setNat_keeps <| .step moveRadio_keeps <|
          .ite (.step bump_keeps .refl) .refl) (.ite (.step refuseFrame_keeps <| .step setEntry_keeps <|
          .step enrol_keeps .refl) (.step setNat_keeps <| .step moveRadio_keeps <| .iteThen (.step update_link_keeps <|
          .step enrol_keeps .refl) (.step bump_keeps .refl))))) (.step moveRadio_keeps .refl)))

theorem execSynthUnlock_keeps {s : State} : s.Leads [.dict, .awaiting, .events, .log, .radio, .link] (execSynthUnlock s) := by
  unfold execSynthUnlock
  exact .next <| .ite (.step raise_keeps <| .step bump_keeps <| .iteElse (.ite (by
    extract_lets
    split
    · split
      · exact .step endWake_keeps <| .step moveRadio_keeps <| .step update_radio_link_keeps <| by
          split
          · exact endFrame_keeps.mono
          · exact .refl
      · exact .step moveRadio_keeps <| .step update_radio_link_keeps <| by
          split
          · exact endFrame_keeps.mono
          · exact .refl
    · exact .step moveRadio_keeps <| .step update_radio_link_keeps <| by
        split
        · exact endFrame_keeps.mono
        · exact .refl) (.step update_radio_keeps <| by
    split
    · exact endFrame_keeps.mono
    · exact .refl)) (.step update_radio_keeps .refl)) .refl

theorem execCalibrationStart_keeps {s : State} : s.Leads [.dict, .radio] (execCalibrationStart s) := by
  unfold execCalibrationStart
  refine .next ?_
  split
  · exact .refl
  · exact .ite (.step update_radio_keeps <| .ite (.step moveRadio_keeps .refl) .refl) .refl

theorem offsetDrive_keeps {s : State} : s.Keeps [.radio] s.offsetDrive := by
  unfold State.offsetDrive
  exact update_radio_keeps

theorem execCalibrationComplete_keeps {s : State} : s.Leads [.dict, .radio] (execCalibrationComplete s) := by
  unfold execCalibrationComplete
  refine .next ?_
  split
  · exact .refl
  · exact .ite (.iteThen (.iteThen (.step setNat_keeps <| .step setNat_keeps <| .step bump_keeps <|
      .step update_radio_keeps .refl) (.step offsetDrive_keeps .refl)) (.step moveRadio_keeps .refl)) .refl

theorem abortCalibration_keeps {s : State} : s.Keeps [.dict, .radio] s.abortCalibration := by
  unfold State.abortCalibration
  split
  · exact .refl
  · exact .step bump_keeps <| .step update_radio_keeps .refl

theorem execCalibrationAbort_keeps {s : State} : s.Leads [.dict, .radio] (execCalibrationAbort s) := by
  unfold execCalibrationAbort
  refine .next ?_
  split
  · exact .refl
  · exact .ite (.step abortCalibration_keeps .refl) .refl

theorem execCalibrationOverdue_keeps {calibration} {s : State} :
    s.Leads [.dict, .awaiting, .events, .log] (execCalibrationOverdue calibration s) := by
  unfold execCalibrationOverdue
  refine .next ?_
  split
  · exact .refl
  · exact .ite (.step raise_keeps <| .step setNat_keeps .refl) .refl

theorem countChosen_keeps {old new} {s : State} : s.Keeps [.dict] (s.countChosen old new) := by
  unfold State.countChosen
  refine .ite .refl ?_
  extract_lets t
  have ht : s.Keeps [.dict] t := by
    unfold t
    split
    · exact setNat_keeps
    · exact .refl
  split
  · exact .step bump_keeps ht
  · exact ht

theorem addCopy_keeps {c} {s : State} : s.Keeps [.dict, .link] (s.addCopy c) := by
  unfold State.addCopy
  exact .ite .refl (.step countChosen_keeps <| .step update_link_keeps .refl)

theorem execNarrowbandFrame_keeps {sfd last phr psdu plain rssi snr} {s : State} :
    s.Leads [.dict, .radio, .link] (execNarrowbandFrame sfd last phr psdu plain rssi snr s) := by
  unfold execNarrowbandFrame
  exact .next <| .ite (.ite (.step bump_keeps <| by
    split
    · exact .iteThen (.step update_radio_keeps .refl) (.step update_radio_keeps .refl)
    · exact .step update_radio_keeps .refl) (.iteElse (.step bump_keeps <| by
    split
    · exact .iteThen (.step update_radio_keeps .refl) (.step update_radio_keeps .refl)
    · exact .step update_radio_keeps .refl) (.step addCopy_keeps .refl))) .refl

theorem execTapCopy_keeps {path sfd last phr psdu plain rssi lq} {s : State} :
    s.Leads [.dict, .paths, .link] (execTapCopy path sfd last phr psdu plain rssi lq s) := by
  unfold execTapCopy
  exact .next <| .ite (.iteElse (.step tapEnds_keeps .refl) (.step addCopy_keeps .refl)) .refl

theorem execPreambleDetected_keeps {source sfd length} {s : State} :
    s.Leads [.paths, .radio] (execPreambleDetected source sfd length s) := by
  unfold execPreambleDetected
  exact .next <| .ite (.ite (.step update_radio_keeps .refl) .refl) (.ite (.step setPath_keeps .refl) .refl)

theorem wakeRequest_keeps {b} {s : State} : s.Keeps [.dict, .awaiting, .events, .log, .radio, .link] (s.wakeRequest b) := by
  unfold State.wakeRequest
  exact .ite (.step wakeResult_keeps .refl) (.ite (.step wakeResult_keeps .refl) (.ite (.step wakeResult_keeps .refl) (by
    extract_lets
    split
    · exact wakeResult_keeps.mono
    · exact .ite (.step wakeResult_keeps .refl) (.ite (.step wakeResult_keeps .refl) (.step setNat_keeps <| .step setAll_keeps <|
        .step update_radio_keeps <| .step await_keeps <| .step enrol_keeps .refl)))))

theorem execWakeRequest_keeps {by_ body} {s : State} :
    s.Leads [.dict, .awaiting, .held, .events, .answer, .log, .power, .radio, .link] (execWakeRequest by_ body s) := by
  unfold execWakeRequest
  exact .next <| .request (fun _ => .pairedBusy (fun _ => .step wakeRequest_keeps .refl) .refl) .refl

theorem tickWake_keeps {s : State} : s.Keeps [.dict, .awaiting, .events, .log, .radio] s.tickWake := by
  unfold State.tickWake
  split
  · exact .refl
  · split
    · exact .ite (.step update_radio_keeps <| .step setAll_keeps <| .step moveRadio_keeps <|
        .ite (.step bump_keeps .refl) .refl) .refl
    · exact .ite (.step endWake_keeps .refl) .refl

theorem testResult_keeps {t} {s : State} : s.Keeps [.dict, .awaiting, .events, .log] (s.testResult t) := by
  unfold State.testResult
  exact issuePaired_keeps

theorem radioTest_keeps {b} {s : State} : s.Keeps [.dict, .awaiting, .events, .log, .radio] (s.radioTest b) := by
  unfold State.radioTest
  exact .ite (.step issuePaired_keeps .refl) (.ite (.step testResult_keeps <| .step moveRadio_keeps <|
    .step update_radio_keeps .refl) (.step testResult_keeps <| by
    split
    · exact .iteElse (.step setNat_keeps <| .step moveRadio_keeps <| .step update_radio_keeps .refl) (.step setAll_keeps .refl)
    · exact .step setNat_keeps <| .step moveRadio_keeps <| .step update_radio_keeps .refl))

theorem execRadioTest_keeps {by_ body} {s : State} :
    s.Leads [.dict, .awaiting, .held, .events, .answer, .log, .power, .radio] (execRadioTest by_ body s) := by
  unfold execRadioTest
  exact .next <| .request (fun _ => .pairedBusy (fun _ => .step radioTest_keeps .refl) .refl) .refl

theorem setNode_keeps {i n} {s : State} : s.Keeps [.mesh] (s.setNode i n) := by
  unfold State.setNode
  exact update_mesh_keeps

theorem recordFrame_keeps {f} {s : State} : s.Keeps [.link, .mesh] (s.recordFrame f) := by
  unfold State.recordFrame
  extract_lets
  split
  · exact setNode_keeps.mono
  · exact .ite .refl (.step update_link_keeps .refl)
  · exact .refl

theorem oweAck_keeps {c nack} {s : State} : s.Keeps [.link] (s.oweAck c nack) := by
  unfold State.oweAck
  exact .ite (.step update_link_keeps .refl) .refl

theorem listenOn_keeps {last} {s : State} : s.Keeps [.link] (s.listenOn last) := by
  unfold State.listenOn
  exact update_link_keeps

theorem takeReception_keeps {s : State} : s.Keeps [.link] s.takeReception := by
  unfold State.takeReception
  exact update_link_keeps

theorem execLinkFrameReceive_keeps {s : State} : s.Leads [.dict, .radio, .link, .mesh] (execLinkFrameReceive s) := by
  unfold execLinkFrameReceive
  refine .next ?_
  split
  · exact .refl
  · exact .ite .refl (.ite (.step bump_keeps <| .step takeReception_keeps .refl) (.ite (.step bump_keeps <|
      .step takeReception_keeps .refl) (.ite (.step bump_keeps <| .step oweAck_keeps <|
      .step takeReception_keeps .refl) (.ite (.step bump_keeps <| .step takeReception_keeps .refl) (.ite (.step bump_keeps <|
      .step oweAck_keeps <|
      .iteThen (.step takeReception_keeps .refl) (.step listenOn_keeps .refl)) (.step update_radio_mesh_keeps <|
      .step bump_keeps <| .step recordFrame_keeps <| .step oweAck_keeps <|
      .iteThen (.step takeReception_keeps .refl) (.step listenOn_keeps .refl)))))))

theorem ackSend_keeps {s : State} : s.Keeps [.dict, .radio, .link] (ackSend s).1 := by
  unfold ackSend
  split
  · exact .refl
  · split
    · exact .refl
    · extract_lets
      split
      · exact .step bump_keeps <| .iteThen (.step update_link_keeps .refl) (.step moveRadio_keeps .refl)
      · split
        · exact .step bump_keeps <| .iteThen (.step update_link_keeps <| .step enrol_keeps .refl) (.step moveRadio_keeps .refl)
        · split
          · exact .refl
          · exact .step bump_keeps <| .step bump_keeps <| .step setAll_keeps <| .step update_radio_keeps <|
              .step update_link_keeps <| .step enrol_keeps .refl

theorem execAckReceive_keeps {s : State} : s.Leads [.dict, .link] (execAckReceive s) := by
  unfold execAckReceive
  refine .next ?_
  split
  · exact .refl
  · split
    · exact .refl
    · exact .ite .refl (.step update_link_keeps <| .iteThen (.step bump_keeps <|
        .step takeReception_keeps .refl) (.step listenOn_keeps .refl))

theorem execAckWaitExpiry_keeps {handle} {s : State} : s.Leads [.dict, .link] (execAckWaitExpiry handle s) := by
  unfold execAckWaitExpiry
  refine .next ?_
  split
  · exact .refl
  · exact .ite .refl (.ite (.step update_link_keeps <| .step bump_keeps .refl) (.step endFrame_keeps <| .step bump_keeps .refl))

theorem copySelectionEnd_keeps {sfd} {s : State} : s.Keeps [.dict, .link] (copySelectionEnd sfd s).1 := by
  unfold copySelectionEnd
  split
  · exact .refl
  · extract_lets
    split
    · exact .step bump_keeps <| .step update_link_keeps .refl
    · exact update_link_keeps.mono

theorem handFrame_keeps {f} {s : State} : s.Keeps [.link] (s.handFrame f) := by
  unfold State.handFrame
  exact update_link_keeps

theorem putFrame_keeps {f} {s : State} : s.Keeps [.link] (s.putFrame f) := by
  unfold State.putFrame
  exact update_link_keeps

theorem number_keeps {f} {s : State} : s.Keeps [.dict, .link] (s.number f).2 := by
  unfold State.number
  exact .iteThen (.step update_link_keeps .refl) (.step setNat_keeps .refl)

theorem beginTry_keeps {f} {s : State} : s.Keeps [.freeCtr, .dict, .link] (s.beginTry f) := by
  unfold State.beginTry
  split
  · exact endFrame_keeps.mono
  · exact .ite (.step refuseFrame_keeps <| .step enrol_keeps .refl) (.step putFrame_keeps <| .step fresh_keeps <|
      .step enrol_keeps .refl)

theorem execImmediateFrame_keeps {s : State} : s.Leads [.freeCtr, .dict, .link] (execImmediateFrame s) := by
  unfold execImmediateFrame
  refine .next ?_
  split
  · exact .refl
  · exact .ite .refl (.step beginTry_keeps <| .step putFrame_keeps <| .step number_keeps .refl)

theorem execFrameRetry_keeps {handle} {s : State} : s.Leads [.freeCtr, .dict, .link] (execFrameRetry handle s) := by
  unfold execFrameRetry
  refine .next ?_
  split
  · exact .ite (.step beginTry_keeps <| .step bump_keeps .refl) .refl
  · exact .refl

theorem tickBackoff_keeps {s : State} : s.Keeps [.link] s.tickBackoff := by
  unfold State.tickBackoff
  exact .ite (.step update_link_keeps .refl) .refl

theorem execBackoffExpiry_keeps {handle} {s : State} : s.Leads [.link] (execBackoffExpiry handle s) := by
  unfold execBackoffExpiry
  refine .next ?_
  split
  · exact .ite (.step putFrame_keeps .refl) .refl
  · exact .refl

theorem sendFrame_keeps {f t} {s : State} : s.Keeps [.dict, .radio, .link] (s.sendFrame f t) := by
  unfold State.sendFrame
  exact .step putFrame_keeps <| .iteThen (.step bumpBy_keeps <| .step setAll_keeps <|
    .step update_radio_keeps .refl) (.step bump_keeps .refl)

theorem execCcaEnd_keeps {handle rssi preamble} {s : State} :
    s.Leads [.freeCtr, .dict, .launch, .radio, .link] (execCcaEnd handle rssi preamble s) := by
  unfold execCcaEnd
  refine .next ?_
  split
  · exact .ite .refl (.ite (.step sendFrame_keeps <| .step moveRadio_keeps .refl) (.ite (.step bump_keeps <|
      .step endFrame_keeps <| .step giveBack_keeps <| .step bump_keeps .refl) (.step putFrame_keeps <| .step fresh_keeps <|
      .step bump_keeps .refl)))
  · split
    · exact .ite .refl (.ite (.step bump_keeps <| .step bump_keeps <| .step endFrame_keeps <|
        .step setEntry_keeps .refl) (.ite (.step refuseFrame_keeps <| .step setEntry_keeps <|
        .step enrol_keeps .refl) (.step moveRadio_keeps <| .step putFrame_keeps <| .step enrol_keeps .refl)))
    · exact .refl
  · exact .refl

theorem placeEntry_keeps {n kind target owner lead instant param} {s : State} :
    s.Keeps [.dict, .awaiting, .events, .launch, .log] (s.placeEntry n kind target owner lead instant param) := by
  unfold State.placeEntry
  exact .iteThen (.step setEntry_keeps .refl) (.step raise_keeps <| .step bump_keeps .refl)

theorem execScheduledFrame_keeps {s : State} :
    s.Leads [.dict, .awaiting, .events, .launch, .log, .link] (execScheduledFrame s) := by
  unfold execScheduledFrame
  refine .next ?_
  split
  · exact .refl
  · exact .ite .refl (.ite (.step endFrame_keeps .refl) (by
      extract_lets
      split
      · exact .step bump_keeps <| .step endFrame_keeps .refl
      · exact .step placeEntry_keeps <| .step putFrame_keeps <| .step number_keeps .refl))

theorem execMeshTx_keeps {entry} {s : State} :
    s.Leads [.dict, .awaiting, .events, .launch, .log, .radio, .link] (execMeshTx entry s) := by
  unfold execMeshTx
  refine .next ?_
  split
  · exact .refl
  · exact .ite .refl (by
      split
      · exact dropFiring_keeps.mono
      · exact .ite (.step dropFiring_keeps .refl) (.ite (.step afterFiring_keeps <| .step bump_keeps <| .step endFrame_keeps <|
          .step putFrame_keeps <|
          .iteThen (.ite (.step giveBack_keeps .refl) .refl) (.step moveRadio_keeps .refl)) (.ite .refl
          (.step afterFiring_keeps <| .step sendFrame_keeps <| .ite (.step bump_keeps .refl) .refl))))

theorem execFrameCounterRecord_keeps {s : State} : s.Leads [.flash] (execFrameCounterRecord s) := by
  unfold execFrameCounterRecord
  exact .next <| .ite (.step update_flash_keeps .refl) .refl

theorem linkEffect_keeps {key} {s : State} : s.Keeps [.dict, .link] (s.linkEffect key) := by
  unfold State.linkEffect
  split
  · exact .step update_link_keeps <| .step setAll_keeps <| .step setNat_keeps .refl
  · exact update_link_keeps.mono
  · exact update_link_keeps.mono
  · exact update_link_keeps.mono
  · exact update_link_keeps.mono
  · exact update_link_keeps.mono
  · exact update_link_keeps.mono
  · exact .refl

theorem handVoussoir_keeps {f} {s : State} : s.Keeps [.link, .mesh] (s.handVoussoir f) := by
  unfold State.handVoussoir
  exact .step update_mesh_keeps <| .step handFrame_keeps .refl

theorem pumpNode_keeps {i} {s : State} : s.Keeps [.link, .mesh] (s.pumpNode i) := by
  unfold State.pumpNode
  extract_lets
  split
  · exact .ite (.step handVoussoir_keeps <| .step setNode_keeps .refl) .refl
  · exact .refl

theorem cancelFrames_keeps {i} {s : State} : s.Keeps [.launch, .link, .mesh] (s.cancelFrames i) := by
  unfold State.cancelFrames
  exact .iteElse (.foldl (fun _ _ => by
      split
      · exact .ite (.step setEntry_keeps .refl) .refl
      · exact .refl) (.step update_link_keeps .refl)) (.step setNode_keeps .refl)

theorem completeDownlink_keeps {handle status route tries sfd} {s : State} :
    s.Keeps [.fifos] (s.completeDownlink handle status route tries sfd) := by
  unfold State.completeDownlink
  exact .ite .refl (.step pushFifo_keeps .refl)

theorem dropDownlink_keeps {i handle} {s : State} : s.Keeps [.mesh] (s.dropDownlink i handle) := by
  unfold State.dropDownlink
  exact setNode_keeps

theorem removeNode_keeps {i} {s : State} :
    s.Keeps [.dict, .committed, .fifos, .launch, .flash, .link, .mesh] (s.removeNode i) := by
  unfold State.removeNode
  exact .ite .refl (.step update_flash_keeps <| .step setNode_keeps <| .step setNat_keeps <| .step clearKeys_keeps <|
    .foldl (fun _ _ => .step completeDownlink_keeps .refl) (.step cancelFrames_keeps .refl))

theorem execVoussoirFrame_keeps {s : State} : s.Leads [.dict, .launch, .link, .mesh] (execVoussoirFrame s) := by
  unfold execVoussoirFrame
  refine .next ?_
  split
  · exact .refl
  · exact .ite .refl (.ite (.step bump_keeps <| .step update_mesh_keeps .refl) (.ite (.step bump_keeps <|
      .step update_mesh_keeps .refl) (.ite (.step bump_keeps <| .step update_mesh_keeps <|
      .step update_mesh_keeps .refl) (.iteThen (by
      extract_lets
      split
      · exact .step bump_keeps <| .step update_mesh_keeps <| .step update_mesh_keeps .refl
      · exact .iteThen (.step setNode_keeps <| .step bump_keeps <| .step update_mesh_keeps <|
          .step update_mesh_keeps .refl) (.step cancelFrames_keeps .refl)) (.step update_mesh_keeps .refl)))))

theorem takeWork_keeps {kind w} {s t : State} (h : s.takeWork kind = some (w, t)) : s.Keeps [.mesh] t := by
  unfold State.takeWork at h
  split at h
  · split at h
    · cases h
      exact update_mesh_keeps
    · cases h
  · cases h

theorem rememberNode_keeps {i} {s : State} : s.Keeps [.flash] (s.rememberNode i) := by
  unfold State.rememberNode
  exact update_flash_keeps

theorem execJoinRequest_keeps {s : State} : s.Leads [.flash, .link, .mesh] (execJoinRequest s) := by
  unfold execJoinRequest
  refine .next ?_
  split
  · exact .refl
  · rename_i w t h
    refine .trans (.step (takeWork_keeps h) .refl) ?_
    split
    · exact .step update_link_mesh_keeps <| .ite (.step rememberNode_keeps <| .step setNode_keeps .refl) .refl
    · exact .refl

theorem execJoinResponse_keeps {s : State} : s.Leads [.link, .mesh] (execJoinResponse s) := by
  unfold execJoinResponse
  refine .next ?_
  split
  · exact .refl
  · exact .ite .refl (.step update_link_mesh_keeps <| .step handVoussoir_keeps .refl)

theorem execAckSend_keeps {s : State} : s.Leads [.dict, .launch, .radio, .link, .mesh] (execAckSend s) := by
  unfold execAckSend
  refine .next ?_
  extract_lets
  split
  · exact ackSend_keeps.mono
  · exact .iteElse (.step ackSend_keeps .refl) (by
      split
      · exact update_mesh_keeps.mono
      · exact .ite (by
          extract_lets
          split
          · exact cancelFrames_keeps.mono
          · exact .step handVoussoir_keeps <| .step setNode_keeps <| .step cancelFrames_keeps .refl) .refl
      · exact .refl)

theorem execLeave_keeps {s : State} : s.Leads [.dict, .committed, .fifos, .launch, .flash, .link, .mesh] (execLeave s) := by
  unfold execLeave
  refine .next ?_
  split
  · exact .refl
  · rename_i w t h
    exact .trans (.step (takeWork_keeps h) .refl) <| .ite (.step removeNode_keeps .refl) .refl

theorem execReadings_keeps {s : State} : s.Leads [.dict, .mesh] (execReadings s) := by
  unfold execReadings
  refine .next ?_
  split
  · exact .refl
  · rename_i w t h
    exact .trans (.step (takeWork_keeps h) .refl) <| .ite .refl (.iteElse (.step setAll_keeps <|
      .foldl (fun _ _ => .step setNum_keeps .refl) .refl) (.step setNode_keeps .refl))

theorem execRendezvous_keeps {index} {s : State} : s.Leads [.link, .mesh] (execRendezvous index s) := by
  unfold execRendezvous
  refine .next ?_
  extract_lets
  split
  · exact .ite .refl (.step handVoussoir_keeps <| .step setNode_keeps .refl)
  · exact .refl

theorem execRendezvousMiss_keeps {index} {s : State} : s.Leads [.dict, .mesh] (execRendezvousMiss index s) := by
  unfold execRendezvousMiss
  refine .next ?_
  extract_lets
  split
  · exact .refl
  · exact .step bump_keeps <| .step setNode_keeps .refl

theorem sendTrain_keeps {i d} {s : State} : s.Keeps [.dict, .link, .mesh] (s.sendTrain i d) := by
  unfold State.sendTrain
  exact .step bump_keeps <| .step handVoussoir_keeps <| .step setNode_keeps .refl

theorem execWakeTrain_keeps {index} {s : State} : s.Leads [.dict, .link, .mesh] (execWakeTrain index s) := by
  unfold execWakeTrain
  refine .next ?_
  extract_lets
  split
  · exact .ite (.step sendTrain_keeps .refl) .refl
  · exact .refl

theorem execWakeTrainRetry_keeps {index} {s : State} : s.Leads [.dict, .link, .mesh] (execWakeTrainRetry index s) := by
  unfold execWakeTrainRetry
  refine .next ?_
  extract_lets
  split
  · exact .ite (.step sendTrain_keeps .refl) .refl
  · exact .refl

theorem settleDownlink_keeps {i handle f sfd} {s : State} : s.Keeps [.fifos, .mesh] (s.settleDownlink i handle f sfd) := by
  unfold State.settleDownlink
  exact .ite (.step completeDownlink_keeps <| .step dropDownlink_keeps <|
    .step setNode_keeps .refl) (.ite (.step completeDownlink_keeps <| .step dropDownlink_keeps <|
    .step setNode_keeps .refl) (.ite (.ite (.step setNode_keeps .refl) (.ite (.step setNode_keeps .refl)
    (.step completeDownlink_keeps <| .step dropDownlink_keeps <|
    .step setNode_keeps .refl))) (.ite (.step setNode_keeps .refl) (.step setNode_keeps .refl))))

theorem execTransmitReport_keeps {s : State} : s.Leads [.fifos, .flash, .link, .mesh] (execTransmitReport s) := by
  unfold execTransmitReport
  refine .next ?_
  split
  · exact .refl
  · exact .iteElse (.step update_link_keeps .refl) (.step pumpNode_keeps <| by
      split
      · exact .step settleDownlink_keeps <| .step setNode_keeps .refl
      · exact .step settleDownlink_keeps <| .step setNode_keeps .refl
      · exact .iteThen (.step setNode_keeps .refl) (.step rememberNode_keeps .refl)
      · exact .step setNode_keeps .refl)

theorem execCopySelectionEnd_keeps {sfd} {s : State} : s.Leads [.dict, .link, .mesh] (execCopySelectionEnd sfd s) := by
  unfold execCopySelectionEnd
  refine .next ?_
  extract_lets
  split
  · exact copySelectionEnd_keeps.mono
  · split
    · exact copySelectionEnd_keeps.mono
    · split
      · exact .step setNode_keeps <| .step copySelectionEnd_keeps .refl
      · exact copySelectionEnd_keeps.mono

theorem execPhaseGate_keeps {index} {s : State} : s.Leads [.link, .mesh] (execPhaseGate index s) := by
  unfold execPhaseGate
  exact .next <| .ite (.step pumpNode_keeps <| .step setNode_keeps .refl) .refl

theorem downlink_keeps {b} {s : State} : s.Keeps [.dict, .awaiting, .events, .log, .link, .mesh] (s.downlink b) := by
  unfold State.downlink
  extract_lets
  split
  · exact issuePaired_keeps.mono
  · exact .ite (.step issuePaired_keeps .refl) (.ite (.step issuePaired_keeps .refl) (.ite (.step issuePaired_keeps .refl)
      (.step issuePaired_keeps <| .step pumpNode_keeps <| .step setNode_keeps <| .step update_mesh_keeps .refl)))

theorem execDownlink_keeps {by_ body} {s : State} :
    s.Leads [.dict, .awaiting, .events, .answer, .log, .power, .radio, .link, .mesh] (execDownlink by_ body s) := by
  unfold execDownlink
  exact .next <| .request (fun _ => .accept (.step downlink_keeps .refl)) .refl

theorem execDownlinkExpiry_keeps {handle} {s : State} :
    s.Leads [.dict, .fifos, .launch, .link, .mesh] (execDownlinkExpiry handle s) := by
  unfold execDownlinkExpiry
  refine .next ?_
  extract_lets
  split
  · exact .refl
  · extract_lets
    split
    · exact .ite .refl (.step bump_keeps <| .step completeDownlink_keeps <| .step dropDownlink_keeps <|
        .ite (.step cancelFrames_keeps .refl) .refl)
    · exact .refl

theorem nodeCommand_keeps {body} {s : State} :
    s.Keeps [.dict, .committed, .fifos, .launch, .flash, .link, .mesh] (s.nodeCommand body).1 := by
  unfold State.nodeCommand
  split
  · exact .refl
  · split
    · exact removeNode_keeps
    · exact .refl

theorem execNodeRemove_keeps {by_ body} {s : State} : s.Leads running (execNodeRemove by_ body s) := by
  unfold execNodeRemove
  exact .next <| .request (fun _ => .step nodeCommand_keeps .refl) .refl

theorem execAbsentTimeout_keeps {index} {s : State} :
    s.Leads [.dict, .committed, .fifos, .launch, .flash, .link, .mesh] (execAbsentTimeout index s) := by
  unfold execAbsentTimeout
  exact .next <| .ite (.ite (.step removeNode_keeps .refl) (.step setNode_keeps .refl)) .refl

theorem execJoiningCountdown_keeps {s : State} : s.Leads [.dict] (execJoiningCountdown s) := by
  unfold execJoiningCountdown
  exact .next <| .ite (.step setNat_keeps .refl) .refl

theorem execNodeCounterRecord_keeps {index} {s : State} : s.Leads [.flash] (execNodeCounterRecord index s) := by
  unfold execNodeCounterRecord
  exact .next <| .ite (.step update_flash_keeps .refl) .refl

theorem disturbChain_keeps {n} {s : State} : s.Keeps [.dict, .awaiting, .events, .log, .gloaming] (s.disturbChain n) := by
  unfold State.disturbChain
  exact .ite .refl (.step disturb_keeps .refl)

theorem execChainRetune_keeps {entry} {s : State} :
    s.Leads [.dict, .awaiting, .events, .launch, .log, .chains, .captures, .gloaming] (execChainRetune entry s) := by
  unfold execChainRetune
  refine .next ?_
  split
  · exact .refl
  · exact .ite (.foldl (fun _ _ => .ite (.step disturbChain_keeps <|
      .step retuneChain_keeps .refl) .refl) (.step afterFiring_keeps .refl)) (.step dropFiring_keeps .refl)

theorem execAntennaSwitch_keeps {entry} {s : State} :
    s.Leads [.dict, .awaiting, .events, .launch, .log, .paths, .plumb, .chains, .captures] (execAntennaSwitch entry s) := by
  unfold execAntennaSwitch
  refine .next ?_
  split
  · exact .refl
  · exact .ite (.iteElse (.step afterFiring_keeps .refl) (.step rejudgeNulls_keeps <| .step rejudgeNulls_keeps <|
      .foldl (fun _ _ => .ite (.step moveToPath_keeps .refl) .refl) .refl)) (.step dropFiring_keeps .refl)

theorem receiverColdStart_keeps {e} {s : State} : s.Keeps running (s.receiverColdStart e) := by
  unfold State.receiverColdStart
  exact .ite (.step dabColdStart_keeps .refl) (.ite (.step drmColdStart_keeps .refl) (.ite (.step fmColdStart_keeps .refl) (.ite
    (.step amColdStart_keeps .refl) .refl)))

theorem receiverTakes_keeps {n e b} {s : State} : s.Keeps [.dabs, .drms] (s.receiverTakes n e b) := by
  unfold State.receiverTakes
  exact .ite (.step setDab_keeps .refl) (.ite (.step setDrm_keeps .refl) .refl)

theorem execChainBlockOut_keeps {chain a b saturated} {s : State} :
    s.Leads running (execChainBlockOut chain a b saturated s) := by
  unfold execChainBlockOut
  refine .next ?_
  split
  · exact .refl
  · exact .ite (.ite (.ite (.step countDrop_keeps <| .step bump_keeps <| .step pushFifo_keeps <|
      .iteElse (.step setChain_keeps <| .step captureBlock_keeps <|
      .ite .refl (.step setSaturation_keeps .refl)) (.step bumpBy_keeps .refl)) (.step bump_keeps <| .step pushFifo_keeps <|
      .iteElse (.step setChain_keeps <| .step captureBlock_keeps <|
      .ite .refl (.step setSaturation_keeps .refl)) (.step bumpBy_keeps .refl))) (.ite (.step bump_keeps <|
      .iteElse (.step setChain_keeps <| .step captureBlock_keeps <|
      .ite .refl (.step setSaturation_keeps .refl)) (.step bumpBy_keeps .refl)) (.ite (.step receiverTakes_keeps <|
      .iteThen (.step hearQuick_keeps <| .step bump_keeps <| .iteElse (.step setChain_keeps <| .step captureBlock_keeps <|
      .ite .refl (.step setSaturation_keeps .refl)) (.step bumpBy_keeps .refl)) (.step receiverColdStart_keeps .refl))
      (.step bump_keeps <| .step setChain_keeps <| .iteElse (.step setChain_keeps <| .step captureBlock_keeps <|
      .ite .refl (.step setSaturation_keeps .refl)) (.step bumpBy_keeps .refl))))) .refl

theorem faultReceivers_keeps {p span} {s : State} :
    s.Keeps [.dict, .awaiting, .events, .launch, .log, .plumb, .dabs, .drms] (s.faultReceivers p span) := by
  unfold State.faultReceivers
  exact .foldl (fun _ _ => .ite (.ite (.step dabLose_keeps .refl) (.ite (.step drmLose_keeps .refl) .refl)) .refl) .refl

theorem execSampleClockRelock_keeps {s : State} :
    s.Leads [.dict, .awaiting, .events, .launch, .log, .paths, .plumb, .chains, .captures, .dabs, .drms]
      (execSampleClockRelock s) := by
  unfold execSampleClockRelock
  exact .next <| .ite (.step setNat_keeps <| .ite (.step faultReceivers_keeps <| .step markPath_keeps <| .step setPath_keeps <|
    .step setNat_keeps <| .ite (.step faultReceivers_keeps <| .step markPath_keeps <| .step setPath_keeps <|
    .step setNat_keeps .refl) .refl) (.ite (.step faultReceivers_keeps <| .step markPath_keeps <| .step setPath_keeps <|
    .step setNat_keeps .refl) .refl)) .refl

theorem startEngine_keeps {e} {s : State} :
    s.Keeps [.dict, .awaiting, .events, .log, .chains, .engines, .dabs, .voices, .drms] (s.startEngine e) := by
  unfold State.startEngine
  exact .ite (.step setDabState_keeps <|
    .iteThen (.iteElse (.step sign_keeps .refl) (.step flushInputs_keeps .refl)) (.foldl
    (fun _ _ => .step setVoice_keeps .refl) .refl)) (.iteThen (.iteThen (.iteElse (.step sign_keeps .refl)
    (.step flushInputs_keeps .refl)) (.foldl (fun _ _ => .step setVoice_keeps .refl) .refl)) (.step drmRestart_keeps .refl))

theorem idleEngine_keeps {e} {s : State} : s.Keeps unitFields (s.idleEngine e) := by
  unfold State.idleEngine
  exact .ite (.step judgeSlots_keeps <| .step stopNulls_keeps <| .step setDabState_keeps .refl) (.ite (.step judgeDrm_keeps <|
    .step setDrmState_keeps .refl) (.ite (.step tapEnds_keeps <|
    .step tapEnds_keeps .refl) (.ite (.step fmFlush_keeps .refl) (.ite (.step amFlush_keeps .refl) .refl))))

theorem execEngineRestoreEnd_keeps {engine} {s : State} : s.Leads running (execEngineRestoreEnd engine s) := by
  unfold execEngineRestoreEnd
  refine .next ?_
  split
  · exact .ite (.ite (.step idleEngine_keeps <| .step setUState_keeps <| .step coldStart_keeps <|
      .step setEngine_keeps .refl) (.step receiverColdStart_keeps <| .step coldStart_keeps <| .step setEngine_keeps .refl)) .refl
  · exact .refl

theorem settleAccel_keeps {cause verb a} {s : State} :
    s.Keeps [.dict, .awaiting, .events, .accelConfigured, .accelOwn, .log] (s.settleAccel cause verb a) := by
  unfold State.settleAccel
  exact .ite (.step setUState_keeps <| .step update_accelConfigured_keeps <|
    .iteElse (.iteElse (.step refreshAccel_keeps .refl) (.step setNat_keeps .refl)) (.step setAccelOwn_keeps .refl)) (.iteElse
    (.iteElse (.iteElse (.step refreshAccel_keeps .refl) (.step setNat_keeps .refl)) (.step setAccelOwn_keeps .refl))
    (.step setUState_keeps .refl))

theorem settleAccels_keeps {cause} {s : State} :
    s.Keeps [.dict, .awaiting, .events, .accelConfigured, .accelOwn, .log] (s.settleAccels cause) := by
  unfold State.settleAccels
  exact .foldl (fun _ _ => .step settleAccel_keeps .refl) .refl

theorem placeVerb_keeps {owner kind u instant} {s : State} :
    s.Keeps [.dict, .awaiting, .events, .launch, .log] (s.placeVerb owner kind u instant).1 := by
  unfold State.placeVerb
  extract_lets
  split
  · exact .refl
  · split
    · exact .refl
    · exact .iteThen (.step setEntry_keeps .refl) (.step raise_keeps <| .step bump_keeps .refl)

theorem commitUnit_keeps {u} {s : State} :
    s.Keeps [.dict, .committed, .accelConfigured, .chains, .engines, .loads, .streams] (s.commitUnit u) := by
  unfold State.commitUnit
  extract_lets
  split
  · exact commitChain_keeps.mono
  · exact .step commitEngine_keeps <| .step commitKeys_keeps .refl
  · exact commitAudio_keeps.mono
  · exact update_accelConfigured_keeps.mono
  · exact commitLantern_keeps.mono
  · exact .refl

theorem configureUnit_keeps {u} {s : State} : s.Keeps [.dict, .committed, .accelConfigured, .chains, .engines, .loads, .shm, .streams] (s.configureUnit u).1 := by
  unfold State.configureUnit
  extract_lets code t
  have ht : s.Keeps [.dict, .committed, .accelConfigured, .chains, .engines, .loads, .shm, .streams] t := .ite
    (.step freeOwner_keeps .refl) .refl
  split
  · exact .refl
  · split
    · exact .refl
    next v hv => exact .step commitUnit_keeps (.step (allocAll_keeps hv) ht)

theorem setTapResponse_keeps {n} {s : State} : s.Keeps [.dict, .committed] (s.setTapResponse n) := by
  unfold State.setTapResponse
  exact .ite (.step setNat_keeps <| .step setCommitted_keeps <| .step setNat_keeps .refl) (.step setCommitted_keeps <|
    .step setNat_keeps <| .step setCommitted_keeps <| .step setBytes_keeps .refl)

theorem startMesh_keeps {s : State} : s.Keeps [.dict, .committed, .awaiting, .events, .launch, .log] s.startMesh := by
  unfold State.startMesh
  exact .foldl (fun _ _ => .ite (.step placeVerb_keeps .refl) .refl) (.step commitKeys_keeps .refl)

theorem landStart_keeps {u t} {s : State} : s.Keeps running (s.landStart u t) := by
  unfold State.landStart
  extract_lets
  split
  · exact .step disturbChain_keeps <| .step startChain_keeps .refl
  · exact startEngine_keeps.mono
  · exact armStream_keeps.mono
  · exact .ite (.step startMesh_keeps .refl) .refl
  · exact startLantern_keeps.mono
  · exact .refl

theorem landStop_keeps {u} {s : State} : s.Keeps unitFields (s.landStop u) := by
  unfold State.landStop
  extract_lets
  split
  · exact .step disturbChain_keeps <| .step holdChain_keeps .refl
  · exact idleEngine_keeps
  · exact disarmStream_keeps.mono
  · exact .ite (.step setRadio_keeps .refl) .refl
  · exact .refl

theorem clearReceiver_keeps {e} {s : State} :
    s.Keeps [.dict, .awaiting, .events, .launch, .log, .plumb, .fms, .dabs, .dabDecoders, .ams, .drms, .drmSel]
      (s.clearReceiver e) := by
  have hcleared {t : State} {a b c d e f} : t.Keeps [.fms, .dabs, .dabDecoders, .ams, .drms, .drmSel]
      { t with dabs := a, drms := b, fms := c, ams := d, dabDecoders := e, drmSel := f } := .raw
  exact .step hcleared <| .step setAll_keeps stopNulls_keeps.mono

theorem freeUnit_keeps {u cause verb} {s : State} : s.Keeps unitFields (s.freeUnit u cause verb) := by
  unfold State.freeUnit
  extract_lets
  split
  · exact .step setUState_keeps <| .step disturbChain_keeps <| .step releaseChain_keeps <| .step setNat_keeps <|
      .step setNat_keeps .refl
  · exact .iteThen (.step setNat_keeps <| .step setNat_keeps .refl) (.step releaseEngine_keeps <| .step clearReceiver_keeps <|
      .step idleEngine_keeps .refl)
  · exact .step setUState_keeps <| .step releaseAudio_keeps <| .step setNat_keeps <| .step setNat_keeps .refl
  · exact .step setUState_keeps <| .step landStop_keeps <| .step setNat_keeps <| .step setNat_keeps .refl
  · exact .step setUState_keeps <| .step releaseLantern_keeps <| .step setNat_keeps <| .step setNat_keeps .refl
  · exact .step setUState_keeps <| .step setNat_keeps <| .step setNat_keeps .refl

theorem commitTree_keeps {fuel cs} {s : State} : s.Keeps [.committed] (s.commitTree fuel cs) := by
  induction fuel generalizing s cs with
  | zero => exact .refl
  | succ fuel ih => exact .trans commitKeys_keeps ih

theorem configureLeaves_keeps {c ls} {s : State} : s.Keeps [.dict, .committed, .awaiting, .events, .accelConfigured, .log, .chains, .engines, .loads, .shm, .streams] (s.configureLeaves c ls).1 := by
  induction ls generalizing s with
  | nil => exact .refl
  | cons l ls ih =>
    unfold State.configureLeaves
    extract_lets u fresh r code
    have hr : s.Keeps [.dict, .committed, .awaiting, .events, .accelConfigured, .log, .chains, .engines, .loads, .shm, .streams] r.1 := by
      show s.Keeps _ (if fresh then s.configureUnit u else (s, 0)).1
      split
      · exact configureUnit_keeps.mono
      · exact .refl
    split
    · exact .refl
    · split
      · exact .refl
      next v hv => exact .trans (.iteThen (.step (allocAll_keeps hv) hr) (.step setUState_keeps .refl)) ih

theorem setParents_keeps {courses old} {s : State} : s.Keeps [.dict] (s.setParents courses old) := by
  unfold State.setParents
  exact .foldl (fun _ _ => .foldl (fun _ _ => .ite .refl (.step setNat_keeps .refl)) .refl) (.foldl (fun _ _ => .ite
    (.step setNat_keeps .refl) .refl) .refl)

theorem configureCourse_keeps {c} {s : State} :
    s.Keeps [.dict, .committed, .awaiting, .events, .accelConfigured, .accelOwn, .log, .chains, .engines, .loads, .shm, .streams]
      (s.configureCourse c).1 := by
  have hstarted {t : State} {c k r} : t.Keeps [.dict, .awaiting, .events, .log]
    (if t.ustate c = 0 then t.setUState c 1 k r else t) :=
    .iteThen .refl setUState_keeps
  unfold State.configureCourse
  refine .iteFst .refl <| .iteFst .refl ?_
  dsimp only
  exact .step settleAccels_keeps <| .step hstarted <| .foldl (fun _ _ => hstarted.mono) <|
    .step configureLeaves_keeps <| .step setParents_keeps <| .step commitTree_keeps .refl

theorem verbResult_keeps {unit code verb state} {s : State} :
    s.Keeps [.dict, .awaiting, .events, .log] (s.verbResult unit code verb state) := by
  unfold State.verbResult
  exact issuePaired_keeps

theorem claimUnit_keeps {owner u shares} {s : State} : s.Keeps [.dict, .shares, .claimedAt] (s.claimUnit owner u shares).1 := by
  unfold State.claimUnit
  split
  · exact .refl
  · split
    · exact .refl
    · split
      · extract_lets
        split
        · exact .refl
        · split
          · exact .refl
          · exact .step claimNow_keeps <| .step refreshAccel_keeps <| .step setShares_keeps .refl
      · split
        · exact .refl
        · split
          · exact .refl
          · split
            · exact .refl
            · split
              · exact .refl
              · split
                · exact claimedBy_keeps.mono
                · exact .refl

theorem returnShares_keeps {c} {s : State} : s.Keeps [.shares] (s.returnShares c) := by
  unfold State.returnShares
  exact .foldl (fun _ _ => .ite (.step setShares_keeps .refl) .refl) .refl

theorem releaseNow_keeps {u cause verb} {s : State} : s.Keeps unitFields (s.releaseNow u cause verb) := by
  unfold State.releaseNow
  exact .foldl (fun _ _ => .step settleAccel_keeps .refl) (.foldl (fun _ _ => .step setUState_keeps <| .step setNat_keeps <|
    .step setNat_keeps <|
    .step clearKeys_keeps .refl) (.foldl (fun _ _ => .step returnShares_keeps .refl) (.foldl
    (fun _ _ => .step freeUnit_keeps .refl) (.foldl (fun _ _ => .ite (.step setUState_keeps .refl) .refl) (.foldl
    (fun _ _ => .ite (.step setUState_keeps <| .step landStop_keeps .refl) .refl) (.step update_holdings_keeps .refl))))))

theorem holdLeaf_keeps {h u} {s : State} : s.Keeps unitFields (s.holdLeaf h u) := by
  unfold State.holdLeaf
  exact .ite .refl (.ite (.iteThen (.step landHold_keeps .refl) (.step finishHold_keeps .refl)) (.ite
    (.step setEngine_keeps .refl) (.step setUState_keeps <| .step landStop_keeps .refl)))

theorem settleHold_keeps {h} {s : State} : s.Keeps [.dict, .awaiting, .events, .log] (s.settleHold h) := by
  unfold State.settleHold
  exact .foldl (fun _ _ => .ite (.step setUState_keeps .refl) .refl) .refl

theorem endHold_keeps {h} {s : State} : s.Keeps unitFields (s.endHold h) := by
  unfold State.endHold
  extract_lets
  split
  · exact .step releaseNow_keeps <| .ite (.step setUState_keeps <| .step setAccelOwn_keeps <|
      .foldl (fun _ _ => .ite (.step setUState_keeps .refl) .refl) (.step update_holdings_keeps .refl)) (.foldl (fun _ _ => .ite
      (.step settleAccel_keeps .refl) .refl) (.foldl (fun _ _ => .ite (.step setUState_keeps .refl) .refl)
      (.step update_holdings_keeps .refl)))
  · exact .ite (.step setUState_keeps <| .step setAccelOwn_keeps <|
      .foldl (fun _ _ => .ite (.step setUState_keeps .refl) .refl) (.step update_holdings_keeps .refl)) (.foldl (fun _ _ => .ite
      (.step settleAccel_keeps .refl) .refl) (.foldl (fun _ _ => .ite (.step setUState_keeps .refl) .refl)
      (.step update_holdings_keeps .refl)))

theorem advanceHold_keeps {top} {s : State} : s.Keeps unitFields (s.advanceHold top) := by
  unfold State.advanceHold
  split
  · exact .refl
  · split
    · exact endHold_keeps
    · exact .ite (.step endHold_keeps <| .step update_holdings_keeps <|
        .foldl (fun _ _ => .step holdLeaf_keeps .refl) .refl) (.step settleHold_keeps <| .step update_holdings_keeps <|
        .foldl (fun _ _ => .step holdLeaf_keeps .refl) .refl)

theorem State.Keeps.actAndHold {F act} {s t : State} (hact : ∀ t : State, t.Keeps F (act t)) (h : s.Keeps F t)
    (hF : unitFields ⊆ F := by decide) : s.Keeps F (t.actAndHold act) :=
  .foldl (fun _ _ => advanceHold_keeps.mono hF) (h.trans (hact t))

theorem releaseTree_keeps {u cause verb} {s : State} : s.Keeps running (s.releaseTree u cause verb) := by
  unfold State.releaseTree
  exact .ite (.step releaseNow_keeps <| .step removeEntries_keeps .refl) (.step advanceHold_keeps <| .step beginHold_keeps <|
    .step update_holdings_keeps <| .step removeEntries_keeps .refl)

theorem releaseShares_keeps {owner a cause verb} {s : State} :
    s.Keeps [.dict, .awaiting, .events, .launch, .prep, .shares, .accelConfigured, .accelOwn, .log]
      (s.releaseShares owner a cause verb) := by
  unfold State.releaseShares
  exact .step settleAccel_keeps <| .step setShares_keeps <| .step removeEntries_keeps .refl

theorem setUpTapChain_keeps {u path engine} {s : State} : s.Keeps [.dict, .committed] (s.setUpTapChain u path engine) := by
  unfold State.setUpTapChain
  exact .step setTapResponse_keeps <| .step setAll_keeps .refl

theorem tapChainStart_keeps {u path engine t} {s : State} : s.Keeps running (s.tapChainStart u path engine t) := by
  unfold State.tapChainStart
  exact .ite (.ite .refl (.step raise_keeps .refl)) (.ite .refl (.step placeVerb_keeps <| .step setUState_keeps <|
    .step configureUnit_keeps <| .step setUpTapChain_keeps <| .step claimedBy_keeps .refl))

theorem tapStart_keeps {s : State} : s.Keeps running s.tapStart := by
  unfold State.tapStart
  exact .ite .refl (.ite (.step raise_keeps .refl) (.ite .refl (.ite .refl (.foldl (fun _ _ => .step tapChainStart_keeps .refl)
    (.iteElse (by
    split
    · exact .refl
    · exact .step configureUnit_keeps <| .step setNat_keeps <| .step claimedBy_keeps .refl) (.step placeVerb_keeps <|
        .step setUState_keeps .refl))))))

theorem tapStop_keeps {units cause} {s : State} : s.Keeps running (s.tapStop units cause) := by
  unfold State.tapStop
  exact .foldl (fun _ _ => .ite (.step releaseTree_keeps .refl) .refl) .refl

theorem verbByState_keeps {owner u verb instant} {s : State} : s.Keeps running (s.verbByState owner u verb instant).1 := by
  have htimed {kind} : s.Keeps running (s.placeVerb owner kind u instant).1 := placeVerb_keeps.mono
  have hconfigured {t : State} (h : s.Keeps running t) : s.Keeps running (if s.ustate u = 0 then t.setUState u 1 1 2 else t) :=
    .ite (.step setUState_keeps h) h
  unfold State.verbByState
  refine .iteFst (.fst .refl) ?_
  split
  · refine .iteFst (.fst .refl) (.iteFst (.iteFst (.fst .refl) configureCourse_keeps.mono) (.iteFst (.fst .refl)
      (.iteFst (.fst ?_) (.fst <| hconfigured configureUnit_keeps.mono))))
    exact .step settleAccel_keeps configureUnit_keeps.mono
  · exact .iteFst (.fst .refl) (.iteFst (.fst htimed) (.fst .refl))
  · exact .iteFst (.fst .refl) (.iteFst (.fst htimed) (.fst .refl))
  · exact .iteFst (.fst .refl) (.iteFst (.fst htimed) (.fst .refl))
  · exact .iteFst (.fst releaseShares_keeps.mono) (.iteFst (.fst .refl) (.fst <| .iteThen releaseTree_keeps.mono tapStart_keeps))

theorem verbBlock_keeps {r b} {s : State} : s.Keeps running (s.verbBlock r b) := by
  unfold State.verbBlock
  exact .ite (.step verbResult_keeps .refl) (.ite (.ite (.step await_keeps <|
    .step setEngine_keeps .refl) (.step verbResult_keeps <| .step claimUnit_keeps .refl)) (.step verbResult_keeps <|
    .step verbByState_keeps .refl))

theorem writeVerb_keeps {r b} {s : State} : s.Keeps running (s.writeVerb r b) := by
  unfold State.writeVerb
  exact .request (fun _ => .pairedBusy (fun _ => .step verbBlock_keeps .refl) .refl) .refl

theorem execClaim_keeps {by_ unit any param} {s : State} : s.Leads running (execClaim by_ unit any param s) := by
  unfold execClaim
  exact .next writeVerb_keeps.mono

theorem execClaimAcceleratorShares_keeps {by_ unit any shares} {s : State} :
    s.Leads running (execClaimAcceleratorShares by_ unit any shares s) := by
  unfold execClaimAcceleratorShares
  exact .next writeVerb_keeps.mono

theorem execConfigure_keeps {by_ unit} {s : State} : s.Leads running (execConfigure by_ unit s) := by
  unfold execConfigure
  exact .next writeVerb_keeps.mono

theorem execCourseConfigure_keeps {by_ course} {s : State} : s.Leads running (execCourseConfigure by_ course s) := by
  unfold execCourseConfigure
  exact .next writeVerb_keeps.mono

theorem execStart_keeps {by_ unit instant} {s : State} : s.Leads running (execStart by_ unit instant s) := by
  unfold execStart
  exact .next writeVerb_keeps.mono

theorem execHold_keeps {by_ unit instant} {s : State} : s.Leads running (execHold by_ unit instant s) := by
  unfold execHold
  exact .next writeVerb_keeps.mono

theorem execResume_keeps {by_ unit instant} {s : State} : s.Leads running (execResume by_ unit instant s) := by
  unfold execResume
  exact .next writeVerb_keeps.mono

theorem execRelease_keeps {by_ unit} {s : State} : s.Leads running (execRelease by_ unit s) := by
  unfold execRelease
  exact .next writeVerb_keeps.mono

theorem execReleaseAcceleratorShares_keeps {by_ unit} {s : State} :
    s.Leads running (execReleaseAcceleratorShares by_ unit s) := by
  unfold execReleaseAcceleratorShares
  exact .next writeVerb_keeps.mono

theorem runHeldVerb_keeps {s : State} : s.Keeps running s.runHeldVerb := by
  unfold State.runHeldVerb
  split
  · exact .ite .refl (.step verbBlock_keeps <| .step update_held_keeps .refl)
  · exact .refl

theorem execEngineZeroingComplete_keeps {engine} {s : State} : s.Leads running (execEngineZeroingComplete engine s) := by
  unfold execEngineZeroingComplete
  exact .next <| .ite (by
    extract_lets
    split
    · exact .step runHeldVerb_keeps <| .step verbResult_keeps <| .step claimUnit_keeps <| .step setUState_keeps <|
        .step setEngine_keeps .refl
    · exact .iteThen (.step setUState_keeps <| .step setEngine_keeps .refl) (.step tapStart_keeps .refl)) .refl

theorem prepareLeaf_keeps {n e u} {s : State} : s.Keeps running (s.prepareLeaf n e u) := by
  unfold State.prepareLeaf
  exact .iteElse (.step update_prep_keeps .refl) (.step landStart_keeps <| .step setUState_keeps <|
    .ite (.step setAccelOwn_keeps .refl) .refl)

theorem unprepare_keeps {n e} {s : State} : s.Keeps running (s.unprepare n e) := by
  unfold State.unprepare
  exact .step update_prep_keeps <|
    .foldl (fun _ _ => .ite (.step settleAccel_keeps .refl) .refl) (.iteThen (.foldl (fun _ _ => .ite (.step setUState_keeps <|
    .step landStop_keeps .refl) .refl) .refl) (.step setAccelOwn_keeps .refl))

theorem failStart_keeps {n e leaf} {s : State} : s.Keeps running (s.failStart n e leaf) := by
  unfold State.failStart
  exact .step verbResult_keeps <| .step setEntry_keeps <| .step unprepare_keeps .refl

theorem delayStart_keeps {n e by_} {s : State} : s.Keeps [.dict, .awaiting, .events, .launch, .log] (s.delayStart n e by_) := by
  unfold State.delayStart
  exact .ite .refl (.step raise_keeps <| .step bump_keeps <| .step setEntry_keeps .refl)

theorem setWait_keeps {n w} {s : State} : s.Keeps [.prep] (s.setWait n w) := by
  unfold State.setWait
  exact update_prep_keeps

theorem endWaits_keeps {s : State} : s.Keeps [.dict, .awaiting, .events, .launch, .prep, .log] s.endWaits := by
  unfold State.endWaits
  exact .foldl (fun _ _ => by
      split
      · exact .ite .refl (.step setWait_keeps <| .step delayStart_keeps .refl)
      · exact .refl) .refl

theorem prepareNext_keeps {n e} {s : State} : s.Keeps running (s.prepareNext n e) := by
  unfold State.prepareNext
  extract_lets
  split
  · exact .refl
  · exact .ite (.ite .refl (.step setWait_keeps .refl)) (.ite (.step prepareLeaf_keeps .refl) (.step failStart_keeps .refl))

theorem execCourseLeafPrepare_keeps {entry} {s : State} : s.Leads running (execCourseLeafPrepare entry s) := by
  unfold execCourseLeafPrepare
  refine .next ?_
  split
  · exact .refl
  · exact .ite (.step prepareNext_keeps .refl) .refl

theorem prepareAll_keeps {fuel n} {s : State} : s.Keeps running (s.prepareAll fuel n) := by
  induction fuel generalizing s with
  | zero => exact .refl
  | succ fuel ih =>
    unfold State.prepareAll
    split
    · exact .refl
    · exact .ite (.trans (.mono prepareNext_keeps) ih) .refl

theorem landVerb_keeps {n e} {s : State} : s.Keeps running (s.landVerb n e) := by
  unfold State.landVerb
  exact .step update_prep_keeps <| .step setEntry_keeps <|
    .iteThen (.foldl (fun _ _ => .ite .refl (.step setUState_keeps .refl)) (.foldl (fun _ _ => .ite (.step landStart_keeps <|
    .step setUState_keeps .refl) .refl) .refl)) (.foldl (fun _ _ => .ite (.step settleAccel_keeps .refl) .refl) .refl)

theorem fireStart_keeps {n kind} {s : State} : s.Keeps running (s.fireStart n kind) := by
  unfold State.fireStart
  split
  · exact .refl
  · exact .ite (.step update_prep_keeps <| .step dropFiring_keeps .refl) (by
      extract_lets
      split
      · exact prepareAll_keeps
      · exact .iteThen (.step prepareAll_keeps .refl) (.step landVerb_keeps .refl))

theorem execLaunchStartFiring_keeps {entry} {s : State} : s.Leads running (execLaunchStartFiring entry s) := by
  unfold execLaunchStartFiring
  exact .next fireStart_keeps.mono

theorem execLaunchResumeFiring_keeps {entry} {s : State} : s.Leads running (execLaunchResumeFiring entry s) := by
  unfold execLaunchResumeFiring
  exact .next fireStart_keeps.mono

theorem execLaunchHoldFiring_keeps {entry} {s : State} : s.Leads running (execLaunchHoldFiring entry s) := by
  unfold execLaunchHoldFiring
  refine .next ?_
  split
  · exact .refl
  · exact .ite .refl (.ite (.step dropFiring_keeps .refl) (.iteThen (.step advanceHold_keeps <| .step beginHold_keeps <|
      .step setEntry_keeps .refl) (.step placeVerb_keeps <| .step setTapResponse_keeps .refl)))

theorem execCourseRankHeld_keeps {unit} {s : State} : s.Leads running (execCourseRankHeld unit s) := by
  unfold execCourseRankHeld
  exact .next <| .iteThen (.step advanceHold_keeps .refl) (.step tapStart_keeps .refl)

theorem launchResult_keeps {index code op} {s : State} :
    s.Keeps [.dict, .awaiting, .events, .log] (s.launchResult index code op) := by
  unfold State.launchResult
  exact issuePaired_keeps

theorem launchBlock_keeps {r b} {s : State} : s.Keeps running (s.launchBlock r b) := by
  unfold State.launchBlock
  dsimp only
  split
  · refine .ite launchResult_keeps.mono ?_
    split
    · exact launchResult_keeps.mono
    · exact .step launchResult_keeps <| .iteThen setEntry_keeps.mono (.step raise_keeps bump_keeps.mono)
  · refine .ite launchResult_keeps.mono ?_
    split
    · exact launchResult_keeps.mono
    · exact .ite (.step launchResult_keeps <| .step setEntry_keeps unprepare_keeps.mono) launchResult_keeps.mono
  · exact launchResult_keeps.mono

theorem writeLaunch_keeps {r b} {s : State} : s.Keeps running (s.writeLaunch r b) := by
  unfold State.writeLaunch
  exact .request (fun _ => .accept (.step launchBlock_keeps .refl)) .refl

theorem execLaunchPlace_keeps {by_ instant phase kind flags target period count param} {s : State} :
    s.Leads running (execLaunchPlace by_ instant phase kind flags target period count param s) := by
  unfold execLaunchPlace
  exact .next writeLaunch_keeps.mono

theorem execLaunchCancel_keeps {by_ entry} {s : State} : s.Leads running (execLaunchCancel by_ entry s) := by
  unfold execLaunchCancel
  exact .next writeLaunch_keeps.mono

theorem execGpioChange_keeps {entry} {s : State} :
    s.Leads [.dict, .awaiting, .events, .launch, .log, .gpioFired] (execGpioChange entry s) := by
  unfold execGpioChange
  refine .next ?_
  split
  · exact .refl
  · exact .ite (.step dropFiring_keeps .refl) (.step afterFiring_keeps <| .step setNat_keeps <|
      .step update_gpioFired_keeps .refl)

theorem execTbSyncPulse_keeps {entry} {s : State} :
    s.Leads [.dict, .awaiting, .events, .launch, .tbSync, .log] (execTbSyncPulse entry s) := by
  unfold execTbSyncPulse
  refine .next ?_
  split
  · exact .refl
  · exact .ite (.step dropFiring_keeps .refl) (.step afterFiring_keeps <| .step update_tbSync_keeps .refl)

theorem placeAgain_keeps {d n e} {s : State} : s.Keeps [.dict, .awaiting, .events, .launch, .log] (s.placeAgain d n e) := by
  unfold State.placeAgain
  exact .iteThen (.step setEntry_keeps .refl) (.step raise_keeps .refl)

theorem execTbSyncFollowerLoad_keeps {s : State} : s.Leads anything (execTbSyncFollowerLoad s) := by
  unfold execTbSyncFollowerLoad
  exact .next <| .ite (.foldl (fun _ _ => .step setPlumb_keeps .refl) (.step update_link_keeps <|
    .foldl (fun _ _ => .step placeAgain_keeps .refl) (.step removeEntries_keeps <| .foldl (fun _ _ => by
      split
      · exact unprepare_keeps.mono
      · exact .refl) (.step setNat_keeps <| .step writeGnomon_keeps .refl)))) .refl

theorem execTbSyncCheck_keeps {s : State} : s.Leads [.dict, .awaiting, .events, .tbSync, .log] (execTbSyncCheck s) := by
  unfold execTbSyncCheck
  exact .next <| .ite (by
    extract_lets
    split
    · exact update_tbSync_keeps.mono
    · exact .iteElse (.step setNum_keeps <| .step update_tbSync_keeps .refl) (.step raise_keeps .refl)) .refl

theorem execClkOutEnableWrite_keeps {by_ value} {s : State} :
    s.Leads [.dict, .awaiting, .events, .answer, .log, .power, .radio] (execClkOutEnableWrite by_ value s) := by
  unfold execClkOutEnableWrite
  exact .next <| .request (fun _ => .accept (.step setNat_keeps .refl)) .refl

theorem setLockGroup_keeps {group bitmap} {s : State} : s.Keeps [.dict, .chains] (s.setLockGroup group bitmap) := by
  unfold State.setLockGroup
  exact .foldl (fun _ _ => .ite (.step shareNco_keeps .refl) .refl) (.step setNat_keeps .refl)

theorem execLockGroupWrite_keeps {by_ group bitmap} {s : State} :
    s.Leads [.dict, .awaiting, .events, .answer, .log, .power, .chains, .radio] (execLockGroupWrite by_ group bitmap s) := by
  unfold execLockGroupWrite
  exact .next <| .request (fun _ => .guarded (fun _ => .step setLockGroup_keeps .refl) .refl) .refl

theorem execEngineLoadComplete_keeps {engine hashMatches} {s : State} :
    s.Leads running (execEngineLoadComplete engine hashMatches s) := by
  unfold execEngineLoadComplete
  exact .next <| .actAndHold (fun _ => .ite (.ite (.step endWaits_keeps <| .step raise_keeps <| .step setEngine_keeps <|
    .step setNat_keeps <| .step setNat_keeps <| .step dequeueLoad_keeps <|
    .step setNat_keeps .refl) (.iteThen (.step endWaits_keeps <| .step raise_keeps <| .step setNat_keeps <| .step setNat_keeps <|
    .step setEngine_keeps <| .step dequeueLoad_keeps <| .step setNat_keeps .refl) (.step faultEngine_keeps .refl))) .refl) .refl

theorem execEngineFault_keeps {engine cause} {s : State} : s.Leads running (execEngineFault engine cause s) := by
  unfold execEngineFault
  exact .next <| .actAndHold (fun _ => .ite (.step faultEngine_keeps .refl) .refl) .refl

theorem execEngineWatchdog_keeps {engine} {s : State} : s.Leads running (execEngineWatchdog engine s) := by
  unfold execEngineWatchdog
  exact .next <| .actAndHold (fun _ => .ite (.step faultEngine_keeps .refl) .refl) .refl

theorem execAcceleratorTimeout_keeps {accel} {s : State} : s.Leads running (execAcceleratorTimeout accel s) := by
  unfold execAcceleratorTimeout
  exact .next <| .actAndHold (fun _ => .ite (.iteThen (.step raise_keeps <| .step bump_keeps <| .step bumpBy_keeps <|
    .step setAccel_keeps .refl) (.step faultAccel_keeps .refl)) .refl) .refl

theorem execAcceleratorMemoryError_keeps {accel} {s : State} : s.Leads running (execAcceleratorMemoryError accel s) := by
  unfold execAcceleratorMemoryError
  exact .next <| .actAndHold (fun _ => .ite (.step faultAccel_keeps .refl) .refl) .refl

theorem execLanternMemoryError_keeps {s : State} : s.Leads unitFields (execLanternMemoryError s) := by
  unfold execLanternMemoryError
  exact .next <| .actAndHold (fun _ => .ite (.step faultUnit_keeps .refl) .refl) .refl

theorem inMode_keeps {m} {s : State} : s.Keeps [.mode, .dict] (s.inMode m) := by
  unfold State.inMode
  exact .step setNat_keeps <| .step update_mode_keeps .refl

theorem modeEvent_keeps {kind old new trigger} {s : State} :
    s.Keeps [.dict, .awaiting, .events, .log] (s.modeEvent kind old new trigger) := by
  unfold State.modeEvent
  exact raise_keeps

theorem modeOutcome_keeps {code old new trigger} {s : State} :
    s.Keeps [.dict, .awaiting, .events, .log] (s.modeOutcome code old new trigger) := by
  unfold State.modeOutcome
  exact issuePaired_keeps

theorem flushLog_keeps {s : State} : s.Keeps [.freeCtr, .dict, .log] s.flushLog := by
  unfold State.flushLog
  exact .ite .refl (.step setNat_keeps <| .step update_log_keeps <| .step cvManagement_keeps .refl)

theorem setLevel_keeps {level signer} {s : State} : s.Keeps [.dict, .awaiting, .events, .log] (s.setLevel level signer) := by
  unfold State.setLevel
  exact .ite (.step setNat_keeps .refl) (.step raise_keeps <| .step setNat_keeps <| .step setNat_keeps .refl)

theorem releaseUnprovided_keeps {m now} {s : State} : s.Keeps running (s.releaseUnprovided m now) := by
  unfold State.releaseUnprovided
  exact .foldl (fun _ _ => .ite (.ite (.step settleAccel_keeps <|
    .step setShares_keeps .refl) (.ite (.step releaseNow_keeps .refl) (.step releaseTree_keeps .refl))) .refl) .refl

theorem unbindFrames_keeps {s : State} : s.Keeps [.link] s.unbindFrames := by
  unfold State.unbindFrames
  exact update_link_keeps

theorem removeUnavailable_keeps {m} {s : State} :
    s.Keeps [.dict, .awaiting, .events, .launch, .prep, .log] (s.removeUnavailable m) := by
  unfold State.removeUnavailable
  exact removeEntries_keeps

theorem pathDown_keeps {p} {s : State} :
    s.Keeps [.dict, .awaiting, .events, .launch, .prep, .log, .paths, .plumb, .captures] (s.pathDown p) := by
  unfold State.pathDown
  exact .ite .refl (.step setNat_keeps <| .step setPath_keeps <| .step plumbPowerDown_keeps <| .step removeEntries_keeps <|
    .step abortCaptures_keeps .refl)

theorem pathUp_keeps {p} {s : State} :
    s.Keeps [.dict, .awaiting, .events, .log, .paths, .amQuietSince, .plumb, .claimedAt] (s.pathUp p) := by
  unfold State.pathUp
  exact .ite .refl (.step plumbPowerUp_keeps <| .step powerPath_keeps .refl)

theorem gloamingDown_keeps {s : State} : s.Keeps [.dict, .shm, .gloaming] s.gloamingDown := by
  unfold State.gloamingDown
  exact .ite (.step setNat_keeps <| .step disableGloaming_keeps .refl) .refl

theorem gloamingUp_keeps {s : State} : s.Keeps [.dict, .shm, .pcm, .heard, .gloaming] s.gloamingUp := by
  unfold State.gloamingUp
  exact .ite (.step enableGloaming_keeps <| .step setNat_keeps .refl) .refl

theorem radioDown_keeps {s : State} : s.Keeps [.dict, .radio, .link, .mesh] s.radioDown := by
  unfold State.radioDown
  exact .step update_radio_link_mesh_keeps <| .step setRadio_keeps .refl

theorem meshClaim_keeps {u} {s : State} : s.Keeps [.dict, .awaiting, .events, .log, .claimedAt] (s.meshClaim u) := by
  unfold State.meshClaim
  exact .ite .refl (.step setUState_keeps <| .step setUState_keeps <| .step claimedBy_keeps .refl)

theorem meshUnits_keeps {m} {s : State} : s.Keeps running (s.meshUnits m) := by
  unfold State.meshUnits
  exact .ite (.ite (.iteElse (.iteThen (.step meshClaim_keeps .refl) (.step moveRadio_keeps <|
    .step meshClaim_keeps .refl)) (.iteThen (.step claimedBy_keeps <| .step update_power_keeps .refl) (.step setUState_keeps <|
    .step startMesh_keeps <|
    .step setUState_keeps .refl))) (.iteThen (.iteThen (.step meshClaim_keeps .refl) (.step moveRadio_keeps <|
    .step meshClaim_keeps .refl)) (.ite (.step freeUnit_keeps .refl) (.step claimedBy_keeps .refl)))) (.step radioDown_keeps <|
    .step update_power_keeps <| .foldl (fun _ _ => .ite .refl (.step freeUnit_keeps .refl)) .refl)

theorem tapStep_keeps {old new} {s : State} : s.Keeps running (s.tapStep old new) := by
  unfold State.tapStep
  exact .ite .refl (.ite (.step tapStop_keeps .refl) (.ite .refl (.iteElse (.ite (.step tapStop_keeps .refl) .refl) (.iteThen
    (.step tapStop_keeps .refl) (.step setCommitted_keeps <| .step setNat_keeps <| .step setUState_keeps <|
    .step disturbChain_keeps <| .step holdChain_keeps .refl)))))

theorem tapEnter_keeps {s : State} : s.Keeps running s.tapEnter := by
  unfold State.tapEnter
  exact .iteThen (.step tapStart_keeps <| .ite (.step setNat_keeps .refl) .refl) (.step placeVerb_keeps .refl)

theorem quoinMode_keeps {old new} {s : State} : s.Keeps [.dict, .quoin] (s.quoinMode old new) := by
  unfold State.quoinMode
  exact .step setNat_keeps <| .step update_quoin_keeps .refl

theorem targetMode_keeps {new} {s : State} : s.Keeps [.twoWire] (s.targetMode new) := by
  unfold State.targetMode
  exact update_twoWire_keeps

theorem enterMode_keeps {m} {s : State} : s.Keeps running (s.enterMode m) := by
  unfold State.enterMode
  exact .step refreshAntenna_keeps <| .step refreshAntenna_keeps <| .iteThen (.step meshUnits_keeps <|
    .ite (.step gloamingUp_keeps <| .ite (.step pathUp_keeps <| .ite (.step pathUp_keeps <| .step targetMode_keeps <|
    .step quoinMode_keeps <| .step inMode_keeps .refl) (.step pathDown_keeps <| .step targetMode_keeps <|
    .step quoinMode_keeps <| .step inMode_keeps .refl)) (.step pathDown_keeps <| .ite (.step pathUp_keeps <|
    .step targetMode_keeps <| .step quoinMode_keeps <| .step inMode_keeps .refl) (.step pathDown_keeps <|
    .step targetMode_keeps <| .step quoinMode_keeps <| .step inMode_keeps .refl))) (.iteElse (.ite (.step pathUp_keeps <|
    .ite (.step pathUp_keeps <| .step targetMode_keeps <| .step quoinMode_keeps <|
    .step inMode_keeps .refl) (.step pathDown_keeps <| .step targetMode_keeps <| .step quoinMode_keeps <|
    .step inMode_keeps .refl)) (.step pathDown_keeps <| .ite (.step pathUp_keeps <| .step targetMode_keeps <|
    .step quoinMode_keeps <| .step inMode_keeps .refl) (.step pathDown_keeps <| .step targetMode_keeps <|
    .step quoinMode_keeps <| .step inMode_keeps .refl))) (.step gloamingDown_keeps .refl))) (.step tapEnter_keeps .refl)

theorem askSafe_keeps {cause source reading} {s : State} : s.Keeps [.power] (s.askSafe cause source reading) := by
  unfold State.askSafe
  exact .ite .refl (.step update_power_keeps .refl)

theorem enterSafe_keeps {c} {s : State} : s.Keeps running (s.enterSafe c) := by
  unfold State.enterSafe
  exact .iteElse (.step update_power_keeps .refl) (.step flushLog_keeps <| .step bump_keeps <| .step modeEvent_keeps <|
    .step raise_keeps <| .step setNat_keeps <| .step setBytes_keeps <| .iteThen (.step refreshAntenna_keeps <|
    .step refreshAntenna_keeps <| .foldl (fun _ _ => .step setNat_keeps <|
    .step setUState_keeps .refl) (.step update_holdings_loads_keeps <| .iteElse (.step pathDown_keeps <| .step pathDown_keeps <|
    .step removeEntries_keeps <| .step abortCaptures_keeps <| .step radioDown_keeps <| .step targetMode_keeps <|
    .step quoinMode_keeps <| .step inMode_keeps <| .step gloamingDown_keeps <| .step setNat_keeps <| .step update_power_keeps <|
    by
    split
    · exact .iteElse (.step modeEvent_keeps <| .step update_freeCtr_keeps .refl) (.step modeOutcome_keeps .refl)
    · exact .step modeEvent_keeps <|
        .step update_freeCtr_keeps .refl) (.step clearDatabase_keeps .refl))) (.step setLevel_keeps <|
        .step update_sec_keeps .refl))

theorem doReset_keeps {cause keepLog} {s : State} : s.Keeps anything (s.doReset cause keepLog) := by
  unfold State.doReset
  refine .step inMode_keeps ⟨fun f hf => ?_, fun _ => ⟨rfl, rfl⟩, .refl _⟩
  cases f <;> first | rfl | exact absurd (by decide) hf

theorem readFifo_keeps {r key again limit beyond} {s : State} :
    s.Keeps [.fifos, .answer] (s.readFifo r key again limit beyond) := by
  unfold State.readFifo
  exact .ite (.ite (.step reply_keeps .refl) (.ite (.step reply_keeps .refl) (.step update_answer_keeps .refl))) (by
    extract_lets
    split
    · exact reply_keeps.mono
    · exact .ite (.step update_answer_keeps .refl) (.step update_answer_keeps <| .step setFifo_keeps .refl))

theorem readAs_keeps {r key stale again limit beyond} {s : State} :
    s.Keeps [.dict, .fifos, .answer, .power, .radio] (s.readAs r key stale again limit beyond) := by
  unfold State.readAs
  exact .ite (.step reply_keeps .refl) (.ite (.step touch_keeps <|
    .step readFifo_keeps .refl) (.ite (.step reply_keeps .refl) (.ite (.step reply_keeps .refl) (.step touch_keeps <|
    .step update_answer_keeps .refl))))

theorem execFifoRead_keeps {by_ index sub limit} {s : State} :
    s.Leads [.dict, .fifos, .answer, .power, .radio] (execFifoRead by_ index sub limit s) := by
  unfold execFifoRead
  exact .ite (.next <| .step readAs_keeps .refl) (.next <| .refl)

theorem execFifoRepeatRead_keeps {by_ index sub limit} {s : State} :
    s.Leads [.dict, .fifos, .answer, .power, .radio] (execFifoRepeatRead by_ index sub limit s) := by
  unfold execFifoRepeatRead
  exact .ite (.next <| .step readAs_keeps .refl) (.next <| .refl)

theorem execRingRead_keeps {by_ index limit again} {s : State} :
    s.Leads [.dict, .fifos, .answer, .power, .radio] (execRingRead by_ index limit again s) := by
  unfold execRingRead
  exact .ite (.next <| .step readAs_keeps .refl) (.next <| .refl)

theorem enablePdo_keeps {f} {s : State} : s.Keeps [.dict, .pdos] (s.enablePdo f).1 := by
  unfold State.enablePdo
  split
  · exact .refl
  · extract_lets
    split
    · exact .refl
    · exact .step setPdo_keeps <| .step setNat_keeps <| .step setNat_keeps .refl

theorem disablePdo_keeps {f} {s : State} : s.Keeps [.dict, .pdos] (s.disablePdo f) := by
  unfold State.disablePdo
  exact .step setPdo_keeps <| .step setNat_keeps .refl

theorem buildPdo_keeps {f change} {s : State} : s.Keeps [.dict, .pdos] (s.buildPdo f change) := by
  unfold State.buildPdo
  exact .ite (.step bump_keeps <| .step setPdo_keeps .refl) (.step setPdo_keeps <| .ite (.step bump_keeps .refl) .refl)

theorem execPdoEnable_keeps {by_ frame} {s : State} :
    s.Leads [.dict, .awaiting, .events, .answer, .log, .power, .radio, .pdos] (execPdoEnable by_ frame s) := by
  unfold execPdoEnable
  exact .next <| .request (fun _ => .step enablePdo_keeps .refl) .refl

theorem execPdoPeriodic_keeps {frame} {s : State} : s.Leads [.dict, .pdos] (execPdoPeriodic frame s) := by
  unfold execPdoPeriodic
  exact .next <| .ite (.step buildPdo_keeps .refl) .refl

theorem execPdoChange_keeps {frame} {s : State} : s.Leads [.dict, .pdos] (execPdoChange frame s) := by
  unfold execPdoChange
  exact .next <| .ite (.ite (.step setPdo_keeps .refl) (.step buildPdo_keeps .refl)) .refl

theorem sendPdo_keeps {f} {s : State} : s.Keeps [.dict, .ports, .quoin, .pdos] (s.sendPdo f) := by
  unfold State.sendPdo
  extract_lets
  split
  · exact .refl
  · exact .step bump_keeps <| .step update_quoin_keeps <| .step setPort_keeps <| .step setPdo_keeps .refl

theorem historyQuery_keeps {q} {s : State} : s.Keeps [.dict, .awaiting] (s.historyQuery q).1 := by
  unfold State.historyQuery
  split
  · exact .refl
  · split
    · exact .refl
    · exact .step issue_keeps <| .step setNat_keeps .refl

theorem logQuery_keeps {q} {s : State} : s.Keeps [.dict, .awaiting] (s.logQuery q).1 := by
  unfold State.logQuery
  split
  · exact .refl
  · exact .step issue_keeps <| .step setNat_keeps .refl

theorem writeTapEnable_keeps {v} {s : State} : s.Keeps running (s.writeTapEnable v) := by
  unfold State.writeTapEnable
  exact .ite (.step tapStart_keeps <| .step setNat_keeps .refl) (.step tapStop_keeps <| .step setNat_keeps .refl)

theorem keyEvent_keeps {source} {s : State} : s.Keeps [.dict, .awaiting, .events, .log] (s.keyEvent source) := by
  unfold State.keyEvent
  exact raise_keeps

theorem writeKeySlot_keeps {n b} {s : State} : s.Keeps [.dict, .awaiting, .events, .flash, .log] (s.writeKeySlot n b).1 := by
  unfold State.writeKeySlot
  extract_lets
  split
  · exact .refl
  · exact .step keyEvent_keeps <| .step update_flash_keeps .refl

theorem storeGrant_keeps {key v} {s : State} : s.Keeps [.dict, .flash] (s.storeGrant key v) := by
  unfold State.storeGrant
  exact .step setVal_keeps <| .step update_flash_keeps .refl

theorem act1_keeps {key n v i} {s : State} :
    s.Acts [.dict, .awaiting, .events, .launch, .tbSync, .log, .paths, .amQuietSince, .antennas, .plumb, .chains, .captures]
      (s.act1 key n v i) := by
  unfold State.act1
  exact .ite (.some (.step setNat_keeps <|
    .step update_tbSync_keeps .refl)) (.ite (.some (.step setLockGroup_keeps .refl)) (.ite (.some (.guarded
    (fun _ => .step setNat_keeps .refl) .refl)) (.ite (.some (.guarded (fun _ => .step setNat_keeps .refl) .refl)) (.ite (.ite
    (.some (.step writeAgcMode_keeps .refl)) (.ite (.some (.step writeManualGr_keeps .refl)) (.ite (.some
    (.step setNat_keeps .refl)) (.some (.step rfEffect_keeps <|
    .step setVal_keeps .refl))))) (.ite (.some (.step rfEffect_keeps <|
    .step setVal_keeps .refl)) (.ite (.some (.step writePlumbMode_keeps .refl)) (.ite (.some (.step rejudgeNulls_keeps <|
    .step setNat_keeps .refl)) (.ite (.some (.step setNat_keeps .refl)) (.ite (.some (.step writeDcFreeze_keeps .refl)) (.ite
    (.some (.step writeDetectorMode_keeps .refl)) (.ite (.some (.step writeDetector_keeps .refl)) .none)))))))))))

theorem act4_keeps {key n v} {s : State} :
    s.Acts [.dict, .shm, .pcm, .heard, .gloaming, .streams, .link, .mesh] (s.act4 key n v) := by
  unfold State.act4
  exact .ite (.some (by
    split
    · exact enableGloaming_keeps.mono
    · exact .ite (.step disableGloaming_keeps .refl) .refl)) (.ite (.some (.step assignSlot_keeps .refl)) (.ite (.some
        (.step writeRdsEnable_keeps .refl)) (.ite (.some (.step setNat_keeps .refl)) (.ite (.some (.step writePair_keeps .refl))
        (.ite (.some (.step writePair_keeps .refl)) (.ite (.some (.step linkEffect_keeps <|
        .step setVal_keeps .refl)) (.ite (.some (.step setNat_keeps <| .step update_mesh_keeps .refl)) .none)))))))

theorem act7_keeps {key n v b} {s : State} : s.Acts running (s.act7 key n v b) := by
  unfold State.act7
  exact .ite (.some (.step setNum_keeps .refl)) (.ite (.some (.step setNat_keeps .refl)) (.ite (.some
    (.step setNat_keeps .refl)) (.ite (.some (.step logQuery_keeps .refl)) (.ite (.some (.step writeTapEnable_keeps .refl))
    (.ite (.some (.step setNat_keeps .refl)) (.ite (.some (.step writeKeySlot_keeps .refl)) (.ite (.some
    (.step storeGrant_keeps .refl)) (.ite (.some (by
    split
    · exact enablePdo_keeps.mono
    · exact .step disablePdo_keeps .refl)) (.ite (.some (.step historyQuery_keeps .refl)) .none)))))))))

theorem applyWrite_keeps {key b} {s : State} : s.Keeps running (s.applyWrite key b).1 := by
  unfold State.applyWrite
  split
  · exact .refl
  · extract_lets v i n c r
    have hr : s.Acts running r := .ite act1_keeps.mono (.ite act4_keeps.mono act7_keeps)
    clear_value r
    refine .iteFst .refl ?_
    cases r with
    | none => exact setVal_keeps.mono
    | some p => exact hr

theorem temperature_keeps {n t} {s : State} : s.Keeps [.dict, .awaiting, .events, .log, .power, .radio] (s.temperature n t) := by
  unfold State.temperature
  exact .iteElse (.iteThen (.step setNum_keeps <|
    .step setNum_keeps .refl) (.step paTemperature_keeps .refl)) (.step raise_keeps <| .step setNat_keeps <|
    .step update_power_keeps .refl)

theorem sampled_keeps {key} {s : State} : s.Keeps [.power] (s.sampled key) := by
  unfold State.sampled
  exact update_power_keeps

theorem execTemperatureCrossing_keeps {sensor sample} {s : State} :
    s.Leads [.dict, .awaiting, .events, .log, .power, .radio] (execTemperatureCrossing sensor sample s) := by
  unfold execTemperatureCrossing
  exact .next <| .ite (.iteElse (.step sampled_keeps <|
    .step update_power_keeps .refl) (.iteThen (.step temperature_keeps .refl) (.step askSafe_keeps .refl))) .refl

theorem severe_keeps {m mv} {s : State} : s.Keeps anything (s.severe m mv) := by
  unfold State.severe
  exact .ite (.step doReset_keeps <| .step setNat_keeps .refl) (.step askSafe_keeps <| .step setNat_keeps .refl)

theorem execSupplyLevel_keeps {monitor sample} {s : State} : s.Leads anything (execSupplyLevel monitor sample s) := by
  unfold execSupplyLevel
  exact .next <| .ite (.iteThen (.iteElse (.step sampled_keeps <|
    .step update_power_keeps .refl) (.iteThen (.step setNat_keeps .refl) (.step setNat_keeps .refl)))
    (.step severe_keeps .refl)) .refl

theorem execClockMonitorFault_keeps {monitor quiet locked} {s : State} :
    s.Leads [.dict, .awaiting, .events, .log, .power, .quoin] (execClockMonitorFault monitor quiet locked s) := by
  unfold execClockMonitorFault
  exact .next <| .ite .refl (by
    split
    · exact .ite .refl (.step askSafe_keeps <| .step setNat_keeps .refl)
    · exact .ite (.step askSafe_keeps <| .step setNat_keeps .refl) .refl
    · exact .ite .refl (.step askSafe_keeps <| .step setNat_keeps .refl)
    · exact .ite (.ite .refl (.step quoinMode_keeps <| .step setNat_keeps .refl)) (.ite .refl (.step raise_keeps <|
        .step setNat_keeps <| .step setNat_keeps .refl))
    · exact .refl)

theorem takeSafe_keeps {s : State} : s.Keeps running s.takeSafe := by
  unfold State.takeSafe
  split
  · exact enterSafe_keeps
  · exact .refl

theorem execSafeEntry_keeps {s : State} : s.Leads running (execSafeEntry s) := by
  unfold execSafeEntry
  exact .next takeSafe_keeps.mono

theorem tickSafe_keeps {s : State} : s.Keeps running s.tickSafe := by
  unfold State.tickSafe
  split
  · exact .ite (.step enterSafe_keeps .refl) .refl
  · exact .refl

theorem execManagementWatchdog_keeps {s : State} : s.Leads anything (execManagementWatchdog s) := by
  unfold execManagementWatchdog
  exact .next <| .ite (.step doReset_keeps .refl) .refl

theorem execLogFlush_keeps {fails} {s : State} : s.Leads [.freeCtr, .dict, .awaiting, .events, .log] (execLogFlush fails s) := by
  unfold execLogFlush
  exact .next <| .ite (.ite (.step raise_keeps <| .step setNat_keeps .refl) (.step flushLog_keeps .refl)) .refl

theorem execLogQuery_keeps {by_ seq} {s : State} : s.Leads running (execLogQuery by_ seq s) := by
  unfold execLogQuery
  exact .next <| .request (fun _ => .step applyWrite_keeps .refl) .refl

theorem execTapEnableWrite_keeps {by_ value} {s : State} : s.Leads running (execTapEnableWrite by_ value s) := by
  unfold execTapEnableWrite
  exact .next <| .request (fun _ => .step applyWrite_keeps .refl) .refl

theorem execGpioWrite_keeps {by_ sub value} {s : State} : s.Leads running (execGpioWrite by_ sub value s) := by
  unfold execGpioWrite
  exact .ite (.next <| .request (fun _ => .step applyWrite_keeps .refl) .refl) (.next <| .refl)

theorem setUpdate_keeps {n} {s : State} : s.Keeps [.dict, .awaiting, .events, .log] (s.setUpdate n) := by
  unfold State.setUpdate
  exact .ite .refl (.step raise_keeps <| .step setNat_keeps .refl)

theorem updateOutcome_keeps {code cmd failing} {s : State} :
    s.Keeps [.dict, .awaiting, .events, .log] (s.updateOutcome code cmd failing) := by
  unfold State.updateOutcome
  exact issuePaired_keeps

theorem setOtherState_keeps {n} {s : State} : s.Keeps [.flash] (s.setOtherState n) := by
  unfold State.setOtherState
  exact update_flash_keeps

theorem updateCommand_keeps {cmd engines catalogue} {s : State} :
    s.Keeps [.dict, .awaiting, .events, .flash, .log, .upd, .power] (s.updateCommand cmd engines catalogue) := by
  unfold State.updateCommand
  extract_lets
  split
  · exact .ite (.step updateOutcome_keeps .refl) (.step updateOutcome_keeps <| .step setUpdate_keeps <|
      .step update_flash_upd_keeps .refl)
  · exact .ite (.step updateOutcome_keeps .refl) (.ite (.step updateOutcome_keeps <| .step setUpdate_keeps <|
      .step setUpdate_keeps .refl) (.step updateOutcome_keeps <| .step setUpdate_keeps <| .step update_flash_keeps <|
      .step setUpdate_keeps .refl))
  · exact .ite (.step updateOutcome_keeps .refl) (.step updateOutcome_keeps <| .step update_flash_power_keeps <|
      .step setOtherState_keeps .refl)
  · exact .ite (.step updateOutcome_keeps .refl) (.step updateOutcome_keeps <| .step setUpdate_keeps <|
      .step update_flash_upd_keeps .refl)
  · exact updateOutcome_keeps.mono

theorem execUpdateBegin_keeps {by_} {s : State} :
    s.Leads [.dict, .awaiting, .events, .answer, .flash, .log, .upd, .power, .radio] (execUpdateBegin by_ s) := by
  unfold execUpdateBegin
  exact .next <| .request (fun _ => .accept (.step updateCommand_keeps .refl)) .refl

theorem execEraseComplete_keeps {s : State} : s.Leads [.dict, .awaiting, .events, .log] (execEraseComplete s) := by
  unfold execEraseComplete
  exact .next <| .ite (.step setUpdate_keeps .refl) .refl

theorem updateChunk_keeps {b} {s : State} : s.Keeps [.dict, .upd, .cvs] (s.updateChunk b).1 := by
  unfold State.updateChunk
  extract_lets
  split
  · exact .refl
  · split
    · exact .refl
    · split
      · exact .refl
      · split
        · exact .refl
        · exact .step update_upd_keeps <| .step cvClose_keeps <| .step cvStream_keeps .refl

theorem execUpdateChunk_keeps {by_ data} {s : State} :
    s.Leads [.dict, .awaiting, .events, .answer, .log, .upd, .power, .radio, .cvs] (execUpdateChunk by_ data s) := by
  unfold execUpdateChunk
  exact .next <| .request (fun _ => .step updateChunk_keeps .refl) .refl

theorem execUpdateFinish_keeps {by_ engines catalogue} {s : State} :
    s.Leads [.dict, .awaiting, .events, .answer, .flash, .log, .upd, .power, .radio]
      (execUpdateFinish by_ engines catalogue s) := by
  unfold execUpdateFinish
  exact .next <| .request (fun _ => .accept (.step updateCommand_keeps .refl)) .refl

theorem execUpdateActivate_keeps {by_} {s : State} :
    s.Leads [.dict, .awaiting, .events, .answer, .flash, .log, .upd, .power, .radio] (execUpdateActivate by_ s) := by
  unfold execUpdateActivate
  exact .next <| .request (fun _ => .accept (.step updateCommand_keeps .refl)) .refl

theorem execUpdateCancel_keeps {by_} {s : State} :
    s.Leads [.dict, .awaiting, .events, .answer, .flash, .log, .upd, .power, .radio] (execUpdateCancel by_ s) := by
  unfold execUpdateCancel
  exact .next <| .request (fun _ => .accept (.step updateCommand_keeps .refl)) .refl

theorem advanceRollback_keeps {s : State} : s.Keeps [.dict, .awaiting, .events, .otp, .log] s.advanceRollback := by
  unfold State.advanceRollback
  split
  · exact .refl
  · dsimp only
    split
    · exact .refl
    next hless =>
      exact .step raise_keeps <| .step (blowFuses_keeps fun hs hr =>
        ⟨⟨le_rfl, hs⟩, ⟨le_rfl, hr⟩, (Nat.lt_of_not_le hless).le, fun _ h => h⟩) .refl

theorem confirmTrial_keeps {s : State} : s.Keeps [.dict, .awaiting, .events, .otp, .flash, .log, .upd] s.confirmTrial := by
  unfold State.confirmTrial
  exact .step advanceRollback_keeps <| .step raise_keeps <| .step setNat_keeps <| .step update_flash_upd_keeps .refl

theorem confirmCommand_keeps {s : State} : s.Keeps [.dict, .awaiting, .events, .otp, .flash, .log, .upd] s.confirmCommand.1 := by
  unfold State.confirmCommand
  exact .guarded (fun _ => .step confirmTrial_keeps .refl) .refl

theorem execUpdateConfirm_keeps {by_} {s : State} :
    s.Leads [.dict, .awaiting, .events, .answer, .otp, .flash, .log, .upd, .power, .radio] (execUpdateConfirm by_ s) := by
  unfold execUpdateConfirm
  exact .next <| .request (fun _ => .step confirmCommand_keeps .refl) .refl

theorem execTrialExpiry_keeps {s : State} : s.Leads anything (execTrialExpiry s) := by
  unfold execTrialExpiry
  refine .next ?_
  split
  · exact .ite (.step doReset_keeps .refl) .refl
  · exact .refl

theorem beginTransition_keeps {s : State} : s.Keeps running s.beginTransition := by
  unfold State.beginTransition
  split
  · exact .refl
  · exact .iteElse (.iteElse (.step tapStep_keeps <| .step removeUnavailable_keeps <| .step releaseUnprovided_keeps <|
      .step setNat_keeps <| .step update_power_keeps .refl) (.step pathDown_keeps .refl)) (.step pathDown_keeps .refl)

theorem requestMode_keeps {trigger t} {s : State} : s.Keeps running (s.requestMode trigger t) := by
  unfold State.requestMode
  exact .ite (.iteThen (.step modeOutcome_keeps .refl) (.step await_keeps .refl)) (.ite (.ite (.step setNat_keeps <|
    .step unbindFrames_keeps <| .step removeEntries_keeps <| .step await_keeps <| .step modeEvent_keeps <|
    .step update_power_keeps .refl) (.step beginTransition_keeps <| .step unbindFrames_keeps <| .step removeEntries_keeps <|
    .step await_keeps <| .step modeEvent_keeps <| .step update_power_keeps .refl)) (.step beginTransition_keeps <|
    .step await_keeps <| .step modeEvent_keeps <| .step update_power_keeps .refl))

theorem execModeRequest_keeps {by_ target} {s : State} : s.Leads running (execModeRequest by_ target s) := by
  unfold execModeRequest
  exact .next <| .request (fun _ => .accept (.step requestMode_keeps .refl)) .refl

theorem execTransitionHoldEnd_keeps {s : State} : s.Leads running (execTransitionHoldEnd s) := by
  unfold execTransitionHoldEnd
  refine .next ?_
  split
  · exact .ite (.step beginTransition_keeps .refl) .refl
  · exact .refl

theorem pathStepAct_keeps {n} {s : State} :
    s.Keeps [.dict, .awaiting, .events, .log, .paths, .amQuietSince, .plumb, .claimedAt] (s.pathStepAct n) := by
  unfold State.pathStepAct
  split
  · exact setNat_keeps.mono
  · exact pathUp_keeps
  · exact .ite (.step claimedBy_keeps .refl) .refl
  · exact setNat_keeps.mono
  · exact pathUp_keeps
  · exact .refl

theorem execPathPowerUp_keeps {step} {s : State} :
    s.Leads [.dict, .awaiting, .events, .log, .power, .paths, .amQuietSince, .plumb, .claimedAt] (execPathPowerUp step s) := by
  unfold execPathPowerUp
  refine .next ?_
  split
  · split
    · exact .ite (.step pathStepAct_keeps <| .step update_power_keeps .refl) .refl
    · exact .refl
  · exact .refl

theorem wakeParked_keeps {src} {s : State} : s.Keeps [.dict, .power] (s.wakeParked src) := by
  unfold State.wakeParked
  exact .ite .refl (.step setNat_keeps <| .step update_power_keeps .refl)

theorem wake_keeps {src} {s : State} : s.Keeps [.dict, .power] (s.wake src) := by
  unfold State.wake
  exact .ite (.step wakeParked_keeps .refl) (by
    split
    · exact .ite (.step update_power_keeps .refl) .refl
    · exact .refl)

theorem execWake_keeps {sources rising micros} {s : State} : s.Leads [.dict, .power] (execWake sources rising micros s) := by
  unfold execWake
  exact .next <| .ite (.step wake_keeps .refl) (.ite (.step wake_keeps .refl) (.ite (.step wake_keeps .refl) .refl))

theorem watchWakeIn_keeps {s : State} : s.Keeps running s.watchWakeIn := by
  unfold State.watchWakeIn
  exact .iteElse (.iteThen (.step update_radio_keeps .refl) (.step setNat_keeps <|
    .step update_quoin_keeps .refl)) (.step requestMode_keeps .refl)

theorem execWakeInWatch_keeps {rising micros} {s : State} : s.Leads running (execWakeInWatch rising micros s) := by
  unfold execWakeInWatch
  exact .next <| .ite .refl (by
    split
    · exact .ite (.step update_power_keeps .refl) .refl
    · exact .ite (.step watchWakeIn_keeps .refl) .refl)

theorem watchMatch_keeps {s : State} : s.Keeps [.dict, .awaiting, .events, .log, .power] s.watchMatch := by
  unfold State.watchMatch
  exact .step raise_keeps <| .step setNat_keeps <| .step update_power_keeps .refl

theorem releaseWake_keeps {s : State} : s.Keeps running s.releaseWake := by
  unfold State.releaseWake
  split
  · exact .refl
  · exact .iteThen (.step update_power_keeps .refl) (.ite (.step watchWakeIn_keeps .refl) (.ite
      (.step watchMatch_keeps .refl) .refl))

theorem execWakeOutEnd_keeps {s : State} : s.Leads [.power] (execWakeOutEnd s) := by
  unfold execWakeOutEnd
  exact .next update_power_keeps.mono

theorem endTransition_keeps {t} {s : State} : s.Keeps [.dict, .awaiting, .events, .log, .power] (s.endTransition t) := by
  unfold State.endTransition
  exact .step bump_keeps <| .step modeEvent_keeps <| .step modeOutcome_keeps <| .step setNat_keeps <|
    .step update_power_keeps .refl

theorem execTransitionComplete_keeps {s : State} : s.Leads running (execTransitionComplete s) := by
  unfold execTransitionComplete
  refine .next ?_
  split
  · exact .ite (.step releaseWake_keeps <| .step endTransition_keeps <| .iteThen (.step enterMode_keeps <|
      .step removeUnavailable_keeps <| .step releaseUnprovided_keeps .refl) (.step flushLog_keeps <|
      .step removeEntries_keeps .refl)) .refl
  · exact .refl

theorem portsDown_keeps {s : State} : s.Keeps [.dict, .events, .ports, .pdos] s.portsDown := by
  unfold State.portsDown
  exact .step setNat_keeps <| .step update_events_keeps <|
    .foldl (fun _ _ => .step setPdo_keeps .refl) (.foldl (fun _ _ => .step setPort_keeps .refl) (.foldl (fun _ _ => .ite
    (.step bump_keeps .refl) .refl) (.step bumpBy_keeps .refl)))

theorem forgetNodes_keeps {s : State} : s.Keeps [.link, .mesh] s.forgetNodes := by
  unfold State.forgetNodes
  exact update_link_mesh_keeps

theorem writeRecords_keeps {s : State} : s.Keeps [.flash] s.writeRecords := by
  unfold State.writeRecords
  exact update_flash_keeps

theorem parkUnits_keeps {s : State} : s.Keeps running s.parkUnits := by
  unfold State.parkUnits
  exact .step update_events_keeps <| .step update_sec_keeps <| .step setLevel_keeps <| .step moveToken_keeps <|
    .step portsDown_keeps <| .step removeEntries_keeps <| .step meshUnits_keeps <| .step tapStop_keeps <|
    .step releaseUnprovided_keeps .refl

theorem parkRecords_keeps {s : State} : s.Keeps [.freeCtr, .dict, .flash, .log, .link, .mesh] s.parkRecords := by
  unfold State.parkRecords
  exact .iteElse (.step writeRecords_keeps <| .step flushLog_keeps .refl) (.step forgetNodes_keeps .refl)

theorem parkPower_keeps {s : State} : s.Keeps running s.parkPower := by
  unfold State.parkPower
  exact .step update_power_keeps <| .step update_awaiting_held_saving_keeps <| .step refreshAntenna_keeps <|
    .step refreshAntenna_keeps <| .step quoinMode_keeps <| .step targetMode_keeps <| .step inMode_keeps <|
    .step gloamingDown_keeps .refl

theorem execParkedEntry_keeps {s : State} : s.Leads running (execParkedEntry s) := by
  unfold execParkedEntry
  refine .next ?_
  split
  next t _ =>
    have hparked : s.Keeps running (s.endTransition t).parkUnits.parkRecords.parkPower :=
      .step parkPower_keeps <| .step parkRecords_keeps <| .step parkUnits_keeps <| .step endTransition_keeps .refl
    refine .ite ?_ .refl
    dsimp only
    split
    · exact .step wakeParked_keeps hparked
    · exact hparked
  · exact .refl

theorem loadValue_keeps {key v} {s : State} : s.Keeps running (s.loadValue key v) := by
  unfold State.loadValue
  split
  · exact .refl
  · exact .ite (by
      split
      · exact .refl
      · exact .step applyWrite_keeps .refl) (.step raise_keeps <| .step bump16_keeps .refl)

theorem loadStore_keeps {s : State} : s.Keeps running s.loadStore := by
  unfold State.loadStore
  exact .step setNat_keeps <| .step setNat_keeps <| .step commitKeys_keeps <|
    .foldl (fun _ _ => .step loadValue_keeps .refl) .refl

theorem execWakeFailure_keeps {s : State} : s.Leads [.dict, .power] (execWakeFailure s) := by
  unfold execWakeFailure
  exact .next <| .ite (.step bump16_keeps <| .step update_power_keeps .refl) .refl

/-- The subindices that a wake starts over at their defaults, and every committed copy dropped (R466). -/
theorem startOver_keeps {s : State} :
    s.Keeps [.dict, .committed] { s with dict := s.dict.filter fun p => !startsOver p.1, committed := [] } where
  same f hf := by cases f <;> first | rfl | exact absurd (by decide) hf
  canonical h := ⟨map_wf_filter _ _ _ h.1, rfl⟩
  fuses := .refl _

theorem resumeWatch_keeps {src} {s : State} : s.Keeps anything (s.resumeWatch src) := by
  have hnoted {t : State} {x y z} : t.Keeps anything { t with twoWire := x, radio := y, power := z } := .raw
  unfold State.resumeWatch
  extract_lets asleep s1 s2 s3 tw ra pw s4 s5 s6 pw2 s7
  have h3 : s.Keeps anything s3 := .step enterMode_keeps <| .step loadStore_keeps <| .step startOver_keeps <|
    .step writeGnomon_keeps .refl
  have h5 : s.Keeps anything s5 := .step raise_keeps <| .trans h3 hnoted
  have h6 : s.Keeps anything s6 := .step endTransition_keeps <| .step modeEvent_keeps h5
  have h7 : s.Keeps anything s7 := .iteThen h6 (.step raise_keeps <| .step update_power_keeps .refl)
  exact .iteThen h7 watchWakeIn_keeps.mono

theorem execParkedResume_keeps {hashes} {s : State} : s.Leads anything (execParkedResume hashes s) := by
  unfold execParkedResume
  refine .next ?_
  split
  · exact .ite .refl (.ite (.step resumeWatch_keeps .refl) (.step holdEvent_keeps <| .step doReset_keeps .refl))
  · exact .refl

theorem execReset_keeps {cause nanos kept} {s : State} : s.Leads anything (execReset cause nanos kept s) := by
  unfold execReset
  exact .next <| .ite (.step doReset_keeps .refl) (.ite (.step doReset_keeps .refl) .refl)

theorem chooseBank_keeps {goodA goodB} {s : State} :
    s.Keeps [.dict, .awaiting, .events, .flash, .log] (s.chooseBank goodA goodB).1 := by
  have hflash {t : State} {x} (h : s.Keeps [.dict, .awaiting, .events, .flash, .log] t) :
      s.Keeps [.dict, .awaiting, .events, .flash, .log] { t with flash := x } := .step update_flash_keeps h
  have hreverted {t : State} {x c k r f} (h : s.Keeps [.dict, .awaiting, .events, .flash, .log] t) :
      s.Keeps [.dict, .awaiting, .events, .flash, .log] (({ t with flash := x }.setNat 0x750001 3).raise c k r f) :=
    .step raise_keeps <| .step setNat_keeps <| hflash h
  unfold State.chooseBank
  refine .iteFst (.step setNat_keeps <| hflash (hflash .refl)) ?_
  extract_lets bank t
  have ht : s.Keeps [.dict, .awaiting, .events, .flash, .log] t := .ite (hreverted (hflash .refl)) (.ite (hreverted .refl) .refl)
  exact .iteFst ht (.iteFst (.step raise_keeps <| hflash ht) ht)

theorem restoreOtp_keeps {s : State} : s.Keeps [.dict] s.restoreOtp := by
  unfold State.restoreOtp
  exact .step setAll_keeps <| .foldl (fun _ _ => .step setVal_keeps .refl) .refl

theorem restoreFlash_keeps {s : State} : s.Keeps [.dict, .mesh] s.restoreFlash := by
  unfold State.restoreFlash
  exact .step update_mesh_keeps <|
    .foldl (fun _ _ => .step setVal_keeps .refl) (.foldl (fun _ _ => .step setBytes_keeps .refl) (.step setAll_keeps .refl))

theorem measure_keeps {temps supplies} {s : State} :
    s.Keeps [.dict, .awaiting, .events, .log, .power, .radio] (s.measure temps supplies) := by
  unfold State.measure
  exact .foldl (fun _ _ => .ite (.step setNat_keeps .refl) .refl) (.foldl (fun _ _ => .ite
    (.step temperature_keeps .refl) .refl) (.step setNum_keeps <| .step update_power_keeps .refl))

theorem recordResume_keeps {s : State} : s.Keeps [.power] s.recordResume := by
  unfold State.recordResume
  exact update_power_keeps

theorem becomeReady_keeps {cause} {s : State} :
    s.Keeps [.ready, .dict, .awaiting, .events, .log, .upd, .power, .antennas, .ports, .quoin] (s.becomeReady cause) := by
  unfold State.becomeReady
  exact .step update_upd_quoin_keeps <| .step update_power_keeps <| .step refreshAntenna_keeps <| .step refreshAntenna_keeps <|
    .foldl (fun _ _ => .step setPort_keeps .refl) (.foldl (fun _ _ => .step issueEvent_keeps <|
    .ite (.step appendLog_keeps .refl) .refl) (.step appendLog_keeps <| .step raise_keeps <| .step setNat_keeps <|
    .step update_ready_events_keeps .refl))

theorem startIn_keeps {m} {s : State} : s.Keeps running (s.startIn m) := by
  unfold State.startIn
  exact .step update_events_log_keeps <| .step enterMode_keeps .refl

theorem bringUpEarly_keeps {gpio2 gpio3 goodA goodB temps supplies} {s : State} :
    s.Keeps running (s.bringUpEarly gpio2 gpio3 goodA goodB temps supplies) := by
  unfold State.bringUpEarly
  exact .ite (.step loadStore_keeps <| .step update_power_keeps <| .iteThen (.step recordResume_keeps <|
    .step restoreFlash_keeps <| .step flushLog_keeps <| .step measure_keeps <| .step restoreOtp_keeps <| by
    split
    · exact .step setAll_keeps <| .step update_flash_keeps .refl
    · exact .step chooseBank_keeps <| .step setAll_keeps <|
        .step update_flash_keeps .refl) (.step advanceRollback_keeps .refl)) (.step becomeReady_keeps <| .step startIn_keeps <|
        .step measure_keeps <| .step restoreOtp_keeps <| by
    split
    · exact .step setAll_keeps <| .step update_flash_keeps .refl
    · exact .step chooseBank_keeps <| .step setAll_keeps <| .step update_flash_keeps .refl)

theorem bringUpLate_keeps {s : State} : s.Keeps running s.bringUpLate := by
  unfold State.bringUpLate
  exact .step becomeReady_keeps <| .step startIn_keeps .refl

theorem execBringUp_keeps {gpio2 gpio3 goodA goodB temps supplies} {s : State} :
    s.Leads running (execBringUp gpio2 gpio3 goodA goodB temps supplies s) := by
  unfold execBringUp
  exact .next <| .ite .refl (.ite (.step bringUpEarly_keeps .refl) (.step bringUpLate_keeps .refl))

theorem securityOutcome_keeps {code cmd} {s : State} :
    s.Keeps [.dict, .awaiting, .events, .log] (s.securityOutcome code cmd) := by
  unfold State.securityOutcome
  exact issuePaired_keeps

theorem stepToSecured_keeps {v} {s : State} : s.Keeps [.dict, .awaiting, .events, .otp, .log] (s.stepToSecured v) := by
  unfold State.stepToSecured
  exact .ite securityOutcome_keeps.mono (.step securityOutcome_keeps <| .step raise_keeps <| .step setLevel_keeps <|
    .step (blowFuses_keeps fun hs hr => ⟨⟨hs, le_rfl⟩, ⟨le_rfl, hr⟩, le_rfl, fun _ h => h⟩) .refl)

theorem execStepToSecured_keeps {by_} {s : State} :
    s.Leads [.dict, .awaiting, .events, .answer, .otp, .log, .power, .radio] (execStepToSecured by_ s) := by
  unfold execStepToSecured
  exact .next <| .request (fun _ => .accept (.step stepToSecured_keeps .refl)) .refl

theorem stepToReturned_keeps {s : State} : s.Keeps [.dict, .committed, .awaiting, .events, .otp, .flash, .log] s.stepToReturned := by
  have hblown {f} : s.Keeps [.otp, .flash] { s with flash := f, otp := { s.otp with returnedFuses := 8 } } :=
    .step (update_flash_keeps (s := { s with otp := { s.otp with returnedFuses := 8 } }))
      (State.Keeps.mono (blowFuses_keeps fun hs hr => ⟨⟨le_rfl, hs⟩, ⟨hr, le_rfl⟩, le_rfl, fun _ h => h⟩))
  unfold State.stepToReturned
  exact .step raise_keeps <| .step setLevel_keeps <| .step clearKeys_keeps hblown.mono

theorem newChallenge_keeps {s : State} : s.Keeps [.freeCtr, .sec] s.newChallenge.1 := by
  unfold State.newChallenge
  exact update_freeCtr_sec_keeps

theorem requestChallenge_keeps {s : State} : s.Keeps [.freeCtr, .dict, .awaiting, .events, .sec, .log] s.requestChallenge.1 := by
  unfold State.requestChallenge
  split
  · exact .refl
  · exact .step issuePaired_keeps <| .step newChallenge_keeps .refl

theorem execChallengeRequest_keeps {by_} {s : State} :
    s.Leads [.freeCtr, .dict, .awaiting, .events, .answer, .sec, .log, .power, .radio] (execChallengeRequest by_ s) := by
  unfold execChallengeRequest
  exact .next <| .request (fun _ => .step requestChallenge_keeps .refl) .refl

theorem execChallengeExpiry_keeps {s : State} : s.Leads [.sec] (execChallengeExpiry s) := by
  unfold execChallengeExpiry
  refine .next ?_
  split
  · exact .ite (.step update_sec_keeps .refl) .refl
  · exact .refl

theorem settleResponse_keeps {code} {s : State} :
    s.Keeps [.dict, .awaiting, .events, .flash, .sec, .log] (s.settleResponse code) := by
  unfold State.settleResponse
  exact .ite (.step update_flash_keeps <| .step update_sec_keeps .refl) (.step raise_keeps <| .step update_flash_keeps <|
    .step update_sec_keeps .refl)

theorem bitOf_eq_testBit (n i : Nat) : bitOf n i = n.testBit i := by
  rw [bitOf, Nat.testBit_eq_decide_div_mod_eq]
  rfl

theorem bitOf_setBit_of_bitOf {n i : Nat} (k : Nat) (h : bitOf n i = true) : bitOf (setBit n k) i = true := by
  unfold setBit
  split
  · exact h
  next hk =>
    rcases Nat.lt_trichotomy i k with hlt | rfl | hgt
    · rw [bitOf_eq_testBit] at h ⊢
      rwa [Nat.add_comm, Nat.testBit_two_pow_add_gt hlt]
    · exact absurd h hk
    · obtain ⟨d, rfl⟩ : ∃ d, i = k + (d + 1) := ⟨i - k - 1, by omega⟩
      have heven : n / 2 ^ k % 2 = 0 := by simpa [bitOf] using hk
      have hsame : (n + 2 ^ k) / 2 ^ (k + (d + 1)) = n / 2 ^ (k + (d + 1)) := by
        rw [Nat.pow_add, ← Nat.div_div_eq_div_mul, ← Nat.div_div_eq_div_mul, Nat.add_div_right _ (Nat.two_pow_pos k),
          Nat.pow_succ', ← Nat.div_div_eq_div_mul, ← Nat.div_div_eq_div_mul]
        congr 1
        omega
      rwa [bitOf, hsame]

theorem revokeSlot_keeps {slot} {s : State} : s.Keeps [.otp] (s.revokeSlot slot).1 := by
  unfold State.revokeSlot
  extract_lets left ours
  exact .iteFst .refl (blowFuses_keeps fun hs hr =>
    ⟨⟨le_rfl, hs⟩, ⟨le_rfl, hr⟩, le_rfl, fun _ h => bitOf_setBit_of_bitOf slot h⟩)

theorem authorised_keeps {b} {s : State} :
    s.Keeps [.dict, .committed, .awaiting, .events, .otp, .flash, .sec, .log] (s.authorised b) := by
  unfold State.authorised
  exact .ite (.step securityOutcome_keeps <| .step settleResponse_keeps .refl) (.ite (.step securityOutcome_keeps <|
    .step revokeSlot_keeps <| .step settleResponse_keeps .refl) (.ite (.step securityOutcome_keeps <|
    .step settleResponse_keeps .refl) (.step securityOutcome_keeps <| .step stepToReturned_keeps <|
    .step settleResponse_keeps .refl)))

theorem writeAuthorised_keeps {r b} {s : State} :
    s.Keeps [.dict, .committed, .awaiting, .events, .answer, .otp, .flash, .sec, .log, .power, .radio]
      (s.writeAuthorised r b) := by
  unfold State.writeAuthorised
  exact .request (fun _ => .accept (.step authorised_keeps .refl)) .refl

theorem execStepToReturned_keeps {by_ rest} {s : State} :
    s.Leads [.dict, .committed, .awaiting, .events, .answer, .otp, .flash, .sec, .log, .power, .radio]
      (execStepToReturned by_ rest s) := by
  unfold execStepToReturned
  exact .next writeAuthorised_keeps.mono

theorem execRevokeSlot_keeps {by_ rest} {s : State} :
    s.Leads [.dict, .committed, .awaiting, .events, .answer, .otp, .flash, .sec, .log, .power, .radio]
      (execRevokeSlot by_ rest s) := by
  unfold execRevokeSlot
  exact .next writeAuthorised_keeps.mono

theorem execKeySlotWrite_keeps {by_ slot data} {s : State} : s.Leads running (execKeySlotWrite by_ slot data s) := by
  unfold execKeySlotWrite
  exact .next <| .request (fun _ => .step applyWrite_keeps .refl) .refl

theorem eraseSlot_keeps {n} {s : State} : s.Keeps [.dict, .awaiting, .events, .flash, .log] (s.eraseSlot n).1 := by
  unfold State.eraseSlot
  extract_lets
  split
  · exact .refl
  · exact .step keyEvent_keeps <| .step update_flash_keeps .refl

theorem execKeySlotErase_keeps {by_ slot} {s : State} :
    s.Leads [.dict, .awaiting, .events, .answer, .flash, .log, .power, .radio] (execKeySlotErase by_ slot s) := by
  unfold execKeySlotErase
  exact .next <| .request (fun _ => .step eraseSlot_keeps .refl) .refl

theorem lowerLevel_keeps {v} {s : State} : s.Keeps [.dict, .awaiting, .events, .log] (s.lowerLevel v).1 := by
  unfold State.lowerLevel
  split
  · exact .refl
  · exact setLevel_keeps

theorem execLowerLevel_keeps {by_ level} {s : State} :
    s.Leads [.dict, .awaiting, .events, .answer, .log, .power, .radio] (execLowerLevel by_ level s) := by
  unfold execLowerLevel
  exact .next <| .request (fun _ => .step lowerLevel_keeps .refl) .refl

theorem violation_keeps {master target right region address} {s : State} :
    s.Keeps [.dict, .awaiting, .events, .holdings, .sec, .log, .power, .chains, .engines, .loads]
      (s.violation master target right region address) := by
  unfold State.violation
  exact .ite (.iteThen (.step tell_keeps <| .step appendLog_keeps <| .step setBytes_keeps <|
    .step bump_keeps .refl) (.step faultEngine_keeps .refl)) (.iteElse (.step tell_keeps <| .step appendLog_keeps <|
    .step setBytes_keeps <| .step bump_keeps .refl) (.iteThen (.step update_sec_keeps .refl) (.step askSafe_keeps .refl)))

theorem execAccessViolation_keeps {master target right region address} {s : State} :
    s.Leads running (execAccessViolation master target right region address s) := by
  unfold execAccessViolation
  exact .next <| .actAndHold (fun _ => .ite .refl (.step violation_keeps .refl)) .refl

theorem execAcceleratorJobSubmit_keeps {accel engine kind reads writes} {s : State} :
    s.Leads [.dict, .awaiting, .events, .holdings, .sec, .log, .power, .chains, .engines, .loads, .accels]
      (execAcceleratorJobSubmit accel engine kind reads writes s) := by
  unfold execAcceleratorJobSubmit
  refine .next ?_
  split
  · exact .refl
  · refine .ite ?_ .refl
    dsimp only
    split
    · refine .step violation_keeps ?_
      split
      · exact .step violation_keeps <| .step setAccel_keeps sign_keeps.mono
      · exact .step setAccel_keeps sign_keeps.mono
    · split
      · exact .step violation_keeps <| .step setAccel_keeps sign_keeps.mono
      · exact .step setAccel_keeps sign_keeps.mono

theorem tap_keeps {code out} {s : State} : s.Keeps [.sec, .ports] (s.tap code out) := by
  unfold State.tap
  exact .step setPort_keeps <| .step update_sec_keeps .refl

theorem tapBypass_keeps {s : State} : s.Keeps [.sec, .ports] s.tapBypass := by
  unfold State.tapBypass
  exact tap_keeps

theorem execIdcode_keeps {s : State} : s.Leads [.sec, .ports] (execIdcode s) := by
  unfold execIdcode
  exact .next tap_keeps.mono

theorem execDbgStatus_keeps {s : State} : s.Leads [.sec, .ports] (execDbgStatus s) := by
  unfold execDbgStatus
  exact .next tap_keeps.mono

theorem execDbgChallenge_keeps {s : State} : s.Leads [.freeCtr, .sec, .ports] (execDbgChallenge s) := by
  unfold execDbgChallenge
  exact .next <| .ite (.step tapBypass_keeps .refl) (.ite (.step tap_keeps .refl) (.step tap_keeps <|
    .step newChallenge_keeps .refl))

theorem execDbgResponse_keeps {response} {s : State} :
    s.Leads [.dict, .awaiting, .events, .flash, .sec, .log, .ports] (execDbgResponse response s) := by
  unfold execDbgResponse
  exact .next <| .ite (.step tapBypass_keeps .refl) (.iteElse (.step settleResponse_keeps <|
    .step tap_keeps .refl) (.step bump_keeps <| .step setLevel_keeps .refl))

theorem execCoreDebug_keeps {master operation count} {s : State} :
    s.Leads [.freeCtr, .sec, .ports] (execCoreDebug master operation count s) := by
  unfold execCoreDebug
  exact .next <| .ite (.step tapBypass_keeps .refl) (by
    extract_lets
    split
    · exact .step update_sec_keeps <| .step tap_keeps .refl
    · exact .step update_sec_keeps <| .step tap_keeps .refl
    · exact .step update_sec_keeps <| .step tap_keeps .refl
    · exact .step tap_keeps <| .step fresh_keeps <| .step tap_keeps .refl
    · exact .step tap_keeps .refl)

theorem execSamplePreload_keeps {register} {s : State} : s.Leads [.freeCtr, .sec, .ports] (execSamplePreload register s) := by
  unfold execSamplePreload
  exact .next <| .step update_sec_keeps <| .step tap_keeps <| .step fresh_keeps .refl

theorem takeBalls_keeps {code resetN} {s : State} :
    s.Keeps [.dict, .awaiting, .events, .sec, .log, .power, .ports] (s.takeBalls code resetN) := by
  unfold State.takeBalls
  exact .iteElse (.step tap_keeps .refl) (.step setLevel_keeps <| .step update_sec_keeps <| .step askSafe_keeps .refl)

theorem execExtest_keeps {register resetN} {s : State} :
    s.Leads [.dict, .awaiting, .events, .sec, .log, .power, .ports] (execExtest register resetN s) := by
  unfold execExtest
  exact .next <| .step update_sec_keeps <| .step takeBalls_keeps .refl

theorem execClamp_keeps {resetN} {s : State} :
    s.Leads [.dict, .awaiting, .events, .sec, .log, .power, .ports] (execClamp resetN s) := by
  unfold execClamp
  exact .next takeBalls_keeps.mono

theorem execHighz_keeps {resetN} {s : State} :
    s.Leads [.dict, .awaiting, .events, .sec, .log, .power, .ports] (execHighz resetN s) := by
  unfold execHighz
  exact .next takeBalls_keeps.mono

theorem execBypass_keeps {s : State} : s.Leads [.sec, .ports] (execBypass s) := by
  unfold execBypass
  exact .next tapBypass_keeps.mono

theorem feedCv_keeps {p b} {s : State} : s.Keeps [.dict, .cvs] (s.feedCv p b) := by
  unfold State.feedCv
  split
  · exact cvStream_keeps
  · exact .refl

theorem leaveCv_keeps {p} {s : State} : s.Keeps [.dict, .cvs] (s.leaveCv p) := by
  unfold State.leaveCv
  split
  · exact cvClose_keeps
  · exact .refl

theorem sendCan_keeps {b} {s : State} : s.Keeps [.ports, .quoin] (s.sendCan b) := by
  unfold State.sendCan
  exact .step update_quoin_keeps <| .step setPort_keeps .refl

theorem deliver_keeps {p b} {s : State} : s.Keeps [.ports, .quoin] (s.deliver p b) := by
  unfold State.deliver
  exact .ite (.step sendCan_keeps .refl) (.step setPort_keeps .refl)

theorem answered_keeps {p seq resp} {s : State} :
    s.Keeps [.dict, .awaiting, .answeredPorts, .ports, .quoin] (s.answered p seq resp) := by
  unfold State.answered
  exact .iteThen (.step deliver_keeps <| .step setPort_keeps .refl) (.step refreshSync_keeps <| .step setNat_keeps <|
    .step update_answeredPorts_keeps .refl)

theorem closeTransfer_keeps {p applied} {s : State} : s.Keeps [.dict, .cvs, .ports] (s.closeTransfer p applied) := by
  unfold State.closeTransfer
  split
  · exact .refl
  · exact .iteElse (.step leaveCv_keeps <| .step setPort_keeps .refl) (.step bump_keeps .refl)

theorem failTransfer_keeps {p code} {s : State} : s.Keeps [.dict, .cvs, .ports, .quoin] (s.failTransfer p code) := by
  unfold State.failTransfer
  split
  · exact .refl
  · exact .step closeTransfer_keeps <| .step deliver_keeps .refl

theorem leaveToken_keeps {new reason} {s : State} :
    s.Keeps [.dict, .awaiting, .events, .log, .cvs, .ports, .quoin] (s.leaveToken new reason) := by
  unfold State.leaveToken
  extract_lets
  split
  · exact .iteThen (.step moveToken_keeps .refl) (.step failTransfer_keeps .refl)
  · exact moveToken_keeps.mono

theorem clearStatus_keeps {p} {s : State} : s.Keeps [.ports] (s.clearStatus p) := by
  unfold State.clearStatus
  exact setPort_keeps

theorem frameError_keeps {p key} {s : State} : s.Keeps [.dict, .ports] (s.frameError p key) := by
  unfold State.frameError
  exact .step setPort_keeps <| .ite .refl (.step bump_keeps .refl)

theorem tokenCommand_keeps {r v} {s : State} :
    s.Keeps [.dict, .awaiting, .events, .log, .cvs, .ports, .quoin] (s.tokenCommand r v).1 := by
  unfold State.tokenCommand
  extract_lets
  split
  · split
    · exact .refl
    · split
      · exact .refl
      · split
        · exact .refl
        · exact moveToken_keeps.mono
  · split
    · exact .refl
    · split
      · exact leaveToken_keeps
      · split
        · exact .refl
        · exact leaveToken_keeps

theorem writeToken_keeps {r v} {s : State} :
    s.Keeps [.dict, .awaiting, .events, .answer, .log, .power, .radio, .cvs, .ports, .quoin] (s.writeToken r v) := by
  unfold State.writeToken
  exact .request (fun _ => .step tokenCommand_keeps .refl) .refl

theorem execTokenTake_keeps {by_ port} {s : State} :
    s.Leads [.dict, .awaiting, .events, .answer, .log, .power, .radio, .cvs, .ports, .quoin] (execTokenTake by_ port s) := by
  unfold execTokenTake
  exact .next writeToken_keeps.mono

theorem execTokenRelease_keeps {by_} {s : State} :
    s.Leads [.dict, .awaiting, .events, .answer, .log, .power, .radio, .cvs, .ports, .quoin] (execTokenRelease by_ s) := by
  unfold execTokenRelease
  exact .next writeToken_keeps.mono

theorem execTokenHandover_keeps {by_ port} {s : State} :
    s.Leads [.dict, .awaiting, .events, .answer, .log, .power, .radio, .cvs, .ports, .quoin] (execTokenHandover by_ port s) := by
  unfold execTokenHandover
  exact .next writeToken_keeps.mono

theorem execTokenTimeout_keeps {s : State} :
    s.Leads [.dict, .awaiting, .events, .log, .cvs, .ports, .quoin] (execTokenTimeout s) := by
  unfold execTokenTimeout
  exact .next <| .ite (.step leaveToken_keeps .refl) .refl

theorem storeOutcome_keeps {code bytes} {s : State} : s.Keeps [.dict, .awaiting, .events, .log] (s.storeOutcome code bytes) := by
  unfold State.storeOutcome
  exact .step raise_keeps <| .step issuePaired_keeps .refl

theorem storeCommand_keeps {v} {s : State} : s.Keeps [.dict, .awaiting, .events, .flash, .log, .saving] (s.storeCommand v) := by
  unfold State.storeCommand
  split
  · exact .ite (.step storeOutcome_keeps .refl) (.step await_keeps <| .step update_saving_keeps .refl)
  · exact .step storeOutcome_keeps <| .step setNat_keeps <| .step update_flash_keeps .refl
  · exact storeOutcome_keeps.mono

theorem writeStore_keeps {r v} {s : State} :
    s.Keeps [.dict, .awaiting, .held, .events, .answer, .flash, .log, .power, .radio, .saving] (s.writeStore r v) := by
  unfold State.writeStore
  exact .request (fun _ => .pairedBusy (fun _ => .step storeCommand_keeps .refl) .refl) .refl

theorem execStore_keeps {by_} {s : State} :
    s.Leads [.dict, .awaiting, .held, .events, .answer, .flash, .log, .power, .radio, .saving] (execStore by_ s) := by
  unfold execStore
  exact .next writeStore_keeps.mono

theorem execStoreErase_keeps {by_} {s : State} :
    s.Leads [.dict, .awaiting, .held, .events, .answer, .flash, .log, .power, .radio, .saving] (execStoreErase by_ s) := by
  unfold execStoreErase
  exact .next writeStore_keeps.mono

theorem runHeldStore_keeps {s : State} : s.Keeps [.dict, .awaiting, .held, .events, .flash, .log, .saving] s.runHeldStore := by
  unfold State.runHeldStore
  split
  · exact .refl
  · exact .step storeCommand_keeps <| .step update_held_keeps .refl

theorem execStoreComplete_keeps {ok} {s : State} :
    s.Leads [.freeCtr, .dict, .awaiting, .held, .events, .flash, .log, .saving] (execStoreComplete ok s) := by
  unfold execStoreComplete
  refine .next ?_
  split
  · exact .refl
  · exact .step runHeldStore_keeps <| .ite (.step storeOutcome_keeps <| .step cvManagement_keeps <| .step setNat_keeps <|
      .step setNat_keeps <| .step update_flash_keeps <| .step update_saving_keeps .refl) (.step storeOutcome_keeps <|
      .step update_saving_keeps .refl)

theorem execHistoryQuery_keeps {by_ seq} {s : State} : s.Leads running (execHistoryQuery by_ seq s) := by
  unfold execHistoryQuery
  exact .next <| .request (fun _ => .step applyWrite_keeps .refl) .refl

theorem applyQuoin_keeps {s : State} : s.Keeps [.dict, .committed, .cvs, .ports] s.applyQuoin.1 := by
  unfold State.applyQuoin
  exact .guarded (fun _ => .step closeTransfer_keeps <| .step commitKeys_keeps .refl) .refl

theorem execQuoinApply_keeps {by_} {s : State} :
    s.Leads [.dict, .committed, .awaiting, .events, .answer, .log, .power, .radio, .cvs, .ports] (execQuoinApply by_ s) := by
  unfold execQuoinApply
  exact .next <| .request (fun _ => .step applyQuoin_keeps .refl) .refl

theorem updateFree_keeps {v} {s : State} :
    s.Keeps [.freeCtr, .dict, .awaiting, .events, .flash, .log, .upd, .power] (s.updateFree v) := by
  unfold State.updateFree
  exact .ite (.step updateCommand_keeps .refl) (.step updateCommand_keeps <| .step update_freeCtr_keeps <|
    .step update_freeCtr_keeps .refl)

theorem cmdAct1_keeps {r key b} {s : State} : s.Keeps running (cmdAct1 r key b s).1 := by
  unfold cmdAct1
  exact .iteFst tokenCommand_keeps.mono <| .iteFst applyQuoin_keeps.mono <|
    .iteFst (.pairedBusy (fun _ => runJob_keeps.mono) .refl) <|
    .iteFst (.pairedBusy (fun _ => storeCommand_keeps.mono) .refl) <|
    .iteFst (.pairedBusy (fun _ => verbBlock_keeps.mono) .refl) <| .iteFst launchBlock_keeps <|
    .iteFst captureCommand_keeps.mono <| .iteFst restoreAntenna_keeps.mono <| .iteFst plumbCommand_keeps.mono <|
    .iteFst (.iteFst selectResponse_keeps.mono reverseFade_keeps.mono) <|
    .iteFst (.ite clearDatabase_keeps.mono clearAfLists_keeps.mono) <| .iteFst blendCommand_keeps.mono <|
    .iteFst reverseCommand_keeps.mono selectEq_keeps.mono

theorem cmdAct2_keeps {r key b} {s : State} : s.Keeps running (cmdAct2 r key b s).1 := by
  unfold cmdAct2
  exact .iteFst (.pairedBusy (fun _ => radioTest_keeps.mono) .refl) <|
    .iteFst (.pairedBusy (fun _ => wakeRequest_keeps.mono) .refl) <| .iteFst downlink_keeps.mono <|
    .iteFst nodeCommand_keeps.mono <| .iteFst updateFree_keeps.mono <| .iteFst updateChunk_keeps.mono <|
    .iteFst confirmCommand_keeps.mono <| .iteFst requestMode_keeps <| .iteFst stepToSecured_keeps.mono <|
    .iteFst requestChallenge_keeps.mono <| .iteFst authorised_keeps.mono <| .iteFst eraseSlot_keeps.mono lowerLevel_keeps.mono

theorem writeAct_keeps {r key b} {s : State} : s.Keeps running (writeAct r key b s).1 := by
  unfold writeAct
  split
  · exact .refl
  · split
    · split
      · exact cmdAct1_keeps
      · exact cmdAct2_keeps
    · exact applyWrite_keeps

theorem writeObject_keeps {r key b} {s : State} : s.Keeps running (s.writeObject r key b) := by
  unfold State.writeObject
  exact .request (fun _ => .step writeAct_keeps .refl) .refl

theorem execObjectWrite_keeps {by_ index sub data} {s : State} : s.Leads running (execObjectWrite by_ index sub data s) := by
  unfold execObjectWrite
  exact .next writeObject_keeps.mono

theorem glimmerWake_keeps {s : State} : s.Keeps [.dict, .awaiting, .events, .log, .power] s.glimmerWake := by
  unfold State.glimmerWake
  exact .ite (.ite (.step bump_keeps <| .step wake_keeps .refl) .refl) (by
    split
    · exact watchMatch_keeps
    · exact .ite (.ite (.step wake_keeps .refl) .refl) (.ite (.step update_power_keeps .refl) .refl))

theorem takeWord_keeps {code target} {s : State} :
    s.Keeps [.dict, .awaiting, .events, .log, .power, .radio] (s.takeWord code target) := by
  unfold State.takeWord
  exact .ite .refl (.ite (.step bump_keeps .refl) (.ite (.step glimmerWake_keeps <| .step setNat_keeps .refl) (by
    extract_lets
    split
    · exact .ite (.step glimmerWake_keeps <| .step update_radio_keeps <| .step setNat_keeps .refl) (.step update_radio_keeps <|
        .step setNat_keeps .refl)
    · exact .step update_radio_keeps <| .step setNat_keeps .refl)))

theorem execGlimmerWord_keeps {preamble rate halves} {s : State} :
    s.Leads [.dict, .awaiting, .events, .log, .power, .radio] (execGlimmerWord preamble rate halves s) := by
  unfold execGlimmerWord
  exact .next <| .ite (by
    split
    · exact takeWord_keeps
    · exact .refl) .refl

theorem execSpuriousWake_keeps {s : State} : s.Leads [.dict, .radio] (execSpuriousWake s) := by
  unfold execSpuriousWake
  refine .next ?_
  split
  · exact .ite .refl (.iteThen (.step bump_keeps <| .step update_radio_keeps .refl) (.step setNat_keeps .refl))
  · exact .refl

theorem execMatchModeReset_keeps {s : State} : s.Leads [.dict, .radio] (execMatchModeReset s) := by
  unfold execMatchModeReset
  exact .next <| .ite (.step setNat_keeps <| .step update_radio_keeps .refl) .refl

theorem answerFrame_keeps {p kind seq code key flags readNo data} {s : State} :
    s.Keeps [.dict, .awaiting, .answeredPorts, .ports, .quoin] (s.answerFrame p kind seq code key flags readNo data) := by
  unfold State.answerFrame
  exact .ite (.step answered_keeps .refl) (.step deliver_keeps .refl)

theorem transferSeen_keeps {p t} {s : State} : s.Keeps [.dict, .power, .radio, .ports] (s.transferSeen p t) := by
  unfold State.transferSeen
  exact .step touch_keeps <| .step setPort_keeps .refl

theorem frameRead_keeps {p seq f} {s : State} :
    s.Keeps [.dict, .awaiting, .fifos, .answer, .answeredPorts, .power, .radio, .ports, .quoin] (s.frameRead p seq f) := by
  unfold State.frameRead
  exact .step answerFrame_keeps <| .step readAs_keeps .refl

theorem frameWrite_keeps {p seq f} {s : State} : s.Keeps running (s.frameWrite p seq f) := by
  unfold State.frameWrite
  exact .ite (.step answerFrame_keeps .refl) (.ite (.step answerFrame_keeps .refl) (.step answerFrame_keeps <|
    .step writeObject_keeps .refl))

theorem frameInitiateRead_keeps {p seq f} {s : State} :
    s.Keeps [.dict, .awaiting, .fifos, .answer, .answeredPorts, .power, .radio, .cvs, .ports, .quoin]
      (s.frameInitiateRead p seq f) := by
  unfold State.frameInitiateRead
  exact .ite (.step answerFrame_keeps <| .step readAs_keeps <| .step closeTransfer_keeps .refl) (.step answerFrame_keeps <|
    .step setPort_keeps <| .step leaveCv_keeps <| .step feedCv_keeps <| .step readAs_keeps <| .step closeTransfer_keeps .refl)

theorem frameInitiateWrite_keeps {p seq f} {s : State} :
    s.Keeps [.dict, .awaiting, .events, .answeredPorts, .log, .power, .radio, .cvs, .ports, .quoin]
      (s.frameInitiateWrite p seq f) := by
  unfold State.frameInitiateWrite
  exact .ite (.step answerFrame_keeps <| .step closeTransfer_keeps .refl) (.ite (.step answerFrame_keeps <|
    .step autoTake_keeps <| .step closeTransfer_keeps .refl) (.step answerFrame_keeps <| .step transferSeen_keeps <|
    .step autoTake_keeps <| .step closeTransfer_keeps .refl))

theorem dropSegment_keeps {s : State} : s.Keeps [.dict] s.dropSegment := by
  unfold State.dropSegment
  exact bump_keeps

theorem frameBlockRequest_keeps {p seq f} {s : State} :
    s.Keeps [.dict, .awaiting, .answeredPorts, .power, .radio, .ports, .quoin] (s.frameBlockRequest p seq f) := by
  unfold State.frameBlockRequest
  split
  · exact dropSegment_keeps.mono
  · exact .ite (.step dropSegment_keeps .refl) (.ite (.step answerFrame_keeps .refl) (.ite (.step answerFrame_keeps .refl)
      (.foldl (fun _ _ => .step deliver_keeps .refl) (.step transferSeen_keeps .refl))))

theorem acknowledge_keeps {p t next} {s : State} : s.Keeps [.ports, .quoin] (s.acknowledge p t next) := by
  unfold State.acknowledge
  exact deliver_keeps

theorem frameSegment_keeps {p seq f} {s : State} :
    s.Keeps [.dict, .power, .radio, .cvs, .ports, .quoin] (s.frameSegment p seq f) := by
  unfold State.frameSegment
  split
  · exact dropSegment_keeps.mono
  · exact .ite (.step dropSegment_keeps .refl) (.ite (.step failTransfer_keeps <|
      .step transferSeen_keeps .refl) (.ite (.iteThen (.step transferSeen_keeps .refl) (.step acknowledge_keeps .refl)) (.ite
      (.step failTransfer_keeps <| .step transferSeen_keeps .refl) (.ite (.step failTransfer_keeps <|
      .step transferSeen_keeps .refl) (.iteThen (.step feedCv_keeps <| .step setPort_keeps <|
      .step transferSeen_keeps .refl) (.step acknowledge_keeps .refl))))))

theorem frameEnd_keeps {p seq f} {s : State} : s.Keeps running (s.frameEnd p seq f) := by
  unfold State.frameEnd
  split
  · exact answerFrame_keeps.mono
  · exact .ite (.step answerFrame_keeps <| .step touch_keeps <| .step closeTransfer_keeps .refl) (.step answerFrame_keeps <|
      .iteElse (.carryOut (fun _ => .step writeAct_keeps .refl) (.step closeTransfer_keeps .refl)) (.step bump_keeps .refl))

theorem frameAbort_keeps {p seq} {s : State} :
    s.Keeps [.dict, .awaiting, .answeredPorts, .power, .radio, .cvs, .ports, .quoin] (s.frameAbort p seq) := by
  unfold State.frameAbort
  exact .step answerFrame_keeps <| .step touch_keeps <| .step closeTransfer_keeps .refl

theorem frameSync_keeps {p seq} {s : State} : s.Keeps [.dict, .awaiting, .answeredPorts, .ports, .quoin] (s.frameSync p seq) := by
  unfold State.frameSync
  exact answerFrame_keeps

theorem handleFrame_keeps {p f} {s : State} : s.Keeps running (s.handleFrame p f) := by
  unfold State.handleFrame
  dsimp only
  split
  · exact deliver_keeps.mono
  · split
    · exact answerFrame_keeps.mono
    · refine .ite answerFrame_keeps.mono ?_
      split
      · exact frameRead_keeps.mono
      · exact frameWrite_keeps
      · exact frameInitiateRead_keeps.mono
      · exact frameInitiateWrite_keeps.mono
      · exact frameBlockRequest_keeps.mono
      · exact frameSegment_keeps.mono
      · exact frameEnd_keeps
      · exact frameAbort_keeps.mono
      · exact frameSync_keeps.mono

theorem clearOut_keeps {p} {s : State} : s.Keeps [.ports] (s.clearOut p) := by
  unfold State.clearOut
  exact setPort_keeps

theorem quoinFrame_keeps {kind good seq body} {s : State} : s.Keeps running (s.quoinFrame kind good seq body) := by
  unfold State.quoinFrame
  exact .iteElse (.step clearOut_keeps .refl) (.ite (.step bump_keeps .refl) (.step handleFrame_keeps <| .step bump_keeps <|
    .step update_quoin_keeps .refl))

theorem execQuoinRead_keeps {good seq body} {s : State} : s.Leads running (execQuoinRead good seq body s) := by
  unfold execQuoinRead
  exact .next quoinFrame_keeps.mono

theorem execQuoinWrite_keeps {good seq body} {s : State} : s.Leads running (execQuoinWrite good seq body s) := by
  unfold execQuoinWrite
  exact .next quoinFrame_keeps.mono

theorem execInitiateRead_keeps {good seq body} {s : State} : s.Leads running (execInitiateRead good seq body s) := by
  unfold execInitiateRead
  exact .next quoinFrame_keeps.mono

theorem execInitiateWrite_keeps {good seq body} {s : State} : s.Leads running (execInitiateWrite good seq body s) := by
  unfold execInitiateWrite
  exact .next quoinFrame_keeps.mono

theorem execBlockRequest_keeps {good seq body} {s : State} : s.Leads running (execBlockRequest good seq body s) := by
  unfold execBlockRequest
  exact .next quoinFrame_keeps.mono

theorem execSegment_keeps {good seq body} {s : State} : s.Leads running (execSegment good seq body s) := by
  unfold execSegment
  exact .next quoinFrame_keeps.mono

theorem execEndTransfer_keeps {good seq body} {s : State} : s.Leads running (execEndTransfer good seq body s) := by
  unfold execEndTransfer
  exact .next quoinFrame_keeps.mono

theorem execAbortTransfer_keeps {good seq body} {s : State} : s.Leads running (execAbortTransfer good seq body s) := by
  unfold execAbortTransfer
  exact .next quoinFrame_keeps.mono

theorem execSyncRequest_keeps {good seq body} {s : State} : s.Leads running (execSyncRequest good seq body s) := by
  unfold execSyncRequest
  exact .next quoinFrame_keeps.mono

theorem execTransferTimeout_keeps {port} {s : State} : s.Leads [.dict, .cvs, .ports, .quoin] (execTransferTimeout port s) := by
  unfold execTransferTimeout
  refine .next ?_
  extract_lets
  split
  · exact .ite (.step failTransfer_keeps <| .step clearOut_keeps .refl) .refl
  · exact .refl

theorem sendEvents_keeps {s : State} : s.Keeps [.events, .ports, .quoin] s.sendEvents := by
  unfold State.sendEvents
  exact .step sendCan_keeps <| .step clearOut_keeps <| .step update_events_quoin_keeps .refl

theorem execEventFrame_keeps {s : State} : s.Leads [.events, .ports, .quoin] (execEventFrame s) := by
  unfold execEventFrame
  exact .next <| .ite (.step sendEvents_keeps .refl) .refl

theorem execQuoinWatchWake_keeps {edge} {s : State} : s.Leads [.dict, .quoin] (execQuoinWatchWake edge s) := by
  unfold execQuoinWatchWake
  exact .next <| .ite (.step setNat_keeps <| .step update_quoin_keeps .refl) .refl

theorem execQuoinIdle_keeps {s : State} : s.Leads [.dict] (execQuoinIdle s) := by
  unfold execQuoinIdle
  exact .next <| .ite (.step setNat_keeps .refl) .refl

theorem execBusOff_keeps {tec rec_} {s : State} : s.Leads [.dict] (execBusOff tec rec_ s) := by
  unfold execBusOff
  exact .next <| .ite (.ite (.step bump_keeps <| .step setNat_keeps <| .step setNat_keeps <|
    .step setNat_keeps .refl) (.step setNat_keeps <| .step setNat_keeps <| .step setNat_keeps .refl)) .refl

theorem execBusOffRecovery_keeps {s : State} : s.Leads [.dict] (execBusOffRecovery s) := by
  unfold execBusOffRecovery
  exact .next <| .ite (.step setNat_keeps <| .step setNat_keeps <| .step setNat_keeps .refl) .refl

theorem serviceFrame_keeps {ext f} {s : State} : s.Keeps running (s.serviceFrame ext f).2 := by
  unfold State.serviceFrame
  extract_lets
  split
  · exact .refl
  · split
    · exact readAs_keeps.mono
    · split
      · exact writeObject_keeps
      · exact .refl

theorem execServiceRequest_keeps {s : State} : s.Leads running (execServiceRequest s) := by
  unfold execServiceRequest
  refine .next ?_
  split
  · exact .refl
  next w t ht =>
    refine .trans (takeWork_keeps ht).mono (.ite (.step bump_keeps .refl) ?_)
    exact .step handVoussoir_keeps <| .step serviceFrame_keeps .refl

theorem dropEvents_keeps {p n} {s : State} : s.Keeps [.events] (s.dropEvents p n) := by
  unfold State.dropEvents
  extract_lets
  split
  · exact update_events_keeps
  · exact update_events_keeps
  · exact .refl

theorem consumeResponse_keeps {p} {s : State} : s.Keeps [.ports] (s.consumeResponse p) := by
  unfold State.consumeResponse
  extract_lets
  split
  · exact .refl
  · exact setPort_keeps

theorem consumeEvents_keeps {p n} {s : State} : s.Keeps [.events, .ports] (s.consumeEvents p n) := by
  unfold State.consumeEvents
  exact .step dropEvents_keeps <| .step setPort_keeps .refl

theorem sendOut_keeps {p b} {s : State} : s.Keeps [.ports] (s.sendOut p b) := by
  unfold State.sendOut
  exact setPort_keeps

theorem twoWireSeen_keeps {s : State} : s.Keeps [.twoWire] s.twoWireSeen := by
  unfold State.twoWireSeen
  exact update_twoWire_keeps

theorem twoWireDone_keeps {s : State} : s.Keeps [.dict, .twoWire] s.twoWireDone := by
  unfold State.twoWireDone
  exact .step update_twoWire_keeps <| .step bump_keeps .refl

theorem twoWireSettle_keeps {s : State} : s.Keeps [.twoWire] s.twoWireSettle := by
  unfold State.twoWireSettle
  exact update_twoWire_keeps

theorem execTwoWireRequest_keeps {count data pec} {s : State} : s.Leads running (execTwoWireRequest count data pec s) := by
  unfold execTwoWireRequest
  exact .next <| .ite .refl (.ite (.step bump_keeps <| .step twoWireSeen_keeps <|
    .step clearOut_keeps .refl) (.ite (.step frameError_keeps <| .step twoWireSeen_keeps <|
    .step clearOut_keeps .refl) (.ite (.step frameError_keeps <| .step twoWireSeen_keeps <|
    .step clearOut_keeps .refl) (.step handleFrame_keeps <| .step twoWireDone_keeps <| .step twoWireSeen_keeps <|
    .step clearOut_keeps .refl))))

theorem State.Keeps.blockRead {F command item take taken pec} {s t : State} (htake : ∀ t : State, t.Keeps F (take t))
    (h : s.Keeps F t) (hF : [.dict, .ports, .twoWire] ⊆ F := by decide) : s.Keeps F (t.blockRead command item take taken pec) := by
  have dict {k} {u : State} : u.Keeps F (u.bump k) := bump_keeps.mono (List.Subset.trans (by decide) hF)
  have out {b} {u : State} : u.Keeps F (u.sendOut 2 b) := sendOut_keeps.mono (List.Subset.trans (by decide) hF)
  have done {u : State} : u.Keeps F u.twoWireDone := twoWireDone_keeps.mono (List.Subset.trans (by decide) hF)
  have settle {u : State} : u.Keeps F u.twoWireSettle := twoWireSettle_keeps.mono (List.Subset.trans (by decide) hF)
  have seen {u : State} : u.Keeps F (u.clearOut 2).twoWireSeen :=
    (State.Keeps.step twoWireSeen_keeps (.step clearOut_keeps .refl) : u.Keeps [.dict, .ports, .twoWire] _).mono hF
  exact h.trans (.ite .refl (seen.trans (.ite dict (.trans (.iteThen out done) (.iteThen .refl ((htake _).trans settle))))))

theorem execTwoWireResponse_keeps {taken pec} {s : State} :
    s.Leads [.dict, .ports, .twoWire] (execTwoWireResponse taken pec s) := by
  unfold execTwoWireResponse
  exact .next <| .blockRead (fun _ => .step consumeResponse_keeps .refl) .refl

theorem execTwoWireEvents_keeps {taken pec} {s : State} :
    s.Leads [.dict, .events, .ports, .twoWire] (execTwoWireEvents taken pec s) := by
  unfold execTwoWireEvents
  exact .next <| .blockRead (fun _ => .step consumeEvents_keeps .refl) .refl

theorem execTwoWireResponseRepeat_keeps {taken} {s : State} :
    s.Leads [.dict, .ports, .twoWire] (execTwoWireResponseRepeat taken s) := by
  unfold execTwoWireResponseRepeat
  exact .next <| .blockRead (fun _ => .refl) .refl

theorem execTwoWireEventsRepeat_keeps {taken} {s : State} :
    s.Leads [.dict, .ports, .twoWire] (execTwoWireEventsRepeat taken s) := by
  unfold execTwoWireEventsRepeat
  exact .next <| .blockRead (fun _ => .refl) .refl

theorem execTwoWireStatus_keeps {s : State} : s.Leads [.dict, .ports, .twoWire] (execTwoWireStatus s) := by
  unfold execTwoWireStatus
  exact .next <| .ite .refl (.step clearStatus_keeps <| .step sendOut_keeps <| .step twoWireDone_keeps .refl)

theorem busErrorEvent_keeps {cause} {s : State} : s.Keeps [.dict, .awaiting, .events, .log] (s.busErrorEvent cause) := by
  unfold State.busErrorEvent
  exact raise_keeps

theorem execSclTimeout_keeps {s : State} : s.Leads [.dict, .awaiting, .events, .log, .ports] (execSclTimeout s) := by
  unfold execSclTimeout
  exact .next <| .ite (.step busErrorEvent_keeps <| .step bump_keeps <| .step clearOut_keeps .refl) .refl

theorem execBusError_keeps {cause} {s : State} : s.Leads [.dict, .awaiting, .events, .log, .ports] (execBusError cause s) := by
  unfold execBusError
  exact .next <| .ite .refl (.ite (.step frameError_keeps <| .step clearOut_keeps .refl) (.step busErrorEvent_keeps <|
    .step bump_keeps <| .step clearOut_keeps .refl))

theorem execTargetWake_keeps {s : State} : s.Leads [.dict, .power, .ports, .twoWire] (execTargetWake s) := by
  unfold execTargetWake
  exact .next <| .ite (.iteThen (.step clearOut_keeps <| .step update_twoWire_keeps .refl) (.step wake_keeps .refl)) .refl

theorem execTargetWakeIdle_keeps {s : State} : s.Leads [.twoWire] (execTargetWakeIdle s) := by
  unfold execTargetWakeIdle
  exact .next <| .ite (.step update_twoWire_keeps .refl) .refl

theorem execHostNotify_keeps {acked} {s : State} : s.Leads [.dict, .ports, .twoWire] (execHostNotify acked s) := by
  unfold execHostNotify
  exact .next <| .ite .refl (.step update_twoWire_keeps <| .step bump_keeps <| .step sendOut_keeps .refl)

theorem execArbitrationLost_keeps {addressed} {s : State} :
    s.Leads [.dict, .ports, .twoWire] (execArbitrationLost addressed s) := by
  unfold execArbitrationLost
  exact .next <| .ite .refl (.iteThen (.step bump_keeps <| .step clearOut_keeps .refl) (.step twoWireSeen_keeps .refl))

theorem spiCount_keeps {p sub} {s : State} : s.Keeps [.dict] (s.spiCount p sub) := by
  unfold State.spiCount
  exact .ite (.step bump_keeps .refl) .refl

theorem spiByte0_keeps {p} {s : State} : s.Keeps [.ports] (s.spiByte0 p) := by
  unfold State.spiByte0
  exact .step clearStatus_keeps <| .step sendOut_keeps .refl

theorem spiOut_keeps {p b} {s : State} : s.Keeps [.ports] (s.spiOut p b) := by
  unfold State.spiOut
  exact setPort_keeps

theorem State.Keeps.spiFrame {F p act} {s t : State} (hact : ∀ t : State, t.Keeps F (act t)) (h : s.Keeps F t)
    (hF : [.dict, .ports] ⊆ F := by decide) : s.Keeps F (t.spiFrame p act) := by
  have counted {n} {u : State} : u.Keeps F (u.spiCount p n) := spiCount_keeps.mono (List.Subset.trans (by decide) hF)
  have opened {u : State} : u.Keeps F (u.spiByte0 p) := spiByte0_keeps.mono (List.Subset.trans (by decide) hF)
  exact h.trans (.trans (opened.trans counted) (.ite (hact _) counted))

theorem spiRequest_keeps {p header length rest} {s : State} : s.Keeps running (s.spiRequest p header length rest) := by
  unfold State.spiRequest
  exact .ite (.step frameError_keeps .refl) (.ite (.step frameError_keeps .refl) (.ite (.step frameError_keeps .refl)
    (.step handleFrame_keeps .refl)))

theorem State.Keeps.spiRead {F p header length item take taken} {s t : State} (htake : ∀ t : State, t.Keeps F (take t))
    (h : s.Keeps F t) (hF : [.dict, .ports] ⊆ F := by decide) : s.Keeps F (t.spiRead p header length item take taken) := by
  have failed {k} {u : State} : u.Keeps F (u.frameError p k) := frameError_keeps.mono (List.Subset.trans (by decide) hF)
  have out {b} {u : State} : u.Keeps F (u.spiOut p b) := spiOut_keeps.mono (List.Subset.trans (by decide) hF)
  exact h.trans (.ite failed (out.trans (.ite (htake _) .refl)))

theorem spiOperation_keeps {p command length check rest taken} {s : State} :
    s.Keeps running (s.spiOperation p command length check rest taken) := by
  unfold State.spiOperation
  extract_lets
  split
  · exact spiRequest_keeps
  · exact .spiRead (fun _ => .step consumeResponse_keeps .refl) .refl
  · exact .spiRead (fun _ => .step consumeEvents_keeps .refl) .refl
  · exact .spiRead (fun _ => .refl) .refl
  · exact .spiRead (fun _ => .refl) .refl
  · exact frameError_keeps.mono

theorem spiPort_keeps {operation flags length check rest taken} {s : State} :
    s.Keeps running (s.spiPort operation flags length check rest taken) := by
  unfold State.spiPort
  exact .ite (.spiFrame (fun _ => .step spiOperation_keeps .refl) .refl) .refl

theorem execSpiRequest_keeps {flags length check rest} {s : State} :
    s.Leads running (execSpiRequest flags length check rest s) := by
  unfold execSpiRequest
  exact .next spiPort_keeps.mono

theorem execSpiResponse_keeps {flags length check taken} {s : State} :
    s.Leads running (execSpiResponse flags length check taken s) := by
  unfold execSpiResponse
  exact .next spiPort_keeps.mono

theorem execSpiEvents_keeps {flags length check taken} {s : State} :
    s.Leads running (execSpiEvents flags length check taken s) := by
  unfold execSpiEvents
  exact .next spiPort_keeps.mono

theorem execSpiResponseRepeat_keeps {flags length check} {s : State} :
    s.Leads running (execSpiResponseRepeat flags length check s) := by
  unfold execSpiResponseRepeat
  exact .next spiPort_keeps.mono

theorem execSpiEventsRepeat_keeps {flags length check} {s : State} :
    s.Leads running (execSpiEventsRepeat flags length check s) := by
  unfold execSpiEventsRepeat
  exact .next spiPort_keeps.mono

theorem execStatusPoll_keeps {s : State} : s.Leads [.ports] (execStatusPoll s) := by
  unfold execStatusPoll
  exact .next <| .ite (.step spiByte0_keeps .refl) .refl

theorem execDbgAccess_keeps {command length check rest taken} {s : State} :
    s.Leads running (execDbgAccess command length check rest taken s) := by
  unfold execDbgAccess
  exact .next <| .ite (.step tapBypass_keeps .refl) (.ite (.step spiByte0_keeps <|
    .step tap_keeps .refl) (.spiFrame (fun _ => .step spiOperation_keeps .refl) (.step tap_keeps .refl)))

theorem count_keeps {s : State} : s.Keeps [.gnomon, .power] s.count := by
  unfold State.count
  exact .ite (.step update_power_keeps .refl) (.step update_gnomon_keeps .refl)

theorem tickPdo_keeps {s : State} : s.Keeps [.dict, .ports, .quoin, .pdos] s.tickPdo := by
  unfold State.tickPdo
  extract_lets
  split
  · exact .ite (.step sendPdo_keeps .refl) .refl
  · exact .refl

theorem tickAccels_keeps {s : State} : s.Keeps [.accels] s.tickAccels := by
  unfold State.tickAccels
  exact .foldl (fun _ _ => .step tickAccel_keeps .refl) .refl

theorem tickPlumb_keeps {p} {s : State} : s.Keeps [.dict, .awaiting, .events, .launch, .log, .plumb] (s.tickPlumb p) := by
  unfold State.tickPlumb
  exact .step announceTest_keeps <| .step tryPlace_keeps <| .step rejudgeNulls_keeps .refl

theorem tick_keeps {s : State} : s.Keeps anything s.tick := by
  unfold State.tick
  exact .step tickSafe_keeps <| .step tickPlumb_keeps <| .step tickPlumb_keeps <| .step tickPdo_keeps <| .step tickLoads_keeps <|
    .step tickAccels_keeps <| .step tickGain_keeps <| .step tickGain_keeps <| .step tickCv_keeps <| .step tickCv_keeps <|
    .step tickCv_keeps <| .step tickCv_keeps <| .step tickBackoff_keeps <| .step tickWake_keeps <| .step count_keeps .refl

/-! ### Every command -/

theorem State.Leads.mono {F G : List FieldName} {s : State} {o : Host.Outcome State Fault Refusal} (h : s.Leads G o)
    (hG : G ⊆ F := by decide) : s.Leads F o := by
  cases o with
  | next t => exact State.Keeps.mono h hG
  | fault | refused => exact h

/-- The commands that write the Gnomon count (R39, R40, R53, R454). -/
def writesGnomon (c : Instr) : Bool :=
  c matches .parkedResume .. | .tbSyncFollowerLoad | .reset .. | .managementWatchdog | .supplyLevel .. | .trialExpiry

/-- What a command that does not write the Gnomon count keeps. -/
theorem exec_leads_running {c : Instr} {s : State} (h : writesGnomon c = false) : s.Leads running (exec c s) := by
  cases c with
  | parkedResume | tbSyncFollowerLoad | reset | managementWatchdog | supplyLevel | trialExpiry => cases h
  | claim => exact execClaim_keeps
  | claimAcceleratorShares => exact execClaimAcceleratorShares_keeps
  | configure => exact execConfigure_keeps
  | courseConfigure => exact execCourseConfigure_keeps
  | start => exact execStart_keeps
  | hold => exact execHold_keeps
  | resume => exact execResume_keeps
  | release => exact execRelease_keeps
  | releaseAcceleratorShares => exact execReleaseAcceleratorShares_keeps
  | launchPlace => exact execLaunchPlace_keeps
  | launchCancel => exact execLaunchCancel_keeps
  | launchStartFiring => exact execLaunchStartFiring_keeps
  | courseLeafPrepare => exact execCourseLeafPrepare_keeps
  | launchHoldFiring => exact execLaunchHoldFiring_keeps
  | courseRankHeld => exact execCourseRankHeld_keeps
  | launchResumeFiring => exact execLaunchResumeFiring_keeps
  | chainRetune => exact execChainRetune_keeps.mono
  | antennaSwitch => exact execAntennaSwitch_keeps.mono
  | portGroupStart => exact execPortGroupStart_keeps.mono
  | plumbBlank => exact execPlumbBlank_keeps.mono
  | plumbTrimChange => exact execPlumbTrimChange_keeps.mono
  | plumbBlankEnd => exact execPlumbBlankEnd_keeps.mono
  | meshTx => exact execMeshTx_keeps.mono
  | gpioChange => exact execGpioChange_keeps.mono
  | captureTrigger => exact execCaptureTrigger_keeps.mono
  | tbSyncPulse => exact execTbSyncPulse_keeps.mono
  | lockGroupWrite => exact execLockGroupWrite_keeps.mono
  | tbSyncCheck => exact execTbSyncCheck_keeps.mono
  | clkOutEnableWrite => exact execClkOutEnableWrite_keeps.mono
  | agcWindowEnd => exact execAgcWindowEnd_keeps.mono
  | agcReleaseStep => exact execAgcReleaseStep_keeps.mono
  | lnaTrip => exact execLnaTrip_keeps.mono
  | manualGrWrite => exact execManualGrWrite_keeps.mono
  | agcModeWrite => exact execAgcModeWrite_keeps.mono
  | amAttenuationStep => exact execAmAttenuationStep_keeps.mono
  | sampleClockUnlock => exact execSampleClockUnlock_keeps.mono
  | sampleClockRelock => exact execSampleClockRelock_keeps.mono
  | overloadFlagsClear => exact execOverloadFlagsClear_keeps.mono
  | antennaShort => exact execAntennaShort_keeps.mono
  | antennaCurrentJudge => exact execAntennaCurrentJudge_keeps.mono
  | antennaRetry => exact execAntennaRetry_keeps.mono
  | antennaRestore => exact execAntennaRestore_keeps.mono
  | plumbWindowEnd => exact execPlumbWindowEnd_keeps.mono
  | plumbProposalReady => exact execPlumbProposalReady_keeps.mono
  | plumbPostCheck => exact execPlumbPostCheck_keeps.mono
  | plumbProtectedLost => exact execPlumbProtectedLost_keeps.mono
  | plumbRunCycle => exact execPlumbRunCycle_keeps.mono
  | plumbRestoreKept => exact execPlumbRestoreKept_keeps.mono
  | plumbLoadFactory => exact execPlumbLoadFactory_keeps.mono
  | plumbApplyStaged => exact execPlumbApplyStaged_keeps.mono
  | plumbBlankTestStart => exact execPlumbBlankTestStart_keeps.mono
  | plumbBlankTestStop => exact execPlumbBlankTestStop_keeps.mono
  | plumbModeWrite => exact execPlumbModeWrite_keeps.mono
  | responseSelect => exact execResponseSelect_keeps.mono
  | fadeReverse => exact execFadeReverse_keeps.mono
  | fadeEnd => exact execFadeEnd_keeps.mono
  | dcFreezeWrite => exact execDcFreezeWrite_keeps.mono
  | chainBlockOut => exact execChainBlockOut_keeps
  | saturationClear => exact execSaturationClear_keeps.mono
  | detectorBlockEnd => exact execDetectorBlockEnd_keeps.mono
  | detectorSettingWrite => exact execDetectorSettingWrite_keeps.mono
  | engineLoadComplete => exact execEngineLoadComplete_keeps
  | engineZeroingComplete => exact execEngineZeroingComplete_keeps
  | engineFault => exact execEngineFault_keeps
  | engineWatchdog => exact execEngineWatchdog_keeps
  | engineRestartReload => exact execEngineRestartReload_keeps.mono
  | engineRestoreEnd => exact execEngineRestoreEnd_keeps
  | acceleratorJobSubmit => exact execAcceleratorJobSubmit_keeps.mono
  | acceleratorJobComplete => exact execAcceleratorJobComplete_keeps.mono
  | acceleratorTimeout => exact execAcceleratorTimeout_keeps
  | acceleratorMemoryError => exact execAcceleratorMemoryError_keeps
  | acceleratorWaitClear => exact execAcceleratorWaitClear_keeps.mono
  | peakCycleLoadClear => exact execPeakCycleLoadClear_keeps.mono
  | fmControlUpdate => exact execFmControlUpdate_keeps.mono
  | fmMetricsPublish => exact execFmMetricsPublish_keeps.mono
  | pilotDetected => exact execPilotDetected_keeps.mono
  | pilotLost => exact execPilotLost_keeps.mono
  | fmBandwidthJudge => exact execFmBandwidthJudge_keeps.mono
  | diversityEstimate => exact execDiversityEstimate_keeps.mono
  | diversitySelect => exact execDiversitySelect_keeps.mono
  | inputBAbsent => exact execInputBAbsent_keeps.mono
  | fmBlockProcess => exact execFmBlockProcess_keeps.mono
  | rdsSyncGained => exact execRdsSyncGained_keeps.mono
  | rdsSyncLost => exact execRdsSyncLost_keeps.mono
  | rdsGroup => exact execRdsGroup_keeps.mono
  | tmcGroup => exact execTmcGroup_keeps.mono
  | tmcIncompleteTimeout => exact execTmcIncompleteTimeout_keeps.mono
  | lanternPeriodEnd => exact execLanternPeriodEnd_keeps.mono
  | lanternConfirmation => exact execLanternConfirmation_keeps.mono
  | entryExpiry => exact execEntryExpiry_keeps.mono
  | lanternFieldUpdate => exact execLanternFieldUpdate_keeps.mono
  | lanternEventMerge => exact execLanternEventMerge_keeps.mono
  | lanternClearDatabase => exact execLanternClearDatabase_keeps.mono
  | lanternClearAf => exact execLanternClearAf_keeps.mono
  | queryPi => exact execQueryPi_keeps.mono
  | lanternRawGroup => exact execLanternRawGroup_keeps.mono
  | dabNullFound => exact execDabNullFound_keeps.mono
  | dabPrsCorrelate => exact execDabPrsCorrelate_keeps.mono
  | dabFicAcquired => exact execDabFicAcquired_keeps.mono
  | dabAcquisitionFail => exact execDabAcquisitionFail_keeps.mono
  | dabSyncLost => exact execDabSyncLost_keeps.mono
  | dabSyncRegained => exact execDabSyncRegained_keeps.mono
  | dabLostTimeout => exact execDabLostTimeout_keeps
  | dabNullReport => exact execDabNullReport_keeps.mono
  | dabFrameEnd => exact execDabFrameEnd_keeps.mono
  | dabCifDecode => exact execDabCifDecode_keeps.mono
  | dabReconfiguration => exact execDabReconfiguration_keeps.mono
  | dabFigDecode => exact execDabFigDecode_keeps.mono
  | dabSiCompleteTimeout => exact execDabSiCompleteTimeout_keeps.mono
  | dabServiceSelect => exact execDabServiceSelect_keeps.mono
  | dabAccessUnit => exact execDabAccessUnit_keeps
  | dabPacketGroup => exact execDabPacketGroup_keeps.mono
  | announcementStart => exact execAnnouncementStart_keeps.mono
  | announcementEnd => exact execAnnouncementEnd_keeps.mono
  | amPlllockChange => exact execAmPlllockChange_keeps.mono
  | amBandwidthJudge => exact execAmBandwidthJudge_keeps.mono
  | amMetricsPublish => exact execAmMetricsPublish_keeps.mono
  | noiseBlankerSuspend => exact execNoiseBlankerSuspend_keeps.mono
  | amBlockProcess => exact execAmBlockProcess_keeps.mono
  | drmModeFound => exact execDrmModeFound_keeps.mono
  | drmFrameSync => exact execDrmFrameSync_keeps.mono
  | drmFacAcquired => exact execDrmFacAcquired_keeps.mono
  | drmSyncLost => exact execDrmSyncLost_keeps.mono
  | drmLostTimeout => exact execDrmLostTimeout_keeps.mono
  | drmAcquisitionFail => exact execDrmAcquisitionFail_keeps.mono
  | drmMscFrame => exact execDrmMscFrame_keeps.mono
  | drmSdcDecode => exact execDrmSdcDecode_keeps.mono
  | drmScheduleEval => exact execDrmScheduleEval_keeps.mono
  | drmServiceSelect => exact execDrmServiceSelect_keeps.mono
  | drmTextMessage => exact execDrmTextMessage_keeps.mono
  | candidateListUpdate => exact execCandidateListUpdate_keeps.mono
  | candidateAgeOut => exact execCandidateAgeOut_keeps.mono
  | identityChange => exact execIdentityChange_keeps.mono
  | afCheck => exact execAfCheck_keeps.mono
  | ensembleCheck => exact execEnsembleCheck_keeps.mono
  | switchRequest => exact execSwitchRequest_keeps.mono
  | landing => exact execLanding_keeps.mono
  | landingTimeout => exact execLandingTimeout_keeps.mono
  | blendBackReverse => exact execBlendBackReverse_keeps.mono
  | gloamingEnable => exact execGloamingEnable_keeps.mono
  | gloamingDisable => exact execGloamingDisable_keeps.mono
  | slotSourceWrite => exact execSlotSourceWrite_keeps.mono
  | lagEstimate slot => exact show s.Leads running (execLagEstimate slot s) from execLagEstimate_keeps.mono
  | blendTarget => exact execBlendTarget_keeps.mono
  | blendFadeReverse => exact execBlendFadeReverse_keeps.mono
  | blendFadeEnd => exact execBlendFadeEnd_keeps.mono
  | eqSelect => exact execEqSelect_keeps.mono
  | eqFadeEnd => exact execEqFadeEnd_keeps.mono
  | tonalMatchUpdate slot => exact show s.Leads running (execTonalMatchUpdate slot s) from execTonalMatchUpdate_keeps.mono
  | blendOutputFrame => exact execBlendOutputFrame_keeps.mono
  | captureArm => exact execCaptureArm_keeps.mono
  | captureTriggerNow => exact execCaptureTriggerNow_keeps.mono
  | captureAbort => exact execCaptureAbort_keeps.mono
  | captureFree => exact execCaptureFree_keeps.mono
  | captureComplete => exact execCaptureComplete_keeps.mono
  | ringRead => exact execRingRead_keeps.mono
  | streamIdentify => exact execStreamIdentify_keeps.mono
  | rateThreshold => exact execRateThreshold_keeps.mono
  | streamSoloStart => exact execStreamSoloStart_keeps.mono
  | rateLoopUpdate => exact execRateLoopUpdate_keeps.mono
  | streamFrameProduce => exact execStreamFrameProduce_keeps.mono
  | postRoll => exact execPostRoll_keeps.mono
  | postRollEnd => exact execPostRollEnd_keeps.mono
  | pairSourceWrite => exact execPairSourceWrite_keeps.mono
  | underrun => exact execUnderrun_keeps.mono
  | reEntry => exact execReEntry_keeps.mono
  | clockLost => exact execClockLost_keeps.mono
  | clockReturn => exact execClockReturn_keeps.mono
  | glitch => exact execGlitch_keeps.mono
  | rateChange => exact execRateChange_keeps.mono
  | groupMemberRemoved => exact execGroupMemberRemoved_keeps.mono
  | audioFlagsClear => exact execAudioFlagsClear_keeps.mono
  | channelStatusWrite => exact execChannelStatusWrite_keeps.mono
  | userDataPacket => exact execUserDataPacket_keeps.mono
  | radioTransition => exact execRadioTransition_keeps.mono
  | synthUnlock => exact execSynthUnlock_keeps.mono
  | calibrationStart => exact execCalibrationStart_keeps.mono
  | calibrationComplete => exact execCalibrationComplete_keeps.mono
  | calibrationAbort => exact execCalibrationAbort_keeps.mono
  | calibrationOverdue => exact execCalibrationOverdue_keeps.mono
  | narrowbandFrame => exact execNarrowbandFrame_keeps.mono
  | tapCopy => exact execTapCopy_keeps.mono
  | copySelectionEnd => exact execCopySelectionEnd_keeps.mono
  | glimmerWord => exact execGlimmerWord_keeps.mono
  | spuriousWake => exact execSpuriousWake_keeps.mono
  | matchModeReset => exact execMatchModeReset_keeps.mono
  | wakeRequest => exact execWakeRequest_keeps.mono
  | radioTest => exact execRadioTest_keeps.mono
  | linkFrameReceive => exact execLinkFrameReceive_keeps.mono
  | ackSend => exact execAckSend_keeps.mono
  | ackWaitExpiry => exact execAckWaitExpiry_keeps.mono
  | ackReceive => exact execAckReceive_keeps.mono
  | immediateFrame => exact execImmediateFrame_keeps.mono
  | backoffExpiry => exact execBackoffExpiry_keeps.mono
  | ccaEnd => exact execCcaEnd_keeps.mono
  | scheduledFrame => exact execScheduledFrame_keeps.mono
  | frameRetry => exact execFrameRetry_keeps.mono
  | transmitReport => exact execTransmitReport_keeps.mono
  | frameCounterRecord => exact execFrameCounterRecord_keeps.mono
  | joinRequest => exact execJoinRequest_keeps.mono
  | joinResponse => exact execJoinResponse_keeps.mono
  | leave => exact execLeave_keeps.mono
  | readings => exact execReadings_keeps.mono
  | serviceRequest => exact execServiceRequest_keeps
  | voussoirFrame => exact execVoussoirFrame_keeps.mono
  | rendezvous => exact execRendezvous_keeps.mono
  | rendezvousMiss => exact execRendezvousMiss_keeps.mono
  | wakeTrain => exact execWakeTrain_keeps.mono
  | wakeTrainRetry => exact execWakeTrainRetry_keeps.mono
  | phaseGate => exact execPhaseGate_keeps.mono
  | downlink => exact execDownlink_keeps.mono
  | downlinkExpiry => exact execDownlinkExpiry_keeps.mono
  | nodeRemove => exact execNodeRemove_keeps
  | absentTimeout => exact execAbsentTimeout_keeps.mono
  | joiningCountdown => exact execJoiningCountdown_keeps.mono
  | nodeCounterRecord => exact execNodeCounterRecord_keeps.mono
  | objectWrite => exact execObjectWrite_keeps
  | fifoRead => exact execFifoRead_keeps.mono
  | fifoRepeatRead => exact execFifoRepeatRead_keeps.mono
  | store => exact execStore_keeps.mono
  | storeComplete => exact execStoreComplete_keeps.mono
  | storeErase => exact execStoreErase_keeps.mono
  | tokenTake => exact execTokenTake_keeps.mono
  | tokenRelease => exact execTokenRelease_keeps.mono
  | tokenHandover => exact execTokenHandover_keeps.mono
  | tokenTimeout => exact execTokenTimeout_keeps.mono
  | historyQuery => exact execHistoryQuery_keeps
  | quoinRead => exact execQuoinRead_keeps
  | quoinWrite => exact execQuoinWrite_keeps
  | initiateRead => exact execInitiateRead_keeps
  | initiateWrite => exact execInitiateWrite_keeps
  | blockRequest => exact execBlockRequest_keeps
  | segment => exact execSegment_keeps
  | endTransfer => exact execEndTransfer_keeps
  | abortTransfer => exact execAbortTransfer_keeps
  | syncRequest => exact execSyncRequest_keeps
  | transferTimeout => exact execTransferTimeout_keeps.mono
  | quoinApply => exact execQuoinApply_keeps.mono
  | eventFrame => exact execEventFrame_keeps.mono
  | pdoEnable => exact execPdoEnable_keeps.mono
  | pdoPeriodic => exact execPdoPeriodic_keeps.mono
  | pdoChange => exact execPdoChange_keeps.mono
  | quoinWatchWake => exact execQuoinWatchWake_keeps.mono
  | quoinIdle => exact execQuoinIdle_keeps.mono
  | busOffRecovery => exact execBusOffRecovery_keeps.mono
  | twoWireRequest => exact execTwoWireRequest_keeps
  | twoWireResponse => exact execTwoWireResponse_keeps.mono
  | twoWireEvents => exact execTwoWireEvents_keeps.mono
  | twoWireResponseRepeat => exact execTwoWireResponseRepeat_keeps.mono
  | twoWireEventsRepeat => exact execTwoWireEventsRepeat_keeps.mono
  | twoWireStatus => exact execTwoWireStatus_keeps.mono
  | sclTimeout => exact execSclTimeout_keeps.mono
  | busError => exact execBusError_keeps.mono
  | targetWake => exact execTargetWake_keeps.mono
  | targetWakeIdle => exact execTargetWakeIdle_keeps.mono
  | hostNotify => exact execHostNotify_keeps.mono
  | arbitrationLost => exact execArbitrationLost_keeps.mono
  | spiRequest => exact execSpiRequest_keeps
  | spiResponse => exact execSpiResponse_keeps
  | spiEvents => exact execSpiEvents_keeps
  | spiResponseRepeat => exact execSpiResponseRepeat_keeps
  | spiEventsRepeat => exact execSpiEventsRepeat_keeps
  | statusPoll => exact execStatusPoll_keeps.mono
  | hostJob => exact execHostJob_keeps.mono
  | contextSwitch => exact execContextSwitch_keeps.mono
  | contextRestore => exact execContextRestore_keeps.mono
  | stepToSecured => exact execStepToSecured_keeps.mono
  | challengeRequest => exact execChallengeRequest_keeps.mono
  | challengeExpiry => exact execChallengeExpiry_keeps.mono
  | stepToReturned => exact execStepToReturned_keeps.mono
  | revokeSlot => exact execRevokeSlot_keeps.mono
  | keySlotWrite => exact execKeySlotWrite_keeps
  | keySlotErase => exact execKeySlotErase_keeps.mono
  | lowerLevel => exact execLowerLevel_keeps.mono
  | accessViolation => exact execAccessViolation_keeps
  | dbgChallenge => exact execDbgChallenge_keeps.mono
  | dbgResponse => exact execDbgResponse_keeps.mono
  | dbgAccess => exact execDbgAccess_keeps
  | coreDebug => exact execCoreDebug_keeps.mono
  | idcode => exact execIdcode_keeps.mono
  | dbgStatus => exact execDbgStatus_keeps.mono
  | samplePreload => exact execSamplePreload_keeps.mono
  | extest => exact execExtest_keeps.mono
  | clamp => exact execClamp_keeps.mono
  | highz => exact execHighz_keeps.mono
  | bypass => exact execBypass_keeps.mono
  | tapEnableWrite => exact execTapEnableWrite_keeps
  | temperatureCrossing => exact execTemperatureCrossing_keeps.mono
  | clockMonitorFault => exact execClockMonitorFault_keeps.mono
  | logFlush => exact execLogFlush_keeps.mono
  | logQuery => exact execLogQuery_keeps
  | updateBegin => exact execUpdateBegin_keeps.mono
  | eraseComplete => exact execEraseComplete_keeps.mono
  | updateChunk => exact execUpdateChunk_keeps.mono
  | updateFinish => exact execUpdateFinish_keeps.mono
  | updateActivate => exact execUpdateActivate_keeps.mono
  | updateCancel => exact execUpdateCancel_keeps.mono
  | updateConfirm => exact execUpdateConfirm_keeps.mono
  | safeEntry => exact execSafeEntry_keeps
  | modeRequest => exact execModeRequest_keeps
  | transitionHoldEnd => exact execTransitionHoldEnd_keeps
  | transitionComplete => exact execTransitionComplete_keeps
  | parkedEntry => exact execParkedEntry_keeps
  | wake => exact execWake_keeps.mono
  | wakeFailure => exact execWakeFailure_keeps.mono
  | wakeInWatch => exact execWakeInWatch_keeps
  | wakeOutEnd => exact execWakeOutEnd_keeps.mono
  | bringUp => exact execBringUp_keeps
  | pathPowerUp => exact execPathPowerUp_keeps.mono
  | gpioWrite => exact execGpioWrite_keeps
  | lanternMemoryError => exact execLanternMemoryError_keeps.mono
  | frameStartEdge => exact execFrameStartEdge_keeps.mono
  | busOff => exact execBusOff_keeps.mono
  | estimatorWindowStart => exact execEstimatorWindowStart_keeps.mono
  | preambleDetected => exact execPreambleDetected_keeps.mono

/-- What every command keeps. -/
theorem exec_leads {c : Instr} {s : State} : s.Leads anything (exec c s) := by
  cases h : writesGnomon c with
  | false => exact (exec_leads_running h).mono
  | true =>
    cases c with
    | parkedResume => exact execParkedResume_keeps
    | tbSyncFollowerLoad => exact execTbSyncFollowerLoad_keeps
    | reset => exact execReset_keeps
    | managementWatchdog => exact execManagementWatchdog_keeps
    | supplyLevel => exact execSupplyLevel_keeps
    | trialExpiry => exact execTrialExpiry_keeps
    | _ => cases h

theorem exec_keeps {c : Instr} {s t : State} (h : exec c s = .next t) : s.Keeps anything t := by
  have hleads : s.Leads anything (exec c s) := exec_leads
  rwa [h] at hleads

/-! ### The obligations -/

/-- Settles O45: no operation writes the queue. -/
theorem queueKept : Obligations.QueueKept := fun _ _ _ h => (exec_keeps h).same .pending (by decide)

/-- Settles O48: every write of the two maps keeps their form, in a command and in a tick. -/
theorem stepKeepsCanonical : Obligations.StepKeepsCanonical := by
  intro s t hs hstep
  unfold step at hstep
  split at hstep
  · obtain rfl := Host.Outcome.next.inj hstep
    exact tick_keeps.canonical hs
  · exact (exec_keeps hstep).canonical hs

theorem Otp.lifecycle_mono {o p : Otp} (hs : o.securedFuses ≤ p.securedFuses) (hr : o.returnedFuses ≤ p.returnedFuses) :
    o.lifecycle ≤ p.lifecycle := by
  unfold Otp.lifecycle
  split_ifs <;> omega

/-- Settles O49. -/
theorem fusesOnlyBlown : Obligations.FusesOnlyBlown := by
  intro c s t hsecured hreturned hexec
  obtain ⟨⟨hs, hs8⟩, ⟨hr, hr8⟩, ha, hrevoked⟩ := (exec_keeps hexec).fuses hsecured hreturned
  exact ⟨hs, hs8, hr, hr8, ha, hrevoked, Otp.lifecycle_mono hs hr⟩

/-- Settles O50. -/
theorem gnomonOnlyCounts : Obligations.GnomonOnlyCounts := by
  intro c s t hc hexec
  have hleads : s.Leads running (exec c s) := exec_leads_running hc
  rw [hexec] at hleads
  exact hleads.same .gnomon (by decide)

/-- A tick is the count, then what does not touch the count, the mode or the power manager, then the entry to SAFE that is due. -/
theorem tick_eq_tickSafe (s : State) :
    ∃ t, s.count.Keeps [.dict, .awaiting, .held, .events, .launch, .log, .paths, .plumb, .chains, .engines, .accels, .captures, .radio,
      .link, .cvs, .ports, .quoin, .pdos] t ∧ s.tick = t.tickSafe :=
  ⟨_, .step tickPlumb_keeps <| .step tickPlumb_keeps <| .step tickPdo_keeps <| .step tickLoads_keeps <|
    .step tickAccels_keeps <| .step tickGain_keeps <| .step tickGain_keeps <| .step tickCv_keeps <| .step tickCv_keeps <|
    .step tickCv_keeps <| .step tickCv_keeps <| .step tickBackoff_keeps <| .step tickWake_keeps .refl, rfl⟩

/-- No trigger of SAFE acts in PARKED (R447). -/
theorem tickSafe_rtcPeriods {s : State} (h : s.mode = .parked) : s.tickSafe.power.rtcPeriods = s.power.rtcPeriods := by
  unfold State.tickSafe
  split
  · split
    · rw [State.enterSafe, if_pos (.inr (.inl h))]
    · rfl
  · rfl

/-- Settles O43. -/
theorem stepIdleTicks : Obligations.StepIdleTicks := by
  intro s hidle
  obtain ⟨t, hkeeps, htick⟩ := tick_eq_tickSafe s
  have hgnomon : s.tick.gnomon = s.count.gnomon := by
    rw [htick]
    exact Eq.trans (tickSafe_keeps.same .gnomon (by decide)) (hkeeps.same .gnomon (by decide))
  refine ⟨s.tick, ?_, Eq.trans (tick_keeps.same .pending (by decide)) hidle, fun hmode => ?_, fun hmode => ?_⟩
  · unfold step
    rw [hidle]
  · rw [hgnomon, State.count, if_neg hmode]
  · have hcount : s.count = { s with power := { s.power with rtcPeriods := s.power.rtcPeriods + 1 } } := if_pos hmode
    have hpower : t.power = s.count.power := hkeeps.same .power (by decide)
    have hparked : t.mode = .parked := Eq.trans (hkeeps.same .mode (by decide)) (by rw [hcount]; exact hmode)
    exact ⟨by rw [hgnomon, hcount], by rw [htick, tickSafe_rtcPeriods hparked, hpower, hcount]⟩

end Sys2Proof.Machine
end

section
/-!
PROOFS. Frames that fail: the numbers that State holds of a unit, a path or a copy's source are not bounded, so that a command reaches
subindices outside the ranges that its frame names.
-/
namespace Sys2Proof.Machine

/-! ### Blanks of a path that does not exist -/

/-- A path number that no index range covers. -/
def farPath : Nat := 2 ^ 40

/-- A blank that changes trims is due for the path; its power and its armed flag are held where the path's objects would be. -/
def farBlank : State :=
  { State.reset with
    launch := [(0, some ⟨0, 0, 0, 7, 0, 0x800 + farPath, 23, 0, 0, 0, [0, 1]⟩)]
    dict := [(obj (0x3000 + farPath) 1, .num 2), (obj (0x3020 + farPath) 7, .num 8)] }

/-- Refutes O28: a Plumb entry whose target is no path has its blank clear a flag above index 2^32, the end of the clause's range. -/
theorem not_rfFrame : ¬ Obligations.RfFrame := by
  intro h
  obtain ⟨_, _, hblank, _⟩ := h
  have hkeeps := (hblank (.plumbBlank 0) farBlank _ rfl rfl rfl).2 (obj (0x3020 + farPath) 7) (by decide) (by decide)
  exact absurd hkeeps (by decide)

/-! ### A parent that does not exist -/

/-- A unit number that no index range covers. -/
def farCourse : Nat := 2 ^ 50

/-- Lantern runs as a member of the course, which continues past a fault of one of its members. -/
def farParent : State :=
  { State.reset with
    dict := [(desc 0x700 2, .num 2), (desc 0x700 4, .num farCourse), (desc farCourse 2, .num 2)]
    committed := [(desc farCourse 8, .num 1)] }

/-- Refutes O30: Lantern's fault is counted in the course that its descriptor names as its parent, here one above index 2^32, the end of
the clause's range. -/
theorem not_broadcastFrame : ¬ Obligations.BroadcastFrame := by
  intro h
  obtain ⟨_, _, hmemory, _⟩ := h
  have hkeeps := (hmemory .lanternMemoryError farParent _ rfl rfl rfl).2 (desc farCourse 0x0A) (by decide) (by decide)
  exact absurd hkeeps (by decide)

/-! ### A copy from a source that does not exist -/

/-- A source number whose counter no index range covers. -/
def farSource : Nat := 2 ^ 20

/-- The copy of a frame that the far source received. -/
def farCopy : FrameCopy := ⟨farSource, 0, 0, 2, 0, 0, true, true, macFrame 2 (fcsOf 2 []) none⟩

/-- The receiver is in RX, and a copy of the frame from the source has been chosen and counted at this tick. -/
def farReception : State :=
  { State.reset with
    dict := [(desc 0x500 2, .num 2), (0x600101, .num 3), (0x60010C + farSource, .num 1)]
    link := { State.reset.link with receptions := [⟨[farCopy], some farCopy, 0, false⟩] } }

/-- Refutes O35: a better copy of a frame takes back the count of the copy that it replaces, here in a counter of index 0x7001. -/
theorem not_meshFrame : ¬ Obligations.MeshFrame := by
  intro h
  obtain ⟨hradio, _⟩ := h
  have hkeeps := (hradio (.narrowbandFrame 0 0 ⟨false, true, 2, true⟩ (fcsOf 2 []) none 0 0) farReception _ rfl (by decide) rfl).2
    (0x60010C + farSource) (by decide) (by decide)
  exact absurd hkeeps (by decide)

end Sys2Proof.Machine
end

section
/-!
PROOFS. Completions that fail: a mode that Plumb held while it was idle, the tap on the very course that is released, and two holdings of
one unit. No command leaves such a state, but the clauses speak of every state.
-/
namespace Sys2Proof.Machine

set_option maxRecDepth 10000

/-- What a command makes of a state, and the state itself where the command makes nothing of it. -/
def State.after (c : Instr) (s : State) : State :=
  match exec c s with
  | .next t => t
  | _ => s

theorem Gives.holds_after {c : Instr} {s : State} {P : State → Prop} (h : Gives c s P) : P (s.after c) := by
  obtain ⟨t, hstep, hP⟩ := h
  simpa only [State.after, hstep] using hP

/-! ### Plumb: a held mode without a cycle -/

/-- Path A is idle, and a mode is held as if a cycle were placed. -/
def heldWhileIdle : State :=
  { State.reset.setPlumb 0 { Plumb.init with heldMode := some 2 } with mode := .full, ready := true }

/-- Refutes O2: the end of the cycle that the write of mode 1 implies puts the held mode 2 in its place. -/
theorem not_plumbCompletes : ¬ Obligations.PlumbCompletes := by
  intro h
  obtain ⟨_, _, _, _, _, _, _, _, _, _, _, _, _, _, hmode⟩ := h
  have hwritten := (hmode .mgmt 0 1 heldWhileIdle (by decide) (by decide) (by decide)).holds_after
  exact absurd hwritten (by decide)

/-! ### The verbs: the tap set on a course -/

/-- The tap has its chains and is set on the course 0x300, which the hosts own and which has no member. -/
def tapOnCourse : State :=
  { State.reset with
    mode := .full
    ready := true
    dict :=
      [(0x103001, .num 1), (0x731001, .num 0x300), (0x731004, .num 1), (desc 0x300 3, .num 0xFE), (desc 0x106 3, .num 0),
        (desc 0x107 3, .num 0)] }

/-- Refutes O18: the course that its host releases is claimed at once for the tap. -/
theorem not_verbsComplete : ¬ Obligations.VerbsComplete := by
  intro h
  obtain ⟨_, _, _, _, _, _, _, _, _, _, hcourse, _⟩ := h
  have howner := (hcourse .quoin 0x300 tapOnCourse (by decide) (by decide) (by decide) (by decide) (by decide)
    (by decide)).holds_after.1
  exact absurd howner (by decide)

/-! ### The launch table: two holdings of one unit -/

/-- Unit 0x800 runs and is being held, once for a HOLD and once for a release, and the tap, which has its chains, is set on it. -/
def heldTwice : State :=
  { State.reset with
    mode := .full
    ready := true
    dict := [(0x731001, .num 0x800), (0x731004, .num 1), (desc 0x800 2, .num 2), (desc 0x106 3, .num 0), (desc 0x107 3, .num 0)]
    holdings := [⟨0x800, [[0x800]], [], 2, 0, none⟩, ⟨0x800, [], [], 1, 6, some (1, 6)⟩] }

/-- Refutes O19: the end of the HOLD ends the release with it, and the tap configures the unit anew. -/
theorem not_launchCompletes : ¬ Obligations.LaunchCompletes := by
  intro h
  obtain ⟨_, _, _, _, _, _, hheld, _⟩ := h
  have hstate := (hheld 0x800 _ heldTwice rfl rfl (by decide)).holds_after.1 0x800
  exact absurd (hstate (by decide) (by decide) (by decide) (by decide) (by decide) (by decide)) (by decide)

end Sys2Proof.Machine
end

section
/-!
PROOFS. What a command leaves (the statements *Completes): how an accepted write is carried out, and which numbers the token, events and
the answer leave.
-/
namespace Sys2Proof.Machine

variable {F : List FieldName} {s t : State} {r : Requester} {k key : Nat}

/-! ### Numbers that are not written -/

theorem nat_of_val (h : t.val k = s.val k) : t.nat k = s.nat k := by
  unfold State.nat State.num
  rw [h]

theorem num_of_val_eq (h : t.val k = s.val k) : t.num k = s.num k := by
  unfold State.num
  rw [h]

theorem bytes_of_val (h : t.val k = s.val k) : t.bytes k = s.bytes k := by
  unfold State.bytes
  rw [h]

theorem State.Keeps.val (h : s.Keeps F t) (k : Nat) (hF : .dict ∉ F := by decide) : t.val k = s.val k :=
  congrArg (Map.get dflt · k) (h.same .dict hF)

theorem State.Keeps.nat (h : s.Keeps F t) (k : Nat) (hF : .dict ∉ F := by decide) : t.nat k = s.nat k := nat_of_val (h.val k hF)

/-- The keys of events (R362), in a form that arithmetic decides. -/
theorem notMem_eventKeys (h : k / 256 ≠ 0x9800) (hsync : k ≠ 0x102007) (hlog : k ≠ 0x710007) : k ∉ eventKeys := by
  simp only [eventKeys, List.mem_cons, List.not_mem_nil, or_false]
  omega

@[simp] theorem raise_val (cls kind src : Nat) (fields : List (Nat × Int)) (s : State) (h : k / 256 ≠ 0x9800) (hsync : k ≠ 0x102007)
    (hlog : k ≠ 0x710007) : (s.raise cls kind src fields).val k = s.val k :=
  (raise_eventsOnly s cls kind src fields).2 k (notMem_eventKeys h hsync hlog)

@[simp] theorem raise_nat_other (cls kind src : Nat) (fields : List (Nat × Int)) (s : State) (h : k / 256 ≠ 0x9800)
    (hsync : k ≠ 0x102007) (hlog : k ≠ 0x710007) : (s.raise cls kind src fields).nat k = s.nat k :=
  nat_of_val (raise_val cls kind src fields s h hsync hlog)

@[simp] theorem autoTake_val (r : Requester) (key : Nat) (s : State) (htoken : k / 256 ≠ 0x1030) (h : k / 256 ≠ 0x9800)
    (hsync : k ≠ 0x102007) (hlog : k ≠ 0x710007) : (s.autoTake r key).val k = s.val k := by
  refine (autoTake_frame r key s).2 k (notMem_eventKeys h hsync hlog) fun p hp => ?_
  obtain rfl := List.mem_singleton.mp hp
  dsimp only
  omega

@[simp] theorem autoTake_nat (r : Requester) (key : Nat) (s : State) (htoken : k / 256 ≠ 0x1030) (h : k / 256 ≠ 0x9800)
    (hsync : k ≠ 0x102007) (hlog : k ≠ 0x710007) : (s.autoTake r key).nat k = s.nat k :=
  nat_of_val (autoTake_val r key s htoken h hsync hlog)

@[simp] theorem touch_val (r : Requester) (s : State) (h : k ≠ 0x103005) : (s.touch r).val k = s.val k := by
  unfold State.touch
  split
  · show State.val (if s.nat 0x103001 = portNo r then s.setNat 0x103005 s.gnomon else s) k = s.val k
    split
    · simp [h]
    · rfl
  · rfl

@[simp] theorem touch_nat_other (r : Requester) (s : State) (h : k ≠ 0x103005) : (s.touch r).nat k = s.nat k :=
  nat_of_val (touch_val r s h)

@[simp] theorem ite_val {c : Prop} [Decidable c] (s t : State) (k : Nat) : (if c then s else t).val k = if c then s.val k else t.val k :=
  apply_ite (State.val · k) c s t

@[simp] theorem bumpBy_val_other (s : State) (n : Nat) {j : Nat} (h : k ≠ j) : (s.bumpBy j n).val k = s.val k := by
  simp [State.bumpBy, h]

@[simp] theorem bump_val_other (s : State) {j : Nat} (h : k ≠ j) : (s.bump j).val k = s.val k := bumpBy_val_other s 1 h

@[simp] theorem issue_val_other (body : Bytes) (s : State) {j : Nat} (h : k ≠ j) : (s.issue j body).val k = s.val k := by
  show (s.setBytes j _).val k = s.val k
  simp [h]

theorem issue_nat {k j : Nat} (body : Bytes) (s : State) (h : j ≠ k) : (s.issue k body).nat j = s.nat j := setBytes_nat _ _ s j h

theorem issuePaired_nat {k j : Nat} (code : Nat) (body : Bytes) (s : State) (h : j ≠ k) (hj : j / 256 ≠ 0x9800) (hsync : j ≠ 0x102007)
    (hlog : j ≠ 0x710007) : (s.issuePaired k code body).nat j = s.nat j := by
  unfold State.issuePaired
  rw [raise_nat_other _ _ _ _ _ hj hsync hlog, issue_nat _ _ h]

/-! ### Fields that the automatic take, the answer and events leave -/

@[simp] theorem autoTake_mode (r : Requester) (key : Nat) (s : State) : (s.autoTake r key).mode = s.mode :=
  autoTake_keeps.same .mode (by decide)

@[simp] theorem answered_mode (r : Requester) (code : Nat) (data : Bytes) (s : State) : ((s.touch r).reply code data).mode = s.mode :=
  touch_keeps.same .mode (by decide)

@[simp] theorem raise_mode (cls kind src : Nat) (fields : List (Nat × Int)) (s : State) : (s.raise cls kind src fields).mode = s.mode :=
  raise_keeps.same .mode (by decide)

@[simp] theorem autoTake_ready (r : Requester) (key : Nat) (s : State) : (s.autoTake r key).ready = s.ready :=
  autoTake_keeps.same .ready (by decide)

@[simp] theorem answered_ready (r : Requester) (code : Nat) (data : Bytes) (s : State) : ((s.touch r).reply code data).ready = s.ready :=
  touch_keeps.same .ready (by decide)

@[simp] theorem raise_ready (cls kind src : Nat) (fields : List (Nat × Int)) (s : State) : (s.raise cls kind src fields).ready = s.ready :=
  raise_keeps.same .ready (by decide)

@[simp] theorem autoTake_gnomon (r : Requester) (key : Nat) (s : State) : (s.autoTake r key).gnomon = s.gnomon :=
  autoTake_keeps.same .gnomon (by decide)

@[simp] theorem answered_gnomon (r : Requester) (code : Nat) (data : Bytes) (s : State) : ((s.touch r).reply code data).gnomon = s.gnomon :=
  touch_keeps.same .gnomon (by decide)

@[simp] theorem raise_gnomon (cls kind src : Nat) (fields : List (Nat × Int)) (s : State) : (s.raise cls kind src fields).gnomon = s.gnomon :=
  raise_keeps.same .gnomon (by decide)

@[simp] theorem autoTake_flash (r : Requester) (key : Nat) (s : State) : (s.autoTake r key).flash = s.flash :=
  autoTake_keeps.same .flash (by decide)

@[simp] theorem answered_flash (r : Requester) (code : Nat) (data : Bytes) (s : State) : ((s.touch r).reply code data).flash = s.flash :=
  touch_keeps.same .flash (by decide)

@[simp] theorem raise_flash (cls kind src : Nat) (fields : List (Nat × Int)) (s : State) : (s.raise cls kind src fields).flash = s.flash :=
  raise_keeps.same .flash (by decide)

@[simp] theorem autoTake_upd (r : Requester) (key : Nat) (s : State) : (s.autoTake r key).upd = s.upd :=
  autoTake_keeps.same .upd (by decide)

@[simp] theorem answered_upd (r : Requester) (code : Nat) (data : Bytes) (s : State) : ((s.touch r).reply code data).upd = s.upd :=
  touch_keeps.same .upd (by decide)

@[simp] theorem raise_upd (cls kind src : Nat) (fields : List (Nat × Int)) (s : State) : (s.raise cls kind src fields).upd = s.upd :=
  raise_keeps.same .upd (by decide)

@[simp] theorem autoTake_otp (r : Requester) (key : Nat) (s : State) : (s.autoTake r key).otp = s.otp :=
  autoTake_keeps.same .otp (by decide)

@[simp] theorem answered_otp (r : Requester) (code : Nat) (data : Bytes) (s : State) : ((s.touch r).reply code data).otp = s.otp :=
  touch_keeps.same .otp (by decide)

@[simp] theorem raise_otp (cls kind src : Nat) (fields : List (Nat × Int)) (s : State) : (s.raise cls kind src fields).otp = s.otp :=
  raise_keeps.same .otp (by decide)

@[simp] theorem autoTake_captures (r : Requester) (key : Nat) (s : State) : (s.autoTake r key).captures = s.captures :=
  autoTake_keeps.same .captures (by decide)

@[simp] theorem answered_captures (r : Requester) (code : Nat) (data : Bytes) (s : State) : ((s.touch r).reply code data).captures = s.captures :=
  touch_keeps.same .captures (by decide)

@[simp] theorem raise_captures (cls kind src : Nat) (fields : List (Nat × Int)) (s : State) : (s.raise cls kind src fields).captures = s.captures :=
  raise_keeps.same .captures (by decide)

@[simp] theorem answered_awaiting (r : Requester) (code : Nat) (data : Bytes) (s : State) : ((s.touch r).reply code data).awaiting = s.awaiting :=
  touch_keeps.same .awaiting (by decide)

@[simp] theorem autoTake_power (r : Requester) (key : Nat) (s : State) : (s.autoTake r key).power = s.power :=
  autoTake_keeps.same .power (by decide)

@[simp] theorem raise_power (cls kind src : Nat) (fields : List (Nat × Int)) (s : State) : (s.raise cls kind src fields).power = s.power :=
  raise_keeps.same .power (by decide)

@[simp] theorem autoTake_radio (r : Requester) (key : Nat) (s : State) : (s.autoTake r key).radio = s.radio :=
  autoTake_keeps.same .radio (by decide)

@[simp] theorem raise_radio (cls kind src : Nat) (fields : List (Nat × Int)) (s : State) : (s.raise cls kind src fields).radio = s.radio :=
  raise_keeps.same .radio (by decide)

@[simp] theorem autoTake_launch (r : Requester) (key : Nat) (s : State) : (s.autoTake r key).launch = s.launch :=
  autoTake_keeps.same .launch (by decide)

@[simp] theorem answered_launch (r : Requester) (code : Nat) (data : Bytes) (s : State) : ((s.touch r).reply code data).launch = s.launch :=
  touch_keeps.same .launch (by decide)

@[simp] theorem raise_launch (cls kind src : Nat) (fields : List (Nat × Int)) (s : State) : (s.raise cls kind src fields).launch = s.launch :=
  raise_keeps.same .launch (by decide)

@[simp] theorem autoTake_chains (r : Requester) (key : Nat) (s : State) : (s.autoTake r key).chains = s.chains :=
  autoTake_keeps.same .chains (by decide)

@[simp] theorem answered_chains (r : Requester) (code : Nat) (data : Bytes) (s : State) : ((s.touch r).reply code data).chains = s.chains :=
  touch_keeps.same .chains (by decide)

@[simp] theorem raise_chains (cls kind src : Nat) (fields : List (Nat × Int)) (s : State) : (s.raise cls kind src fields).chains = s.chains :=
  raise_keeps.same .chains (by decide)

@[simp] theorem autoTake_engines (r : Requester) (key : Nat) (s : State) : (s.autoTake r key).engines = s.engines :=
  autoTake_keeps.same .engines (by decide)

@[simp] theorem answered_engines (r : Requester) (code : Nat) (data : Bytes) (s : State) : ((s.touch r).reply code data).engines = s.engines :=
  touch_keeps.same .engines (by decide)

@[simp] theorem raise_engines (cls kind src : Nat) (fields : List (Nat × Int)) (s : State) : (s.raise cls kind src fields).engines = s.engines :=
  raise_keeps.same .engines (by decide)

@[simp] theorem autoTake_gpioFired (r : Requester) (key : Nat) (s : State) : (s.autoTake r key).gpioFired = s.gpioFired :=
  autoTake_keeps.same .gpioFired (by decide)

@[simp] theorem answered_gpioFired (r : Requester) (code : Nat) (data : Bytes) (s : State) : ((s.touch r).reply code data).gpioFired = s.gpioFired :=
  touch_keeps.same .gpioFired (by decide)

@[simp] theorem raise_gpioFired (cls kind src : Nat) (fields : List (Nat × Int)) (s : State) : (s.raise cls kind src fields).gpioFired = s.gpioFired :=
  raise_keeps.same .gpioFired (by decide)

/-! ### An accepted write -/

theorem gives_next {c : Instr} {P : State → Prop} (hexec : exec c s = .next t) (h : P t) : Gives c s P := ⟨t, hexec, h⟩

/-- An accepted write acts on the state that the automatic take leaves, is counted as activity, and is answered with 0 (R349, R361). -/
theorem gives_request {c : Instr} {b : Bytes} {act : State → State × Nat} {P : State → Prop}
    (hexec : exec c s = .next (s.request r key b act)) (haccepts : s.Accepts r key b) (hdone : (act (s.autoTake r key)).2 = 0)
    (h : P (((act (s.autoTake r key)).1.touch r).reply 0 [])) : Gives c s P :=
  gives_next (hexec.trans (congrArg _ (request_done s r key b act haccepts.1 haccepts.2 hdone))) h

end Sys2Proof.Machine
end

section
/-!
PROOFS. Writes that only the table of a row bounds: no rule of a chapter refuses a value that the row admits (R349 check 10).
-/
namespace Sys2Proof.Machine

variable {s t : State} {r : Requester} {key : Nat} {row : Row} {v : Val} {b : Bytes}

/-- No chapter has a rule about the values of the subindex. -/
structure Unruled (key : Nat) : Prop where
  reserved : reservedBits key = 0
  chain : chainRule key = 0
  lantern : ∀ i, lanternRule key i = 0
  fm : ∀ s i, fmRule s key i = 0
  access : ∀ n b, accessRule key n b = 0
  gloaming : ∀ (s : State) b, s.gloamingRule key b = 0
  numbered : ∀ (s : State) n, s.captureRule key = 0 ∧ s.portRule key n = 0 ∧ s.courseRule key n = 0
  signed : ∀ (s : State) i, s.rfRule key i = 0 ∧ s.plumbRule key i = 0 ∧ s.dabRule key i = 0 ∧ s.amDrmRule key i = 0 ∧
    s.radioRule key i = 0 ∧ s.linkRule key i = 0 ∧ s.mgmtRule key i = 0
  spelled : ∀ (s : State) i b, s.followRule key i b = 0 ∧ s.meshRule key i b = 0

theorem followRule_eq_zero (h : key < 0x480004 ∨ 0x480201 < key) (s : State) (i : Int) (b : Bytes) : s.followRule key i b = 0 := by
  unfold State.followRule
  extract_lets e
  rw [if_neg (by omega), if_neg (by omega), if_neg (by omega), if_neg (by omega), if_neg (by omega), if_neg (by omega)]

theorem valueRule_eq_tableRange (h : Unruled key) : s.valueRule key row v b = tableRange key row v := by
  obtain ⟨hreserved, hchain, hlantern, hfm, haccess, hgloaming, hnumbered, hsigned, hspelled⟩ := h
  unfold State.valueRule
  extract_lets i n
  obtain ⟨hcapture, hport, hcourse⟩ := hnumbered s n
  obtain ⟨hrf, hplumb, hdab, ham, hradio, hlink, hmgmt⟩ := hsigned s i
  obtain ⟨hfollow, hmesh⟩ := hspelled s i b
  have hbits : ((List.range 32).any fun j => bitOf n j && bitOf 0 j) = false := by
    simp [bitOf]
  by_cases htable : tableRange key row v = 0 <;>
    simp [htable, firstCode, hreserved, hbits, refuseIf, hchain, hlantern, hfm, haccess, hgloaming, hcapture, hport, hcourse, hrf, hplumb,
      hdab, ham, hradio, hlink, hmgmt, hfollow, hmesh]

theorem tableRange_of_accepts (haccepts : s.Accepts r key b) (hrow : findRow key = some row) (halone : pairedRes key = none) :
    tableRange key row (decodeVal row.ty b) = 0 := by
  obtain ⟨_, hpaired | hrange⟩ := haccepts
  · simp [halone] at hpaired
  · rwa [rangeCheck, hrow] at hrange

/-- A number that the table admits is handed to the act of its subindex. -/
theorem applyWrite_num {i : Int} (hrow : findRow key = some row) (hfree : Unruled key) (hv : decodeVal row.ty b = .num i)
    (hrange : tableRange key row (.num i) = 0) : s.applyWrite key b =
      match (if key < 0x400000 then s.act1 key i.toNat (.num i) i else if key < 0x700000 then s.act4 key i.toNat (.num i)
        else s.act7 key i.toNat (.num i) b) with
      | some p => p
      | none => (s.setVal key (.num i), 0) := by
  unfold State.applyWrite
  rw [hrow]
  simp only [hv, valueRule_eq_tableRange hfree, hrange]
  exact if_neg (by decide)

/-- What an accepted number does to the state that its write finds. -/
def State.numAct (key : Nat) (i : Int) (b : Bytes) (s : State) : Option (State × Nat) :=
  if key < 0x400000 then s.act1 key i.toNat (.num i) i else if key < 0x700000 then s.act4 key i.toNat (.num i)
  else s.act7 key i.toNat (.num i) b

theorem applyWrite_of_accepts {n : Nat} (haccepts : s.Accepts r key b) (halone : pairedRes key = none) (hrow : findRow key = some row)
    (hfree : Unruled key) (hv : decodeVal row.ty b = .num n) (t : State) :
    t.applyWrite key b = (t.numAct key n b).getD (t.setNat key n, 0) := by
  have hrange := tableRange_of_accepts haccepts hrow halone
  rw [hv] at hrange
  rw [applyWrite_num hrow hfree hv hrange]
  show (match t.numAct key n b with
    | some p => p
    | none => (t.setVal key (.num n), 0)) = _
  cases t.numAct key n b <;> rfl

/-- An accepted number is acted on (R349). -/
theorem gives_acted {c : Instr} {n : Nat} {P : State → Prop} (hexec : exec c s = .next (s.request r key b (State.applyWrite key b)))
    (haccepts : s.Accepts r key b) (halone : pairedRes key = none) (hrow : findRow key = some row) (hfree : Unruled key)
    (hv : decodeVal row.ty b = .num n) (hact : (s.autoTake r key).numAct key n b = some (t, 0)) (h : P ((t.touch r).reply 0 [])) :
    Gives c s P := by
  have happly := applyWrite_of_accepts haccepts halone hrow hfree hv (s.autoTake r key)
  rw [hact, Option.getD_some] at happly
  exact gives_request hexec haccepts (by rw [happly]) (by rwa [happly])

/-- An accepted number with no other act is stored (R349). -/
theorem gives_stored {c : Instr} {n : Nat} (hexec : exec c s = .next (s.request r key b (State.applyWrite key b)))
    (haccepts : s.Accepts r key b) (halone : pairedRes key = none) (hrow : findRow key = some row) (hfree : Unruled key)
    (hv : decodeVal row.ty b = .num n) (hact : ∀ u : State, u.numAct key n b = none) (hkey : key ≠ 0x103005) :
    Gives c s fun t => t.nat key = n := by
  have happly := applyWrite_of_accepts haccepts halone hrow hfree hv (s.autoTake r key)
  rw [hact, Option.getD_none] at happly
  refine gives_request hexec haccepts (by rw [happly]) ?_
  rw [happly, reply_nat, touch_nat_other _ _ hkey, setNat_nat, if_pos rfl]

theorem ofLe_one (v : Nat) : ofLe [v] = v := by simp [ofLe]

end Sys2Proof.Machine
end

section
/-!
PROOFS. What the commands of captures leave (R250 to R253).
-/
namespace Sys2Proof.Machine

variable {r : Requester} {key : Nat} {s t : State}

theorem capture_of_captures (h : t.captures = s.captures) (c : Nat) : t.capture c = s.capture c := congrArg (Map.get _ · c) h

theorem captureBusy_of_nat {c : Nat} (h : t.nat (cap c 6) = s.nat (cap c 6)) : t.captureBusy c = s.captureBusy c := by
  unfold State.captureBusy
  rw [h]

theorem autoTake_captureBusy (r : Requester) (key c : Nat) (s : State) (hc : c < 4) : (s.autoTake r key).captureBusy c = s.captureBusy c :=
  captureBusy_of_nat (by simp (disch := omega) [cap, obj])

theorem autoTake_captureWaits (r : Requester) (key c : Nat) (s : State) (hc : c < 4) :
    (s.autoTake r key).captureWaits c = s.captureWaits c := by
  unfold State.captureWaits
  simp (disch := omega) [cap, obj, capture_of_captures (autoTake_captures r key s) c]

theorem endCapture_state (c state flags upTo : Nat) (sample : Nat → Int × Int) (s : State) :
    (s.endCapture c state flags upTo sample).nat (cap c 6) = state := by
  unfold State.endCapture
  simp (disch := omega) [cap, obj, issue_nat]

theorem mem_insertSorted_self (x : Nat) (l : List Nat) : x ∈ insertSorted x l := by
  induction l with
  | nil => exact List.mem_singleton.mpr rfl
  | cons y ys ih =>
    simp only [insertSorted]
    split
    · exact List.mem_cons_self
    · split
      · rename_i heq
        exact heq ▸ List.mem_cons_self
      · exact List.mem_cons_of_mem _ ih

theorem armCapture_armed {c : Nat} {u : State} (hidle : s.captureBusy c = false) (hcheck : s.captureCheck c = 0)
    (hbuffer : s.captureBuffer c = some u) : State.armCapture c s =
      (((u.setCapture c { Capture.init with armedAt := u.gnomon, buf := (u.capture c).buf }).setNat (cap c 6) 1).await (cap c 7), 0) := by
  unfold State.armCapture
  simp [hidle, hcheck, hbuffer, firstCode, refuseIf]

theorem captureArm_gives {c : Nat} {u : State} (hc : c < 4) (haccepts : s.Accepts r (cap c 5) [1]) (hidle : s.captureBusy c = false)
    (hcheck : (s.autoTake r (cap c 5)).captureCheck c = 0) (hbuffer : (s.autoTake r (cap c 5)).captureBuffer c = some u) :
    Gives (.captureArm r c) s fun t => t.nat (cap c 6) = 1 ∧ t.awaiting.contains (cap c 7) = true := by
  rw [← autoTake_captureBusy r (cap c 5) c s hc] at hidle
  have hact := armCapture_armed hidle hcheck hbuffer
  refine gives_request rfl haccepts (by rw [hact]) ?_
  rw [hact]
  constructor
  · rw [reply_nat, touch_nat_other _ _ (by simp only [cap, obj]; omega), await_keeps.nat]
    simp
  · exact List.contains_iff_mem.mpr (by
      simp [State.await, mem_insertSorted_self])

@[simp] theorem autoTake_capture (r : Requester) (key : Nat) (s : State) (c : Nat) : (s.autoTake r key).capture c = s.capture c :=
  capture_of_captures (autoTake_captures r key s) c

@[simp] theorem answered_capture (r : Requester) (code : Nat) (data : Bytes) (s : State) (c : Nat) :
    ((s.touch r).reply code data).capture c = s.capture c := capture_of_captures (answered_captures r code data s) c

@[simp] theorem setNat_capture (k n : Nat) (s : State) (c : Nat) : (s.setNat k n).capture c = s.capture c := rfl

theorem captureTriggerNow_gives {c : Nat} (hc : c < 4) (haccepts : s.Accepts r (cap c 5) [2]) (hwaits : s.captureWaits c = true) :
    Gives (.captureTriggerNow r c) s fun t => t.nat (cap c 6) = 2 ∧ (t.capture c).trigger = some (s.gnomon, 0) := by
  rw [← autoTake_captureWaits r (cap c 5) c s hc] at hwaits
  refine gives_request rfl haccepts rfl ?_
  simp only [accept, State.triggerNow, if_pos hwaits, State.triggerCapture]
  simp (disch := omega) [cap, obj]

theorem captureAbort_gives {c : Nat} (hc : c < 4) (haccepts : s.Accepts r (cap c 5) [3]) (hbusy : s.captureBusy c = true) :
    Gives (.captureAbort r c) s fun t => t.nat (cap c 6) = 4 := by
  rw [← autoTake_captureBusy r (cap c 5) c s hc] at hbusy
  refine gives_request rfl haccepts rfl ?_
  simp only [accept, State.abortCapture, if_pos hbusy]
  rw [reply_nat, touch_nat_other _ _ (by simp only [cap, obj]; omega), endCapture_state]

theorem captureFree_gives {c : Nat} (hc : c < 4) (haccepts : s.Accepts r (cap c 5) [4]) (hidle : s.captureBusy c = false) :
    Gives (.captureFree r c) s fun t => t.nat (cap c 6) = 0 ∧ t.capture c = Capture.init := by
  rw [← autoTake_captureBusy r (cap c 5) c s hc] at hidle
  refine gives_request rfl haccepts (by simp [State.freeCapture, guarded, hidle, refuseIf]) ?_
  simp only [State.freeCapture, guarded, hidle, refuseIf, Bool.false_eq_true, if_false, if_true]
  simp (disch := omega) [cap, obj]

theorem captureTrigger_gives {entry c : Nat} {e : LaunchEntry} (hc : c < 4) (hdue : s.dueEntry entry [0x0A] = some e)
    (hcapture : fieldLe e.param 0 2 = c) (hwaits : s.captureWaits c = true) :
    Gives (.captureTrigger entry) s fun t => t.nat (cap c 6) = 2 ∧ (t.capture c).trigger = some (e.instant, e.phase) := by
  refine gives_next (congrArg Host.Outcome.next (show _ = (s.afterFiring entry e).triggerCapture c e.instant e.phase from ?_)) ?_
  · simp [hdue, hcapture, hwaits]
  · simp [State.triggerCapture]

theorem captureComplete_gives {c x : Nat} {a b : AdcSpan} (hc : c < 4) (hstopped : (s.capture c).stopped = some x)
    (hbusy : s.captureBusy c = true) : Gives (.captureComplete c a b) s fun t => t.nat (cap c 6) = 3 := by
  refine gives_next (congrArg Host.Outcome.next
    (show _ = State.endCapture c 3 1 x ((s.chainSamples c (s.sampleAt c x 0) a b).capturedSample c a b) (s.chainSamples c (s.sampleAt c x 0) a b) from ?_))
    (endCapture_state ..)
  simp [hstopped, hbusy, hc]

/-- Settles O4, command by command. -/
theorem capturesComplete : Obligations.CapturesComplete :=
  ⟨fun _ _ _ _ => captureArm_gives, fun _ _ _ => captureTriggerNow_gives, fun _ _ _ => captureAbort_gives,
    fun _ _ _ => captureFree_gives, fun _ _ _ _ => captureTrigger_gives, fun _ _ _ _ _ => captureComplete_gives⟩

end Sys2Proof.Machine
end

section
/-!
PROOFS. What the commands of the A/B update and its trial leave (R443 to R445).
-/
namespace Sys2Proof.Machine

variable {r : Requester} {s t : State}

@[simp] theorem updateOutcome_state (code cmd failing : Nat) (s : State) :
    (s.updateOutcome code cmd failing).nat 0x720002 = s.nat 0x720002 :=
  issuePaired_nat _ _ s (by decide) (by decide) (by decide) (by decide)

@[simp] theorem updateOutcome_upd (code cmd failing : Nat) (s : State) : (s.updateOutcome code cmd failing).upd = s.upd :=
  updateOutcome_keeps.same .upd (by decide)

@[simp] theorem updateOutcome_flash (code cmd failing : Nat) (s : State) : (s.updateOutcome code cmd failing).flash = s.flash :=
  updateOutcome_keeps.same .flash (by decide)

@[simp] theorem updateOutcome_power (code cmd failing : Nat) (s : State) : (s.updateOutcome code cmd failing).power = s.power :=
  updateOutcome_keeps.same .power (by decide)

@[simp] theorem setUpdate_state (n : Nat) (s : State) : (s.setUpdate n).nat 0x720002 = n := by
  unfold State.setUpdate
  split <;> simp [*]

@[simp] theorem setUpdate_upd (n : Nat) (s : State) : (s.setUpdate n).upd = s.upd := setUpdate_keeps.same .upd (by decide)

@[simp] theorem setUpdate_flash (n : Nat) (s : State) : (s.setUpdate n).flash = s.flash := setUpdate_keeps.same .flash (by decide)

@[simp] theorem setOther_other (b : Bank) (f : Flash) : (f.setOther b).other = b := by
  unfold Flash.setOther Flash.other
  split <;> simp [*]

@[simp] theorem setRun_run (b : Bank) (f : Flash) : (f.setRun b).run = b := by
  unfold Flash.setRun Flash.run
  split <;> simp [*]

@[simp] theorem autoTake_updateState (r : Requester) (key : Nat) (s : State) : (s.autoTake r key).nat 0x720002 = s.nat 0x720002 :=
  autoTake_nat r key s (by decide) (by decide) (by decide) (by decide)

@[simp] theorem autoTake_trialState (r : Requester) (key : Nat) (s : State) : (s.autoTake r key).nat 0x750001 = s.nat 0x750001 :=
  autoTake_nat r key s (by decide) (by decide) (by decide) (by decide)

theorem updateBegin_gives (haccepts : s.Accepts r 0x720001 [1]) (hstate : s.nat 0x720002 = 0 ∨ s.nat 0x720002 = 4 ∨ s.nat 0x720002 = 5)
    (htrial : s.nat 0x750001 ≠ 1) :
    Gives (.updateBegin r) s fun t => t.nat 0x720002 = 1 ∧ t.upd.data = [] ∧ t.flash.other.state = 0 := by
  refine gives_request rfl haccepts rfl ?_
  rcases hstate with h | h | h <;> simp [accept, State.updateCommand, h, htrial]

theorem eraseComplete_gives (hstate : s.nat 0x720002 = 1) : Gives .eraseComplete s fun t => t.nat 0x720002 = 2 := by
  refine gives_next rfl ?_
  simp [hstate]

theorem updateChunk_programmed {b : Bytes} (hstate : s.nat 0x720002 = 2) (hnext : fieldLe b 0 4 = s.upd.data.length)
    (hfits : fieldLe b 0 4 + (b.drop 4).length ≤ bankSize) : State.updateChunk b s =
      ({ (s.cvStream 3 0 (b.drop 4)).cvClose 3 0 with upd := { s.upd with data := s.upd.data ++ b.drop 4 } }, 0) := by
  have hupd : ((s.cvStream 3 0 (b.drop 4)).cvClose 3 0).upd = s.upd := by
    rw [cvClose_keeps.same .upd (by decide), cvStream_keeps.same .upd (by decide)]
  simp only [State.updateChunk, hstate, hupd, hnext]
  rw [if_neg (by decide), if_neg (lt_irrefl _), if_neg (lt_irrefl _), if_neg (by omega)]

theorem updateChunk_gives {b : Bytes} (haccepts : s.Accepts r 0x720101 b) (hstate : s.nat 0x720002 = 2)
    (hnext : fieldLe b 0 4 = s.upd.data.length) (hfits : fieldLe b 0 4 + (b.drop 4).length ≤ bankSize) :
    Gives (.updateChunk r b) s fun t => t.upd.data = s.upd.data ++ b.drop 4 := by
  have hact := updateChunk_programmed (s := s.autoTake r 0x720101) (b := b) (by simpa using hstate) (by simpa using hnext) hfits
  refine gives_request rfl haccepts (by rw [hact]) ?_
  simp [hact]

theorem updateFinish_gives {engines : Bool} {catalogue : List Bytes} (haccepts : s.Accepts r 0x720001 [2]) (hstate : s.nat 0x720002 = 2) :
    Gives (.updateFinish r engines catalogue) s fun t =>
      t.nat 0x720002 = (if (s.otp.judgeBank (imagesOf imageFuel s.upd.data) engines).1 = 0 then 4 else 5) ∧
      ((s.otp.judgeBank (imagesOf imageFuel s.upd.data) engines).1 = 0 → t.flash.other.state = 1 ∧
        t.flash.other.images = (imagesOf imageFuel s.upd.data).map imageHeader) := by
  refine gives_request rfl haccepts rfl ?_
  by_cases hgood : (s.otp.judgeBank (imagesOf imageFuel s.upd.data) engines).1 = 0 <;>
    simp [accept, State.updateCommand, hstate, hgood]

/-- The running bank stays, the other is ACTIVATED, and the trial is on from the reset that is due. -/
theorem updateCommand_activate (hstate : s.nat 0x720002 = 4) : s.updateCommand 3 true [] =
    ({ s with
      flash := { s.flash.setOther { s.flash.other with state := 2 } with trial := 1 }
      power := { s.power with resetDue := some 5 } } : State).updateOutcome 0 3 0 := if_neg (by simp [hstate])

@[simp] theorem trial_other (f : Flash) (n : Nat) : ({ f with trial := n } : Flash).other = f.other := rfl

@[simp] theorem answered_resetDue (r : Requester) (code : Nat) (data : Bytes) (s : State) :
    ((s.touch r).reply code data).power.resetDue = s.power.resetDue := by
  unfold State.touch
  split
  · show (if s.nat 0x103001 = portNo r then s.setNat 0x103005 s.gnomon else s).power.resetDue = _
    split <;> rfl
  · rfl

theorem updateActivate_gives (haccepts : s.Accepts r 0x720001 [3]) (hstate : s.nat 0x720002 = 4) :
    Gives (.updateActivate r) s fun t => t.flash.trial = 1 ∧ t.flash.other.state = 2 ∧ t.power.resetDue = some 5 := by
  refine gives_request rfl haccepts rfl ?_
  rw [accept, updateCommand_activate (by simpa using hstate)]
  simp only [answered_flash, answered_resetDue, updateOutcome_flash, updateOutcome_power, trial_other, setOther_other, and_self]

theorem updateCancel_gives (haccepts : s.Accepts r 0x720001 [4]) (hstate : s.nat 0x720002 ≠ 0) :
    Gives (.updateCancel r) s fun t => t.nat 0x720002 = 0 ∧ t.upd.data = [] ∧ t.flash.other.state = 0 := by
  refine gives_request rfl haccepts rfl ?_
  simp [accept, State.updateCommand, hstate]

@[simp] theorem advanceRollback_flash (s : State) : s.advanceRollback.flash = s.flash := advanceRollback_keeps.same .flash (by decide)

theorem advanceRollback_val {k : Nat} (s : State) (h : k / 256 ≠ 0x9800) (hsync : k ≠ 0x102007) (hlog : k ≠ 0x710007) :
    s.advanceRollback.val k = s.val k := by
  unfold State.advanceRollback
  split
  · rfl
  · dsimp only
    split
    · rfl
    · exact raise_val _ _ _ _ _ h hsync hlog

theorem updateConfirm_gives (haccepts : s.Accepts r 0x750002 [1]) (hstate : s.nat 0x750001 = 1) :
    Gives (.updateConfirm r) s fun t => t.nat 0x750001 = 2 ∧ t.flash.trial = 0 ∧ t.flash.run.state = 3 := by
  have hact : State.confirmCommand (s.autoTake r 0x750002) = (State.confirmTrial (s.autoTake r 0x750002), 0) := by
    simp [State.confirmCommand, guarded, refuseIf, hstate]
  have hflash (u : State) : u.confirmTrial.flash = { u.flash.setRun { u.flash.run with state := 3 } with trial := 0 } := by
    unfold State.confirmTrial
    rw [advanceRollback_flash, raise_flash]
    rfl
  have hconfirmed (u : State) : u.confirmTrial.nat 0x750001 = 2 := by
    unfold State.confirmTrial
    rw [nat_of_val (advanceRollback_val _ (by decide) (by decide) (by decide)), raise_nat_other _ _ _ _ _ (by decide) (by decide) (by decide)]
    simp
  refine gives_request rfl haccepts (by rw [hact]) ?_
  rw [hact, answered_flash, hflash]
  refine ⟨?_, rfl, congrArg Bank.state (setRun_run _ _)⟩
  rw [reply_nat, touch_nat_other _ _ (by decide), hconfirmed]

theorem trialExpiry_gives {from_ : Nat} (hfrom : s.upd.trialFrom = some from_) (hstate : s.nat 0x750001 = 1)
    (hdue : from_ + 60000 * msTicks ≤ s.gnomon) :
    Gives .trialExpiry s fun t => t.mode = .boot ∧ t.power.resetCause = 6 ∧ (s.flash.trial = 2 → t.flash.trial = 3) := by
  refine gives_next (congrArg Host.Outcome.next (show _ = s.doReset 6 true from ?_)) ⟨rfl, rfl, fun htrial => ?_⟩
  · simp only [hfrom, if_pos (And.intro hstate hdue)]
  · show Flash.trial (if s.flash.trial = 2 then s.flash.revert else s.flash) = 3
    rw [if_pos htrial, Flash.revert]
    split <;> rfl

/-- Settles O22, command by command. -/
theorem updateCompletes : Obligations.UpdateCompletes :=
  ⟨fun _ _ => updateBegin_gives, fun _ => eraseComplete_gives, fun _ _ _ => updateChunk_gives, fun _ _ _ _ => updateFinish_gives,
    fun _ _ => updateActivate_gives, fun _ _ => updateCancel_gives, fun _ _ => updateConfirm_gives, fun _ _ => trialExpiry_gives⟩

end Sys2Proof.Machine
end

section
/-!
PROOFS. What the wake words that Glimmer hears leave (R295 to R297).
-/
namespace Sys2Proof.Machine

variable {s : State} {pre rate : Nat} {xs : List Bool}

theorem execGlimmerWord_eq {w : Nat × Nat} (hword : wakeWord pre rate xs = some w) (hlistens : s.glimmerListens = true) :
    exec (.glimmerWord pre rate xs) s = .next (s.takeWord w.1 w.2) := by
  show Host.Outcome.next _ = _
  rw [if_pos hlistens, hword]

/-- The first matching word of match mode 1 waits for the second. -/
theorem takeWord_first (hmode : s.nat 0x601006 ≠ 0) (hfirst : s.radio.matchEnd = none) :
    s.takeWord (s.nat 0x601003) (s.nat 0x601004) =
      { s.setNat 0x60100A (s.nat 0x601003 * 65536 + s.nat 0x601004) with radio := { s.radio with matchEnd := some s.wall } } := by
  have hkept : (s.setNat 0x60100A (s.nat 0x601003 * 65536 + s.nat 0x601004)).nat 0x601006 = s.nat 0x601006 := by simp
  simp only [State.takeWord, ne_eq, not_true_eq_false, if_false, beq_self_eq_true, Bool.true_or, Bool.not_true, Bool.false_eq_true, hkept,
    if_neg hmode, setNat_radio, hfirst]
  rfl

theorem takeWord_foreign {target : Nat} (hother : target ≠ s.nat 0x601004) (hbroadcast : target ≠ 0xFFFF) :
    s.takeWord (s.nat 0x601003) target = s.bump 0x601008 := by
  simp [State.takeWord, hother, hbroadcast]

theorem glimmerWord_first_gives (hword : wakeWord pre rate xs = some (s.nat 0x601003, s.nat 0x601004)) (hlistens : s.glimmerListens = true)
    (hmode : s.nat 0x601006 ≠ 0) (hfirst : s.radio.matchEnd = none) :
    Gives (.glimmerWord pre rate xs) s fun t => t.radio.matchEnd = some s.wall ∧
      t.nat 0x60100A = s.nat 0x601003 * 65536 + s.nat 0x601004 := by
  refine gives_next (execGlimmerWord_eq hword hlistens) ?_
  rw [takeWord_first hmode hfirst]
  refine ⟨rfl, ?_⟩
  show (s.setNat 0x60100A _).nat 0x60100A = _
  simp

theorem glimmerWord_foreign_gives {target : Nat} (hword : wakeWord pre rate xs = some (s.nat 0x601003, target))
    (hlistens : s.glimmerListens = true) (hother : target ≠ s.nat 0x601004) (hbroadcast : target ≠ 0xFFFF) :
    Gives (.glimmerWord pre rate xs) s fun t => t.nat 0x601008 = satAdd 32 (s.nat 0x601008) 1 := by
  refine gives_next (execGlimmerWord_eq hword hlistens) ?_
  rw [takeWord_foreign hother hbroadcast]
  simp

theorem spuriousWake_gives {at_ : Nat} (hjudged : s.radio.judged = some at_) (hdue : at_ + 2000 * msTicks ≤ s.gnomon) :
    Gives .spuriousWake s fun t => t.radio.judged = none ∧ t.nat 0x601009 = satAdd 32 (s.nat 0x601009) 1 := by
  refine gives_next rfl ?_
  simp only [hjudged, if_neg (not_lt.mpr hdue)]
  split
  · refine ⟨rfl, ?_⟩
    rw [setNat_nat, if_neg (by decide), bump_nat, if_pos rfl]
    rfl
  · refine ⟨rfl, ?_⟩
    rw [bump_nat, if_pos rfl]
    rfl

theorem matchModeReset_gives (hmode : s.nat 0x601006 = 1)
    (hquiet : (s.radio.spurious.all fun x => decide (x + hourTicks ≤ s.gnomon)) = true) :
    Gives .matchModeReset s fun t => t.nat 0x601006 = 0 ∧ t.radio.spurious = [] := by
  refine gives_next rfl ?_
  rw [if_pos ⟨hmode, hquiet⟩]
  exact ⟨by simp, rfl⟩

/-- Settles O17, command by command. -/
theorem glimmerCompletes : Obligations.GlimmerCompletes :=
  ⟨fun _ _ _ _ => glimmerWord_first_gives, fun _ _ _ _ _ => glimmerWord_foreign_gives, fun _ _ => spuriousWake_gives,
    fun _ => matchModeReset_gives⟩

end Sys2Proof.Machine
end

section
/-!
PROOFS. Entry to SAFE (R447): what stops, in the order of the entry, and that nothing that follows starts it again.
-/
namespace Sys2Proof.Machine

variable {s t : State} {k p u n : Nat}

/-! ### The commands of a path and its antenna -/

@[simp] theorem setUState_val (u new cause verb : Nat) (s : State) (hk : k ≠ (0x2100 + 64 * (u / 256) + u % 256) * 256 + 2)
    (h : k / 256 ≠ 0x9800) (hsync : k ≠ 0x102007) (hlog : k ≠ 0x710007) : (s.setUState u new cause verb).val k = s.val k := by
  simp (disch := omega) [State.setUState, desc, obj, if_neg]

@[simp] theorem setUState_ustate (u new cause verb : Nat) (s : State) (hu : u < 0x1000) : (s.setUState u new cause verb).ustate u = new := by
  unfold State.setUState State.ustate
  extract_lets old
  split
  · assumption
  · rw [raise_nat_other _ _ _ _ _ (by simp only [desc, obj]; omega) (by simp only [desc, obj]; omega) (by simp only [desc, obj]; omega)]
    simp

@[simp] theorem setAntennaStatus_val (p new : Nat) (s : State) (hk : k / 256 ≠ 0x3010 + p) (h : k / 256 ≠ 0x9800) (hsync : k ≠ 0x102007)
    (hlog : k ≠ 0x710007) : (s.setAntennaStatus p new).val k = s.val k := by
  have hne : k ≠ obj (0x3010 + p) 7 := by simp only [obj]; omega
  simp (disch := omega) [State.setAntennaStatus, hne]

@[simp] theorem refreshAntenna_val (p : Nat) (s : State) (hk : k / 256 ≠ 0x3010 + p) (h : k / 256 ≠ 0x9800) (hsync : k ≠ 0x102007)
    (hlog : k ≠ 0x710007) : (s.refreshAntenna p).val k = s.val k := by
  unfold State.refreshAntenna
  extract_lets st on a s1
  have h1 : s1.val k = s.val k := rfl
  simp (disch := omega) [h1]

@[simp] theorem setPlumbStatus_val (p bit : Nat) (on : Bool) (s : State) (hk : k ≠ (0x3020 + p) * 256 + 7) :
    (s.setPlumbStatus p bit on).val k = s.val k := by
  simp [State.setPlumbStatus, hk]

theorem setPlumb_val (p : Nat) (r : Plumb) (s : State) : (s.setPlumb p r).val k = s.val k := rfl

@[simp] theorem plumbOutcome_val (p n : Nat) (s : State) (hk : k / 256 ≠ 0x3020 + p) (h : k / 256 ≠ 0x9800) (hsync : k ≠ 0x102007)
    (hlog : k ≠ 0x710007) : (s.plumbOutcome p n).val k = s.val k := by
  simp (disch := omega) [State.plumbOutcome, obj, setPlumb_val, if_neg]

@[simp] theorem plumbPowerDown_val (p : Nat) (s : State) (hp : p < 2) (hk : k / 256 ≠ 0x3020 + p) (hdesc : k / 256 ≠ 0x2300 + p)
    (h : k / 256 ≠ 0x9800) (hsync : k ≠ 0x102007) (hlog : k ≠ 0x710007) : (s.plumbPowerDown p).val k = s.val k := by
  unfold State.plumbPowerDown
  extract_lets r s1 s2 _ s4 _ s5
  have h1 : s1.val k = s.val k := by
    show State.val (if _ then _ else _) k = _
    simp (disch := omega)
  have h2 : s2.val k = s.val k := by
    show State.val (match r.heldMode with | some m => _ | none => _) k = _
    split <;> simp (disch := omega) [obj, h1, if_neg]
  have h5 : s5.val k = s.val k := by
    show State.val (State.setNat _ _ _) k = _
    rw [setNat_val, if_neg (by simp only [obj]; omega)]
    exact h2
  rw [setNat_val, if_neg (by simp only [desc, obj]; omega), setUState_val _ _ _ _ _ (by omega) h hsync hlog, h5]

@[simp] theorem endCapture_val (c state flags upTo : Nat) (sample : Nat → Int × Int) (s : State) (hk : k / 256 ≠ 0x2560 + c) :
    (s.endCapture c state flags upTo sample).val k = s.val k := by
  unfold State.endCapture
  extract_lets first n valid data header
  rw [issue_val_other _ _ (by simp only [cap, obj]; omega), setNat_val, if_neg (by simp only [cap, obj]; omega)]
  rfl

theorem foldl_val {α : Type} {f : State → α → State} {xs : List α} (hf : ∀ (t : State), ∀ x ∈ xs, (f t x).val k = t.val k) (s : State) :
    (xs.foldl f s).val k = s.val k := by
  induction xs generalizing s with
  | nil => rfl
  | cons x xs ih =>
    rw [List.foldl_cons, ih fun t y hy => hf t y (List.mem_cons_of_mem x hy), hf s x List.mem_cons_self]

@[simp] theorem abortCaptures_val (p : Nat → Bool) (s : State) (hk : k / 256 < 0x2560 ∨ 0x2563 < k / 256) :
    (s.abortCaptures p).val k = s.val k := by
  refine foldl_val (fun t c hc => ?_) s
  have hc4 : c < 4 := List.mem_range.mp hc
  unfold State.abortCapture
  simp (disch := omega)

@[simp] theorem removeEntry_val (reason n : Nat) (s : State) (h : k / 256 ≠ 0x9800) (hsync : k ≠ 0x102007) (hlog : k ≠ 0x710007) :
    (s.removeEntry reason n).val k = s.val k := by
  unfold State.removeEntry
  split
  · rfl
  · exact raise_val _ _ _ _ _ h hsync hlog

@[simp] theorem removeEntries_val (reason : Nat) (p : LaunchEntry → Bool) (s : State) (h : k / 256 ≠ 0x9800) (hsync : k ≠ 0x102007)
    (hlog : k ≠ 0x710007) : (s.removeEntries reason p).val k = s.val k := by
  refine foldl_val (fun t n _ => ?_) s
  split
  · simp (disch := omega)
  · rfl

@[simp] theorem pathDown_val (p : Nat) (s : State) (hp : p < 2) (hpath : k / 256 ≠ 0x3000 + p) (hplumb : k / 256 ≠ 0x3020 + p)
    (hdesc : k / 256 ≠ 0x2300 + p) (hcap : k / 256 < 0x2560 ∨ 0x2563 < k / 256) (h : k / 256 ≠ 0x9800) (hsync : k ≠ 0x102007)
    (hlog : k ≠ 0x710007) : (s.pathDown p).val k = s.val k := by
  unfold State.pathDown
  extract_lets s1 s2 s3 path
  have h3 : s3.val k = s.val k := by simp (disch := omega) [s3, s2, s1]
  rw [ite_val, setNat_val, if_neg (show k ≠ obj (0x3000 + p) 1 by simp only [obj]; omega)]
  exact ite_eq_left_iff.mpr fun _ => h3

/-- A path that goes down is off (R63). -/
theorem pathDown_power (p : Nat) (s : State) (hk : k = obj (0x3000 + p) 1) : (s.pathDown p).nat k = 0 := by
  subst hk
  unfold State.pathDown
  extract_lets s1 s2 s3 path
  split
  next hoff => exact hoff.1
  next => simp

/-! ### The launch table -/

theorem entry_of_launch (h : t.launch = s.launch) (n : Nat) : t.entry n = s.entry n := congrArg (Map.get _ · n) h

theorem removeEntry_entry (reason n m : Nat) (s : State) : (s.removeEntry reason n).entry m = if m = n then none else s.entry m := by
  unfold State.removeEntry
  split
  next hnone =>
    split
    next hm => rw [hm, hnone]
    next => rfl
  next e _ =>
    rw [entry_of_launch (raise_launch ..)]
    exact setEntry_entry n none s m

/-- A fold that does what it is for at its own element, and keeps it done at the others, has done it at all. -/
theorem foldl_done {α β : Type} {P : β → State → Prop} {f : State → α → State} {xs : List α} {g : α → β}
    (hdone : ∀ (t : State), ∀ x ∈ xs, P (g x) (f t x)) (hkept : ∀ (t : State) b, ∀ x ∈ xs, P b t → P b (f t x)) (s : State) :
    ∀ x ∈ xs, P (g x) (xs.foldl f s) := by
  have hlast (b : β) : ∀ (ys : List α) (t : State), (∀ y ∈ ys, y ∈ xs) → P b t → P b (ys.foldl f t) := by
    intro ys
    induction ys with
    | nil => exact fun _ _ h => h
    | cons y ys ih =>
      exact fun t hys h => ih _ (fun z hz => hys z (List.mem_cons_of_mem y hz)) (hkept t b y (hys y List.mem_cons_self) h)
  have hall : ∀ (ys : List α) (t : State), (∀ y ∈ ys, y ∈ xs) → ∀ x ∈ ys, P (g x) (ys.foldl f t) := by
    intro ys
    induction ys with
    | nil => exact fun _ _ x hx => absurd hx List.not_mem_nil
    | cons y ys ih =>
      intro t hys x hx
      rcases List.mem_cons.mp hx with rfl | hx
      · exact hlast _ ys _ (fun z hz => hys z (List.mem_cons_of_mem _ hz)) (hdone t _ (hys _ List.mem_cons_self))
      · exact ih _ (fun z hz => hys z (List.mem_cons_of_mem _ hz)) x hx
  exact hall xs s fun _ h => h

theorem removeEntries_all_entry (reason : Nat) (s : State) (hn : n < 64) : (s.removeEntries reason fun _ => true).entry n = none := by
  refine foldl_done (P := fun n t => t.entry n = none) (g := id) (fun t m _ => ?_) (fun t b m _ h => ?_) s n (List.mem_range.mpr hn)
  · dsimp only [id]
    split
    · simp [removeEntry_entry]
    · assumption
  · dsimp only
    split
    · simp [removeEntry_entry, h]
    · exact h

theorem removeEntries_entry_none (reason : Nat) (p : LaunchEntry → Bool) (h : s.entry n = none) :
    (s.removeEntries reason p).entry n = none := by
  suffices hall : ∀ (xs : List Nat) (t : State), t.entry n = none → (xs.foldl (fun s n =>
      match s.entry n with
      | some e => if p e then s.removeEntry reason n else s
      | none => s) t).entry n = none from hall _ s h
  intro xs
  induction xs with
  | nil => exact fun _ h => h
  | cons m ms ih =>
    refine fun t ht => ih _ ?_
    dsimp only
    split
    · split
      · simp [removeEntry_entry, ht]
      · exact ht
    · exact ht

theorem pathDown_entry_none (p : Nat) (h : s.entry n = none) : (s.pathDown p).entry n = none := by
  unfold State.pathDown
  extract_lets s1 s2 s3
  have h1 : s1.entry n = none := (entry_of_launch (abortCaptures_keeps.same .launch (by decide)) n).trans h
  have h2 : s2.entry n = none := removeEntries_entry_none 2 _ h1
  have h3 : s3.entry n = none := (entry_of_launch (plumbPowerDown_keeps.same .launch (by decide)) n).trans h2
  clear_value s3
  split
  · exact h
  · exact h3

/-! ### The fault of every unit -/

/-- Every unit FAULTED with code 1 (R447). -/
def State.faultAll (s : State) : State := allUnits.foldl (fun s u => (s.setUState u 4 4 0).setNat (desc u 5) 1) s

theorem unit_of_mem_allUnits (h : u ∈ allUnits) : u % 256 < 48 ∧ 1 ≤ u / 256 ∧ u / 256 ≤ 8 := by
  revert u
  decide

theorem fault_unit (s : State) (hu : u ∈ allUnits) :
    ((s.setUState u 4 4 0).setNat (desc u 5) 1).ustate u = 4 ∧ ((s.setUState u 4 4 0).setNat (desc u 5) 1).nat (desc u 5) = 1 := by
  obtain ⟨hlow, hclass, hmost⟩ := unit_of_mem_allUnits hu
  have hstate := setUState_ustate u 4 4 0 s (by omega)
  unfold State.ustate at *
  rw [setNat_nat, if_neg (by simp only [desc, obj]; omega), setNat_nat, if_pos rfl]
  exact ⟨hstate, rfl⟩

theorem fault_other {v j : Nat} (s : State) (hu : u ∈ allUnits) (hv : v ∈ allUnits) (hne : v ≠ u) (hj : j < 256) :
    ((s.setUState u 4 4 0).setNat (desc u 5) 1).nat (desc v j) = s.nat (desc v j) := by
  obtain ⟨hlow, hclass, hmost⟩ := unit_of_mem_allUnits hu
  obtain ⟨hlow', hclass', hmost'⟩ := unit_of_mem_allUnits hv
  have hk : desc v j / 256 ≠ 0x2100 + 64 * (u / 256) + u % 256 := by simp only [desc, obj]; omega
  have hk' : 0x2100 ≤ desc v j / 256 ∧ desc v j / 256 < 0x2330 := by simp only [desc, obj]; omega
  refine nat_of_val ?_
  rw [setNat_val, if_neg (show desc v j ≠ desc u 5 by simp only [desc, obj] at hk ⊢; omega),
    setUState_val _ _ _ _ _ (by omega) (by omega) (by omega) (by omega)]

theorem faultAll_unit (s : State) (hu : unitExists u = true) : s.faultAll.ustate u = 4 ∧ s.faultAll.nat (desc u 5) = 1 := by
  refine foldl_done (P := fun u t => u ∈ allUnits → t.ustate u = 4 ∧ t.nat (desc u 5) = 1) (g := id) (fun t v hv _ => ?_)
    (fun t b v hv h hb => ?_) s u (mem_allUnits_of_unitExists hu) (mem_allUnits_of_unitExists hu)
  · exact fault_unit t hv
  · by_cases hbv : b = v
    · subst hbv
      exact fault_unit t hb
    · obtain ⟨hb4, hb1⟩ := h hb
      exact ⟨(fault_other t hv hb hbv (by decide)).trans hb4, (fault_other t hv hb hbv (by decide)).trans hb1⟩

theorem faultAll_val (s : State) (hk : k / 256 < 0x2100 ∨ 0x2330 ≤ k / 256) (h : k / 256 ≠ 0x9800) (hsync : k ≠ 0x102007)
    (hlog : k ≠ 0x710007) : s.faultAll.val k = s.val k := by
  refine foldl_val (fun t u hu => ?_) s
  obtain ⟨hlow, hclass, hmost⟩ := unit_of_mem_allUnits hu
  rw [setNat_val, if_neg (by simp only [desc, obj]; omega), setUState_val _ _ _ _ _ (by omega) h hsync hlog]

/-! ### The record, and what follows it -/

@[simp] theorem setLevel_val (level signer : Nat) (s : State) (hk : k / 256 ≠ 0x8300) (h : k / 256 ≠ 0x9800) (hsync : k ≠ 0x102007)
    (hlog : k ≠ 0x710007) : (s.setLevel level signer).val k = s.val k := by
  simp (disch := omega) [State.setLevel, if_neg]

@[simp] theorem cvManagement_val (n : Nat) (s : State) (hk : k / 256 ≠ 0x1072) : (s.cvManagement n).val k = s.val k := by
  unfold State.cvManagement
  simp (disch := omega) [cvk, obj, if_neg]
  rfl

@[simp] theorem flushLog_val (s : State) (hk : k / 256 ≠ 0x1072) (hstatus : k ≠ 0x740002) : s.flushLog.val k = s.val k := by
  unfold State.flushLog
  extract_lets all beyond s1
  have h1 : s1.val k = s.val k := cvManagement_val _ s hk
  rw [ite_val, setNat_val, if_neg hstatus]
  exact ite_eq_left_iff.mpr fun _ => h1

/-- What stops at the entry, before the units are faulted. -/
def State.stopAll (from_ : Mode) (s : State) : State :=
  let s := ((s.gloamingDown.inMode .safe).quoinMode from_ .safe).targetMode .safe
  let s := (s.radioDown.abortCaptures fun u => u / 256 == 8).removeEntries 3 fun _ => true
  let s := (s.pathDown 1).pathDown 0
  let s := if s.ustate 0x700 = 0 then s else s.clearDatabase
  { s with holdings := [], loads := [] }

/-- What follows the faults: the antenna supplies, the fault record, its events and the log. -/
def State.recordSafe (c : SafeCause) (old why : Nat) (s : State) : State :=
  let s := (s.refreshAntenna 0).refreshAntenna 1
  let s := if c.cause = 5 then { s with sec := { s.sec with boundaryHold := true } }.setLevel 0 0xFF else s
  let record := [c.cause, c.source] ++ leInt 2 c.reading ++ leNat 8 c.at_ ++ leNat 4 s.log.next
  let s := (s.setBytes 0x740001 record).setNat 0x740002 (setBit (s.nat 0x740002) 0)
  let s := s.raise 23 4 0x7400 (record.map fun b => (1, Int.ofNat b))
  ((s.modeEvent 2 old 7 why).bump 0x76000C).flushLog

/-- The transition in progress is preempted, and the entry announced. -/
def State.preempt (old why : Nat) (s : State) : State :=
  let s := s.modeEvent 1 old 7 why
  let s := match s.power.transition with
    | some t => if t.trigger = 3 then s else s.modeOutcome 0x0809 (modeCode t.old) 7 t.trigger
    | none => s
  { s with power := { s.power with transition := none, heldWake := none, pathStep := 0 } }.setNat 0x760005 0

theorem preempt_transition (old why : Nat) (s : State) : (s.preempt old why).power.transition = none := rfl

/-- The state whose trigger is taken. -/
def State.triggerTaken (s : State) : State := { s with power := { s.power with safeDue := none } }

theorem enterSafe_eq (c : SafeCause) (hoff : s.mode ≠ .off) (hparked : s.mode ≠ .parked) (hsafe : s.mode ≠ .safe) :
    ∃ (u : State) (from_ : Mode) (old why : Nat),
      s.enterSafe c = ((u.stopAll from_).faultAll).recordSafe c old why ∧ u.power.transition = none := by
  unfold State.enterSafe
  rw [if_neg (not_or.mpr ⟨hoff, not_or.mpr ⟨hparked, hsafe⟩⟩)]
  dsimp -zeta only
  generalize State.fresh 256 _ = p
  obtain ⟨why, s1⟩ := p
  dsimp -zeta only
  extract_lets old _ _ _ s5 from_
  refine ⟨s5, from_, old, why, ?_, rfl⟩
  unfold State.recordSafe State.faultAll State.stopAll
  with_reducible rfl

@[simp] theorem lanternEvent_val (kind pi seq mask : Nat) (s : State) (h : k / 256 ≠ 0x9800) (hsync : k ≠ 0x102007)
    (hlog : k ≠ 0x710007) : (s.lanternEvent kind pi seq mask).val k = s.val k := by
  simp (disch := omega) [State.lanternEvent]

@[simp] theorem refreshLantern_val (s : State) (hk : k / 256 ≠ 0x4300) : s.refreshLantern.val k = s.val k := by
  unfold State.refreshLantern
  extract_lets used
  rw [setNat_val, if_neg (by omega), setNat_val, if_neg (by omega)]

@[simp] theorem clearDatabase_val (s : State) (hk : k / 256 ≠ 0x4300) (h : k / 256 ≠ 0x9800) (hsync : k ≠ 0x102007) (hlog : k ≠ 0x710007) :
    s.clearDatabase.val k = s.val k := by
  unfold State.clearDatabase
  rw [lanternEvent_val _ _ _ _ _ h hsync hlog, refreshLantern_val _ hk]
  rfl

/-- The paths go down, B before A. -/
theorem pathsDown_power (s : State) :
    ((s.pathDown 1).pathDown 0).nat 0x300001 = 0 ∧ ((s.pathDown 1).pathDown 0).nat 0x300101 = 0 := by
  refine ⟨pathDown_power 0 _ (by decide), ?_⟩
  rw [nat_of_val (pathDown_val 0 (s.pathDown 1) (by decide) (by decide) (by decide) (by decide) (by decide) (by decide) (by decide) (by decide))]
  exact pathDown_power 1 s (by decide)

theorem stopAll_stops (from_ : Mode) (s : State) :
    (∀ n, n < 64 → (s.stopAll from_).entry n = none) ∧ (s.stopAll from_).nat 0x300001 = 0 ∧ (s.stopAll from_).nat 0x300101 = 0 ∧
      (s.stopAll from_).power.transition = s.power.transition ∧ (s.stopAll from_).holdings = [] ∧ (s.stopAll from_).mode = .safe := by
  unfold State.stopAll
  extract_lets s1 s2 s3 s4
  have h4 : s3.Keeps [.dict, .awaiting, .events, .log, .lantern] s4 := .iteElse .refl clearDatabase_keeps
  have h3 : s2.Keeps [.dict, .awaiting, .events, .launch, .prep, .log, .paths, .plumb, .captures] s3 := pathDown_keeps.step pathDown_keeps
  have h2 : s1.Keeps [.dict, .awaiting, .events, .launch, .prep, .log, .captures, .radio, .link, .mesh] s2 :=
    .step removeEntries_keeps <| .step abortCaptures_keeps <| .step radioDown_keeps .refl
  have h1 : s.Keeps [.mode, .dict, .shm, .gloaming, .quoin, .twoWire] s1 :=
    .step targetMode_keeps <| .step quoinMode_keeps <| .step inMode_keeps <| .step gloamingDown_keeps .refl
  have hpower : s4.power = s.power := by
    rw [h4.same .power (by decide), h3.same .power (by decide), h2.same .power (by decide), h1.same .power (by decide)]
  have hkept (k : Nat) (hk : k / 256 = 0x3000 ∨ k / 256 = 0x3001) : s4.nat k = s3.nat k := by
    refine nat_of_val ?_
    simp (disch := omega) [s4]
  obtain ⟨hpathA, hpathB⟩ := pathsDown_power s2
  have hmode : s4.mode = .safe := by
    rw [h4.same .mode (by decide), h3.same .mode (by decide), h2.same .mode (by decide)]
    rfl
  have hentry (n : Nat) (hn : n < 64) : s4.entry n = none := by
    have hremoved : s2.entry n = none := removeEntries_all_entry 3 _ hn
    exact (entry_of_launch (h4.same .launch (by decide)) n).trans (pathDown_entry_none 0 (pathDown_entry_none 1 hremoved))
  clear_value s4
  refine ⟨hentry, ?_, ?_, congrArg Power.transition hpower, rfl, hmode⟩
  · show s4.nat 0x300001 = 0
    rw [hkept 0x300001 (by decide), hpathA]
  · show s4.nat 0x300101 = 0
    rw [hkept 0x300101 (by decide), hpathB]

theorem recordSafe_keeps (c : SafeCause) (old why : Nat) (s : State) :
    s.Keeps [.freeCtr, .dict, .awaiting, .events, .log, .antennas, .sec] (s.recordSafe c old why) := by
  unfold State.recordSafe
  exact .step flushLog_keeps <| .step bump_keeps <| .step modeEvent_keeps <| .step raise_keeps <| .step setNat_keeps <|
    .step setBytes_keeps <| .iteThen (.step refreshAntenna_keeps <| .step refreshAntenna_keeps .refl) (.step setLevel_keeps <| .raw)

theorem faultAll_keeps (s : State) : s.Keeps [.dict, .awaiting, .events, .log] s.faultAll :=
  .foldl (fun _ _ => .step setNat_keeps <| .step setUState_keeps .refl) .refl

/-- The fault record keeps the units' descriptors and the paths' power. -/
theorem recordSafe_val (c : SafeCause) (old why : Nat) (s : State)
    (hk : k / 256 ≤ 0x3001 ∧ k / 256 ≠ 0x1072 ∧ k ≠ 0x102007) : (s.recordSafe c old why).val k = s.val k := by
  unfold State.recordSafe
  extract_lets s1 _ s2 record s3 s4
  have h1 : s1.val k = s.val k := by simp (disch := omega) [s1]
  have h2 : s2.val k = s.val k := by
    show State.val (if _ then _ else _) k = _
    split
    · exact (setLevel_val _ _ _ (by omega) (by omega) (by omega) (by omega)).trans h1
    · exact h1
  have h4 : s4.val k = s.val k := by
    simp (disch := omega) [s4, s3, if_neg, h2]
  unfold State.modeEvent
  simp (disch := omega) [h4]

theorem recordSafe_record (c : SafeCause) (old why : Nat) (s : State) : ∃ rest,
    (s.recordSafe c old why).bytes 0x740001 = ([c.cause, c.source] ++ leInt 2 c.reading ++ leNat 8 c.at_) ++ rest := by
  unfold State.recordSafe
  extract_lets s1 _ s2 record s3 s4
  have h3 : s3.bytes 0x740001 = record := by
    simp [s3, setNat_bytes]
  have h4 : s4.bytes 0x740001 = record := (bytes_of_val (by simp [s4])).trans h3
  refine ⟨leNat 4 s2.log.next, (bytes_of_val ?_).trans h4⟩
  clear_value s4
  simp (disch := omega) [State.modeEvent]

theorem takeSafe_eq {c : SafeCause} (hdue : s.power.safeDue = some c) : s.takeSafe = s.enterSafe c := by
  rw [State.takeSafe, hdue]

/-- Settles O60: the units are faulted after all else has stopped, and what follows leaves them. -/
theorem safeFaultsEveryUnit : Obligations.SafeFaultsEveryUnit := by
  intro c s hdue hoff hparked hsafe
  obtain ⟨u, from_, old, why, heq, htransition⟩ := enterSafe_eq c hoff hparked hsafe
  obtain ⟨hentry, hpathA, hpathB, hpower, hholdings, _⟩ := stopAll_stops from_ u
  have hkeeps : (u.stopAll from_).Keeps [.freeCtr, .dict, .awaiting, .events, .log, .antennas, .sec] _ :=
    .step (recordSafe_keeps c old why _) (.step (faultAll_keeps (u.stopAll from_)) .refl)
  refine gives_next (show exec .safeEntry s = .next s.takeSafe from rfl) ?_
  rw [takeSafe_eq hdue, heq]
  have hpath (k : Nat) (hk : k / 256 = 0x3000 ∨ k / 256 = 0x3001) : ((u.stopAll from_).faultAll.recordSafe c old why).nat k =
      (u.stopAll from_).nat k := nat_of_val <|
    (recordSafe_val c old why _ (by omega)).trans (faultAll_val _ (by omega) (by omega) (by omega) (by omega))
  obtain ⟨rest, hrecord⟩ := recordSafe_record c old why (u.stopAll from_).faultAll
  refine ⟨fun v hv => ?_, fun n hn => ?_, ?_, ?_, ?_, ?_, ?_⟩
  · obtain ⟨hstate, hcode⟩ := faultAll_unit (u.stopAll from_) hv
    obtain ⟨hlow, hclass, hmost⟩ := unit_of_mem_allUnits (mem_allUnits_of_unitExists hv)
    have hkept (j : Nat) (hj : j < 256) : ((u.stopAll from_).faultAll.recordSafe c old why).nat (desc v j) =
        (u.stopAll from_).faultAll.nat (desc v j) :=
      nat_of_val (recordSafe_val c old why _ (by simp only [desc, obj]; omega))
    exact ⟨(hkept 2 (by decide)).trans hstate, (hkept 5 (by decide)).trans hcode⟩
  · exact (entry_of_launch (hkeeps.same .launch (by decide)) n).trans (hentry n hn)
  · rw [hpath 0x300001 (by decide), hpathA]
  · rw [hpath 0x300101 (by decide), hpathB]
  · rw [hkeeps.same .power (by decide), hpower, htransition]
  · rw [hkeeps.same .holdings (by decide), hholdings]
  · rw [hrecord]
    exact List.take_left' (by simp [leInt, leNat])

end Sys2Proof.Machine
end

section
/-!
PROOFS. What the sensors, the monitors, the log, GPIO and the tap leave (R433 to R441, R447, R475).
-/
namespace Sys2Proof.Machine

variable {r : Requester} {s t : State} {n k v : Nat}

theorem managementWatchdog_gives (hmonitored : s.monitored = true) (hdue : s.power.beat + 100 * msTicks ≤ s.gnomon) :
    Gives .managementWatchdog s fun t => t.mode = .boot ∧ t.ready = false ∧ t.power.resetCause = 4 ∧ t.log = s.log := by
  refine gives_next (congrArg Host.Outcome.next (if_pos ⟨hmonitored, hdue⟩)) ?_
  exact ⟨rfl, rfl, rfl, rfl⟩

/-! ### Die temperature -/

theorem temperature_power (n : Nat) (x : Int) (s : State) :
    ∃ levels, (s.temperature n x).power = { s.power with levels := levels } := by
  unfold State.temperature
  extract_lets s1 s2 s3 old new levels
  have h3 : s3.power = s.power := by
    show State.power (if n = 4 then _ else _) = _
    split
    · exact paTemperature_keeps.same .power (by decide)
    · rfl
  split
  · exact ⟨s.power.levels, h3⟩
  · refine ⟨levels, ?_⟩
    rw [raise_power, setNat_power]
    exact congrArg (fun p : Power => { p with levels := levels }) h3

/-- The mean and the hottest one are published (R437). -/
theorem temperature_num (n : Nat) (x : Int) (s : State) (hk : k / 256 = 0x7000) : (s.temperature n x).num k =
    if k = 0x700007 then max x ((s.setNum (obj 0x7000 n) x).num 0x700007) else (s.setNum (obj 0x7000 n) x).num k := by
  unfold State.temperature
  extract_lets s1 s2 s3 old new levels _ s5
  have h3 : s3.num k = s2.num k := by
    show State.num (if n = 4 then _ else _) k = _
    split
    · exact num_of_val_eq (paTemperature_keeps.val k)
    · rfl
  have h2 : s2.num k = if k = 0x700007 then max x (s1.num 0x700007) else s1.num k := setNum_num ..
  have h5 : s5.num k = s3.num k := by
    show State.num (State.setNat _ _ _) k = _
    rw [setNat_num, if_neg (by omega)]
    rfl
  rw [← h2, ← h3]
  clear_value s5 s3
  split
  · rfl
  · rw [num_of_val_eq (raise_val _ _ _ _ _ (by omega) (by omega) (by omega)), h5]

theorem askSafe_num (cause source : Nat) (reading : Int) (s : State) (k : Nat) : (s.askSafe cause source reading).num k = s.num k := by
  unfold State.askSafe
  split <;> rfl

theorem askSafe_due {cause source : Nat} {reading : Int} (hoff : s.mode ≠ .off) (hparked : s.mode ≠ .parked) (hsafe : s.mode ≠ .safe)
    (hdue : s.power.safeDue = none) : s.askSafe cause source reading =
      { s with power := { s.power with safeDue := some ⟨cause, source, clampInt (-32768) 32767 reading, s.gnomon⟩ } } := by
  unfold State.askSafe
  exact if_neg (by simp [hoff, hparked, hsafe, hdue])

theorem askSafe_safeDue {cause source : Nat} {reading : Int} (hoff : s.mode ≠ .off) (hparked : s.mode ≠ .parked) (hsafe : s.mode ≠ .safe)
    (hdue : s.power.safeDue = none) : (s.askSafe cause source reading).power.safeDue =
      some ⟨cause, source, clampInt (-32768) 32767 reading, s.gnomon⟩ := by
  rw [askSafe_due hoff hparked hsafe hdue]

theorem askSafe_dieSamples (cause source : Nat) (reading : Int) (s : State) :
    (s.askSafe cause source reading).power.dieSamples = s.power.dieSamples := by
  unfold State.askSafe
  split <;> rfl

theorem clampInt_idem {lo hi x : Int} (h : lo ≤ hi) : clampInt lo hi (clampInt lo hi x) = clampInt lo hi x := by
  unfold clampInt
  grind

theorem running_of_monitored (h : s.monitored = true) : s.mode ≠ .off ∧ s.mode ≠ .parked := by
  simpa [State.monitored, State.clockRuns] using h

/-- The last samples of a sensor, and the instant of the newest. -/
def State.dieSampled (n : Nat) (last : List Int) (s : State) : State :=
  ({ s with power := { s.power with dieSamples := Map.put (fun _ => []) s.power.dieSamples n last } } : State).sampled (obj 0x7000 n)

/-- The mean of ten samples of a sensor published, and SAFE called for where all ten are at 135 °C or above. -/
def State.meanTaken (n : Nat) (last : List Int) (mean : Int) (s : State) : State :=
  if last.all fun x => decide (1350 ≤ x) then ((s.dieSampled n last).temperature n mean).askSafe 1 n mean
  else (s.dieSampled n last).temperature n mean

theorem exec_temperatureCrossing {x : Int} {last : List Int} (hmonitored : s.monitored = true) (hlow : 1 ≤ n) (hhigh : n ≤ 4)
    (hdue : s.sampleDue (obj 0x7000 n) 15360 = true) (hlast : last = lastN 10 (Map.get (fun _ => []) s.power.dieSamples n ++ [x]))
    (hten : last.length = 10) : exec (.temperatureCrossing n x) s =
      .next (s.meanTaken n last (clampInt (-32768) 32767 (roundMean (last.foldl (· + ·) 0) 10))) := by
  refine congrArg Host.Outcome.next ((if_pos (by simp [hmonitored, hlow, hhigh, hdue])).trans ?_)
  dsimp only
  rw [← hlast, if_neg (by omega)]
  rfl

theorem meanTaken_num (last : List Int) (mean : Int) (s : State) (hk : k / 256 = 0x7000) : (s.meanTaken n last mean).num k =
    if k = 0x700007 then max mean ((s.setNum (obj 0x7000 n) mean).num 0x700007) else (s.setNum (obj 0x7000 n) mean).num k := by
  have h := temperature_num n mean (s.dieSampled n last) hk
  unfold State.meanTaken
  split
  · exact (askSafe_num ..).trans h
  · exact h

theorem meanTaken_dieSamples (last : List Int) (mean : Int) (s : State) :
    Map.get (fun _ => []) (s.meanTaken n last mean).power.dieSamples n = last := by
  obtain ⟨levels, hpower⟩ := temperature_power n mean (s.dieSampled n last)
  have h : ((s.dieSampled n last).temperature n mean).power.dieSamples = Map.put (fun _ => []) s.power.dieSamples n last := by
    rw [hpower]
    rfl
  have hget : Map.get (fun _ => []) (Map.put (fun _ => []) s.power.dieSamples n last) n = last := by
    simp [map_get_put]
  unfold State.meanTaken
  split
  · rw [askSafe_dieSamples, h, hget]
  · rw [h, hget]

theorem temperatureCrossing_mean_gives {x mean : Int} {last : List Int} (hmonitored : s.monitored = true) (hlow : 1 ≤ n) (hhigh : n ≤ 4)
    (hdue : s.sampleDue (obj 0x7000 n) 15360 = true) (hlast : last = lastN 10 (Map.get (fun _ => []) s.power.dieSamples n ++ [x]))
    (hten : last.length = 10) (hmean : mean = clampInt (-32768) 32767 (roundMean (last.foldl (· + ·) 0) 10)) :
    Gives (.temperatureCrossing n x) s fun t => Map.get (fun _ => []) t.power.dieSamples n = last ∧
      t.num (obj 0x7000 n) = mean ∧ t.num 0x700007 = max mean (s.num 0x700007) := by
  refine gives_next (exec_temperatureCrossing hmonitored hlow hhigh hdue hlast hten) ?_
  rw [← hmean]
  refine ⟨meanTaken_dieSamples .., ?_, ?_⟩
  · rw [meanTaken_num _ _ _ (by simp only [obj]; omega), if_neg (by simp only [obj]; omega), setNum_num, if_pos rfl]
  · rw [meanTaken_num _ _ _ (by decide), if_pos rfl, setNum_num, if_neg (by simp only [obj]; omega)]

theorem temperatureCrossing_safe_gives {x : Int} {last : List Int} (hmonitored : s.monitored = true) (hsafe : s.mode ≠ .safe)
    (hfree : s.power.safeDue = none) (hlow : 1 ≤ n) (hhigh : n ≤ 4) (hdue : s.sampleDue (obj 0x7000 n) 15360 = true)
    (hlast : last = lastN 10 (Map.get (fun _ => []) s.power.dieSamples n ++ [x])) (hten : last.length = 10)
    (hhot : ∀ y, y ∈ last → 1350 ≤ y) :
    Gives (.temperatureCrossing n x) s fun t => t.power.safeDue =
      some ⟨1, n, clampInt (-32768) 32767 (roundMean (last.foldl (· + ·) 0) 10), s.gnomon⟩ := by
  refine gives_next (exec_temperatureCrossing hmonitored hlow hhigh hdue hlast hten) ?_
  obtain ⟨hoff, hparked⟩ := running_of_monitored hmonitored
  have hclamped := clampInt_idem (x := roundMean (last.foldl (· + ·) 0) 10) (show (-32768 : Int) ≤ 32767 by decide)
  generalize clampInt (-32768) 32767 (roundMean (last.foldl (· + ·) 0) 10) = mean at hclamped ⊢
  obtain ⟨levels, hpower⟩ := temperature_power n mean (s.dieSampled n last)
  have hkeeps : (s.dieSampled n last).Keeps _ _ := temperature_keeps (n := n) (t := mean)
  have hmode : ((s.dieSampled n last).temperature n mean).mode = s.mode := hkeeps.same .mode (by decide)
  have hgnomon : ((s.dieSampled n last).temperature n mean).gnomon = s.gnomon := hkeeps.same .gnomon (by decide)
  unfold State.meanTaken
  rw [if_pos (by simpa using hhot), askSafe_due (hmode ▸ hoff) (hmode ▸ hparked) (hmode ▸ hsafe) (by rw [hpower]; exact hfree), hclamped,
    hgnomon]

/-! ### Supplies -/

/-- The last samples of a supply, and the instant of the newest. -/
def State.railSampled (m : Nat) (last : List Nat) (s : State) : State :=
  ({ s with power := { s.power with railSamples := Map.put (fun _ => []) s.power.railSamples m last } } : State).sampled (obj 0x7001 m)

/-- The mean of a hundred samples of a supply published, and its warning flagged. -/
def State.railPublished (m : Nat) (last : List Nat) (s : State) : State :=
  if last.length < 100 then s
  else
    let s := s.setNat (obj 0x7001 m) (min 65535 ((2 * last.foldl (· + ·) 0 + 100) / 200))
    if last.all (outside (s.band m 5)) then s.setNat 0x70010A (setBit (s.nat 0x70010A) (m - 1)) else s

theorem railPublished_frame (m : Nat) (last : List Nat) (s : State) :
    (s.railPublished m last).power = s.power ∧ (s.railPublished m last).mode = s.mode ∧ (s.railPublished m last).gnomon = s.gnomon := by
  unfold State.railPublished
  split
  · exact ⟨rfl, rfl, rfl⟩
  · dsimp only
    split <;> exact ⟨rfl, rfl, rfl⟩

theorem band_of_power (h : t.power = s.power) (m pct : Nat) : t.band m pct = s.band m pct := by
  unfold State.band State.nominal
  rw [h]

theorem railPublished_sampled (m : Nat) (last : List Nat) (s : State) :
    ((s.railSampled m last).railPublished m last).power.safeDue = s.power.safeDue ∧
    ((s.railSampled m last).railPublished m last).mode = s.mode ∧ ((s.railSampled m last).railPublished m last).gnomon = s.gnomon ∧
    ((s.railSampled m last).railPublished m last).band m 10 = s.band m 10 := by
  obtain ⟨hpower, hmode, hgnomon⟩ := railPublished_frame m last (s.railSampled m last)
  exact ⟨(congrArg Power.safeDue hpower).trans rfl, hmode, hgnomon, band_of_power hpower m 10⟩

theorem severe_reset {m x : Nat} (hm : m = 1 ∨ m = 7) (hlow : x < (s.band m 10).1) :
    (s.severe m x).mode = .boot ∧ (s.severe m x).power.resetCause = 3 := by
  unfold State.severe
  extract_lets s1
  have hband : s1.band m 10 = s.band m 10 := rfl
  rw [hband, if_pos (by rcases hm with rfl | rfl <;> simp [hlow])]
  exact ⟨rfl, rfl⟩

theorem severe_safe {m x : Nat} (hkind : (m ≠ 1 ∧ m ≠ 7) ∨ (s.band m 10).1 ≤ x) (hoff : s.mode ≠ .off) (hparked : s.mode ≠ .parked)
    (hsafe : s.mode ≠ .safe) (hfree : s.power.safeDue = none) :
    (s.severe m x).power.safeDue = some ⟨2, m, clampInt (-32768) 32767 x, s.gnomon⟩ := by
  unfold State.severe
  extract_lets s1
  have hband : s1.band m 10 = s.band m 10 := rfl
  rw [hband, if_neg (by simp; omega)]
  exact askSafe_safeDue hoff hparked hsafe hfree

theorem exec_supplyLevel {m x : Nat} {last : List Nat} (hmonitored : s.monitored = true) (hlow : 1 ≤ m) (hhigh : m ≤ 9)
    (hdue : s.sampleDue (obj 0x7001 m) 1536 = true) (hlast : last = lastN 100 (Map.get (fun _ => []) s.power.railSamples m ++ [x])) :
    exec (.supplyLevel m x) s = .next (if (lastN 10 last).length == 10 && (lastN 10 last).all (outside (s.band m 10))
      then ((s.railSampled m last).railPublished m last).severe m x else (s.railSampled m last).railPublished m last) := by
  have hband : ((s.railSampled m last).railPublished m last).band m 10 = s.band m 10 := by
    unfold State.band State.nominal
    rw [(railPublished_frame ..).1]
    rfl
  refine congrArg Host.Outcome.next ((if_pos (by simp [hmonitored, hlow, hhigh, hdue])).trans ?_)
  rw [← hband]
  dsimp only
  rw [← hlast]
  rfl

theorem supplyLevel_mean_gives {m x : Nat} {last : List Nat} (hmonitored : s.monitored = true) (hlow : 1 ≤ m) (hhigh : m ≤ 9)
    (hdue : s.sampleDue (obj 0x7001 m) 1536 = true) (hlast : last = lastN 100 (Map.get (fun _ => []) s.power.railSamples m ++ [x]))
    (hfull : last.length = 100) (hgood : (lastN 10 last).all (outside (s.band m 10)) = false) :
    Gives (.supplyLevel m x) s fun t => t.nat (obj 0x7001 m) = min 65535 ((2 * last.foldl (· + ·) 0 + 100) / 200) := by
  refine gives_next (exec_supplyLevel hmonitored hlow hhigh hdue hlast) ?_
  rw [hgood, Bool.and_false, if_neg (by decide)]
  unfold State.railPublished
  rw [if_neg (by omega)]
  dsimp only
  split
  · rw [setNat_nat, if_neg (by simp only [obj]; omega), setNat_nat, if_pos rfl]
  · rw [setNat_nat, if_pos rfl]

theorem supplyLevel_reset_gives {m x : Nat} {recent : List Nat} (hmonitored : s.monitored = true) (hm : m = 1 ∨ m = 7)
    (hdue : s.sampleDue (obj 0x7001 m) 1536 = true)
    (hrecent : recent = lastN 10 (lastN 100 (Map.get (fun _ => []) s.power.railSamples m ++ [x]))) (hten : recent.length = 10)
    (hbad : recent.all (outside (s.band m 10)) = true) (hlow : x < (s.band m 10).1) :
    Gives (.supplyLevel m x) s fun t => t.mode = .boot ∧ t.power.resetCause = 3 := by
  refine gives_next (exec_supplyLevel hmonitored (by omega) (by omega) hdue rfl) ?_
  rw [← hrecent, hbad, hten, if_pos (by decide)]
  obtain ⟨_, _, _, hband⟩ := railPublished_sampled m (lastN 100 (Map.get (fun _ => []) s.power.railSamples m ++ [x])) s
  exact severe_reset hm (by rwa [hband])

theorem supplyLevel_safe_gives {m x : Nat} {recent : List Nat} (hmonitored : s.monitored = true) (hsafe : s.mode ≠ .safe)
    (hfree : s.power.safeDue = none) (hlow : 1 ≤ m) (hhigh : m ≤ 9) (hdue : s.sampleDue (obj 0x7001 m) 1536 = true)
    (hrecent : recent = lastN 10 (lastN 100 (Map.get (fun _ => []) s.power.railSamples m ++ [x]))) (hten : recent.length = 10)
    (hbad : recent.all (outside (s.band m 10)) = true) (hkind : (m ≠ 1 ∧ m ≠ 7) ∨ (s.band m 10).1 ≤ x) :
    Gives (.supplyLevel m x) s fun t => t.power.safeDue = some ⟨2, m, clampInt (-32768) 32767 x, s.gnomon⟩ := by
  refine gives_next (exec_supplyLevel hmonitored hlow hhigh hdue rfl) ?_
  obtain ⟨hoff, hparked⟩ := running_of_monitored hmonitored
  rw [← hrecent, hbad, hten, if_pos (by decide)]
  obtain ⟨hdue', hmode, hgnomon, hband⟩ :=
    railPublished_sampled m (lastN 100 (Map.get (fun _ => []) s.power.railSamples m ++ [x])) s
  rw [severe_safe (by rwa [hband]) (by rwa [hmode]) (by rwa [hmode]) (by rwa [hmode]) (hdue'.trans hfree), hgnomon]

/-! ### Clock monitors -/

/-- A monitor shows its fault and calls for SAFE. -/
theorem monitorFault {monitor key : Nat} {reading : Int} (hmonitored : s.monitored = true) (hsafe : s.mode ≠ .safe)
    (hfree : s.power.safeDue = none) : ((s.setNat key 2).askSafe 3 monitor reading).nat key = 2 ∧
      ((s.setNat key 2).askSafe 3 monitor reading).power.safeDue = some ⟨3, monitor, clampInt (-32768) 32767 reading, s.gnomon⟩ := by
  obtain ⟨hoff, hparked⟩ := running_of_monitored hmonitored
  refine ⟨?_, askSafe_safeDue hoff hparked hsafe hfree⟩
  rw [State.nat, askSafe_num, setNat_num, if_pos rfl]
  rfl

theorem referenceLost_gives {quiet : Nat} {locked : Bool} (hmonitored : s.monitored = true) (hsafe : s.mode ≠ .safe)
    (hfree : s.power.safeDue = none) (hquiet : 2000 ≤ quiet) :
    Gives (.clockMonitorFault 1 quiet locked) s fun t => t.nat 0x700201 = 2 ∧ t.power.safeDue = some ⟨3, 1, 0, s.gnomon⟩ := by
  refine gives_next (t := (s.setNat 0x700201 2).askSafe 3 1 0) (congrArg Host.Outcome.next ?_) (monitorFault hmonitored hsafe hfree)
  simp [hmonitored, not_lt.mpr hquiet]

theorem sampleClockUnlocked_gives {quiet : Nat} {locked : Bool} (hmonitored : s.monitored = true) (hsafe : s.mode ≠ .safe)
    (hfree : s.power.safeDue = none) (hunlocked : 16 < s.unlocksLately ∨ s.unlockedLong = true) :
    Gives (.clockMonitorFault 2 quiet locked) s fun t => t.nat 0x700202 = 2 ∧
      t.power.safeDue = some ⟨3, 2, clampInt (-32768) 32767 s.unlocksLately, s.gnomon⟩ := by
  refine gives_next (t := (s.setNat 0x700202 2).askSafe 3 2 s.unlocksLately) (congrArg Host.Outcome.next ?_)
    (monitorFault hmonitored hsafe hfree)
  simp [hmonitored, if_pos hunlocked]

theorem fabricUnlocked_gives {quiet : Nat} (hmonitored : s.monitored = true) (hsafe : s.mode ≠ .safe) (hfree : s.power.safeDue = none) :
    Gives (.clockMonitorFault 3 quiet false) s fun t => t.nat 0x700203 = 2 ∧ t.power.safeDue = some ⟨3, 3, 0, s.gnomon⟩ := by
  refine gives_next (t := (s.setNat 0x700203 2).askSafe 3 3 0) (congrArg Host.Outcome.next ?_) (monitorFault hmonitored hsafe hfree)
  simp [hmonitored]

theorem canUnlocked_gives {quiet : Nat} (hmonitored : s.monitored = true) (hlocked : s.nat 0x700204 = 0) :
    Gives (.clockMonitorFault 4 quiet false) s fun t => t.nat 0x700204 = 1 ∧ t.nat 0x104101 = 0 := by
  refine gives_next (t := ((s.setNat 0x700204 1).setNat 0x104101 0).raise 23 1 0x7002 []) (congrArg Host.Outcome.next ?_) ?_
  · simp [hmonitored, hlocked]
  · simp

@[simp] theorem quoinMode_val (old new : Mode) (s : State) (hk : k ≠ 0x104101) : (s.quoinMode old new).val k = s.val k := by
  unfold State.quoinMode
  extract_lets
  rw [setNat_val, if_neg hk]
  rfl

theorem canLocked_gives {quiet : Nat} (hmonitored : s.monitored = true) :
    Gives (.clockMonitorFault 4 quiet true) s fun t => t.nat 0x700204 = 0 := by
  by_cases hlocked : s.nat 0x700204 = 0
  · exact gives_next (t := s) (congrArg Host.Outcome.next (by simp [hmonitored, hlocked])) hlocked
  · refine gives_next (t := (s.setNat 0x700204 0).quoinMode s.mode s.mode) (congrArg Host.Outcome.next ?_) ?_
    · simp [hmonitored, hlocked]
    · rw [nat_of_val (quoinMode_val _ _ _ (by decide)), setNat_nat, if_pos rfl]

/-! ### The log, GPIO, the tap and SAFE -/

theorem logFlush_gives (hmonitored : s.monitored = true) (hdue : s.flushDue = true) :
    Gives (.logFlush false) s fun t => t.log.sram = [] := by
  refine gives_next (t := s.flushLog) (congrArg Host.Outcome.next (by simp [hmonitored, hdue])) ?_
  unfold State.flushLog
  split
  next hempty => exact List.isEmpty_iff.mp hempty
  next => rfl

theorem unruled_logQuery : Unruled 0x710002 :=
  ⟨rfl, rfl, fun _ => rfl, fun _ _ => rfl, fun _ _ => rfl, fun _ _ => rfl, fun _ _ => ⟨rfl, rfl, rfl⟩,
    fun _ _ => ⟨rfl, rfl, rfl, rfl, rfl, rfl, rfl⟩, fun s i b => ⟨followRule_eq_zero (by decide) s i b, rfl⟩⟩

theorem applyWrite_logQuery {q : Nat} {e : LogEntry} (hq : q < 2 ^ 32) (hfound : (s.log.held.find? fun e => e.seq == q) = some e) :
    s.applyWrite 0x710002 (leNat 4 q) = ((s.setNat 0x710002 q).issue 0x710003 e.encode, 0) := by
  have hvalue : decodeVal .u32 (leNat 4 q) = .num q := congrArg (fun n : Nat => Val.num n) (ofLe_leNat hq)
  rw [applyWrite_num (row := ⟨0x7100, 1, 0x02, 0x02, .u32, .rw, 0, []⟩) (i := q) (by decide) unruled_logQuery hvalue rfl]
  show s.logQuery q = _
  rw [State.logQuery, hfound]

theorem issue_bytes (k : Nat) (body : Bytes) (s : State) : (s.issue k body).bytes k = leNat 2 (nextSeq (s.resSeq k)) ++ body :=
  (setBytes_bytes ..).trans (if_pos rfl)

theorem logQuery_gives {q : Nat} {e : LogEntry} (hq : q < 2 ^ 32) (haccepts : s.Accepts r 0x710002 (leNat 4 q))
    (hfound : ((s.autoTake r 0x710002).log.held.find? fun e => e.seq == q) = some e) :
    Gives (.logQuery r q) s fun t => t.nat 0x710002 = q ∧ (t.bytes 0x710003).drop 2 = e.encode := by
  have hact := applyWrite_logQuery hq hfound
  refine gives_request rfl haccepts (by rw [hact]) ?_
  rw [hact]
  refine ⟨by simp [issue_nat], ?_⟩
  rw [bytes_of_val (reply_val ..), bytes_of_val (touch_val _ _ (by decide)), issue_bytes]
  rfl

theorem safeEntry_gives {c : SafeCause} (hdue : s.power.safeDue = some c) (hoff : s.mode ≠ .off) (hparked : s.mode ≠ .parked)
    (hsafe : s.mode ≠ .safe) :
    Gives .safeEntry s fun t => t.mode = .safe ∧ (t.bytes 0x740001).take 2 = [c.cause, c.source] := by
  obtain ⟨u, from_, old, why, heq, _⟩ := enterSafe_eq c hoff hparked hsafe
  obtain ⟨_, _, _, _, _, hmode⟩ := stopAll_stops from_ u
  obtain ⟨rest, hrecord⟩ := recordSafe_record c old why (u.stopAll from_).faultAll
  refine gives_next (show exec .safeEntry s = .next s.takeSafe from rfl) ?_
  rw [takeSafe_eq hdue, heq, hrecord]
  refine ⟨?_, rfl⟩
  rw [(recordSafe_keeps c old why _).same .mode (by decide), (faultAll_keeps _).same .mode (by decide), hmode]

theorem unruled_gpio (hk : k = 1 ∨ k = 2 ∨ k = 6) : Unruled (obj 0x7700 k) := by
  rcases hk with rfl | rfl | rfl <;>
    exact ⟨rfl, rfl, fun _ => rfl, fun _ _ => rfl, fun _ _ => rfl, fun _ _ => rfl, fun _ _ => ⟨rfl, rfl, rfl⟩,
      fun _ _ => ⟨rfl, rfl, rfl, rfl, rfl, rfl, rfl⟩, fun s i b => ⟨followRule_eq_zero (by decide) s i b, rfl⟩⟩

theorem exec_gpioWrite (hk : k = 1 ∨ k = 2 ∨ k = 6) (hv : v < 256) : exec (.gpioWrite r k v) s =
    .next (s.request r (obj 0x7700 k) [v] (State.applyWrite (obj 0x7700 k) [v])) := by
  rw [← leNat_one hv]
  exact if_pos (by omega)

theorem gpioWrite_gives (hk : k = 1 ∨ k = 6) (hv : v < 256) (haccepts : s.Accepts r (obj 0x7700 k) [v]) :
    Gives (.gpioWrite r k v) s fun t => t.nat (obj 0x7700 k) = v := by
  have hexec : exec (.gpioWrite r k v) s = _ := exec_gpioWrite (by omega) hv
  have hfree : Unruled (obj 0x7700 k) := unruled_gpio (by omega)
  rcases hk with rfl | rfl
  · exact gives_stored (row := ⟨0x7700, 1, 0x01, 0x01, .u8, .rw, 0, []⟩) hexec haccepts rfl (by decide) hfree
      (congrArg (fun n : Nat => Val.num n) (ofLe_one v)) (fun _ => rfl) (by decide)
  · exact gives_stored (row := ⟨0x7700, 1, 0x06, 0x06, .bool, .rw, 1, []⟩) hexec haccepts rfl (by decide) hfree
      (congrArg (fun n : Nat => Val.num n) (ofLe_one v)) (fun _ => rfl) (by decide)

theorem gpioOut_gives (hv : v < 256) (haccepts : s.Accepts r 0x770002 [v]) (hfired : s.gpioFired = none) :
    Gives (.gpioWrite r 2 v) s fun t => t.nat 0x770002 = v := by
  have hwritten : (s.autoTake r 0x770002).gpioWritten v = v := by
    rw [State.gpioWritten, autoTake_gpioFired, hfired]
  refine gives_acted (row := ⟨0x7700, 1, 0x02, 0x02, .u8, .rw, 0, []⟩) (exec_gpioWrite (Or.inr (Or.inl rfl)) hv) haccepts rfl (by decide)
    (unruled_gpio (Or.inr (Or.inl rfl))) (congrArg (fun n : Nat => Val.num n) (ofLe_one v))
    (show _ = some ((s.autoTake r 0x770002).setNat 0x770002 ((s.autoTake r 0x770002).gpioWritten v), 0) from rfl) ?_
  rw [hwritten]
  simp

theorem bump_ne_zero (j : Nat) (h : s.nat k ≠ 0) : (s.bump j).nat k ≠ 0 := by
  rw [bump_nat, satAdd]
  split <;> omega

theorem setEvents_nat (s : State) (e : Events) (k : Nat) : ({ s with events := e } : State).nat k = s.nat k := rfl

theorem issueEvent_nat_ne_zero (e : Event) (hk : k ≠ 0x980006 ∧ k ≠ 0x102007) (h : s.nat k ≠ 0) : (s.issueEvent e).nat k ≠ 0 := by
  unfold State.issueEvent
  extract_lets n e en q1 q2 q3 _ s1 s2 s3 s4
  have h1 : s1.nat k ≠ 0 := (setEvents_nat s _ k).trans_ne h
  clear_value s1
  have h2 : s2.nat k ≠ 0 := iteInduction (motive := fun u : State => u.nat k ≠ 0) (fun _ => bump_ne_zero _ h1) fun _ => h1
  have h3 : s3.nat k ≠ 0 := iteInduction (motive := fun u : State => u.nat k ≠ 0) (fun _ => bump_ne_zero _ h2) fun _ => h2
  have h4 : s4.nat k ≠ 0 := iteInduction (motive := fun u : State => u.nat k ≠ 0) (fun _ => bump_ne_zero _ h3) fun _ => h3
  rwa [refreshSync_nat hk.2, setNat_nat, if_neg hk.1]

/-- No event takes an owner away: what it may count at a key that a descriptor could have only grows. -/
theorem raise_nat_ne_zero (cls kind src : Nat) (fields : List (Nat × Int)) (hk : k ≠ 0x980006 ∧ k ≠ 0x102007 ∧ k ≠ 0x710007)
    (h : s.nat k ≠ 0) : (s.raise cls kind src fields).nat k ≠ 0 := by
  obtain ⟨hseq, hsync, hlog⟩ := hk
  rw [← logged_nat cls kind src hlog] at h
  rw [raise_eq]
  unfold State.tell
  split
  · dsimp only
    split
    · exact issueEvent_nat_ne_zero _ ⟨hseq, hsync⟩ h
    · unfold State.holdEvent
      split <;> exact h
  · exact h

theorem autoTake_owner_ne_zero {u : Nat} (r : Requester) (key : Nat) (h : s.owner u ≠ 0) : (s.autoTake r key).owner u ≠ 0 := by
  unfold State.autoTake State.moveToken
  have hk : desc u 3 ≠ 0x980006 ∧ desc u 3 ≠ 0x102007 ∧ desc u 3 ≠ 0x710007 := by simp only [desc, obj]; omega
  split
  · dsimp only
    split
    · exact h
    · refine raise_nat_ne_zero _ _ _ _ hk ?_
      rwa [setNat_nat, if_neg (by simp only [desc, obj]; omega), setNat_nat, if_neg (by simp only [desc, obj]; omega)]
  · exact h

theorem tapStart_idle (hmode : broadcast s.mode = false) : s.tapStart = s := by
  unfold State.tapStart
  exact if_pos (by simp [show (s.mode == .listen || s.mode == .full) = false from hmode])

theorem tapStop_unowned {us : List Nat} (cause : Nat) (h : ∀ u ∈ us, s.owner u ≠ 0) : s.tapStop us cause = s := by
  induction us with
  | nil => rfl
  | cons u us ih =>
    show State.tapStop us cause (if s.owner u = 0 then _ else s) = s
    rw [if_neg (h u List.mem_cons_self)]
    exact ih fun v hv => h v (List.mem_cons_of_mem u hv)

/-- The tap's switch alone, in a mode in which the tap does not run and where none of its units is its own. -/
theorem writeTapEnable_idle (hmode : broadcast s.mode = false) (hchain : s.owner (s.nat 0x731002) ≠ 0)
    (hengine : s.owner s.tapEngine ≠ 0) (v : Nat) : s.writeTapEnable v = s.setNat 0x731004 v := by
  have hfull : s.mode ≠ .full := fun h => by simp [broadcast, h] at hmode
  have howner (u : Nat) : (s.setNat 0x731004 v).owner u = s.owner u :=
    (setNat_nat ..).trans (if_neg (by simp only [desc, obj]; omega))
  have hsame : (s.setNat 0x731004 v).tapEngine = s.tapEngine := by simp [State.tapEngine]
  unfold State.writeTapEnable
  dsimp only
  split
  · exact tapStart_idle hmode
  · rw [setNat_mode, if_neg hfull, setNat_nat, if_neg (by decide), hsame]
    refine tapStop_unowned 1 fun u hu => ?_
    rw [howner]
    rcases List.mem_cons.mp hu with rfl | hu
    · exact hchain
    · exact List.mem_singleton.mp hu ▸ hengine

theorem unruled_tapEnable : Unruled 0x731004 :=
  ⟨rfl, rfl, fun _ => rfl, fun _ _ => rfl, fun _ _ => rfl, fun _ _ => rfl, fun _ _ => ⟨rfl, rfl, rfl⟩,
    fun _ _ => ⟨rfl, rfl, rfl, rfl, rfl, rfl, rfl⟩, fun s i b => ⟨followRule_eq_zero (by decide) s i b, rfl⟩⟩

theorem tapEnableWrite_gives (haccepts : s.Accepts r 0x731004 [v]) (hmode : broadcast s.mode = false) (hchain : s.owner (s.nat 0x731002) ≠ 0)
    (hengine : s.owner s.tapEngine ≠ 0) : Gives (.tapEnableWrite r v) s fun t => t.nat 0x731004 = v := by
  have hrange := tableRange_of_accepts (row := ⟨0x7310, 1, 0x04, 0x04, .bool, .rw, 1, []⟩) haccepts (by decide) rfl
  have hv : v < 256 := by
    simp [tableRange, decodeVal, Ty.isSigned, ofLe_one, refuseIf] at hrange
    omega
  have hexec : exec (.tapEnableWrite r v) s = .next (s.request r 0x731004 [v] (State.applyWrite 0x731004 [v])) := by
    rw [← leNat_one hv]
    rfl
  have hengine' : (s.autoTake r 0x731004).tapEngine = s.tapEngine := by simp [State.tapEngine]
  refine gives_acted (row := ⟨0x7310, 1, 0x04, 0x04, .bool, .rw, 1, []⟩) hexec haccepts rfl (by decide) unruled_tapEnable
    (congrArg (fun n : Nat => Val.num n) (ofLe_one v))
    (show _ = some ((s.autoTake r 0x731004).writeTapEnable v, 0) from rfl) ?_
  rw [writeTapEnable_idle (by rwa [autoTake_mode])
    (by rw [autoTake_nat _ _ _ (by decide) (by decide) (by decide) (by decide)]; exact autoTake_owner_ne_zero r _ hchain)
    (by rw [hengine']; exact autoTake_owner_ne_zero r _ hengine)]
  simp

/-- Settles O21, command by command. -/
theorem managementCompletes : Obligations.ManagementCompletes :=
  ⟨fun _ => managementWatchdog_gives, fun _ _ _ => tapEnableWrite_gives, fun _ _ _ _ _ => temperatureCrossing_mean_gives,
    fun _ _ _ _ => temperatureCrossing_safe_gives, fun _ _ _ _ => supplyLevel_mean_gives, fun _ _ _ _ => supplyLevel_reset_gives,
    fun _ _ _ _ => supplyLevel_safe_gives, fun _ _ _ => referenceLost_gives, fun _ _ => canUnlocked_gives, fun _ => logFlush_gives,
    fun _ _ _ _ => logQuery_gives, fun _ _ => safeEntry_gives, fun _ _ _ _ => gpioWrite_gives, fun _ _ _ => gpioOut_gives,
    fun _ _ _ => sampleClockUnlocked_gives, fun _ _ => fabricUnlocked_gives, fun _ _ => canLocked_gives⟩

end Sys2Proof.Machine
end

section
/-!
PROOFS. What the commands of the AM receivers leave (R201 to R207).
-/
namespace Sys2Proof.Machine

variable {s : State} {e : Nat}

theorem am_of_ams {t : State} (h : t.ams = s.ams) (e : Nat) : t.am e = s.am e := congrArg (Map.get _ · e) h

theorem amPllLock_gives (hruns : s.runs e 0x0102 = true) (hlock : s.nat (amm e 8) = 0) (hnear : 50 ≤ (s.am e).dem.near) :
    Gives (.amPlllockChange e) s fun t => t.nat (amm e 8) = 1 := by
  refine gives_next (congrArg Host.Outcome.next ((if_pos hruns).trans (if_pos ⟨hlock, hnear⟩))) ?_
  simp

theorem amPllUnlock_gives (hruns : s.runs e 0x0102 = true) (hlock : s.nat (amm e 8) = 1) (hfar : 50 ≤ (s.am e).dem.far) :
    Gives (.amPlllockChange e) s fun t => t.nat (amm e 8) = 0 := by
  refine gives_next (congrArg Host.Outcome.next ((if_pos hruns).trans ((if_neg (by simp [hlock])).trans (if_pos ⟨hlock, hfar⟩)))) ?_
  simp

/-- In automatic mode, with no fade, there is nothing to settle. -/
theorem amSettle_eq_self (hauto : s.amAutomatic e = true) (hfade : (s.am e).fade = none) : s.amSettle e = s := by
  simp [State.amSettle, hauto, hfade]

/-- From 3 kHz, with both neighbours more than 3 dB below -30 dB, the widest step is asked for. -/
theorem amWiden_gives {x : AmFigures} (hruns : s.runs e 0x0102 = true) (hauto : s.amAutomatic e = true) (hfade : (s.am e).fade = none)
    (hwanted : (s.am e).wanted = none) (hwidth : (s.am e).width = 3000) (hraster : 3 < s.nat (amk e 4))
    (hlast : (s.am e).dem.ms.getLast? = some x) (hupper : x.upper < -330) (hlower : x.lower < -330)
    (hdue : (s.am e).judgedAt + 2400 ≤ (s.am e).dem.next) :
    Gives (.amBandwidthJudge e) s fun t => (t.am e).fade = some ⟨3000, amWidth (s.nat (amk e 4)) 0, (s.am e).dem.next⟩ := by
  have hwide : 3000 < amWidth (s.nat (amk e 4)) 0 := by
    simp only [amWidth]
    omega
  have hpresent : ((List.range 4).find? fun i => decide (amWidth (s.nat (amk e 4)) i ≤ 3000)).getD 3 = 3 := by
    have hnot : ¬amWidth (s.nat (amk e 4)) 0 ≤ 3000 := not_le.mpr hwide
    simp only [show List.range 4 = [0, 1, 2, 3] from rfl, List.find?_cons, decide_eq_false hnot]
    rfl
  have hsteps : ([-300, -200, -100].filter fun b : Int => decide (b ≤ max x.upper x.lower)).length = 0 ∧
      ([-300, -200, -100].filter fun b : Int => decide (b < max x.upper x.lower + 30)).length = 0 := by
    constructor <;> rw [List.length_eq_zero_iff, List.filter_eq_nil_iff] <;> simp <;> omega
  have hnat (a : Am) (k : Nat) : (s.setAm e a).nat k = s.nat k := rfl
  refine gives_next (t := (s.setAm e { s.am e with judgedAt := (s.am e).dem.next }).amAsk e (amWidth (s.nat (amk e 4)) 0))
    (congrArg Host.Outcome.next ?_) ?_
  · simp only [hlast, amSettle_eq_self hauto hfade, hruns, hauto, hdue, and_self, if_true, hwanted, hfade, hwidth, Option.getD_none,
      Option.map_none, Bool.false_eq_true, if_false, hnat, hpresent, hsteps.1, hsteps.2]
    rfl
  · simp [State.amAsk, hfade, hwidth, ne_of_lt hwide]

/-- The figures of ten milliseconds published, with their snapshot (R206). -/
def State.amPublish (e : Nat) (ms : List AmFigures) (x : AmFigures) (s : State) : State :=
  let a := s.am e
  let depth := (roundRat (quot (100 * a.dem.peaks.foldl max 0) a.dem.carrier)).toNat
  let s := s.setAm e { a with dem := { a.dem with ms := [] } }
  let s := s.setAll [(amm e 1, meanAm ms AmFigures.level), (amm e 2, meanAm ms AmFigures.offset), (amm e 3, min 150 depth),
    (amm e 4, meanAm ms AmFigures.upper), (amm e 5, meanAm ms AmFigures.lower), (amm e 6, a.width), (amm e 7, roundRat a.dem.mute)]
  s.issue (amm e 0x0B) (leNat 8 x.end_ ++ ([(1, 2), (2, 2), (3, 1), (4, 2), (5, 2), (6, 2), (7, 1), (8, 1)].flatMap fun p =>
    leInt p.2 (s.num (amm e p.1))) ++ [0])

theorem exec_amMetricsPublish {x : AmFigures} (hruns : s.runs e 0x0102 = true) (hten : (s.am e).dem.ms.length = 10)
    (hlast : (s.am e).dem.ms.getLast? = some x) :
    exec (.amMetricsPublish e) s = .next ((s.amSettle e).amPublish e (s.am e).dem.ms x) := by
  refine congrArg Host.Outcome.next ?_
  simp only [hlast]
  exact if_pos ⟨hruns, hten⟩

theorem amPublish_num (ms : List AmFigures) (x : AmFigures) (s : State) :
    (s.amPublish e ms x).num (amm e 1) = meanAm ms AmFigures.level ∧ (s.amPublish e ms x).num (amm e 2) = meanAm ms AmFigures.offset ∧
    (s.amPublish e ms x).num (amm e 4) = meanAm ms AmFigures.upper ∧ (s.amPublish e ms x).num (amm e 5) = meanAm ms AmFigures.lower ∧
    (s.amPublish e ms x).nat (amm e 3) ≤ 150 := by
  unfold State.amPublish
  extract_lets a depth _ _ s2
  have hissued (j : Nat) (body : Bytes) (hj : j < 11) : (s2.issue (amm e 0x0B) body).num (amm e j) = s2.num (amm e j) :=
    num_of_val_eq (issue_val_other _ _ (by simp only [amm, obj]; omega))
  simp only [State.nat, hissued _ _ (show 1 < 11 by decide), hissued _ _ (show 2 < 11 by decide), hissued _ _ (show 3 < 11 by decide),
    hissued _ _ (show 4 < 11 by decide), hissued _ _ (show 5 < 11 by decide)]
  simp [s2, State.setAll]

theorem amPublish_ms (ms : List AmFigures) (x : AmFigures) (s : State) : ((s.amPublish e ms x).am e).dem.ms = [] := by
  unfold State.amPublish
  extract_lets a depth _ s1 s2
  rw [am_of_ams (issue_keeps.same .ams (by decide)), am_of_ams (s := s1) (setAll_keeps.same .ams (by decide))]
  simp [s1]

theorem amMetrics_gives (hruns : s.runs e 0x0102 = true) (hten : (s.am e).dem.ms.length = 10) :
    Gives (.amMetricsPublish e) s fun t => t.num (amm e 1) = meanAm (s.am e).dem.ms AmFigures.level ∧
      t.num (amm e 2) = meanAm (s.am e).dem.ms AmFigures.offset ∧ t.num (amm e 4) = meanAm (s.am e).dem.ms AmFigures.upper ∧
      t.num (amm e 5) = meanAm (s.am e).dem.ms AmFigures.lower ∧ t.nat (amm e 3) ≤ 150 ∧ (t.am e).dem.ms = [] := by
  obtain ⟨x, hlast⟩ : ∃ x, (s.am e).dem.ms.getLast? = some x :=
    Option.isSome_iff_exists.mp (by simp [List.getLast?_isSome, ← List.length_pos_iff, hten])
  refine gives_next (exec_amMetricsPublish hruns hten hlast) ?_
  obtain ⟨hlevel, hoffset, hupper, hlower, hdepth⟩ := amPublish_num (e := e) (s.am e).dem.ms x (s.amSettle e)
  exact ⟨hlevel, hoffset, hupper, hlower, hdepth, amPublish_ms ..⟩

theorem noiseBlankerSuspend_gives {x : AmFigures} (hruns : s.runs e 0x0102 = true) (hmode : s.nat (amk e 5) = 1)
    (hlast : (s.am e).dem.ms.getLast? = some x) (hlow : x.level < 200) :
    Gives (.noiseBlankerSuspend e) s fun t => (t.am e).suspendedUntil = (s.am e).dem.next + 4800 := by
  refine gives_next (congrArg Host.Outcome.next (if_pos ⟨hruns, hmode, Or.inr (by simp [hlast, hlow])⟩)) ?_
  simp

/-- A chain gives the oldest block of its queue to the engine that it feeds. -/
theorem takeBlock_head {n : Nat} {b : Bytes} {rest : List Bytes} (hn : n < 32) (hfeeds : s.cnat (ck n 0x12) = 0x200 + e)
    (hqueue : (s.chain n).queue = b :: rest) : s.takeBlock e n = some (b, s.setChain n { s.chain n with queue := rest }) := by
  simp [State.takeBlock, hn, hfeeds, hqueue]

theorem chain_of_chains {t : State} (h : t.chains = s.chains) (n : Nat) : t.chain n = s.chain n := congrArg (Map.get _ · n) h

theorem amBlockProcess_gives {n : Nat} {b : Bytes} {rest : List Bytes} (hruns : s.runs e 0x0102 = true) (hn : n < 32)
    (hfeeds : s.cnat (ck n 0x12) = 0x200 + e) (hqueue : (s.chain n).queue = b :: rest) :
    Gives (.amBlockProcess e n) s fun t => (t.chain n).queue = rest := by
  have htaken : s.takeBlock e n = some (b, s.setChain n { s.chain n with queue := rest }) := takeBlock_head hn hfeeds hqueue
  refine gives_next rfl ?_
  simp only [hruns, if_true, htaken]
  rw [chain_of_chains (amRun_keeps.same .chains (by decide))]
  have hchain : (s.setChain n { s.chain n with queue := rest }).chain n = { s.chain n with queue := rest } :=
    (setChain_chain ..).trans (if_pos rfl)
  split <;> exact congrArg Chain.queue hchain

/-- Settles O9, command by command. -/
theorem amCompletes : Obligations.AmCompletes :=
  ⟨fun _ _ => amPllLock_gives, fun _ _ => amPllUnlock_gives, fun _ _ _ => amWiden_gives, fun _ _ => amMetrics_gives,
    fun _ _ _ => noiseBlankerSuspend_gives, fun _ _ _ _ _ => amBlockProcess_gives⟩

end Sys2Proof.Machine
end

section
/-!
PROOFS. More fields that the automatic take, the answer and events leave.
-/
namespace Sys2Proof.Machine

@[simp] theorem autoTake_cvs (r : Requester) (key : Nat) (s : State) : (s.autoTake r key).cvs = s.cvs :=
  autoTake_keeps.same .cvs (by decide)

@[simp] theorem answered_cvs (r : Requester) (code : Nat) (data : Bytes) (s : State) : ((s.touch r).reply code data).cvs = s.cvs :=
  touch_keeps.same .cvs (by decide)

@[simp] theorem raise_cvs (cls kind src : Nat) (fields : List (Nat × Int)) (s : State) : (s.raise cls kind src fields).cvs = s.cvs :=
  raise_keeps.same .cvs (by decide)

@[simp] theorem autoTake_pdos (r : Requester) (key : Nat) (s : State) : (s.autoTake r key).pdos = s.pdos :=
  autoTake_keeps.same .pdos (by decide)

@[simp] theorem answered_pdos (r : Requester) (code : Nat) (data : Bytes) (s : State) : ((s.touch r).reply code data).pdos = s.pdos :=
  touch_keeps.same .pdos (by decide)

@[simp] theorem raise_pdos (cls kind src : Nat) (fields : List (Nat × Int)) (s : State) : (s.raise cls kind src fields).pdos = s.pdos :=
  raise_keeps.same .pdos (by decide)

@[simp] theorem autoTake_quoin (r : Requester) (key : Nat) (s : State) : (s.autoTake r key).quoin = s.quoin :=
  autoTake_keeps.same .quoin (by decide)

@[simp] theorem raise_quoin (cls kind src : Nat) (fields : List (Nat × Int)) (s : State) : (s.raise cls kind src fields).quoin = s.quoin :=
  raise_keeps.same .quoin (by decide)

@[simp] theorem autoTake_lantern (r : Requester) (key : Nat) (s : State) : (s.autoTake r key).lantern = s.lantern :=
  autoTake_keeps.same .lantern (by decide)

@[simp] theorem answered_lantern (r : Requester) (code : Nat) (data : Bytes) (s : State) : ((s.touch r).reply code data).lantern = s.lantern :=
  touch_keeps.same .lantern (by decide)

@[simp] theorem raise_lantern (cls kind src : Nat) (fields : List (Nat × Int)) (s : State) : (s.raise cls kind src fields).lantern = s.lantern :=
  raise_keeps.same .lantern (by decide)

@[simp] theorem autoTake_fms (r : Requester) (key : Nat) (s : State) : (s.autoTake r key).fms = s.fms :=
  autoTake_keeps.same .fms (by decide)

@[simp] theorem answered_fms (r : Requester) (code : Nat) (data : Bytes) (s : State) : ((s.touch r).reply code data).fms = s.fms :=
  touch_keeps.same .fms (by decide)

@[simp] theorem raise_fms (cls kind src : Nat) (fields : List (Nat × Int)) (s : State) : (s.raise cls kind src fields).fms = s.fms :=
  raise_keeps.same .fms (by decide)

@[simp] theorem autoTake_dabs (r : Requester) (key : Nat) (s : State) : (s.autoTake r key).dabs = s.dabs :=
  autoTake_keeps.same .dabs (by decide)

@[simp] theorem answered_dabs (r : Requester) (code : Nat) (data : Bytes) (s : State) : ((s.touch r).reply code data).dabs = s.dabs :=
  touch_keeps.same .dabs (by decide)

@[simp] theorem raise_dabs (cls kind src : Nat) (fields : List (Nat × Int)) (s : State) : (s.raise cls kind src fields).dabs = s.dabs :=
  raise_keeps.same .dabs (by decide)

@[simp] theorem autoTake_dabDecoders (r : Requester) (key : Nat) (s : State) : (s.autoTake r key).dabDecoders = s.dabDecoders :=
  autoTake_keeps.same .dabDecoders (by decide)

@[simp] theorem answered_dabDecoders (r : Requester) (code : Nat) (data : Bytes) (s : State) : ((s.touch r).reply code data).dabDecoders = s.dabDecoders :=
  touch_keeps.same .dabDecoders (by decide)

@[simp] theorem raise_dabDecoders (cls kind src : Nat) (fields : List (Nat × Int)) (s : State) : (s.raise cls kind src fields).dabDecoders = s.dabDecoders :=
  raise_keeps.same .dabDecoders (by decide)

@[simp] theorem autoTake_voices (r : Requester) (key : Nat) (s : State) : (s.autoTake r key).voices = s.voices :=
  autoTake_keeps.same .voices (by decide)

@[simp] theorem answered_voices (r : Requester) (code : Nat) (data : Bytes) (s : State) : ((s.touch r).reply code data).voices = s.voices :=
  touch_keeps.same .voices (by decide)

@[simp] theorem raise_voices (cls kind src : Nat) (fields : List (Nat × Int)) (s : State) : (s.raise cls kind src fields).voices = s.voices :=
  raise_keeps.same .voices (by decide)

@[simp] theorem autoTake_ams (r : Requester) (key : Nat) (s : State) : (s.autoTake r key).ams = s.ams :=
  autoTake_keeps.same .ams (by decide)

@[simp] theorem answered_ams (r : Requester) (code : Nat) (data : Bytes) (s : State) : ((s.touch r).reply code data).ams = s.ams :=
  touch_keeps.same .ams (by decide)

@[simp] theorem raise_ams (cls kind src : Nat) (fields : List (Nat × Int)) (s : State) : (s.raise cls kind src fields).ams = s.ams :=
  raise_keeps.same .ams (by decide)

@[simp] theorem autoTake_drms (r : Requester) (key : Nat) (s : State) : (s.autoTake r key).drms = s.drms :=
  autoTake_keeps.same .drms (by decide)

@[simp] theorem answered_drms (r : Requester) (code : Nat) (data : Bytes) (s : State) : ((s.touch r).reply code data).drms = s.drms :=
  touch_keeps.same .drms (by decide)

@[simp] theorem raise_drms (cls kind src : Nat) (fields : List (Nat × Int)) (s : State) : (s.raise cls kind src fields).drms = s.drms :=
  raise_keeps.same .drms (by decide)

@[simp] theorem autoTake_drmSel (r : Requester) (key : Nat) (s : State) : (s.autoTake r key).drmSel = s.drmSel :=
  autoTake_keeps.same .drmSel (by decide)

@[simp] theorem answered_drmSel (r : Requester) (code : Nat) (data : Bytes) (s : State) : ((s.touch r).reply code data).drmSel = s.drmSel :=
  touch_keeps.same .drmSel (by decide)

@[simp] theorem raise_drmSel (cls kind src : Nat) (fields : List (Nat × Int)) (s : State) : (s.raise cls kind src fields).drmSel = s.drmSel :=
  raise_keeps.same .drmSel (by decide)

@[simp] theorem autoTake_following (r : Requester) (key : Nat) (s : State) : (s.autoTake r key).following = s.following :=
  autoTake_keeps.same .following (by decide)

@[simp] theorem answered_following (r : Requester) (code : Nat) (data : Bytes) (s : State) : ((s.touch r).reply code data).following = s.following :=
  touch_keeps.same .following (by decide)

@[simp] theorem raise_following (cls kind src : Nat) (fields : List (Nat × Int)) (s : State) : (s.raise cls kind src fields).following = s.following :=
  raise_keeps.same .following (by decide)

@[simp] theorem autoTake_gloaming (r : Requester) (key : Nat) (s : State) : (s.autoTake r key).gloaming = s.gloaming :=
  autoTake_keeps.same .gloaming (by decide)

@[simp] theorem answered_gloaming (r : Requester) (code : Nat) (data : Bytes) (s : State) : ((s.touch r).reply code data).gloaming = s.gloaming :=
  touch_keeps.same .gloaming (by decide)

@[simp] theorem raise_gloaming (cls kind src : Nat) (fields : List (Nat × Int)) (s : State) : (s.raise cls kind src fields).gloaming = s.gloaming :=
  raise_keeps.same .gloaming (by decide)

@[simp] theorem autoTake_streams (r : Requester) (key : Nat) (s : State) : (s.autoTake r key).streams = s.streams :=
  autoTake_keeps.same .streams (by decide)

@[simp] theorem answered_streams (r : Requester) (code : Nat) (data : Bytes) (s : State) : ((s.touch r).reply code data).streams = s.streams :=
  touch_keeps.same .streams (by decide)

@[simp] theorem raise_streams (cls kind src : Nat) (fields : List (Nat × Int)) (s : State) : (s.raise cls kind src fields).streams = s.streams :=
  raise_keeps.same .streams (by decide)

@[simp] theorem autoTake_iec (r : Requester) (key : Nat) (s : State) : (s.autoTake r key).iec = s.iec :=
  autoTake_keeps.same .iec (by decide)

@[simp] theorem answered_iec (r : Requester) (code : Nat) (data : Bytes) (s : State) : ((s.touch r).reply code data).iec = s.iec :=
  touch_keeps.same .iec (by decide)

@[simp] theorem raise_iec (cls kind src : Nat) (fields : List (Nat × Int)) (s : State) : (s.raise cls kind src fields).iec = s.iec :=
  raise_keeps.same .iec (by decide)

@[simp] theorem autoTake_link (r : Requester) (key : Nat) (s : State) : (s.autoTake r key).link = s.link :=
  autoTake_keeps.same .link (by decide)

@[simp] theorem answered_link (r : Requester) (code : Nat) (data : Bytes) (s : State) : ((s.touch r).reply code data).link = s.link :=
  touch_keeps.same .link (by decide)

@[simp] theorem raise_link (cls kind src : Nat) (fields : List (Nat × Int)) (s : State) : (s.raise cls kind src fields).link = s.link :=
  raise_keeps.same .link (by decide)

@[simp] theorem autoTake_mesh (r : Requester) (key : Nat) (s : State) : (s.autoTake r key).mesh = s.mesh :=
  autoTake_keeps.same .mesh (by decide)

@[simp] theorem answered_mesh (r : Requester) (code : Nat) (data : Bytes) (s : State) : ((s.touch r).reply code data).mesh = s.mesh :=
  touch_keeps.same .mesh (by decide)

@[simp] theorem raise_mesh (cls kind src : Nat) (fields : List (Nat × Int)) (s : State) : (s.raise cls kind src fields).mesh = s.mesh :=
  raise_keeps.same .mesh (by decide)

@[simp] theorem autoTake_held (r : Requester) (key : Nat) (s : State) : (s.autoTake r key).held = s.held :=
  autoTake_keeps.same .held (by decide)

@[simp] theorem raise_held (cls kind src : Nat) (fields : List (Nat × Int)) (s : State) : (s.raise cls kind src fields).held = s.held :=
  raise_keeps.same .held (by decide)

@[simp] theorem autoTake_accels (r : Requester) (key : Nat) (s : State) : (s.autoTake r key).accels = s.accels :=
  autoTake_keeps.same .accels (by decide)

@[simp] theorem answered_accels (r : Requester) (code : Nat) (data : Bytes) (s : State) : ((s.touch r).reply code data).accels = s.accels :=
  touch_keeps.same .accels (by decide)

@[simp] theorem raise_accels (cls kind src : Nat) (fields : List (Nat × Int)) (s : State) : (s.raise cls kind src fields).accels = s.accels :=
  raise_keeps.same .accels (by decide)

@[simp] theorem autoTake_sec (r : Requester) (key : Nat) (s : State) : (s.autoTake r key).sec = s.sec :=
  autoTake_keeps.same .sec (by decide)

@[simp] theorem answered_sec (r : Requester) (code : Nat) (data : Bytes) (s : State) : ((s.touch r).reply code data).sec = s.sec :=
  touch_keeps.same .sec (by decide)

@[simp] theorem raise_sec (cls kind src : Nat) (fields : List (Nat × Int)) (s : State) : (s.raise cls kind src fields).sec = s.sec :=
  raise_keeps.same .sec (by decide)

@[simp] theorem autoTake_tmc (r : Requester) (key : Nat) (s : State) : (s.autoTake r key).tmc = s.tmc :=
  autoTake_keeps.same .tmc (by decide)

@[simp] theorem answered_tmc (r : Requester) (code : Nat) (data : Bytes) (s : State) : ((s.touch r).reply code data).tmc = s.tmc :=
  touch_keeps.same .tmc (by decide)

@[simp] theorem raise_tmc (cls kind src : Nat) (fields : List (Nat × Int)) (s : State) : (s.raise cls kind src fields).tmc = s.tmc :=
  raise_keeps.same .tmc (by decide)

@[simp] theorem autoTake_paths (r : Requester) (key : Nat) (s : State) : (s.autoTake r key).paths = s.paths :=
  autoTake_keeps.same .paths (by decide)

@[simp] theorem answered_paths (r : Requester) (code : Nat) (data : Bytes) (s : State) : ((s.touch r).reply code data).paths = s.paths :=
  touch_keeps.same .paths (by decide)

@[simp] theorem raise_paths (cls kind src : Nat) (fields : List (Nat × Int)) (s : State) : (s.raise cls kind src fields).paths = s.paths :=
  raise_keeps.same .paths (by decide)

@[simp] theorem autoTake_antennas (r : Requester) (key : Nat) (s : State) : (s.autoTake r key).antennas = s.antennas :=
  autoTake_keeps.same .antennas (by decide)

@[simp] theorem answered_antennas (r : Requester) (code : Nat) (data : Bytes) (s : State) : ((s.touch r).reply code data).antennas = s.antennas :=
  touch_keeps.same .antennas (by decide)

@[simp] theorem raise_antennas (cls kind src : Nat) (fields : List (Nat × Int)) (s : State) : (s.raise cls kind src fields).antennas = s.antennas :=
  raise_keeps.same .antennas (by decide)

@[simp] theorem autoTake_plumb (r : Requester) (key : Nat) (s : State) : (s.autoTake r key).plumb = s.plumb :=
  autoTake_keeps.same .plumb (by decide)

@[simp] theorem answered_plumb (r : Requester) (code : Nat) (data : Bytes) (s : State) : ((s.touch r).reply code data).plumb = s.plumb :=
  touch_keeps.same .plumb (by decide)

@[simp] theorem raise_plumb (cls kind src : Nat) (fields : List (Nat × Int)) (s : State) : (s.raise cls kind src fields).plumb = s.plumb :=
  raise_keeps.same .plumb (by decide)

@[simp] theorem autoTake_loads (r : Requester) (key : Nat) (s : State) : (s.autoTake r key).loads = s.loads :=
  autoTake_keeps.same .loads (by decide)

@[simp] theorem answered_loads (r : Requester) (code : Nat) (data : Bytes) (s : State) : ((s.touch r).reply code data).loads = s.loads :=
  touch_keeps.same .loads (by decide)

@[simp] theorem raise_loads (cls kind src : Nat) (fields : List (Nat × Int)) (s : State) : (s.raise cls kind src fields).loads = s.loads :=
  raise_keeps.same .loads (by decide)

@[simp] theorem autoTake_shm (r : Requester) (key : Nat) (s : State) : (s.autoTake r key).shm = s.shm :=
  autoTake_keeps.same .shm (by decide)

@[simp] theorem answered_shm (r : Requester) (code : Nat) (data : Bytes) (s : State) : ((s.touch r).reply code data).shm = s.shm :=
  touch_keeps.same .shm (by decide)

@[simp] theorem raise_shm (cls kind src : Nat) (fields : List (Nat × Int)) (s : State) : (s.raise cls kind src fields).shm = s.shm :=
  raise_keeps.same .shm (by decide)

@[simp] theorem autoTake_pcm (r : Requester) (key : Nat) (s : State) : (s.autoTake r key).pcm = s.pcm :=
  autoTake_keeps.same .pcm (by decide)

@[simp] theorem answered_pcm (r : Requester) (code : Nat) (data : Bytes) (s : State) : ((s.touch r).reply code data).pcm = s.pcm :=
  touch_keeps.same .pcm (by decide)

@[simp] theorem raise_pcm (cls kind src : Nat) (fields : List (Nat × Int)) (s : State) : (s.raise cls kind src fields).pcm = s.pcm :=
  raise_keeps.same .pcm (by decide)

@[simp] theorem autoTake_pcmSeq (r : Requester) (key : Nat) (s : State) : (s.autoTake r key).pcmSeq = s.pcmSeq :=
  autoTake_keeps.same .pcmSeq (by decide)

@[simp] theorem answered_pcmSeq (r : Requester) (code : Nat) (data : Bytes) (s : State) : ((s.touch r).reply code data).pcmSeq = s.pcmSeq :=
  touch_keeps.same .pcmSeq (by decide)

@[simp] theorem raise_pcmSeq (cls kind src : Nat) (fields : List (Nat × Int)) (s : State) : (s.raise cls kind src fields).pcmSeq = s.pcmSeq :=
  raise_keeps.same .pcmSeq (by decide)

@[simp] theorem autoTake_heard (r : Requester) (key : Nat) (s : State) : (s.autoTake r key).heard = s.heard :=
  autoTake_keeps.same .heard (by decide)

@[simp] theorem answered_heard (r : Requester) (code : Nat) (data : Bytes) (s : State) : ((s.touch r).reply code data).heard = s.heard :=
  touch_keeps.same .heard (by decide)

@[simp] theorem raise_heard (cls kind src : Nat) (fields : List (Nat × Int)) (s : State) : (s.raise cls kind src fields).heard = s.heard :=
  raise_keeps.same .heard (by decide)

@[simp] theorem autoTake_ports (r : Requester) (key : Nat) (s : State) : (s.autoTake r key).ports = s.ports :=
  autoTake_keeps.same .ports (by decide)

@[simp] theorem autoTake_fifos (r : Requester) (key : Nat) (s : State) : (s.autoTake r key).fifos = s.fifos :=
  autoTake_keeps.same .fifos (by decide)

@[simp] theorem answered_fifos (r : Requester) (code : Nat) (data : Bytes) (s : State) : ((s.touch r).reply code data).fifos = s.fifos :=
  touch_keeps.same .fifos (by decide)

@[simp] theorem raise_fifos (cls kind src : Nat) (fields : List (Nat × Int)) (s : State) : (s.raise cls kind src fields).fifos = s.fifos :=
  raise_keeps.same .fifos (by decide)

@[simp] theorem autoTake_shares (r : Requester) (key : Nat) (s : State) : (s.autoTake r key).shares = s.shares :=
  autoTake_keeps.same .shares (by decide)

@[simp] theorem answered_shares (r : Requester) (code : Nat) (data : Bytes) (s : State) : ((s.touch r).reply code data).shares = s.shares :=
  touch_keeps.same .shares (by decide)

@[simp] theorem raise_shares (cls kind src : Nat) (fields : List (Nat × Int)) (s : State) : (s.raise cls kind src fields).shares = s.shares :=
  raise_keeps.same .shares (by decide)

@[simp] theorem autoTake_accelConfigured (r : Requester) (key : Nat) (s : State) : (s.autoTake r key).accelConfigured = s.accelConfigured :=
  autoTake_keeps.same .accelConfigured (by decide)

@[simp] theorem answered_accelConfigured (r : Requester) (code : Nat) (data : Bytes) (s : State) : ((s.touch r).reply code data).accelConfigured = s.accelConfigured :=
  touch_keeps.same .accelConfigured (by decide)

@[simp] theorem raise_accelConfigured (cls kind src : Nat) (fields : List (Nat × Int)) (s : State) : (s.raise cls kind src fields).accelConfigured = s.accelConfigured :=
  raise_keeps.same .accelConfigured (by decide)

@[simp] theorem autoTake_accelOwn (r : Requester) (key : Nat) (s : State) : (s.autoTake r key).accelOwn = s.accelOwn :=
  autoTake_keeps.same .accelOwn (by decide)

@[simp] theorem answered_accelOwn (r : Requester) (code : Nat) (data : Bytes) (s : State) : ((s.touch r).reply code data).accelOwn = s.accelOwn :=
  touch_keeps.same .accelOwn (by decide)

@[simp] theorem raise_accelOwn (cls kind src : Nat) (fields : List (Nat × Int)) (s : State) : (s.raise cls kind src fields).accelOwn = s.accelOwn :=
  raise_keeps.same .accelOwn (by decide)

@[simp] theorem autoTake_holdings (r : Requester) (key : Nat) (s : State) : (s.autoTake r key).holdings = s.holdings :=
  autoTake_keeps.same .holdings (by decide)

@[simp] theorem answered_holdings (r : Requester) (code : Nat) (data : Bytes) (s : State) : ((s.touch r).reply code data).holdings = s.holdings :=
  touch_keeps.same .holdings (by decide)

@[simp] theorem raise_holdings (cls kind src : Nat) (fields : List (Nat × Int)) (s : State) : (s.raise cls kind src fields).holdings = s.holdings :=
  raise_keeps.same .holdings (by decide)

@[simp] theorem autoTake_prep (r : Requester) (key : Nat) (s : State) : (s.autoTake r key).prep = s.prep :=
  autoTake_keeps.same .prep (by decide)

@[simp] theorem answered_prep (r : Requester) (code : Nat) (data : Bytes) (s : State) : ((s.touch r).reply code data).prep = s.prep :=
  touch_keeps.same .prep (by decide)

@[simp] theorem raise_prep (cls kind src : Nat) (fields : List (Nat × Int)) (s : State) : (s.raise cls kind src fields).prep = s.prep :=
  raise_keeps.same .prep (by decide)

@[simp] theorem autoTake_claimedAt (r : Requester) (key : Nat) (s : State) : (s.autoTake r key).claimedAt = s.claimedAt :=
  autoTake_keeps.same .claimedAt (by decide)

@[simp] theorem answered_claimedAt (r : Requester) (code : Nat) (data : Bytes) (s : State) : ((s.touch r).reply code data).claimedAt = s.claimedAt :=
  touch_keeps.same .claimedAt (by decide)

@[simp] theorem raise_claimedAt (cls kind src : Nat) (fields : List (Nat × Int)) (s : State) : (s.raise cls kind src fields).claimedAt = s.claimedAt :=
  raise_keeps.same .claimedAt (by decide)

@[simp] theorem autoTake_saving (r : Requester) (key : Nat) (s : State) : (s.autoTake r key).saving = s.saving :=
  autoTake_keeps.same .saving (by decide)

@[simp] theorem answered_saving (r : Requester) (code : Nat) (data : Bytes) (s : State) : ((s.touch r).reply code data).saving = s.saving :=
  touch_keeps.same .saving (by decide)

@[simp] theorem raise_saving (cls kind src : Nat) (fields : List (Nat × Int)) (s : State) : (s.raise cls kind src fields).saving = s.saving :=
  raise_keeps.same .saving (by decide)

@[simp] theorem autoTake_twoWire (r : Requester) (key : Nat) (s : State) : (s.autoTake r key).twoWire = s.twoWire :=
  autoTake_keeps.same .twoWire (by decide)

@[simp] theorem autoTake_utcPrev (r : Requester) (key : Nat) (s : State) : (s.autoTake r key).utcPrev = s.utcPrev :=
  autoTake_keeps.same .utcPrev (by decide)

@[simp] theorem answered_utcPrev (r : Requester) (code : Nat) (data : Bytes) (s : State) : ((s.touch r).reply code data).utcPrev = s.utcPrev :=
  touch_keeps.same .utcPrev (by decide)

@[simp] theorem raise_utcPrev (cls kind src : Nat) (fields : List (Nat × Int)) (s : State) : (s.raise cls kind src fields).utcPrev = s.utcPrev :=
  raise_keeps.same .utcPrev (by decide)

@[simp] theorem autoTake_tbSync (r : Requester) (key : Nat) (s : State) : (s.autoTake r key).tbSync = s.tbSync :=
  autoTake_keeps.same .tbSync (by decide)

@[simp] theorem answered_tbSync (r : Requester) (code : Nat) (data : Bytes) (s : State) : ((s.touch r).reply code data).tbSync = s.tbSync :=
  touch_keeps.same .tbSync (by decide)

@[simp] theorem raise_tbSync (cls kind src : Nat) (fields : List (Nat × Int)) (s : State) : (s.raise cls kind src fields).tbSync = s.tbSync :=
  raise_keeps.same .tbSync (by decide)

@[simp] theorem autoTake_committed (r : Requester) (key : Nat) (s : State) : (s.autoTake r key).committed = s.committed :=
  autoTake_keeps.same .committed (by decide)

@[simp] theorem answered_committed (r : Requester) (code : Nat) (data : Bytes) (s : State) : ((s.touch r).reply code data).committed = s.committed :=
  touch_keeps.same .committed (by decide)

@[simp] theorem raise_committed (cls kind src : Nat) (fields : List (Nat × Int)) (s : State) : (s.raise cls kind src fields).committed = s.committed :=
  raise_keeps.same .committed (by decide)

end Sys2Proof.Machine
end

section
/-!
PROOFS. Paired commands: an outcome that is not awaited stays so under the automatic take, and the command acts at once (R355, R356).
-/
namespace Sys2Proof.Machine

variable {s t : State} {r : Requester} {k key res : Nat}

@[simp] theorem issue_awaits (j : Nat) (body : Bytes) (s : State) (h : k ≠ j) :
    (s.issue j body).awaiting.contains k = s.awaiting.contains k := by
  have hkeep : k ∈ s.awaiting.filter (· != j) ↔ k ∈ s.awaiting := by
    rw [List.mem_filter, and_iff_left (by simpa using h)]
  rw [Bool.eq_iff_iff, List.contains_iff_mem, List.contains_iff_mem]
  exact hkeep

@[simp] theorem refreshSync_awaits (s : State) (h : k ≠ 0x102007) : s.refreshSync.awaiting.contains k = s.awaiting.contains k := by
  unfold State.refreshSync
  split
  · rfl
  · exact issue_awaits _ _ _ h

@[simp] theorem bumpIf_awaiting (b : Bool) (j : Nat) (s : State) : (if b then s.bump j else s).awaiting = s.awaiting := by
  split <;> rfl

@[simp] theorem issueEvent_awaits (e : Event) (s : State) (h : k ≠ 0x102007) :
    (s.issueEvent e).awaiting.contains k = s.awaiting.contains k := by
  unfold State.issueEvent
  extract_lets
  rw [refreshSync_awaits _ h, setNat_awaiting, bumpIf_awaiting, bumpIf_awaiting, bumpIf_awaiting]

@[simp] theorem tell_awaits (cls kind src : Nat) (fields : List (Nat × Int)) (s : State) (h : k ≠ 0x102007) :
    (s.tell cls kind src fields).awaiting.contains k = s.awaiting.contains k := by
  unfold State.tell
  split
  · dsimp only
    split
    · exact issueEvent_awaits _ _ h
    · rw [holdEvent_keeps.same .awaiting (by decide)]
  · rfl

@[simp] theorem raise_awaits (cls kind src : Nat) (fields : List (Nat × Int)) (s : State) (h : k ≠ 0x102007) :
    (s.raise cls kind src fields).awaiting.contains k = s.awaiting.contains k := by
  unfold State.raise
  rw [tell_awaits _ _ _ _ _ h]
  split
  · rw [appendLog_keeps.same .awaiting (by decide)]
  · rfl

@[simp] theorem autoTake_awaits (r : Requester) (key : Nat) (s : State) (h : k ≠ 0x102007) :
    (s.autoTake r key).awaiting.contains k = s.awaiting.contains k := by
  unfold State.autoTake
  split
  · unfold State.moveToken
    dsimp only
    split
    · rfl
    · exact raise_awaits _ _ _ _ _ h
  · rfl

theorem pairedBusy_idle {b : Bytes} (act : State → State) (h : s.awaiting.contains res = false) :
    s.pairedBusy key res r b act = (act s, 0) := by
  unfold State.pairedBusy
  rw [h, if_neg Bool.false_ne_true]

/-- An accepted paired command whose outcome is not awaited acts at once (R356). -/
theorem gives_paired {c : Instr} {b : Bytes} {act : State → State} {P : State → Prop}
    (hexec : exec c s = .next (s.request r key b (State.pairedBusy key res r b act))) (haccepts : s.Accepts r key b)
    (hidle : s.awaiting.contains res = false) (hres : res ≠ 0x102007) (h : P (((act (s.autoTake r key)).touch r).reply 0 [])) :
    Gives c s P := by
  have hact := pairedBusy_idle (key := key) (r := r) (b := b) act ((autoTake_awaits r key s hres).trans hidle)
  refine gives_request hexec haccepts (by rw [hact]) ?_
  rwa [hact]

end Sys2Proof.Machine
end

section
/-!
PROOFS. What the commands of the FIFO objects, process data and the check-value units leave (R254, R357, R358, R382, R383, R407 to R410).
-/
namespace Sys2Proof.Machine

variable {r : Requester} {s t : State}

/-! ### FIFO objects -/

theorem exec_ringRead {i n : Nat} (hjudge : s.judgeRead r (obj i 0) = 0) (hring : ringKey (obj i 0) = true) :
    exec (.ringRead r i n false) s = .next ((s.readFifo r (obj i 0) false n 0x1901).touch r) := by
  show execRingRead r i n false s = _
  rw [execRingRead, if_pos hring, readAs_of_fifoKey hjudge (by simp only [fifoKey, hring, Bool.true_or])]

/-- A read that consumes answers with what it takes, and keeps it with its reader for a repeat. -/
theorem readFifo_consumes {key limit beyond : Nat} {b : Bytes} {rest : List Bytes}
    (htake : takeRecords (ringKey key) limit (s.fifo key).recs = some (b, rest)) (hb : b ≠ []) :
    (s.readFifo r key false limit beyond).answer.data = b ∧
      (s.readFifo r key false limit beyond).fifo key = ⟨rest, ((s.fifo key).readNo + 1) % 65536, readerNo r, b⟩ := by
  have hkept := setFifo_fifo key ⟨rest, ((s.fifo key).readNo + 1) % 65536, readerNo r, b⟩ s key
  rw [if_pos rfl] at hkept
  have hread : s.readFifo r key false limit beyond =
      { s.setFifo key ⟨rest, ((s.fifo key).readNo + 1) % 65536, readerNo r, b⟩ with
        answer := ⟨0, b, ((s.fifo key).readNo + 1) % 65536, false⟩ } := by
    simp [State.readFifo, htake, hb]
  rw [hread]
  exact ⟨rfl, hkept⟩

@[simp] theorem touch_fifo (s : State) (r : Requester) (k : Nat) : (s.touch r).fifo k = s.fifo k :=
  congrArg (Map.get (fun _ => Fifo.init) · k) (touch_fifos s r)

theorem ringRead_gives {i n : Nat} {b : Bytes} {rest : List Bytes} (hjudge : s.judgeRead r (obj i 0) = 0)
    (hring : ringKey (obj i 0) = true) (htake : takeRecords true n (s.fifo (obj i 0)).recs = some (b, rest)) (hb : b ≠ []) :
    Gives (.ringRead r i n false) s fun t => t.answer.data = b ∧ (t.fifo (obj i 0)).recs = rest ∧
      (t.fifo (obj i 0)).readNo = ((s.fifo (obj i 0)).readNo + 1) % 65536 := by
  refine gives_next (exec_ringRead hjudge hring) ?_
  obtain ⟨hdata, hfifo⟩ := readFifo_consumes (r := r) (beyond := 0x1901) (by rwa [hring]) hb
  simp only [touch_answer, touch_fifo, hdata, hfifo, and_self]

theorem fifoRead_gives {i j n : Nat} {b : Bytes} {rest : List Bytes} (hjudge : s.judgeRead r (obj i j) = 0)
    (hkey : fifoKey (obj i j) = true) (hring : ringKey (obj i j) = false) (hrecs : (s.fifo (obj i j)).recs = b :: rest)
    (hb : b ≠ []) (hfits : b.length ≤ n) :
    Gives (.fifoRead r i j n) s fun t => t.answer.data = b ∧ (t.fifo (obj i j)).recs = rest ∧ (t.fifo (obj i j)).last = b := by
  refine gives_next (exec_fifoRead hjudge hkey hring) ?_
  obtain ⟨hdata, hfifo⟩ := readFifo_consumes (r := r) (beyond := 0x1901) (by rw [hring, hrecs, takeRecords_oldest rest hfits]) hb
  simp only [touch_answer, touch_fifo, hdata, hfifo, and_self]

theorem fifoRepeatRead_gives {i j n : Nat} (hjudge : s.judgeRead r (obj i j) = 0) (hkey : fifoKey (obj i j) = true)
    (hlast : (s.fifo (obj i j)).last ≠ []) (hport : (s.fifo (obj i j)).lastPort = readerNo r)
    (hfits : (s.fifo (obj i j)).last.length ≤ n) :
    Gives (.fifoRepeatRead r i j n) s fun t => t.answer.data = (s.fifo (obj i j)).last ∧ t.fifos = s.fifos := by
  refine gives_next (exec_fifoRepeatRead hjudge hkey) ?_
  rw [readFifo_repeat hlast hport hfits]
  simp

/-! ### Process data -/

theorem autoTake_pdoOn (r : Requester) (key f : Nat) (s : State) (hf : f < 16) : (s.autoTake r key).pdoOn f = s.pdoOn f := by
  unfold State.pdoOn
  rw [autoTake_nat] <;> simp only [pk, obj] <;> omega

theorem setPdo_nat (f : Nat) (p : Pdo) (s : State) (k : Nat) : (s.setPdo f p).nat k = s.nat k := rfl

theorem enablePdo_enabled {f : Nat} (hoff : s.pdoOn f = false) (hcheck : s.pdoCheck f = 0) :
    (s.enablePdo f).2 = 0 ∧ (s.enablePdo f).1.pdoOn f = true := by
  have hother : pk f 1 ≠ pk f 8 := by
    simp only [pk, obj]
    omega
  unfold State.enablePdo
  rw [hoff, if_neg Bool.false_ne_true]
  dsimp only
  rw [hcheck, if_neg (not_not.mpr rfl)]
  simp [State.pdoOn, setPdo_nat, hother]

theorem answered_pdoOn (r : Requester) (code : Nat) (data : Bytes) (f : Nat) (s : State) (hf : f < 16) :
    ((s.touch r).reply code data).pdoOn f = s.pdoOn f := by
  unfold State.pdoOn
  rw [reply_nat, touch_nat_other _ _ (by simp only [pk, obj]; omega)]

theorem pdoEnable_gives {f : Nat} (hf : f < 16) (haccepts : s.Accepts r (pk f 1) [1]) (hoff : s.pdoOn f = false)
    (hcheck : (s.autoTake r (pk f 1)).pdoCheck f = 0) : Gives (.pdoEnable r f) s fun t => t.pdoOn f = true := by
  have henabled := enablePdo_enabled ((autoTake_pdoOn r (pk f 1) f s hf).trans hoff) hcheck
  have hexec : exec (.pdoEnable r f) s = .next (s.request r (pk f 1) [1] (State.enablePdo f)) := by
    show execPdoEnable r f s = _
    rw [execPdoEnable, Nat.mod_eq_of_lt hf]
  exact gives_request hexec haccepts henabled.1 ((answered_pdoOn _ _ _ _ _ hf).trans henabled.2)

theorem bump_pdo (k f : Nat) (s : State) : (s.bump k).pdo f = s.pdo f := rfl

/-- A frame that can be transmitted is built now and waits for the bus (R382). -/
theorem buildPdo_built {f : Nat} {change : Bool} (h : s.canSend change = true) :
    ((s.buildPdo f change).pdo f).built = some s.gnomon ∧ ((s.buildPdo f change).pdo f).waiting.isSome = true := by
  unfold State.buildPdo
  simp [h]

theorem pdoPeriodic_gives {f : Nat} (hf : f < 16) (hready : s.ready = true) (hmode : pdoMode s.mode = true)
    (hon : s.pdoPeriodic f = true) (hnew : (s.pdo f).built ≠ some s.gnomon) (hgrid : s.gnomon % (s.nat (pk f 4) * msTicks) = 0)
    (hsend : s.canSend false = true) :
    Gives (.pdoPeriodic f) s fun t => (t.pdo f).built = some s.gnomon ∧ (t.pdo f).waiting.isSome = true := by
  have hexec : exec (.pdoPeriodic f) s = .next (s.buildPdo f false) := by
    show execPdoPeriodic f s = _
    simp [execPdoPeriodic, Nat.mod_eq_of_lt hf, hready, hmode, hon, hnew, hgrid]
  exact gives_next hexec (buildPdo_built hsend)

section
variable {f : Nat} (hf : f < 16) (hready : s.ready = true) (hmode : pdoMode s.mode = true) (hon : s.pdoOnChange f = true)
  (hnew : (s.pdo f).built ≠ some s.gnomon) (hgrid : s.gnomon % msTicks = 0) (hchanged : s.pdoChanged f = true)
include hf hready hmode hon hnew hgrid hchanged

/-- A change at its 1 ms check builds the frame, but inside the inhibit it is held (R383). -/
theorem exec_pdoChange : exec (.pdoChange f) s =
    .next (if s.pdoInhibited f then s.setPdo f { s.pdo f with held := true } else s.buildPdo f true) := by
  show execPdoChange f s = _
  simp [execPdoChange, Nat.mod_eq_of_lt hf, hready, hmode, hon, hnew, hgrid, hchanged]

theorem pdoChange_builds (hfree : s.pdoInhibited f = false) (hsend : s.canSend true = true) :
    Gives (.pdoChange f) s fun t => (t.pdo f).built = some s.gnomon ∧ (t.pdo f).waiting.isSome = true := by
  refine gives_next (exec_pdoChange hf hready hmode hon hnew hgrid hchanged) ?_
  rw [hfree, if_neg Bool.false_ne_true]
  exact buildPdo_built hsend

theorem pdoChange_holds (hinhibit : s.pdoInhibited f = true) : Gives (.pdoChange f) s fun t => (t.pdo f).held = true := by
  refine gives_next (exec_pdoChange hf hready hmode hon hnew hgrid hchanged) ?_
  simp [hinhibit]

end

/-! ### The check-value units -/

theorem cvUnit_of_cvs (h : t.cvs = s.cvs) (u : Nat) : t.cvUnit u = s.cvUnit u := congrArg (Map.get (fun _ => Cv.init) · u) h

@[simp] theorem setCvUnit_cvUnit (u v : Nat) (c : Cv) (s : State) : (s.setCvUnit u c).cvUnit v = if v = u then c else s.cvUnit v := by
  simp [State.setCvUnit, State.cvUnit, map_get_put]

@[simp] theorem showCv_cvUnit (u v : Nat) (s : State) : (s.showCv u).cvUnit v = s.cvUnit v :=
  cvUnit_of_cvs (showCv_keeps.same .cvs (by decide)) v

@[simp] theorem bump_cvUnit (k v : Nat) (s : State) : (s.bump k).cvUnit v = s.cvUnit v := rfl

@[simp] theorem await_cvUnit (k v : Nat) (s : State) : (s.await k).cvUnit v = s.cvUnit v := rfl

@[simp] theorem autoTake_cvUnit (r : Requester) (key : Nat) (s : State) (v : Nat) : (s.autoTake r key).cvUnit v = s.cvUnit v :=
  cvUnit_of_cvs (autoTake_cvs r key s) v

@[simp] theorem answered_cvUnit (r : Requester) (code : Nat) (data : Bytes) (s : State) (v : Nat) :
    ((s.touch r).reply code data).cvUnit v = s.cvUnit v := cvUnit_of_cvs (answered_cvs r code data s) v

/-- The active context is shown in the first three subindices of a unit (R407 to R409). -/
theorem showCv_nat_other (u : Nat) (s : State) {sub : Nat} (h : 3 < sub) : (s.showCv u).nat (cvk u sub) = s.nat (cvk u sub) := by
  unfold State.showCv
  split
  · simp (disch := omega) [cvk, obj, if_neg]
  · simp (disch := omega) [cvk, obj, if_neg, setBytes_nat]

theorem loadCv_active (u : Nat) (j : CvJob) (s : State) : ((s.loadCv u j).cvUnit u).active = some j := by
  simp [State.loadCv]

theorem runJob_active {b : Bytes} (hcheck : s.jobCheck b = 0) (hidle : (s.cvUnit 3).active = none) :
    ((s.runJob b).cvUnit 3).active = some ⟨0xFE, b.take 16, crcStart (b.take 16), b.drop 16⟩ := by
  unfold State.runJob
  simp only [hcheck, await_cvUnit, hidle]
  exact loadCv_active _ _ _

theorem hostJob_gives {data : Bytes} (haccepts : s.Accepts r 0x107801 data) (hidle : s.awaiting.contains 0x107802 = false)
    (hcheck : (s.autoTake r 0x107801).jobCheck data = 0) (hunit : (s.cvUnit 3).active = none) :
    Gives (.hostJob r data) s fun t =>
      (t.cvUnit 3).active = some ⟨0xFE, data.take 16, crcStart (data.take 16), data.drop 16⟩ := by
  refine gives_paired rfl haccepts hidle (by decide) ?_
  rw [answered_cvUnit]
  exact runJob_active hcheck (by rwa [autoTake_cvUnit])

theorem contextSwitch_loads {u m : Nat} {head data : Bytes} (hserved : (posOf m (cvMasters u)).isSome = true) (hmaster : m ≠ 0xFE)
    (hfree : (s.cvUnit u).busy = 0) (hidle : (s.cvUnit u).active = none) :
    Gives (.contextSwitch u m head data) s fun t => (t.cvUnit u).active = some ⟨m, padTo 16 head, crcStart head, data⟩ := by
  obtain ⟨i, hrank⟩ := Option.isSome_iff_exists.mp hserved
  have hexec : exec (.contextSwitch u m head data) s = .next (s.loadCv u ⟨m, padTo 16 head, crcStart head, data⟩) := by
    show execContextSwitch u m head data s = _
    simp [execContextSwitch, hrank, hmaster, hfree, hidle]
  exact gives_next hexec (loadCv_active _ _ _)

/-- The state that a switch leaves (R408). -/
def State.switchCv (u : Nat) (j a : CvJob) (s : State) : State :=
  ((s.setCvUnit u { s.cvUnit u with active := some j, saved := some a, busy := 2 }).bump (cvk u 5)).showCv u

theorem contextSwitch_saves {u m i : Nat} {head data : Bytes} {a : CvJob} (hrank : posOf m (cvMasters u) = some i) (hmaster : m ≠ 0xFE)
    (hfree : (s.cvUnit u).busy = 0) (hactive : (s.cvUnit u).active = some a) (habove : i < (posOf a.master (cvMasters u)).getD 99)
    (hsaved : (s.cvUnit u).saved = none) :
    Gives (.contextSwitch u m head data) s fun t => (t.cvUnit u).active = some ⟨m, padTo 16 head, crcStart head, data⟩ ∧
      (t.cvUnit u).saved = some a ∧ t.nat (cvk u 5) = satAdd 32 (s.nat (cvk u 5)) 1 := by
  have hexec : exec (.contextSwitch u m head data) s = .next (s.switchCv u ⟨m, padTo 16 head, crcStart head, data⟩ a) := by
    show execContextSwitch u m head data s = _
    simp [execContextSwitch, State.switchCv, hrank, hmaster, hfree, hactive, habove, hsaved]
  refine gives_next hexec ?_
  simp [State.switchCv, showCv_nat_other, satAdd]

theorem contextRestore_gives {u : Nat} {a k : CvJob} (hactive : (s.cvUnit u).active = some a) (hfree : (s.cvUnit u).busy = 0)
    (hfed : a.left = []) (hmaster : a.master ≠ 0xFE) (hsaved : (s.cvUnit u).saved = some k) (hwaiting : (s.cvUnit u).waiting = []) :
    Gives (.contextRestore u) s fun t => (t.cvUnit u).active = some k ∧ (t.cvUnit u).saved = none := by
  have hexec : exec (.contextRestore u) s =
      .next ((s.setCvUnit u { s.cvUnit u with active := some k, saved := none, busy := 2 }).showCv u) := by
    show execContextRestore u s = _
    simp [execContextRestore, hactive, hfree, hfed, hmaster, hsaved, hwaiting]
  refine gives_next hexec ?_
  simp

/-- Settles O20, clause by clause. -/
theorem accessCompletes : Obligations.AccessCompletes := by
  unfold Obligations.AccessCompletes
  refine ⟨fun r i n b rest s => ringRead_gives, fun r i j n b rest s => fifoRead_gives, fun r i j n s => fifoRepeatRead_gives,
    fun r f s => pdoEnable_gives, fun f s => pdoPeriodic_gives, fun f s hf hr hm hon hnew hgrid hch => pdoChange_builds hf hr hm hon hnew hgrid hch,
    fun f s hf hr hm hon hnew hgrid hch => pdoChange_holds hf hr hm hon hnew hgrid hch, fun r data s => hostJob_gives,
    fun u m head data s => contextSwitch_loads, fun u m head data a i s => contextSwitch_saves, fun u a k s => contextRestore_gives⟩

end Sys2Proof.Machine
end

section
/-!
PROOFS. What the commands of Lantern and its database leave (R168 to R177).
-/
namespace Sys2Proof.Machine

variable {r : Requester} {s t : State} {i j : Nat}

/-! ### The slots and the entries of the database -/

theorem slot_of_slots (h : t.lantern.slots = s.lantern.slots) (j : Nat) : t.slot j = s.slot j :=
  congrArg (Map.get (fun _ => Slot.init) · j) h

theorem dbEntry_of_lantern (h : t.lantern = s.lantern) (j : Nat) : t.dbEntry j = s.dbEntry j :=
  congrArg (fun l : Lantern => Map.get (fun _ => Entry.init) l.entries j) h

@[simp] theorem setSlot_slot (i : Nat) (x : Slot) (s : State) (j : Nat) : (s.setSlot i x).slot j = if j = i then x else s.slot j := by
  simp [State.setSlot, State.slot, map_get_put]

@[simp] theorem setDbEntry_dbEntry (i : Nat) (e : Entry) (s : State) (j : Nat) :
    (s.setDbEntry i e).dbEntry j = if j = i then e else s.dbEntry j := by
  simp [State.setDbEntry, State.dbEntry, map_get_put]

@[simp] theorem setDbEntry_slots (i : Nat) (e : Entry) (s : State) : (s.setDbEntry i e).lantern.slots = s.lantern.slots := rfl

@[simp] theorem refreshLantern_lantern (s : State) : s.refreshLantern.lantern = s.lantern := refreshLantern_keeps.same .lantern (by decide)

@[simp] theorem refreshLantern_dbEntry (s : State) (j : Nat) : s.refreshLantern.dbEntry j = s.dbEntry j :=
  dbEntry_of_lantern (refreshLantern_lantern s) j

@[simp] theorem lanternEvent_lantern (kind pi seq mask : Nat) (s : State) : (s.lanternEvent kind pi seq mask).lantern = s.lantern :=
  lanternEvent_keeps.same .lantern (by decide)

@[simp] theorem lanternEvent_dbEntry (kind pi seq mask : Nat) (s : State) (j : Nat) :
    (s.lanternEvent kind pi seq mask).dbEntry j = s.dbEntry j := dbEntry_of_lantern (lanternEvent_lantern kind pi seq mask s) j

@[simp] theorem followAnnouncement_dbEntry (hit : Bool) (s : State) (j : Nat) : (s.followAnnouncement hit).dbEntry j = s.dbEntry j :=
  dbEntry_of_lantern (followAnnouncement_keeps.same .lantern (by decide)) j

@[simp] theorem ite_dbEntry {c : Prop} [Decidable c] (s t : State) (j : Nat) :
    (if c then s else t).dbEntry j = if c then s.dbEntry j else t.dbEntry j := apply_ite (State.dbEntry · j) c s t

@[simp] theorem writeEntry_slots (i : Nat) (e : Entry) (s : State) : (s.writeEntry i e).lantern.slots = s.lantern.slots := by
  simp [State.writeEntry]

@[simp] theorem freeDbEntry_slots (i : Nat) (s : State) : (s.freeDbEntry i).lantern.slots = s.lantern.slots := by
  simp [State.freeDbEntry]

/-- A confirmation is kept in the database; the slots stay (R169). -/
theorem confirmPi_slots (src pi instant : Nat) (s : State) : (s.confirmPi src pi instant).lantern.slots = s.lantern.slots := by
  unfold State.confirmPi
  split
  next i _ =>
    dsimp only
    split
    · rfl
    · split <;> simp
  next =>
    split
    · rfl
    · dsimp only
      split <;> simp

/-- A replaced entry is as given but for its region and its sequence (R171). -/
theorem writeEntry_same (i : Nat) (e : Entry) (s : State) : ∃ rbds seq, (s.writeEntry i e).dbEntry i = { e with rbds := rbds, seq := seq } := by
  unfold State.writeEntry
  extract_lets old e'
  rw [refreshLantern_dbEntry, setDbEntry_dbEntry, if_pos rfl]
  by_cases hbody : e'.body = old.body
  · exact ⟨_, e.seq, if_pos hbody⟩
  · exact ⟨_, _, if_neg hbody⟩

theorem writeEntry_other (i : Nat) (e : Entry) (s : State) (h : j ≠ i) : (s.writeEntry i e).dbEntry j = s.dbEntry j := by
  simp [State.writeEntry, h]

/-- A kind-3 event leaves an entry but for what it holds back (R173). -/
theorem fieldsChanged_same (i mask : Nat) (s : State) :
    ∃ last held, (s.fieldsChanged i mask).dbEntry i = { s.dbEntry i with lastChange := last, held := held } := by
  unfold State.fieldsChanged
  split
  · exact ⟨(s.dbEntry i).lastChange, (s.dbEntry i).held, rfl⟩
  · extract_lets e free
    by_cases hfree : free = true
    · rw [if_pos hfree, lanternEvent_dbEntry, setDbEntry_dbEntry, if_pos rfl]
      exact ⟨_, _, rfl⟩
    · rw [if_neg hfree, setDbEntry_dbEntry, if_pos rfl]
      exact ⟨e.lastChange, _, rfl⟩

theorem fieldsChanged_other (i mask : Nat) (s : State) (h : j ≠ i) : (s.fieldsChanged i mask).dbEntry j = s.dbEntry j := by
  unfold State.fieldsChanged
  split
  · rfl
  · extract_lets e free
    simp [h]

/-- A changed entry has the fields and the AF list given (R171, R173). -/
theorem changeEntry_same (i extra : Nat) (e : Entry) (s : State) :
    ((s.changeEntry i extra e).dbEntry i).fields = e.fields ∧ ((s.changeEntry i extra e).dbEntry i).afs = e.afs := by
  unfold State.changeEntry
  extract_lets old m s1 seq s2 s3 s4
  obtain ⟨rbds, n, h1⟩ := writeEntry_same i e s
  have h4 : s4.dbEntry i = s1.dbEntry i := by simp [s4, s3, s2]
  obtain ⟨last, held, hchanged⟩ := fieldsChanged_same i m s4
  rw [hchanged, h4, show s1.dbEntry i = _ from h1]
  exact ⟨rfl, rfl⟩

theorem changeEntry_other (i extra : Nat) (e : Entry) (s : State) (h : j ≠ i) : (s.changeEntry i extra e).dbEntry j = s.dbEntry j := by
  unfold State.changeEntry
  extract_lets old m s1 seq s2 s3 s4
  have h4 : s4.dbEntry j = s1.dbEntry j := by simp [s4, s3, s2]
  rw [fieldsChanged_other i m s4 h, h4]
  exact writeEntry_other i e s h

/-! ### The commands -/

theorem cls_le_one_of_erased {cls erased : Nat} (h : erasedClass cls erased ≤ 1) : cls ≤ 1 := by
  unfold erasedClass at h
  split at h <;> omega

theorem lanternConfirmation_gives {pi at_ cls : Nat} (hsource : i < 0x10000) (hruns : s.ustate 0x700 = 2)
    (hactive : (s.slot i).active = true) (hsync : (s.slot i).sync = true)
    (hclean : erasedClass cls (erasedBits at_ 0 s.lanternCores) ≤ 1) (hnew : (s.slot i).lastGroup ≠ some at_) :
    Gives (.lanternConfirmation i pi at_ cls) s fun t => (t.slot i).pi = pi ∧
      (t.slot i).piState = (if (s.slot i).piState ≠ 0 ∧ (s.slot i).pi = pi then 2 else 1) := by
  have hcls := cls_le_one_of_erased hclean
  have hexec : exec (.lanternConfirmation i pi at_ cls) s = .next ((s.setSlot i { s.slot i with
      pi := pi, piState := if (s.slot i).piState ≠ 0 ∧ (s.slot i).pi = pi then 2 else 1, lastGroup := some at_ }).confirmPi i pi at_) := by
    show execLanternConfirmation i pi at_ cls s = _
    unfold execLanternConfirmation
    rw [if_neg (by omega), if_pos hsource]
    dsimp only
    rw [if_neg (by omega), if_pos ⟨hruns, hactive, hsync, hnew⟩]
  refine gives_next hexec ?_
  rw [slot_of_slots (confirmPi_slots _ _ _ _) i, setSlot_slot, if_pos rfl]
  exact ⟨rfl, rfl⟩

theorem entryExpiry_gives (hstate : (s.dbEntry i).state = 1) (hold : (s.dbEntry i).firstHeard + 1536000000 ≤ s.gnomon) :
    Gives (.entryExpiry i) s fun t => t.dbEntry i = Entry.init := by
  have hexec : exec (.entryExpiry i) s = .next (s.freeDbEntry i) := by
    show execEntryExpiry i s = _
    simp [execEntryExpiry, hstate, hold]
  refine gives_next hexec ?_
  simp [State.freeDbEntry]

theorem lanternFieldUpdate_gives {slot : Nat} {g : RdsGroup} (hruns : s.ustate 0x700 = 2) (hactive : (s.slot slot).active = true)
    (hsync : (s.slot slot).sync = true) (hverified : (s.slot slot).piState = 2) (hoffset : g.offsetE = false) (hcls : s.slotClass g 1 ≤ 2)
    (hentry : s.entryOf (s.slot slot).pi = some i) (hstate : (s.dbEntry i).state = 2) (hbest : (s.dbEntry i).best = some slot)
    (hfg : (s.dbEntry i).fg = none) (htype : groupType (nthD g.blocks 1 0) = 4) :
    Gives (.lanternFieldUpdate slot g) s fun t => (t.dbEntry i).fields =
      (s.dbEntry i).fields.group (nthD g.blocks 1 0) (nthD g.blocks 2 0) (nthD g.blocks 3 0) (s.slotClass g) := by
  have htime : groupTime (nthD g.blocks 1 0) (nthD g.blocks 2 0) (nthD g.blocks 3 0) (s.slotClass g) = none := by
    simp [groupTime, htype]
  have hafs : ¬(groupType (nthD g.blocks 1 0) = 0 ∧ s.slotClass g 2 ≤ 2) := by simp [htype]
  have hexec : exec (.lanternFieldUpdate slot g) s = .next (s.changeEntry i 0 { s.dbEntry i with
      fields := (s.dbEntry i).fields.group (nthD g.blocks 1 0) (nthD g.blocks 2 0) (nthD g.blocks 3 0) (s.slotClass g) }) := by
    show execLanternFieldUpdate slot g s = _
    unfold execLanternFieldUpdate
    dsimp only
    rw [if_pos ⟨hruns, hactive, hsync, hverified, hcls, by rw [hoffset]; rfl⟩, hentry]
    dsimp only
    rw [if_neg (not_not.mpr hstate), if_neg hafs, if_neg (not_not.mpr hbest), hfg, htime]
    rfl
  exact gives_next hexec (changeEntry_same i 0 _ s).1

theorem lanternEventMerge_gives {at_ : Nat} (hlast : (s.dbEntry i).lastChange = some at_) (hstate : (s.dbEntry i).state ≠ 0)
    (hheld : (s.dbEntry i).held ≠ 0) (hdue : at_ + 15360000 ≤ s.gnomon) :
    Gives (.lanternEventMerge i) s fun t => (t.dbEntry i).held = 0 ∧ (t.dbEntry i).lastChange = some s.gnomon := by
  have hexec : exec (.lanternEventMerge i) s = .next
      ((s.setDbEntry i { s.dbEntry i with held := 0, lastChange := some s.gnomon }).lanternEvent 3 (s.dbEntry i).pi (s.dbEntry i).seq
        (s.dbEntry i).held) := by
    show execLanternEventMerge i s = _
    simp [execLanternEventMerge, hlast, hstate, hheld, hdue]
  refine gives_next hexec ?_
  simp

theorem clearDatabase_clears (s : State) :
    s.clearDatabase.lantern.entries = [] ∧ s.clearDatabase.nat 0x430013 = 0 ∧ s.clearDatabase.nat 0x430014 = 0 := by
  unfold State.clearDatabase
  generalize hu : ({ s with lantern := { s.lantern with entries := [] } } : State) = u
  have hnone : u.lantern.entries = [] := by rw [← hu]
  refine ⟨by simp [hnone], ?_, ?_⟩ <;> rw [nat_of_val (lanternEvent_val _ _ _ _ _ (by decide) (by decide) (by decide))] <;>
    simp [State.refreshLantern, hnone]

theorem lanternClearDatabase_gives (haccepts : s.Accepts r 0x43000A [1]) :
    Gives (.lanternClearDatabase r) s fun t => t.lantern.entries = [] ∧ t.nat 0x430013 = 0 ∧ t.nat 0x430014 = 0 := by
  refine gives_request rfl haccepts rfl ?_
  rw [accept, answered_lantern, reply_nat, reply_nat, touch_nat_other _ _ (by decide), touch_nat_other _ _ (by decide)]
  exact clearDatabase_clears _

/-- What one entry of the list adds to the clearing of the AF lists (R172). -/
def State.clearAfList (p : Nat × Entry) (s : State) : State :=
  if p.2.afs = [] then s else s.changeEntry p.1 0 { s.dbEntry p.1 with afs := [] }

theorem clearAfList_afs (p : Nat × Entry) (s : State) (j : Nat) :
    ((s.clearAfList p).dbEntry j).afs = if j = p.1 ∧ p.2.afs ≠ [] then [] else (s.dbEntry j).afs := by
  unfold State.clearAfList
  by_cases hnone : p.2.afs = []
  · simp [hnone]
  · rw [if_neg hnone]
    by_cases hj : j = p.1
    · rw [hj, (changeEntry_same p.1 0 _ s).2, if_pos ⟨rfl, hnone⟩]
    · rw [changeEntry_other _ _ _ _ hj, if_neg (hj ·.1)]

/-- After the list, an entry has an empty AF list if it had one, or if an entry with AFs of its position stands in the list. -/
theorem foldl_clearAfList_afs (l : List (Nat × Entry)) (s : State) (j : Nat)
    (h : (s.dbEntry j).afs = [] ∨ ∃ p ∈ l, p.1 = j ∧ p.2.afs ≠ []) :
    ((l.foldl (fun s p => s.clearAfList p) s).dbEntry j).afs = [] := by
  induction l generalizing s with
  | nil => simpa using h
  | cons p l ih =>
    refine ih (s.clearAfList p) ?_
    rw [clearAfList_afs]
    rcases h with h | ⟨q, hq, hpos, hafs⟩
    · left
      simp [h]
    · rcases List.mem_cons.mp hq with rfl | hq
      · exact .inl (if_pos ⟨hpos.symm, hafs⟩)
      · exact .inr ⟨q, hq, hpos, hafs⟩

/-- What a map gives for a key is the key's default, or stands in the map's list with it. -/
theorem get_default_or_mem {α : Type} (d : Nat → α) (k : Nat) (m : Map α) : m.get d k = d k ∨ (k, m.get d k) ∈ m := by
  induction m with
  | nil => exact .inl rfl
  | cons p m ih =>
    unfold Map.get
    split
    next h => exact .inr (by simp [h])
    next => exact ih.imp_right (List.mem_cons_of_mem _)

theorem clearAfLists_afs (s : State) (j : Nat) : (s.clearAfLists.dbEntry j).afs = [] := by
  refine foldl_clearAfList_afs s.lantern.entries s j ?_
  rcases get_default_or_mem (fun _ => Entry.init) j s.lantern.entries with h | h
  · exact .inl (congrArg Entry.afs h)
  · exact (eq_or_ne (s.dbEntry j).afs []).imp_right fun hafs => ⟨_, h, rfl, hafs⟩

theorem lanternClearAf_gives (haccepts : s.Accepts r 0x43000A [2]) : Gives (.lanternClearAf r) s fun t => (t.dbEntry i).afs = [] := by
  refine gives_request rfl haccepts rfl ?_
  rw [accept, dbEntry_of_lantern (answered_lantern _ _ _ _) i]
  exact clearAfLists_afs _ i

theorem queryPi_gives {pi : Nat} (hpi : pi < 65536) (haccepts : s.Accepts r 0x431001 (leNat 2 pi)) :
    Gives (.queryPi r pi) s fun t => t.nat 0x431001 = pi := by
  refine gives_request rfl haccepts rfl ?_
  rw [accept, reply_nat, touch_nat_other _ _ (by decide), setNat_nat, if_pos rfl, Nat.mod_eq_of_lt hpi]

theorem hear_groups (x : Slot) (cls : List Nat) (h : x.sync = true) : (x.hear cls).groups = satAdd 32 x.groups 1 := by
  simp [Slot.hear, h]

theorem lanternRawGroup_gives {slot : Nat} {g : RdsGroup} (hruns : s.ustate 0x700 = 2) (hactive : (s.slot slot).active = true)
    (hsync : (s.slot slot).sync = true) :
    Gives (.lanternRawGroup slot g) s fun t => (t.slot slot).groups = satAdd 32 (s.slot slot).groups 1 := by
  let x := (s.slot slot).hear [s.slotClass g 0, s.slotClass g 1, s.slotClass g 2, s.slotClass g 3]
  have hkept : ∃ t, exec (.lanternRawGroup slot g) s = .next t ∧ t.lantern.slots = (s.setSlot slot x).lantern.slots := by
    refine ⟨_, rfl, ?_⟩
    rw [if_pos ⟨hruns, hactive⟩]
    extract_lets cls x' s1 region n p
    have hpush : p.1.lantern.slots = s1.lantern.slots := congrArg Lantern.slots (pushFifo_keeps.same .lantern (by decide))
    split
    · by_cases hfull : p.2 = true
      · rw [if_pos hfull, countDrop_keeps.same .lantern (by decide), bump_lantern, hpush]
      · rw [if_neg hfull, bump_lantern]
        exact hpush
    · rfl
  obtain ⟨t, hexec, hslots⟩ := hkept
  refine gives_next hexec ?_
  rw [slot_of_slots hslots, setSlot_slot, if_pos rfl, hear_groups _ _ hsync]

theorem actAndHold_of_holdings {act : State → State} (h : (act s).holdings = s.holdings) : s.actAndHold act = act s := by
  unfold State.actAndHold
  simp [h]

theorem lanternMemoryError_gives (hlow : 1 ≤ s.ustate 0x700) (hhigh : s.ustate 0x700 ≤ 3) (hparent : s.parent 0x700 = 0xFFFF) :
    Gives .lanternMemoryError s fun t => t.ustate 0x700 = 4 ∧ t.nat (desc 0x700 5) = 0x0701 := by
  let u := (s.setUState 0x700 4 3 0).setNat (desc 0x700 5) 0x0701
  have halone : u.parent 0x700 = 0xFFFF := by
    show State.nat _ (desc 0x700 4) = _
    rw [setNat_nat, if_neg (by decide), nat_of_val (setUState_val _ _ _ _ _ (by decide) (by decide) (by decide) (by decide))]
    exact hparent
  have hfault : s.faultUnit 0x700 0x0701 = u := by
    show u.faultCourse 9 0x700 = u
    unfold State.faultCourse
    rw [if_pos (.inl halone)]
  have hexec : exec .lanternMemoryError s = .next u := by
    have hact : (if s.ustate 0x700 = 1 ∨ s.ustate 0x700 = 2 ∨ s.ustate 0x700 = 3 then s.faultUnit 0x700 0x0701 else s) = u := by
      rw [if_pos (by omega), hfault]
    have hheld : u.holdings = s.holdings := (setUState_keeps.same .holdings (by decide) :)
    show Host.Outcome.next _ = _
    rw [actAndHold_of_holdings (by rw [hact, hheld]), hact]
  refine gives_next hexec ⟨?_, ?_⟩
  · show State.nat _ (desc 0x700 2) = _
    rw [setNat_nat, if_neg (by decide)]
    exact setUState_ustate _ _ _ _ _ (by decide)
  · rw [setNat_nat, if_pos rfl]

/-- Settles O7, clause by clause. -/
theorem lanternCompletes : Obligations.LanternCompletes := by
  unfold Obligations.LanternCompletes
  exact ⟨fun i pi at_ cls s => lanternConfirmation_gives, fun i s => entryExpiry_gives, fun slot g i s => lanternFieldUpdate_gives,
    fun i at_ s => lanternEventMerge_gives, fun r s => lanternClearDatabase_gives, fun r i s => lanternClearAf_gives,
    fun r pi s => queryPi_gives, fun slot g s => lanternRawGroup_gives, fun s => lanternMemoryError_gives⟩

end Sys2Proof.Machine
end

section
/-!
PROOFS. What the token, the persistent store, the history, the Quoin apply and a plain write leave (R349, R352, R353, R359 to R361, R365,
R370).
-/
namespace Sys2Proof.Machine

variable {r : Requester} {s t : State} {i j : Nat} {b : Bytes} {row : Row}

/-! ### The plain rows -/

/-- The plain rows with their keys: the token's timeout and its automatic take, and the two SPI settings. -/
def plainRows : List (Nat × Row) :=
  [(0x103003, ⟨0x1030, 1, 3, 3, .u16, .rw, 2000, [(100, 60000)]⟩), (0x103004, ⟨0x1030, 1, 4, 4, .bool, .rw, 1, []⟩),
    (0x106001, ⟨0x1060, 1, 1, 1, .u8, .rw, 7, [(0, 31)]⟩), (0x106002, ⟨0x1060, 1, 2, 2, .u16, .rw, 500, [(50, 10000)]⟩)]

/-- A row that spans one subindex outside the port configurations is plain only if it is one of the list. -/
def onlyPlain (rows : List Row) : Bool :=
  rows.all fun w => (w.acc != .rw && w.acc != .rws) ||
    (w.n == 1 && (w.base == 0x1040 || w.base == 0x1050 || (w.lo == w.hi && plainRows.contains (w.base * 256 + w.lo, w))))

theorem onlyPlain_rowsNear (h : i ≤ 0x1FFF) : onlyPlain (rowsNear i) = true := by
  have hcases : i < 0x1000 ∨ (0x1000 ≤ i ∧ i ≤ 0x103F) ∨ (0x1040 ≤ i ∧ i ≤ 0x10FF) ∨ 0x1100 ≤ i := by omega
  unfold rowsNear
  rcases hcases with h | h | h | h
  · rw [if_pos h]
    rfl
  · rw [if_neg (by omega), if_pos h.2]
    decide
  · rw [if_neg (by omega), if_neg (by omega), if_neg (by omega), if_pos h.2]
    decide
  · rw [if_neg (by omega), if_neg (by omega), if_neg (by omega), if_neg (by omega), if_neg (by omega), if_pos ‹i ≤ 0x1FFF›]
    decide

theorem plainRow_mem (h : PlainRow i j row) : (obj i j, row) ∈ plainRows := by
  obtain ⟨_, hhigh, hquoin, htwoWire, hj, hrow, hacc⟩ := h
  have hindex : obj i j / 256 = i ∧ obj i j % 256 = j := by
    unfold obj
    omega
  rw [findRow, hindex.1, hindex.2] at hrow
  have hspan := List.find?_some hrow
  have hplain := List.all_eq_true.mp (onlyPlain_rowsNear hhigh) row (List.mem_of_find?_eq_some hrow)
  simp only [decide_eq_true_eq] at hspan
  simp only [Bool.or_eq_true, Bool.and_eq_true, bne_iff_ne, beq_iff_eq, List.contains_iff_mem] at hplain
  rcases hplain with hother | ⟨hone, (hport | hport) | ⟨hsub, hmem⟩⟩
  · exact absurd hacc (not_or.mpr hother)
  · omega
  · omega
  · have hkey : obj i j = row.base * 256 + row.lo := by
      unfold obj
      omega
    rwa [hkey]

/-- What a plain row takes is stored as it is. -/
theorem applyWrite_plain (h : PlainRow i j row) (hrange : tableRange (obj i j) row (decodeVal row.ty b) = 0) :
    s.applyWrite (obj i j) b = (s.setVal (obj i j) (decodeVal row.ty b), 0) := by
  have hrow : findRow (obj i j) = some row := h.2.2.2.2.2.1
  have hmem := plainRow_mem h
  generalize obj i j = key at hmem hrow hrange ⊢
  simp only [plainRows, List.mem_cons, Prod.mk.injEq, List.not_mem_nil, or_false] at hmem
  rcases hmem with ⟨rfl, rfl⟩ | ⟨rfl, rfl⟩ | ⟨rfl, rfl⟩ | ⟨rfl, rfl⟩ <;>
  · rw [applyWrite_num hrow ⟨rfl, rfl, fun _ => rfl, fun _ _ => rfl, fun _ _ => rfl, fun _ _ => rfl, fun _ _ => ⟨rfl, rfl, rfl⟩,
      fun _ _ => ⟨rfl, rfl, rfl, rfl, rfl, rfl, rfl⟩, fun s i b => ⟨followRule_eq_zero (by decide) s i b, rfl⟩⟩ rfl hrange]
    rfl

theorem plainRow_index (h : PlainRow i j row) : obj (i % 65536) (j % 256) = obj i j := by
  obtain ⟨_, hhigh, _, _, hj, _⟩ := h
  rw [Nat.mod_eq_of_lt (by omega), Nat.mod_eq_of_lt hj]

theorem pairedRes_plain (h : PlainRow i j row) : pairedRes (obj i j) = none := by
  have hmem := plainRow_mem h
  generalize obj i j = key at hmem
  simp only [plainRows, List.mem_cons, Prod.mk.injEq, List.not_mem_nil, or_false] at hmem
  rcases hmem with ⟨rfl, _⟩ | ⟨rfl, _⟩ | ⟨rfl, _⟩ | ⟨rfl, _⟩ <;> rfl

theorem plainRow_ne (h : PlainRow i j row) : obj i j ≠ 0x103005 := by
  have hmem := plainRow_mem h
  rintro hkey
  rw [hkey] at hmem
  simp [plainRows] at hmem

/-- A plain row takes what it is written: a number, stored as it is (R349). -/
theorem writeAct_plain (h : PlainRow i j row) (haccepts : s.Accepts r (obj i j) b) (t : State) :
    writeAct r (obj i j) b t = (t.setVal (obj i j) (decodeVal row.ty b), 0) := by
  have hrow : findRow (obj i j) = some row := h.2.2.2.2.2.1
  have hacc : (row.acc == .cmd) = false := by rcases h.2.2.2.2.2.2 with h | h <;> rw [h] <;> rfl
  unfold writeAct
  rw [hrow]
  simp only [hacc, Bool.false_eq_true, if_false]
  exact applyWrite_plain h (tableRange_of_accepts haccepts hrow (pairedRes_plain h))

theorem objectWrite_plain (hplain : PlainRow i j row) (haccepts : s.Accepts r (obj i j) b) :
    Gives (.objectWrite r i j b) s fun t => t.val (obj i j) = decodeVal row.ty b ∧ t.answer.code = 0 := by
  have hact := writeAct_plain hplain haccepts (s.autoTake r (obj i j))
  have hexec : exec (.objectWrite r i j b) s = .next (s.request r (obj i j) b (writeAct r (obj i j) b)) := by
    show execObjectWrite r i j b s = _
    rw [execObjectWrite, plainRow_index hplain]
    rfl
  refine gives_request hexec haccepts (by rw [hact]) ⟨?_, rfl⟩
  rw [hact]
  show ((_ : State).touch r).val (obj i j) = _
  rw [touch_val r _ (plainRow_ne hplain), setVal_val, if_pos rfl]

/-- An accepted write is answered with what its act answers. -/
theorem request_answer {key : Nat} (haccepts : s.Accepts r key b) (act : State → State × Nat) :
    (s.request r key b act).answer.code = (act (s.autoTake r key)).2 := by
  by_cases hdone : (act (s.autoTake r key)).2 = 0
  · rw [request_done s r _ b act haccepts.1 haccepts.2 hdone, hdone]
    rfl
  · rw [request_actRefused s r _ b act haccepts hdone]
    rfl

theorem objectWrite_answer (hi : i < 65536) (hj : j < 256) (haccepts : s.Accepts r (obj i j) b) :
    Gives (.objectWrite r i j b) s fun t => t.answer.code = (writeAct r (obj i j) b (s.autoTake r (obj i j))).2 := by
  refine ⟨_, rfl, ?_⟩
  rw [Nat.mod_eq_of_lt hi, Nat.mod_eq_of_lt hj]
  exact request_answer haccepts _

/-! ### The persistent store -/

theorem store_gives (haccepts : s.Accepts r 0x110001 [1]) (hidle : s.awaiting.contains 0x110002 = false)
    (hfits : storeSize (s.autoTake r 0x110001).snapshot ≤ 16384) :
    Gives (.store r) s fun t => t.saving.map (·.snapshot) = some (s.autoTake r 0x110001).snapshot := by
  refine gives_paired rfl haccepts hidle (by decide) ?_
  rw [answered_saving]
  unfold State.storeCommand
  dsimp only
  rw [if_neg (by omega)]
  rfl

@[simp] theorem storeOutcome_saving (code bytes : Nat) (s : State) : (s.storeOutcome code bytes).saving = s.saving :=
  storeOutcome_keeps.same .saving (by decide)

@[simp] theorem storeOutcome_flash (code bytes : Nat) (s : State) : (s.storeOutcome code bytes).flash = s.flash :=
  storeOutcome_keeps.same .flash (by decide)

@[simp] theorem storeOutcome_held (code bytes : Nat) (s : State) : (s.storeOutcome code bytes).held = s.held :=
  storeOutcome_keeps.same .held (by decide)

@[simp] theorem storeOutcome_nat (code bytes : Nat) (s : State) {k : Nat} (hres : k ≠ 0x110002) (h : k / 256 ≠ 0x9800) (hsync : k ≠ 0x102007)
    (hlog : k ≠ 0x710007) : (s.storeOutcome code bytes).nat k = s.nat k := by
  unfold State.storeOutcome
  rw [raise_nat_other _ _ _ _ _ h hsync hlog, issuePaired_nat _ _ _ hres h hsync hlog]

/-- A result holds its sequence and its body (R355). -/
theorem issue_body (k : Nat) (body : Bytes) (s : State) : ((s.issue k body).bytes k).drop 2 = body := by
  show ((s.setBytes k (leNat 2 _ ++ body)).bytes k).drop 2 = body
  rw [setBytes_bytes, if_pos rfl]
  rfl

theorem storeOutcome_body (code bytes : Nat) (s : State) :
    ((s.storeOutcome code bytes).bytes 0x110002).drop 2 = leNat 2 code ++ leNat 4 bytes := by
  unfold State.storeOutcome State.issuePaired
  rw [bytes_of_val (raise_val _ _ _ _ _ (by decide) (by decide) (by decide)),
    bytes_of_val (raise_val _ _ _ _ _ (by decide) (by decide) (by decide)), issue_body]

theorem runHeldStore_idle (h : Map.get (fun _ => none) s.held 0x110001 = none) : s.runHeldStore = s := by
  unfold State.runHeldStore
  rw [h]

/-- A store written and verified (R353). -/
def State.storeWritten (v : Saving) (s : State) : State :=
  let n := satAdd 32 s.flash.stores 1
  let s := { s with saving := none, flash := { s.flash with store := v.snapshot, storedSize := v.size, stores := n } }
  (((s.setNat 0x110003 v.size).setNat 0x110005 n).cvManagement v.size).storeOutcome 0 v.size

theorem storeWritten_held (v : Saving) (s : State) : (s.storeWritten v).held = s.held := by
  unfold State.storeWritten
  rw [storeOutcome_held, cvManagement_keeps.same .held (by decide)]
  rfl

theorem storeComplete_done {v : Saving} (hsaving : s.saving = some v) (hheld : Map.get (fun _ => none) s.held 0x110001 = none) :
    Gives (.storeComplete true) s fun t => t.saving = none ∧ t.flash.store = v.snapshot ∧ t.nat 0x110003 = v.size ∧
      t.flash.stores = satAdd 32 s.flash.stores 1 := by
  have hexec : exec (.storeComplete true) s = .next (s.storeWritten v) := by
    have hidle := runHeldStore_idle (s := s.storeWritten v) (by rwa [storeWritten_held])
    show execStoreComplete true s = _
    unfold execStoreComplete
    rw [hsaving]
    exact congrArg _ hidle
  refine gives_next hexec ?_
  unfold State.storeWritten
  extract_lets n u
  rw [storeOutcome_saving, storeOutcome_flash, storeOutcome_nat _ _ _ (by decide) (by decide) (by decide) (by decide),
    cvManagement_keeps.same .saving (by decide), cvManagement_keeps.same .flash (by decide),
    nat_of_val (cvManagement_val _ _ (by decide)), setNat_nat, if_neg (by decide), setNat_nat, if_pos rfl]
  exact ⟨rfl, rfl, rfl, rfl⟩

theorem storeComplete_failed {v : Saving} (hsaving : s.saving = some v) (hheld : Map.get (fun _ => none) s.held 0x110001 = none) :
    Gives (.storeComplete false) s fun t => t.saving = none ∧ t.flash.store = s.flash.store ∧
      (t.bytes 0x110002).drop 2 = leNat 2 0x0111 ++ leNat 4 0 := by
  have hexec : exec (.storeComplete false) s = .next (State.storeOutcome 0x0111 0 { s with saving := none }) := by
    have hidle := runHeldStore_idle (s := State.storeOutcome 0x0111 0 { s with saving := none }) (by rwa [storeOutcome_held])
    show execStoreComplete false s = _
    unfold execStoreComplete
    rw [hsaving]
    exact congrArg _ hidle
  refine gives_next hexec ?_
  rw [storeOutcome_saving, storeOutcome_flash, storeOutcome_body]
  exact ⟨rfl, rfl, rfl⟩

theorem storeCommand_erase : s.storeCommand 2 =
    State.storeOutcome 0 0 (({ s with flash := { s.flash with store := [], storedSize := 0 } } : State).setNat 0x110003 0) := rfl

theorem storeErase_gives (haccepts : s.Accepts r 0x110001 [2]) (hidle : s.awaiting.contains 0x110002 = false) :
    Gives (.storeErase r) s fun t => t.flash.store = [] ∧ t.nat 0x110003 = 0 := by
  refine gives_paired rfl haccepts hidle (by decide) ?_
  rw [storeCommand_erase, answered_flash, reply_nat, touch_nat_other _ _ (by decide), storeOutcome_flash,
    storeOutcome_nat _ _ _ (by decide) (by decide) (by decide) (by decide), setNat_nat, if_pos rfl]
  exact ⟨rfl, rfl⟩

/-! ### The token -/

theorem tokenTake_gives {p : Nat} (haccepts : s.Accepts r 0x103002 [p % 3 + 1]) (hport : portNo r = p % 3 + 1) (hfree : s.nat 0x103001 = 0) :
    Gives (.tokenTake r p) s fun t => t.nat 0x103001 = p % 3 + 1 := by
  rw [← leNat_one (by omega)] at haccepts
  exact gives_next (exec_tokenTake r p s) (writeToken_accepted haccepts (tokenCommand_take_free (by omega) hport hfree)).2

theorem holdsToken_port (h : s.holdsToken r = true) : isHost r = true ∧ s.nat 0x103001 = portNo r := by
  simpa [State.holdsToken] using h

theorem tokenRelease_gives (haccepts : s.Accepts r 0x103002 [0]) (hholds : s.holdsToken r = true) :
    Gives (.tokenRelease r) s fun t => t.nat 0x103001 = 0 := by
  obtain ⟨hhost, hport⟩ := holdsToken_port hholds
  exact gives_next (exec_tokenRelease r s) (writeToken_accepted haccepts (tokenCommand_release hhost hport)).2

theorem tokenHandover_gives {p : Nat} (haccepts : s.Accepts r 0x103002 [0x81 + p % 3]) (hholds : s.holdsToken r = true) :
    Gives (.tokenHandover r p) s fun t => t.nat 0x103001 = p % 3 + 1 := by
  obtain ⟨hhost, hport⟩ := holdsToken_port hholds
  rw [← leNat_one (by omega)] at haccepts
  refine gives_next (exec_tokenHandover r p s) ?_
  rw [(writeToken_accepted haccepts (tokenCommand_handover hhost (Nat.le_add_right _ _) hport)).2]
  omega

theorem tokenTimeout_gives (hready : s.ready = true) (hheld : s.nat 0x103001 ≠ 0)
    (hdue : s.nat 0x103005 + s.nat 0x103003 * msTicks ≤ s.gnomon) : Gives .tokenTimeout s fun t => t.nat 0x103001 = 0 := by
  have hexec : exec .tokenTimeout s = .next (s.leaveToken 0 4) := congrArg _ (if_pos ⟨hready, hheld, hdue⟩)
  exact gives_next hexec (leaveToken_holder 0 4 s)

/-! ### The history and the apply -/

theorem historyQuery_found {q : Nat} {e : Event} (hseq : q ≤ s.nat 0x980006)
    (hfound : (s.events.history.find? fun e => e.seq == q) = some e) :
    s.historyQuery q = ((s.setNat 0x981001 q).issue 0x981002 e.encode, 0) := by
  unfold State.historyQuery
  rw [if_neg (by omega), hfound]

theorem historyQuery_gives {q : Nat} {e : Event} (hq : q < 2 ^ 32) (haccepts : s.Accepts r 0x981001 (leNat 4 q))
    (hseq : q ≤ (s.autoTake r 0x981001).nat 0x980006)
    (hfound : ((s.autoTake r 0x981001).events.history.find? fun e => e.seq == q) = some e) :
    Gives (.historyQuery r q) s fun t => t.nat 0x981001 = q ∧ (t.bytes 0x981002).drop 2 = e.encode := by
  have hv : decodeVal .u32 (leNat 4 q) = .num q := by
    show Val.num (ofLe (leNat 4 q)) = _
    rw [ofLe_leNat (by omega)]
  refine gives_acted (row := ⟨0x9810, 1, 1, 1, .u32, .rw, 0, []⟩) rfl haccepts (by decide) (by decide)
    ⟨rfl, rfl, fun _ => rfl, fun _ _ => rfl, fun _ _ => rfl, fun _ _ => rfl, fun _ _ => ⟨rfl, rfl, rfl⟩,
      fun _ _ => ⟨rfl, rfl, rfl, rfl, rfl, rfl, rfl⟩, fun s i b => ⟨followRule_eq_zero (by decide) s i b, rfl⟩⟩ hv
    (congrArg some (historyQuery_found hseq hfound)) ⟨?_, ?_⟩
  · rw [reply_nat, touch_nat_other _ _ (by decide), issue_nat _ _ (by decide), setNat_nat, if_pos rfl, Int.toNat_natCast]
  · show (((_ : State).touch r).bytes 0x981002).drop 2 = _
    rw [bytes_of_val (touch_val r _ (by decide)), issue_body]

/-- A commit takes the values of its keys over, each as it stands (R23). -/
theorem commitKeys_cval (ks : List Nat) (s : State) (k : Nat) : (s.commitKeys ks).cval k = if k ∈ ks then s.val k else s.cval k := by
  induction ks generalizing s with
  | nil => rfl
  | cons j ks ih =>
    unfold State.commitKeys
    rw [ih]
    show (if k ∈ ks then s.val k else Map.get dflt (Map.put dflt s.committed j (s.val j)) k) = _
    rw [map_get_put]
    by_cases hj : k = j <;> by_cases hk : k ∈ ks <;> simp [hj, hk, State.cval]

theorem cnat_of_commit (ks : List Nat) (s : State) {k : Nat} (hk : k ∈ ks) : (s.commitKeys ks).cnat k = s.nat k := by
  unfold State.cnat State.nat State.cnum State.num
  rw [commitKeys_cval, if_pos hk]

theorem cnat_of_committed (h : t.committed = s.committed) (k : Nat) : t.cnat k = s.cnat k := by
  unfold State.cnat State.cnum State.cval
  rw [h]

theorem quoinIds_of_committed (h : t.committed = s.committed) : t.quoinIds = s.quoinIds := by
  unfold State.quoinIds
  rw [cnat_of_committed h, cnat_of_committed h, cnat_of_committed h]

theorem autoTake_stagedIds (r : Requester) (s : State) : (s.autoTake r 0x104008).stagedIds = s.stagedIds := by
  simp [State.stagedIds]

theorem autoTake_pdoKey (r : Requester) (key f : Nat) (s : State) (hf : f < 16) : (s.autoTake r key).pdoKey f = s.pdoKey f := by
  unfold State.pdoKey
  rw [autoTake_nat] <;> simp only [pk, obj] <;> omega

/-- Whether an enabled frame has an identifier that an apply would bring (R370). -/
theorem autoTake_clash (r : Requester) (s : State) :
    ((List.range 16).any fun f => (s.autoTake r 0x104008).pdoOn f && (s.autoTake r 0x104008).stagedIds.contains ((s.autoTake r 0x104008).pdoKey f)) =
      (List.range 16).any fun f => s.pdoOn f && s.stagedIds.contains (s.pdoKey f) := by
  rw [autoTake_stagedIds, Bool.eq_iff_iff, List.any_eq_true, List.any_eq_true]
  refine exists_congr fun f => and_congr_right fun hf => ?_
  have hlow := List.mem_range.mp hf
  rw [autoTake_pdoOn r _ f s hlow, autoTake_pdoKey r _ f s hlow]

theorem applyQuoin_applied (hclash : ((List.range 16).any fun f => s.pdoOn f && s.stagedIds.contains (s.pdoKey f)) = false) :
    s.applyQuoin = ((s.commitKeys ((List.range 7).map fun i => 0x104001 + i)).closeTransfer 1 false, 0) := by
  unfold State.applyQuoin
  simp only [hclash]
  rfl

theorem quoinApply_gives (haccepts : s.Accepts r 0x104008 [1])
    (hclash : ((List.range 16).any fun f => s.pdoOn f && s.stagedIds.contains (s.pdoKey f)) = false) :
    Gives (.quoinApply r) s fun t => t.quoinIds = s.stagedIds := by
  have hact := applyQuoin_applied ((autoTake_clash r s).trans hclash)
  refine gives_request rfl haccepts (by rw [hact]) ?_
  rw [hact, ← autoTake_stagedIds r s, quoinIds_of_committed (answered_committed _ _ _ _),
    quoinIds_of_committed (closeTransfer_keeps.same .committed (by decide))]
  unfold State.quoinIds State.stagedIds
  rw [cnat_of_commit _ _ (by decide), cnat_of_commit _ _ (by decide), cnat_of_commit _ _ (by decide)]

/-- Settles O25, clause by clause. -/
theorem dictionaryCompletes : Obligations.DictionaryCompletes := by
  unfold Obligations.DictionaryCompletes
  exact ⟨fun r i j b row s => objectWrite_plain, fun r i j b s => objectWrite_answer, fun r s => store_gives,
    fun v s => storeComplete_done, fun v s => storeComplete_failed, fun r s => storeErase_gives, fun r p s => tokenTake_gives,
    fun r s => tokenRelease_gives, fun r p s => tokenHandover_gives, fun s => tokenTimeout_gives, fun r q e s => historyQuery_gives,
    fun r s => quoinApply_gives⟩

end Sys2Proof.Machine
end

section
/-!
PROOFS. What the commands of the Voussoir link leave (R303 to R318).
-/
namespace Sys2Proof.Machine

variable {s t : State} {f : OutFrame} {h n : Nat}

/-! ### The frames of the link sequencer -/

/-- The frames of a handle replaced: the first that a test of the handle finds afterwards is a replaced one. -/
theorem find_replaced {l : List OutFrame} {p : OutFrame → Bool} {upd : OutFrame → OutFrame} (hp : ∀ g, g.handle = h → p (upd g) = true)
    (hn : ∀ g, g.handle ≠ h → p g = false) (hmem : ∃ g ∈ l, g.handle = h) :
    ∃ g, g.handle = h ∧ (l.map fun g => if g.handle = h then upd g else g).find? p = some (upd g) := by
  induction l with
  | nil => simp at hmem
  | cons g l ih =>
    by_cases hg : g.handle = h
    · exact ⟨g, hg, by simp [hg, hp]⟩
    · obtain ⟨k, hk, hkh⟩ := hmem
      have hk' : k ∈ l := (List.mem_cons.mp hk).resolve_left (by rintro rfl; exact hg hkh)
      obtain ⟨k', hk', hfind⟩ := ih ⟨k, hk', hkh⟩
      exact ⟨k', hk', by simp [hg, hn, hfind]⟩

/-- A frame put in its place, and found there by its handle. -/
theorem putFrame_find {p : OutFrame → Bool} (hp : p f = true) (hn : ∀ g, g.handle ≠ f.handle → p g = false)
    (hmem : ∃ g ∈ s.link.frames, g.handle = f.handle) : (s.putFrame f).link.frames.find? p = some f := by
  obtain ⟨_, _, hfind⟩ := find_replaced (upd := fun _ => f) (fun _ _ => hp) hn hmem
  exact hfind

theorem handle_ne {g : OutFrame} (hg : g.handle ≠ h) : (g.handle == h) = false := by simpa using hg

theorem putFrame_stage (hmem : ∃ g ∈ s.link.frames, g.handle = f.handle) :
    ((s.putFrame f).link.frames.find? fun g => g.handle == f.handle).map (·.stage) = some f.stage := by
  rw [putFrame_find (by simp) (fun g hg => handle_ne hg) hmem]
  rfl

/-- A frame put keeps every handle in hand. -/
theorem putFrame_mem (h : Nat) (hmem : ∃ g ∈ s.link.frames, g.handle = h) : ∃ g ∈ (s.putFrame f).link.frames, g.handle = h := by
  obtain ⟨g, hg, hh⟩ := hmem
  refine ⟨_, List.mem_map_of_mem hg, ?_⟩
  split
  next heq => exact heq.symm.trans hh
  next => exact hh

theorem endFrame_stage (status : Nat) (hmem : ∃ g ∈ s.link.frames, g.handle = h) :
    ((s.endFrame h status).link.frames.find? fun g => g.handle == h).map (·.stage) = some .ended := by
  obtain ⟨_, _, hfind⟩ := find_replaced (upd := fun g => { g with stage := .ended, status := status }) (p := fun g => g.handle == h)
    (fun g hg => by simp [hg]) (fun g hg => handle_ne hg) hmem
  exact congrArg (Option.map OutFrame.stage) hfind

@[simp] theorem putFrame_nat (f : OutFrame) (s : State) (k : Nat) : (s.putFrame f).nat k = s.nat k := rfl

@[simp] theorem endFrame_nat (h status : Nat) (s : State) (k : Nat) : (s.endFrame h status).nat k = s.nat k := rfl

@[simp] theorem setEntry_nat (n : Nat) (e : Option LaunchEntry) (s : State) (k : Nat) : (s.setEntry n e).nat k = s.nat k := rfl

/-! ### Frames received -/

theorem takeReception_frames (s : State) : s.takeReception.link.frames = s.link.frames := rfl

theorem takeReception_nat (s : State) (k : Nat) : s.takeReception.nat k = s.nat k := rfl

theorem oweAck_keeps_nat (c : FrameCopy) (nack : Bool) (s : State) (k : Nat) : (s.oweAck c nack).nat k = s.nat k := by
  unfold State.oweAck
  split <;> rfl

theorem recordFrame_nat (f : MacFrame) (s : State) (k : Nat) : (s.recordFrame f).nat k = s.nat k :=
  recordFrame_keeps.nat k

theorem recordFrame_rx (f : MacFrame) (s : State) : (s.recordFrame f).mesh.rx = s.mesh.rx := by
  unfold State.recordFrame
  split
  · rfl
  · dsimp only
    split <;> rfl
  · rfl

theorem oweAck_mesh (c : FrameCopy) (nack : Bool) (s : State) : (s.oweAck c nack).mesh = s.mesh := by
  unfold State.oweAck
  split <;> rfl

/-- What the link does with a frame that it accepts (R306): the pending listen, the acknowledgement, the record, the queue. -/
def State.acceptFrame (c : FrameCopy) (lq : Nat) (s : State) : State :=
  let f := c.frame
  let s := if f.pending then s.listenOn c.last else s
  let s := s.oweAck c false
  let s := (s.recordFrame f).bump 0x602101
  { s with
    radio := { s.radio with judged := none }
    mesh := { s.mesh with rx := s.mesh.rx ++ [⟨f.src, f.level != 0, f.counter, c.sfd, c.last, lq, c.rssi, f.payload⟩] } }

theorem acceptFrame_rx (c : FrameCopy) (lq : Nat) (s : State) :
    (s.acceptFrame c lq).mesh.rx.length = s.mesh.rx.length + 1 ∧ (s.acceptFrame c lq).nat 0x602101 = satAdd 32 (s.nat 0x602101) 1 := by
  unfold State.acceptFrame
  extract_lets f s1 s2 s3
  have hrx1 : s1.mesh.rx = s.mesh.rx := by
    show (if f.pending then s.listenOn c.last else s).mesh.rx = _
    split <;> rfl
  have hnat1 (k : Nat) : s1.nat k = s.nat k := by
    show (if f.pending then s.listenOn c.last else s).nat k = _
    split <;> rfl
  have hrx3 : s3.mesh.rx = s.mesh.rx := by
    show ((s2.recordFrame f).bump 0x602101).mesh.rx = _
    rw [bump_mesh, recordFrame_rx, oweAck_mesh, hrx1]
  have hnat3 : s3.nat 0x602101 = satAdd 32 (s.nat 0x602101) 1 := by
    show ((s2.recordFrame f).bump 0x602101).nat 0x602101 = _
    rw [bump_nat, if_pos rfl, recordFrame_nat, oweAck_keeps_nat, hnat1]
  clear_value s3
  exact ⟨by simp [hrx3], hnat3⟩

/-- The link quality of the selected frame (R294). -/
def State.receptionLq (c : FrameCopy) (s : State) : Nat :=
  match s.link.receptions.find? fun r => !r.taken && r.chosen.isSome with
  | some r => r.lq
  | none => c.lq

theorem linkFrameReceive_gives {c : FrameCopy} (hnext : s.nextReception = some c) (hup : s.meshUp = true) (hack : s.link.ack = none)
    (hanswers : s.ackedFrame c = none) (hfilter : s.filter c.frame = true) (hsecure : s.secure c = true)
    (hnew : s.duplicate c.frame = false) (hreplay : s.replay c.frame = false) (hroom : s.mesh.rx.length < 16) :
    Gives .linkFrameReceive s fun t => t.mesh.rx.length = s.mesh.rx.length + 1 ∧ t.nat 0x602101 = satAdd 32 (s.nat 0x602101) 1 := by
  have hexec : exec .linkFrameReceive s = .next (s.takeReception.acceptFrame c (s.receptionLq c)) := by
    show execLinkFrameReceive s = _
    have hserves : ¬(!s.meshUp || s.link.ack.isSome || (s.ackedFrame c).isSome) = true := by simp [hup, hack, hanswers]
    unfold execLinkFrameReceive
    rw [hnext]
    dsimp -zeta only
    rw [if_neg hserves]
    extract_lets lq u f v _ _ _ _
    have hfilter' : u.filter f = true := hfilter
    have hsecure' : u.secure c = true := hsecure
    have hnew' : u.duplicate f = false := hnew
    have hreplay' : u.replay f = false := hreplay
    rw [hfilter', hsecure', hnew', hreplay', if_neg (by decide), if_neg (by decide), if_neg (by decide), if_neg (by decide)]
    have hroom' : ¬16 ≤ v.mesh.rx.length := by
      have hrx : v.mesh.rx = s.mesh.rx := by
        show (if f.pending then u.listenOn c.last else u).mesh.rx = _
        split <;> rfl
      rw [hrx]
      omega
    rw [if_neg hroom']
    rfl
  exact gives_next hexec (acceptFrame_rx c _ _)

/-! ### Acknowledgements -/

theorem mem_of_find {p : OutFrame → Bool} (hfind : s.link.frames.find? p = some f) : ∃ g ∈ s.link.frames, g.handle = f.handle :=
  ⟨f, List.mem_of_find?_eq_some hfind, rfl⟩

theorem listenOn_frames (last : Nat) (s : State) : (s.listenOn last).link.frames = s.link.frames := rfl

/-- What an acknowledgement says of the frame that it ends (R307, R309). -/
def OutFrame.acked (c : FrameCopy) (lq : Nat) (g : OutFrame) : OutFrame :=
  { g with
    stage := .ended, status := if bitOf c.frame.correction 15 then 2 else 0
    flags := putBit g.flags 1 c.frame.pending, correction := correctionOf c.frame.correction, lq := lq }

/-- The frames of a handle ended by an acknowledgement (R307). -/
def State.endAcked (h : Nat) (c : FrameCopy) (lq : Nat) (s : State) : State :=
  { s with link := { s.link with frames := s.link.frames.map fun g => if g.handle = h then OutFrame.acked c lq g else g } }

theorem endAcked_stage {c : FrameCopy} {lq : Nat} (hmem : ∃ g ∈ s.link.frames, g.handle = h) :
    ((s.endAcked h c lq).link.frames.find? fun g => g.handle == h).map (·.stage) = some .ended := by
  obtain ⟨_, _, hfind⟩ := find_replaced (upd := OutFrame.acked c lq) (p := fun g => g.handle == h)
    (fun g hg => by simp [OutFrame.acked, hg]) (fun g hg => handle_ne hg) hmem
  exact congrArg (Option.map OutFrame.stage) hfind

/-- The frames of a handle that go again (R313). -/
def State.retryFrame (h : Nat) (s : State) : State :=
  { s with link := { s.link with frames := s.link.frames.map fun g => if g.handle = h then { g with stage := .retry } else g } }

theorem retryFrame_stage (hmem : ∃ g ∈ s.link.frames, g.handle = h) :
    ((s.retryFrame h).link.frames.find? fun g => g.handle == h).map (·.stage) = some .retry := by
  obtain ⟨_, _, hfind⟩ := find_replaced (upd := fun g => { g with stage := .retry }) (p := fun g => g.handle == h)
    (fun g hg => by simp [hg]) (fun g hg => handle_ne hg) hmem
  exact congrArg (Option.map OutFrame.stage) hfind

theorem ackReceive_gives {c : FrameCopy} (hnext : s.nextReception = some c) (hanswers : s.ackedFrame c = some f) (hup : s.meshUp = true) :
    Gives .ackReceive s fun t => t.nat 0x60210A = satAdd 32 (s.nat 0x60210A) 1 ∧
      (t.link.frames.find? fun g => g.handle == f.handle).map (·.stage) = some .ended := by
  have hmem : ∃ g ∈ s.link.frames, g.handle = f.handle := by
    unfold State.ackedFrame at hanswers
    split at hanswers
    · exact mem_of_find hanswers
    · cases hanswers
  have hexec : ∃ u : State, u.link.frames = s.link.frames ∧ u.nat 0x60210A = satAdd 32 (s.nat 0x60210A) 1 ∧
      exec .ackReceive s = .next (u.endAcked f.handle c (s.receptionLq c)) := by
    have hserves : ¬(!s.meshUp) = true := by simp [hup]
    show ∃ u : State, _ ∧ _ ∧ execAckReceive s = _
    unfold execAckReceive
    rw [hnext]
    dsimp -zeta only
    rw [hanswers]
    dsimp -zeta only
    rw [if_neg hserves]
    extract_lets lq u v
    refine ⟨v, ?_, ?_, rfl⟩
    · show (if c.frame.pending then u.listenOn c.last else u).link.frames = _
      split <;> rfl
    · have hu : u.nat 0x60210A = satAdd 32 (s.nat 0x60210A) 1 := bump_nat 0x60210A s.takeReception 0x60210A
      show (if c.frame.pending then u.listenOn c.last else u).nat 0x60210A = _
      split <;> exact hu
  obtain ⟨u, hframes, hcount, hexec⟩ := hexec
  rw [← hframes] at hmem
  exact gives_next hexec ⟨hcount, endAcked_stage hmem⟩

theorem ackWaitExpiry_gives (hfind : (s.link.frames.find? fun f => f.handle == h && f.stage == .sent && f.ar) = some f)
    (hup : s.meshUp = true) (hquiet : s.link.receptions = []) (hends : f.wait ≤ s.gnomon) :
    Gives (.ackWaitExpiry h) s fun t => t.nat 0x60210B = satAdd 32 (s.nat 0x60210B) 1 ∧
      (t.link.frames.find? fun g => g.handle == h).map (·.stage)
        = some (if f.at_.isNone ∧ f.tries ≤ s.nat 0x60200C then .retry else .ended) := by
  have hh : f.handle = h := by
    have := List.find?_some hfind
    simp only [Bool.and_eq_true, beq_iff_eq] at this
    exact this.1.1
  have hmem : ∃ g ∈ (s.bump 0x60210B).link.frames, g.handle = h := ⟨f, List.mem_of_find?_eq_some hfind, hh⟩
  have hserves : ¬(!s.meshUp || decide (s.gnomon < f.wait)) = true := by
    simp [hup]
    omega
  have hexec : exec (.ackWaitExpiry h) s = .next (if f.at_.isNone ∧ f.tries ≤ (s.bump 0x60210B).nat 0x60200C then
      (s.bump 0x60210B).retryFrame h else (s.bump 0x60210B).endFrame h 1) := by
    show execAckWaitExpiry h s = _
    unfold execAckWaitExpiry
    rw [hfind]
    dsimp -zeta only
    rw [hquiet]
    exact congrArg _ (if_neg hserves)
  rw [show (s.bump 0x60210B).nat 0x60200C = s.nat 0x60200C by simp] at hexec
  refine gives_next hexec ?_
  by_cases hretry : f.at_.isNone ∧ f.tries ≤ s.nat 0x60200C
  · rw [if_pos hretry, if_pos hretry]
    exact ⟨bump_nat 0x60210B s 0x60210B, retryFrame_stage hmem⟩
  · rw [if_neg hretry, if_neg hretry]
    exact ⟨bump_nat 0x60210B s 0x60210B, endFrame_stage 1 hmem⟩

/-! ### Frames sent -/

@[simp] theorem enrol_nat (channel airtime : Nat) (isAck : Bool) (s : State) (k : Nat) :
    (s.enrol channel airtime isAck).2.nat k = s.nat k := enrol_keeps.nat k

/-- Admission touches the accounts alone (R317). -/
theorem enrol_link (channel airtime : Nat) (isAck : Bool) (s : State) :
    ∃ dwell duty, (s.enrol channel airtime isAck).2.link = { s.link with dwell := dwell, duty := duty } := by
  unfold State.enrol
  extract_lets width window dwell duty sb part ld lu u
  split
  · exact ⟨_, _, rfl⟩
  · split <;> exact ⟨_, _, rfl⟩

@[simp] theorem enrol_frames (channel airtime : Nat) (isAck : Bool) (s : State) :
    (s.enrol channel airtime isAck).2.link.frames = s.link.frames := by
  obtain ⟨_, _, hlink⟩ := enrol_link channel airtime isAck s
  rw [hlink]

@[simp] theorem enrol_dsn (channel airtime : Nat) (isAck : Bool) (s : State) :
    (s.enrol channel airtime isAck).2.link.dsn = s.link.dsn := by
  obtain ⟨_, _, hlink⟩ := enrol_link channel airtime isAck s
  rw [hlink]

@[simp] theorem fresh_frames (m : Nat) (s : State) : (s.fresh m).2.link = s.link := rfl

/-- A try that has power and is admitted waits for its first backoff (R312, R317). -/
theorem beginTry_backoff (hpower : (s.txPower (s.channelHz f.channel) 79).isSome = true)
    (hadmit : (s.enrol f.channel (s.airtime f) false).1 = 0) (hmem : ∃ g ∈ s.link.frames, g.handle = f.handle) :
    ((s.beginTry f).link.frames.find? fun g => g.handle == f.handle).map (·.stage) = some .backoff ∧
      (s.beginTry f).link.dsn = s.link.dsn ∧ ∀ k, (s.beginTry f).nat k = s.nat k := by
  obtain ⟨p, hp⟩ := Option.isSome_iff_exists.mp hpower
  unfold State.beginTry
  rw [hp]
  dsimp -zeta only
  rw [if_neg (not_not.mpr hadmit)]
  extract_lets u be r
  have hu : u.link.frames = s.link.frames ∧ u.link.dsn = s.link.dsn ∧ ∀ k, u.nat k = s.nat k :=
    ⟨enrol_frames _ _ _ s, enrol_dsn _ _ _ s, enrol_nat _ _ _ s⟩
  obtain ⟨hframes, hdsn, hnat⟩ := hu
  have hmem' : ∃ g ∈ r.2.link.frames, g.handle = f.handle := by
    show ∃ g ∈ u.link.frames, _
    rwa [hframes]
  exact ⟨putFrame_stage (f := { f with stage := .backoff, nb := 0, be := be, left := r.1 * 49152 }) hmem', hdsn, hnat⟩

/-! A number and a DSN change nothing that power, admission and airtime rest on. -/

theorem capRow_of_committed (h : t.committed = s.committed) (hz : Nat) : t.capRow hz = s.capRow hz := by
  unfold State.capRow State.halfWidth State.meshRate
  rw [cnat_of_committed h, cnat_of_committed h]

theorem channelHz_of_committed (h : t.committed = s.committed) (n : Nat) : t.channelHz n = s.channelHz n := by
  unfold State.channelHz
  rw [cnat_of_committed h]

theorem regulatory_of_committed (h : t.committed = s.committed) (n : Nat) : t.regulatory n = s.regulatory n := by
  unfold State.regulatory
  rw [cnat_of_committed h]

theorem octet_of_committed (h : t.committed = s.committed) : t.octet = s.octet := by
  unfold State.octet State.meshRate
  rw [cnat_of_committed h]

theorem frameOctets_of_committed (h : t.committed = s.committed) (a b : Nat) : t.frameOctets a b = s.frameOctets a b := by
  unfold State.frameOctets
  rw [cnat_of_committed h]

theorem airtime_of_committed (h : t.committed = s.committed) (f : OutFrame) : t.airtime f = s.airtime f := by
  unfold State.airtime State.wakeFrameTicks State.psdu
  rw [octet_of_committed h, cnat_of_committed h, frameOctets_of_committed h, frameOctets_of_committed h]

/-- States that agree on all that a try rests on: they differ in the link's counters and its numbers alone. -/
structure SameSettings (s t : State) : Prop where
  committed : t.committed = s.committed
  gnomon : t.gnomon = s.gnomon
  accounts : t.link.dwell = s.link.dwell ∧ t.link.duty = s.link.duty
  val : ∀ k, k / 256 ≠ 0x6021 → k / 256 ≠ 0x6024 → t.val k = s.val k

theorem SameSettings.supplyIndex (h : SameSettings s t) (hz : Nat) : t.supplyIndex hz = s.supplyIndex hz := by
  unfold State.supplyIndex
  extract_lets base
  have hbase : base = 0x6003 ∨ base = 0x6004 := by
    show (if hz < 600000000 then 0x6003 else 0x6004) = 0x6003 ∨ (if hz < 600000000 then 0x6003 else 0x6004) = 0x6004
    split
    · exact .inl rfl
    · exact .inr rfl
  have htable : ∀ i ∈ List.range 80, t.nat (obj base (i + 1)) = s.nat (obj base (i + 1)) := by
    intro i hi
    have hi := List.mem_range.mp hi
    refine nat_of_val (h.val _ ?_ ?_) <;> unfold obj <;> omega
  refine congrArg List.getLast? (List.filter_congr fun i hi => ?_)
  rw [htable i hi, nat_of_val (h.val 0x700106 (by decide) (by decide))]

theorem SameSettings.txPower (h : SameSettings s t) (hz request : Nat) : t.txPower hz request = s.txPower hz request := by
  unfold State.txPower
  rw [capRow_of_committed h.committed, h.supplyIndex, num_of_val_eq (h.val 0x600008 (by decide) (by decide)),
    nat_of_val (h.val 0x600009 (by decide) (by decide))]

/-- The code of an admission (R317). -/
def State.admission (channel airtime : Nat) (isAck : Bool) (s : State) : Nat :=
  let width := s.dwellBucket
  let window := 64 * width
  let sb := match s.capRow (s.channelHz channel) with
    | some r => r.1
    | none => 0
  let part := if isAck then 100 else 100 - s.cnat 0x60200F
  if s.regulatory 2 ∧ s.cnat 0x60200E * msTicks * part <
      100 * (accountUsed (expireAccount s.link.dwell width window s.gnomon) channel width window s.gnomon + airtime) then 6
  else if s.regulatory 1 ∧ s.cnat (0x602201 + sb) * 55296000 * part <
      100 * (accountUsed (expireAccount s.link.duty dutyBucket (60 * dutyBucket) s.gnomon) sb dutyBucket (60 * dutyBucket) s.gnomon + airtime)
    then 7 else 0

theorem enrol_admission (channel airtime : Nat) (isAck : Bool) (s : State) :
    (s.enrol channel airtime isAck).1 = s.admission channel airtime isAck := by
  unfold State.enrol State.admission
  extract_lets width window dwell duty sb part ld lu _ u
  have hreg : u.regulatory = s.regulatory := rfl
  rw [hreg, apply_ite Prod.fst, apply_ite Prod.fst] <;> rfl

theorem SameSettings.admission (h : SameSettings s t) (channel airtime : Nat) (isAck : Bool) :
    t.admission channel airtime isAck = s.admission channel airtime isAck := by
  have hwidth : t.dwellBucket = s.dwellBucket := by
    unfold State.dwellBucket
    rw [nat_of_val (h.val 0x60200D (by decide) (by decide))]
  obtain ⟨hdwell, hduty⟩ := h.accounts
  unfold State.admission
  rw [hwidth, hdwell, hduty, h.gnomon, channelHz_of_committed h.committed, capRow_of_committed h.committed, cnat_of_committed h.committed,
    regulatory_of_committed h.committed, regulatory_of_committed h.committed]
  simp only [cnat_of_committed h.committed]

/-- A try that is admitted in one state begins in any that agrees with it on power and accounts. -/
theorem SameSettings.beginTry_backoff {g : OutFrame} (h : SameSettings s t) (hsize : t.airtime g = s.airtime f) (hchannel : g.channel = f.channel)
    (hpower : (s.txPower (s.channelHz f.channel) 79).isSome = true) (hadmit : (s.enrol f.channel (s.airtime f) false).1 = 0)
    (hmem : ∃ k ∈ t.link.frames, k.handle = g.handle) :
    ((t.beginTry g).link.frames.find? fun k => k.handle == g.handle).map (·.stage) = some .backoff ∧
      (t.beginTry g).link.dsn = t.link.dsn ∧ ∀ k, (t.beginTry g).nat k = t.nat k := by
  rw [enrol_admission] at hadmit
  refine Machine.beginTry_backoff ?_ ?_ hmem
  · rwa [hchannel, channelHz_of_committed h.committed, h.txPower]
  · rwa [enrol_admission, hsize, hchannel, h.admission]

theorem number_settings (f : OutFrame) (s : State) : SameSettings s ((s.number f).2.putFrame (s.number f).1) := by
  have hkeeps : s.Keeps [.dict, .link] (s.number f).2 := number_keeps
  refine ⟨hkeeps.same .committed (by decide), hkeeps.same .gnomon (by decide), ?_, ?_⟩
  · unfold State.number
    dsimp only
    split <;> exact ⟨rfl, rfl⟩
  · intro k _ hk
    show (s.number f).2.val k = s.val k
    unfold State.number
    dsimp only
    split
    · rw [setNat_val, if_neg (by rintro rfl; exact hk (by decide))]
      rfl
    · rfl

theorem number_dsn (f : OutFrame) (s : State) : (s.number f).2.link.dsn = (s.link.dsn + 1) % 256 := by
  unfold State.number
  dsimp only
  split <;> rfl

theorem number_frames (f : OutFrame) (s : State) : (s.number f).2.link.frames = s.link.frames := by
  unfold State.number
  dsimp only
  split <;> rfl

theorem immediateFrame_gives (hfind : (s.link.frames.find? fun f => f.stage == .queued && f.at_.isNone) = some f) (hup : s.meshUp = true)
    (hfree : s.immediateFree = true) (hsecurable : (f.secured && !s.canSecure) = false) (htest : s.radio.test = none)
    (hpower : (s.txPower (s.channelHz f.channel) 79).isSome = true) (hadmit : (s.enrol f.channel (s.airtime f) false).1 = 0) :
    Gives .immediateFrame s fun t => t.link.dsn = (s.link.dsn + 1) % 256 ∧
      (t.link.frames.find? fun g => g.handle == f.handle).map (·.stage) = some .backoff := by
  have hserves : ¬(!s.meshUp || !s.immediateFree || (f.secured && !s.canSecure) || s.radio.test.isSome) = true := by
    simp [hup, hfree, hsecurable, htest]
  have hexec : exec .immediateFrame s = .next (((s.number f).2.putFrame (s.number f).1).beginTry (s.number f).1) := by
    show execImmediateFrame s = _
    unfold execImmediateFrame
    rw [hfind]
    exact congrArg _ (if_neg hserves)
  have hmem : ∃ k ∈ ((s.number f).2.putFrame (s.number f).1).link.frames, k.handle = f.handle := by
    refine putFrame_mem f.handle ?_
    rw [number_frames]
    exact mem_of_find hfind
  have hsame := number_settings f s
  obtain ⟨hstage, hdsn, _⟩ := hsame.beginTry_backoff (g := (s.number f).1) (f := f) (airtime_of_committed hsame.committed f) rfl hpower hadmit hmem
  exact gives_next hexec ⟨hdsn.trans (number_dsn f s), hstage⟩

theorem frameAt_handle {st : TxStage} (hframe : s.frameAt h st = some f) : f.handle = h ∧ f.stage = st := by
  simpa using List.find?_some hframe

theorem frameRetry_gives (hframe : s.frameAt h .retry = some f) (hup : s.meshUp = true)
    (hpower : (s.txPower (s.channelHz f.channel) 79).isSome = true) (hadmit : (s.enrol f.channel (s.airtime f) false).1 = 0) :
    Gives (.frameRetry h) s fun t => t.nat 0x60210C = satAdd 32 (s.nat 0x60210C) 1 ∧
      (t.link.frames.find? fun g => g.handle == h).map (·.stage) = some .backoff := by
  obtain ⟨rfl, _⟩ := frameAt_handle hframe
  have hexec : exec (.frameRetry f.handle) s = .next ((s.bump 0x60210C).beginTry f) := by
    show execFrameRetry f.handle s = _
    unfold execFrameRetry
    rw [hframe]
    exact congrArg _ (if_pos hup)
  have hsame : SameSettings s (s.bump 0x60210C) :=
    ⟨rfl, rfl, ⟨rfl, rfl⟩, fun k hk _ => bump_val_other s (by rintro rfl; exact hk (by decide))⟩
  obtain ⟨hstage, _, hnat⟩ := hsame.beginTry_backoff (g := f) (f := f) rfl rfl hpower hadmit (mem_of_find hframe)
  refine gives_next hexec ⟨?_, hstage⟩
  rw [hnat, bump_nat, if_pos rfl]

theorem backoffExpiry_gives (hframe : s.frameAt h .backoff = some f) (hup : s.meshUp = true) (hleft : f.left = 0)
    (hstate : s.radioState = 3) (harrived : s.arrived = true) (hchannel : s.nat 0x600102 = s.channelHz f.channel)
    (hruns : s.backoffRuns = true) (hcalib : s.radio.calib = none) (hreach : s.reachesScheduled f = false) :
    Gives (.backoffExpiry h) s fun t => (t.frameAt h .cca).map (·.wait) = some s.gnomon := by
  obtain ⟨rfl, _⟩ := frameAt_handle hframe
  have hexec : exec (.backoffExpiry f.handle) s = .next (s.putFrame { f with stage := .cca, wait := s.gnomon }) := by
    show execBackoffExpiry f.handle s = _
    unfold execBackoffExpiry
    rw [hframe]
    exact congrArg _ (if_pos (by simp [hup, hleft, hstate, harrived, hchannel, hruns, hcalib, hreach]))
  refine gives_next hexec ?_
  have hmem : ∃ g ∈ s.link.frames, g.handle = f.handle := mem_of_find hframe
  have hfind := putFrame_find (s := s) (f := { f with stage := .cca, wait := s.gnomon })
    (p := fun g => g.handle == f.handle && g.stage == .cca) (by simp) (fun g hg => by simp [handle_ne hg]) hmem
  exact congrArg (Option.map OutFrame.wait) hfind

/-! ### The radio in transmission -/

@[simp] theorem setRadio_val (new : Nat) (s : State) (k : Nat) :
    (s.setRadio new).val k = if k = 0x600101 then .num new else s.val k := setNat_val _ _ _ _

@[simp] theorem moveRadio_val (new : Nat) (same : Bool) (s : State) (k : Nat) :
    (s.moveRadio new same).val k = if k = 0x600101 then .num new else s.val k := setRadio_val new s k

@[simp] theorem moveRadio_nat (new : Nat) (same : Bool) (s : State) (k : Nat) :
    (s.moveRadio new same).nat k = if k = 0x600101 then new else s.nat k := setNat_nat _ _ _ _

/-- A frame on the air is counted, with the wake frames before it, and the radio stays in its state (R285). -/
theorem sendFrame_counts (f : OutFrame) (at_ : Nat) (s : State) : (s.sendFrame f at_).nat 0x600101 = s.nat 0x600101 ∧
    (s.sendFrame f at_).nat 0x600105 = satAdd 32 (s.nat 0x600105) (f.train + 1) := by
  unfold State.sendFrame
  extract_lets last hz p _ s1 s2 s3 wait
  have hcount (k : Nat) (hk : k ≠ 0x602109) : s3.nat k = s2.nat k := by
    show (if f.ar then s2.bump 0x602109 else s2).nat k = _
    split
    · rw [bump_nat, if_neg hk]
    · rfl
  have hother (k : Nat) (h2 : k ≠ 0x600102) (h3 : k ≠ 0x600103) (h4 : k ≠ 0x600104) :
      (s1.setAll [(0x600102, (hz : Int)), (0x600103, (p.1 : Int)), (0x600104, (p.2 : Int))]).nat k = s.nat k := by
    simp only [State.setAll]
    rw [setNum_nat, if_neg h4, setNum_nat, if_neg h3, setNum_nat, if_neg h2]
    rfl
  refine ⟨?_, ?_⟩
  · rw [putFrame_nat, hcount _ (by decide), bumpBy_nat, if_neg (by decide), hother _ (by decide) (by decide) (by decide)]
  · rw [putFrame_nat, hcount _ (by decide), bumpBy_nat, if_pos rfl, hother _ (by decide) (by decide) (by decide)]

theorem ccaEnd_gives {rssi : Int} {pre : Bool} (hframe : s.frameAt h .cca = some f) (hup : s.meshUp = true) (hdone : f.wait + s.tcca ≤ s.gnomon)
    (hclear : s.ccaBusy f.wait rssi pre = false) (hstate : s.radioState = 3) (harrived : s.arrived = true) (hcalib : s.radio.calib = none) :
    Gives (.ccaEnd h rssi pre) s fun t => t.radioState = 4 ∧ t.nat 0x600105 = satAdd 32 (s.nat 0x600105) (f.train + 1) := by
  have hdue : ¬(!s.meshUp || decide (s.gnomon < f.wait + s.tcca)) = true := by
    simp [hup]
    omega
  have hgoes : (!s.ccaBusy f.wait rssi pre && s.radioState == 3 && s.arrived && s.radio.calib.isNone) = true := by
    simp [hclear, hstate, harrived, hcalib]
  have hexec : exec (.ccaEnd h rssi pre) s = .next ((s.moveRadio 4 true).sendFrame f (s.gnomon + 7373)) := by
    show execCcaEnd h rssi pre s = _
    unfold execCcaEnd
    rw [hframe]
    exact congrArg _ ((if_neg hdue).trans (if_pos hgoes))
  obtain ⟨hradio, hcount⟩ := sendFrame_counts f (s.gnomon + 7373) (s.moveRadio 4 true)
  refine gives_next hexec ⟨?_, ?_⟩
  · rw [State.radioState, hradio, moveRadio_nat, if_pos rfl]
  · rw [hcount, moveRadio_nat, if_neg (by decide)]

/-! ### Scheduled frames -/

/-- An entry placed is in the launch table, with its kind; the link stays. -/
theorem placeEntry_placed (n kind target owner lead instant : Nat) (param : Bytes) (s : State) :
    ((s.placeEntry n kind target owner lead instant param).entry n).map (·.kind) = some kind ∧
      (s.placeEntry n kind target owner lead instant param).link = s.link := by
  unfold State.placeEntry
  extract_lets t e u
  have hu : (u.entry n).map (·.kind) = some kind ∧ u.link = s.link := by
    refine ⟨?_, rfl⟩
    rw [show u.entry n = some e from (setEntry_entry n (some e) s n).trans (if_pos rfl)]
    rfl
  split
  · rw [entry_of_launch (raise_launch _ _ _ _ _), raise_keeps.same .link (by decide)]
    exact hu
  · exact hu

theorem scheduledFrame_gives (hfind : (s.link.frames.find? fun f => f.stage == .queued && f.at_.isSome) = some f) (hup : s.meshUp = true)
    (hsecurable : (f.secured && !s.canSecure) = false) (hpower : (s.txPower (s.channelHz f.channel) 79).isSome = true)
    (hfree : s.entryFor true = some n) :
    Gives .scheduledFrame s fun t => (t.entry n).map (·.kind) = some 8 ∧
      (t.link.frames.find? fun g => g.handle == f.handle).map (·.stage) = some .armed := by
  have hserves : ¬(!s.meshUp || (f.secured && !s.canSecure)) = true := by simp [hup, hsecurable]
  have hpowered : ¬(s.txPower (s.channelHz f.channel) 79).isNone = true := by simpa [Option.isNone_iff_eq_none, ← Option.isSome_iff_ne_none] using hpower
  have hexec : exec .scheduledFrame s = .next (((s.number f).2.putFrame { (s.number f).1 with stage := .armed }).placeEntry n 8 0 2 12288
      (f.at_.getD 0) (leNat 2 f.handle)) := by
    show execScheduledFrame s = _
    unfold execScheduledFrame
    rw [hfind]
    dsimp -zeta only
    rw [if_neg hserves]
    extract_lets i
    rw [if_neg hpowered, hfree]
  obtain ⟨hentry, hlink⟩ := placeEntry_placed n 8 0 2 12288 (f.at_.getD 0) (leNat 2 f.handle)
    ((s.number f).2.putFrame { (s.number f).1 with stage := .armed })
  refine gives_next hexec ⟨hentry, ?_⟩
  have hmem : ∃ k ∈ (s.number f).2.link.frames, k.handle = f.handle := by
    rw [number_frames]
    exact mem_of_find hfind
  rw [hlink]
  exact putFrame_stage (f := { (s.number f).1 with stage := .armed }) hmem

theorem afterFiring_nat (n : Nat) (e : LaunchEntry) (s : State) (k : Nat) : (s.afterFiring n e).nat k = s.nat k := afterFiring_keeps.nat k

theorem meshTx_gives {e : LaunchEntry} (hdue : s.dueEntry n [8] = some e) (hack : s.link.ack = none) (hair : s.onAir = false)
    (hfind : (s.link.frames.find? fun f => f.handle == fieldLe e.param 0 2 && (f.stage == .clear || f.stage == .armed)) = some f)
    (hclear : f.stage = .clear) (hstate : s.radioState = 4) (harrived : s.arrived = true) (hup : s.meshUp = true)
    (hintime : s.gnomon ≤ f.at_.getD 0 + s.nat 0x60000A) :
    Gives (.meshTx n) s fun t => t.radioState = 4 ∧ t.nat 0x600105 = satAdd 32 (s.nat 0x600105) (f.train + 1) := by
  have hwaits : ¬(s.link.ack.isSome || s.onAir) = true := by simp [hack, hair]
  have hdown : ¬(!s.meshUp) = true := by simp [hup]
  have hexec : exec (.meshTx n) s = .next ((s.sendFrame f s.gnomon).afterFiring n e) := by
    have hlate : decide (f.at_.getD 0 + s.nat 0x60000A < s.gnomon) = false := by
      simp
      omega
    show execMeshTx n s = _
    unfold execMeshTx
    rw [hdue]
    dsimp -zeta only
    extract_lets handle
    rw [if_neg hwaits, hfind]
    dsimp -zeta only
    rw [if_neg hdown, hlate]
    dsimp only
    rw [if_neg (by simp), if_neg (by simp [hclear, hstate, harrived])]
    rfl
  obtain ⟨hradio, hcount⟩ := sendFrame_counts f s.gnomon s
  refine gives_next hexec ⟨?_, ?_⟩
  · rw [State.radioState, afterFiring_nat, hradio]
    exact hstate
  · rw [afterFiring_nat, hcount]

theorem frameCounterRecord_gives (hbehind : s.flash.frameCounter ≤ s.nat 0x602401) :
    Gives .frameCounterRecord s fun t => t.flash.frameCounter = min 0xFFFFFFFF ((s.nat 0x602401 / 65536 + 1) * 65536) := by
  have hexec : exec .frameCounterRecord s = .next
      { s with flash := { s.flash with frameCounter := min 0xFFFFFFFF ((s.nat 0x602401 / 65536 + 1) * 65536) } } :=
    congrArg _ (if_pos hbehind)
  exact gives_next hexec rfl

/-- Settles O15, clause by clause. -/
theorem linkCompletes : Obligations.LinkCompletes := by
  unfold Obligations.LinkCompletes
  exact ⟨fun c s => linkFrameReceive_gives, fun c f s => ackReceive_gives, fun h f s => ackWaitExpiry_gives, fun f s => immediateFrame_gives,
    fun h f s => frameRetry_gives, fun h f s => backoffExpiry_gives, fun h rssi pre f s => ccaEnd_gives, fun f n s => scheduledFrame_gives,
    fun n e f s => meshTx_gives, fun s => frameCounterRecord_gives⟩

end Sys2Proof.Machine
end

section
/-!
PROOFS. Subindices that an operation spares: which keep their value from a state to another. The lemmas follow the shape of an operation
as those about `Keeps` do.
-/
namespace Sys2Proof.Machine

-- One proof after another keeps the memory of the whole text's compile low.
set_option Elab.async false

theorem obj_eq (i n : Nat) : obj i n = 256 * i + n := by
  unfold obj
  omega

theorem obj_ne {i m n : Nat} (h : m ≠ n) : obj i m ≠ obj i n := by
  unfold obj
  omega

/-- A subindex has the same value in two states. -/
def State.Spares (k : Nat) (s t : State) : Prop := t.val k = s.val k

namespace State.Spares
variable {F : List FieldName} {k j : Nat} {s t u : State}

theorem nat (h : s.Spares k t) : t.nat k = s.nat k := nat_of_val h

theorem refl : s.Spares k s := rfl

theorem trans (h : s.Spares k t) (g : t.Spares k u) : s.Spares k u := Eq.trans g h

/-- One more operation, after those before it. -/
theorem step (h : t.Spares k u) (g : s.Spares k t) : s.Spares k u := g.trans h

theorem ite {c : Prop} [Decidable c] (h : s.Spares k t) (g : s.Spares k u) : s.Spares k (if c then t else u) := by
  split <;> assumption

/-- An operation done on a condition, after those before it. -/
theorem iteThen {c : Prop} [Decidable c] (g : s.Spares k t) (h : t.Spares k u) : s.Spares k (if c then u else t) := .ite (g.trans h) g

/-- An operation done unless a condition holds, after those before it. -/
theorem iteElse {c : Prop} [Decidable c] (g : s.Spares k t) (h : t.Spares k u) : s.Spares k (if c then t else u) := .ite g (g.trans h)

/-- A choice between two answers that carry a state. -/
theorem iteFst {α : Type} {c : Prop} [Decidable c] {a b : State × α} (ha : s.Spares k a.1) (hb : s.Spares k b.1) :
    s.Spares k (if c then a else b).1 := by
  split <;> assumption

theorem foldl {α : Type} {f : State → α → State} {xs : List α} (hf : ∀ (t : State), ∀ x ∈ xs, t.Spares k (f t x)) (h : s.Spares k t) :
    s.Spares k (xs.foldl f t) := h.trans (foldl_val hf t)

/-- An operation that leaves the whole dictionary. -/
theorem keeps (h : s.Keeps F t) (hF : .dict ∉ F := by decide) : s.Spares k t := h.val k hF

theorem setNum {i : Int} (h : k ≠ j) : s.Spares k (s.setNum j i) := by
  rw [Spares, setNum_val, if_neg h]

theorem setNat {n : Nat} (h : k ≠ j) : s.Spares k (s.setNat j n) := setNum h

theorem setBytes {b : Bytes} (h : k ≠ j) : s.Spares k (s.setBytes j b) := by
  rw [Spares, setBytes_val, if_neg h]

theorem bumpBy {n : Nat} (h : k ≠ j) : s.Spares k (s.bumpBy j n) := bumpBy_val_other s n h

theorem bump (h : k ≠ j) : s.Spares k (s.bump j) := bumpBy h

theorem bump16 (h : k ≠ j) : s.Spares k (s.bump16 j) := setNat h

theorem issue {b : Bytes} (h : k ≠ j) : s.Spares k (s.issue j b) := issue_val_other b s h

theorem setAll {ps : List (Nat × Int)} (h : ∀ p ∈ ps, k ≠ p.1) : s.Spares k (s.setAll ps) := by
  induction ps generalizing s with
  | nil => exact .refl
  | cons p ps ih => exact (setNum (h p List.mem_cons_self)).trans (ih fun q hq => h q (List.mem_cons_of_mem p hq))

theorem raise {cls kind src : Nat} {fields : List (Nat × Int)} (h : k ∉ eventKeys) : s.Spares k (s.raise cls kind src fields) :=
  (raise_eventsOnly s cls kind src fields).2 k h

end State.Spares

end Sys2Proof.Machine
end

section
/-!
PROOFS. What the commands of the mesh core leave (R294, R307, R314, R319 to R342).
-/
namespace Sys2Proof.Machine

-- One proof after another keeps the memory of the whole text's compile low.
set_option Elab.async false

variable {r : Requester} {s t : State} {i j : Nat}

/-! ### The node table -/

theorem node_of_mesh (h : t.mesh = s.mesh) (j : Nat) : t.node j = s.node j := congrArg (fun m : Mesh => Map.get (fun _ => Node.init) m.nodes j) h

@[simp] theorem setNode_node (i : Nat) (n : Node) (s : State) (j : Nat) : (s.setNode i n).node j = if j = i then n else s.node j := by
  simp [State.setNode, State.node, map_get_put]

@[simp] theorem setNode_nat (i : Nat) (n : Node) (s : State) (k : Nat) : (s.setNode i n).nat k = s.nat k := rfl

@[simp] theorem setNode_link (i : Nat) (n : Node) (s : State) : (s.setNode i n).link = s.link := rfl

@[simp] theorem setNode_seq (i : Nat) (n : Node) (s : State) : (s.setNode i n).mesh.seq = s.mesh.seq := rfl

@[simp] theorem handVoussoir_node (f : OutFrame) (s : State) (j : Nat) : (s.handVoussoir f).node j = s.node j := rfl

@[simp] theorem handVoussoir_nat (f : OutFrame) (s : State) (k : Nat) : (s.handVoussoir f).nat k = s.nat k := rfl

theorem bump_node (k : Nat) (s : State) (j : Nat) : (s.bump k).node j = s.node j := rfl

theorem handVoussoir_frames (f : OutFrame) (s : State) :
    (s.handVoussoir f).link.frames = s.link.frames ++ [{ f with handle := s.link.nextHandle, stage := .queued }] := rfl

@[simp] theorem handVoussoir_count (f : OutFrame) (s : State) : (s.handVoussoir f).link.frames.length = s.link.frames.length + 1 := by
  simp [handVoussoir_frames]

@[simp] theorem handVoussoir_seq (f : OutFrame) (s : State) : (s.handVoussoir f).mesh.seq = (s.mesh.seq + 1) % 65536 := rfl

theorem handVoussoir_ack (f : OutFrame) (s : State) : (s.handVoussoir f).link.ack = s.link.ack := rfl

theorem handVoussoir_radio (f : OutFrame) (s : State) : (s.handVoussoir f).radio = s.radio := rfl

@[simp] theorem rememberNode_node (i : Nat) (s : State) (j : Nat) : (s.rememberNode i).node j = s.node j := rfl

@[simp] theorem mark_queue_length (h : Nat) (busy : Bool) (n : Node) : (n.mark h busy).queue.length = n.queue.length := by
  simp [Node.mark]

/-- What a node's next downlink, handed over, leaves of its entry: at most a mark (R327). -/
theorem pumpNode_node (i : Nat) (s : State) :
    (s.pumpNode i).node i = s.node i ∨ ∃ h, (s.pumpNode i).node i = (s.node i).mark h true := by
  unfold State.pumpNode
  extract_lets n
  split
  next d _ =>
    split
    · exact .inr ⟨d.handle, by simp [n]⟩
    · exact .inl rfl
  next => exact .inl rfl

theorem pumpNode_state (i : Nat) (s : State) : ((s.pumpNode i).node i).state = (s.node i).state := by
  rcases pumpNode_node i s with h | ⟨_, h⟩ <;> rw [h]
  rfl

theorem pumpNode_gateAt (i : Nat) (s : State) : ((s.pumpNode i).node i).gateAt = (s.node i).gateAt := by
  rcases pumpNode_node i s with h | ⟨_, h⟩ <;> rw [h]
  rfl

theorem pumpNode_queue (i : Nat) (s : State) : ((s.pumpNode i).node i).queue.length = (s.node i).queue.length := by
  rcases pumpNode_node i s with h | ⟨_, h⟩ <;> rw [h]
  exact mark_queue_length _ _ _

theorem pumpNode_handle (i : Nat) (s : State) : (s.pumpNode i).mesh.handle = s.mesh.handle := by
  unfold State.pumpNode
  extract_lets n
  split
  · split <;> rfl
  · rfl

/-- An entry freed is empty (R324). -/
theorem removeNode_node (h : (s.node i).state ≠ 0) : (s.removeNode i).node i = Node.init := by
  unfold State.removeNode
  rw [if_neg h]
  extract_lets s1 s2 k seq s3 s4
  clear_value s3
  exact (setNode_node i Node.init _ i).trans (if_pos rfl)

/-! ### Frames received and sent -/

theorem copySelectionEnd_dropped {sfd : Nat} {q : Reception} (hdrop : (copySelectionEnd sfd s).2 = some q) :
    (copySelectionEnd sfd s).1.nat 0x60010F = satAdd 32 (s.nat 0x60010F) 1 ∧ q ∉ (copySelectionEnd sfd s).1.link.receptions := by
  unfold copySelectionEnd at hdrop ⊢
  split at hdrop
  · cases hdrop
  next r _ =>
    dsimp only at hdrop ⊢
    split at hdrop
    · obtain rfl := Option.some.inj hdrop
      rw [if_pos ‹_›]
      exact ⟨bump_nat 0x60010F _ 0x60010F, by simp [bump_link]⟩
    · cases hdrop

/-- The shadow map of a lost frame's source takes an observation of 0 (R332). -/
def State.observeLost (q : Reception) (s : State) : State :=
  match q.copies.head? with
  | none => s
  | some c => match c.frame.src, s.nodeAt c.frame.src with
    | .short _, some i => s.setNode i ((s.node i).observe s.gnomon c.sfd 0)
    | _, _ => s

theorem observeLost_same (q : Reception) (s : State) : (s.observeLost q).link = s.link ∧ ∀ k, (s.observeLost q).nat k = s.nat k := by
  unfold State.observeLost
  split
  · exact ⟨rfl, fun _ => rfl⟩
  · split <;> exact ⟨rfl, fun _ => rfl⟩

theorem copySelectionEnd_gives {sfd : Nat} {q : Reception} (hdrop : (copySelectionEnd sfd s).2 = some q) :
    Gives (.copySelectionEnd sfd) s fun t => t.nat 0x60010F = satAdd 32 (s.nat 0x60010F) 1 ∧ q ∉ t.link.receptions := by
  have hexec : exec (.copySelectionEnd sfd) s = .next ((copySelectionEnd sfd s).1.observeLost q) := by
    show execCopySelectionEnd sfd s = _
    unfold execCopySelectionEnd
    dsimp only
    rw [hdrop]
    rfl
  obtain ⟨hcount, hgone⟩ := copySelectionEnd_dropped hdrop
  obtain ⟨hlink, hnat⟩ := observeLost_same q (copySelectionEnd sfd s).1
  refine gives_next hexec ⟨(hnat _).trans hcount, ?_⟩
  rwa [hlink]

/-- What an acknowledgement sent leaves (R307, R317): none owed, one counted, its octets on the air. -/
structure AckSent (s : State) (a : AckDue) (t : State) : Prop where
  paid : t.link.ack = none
  counted : t.nat 0x602106 = satAdd 32 (s.nat 0x602106) 1
  onAir : t.radio.air = [withFcs (s.cnat 0x600007) (ackOctets (s.cnat 0x602001) a.dsn a.dst a.pending a.nack a.correction)]

theorem ackSend_sent {a : AckDue} (hdue : s.link.ack = some a) (hup : s.radioUp = true) (hwhen : a.last + 153600 ≤ s.gnomon)
    (hair : s.onAir = false) (hstate : s.radioState = 4) (harrived : s.arrived = true)
    (hpower : (s.txPower (s.nat 0x600102) 79).isSome = true)
    (hadmit : (s.enrol (s.nearestChannel (s.nat 0x600102)) (s.ackTicks a.dst) true).1 = 0) :
    (ackSend s).2 = some a ∧ AckSent s a (ackSend s).1 := by
  obtain ⟨p, hp⟩ := Option.isSome_iff_exists.mp hpower
  have hserves : ¬(!s.radioUp || decide (s.gnomon < a.last + 153600) || s.onAir) = true := by
    simp [hup, hair]
    omega
  have hready : ¬(s.radioState ≠ 4 ∨ (!s.arrived) = true) := by simp [hstate, harrived]
  unfold ackSend
  rw [hdue]
  dsimp -zeta only
  rw [if_neg hserves]
  extract_lets hz ticks e withheld _ _ u psdu _ v
  rw [hp]
  dsimp -zeta only
  rw [if_neg (not_not.mpr hadmit), if_neg hready]
  have hcnat (k : Nat) : u.cnat k = s.cnat k := cnat_of_committed (enrol_keeps.same .committed (by decide)) k
  have hnat (k : Nat) : v.nat k = s.nat k := enrol_nat _ _ _ s k
  have hair' : v.radio.air = [psdu] := rfl
  have hpaid : v.link.ack = none := rfl
  have hpsdu : psdu = withFcs (s.cnat 0x600007) (ackOctets (s.cnat 0x602001) a.dsn a.dst a.pending a.nack a.correction) := by
    rw [← hcnat, ← hcnat]
  clear_value v psdu
  refine ⟨rfl, hpaid, ?_, hair'.trans (congrArg ([·]) hpsdu)⟩
  simp [State.setAll, hnat]

@[simp] theorem cancelFrames_nat (i : Nat) (s : State) (k : Nat) : (s.cancelFrames i).nat k = s.nat k := cancelFrames_keeps.nat k

theorem cancelFrames_ack (i : Nat) (s : State) : (s.cancelFrames i).link.ack = s.link.ack := by
  unfold State.cancelFrames
  extract_lets mine gone _ u v _
  have hkeeps : u.Keeps [.launch] v := .foldl (fun t n => by
    split
    · exact .ite (.step setEntry_keeps .refl) .refl
    · exact .refl) .refl
  have hlink : v.link = u.link := hkeeps.same .link (by decide)
  have hv : v.link.ack = s.link.ack := by rw [hlink]
  clear_value v
  split <;> exact hv

theorem cancelFrames_rx (i : Nat) (s : State) : (s.cancelFrames i).mesh.rx = s.mesh.rx := by
  unfold State.cancelFrames
  extract_lets mine gone _ u v _
  have hkeeps : u.Keeps [.launch] v := .foldl (fun t n => by
    split
    · exact .ite (.step setEntry_keeps .refl) .refl
    · exact .refl) .refl
  have hmesh : v.mesh = s.mesh := hkeeps.same .mesh (by decide)
  clear_value v
  split
  · rw [hmesh]
  · show v.mesh.rx = _
    rw [hmesh]

/-- What follows an acknowledgement (R309, R322, R330): a join response is timed, or a downlink of a sleepy node handed over. -/
def State.followAck (a : AckDue) (s : State) : State :=
  let sfd := s.radio.airUntil + 460800
  match a.dst, s.nodeAt a.dst with
  | .ext e, _ => { s with mesh := { s.mesh with joins := s.mesh.joins.map fun j =>
      if j.ext = e ∧ j.at_.isNone then { j with at_ := some sfd } else j } }
  | _, some i =>
    if (s.node i).role = 0 ∧ (s.node i).via = 0 ∧ a.pending then
      let s := s.cancelFrames i
      let n := s.node i
      match n.nextDownlink with
      | none => s
      | some d =>
        let pre := s.cnat 0x600006
        let f := freshFrame d.purpose i (.short n.short) (s.voussoir d.kind 0 n.short [] d.body)
        let f := { f with channel := s.homeChannel, preamble := pre, route := 1, at_ := some (sfd - pre * s.octet) }
        (s.setNode i (n.mark d.handle true)).handVoussoir f
    else s
  | _, none => s

theorem followAck_same (a : AckDue) (s : State) :
    (s.followAck a).link.ack = s.link.ack ∧ (∀ k, (s.followAck a).nat k = s.nat k) ∧ (s.followAck a).radio = s.radio := by
  unfold State.followAck
  extract_lets sfd
  split
  · exact ⟨rfl, fun _ => rfl, rfl⟩
  · split
    · extract_lets u n
      have hu : u.link.ack = s.link.ack ∧ (∀ k, u.nat k = s.nat k) ∧ u.radio = s.radio :=
        ⟨cancelFrames_ack _ s, cancelFrames_nat _ s, cancelFrames_keeps.same .radio (by decide)⟩
      clear_value u
      split
      · exact hu
      · exact ⟨(handVoussoir_ack _ _).trans hu.1, fun k => (handVoussoir_nat _ _ k).trans (hu.2.1 k), (handVoussoir_radio _ _).trans hu.2.2⟩
    · exact ⟨rfl, fun _ => rfl, rfl⟩
  · exact ⟨rfl, fun _ => rfl, rfl⟩

theorem ackSend_gives {a : AckDue} (hdue : s.link.ack = some a) (hup : s.radioUp = true) (hwhen : a.last + 153600 ≤ s.gnomon)
    (hair : s.onAir = false) (hstate : s.radioState = 4) (harrived : s.arrived = true)
    (hpower : (s.txPower (s.nat 0x600102) 79).isSome = true)
    (hadmit : (s.enrol (s.nearestChannel (s.nat 0x600102)) (s.ackTicks a.dst) true).1 = 0) :
    Gives .ackSend s fun t => t.link.ack = none ∧ t.nat 0x602106 = satAdd 32 (s.nat 0x602106) 1 ∧
      t.radio.air = [withFcs (s.cnat 0x600007) (ackOctets (s.cnat 0x602001) a.dsn a.dst a.pending a.nack a.correction)] := by
  obtain ⟨hsent, hack, hcount, hoctets⟩ := ackSend_sent hdue hup hwhen hair hstate harrived hpower hadmit
  obtain ⟨hack', hnat', hradio'⟩ := followAck_same a (ackSend s).1
  have hexec : exec .ackSend s = .next (if (ackSend s).1.nat 0x602106 = s.nat 0x602106 then (ackSend s).1 else (ackSend s).1.followAck a) := by
    show execAckSend s = _
    unfold execAckSend
    dsimp only
    rw [hsent]
    rfl
  refine gives_next hexec ?_
  split
  · exact ⟨hack, hcount, hoctets⟩
  · exact ⟨hack'.trans hack, (hnat' _).trans hcount, (congrArg Radio.air hradio').trans hoctets⟩

/-! ### Reports -/

/-- The state that a report finds: the frame is gone, its bytes are kept (R314). -/
def State.reportOf (f : OutFrame) (s : State) : State :=
  { s with link := { s.link with frames := s.link.frames.filter fun g => g.handle != f.handle, report := f.report } }

theorem exec_transmitReport {f : OutFrame} (hfind : (s.link.frames.find? fun f => f.stage == .ended && decide (f.last ≤ s.gnomon)) = some f)
    (hnode : 512 ≤ f.node) : exec .transmitReport s = .next (s.reportOf f) := by
  show execTransmitReport s = _
  unfold execTransmitReport
  rw [hfind]
  exact congrArg _ (if_pos (.inl hnode))

theorem transmitReport_drops {f : OutFrame} (hfind : (s.link.frames.find? fun f => f.stage == .ended && decide (f.last ≤ s.gnomon)) = some f)
    (hnode : 512 ≤ f.node) : Gives .transmitReport s fun t => t.link.frames = s.link.frames.filter fun g => g.handle != f.handle :=
  gives_next (exec_transmitReport hfind hnode) rfl

theorem transmitReport_joins {f : OutFrame} {e : Nat}
    (hfind : (s.link.frames.find? fun f => f.stage == .ended && decide (f.last ≤ s.gnomon)) = some f) (hnode : f.node < 512)
    (hknown : (s.node f.node).state ≠ 0) (hjoin : f.purpose = .join e) (hstatus : f.status = 0) :
    Gives .transmitReport s fun t => (t.node f.node).state = 2 := by
  refine ⟨_, rfl, ?_⟩
  rw [hfind]
  dsimp -zeta only
  extract_lets _ u i sfd n n1 n2 gate n3 v w
  have h2 : n2.state = 2 := by simp [n2, hjoin, hstatus]
  have h3 : n3.state = 2 := by
    rw [← h2]
    clear_value gate
    cases gate <;> rfl
  have hw : (w.node i).state = 2 := by
    have hlast : w = v.rememberNode i := by simp [w, hjoin, hstatus]
    rw [hlast, rememberNode_node, setNode_node, if_pos rfl, h3]
  have hserves : ¬(512 ≤ i ∨ (u.node i).state = 0) := not_or.mpr ⟨by omega, hknown⟩
  rw [if_neg hserves, pumpNode_state, hw]

/-! ### Frames of nodes -/

/-- A state with other work in hand. -/
def State.withWork (rest : List Work) (s : State) : State := { s with mesh := { s.mesh with work := rest } }

@[simp] theorem withWork_node (rest : List Work) (s : State) (j : Nat) : (s.withWork rest).node j = s.node j := rfl

@[simp] theorem withWork_joiningOpen (rest : List Work) (s : State) : (s.withWork rest).joiningOpen = s.joiningOpen := rfl

@[simp] theorem withWork_blocked (rest : List Work) (s : State) (e : Nat) : (s.withWork rest).blocked e = s.blocked e := rfl

@[simp] theorem withWork_nodeByExt (rest : List Work) (s : State) (e : Nat) : (s.withWork rest).nodeByExt e = s.nodeByExt e := rfl

@[simp] theorem withWork_freeNode (rest : List Work) (s : State) : (s.withWork rest).freeNode = s.freeNode := rfl

@[simp] theorem withWork_cnat (rest : List Work) (s : State) (k : Nat) : (s.withWork rest).cnat k = s.cnat k := rfl

/-- The work of a kind that stands first, and the state without it. -/
theorem takeWork_same {kind : Nat} {w : Work} {u : State} (hwork : s.takeWork kind = some (w, u)) : ∃ rest, u = s.withWork rest := by
  unfold State.takeWork at hwork
  split at hwork
  next w' rest _ =>
    split at hwork
    · exact ⟨rest, (congrArg Prod.snd (Option.some.inj hwork)).symm⟩
    · cases hwork
  · cases hwork

/-- What a rotation and a schedule leave of an entry's identity. -/
theorem rotate_identity (b : Bytes) (sfd : Nat) (n : Node) :
    (n.rotate b sfd).ext = n.ext ∧ (n.rotate b sfd).state = n.state ∧ (n.rotate b sfd).short = n.short := by
  unfold Node.rotate
  split
  · exact ⟨rfl, rfl, rfl⟩
  · dsimp only
    split <;> exact ⟨rfl, rfl, rfl⟩

theorem schedule_identity (b : Bytes) (sfd : Nat) (n : Node) :
    (n.schedule b sfd).ext = n.ext ∧ (n.schedule b sfd).state = n.state ∧ (n.schedule b sfd).short = n.short := by
  unfold Node.schedule
  split <;> exact ⟨rfl, rfl, rfl⟩

theorem joinRequest_gives {w : Work} {u : State} {e : Nat} (hwork : s.takeWork 1 = some (w, u)) (hsrc : w.from_.src = .ext e)
    (hopen : s.joiningOpen = true) (hblocked : s.blocked e = false) (hnew : s.nodeByExt e = none) (hfree : s.freeNode = some i) :
    Gives .joinRequest s fun t => (t.node i).ext = e ∧ (t.node i).state = 1 ∧ (t.node i).short = s.cnat 0x603001 + i := by
  obtain ⟨rest, hu⟩ := takeWork_same hwork
  have hempty : (u.node i).state = 0 := by
    rw [hu, withWork_node]
    simpa using List.find?_some hfree
  have hopen' : u.joiningOpen = true := by rw [hu, withWork_joiningOpen, hopen]
  have hblocked' : u.blocked e = false := by rw [hu, withWork_blocked, hblocked]
  have hfree' : u.freeNode = some i := by rw [hu, withWork_freeNode, hfree]
  have hnew' : u.nodeByExt e = none := by rw [hu, withWork_nodeByExt, hnew]
  have hcnat : u.cnat 0x603001 = s.cnat 0x603001 := by rw [hu, withWork_cnat]
  clear hu
  refine ⟨_, rfl, ?_⟩
  rw [hwork]
  dsimp -zeta only
  rw [hsrc]
  dsimp -zeta only
  extract_lets known slot status due v n1 b n2 n3 u2 ack _ _
  have hslot : slot = some i := by simp [slot, known, hnew', hfree']
  have hstatus : status = 0 := by simp [status, hopen', hblocked', hslot]
  have hv : v = i := by simp [v, hslot]
  have hnode : u2.node i = n3 := by simp [u2, hstatus, hv]
  have hknown : ¬known.isSome = true := by simp [known, hnew']
  have hn3 : n3 = (n2.rotate w.rotation w.from_.sfd).schedule w.schedule w.from_.sfd := if_neg hknown
  have h2 : n2.ext = e ∧ n2.state = 1 ∧ n2.short = s.cnat 0x603001 + i := by
    refine ⟨rfl, ?_, ?_⟩
    · simp [n2, n1, hv, hempty]
    · simp [n2, hcnat, hv]
  obtain ⟨hext, hstate, hshort⟩ := rotate_identity w.rotation w.from_.sfd n2
  obtain ⟨hext', hstate', hshort'⟩ := schedule_identity w.schedule w.from_.sfd (n2.rotate w.rotation w.from_.sfd)
  clear_value u2 n2
  show (u2.node i).ext = e ∧ (u2.node i).state = 1 ∧ (u2.node i).short = _
  rw [hnode, hn3, hext', hstate', hshort', hext, hstate, hshort]
  exact h2

theorem joinResponse_gives {k : JoinDue} (hdue : (s.mesh.joins.find? fun j => j.at_.isSome) = some k) (hup : s.meshUp = true) :
    Gives .joinResponse s fun t => t.link.frames.getLast?.map (·.purpose) = some (.join k.ext) ∧
      t.mesh.joins = s.mesh.joins.filter fun j => j.ext != k.ext := by
  have hserves : ¬(!s.meshUp) = true := by simp [hup]
  refine ⟨_, rfl, ?_⟩
  rw [hdue]
  dsimp -zeta only
  rw [if_neg hserves]
  extract_lets n len body pre f0 f u _ _
  have hlast : u.link.frames.getLast?.map (·.purpose) = some (.join k.ext) := by
    simp [u, handVoussoir_frames, f, f0, freshFrame]
  have hjoins : u.mesh.joins = s.mesh.joins := rfl
  clear_value u
  exact ⟨hlast, by rw [hjoins]⟩

theorem leave_gives {w : Work} {u : State} (hwork : s.takeWork 7 = some (w, u)) (hnode : w.node < 512) (hknown : (s.node w.node).state ≠ 0) :
    Gives .leave s fun t => t.node w.node = Node.init := by
  obtain ⟨rest, rfl⟩ := takeWork_same hwork
  have hexec : exec .leave s = .next ((s.withWork rest).removeNode w.node) := by
    show execLeave s = _
    unfold execLeave
    rw [hwork]
    exact congrArg _ (if_pos hnode)
  exact gives_next hexec (removeNode_node hknown)

theorem readings_gives {w : Work} {u : State} (hwork : s.takeWork 0 = some (w, u)) (hnode : w.node < 512)
    (hknown : (s.node w.node).state ≠ 0) :
    Gives .readings s fun t => t.nat (obj (0x6800 + w.node) 3) = w.from_.sfd ∧ t.nat (obj (0x6800 + w.node) 4) = w.seq := by
  obtain ⟨rest, rfl⟩ := takeWork_same hwork
  have hserves : ¬(512 ≤ w.node ∨ ((s.withWork rest).node w.node).state = 0) := not_or.mpr ⟨by omega, hknown⟩
  refine ⟨_, rfl, ?_⟩
  rw [hwork]
  dsimp -zeta only
  rw [if_neg hserves]
  extract_lets k mask old vals changed u1 present u2 n
  have h2 : u2.nat (k + 3) = w.from_.sfd ∧ u2.nat (k + 4) = w.seq := by
    constructor <;> simp [u2, State.setAll]
  clear_value u2
  have hk (j : Nat) : obj (0x6800 + w.node) j = k + j := by
    simp only [k, obj]
    omega
  rw [hk, hk]
  split <;> exact h2

/-! ### Voussoir frames -/

theorem cancelIf_same (again : Bool) (i : Nat) (s : State) :
    (if again then s.cancelFrames i else s).mesh.rx = s.mesh.rx ∧ ∀ k, (if again then s.cancelFrames i else s).nat k = s.nat k := by
  cases again
  · exact ⟨rfl, fun _ => rfl⟩
  · exact ⟨cancelFrames_rx i s, cancelFrames_nat i s⟩

/-- A state with another seen cache (R319). -/
def State.withSeen (seen : List (Nat × Nat)) (s : State) : State := { s with mesh := { s.mesh with seen := seen } }

theorem withSeen_rx (seen : List (Nat × Nat)) (s : State) : (s.withSeen seen).mesh.rx = s.mesh.rx := rfl

theorem withSeen_nat (seen : List (Nat × Nat)) (s : State) (k : Nat) : (s.withSeen seen).nat k = s.nat k := rfl

theorem voussoirFrame_gives {d : Delivered} {rest : List Delivered} (hrx : s.mesh.rx = d :: rest) (hup : s.meshUp = true)
    (hlong : 9 ≤ d.payload.length) (hversion : nthD d.payload 0 0 / 16 = 1) (hflags : nthD d.payload 1 0 = 0)
    (hbody : bodyOk (nthD d.payload 0 0 % 16) (d.payload.drop 9) = true) (hdest : fieldLe d.payload 5 2 = 0)
    (hnew : (s.mesh.seen.any fun q => q.1 == fieldLe d.payload 3 2 * 65536 + fieldLe d.payload 7 2) = false) :
    Gives .voussoirFrame s fun t => t.mesh.rx = rest ∧ t.nat 0x603201 = satAdd 32 (s.nat 0x603201) 1 := by
  have hserves : ¬(!s.meshUp) = true := by simp [hup]
  refine ⟨_, rfl, ?_⟩
  rw [hrx]
  dsimp -zeta only
  rw [if_neg hserves]
  extract_lets _ u p kind flags rl sl rotation schedule body origin dest seq hops key fresh _ v i via w index _
  have hrl : rl = 0 := by simp [rl, flags, p, hflags, bitOf]
  have hsl : sl = 0 := by simp [sl, flags, p, hflags, bitOf]
  have hrows : 9 + rl + sl = 9 := by rw [hrl, hsl]
  have hform : ¬(decide (List.length p < 9 + rl + sl) || nthD p 0 0 / 16 != 1 || !bodyOk kind body) = true := by
    have hkind : bodyOk kind body = true := by
      show bodyOk kind (List.drop (9 + rl + sl) p) = true
      rwa [hrows]
    simp [hrows, hkind, p, hversion]
    omega
  have hhere : ¬(!(dest == 0 || dest == u.cnat 0x602002 || dest == 65535)) = true := by simp [dest, p, hdest]
  have hfresh : ¬(fresh.any fun q => q.1 == key) = true := by
    intro h
    obtain ⟨q, hq, hkey⟩ := List.any_eq_true.mp h
    exact Bool.false_ne_true (hnew.symm.trans (List.any_eq_true.mpr ⟨q, List.mem_of_mem_filter hq, hkey⟩))
  have hu : u.mesh.rx = rest ∧ u.nat 0x603201 = s.nat 0x603201 := ⟨rfl, rfl⟩
  clear_value u
  have hv : v.mesh.rx = rest ∧ v.nat 0x603201 = satAdd 32 (s.nat 0x603201) 1 := by
    have hseen : v = (u.withSeen (lastN 1024 (fresh ++ [(key, u.gnomon)]))).bump 0x603201 := rfl
    rw [hseen, bump_mesh, withSeen_rx, bump_nat, if_pos rfl, withSeen_nat, hu.1, hu.2]
    exact ⟨rfl, rfl⟩
  clear_value v i
  have hw : w.mesh.rx = rest ∧ w.nat 0x603201 = satAdd 32 (s.nat 0x603201) 1 := by
    cases hi : i with
    | none =>
      simp only [w, hi]
      exact hv
    | some i =>
      simp only [w, hi]
      exact ⟨(cancelIf_same _ i _).1.trans hv.1, ((cancelIf_same _ i _).2 _).trans hv.2⟩
  clear_value w
  rw [if_neg hform, if_neg hhere, if_neg hfresh]
  split <;> exact hw

/-! ### Rendezvous and wake trains -/

theorem rendezvous_gives {d : Downlink} {p : Nat × Nat} (hnext : (s.node i).nextDownlink = some d) (hsample : s.chooseSample (s.node i) = some p)
    (hup : s.meshUp = true) (hroute : (s.node i).immediate = false) (hstate : (s.node i).state = 2) (hmiss : (s.node i).missAt = none)
    (htrain : s.needsTrain (s.node i) = false) :
    Gives (.rendezvous i) s fun t => t.link.frames.length = s.link.frames.length + 1 ∧ t.mesh.seq = (s.mesh.seq + 1) % 65536 := by
  have hserves : ¬(!s.meshUp || (s.node i).immediate || ((s.node i).state != 2 && (s.node i).state != 3) || (s.node i).missAt.isSome ||
      s.needsTrain (s.node i)) = true := by simp [hup, hroute, hstate, hmiss, htrain]
  refine ⟨_, rfl, ?_⟩
  extract_lets n
  rw [show n.nextDownlink = some d from hnext, show s.chooseSample n = some p from hsample]
  dsimp -zeta only
  rw [if_neg hserves]
  exact ⟨handVoussoir_count _ _, handVoussoir_seq _ _⟩

theorem rendezvousMiss_gives {m : Nat} (hmiss : (s.node i).missAt = some m) :
    Gives (.rendezvousMiss i) s fun t => (t.node i).misses = satAdd 8 (s.node i).misses 1 ∧ (t.node i).missAt = none ∧
      t.nat 0x603203 = satAdd 32 (s.nat 0x603203) 1 := by
  have hexec : exec (.rendezvousMiss i) s = .next ((s.setNode i { s.node i with
      misses := satAdd 8 (s.node i).misses 1, missAt := none
      retryFrom := if (s.node i).retryFrom.isSome then none else some m }).bump 0x603203) := by
    show execRendezvousMiss i s = _
    unfold execRendezvousMiss
    dsimp only
    rw [hmiss]
  refine gives_next hexec ?_
  simp [bump_node]

@[simp] theorem sendTrain_counts (i : Nat) (d : Downlink) (s : State) : (s.sendTrain i d).link.frames.length = s.link.frames.length + 1 ∧
    (s.sendTrain i d).nat 0x603204 = satAdd 32 (s.nat 0x603204) 1 ∧ ((s.sendTrain i d).node i).trainAt = none := by
  unfold State.sendTrain
  extract_lets n j start pre sfd count f f' n' n''
  have hquiet : n''.trainAt = none := rfl
  refine ⟨?_, ?_, ?_⟩
  · simp
  · simp
  · simp [bump_node, hquiet]

theorem wakeTrain_gives {d : Downlink} (hnext : (s.node i).nextDownlink = some d) (hup : s.meshUp = true)
    (hroute : (s.node i).immediate = false) (hstate : (s.node i).state = 2) (hmiss : (s.node i).missAt = none)
    (hquiet : (s.node i).trainAt = none) (htrain : s.needsTrain (s.node i) = true) :
    Gives (.wakeTrain i) s fun t => t.link.frames.length = s.link.frames.length + 1 ∧
      t.nat 0x603204 = satAdd 32 (s.nat 0x603204) 1 := by
  have hserves : (s.meshUp && !(s.node i).immediate && ((s.node i).state == 2 || (s.node i).state == 3) && (s.node i).missAt.isNone &&
      (s.node i).trainAt.isNone && s.needsTrain (s.node i)) = true := by simp [hup, hroute, hstate, hmiss, hquiet, htrain]
  have hexec : exec (.wakeTrain i) s = .next (s.sendTrain i d) := by
    show execWakeTrain i s = _
    unfold execWakeTrain
    dsimp only
    rw [hnext]
    exact congrArg _ (if_pos hserves)
  obtain ⟨hframes, hcount, _⟩ := sendTrain_counts i d s
  exact gives_next hexec ⟨hframes, hcount⟩

theorem wakeTrainRetry_gives {d : Downlink} {m : Nat} (hnext : (s.node i).nextDownlink = some d) (hup : s.meshUp = true)
    (hroute : (s.node i).immediate = false) (hwhen : (s.node i).trainAt = some m) (hdue : m ≤ s.gnomon) :
    Gives (.wakeTrainRetry i) s fun t => t.link.frames.length = s.link.frames.length + 1 ∧
      t.nat 0x603204 = satAdd 32 (s.nat 0x603204) 1 ∧ (t.node i).trainAt = none := by
  have hserves : (s.meshUp && !(s.node i).immediate && decide (m ≤ s.gnomon)) = true := by simp [hup, hroute, hdue]
  have hexec : exec (.wakeTrainRetry i) s = .next (s.sendTrain i d) := by
    show execWakeTrainRetry i s = _
    unfold execWakeTrainRetry
    dsimp only
    rw [hnext, hwhen]
    exact congrArg _ (if_pos hserves)
  exact gives_next hexec (sendTrain_counts i d s)

/-! ### Gates and downlinks -/

theorem phaseGate_gives (hup : s.meshUp = true) (hauto : s.nat 0x60300B = 1) (hstate : (s.node i).state = 2)
    (hphase : ((s.node i).phaseAt s.gnomon s.gnomon).isSome = true) (hrun : s.nat 0x60300C ≤ (s.goodRun (s.node i)).2)
    (hecho : bitOf (s.node i).echo 7 = false) (hquiet : (s.node i).gateAt = none)
    (hnone : ((s.node i).queue.any fun d => d.handle == 0) = false) :
    Gives (.phaseGate i) s fun t => (t.node i).gateAt = some s.gnomon ∧ (t.node i).queue.length = (s.node i).queue.length + 1 := by
  refine ⟨_, rfl, ?_⟩
  extract_lets n run width start gap differs due
  have hdiffers : differs = true := by simp [differs, n, hecho]
  have hdue : due = true := by simp [due, n, hquiet]
  have hgo : (s.meshUp && s.nat 0x60300B == 1 && n.state == 2 && (n.phaseAt s.gnomon s.gnomon).isSome &&
      decide (s.nat 0x60300C ≤ run.2) && differs && due && !(n.queue.any fun d => d.handle == 0)) = true := by
    simp [hup, hauto, hdiffers, hdue, n, hstate, hphase, hrun, run, hnone]
  rw [if_pos hgo]
  dsimp -zeta only
  rw [pumpNode_gateAt, pumpNode_queue, setNode_node, if_pos rfl]
  simp [n]

@[simp] theorem completeDownlink_node (handle status route tries sfd : Nat) (s : State) (j : Nat) :
    (s.completeDownlink handle status route tries sfd).node j = s.node j :=
  node_of_mesh (completeDownlink_keeps.same .mesh (by decide)) j

theorem downlinkExpiry_gives {h : Nat} {n : Node} {d : Downlink}
    (hfind : (s.mesh.nodes.find? fun p => p.2.queue.any fun d => d.handle == h && decide (d.ends ≤ s.gnomon)) = some (i, n))
    (hdue : (n.queue.find? fun d => d.handle == h && decide (d.ends ≤ s.gnomon)) = some d) (hbusy : d.busy = false) :
    Gives (.downlinkExpiry h) s fun t => t.nat 0x603206 = satAdd 32 (s.nat 0x603206) 1 ∧
      (t.node i).queue = (s.node i).queue.filter fun q => q.handle != h := by
  have hexec : exec (.downlinkExpiry h) s = .next (((s.dropDownlink i h).completeDownlink h 2 0 d.tries 0).bump 0x603206) := by
    show execDownlinkExpiry h s = _
    unfold execDownlinkExpiry
    dsimp only
    rw [hfind]
    dsimp only
    rw [hdue]
    simp [hbusy]
  refine gives_next hexec ⟨?_, ?_⟩
  · rw [bump_nat, if_pos rfl, completeDownlink_keeps.nat]
    rfl
  · rw [bump_node, completeDownlink_node, State.dropDownlink, setNode_node, if_pos rfl]

theorem autoTake_node (r : Requester) (key : Nat) (s : State) (j : Nat) : (s.autoTake r key).node j = s.node j :=
  node_of_mesh (autoTake_mesh r key s) j

theorem answered_node (r : Requester) (code : Nat) (data : Bytes) (s : State) (j : Nat) :
    ((s.touch r).reply code data).node j = s.node j := node_of_mesh (answered_mesh r code data s) j

theorem joinedAt_of_mesh (h : t.mesh = s.mesh) (short : Nat) : t.joinedAt short = s.joinedAt short := by
  unfold State.joinedAt State.nodeByShort
  rw [h]

theorem nodeRemove_gives {short : Nat} (haccepts : s.Accepts r 0x604004 ([1] ++ leNat 2 short ++ [0, 0, 0, 0, 0])) (hshort : short < 65536)
    (hjoined : s.joinedAt short = some i) (hknown : (s.node i).state ≠ 0) :
    Gives (.nodeRemove r ([1] ++ leNat 2 short ++ [0, 0, 0, 0, 0])) s fun t => t.node i = Node.init := by
  have haddress : fieldLe ([1] ++ leNat 2 short ++ [0, 0, 0, 0, 0]) 1 2 = short := ofLe_leNat (w := 2) hshort
  have hact : State.nodeCommand ([1] ++ leNat 2 short ++ [0, 0, 0, 0, 0]) (s.autoTake r 0x604004) =
      ((s.autoTake r 0x604004).removeNode i, 0) := by
    unfold State.nodeCommand
    rw [haddress, joinedAt_of_mesh (autoTake_mesh _ _ _), hjoined]
    rfl
  refine gives_request rfl haccepts (by rw [hact]) ?_
  rw [hact, answered_node]
  exact removeNode_node (by rwa [autoTake_node])

theorem canSecure_autoTake (r : Requester) (key : Nat) (s : State) : (s.autoTake r key).canSecure = s.canSecure := by
  simp [State.canSecure, State.keyUse, State.keyHeld, State.lifecycle, State.debugLevel]

/-- The state that a downlink taken leaves (R342), without its result. -/
def State.queueDownlink (i : Nat) (d : Downlink) (s : State) : State :=
  let h := s.mesh.handle
  let n := s.node i
  let n := { n with queue := n.queue ++ [d] }
  let s := { s with mesh := { s.mesh with handle := if 65535 ≤ h then 1 else h + 1 } }
  (s.setNode i n).pumpNode i

theorem queueDownlink_handle (i : Nat) (d : Downlink) (s : State) :
    (s.queueDownlink i d).mesh.handle = if 65535 ≤ s.mesh.handle then 1 else s.mesh.handle + 1 := by
  unfold State.queueDownlink
  rw [pumpNode_handle]
  rfl

theorem queueDownlink_queue (i : Nat) (d : Downlink) (s : State) :
    ((s.queueDownlink i d).node i).queue.length = (s.node i).queue.length + 1 := by
  unfold State.queueDownlink
  rw [pumpNode_queue, setNode_node, if_pos rfl]
  simp

theorem downlink_gives {short life : Nat} {data : Bytes}
    (haccepts : s.Accepts r 0x604001 (leNat 2 short ++ [3, data.length] ++ leNat 2 life ++ [0, 0] ++ data)) (hshort : short < 65536)
    (hjoined : s.joinedAt short = some i) (hroom : ((s.node i).queue.filter fun d => d.handle != 0).length < 4)
    (hsome : 1 ≤ data.length) (hfits : data.length ≤ 64) (hlife : 1 ≤ life) (hhour : life ≤ 3600) (hsecures : s.canSecure = true) :
    Gives (.downlink r (leNat 2 short ++ [3, data.length] ++ leNat 2 life ++ [0, 0] ++ data)) s fun t =>
      t.mesh.handle = (if 65535 ≤ s.mesh.handle then 1 else s.mesh.handle + 1) ∧
        (t.node i).queue.length = (s.node i).queue.length + 1 := by
  generalize hb : leNat 2 short ++ [3, data.length] ++ leNat 2 life ++ [0, 0] ++ data = b at haccepts
  have haddress : fieldLe b 0 2 = short := by
    rw [← hb]
    exact ofLe_leNat (w := 2) hshort
  have hterm : fieldLe b 4 2 = life := by
    rw [← hb]
    exact ofLe_leNat (w := 2) (by omega)
  have hkind : nthD b 2 0 = 3 ∧ nthD b 3 0 = data.length ∧ fieldLe b 6 2 = 0 ∧ b.length = 8 + data.length := by
    rw [← hb]
    refine ⟨rfl, rfl, rfl, ?_⟩
    simp [leNat]
    omega
  obtain ⟨hsort, hlen, hzero, hlength⟩ := hkind
  have htaken : ∃ d body, (s.autoTake r 0x604001).downlink b =
      ((s.autoTake r 0x604001).queueDownlink i d).issuePaired 0x604002 0 body := by
    refine ⟨⟨(s.autoTake r 0x604001).mesh.handle, 3, (s.autoTake r 0x604001).gnomon + life * 153600000, b.drop 8, 0, false⟩,
      leNat 2 0 ++ leNat 2 (s.autoTake r 0x604001).mesh.handle ++ [0, 0], ?_⟩
    have hfull : ¬4 ≤ (((s.autoTake r 0x604001).node i).queue.filter fun d => d.handle != 0).length := by
      rw [autoTake_node]
      omega
    have hshape : ¬((3 != 3 && 3 != 4) || data.length < 1 || 64 < data.length || 8 + data.length != 8 + data.length || life < 1
        || 3600 < life || 0 != 0 || (3 == 4 && (data.length != 4 || 31 < nthD b 8 0 || 32 < nthD b 9 0))) = true := by
      generalize data.length = n at hsome hfits
      simp
      omega
    have hsecure : ¬(!(s.autoTake r 0x604001).canSecure) = true := by simp [canSecure_autoTake, hsecures]
    unfold State.downlink
    dsimp only
    rw [haddress, joinedAt_of_mesh (autoTake_mesh _ _ _), hjoined, hterm, hsort, hlen, hzero, hlength]
    dsimp only
    rw [if_neg hfull, if_neg hshape, if_neg hsecure]
    rfl
  obtain ⟨d, body, htaken⟩ := htaken
  refine gives_request rfl haccepts rfl ?_
  rw [accept, htaken, answered_mesh, answered_node, issuePaired_keeps.same .mesh (by decide),
    node_of_mesh (issuePaired_keeps.same .mesh (by decide)), queueDownlink_handle, queueDownlink_queue, autoTake_mesh, autoTake_node]
  exact ⟨rfl, rfl⟩

theorem absentTimeout_gives (hstate : (s.node i).state = 2) (hsilent : (s.node i).heardAt + s.nat 0x603008 * 153600000 ≤ s.gnomon)
    (hroom : s.tableFull = false) : Gives (.absentTimeout i) s fun t => t.node i = { s.node i with state := 3 } := by
  have hexec : exec (.absentTimeout i) s = .next (s.setNode i { s.node i with state := 3 }) := by
    show execAbsentTimeout i s = _
    simp [execAbsentTimeout, hstate, hsilent, hroom]
  refine gives_next hexec ?_
  simp

theorem joiningCountdown_gives (hfinite : s.nat 0x603007 ≠ 65535) (hopen : s.nat 0x603007 ≠ 0) (hover : s.joiningLeft = 0) :
    Gives .joiningCountdown s fun t => t.nat 0x603007 = 0 ∧ t.joiningOpen = false := by
  have hexec : exec .joiningCountdown s = .next (s.setNat 0x603007 0) := congrArg _ (if_pos ⟨hfinite, hopen, hover⟩)
  refine gives_next hexec ?_
  simp [State.joiningOpen]

theorem nodeCounterRecord_gives (hknown : (s.node i).state ≠ 0)
    (hbehind : Map.get (fun _ => 0) s.flash.nodeCounters i + 1024 ≤ (s.node i).lastCounter) :
    Gives (.nodeCounterRecord i) s fun t => Map.get (fun _ => 0) t.flash.nodeCounters i = (s.node i).lastCounter := by
  have hexec : exec (.nodeCounterRecord i) s = .next { s with flash := { s.flash with
      nodeCounters := Map.put (fun _ => 0) s.flash.nodeCounters i (s.node i).lastCounter } } := congrArg _ (if_pos ⟨hknown, hbehind⟩)
  refine gives_next hexec ?_
  rw [map_get_put, if_pos rfl]

/-- Settles O16, clause by clause. -/
theorem meshCompletes : Obligations.MeshCompletes := by
  unfold Obligations.MeshCompletes
  exact ⟨fun _ _ _ => copySelectionEnd_gives, fun _ _ => ackSend_gives, fun _ _ => transmitReport_drops,
    fun _ _ _ => transmitReport_joins, fun _ _ _ _ _ => joinRequest_gives, fun _ _ => joinResponse_gives,
    fun _ _ _ => leave_gives, fun _ _ _ => readings_gives, fun _ _ _ => voussoirFrame_gives, fun _ _ _ _ => rendezvous_gives,
    fun _ _ _ => rendezvousMiss_gives, fun _ _ _ => wakeTrain_gives, fun _ _ _ _ => wakeTrainRetry_gives,
    fun _ _ => phaseGate_gives, fun _ _ _ _ _ _ => downlink_gives, fun _ _ _ _ _ => downlinkExpiry_gives,
    fun _ _ _ _ => nodeRemove_gives, fun _ _ => absentTimeout_gives, fun _ => joiningCountdown_gives,
    fun _ _ => nodeCounterRecord_gives⟩

end Sys2Proof.Machine
end

section
/-!
PROOFS. What the commands of Gloaming leave (R218, R230 to R240).
-/
namespace Sys2Proof.Machine

-- One proof after another keeps the memory of the whole text's compile low.
set_option Elab.async false

variable {r : Requester} {s t : State} {i j k : Nat}

/-! ### The slots -/

/-- The subindices of a slot. -/
theorem gk_eq (i sub : Nat) : gk i sub = 0x491000 + 256 * i + sub := by
  simp only [gk, obj]
  omega

@[simp] theorem setGslot_gslot (i : Nat) (g : GSlot) (s : State) (j : Nat) : (s.setGslot i g).gslot j = if j = i then g else s.gslot j := by
  simp [State.setGslot, State.gslot, map_get_put]

@[simp] theorem setNat_gslot (k n : Nat) (s : State) (j : Nat) : (s.setNat k n).gslot j = s.gslot j := rfl

@[simp] theorem setNum_gslot (k : Nat) (n : Int) (s : State) (j : Nat) : (s.setNum k n).gslot j = s.gslot j := rfl

@[simp] theorem setGslot_val (i : Nat) (g : GSlot) (s : State) (k : Nat) : (s.setGslot i g).val k = s.val k := rfl

@[simp] theorem setGslot_nat (i : Nat) (g : GSlot) (s : State) (k : Nat) : (s.setGslot i g).nat k = s.nat k := rfl

theorem gslot_of_gloaming (h : t.gloaming = s.gloaming) (j : Nat) : t.gslot j = s.gslot j :=
  congrArg (fun g : Gloaming => Map.get (fun _ => GSlot.init) g.slots j) h

@[simp] theorem autoTake_gslot (r : Requester) (key : Nat) (s : State) (j : Nat) : (s.autoTake r key).gslot j = s.gslot j :=
  gslot_of_gloaming (autoTake_gloaming r key s) j

@[simp] theorem answered_gslot (r : Requester) (code : Nat) (data : Bytes) (s : State) (j : Nat) :
    ((s.touch r).reply code data).gslot j = s.gslot j := gslot_of_gloaming (answered_gloaming r code data s) j

@[simp] theorem autoTake_blending (r : Requester) (key : Nat) (s : State) : (s.autoTake r key).blending = s.blending := by
  simp (disch := omega) [State.blending]

@[simp] theorem autoTake_slotSource (r : Requester) (key : Nat) (s : State) (hi : i < 3) :
    (s.autoTake r key).slotSource i = s.slotSource i := by
  simp (disch := omega) [State.slotSource, obj]

@[simp] theorem autoTake_fading (r : Requester) (key : Nat) (s : State) : (s.autoTake r key).fading = s.fading := by
  simp [State.fading]

/-! ### Enable and sources -/

/-- With no source, nothing waits in a slot's queue, and the latency is the hold and 1 ms (R230). -/
theorem latency_unassigned (h0 : s.slotSource 0 = 0) (h1 : s.slotSource 1 = 0) (h2 : s.slotSource 2 = 0) :
    s.latency = s.nat 0x49000C * msTicks + msTicks := by
  have hempty : s.queueBound 0 = 0 := by simp [State.queueBound]
  simp [State.latency, h0, h1, h2, hempty]

/-- The slots begun afresh by an enable (R240). -/
def State.enableSlots (s : State) : State :=
  [0, 1, 2].foldl (fun s i =>
    let s := s.freshSlot i
    s.setAll [(gk i 1, if s.slotSource i = 0 then 0 else if s.nat 0x490005 = i then 2 else 1), (gk i 2, 0), (gk i 3, 0),
      (gk i 6, 0), (gk i 7, 0), (gk i 8, 0xFF)]) s

/-- The state of an enable with no source: nothing to place and nothing to drain (R230, R240). -/
theorem enableGloaming_unassigned (hoff : s.blending = false) (hmode : s.mode = .listen ∨ s.mode = .full)
    (h0 : s.slotSource 0 = 0) (h1 : s.slotSource 1 = 0) (h2 : s.slotSource 2 = 0) :
    s.enableGloaming.2 = 0 ∧ s.enableGloaming.1.nat 0x490001 = 1 ∧ s.enableGloaming.1.nat 0x490011 = s.latency := by
  have hserves : ¬(s.mode ≠ .listen ∧ s.mode ≠ .full) := by
    rintro ⟨hlisten, hfull⟩
    exact hmode.elim hlisten hfull
  have hplaced : [0, 1, 2].foldl (fun (o : Option State) i => o.bind fun u => u.placeTail s.latency i (u.slotSource i)) (some s) = some s := by
    simp [State.placeTail, h0, h1, h2]
  have hdrained (is : List Nat) (u : State) :
      u.Keeps [.pcm, .heard, .gloaming] (is.foldl (fun s i => if s.slotSource i = 0 then s else s.drainPcm (queueOf (s.slotSource i))) u) :=
    .foldl (fun _ _ => .ite .refl (.step drainPcm_keeps .refl)) .refl
  unfold State.enableGloaming
  rw [hoff, if_neg (by simp), if_neg hserves]
  extract_lets lambda tails
  rw [show tails = some s from hplaced]
  refine ⟨rfl, ?_, ?_⟩
  · rw [(hdrained _ _).nat]
    simp [State.setAll]
  · rw [(hdrained _ _).nat]
    simp [State.setAll, lambda]

theorem gloamingEnable_gives (haccepts : s.Accepts r 0x490001 [1]) (hoff : s.blending = false) (hmode : s.mode = .listen ∨ s.mode = .full)
    (h0 : s.slotSource 0 = 0) (h1 : s.slotSource 1 = 0) (h2 : s.slotSource 2 = 0) :
    Gives (.gloamingEnable r) s fun t => t.nat 0x490001 = 1 ∧ t.nat 0x490011 = s.nat 0x49000C * msTicks + msTicks := by
  have h0' : (s.autoTake r 0x490001).slotSource 0 = 0 := by rwa [autoTake_slotSource _ _ _ (by decide)]
  have h1' : (s.autoTake r 0x490001).slotSource 1 = 0 := by rwa [autoTake_slotSource _ _ _ (by decide)]
  have h2' : (s.autoTake r 0x490001).slotSource 2 = 0 := by rwa [autoTake_slotSource _ _ _ (by decide)]
  obtain ⟨hdone, hon, hlatency⟩ := enableGloaming_unassigned ((autoTake_blending r 0x490001 s).trans hoff)
    (by rwa [autoTake_mode]) h0' h1' h2'
  refine gives_request rfl haccepts hdone ?_
  simp (disch := omega) [hon, hlatency, latency_unassigned h0' h1' h2']

theorem setAll_gloaming (ps : List (Nat × Int)) (s : State) : (s.setAll ps).gloaming = s.gloaming := setAll_keeps.same .gloaming (by decide)

/-- What a disable leaves after the silence (R240). -/
def State.endGloaming (s : State) : State :=
  let last := s.gloaming.output
  let s := [0, 1, 2].foldl (fun s i =>
    let s := (s.freeTail i).setGslot i GSlot.init
    s.setAll [(gk i 1, if s.slotSource i = 0 then 0 else 1), (gk i 2, 0), (gk i 3, 0), (gk i 6, 0), (gk i 8, 0xFF)]) s
  let s := { s with gloaming := { Gloaming.init with output := last } }
  s.setAll [(0x490001, 0), (0x490010, 0), (0x490012, 0), (0x490013, 0), (0x490014, 0xFF)]

theorem endGloaming_off (s : State) :
    s.endGloaming.nat 0x490001 = 0 ∧ s.endGloaming.gloaming = { Gloaming.init with output := s.endGloaming.gloaming.output } := by
  unfold State.endGloaming
  refine ⟨?_, ?_⟩
  · simp [State.setAll]
  · rw [setAll_gloaming]

theorem disableGloaming_off (s : State) :
    s.disableGloaming.nat 0x490001 = 0 ∧ s.disableGloaming.gloaming = { Gloaming.init with output := s.disableGloaming.gloaming.output } :=
  endGloaming_off ((List.range 480).foldl (fun (s : State) k => s.emitFrame (1 - ((k + 1 : Nat) : Rat) / 480)) s)

theorem gloamingDisable_gives (haccepts : s.Accepts r 0x490001 [0]) (hon : s.blending = true) :
    Gives (.gloamingDisable r) s fun t => t.nat 0x490001 = 0 ∧ t.gloaming = { Gloaming.init with output := t.gloaming.output } := by
  have hact : accept (fun s => if s.blending then s.disableGloaming else s) (s.autoTake r 0x490001) =
      ((s.autoTake r 0x490001).disableGloaming, 0) := by
    rw [accept, autoTake_blending, hon]
    rfl
  refine gives_request rfl haccepts (by rw [hact]) ?_
  rw [hact, reply_nat, touch_nat_other _ _ (by decide), answered_gloaming]
  exact disableGloaming_off _

theorem freeTail_val (i : Nat) (s : State) (k : Nat) : (s.freeTail i).val k = s.val k := by
  refine State.Keeps.val freeTail_keeps k

theorem slotSourceWrite_gives {w : Nat} (hi : i < 3) (hw : w < 2 ^ 32) (haccepts : s.Accepts r (obj 0x4900 (2 + i)) (leNat 4 w))
    (hoff : s.blending = false) (hword : s.wordOk i w = true) :
    Gives (.slotSourceWrite r i w) s fun t => t.slotSource i = w ∧ t.nat (gk i 1) = (if w = 0 then 0 else 1) := by
  have hslot : i % 3 = i := Nat.mod_eq_of_lt hi
  have hbits : w % 2 ^ 32 = w := Nat.mod_eq_of_lt hw
  generalize hu : s.autoTake r (obj 0x4900 (2 + i)) = u
  have hoff' : u.blending = false := by rw [← hu, autoTake_blending, hoff]
  have hword' : u.wordOk i w = true := by
    rw [← hu]
    unfold State.wordOk State.engine at hword ⊢
    simpa [autoTake_slotSource] using hword
  have hact : u.assignSlot i w = (((u.freeTail i).freshSlot i).setAll
      [(obj 0x4900 (2 + i), w), (gk i 1, if w = 0 then 0 else 1), (gk i 2, 0), (gk i 3, 0), (gk i 6, 0)], 0) := by
    have hblend : ((u.freeTail i).freshSlot i).blending = false := by
      unfold State.blending at hoff' ⊢
      rw [← hoff']
      exact congrArg (· == 1) (nat_of_val (freeTail_val i u 0x490001))
    have hcode : firstCode [refuseIf (!u.wordOk i w) 0x1301, refuseIf (u.blending && u.slotBusy i) 0x1304,
        refuseIf (u.blending && decide (u.nat 0x490011 < u.queueBound w + u.nat 0x49000C * msTicks + msTicks)) 0x1303] = 0 := by
      simp [hword', hoff', firstCode, refuseIf]
    unfold State.assignSlot
    rw [hcode]
    extract_lets code freed placed
    have hplaced : placed = some freed := by
      simp only [placed, hoff']
      rfl
    rw [if_neg (by decide), hplaced]
    dsimp -zeta only
    extract_lets v
    have hv : v.blending = false := by
      have hpairs : v.nat 0x490001 = (freed.freshSlot i).nat 0x490001 := by
        simp only [v, State.setAll, setNum_nat]
        rw [if_neg, if_neg, if_neg, if_neg, if_neg] <;> simp only [gk, obj] <;> omega
      unfold State.blending at hblend ⊢
      rw [hpairs]
      exact hblend
    rw [if_neg (by simp [hv])]
  have hexec : exec (.slotSourceWrite r i w) s = .next (s.request r (obj 0x4900 (2 + i)) (leNat 4 w) (State.assignSlot i w)) := by
    show execSlotSourceWrite r i w s = _
    rw [execSlotSourceWrite, hslot, hbits]
  refine gives_request hexec haccepts (by rw [hu, hact]) ?_
  rw [hu, hact]
  unfold State.slotSource
  have hsource : obj 0x4900 (2 + i) = 0x490002 + i := by
    unfold obj
    omega
  rw [hsource, gk_eq, gk_eq, gk_eq, gk_eq]
  rw [reply_nat, touch_nat_other _ _ (by omega), reply_nat, touch_nat_other _ _ (by omega)]
  simp only [State.setAll, setNum_nat]
  refine ⟨?_, ?_⟩
  · rw [if_neg (by omega), if_neg (by omega), if_neg (by omega), if_neg (by omega), if_pos trivial, Int.toNat_natCast]
  · rw [if_neg (by omega), if_neg (by omega), if_neg (by omega), if_pos trivial]
    split <;> rfl

/-! ### Alignment -/

theorem startBuild_spares {n : Nat} (hk : k < 0x490000 ∨ 0x4900FF < k) (hslot : k ≠ gk (s.nat 0x490005) 3) :
    s.Spares k (s.startBuild n) := by
  unfold State.startBuild
  exact .ite (.step (.setNat (by omega)) <| .step (.keeps update_gloaming_keeps) .refl) (.step (.bump (by omega)) <|
    .step (.setNat hslot) <| .step (.setNat (by omega)) <| .step (.keeps update_gloaming_keeps) .refl)

/-- A search begun again writes the slot's state, and the pending slot with its event (R233, R239). -/
theorem searchAgain_spares (hk : k < 0x490000 ∨ 0x4900FF < k) (hslot : k ≠ gk i 1) (hevent : k ∉ eventKeys) :
    s.Spares k (s.searchAgain i) := by
  unfold State.searchAgain
  exact .ite (.iteThen (.step (.keeps setGslot_keeps) <| .step (.setNat hslot) .refl) (.step (.raise hevent) <|
    .step (.setNat (by omega)) .refl)) .refl

/-- A lock writes states, lags and delays of slots, and what a build shows (R233, R235). -/
theorem lockSlot_spares {fine : Int} (hk : k < 0x490000 ∨ 0x4900FF < k) (hslot : ∀ j, k ≠ gk j 1 ∧ k ≠ gk j 2 ∧ k ≠ gk j 3) :
    s.Spares k (s.lockSlot i fine) := by
  have hlocked {g} : s.Spares k (((s.setNat (gk i 1) 2).setNum (gk i 2) fine).setGslot i g) :=
    .step (.keeps setGslot_keeps) <| .step (.setNum (hslot i).2.1) <| .step (.setNat (hslot i).1) .refl
  unfold State.lockSlot
  exact .ite (.setNat (hslot i).1) (.ite (.step (.setNum (hslot i).2.2) hlocked) (.ite
    (.step (.keeps update_gloaming_keeps) <| .step (.setNat (hslot i).2.2) <| .foldl (fun _ _ _ => .ite .refl (.setNat (hslot _).2.2)) hlocked)
    (.step (startBuild_spares hk (hslot _).2.2) <| .step (.setNat (hslot i).2.2) <|
      .foldl (fun _ _ _ => .ite .refl (.setNat (hslot _).2.2)) hlocked)))

/-- An estimate judged writes neither its peak nor their ratio (R232, R233). -/
theorem judgeEstimate_spares {e : LagEstimate} (hk : k < 0x490000 ∨ 0x4900FF < k) (hslot : ∀ j, k ≠ gk j 1 ∧ k ≠ gk j 2 ∧ k ≠ gk j 3)
    (hevent : k ∉ eventKeys) : s.Spares k (s.judgeEstimate i e) := by
  have hagain : s.Spares k (s.searchAgain i) := searchAgain_spares hk (hslot i).1 hevent
  have hset {g} : s.Spares k (s.setGslot i g) := .keeps setGslot_keeps
  unfold State.judgeEstimate
  exact .ite (.ite hagain .refl) (.ite (.ite (.ite hagain hset) (.ite hset hset)) (.ite
    (.step (.keeps setGslot_keeps) <| .setNat (hslot i).1) (.iteThen hset (lockSlot_spares hk hslot))))

/-- The subindices of a slot's peak and ratio are none that a judgement writes. -/
theorem peak_apart (hi : i ≤ 2) (hk : k = gk i 4 ∨ k = gk i 5) :
    (k < 0x490000 ∨ 0x4900FF < k) ∧ (∀ j, k ≠ gk j 1 ∧ k ≠ gk j 2 ∧ k ≠ gk j 3) ∧ k ∉ eventKeys := by
  simp only [gk_eq] at hk ⊢
  exact ⟨by omega, fun j => by omega, notMem_eventKeys (by omega) (by omega) (by omega)⟩

/-- What an estimate leaves (R232, R233, R236). -/
def State.takeEstimate (i w : Nat) (a b : List MonoMs) (e : LagEstimate) (s : State) : State :=
  let percent := (clampInt 0 100 (roundRat (100 * e.rho))).toNat
  let s := s.setGslot i { s.gslot i with estimatedAt := w }
  let s := s.issue (gk i 0x0D) (leNat 8 e.windowEnd ++ leInt 4 e.fine ++ [percent, boolNat e.void])
  if e.void then s.judgeEstimate i e
  else
    let s := (s.setNat (gk i 4) percent).setNat (gk i 5) (clampInt 0 65535 (roundRat (100 * e.ratio))).toNat
    (s.judgeEstimate i e).aimLevel i a b

theorem takeEstimate_nat {w : Nat} {a b : List MonoMs} {e : LagEstimate} (hi : i ≤ 2) (hclear : e.void = false) :
    (s.takeEstimate i w a b e).nat (gk i 4) = (clampInt 0 100 (roundRat (100 * e.rho))).toNat ∧
      (s.takeEstimate i w a b e).nat (gk i 5) = (clampInt 0 65535 (roundRat (100 * e.ratio))).toNat := by
  have hjudged {k} (hk : k = gk i 4 ∨ k = gk i 5) (u : State) : ((u.judgeEstimate i e).aimLevel i a b).nat k = u.nat k := by
    obtain ⟨hout, hslot, hevent⟩ := peak_apart hi hk
    exact (State.Spares.step (.keeps aimLevel_keeps) <| judgeEstimate_spares hout hslot hevent).nat
  have hapart : gk i 4 ≠ gk i 5 := by simp [gk_eq]
  unfold State.takeEstimate
  rw [hclear]
  extract_lets percent _ _ u1 u2
  rw [if_neg (by decide), hjudged (.inl rfl), hjudged (.inr rfl)]
  simp [u2, percent, hapart]

theorem lagEstimate_void (x f : GSlot) (w : Nat) (a b : List MonoMs) : (lagEstimate x f w a b).void = (windowVoid a || windowVoid b) := rfl

theorem lagEstimate_takes {a b : List MonoMs} (hon : s.blending = true) (hi : i ≤ 2) (hsource : s.slotSource i ≠ 0) (hother : s.nat 0x490005 ≠ i)
    (hdue : (s.gslot i).estimatedAt < s.estimateEnd i) (ha : (s.gslot i).meter.window (s.estimateEnd i) = some a)
    (hb : (s.gslot (s.nat 0x490005)).meter.window (s.estimateEnd i) = some b) :
    exec (.lagEstimate i) s = .next (s.takeEstimate i (s.estimateEnd i) a b
      (lagEstimate (s.gslot i) (s.gslot (s.nat 0x490005)) (s.estimateEnd i) a b)) := by
  show execLagEstimate i s = _
  unfold execLagEstimate
  refine congrArg _ ((if_pos ⟨hon, hi, hsource, hother, hdue⟩).trans ?_)
  rw [ha, hb]
  unfold State.takeEstimate
  dsimp only

theorem lagEstimate_gives {a b : List MonoMs} (hon : s.blending = true) (hi : i ≤ 2) (hsource : s.slotSource i ≠ 0) (hother : s.nat 0x490005 ≠ i)
    (hdue : (s.gslot i).estimatedAt < s.estimateEnd i) (ha : (s.gslot i).meter.window (s.estimateEnd i) = some a)
    (hb : (s.gslot (s.nat 0x490005)).meter.window (s.estimateEnd i) = some b) (hva : windowVoid a = false) (hvb : windowVoid b = false) :
    Gives (.lagEstimate i) s fun t =>
      let e := lagEstimate (s.gslot i) (s.gslot (s.nat 0x490005)) (s.estimateEnd i) a b
      t.nat (gk i 4) = (clampInt 0 100 (roundRat (100 * e.rho))).toNat ∧
        t.nat (gk i 5) = (clampInt 0 65535 (roundRat (100 * e.ratio))).toNat := by
  have hclear : (lagEstimate (s.gslot i) (s.gslot (s.nat 0x490005)) (s.estimateEnd i) a b).void = false := by
    rw [lagEstimate_void, hva, hvb, Bool.or_self]
  exact gives_next (lagEstimate_takes hon hi hsource hother hdue ha hb) (takeEstimate_nat hi hclear)

/-! ### Requests -/

@[simp] theorem suspendFollowing_fade (n : Nat) (s : State) : (s.suspendFollowing n).gloaming.fade = s.gloaming.fade := by
  unfold State.suspendFollowing
  split <;> rfl

theorem suspendFollowing_nat (n : Nat) (s : State) (h : k ≠ 0x480012) : (s.suspendFollowing n).nat k = s.nat k :=
  State.Spares.nat (by
    unfold State.suspendFollowing
    exact .ite (.step (.setNat h) <| .step (.keeps update_gloaming_keeps) .refl) .refl)

theorem blendTarget_gives (haccepts : s.Accepts r 0x490006 (leNat 1 i)) (hi : i ≤ 2) (hon : s.blending = true) (hlocked : s.nat (gk i 1) = 2)
    (hquiet : s.fading = false) (hother : s.nat 0x490005 ≠ i) :
    Gives (.blendTarget r i) s fun t => t.gloaming.fade.map (·.new) = some i ∧ t.nat 0x490012 = 1 := by
  have hslot : i % 256 = i := Nat.mod_eq_of_lt (by omega)
  generalize hu : s.autoTake r 0x490006 = u
  have hon' : u.blending = true := by rw [← hu, autoTake_blending, hon]
  have hquiet' : u.fading = false := by rw [← hu, autoTake_fading, hquiet]
  have hother' : u.nat 0x490005 ≠ i := by
    rwa [← hu, autoTake_nat _ _ _ (by decide) (by decide) (by decide) (by decide)]
  have hlocked' : u.nat (gk i 1) = 2 := by
    rw [gk_eq] at hlocked ⊢
    rw [← hu]
    simpa (disch := omega) using hlocked
  have hact : u.blendCommand i = ((u.startBlend i (u.nat 0x49000A) 0 false).suspendFollowing (u.nat 0x49000A * msTicks), 0) := by
    have hrequest : u.requestBlend (i % 256) (u.nat 0x49000A) 0 false = (u.startBlend i (u.nat 0x49000A) 0 false, 0) := by
      rw [hslot]
      unfold State.requestBlend
      rw [if_neg (by simp [hlocked']), hquiet', if_neg (by decide), if_neg hother']
    unfold State.blendCommand
    rw [hon', if_pos rfl, hrequest]
    rfl
  refine gives_request rfl haccepts (by rw [hu, hact]) ?_
  rw [hu, hact, answered_gloaming, suspendFollowing_fade, reply_nat, touch_nat_other _ _ (by decide), suspendFollowing_nat _ _ (by decide)]
  refine ⟨rfl, ?_⟩
  simp [State.startBlend]

theorem blendFadeReverse_gives {f : BlendFade} (haccepts : s.Accepts r 0x490007 [1]) (hfade : s.gloaming.fade = some f) :
    Gives (.blendFadeReverse r) s fun t => t.gloaming.fade = some { f with reversing := !f.reversing } := by
  refine gives_request rfl haccepts rfl ?_
  have hfade' : (s.autoTake r 0x490007).gloaming.fade = some f := by rw [autoTake_gloaming, hfade]
  rw [accept, answered_gloaming, State.reverseCommand, suspendFollowing_fade]
  unfold State.reverseBlend
  rw [hfade']
  rfl

/-! ### The EQ -/

theorem eqSelect_gives_off {b : Nat} (hi : i < 3) (hb : b < 256) (haccepts : s.Accepts r (gk i 9) (leNat 1 b)) (hoff : s.blending = false) :
    Gives (.eqSelect r i b) s fun t => t.nat (gk i 7) = b := by
  have hexec : exec (.eqSelect r i b) s = .next (s.request r (gk i 9) (leNat 1 b) (accept (State.selectEq i b))) := by
    show execEqSelect r i b s = _
    rw [execEqSelect, Nat.mod_eq_of_lt hi, Nat.mod_eq_of_lt hb]
  have hact : (s.autoTake r (gk i 9)).selectEq i b = (s.autoTake r (gk i 9)).setNat (gk i 7) b := by
    unfold State.selectEq
    rw [autoTake_blending, hoff]
    rfl
  refine gives_request hexec haccepts rfl ?_
  rw [accept, hact, reply_nat, touch_nat_other _ _ (by rw [gk_eq]; omega), setNat_nat, if_pos rfl]

theorem startEq_gslot (i b : Nat) (s : State) (j : Nat) : ((s.startEq i b).gslot j).eqFade =
    if j = i then some ⟨b, s.bytes (gk i (0x0A + b)), 48 * s.nat (gk i 0x0C), 0⟩ else (s.gslot j).eqFade := by
  unfold State.startEq
  by_cases hj : j = i <;> simp [hj]

theorem eqSelect_gives_on {b : Nat} (hi : i < 3) (hb : b < 256) (haccepts : s.Accepts r (gk i 9) (leNat 1 b)) (hon : s.blending = true)
    (hquiet : s.fading = false) (hidle : (s.gslot i).eqFade = none) (hother : s.nat (gk i 7) ≠ b) :
    Gives (.eqSelect r i b) s fun t =>
      (t.gslot i).eqFade = some ⟨b, s.bytes (gk i (0x0A + b)), 48 * s.nat (gk i 0x0C), 0⟩ := by
  have hexec : exec (.eqSelect r i b) s = .next (s.request r (gk i 9) (leNat 1 b) (accept (State.selectEq i b))) := by
    show execEqSelect r i b s = _
    rw [execEqSelect, Nat.mod_eq_of_lt hi, Nat.mod_eq_of_lt hb]
  generalize hu : s.autoTake r (gk i 9) = u
  have hval {sub : Nat} (hsub : sub < 512) : u.val (gk i sub) = s.val (gk i sub) := by
    rw [← hu, gk_eq i sub]
    exact autoTake_val _ _ _ (by omega) (by omega) (by omega) (by omega)
  have hact : u.selectEq i b = u.startEq i b := by
    have hother' : u.nat (gk i 7) ≠ b := by rwa [nat_of_val (hval (by omega))]
    have hbusy : ¬(u.fading || (u.gslot i).eqFade.isSome) = true := by
      rw [← hu]
      simp [hquiet, hidle]
    unfold State.selectEq
    rw [if_neg (by rw [← hu, autoTake_blending, hon]; decide), if_neg hbusy, if_neg hother']
  refine gives_request hexec haccepts rfl ?_
  rw [hu, accept, hact, answered_gslot, startEq_gslot, if_pos rfl, bytes_of_val (hval (by omega)), nat_of_val (hval (by omega))]

/-- A slot with no select pending is left as it is when pending selects start (R237). -/
theorem startPendingEq_idle (hidle : s.nat (gk i 8) = 0xFF) :
    (s.startPendingEq.gslot i).eqFade = (s.gslot i).eqFade ∧ s.startPendingEq.nat (gk i 7) = s.nat (gk i 7) := by
  have hstep (l : List Nat) (u : State) (hu : u.nat (gk i 8) = 0xFF) :
      let v := l.foldl (fun s i =>
        let p := s.nat (gk i 8)
        if p = 0xFF ∨ (s.gslot i).eqFade.isSome then s
        else if p = s.nat (gk i 7) then s.setNat (gk i 8) 0xFF
        else s.startEq i p) u
      (v.gslot i).eqFade = (u.gslot i).eqFade ∧ v.nat (gk i 7) = u.nat (gk i 7) := by
    induction l generalizing u with
    | nil => exact ⟨rfl, rfl⟩
    | cons x l ih =>
      rw [List.foldl_cons]
      dsimp only
      by_cases hx : x = i
      · subst hx
        rw [if_pos (.inl hu)]
        exact ih u hu
      · have h7 : gk i 7 ≠ gk x 8 := by
          simp only [gk_eq]
          omega
        have h8 : gk i 8 ≠ gk x 8 := by
          simp only [gk_eq]
          omega
        split
        · exact ih u hu
        split
        · obtain ⟨hfade, hnat⟩ := ih (u.setNat (gk x 8) 0xFF) (by simp [h8, hu])
          exact ⟨hfade, hnat.trans (by rw [setNat_nat, if_neg h7])⟩
        · obtain ⟨hfade, hnat⟩ := ih (u.startEq x (u.nat (gk x 8))) (by simp [State.startEq, h8, hu])
          exact ⟨hfade.trans (by rw [startEq_gslot, if_neg (Ne.symm hx)]), hnat.trans (by rw [State.startEq, setNat_nat, if_neg h7, setGslot_nat])⟩
  unfold State.startPendingEq
  split
  · exact ⟨rfl, rfl⟩
  · exact hstep _ _ hidle

theorem eqFadeEnd_gives {f : EqFade} (hfade : (s.gslot i).eqFade = some f) (hrun : f.len ≤ f.run) (hidle : s.nat (gk i 8) = 0xFF) :
    Gives (.eqFadeEnd i) s fun t => (t.gslot i).eqFade = none ∧ t.nat (gk i 7) = f.bank := by
  have hexec : exec (.eqFadeEnd i) s =
      .next ((s.setGslot i { s.gslot i with eqFade := none }).setNat (gk i 7) f.bank).startPendingEq := by
    show execEqFadeEnd i s = _
    unfold execEqFadeEnd
    rw [hfade]
    exact congrArg _ (if_pos hrun)
  refine gives_next hexec ?_
  obtain ⟨hslot, hbank⟩ := startPendingEq_idle (s := (s.setGslot i { s.gslot i with eqFade := none }).setNat (gk i 7) f.bank) (i := i)
    (by simpa [gk_eq] using hidle)
  rw [hslot, hbank]
  simp

theorem bank_apart {n : Nat} (hn : n ≤ 1) (i : Nat) : gk i (0x0B - n) ≠ gk i 7 ∧ gk i (0x0B - n) ≠ gk i 8 := by
  simp only [gk_eq]
  omega

/-- A select of a bank leaves every subindex but the bank in force and the one pending (R237). -/
theorem selectEq_spares {b : Nat} (h7 : k ≠ gk i 7) (h8 : k ≠ gk i 8) : s.Spares k (s.selectEq i b) := by
  unfold State.selectEq State.startEq
  exact .ite (.setNat h7) (.ite (.setNat h8) (.ite .refl (.step (.setNat h8) <| .step (.keeps setGslot_keeps) .refl)))

/-- What tonal matching leaves of a slot whose gains it has found (R237). -/
def State.matchTone (i : Nat) (gains : List Int) (s : State) : State :=
  let g := s.gslot i
  let inForce := s.nat (gk i 7)
  let bank := tonalBank gains
  let s := s.setBytes (gk i (0x0B - inForce)) bank
  let far := ((eqGains bank).zip (eqGains (s.bytes (gk i (0x0A + inForce))))).any fun p =>
    decide (15 ≤ (p.1 - p.2).natAbs)
  let due := match g.selectAt with
    | some t => decide (t + 4608000000 ≤ s.gnomon)
    | none => true
  if far && due then (s.setGslot i { s.gslot i with selectAt := some s.gnomon }).selectEq i (1 - inForce) else s

theorem matchTone_bytes {gains : List Int} (hbank : s.nat (gk i 7) ≤ 1) :
    (s.matchTone i gains).bytes (gk i (0x0B - s.nat (gk i 7))) = tonalBank gains := by
  obtain ⟨h7, h8⟩ := bank_apart hbank i
  have hselect (g : GSlot) (b : Nat) (u : State) :
      ((u.setGslot i g).selectEq i b).bytes (gk i (0x0B - s.nat (gk i 7))) = u.bytes (gk i (0x0B - s.nat (gk i 7))) :=
    bytes_of_val (State.Spares.step (selectEq_spares h7 h8) <| .keeps setGslot_keeps)
  unfold State.matchTone
  extract_lets
  rw [apply_ite (State.bytes · _), hselect, ite_self, setBytes_bytes, if_pos rfl]

theorem tonalMatchUpdate_gives {gains : List Int} (hgains : s.bandGains i = some gains) (hon : s.blending = true) (hauto : s.nat 0x49000F = 1)
    (hi : i ≤ 2) (hlocked : s.nat (gk i 1) = 2) (hother : s.nat 0x490005 ≠ i) (hidle : (s.gslot i).eqFade = none) (hbank : s.nat (gk i 7) ≤ 1) :
    Gives (.tonalMatchUpdate i) s fun t => t.bytes (gk i (0x0B - s.nat (gk i 7))) = tonalBank gains := by
  have hexec : exec (.tonalMatchUpdate i) s = .next (s.matchTone i gains) := by
    show execTonalMatchUpdate i s = _
    unfold execTonalMatchUpdate
    rw [hgains]
    exact congrArg _ (if_pos ⟨hon, hauto, hi, hlocked, hother, hidle⟩)
  exact gives_next hexec (matchTone_bytes hbank)

/-! ### The output -/

/-- The frames written, and the one that is next, are the same. -/
def State.SameOutput (s t : State) : Prop := t.gloaming.next = s.gloaming.next ∧ t.gloaming.output = s.gloaming.output

namespace State.SameOutput
variable {s t u : State}

theorem refl : s.SameOutput s := ⟨rfl, rfl⟩

theorem trans (h : s.SameOutput t) (g : t.SameOutput u) : s.SameOutput u := ⟨g.1.trans h.1, g.2.trans h.2⟩

theorem ite {c : Prop} [Decidable c] (h : s.SameOutput t) (g : s.SameOutput u) : s.SameOutput (if c then t else u) := by
  split <;> assumption

theorem foldl {α : Type} {f : State → α → State} {xs : List α} (hf : ∀ (t : State) x, t.SameOutput (f t x)) (h : s.SameOutput t) :
    s.SameOutput (xs.foldl f t) := by
  induction xs generalizing t with
  | nil => exact h
  | cons x xs ih => exact ih (h.trans (hf t x))

end State.SameOutput

/-- The slots one frame on write no frame (R233, R235 to R237). -/
theorem advanceSlots_output (s : State) : s.SameOutput s.advanceSlots := by
  unfold State.advanceSlots
  extract_lets s1
  have h1 : s.SameOutput s1 := by
    refine .foldl (fun t x => ?_) .refl
    extract_lets g busy held g1 level u g2
    have hu : t.SameOutput u := .ite .refl ⟨rfl, rfl⟩
    split
    · exact .ite hu (hu.trans ⟨rfl, rfl⟩)
    · exact .ite (hu.trans ⟨rfl, rfl⟩) (.ite (hu.trans ⟨rfl, rfl⟩) (.ite (hu.trans ⟨rfl, rfl⟩) (hu.trans ⟨rfl, rfl⟩)))
  split
  · exact h1
  · exact .ite (h1.trans ⟨rfl, rfl⟩) (h1.trans ⟨rfl, rfl⟩)

/-- The slots read for a frame (R231, R236 to R238). -/
theorem slotsOut_output (v due : Nat) (is : List Nat) (p : State × List (Option (Rat × Rat))) (h : s.SameOutput p.1) :
    s.SameOutput (is.foldl (fun (t : State × List (Option (Rat × Rat))) i =>
      if t.1.slotSource i = 0 then (t.1, t.2 ++ [none])
      else
        let o := t.1.slotOut i (v / 3200) due
        (o.1, t.2 ++ [o.2])) p).1 := by
  induction is generalizing p with
  | nil => exact h
  | cons i is ih =>
    refine ih _ ?_
    dsimp only
    split
    · exact h
    · exact h.trans ⟨rfl, rfl⟩

theorem lastN_append {α : Type} (n : Nat) (l : List α) (x : α) (hn : 1 ≤ n) :
    (lastN n (l ++ [x])).getLast? = some x ∧ (lastN n (l ++ [x])).length = min n (l.length + 1) := by
  unfold lastN
  refine ⟨?_, ?_⟩
  · rw [List.getLast?_drop, if_neg (by simp; omega), List.getLast?_concat]
  · simp
    omega

/-- A frame written (R230): the fade as it is then, the next frame, the frames. -/
def State.writeFrame (fade : Option BlendFade) (next : Nat) (frames : List AudioFrame) (s : State) : State :=
  { s with gloaming := { s.gloaming with fade := fade, next := next, output := frames } }

/-- The weight shown of a fade that runs (R238). -/
theorem showWeight_output (fade : Option BlendFade) (s : State) : s.SameOutput (match fade with
    | some f => s.setNat 0x490013 f.weight
    | none => s) := by
  cases fade <;> exact .refl

theorem writeFrame_output {fade : Option BlendFade} {next : Nat} {frames : List AudioFrame}
    (h : (s.writeFrame fade next frames).SameOutput t) : t.gloaming.next = next ∧ t.gloaming.output = frames := h

theorem emitFrame_output (gain : Rat) (s : State) :
    (s.emitFrame gain).gloaming.next = s.gloaming.next + 3200 ∧
      ((s.emitFrame gain).gloaming.output.getLast?).map (·.i) = some (s.gloaming.next / 3200) ∧
      (s.emitFrame gain).gloaming.output.length = min 4096 (s.gloaming.output.length + 1) := by
  unfold State.emitFrame
  extract_lets v due fade used p s1 heard missing silent y frame s2 s3 _ s4 s5
  obtain ⟨_, hout⟩ : s.SameOutput s1 := slotsOut_output v due _ (s, []) .refl
  have hframe : frame.i = s.gloaming.next / 3200 := rfl
  have hsame : s3.gloaming.output = s1.gloaming.output := rfl
  clear_value frame s3
  have hwritten : (s3.writeFrame fade (s.gloaming.next + 3200) (lastN 4096 (s3.gloaming.output ++ [frame]))).SameOutput s5.advanceSlots :=
    (showWeight_output fade s4).trans (advanceSlots_output s5)
  obtain ⟨hnext, houtput⟩ := writeFrame_output hwritten
  obtain ⟨hlast, hlength⟩ := lastN_append 4096 s3.gloaming.output frame (by decide)
  rw [hnext, houtput, hlast, ← hout, ← hsame, hlength, ← hframe]
  exact ⟨rfl, rfl, rfl⟩

theorem blendOutputFrame_gives (hon : s.blending = true) (hdue : s.gloaming.next + s.nat 0x490011 ≤ s.gnomon) :
    Gives .blendOutputFrame s fun t => t.gloaming.next = s.gloaming.next + 3200 ∧
      (t.gloaming.output.getLast?).map (·.i) = some (s.gloaming.next / 3200) ∧
      t.gloaming.output.length = min 4096 (s.gloaming.output.length + 1) := by
  have hexec : exec .blendOutputFrame s = .next (s.emitFrame 1) := congrArg _ (if_pos ⟨hon, hdue⟩)
  exact gives_next hexec (emitFrame_output 1 s)

/-- Settles O12, clause by clause. -/
theorem gloamingCompletes : Obligations.GloamingCompletes := by
  unfold Obligations.GloamingCompletes
  exact ⟨fun _ _ => gloamingEnable_gives, fun _ _ => gloamingDisable_gives, fun _ _ _ _ => slotSourceWrite_gives,
    fun _ _ _ _ => lagEstimate_gives, fun _ _ _ => blendTarget_gives, fun _ _ _ => blendFadeReverse_gives,
    fun _ _ _ _ => eqSelect_gives_off, fun _ _ _ _ => eqSelect_gives_on, fun _ _ _ => eqFadeEnd_gives,
    fun _ _ _ => tonalMatchUpdate_gives, fun _ => blendOutputFrame_gives⟩

end Sys2Proof.Machine
end

section
/-!
PROOFS. What the commands of the DRM receivers and decoders leave (R208 to R217).
-/
namespace Sys2Proof.Machine

-- One proof after another keeps the memory of the whole text's compile low.
set_option Elab.async false

variable {s t : State} {e k m n : Nat}

/-! ### The receivers -/

@[simp] theorem setNat_drm (k n : Nat) (s : State) (j : Nat) : (s.setNat k n).drm j = s.drm j := rfl

@[simp] theorem setNum_drm (k : Nat) (n : Int) (s : State) (j : Nat) : (s.setNum k n).drm j = s.drm j := rfl

@[simp] theorem setBytes_drm (k : Nat) (b : Bytes) (s : State) (j : Nat) : (s.setBytes k b).drm j = s.drm j := rfl

@[simp] theorem bumpBy_drm (k n : Nat) (s : State) (j : Nat) : (s.bumpBy k n).drm j = s.drm j := rfl

@[simp] theorem bump_drm (k : Nat) (s : State) (j : Nat) : (s.bump k).drm j = s.drm j := rfl

@[simp] theorem setDrm_val (e : Nat) (d : Drm) (s : State) (k : Nat) : (s.setDrm e d).val k = s.val k := rfl

@[simp] theorem setDrm_nat (e : Nat) (d : Drm) (s : State) (k : Nat) : (s.setDrm e d).nat k = s.nat k := rfl

theorem drm_of_drms (h : t.drms = s.drms) (e : Nat) : t.drm e = s.drm e := congrArg (Map.get (fun _ => Drm.init) · e) h

@[simp] theorem raise_drm (cls kind src : Nat) (fields : List (Nat × Int)) (s : State) (e : Nat) :
    (s.raise cls kind src fields).drm e = s.drm e := drm_of_drms (raise_drms cls kind src fields s) e

@[simp] theorem judgeDrm_drm (e : Nat) (s : State) (j : Nat) : (s.judgeDrm e).drm j = s.drm j := drm_of_drms (judgeDrm_keeps.same .drms (by decide)) j

theorem drmRuns_lt (hruns : s.drmRuns e = true) : e < 12 := by
  simp only [State.drmRuns, State.runs, State.loadedWith, Bool.or_eq_true, Bool.and_eq_true, decide_eq_true_eq] at hruns
  omega

theorem runs_lt {image : Nat} (hruns : s.runs e image = true) : e < 12 := by
  simp only [State.runs, State.loadedWith, Bool.and_eq_true, decide_eq_true_eq] at hruns
  omega

theorem drmDecoders_lt (hm : m ∈ s.drmDecoders e) : m < 12 := List.mem_range.mp (List.mem_filter.mp hm).1

/-- The subindices of the decoders of DRM (R215). -/
theorem decoder_apart (hk : k < 0x478000 ∨ 0x478BFF < k) (hm : m < 12) (hsub : n < 256) : k ≠ rdec m n := by
  simp only [obj_eq]
  omega

theorem judgeDrm_spares (hk : k < 0x478000 ∨ 0x478BFF < k) : s.Spares k (s.judgeDrm e) := by
  unfold State.judgeDrm
  exact .foldl (fun _ m hm => .setNat (decoder_apart hk (drmDecoders_lt hm) (by decide))) .refl

/-- A change of state writes the state, its counts and the frame start (R209). -/
theorem setDrmState_spares (h1 : k ≠ rk e 1) (h8 : k ≠ rk e 8) (h9 : k ≠ rk e 9) (ha : k ≠ rk e 0x0A) (hevent : k ∉ eventKeys) :
    s.Spares k (s.setDrmState e n) := by
  have hset {d} {u : State} : u.Spares k (u.setDrm e d) := .keeps setDrm_keeps
  unfold State.setDrmState
  exact .ite .refl (.step (.raise hevent) <| .iteThen (.ite (.step hset <| .step (.bump h8) <| .step hset <|
    .step (.setNat h1) .refl) (.iteThen (.step hset <| .step (.setNat h1) .refl) (.bump h9))) (.step (.setNat ha) <| .step hset .refl))

/-- The subindices of a receiver that hold no event. -/
theorem receiver_event (he : e < 12) (hn : n < 256) : rk e n ∉ eventKeys :=
  notMem_eventKeys (by simp only [obj_eq]; omega) (by simp only [obj_eq]; omega) (by simp only [obj_eq]; omega)

theorem setDrmState_nat (he : e < 12) (hn : n < 256) (new : Nat) (h1 : n ≠ 1) (h8 : n ≠ 8) (h9 : n ≠ 9) (ha : n ≠ 0x0A) :
    (s.setDrmState e new).nat (rk e n) = s.nat (rk e n) :=
  State.Spares.nat (setDrmState_spares (obj_ne h1) (obj_ne h8) (obj_ne h9) (obj_ne ha) (receiver_event he hn))

/-- The state of a receiver after a change of it (R209). -/
theorem setDrmState_state (he : e < 12) (new : Nat) : (s.setDrmState e new).drmState e = new := by
  have hraise (old : Nat) (u : State) : (u.raise 17 1 (0x200 + e) [(1, old), (1, new)]).nat (rk e 1) = u.nat (rk e 1) :=
    (State.Spares.raise (receiver_event he (by decide))).nat
  have h8 : rk e 1 ≠ rk e 8 := obj_ne (by decide)
  have h9 : rk e 1 ≠ rk e 9 := obj_ne (by decide)
  have ha : rk e 1 ≠ rk e 0x0A := obj_ne (by decide)
  unfold State.setDrmState State.drmState
  extract_lets old _ s1 _ s2 _ s3
  have h1 : s1.nat (rk e 1) = new := by simp [s1]
  have h2 : s2.nat (rk e 1) = new := by
    simp only [s2]
    split
    · rw [setDrm_nat, bump_nat, if_neg h8, h1]
    split
    · rw [bump_nat, if_neg h9, h1]
    · exact h1
  split
  next hsame => exact hsame
  next =>
    rw [hraise]
    simp only [s3]
    split
    · rw [setNat_nat, if_neg ha, setDrm_nat, h2]
    · exact h2

/-- What a change of state leaves of a receiver's record but the entry to the state and what acquisition has found (R209, R210). -/
theorem setDrmState_drm (hnew : s.drmState e ≠ n) :
    ((s.setDrmState e n).drm e).since = s.gnomon ∧ ((s.setDrmState e n).drm e).services = (s.drm e).services ∧
      ((s.setDrmState e n).drm e).goodRun = 0 ∧
      (2 < n → ((s.setDrmState e n).drm e).keptCells = (s.drm e).keptCells ∧ ((s.setDrmState e n).drm e).frames = (s.drm e).frames) := by
  unfold State.setDrmState
  extract_lets old d0 s1 d1 s2 d2 s3
  rw [if_neg hnew]
  have h1 : s1.drm e = { s.drm e with since := s.gnomon, leader := none, lastSync := none, goodRun := 0, badRun := 0 } := by simp [s1, d0]
  have h2 : (s2.drm e).since = s.gnomon ∧ (s2.drm e).services = (s.drm e).services ∧ (s2.drm e).goodRun = 0 ∧
      (s2.drm e).keptCells = (s.drm e).keptCells ∧ (s2.drm e).frames = (s.drm e).frames := by
    simp only [s2]
    split
    · simp [d1, h1]
    split
    · simp [h1]
    · simp [h1]
  obtain ⟨hsince, hservices, hgood, hcells, hframes⟩ := h2
  simp only [raise_drm, s3]
  split
  next hlow =>
    refine ⟨?_, ?_, ?_, fun h => by omega⟩
    · simp [d2, hsince]
    · simp [d2, hservices]
    · simp [d2, hgood]
  next => exact ⟨hsince, hservices, hgood, fun _ => ⟨hcells, hframes⟩⟩

theorem drmModeFound_gives (hruns : s.drmRuns e = true) (hstate : s.drmState e = 1) (hlow : 1 ≤ m) (hhigh : m ≤ 4)
    (hwindow : 1 ≤ (s.gnomon - (s.drm e).since) / 30720000)
    (hleads : (s.drm e).leader = some (m, (s.gnomon - (s.drm e).since) / 30720000 - 1)) :
    Gives (.drmModeFound e m) s fun t => t.drmState e = 2 ∧
      t.nat (rk e 3) = if s.cnat (rk e 2) = 0 then m else s.cnat (rk e 2) := by
  have he := drmRuns_lt hruns
  have hserves : s.drmRuns e = true ∧ s.drmState e = 1 ∧ 1 ≤ m ∧ m ≤ 4 ∧ 1 ≤ (s.gnomon - (s.drm e).since) / 30720000 ∧
      (s.drm e).leader.all (fun l => decide (l.2 < (s.gnomon - (s.drm e).since) / 30720000)) = true := by
    refine ⟨hruns, hstate, hlow, hhigh, hwindow, ?_⟩
    rw [hleads]
    simp only [Option.all_some, decide_eq_true_eq]
    omega
  have hexec : exec (.drmModeFound e m) s = .next ((s.setDrmState e 2).setNat (rk e 3) (if s.cnat (rk e 2) = 0 then m else s.cnat (rk e 2))) := by
    show execDrmModeFound e m s = _
    unfold execDrmModeFound
    exact congrArg _ ((if_pos hserves).trans (if_pos hleads))
  refine gives_next hexec ⟨?_, ?_⟩
  · have h3 : rk e 1 ≠ rk e 3 := obj_ne (by decide)
    rw [State.drmState, setNat_nat, if_neg h3]
    exact setDrmState_state he 2
  · rw [setNat_nat, if_pos rfl]

theorem drmFrameSync_gives {at_ b : Nat} {off : Int} (hruns : s.drmRuns e = true) (hstate : s.drmState e = 2) (hlow : -300 ≤ off)
    (hhigh : off ≤ 300) (hsince : (s.drm e).since ≤ at_) (hlast : (s.drm e).lastSync = some b)
    (hnext : nextFrame (drmFrameTicks (s.nat (rk e 3))) b at_ = true) :
    Gives (.drmFrameSync e at_ off) s fun t => t.drmState e = 3 ∧ t.num (rk e 6) = off ∧ t.nat (rk e 0x0A) = at_ ∧
      (t.drm e).kept = some at_ := by
  have he := drmRuns_lt hruns
  have hserves : s.drmRuns e = true ∧ s.drmState e = 2 ∧ -(if (s.engine e).image = 0x0105 then 2000 else 300 : Int) ≤ off ∧
      off ≤ (if (s.engine e).image = 0x0105 then 2000 else 300) ∧ (s.drm e).since ≤ at_ := by
    refine ⟨hruns, hstate, ?_, ?_, hsince⟩ <;> split <;> omega
  have hsync : ((s.drm e).lastSync.any fun b => nextFrame (drmFrameTicks (s.nat (rk e 3))) b at_) = true := by
    rw [hlast]
    exact hnext
  refine ⟨_, rfl, ?_⟩
  extract_lets pull d u
  rw [if_pos hserves, if_pos hsync]
  have h6 : rk e 1 ≠ rk e 6 := obj_ne (by decide)
  have ha : rk e 1 ≠ rk e 0x0A := obj_ne (by decide)
  have h6a : rk e 6 ≠ rk e 0x0A := obj_ne (by decide)
  refine ⟨?_, ?_, ?_, ?_⟩
  · rw [State.drmState, setDrm_nat]
    simp only [u]
    rw [setNat_nat, if_neg ha, setNum_nat, if_neg h6]
    exact setDrmState_state he 3
  · rw [num_of_val_eq (setDrm_val _ _ _ _)]
    simp only [u]
    rw [setNat_num, if_neg h6a, setNum_num, if_pos rfl]
  · rw [setDrm_nat]
    simp only [u]
    rw [setNat_nat, if_pos rfl]
  · rw [setDrm_drm, if_pos rfl]

theorem storeFrame_spares {start : Nat} {cells : List (Option DrmCell)} (h6 : k ≠ rq e 6) : s.Spares k (s.storeFrame e start cells) := by
  unfold State.storeFrame
  exact .step (.bumpBy h6) <| .keeps setDrm_keeps

/-- A frame stored counts one more, and keeps the other cells and the runs of FACs (R210). -/
theorem storeFrame_drm (start : Nat) (cells : List (Option DrmCell)) (s : State) :
    ((s.storeFrame e start cells).drm e).frames = (s.drm e).frames + 1 ∧
      ((s.storeFrame e start cells).drm e).keptCells = (s.drm e).keptCells ∧
      ((s.storeFrame e start cells).drm e).goodRun = (s.drm e).goodRun ∧ ((s.storeFrame e start cells).drm e).badRun = (s.drm e).badRun ∧
      ((s.storeFrame e start cells).drm e).facs = (s.drm e).facs := by
  unfold State.storeFrame
  simp

theorem storeFrames_drm (fs : List (Nat × List (Option DrmCell))) (s : State) :
    ((fs.foldl (fun s f => s.storeFrame e f.1 f.2) s).drm e).frames = (s.drm e).frames + fs.length ∧
      ((fs.foldl (fun s f => s.storeFrame e f.1 f.2) s).drm e).keptCells = (s.drm e).keptCells := by
  induction fs generalizing s with
  | nil => exact ⟨rfl, rfl⟩
  | cons f fs ih =>
    obtain ⟨hframes, hcells⟩ := ih (s.storeFrame e f.1 f.2)
    obtain ⟨hframe, hcell, _, _, _⟩ := storeFrame_drm (e := e) f.1 f.2 s
    rw [List.foldl_cons, hframes, hcells, hframe, hcell, List.length_cons]
    exact ⟨by omega, rfl⟩

theorem drmFacAcquired_gives {o c : Nat} (hruns : s.drmRuns e = true) (hstate : s.drmState e = 3) (hgood : 2 ≤ (s.drm e).goodRun)
    (hfac : facSupported ((s.engine e).image == 0x0105) o c = true) :
    Gives (.drmFacAcquired e o c) s fun t => t.drmState e = 4 ∧ t.nat (rk e 4) = o ∧ t.nat (rk e 5) = c ∧
      (t.drm e).keptCells = [] ∧ (t.drm e).frames = (s.drm e).frames + (s.drm e).keptCells.length := by
  have he := drmRuns_lt hruns
  have hserves : s.drmRuns e = true ∧ (s.drmState e = 3 ∧ 2 ≤ (s.drm e).goodRun ∨ s.drmState e = 5 ∧ 1 ≤ (s.drm e).goodRun) ∧
      facSupported ((s.engine e).image == 0x0105) o c = true := ⟨hruns, .inl ⟨hstate, hgood⟩, hfac⟩
  refine ⟨_, rfl, ?_⟩
  extract_lets plus d u _ v
  rw [if_pos hserves]
  have hspares {n : Nat} (hn : n < 256) : u.Spares (rk e n) (v.judgeDrm e) :=
    .step (judgeDrm_spares (by simp only [obj_eq]; omega)) <| .foldl (fun _ _ _ => storeFrame_spares (by simp only [obj_eq]; omega)) <|
      .keeps setDrm_keeps
  have h4 : rk e 1 ≠ rk e 4 := obj_ne (by decide)
  have h5 : rk e 1 ≠ rk e 5 := obj_ne (by decide)
  have h45 : rk e 4 ≠ rk e 5 := obj_ne (by decide)
  obtain ⟨_, _, _, hkeeps⟩ := setDrmState_drm (s := s) (e := e) (n := 4) (by omega)
  obtain ⟨_, hframes⟩ := hkeeps (by decide)
  obtain ⟨hcount, hcells⟩ := storeFrames_drm (e := e) d.keptCells (u.setDrm e { u.drm e with keptCells := [] })
  refine ⟨?_, ?_, ?_, ?_, ?_⟩
  · rw [State.drmState, (hspares (by decide)).nat]
    simp only [u]
    rw [setNat_nat, if_neg h5, setNat_nat, if_neg h4]
    exact setDrmState_state he 4
  · rw [(hspares (by decide)).nat]
    simp only [u]
    rw [setNat_nat, if_neg h45, setNat_nat, if_pos rfl]
  · rw [(hspares (by decide)).nat]
    simp only [u]
    rw [setNat_nat, if_pos rfl]
  · rw [judgeDrm_drm]
    refine hcells.trans ?_
    rw [setDrm_drm, if_pos rfl]
  · rw [judgeDrm_drm]
    refine hcount.trans ?_
    rw [setDrm_drm, if_pos rfl]
    exact congrArg (· + d.keptCells.length) hframes

theorem drmSyncLost_gives {timing : Bool} (hruns : s.drmRuns e = true) (hstate : s.drmState e = 4) (hlost : timing = true ∨ 5 ≤ (s.drm e).badRun) :
    Gives (.drmSyncLost e timing) s fun t => t.drmState e = 5 ∧ (t.drm e).since = s.gnomon := by
  have he := drmRuns_lt hruns
  have hexec : exec (.drmSyncLost e timing) s = .next ((s.setDrmState e 5).judgeDrm e) := congrArg _ (if_pos ⟨hruns, hstate, hlost⟩)
  obtain ⟨hsince, _, _, _⟩ := setDrmState_drm (s := s) (e := e) (n := 5) (by omega)
  refine gives_next hexec ⟨?_, ?_⟩
  · rw [State.drmState, (judgeDrm_spares (by simp only [obj_eq]; omega)).nat]
    exact setDrmState_state he 5
  · rw [judgeDrm_drm, hsince]

/-! ### The cold start -/

theorem drmRestart_spares (h3 : k ≠ rk e 3) (h1 : k ≠ rk e 1) (h8 : k ≠ rk e 8) (h9 : k ≠ rk e 9) (ha : k ≠ rk e 0x0A) (hevent : k ∉ eventKeys) :
    s.Spares k (s.drmRestart e) := by
  unfold State.drmRestart
  exact .step (.setNat h3) (setDrmState_spares h1 h8 h9 ha hevent)

theorem drmRestart_state (he : e < 12) : (s.drmRestart e).drmState e = s.drmFirst e := by
  unfold State.drmRestart State.drmState
  rw [setNat_nat, if_neg (obj_ne (by decide))]
  exact setDrmState_state he _

theorem publishDrmSi_spares (h1 : k ≠ rsi e 1) : s.Spares k (s.publishDrmSi e) := by
  unfold State.publishDrmSi
  exact .step (.setBytes h1) <| .keeps setDrm_keeps

theorem publishAlternatives_spares (h1 : k ≠ ralt e 1) : s.Spares k (s.publishAlternatives e) := by
  unfold State.publishAlternatives
  exact .step (.setBytes h1) <| .keeps setDrm_keeps

theorem publishDrmSi_drm (e : Nat) (s : State) : (s.publishDrmSi e).drm e = { s.drm e with siSeq := ((s.drm e).siSeq + 1) % 65536 } := by
  simp [State.publishDrmSi]

theorem publishAlternatives_drm (e : Nat) (s : State) :
    (s.publishAlternatives e).drm e = { s.drm e with altSeq := ((s.drm e).altSeq + 1) % 65536 } := by
  simp [State.publishAlternatives]

/-- A cold start of a receiver (R216): its first state, and no service. -/
theorem drmColdStart_gives (he : e < 12) : (s.drmColdStart e).drmState e = s.drmFirst e ∧ ((s.drmColdStart e).drm e).services = [] := by
  have hdecoders (l : List Nat) (hl : ∀ m ∈ l, m < 12) (u : State) :
      u.Spares (rk e 1) (l.foldl (fun s m => (s.setNat (rdec m 3) (if s.drmSelection m = 0 then 0 else 1)).speak m 0 Voice.restart) u) :=
    .foldl (fun _ m hm => .step (.keeps speak_keeps) <| .setNat (decoder_apart (by simp only [obj_eq]; omega) (hl m hm) (by decide))) .refl
  have hvoices (l : List Nat) (u : State) : u.Keeps [.dict, .shm, .pcm, .pcmSeq, .heard, .voices, .gloaming]
      (l.foldl (fun s m => (s.setNat (rdec m 3) (if s.drmSelection m = 0 then 0 else 1)).speak m 0 Voice.restart) u) :=
    .foldl (fun _ _ => .step speak_keeps <| .step setNat_keeps .refl) .refl
  unfold State.drmColdStart
  extract_lets d s1 d0 s2 s3 s4 s5
  have h3 : s1.Spares (rk e 1) s3 := by
    refine .step (.setAll fun p hp => ?_) <| .keeps setDrm_keeps
    simp only [List.mem_cons, List.not_mem_nil, or_false] at hp
    rcases hp with rfl | rfl | rfl | rfl | rfl | rfl | rfl | rfl | rfl | rfl | rfl <;> simp only [obj_eq] <;> omega
  have h4 : s3.Spares (rk e 1) s4 := .ite .refl (.keeps await_keeps)
  have h5 : s4.Spares (rk e 1) s5 := .step (publishAlternatives_spares (by simp only [obj_eq]; omega)) <|
    publishDrmSi_spares (by simp only [obj_eq]; omega)
  have hdrm3 : (s3.drm e).services = [] := by
    simp only [s3]
    rw [drm_of_drms (setAll_keeps.same .drms (by decide))]
    simp [s2, d0, Drm.init]
  have hawaits : s3.Keeps [.awaiting] s4 := .ite .refl await_keeps
  have hdrm4 : s4.drm e = s3.drm e := drm_of_drms (hawaits.same .drms (by decide)) e
  refine ⟨?_, ?_⟩
  · rw [State.drmState, (hdecoders _ (fun m => drmDecoders_lt) s5).nat, h5.nat, h4.nat, h3.nat]
    exact drmRestart_state he
  · rw [drm_of_drms ((hvoices _ s5).same .drms (by decide))]
    simp only [s5]
    rw [publishAlternatives_drm, publishDrmSi_drm, hdrm4, hdrm3]

theorem drmLostTimeout_gives (hruns : s.drmRuns e = true) (hstate : s.drmState e = 5)
    (hover : (s.drm e).since + s.nat (rk e 7) * msTicks ≤ s.gnomon) :
    Gives (.drmLostTimeout e) s fun t => t.drmState e = s.drmFirst e ∧ (t.drm e).services = [] := by
  have hexec : exec (.drmLostTimeout e) s = .next (s.drmColdStart e) := congrArg _ (if_pos ⟨hruns, hstate, hover⟩)
  exact gives_next hexec (drmColdStart_gives (drmRuns_lt hruns))

theorem drmAcquisitionFail_gives (hruns : s.drmRuns e = true) (hlow : 2 ≤ s.drmState e) (hhigh : s.drmState e ≤ 3)
    (hover : (s.drm e).since + (if s.drmState e = 2 then 4 else 10) * drmFrameTicks (s.nat (rk e 3)) ≤ s.gnomon) :
    Gives (.drmAcquisitionFail e) s fun t => t.drmState e = if (s.engine e).image = 0x0105 then 2 else 1 := by
  have he := drmRuns_lt hruns
  have hserves : s.drmRuns e = true ∧ (s.drmState e = 2 ∨ s.drmState e = 3) ∧
      (s.drm e).since + (if s.drmState e = 2 then 4 else 10) * drmFrameTicks (s.nat (rk e 3)) ≤ s.gnomon := ⟨hruns, by omega, hover⟩
  refine ⟨_, rfl, ?_⟩
  extract_lets frames d
  rw [if_pos hserves]
  split
  next hplus =>
    split
    next hsearch => exact hsearch
    next =>
      rw [drmRestart_state he, State.drmFirst, if_pos (.inl hplus)]
  next =>
    rw [State.drmState, setNat_nat, if_neg (obj_ne (by decide))]
    exact setDrmState_state he 1

/-! ### Frames -/

/-- The checks of FACs are the same in two states. -/
def State.SameFacs (e : Nat) (s t : State) : Prop :=
  (t.drm e).goodRun = (s.drm e).goodRun ∧ (t.drm e).badRun = (s.drm e).badRun ∧ (t.drm e).facs = (s.drm e).facs

namespace State.SameFacs
variable {F : List FieldName} {u : State}

theorem refl : s.SameFacs e s := ⟨rfl, rfl, rfl⟩

theorem trans (h : s.SameFacs e t) (g : t.SameFacs e u) : s.SameFacs e u :=
  ⟨g.1.trans h.1, g.2.1.trans h.2.1, g.2.2.trans h.2.2⟩

theorem step (h : t.SameFacs e u) (g : s.SameFacs e t) : s.SameFacs e u := g.trans h

theorem ite {c : Prop} [Decidable c] (h : s.SameFacs e t) (g : s.SameFacs e u) : s.SameFacs e (if c then t else u) := by
  split <;> assumption

theorem keeps (h : s.Keeps F t) (hF : .drms ∉ F := by decide) : s.SameFacs e t := by
  rw [SameFacs, drm_of_drms (h.same .drms hF)]
  exact ⟨rfl, rfl, rfl⟩

theorem setDrm {d : Drm} (hgood : d.goodRun = (s.drm e).goodRun) (hbad : d.badRun = (s.drm e).badRun) (hfacs : d.facs = (s.drm e).facs) :
    s.SameFacs e (s.setDrm e d) := by
  rw [SameFacs, setDrm_drm, if_pos rfl]
  exact ⟨hgood, hbad, hfacs⟩

end State.SameFacs

theorem storeFrame_facs (start : Nat) (cells : List (Option DrmCell)) : s.SameFacs e (s.storeFrame e start cells) := by
  obtain ⟨_, _, hgood, hbad, hfacs⟩ := storeFrame_drm (e := e) start cells s
  exact ⟨hgood, hbad, hfacs⟩

theorem pushDrmGroups_facs (instant : Nat) (gs : List DrmGroup) (s : State) : s.SameFacs e (s.pushDrmGroups e instant gs) := by
  induction gs generalizing s with
  | nil => exact .refl
  | cons g gs ih =>
    have hpushed {k room rec} : s.SameFacs e (s.pushBytes k room rec).1 := .keeps pushBytes_keeps
    have hdrm {k room rec} : (s.pushBytes k room rec).1.drm e = s.drm e := drm_of_drms (pushBytes_keeps.same .drms (by decide)) e
    unfold State.pushDrmGroups
    refine .trans (.ite (.keeps bump_keeps) ?_) (ih _)
    extract_lets d r
    exact .ite (.step (.keeps countDrop_keeps) <| .step (.keeps bump_keeps) hpushed)
      (.step (.setDrm (by rw [hdrm]) (by rw [hdrm]) (by rw [hdrm])) hpushed)

theorem pushDrmGroups_spares {instant : Nat} (gs : List DrmGroup) (s : State) (h2 : k ≠ rdat e 2) (h3 : k ≠ rdat e 3) :
    s.Spares k (s.pushDrmGroups e instant gs) := by
  induction gs generalizing s with
  | nil => exact .refl
  | cons g gs ih =>
    unfold State.pushDrmGroups
    exact .trans (.ite (.bump h3) (.ite (.step (.keeps countDrop_keeps) <| .step (.bump h2) <| .keeps pushBytes_keeps)
      (.step (.keeps setDrm_keeps) <| .keeps pushBytes_keeps))) (ih _)

theorem queueMsc_facs (depth : Nat) (groups : List DrmGroup) (fs : List Bytes) (s : State) : s.SameFacs e (s.queueMsc e depth groups fs) := by
  induction fs generalizing s with
  | nil => exact .refl
  | cons f fs ih =>
    unfold State.queueMsc
    extract_lets d
    split
    next => exact .refl
    next at_ rest _ =>
      refine .ite .refl ?_
      extract_lets u _ v
      have hu : s.SameFacs e u := by
        simp only [u]
        exact .setDrm rfl rfl rfl
      have hv : u.SameFacs e v := by
        simp only [v]
        exact .ite (.setDrm rfl rfl rfl) (.keeps countDrop_keeps)
      have hv : s.SameFacs e v := hu.trans hv
      exact .trans (.ite (hv.trans (pushDrmGroups_facs _ _ _)) hv) (ih _)

theorem queueMsc_spares {depth : Nat} {groups : List DrmGroup} (fs : List Bytes) (s : State) (h2 : k ≠ rdat e 2) (h3 : k ≠ rdat e 3) :
    s.Spares k (s.queueMsc e depth groups fs) := by
  induction fs generalizing s with
  | nil => exact .refl
  | cons f fs ih =>
    unfold State.queueMsc
    dsimp only
    split
    · exact .refl
    · exact .ite .refl (.trans (.iteThen (.ite (.step (.keeps setDrm_keeps) <| .keeps setDrm_keeps)
        (.step (.keeps countDrop_keeps) <| .keeps setDrm_keeps)) (pushDrmGroups_spares _ _ h2 h3)) (ih _))

theorem drmUnit_spares {first : Option Nat} {u : AudioUnit} (hk : k < 0x478000 ∨ 0x478BFF < k) (hm : m < 12) : s.Spares k (s.drmUnit m first u) := by
  have hset {n v} {u : State} (hn : n < 256 := by decide) : u.Spares k (u.setNat (rdec m n) v) := .setNat (decoder_apart hk hm hn)
  unfold State.drmUnit
  exact .ite (.step (.keeps speak_keeps) <| .step hset hset) (.ite .refl (.step (.keeps speak_keeps) <|
    .step hset <| .bump (decoder_apart hk hm (by decide))))

theorem drmDecode_spares {units : List AudioUnit} (hk : k < 0x478000 ∨ 0x478BFF < k) (hm : m < 12) : s.Spares k (s.drmDecode m e units) := by
  unfold State.drmDecode
  extract_lets
  split
  · exact .ite .refl (.keeps silenceVoice_keeps)
  · exact .ite (.iteThen (.foldl (fun _ _ _ => drmUnit_spares hk hm) (.keeps setDrm_keeps))
      (.keeps silenceVoice_keeps)) (.step (.keeps silenceVoice_keeps) <| .keeps setDrm_keeps)

theorem drmDecode_facs (m : Nat) (units : List AudioUnit) (s : State) : s.SameFacs e (s.drmDecode m e units) := by
  unfold State.drmDecode
  extract_lets st d
  split
  · exact .ite .refl (.keeps silenceVoice_keeps)
  · have htaken {q} : s.SameFacs e (s.setDrm e { s.drm e with queue := q }) := .setDrm rfl rfl rfl
    have hunits (l : List (AudioUnit × Nat)) (first : AudioUnit × Nat → Option Nat) (u : State) :
        u.SameFacs e (l.foldl (fun s x => s.drmUnit m (first x) x.1) u) :=
      .keeps (F := [.dict, .shm, .pcm, .pcmSeq, .heard, .voices, .gloaming]) (.foldl (fun _ _ => drmUnit_keeps) .refl)
    exact .ite (.ite (.step (.keeps silenceVoice_keeps) <| .step (hunits _ _ _) htaken) (.step (hunits _ _ _) htaken))
      (.step (.keeps silenceVoice_keeps) htaken)

/-- The metrics of a frame (R211). -/
theorem drmMetrics_nat (start doppler spread : Nat) (cells : List (Option DrmCell)) (s : State) :
    (s.drmMetrics e start doppler spread cells).nat (rk e 0x0A) = start ∧ (s.drmMetrics e start doppler spread cells).nat (rq e 7) = doppler ∧
      (s.drmMetrics e start doppler spread cells).nat (rq e 8) = spread ∧
      (s.drmMetrics e start doppler spread cells).nat (rq e 4) = badRate (s.drm e).facs := by
  unfold State.drmMetrics
  extract_lets d step stop c xs g mer tick clipped s1 s2 s3
  have hshown {k} (h2 : k ≠ rq e 2) (h3 : k ≠ rq e 3) (h6 : k ≠ rq e 6) (h9 : k ≠ rq e 9) {b} : s1.Spares k (s3.issue (rq e 9) b) :=
    .step (.issue h9) <| .step (.bumpBy h6) <| .ite .refl (.setAll fun p hp => by
      simp only [List.mem_cons, List.not_mem_nil, or_false] at hp
      rcases hp with rfl | rfl
      · exact h2
      · exact h3)
  refine ⟨?_, ?_, ?_, ?_⟩
  · rw [(hshown (by simp only [obj_eq]; omega) (by simp only [obj_eq]; omega) (by simp only [obj_eq]; omega) (by simp only [obj_eq]; omega)).nat]
    simp (disch := omega) [s1, State.setAll, obj_eq, if_neg]
  · rw [(hshown (by simp only [obj_eq]; omega) (by simp only [obj_eq]; omega) (by simp only [obj_eq]; omega) (by simp only [obj_eq]; omega)).nat]
    simp [s1, State.setAll, obj_eq]
  · rw [(hshown (by simp only [obj_eq]; omega) (by simp only [obj_eq]; omega) (by simp only [obj_eq]; omega) (by simp only [obj_eq]; omega)).nat]
    simp [s1, State.setAll, obj_eq]
  · rw [(hshown (by simp only [obj_eq]; omega) (by simp only [obj_eq]; omega) (by simp only [obj_eq]; omega) (by simp only [obj_eq]; omega)).nat]
    simp [s1, State.setAll, obj_eq, d]

/-- A transmission frame that ends, with the decoder named (R209 to R211, R214, R215). -/
def State.endDrmFrame (e at_ : Nat) (fac : Bool) (cells : List (Option DrmCell)) (doppler spread : Nat) (frames : List Bytes)
    (groups : List DrmGroup) (decoder : Nat) (units : List AudioUnit) (s : State) : State :=
  let st := s.drmState e
  let clear := s.clearCells e at_ cells
  let d := s.drm e
  let s := s.setDrm e { d with
    facs := lastN 100 (d.facs ++ [fac]), goodRun := if fac then d.goodRun + 1 else 0
    badRun := if fac then 0 else d.badRun + 1
    keptCells := if st = 3 ∧ d.kept.any (decide <| · ≤ at_) then d.keptCells ++ [(at_, clear)] else d.keptCells }
  let s := if st = 3 then s else s.storeFrame e at_ clear
  let s := s.drmMetrics e at_ doppler spread clear
  let s := s.queueMsc e (drmDepth (s.nat (rk e 3))) groups frames
  if (s.drmDecoders e).contains decoder then s.drmDecode decoder e units else s

theorem drmMscFrame_gives {at_ d sp m : Nat} {fac : Bool} {cs : List (Option DrmCell)} {fs : List Bytes} {gs : List DrmGroup}
    {us : List AudioUnit} (hruns : s.drmRuns e = true) (hstate : 3 ≤ s.drmState e) :
    Gives (.drmMscFrame e at_ fac cs d sp fs gs m us) s fun t => t.nat (rk e 0x0A) = at_ ∧ t.nat (rq e 7) = d ∧
      t.nat (rq e 8) = sp ∧ t.nat (rq e 4) = badRate (lastN 100 ((s.drm e).facs ++ [fac])) ∧
      (t.drm e).goodRun = (if fac then (s.drm e).goodRun + 1 else 0) ∧ (t.drm e).badRun = (if fac then 0 else (s.drm e).badRun + 1) := by
  have he := drmRuns_lt hruns
  have hexec : exec (.drmMscFrame e at_ fac cs d sp fs gs m us) s = .next (s.endDrmFrame e at_ fac cs d sp fs gs m us) :=
    congrArg _ (if_pos ⟨hruns, hstate⟩)
  refine gives_next hexec ?_
  unfold State.endDrmFrame
  extract_lets st clear r s1 s2 s3 s4
  have h1 : (s1.drm e).goodRun = (if fac then r.goodRun + 1 else 0) ∧ (s1.drm e).badRun = (if fac then 0 else r.badRun + 1) ∧
      (s1.drm e).facs = lastN 100 (r.facs ++ [fac]) := by
    simp only [s1, setDrm_drm]
    exact ⟨rfl, rfl, rfl⟩
  have h2 : s1.SameFacs e s2 := .ite .refl (storeFrame_facs _ _)
  have hdecode : s4.SameFacs e (if (s4.drmDecoders e).contains m then s4.drmDecode m e us else s4) := .ite (drmDecode_facs _ _ _) .refl
  have hfacs : s1.SameFacs e (if (s4.drmDecoders e).contains m then s4.drmDecode m e us else s4) :=
    ((h2.trans (.keeps drmMetrics_keeps)).trans (queueMsc_facs _ _ _ _)).trans hdecode
  have hspares {k} (hk : k < 0x478000 ∨ 0x478BFF < k) (hq2 : k ≠ rdat e 2) (hq3 : k ≠ rdat e 3) :
      s3.Spares k (if (s4.drmDecoders e).contains m then s4.drmDecode m e us else s4) := by
    refine .trans (t := s4) (queueMsc_spares fs s3 hq2 hq3) ?_
    split
    next hm => exact drmDecode_spares hk (drmDecoders_lt (List.contains_iff_mem.mp hm))
    next => exact .refl
  obtain ⟨hstart, hdoppler, hspread, hrate⟩ := drmMetrics_nat (e := e) at_ d sp clear s2
  have hfacs2 : (s2.drm e).facs = lastN 100 (r.facs ++ [fac]) := h2.2.2.trans h1.2.2
  refine ⟨?_, ?_, ?_, ?_, hfacs.1.trans h1.1, hfacs.2.1.trans h1.2.1⟩
  · exact (hspares (by simp only [obj_eq]; omega) (by simp only [obj_eq]; omega) (by simp only [obj_eq]; omega)).nat.trans hstart
  · exact (hspares (by simp only [obj_eq]; omega) (by simp only [obj_eq]; omega) (by simp only [obj_eq]; omega)).nat.trans hdoppler
  · exact (hspares (by simp only [obj_eq]; omega) (by simp only [obj_eq]; omega) (by simp only [obj_eq]; omega)).nat.trans hspread
  · rw [← hfacs2]
    exact (hspares (by simp only [obj_eq]; omega) (by simp only [obj_eq]; omega) (by simp only [obj_eq]; omega)).nat.trans hrate

/-! ### Services and alternatives -/

/-- What an SDC gives is the same in two states. -/
def State.SameSdc (e : Nat) (s t : State) : Prop :=
  (t.drm e).services = (s.drm e).services ∧ (t.drm e).superFrames = (s.drm e).superFrames ∧ (t.drm e).schedules = (s.drm e).schedules ∧
    (t.drm e).alternatives = (s.drm e).alternatives

namespace State.SameSdc
variable {F : List FieldName} {u : State}

theorem refl : s.SameSdc e s := ⟨rfl, rfl, rfl, rfl⟩

theorem trans (h : s.SameSdc e t) (g : t.SameSdc e u) : s.SameSdc e u :=
  ⟨g.1.trans h.1, g.2.1.trans h.2.1, g.2.2.1.trans h.2.2.1, g.2.2.2.trans h.2.2.2⟩

theorem ite {c : Prop} [Decidable c] (h : s.SameSdc e t) (g : s.SameSdc e u) : s.SameSdc e (if c then t else u) := by
  split <;> assumption

theorem keeps (h : s.Keeps F t) (hF : .drms ∉ F := by decide) : s.SameSdc e t := by
  rw [SameSdc, drm_of_drms (h.same .drms hF)]
  exact ⟨rfl, rfl, rfl, rfl⟩

end State.SameSdc

theorem publishDrmSi_sdc (s : State) : s.SameSdc e (s.publishDrmSi e) := by
  rw [State.SameSdc, publishDrmSi_drm]
  exact ⟨rfl, rfl, rfl, rfl⟩

theorem publishAlternatives_sdc (s : State) : s.SameSdc e (s.publishAlternatives e) := by
  rw [State.SameSdc, publishAlternatives_drm]
  exact ⟨rfl, rfl, rfl, rfl⟩

theorem drmSdcDecode_gives {at_ : Nat} {svcs : List DrmService} {alts : List DrmAlternative} {scheds : List DrmSchedule} {utc : Option Nat}
    {half : Int} (hruns : s.drmRuns e = true) (hstate : s.drmState e = 4) :
    Gives (.drmSdcDecode e at_ true svcs alts scheds utc half) s fun t => (t.drm e).services = svcs.take 4 ∧
      (t.drm e).superFrames = (s.drm e).superFrames + 1 ∧ (t.drm e).schedules = scheds := by
  have hserves : s.drmRuns e = true ∧ s.drmState e = 4 := ⟨hruns, hstate⟩
  refine ⟨_, rfl, ?_⟩
  rw [if_pos hserves]
  extract_lets d n s1 services alternatives schedules si flagged d1 s2 s3 s4 s5 s6
  have h2 : (s2.drm e).services = svcs.take 4 ∧ (s2.drm e).superFrames = (s.drm e).superFrames + 1 ∧ (s2.drm e).schedules = scheds := by
    simp [s2, d1, s1, n, d, services, schedules]
  have h3 : s2.SameSdc e s3 := .ite .refl (publishDrmSi_sdc _)
  have h4 : s3.SameSdc e s4 := .ite .refl (publishAlternatives_sdc _)
  have h5 : s4.SameSdc e s5 := .keeps bumpBy_keeps
  have h6 : s5.SameSdc e s6 := by
    simp only [s6]
    cases utc with
    | none => exact .refl
    | some u => exact .keeps utcAnchor_keeps
  have hsdc := ((h3.trans h4).trans h5).trans h6
  dsimp only
  rw [judgeDrm_drm]
  obtain ⟨hservices, hcount, hschedules⟩ := h2
  obtain ⟨hs, hn, hc, _⟩ := hsdc
  exact ⟨hs.trans hservices, hn.trans hcount, hc.trans hschedules⟩

theorem drmScheduleEval_gives (hruns : s.drmRuns e = true)
    (hchanged : (s.drm e).alternatives.map (s.scheduleFlags (s.drm e).schedules) ≠ (s.drm e).alternatives) :
    Gives (.drmScheduleEval e) s fun t =>
      (t.drm e).alternatives = (s.drm e).alternatives.map (s.scheduleFlags (s.drm e).schedules) := by
  have hexec : exec (.drmScheduleEval e) s = .next ((s.setDrm e { s.drm e with
      alternatives := (s.drm e).alternatives.map (s.scheduleFlags (s.drm e).schedules) }).publishAlternatives e) :=
    congrArg _ (if_pos ⟨hruns, hchanged⟩)
  refine gives_next hexec ?_
  rw [publishAlternatives_drm]
  simp

/-! ### The decoders -/

theorem drmSelection_of_drmSel (h : t.drmSel = s.drmSel) (m : Nat) : t.drmSelection m = s.drmSelection m :=
  congrArg (Map.get (fun _ => 0) · m) h

theorem setDrmSelection_selection (m id : Nat) (s : State) : (s.setDrmSelection m id).drmSelection m = id := by
  simp [State.setDrmSelection, State.drmSelection, map_get_put]

theorem disturb_spares {p : Nat → Bool} (hk : k < 0x490000 ∨ 0x4912FF < k) (hevent : k ∉ eventKeys) : s.Spares k (s.disturb p) := by
  unfold State.disturb
  refine .foldl (fun t i hi => .ite (searchAgain_spares (by omega) ?_ hevent) .refl) .refl
  simp only [List.mem_cons, List.not_mem_nil, or_false] at hi
  rw [gk_eq]
  omega

theorem drmServiceSelect_gives (hruns : s.runs m 0x0202 = true) (hother : s.drmSelection m ≠ s.nat (rdec m 2)) :
    Gives (.drmServiceSelect m) s fun t => t.drmSelection m = s.nat (rdec m 2) ∧ t.nat (rdec m 4) = 0 := by
  have hm := runs_lt hruns
  have hserves : s.runs m 0x0202 = true ∧ s.drmSelection m ≠ s.nat (rdec m 2) := ⟨hruns, hother⟩
  refine ⟨_, rfl, ?_⟩
  extract_lets want u
  rw [if_pos hserves]
  have hkeeps : (s.setDrmSelection m want).Keeps [.dict, .awaiting, .events, .log, .shm, .pcm, .pcmSeq, .heard, .voices, .gloaming]
      (((u.disturb fun w => w == 0x200 + m).setNat (rdec m 3) (u.drmSlotState m)).speak m 0 Voice.leave) :=
    .step speak_keeps <| .step setNat_keeps <| .step disturb_keeps <| .step setNat_keeps <| .step setNat_keeps .refl
  have hspares : u.Spares (rdec m 4) (((u.disturb fun w => w == 0x200 + m).setNat (rdec m 3) (u.drmSlotState m)).speak m 0 Voice.leave) :=
    .step (.keeps speak_keeps) <| .step (.setNat (obj_ne (by decide))) <| disturb_spares (by simp only [obj_eq]; omega)
      (notMem_eventKeys (by simp only [obj_eq]; omega) (by simp only [obj_eq]; omega) (by simp only [obj_eq]; omega))
  refine ⟨?_, ?_⟩
  · exact (drmSelection_of_drmSel (hkeeps.same .drmSel (by decide)) m).trans (setDrmSelection_selection m want s)
  · refine hspares.nat.trans ?_
    simp only [u]
    rw [setNat_nat, if_neg (obj_ne (by decide)), setNat_nat, if_pos rfl]

theorem drmTextMessage_gives {text : Bytes} (hruns : s.runs m 0x0202 = true) (hfits : text.length ≤ 128) :
    Gives (.drmTextMessage m text) s fun t => t.bytes (rdec m 6) = text ∧ t.nat (rdec m 7) = (s.nat (rdec m 7) + 1) % 65536 := by
  have hexec : exec (.drmTextMessage m text) s =
      .next ((s.setBytes (rdec m 6) text).setNat (rdec m 7) ((s.nat (rdec m 7) + 1) % 65536)) := congrArg _ (if_pos ⟨hruns, hfits⟩)
  refine gives_next hexec ⟨?_, ?_⟩
  · rw [setNat_bytes _ _ _ _ (obj_ne (by decide)), setBytes_bytes, if_pos rfl]
  · rw [setNat_nat, if_pos rfl]

/-- Settles O10, clause by clause. -/
theorem drmCompletes : Obligations.DrmCompletes := by
  unfold Obligations.DrmCompletes
  exact ⟨fun _ _ _ => drmModeFound_gives, fun _ _ _ _ _ => drmFrameSync_gives, fun _ _ _ _ => drmFacAcquired_gives,
    fun _ _ _ => drmSyncLost_gives, fun _ _ => drmLostTimeout_gives, fun _ _ => drmAcquisitionFail_gives,
    fun _ _ _ _ _ _ _ _ _ _ _ => drmMscFrame_gives, fun _ _ _ _ _ _ _ _ => drmSdcDecode_gives, fun _ _ => drmScheduleEval_gives,
    fun _ _ => drmServiceSelect_gives, fun _ _ _ => drmTextMessage_gives⟩

end Sys2Proof.Machine
end

section
/-!
PROOFS. What the commands of the engines and the accelerators leave (R129 to R140).
-/
namespace Sys2Proof.Machine

-- One proof after another keeps the memory of the whole text's compile low.
set_option Elab.async false

variable {r : Requester} {s t : State} {a e k u n : Nat}

theorem engine_of_engines (h : t.engines = s.engines) (e : Nat) : t.engine e = s.engine e := congrArg (Map.get (fun _ => Engine.init) · e) h

theorem accel_of_accels (h : t.accels = s.accels) (a : Nat) : t.accel a = s.accel a := congrArg (Map.get (fun _ => Accel.init) · a) h

/-- The subindices of the engines' objects. -/
theorem ek_eq (e n : Nat) : ek e n = 256 * (0x2400 + e) + n := obj_eq _ _

/-! ### Loads -/

theorem startLoad_spares (h : ∀ e, k ≠ ek e 3) : s.Spares k s.startLoad := by
  unfold State.startLoad
  split
  · exact .refl
  split
  · exact .refl
  · exact .step (.setNat (h _)) <| .keeps setEngine_keeps

theorem dequeueLoad_spares (h : ∀ e, k ≠ ek e 3) : s.Spares k (s.dequeueLoad e) := by
  unfold State.dequeueLoad
  exact .step (startLoad_spares h) <| .step (.keeps update_loads_keeps) <| .keeps setEngine_keeps

/-- A subindex of the engines' objects but the load state. -/
theorem engine_apart (hn : n < 256) (h3 : n ≠ 3) (e j : Nat) : ek e n ≠ ek j 3 := by
  simp only [obj_eq]
  omega

theorem startLoad_loads (s : State) : s.startLoad.loads = s.loads := startLoad_keeps.same .loads (by decide)

theorem dequeueLoad_loads (e : Nat) (s : State) : (s.dequeueLoad e).loads = s.loads.filter (· != e) := startLoad_loads _

theorem startLoad_restart (s : State) (e : Nat) : (s.startLoad.engine e).restart = (s.engine e).restart := by
  unfold State.startLoad
  split
  · rfl
  split
  · rfl
  next j _ _ _ =>
    show ((s.setEngine j { s.engine j with loadFrom := some s.gnomon }).engine e).restart = _
    rw [setEngine_engine]
    split
    next h => rw [h]
    next => rfl

theorem delayStart_spares {n by_ : Nat} {x : LaunchEntry} (h : k ≠ 0x200102) (hevent : k ∉ eventKeys) : s.Spares k (s.delayStart n x by_) := by
  unfold State.delayStart
  exact .ite .refl (.step (.raise hevent) <| .step (.bump h) <| .keeps setEntry_keeps)

theorem endWaits_spares (h : k ≠ 0x200102) (hevent : k ∉ eventKeys) : s.Spares k s.endWaits := by
  unfold State.endWaits
  exact .foldl (fun _ _ _ => by
    split
    · exact .ite .refl (.step (.keeps setWait_keeps) <| delayStart_spares h hevent)
    · exact .refl) .refl

/-- The subindices of an engine are none of an event's and none of the launch table's. -/
theorem engine_event (he : e < 12) (hn : n < 256) : ek e n ≠ 0x200102 ∧ ek e n ∉ eventKeys := by
  refine ⟨?_, notMem_eventKeys ?_ ?_ ?_⟩ <;> simp only [obj_eq] <;> omega

/-- What a load that ends well leaves (R129, R130). -/
def State.endLoad (e image version : Nat) (s : State) : State :=
  let s := (s.setNat (ek e 3) 2).setNat (ek e 2) version
  let r := (s.engine e).restart.map fun r => { r with step := 3 }
  let s := s.setEngine e { s.engine e with image := image, restart := r }
  (s.raise 13 1 (0x200 + e) [(2, image), (4, version)]).endWaits

theorem endLoad_same (image version : Nat) (s : State) (he : e < 12) :
    (s.endLoad e image version).nat (ek e 3) = 2 ∧ ((s.endLoad e image version).engine e).image = image ∧
      (s.endLoad e image version).loads = s.loads ∧ (s.endLoad e image version).holdings = s.holdings := by
  obtain ⟨hlaunch, hevent⟩ := engine_event he (n := 3) (by decide)
  unfold State.endLoad
  extract_lets s1 r _ s2
  have hkeeps : s2.Keeps [.dict, .awaiting, .events, .launch, .prep, .log] (s2.raise 13 1 (0x200 + e) [(2, image), (4, version)]).endWaits :=
    .step endWaits_keeps <| .step raise_keeps .refl
  have hspares : s1.Spares (ek e 3) (s2.raise 13 1 (0x200 + e) [(2, image), (4, version)]).endWaits :=
    .step (endWaits_spares hlaunch hevent) <| .step (.raise hevent) <| .keeps setEngine_keeps
  refine ⟨?_, ?_, ?_, ?_⟩
  · rw [hspares.nat]
    simp only [s1]
    rw [setNat_nat, if_neg (obj_ne (by decide)), setNat_nat, if_pos rfl]
  · rw [engine_of_engines (hkeeps.same .engines (by decide))]
    simp only [s2]
    rw [setEngine_engine, if_pos rfl]
  · exact hkeeps.same .loads (by decide)
  · exact hkeeps.same .holdings (by decide)

/-- A command whose act begins no hold leaves what its act leaves (R34). -/
theorem gives_acting {c : Instr} {act : State → State} {P : State → Prop} (hexec : exec c s = .next (s.actAndHold act)) (hact : act s = t)
    (hheld : t.holdings = s.holdings) (h : P t) : Gives c s P := by
  rw [actAndHold_of_holdings (by rw [hact, hheld]), hact] at hexec
  exact gives_next hexec h

/-- The version of an image in the catalogue (R128). -/
def State.imageVersion (s : State) (image : Nat) : Nat :=
  match s.catalogue image with
  | some c => fieldLe c 4 4
  | none => 0

theorem engineLoadComplete_gives (he : e < 12) (hhead : s.loads.head? = some e) (hloads : (s.engine e).loadFrom.isSome = true) :
    Gives (.engineLoadComplete e true) s fun t =>
      t.nat (ek e 3) = 2 ∧ (t.engine e).image = s.cnat (ek e 1) ∧ e ∉ t.loads := by
  generalize hu : (s.setNat (ek e 4) (s.gnomon - (s.engine e).loadFrom.getD s.gnomon)).dequeueLoad e = u
  have hloaded : u.loads = s.loads.filter (· != e) := by
    rw [← hu, dequeueLoad_loads, setNat_loads]
  have hheld : u.holdings = s.holdings := by
    rw [← hu, dequeueLoad_keeps.same .holdings (by decide), setNat_holdings]
  obtain ⟨hstate, himage, hleft, hholds⟩ := endLoad_same (s.cnat (ek e 1)) (s.imageVersion (s.cnat (ek e 1))) u he
  refine gives_acting (t := u.endLoad e (s.cnat (ek e 1)) (s.imageVersion (s.cnat (ek e 1)))) rfl ?_ (hholds.trans hheld)
    ⟨hstate, himage, ?_⟩
  · rw [← hu]
    exact if_pos ⟨hhead, hloads⟩
  · rw [hleft, hloaded]
    simp

/-! ### Faults -/

@[simp] theorem setUState_spares {new cause verb : Nat} (h : k ≠ desc u 2) (hevent : k ∉ eventKeys) :
    s.Spares k (s.setUState u new cause verb) := by
  unfold State.setUState
  exact .ite .refl (.step (.raise hevent) <| .setNat h)

/-- A unit that is no member of a course, faulted (R24, R36). -/
theorem faultUnit_alone {code : Nat} (hparent : s.parent u = 0xFFFF) (hevent : desc u 4 ∉ eventKeys) :
    s.faultUnit u code = (s.setUState u 4 3 0).setNat (desc u 5) code := by
  have hkept : ((s.setUState u 4 3 0).setNat (desc u 5) code).parent u = 0xFFFF := by
    have hspares : s.Spares (desc u 4) ((s.setUState u 4 3 0).setNat (desc u 5) code) :=
      .step (.setNat (obj_ne (by decide))) <| setUState_spares (obj_ne (by decide)) hevent
    exact hspares.nat.trans hparent
  unfold State.faultUnit State.faultCourse
  exact if_pos (.inl hkept)

theorem desc_engine (he : e < 12) (n : Nat) : desc (0x200 + e) n = 256 * (0x2180 + e) + n := by
  simp only [desc, obj_eq]
  omega

theorem engineLive_lt (hlive : s.engineLive e = true) : e < 12 := by
  simp only [State.engineLive, Bool.and_eq_true, decide_eq_true_eq] at hlive
  exact hlive.1

/-- What a fault of an engine leaves of its record, where it begins no hold (R137, R138). -/
def State.recordFault (e cause : Nat) (s : State) : State :=
  let recent := s.recentRestarts e
  let s := ((s.setNat (ek e 0x0B) cause).setNat (ek e 0x0C) s.gnomon).setNat (ek e 7) recent.length
  s.raise 13 3 (0x200 + e) [(2, cause), (8, s.gnomon), (1, recent.length)]

theorem recordFault_nat (he : e < 12) (cause : Nat) (s : State) :
    (s.recordFault e cause).nat (ek e 0x0B) = cause ∧ (s.recordFault e cause).nat (ek e 0x0C) = s.gnomon := by
  unfold State.recordFault
  extract_lets recent u
  rw [(State.Spares.raise (engine_event he (by decide)).2).nat, (State.Spares.raise (engine_event he (by decide)).2).nat]
  simp [u, obj_eq]

/-- An engine that restarts (R138 step 1). -/
def State.beginRestart (e : Nat) (recent : List Nat) (s : State) : State :=
  let s := (s.dequeueLoad e).flushInputs e
  let s := s.setEngine e { s.engine e with restart := some ⟨1, s.gnomon⟩, restarts := recent ++ [s.gnomon] }
  (s.bump (ek e 6)).setNat (ek e 7) (recent.length + 1)

/-- An engine that faults for good (R138). -/
def State.endEngine (e cause : Nat) (s : State) : State :=
  ((s.dequeueLoad e).setEngine e { s.engine e with restart := none, heldHold := false, loadFrom := none }).faultUnit (0x200 + e) cause

theorem faultEngine_eq (e cause : Nat) (s : State) : s.faultEngine e cause =
    if (s.recordFault e cause).cnat (ek e 5) = 1 ∧ cause ≠ 0x0205 ∧ (s.recentRestarts e).length < 3 then
      (s.recordFault e cause).beginRestart e (s.recentRestarts e)
    else (s.recordFault e cause).endEngine e cause := by
  unfold State.faultEngine State.recordFault State.beginRestart State.endEngine
  rfl

theorem beginRestart_spares {recent : List Nat} (h3 : ∀ e, k ≠ ek e 3) (h6 : k ≠ ek e 6) (h7 : k ≠ ek e 7) :
    s.Spares k (s.beginRestart e recent) := by
  unfold State.beginRestart
  exact .step (.setNat h7) <| .step (.bump h6) <| .step (.keeps setEngine_keeps) <| .step (.keeps flushInputs_keeps) <| dequeueLoad_spares h3

theorem beginRestart_keeps {recent : List Nat} : s.Keeps [.dict, .chains, .engines, .loads] (s.beginRestart e recent) := by
  unfold State.beginRestart
  exact .step setNat_keeps <| .step bump_keeps <| .step setEngine_keeps <| .step flushInputs_keeps <| .step dequeueLoad_keeps .refl

theorem endEngine_alone {cause : Nat} (he : e < 12) (hparent : s.parent (0x200 + e) = 0xFFFF) :
    (∀ n, n < 256 → n ≠ 3 → (s.endEngine e cause).nat (ek e n) = s.nat (ek e n)) ∧ (s.endEngine e cause).holdings = s.holdings := by
  have hloaded {k} (h : ∀ e, k ≠ ek e 3) (x : Engine) : s.Spares k ((s.dequeueLoad e).setEngine e x) :=
    .step (.keeps setEngine_keeps) <| dequeueLoad_spares h
  have hparent' (x : Engine) : ((s.dequeueLoad e).setEngine e x).parent (0x200 + e) = 0xFFFF := by
    refine (hloaded (fun j => ?_) x).nat.trans hparent
    rw [desc_engine he, ek_eq]
    omega
  have hevent (n : Nat) (hn : n < 256) : desc (0x200 + e) n ∉ eventKeys := by
    rw [desc_engine he]
    exact notMem_eventKeys (by omega) (by omega) (by omega)
  unfold State.endEngine
  rw [faultUnit_alone (hparent' _) (hevent 4 (by decide))]
  refine ⟨fun n hn h3 => ?_, ?_⟩
  · have hspares {x : Engine} : s.Spares (ek e n) ((((s.dequeueLoad e).setEngine e x).setUState (0x200 + e) 4 3 0).setNat (desc (0x200 + e) 5) cause) := by
      refine .step (.setNat ?_) <| .step (setUState_spares ?_ (engine_event he hn).2) <| hloaded (engine_apart hn h3 e) x
      · rw [desc_engine he, ek_eq]
        omega
      · rw [desc_engine he, ek_eq]
        omega
    exact hspares.nat
  · have hkeeps {x : Engine} : s.Keeps [.dict, .awaiting, .events, .log, .engines, .loads]
        ((((s.dequeueLoad e).setEngine e x).setUState (0x200 + e) 4 3 0).setNat (desc (0x200 + e) 5) cause) :=
      .step setNat_keeps <| .step setUState_keeps <| .step setEngine_keeps <| .step dequeueLoad_keeps .refl
    exact hkeeps.same .holdings (by decide)

theorem recordFault_parent {cause : Nat} (he : e < 12) : (s.recordFault e cause).parent (0x200 + e) = s.parent (0x200 + e) := by
  have hapart (n : Nat) (hn : n < 256) : desc (0x200 + e) 4 ≠ ek e n := by
    rw [desc_engine he, ek_eq]
    omega
  have hevent : desc (0x200 + e) 4 ∉ eventKeys := by
    rw [desc_engine he]
    exact notMem_eventKeys (by omega) (by omega) (by omega)
  have hspares : s.Spares (desc (0x200 + e) 4) (s.recordFault e cause) :=
    .step (.raise hevent) <| .step (.setNat (hapart _ (by decide))) <| .step (.setNat (hapart _ (by decide))) <| .setNat (hapart _ (by decide))
  exact hspares.nat

/-- An engine in no course that faults (R137, R138): the fault is recorded, and no hold begins. -/
theorem faultEngine_alone {cause : Nat} (he : e < 12) (hparent : s.parent (0x200 + e) = 0xFFFF) :
    (s.faultEngine e cause).nat (ek e 0x0B) = cause ∧ (s.faultEngine e cause).nat (ek e 0x0C) = s.gnomon ∧
      (s.faultEngine e cause).holdings = s.holdings := by
  obtain ⟨hcause, hwhen⟩ := recordFault_nat he cause s
  have hrecorded : (s.recordFault e cause).holdings = s.holdings := by
    have h : s.Keeps [.dict, .awaiting, .events, .log] (s.recordFault e cause) :=
      .step raise_keeps <| .step setNat_keeps <| .step setNat_keeps <| .step setNat_keeps .refl
    exact h.same .holdings (by decide)
  rw [faultEngine_eq]
  split
  next =>
    have hspares {n : Nat} (hn : n < 256) (h3 : n ≠ 3) (h6 : n ≠ 6) (h7 : n ≠ 7) {recent} :
        (s.recordFault e cause).Spares (ek e n) ((s.recordFault e cause).beginRestart e recent) :=
      beginRestart_spares (engine_apart hn h3 e) (obj_ne h6) (obj_ne h7)
    exact ⟨(hspares (by decide) (by decide) (by decide) (by decide)).nat.trans hcause,
      (hspares (by decide) (by decide) (by decide) (by decide)).nat.trans hwhen,
      Eq.trans (beginRestart_keeps.same .holdings (by decide)) hrecorded⟩
  next =>
    obtain ⟨hnat, hheld⟩ := endEngine_alone (s := s.recordFault e cause) he ((recordFault_parent he).trans hparent) (cause := cause)
    exact ⟨(hnat _ (by decide) (by decide)).trans hcause, (hnat _ (by decide) (by decide)).trans hwhen, hheld.trans hrecorded⟩

theorem engineFault_gives {cause : Nat} (hlive : s.engineLive e = true) (hlow : 0x0202 ≤ cause) (hhigh : cause ≤ 0x0204)
    (hparent : s.parent (0x200 + e) = 0xFFFF) :
    Gives (.engineFault e cause) s fun t => t.nat (ek e 0x0B) = cause ∧ t.nat (ek e 0x0C) = s.gnomon := by
  obtain ⟨hcause, hwhen, hheld⟩ := faultEngine_alone (cause := cause) (engineLive_lt hlive) hparent
  exact gives_acting rfl (if_pos ⟨hlive, hlow, hhigh⟩) hheld ⟨hcause, hwhen⟩

theorem engineWatchdog_gives (hlive : s.engineLive e = true) (hstate : s.ustate (0x200 + e) = 2) (hrestart : (s.engine e).restart = none)
    (hover : (s.engine e).beat + 1536000 ≤ s.gnomon) (hparent : s.parent (0x200 + e) = 0xFFFF) :
    Gives (.engineWatchdog e) s fun t => t.nat (ek e 0x0B) = 0x0201 ∧ t.nat (ek e 0x0C) = s.gnomon := by
  obtain ⟨hcause, hwhen, hheld⟩ := faultEngine_alone (cause := 0x0201) (engineLive_lt hlive) hparent
  exact gives_acting rfl (if_pos ⟨hlive, hstate, hrestart, hover⟩) hheld ⟨hcause, hwhen⟩

theorem engineFault_restarts {cause : Nat} (hlive : s.engineLive e = true) (hlow : 0x0202 ≤ cause) (hhigh : cause ≤ 0x0204)
    (hpolicy : s.cnat (ek e 5) = 1) (hfew : (s.recentRestarts e).length < 3) :
    Gives (.engineFault e cause) s fun t =>
      (t.engine e).restart = some ⟨1, s.gnomon⟩ ∧ t.nat (ek e 0x0B) = cause ∧ t.ustate (0x200 + e) = s.ustate (0x200 + e) := by
  have he := engineLive_lt hlive
  have hrecorded : s.Keeps [.dict, .awaiting, .events, .log] (s.recordFault e cause) :=
    .step raise_keeps <| .step setNat_keeps <| .step setNat_keeps <| .step setNat_keeps .refl
  have hfault : s.faultEngine e cause = (s.recordFault e cause).beginRestart e (s.recentRestarts e) := by
    rw [faultEngine_eq]
    refine if_pos ⟨?_, by omega, hfew⟩
    rw [cnat_of_committed (hrecorded.same .committed (by decide)), hpolicy]
  refine gives_acting rfl ((if_pos ⟨hlive, hlow, hhigh⟩).trans hfault) ?_ ⟨?_, ?_, ?_⟩
  · exact Eq.trans (beginRestart_keeps.same .holdings (by decide)) (hrecorded.same .holdings (by decide))
  · unfold State.beginRestart
    extract_lets u _ v
    have hgnomon : u.gnomon = s.gnomon := by
      have h : (s.recordFault e cause).Keeps [.dict, .chains, .engines, .loads] u := .step flushInputs_keeps <| .step dequeueLoad_keeps .refl
      exact Eq.trans (h.same .gnomon (by decide)) (hrecorded.same .gnomon (by decide))
    have hcounted : v.Keeps [.dict] ((v.bump (ek e 6)).setNat (ek e 7) ((s.recentRestarts e).length + 1)) :=
      .step setNat_keeps <| .step bump_keeps .refl
    rw [engine_of_engines (hcounted.same .engines (by decide))]
    simp only [v]
    rw [setEngine_engine, if_pos rfl, hgnomon]
  · have hspares : (s.recordFault e cause).Spares (ek e 0x0B) ((s.recordFault e cause).beginRestart e (s.recentRestarts e)) :=
      beginRestart_spares (engine_apart (by decide) (by decide) e) (obj_ne (by decide)) (obj_ne (by decide))
    exact hspares.nat.trans (recordFault_nat he cause s).1
  · have hapart (n j : Nat) (hn : n < 256) : desc (0x200 + e) 2 ≠ ek j n := by
      rw [desc_engine he, ek_eq]
      omega
    have hevent : desc (0x200 + e) 2 ∉ eventKeys := by
      rw [desc_engine he]
      exact notMem_eventKeys (by omega) (by omega) (by omega)
    have hspares : s.Spares (desc (0x200 + e) 2) ((s.recordFault e cause).beginRestart e (s.recentRestarts e)) :=
      .step (beginRestart_spares (fun j => hapart 3 j (by decide)) (hapart 6 e (by decide)) (hapart 7 e (by decide))) <|
        .step (.raise hevent) <| .step (.setNat (hapart 7 e (by decide))) <| .step (.setNat (hapart _ e (by decide))) <|
        .setNat (hapart _ e (by decide))
    exact hspares.nat

theorem engineRestartReload_gives {d : Nat} (hrestart : (s.engine e).restart = some ⟨1, d⟩) (hover : d + 1536 ≤ s.gnomon) :
    Gives (.engineRestartReload e) s fun t => (t.engine e).restart = some ⟨2, d⟩ ∧ e ∈ t.loads := by
  have hexec : exec (.engineRestartReload e) s =
      .next ((s.setEngine e { s.engine e with restart := some ⟨2, d⟩ }).queueLoad e) := by
    show execEngineRestartReload e s = _
    unfold execEngineRestartReload
    rw [hrestart]
    exact congrArg _ (if_pos ⟨rfl, hover⟩)
  refine gives_next hexec ⟨?_, ?_⟩
  · unfold State.queueLoad
    rw [startLoad_restart]
    show ((s.setEngine e { s.engine e with restart := some ⟨2, d⟩ }).engine e).restart = _
    rw [setEngine_engine, if_pos rfl]
  · unfold State.queueLoad
    rw [startLoad_loads]
    exact List.mem_append_right _ List.mem_cons_self

/-! ### The end of a restart -/

theorem dabColdStart_engines (e : Nat) (s : State) : (s.dabColdStart e).engines = s.engines := by
  have hkeeps : s.Keeps [.dict, .awaiting, .events, .launch, .log, .plumb, .dabs, .shm, .pcm, .pcmSeq, .heard, .voices, .gloaming]
      (s.dabColdStart e) := by
    unfold State.dabColdStart
    exact .step restartSlots_keeps <| .step publishAnns_keeps <| .step publishSi_keeps <| .step publishSubs_keeps <|
      .iteElse (.step setAll_keeps <| .step setDab_keeps <| .step stopNulls_keeps <| .step setDabState_keeps .refl) (.step await_keeps .refl)
  exact hkeeps.same .engines (by decide)

theorem receiverColdStart_engines (e : Nat) (s : State) : (s.receiverColdStart e).engines = s.engines := by
  unfold State.receiverColdStart
  split
  · exact dabColdStart_engines e s
  split
  · exact drmColdStart_keeps.same .engines (by decide)
  split
  · exact fmColdStart_keeps.same .engines (by decide)
  split
  · exact amColdStart_keeps.same .engines (by decide)
  · rfl

theorem idleEngine_engines (e : Nat) (s : State) : (s.idleEngine e).engines = s.engines := by
  have hkeeps : s.Keeps [.dict, .awaiting, .events, .launch, .log, .plumb, .dabs, .drms, .paths, .shm, .fms, .ams, .pcm, .pcmSeq, .heard,
      .lantern, .gloaming] (s.idleEngine e) := by
    unfold State.idleEngine
    exact .ite (.step judgeSlots_keeps <| .step stopNulls_keeps <| .step setDabState_keeps .refl) (.ite (.step judgeDrm_keeps <|
      .step setDrmState_keeps .refl) (.ite (.step tapEnds_keeps <|
      .step tapEnds_keeps .refl) (.ite (.step fmFlush_keeps .refl) (.ite (.step amFlush_keeps .refl) .refl))))
  exact hkeeps.same .engines (by decide)

theorem engineRestoreEnd_gives {d : Nat} (hrestart : (s.engine e).restart = some ⟨3, d⟩) :
    Gives (.engineRestoreEnd e) s fun t => (t.engine e).restart = none := by
  refine ⟨_, rfl, ?_⟩
  rw [hrestart]
  dsimp only
  rw [if_pos rfl]
  generalize hu : (s.setEngine e { s.engine e with restart := none, heldHold := false, beat := s.gnomon }).coldStart e = u
  have hended : (u.engine e).restart = none := by
    rw [← hu, engine_of_engines (coldStart_keeps.same .engines (by decide)), setEngine_engine, if_pos rfl]
  have hidle : ((u.setUState (0x200 + e) 3 5 0).idleEngine e).engines = u.engines :=
    (idleEngine_engines _ _).trans (setUState_keeps.same .engines (by decide))
  split
  · rw [engine_of_engines hidle, hended]
  · rw [engine_of_engines (receiverColdStart_engines e u), hended]

/-! ### The accelerators -/

/-- The subindices of an accelerator. -/
theorem ak_eq (a n : Nat) : ak a n = 256 * (0x2440 + a) + n := obj_eq _ _

theorem desc_accel (ha : a < 8) (n : Nat) : desc (0x600 + a) n = 256 * (0x2280 + a) + n := by
  simp only [desc, obj_eq]
  omega

/-- A job that reads or writes what it may not is a violation, which leaves the jobs (R133, R430). -/
theorem ungranted_accels (o : Option Nat) (right : Nat) (s : State) : (match o with
    | some x => s.violation 21 9 right (x / 0x80000) x
    | none => s).accels = s.accels := by
  cases o with
  | none => rfl
  | some x => exact violation_keeps.same .accels (by decide)

theorem acceleratorJobSubmit_gives {kind : JobKind} {holder : Nat} {reads writes : List (Nat × Nat)} (ha : a < 8) (he : e < 12)
    (haccel : s.ustate (0x600 + a) = 2) (hengine : s.ustate (0x200 + e) = 2) (hfits : kind.fits = true)
    (hholder : s.jobHolder a e kind = some holder) :
    Gives (.acceleratorJobSubmit a e kind reads writes) s fun t =>
      (t.accel a).jobs = (s.accel a).jobs ++ [⟨e, holder, s.gnomon, kind.ticks, 0⟩] := by
  have hserves : a < 8 ∧ e < 12 ∧ s.ustate (0x600 + a) = 2 ∧ s.ustate (0x200 + e) = 2 ∧ kind.fits = true := ⟨ha, he, haccel, hengine, hfits⟩
  refine ⟨_, rfl, ?_⟩
  rw [hholder]
  dsimp -zeta only
  rw [if_pos hserves]
  extract_lets _ u v
  have hu : u.accel a = { s.accel a with jobs := (s.accel a).jobs ++ [⟨e, holder, s.gnomon, kind.ticks, 0⟩] } := by
    simp only [u]
    rw [setAccel_accel, if_pos rfl]
  have hv : v.accels = u.accels := ungranted_accels (u.ungranted e rightR reads) rightR u
  have ht := ungranted_accels (v.ungranted e rightW writes) rightW v
  exact (congrArg Accel.jobs (accel_of_accels (ht.trans hv) a)).trans (congrArg Accel.jobs hu)

theorem acceleratorJobComplete_gives {j : Job} {rest : List Job}
    (hfirst : takeFirst (fun j : Job => j.engine == e && decide (j.ticks ≤ j.done)) (s.accel a).jobs = some (j, rest)) :
    Gives (.acceleratorJobComplete a e) s fun t => (t.accel a).jobs = rest ∧ t.nat (ak a 1) = satAdd 32 (s.nat (ak a 1)) 1 := by
  have hexec : exec (.acceleratorJobComplete a e) s = .next (((s.setAccel a { s.accel a with jobs := rest }).bump (ak a 1)).setNat (ak a 5)
      (max (((s.setAccel a { s.accel a with jobs := rest }).bump (ak a 1)).nat (ak a 5)) (s.gnomon - j.at_))) := by
    show execAcceleratorJobComplete a e s = _
    unfold execAcceleratorJobComplete
    rw [hfirst]
    rfl
  refine gives_next hexec ⟨?_, ?_⟩
  · show ((s.setAccel a { s.accel a with jobs := rest }).accel a).jobs = rest
    rw [setAccel_accel, if_pos rfl]
  · rw [setNat_nat, if_neg (obj_ne (by decide)), bump_nat, if_pos rfl]
    rfl

theorem acceleratorTimeout_gives (ha : a < 8) (hstate : s.ustate (0x600 + a) ≠ 4)
    (hlong : (s.accel a).jobs.any (fun j => 4 * j.ticks + 4096 < j.done) = true) (hfirst : (s.accel a).resets = []) :
    Gives (.acceleratorTimeout a) s fun t => (t.accel a).jobs = [] ∧ t.nat (ak a 3) = satAdd 32 (s.nat (ak a 3)) 1 := by
  have hserves : a < 8 ∧ s.ustate (0x600 + a) ≠ 4 ∧ (s.accel a).jobs.any (fun j => 4 * j.ticks + 4096 < j.done) = true := ⟨ha, hstate, hlong⟩
  have hevent : ak a 3 ∉ eventKeys := notMem_eventKeys (by rw [ak_eq]; omega) (by rw [ak_eq]; omega) (by rw [ak_eq]; omega)
  have hfew : ¬4 ≤ ([] ++ [s.gnomon]).length := by simp
  let u := s.setAccel a { s.accel a with jobs := [], resets := [] ++ [s.gnomon], slot := none }
  let v := ((u.bumpBy (ak a 2) (s.accel a).jobs.length).bump (ak a 3)).raise 14 1 (0x600 + a) [(4, (s.accel a).jobs.length), (1, ([] ++ [s.gnomon]).length)]
  have hact : (fun s : State =>
      let r := s.accel a
      if a < 8 ∧ s.ustate (0x600 + a) ≠ 4 ∧ r.jobs.any (fun j => 4 * j.ticks + 4096 < j.done) then
        let recent := (r.resets.filter fun t => s.gnomon < t + 9216000000) ++ [s.gnomon]
        let s := s.setAccel a { r with jobs := [], resets := recent, slot := none }
        let s := (s.bumpBy (ak a 2) r.jobs.length).bump (ak a 3)
        let s := s.raise 14 1 (0x600 + a) [(4, r.jobs.length), (1, recent.length)]
        if 4 ≤ recent.length then s.faultAccel a 0x0601 else s
      else s) s = v := by
    dsimp only
    rw [if_pos hserves, hfirst]
    exact if_neg hfew
  have hkeeps : u.Keeps [.dict, .awaiting, .events, .log] v := .step raise_keeps <| .step bump_keeps <| .step bumpBy_keeps .refl
  refine gives_acting rfl hact (Eq.trans (hkeeps.same .holdings (by decide)) rfl) ⟨?_, ?_⟩
  · rw [accel_of_accels (hkeeps.same .accels (by decide))]
    simp only [u]
    rw [setAccel_accel, if_pos rfl]
  · simp only [v]
    rw [(State.Spares.raise hevent).nat, bump_nat, if_pos rfl, bumpBy_nat, if_neg (obj_ne (by decide))]
    rfl

/-- The policy of one course that names a faulted accelerator (R36). -/
def State.applyPolicy (u code : Nat) (s : State) (c : Nat) : State :=
  if s.ustate c ≠ 2 then s
  else if s.cnat (desc c 8) = 1 then s.setNat (desc c 0x0A) (min 16 (s.nat (desc c 0x0A) + 1))
  else
    let leaves := (s.leaves c).filter fun v => v != u && s.ustate v == 2
    let nested := (s.courses c).filter fun v => v != c && s.ustate v == 2
    let s := s.beginHold c leaves nested 5 0 none
    let s := (s.setUState c 4 5 0).setNat (desc c 5) code
    s.faultCourse 9 c

theorem faultAccel_eq (a code : Nat) (s : State) : s.faultAccel a code =
    (s.naming (0x600 + a)).foldl (State.applyPolicy (0x600 + a) code) ((s.setUState (0x600 + a) 4 3 0).setNat (desc (0x600 + a) 5) code) := rfl

/-- The subindices of two units' pages are apart where their places in the pages are. -/
theorem desc_ne {u v m n : Nat} (hm : m < 256) (hn : n < 256) (h : m ≠ n) : desc u m ≠ desc v n := by
  simp only [desc, obj_eq]
  omega

/-- A course that carries on without the unit counts one more unit lost (R36). -/
theorem applyPolicy_counts {c code : Nat} (h : s.ustate c ≠ 2 ∨ s.cnat (desc c 8) = 1) :
    s.Keeps [.dict] (s.applyPolicy u code c) ∧ ∀ v n, n < 256 → n ≠ 0x0A → s.Spares (desc v n) (s.applyPolicy u code c) := by
  unfold State.applyPolicy
  split
  · exact ⟨.refl, fun _ _ _ _ => .refl⟩
  next hruns =>
    rw [if_pos (h.resolve_left hruns)]
    exact ⟨setNat_keeps, fun v n hn ha => .setNat (desc_ne hn (by decide) ha)⟩

theorem applyPolicies_counts {code : Nat} (l : List Nat) (s : State) (h : ∀ c ∈ l, s.ustate c ≠ 2 ∨ s.cnat (desc c 8) = 1) :
    s.Keeps [.dict] (l.foldl (State.applyPolicy u code) s) ∧ s.Spares (desc u 5) (l.foldl (State.applyPolicy u code) s) := by
  induction l generalizing s with
  | nil => exact ⟨.refl, .refl⟩
  | cons c l ih =>
    obtain ⟨hkeeps, hspares⟩ := applyPolicy_counts (u := u) (code := code) (h c List.mem_cons_self)
    obtain ⟨hkeeps', hspares'⟩ := ih (s.applyPolicy u code c) fun d hd => by
      have hstate : (s.applyPolicy u code c).ustate d = s.ustate d := (hspares d 2 (by decide) (by decide)).nat
      rw [hstate, cnat_of_committed (hkeeps.same .committed (by decide))]
      exact h d (List.mem_cons_of_mem c hd)
    exact ⟨hkeeps.trans hkeeps', (hspares u 5 (by decide) (by decide)).trans hspares'⟩

/-- The fault policy where each running course that names an accelerator carries on without it (R36). -/
theorem faultAccel_alone {code : Nat} (ha : a < 8) (hcourses : ∀ c, c ∈ s.naming (0x600 + a) → s.ustate c ≠ 2 ∨ s.cnat (desc c 8) = 1) :
    (s.faultAccel a code).nat (desc (0x600 + a) 5) = code ∧ (s.faultAccel a code).holdings = s.holdings := by
  have hfaulted : s.Keeps [.dict, .awaiting, .events, .log] ((s.setUState (0x600 + a) 4 3 0).setNat (desc (0x600 + a) 5) code) :=
    .step setNat_keeps <| .step setUState_keeps .refl
  obtain ⟨hkeeps, hspares⟩ := applyPolicies_counts (u := 0x600 + a) (code := code) (s.naming (0x600 + a))
    ((s.setUState (0x600 + a) 4 3 0).setNat (desc (0x600 + a) 5) code) fun c hc => by
      have hrange : c < 0x330 ∧ 0x300 ≤ c := by
        obtain ⟨x, hx, rfl⟩ := List.mem_map.mp (List.mem_filter.mp hc).1
        have := List.mem_range.mp hx
        omega
      have hstate : s.Spares (desc c 2) ((s.setUState (0x600 + a) 4 3 0).setNat (desc (0x600 + a) 5) code) := by
        refine .step (.setNat (desc_ne (by decide) (by decide) (by decide))) <| setUState_spares ?_ (notMem_eventKeys ?_ ?_ ?_) <;>
          simp only [desc, obj_eq] <;> omega
      rw [cnat_of_committed (hfaulted.same .committed (by decide))]
      exact (hcourses c hc).imp_left fun h => by rwa [State.ustate, hstate.nat]
  rw [faultAccel_eq]
  refine ⟨?_, Eq.trans (hkeeps.same .holdings (by decide)) (hfaulted.same .holdings (by decide))⟩
  rw [hspares.nat, setNat_nat, if_pos rfl]

theorem acceleratorMemoryError_gives (ha : a < 8) (hstate : s.ustate (0x600 + a) ≠ 4)
    (hcourses : ∀ c, c ∈ s.naming (0x600 + a) → s.ustate c ≠ 2 ∨ s.cnat (desc c 8) = 1) :
    Gives (.acceleratorMemoryError a) s fun t => t.nat (desc (0x600 + a) 5) = 0x0602 := by
  obtain ⟨hcode, hheld⟩ := faultAccel_alone (code := 0x0602) ha hcourses
  exact gives_acting rfl (if_pos ⟨ha, hstate⟩) hheld hcode

theorem acceleratorWaitClear_gives (ha : a < 8) (haccepts : s.Accepts r (ak a 5) (leNat 4 0)) :
    Gives (.acceleratorWaitClear r a 0) s fun t => t.nat (ak a 5) = 0 := by
  refine gives_request rfl haccepts rfl ?_
  rw [reply_nat, touch_nat_other _ _ (by rw [ak_eq]; omega)]
  show State.nat (State.setNat (ak a 5) 0 _) (ak a 5) = 0
  rw [setNat_nat, if_pos rfl]

theorem peakCycleLoadClear_gives (he : e < 12) (haccepts : s.Accepts r (ek e 9) (leNat 1 0)) :
    Gives (.peakCycleLoadClear r e 0) s fun t => t.nat (ek e 9) = 0 := by
  refine gives_request rfl haccepts rfl ?_
  rw [reply_nat, touch_nat_other _ _ (by rw [ek_eq]; omega)]
  show State.nat (State.setNat (ek e 9) 0 _) (ek e 9) = 0
  rw [setNat_nat, if_pos rfl]

/-- Settles O5, clause by clause. -/
theorem enginesComplete : Obligations.EnginesComplete := by
  unfold Obligations.EnginesComplete
  exact ⟨fun _ _ => engineLoadComplete_gives, fun _ _ _ => engineFault_gives, fun _ _ _ => engineFault_restarts,
    fun _ _ => engineWatchdog_gives, fun _ _ _ _ => engineRestartReload_gives, fun _ _ _ _ => engineRestoreEnd_gives,
    fun _ _ _ _ _ _ _ => acceleratorJobSubmit_gives, fun _ _ _ _ _ _ => acceleratorJobComplete_gives,
    fun _ _ => acceleratorTimeout_gives, fun _ _ => acceleratorMemoryError_gives, fun _ _ _ => acceleratorWaitClear_gives,
    fun _ _ _ => peakCycleLoadClear_gives⟩

end Sys2Proof.Machine
end

section
/-!
PROOFS. What the RF commands leave (R65, R69 to R73, R76, R79).
-/
namespace Sys2Proof.Machine

-- One proof after another keeps the memory of the whole text's compile low.
set_option Elab.async false

variable {r : Requester} {s t : State} {p k n : Nat}

/-! ### The paths -/

/-- The subindices of a path. -/
theorem pathKey_eq (p n : Nat) : obj (0x3000 + p) n = 256 * (0x3000 + p) + n := obj_eq _ _

theorem pathKey_event (hp : p < 2) (hn : n < 256) : obj (0x3000 + p) n ∉ eventKeys :=
  notMem_eventKeys (by rw [pathKey_eq]; omega) (by rw [pathKey_eq]; omega) (by rw [pathKey_eq]; omega)

theorem path_of_paths (h : t.paths = s.paths) (p : Nat) : t.path p = s.path p := congrArg (Map.get (fun _ => RfPath.init) · p) h

theorem setOverload_spares {bit : Nat} (h : k ≠ obj (0x3000 + p) 0x10) (hevent : k ∉ eventKeys) : s.Spares k (s.setOverload p bit) := by
  unfold State.setOverload
  exact .ite .refl (.iteElse (.setNat h) (.step (.raise hevent) <| .keeps setPath_keeps))

theorem bitOf_setBit_self (n i : Nat) : bitOf (setBit n i) i = true := by
  unfold setBit
  split
  · assumption
  next hclear =>
    have hpow : 0 < 2 ^ i := Nat.two_pow_pos i
    simp only [bitOf, Nat.add_div_right n hpow, beq_iff_eq] at hclear ⊢
    omega

/-- A flag of R76 set, with the others as they were. -/
theorem setOverload_flags (hp : p < 2) (bit : Nat) (s : State) :
    bitOf ((s.setOverload p bit).nat (obj (0x3000 + p) 0x10)) bit = true ∧
      ∀ i, bitOf (s.nat (obj (0x3000 + p) 0x10)) i = true → bitOf ((s.setOverload p bit).nat (obj (0x3000 + p) 0x10)) i = true := by
  have hevent := pathKey_event hp (n := 0x10) (by decide)
  have hraise {cls kind src fields} (u : State) : (u.raise cls kind src fields).nat (obj (0x3000 + p) 0x10) = u.nat (obj (0x3000 + p) 0x10) :=
    (State.Spares.raise hevent).nat
  have hset {q} (u : State) : (u.setPath p q).nat (obj (0x3000 + p) 0x10) = u.nat (obj (0x3000 + p) 0x10) :=
    setPath_keeps.nat _
  unfold State.setOverload
  extract_lets key u r recent
  have hu : u.nat (obj (0x3000 + p) 0x10) = setBit (s.nat (obj (0x3000 + p) 0x10)) bit := by
    simp only [u, key]
    rw [setNat_nat, if_pos rfl]
  split
  next hbit => exact ⟨hbit, fun _ h => h⟩
  next =>
    rw [apply_ite (State.nat · (obj (0x3000 + p) 0x10)), hraise, hset, ite_self, hu]
    exact ⟨bitOf_setBit_self _ _, fun _ h => bitOf_setBit_of_bitOf bit h⟩

/-- A flag set leaves the gain and its changes (R76). -/
theorem setOverload_path (bit : Nat) (s : State) (q : Nat) :
    ((s.setOverload p bit).path q).moves = (s.path q).moves ∧ ((s.setOverload p bit).path q).lastRelease = (s.path q).lastRelease := by
  unfold State.setOverload
  extract_lets key u r recent
  split
  · exact ⟨rfl, rfl⟩
  split
  · exact ⟨rfl, rfl⟩
  · rw [path_of_paths (raise_keeps.same .paths (by decide)), setPath_path]
    split
    next h => exact ⟨congrArg (fun q => (s.path q).moves) h.symm, congrArg (fun q => (s.path q).lastRelease) h.symm⟩
    next => exact ⟨rfl, rfl⟩

theorem planGain_path (at_ : Nat) (m : GainMove) (s : State) :
    (s.planGain p at_ m).path p = { s.path p with moves := (s.path p).moves ++ [(at_, m)] } := by
  simp [State.planGain]

theorem planGain_nat (at_ : Nat) (m : GainMove) (s : State) (k : Nat) : (s.planGain p at_ m).nat k = s.nat k :=
  setPath_keeps.nat k

theorem planGain_move (at_ : Nat) (m : GainMove) (s : State) : (at_, m) ∈ ((s.planGain p at_ m).path p).moves := by
  rw [planGain_path]
  exact List.mem_append_right _ List.mem_cons_self

theorem raiseGr_move (step land : Nat) (s : State) : (land, GainMove.rise step) ∈ ((s.raiseGr p step land).path p).moves := planGain_move _ _ _

theorem raiseGr_spares {step land : Nat} (h : k ≠ obj (0x3000 + p) 0x10) (hevent : k ∉ eventKeys) : s.Spares k (s.raiseGr p step land) := by
  unfold State.raiseGr State.planGain
  exact .step (.keeps setPath_keeps) <| .step (.keeps setPath_keeps) <| .ite (setOverload_spares h hevent) .refl

theorem raiseGr_flag {i : Nat} (hp : p < 2) (step land : Nat) (h : bitOf (s.nat (obj (0x3000 + p) 0x10)) i = true) :
    bitOf ((s.raiseGr p step land).nat (obj (0x3000 + p) 0x10)) i = true := by
  unfold State.raiseGr
  rw [planGain_nat, setPath_keeps.nat]
  split
  · exact (setOverload_flags hp 2 s).2 i h
  · exact h

theorem releaseStep_spares {land : Nat} : s.Spares k (s.releaseStep p land) := by
  unfold State.releaseStep State.planGain
  exact .ite (.step (.keeps setPath_keeps) <| .keeps setPath_keeps) .refl

/-! ### The AGC -/

/-- The clips of a detector window (R69, R76). -/
def State.takeClips (p : Nat) (clips : Option (Nat × Nat × Nat)) (s : State) : State :=
  match clips with
  | none => s
  | some (a, b, n) => ((s.bumpBy (obj (0x3000 + p) 0x0D) n).setOverload p 0).markPath p ⟨6, p, a, b, min n 65535⟩

/-- The rule that a window meets (R69). -/
def State.windowRule (p : Nat) (clipped : Bool) (codes : List Int) (s : State) : State :=
  let above := (codes.filter fun c => decide (codeOf (s.num (obj (0x3000 + p) 8)) < c.natAbs)).length
  let quiet := codes.all fun c => decide (c.natAbs < codeOf (s.num (obj (0x3000 + p) 9)))
  let s := if quiet then s
    else s.setPath p { s.path p with lastAbove := s.gnomon, lastRelease := none }
  let land := landing (s.gnomon + 8)
  if s.nat (obj (0x3000 + p) 2) = 0 then s
  else if clipped then s.raiseGr p 6 land
  else if 4 ≤ above then s.raiseGr p 3 land
  else s.releaseStep p land

theorem agcWindowEnd_acts {codes : List Int} (hp : p < 2) (hup : 2 ≤ s.nat (obj (0x3000 + p) 1)) (hend : s.gnomon % 256 = 0) :
    exec (.agcWindowEnd p codes) s =
      .next (((s.publishLevels p codes).takeClips p (clipsOf (s.publishLevels p codes).gnomon codes)).windowRule p
        (clipsOf (s.publishLevels p codes).gnomon codes).isSome codes) := by
  show execAgcWindowEnd p codes s = _
  unfold execAgcWindowEnd
  exact congrArg _ (if_pos ⟨hp, hup, hend⟩)

theorem takeClips_spares {clips : Option (Nat × Nat × Nat)} (hd : k ≠ obj (0x3000 + p) 0x0D) (h : k ≠ obj (0x3000 + p) 0x10) (hevent : k ∉ eventKeys) :
    s.Spares k (s.takeClips p clips) := by
  unfold State.takeClips
  split
  · exact .refl
  · exact .step (.keeps markPath_keeps) <| .step (setOverload_spares h hevent) <| .bumpBy hd

theorem windowRule_spares {clipped : Bool} {codes : List Int} (h : k ≠ obj (0x3000 + p) 0x10) (hevent : k ∉ eventKeys) :
    s.Spares k (s.windowRule p clipped codes) := by
  have hquiet {c : Bool} {r} : s.Spares k (if c then s else s.setPath p r) := .ite .refl (.keeps setPath_keeps)
  unfold State.windowRule
  exact .ite hquiet (.ite (.step (raiseGr_spares h hevent) hquiet) (.ite (.step (raiseGr_spares h hevent) hquiet)
    (.step releaseStep_spares hquiet)))

theorem agcWindowEnd_levels {codes : List Int} (hp : p < 2) (hup : 2 ≤ s.nat (obj (0x3000 + p) 1)) (hend : s.gnomon % 256 = 0) :
    Gives (.agcWindowEnd p codes) s fun t =>
      t.num (obj (0x3000 + p) 0x0B) = (s.publishLevels p codes).num (obj (0x3000 + p) 0x0B) ∧
      t.num (obj (0x3000 + p) 0x0C) = (s.publishLevels p codes).num (obj (0x3000 + p) 0x0C) := by
  refine gives_next (agcWindowEnd_acts hp hup hend) ⟨num_of_val_eq ?_, num_of_val_eq ?_⟩
  · exact State.Spares.step (windowRule_spares (obj_ne (by decide)) (pathKey_event hp (by decide))) <|
      takeClips_spares (obj_ne (by decide)) (obj_ne (by decide)) (pathKey_event hp (by decide))
  · exact State.Spares.step (windowRule_spares (obj_ne (by decide)) (pathKey_event hp (by decide))) <|
      takeClips_spares (obj_ne (by decide)) (obj_ne (by decide)) (pathKey_event hp (by decide))

theorem windowRule_clip {codes : List Int} (hp : p < 2) (hauto : s.nat (obj (0x3000 + p) 2) ≠ 0)
    (hflag : bitOf (s.nat (obj (0x3000 + p) 0x10)) 0 = true) :
    (landing (s.gnomon + 8), GainMove.rise 6) ∈ ((s.windowRule p true codes).path p).moves ∧
      bitOf ((s.windowRule p true codes).nat (obj (0x3000 + p) 0x10)) 0 = true := by
  have hquiet (c : Bool) (r : RfPath) : s.Keeps [.paths] (if c then s else s.setPath p r) := .ite .refl setPath_keeps
  unfold State.windowRule
  extract_lets above quiet _ u land
  have hu : s.Keeps [.paths] u := hquiet _ _
  have hland : land = landing (s.gnomon + 8) := congrArg (fun g => landing (g + 8)) (hu.same .gnomon (by decide))
  rw [if_neg (by rw [hu.nat]; exact hauto), if_pos rfl, ← hland]
  refine ⟨raiseGr_move _ _ _, raiseGr_flag hp _ _ ?_⟩
  rwa [hu.nat]

theorem agcWindowEnd_clip {codes : List Int} (hp : p < 2) (hup : 2 ≤ s.nat (obj (0x3000 + p) 1)) (hend : s.gnomon % 256 = 0)
    (hauto : s.nat (obj (0x3000 + p) 2) ≠ 0) (hclip : (clipsOf s.gnomon codes).isSome = true) :
    Gives (.agcWindowEnd p codes) s fun t =>
      (landing (s.gnomon + 8), GainMove.rise 6) ∈ (t.path p).moves ∧ bitOf (t.nat (obj (0x3000 + p) 0x10)) 0 = true := by
  obtain ⟨⟨a, b, n⟩, hclips⟩ := Option.isSome_iff_exists.mp hclip
  have hlevels : (s.publishLevels p codes).gnomon = s.gnomon := publishLevels_keeps.same .gnomon (by decide)
  have hexec := agcWindowEnd_acts (codes := codes) hp hup hend
  rw [hlevels, hclips] at hexec
  have hpublished : s.Spares (obj (0x3000 + p) 2) (s.publishLevels p codes) := by
    unfold State.publishLevels
    exact .step (.setNum (obj_ne (by decide))) <| .step (.setNum (obj_ne (by decide))) <| .keeps setPath_keeps
  have htaken : (s.publishLevels p codes).Keeps [.dict, .awaiting, .events, .log, .paths, .chains, .captures]
      ((s.publishLevels p codes).takeClips p (some (a, b, n))) :=
    .step markPath_keeps <| .step setOverload_keeps <| .step bumpBy_keeps .refl
  have hgnomon : ((s.publishLevels p codes).takeClips p (some (a, b, n))).gnomon = s.gnomon := Eq.trans (htaken.same .gnomon (by decide)) hlevels
  refine gives_next hexec ?_
  rw [← hgnomon]
  refine windowRule_clip hp ?_ ?_
  · rw [(takeClips_spares (obj_ne (by decide)) (obj_ne (by decide)) (pathKey_event hp (by decide))).nat, hpublished.nat]
    exact hauto
  · unfold State.takeClips
    rw [markPath_keeps.nat]
    exact (setOverload_flags hp 0 _).1

theorem agcReleaseStep_gives (hp : p < 2) (hdue : s.releaseDue p = true) (hfree : s.releaseHeld p = false) :
    Gives (.agcReleaseStep p) s fun t =>
      (landing s.gnomon, GainMove.fall) ∈ (t.path p).moves ∧ (t.path p).lastRelease = some (landing s.gnomon) := by
  have hstep : s.releaseStep p (landing s.gnomon) =
      (s.setPath p { s.path p with lastRelease := some (landing s.gnomon) }).planGain p (landing s.gnomon) .fall := by
    unfold State.releaseStep
    exact if_pos (by simp [hdue, hfree])
  have hexec : exec (.agcReleaseStep p) s = .next (s.releaseStep p (landing s.gnomon)) := congrArg _ (if_pos hp)
  refine gives_next hexec ?_
  rw [hstep, planGain_path, setPath_path, if_pos rfl]
  exact ⟨List.mem_append_right _ List.mem_cons_self, rfl⟩

theorem lnaTrip_gives (hp : p < 2) (hup : 2 ≤ s.nat (obj (0x3000 + p) 1)) :
    Gives (.lnaTrip p) s fun t =>
      (landing s.gnomon, GainMove.trip) ∈ (t.path p).moves ∧ bitOf (t.nat (obj (0x3000 + p) 0x10)) 1 = true := by
  have hexec : exec (.lnaTrip p) s =
      .next (((s.setPath p { s.path p with lastTrip := s.gnomon }).setOverload p 1).planGain p (landing s.gnomon) .trip) :=
    congrArg _ (if_pos ⟨hp, hup⟩)
  refine gives_next hexec ⟨planGain_move _ _ _, ?_⟩
  rw [planGain_nat]
  exact (setOverload_flags hp 1 _).1

/-! ### The gain -/

theorem markPath_nat (m : Marker) (s : State) (k : Nat) : (s.markPath p m).nat k = s.nat k := markPath_keeps.nat k

theorem noteGain_nat (land : Nat) (s : State) (k : Nat) : (s.noteGain p land).nat k = s.nat k := noteGain_keeps.nat k

theorem setPath_nat (q : RfPath) (s : State) (k : Nat) : (s.setPath p q).nat k = s.nat k := setPath_keeps.nat k

/-- The gain set on a path whose LNA is high and stays so (R66, R67). -/
theorem setGain_high {want land : Nat} (hp : p < 2) (hhigh : s.nat (obj (0x3000 + p) 7) = 0) (hlow : want ≤ 30)
    (hother : want ≠ s.nat (obj (0x3000 + p) 6)) : (s.setGain p want land).nat (obj (0x3000 + p) 6) = want := by
  have hafter : lnaAfter (s.nat (obj (0x3000 + p) 7) == 1) want (s.lnaQuiet p) = false := by
    rw [hhigh]
    unfold lnaAfter
    rw [if_neg (by omega)]
    rfl
  unfold State.setGain
  extract_lets old low newLow gr s1 s2 s3 _ s4
  have hgr : gr = want := if_neg (by simp only [newLow, low, hafter]; decide)
  have h2 : s2.nat (obj (0x3000 + p) 6) = want := by
    simp only [s2]
    rw [setNat_nat, if_pos rfl, hgr]
  have h4 : s4.nat (obj (0x3000 + p) 6) = want := by
    simp only [s4]
    rw [apply_ite (State.nat · (obj (0x3000 + p) 6)), setPath_nat, ite_self]
    simp only [s3]
    rw [bump_nat, if_neg (obj_ne (by decide)), h2]
  rw [if_neg (by rw [hgr]; exact hother), markPath_nat, noteGain_nat, h4]

theorem linked_of_spares (hmode : t.mode = s.mode) (h : s.Spares 0x300002 t) : t.linked = s.linked := by
  rw [State.linked, hmode, h.nat]
  rfl

/-- A trip lands (R70): the LNA low, GR 12 dB up. -/
theorem landGain_trip {land : Nat} (hp : p < 2) (hhigh : s.nat (obj (0x3000 + p) 7) = 0) (halone : s.linked = false) :
    (s.landGain p land .trip).nat (obj (0x3000 + p) 7) = 1 ∧
      (s.landGain p land .trip).nat (obj (0x3000 + p) 6) = s.nat (obj (0x3000 + p) 6) + 12 := by
  show (s.tripGain p land).nat _ = 1 ∧ (s.tripGain p land).nat _ = _
  unfold State.tripGain
  extract_lets gr s1 _ s2 s3
  have hset (k : Nat) : s3.nat k = (s1.bump (obj (0x3000 + p) 0x0E)).nat k := by
    simp only [s3]
    rw [markPath_nat, noteGain_nat]
    exact setPath_nat _ _ _
  have hlinked : s3.linked = false := by
    refine (linked_of_spares (s := s) ?_ ?_).trans halone
    · have hkeeps : s.Keeps [.dict, .paths, .chains, .captures] s3 :=
        .step markPath_keeps <| .step noteGain_keeps <| .step setPath_keeps <| .step bump_keeps <| .step setNat_keeps <| .step setNat_keeps .refl
      exact hkeeps.same .mode (by decide)
    · exact .step (.keeps markPath_keeps) <| .step (.keeps noteGain_keeps) <| .step (.keeps setPath_keeps) <|
        .step (.bump (by rw [pathKey_eq]; omega)) <| .step (.setNat (by rw [pathKey_eq]; omega)) <| .setNat (by rw [pathKey_eq]; omega)
  rw [if_neg (by omega), if_neg (by rw [hlinked]; decide), hset, hset, bump_nat, bump_nat, if_neg (obj_ne (by decide)), if_neg (obj_ne (by decide))]
  simp only [s1]
  rw [setNat_nat, setNat_nat, if_neg (obj_ne (by decide)), setNat_nat, if_pos rfl, if_pos rfl]
  exact ⟨rfl, rfl⟩

theorem landGain_fall {land : Nat} (hp : p < 2) (halone : s.linked = false)
    (hroom : s.nat (obj (0x3000 + p) 4) < s.nat (obj (0x3000 + p) 6)) (hgr : s.nat (obj (0x3000 + p) 6) ≤ 30)
    (hhigh : s.nat (obj (0x3000 + p) 7) = 0) :
    (s.landGain p land .fall).nat (obj (0x3000 + p) 6) = s.nat (obj (0x3000 + p) 6) - 1 := by
  have hbase : s.agcBase p = s.nat (obj (0x3000 + p) 6) := by
    rw [State.agcBase, halone]
    rfl
  have hland : s.landGain p land .fall = s.applyDemand p (s.nat (obj (0x3000 + p) 6) - 1) land := by
    show (if s.agcBase p ≤ _ then s else s.applyDemand p (s.agcBase p - 1) land) = _
    rw [hbase, if_neg (by omega)]
  have hdemand {d : RfPath} : (s.setPath p d).linked = false := (linked_of_spares (setPath_keeps.same .mode (by decide))
    (.keeps setPath_keeps)).trans halone
  rw [hland]
  unfold State.applyDemand
  extract_lets _ u
  rw [if_neg (by rw [hdemand]; decide)]
  have hu (k : Nat) : u.nat k = s.nat k := setPath_nat _ _ _
  exact setGain_high hp ((hu _).trans hhigh) (by omega) (by rw [hu]; omega)

theorem manualGrWrite_gives {gr : Nat} (hp : p < 2) (haccepts : s.Accepts r (obj (0x3000 + p) 3) (leNat 1 gr)) (hmanual : s.nat (obj (0x3000 + p) 2) = 0) :
    Gives (.manualGrWrite r p gr) s fun t => t.nat (obj (0x3000 + p) 3) = gr ∧
      (2 ≤ s.nat (obj (0x3000 + p) 1) → (landing (s.gnomon + 8), GainMove.manual gr) ∈ (t.path p).moves) := by
  generalize hu : s.autoTake r (obj (0x3000 + p) 3) = u
  have hnat {n : Nat} (hn : n < 256) : u.nat (obj (0x3000 + p) n) = s.nat (obj (0x3000 + p) n) := by
    rw [← hu, pathKey_eq p n]
    exact autoTake_nat _ _ _ (by omega) (by omega) (by omega) (by omega)
  have hgnomon : u.gnomon = s.gnomon := by rw [← hu, autoTake_gnomon]
  let v := u.setNat (obj (0x3000 + p) 3) gr
  have hact : u.writeManualGr p gr =
      (if 2 ≤ v.nat (obj (0x3000 + p) 1) then v.planGain p (landing (v.gnomon + 8)) (.manual gr) else v, 0) := by
    have hcode : refuseIf (u.nat (obj (0x3000 + p) 2) != 0) 0x0A01 = 0 := by
      rw [hnat (by decide), hmanual]
      rfl
    unfold State.writeManualGr guarded
    rw [if_pos hcode]
  refine gives_request rfl haccepts (by rw [hu, hact]) ?_
  rw [hu, hact, reply_nat, touch_nat_other _ _ (by rw [pathKey_eq]; omega)]
  refine ⟨?_, fun hup => ?_⟩
  · rw [apply_ite (State.nat · _), planGain_nat, ite_self]
    simp only [v]
    rw [setNat_nat, if_pos rfl]
  · have hv : 2 ≤ v.nat (obj (0x3000 + p) 1) := by
      simp only [v]
      rw [setNat_nat, if_neg (obj_ne (by decide)), hnat (by decide)]
      exact hup
    rw [if_pos hv, path_of_paths (answered_paths r 0 [] _), ← hgnomon]
    exact planGain_move _ _ _

/-- The AGC mode of one path (R72, R73). -/
theorem agcModeWrite_gives {mode : Nat} (hp : p < 2) (haccepts : s.Accepts r (obj (0x3000 + p) 2) (leNat 1 mode)) :
    Gives (.agcModeWrite r p mode) s fun t => t.nat (obj (0x3000 + p) 2) = mode := by
  refine gives_request rfl haccepts rfl ?_
  rw [accept, reply_nat, touch_nat_other _ _ (by rw [pathKey_eq]; omega)]
  unfold State.writeAgcMode
  extract_lets one
  have hone (u : State) : (one p u).nat (obj (0x3000 + p) 2) = mode := by
    simp only [one]
    rw [setNat_nat, if_pos rfl]
  have hother (q : Nat) (u : State) (hq : q ≠ p) : (one q u).nat (obj (0x3000 + p) 2) = u.nat (obj (0x3000 + p) 2) := by
    have hapart (n : Nat) (hn : n < 256) : obj (0x3000 + p) 2 ≠ obj (0x3000 + q) n := by
      simp only [pathKey_eq]
      omega
    refine State.Spares.nat (.step (.setNat (hapart 2 (by decide))) <| .ite ?_ (.step (.keeps setPath_keeps) ?_)) <;>
      exact .ite (.setNat (hapart 3 (by decide))) .refl
  split
  · rcases Nat.lt_or_ge 0 p with h | h
    · obtain rfl : p = 1 := by omega
      exact hone _
    · obtain rfl : p = 0 := by omega
      rw [hother 1 _ (by decide), hone]
  · exact hone _

theorem amAttenuationStep_gives {level : Int} (hbranch : s.nat 0x300020 = 1) (hauto : s.nat 0x300022 = 1) (hup : s.nat 0x300001 = 2)
    (hloud : -100 < level) :
    Gives (.amAttenuationStep level) s fun t =>
      (landing s.gnomon, GainMove.am (min 36 (s.nat 0x300023 + 6))) ∈ (t.path 0).moves ∧ t.amQuietSince = none := by
  let u := State.setAmAttenuation (min 36 (s.nat 0x300023 + 6)) { s with amQuietSince := none }
  have hexec : exec (.amAttenuationStep level) s = .next (if 30 ≤ s.nat 0x300023 then u.setOverload 0 3 else u) := by
    have hserves : s.nat 0x300020 = 1 ∧ s.nat 0x300022 = 1 ∧ s.nat 0x300001 = 2 := ⟨hbranch, hauto, hup⟩
    show execAmAttenuationStep level s = _
    unfold execAmAttenuationStep
    rw [if_pos hserves]
    dsimp only
    rw [if_pos hloud]
  have hu : u = ({ s with amQuietSince := none } : State).planGain 0 (landing s.gnomon) (.am (min 36 (s.nat 0x300023 + 6))) := by
    have hrunning : ¬({ s with amQuietSince := none } : State).nat 0x300001 < 2 := by
      show ¬s.nat 0x300001 < 2
      omega
    exact if_neg hrunning
  have hmove : (landing s.gnomon, GainMove.am (min 36 (s.nat 0x300023 + 6))) ∈ (u.path 0).moves := by
    rw [hu]
    exact planGain_move _ _ _
  have hquiet : u.amQuietSince = none := by
    rw [hu]
    exact planGain_keeps.same .amQuietSince (by decide)
  refine gives_next hexec ?_
  split
  · exact ⟨by rw [(setOverload_path 3 u 0).1]; exact hmove, Eq.trans (setOverload_keeps.same .amQuietSince (by decide)) hquiet⟩
  · exact ⟨hmove, hquiet⟩

theorem overloadFlagsClear_gives {bits : Nat} (hp : p < 2) (haccepts : s.Accepts r (obj (0x3000 + p) 0x10) (leNat 1 bits)) :
    Gives (.overloadFlagsClear r p bits) s fun t =>
      t.nat (obj (0x3000 + p) 0x10) = clearWritten 8 (s.nat (obj (0x3000 + p) 0x10)) bits := by
  refine gives_request rfl haccepts rfl ?_
  rw [accept, reply_nat, touch_nat_other _ _ (by rw [pathKey_eq]; omega), setNat_nat, if_pos rfl]
  rw [pathKey_eq, autoTake_nat _ _ _ (by omega) (by omega) (by omega) (by omega)]

/-! ### The antenna supplies -/

/-- The subindices of a supply. -/
theorem supplyKey_eq (p n : Nat) : obj (0x3010 + p) n = 256 * (0x3010 + p) + n := obj_eq _ _

theorem supplyKey_event (hp : p < 2) (hn : n < 256) : obj (0x3010 + p) n ∉ eventKeys :=
  notMem_eventKeys (by rw [supplyKey_eq]; omega) (by rw [supplyKey_eq]; omega) (by rw [supplyKey_eq]; omega)

theorem antenna_of_antennas (h : t.antennas = s.antennas) (p : Nat) : t.antenna p = s.antenna p :=
  congrArg (Map.get (fun _ => Antenna.init) · p) h

theorem setAntennaStatus_antenna (new : Nat) (s : State) (q : Nat) : (s.setAntennaStatus p new).antenna q = s.antenna q :=
  antenna_of_antennas (setAntennaStatus_keeps.same .antennas (by decide)) q

theorem setAntennaStatus_spares {new : Nat} (h : k ≠ obj (0x3010 + p) 7) (hevent : k ∉ eventKeys) : s.Spares k (s.setAntennaStatus p new) := by
  unfold State.setAntennaStatus
  exact .ite .refl (.step (.raise hevent) <| .setNat h)

theorem setAntennaStatus_status (hp : p < 2) (new : Nat) (s : State) : (s.setAntennaStatus p new).nat (obj (0x3010 + p) 7) = new := by
  unfold State.setAntennaStatus
  extract_lets key old
  split
  next hsame => exact hsame
  next => rw [(State.Spares.raise (supplyKey_event hp (by decide))).nat, setNat_nat, if_pos rfl]

theorem setAntenna_nat (a : Antenna) (s : State) (k : Nat) : (s.setAntenna p a).nat k = s.nat k := setAntenna_keeps.nat k

theorem antennaFault_spares {st : Nat} (h7 : k ≠ obj (0x3010 + p) 7) (ha : k ≠ obj (0x3010 + p) 0x0A) (hevent : k ∉ eventKeys) :
    s.Spares k (s.antennaFault p st) := by
  unfold State.antennaFault
  exact .step (setAntennaStatus_spares h7 hevent) <| .step (.bump ha) <| .keeps setAntenna_keeps

/-- A supply switched off for a fault (R79). -/
theorem antennaFault_off (hp : p < 2) (st : Nat) (s : State) : ((s.antennaFault p st).antenna p).enable = false ∧
    (s.antennaFault p st).nat (obj (0x3010 + p) 7) = if s.nat (obj (0x3010 + p) 8) ≤ (s.antenna p).retries then 5 else st := by
  unfold State.antennaFault
  extract_lets a u
  refine ⟨?_, ?_⟩
  · rw [setAntennaStatus_antenna, antenna_of_antennas (bump_keeps.same .antennas (by decide)), setAntenna_antenna, if_pos rfl]
  · rw [setAntennaStatus_status hp]
    simp only [u]
    rw [bump_nat, if_neg (obj_ne (by decide)), setAntenna_nat]

theorem antennaShort_gives {current : Nat} (hp : p < 2) (hon : (s.antenna p).enable = true) (hshort : s.shorted p current = true) :
    Gives (.antennaShort p current) s fun t => (t.antenna p).enable = false ∧
      t.nat (obj (0x3010 + p) 7) = if s.nat (obj (0x3010 + p) 8) ≤ (s.antenna p).retries then 5 else 4 := by
  have hexec : exec (.antennaShort p current) s = .next (s.antennaFault p 4) := congrArg _ (if_pos ⟨hp, hon, hshort⟩)
  exact gives_next hexec (antennaFault_off hp 4 s)

theorem antennaCurrentJudge_gives {codes : List Nat} (hp : p < 2) (hlength : codes.length = 100) (hfirst : (s.antenna p).meanAt = none) :
    Gives (.antennaCurrentJudge p codes) s fun t => t.nat (obj (0x3010 + p) 6) = min 65535 (s.senseMean p codes) := by
  have hserves : p < 2 ∧ codes.length = 100 ∧ (s.antenna p).meanAt.all (fun t => decide (t + 10 * msTicks ≤ s.gnomon)) = true :=
    ⟨hp, hlength, by rw [hfirst]; rfl⟩
  have hjudge (m : Nat) (u : State) : u.Spares (obj (0x3010 + p) 6) (u.judgeAntenna p m) := by
    unfold State.judgeAntenna
    exact .ite (.ite .refl (antennaFault_spares (obj_ne (by decide)) (obj_ne (by decide)) (supplyKey_event hp (by decide))))
      (.step (setAntennaStatus_spares (obj_ne (by decide)) (supplyKey_event hp (by decide))) <| .keeps setAntenna_keeps)
  refine ⟨_, rfl, ?_⟩
  rw [if_pos hserves]
  extract_lets recent a u
  have hu : u.nat (obj (0x3010 + p) 6) = recent := by
    simp only [u]
    rw [setAntenna_nat, setNat_nat, if_pos rfl]
  cases a.mean with
  | none => exact hu
  | some m => exact (hjudge m u).nat.trans hu

theorem antennaRetry_gives {since : Nat} (hp : p < 2) (hshort : s.nat (obj (0x3010 + p) 7) = 4) (hmode : s.antennaMode p = true)
    (hleft : (s.antenna p).retries < s.nat (obj (0x3010 + p) 8)) (hfault : (s.antenna p).faultAt = some since)
    (hover : since + 153600000 ≤ s.gnomon) :
    Gives (.antennaRetry p) s fun t => (t.antenna p).enable = true ∧ t.nat (obj (0x3010 + p) 7) = 1 := by
  have hserves : p < 2 ∧ (s.nat (obj (0x3010 + p) 7) = 3 ∨ s.nat (obj (0x3010 + p) 7) = 4) ∧ s.antennaMode p = true ∧
      (s.antenna p).retries < s.nat (obj (0x3010 + p) 8) := ⟨hp, .inr hshort, hmode, hleft⟩
  have hexec : exec (.antennaRetry p) s = .next ((s.setAntenna p { s.antenna p with
      enable := true, retries := (s.antenna p).retries + 1, retriedAt := some s.gnomon }).setAntennaStatus p 1) := by
    show execAntennaRetry p s = _
    unfold execAntennaRetry
    dsimp only
    rw [if_pos hserves, hfault]
    exact congrArg _ (if_pos hover)
  refine gives_next hexec ⟨?_, setAntennaStatus_status hp _ _⟩
  rw [setAntennaStatus_antenna, setAntenna_antenna, if_pos rfl]

theorem refreshAntenna_status (hp : p < 2) (hlow : s.nat (obj (0x3010 + p) 7) = 0) : (s.refreshAntenna p).nat (obj (0x3010 + p) 7) ≤ 1 := by
  unfold State.refreshAntenna
  extract_lets st on a u
  have hst : st = 0 := hlow
  rw [if_neg (by omega), hst, if_pos rfl, apply_ite (State.nat · (obj (0x3010 + p) 7)), setAntennaStatus_status hp, setAntennaStatus_status hp]
  split <;> omega

theorem antennaRestore_gives {value : Nat} (hp : p < 2) (haccepts : s.Accepts r (obj (0x3010 + p) 9) (leNat 1 value))
    (hlatched : s.nat (obj (0x3010 + p) 7) = 5) :
    Gives (.antennaRestore r p value) s fun t => t.nat (obj (0x3010 + p) 7) ≤ 1 := by
  have hlatched' : (s.autoTake r (obj (0x3010 + p) 9)).nat (obj (0x3010 + p) 7) = 5 := by
    rw [supplyKey_eq p 7] at hlatched ⊢
    rwa [autoTake_nat _ _ _ (by omega) (by omega) (by omega) (by omega)]
  refine gives_request rfl haccepts rfl ?_
  rw [accept, reply_nat, touch_nat_other _ _ (by rw [supplyKey_eq]; omega), State.restoreAntenna, if_pos hlatched']
  exact refreshAntenna_status hp (setAntennaStatus_status hp _ _)

/-! ### The sample clock -/

theorem setUState_desc {u new cause verb : Nat} (h : k / 256 < 0x2100 ∨ 0x25FF < k / 256) (hu : u < 0x1000) (hevent : k ∉ eventKeys) :
    s.Spares k (s.setUState u new cause verb) := by
  refine setUState_spares ?_ hevent
  simp only [desc, obj_eq]
  omega

/-- An unlock of the clock writes Plumb's subindices of the path, and its unit's state (R86). -/
theorem plumbUnlock_spares (hp : p < 2) (hk : k / 256 = 0x3000) (hevent : k ∉ eventKeys) : s.Spares k (s.plumbUnlock p) := by
  have hkey (n : Nat) (hn : n < 256) : k ≠ obj (0x3020 + p) n := by
    rw [obj_eq]
    omega
  have hstatus {bit on} {u : State} : u.Spares k (u.setPlumbStatus p bit on) := .setNat (hkey 7 (by decide))
  have hunit {u : State} : u.Spares k (u.plumbUnitState p) := by
    unfold State.plumbUnitState
    exact .ite .refl (setUState_desc (.inr (by omega)) (by omega) hevent)
  have hwindow {phase} {u : State} : u.Spares k (u.startWindow p phase) := by
    unfold State.startWindow
    exact .step hstatus <| .step hstatus <| .keeps setPlumb_keeps
  have hend {u : State} : u.Spares k (u.endCycle p) := by
    unfold State.endCycle
    exact .iteThen (.step hstatus <| .step hstatus <| .step (.keeps setPlumb_keeps) <| by
      split
      · exact .step hunit (.setNat (hkey 1 (by decide)))
      · exact .refl) hwindow
  have houtcome {n} {u : State} : u.Spares k (u.plumbOutcome p n) := plumbOutcome_val p n u (by omega) (by omega) (by omega) (by omega)
  unfold State.plumbUnlock
  exact .iteThen (.keeps setPlumb_keeps) (.iteThen (.step houtcome <| .step hstatus <| .step (.keeps setPlumb_keeps) <|
    .keeps dropBlanks_keeps) hend)

theorem sampleClockUnlock_gives {lastGood : Nat} (hup : s.nat 0x300001 = 2) :
    Gives (.sampleClockUnlock lastGood) s fun t => t.nat 0x300001 = 3 ∧ t.nat 0x700202 = 1 ∧ s.gnomon ∈ t.power.unlocks := by
  refine ⟨_, rfl, ?_⟩
  extract_lets good one up u
  have hon : up = true := by simp [up, hup]
  have hevent : (0x300001 : Nat) ∉ eventKeys := by decide
  have hlost (v : State) (h : v.nat 0x300001 = 2) : (one 0 v).nat 0x300001 = 3 := by
    simp only [one]
    rw [if_pos h, (plumbUnlock_spares (by decide) (by decide) hevent).nat, (setOverload_spares (by decide) hevent).nat, markPath_nat, setPath_nat]
    simp [obj]
  have hother (v : State) : v.Spares 0x300001 (one 1 v) := by
    simp only [one]
    exact .ite (.step (plumbUnlock_spares (by decide) (by decide) hevent) <| .step (setOverload_spares (by decide) hevent) <|
      .step (.keeps markPath_keeps) <| .step (.keeps setPath_keeps) <| .setNat (by decide)) .refl
  have hkeeps (p : Nat) (v : State) : v.Keeps [.dict, .awaiting, .events, .launch, .log, .paths, .plumb, .chains, .captures] (one p v) := by
    simp only [one]
    exact .ite (.step plumbUnlock_keeps <| .step setOverload_keeps <| .step markPath_keeps <| .step setPath_keeps <| .step setNat_keeps .refl) .refl
  have hgnomon : u.gnomon = s.gnomon := by
    have h : s.Keeps [.dict, .awaiting, .events, .launch, .log, .paths, .plumb, .chains, .captures] u :=
      .step setNat_keeps <| .trans (hkeeps 0 s) (hkeeps 1 _)
    exact h.same .gnomon (by decide)
  rw [if_pos hon]
  refine ⟨?_, ?_, ?_⟩
  · show u.nat 0x300001 = 3
    simp only [u]
    rw [setNat_nat, if_neg (by decide), (hother _).nat, hlost s hup]
  · show u.nat 0x700202 = 1
    simp only [u]
    rw [setNat_nat, if_pos rfl]
  · rw [← hgnomon]
    exact List.mem_append_right _ List.mem_cons_self

/-- Settles O1, clause by clause. -/
theorem rfCompletes : Obligations.RfCompletes := by
  unfold Obligations.RfCompletes
  exact ⟨fun _ _ _ => agcWindowEnd_levels, fun _ _ _ => agcWindowEnd_clip, fun _ _ => agcReleaseStep_gives, fun _ _ => lnaTrip_gives,
    fun _ _ _ => landGain_trip, fun _ _ _ => landGain_fall, fun _ _ _ _ => manualGrWrite_gives, fun _ _ _ _ => agcModeWrite_gives,
    fun _ _ => amAttenuationStep_gives, fun _ _ _ _ => overloadFlagsClear_gives, fun _ _ _ => antennaShort_gives,
    fun _ _ _ => antennaCurrentJudge_gives, fun _ _ _ => antennaRetry_gives, fun _ _ _ _ => antennaRestore_gives,
    fun _ _ => sampleClockUnlock_gives⟩

end Sys2Proof.Machine
end
section
/-!
PROOFS. The frame of a command: its state is the one before, but for the fields that its footprint names and the subindices that some
index ranges and the events hold.
-/
namespace Sys2Proof.Machine

-- One proof after another keeps the memory of the whole text's compile low.
set_option Elab.async false

/-- A subindex that lies in none of the index ranges and that raising an event leaves. -/
structure Outside (ranges : List (Nat × Nat)) (k : Nat) : Prop where
  event : k ∉ eventKeys
  range : ∀ r ∈ ranges, ¬(r.1 ≤ k / 256 ∧ k / 256 ≤ r.2)

/-- Whether one of the index ranges holds a subindex. -/
def covers (ranges : List (Nat × Nat)) (j : Nat) : Bool := ranges.any fun r => decide (r.1 ≤ j / 256 ∧ j / 256 ≤ r.2)

theorem Outside.ne {ranges : List (Nat × Nat)} {j k : Nat} (h : Outside ranges k) (hj : covers ranges j = true := by decide) :
    k ≠ j := by
  rintro rfl
  obtain ⟨r, hr, hin⟩ := List.any_eq_true.1 hj
  exact h.range r hr (of_decide_eq_true hin)

/-- The subindices of one range, by their index and subindex. -/
theorem Outside.ne_obj {lo hi i n k : Nat} {ranges : List (Nat × Nat)} (h : Outside ranges k) (hr : (lo, hi) ∈ ranges)
    (hlo : lo ≤ i) (hhi : i ≤ hi) (hn : n < 256 := by decide) : k ≠ obj i n := by
  have hdiv : obj i n / 256 = i := by rw [obj_eq]; omega
  rintro rfl
  exact h.range _ hr (by rw [hdiv]; exact ⟨hlo, hhi⟩)

theorem Outside.index_ne {i k : Nat} {ranges : List (Nat × Nat)} (h : Outside ranges k)
    (hi : covers ranges (256 * i) = true := by decide) : k / 256 ≠ i := by
  intro heq
  obtain ⟨r, hr, hin⟩ := List.any_eq_true.1 hi
  have hin := of_decide_eq_true hin
  exact h.range r hr (by omega)

/-- Narrower ranges hold fewer subindices. -/
theorem Outside.mono {R S : List (Nat × Nat)} {k : Nat} (h : Outside R k)
    (hS : ∀ r ∈ S, ∃ q ∈ R, q.1 ≤ r.1 ∧ r.2 ≤ q.2 := by decide) : Outside S k := by
  refine ⟨h.event, fun r hr hin => ?_⟩
  obtain ⟨q, hq, hlo, hhi⟩ := hS r hr
  exact h.range q hq (by omega)

/-! ### The subindices of one index -/

/-- A subindex that is none of some subindices of one index. -/
def Apart (i : Nat) (subs : List Nat) (k : Nat) : Prop := ∀ n ∈ subs, k ≠ obj i n

namespace Apart
variable {i j k n : Nat} {L M : List Nat}

theorem ne (h : Apart i L k) (hn : n ∈ L := by decide) : k ≠ obj i n := h n hn

theorem mono (h : Apart i L k) (hM : M ⊆ L := by decide) : Apart i M k := fun n hn => h n (hM hn)

/-- Another subindex of the same index. -/
theorem same (hn : n ∉ L := by decide) : Apart i L (obj i n) := fun _ hm => obj_ne fun h => hn (h ▸ hm)

/-- A subindex of another index. -/
theorem other (hi : k / 256 ≠ i) (hL : ∀ n ∈ L, n < 256 := by decide) : Apart i L k := by
  intro n hn hk
  have := hL n hn
  rw [hk, obj_eq] at hi
  omega

end Apart

theorem Outside.apart {lo hi i k : Nat} {L : List Nat} {ranges : List (Nat × Nat)} (h : Outside ranges k) (hr : (lo, hi) ∈ ranges)
    (hlo : lo ≤ i) (hhi : i ≤ hi) (hL : ∀ n ∈ L, n < 256 := by decide) : Apart i L k :=
  fun n hn => h.ne_obj hr hlo hhi (hL n hn)

/-- The answer to a command is a state in which a subindex has the value that it had. -/
def State.Yields (k : Nat) (s : State) : Host.Outcome State Fault Refusal → Prop
  | .next t => s.Spares k t
  | _ => False

theorem State.Yields.next {k : Nat} {s t : State} (h : s.Spares k t) : s.Yields k (.next t) := h

theorem State.eq_of_same {s t : State} (h : ∀ f, s.Same t f) : t = s := by
  obtain ⟨⟩ := s
  obtain ⟨⟩ := t
  simp only [State.mk.injEq]
  exact ⟨h .pending, h .mode, h .ready, h .gnomon, h .freeCtr, h .dict, h .committed, h .awaiting, h .held, h .fifos, h .events,
    h .answer, h .answeredPorts, h .launch, h .prep, h .holdings, h .shares, h .accelConfigured, h .accelOwn, h .utcPrev, h .tbSync,
    h .otp, h .flash, h .sec, h .log, h .upd, h .gpioFired, h .power, h .paths, h .amQuietSince, h .antennas, h .plumb, h .chains,
    h .engines, h .loads, h .accels, h .claimedAt, h .shm, h .captures, h .fms, h .pcm, h .pcmSeq, h .heard, h .tmc, h .lantern,
    h .dabs, h .dabDecoders, h .voices, h .ams, h .drms, h .drmSel, h .following, h .gloaming, h .streams, h .iec, h .radio, h .link,
    h .mesh, h .cvs, h .ports, h .quoin, h .twoWire, h .pdos, h .saving⟩

/-- A state is the one before with its own values in the fields of the footprint. -/
theorem State.Keeps.eq_patch {F : List FieldName} {s t : State} (h : s.Keeps F t) : t = s.patch F t := by
  refine (State.eq_of_same fun f => ?_).symm
  by_cases hf : f ∈ F
  · cases f <;> exact if_pos hf
  · have hkept := h.same f hf
    cases f <;> exact (if_neg hf).trans (Eq.symm hkept)

/-- The frame of a command from its footprint and from what it spares. -/
theorem frame_of {F : List FieldName} {ranges : List (Nat × Nat)} {c : Instr} {s t : State} (hexec : exec c s = .next t)
    (hkeeps : s.Leads F (exec c s)) (hspares : ∀ k, Outside ranges k → s.Yields k (exec c s)) :
    t = s.patch F t ∧ s.KeepsOutside t ranges := by
  rw [hexec] at hkeeps hspares
  exact ⟨State.Keeps.eq_patch hkeeps, fun k hevent hrange => hspares k ⟨hevent, hrange⟩⟩

/-! ### A write request spares what its act spares -/

section
variable {r : Requester} {key c j k : Nat} {b : Bytes} {act : State → State × Nat} {s t : State}

theorem moveToken_spares {new reason : Nat} (h : k ∉ eventKeys) (hport : k / 256 ≠ 0x1030) :
    s.Spares k (s.moveToken new reason) := by
  unfold State.moveToken
  exact .ite .refl (.step (.raise h) <| .step (.setNat (by omega)) <| .step (.setNat (by omega)) .refl)

theorem autoTake_spares (h : k ∉ eventKeys) (hport : k / 256 ≠ 0x1030) : s.Spares k (s.autoTake r key) := by
  unfold State.autoTake
  exact .ite (moveToken_spares h hport) .refl

theorem touch_spares (hport : k / 256 ≠ 0x1030) : s.Spares k (s.touch r) := touch_val r s (by omega)

theorem carryOut_spares (hport : k / 256 ≠ 0x1030) (hact : ∀ t : State, t.Spares k (act t).1) :
    s.Spares k (s.carryOut r key b act c) := by
  have replied {code : Nat} {t : State} : t.Spares k (t.reply code []) := .keeps reply_keeps
  exact .ite (.ite (.step replied <| .step (touch_spares hport) (hact s)) replied) replied

theorem request_spares (h : k ∉ eventKeys) (hport : k / 256 ≠ 0x1030) (hact : ∀ t : State, t.Spares k (act t).1) :
    s.Spares k (s.request r key b act) :=
  (autoTake_spares h hport).trans (carryOut_spares hport hact)

theorem guarded_spares {code : Nat} {f : State → State} (hf : ∀ t : State, t.Spares k (f t)) : s.Spares k (guarded code f s).1 := by
  unfold guarded
  split
  · exact hf s
  · exact .refl

theorem pairedBusy_spares {res : Nat} {f : State → State} (hf : ∀ t : State, t.Spares k (f t)) :
    s.Spares k (s.pairedBusy key res r b f).1 := by
  unfold State.pairedBusy
  refine .iteFst ?_ (hf s)
  split <;> exact .refl

theorem issuePaired_spares {code : Nat} {body : Bytes} (h : k ∉ eventKeys) (hk : k ≠ j) :
    s.Spares k (s.issuePaired j code body) := by
  unfold State.issuePaired
  exact .step (.raise h) <| .step (.issue hk) .refl

end

end Sys2Proof.Machine
end
section
/-!
PROOFS. The frame of the token, the store, the history, the Quoin apply and the enable of a process-data frame.
-/
namespace Sys2Proof.Machine

-- One proof after another keeps the memory of the whole text's compile low.
set_option Elab.async false

/-! ### The token and the store -/

/-- The index ranges of the token, the check-value units and the store. -/
def storeRanges : List (Nat × Nat) := [(0x1030, 0x1041), (0x1070, 0x1078), (0x1100, 0x1100)]

/-- The fields that the token and the store may change. -/
def storeFields : List FieldName :=
  [.answer, .awaiting, .cvs, .dict, .events, .flash, .freeCtr, .held, .log, .ports, .power, .quoin, .radio, .saving]

section
variable {k : Nat} {s : State}

theorem transferCv_lt {p : Nat} {x : Nat × Nat} (h : transferCv p = some x) : x.1 < 2 := by
  unfold transferCv at h
  split at h <;> cases h <;> decide

theorem showCv_spares {u : Nat} (h : Outside [(0x1070, 0x1078)] k) (hu : u < 9) : s.Spares k (s.showCv u) := by
  have hk {n : Nat} (hn : n < 256 := by decide) : k ≠ cvk u n := h.ne_obj List.mem_cons_self (by omega) (by omega) hn
  unfold State.showCv
  split
  · exact .setNat hk
  · exact .step (.setNat hk) <| .step (.setBytes hk) <| .step (.setNat hk) .refl

theorem cvClose_spares {u master : Nat} (h : Outside [(0x1070, 0x1078)] k) (hu : u < 9) : s.Spares k (s.cvClose u master) := by
  unfold State.cvClose
  extract_lets
  split
  · refine .ite (.step (showCv_spares h hu) <| .keeps setCvUnit_keeps) ?_
    split
    · exact .ite (.keeps setCvUnit_keeps) .refl
    · exact .refl
  · exact .refl

theorem leaveCv_spares {p : Nat} (h : Outside [(0x1070, 0x1078)] k) : s.Spares k (s.leaveCv p) := by
  unfold State.leaveCv
  split
  · rename_i hp
    have := transferCv_lt hp
    exact cvClose_spares h (by omega)
  · exact .refl

theorem closeTransfer_spares {p : Nat} {applied : Bool} (h : Outside [(0x1041, 0x1041), (0x1070, 0x1078)] k) :
    s.Spares k (s.closeTransfer p applied) := by
  unfold State.closeTransfer
  split
  · exact .refl
  · exact .iteElse (.step (leaveCv_spares h.mono) <| .keeps setPort_keeps) (.bump h.ne)

theorem leaveToken_spares {new reason : Nat} (h : Outside storeRanges k) : s.Spares k (s.leaveToken new reason) := by
  have hmove {t : State} : t.Spares k (t.moveToken new reason) := moveToken_spares h.event h.index_ne
  unfold State.leaveToken
  extract_lets
  split
  · refine .iteThen hmove ?_
    unfold State.failTransfer
    split
    · exact .refl
    · exact .step (closeTransfer_spares h.mono) <| .keeps deliver_keeps
  · exact hmove

theorem tokenCommand_spares {r : Requester} {v : Nat} (h : Outside storeRanges k) : s.Spares k (s.tokenCommand r v).1 := by
  unfold State.tokenCommand
  exact .iteFst (.iteFst .refl <| .iteFst .refl <| .iteFst .refl <| moveToken_spares h.event h.index_ne) <|
    .iteFst .refl <| .iteFst (leaveToken_spares h) <| .iteFst .refl <| leaveToken_spares h

theorem writeToken_spares {r : Requester} {v : Nat} (h : Outside storeRanges k) : s.Spares k (s.writeToken r v) :=
  request_spares h.event h.index_ne fun _ => tokenCommand_spares h

theorem storeOutcome_spares {code bytes : Nat} (h : Outside storeRanges k) : s.Spares k (s.storeOutcome code bytes) := by
  unfold State.storeOutcome
  exact .step (.raise h.event) <| issuePaired_spares h.event h.ne

theorem storeCommand_spares {v : Nat} (h : Outside storeRanges k) : s.Spares k (s.storeCommand v) := by
  unfold State.storeCommand
  split
  · exact .ite (storeOutcome_spares h) (.keeps (.step await_keeps <| .step update_saving_keeps .refl) (F := [.awaiting, .saving]))
  · exact .step (storeOutcome_spares h) <| .step (.setNat h.ne) <| .keeps update_flash_keeps
  · exact storeOutcome_spares h

theorem writeStore_spares {r : Requester} {v : Nat} (h : Outside storeRanges k) : s.Spares k (s.writeStore r v) :=
  request_spares h.event h.index_ne fun _ =>
    pairedBusy_spares fun _ => storeCommand_spares h

theorem runHeldStore_spares (h : Outside storeRanges k) : s.Spares k s.runHeldStore := by
  unfold State.runHeldStore
  split
  · exact .refl
  · exact .step (storeCommand_spares h) <| .keeps update_held_keeps

theorem cvManagement_spares {n : Nat} (h : Outside storeRanges k) : s.Spares k (s.cvManagement n) := by
  unfold State.cvManagement
  exact .step (.bumpBy h.ne) <| .step (.setNat h.ne) <| .step (.setBytes h.ne) <| .keeps update_freeCtr_keeps

theorem storeComplete_yields {ok : Bool} (h : Outside storeRanges k) : s.Yields k (execStoreComplete ok s) := by
  unfold execStoreComplete
  refine .next ?_
  split
  · exact .refl
  · have hsaved {t : State} {n : Nat} {store : Map Val} : State.Spares k t
        { t with flash := { t.flash with store := store, storedSize := n, stores := satAdd 32 t.flash.stores 1 } } :=
      .keeps update_flash_keeps
    exact .step (runHeldStore_spares h) <| .ite (.step (storeOutcome_spares h) <| .step (cvManagement_spares h) <|
      .step (.setNat h.ne) <| .step (.setNat h.ne) <| .step hsaved <| .keeps update_saving_keeps) (.step (storeOutcome_spares h) <|
      .keeps update_saving_keeps)

theorem tokenTimeout_yields (h : Outside storeRanges k) : s.Yields k (execTokenTimeout s) := by
  unfold execTokenTimeout
  exact .next <| .ite (leaveToken_spares h) .refl

end

/-! ### The history, the Quoin apply and the process-data frames -/

section
variable {k : Nat} {s : State}

/-- A write of the history's query is refused for its value, or it is the query. -/
theorem applyWrite_history (b : Bytes) (s : State) :
    (s.applyWrite 0x981001 b).1 = s ∨ ∃ n, (s.applyWrite 0x981001 b).1 = (s.historyQuery n).1 := by
  have hrow : findRow 0x981001 = some ⟨0x9810, 1, 1, 1, .u32, .rw, 0, []⟩ := rfl
  unfold State.applyWrite
  rw [hrow]
  dsimp only
  split
  · exact .inl rfl
  · exact .inr ⟨_, rfl⟩

theorem applyWrite_history_keeps {b : Bytes} : s.Keeps [.dict, .awaiting] (s.applyWrite 0x981001 b).1 := by
  obtain h | ⟨n, h⟩ := applyWrite_history b s
  · rw [h]
    exact .refl
  · rw [h]
    exact historyQuery_keeps

theorem applyWrite_history_spares {b : Bytes} (h : k / 256 ≠ 0x9810) : s.Spares k (s.applyWrite 0x981001 b).1 := by
  obtain hact | ⟨n, hact⟩ := applyWrite_history b s
  · rw [hact]
    exact .refl
  · rw [hact]
    unfold State.historyQuery
    refine .iteFst .refl ?_
    split
    · exact .refl
    · exact .step (.issue (by omega)) <| .step (.setNat (by omega)) .refl

theorem historyQuery_leads {by_ : Requester} {seq : Nat} :
    s.Leads [.answer, .awaiting, .dict, .events, .log, .power, .radio] (execHistoryQuery by_ seq s) := by
  unfold execHistoryQuery
  exact .next <| .request (fun _ => applyWrite_history_keeps.mono) .refl

theorem historyQuery_yields {by_ : Requester} {seq : Nat} (h : Outside [(0x1030, 0x1030), (0x9810, 0x9810)] k) :
    s.Yields k (execHistoryQuery by_ seq s) := by
  unfold execHistoryQuery
  exact .next <| request_spares h.event h.index_ne fun _ => applyWrite_history_spares h.index_ne

theorem applyQuoin_spares (h : Outside [(0x1041, 0x1041), (0x1070, 0x1078)] k) : s.Spares k s.applyQuoin.1 := by
  unfold State.applyQuoin
  exact guarded_spares fun _ => .step (closeTransfer_spares h) <| .keeps commitKeys_keeps

theorem quoinApply_yields {by_ : Requester} (h : Outside [(0x1030, 0x1030), (0x1041, 0x1041), (0x1070, 0x1078)] k) :
    s.Yields k (execQuoinApply by_ s) := by
  unfold execQuoinApply
  exact .next <| request_spares h.event h.index_ne fun _ => applyQuoin_spares h.mono

theorem enablePdo_spares {f : Nat} (h : Outside [(0x9000, 0x900F)] k) (hf : f < 16) : s.Spares k (s.enablePdo f).1 := by
  have hk {n : Nat} (hn : n < 256 := by decide) : k ≠ pk f n := h.ne_obj List.mem_cons_self (by omega) (by omega) hn
  unfold State.enablePdo
  exact .iteFst .refl <| .iteFst .refl <| .step (.keeps setPdo_keeps) <| .step (.setNat hk) <| .step (.setNat hk) .refl

theorem pdoEnable_yields {by_ : Requester} {f : Nat} (h : Outside [(0x1030, 0x1030), (0x9000, 0x900F)] k) :
    s.Yields k (execPdoEnable by_ f s) := by
  unfold execPdoEnable
  exact .next <| request_spares h.event h.index_ne fun _ => enablePdo_spares h.mono (Nat.mod_lt _ (by decide))

end

/-- Settles O38, clause by clause: the footprint of each command, and the ranges that hold what it writes. -/
theorem dictionaryFrame : Obligations.DictionaryFrame := by
  unfold Obligations.DictionaryFrame
  refine ⟨fun c s t hc _ hexec => ?_, fun c s t hc _ hexec => ?_, fun c s t hc _ hexec => ?_, fun c s t hc _ hexec => ?_⟩
  · cases c with
    | store => exact frame_of (F := storeFields) hexec execStore_keeps.mono fun k h => .next (writeStore_spares h)
    | storeErase => exact frame_of (F := storeFields) hexec execStoreErase_keeps.mono fun k h => .next (writeStore_spares h)
    | storeComplete => exact frame_of (F := storeFields) hexec execStoreComplete_keeps.mono fun k h => storeComplete_yields h
    | tokenTake => exact frame_of (F := storeFields) hexec execTokenTake_keeps.mono fun k h => .next (writeToken_spares h)
    | tokenRelease => exact frame_of (F := storeFields) hexec execTokenRelease_keeps.mono fun k h => .next (writeToken_spares h)
    | tokenHandover => exact frame_of (F := storeFields) hexec execTokenHandover_keeps.mono fun k h => .next (writeToken_spares h)
    | tokenTimeout => exact frame_of (F := storeFields) hexec execTokenTimeout_keeps.mono fun k h => tokenTimeout_yields h
    | _ => cases hc
  · cases c with
    | historyQuery => exact frame_of hexec historyQuery_leads fun k h => historyQuery_yields h
    | _ => cases hc
  · cases c with
    | quoinApply => exact frame_of hexec execQuoinApply_keeps fun k h => quoinApply_yields h
    | _ => cases hc
  · cases c with
    | pdoEnable => exact frame_of hexec execPdoEnable_keeps fun k h => pdoEnable_yields h
    | _ => cases hc

end Sys2Proof.Machine
end
section
/-!
PROOFS. The audio ports: which subindices each operation on a stream spares, and the frame of the audio commands.
-/
namespace Sys2Proof.Machine

-- One proof after another keeps the memory of the whole text's compile low.
set_option Elab.async false

/-! ### What the operations on a stream spare -/

section
variable {k u : Nat} {s : State} (he : k ∉ eventKeys)

/-- The keys that hold the groups of the streams. -/
def ApartGroups (k : Nat) : Prop := ∀ v < 5, k ≠ as_ v 0x10

theorem setCorrection_spares {c : Int} (h : Apart (0x5020 + u) [4, 5] k) : s.Spares k (s.setCorrection u c) := by
  unfold State.setCorrection
  exact .step (.setNat h.ne) <| .step (.setNum h.ne) .refl

theorem setRate_spares {rate : Nat} (h : Apart (0x5020 + u) [2] k) : s.Spares k (s.setRate u rate) := by
  unfold State.setRate
  exact .step (.keeps setStream_keeps) <| .step (.setNat h.ne) .refl

theorem refreshFill_spares (h : Apart (0x5020 + u) [6] k) : s.Spares k (s.refreshFill u) := .setNat h.ne

theorem clearRing_spares (h : Apart (0x5020 + u) [6] k) : s.Spares k (s.clearRing u) := by
  unfold State.clearRing
  exact .step (refreshFill_spares h) <| .keeps setStream_keeps

theorem takeEdge_spares (h : Apart (0x5020 + u) [2] k) : s.Spares k (s.takeEdge u) := by
  unfold State.takeEdge
  exact .iteThen (.keeps setStream_keeps) (.setNat h.ne)

theorem setGroups_spares {mask : Nat → Bool} {value : Nat} (hg : ApartGroups k) :
    s.Spares k ((List.range 5).foldl (fun s v => if mask v then s.setNat (as_ v 0x10) value else s) s) :=
  .foldl (fun _ v hv => .ite (.setNat (hg v (List.mem_range.1 hv))) .refl) .refl

theorem leaveGroup_spares (hu : u < 5) (hg : ApartGroups k) : s.Spares k (s.leaveGroup u) := by
  unfold State.leaveGroup
  exact .step (.setNat (hg u hu)) (setGroups_spares hg)

theorem startStreams_spares {us : List Nat} {tg : Nat} (h : ∀ u ∈ us, Apart (0x5020 + u) [4, 5, 8, 0x10] k) :
    s.Spares k (s.startStreams us tg) := by
  unfold State.startStreams
  exact .foldl (fun _ u hu => .step (setCorrection_spares (h u hu).mono) <| .step (.setNat (h u hu).ne) <|
    .step (.setNat (h u hu).ne) <| .keeps setStream_keeps) .refl

theorem joinStream_spares {lead : Nat} (h : Apart (0x5020 + u) [4, 5, 7, 8] k) (hg : ApartGroups k) :
    s.Spares k (s.joinStream u lead) := by
  unfold State.joinStream
  exact .step (setCorrection_spares h.mono) <| .step (.setNat h.ne) <| .step (.setNat h.ne) <|
    .step (setGroups_spares hg) <| .keeps setStream_keeps

include he

theorem audioEvent_spares {kind : Nat} : s.Spares k (s.audioEvent u kind) := .raise he

theorem setStreamState_spares {new kind : Nat} (h : Apart (0x5020 + u) [1] k) : s.Spares k (s.setStreamState u new kind) := by
  unfold State.setStreamState
  exact .ite .refl (.step (audioEvent_spares he) <| .step (.setNat h.ne) .refl)

theorem setAudioFlag_spares {bit : Nat} (h : Apart (0x5020 + u) [0x0E] k) : s.Spares k (s.setAudioFlag u bit) := by
  unfold State.setAudioFlag
  exact .ite .refl (.step (audioEvent_spares he) <| .step (.setNat h.ne) .refl)

theorem rateUnsupported_spares {rate : Nat} (h : Apart (0x5020 + u) [1, 2, 3, 0x0E] k) :
    s.Spares k (s.rateUnsupported u rate) := by
  unfold State.rateUnsupported
  exact .step (setStreamState_spares he h.mono) <| .step (setAudioFlag_spares he h.mono) <| .step (.setNat h.ne) <|
    .step (.keeps setStream_keeps) <| .step (setRate_spares h.mono) .refl

theorem produce_spares (h : Apart (0x5020 + u) [6, 0x0A, 0x0D, 0x0E] k) : s.Spares k (s.produce u) := by
  have hcount {n : Nat} {t : State} : t.Spares k (t.bumpBy (as_ u 0x0D) n) := .bumpBy h.ne
  unfold State.produce
  exact .ite (.ite (.step (setAudioFlag_spares he h.mono) <| .step (.bump h.ne) <| .step (.keeps setStream_keeps) hcount)
    (.ite (.step (.bump h.ne) <| .step (.keeps setStream_keeps) hcount) (.step (refreshFill_spares h.mono) <|
    .step (.keeps setStream_keeps) <| .iteThen hcount (.keeps update_iec_keeps)))) .refl

theorem preRoll_spares (h : Apart (0x5020 + u) [6, 0x0A, 0x0D, 0x0E] k) : s.Spares k (s.preRoll u) := by
  unfold State.preRoll
  exact .foldl (fun _ _ _ => produce_spares he h) .refl

theorem playFirst_spares (h : Apart (0x5020 + u) [1, 7, 0x0F] k) : s.Spares k (s.playFirst u) := by
  unfold State.playFirst
  exact .step (setStreamState_spares he h.mono) <| .step (.setNat h.ne) <| .step (.setNat h.ne) <| .keeps setStream_keeps

theorem finishHold_spares {cause verb : Nat} (hu : u < 5) (h : Apart (0x5020 + u) [1, 6] k) (hg : ApartGroups k)
    (hd : k ≠ desc (0x400 + u) 2) : s.Spares k (s.finishHold u cause verb) := by
  unfold State.finishHold
  exact .step (setUState_spares hd he) <| .step (setStreamState_spares he h.mono) <| .step (.keeps setStream_keeps) <|
    .step (leaveGroup_spares hu hg) <| clearRing_spares h.mono

theorem loseClock_spares (hu : u < 5) (h : Apart (0x5020 + u) [1, 6, 0x0C, 0x0E] k) (hg : ApartGroups k)
    (hd : k ≠ desc (0x400 + u) 2) : s.Spares k (s.loseClock u) := by
  have hlost {t : State} {r : Stream} : t.Spares k (((((t.clearRing u).setAudioFlag u 4).bump (as_ u 0x0C))).setStream u r) :=
    .step (.keeps setStream_keeps) <| .step (.bump h.ne) <| .step (setAudioFlag_spares he h.mono) <| clearRing_spares h.mono
  unfold State.loseClock
  exact .ite (.step (finishHold_spares he hu h.mono hg hd) hlost) (.step (setStreamState_spares he h.mono) hlost)

end

/-! ### The frame -/

/-- The index ranges of the audio units and their objects. -/
def audioRanges : List (Nat × Nat) := [(0x2001, 0x2001), (0x2200, 0x223F), (0x5000, 0x50FF)]

/-- The fields that the operations on the audio ports may change. -/
def audioFields : List FieldName := [.awaiting, .dict, .events, .iec, .launch, .log, .streams]

section
variable {k u : Nat} {s : State} (h : Outside audioRanges k)
include h

theorem Outside.audio {L : List Nat} (hu : u < 5) (hL : ∀ n ∈ L, n < 256 := by decide) : Apart (0x5020 + u) L k :=
  h.apart (lo := 0x5000) (hi := 0x50FF) (by decide) (by omega) (by omega) hL

theorem Outside.groups : ApartGroups k := fun _ hv => (h.audio (L := [0x10]) hv).ne

theorem Outside.audioUnit (hu : u < 5) : k ≠ desc (0x400 + u) 2 :=
  h.ne_obj (lo := 0x2200) (hi := 0x223F) (by decide) (by omega) (by omega)

theorem portGroupStart_yields {entry : Nat} : s.Yields k (execPortGroupStart entry s) := by
  have hnamed {us : List Nat} {p : Nat → Bool} (hus : ∀ u ∈ us, u < 5) : ∀ u ∈ us.filter p, u < 5 :=
    fun u hu => hus u (List.mem_of_mem_filter hu)
  unfold execPortGroupStart
  refine .next ?_
  split
  · exact .refl
  · have hrange : ∀ u ∈ List.range 5, u < 5 := fun u hu => List.mem_range.1 hu
    extract_lets named can rest told
    have htold : s.Spares k told := .foldl (fun _ _ _ => audioEvent_spares h.event) .refl
    refine .ite (.step (.raise h.event) <| .step (.bump h.ne) <| .step (.keeps afterFiring_keeps) htold) ?_
    refine .foldl (fun t u hu => ?_) (.foldl (fun t u hu => ?_) <| .step (.keeps afterFiring_keeps) <|
      .step (startStreams_spares fun u hu => h.audio (hnamed (hnamed hrange) u hu)) htold)
    · have hu := hnamed (hnamed hrange) u hu
      exact .step (preRoll_spares h.event (h.audio hu)) <| setStreamState_spares h.event (h.audio hu)
    · exact .ite (.setNat (h.groups u (hnamed (hnamed hrange) u hu))) .refl

theorem streamIdentify_yields (hu : u < 5) : s.Yields k (execStreamIdentify u s) := by
  unfold execStreamIdentify
  refine .next <| .ite ?_ .refl
  split
  · exact rateUnsupported_spares h.event (h.audio hu)
  · exact .step (audioEvent_spares h.event) <| .step (setStreamState_spares h.event (h.audio hu)) <|
      .step (.keeps setStream_keeps) <| .step (setRate_spares (h.audio hu)) <| .setNat (h.audio (L := [3]) hu).ne

theorem rateThreshold_yields (hu : u < 5) : s.Yields k (execRateThreshold u s) := by
  unfold execRateThreshold
  exact .next <| .ite (.step (audioEvent_spares h.event) <| setRate_spares (h.audio hu)) .refl

theorem streamSoloStart_yields (hu : u < 5) : s.Yields k (execStreamSoloStart u s) := by
  unfold execStreamSoloStart
  refine .next ?_
  extract_lets u ready group us
  refine .ite ?_ .refl
  have hus : ∀ v ∈ us, v < 5 := by
    intro v hv
    simp only [us] at hv
    split at hv
    · exact List.mem_range.1 (List.mem_of_mem_filter hv)
    · exact List.mem_singleton.1 hv ▸ hu
  exact .foldl (fun t v hv => .step (.keeps putOut_keeps) <| .step (playFirst_spares h.event (h.audio (hus v hv))) <|
    preRoll_spares h.event (h.audio (hus v hv))) <| startStreams_spares fun v hv => h.audio (hus v hv)

theorem rateLoopUpdate_yields (hu : u < 5) : s.Yields k (execRateLoopUpdate u s) := by
  unfold execRateLoopUpdate
  refine .next ?_
  extract_lets u group lead n _ t0 r err near long wide p c atLimit members t1
  refine .ite ?_ .refl
  have hmembers : ∀ v ∈ members, v < 5 := by
    intro v hv
    simp only [members] at hv
    split at hv
    · exact List.mem_singleton.1 hv ▸ hu
    · exact List.mem_range.1 (List.mem_of_mem_filter hv)
  exact .iteThen (.foldl (fun t v hv => .step (setCorrection_spares (h.audio (hmembers v hv))) <| .keeps setStream_keeps) <|
    .keeps setStream_keeps) (setAudioFlag_spares h.event (h.audio hu))

theorem streamFrameProduce_yields (hu : u < 5) : s.Yields k (execStreamFrameProduce u s) := by
  unfold execStreamFrameProduce
  exact .next <| .ite (produce_spares h.event (h.audio hu)) .refl

theorem postRoll_yields (hu : u < 5) : s.Yields k (execPostRoll u s) := by
  unfold execPostRoll
  exact .next <| .ite (.step (.keeps putOut_keeps) <| .step (setStreamState_spares h.event (h.audio hu)) <|
    .keeps setStream_keeps) .refl

theorem postRollEnd_yields (hu : u < 5) : s.Yields k (execPostRollEnd u s) := by
  unfold execPostRollEnd
  exact .next <| .ite (.ite (finishHold_spares h.event hu (h.audio hu) h.groups (h.audioUnit hu)) <|
    .step (setStreamState_spares h.event (h.audio hu)) <| .step (.keeps setStream_keeps) <|
    .step (.setNat (h.audio (L := [3]) hu).ne) <| clearRing_spares (h.audio hu)) .refl

theorem underrun_yields (hu : u < 5) : s.Yields k (execUnderrun u s) := by
  unfold execUnderrun
  exact .next <| .ite (.step (.keeps putOut_keeps) <| .step (setAudioFlag_spares h.event (h.audio hu)) <|
    .step (.bump (h.audio (L := [9]) hu).ne) <| .step (setStreamState_spares h.event (h.audio hu)) <| .keeps setStream_keeps) .refl

theorem reEntry_yields (hu : u < 5) : s.Yields k (execReEntry u s) := by
  unfold execReEntry
  exact .next <| .ite (.step (.keeps putOut_keeps) <| .step (setStreamState_spares h.event (h.audio hu)) <|
    .keeps setStream_keeps) .refl

theorem Outside.loseClock (hu : u < 5) : s.Spares k (s.loseClock u) :=
  loseClock_spares h.event hu (h.audio hu) h.groups (h.audioUnit hu)

theorem clockLost_yields (hu : u < 5) : s.Yields k (execClockLost u s) := by
  unfold execClockLost
  exact .next <| .ite (h.loseClock hu) .refl

theorem clockReturn_yields (hu : u < 5) : s.Yields k (execClockReturn u s) := by
  unfold execClockReturn
  refine .next <| .ite ?_ .refl
  split
  · exact rateUnsupported_spares h.event (h.audio hu)
  · extract_lets same t1 _ t2 group
    have hidentified : s.Spares k t2 := .step (.keeps setStream_keeps) <| .step (audioEvent_spares h.event) <|
      .step (setRate_spares (h.audio hu)) <| .setNat (h.audio (L := [3]) hu).ne
    split
    · exact .step (setStreamState_spares h.event (h.audio hu)) <| .step (.bumpBy (h.audio (L := [0x0A]) hu).ne) <|
        .step (joinStream_spares (h.audio hu) h.groups) hidentified
    · exact .step (setStreamState_spares h.event (h.audio hu)) <| .step (.keeps setStream_keeps) hidentified

theorem glitch_yields (hu : u < 5) : s.Yields k (execGlitch u s) := by
  unfold execGlitch
  refine .next ?_
  extract_lets u st r n run quiet t1 t2 t3 t4
  refine .ite ?_ .refl
  have hcounted : s.Spares k t4 := .iteThen (.step (setAudioFlag_spares h.event (h.audio hu)) <| .step (.keeps setStream_keeps) <|
    .bump (h.audio (L := [0x0B]) hu).ne) (audioEvent_spares h.event)
  exact .ite (.step (h.loseClock hu) hcounted) hcounted

theorem rateChange_yields (hu : u < 5) : s.Yields k (execRateChange u s) := by
  unfold execRateChange
  exact .next <| .ite (.step (.keeps putOut_keeps) <| .step (setStreamState_spares h.event (h.audio hu)) <|
    .step (.keeps setStream_keeps) <| .step (setAudioFlag_spares h.event (h.audio hu)) <| .step (audioEvent_spares h.event) <|
    .setNat (h.audio (L := [2]) hu).ne) .refl

theorem groupMemberRemoved_yields (hu : u < 5) : s.Yields k (execGroupMemberRemoved u s) := by
  unfold execGroupMemberRemoved
  refine .next ?_
  extract_lets u group
  split
  · exact .ite (.step (audioEvent_spares h.event) <| .step (.setNat (h.groups u hu)) <| setGroups_spares h.groups) .refl
  · exact .refl

theorem frameStartEdge_yields (hu : u < 5) : s.Yields k (execFrameStartEdge u s) := by
  have hcount {n : Nat} {t : State} : t.Spares k (t.setNat (as_ u 7) n) := .setNat (h.audio (L := [7]) hu).ne
  unfold execFrameStartEdge
  refine .next <| .ite (.step (refreshFill_spares (h.audio hu)) <| .step (.keeps putOut_keeps) <| .iteThen
    (.iteElse (takeEdge_spares (h.audio hu)) <| .ite ?_ hcount) <| .step (.keeps takeUserBits_keeps) <| .keeps update_iec_keeps) .refl
  split
  · exact .iteThen hcount <| .step (setStreamState_spares h.event (h.audio hu)) <| .keeps setStream_keeps
  · exact .ite (playFirst_spares h.event (h.audio hu)) .refl

end

/-- The fields that the writes of the audio objects may change. -/
def audioWriteFields : List FieldName :=
  [.answer, .awaiting, .dict, .events, .gloaming, .heard, .log, .pcm, .power, .radio, .streams]

/-- The index ranges of the token and of the audio objects. -/
def audioWriteRanges : List (Nat × Nat) := [(0x1030, 0x1030), (0x5000, 0x50FF)]

section
variable {k u : Nat} {s : State} (h : Outside audioWriteRanges k)
include h

theorem Outside.pairKey {q : Nat} (hu : u < 5) : k ≠ pairKey u q := by
  unfold Machine.pairKey
  split
  · exact h.ne
  · exact h.ne_obj (lo := 0x5000) (hi := 0x50FF) (by decide) (by omega) (by omega) (by omega)

theorem writePair_spares {q w : Nat} (hu : u < 5) : s.Spares k (s.writePair u q w).1 := by
  unfold State.writePair
  extract_lets st code
  split
  · exact .refl
  · exact .iteThen (.step (.keeps setStream_keeps) <| .setNat (h.pairKey hu)) (.keeps drainPcm_keeps)

theorem pairSourceWrite_yields {r : Requester} {stream pair word : Nat} : s.Yields k (execPairSourceWrite r stream pair word s) := by
  unfold execPairSourceWrite
  exact .next <| request_spares h.event h.index_ne fun _ => writePair_spares h (Nat.mod_lt _ (by decide))

theorem audioFlagsClear_yields {r : Requester} {bits : Nat} (hu : u < 5) : s.Yields k (execAudioFlagsClear r u bits s) := by
  unfold execAudioFlagsClear
  exact .next <| request_spares h.event h.index_ne fun _ =>
    .setNat (h.ne_obj (lo := 0x5000) (hi := 0x50FF) (by decide) (by omega) (by omega))

theorem channelStatusWrite_yields {r : Requester} {block : Bytes} : s.Yields k (execChannelStatusWrite r block s) := by
  unfold execChannelStatusWrite
  exact .next <| request_spares h.event h.index_ne fun _ => .setBytes h.ne

end

theorem streamOk_lt {u : Nat} (h : streamOk u = true) : u < 5 := by simpa [streamOk] using h

/-- Settles O34, clause by clause: the footprint of each command, and the ranges that hold what it writes. -/
theorem audioFrame : Obligations.AudioFrame := by
  unfold Obligations.AudioFrame
  refine ⟨fun c s t hc hwf hexec => ?_, fun c s t hc hwf hexec => ?_⟩
  · cases c with
    | portGroupStart =>
      exact frame_of (F := audioFields) hexec execPortGroupStart_keeps.mono fun k h => portGroupStart_yields h
    | streamIdentify u =>
      exact frame_of (F := audioFields) hexec execStreamIdentify_keeps.mono fun k h => streamIdentify_yields h (streamOk_lt hwf)
    | rateThreshold u =>
      exact frame_of (F := audioFields) hexec execRateThreshold_keeps.mono fun k h => rateThreshold_yields h (streamOk_lt hwf)
    | streamSoloStart u =>
      exact frame_of (F := audioFields) hexec execStreamSoloStart_keeps.mono fun k h => streamSoloStart_yields h (streamOk_lt hwf)
    | rateLoopUpdate u =>
      exact frame_of (F := audioFields) hexec execRateLoopUpdate_keeps.mono fun k h => rateLoopUpdate_yields h (streamOk_lt hwf)
    | streamFrameProduce u =>
      exact frame_of (F := audioFields) hexec execStreamFrameProduce_keeps.mono fun k h =>
        streamFrameProduce_yields h (streamOk_lt hwf)
    | postRoll u => exact frame_of (F := audioFields) hexec execPostRoll_keeps.mono fun k h => postRoll_yields h (streamOk_lt hwf)
    | postRollEnd u =>
      exact frame_of (F := audioFields) hexec execPostRollEnd_keeps.mono fun k h => postRollEnd_yields h (streamOk_lt hwf)
    | underrun u => exact frame_of (F := audioFields) hexec execUnderrun_keeps.mono fun k h => underrun_yields h (streamOk_lt hwf)
    | reEntry u => exact frame_of (F := audioFields) hexec execReEntry_keeps.mono fun k h => reEntry_yields h (streamOk_lt hwf)
    | clockLost u => exact frame_of (F := audioFields) hexec execClockLost_keeps.mono fun k h => clockLost_yields h (streamOk_lt hwf)
    | clockReturn u =>
      exact frame_of (F := audioFields) hexec execClockReturn_keeps.mono fun k h => clockReturn_yields h (streamOk_lt hwf)
    | glitch u => exact frame_of (F := audioFields) hexec execGlitch_keeps.mono fun k h => glitch_yields h (streamOk_lt hwf)
    | rateChange u => exact frame_of (F := audioFields) hexec execRateChange_keeps.mono fun k h => rateChange_yields h (streamOk_lt hwf)
    | groupMemberRemoved u =>
      exact frame_of (F := audioFields) hexec execGroupMemberRemoved_keeps.mono fun k h => groupMemberRemoved_yields h (streamOk_lt hwf)
    | userDataPacket =>
      exact frame_of (F := audioFields) hexec execUserDataPacket_keeps.mono fun k _ =>
        State.Spares.keeps (F := [.iec]) execUserDataPacket_keeps
    | frameStartEdge u =>
      exact frame_of (F := audioFields) hexec execFrameStartEdge_keeps.mono fun k h => frameStartEdge_yields h (streamOk_lt hwf)
    | _ => cases hc
  · cases c with
    | pairSourceWrite => exact frame_of hexec (execPairSourceWrite_keeps.mono (F := audioWriteFields)) fun k h => pairSourceWrite_yields h
    | audioFlagsClear r u bits =>
      exact frame_of hexec (execAudioFlagsClear_keeps.mono (F := audioWriteFields)) fun k h =>
        audioFlagsClear_yields h (streamOk_lt (Bool.and_eq_true_iff.1 (Bool.and_eq_true_iff.1 hwf).1).2)
    | channelStatusWrite =>
      exact frame_of hexec (execChannelStatusWrite_keeps.mono (F := audioWriteFields)) fun k h => channelStatusWrite_yields h
    | _ => cases hc

end Sys2Proof.Machine
end
section
/-!
PROOFS. The frame of the AM and DRM commands: their objects, the UTC anchor and Gloaming's slots.
-/
namespace Sys2Proof.Machine

-- One proof after another keeps the memory of the whole text's compile low.
set_option Elab.async false

/-- The index ranges of UTC, of the AM and DRM receivers and decoders, and of Gloaming. -/
def amDrmRanges : List (Nat × Nat) := [(0x2003, 0x2003), (0x4600, 0x47FF), (0x4900, 0x49FF)]

/-- The fields that the AM and DRM commands may change. -/
def amDrmFields : List FieldName :=
  [.ams, .awaiting, .chains, .dict, .drmSel, .drms, .events, .fifos, .gloaming, .heard, .log, .pcm, .pcmSeq, .shm, .utcPrev, .voices]

section
variable {k e m : Nat} {s : State} (h : Outside amDrmRanges k)
include h

theorem Outside.receiver {i n : Nat} (hi : 0x4600 ≤ i ∧ i ≤ 0x47FF) (hn : n < 256 := by decide) : k ≠ obj i n :=
  h.ne_obj (lo := 0x4600) (hi := 0x47FF) (by decide) hi.1 hi.2 hn

theorem Outside.receivers {ps : List (Nat × Int)} (hps : ∀ p ∈ ps, 0x460000 ≤ p.1 ∧ p.1 < 0x480000) : ∀ p ∈ ps, k ≠ p.1 := by
  rintro p hp rfl
  have := hps p hp
  exact h.range (0x4600, 0x47FF) (by decide) (by omega)

theorem Outside.drmDecoders : k < 0x478000 ∨ 0x478BFF < k := by
  have := h.range (0x4600, 0x47FF) (by decide)
  dsimp only at this
  omega

theorem Outside.slots : k < 0x490000 ∨ 0x4912FF < k := by
  have := h.range (0x4900, 0x49FF) (by decide)
  dsimp only at this
  omega

/-! ### AM -/

theorem amSettle_spares (he : e < 12) : s.Spares k (s.amSettle e) := by
  have hwidth {t : State} {n : Nat} : t.Spares k (t.setNat (amm e 6) n) := .setNat (h.receiver (by omega))
  unfold State.amSettle
  refine .iteElse ?_ (.keeps amAsk_keeps)
  split
  · refine .ite ?_ .refl
    extract_lets
    split
    · exact .step (.keeps amAsk_keeps) <| .step hwidth <| .keeps setAm_keeps
    · exact .step hwidth <| .keeps setAm_keeps
  · exact .refl

theorem amColdStart_spares (he : e < 12) : s.Spares k (s.amColdStart e) := by
  unfold State.amColdStart
  exact .iteElse (.step (.setAll (h.receivers (by simp [obj_eq]; omega))) <| .keeps setAm_keeps) (.keeps await_keeps)

theorem amRun_spares {ended : Bool} (he : e < 12) : s.Spares k (s.amRun e ended) := by
  have hstep {t : State} : t.Spares k (t.amStep e) := by
    unfold State.amStep
    split
    · exact .refl
    · exact .iteThen (.step (.keeps setAm_keeps) <| .iteThen (.keeps setAm_keeps) (amColdStart_spares h he))
        (.bump (h.receiver (by omega)))
  unfold State.amRun
  exact .step (.keeps amEmit_keeps) <| .foldl (fun _ _ _ => .step hstep <| amSettle_spares h he) .refl

theorem amPlllockChange_yields (he : e < 12) : s.Yields k (execAmPlllockChange e s) := by
  have hlock {n : Nat} : s.Spares k (s.setNat (amm e 8) n) := .setNat (h.receiver (by omega))
  unfold execAmPlllockChange
  exact .next <| .ite (.ite hlock (.ite hlock .refl)) .refl

theorem amBandwidthJudge_yields (he : e < 12) : s.Yields k (execAmBandwidthJudge e s) := by
  unfold execAmBandwidthJudge
  refine .next ?_
  split
  · exact .refl
  · exact .ite (.step (.keeps amAsk_keeps) <| .step (.keeps setAm_keeps) <| amSettle_spares h he) .refl

theorem amMetricsPublish_yields (he : e < 12) : s.Yields k (execAmMetricsPublish e s) := by
  unfold execAmMetricsPublish
  refine .next ?_
  extract_lets
  split
  · exact .refl
  · exact .ite (.step (.issue (h.receiver (by omega))) <| .step (.setAll (h.receivers (by simp [obj_eq]; omega))) <|
      .step (.keeps setAm_keeps) <| amSettle_spares h he) .refl

theorem amBlockProcess_yields {chain : Nat} (he : e < 12) : s.Yields k (execAmBlockProcess e chain s) := by
  unfold execAmBlockProcess
  refine .next ?_
  split
  · exact .refl
  next b t ht =>
    have taken : s.takeBlock e chain = some (b, t) := by
      split at ht
      · exact ht
      · cases ht
    exact .step (amRun_spares h he) <| .step (.keeps setAm_keeps) <|
      .iteThen (.keeps (takeBlock_keeps taken)) (.bump (h.receiver (by omega)))

/-! ### DRM -/

theorem Outside.setDrmState {new : Nat} (he : e < 12) : s.Spares k (s.setDrmState e new) :=
  setDrmState_spares (h.receiver (by omega)) (h.receiver (by omega)) (h.receiver (by omega)) (h.receiver (by omega)) h.event

theorem Outside.drmRestart (he : e < 12) : s.Spares k (s.drmRestart e) := .step (.setNat (h.receiver (by omega))) (h.setDrmState he)

theorem Outside.drmColdStart (he : e < 12) : s.Spares k (s.drmColdStart e) := by
  unfold State.drmColdStart
  exact .foldl (fun _ m hm => .step (.keeps speak_keeps) <| .setNat (decoder_apart h.drmDecoders (drmDecoders_lt hm) (by decide))) <|
    .step (publishAlternatives_spares (h.receiver (by omega))) <| .step (publishDrmSi_spares (h.receiver (by omega))) <|
    .iteElse (.step (.setAll (h.receivers (by simp [obj_eq]; omega))) <| .step (.keeps setDrm_keeps) <| h.drmRestart he) (.keeps await_keeps)

theorem drmModeFound_yields {mode : Nat} (he : e < 12) : s.Yields k (execDrmModeFound e mode s) := by
  unfold execDrmModeFound
  exact .next <| .ite (.ite (.step (.setNat (h.receiver (by omega))) <| h.setDrmState he) (.keeps setDrm_keeps)) .refl

theorem drmFrameSync_yields {frameStart : Nat} {offset : Int} (he : e < 12) : s.Yields k (execDrmFrameSync e frameStart offset s) := by
  unfold execDrmFrameSync
  exact .next <| .ite (.ite (.step (.keeps setDrm_keeps) <| .step (.setNat (h.receiver (by omega))) <|
    .step (.setNum (h.receiver (by omega))) <| h.setDrmState he) (.keeps setDrm_keeps)) .refl

theorem drmFacAcquired_yields {occupancy constellation : Nat} (he : e < 12) :
    s.Yields k (execDrmFacAcquired e occupancy constellation s) := by
  unfold execDrmFacAcquired
  exact .next <| .ite (.step (judgeDrm_spares h.drmDecoders) <| .foldl (fun _ _ _ => storeFrame_spares (h.receiver (by omega))) <|
    .step (.keeps setDrm_keeps) <| .step (.setNat (h.receiver (by omega))) <| .step (.setNat (h.receiver (by omega))) <|
    h.setDrmState he) .refl

theorem drmSyncLost_yields {timing : Bool} (he : e < 12) : s.Yields k (execDrmSyncLost e timing s) := by
  unfold execDrmSyncLost
  exact .next <| .ite (.step (judgeDrm_spares h.drmDecoders) <| h.setDrmState he) .refl

theorem drmLostTimeout_yields (he : e < 12) : s.Yields k (execDrmLostTimeout e s) := by
  unfold execDrmLostTimeout
  exact .next <| .ite (h.drmColdStart he) .refl

theorem drmAcquisitionFail_yields (he : e < 12) : s.Yields k (execDrmAcquisitionFail e s) := by
  unfold execDrmAcquisitionFail
  exact .next <| .ite (.ite (.ite (.keeps setDrm_keeps) (h.drmRestart he)) <| .step (.setNat (h.receiver (by omega))) <|
    h.setDrmState he) .refl

theorem drmMetrics_spares {start doppler spread : Nat} {cells : List (Option DrmCell)} (he : e < 12) :
    s.Spares k (s.drmMetrics e start doppler spread cells) := by
  unfold State.drmMetrics
  exact .step (.issue (h.receiver (by omega))) <| .step (.bumpBy (h.receiver (by omega))) <|
    .iteElse (.setAll (h.receivers (by simp [obj_eq]; omega))) (.setAll (h.receivers (by simp [obj_eq]; omega)))

theorem drmMscFrame_yields {frameStart doppler spread decoder : Nat} {facGood : Bool} {cells : List (Option DrmCell)}
    {frames : List Bytes} {groups : List DrmGroup} {units : List AudioUnit} (he : e < 12) :
    s.Yields k (execDrmMscFrame e frameStart facGood cells doppler spread frames groups decoder units s) := by
  unfold execDrmMscFrame
  refine .next ?_
  extract_lets st clear d t0 t1 t2 t3
  have hqueued : s.Spares k t3 := .step (queueMsc_spares _ _ (h.receiver (by omega)) (h.receiver (by omega))) <|
    .step (drmMetrics_spares h he) <| .iteElse (.keeps setDrm_keeps) (storeFrame_spares (h.receiver (by omega)))
  refine .ite ?_ .refl
  split
  · rename_i hdecoder
    exact .step (drmDecode_spares h.drmDecoders (drmDecoders_lt (List.contains_iff_mem.1 hdecoder))) hqueued
  · exact hqueued

theorem utcAnchor_spares {prio tick utc : Nat} {local_ : Int} : s.Spares k (s.utcAnchor prio tick utc local_) := by
  unfold State.utcAnchor
  exact .iteThen (.ite (.raise h.event) .refl) <| .step (.setNum h.ne) <| .step (.setNum h.ne) <| .step (.setNat h.ne) <|
    .step (.setNat h.ne) <| .step (.setNat h.ne) <| .keeps update_utcPrev_keeps

theorem drmSdcDecode_yields {superStart : Nat} {good : Bool} {services : List DrmService} {alternatives : List DrmAlternative}
    {schedules : List DrmSchedule} {utc : Option Nat} {half : Int} (he : e < 12) :
    s.Yields k (execDrmSdcDecode e superStart good services alternatives schedules utc half s) := by
  unfold execDrmSdcDecode
  refine .next ?_
  extract_lets d n t0 services' alternatives' schedules' si alts _ t1 t2 t3 t4 t5
  have hpublished : s.Spares k t4 := .step (.bumpBy (h.receiver (by omega))) <| .iteElse (.iteElse (.step (.keeps setDrm_keeps) <|
    .keeps setDrm_keeps) (publishDrmSi_spares (h.receiver (by omega)))) (publishAlternatives_spares (h.receiver (by omega)))
  refine .ite (.step (judgeDrm_spares h.drmDecoders) ?_) .refl
  simp only [t5]
  split
  · exact .step (utcAnchor_spares h) hpublished
  · exact hpublished

theorem drmScheduleEval_yields (he : e < 12) : s.Yields k (execDrmScheduleEval e s) := by
  unfold execDrmScheduleEval
  exact .next <| .ite (.step (publishAlternatives_spares (h.receiver (by omega))) <| .keeps setDrm_keeps) .refl

theorem drmServiceSelect_yields (he : e < 12) : s.Yields k (execDrmServiceSelect e s) := by
  have hset {t : State} {n v : Nat} (hn : n < 256 := by decide) : t.Spares k (t.setNat (rdec e n) v) :=
    .setNat (h.receiver (by omega) hn)
  unfold execDrmServiceSelect
  exact .next <| .ite (.step (.keeps speak_keeps) <| .step hset <| .step (disturb_spares h.slots h.event) <|
    .step hset <| .step hset <| .keeps setDrmSelection_keeps) .refl

theorem drmTextMessage_yields {text : Bytes} (he : e < 12) : s.Yields k (execDrmTextMessage e text s) := by
  unfold execDrmTextMessage
  exact .next <| .ite (.step (.setNat (h.receiver (by omega))) <| .setBytes (h.receiver (by omega))) .refl

end

theorem engineOk_lt {e : Nat} (h : engineOk e = true) : e < 12 := by simpa [engineOk] using h

/-- The engine that a well-formed command of a DRM receiver names. -/
def drmEngine : Instr → Option Nat
  | .drmFrameSync e .. | .drmFacAcquired e .. | .drmMscFrame e .. | .drmSdcDecode e .. => some e
  | _ => none

theorem drmEngine_lt {c : Instr} {e : Nat} (hc : drmEngine c = some e) (h : c.wellFormed = true) : e < 12 := by
  unfold drmEngine at hc
  split at hc <;> cases hc <;> simp_all [Instr.wellFormed, engineOk]

/-- Settles O32: the footprint of each command, and the ranges that hold what it writes. -/
theorem amDrmFrame : Obligations.AmDrmFrame := by
  unfold Obligations.AmDrmFrame
  intro c s t hc hwf hexec
  cases c with
  | amPlllockChange e =>
    exact frame_of (F := amDrmFields) hexec execAmPlllockChange_keeps.mono fun k h => amPlllockChange_yields h (engineOk_lt hwf)
  | amBandwidthJudge e =>
    exact frame_of (F := amDrmFields) hexec execAmBandwidthJudge_keeps.mono fun k h => amBandwidthJudge_yields h (engineOk_lt hwf)
  | amMetricsPublish e =>
    exact frame_of (F := amDrmFields) hexec execAmMetricsPublish_keeps.mono fun k h => amMetricsPublish_yields h (engineOk_lt hwf)
  | noiseBlankerSuspend e =>
    exact frame_of (F := amDrmFields) hexec execNoiseBlankerSuspend_keeps.mono fun k _ =>
      State.Spares.keeps (F := [.ams]) execNoiseBlankerSuspend_keeps
  | amBlockProcess e =>
    exact frame_of (F := amDrmFields) hexec execAmBlockProcess_keeps.mono fun k h =>
      amBlockProcess_yields h (engineOk_lt (Bool.and_eq_true_iff.1 hwf).1)
  | drmModeFound e =>
    exact frame_of (F := amDrmFields) hexec execDrmModeFound_keeps.mono fun k h =>
      drmModeFound_yields h (engineOk_lt (Bool.and_eq_true_iff.1 hwf).1)
  | drmFrameSync e =>
    exact frame_of (F := amDrmFields) hexec execDrmFrameSync_keeps.mono fun k h => drmFrameSync_yields h (drmEngine_lt rfl hwf)
  | drmFacAcquired e =>
    exact frame_of (F := amDrmFields) hexec execDrmFacAcquired_keeps.mono fun k h => drmFacAcquired_yields h (drmEngine_lt rfl hwf)
  | drmSyncLost e =>
    exact frame_of (F := amDrmFields) hexec execDrmSyncLost_keeps.mono fun k h => drmSyncLost_yields h (engineOk_lt hwf)
  | drmLostTimeout e =>
    exact frame_of (F := amDrmFields) hexec execDrmLostTimeout_keeps.mono fun k h => drmLostTimeout_yields h (engineOk_lt hwf)
  | drmAcquisitionFail e =>
    exact frame_of (F := amDrmFields) hexec execDrmAcquisitionFail_keeps.mono fun k h => drmAcquisitionFail_yields h (engineOk_lt hwf)
  | drmMscFrame e =>
    exact frame_of (F := amDrmFields) hexec execDrmMscFrame_keeps.mono fun k h => drmMscFrame_yields h (drmEngine_lt rfl hwf)
  | drmSdcDecode e =>
    exact frame_of (F := amDrmFields) hexec execDrmSdcDecode_keeps.mono fun k h => drmSdcDecode_yields h (drmEngine_lt rfl hwf)
  | drmScheduleEval e =>
    exact frame_of (F := amDrmFields) hexec execDrmScheduleEval_keeps.mono fun k h => drmScheduleEval_yields h (engineOk_lt hwf)
  | drmServiceSelect e =>
    exact frame_of (F := amDrmFields) hexec execDrmServiceSelect_keeps.mono fun k h => drmServiceSelect_yields h (engineOk_lt hwf)
  | drmTextMessage e =>
    exact frame_of (F := amDrmFields) hexec execDrmTextMessage_keeps.mono fun k h =>
      drmTextMessage_yields h (engineOk_lt (Bool.and_eq_true_iff.1 hwf).1)
  | _ => cases hc

end Sys2Proof.Machine
end
section
/-!
PROOFS. What the commands of the audio ports leave (R49, R257 to R276).
-/
namespace Sys2Proof.Machine

-- One proof after another keeps the memory of the whole text's compile low.
set_option Elab.async false

section
variable {r : Requester} {s t : State} {u v n k : Nat}

/-! ### Streams and their subindices -/

@[simp] theorem setStream_nat (u : Nat) (r : Stream) (s : State) (k : Nat) : (s.setStream u r).nat k = s.nat k := rfl

@[simp] theorem setStream_num (u : Nat) (r : Stream) (s : State) (k : Nat) : (s.setStream u r).num k = s.num k := rfl

theorem stream_of_keeps {F : List FieldName} (h : s.Keeps F t) (hF : .streams ∉ F := by decide) (u : Nat) : t.stream u = s.stream u :=
  congrArg (Map.get (fun _ => Stream.init) · u) (h.same .streams hF)

@[simp] theorem setNat_stream (k n : Nat) (s : State) (u : Nat) : (s.setNat k n).stream u = s.stream u := rfl

@[simp] theorem setNum_stream (k : Nat) (n : Int) (s : State) (u : Nat) : (s.setNum k n).stream u = s.stream u := rfl

@[simp] theorem bump_stream (k : Nat) (s : State) (u : Nat) : (s.bump k).stream u = s.stream u := rfl

@[simp] theorem bumpBy_stream (k n : Nat) (s : State) (u : Nat) : (s.bumpBy k n).stream u = s.stream u := rfl

@[simp] theorem audioEvent_stream (u kind : Nat) (s : State) (v : Nat) : (s.audioEvent u kind).stream v = s.stream v :=
  stream_of_keeps audioEvent_keeps (by decide) v

@[simp] theorem setStreamState_stream (u new kind : Nat) (s : State) (v : Nat) : (s.setStreamState u new kind).stream v = s.stream v :=
  stream_of_keeps setStreamState_keeps (by decide) v

@[simp] theorem setAudioFlag_stream (u bit : Nat) (s : State) (v : Nat) : (s.setAudioFlag u bit).stream v = s.stream v :=
  stream_of_keeps setAudioFlag_keeps (by decide) v

@[simp] theorem refreshFill_stream (u : Nat) (s : State) (v : Nat) : (s.refreshFill u).stream v = s.stream v := rfl

@[simp] theorem setCorrection_stream (u : Nat) (c : Int) (s : State) (v : Nat) : (s.setCorrection u c).stream v = s.stream v := rfl

@[simp] theorem leaveGroup_stream (u : Nat) (s : State) (v : Nat) : (s.leaveGroup u).stream v = s.stream v :=
  stream_of_keeps leaveGroup_keeps (by decide) v

/-- The subindices of a stream's status hold no event. -/
theorem stream_event (hu : u < 5) (hn : n < 256 := by decide) : as_ u n ∉ eventKeys :=
  notMem_eventKeys (by simp only [obj_eq]; omega) (by simp only [obj_eq]; omega) (by simp only [obj_eq]; omega)

theorem stream_groups (hn : n ≠ 0x10 := by decide) (hsub : n < 256 := by decide) : ApartGroups (as_ u n) := by
  intro v _
  simp only [obj_eq]
  omega

/-- The subindices of another stream. -/
theorem stream_apart {L : List Nat} (huv : u ≠ v) (hn : n < 256 := by decide) (hL : ∀ n ∈ L, n < 256 := by decide) :
    Apart (0x5020 + v) L (as_ u n) :=
  .other (by simp only [obj_eq]; omega) hL

theorem setStreamState_state (hu : u < 5) (new kind : Nat) : (s.setStreamState u new kind).streamState u = new := by
  unfold State.setStreamState
  split
  · assumption
  · exact (State.Spares.nat (audioEvent_spares (stream_event hu))).trans ((setNat_nat _ _ _ _).trans (if_pos rfl))

theorem setStreamState_nat (hu : u < 5) (new kind : Nat) (hn : n ≠ 1 := by decide) (hsub : n < 256 := by decide) :
    (s.setStreamState u new kind).nat (as_ u n) = s.nat (as_ u n) :=
  State.Spares.nat (setStreamState_spares (stream_event hu hsub) (.same (by simpa using hn)))

theorem audioEvent_nat (hu : u < 5) (kind : Nat) (hsub : n < 256 := by decide) : (s.audioEvent u kind).nat (as_ u n) = s.nat (as_ u n) :=
  State.Spares.nat (audioEvent_spares (stream_event hu hsub))

theorem setAudioFlag_nat (hu : u < 5) (bit : Nat) (hn : n ≠ 0x0E := by decide) (hsub : n < 256 := by decide) :
    (s.setAudioFlag u bit).nat (as_ u n) = s.nat (as_ u n) :=
  State.Spares.nat (setAudioFlag_spares (stream_event hu hsub) (.same (by simpa using hn)))

theorem putOut_nat (u : Nat) (s : State) (k : Nat) : (s.putOut u).nat k = s.nat k := State.Spares.nat (.keeps putOut_keeps)

/-- What an output carries, apart from the rest of its stream. -/
theorem putOut_stream (u : Nat) (s : State) (v : Nat) : ∃ wire, (s.putOut u).stream v = { s.stream v with wire := wire } := by
  unfold State.putOut
  extract_lets _ s1 out
  have h1 : s1.stream v = s.stream v := by
    simp only [s1]
    split <;> rfl
  by_cases hv : v = u
  · subst hv
    exact ⟨if v = 4 then s1.iecFrame else s1.portFrame v, (setStream_stream _ _ _ _).trans ((if_pos rfl).trans (by
      simp only [out, h1]
      rfl))⟩
  · exact ⟨(s.stream v).wire, (setStream_stream _ _ _ _).trans ((if_neg hv).trans h1)⟩

/-! ### Flags and sources -/

theorem channelStatusWrite_gives {b : Bytes} (haccepts : s.Accepts r 0x500410 b) :
    Gives (.channelStatusWrite r b) s fun t => t.bytes 0x500410 = b := by
  refine gives_request rfl haccepts rfl ?_
  show (State.touch r _).bytes 0x500410 = b
  rw [bytes_of_val (touch_val r _ (by decide))]
  exact (setBytes_bytes _ _ _ _).trans (if_pos rfl)

/-- A write that is accepted is one of a subindex that a row of the tables has (R349). -/
theorem row_of_accepts {key : Nat} {b : Bytes} (haccepts : s.Accepts r key b) : (findRow key).isSome := by
  have hjudged := haccepts.1
  unfold State.judgeWrite State.judgeLength at hjudged
  extract_lets early at hjudged
  cases hrow : findRow key with
  | some row => rfl
  | none =>
    rw [hrow] at hjudged
    dsimp only at hjudged
    split at hjudged
    · simp only [firstCode] at hjudged
      split at hjudged
      · split at hjudged
        · omega
        · contradiction
      · contradiction
    · simp only [firstCode] at hjudged
      split at hjudged <;> contradiction

theorem audioFlagsClear_gives {bits : Nat} (haccepts : s.Accepts r (as_ u 0x0E) (leNat 1 bits)) :
    Gives (.audioFlagsClear r u bits) s fun t => t.nat (as_ u 0x0E) = clearWritten 8 (s.nat (as_ u 0x0E)) bits := by
  have hevents : as_ u 0x0E / 256 ≠ 0x9800 := by
    have hdiv : as_ u 0x0E / 256 = 0x5020 + u := by simp only [obj_eq]; omega
    intro hindex
    obtain rfl : u = 0x47E0 := by omega
    exact absurd (row_of_accepts haccepts) (by decide)
  refine gives_request rfl haccepts rfl ?_
  rw [reply_nat, touch_nat_other _ _ (by simp only [obj_eq]; omega)]
  refine (setNat_nat _ _ _ _).trans ((if_pos rfl).trans ?_)
  rw [autoTake_nat _ _ _ (by simp only [obj_eq]; omega) hevents (by simp only [obj_eq]; omega) (by simp only [obj_eq]; omega)]

@[simp] theorem autoTake_pairCount (r : Requester) (key : Nat) (s : State) (u : Nat) : (s.autoTake r key).pairCount u = s.pairCount u := by
  simp [State.pairCount, State.cnat, State.cnum, State.cval]

@[simp] theorem autoTake_pairOk (r : Requester) (key : Nat) (s : State) (u q w : Nat) :
    (s.autoTake r key).pairOk u q w = s.pairOk u q w := by
  simp [State.pairOk, State.engine]

/-- A source that is valid for a pair of a stream that does not play is written (R257). -/
theorem writePair_idle {q w : Nat} (hstate : s.streamState u ≤ 1) (hok : s.pairOk u q w = true) :
    (s.writePair u q w).2 = 0 ∧ (s.writePair u q w).1.nat (pairKey u q) = w := by
  unfold State.writePair
  extract_lets st code s1 r p0 p s2
  have hcode : code = 0 := by
    have hearly : decide (2 ≤ st) = false := by simp only [st, decide_eq_false_iff_not]; omega
    simp [code, hok, hearly, firstCode, refuseIf]
  have hset : s2.nat (pairKey u q) = w := (setNat_nat _ _ _ _).trans (if_pos rfl)
  rw [if_neg (by omega)]
  refine ⟨rfl, ?_⟩
  dsimp only
  split
  · exact (State.Spares.nat (.keeps drainPcm_keeps)).trans hset
  · exact hset

theorem pairSourceWrite_gives {q w : Nat} (hu : u < 5) (hq : q < 4) (hw : w < 2 ^ 32) (haccepts : s.Accepts r (pairKey u q) (leNat 4 w))
    (hstate : s.streamState u ≤ 1) (hok : s.pairOk u (if u = 4 then 0 else q) w = true) :
    Gives (.pairSourceWrite r u q w) s fun t => t.nat (pairKey u q) = w := by
  have hexec : exec (.pairSourceWrite r u q w) s =
      .next (s.request r (pairKey u q) (leNat 4 w) (State.writePair u (if u = 4 then 0 else q) w)) := by
    show execPairSourceWrite r u q w s = _
    rw [execPairSourceWrite, Nat.mod_eq_of_lt hu, Nat.mod_eq_of_lt hq, Nat.mod_eq_of_lt hw]
  have hkey : pairKey u (if u = 4 then 0 else q) = pairKey u q := by
    unfold pairKey
    split <;> simp [*]
  have hkept : (s.autoTake r (pairKey u q)).streamState u = s.streamState u :=
    autoTake_nat _ _ _ (by simp only [obj_eq]; omega) (by simp only [obj_eq]; omega) (by simp only [obj_eq]; omega)
      (by simp only [obj_eq]; omega)
  obtain ⟨hdone, hwritten⟩ := writePair_idle (s := s.autoTake r (pairKey u q)) (by rw [hkept]; exact hstate)
    ((autoTake_pairOk _ _ _ _ _ _).trans hok)
  refine gives_request hexec haccepts hdone ?_
  rw [reply_nat, touch_nat_other]
  · rwa [hkey] at hwritten
  · unfold pairKey
    split
    · decide
    · simp only [obj_eq]
      omega

/-! ### Rates -/

theorem setRate_nat (u rate : Nat) (s : State) (k : Nat) : (s.setRate u rate).nat k = if k = as_ u 2 then rate else s.nat k :=
  setNat_nat _ _ _ _

@[simp] theorem setRate_stream (u rate : Nat) (s : State) (v : Nat) :
    (s.setRate u rate).stream v = if v = u then { s.stream u with refRate := rate } else s.stream v := setStream_stream _ _ _ _

theorem streamIdentify_gives {f : Nat} (hu : u < 5) (hwaits : s.streamState u = 1 ∧ s.nat (as_ u 3) = 0 ∨ s.streamState u = 6)
    (hstable : 64 ≤ (s.stream u).stable) (hrate : s.identifyRate u (s.stream u).rate64 = some f) :
    Gives (.streamIdentify u) s fun t => t.nat (as_ u 2) = (s.stream u).rate64 ∧ t.nat (as_ u 3) = f ∧ t.streamState u = 1 ∧
      (t.stream u).readyAt = s.gnomon := by
  refine gives_next (congrArg Host.Outcome.next ((if_pos ⟨hu, hwaits, hstable⟩).trans (by rw [hrate]))) ⟨?_, ?_, ?_, ?_⟩
  · rw [audioEvent_nat hu, setStreamState_nat hu, setStream_nat, setRate_nat, if_pos rfl]
  · rw [audioEvent_nat hu, setStreamState_nat hu, setStream_nat, setRate_nat, if_neg (obj_ne (by decide)), setNat_nat, if_pos rfl]
  · exact (audioEvent_nat hu _).trans (setStreamState_state hu _ _)
  · simp [State.setRate]

theorem streamIdentify_unsupported (hu : u < 5) (hwaits : s.streamState u = 1 ∧ s.nat (as_ u 3) = 0 ∨ s.streamState u = 6)
    (hstable : 64 ≤ (s.stream u).stable) (hrate : s.identifyRate u (s.stream u).rate64 = none) :
    Gives (.streamIdentify u) s fun t => t.nat (as_ u 2) = (s.stream u).rate64 ∧ t.nat (as_ u 3) = 0 ∧ t.streamState u = 6 := by
  refine gives_next (t := s.rateUnsupported u (s.stream u).rate64)
    (congrArg Host.Outcome.next ((if_pos ⟨hu, hwaits, hstable⟩).trans (by rw [hrate]))) ?_
  unfold State.rateUnsupported
  refine ⟨?_, ?_, setStreamState_state hu _ _⟩
  · rw [setStreamState_nat hu, setAudioFlag_nat hu, setNat_nat, if_neg (obj_ne (by decide)), setStream_nat, setRate_nat, if_pos rfl]
  · rw [setStreamState_nat hu, setAudioFlag_nat hu, setNat_nat, if_pos rfl]

theorem rateThreshold_gives (hu : u < 5) (hstate : s.streamState u ≠ 0)
    (hfar : (s.stream u).refRate * s.nat (if u = 4 then 0x500407 else ap u 7)
      < ((s.nat (as_ u 2) : Int) - (s.stream u).refRate).natAbs * 1000000) :
    Gives (.rateThreshold u) s fun t => (t.stream u).refRate = s.nat (as_ u 2) := by
  refine gives_next (congrArg Host.Outcome.next (if_pos ⟨hu, hstate, hfar⟩)) ?_
  simp

/-! ### Post-roll, underrun and clock loss -/

theorem postRoll_gives (hu : u < 5) (hheld : (s.stream u).holdLanded = true) (hstate : s.streamState u = 3) :
    Gives (.postRoll u) s fun t => t.streamState u = 7 ∧ (t.stream u).fadeFrom = s.nat (as_ u 7) := by
  refine gives_next (congrArg Host.Outcome.next (if_pos ⟨hu, hheld, .inl hstate⟩)) ⟨(putOut_nat _ _ _).trans (setStreamState_state hu _ _), ?_⟩
  obtain ⟨wire, hwire⟩ := putOut_stream u ((s.setStream u { s.stream u with fadeFrom := s.nat (as_ u 7), fadeWhy := 1 }).setStreamState u 7 1) u
  rw [hwire]
  simp

theorem underrun_gives (hu : u < 5) (hstate : s.streamState u = 3) (habsent : (s.stream u).has (s.nat (as_ u 7) + 127) = false) :
    Gives (.underrun u) s fun t => t.streamState u = 4 ∧ t.nat (as_ u 9) = satAdd 32 (s.nat (as_ u 9)) 1 := by
  refine gives_next (congrArg Host.Outcome.next (if_pos ⟨hu, hstate, by simp [habsent]⟩)) ⟨?_, ?_⟩
  · show State.nat _ (as_ u 1) = 4
    rw [putOut_nat, setAudioFlag_nat hu, bump_nat, if_neg (obj_ne (by decide))]
    exact setStreamState_state hu _ _
  · rw [putOut_nat, setAudioFlag_nat hu, bump_nat, if_pos rfl, setStreamState_nat hu, setStream_nat]

theorem reEntry_gives (hu : u < 5) (hstate : s.streamState u = 4) (hfaded : (s.stream u).fadeFrom + 128 ≤ s.nat (as_ u 7))
    (hring : ((List.range 128).all fun i => (s.stream u).has (s.nat (as_ u 7) + i)) = true) :
    Gives (.reEntry u) s fun t => t.streamState u = 3 :=
  gives_next (congrArg Host.Outcome.next (if_pos ⟨hu, hstate, hfaded, hring⟩)) ((putOut_nat _ _ _).trans (setStreamState_state hu _ _))

theorem rateChange_gives (hu : u < 5) (hstate : s.streamState u = 3) (hrate : s.nat (as_ u 3) ≠ 0)
    (hedges : 65 ≤ (s.stream u).edges.length)
    (hfar : s.nat (as_ u 3) * 10 < (((s.stream u).rate64 : Int) - s.nat (as_ u 3) * 1000).natAbs) :
    Gives (.rateChange u) s fun t => t.streamState u = 7 ∧ t.nat (as_ u 2) = (s.stream u).rate64 := by
  refine gives_next (congrArg Host.Outcome.next (if_pos ⟨hu, hstate, hrate, hedges, hfar⟩)) ⟨(putOut_nat _ _ _).trans (setStreamState_state hu _ _), ?_⟩
  rw [putOut_nat, setStreamState_nat hu, setStream_nat, setAudioFlag_nat hu, audioEvent_nat hu, setNat_nat, if_pos rfl]

theorem groupMemberRemoved_gives {l : Nat}
    (hlead : ((List.range 5).find? fun v => bitOf (s.nat (as_ u 0x10)) v && v != u && s.streamState v == 3) = some l) (hu : u < 5)
    (hmember : bitOf (s.nat (as_ u 0x10)) u = true) (hl : l < u) (hstate : s.streamState u = 3)
    (hfar : (s.stream u).firstEdge + 8 < (s.stream l).firstEdge ∨ (s.stream l).firstEdge + 8 < (s.stream u).firstEdge) :
    Gives (.groupMemberRemoved u) s fun t => t.nat (as_ u 0x10) = 0 := by
  refine gives_next (congrArg Host.Outcome.next (by simp only [hlead]; exact if_pos ⟨hu, hmember, hl, hstate, hfar⟩)) ?_
  rw [audioEvent_nat hu, setNat_nat, if_pos rfl]

/-! ### Frames produced -/

/-- A stream keeps its edges and its start. -/
def State.SameTimes (v : Nat) (s t : State) : Prop :=
  (t.stream v).edges = (s.stream v).edges ∧ (t.stream v).startAt = (s.stream v).startAt

theorem State.SameTimes.trans {a b c : State} (h : a.SameTimes v b) (g : b.SameTimes v c) : a.SameTimes v c :=
  ⟨g.1.trans h.1, g.2.trans h.2⟩

theorem setStream_times {r : Stream} (hedges : r.edges = (s.stream u).edges) (hstart : r.startAt = (s.stream u).startAt) (v : Nat) :
    s.SameTimes v (s.setStream u r) := by
  unfold State.SameTimes
  rw [setStream_stream]
  split
  next hv => exact hv ▸ ⟨hedges, hstart⟩
  next => exact ⟨rfl, rfl⟩

theorem produce_times (u v : Nat) (s : State) : s.SameTimes v (s.produce u) := by
  unfold State.produce
  extract_lets r n j frames concealed data pairs base silent s1 ring _ s2
  have h1 (v : Nat) : s.SameTimes v s1 := ⟨rfl, rfl⟩
  have h2 (v : Nat) : s.SameTimes v s2 := by
    simp only [s2]
    split <;> exact h1 v
  have hbase {t : State} {q : Stream} (ht : ∀ v, s.SameTimes v t) (hedges : q.edges = r.edges) (hstart : q.startAt = r.startAt) :
      s.SameTimes v (t.setStream u q) :=
    (ht v).trans (setStream_times (hedges.trans (ht u).1.symm) (hstart.trans (ht u).2.symm) v)
  split
  · split
    · unfold State.SameTimes
      rw [setAudioFlag_stream]
      exact hbase h1 rfl rfl
    · split
      · exact hbase h1 rfl rfl
      · exact hbase h2 rfl rfl
  · exact ⟨rfl, rfl⟩

theorem preRoll_times (u v : Nat) (s : State) : s.SameTimes v (s.preRoll u) := by
  unfold State.preRoll
  induction List.range 256 generalizing s with
  | nil => exact ⟨rfl, rfl⟩
  | cons i is ih => exact (produce_times u v s).trans (ih _)

theorem streamFrameProduce_gives (hu : u < 5) (hstate : s.streamState u = 3)
    (hdue : (s.stream u).content + ((s.stream u).bound + 153600) * 65536 ≤ s.gnomon * 65536) (hnext : (s.stream u).next < 512)
    (hcount : s.nat (as_ u 7) ≤ (s.stream u).next) :
    Gives (.streamFrameProduce u) s fun t => (t.stream u).next = (s.stream u).next + 1 ∧ (t.stream u).has (s.stream u).next = true := by
  refine gives_next (t := s.produce u) (congrArg Host.Outcome.next (if_pos ⟨hu, .inr (.inl hstate)⟩)) ?_
  unfold State.produce
  extract_lets r n j frames concealed data pairs base silent s1 ring _ s2
  have hearly : ¬(512 ≤ j ∧ n ≤ j - 512 ∧ r.has (j - 512) = true) := by
    rintro ⟨hj, _⟩
    simp only [j, r] at hj
    omega
  rw [if_pos hdue, if_neg hearly, if_neg (by simpa [j, n, r] using hcount), refreshFill_stream, setStream_stream, if_pos rfl]
  refine ⟨rfl, ?_⟩
  simp [Stream.has, ring, j, r]

/-! ### Starts -/

theorem startStreams_one (u tg : Nat) (s : State) : ∃ r c d,
    s.startStreams [u] tg = ((((s.setStream u r).setNat (as_ u 8) d).setNat (as_ u 0x10) 0)).setCorrection u c ∧
      r.edges = (s.stream u).edges := ⟨_, _, _, rfl, rfl⟩

/-- A fold that deals with one element, once something holds that every element keeps. -/
theorem foldl_reaches {α : Type} {P Q : State → Prop} {f : State → α → State} {xs : List α} {x : α} (hx : x ∈ xs)
    (hQ : ∀ t, ∀ y ∈ xs, Q t → Q (f t y)) (hdo : ∀ t, Q t → P (f t x)) (hP : ∀ t, ∀ y ∈ xs, P t → P (f t y)) (hs : Q s) :
    P (xs.foldl f s) := by
  have hkeeps : ∀ (ys : List α) (t : State), (∀ y ∈ ys, y ∈ xs) → P t → P (ys.foldl f t) := by
    intro ys
    induction ys with
    | nil => exact fun _ _ h => h
    | cons y ys ih =>
      exact fun t hys h => ih _ (fun z hz => hys z (List.mem_cons_of_mem y hz)) (hP t y (hys y List.mem_cons_self) h)
  obtain ⟨before, after, rfl⟩ := List.append_of_mem hx
  rw [List.foldl_append]
  have hbefore : ∀ (ys : List α) (t : State), (∀ y ∈ ys, y ∈ before ++ x :: after) → Q t → Q (ys.foldl f t) := by
    intro ys
    induction ys with
    | nil => exact fun _ _ h => h
    | cons y ys ih =>
      exact fun t hys h => ih _ (fun z hz => hys z (List.mem_cons_of_mem y hz)) (hQ t y (hys y List.mem_cons_self) h)
  exact hkeeps after _ (fun y hy => List.mem_append_right _ (List.mem_cons_of_mem x hy))
    (hdo _ (hbefore before s (fun y hy => List.mem_append_left _ hy) hs))

theorem startStreams_startAt {us : List Nat} (tg : Nat) (hu : u ∈ us) (s : State) : ((s.startStreams us tg).stream u).startAt = tg := by
  unfold State.startStreams
  extract_lets b tf d mask
  refine foldl_reaches (Q := fun _ => True) (P := fun t => (t.stream u).startAt = tg) hu (fun _ _ _ _ => trivial) (fun t _ => ?_)
    (fun t v _ ht => ?_) trivial
  · simp
  · by_cases hv : u = v <;> simp [hv, ht]

theorem portGroupStart_gives {e : LaunchEntry} (hdue : s.dueEntry n [6] = some e) (hu : u < 5) (hnamed : bitOf (nthD e.param 0 0) u = true)
    (hstate : s.streamState u = 1) (hmode : s.startMode u = 1) (hrate : s.nat (as_ u 3) ≠ 0) :
    Gives (.portGroupStart n) s fun t => t.streamState u = 2 ∧ (t.stream u).startAt = e.instant := by
  have hexec : exec (.portGroupStart n) s = execPortGroupStart n s := rfl
  unfold execPortGroupStart at hexec
  rw [hdue] at hexec
  dsimp only at hexec
  have hcan : u ∈ ((List.range 5).filter fun u => bitOf (nthD e.param 0 0) u).filter fun u =>
      s.streamState u == 1 && s.startMode u == 1 && s.nat (as_ u 3) != 0 := by
    simp [hu, hnamed, hstate, hmode, hrate]
  have hlt {v : Nat} (hv : v ∈ ((List.range 5).filter fun u => bitOf (nthD e.param 0 0) u).filter fun u =>
      s.streamState u == 1 && s.startMode u == 1 && s.nat (as_ u 3) != 0) : v < 5 :=
    List.mem_range.1 (List.mem_of_mem_filter (List.mem_of_mem_filter hv))
  rw [if_neg (List.ne_nil_of_mem hcan)] at hexec
  refine gives_next hexec (foldl_reaches (Q := fun t => (t.stream u).startAt = e.instant)
    (P := fun t => t.streamState u = 2 ∧ (t.stream u).startAt = e.instant) hcan ?_ ?_ ?_ ?_)
  · intro t v _ ht
    exact (preRoll_times v u _).2.trans (by rw [setStreamState_stream]; exact ht)
  · intro t ht
    refine ⟨?_, (preRoll_times u u _).2.trans (by rw [setStreamState_stream]; exact ht)⟩
    exact (State.Spares.nat (preRoll_spares (stream_event hu) .same)).trans (setStreamState_state hu _ _)
  · intro t v hv ⟨hstarted, hat⟩
    refine ⟨?_, (preRoll_times v u _).2.trans (by rw [setStreamState_stream]; exact hat)⟩
    by_cases huv : u = v
    · subst huv
      exact (State.Spares.nat (preRoll_spares (stream_event hu) .same)).trans (setStreamState_state hu _ _)
    · exact (State.Spares.nat (.step (preRoll_spares (stream_event hu) (stream_apart huv)) <|
        setStreamState_spares (stream_event hu) (stream_apart huv))).trans hstarted
  · have hrest {us : List Nat} {g : State → Nat → State} (hg : ∀ t v, (g t v).streams = t.streams) (t : State) :
        ((us.foldl g t).stream u) = t.stream u := by
      induction us generalizing t with
      | nil => rfl
      | cons v us ih => exact (ih _).trans (congrArg (Map.get (fun _ => Stream.init) · u) (hg t v))
    rw [hrest]
    · rw [stream_of_keeps afterFiring_keeps]
      exact startStreams_startAt _ hcan _
    · intro t v
      split <;> rfl

theorem lastEdge_of (hedges : (t.stream u).edges = (s.stream u).edges) (hgnomon : t.gnomon = s.gnomon) : t.lastEdge u = s.lastEdge u := by
  unfold State.lastEdge
  rw [hedges, hgnomon]

theorem playFirst_gives (hu : u < 5) : (s.playFirst u).streamState u = 3 ∧ (s.playFirst u).nat (as_ u 7) = 0 ∧
    (s.playFirst u).nat (as_ u 0x0F) = s.lastEdge u := by
  unfold State.playFirst
  refine ⟨setStreamState_state hu _ _, ?_, ?_⟩
  · rw [setStreamState_nat hu, setNat_nat, if_neg (obj_ne (by decide)), setNat_nat, if_pos rfl]
  · rw [setStreamState_nat hu, setNat_nat, if_pos rfl]

theorem streamSoloStart_gives (hu : u < 5) (hstate : s.streamState u = 1) (hrate : s.nat (as_ u 3) ≠ 0)
    (hready : (s.stream u).readyAt + 307200 ≤ s.lastEdge u) (hmode : s.startMode u = 0) (hrejoin : (s.stream u).rejoin = false) :
    Gives (.streamSoloStart u) s fun t => t.streamState u = 3 ∧ t.nat (as_ u 7) = 0 ∧ t.nat (as_ u 0x0F) = s.lastEdge u := by
  have hexec : exec (.streamSoloStart u) s = .next ((((s.startStreams [u] (s.lastEdge u)).preRoll u).playFirst u).putOut u) := by
    show execStreamSoloStart u s = _
    unfold execStreamSoloStart
    extract_lets v ready group us
    have hone : us = [u] := if_neg (by simp [v, hrejoin])
    rw [hone]
    exact congrArg Host.Outcome.next (if_pos ⟨hu, by simp [ready, v, hstate, hrate, hready], .inl hmode⟩)
  obtain ⟨hplays, hcount, hedge⟩ := playFirst_gives (s := (s.startStreams [u] (s.lastEdge u)).preRoll u) hu
  have hlast : ((s.startStreams [u] (s.lastEdge u)).preRoll u).lastEdge u = s.lastEdge u := by
    obtain ⟨r, c, d, hstart, hedges⟩ := startStreams_one u (s.lastEdge u) s
    refine lastEdge_of ((preRoll_times u u _).1.trans ?_) (Eq.trans (preRoll_keeps.same .gnomon (by decide)) ?_)
    · rw [hstart]
      simpa using hedges
    · rw [hstart]
      rfl
  refine gives_next hexec ⟨(putOut_nat _ _ _).trans hplays, (putOut_nat _ _ _).trans hcount, ?_⟩
  rw [putOut_nat, hedge, hlast]

/-! ### Edges, the rate loop and the ends of a fade -/

theorem takeEdge_stream (u : Nat) (s : State) : ((s.takeEdge u).stream u).edgeNo = (s.stream u).edgeNo + 1 := by
  unfold State.takeEdge
  extract_lets r t edges due s1
  split <;> simp [s1, r]

/-- What an edge makes of the frame count of a stream in a state (R263, R269). -/
def State.countFrame (u st : Nat) (s : State) : State :=
  if st = 1 ∨ st = 5 ∨ st = 6 then s
  else if st = 2 then
    match (s.stream u).enterAt with
    | some m =>
      let n := s.nat (as_ u 7) + 1
      let s := s.setNat (as_ u 7) n
      if m ≤ n then (s.setStream u { s.stream u with enterAt := none, rampFrom := some m }).setStreamState u 3 7 else s
    | none => if (s.stream u).startAt ≤ s.lastEdge u then s.playFirst u else s
  else s.setNat (as_ u 7) (s.nat (as_ u 7) + 1)

/-- The status that a block of the IEC output takes, and its user bits (R273, R276). -/
def State.takeStatus (u : Nat) (s : State) : State :=
  if u = 4 then ({ s with iec := { s.iec with
      status := if s.nat (as_ u 7) % 192 = 0 then s.sentStatus else s.iec.status } } : State).takeUserBits else s

theorem exec_frameStartEdge (u : Nat) (s : State) : exec (.frameStartEdge u) s = .next (if u < 5 ∧ s.streamState u ≠ 0 then
    ((((s.takeEdge u).countFrame u (s.streamState u)).takeStatus u).putOut u).refreshFill u else s) := rfl

theorem takeStatus_keeps {u : Nat} {s : State} : s.Keeps [.iec] (s.takeStatus u) := by
  unfold State.takeStatus
  exact .ite (.step takeUserBits_keeps <| .step update_iec_keeps .refl) .refl

theorem countFrame_playing (u : Nat) (s : State) : s.countFrame u 3 = s.setNat (as_ u 7) (s.nat (as_ u 7) + 1) := rfl

theorem frameStartEdge_gives (hu : u < 5) (hstate : s.streamState u = 3) :
    Gives (.frameStartEdge u) s fun t => t.nat (as_ u 7) = s.nat (as_ u 7) + 1 ∧ (t.stream u).edgeNo = (s.stream u).edgeNo + 1 := by
  refine gives_next ((exec_frameStartEdge u s).trans (congrArg Host.Outcome.next (if_pos ⟨hu, by omega⟩))) ?_
  rw [hstate, countFrame_playing]
  obtain ⟨wire, hwire⟩ := putOut_stream u (((s.takeEdge u).setNat (as_ u 7) ((s.takeEdge u).nat (as_ u 7) + 1)).takeStatus u) u
  constructor
  · rw [State.Spares.nat (refreshFill_spares .same), putOut_nat, State.Spares.nat (.keeps takeStatus_keeps), setNat_nat, if_pos rfl,
      State.Spares.nat (takeEdge_spares .same)]
  · rw [refreshFill_stream, hwire]
    show (State.stream (State.takeStatus u _) u).edgeNo = _
    rw [stream_of_keeps takeStatus_keeps, setNat_stream]
    exact takeEdge_stream u s

theorem rateLoopUpdate_gives (hu : u < 5) (hstate : s.streamState u = 3) (hsolo : s.nat (as_ u 0x10) = 0)
    (hfar : 48 < ((s.fill u : Int) - 256).natAbs) (hdue : (s.stream u).loopAt + 64 ≤ s.nat (as_ u 7)) :
    Gives (.rateLoopUpdate u) s fun t => t.num (as_ u 5) = clampInt (-1000000) 1000000
      (Config.loopStep (s.num (as_ u 5)) (s.stream u).integrator ((s.fill u : Int) - 256) true).1 := by
  have hexec : exec (.rateLoopUpdate u) s = execRateLoopUpdate u s := rfl
  unfold execRateLoopUpdate at hexec
  extract_lets v group lead n src s1 r err near long wide p c atLimit members s2 at hexec
  have herr : err = (s.fill u : Int) - 256 := by
    show ((s.setStream u _).fill u : Int) - 256 = _
    unfold State.fill
    rw [setStream_nat, setStream_stream, if_pos rfl]
  have hwide : wide = true := if_pos (herr ▸ hfar)
  rw [if_pos ⟨hu, hstate, .inl hsolo, hdue⟩] at hexec
  have h2 : s2.num (as_ u 5) = c := by
    have hsolo : members = [u] := if_pos hsolo
    simp only [s2, hsolo]
    exact (setNat_num _ _ _ _).trans ((if_neg (obj_ne (by decide))).trans ((setNum_num _ _ _ _).trans (if_pos rfl)))
  have hc : c = clampInt (-1000000) 1000000
      (Config.loopStep (s.num (as_ u 5)) (s.stream u).integrator ((s.fill u : Int) - 256) true).1 := by
    simp only [c, p, hwide, herr]
    simp [r, s1, v, src]
  refine gives_next hexec ?_
  split
  · exact (num_of_val_eq (setAudioFlag_spares (stream_event hu) .same)).trans (h2.trans hc)
  · exact h2.trans hc

theorem finishHold_gives (hu : u < 5) (cause verb : Nat) :
    (s.finishHold u cause verb).streamState u = 0 ∧ (s.finishHold u cause verb).ustate (0x400 + u) = 3 := by
  unfold State.finishHold
  refine ⟨?_, setUState_ustate _ _ _ _ _ (by omega)⟩
  refine (State.Spares.nat (setUState_spares ?_ (stream_event hu))).trans (setStreamState_state hu _ _)
  simp only [desc, obj_eq]
  omega

theorem postRollEnd_held (hu : u < 5) (hstate : s.streamState u = 7) (hfaded : (s.stream u).fadeFrom + 128 ≤ s.nat (as_ u 7))
    (hheld : (s.stream u).holdLanded = true) :
    Gives (.postRollEnd u) s fun t => t.streamState u = 0 ∧ t.ustate (0x400 + u) = 3 :=
  gives_next (congrArg Host.Outcome.next ((if_pos ⟨hu, hstate, hfaded⟩).trans (if_pos hheld))) (finishHold_gives hu _ _)

theorem postRollEnd_waits (hu : u < 5) (hstate : s.streamState u = 7) (hfaded : (s.stream u).fadeFrom + 128 ≤ s.nat (as_ u 7))
    (hheld : (s.stream u).holdLanded = false) :
    Gives (.postRollEnd u) s fun t => t.streamState u = 1 ∧ t.nat (as_ u 3) = 0 ∧ (t.stream u).rejoin = true := by
  refine gives_next (congrArg Host.Outcome.next ((if_pos ⟨hu, hstate, hfaded⟩).trans (if_neg (by simp [hheld]))))
    ⟨setStreamState_state hu _ _, ?_, ?_⟩
  · rw [setStreamState_nat hu, setStream_nat, setNat_nat, if_pos rfl]
  · simp

theorem clearRing_stream (u : Nat) (s : State) (v : Nat) :
    (s.clearRing u).stream v = if v = u then { s.stream u with ring := [] } else s.stream v := setStream_stream _ _ _ _

theorem clockLost_gives (hu : u < 5) (hactive : s.streamState u ≠ 0) (hclock : s.streamState u ≠ 5)
    (hheld : (s.stream u).holdLanded = false) :
    Gives (.clockLost u) s fun t => t.streamState u = 5 ∧ (t.stream u).ring = [] ∧
      t.nat (as_ u 0x0C) = satAdd 32 (s.nat (as_ u 0x0C)) 1 := by
  refine gives_next (congrArg Host.Outcome.next ((if_pos ⟨hu, hactive, hclock⟩).trans (if_neg ?_)))
    ⟨setStreamState_state hu _ _, ?_, ?_⟩
  · simp [clearRing_stream, hheld]
  · simp [clearRing_stream]
  · rw [setStreamState_nat hu, setStream_nat, bump_nat, if_pos rfl, setAudioFlag_nat hu, State.Spares.nat (clearRing_spares .same)]

theorem clockReturn_gives {f : Nat} (hu : u < 5) (hstate : s.streamState u = 5) (hstable : 64 ≤ (s.stream u).stable)
    (hrate : s.identifyRate u (s.stream u).rate64 = some f) (hsolo : s.nat (as_ u 0x10) = 0) :
    Gives (.clockReturn u) s fun t => t.streamState u = 1 ∧ t.nat (as_ u 2) = (s.stream u).rate64 ∧ t.nat (as_ u 3) = f := by
  have hexec : ∃ r q, exec (.clockReturn u) s = .next
      ((((((s.setNat (as_ u 3) f).setRate u (s.stream u).rate64).audioEvent u 5).setStream u r).setStream u q).setStreamState u 1 1) := by
    show ∃ r q, execClockReturn u s = _
    unfold execClockReturn
    extract_lets v rate
    rw [if_pos ⟨hu, hstate, hstable⟩, show s.identifyRate v rate = some f from hrate]
    dsimp only
    split
    next l hlead =>
      have hgroup := List.find?_some hlead
      rw [setStream_nat, audioEvent_nat hu, setRate_nat, if_neg (obj_ne (by decide)), setNat_nat, if_neg (obj_ne (by decide)), hsolo] at hgroup
      simp [bitOf] at hgroup
    next => exact ⟨_, _, rfl⟩
  obtain ⟨r, q, hexec⟩ := hexec
  refine gives_next hexec ⟨setStreamState_state hu _ _, ?_, ?_⟩
  · rw [setStreamState_nat hu, setStream_nat, setStream_nat, audioEvent_nat hu, setRate_nat, if_pos rfl]
  · rw [setStreamState_nat hu, setStream_nat, setStream_nat, audioEvent_nat hu, setRate_nat, if_neg (obj_ne (by decide)), setNat_nat,
      if_pos rfl]

theorem glitch_gives (hu : u < 4) (hstate : s.streamState u = 3) (hrun : (s.stream u).glitchRun = 0) :
    Gives (.glitch u) s fun t => t.nat (as_ u 0x0B) = satAdd 32 (s.nat (as_ u 0x0B)) 1 ∧ (t.stream u).glitchRun = 1 := by
  have hexec : exec (.glitch u) s = execGlitch u s := rfl
  unfold execGlitch at hexec
  extract_lets v st r n run quiet s1 s2 s3 s4 at hexec
  have hone : run = 1 := if_neg (by simp [r, v, hrun])
  rw [if_pos ⟨hu, .inr (.inl hstate)⟩, if_neg (by omega)] at hexec
  have h3 : s3.nat (as_ u 0x0B) = satAdd 32 (s.nat (as_ u 0x0B)) 1 ∧ (s3.stream u).glitchRun = 1 := by
    refine ⟨?_, ?_⟩
    · exact (setAudioFlag_nat (by omega) _).trans ((bump_nat _ _ _).trans (if_pos rfl))
    · simp [s3, s2, hone, v]
  refine gives_next hexec ?_
  simp only [s4]
  split
  · exact ⟨(audioEvent_nat (by omega) _).trans h3.1, by rw [audioEvent_stream]; exact h3.2⟩
  · exact h3

/-! ### The programme data of the IEC output -/

theorem userDataPacket_gives (hstate : s.streamState 4 = 3) (hmode : s.nat 0x500412 = 2) (hsent : s.iec.user.bits = [])
    (hchanged : s.iec.user.programme ≠ (0xFF, 0, s.nat 0x500408)) :
    Gives .userDataPacket s fun t => t.iec.user.programme = (0xFF, 0, s.nat 0x500408) ∧ t.iec.user.clears = 2 := by
  have hexec : exec .userDataPacket s = execUserDataPacket s := rfl
  unfold execUserDataPacket at hexec
  extract_lets mode auto host hostText who ps text textWho u0 now u _ s1 setUser sendPs sendText at hexec
  have hwho : who = (0xFF, 0) := if_pos hmode
  have hnow : now = (0xFF, 0, s.nat 0x500408) := by simp only [now, hwho]
  have hu : u = { u0 with programme := now, clears := 3, ps := [], text := [], psNext := true } := if_neg (by rw [hnow]; exact hchanged)
  have hclears : u.clears = 3 := by rw [hu]
  rw [if_pos ⟨hstate, by omega, hsent⟩, if_pos (by omega)] at hexec
  refine gives_next hexec ⟨?_, ?_⟩
  · show u.programme = _
    rw [hu, hnow]
  · show u.clears - 1 = 2
    rw [hclears]

end

/-- Settles O13, clause by clause. -/
theorem audioCompletes : Obligations.AudioCompletes := by
  unfold Obligations.AudioCompletes
  exact ⟨fun _ _ _ _ => audioFlagsClear_gives, fun _ _ _ _ _ => pairSourceWrite_gives, fun _ _ _ => streamIdentify_gives,
    fun _ _ => streamIdentify_unsupported, fun _ _ => rateThreshold_gives, fun _ _ => streamSoloStart_gives,
    fun _ _ _ _ => portGroupStart_gives, fun _ _ => streamFrameProduce_gives, fun _ _ => frameStartEdge_gives,
    fun _ _ => rateLoopUpdate_gives, fun _ _ _ => groupMemberRemoved_gives, fun _ _ => postRoll_gives, fun _ _ => postRollEnd_held,
    fun _ _ => postRollEnd_waits, fun _ _ => underrun_gives, fun _ _ => reEntry_gives, fun _ _ => clockLost_gives,
    fun _ _ _ => clockReturn_gives, fun _ _ => glitch_gives, fun _ _ => rateChange_gives, fun _ _ _ => channelStatusWrite_gives,
    fun _ => userDataPacket_gives⟩

end Sys2Proof.Machine
end
section
/-!
PROOFS. What the commands of the chains leave, for a chain that shares no lock group (R106 to R124, R47, R48, R75).
-/
namespace Sys2Proof.Machine

-- One proof after another keeps the memory of the whole text's compile low.
set_option Elab.async false

section
variable {r : Requester} {s t : State} {n k : Nat}

/-! ### A chain and its timing -/

theorem chain_of_keeps {F : List FieldName} (h : s.Keeps F t) (hF : .chains ∉ F := by decide) (n : Nat) : t.chain n = s.chain n :=
  chain_of_chains (h.same .chains hF) n

@[simp] theorem autoTake_chain (r : Requester) (key : Nat) (s : State) (n : Nat) : (s.autoTake r key).chain n = s.chain n :=
  chain_of_keeps autoTake_keeps (by decide) n

@[simp] theorem answered_chain (r : Requester) (code : Nat) (data : Bytes) (s : State) (n : Nat) :
    ((s.touch r).reply code data).chain n = s.chain n := chain_of_chains (answered_chains r code data s) n

@[simp] theorem setNat_chain (k n : Nat) (s : State) (j : Nat) : (s.setNat k n).chain j = s.chain j := rfl

@[simp] theorem setNum_chain (k : Nat) (i : Int) (s : State) (j : Nat) : (s.setNum k i).chain j = s.chain j := rfl

@[simp] theorem setChain_nat (n : Nat) (c : Chain) (s : State) (k : Nat) : (s.setChain n c).nat k = s.nat k := rfl

@[simp] theorem setChain_num (n : Nat) (c : Chain) (s : State) (k : Nat) : (s.setChain n c).num k = s.num k := rfl

theorem addMarker_chain (n : Nat) (m : Marker) (s : State) (j : Nat) : ∃ markers spans,
    (s.addMarker n m).chain j = { s.chain j with markers := markers, spans := spans } := by
  unfold State.addMarker
  rw [chain_of_keeps recordEvent_keeps, setChain_chain]
  split
  next hj =>
    subst hj
    exact ⟨_, _, rfl⟩
  next => exact ⟨_, _, rfl⟩

theorem addMarker_nat (n : Nat) (m : Marker) (s : State) (k : Nat) : (s.addMarker n m).nat k = s.nat k :=
  State.Spares.nat (.keeps addMarker_keeps)

/-- The lock group of a chain depends on the groups' bitmaps alone (R52). -/
theorem lockSet_of (h : ∀ g < 8, t.nat (obj 0x2008 (g + 1)) = s.nat (obj 0x2008 (g + 1))) (n : Nat) : t.lockSet n = s.lockSet n := by
  have hmates : t.lockMates n = s.lockMates n := by
    unfold State.lockMates
    exact List.flatMap_congr fun g hg => by simp only [h g (List.mem_range.1 hg)]
  rw [State.lockSet, State.lockSet, hmates]

theorem autoTake_lockSet (r : Requester) (key : Nat) (s : State) (n : Nat) : (s.autoTake r key).lockSet n = s.lockSet n :=
  lockSet_of (fun g hg => autoTake_nat _ _ _ (by simp only [obj_eq]; omega) (by simp only [obj_eq]; omega)
    (by simp only [obj_eq]; omega) (by simp only [obj_eq]; omega)) n

theorem lockSet_of_dict (h : t.dict = s.dict) (n : Nat) : t.lockSet n = s.lockSet n :=
  lockSet_of (fun g _ => by simp only [State.nat, State.num, State.val, h]) n

/-- The FIR sample that comes next depends on Gnomon, the group delay and the committed stages (R107). -/
theorem firNow_of (hgnomon : t.gnomon = s.gnomon) (hdelay : t.nat (cs n 0x0C) = s.nat (cs n 0x0C)) (hcommitted : t.committed = s.committed) :
    t.firNow n = s.firNow n := by
  simp only [State.firNow, State.firPeriod, State.cnat, State.cnum, State.cval, hgnomon, hdelay, hcommitted]

theorem autoTake_chainNat (hn : n < 128) (sub : Nat) (r : Requester) (key : Nat) (s : State) (hsub : sub < 256 := by decide) :
    (s.autoTake r key).nat (obj (0x3100 + n) sub) = s.nat (obj (0x3100 + n) sub) :=
  autoTake_nat _ _ _ (by simp only [obj_eq]; omega) (by simp only [obj_eq]; omega) (by simp only [obj_eq]; omega)
    (by simp only [obj_eq]; omega)

theorem cs_eq (n sub : Nat) : cs n sub = obj (0x3100 + (n + 32)) sub := by
  simp only [obj_eq]
  omega

theorem autoTake_cs (hn : n < 32) (sub : Nat) (r : Requester) (key : Nat) (s : State) (hsub : sub < 256 := by decide) :
    (s.autoTake r key).nat (cs n sub) = s.nat (cs n sub) := by
  rw [cs_eq]
  exact autoTake_chainNat (by omega) sub r key s hsub

theorem autoTake_firNow (hn : n < 32) (r : Requester) (key : Nat) (s : State) : (s.autoTake r key).firNow n = s.firNow n :=
  firNow_of (autoTake_keeps.same .gnomon (by decide)) (autoTake_cs hn 0x0C _ _ _) (autoTake_keeps.same .committed (by decide))

theorem autoTake_ustate (hn : n < 32) (r : Requester) (key : Nat) (s : State) : (s.autoTake r key).ustate (0x100 + n) = s.ustate (0x100 + n) :=
  autoTake_nat _ _ _ (by simp only [desc, obj_eq]; omega) (by simp only [desc, obj_eq]; omega) (by simp only [desc, obj_eq]; omega)
    (by simp only [desc, obj_eq]; omega)

theorem guarded_done {code : Nat} (f : State → State) (hcode : code = 0) : guarded code f s = (f s, 0) := if_pos hcode

theorem isRom_of (hn : 24 ≤ n) : isRom n = true := decide_eq_true hn

/-! ### Fades -/

/-- A fade of a length begun on a chain (R107). -/
theorem startFade_chain (n new i : Nat) (s : State) (hlen : s.nat (ck n 9) ≠ 0) :
    ((s.startFade n new i).chain n).fade = some ⟨s.nat (cs n 3), new, s.nat (ck n 9), 0, i, false⟩ := by
  unfold State.startFade
  extract_lets old len s1
  obtain ⟨markers, spans, hmarked⟩ := addMarker_chain n ⟨9, (s1.chain n).path, i * s1.firPeriod n, len, old * 256 + new⟩ s1 n
  rw [setNat_chain, hmarked]
  show (s1.chain n).fade = _
  simp only [s1, State.setFade, setChain_chain, if_pos]
  exact if_neg hlen

theorem responseSelect_gives {v : Nat} (hrom : 24 ≤ n) (hn : n < 32) (haccepts : s.Accepts r (ck n 8) (leNat 1 v))
    (hruns : s.ustate (0x100 + n) = 2) (halone : s.lockSet n = [n]) (hfade : (s.chain n).fade = none) (hother : s.nat (cs n 3) ≠ v)
    (hlen : s.nat (ck n 9) ≠ 0) :
    Gives (.responseSelect r n v) s fun t =>
      (t.chain n).fade = some ⟨s.nat (cs n 3), v, s.nat (ck n 9), 0, s.firNow n, false⟩ ∧ t.answer.code = 0 := by
  have hact (u : State) (hu : u.ustate (0x100 + n) = 2) (hset : u.lockSet n = [n]) (hnone : (u.chain n).fade = none)
      (hnew : u.nat (cs n 3) ≠ v) : u.selectResponse n v = (u.startFade n v (u.firNow n), 0) := by
    have htake : u.takeResponse n v = u.startFade n v (u.firNow n) := by
      unfold State.takeResponse
      rw [if_neg (by simp [isRom_of hrom]), if_neg (by omega), if_neg (by omega), hnone]
      exact if_neg hnew
    unfold State.selectResponse
    rw [guarded_done _ (by simp [firstCode, refuseIf, isRom_of hrom, hu]), hset]
    exact congrArg (·, 0) htake
  have hdone := hact (s.autoTake r (ck n 8)) ((autoTake_ustate hn _ _ _).trans hruns) ((autoTake_lockSet _ _ _ _).trans halone)
    (by rw [autoTake_chain]; exact hfade) (by rw [autoTake_cs hn 3]; exact hother)
  refine gives_request rfl haccepts (congrArg Prod.snd hdone) ⟨?_, rfl⟩
  have hdelay : (s.autoTake r (ck n 8)).nat (ck n 9) = s.nat (ck n 9) := autoTake_chainNat (by omega) 9 _ _ _
  rw [answered_chain, hdone, startFade_chain _ _ _ _ (by rw [hdelay]; exact hlen), autoTake_cs hn 3, hdelay, autoTake_firNow hn]

theorem fadeReverse_gives {f : Fade} (hrom : 24 ≤ n) (hn : n < 32) (haccepts : s.Accepts r (ck n 0x0A) [1]) (halone : s.lockSet n = [n])
    (hfade : (s.chain n).fade = some f) (hlen : f.len ≠ 0) :
    Gives (.fadeReverse r n) s fun t => (t.chain n).fade = some (f.turn (s.firNow n)) := by
  have hact (u : State) (hset : u.lockSet n = [n]) (hsome : (u.chain n).fade = some f) :
      (u.reverseFade n).2 = 0 ∧ ((u.reverseFade n).1.chain n).fade = some (f.turn (u.firNow n)) := by
    unfold State.reverseFade
    rw [guarded_done _ (by simp [refuseIf, isRom_of hrom]), hset]
    refine ⟨rfl, ?_⟩
    simp only [List.foldl_cons, List.foldl_nil, hsome, setNat_chain]
    obtain ⟨markers, spans, hmarked⟩ := addMarker_chain n ⟨0x0A, (u.chain n).path, (f.turn (u.firNow n)).from_ * u.firPeriod n,
      (f.turn (u.firNow n)).done - (f.turn (u.firNow n)).from_, f.old * 256 + f.new⟩ (u.setFade n (f.turn (u.firNow n))) n
    rw [hmarked]
    show ((u.setFade n (f.turn (u.firNow n))).chain n).fade = _
    simp only [State.setFade, setChain_chain, if_pos]
    exact if_neg hlen
  obtain ⟨hdone, hturned⟩ := hact (s.autoTake r (ck n 0x0A)) ((autoTake_lockSet _ _ _ _).trans halone) (by rw [autoTake_chain]; exact hfade)
  refine gives_request rfl haccepts hdone ?_
  rw [answered_chain, hturned, autoTake_firNow hn]

theorem fadeEnd_gives {f : Fade} (halone : s.lockSet n = [n]) (hfade : (s.chain n).fade = some f) (hdone : f.done ≤ s.firNow n)
    (hnone : s.nat (cs n 4) = 0xFF) :
    Gives (.fadeEnd n) s fun t =>
      (t.chain n).fade = none ∧ t.nat (cs n 3) = (if f.reversing then f.old else f.new) ∧ t.nat (cs n 5) = 0 := by
  have hend : s.endFade n = ((s.setFade n ⟨if f.reversing then f.old else f.new, if f.reversing then f.old else f.new, 0, 0, f.done,
      false⟩).setNat (cs n 3) (if f.reversing then f.old else f.new)).setNat (cs n 5) 0 := by
    unfold State.endFade
    rw [hfade]
    dsimp only
    rw [if_pos]
    rw [setNat_nat, if_neg (obj_ne (by decide)), setNat_nat, if_neg (obj_ne (by decide))]
    exact hnone
  have hexec : exec (.fadeEnd n) s = .next (s.endFade n) := by
    show execFadeEnd n s = _
    unfold execFadeEnd
    rw [halone]
    simp only [List.foldl_cons, List.foldl_nil, hfade, if_pos hdone]
  refine gives_next (hexec.trans (congrArg _ hend)) ⟨?_, ?_, ?_⟩
  · simp [State.setFade]
  · rw [setNat_nat, if_neg (obj_ne (by decide)), setNat_nat, if_pos rfl]
  · rw [setNat_nat, if_pos rfl]

/-! ### Settings -/

theorem dcFreezeWrite_gives {v : Nat} (hn : n < 32) (haccepts : s.Accepts r (ck n 0x0E) (leNat 1 v)) :
    Gives (.dcFreezeWrite r n v) s fun t => t.nat (ck n 0x0E) = v := by
  refine gives_request rfl haccepts rfl ?_
  rw [reply_nat, touch_nat_other _ _ (by simp only [obj_eq]; omega)]
  exact (setNat_nat _ _ _ _).trans (if_pos rfl)

theorem saturationClear_gives {bits : Nat} (hn : n < 32) (haccepts : s.Accepts r (cs n 2) (leNat 2 bits)) :
    Gives (.saturationClear r n bits) s fun t => t.nat (cs n 2) = clearWritten 16 (s.nat (cs n 2)) bits := by
  refine gives_request rfl haccepts rfl ?_
  rw [reply_nat, touch_nat_other _ _ (by simp only [obj_eq]; omega)]
  exact (setNat_nat _ _ _ _).trans ((if_pos rfl).trans (by rw [autoTake_cs hn 2]))

/-! ### The detector -/

theorem takeDetector_spares (h : Apart (0x3160 + n) [2, 3] k) : s.Spares k (s.takeDetector n) := by
  unfold State.takeDetector
  extract_lets c s1 s2
  have h1 : s.Spares k s1 := by
    simp only [s1]
    split
    · exact .setNum h.ne
    · exact .refl
  refine .step (.keeps setChain_keeps) (.trans h1 ?_)
  simp only [s2]
  split
  · exact .setNat h.ne
  · exact .refl

theorem takeDetector_detNext (n : Nat) (s : State) : ((s.takeDetector n).chain n).detNext = (s.chain n).detNext := by
  unfold State.takeDetector
  extract_lets c s1 s2 _
  have h1 : s1.chain n = s.chain n := by
    simp only [s1]
    split <;> rfl
  have h2 : s2.chain n = s.chain n := by
    simp only [s2]
    split <;> exact h1
  rw [setChain_chain, if_pos rfl]
  show (s2.chain n).detNext = _
  rw [h2]

theorem writeDetectorMode_nat (n mode : Nat) (s : State) : (s.writeDetectorMode n mode).nat (obj (0x3160 + n) 1) = mode := by
  unfold State.writeDetectorMode
  extract_lets j old s1 i
  have h1 : s1.nat (obj (0x3160 + n) 1) = mode := (setNat_nat _ _ _ _).trans (if_pos rfl)
  split
  · exact (State.Spares.nat (takeDetector_spares .same)).trans h1
  · split
    · exact h1
    · exact h1

theorem autoTake_detector (hn : n < 32) (sub : Nat) (r : Requester) (key : Nat) (s : State) (hsub : sub < 256 := by decide) :
    (s.autoTake r key).val (obj (0x3160 + n) sub) = s.val (obj (0x3160 + n) sub) :=
  autoTake_val _ _ _ (by simp only [obj_eq]; omega) (by simp only [obj_eq]; omega) (by simp only [obj_eq]; omega)
    (by simp only [obj_eq]; omega)

@[simp] theorem autoTake_quick (r : Requester) (key : Nat) (s : State) (n : Nat) : (s.autoTake r key).quick n = s.quick n := by
  simp [State.quick, State.cnat, State.cnum, State.cval]

/-- What a write of a subindex of the detector does (R120). -/
def State.setDetector (n sub : Nat) (v : Int) (s : State) : State :=
  if sub = 1 then s.writeDetectorMode n v.toNat
  else if sub = 2 ∨ sub = 3 then s.writeDetector n sub v
  else s.setNum (obj (0x3160 + n) sub) v

theorem exec_detectorSettingWrite (r : Requester) (n sub : Nat) (v : Int) (s : State) : exec (.detectorSettingWrite r n sub v) s =
    .next (s.request r (obj (0x3160 + n) sub) (numBytes (obj (0x3160 + n) sub) v) (accept (State.setDetector n sub v))) := rfl

/-- Whether a setting of the detector waits for the end of its block (R120). -/
def State.detects (s : State) (n : Nat) : Prop := s.nat (obj (0x3160 + n) 1) ≠ 0 ∧ s.ustate (0x100 + n) = 2 ∧ s.quick n = 0

theorem setDetector_now {sub : Nat} {v : Int} (hsub : sub = 2 ∨ sub = 3)
    (hidle : s.nat (obj (0x3160 + n) 1) = 0 ∨ s.ustate (0x100 + n) ≠ 2 ∨ s.quick n ≠ 0) :
    (s.setDetector n sub v).num (obj (0x3160 + n) sub) = v := by
  unfold State.setDetector State.writeDetector
  rw [if_neg (by omega), if_pos hsub, if_pos hidle]
  exact (setNum_num _ _ _ _).trans (if_pos rfl)

theorem setDetector_freq {v : Int} (hruns : s.detects n) :
    s.setDetector n 2 v = s.setChain n { s.chain n with detFreq := some v } := by
  obtain ⟨hmode, hstate, hfull⟩ := hruns
  unfold State.setDetector State.writeDetector
  rw [if_neg (by decide), if_pos (by decide), if_neg (by omega), if_pos rfl]

theorem setDetector_len {v : Int} (hruns : s.detects n) :
    s.setDetector n 3 v = s.setChain n { s.chain n with detLen := some v.toNat } := by
  obtain ⟨hmode, hstate, hfull⟩ := hruns
  unfold State.setDetector State.writeDetector
  rw [if_neg (by decide), if_pos (by decide), if_neg (by omega), if_neg (by decide)]

theorem detectorSettingWrite_gives {sub : Nat} {v : Int} (hn : n < 32)
    (haccepts : s.Accepts r (obj (0x3160 + n) sub) (numBytes (obj (0x3160 + n) sub) v)) :
    Gives (.detectorSettingWrite r n sub v) s fun t => t.answer.code = 0 ∧
      (sub = 1 → t.nat (obj (0x3160 + n) 1) = v.toNat) ∧
      (sub = 2 ∨ sub = 3 → s.nat (obj (0x3160 + n) 1) = 0 ∨ s.ustate (0x100 + n) ≠ 2 ∨ s.quick n ≠ 0 →
        t.num (obj (0x3160 + n) sub) = v) ∧
      (sub = 2 → s.nat (obj (0x3160 + n) 1) ≠ 0 → s.ustate (0x100 + n) = 2 → s.quick n = 0 →
        (t.chain n).detFreq = some v ∧ t.num (obj (0x3160 + n) 2) = s.num (obj (0x3160 + n) 2)) ∧
      (sub = 3 → s.nat (obj (0x3160 + n) 1) ≠ 0 → s.ustate (0x100 + n) = 2 → s.quick n = 0 →
        (t.chain n).detLen = some v.toNat ∧ t.nat (obj (0x3160 + n) 3) = s.nat (obj (0x3160 + n) 3)) := by
  have hanswered (m : Nat) (u : State) (hm : m < 256) : ((u.touch r).reply 0 []).val (obj (0x3160 + n) m) = u.val (obj (0x3160 + n) m) :=
    touch_val r u (by simp only [obj_eq]; omega)
  have hmode (key : Nat) : (s.autoTake r key).nat (obj (0x3160 + n) 1) = s.nat (obj (0x3160 + n) 1) := nat_of_val (autoTake_detector hn 1 _ _ _)
  have hdetects (key : Nat) (hmoded : s.nat (obj (0x3160 + n) 1) ≠ 0) (hruns : s.ustate (0x100 + n) = 2) (hfull : s.quick n = 0) :
      (s.autoTake r key).detects n := by
    rw [State.detects, hmode, autoTake_ustate hn, autoTake_quick]
    exact ⟨hmoded, hruns, hfull⟩
  refine gives_request (exec_detectorSettingWrite r n sub v s) haccepts rfl ⟨rfl, ?_, ?_, ?_, ?_⟩
  · rintro rfl
    rw [nat_of_val (hanswered 1 _ (by decide))]
    exact writeDetectorMode_nat _ _ _
  · intro hsub hidle
    rw [num_of_val_eq (hanswered sub _ (by omega))]
    exact setDetector_now hsub (by rw [hmode, autoTake_ustate hn, autoTake_quick]; exact hidle)
  · rintro rfl hmoded hruns hfull
    have hheld := setDetector_freq (v := v) (hdetects (obj (0x3160 + n) 2) hmoded hruns hfull)
    rw [answered_chain, num_of_val_eq (hanswered 2 _ (by decide))]
    simp only [accept, hheld, setChain_chain, setChain_num, if_pos]
    exact ⟨trivial, num_of_val_eq (autoTake_detector hn 2 _ _ _)⟩
  · rintro rfl hmoded hruns hfull
    have hheld := setDetector_len (v := v) (hdetects (obj (0x3160 + n) 3) hmoded hruns hfull)
    rw [answered_chain, nat_of_val (hanswered 3 _ (by decide))]
    simp only [accept, hheld, setChain_chain, setChain_nat, if_pos]
    exact ⟨trivial, nat_of_val (autoTake_detector hn 3 _ _ _)⟩

theorem setSaturation_spares {bits : Nat} (h : k ≠ cs n 2) (hevent : k ∉ eventKeys) : s.Spares k (s.setSaturation n bits) := by
  unfold State.setSaturation
  exact .iteElse (.step (.keeps setChain_keeps) <| .setNat h) (.step (.raise hevent) <| .keeps setChain_keeps)

/-- A saturation recorded leaves the chain but for what it says of saturation (R117). -/
theorem setSaturation_chain (n bits : Nat) (s : State) : ∃ block at_,
    (s.setSaturation n bits).chain n = { s.chain n with satBlock := block, satAt := at_ } := by
  unfold State.setSaturation
  extract_lets j old new c s1 recent src
  have h1 : s1.chain n = { s.chain n with satBlock := (List.range 15).foldl (fun t i => if bitOf bits i then setBit t i else t) c.satBlock } := by
    simp only [s1, setChain_chain, if_pos]
    rfl
  split
  · exact ⟨_, _, h1⟩
  · rw [chain_of_keeps raise_keeps, setChain_chain, if_pos rfl]
    simp only [src, h1]
    exact ⟨_, _, rfl⟩

/-- The tick of a grid sample depends on the committed stages and on quick mode alone (R125). -/
theorem gridTick_of (hcommitted : t.committed = s.committed) (hquick : (t.chain n).quickOff = (s.chain n).quickOff) (i : Nat) :
    t.gridTick n i = s.gridTick n i := by
  have hq : t.quick n = s.quick n := by rw [State.quick, State.quick, hquick, cnat_of_committed hcommitted]
  simp only [State.gridTick, State.gridStep, hq, cnat_of_committed hcommitted]

/-- The detector behind a block: mode 1 goes to 0, mode 2 on to the next block, and what was held takes effect (R120). -/
def State.endDetection (n next : Nat) (s : State) : State :=
  let again := s.nat (obj (0x3160 + n) 1) != 1
  let s := if again then s else s.setNat (obj (0x3160 + n) 1) 0
  let s := s.setChain n { s.chain n with detNext := if again then some next else none }
  s.takeDetector n

theorem endDetection_once {next : Nat} (honce : s.nat (obj (0x3160 + n) 1) = 1) :
    (s.endDetection n next).nat (obj (0x3160 + n) 1) = 0 ∧ ((s.endDetection n next).chain n).detNext = none := by
  unfold State.endDetection
  simp only [honce, bne_self_eq_false, Bool.false_eq_true, if_false]
  refine ⟨(State.Spares.nat (takeDetector_spares .same)).trans ((setNat_nat _ _ _ _).trans (if_pos rfl)), ?_⟩
  rw [takeDetector_detNext, setChain_chain, if_pos rfl]

theorem endDetection_result (n next : Nat) (s : State) :
    (s.endDetection n next).bytes (obj (0x3160 + n) 4) = s.bytes (obj (0x3160 + n) 4) :=
  bytes_of_val (State.Spares.step (takeDetector_spares .same) <| .step (.keeps setChain_keeps) <|
    .iteElse .refl (.setNat (obj_ne (by decide))))

/-- The state in which a block's result is issued (R117, R120). -/
def State.saturatedIf (n : Nat) (sat : Bool) (s : State) : State := if sat then s.setSaturation n 0x4000 else s

/-- The flags and the instant that lead a block's result (R121). -/
def State.detectionHead (n first m : Nat) (sat : Bool) (s : State) : Bytes :=
  leNat 2 (boolNat sat + 2 * boolNat ((List.range m).any fun i => s.spannedAt n (first + i) [1, 2, 3, 4, 6, 7, 9, 0x0A]))
    ++ leNat 8 ((s.saturatedIf n sat).gridTick n first)

/-- A block's result issued (R120, R121). -/
def State.issueDetection (n first : Nat) (a b : AdcSpan) (sat : Bool) (s : State) : State :=
  let m := s.nat (obj (0x3160 + n) 3)
  let x := s.detected n a b first m (s.num (obj (0x3160 + n) 2))
  let g := s.cnum (ck n 0x0F)
  (s.saturatedIf n sat).issue (obj (0x3160 + n) 4) (s.detectionHead n first m sat ++ leInt 4 (scaleRat (16 * x.re) g 32)
    ++ leInt 4 (scaleRat (16 * x.im) g 32) ++ leInt 2 (powerDb x.power) ++ [0, 0])

theorem exec_detectorBlockEnd {first : Nat} {a b : AdcSpan} {sat : Bool} (hnext : (s.chain n).detNext = some first) :
    exec (.detectorBlockEnd n a b sat) s = .next (if n < 32 ∧ s.ustate (0x100 + n) = 2 ∧ s.nat (obj (0x3160 + n) 1) ≠ 0 ∧
        s.quick n = 0 ∧ s.computed n (first + s.nat (obj (0x3160 + n) 3) - 1) = true then
      (s.issueDetection n first a b sat).endDetection n (first + s.nat (obj (0x3160 + n) 3)) else s) := by
  show execDetectorBlockEnd n a b sat s = _
  unfold execDetectorBlockEnd
  rw [hnext]
  rfl

theorem detectorBlockEnd_gives {first : Nat} {a b : AdcSpan} {sat : Bool} (hn : n < 32) (hnext : (s.chain n).detNext = some first)
    (hruns : s.ustate (0x100 + n) = 2) (honce : s.nat (obj (0x3160 + n) 1) = 1) (hfull : s.quick n = 0)
    (hcomputed : s.computed n (first + s.nat (obj (0x3160 + n) 3) - 1) = true) :
    Gives (.detectorBlockEnd n a b sat) s fun t => t.nat (obj (0x3160 + n) 1) = 0 ∧ (t.chain n).detNext = none ∧
      sliceB (t.bytes (obj (0x3160 + n) 4)) 4 8 = leNat 8 (s.gridTick n first) := by
  have hevent : obj (0x3160 + n) 1 ∉ eventKeys :=
    notMem_eventKeys (by simp only [obj_eq]; omega) (by simp only [obj_eq]; omega) (by simp only [obj_eq]; omega)
  have hsaturated : s.Spares (obj (0x3160 + n) 1) (s.saturatedIf n sat) :=
    .ite (setSaturation_spares (by simp only [obj_eq]; omega) hevent) .refl
  have htick : (s.saturatedIf n sat).gridTick n first = s.gridTick n first := by
    unfold State.saturatedIf
    split
    · obtain ⟨block, at_, hchain⟩ := setSaturation_chain n 0x4000 s
      exact gridTick_of (setSaturation_keeps.same .committed (by decide)) (by rw [hchain]) first
    · rfl
  have hissued : (s.issueDetection n first a b sat).nat (obj (0x3160 + n) 1) = 1 := by
    unfold State.issueDetection
    rw [issue_nat _ _ (obj_ne (by decide)), hsaturated.nat, honce]
  obtain ⟨hmode, hdone⟩ := endDetection_once (next := first + s.nat (obj (0x3160 + n) 3)) hissued
  have hmoded : s.nat (obj (0x3160 + n) 1) ≠ 0 := by omega
  refine gives_next ((exec_detectorBlockEnd hnext).trans (congrArg _ (if_pos ⟨hn, hruns, hmoded, hfull, hcomputed⟩))) ⟨hmode, hdone, ?_⟩
  rw [endDetection_result, sliceB, show 4 = 2 + 2 from rfl, ← List.drop_drop, State.issueDetection, issue_body, State.detectionHead, htick]
  rfl

/-! ### Retune, switch and blocks -/

theorem afterFiring_dict (entry : Nat) (e : LaunchEntry) (s : State) : (s.afterFiring entry e).dict = s.dict :=
  afterFiring_keeps.same .dict (by decide)

theorem disturbChain_spares (hk : k < 0x490000 ∨ 0x4912FF < k) (hevent : k ∉ eventKeys) : s.Spares k (s.disturbChain n) := by
  unfold State.disturbChain
  exact .ite .refl (disturb_spares hk hevent)

theorem retuneChain_tuning (n at_ : Nat) (param : Bytes) (s : State) :
    (s.retuneChain n at_ param).num (cs n 0x0A) = signed 4 (fieldLe param 0 4) ∧
      (s.retuneChain n at_ param).nat (cs n 0x0B) = nthD param 4 0 := by
  unfold State.retuneChain
  refine ⟨(num_of_val_eq (State.Spares.keeps retuned_keeps)).trans ?_, (State.Spares.nat (.keeps retuned_keeps)).trans ?_⟩
  · rw [setNat_num, if_neg (obj_ne (by decide)), setNum_num, if_pos rfl]
  · rw [setNat_nat, if_pos rfl]

theorem chainRetune_gives {entry : Nat} {e : LaunchEntry} (hn : n < 32) (hdue : s.dueEntry entry [4] = some e) (htarget : e.target = 0x100 + n)
    (hlive : s.chainLive (0x100 + n) = true) (halone : s.lockSet n = [n]) :
    Gives (.chainRetune entry) s fun t =>
      t.num (cs n 0x0A) = signed 4 (fieldLe e.param 0 4) ∧ t.nat (cs n 0x0B) = nthD e.param 4 0 := by
  have hexec : exec (.chainRetune entry) s =
      .next (((s.afterFiring entry e).retuneChain n (roundUp 4 e.instant) e.param).disturbChain n) := by
    have hkept : (s.afterFiring entry e).chainLive (0x100 + n) = true := by
      simpa only [State.chainLive, State.ustate, State.nat, State.num, State.val, afterFiring_dict] using hlive
    have hset : (s.afterFiring entry e).lockSet (e.target - 0x100) = [n] := by
      rw [show e.target - 0x100 = n by omega, lockSet_of_dict (afterFiring_dict entry e s), halone]
    show execChainRetune entry s = _
    unfold execChainRetune
    rw [hdue]
    dsimp only
    rw [htarget] at hset ⊢
    rw [if_pos hlive, hset]
    exact congrArg Host.Outcome.next (if_pos hkept)
  have hspared (sub : Nat) (hsub : sub < 256) (t : State) : t.Spares (cs n sub) (t.disturbChain n) :=
    disturbChain_spares (.inl (by simp only [obj_eq]; omega))
      (notMem_eventKeys (by simp only [obj_eq]; omega) (by simp only [obj_eq]; omega) (by simp only [obj_eq]; omega))
  obtain ⟨hword, hband⟩ := retuneChain_tuning n (roundUp 4 e.instant) e.param (s.afterFiring entry e)
  exact gives_next hexec ⟨(num_of_val_eq (hspared 0x0A (by decide) _)).trans hword, (hspared 0x0B (by decide) _).nat.trans hband⟩

theorem moveToPath_path (n path at_ : Nat) (s : State) : ((s.moveToPath n path at_).chain n).path = path := by
  unfold State.moveToPath
  extract_lets c
  split
  next hpath => exact hpath
  next =>
    unfold State.retuned
    obtain ⟨markers, spans, hmarked⟩ := addMarker_chain n ⟨2, path, at_, 0, s.nat (cs n 0x0B) % 256 + 512 + 1024 * path⟩ _ n
    rw [hmarked]
    simp

theorem antennaSwitch_gives {entry : Nat} {e : LaunchEntry} (hn : n < 32) (hdue : s.dueEntry entry [5] = some e) (htarget : e.target = 0x100 + n)
    (hlive : s.chainLive (0x100 + n) = true) (halone : s.lockSet n = [n]) :
    Gives (.antennaSwitch entry) s fun t => (t.chain n).path = nthD e.param 0 0 := by
  have hkept : (s.afterFiring entry e).chainLive (0x100 + n) = true := by
    simpa only [State.chainLive, State.ustate, State.nat, State.num, State.val, afterFiring_dict] using hlive
  have hchain : (s.afterFiring entry e).chain n = s.chain n := chain_of_keeps afterFiring_keeps (by decide) n
  have hset : (s.afterFiring entry e).lockSet n = [n] := by rw [lockSet_of_dict (afterFiring_dict entry e s), halone]
  have hexec : exec (.antennaSwitch entry) s = execAntennaSwitch entry s := rfl
  unfold execAntennaSwitch at hexec
  rw [hdue] at hexec
  dsimp only at hexec
  rw [htarget, if_pos hlive, Nat.add_sub_cancel_left] at hexec
  refine gives_next hexec ?_
  split
  next hsame => rw [hchain, hsame]
  next =>
    rw [chain_of_keeps rejudgeNulls_keeps, chain_of_keeps rejudgeNulls_keeps, hset]
    simp only [List.foldl_cons, List.foldl_nil, if_pos hkept, hchain, if_true]
    exact moveToPath_path _ _ _ _

/-- The data of a block taken for the captures, and its saturation recorded (R113, R117, R252). -/
def State.gatherBlock (n grid sat : Nat) (data : Bytes × Cx × Bool) (s : State) : State :=
  let sat := sat % 4096 + 0x1000 * boolNat data.2.2 + sat / 8192 % 4 * 8192
  let s := if sat = 0 then s else s.setSaturation n sat
  s.captureBlock n grid (s.quick n != 0) data.1

/-- A chain behind a block, with the markers cut counted (R116). -/
def State.passBlock (n stop : Nat) (d : Cx) (s : State) : State :=
  let split := s.splitMarkers n stop
  let cut := cutMarkers (mergeClips split.1)
  let s := s.setChain n ((s.chain n).passed s n stop split.2 d)
  if cut.2 = 0 then s else s.bumpBy (cs n 9) cut.2

/-- A block handed on: to the ring, to the consumer, or to the queue before it (R114, R243). -/
def State.handBlock (n grid : Nat) (block data : Bytes) (marks : List Marker) (s : State) : State :=
  let consumer := s.cnat (ck n 0x12)
  if consumer = 0 then
    let r := s.pushFifo (obj (0x2520 + n) 0) 16 block
    if r.2 then (r.1.bump (cs n 8)).countDrop (0x100 + n) 8 else r.1.bump (cs n 7)
  else if 16 ≤ (s.chain n).queue.length ∨ (s.engine (consumer - 0x200)).restart.isSome then s.bump (cs n 8)
  else if s.takesBlocks consumer then
    let s := (s.bump (cs n 7)).hearQuick n grid (if s.quick n = 0 then [] else data)
    let s := if marks.any fun m => m.kind == 1 || m.kind == 2 then s.receiverColdStart (consumer - 0x200) else s
    s.receiverTakes n (consumer - 0x200) block
  else (s.setChain n { s.chain n with queue := (s.chain n).queue ++ [block] }).bump (cs n 7)

/-- A block sent out: its data gathered, the chain behind it, the record handed on (R114). -/
def State.sendBlock (n grid stop sat : Nat) (data : Bytes × Cx × Bool) (s : State) : State :=
  let t := s.gatherBlock n grid sat data
  (t.passBlock n stop data.2.1).handBlock n grid (t.encodeBlock n grid (stop - grid) data.1 (t.chain n).satBlock) data.1
    (cutMarkers (mergeClips (t.splitMarkers n stop).1)).1

theorem exec_chainBlockOut {a b : AdcSpan} {sat grid stop : Nat} (hblock : s.nextBlock n = some (grid, stop)) :
    exec (.chainBlockOut n a b sat) s = .next (if n < 32 ∧ (s.ustate (0x100 + n) = 2 ∨ s.ustate (0x100 + n) = 3 ∧ (s.chain n).gap.isSome)
        ∧ s.nat (obj (0x3000 + (s.chain n).path) 1) = 2 ∧ s.computed n (stop - 1) then
      s.sendBlock n grid stop sat (s.blockData n a b sat grid stop) else s) := by
  show execChainBlockOut n a b sat s = _
  unfold execChainBlockOut
  rw [hblock]
  rfl

theorem fifo_of_keeps {F : List FieldName} (h : s.Keeps F t) (hF : .fifos ∉ F := by decide) (k : Nat) : t.fifo k = s.fifo k :=
  congrArg (Map.get (fun _ => Fifo.init) · k) (h.same .fifos hF)

theorem pushFifo_room {cap : Nat} {record : Bytes} (hroom : (s.fifo k).recs.length < cap) :
    s.pushFifo k cap record = (s.setFifo k { s.fifo k with recs := (s.fifo k).recs ++ [record] }, false) := if_pos hroom

/-- A block of a chain without consumer goes into its ring while that has room (R114). -/
theorem handBlock_ring {grid : Nat} {block data : Bytes} {marks : List Marker} (hring : s.cnat (ck n 0x12) = 0)
    (hroom : (s.fifo (obj (0x2520 + n) 0)).recs.length < 16) : s.handBlock n grid block data marks =
      (s.setFifo (obj (0x2520 + n) 0) { s.fifo (obj (0x2520 + n) 0) with
        recs := (s.fifo (obj (0x2520 + n) 0)).recs ++ [block] }).bump (cs n 7) := by
  have hpush := pushFifo_room (record := block) hroom
  unfold State.handBlock
  rw [if_pos hring, hpush]
  rfl

theorem gatherBlock_keeps {n grid sat : Nat} {data : Bytes × Cx × Bool} {s : State} :
    s.Keeps [.dict, .awaiting, .events, .log, .chains, .captures] (s.gatherBlock n grid sat data) := by
  unfold State.gatherBlock
  exact .step captureBlock_keeps <| .iteElse .refl (setSaturation_keeps.mono)

theorem gatherBlock_blockSeq (n grid sat : Nat) (data : Bytes × Cx × Bool) (s : State) :
    ((s.gatherBlock n grid sat data).chain n).blockSeq = (s.chain n).blockSeq := by
  unfold State.gatherBlock
  rw [chain_of_keeps captureBlock_keeps]
  split
  · rfl
  · obtain ⟨block, at_, hchain⟩ := setSaturation_chain n (sat % 4096 + 0x1000 * boolNat data.2.2 + sat / 8192 % 4 * 8192) s
    rw [hchain]

theorem gatherBlock_spares {grid sat : Nat} {data : Bytes × Cx × Bool} (h : k ≠ cs n 2) (hevent : k ∉ eventKeys) :
    s.Spares k (s.gatherBlock n grid sat data) := by
  unfold State.gatherBlock
  exact .step (.keeps captureBlock_keeps) <| .iteElse .refl (setSaturation_spares h hevent)

theorem passBlock_keeps {n stop : Nat} {d : Cx} {s : State} : s.Keeps [.dict, .chains] (s.passBlock n stop d) := by
  unfold State.passBlock
  exact .iteElse (.step setChain_keeps .refl) (.step bumpBy_keeps .refl)

theorem passBlock_chain (n stop : Nat) (d : Cx) (s : State) :
    ((s.passBlock n stop d).chain n).next = stop ∧ ((s.passBlock n stop d).chain n).blockSeq = ((s.chain n).blockSeq + 1) % 65536 := by
  unfold State.passBlock
  extract_lets split_ cut s1
  have h1 : s1.chain n = (s.chain n).passed s n stop split_.2 d := (setChain_chain _ _ _ _).trans (if_pos rfl)
  have hchain : (if cut.2 = 0 then s1 else s1.bumpBy (cs n 9) cut.2).chain n = s1.chain n := by
    split <;> rfl
  rw [hchain, h1]
  exact ⟨rfl, rfl⟩

theorem passBlock_nat {stop : Nat} {d : Cx} (n : Nat) (s : State) : (s.passBlock n stop d).nat (cs n 7) = s.nat (cs n 7) := by
  unfold State.passBlock
  exact State.Spares.nat (.iteElse (.keeps setChain_keeps) (.bumpBy (obj_ne (by decide))))

theorem passBlock_fifo (n stop : Nat) (d : Cx) (s : State) :
    (s.passBlock n stop d).fifo (obj (0x2520 + n) 0) = s.fifo (obj (0x2520 + n) 0) :=
  fifo_of_keeps passBlock_keeps (by decide) _

theorem passBlock_cnat (n stop : Nat) (d : Cx) (s : State) : (s.passBlock n stop d).cnat (ck n 0x12) = s.cnat (ck n 0x12) :=
  cnat_of_committed (passBlock_keeps.same .committed (by decide)) _

theorem gatherBlock_fifo (n grid sat : Nat) (data : Bytes × Cx × Bool) (s : State) :
    (s.gatherBlock n grid sat data).fifo (obj (0x2520 + n) 0) = s.fifo (obj (0x2520 + n) 0) :=
  fifo_of_keeps gatherBlock_keeps (by decide) _

theorem gatherBlock_cnat (n grid sat : Nat) (data : Bytes × Cx × Bool) (s : State) :
    (s.gatherBlock n grid sat data).cnat (ck n 0x12) = s.cnat (ck n 0x12) :=
  cnat_of_committed (gatherBlock_keeps.same .committed (by decide)) _

theorem gatherBlock_nat (hn : n < 32) (grid sat : Nat) (data : Bytes × Cx × Bool) (s : State) :
    (s.gatherBlock n grid sat data).nat (cs n 7) = s.nat (cs n 7) :=
  State.Spares.nat (gatherBlock_spares (obj_ne (by decide))
    (notMem_eventKeys (by simp only [obj_eq]; omega) (by simp only [obj_eq]; omega) (by simp only [obj_eq]; omega)))

theorem sendBlock_ring (hn : n < 32) {grid stop sat : Nat} {data : Bytes × Cx × Bool} (hring : s.cnat (ck n 0x12) = 0)
    (hroom : (s.fifo (obj (0x2520 + n) 0)).recs.length < 16) : ∃ (u : State) (block : Bytes), s.sendBlock n grid stop sat data =
      (u.setFifo (obj (0x2520 + n) 0) { s.fifo (obj (0x2520 + n) 0) with
        recs := (s.fifo (obj (0x2520 + n) 0)).recs ++ [block] }).bump (cs n 7) ∧
      (u.chain n).next = stop ∧ (u.chain n).blockSeq = ((s.chain n).blockSeq + 1) % 65536 ∧ u.nat (cs n 7) = s.nat (cs n 7) := by
  obtain ⟨hnext, hseq⟩ := passBlock_chain n stop data.2.1 (s.gatherBlock n grid sat data)
  have hfifo := (passBlock_fifo n stop data.2.1 (s.gatherBlock n grid sat data)).trans (gatherBlock_fifo n grid sat data s)
  have hconsumer := (passBlock_cnat n stop data.2.1 (s.gatherBlock n grid sat data)).trans (gatherBlock_cnat n grid sat data s)
  have hcount := (passBlock_nat n (stop := stop) (d := data.2.1) (s.gatherBlock n grid sat data)).trans (gatherBlock_nat hn grid sat data s)
  rw [gatherBlock_blockSeq] at hseq
  unfold State.sendBlock
  dsimp only
  generalize (s.gatherBlock n grid sat data).passBlock n stop data.2.1 = u at *
  rw [handBlock_ring (hconsumer.trans hring) (by rw [hfifo]; exact hroom), hfifo]
  exact ⟨u, _, rfl, hnext, hseq, hcount⟩

theorem chainBlockOut_gives {a b : AdcSpan} {sat grid stop : Nat} (hn : n < 32) (hblock : s.nextBlock n = some (grid, stop))
    (hruns : s.ustate (0x100 + n) = 2) (hup : s.nat (obj (0x3000 + (s.chain n).path) 1) = 2) (hcomputed : s.computed n (stop - 1) = true)
    (hring : s.cnat (ck n 0x12) = 0) (hroom : (s.fifo (obj (0x2520 + n) 0)).recs.length < 16) :
    Gives (.chainBlockOut n a b sat) s fun t => (t.chain n).next = stop ∧ (t.chain n).blockSeq = ((s.chain n).blockSeq + 1) % 65536 ∧
      t.nat (cs n 7) = satAdd 32 (s.nat (cs n 7)) 1 ∧
        (t.fifo (obj (0x2520 + n) 0)).recs.length = (s.fifo (obj (0x2520 + n) 0)).recs.length + 1 := by
  refine gives_next ((exec_chainBlockOut hblock).trans (congrArg Host.Outcome.next (if_pos ⟨hn, .inl hruns, hup, hcomputed⟩))) ?_
  generalize s.blockData n a b sat grid stop = data
  obtain ⟨u, block, hsend, hnext, hseq, hnat⟩ := sendBlock_ring (grid := grid) (stop := stop) (sat := sat) (data := data) hn hring hroom
  rw [hsend]
  refine ⟨hnext, hseq, ?_, ?_⟩
  · rw [bump_nat, if_pos rfl, ← hnat]
    rfl
  · show ((State.setFifo _ _ _).fifo _).recs.length = _
    rw [setFifo_fifo, if_pos rfl, List.length_append, List.length_singleton]

/-! ### The sample clock back -/

/-- A DAB receiver that loses sync writes only indices above those of the path's front end (R182). -/
theorem dabLose_spares {e : Nat} (hk : k < 0x302000) (hevent : k ∉ eventKeys) : s.Spares k (s.dabLose e) := by
  have hdk {m sub v : Nat} {u : State} : u.Spares k (u.setNat (dk m sub) v) := .setNat (by simp only [obj_eq]; omega)
  have hbump {m sub : Nat} {u : State} : u.Spares k (u.bump (dk m sub)) := .bump (by simp only [obj_eq]; omega)
  have hstate : s.Spares k (s.setDabState e 5) := by
    unfold State.setDabState
    exact .ite .refl (.step (.raise hevent) <| .ite (.step hbump <| .step (.keeps setDab_keeps) hdk)
      (.iteThen (.step (.keeps setDab_keeps) hdk) hbump))
  have hplace {p : Nat} {u : State} : u.Spares k (u.tryPlace p) := by
    unfold State.tryPlace
    extract_lets r l
    split
    · exact .refl
    next j _ =>
      refine .ite .refl ?_
      extract_lets e place
      have hplace {t : State} : t.Spares k (place t) := by
        simp only [place]
        split
        · exact .refl
        · exact .step (.raise hevent) <| .step (.setNat (by simp only [obj_eq]; omega)) <| .keeps setEntry_keeps
      split
      · exact .ite .refl (.ite (.keeps setPlumb_keeps) hplace)
      · exact .iteElse (.keeps setPlumb_keeps) hplace
  have hnulls {u : State} : u.Spares k (u.stopNulls e) := by
    unfold State.stopNulls
    refine .foldl (fun _ _ _ => .ite ?_ .refl) (.step hdk hdk)
    unfold State.protectedLost
    exact .ite (.step hplace <| .keeps setPlumb_keeps) .refl
  have hslot {m i new : Nat} {u : State} : u.Spares k (u.setSlotState m i new) := by
    unfold State.setSlotState
    exact .ite .refl (.step (.raise hevent) <| .setNat (by simp only [obj_eq]; omega))
  unfold State.dabLose State.judgeSlots
  exact .foldl (fun _ _ _ => .ite (.foldl (fun _ _ _ => hslot) .refl) .refl) (.step hnulls hstate)

theorem drmLose_spares {e : Nat} (hk : k < 0x302000) (hevent : k ∉ eventKeys) : s.Spares k (s.drmLose e) := by
  have hne {sub : Nat} : k ≠ rk e sub := by simp only [obj_eq]; omega
  exact .step (judgeDrm_spares (.inl (by omega))) <| setDrmState_spares hne hne hne hne hevent

theorem faultReceivers_spares {p span : Nat} (hk : k < 0x302000) (hevent : k ∉ eventKeys) : s.Spares k (s.faultReceivers p span) := by
  unfold State.faultReceivers
  exact .foldl (fun _ _ _ => .ite (.ite (dabLose_spares hk hevent) <| .ite (drmLose_spares hk hevent) .refl) .refl) .refl

theorem sampleClockRelock_gives (hlost : s.nat 0x300001 = 3) :
    Gives .sampleClockRelock s fun t => t.nat 0x300001 = 2 ∧ t.nat 0x700202 = 0 := by
  refine ⟨_, rfl, ?_⟩
  extract_lets one
  have hevent : (0x300001 : Nat) ∉ eventKeys := by decide
  have hback : (one 0 s).nat 0x300001 = 2 := by
    simp only [one]
    rw [if_pos hlost, (faultReceivers_spares (by decide) hevent).nat, State.Spares.nat (.keeps markPath_keeps),
      State.Spares.nat (.keeps setPath_keeps)]
    simp [obj]
  have hother (v : State) : v.Spares 0x300001 (one 1 v) := by
    simp only [one]
    exact .ite (.step (faultReceivers_spares (by decide) hevent) <| .step (.keeps markPath_keeps) <| .step (.keeps setPath_keeps) <|
      .setNat (by decide)) .refl
  rw [if_pos (.inl hlost)]
  refine ⟨?_, (setNat_nat _ _ _ _).trans (if_pos rfl)⟩
  rw [setNat_nat, if_neg (by decide), (hother _).nat, hback]

end

/-- Settles O3, clause by clause. -/
theorem chainsComplete : Obligations.ChainsComplete := by
  unfold Obligations.ChainsComplete
  exact ⟨fun _ _ _ _ => responseSelect_gives, fun _ _ _ _ => fadeReverse_gives, fun _ _ _ _ => fadeEnd_gives,
    fun _ _ _ _ => dcFreezeWrite_gives, fun _ _ _ _ => saturationClear_gives, fun _ _ _ _ _ _ => detectorBlockEnd_gives,
    fun _ _ _ _ _ => detectorSettingWrite_gives, fun _ _ _ _ => chainRetune_gives, fun _ _ _ _ => antennaSwitch_gives,
    fun _ _ _ _ _ _ _ => chainBlockOut_gives, fun _ => sampleClockRelock_gives⟩

end Sys2Proof.Machine
end

section
/-!
PROOFS. What a port's own records leave of a request: a read answers, and a write is judged, as before the frame was counted (R371, R372).
-/
namespace Sys2Proof.Machine

-- One proof after another keeps the memory of the whole text's compile low.
set_option Elab.async false

/-! ### A frame counted -/

/-- A state is another but for the ports' own records and the count of a port's frames at `k`. -/
structure State.Counted (k : Nat) (s t : State) : Prop where
  keeps : s.Keeps [.dict, .ports, .quoin, .twoWire] t
  val : ∀ j, j ≠ k → t.val j = s.val j

section
variable {s t u : State} {k : Nat}

namespace State.Counted

theorem trans (h : s.Counted k t) (g : t.Counted k u) : s.Counted k u :=
  ⟨h.keeps.trans g.keeps, fun j hj => (g.val j hj).trans (h.val j hj)⟩

theorem of_keeps (h : s.Keeps [.ports, .quoin, .twoWire] t) : s.Counted k t := ⟨h.mono, fun j _ => h.val j (by decide)⟩

theorem bump : s.Counted k (s.bump k) := ⟨bump_keeps.mono, fun _ hj => (State.Spares.bump hj : s.Spares _ _)⟩

theorem patch (h : s.Counted k t) : ∃ d p q w, t = { s with dict := d, ports := p, quoin := q, twoWire := w } :=
  ⟨t.dict, t.ports, t.quoin, t.twoWire, h.keeps.eq_patch⟩

theorem nat (h : s.Counted k t) {j : Nat} (hj : j ≠ k) : t.nat j = s.nat j := nat_of_val (h.val j hj)

end State.Counted

/-! ### The value that a subindex reads as -/

section
variable (hlo : 0x104000 ≤ k) (hhi : k < 0x107000) (h : s.Counted k t)
include hlo hhi h

theorem Counted.nat_of_range {j : Nat} (hj : j < 0x104000 ∨ 0x107000 ≤ j) : t.nat j = s.nat j := h.nat (by omega)

theorem Counted.descriptor (u sub : Nat) : t.nat (desc u sub) = s.nat (desc u sub) :=
  h.nat (by unfold desc; rw [obj_eq]; omega)

theorem utcAt_counted (g : Nat) : t.utcAt g = s.utcAt g := by
  have hnat {j : Nat} := Counted.nat_of_range hlo hhi h (j := j)
  unfold State.utcAt
  rw [hnat (by decide), hnat (by decide), hnat (by decide), num_of_val_eq (h.val 0x200306 (by omega))]

theorem produced1_counted (key : Nat) : t.produced1 key = s.produced1 key := by
  have hgnomon : t.gnomon = s.gnomon := h.keeps.same .gnomon (by decide)
  unfold State.produced1
  rw [hgnomon, utcAt_counted hlo hhi h, Counted.nat_of_range hlo hhi h (by decide)]
  obtain ⟨d, p, q, w, rfl⟩ := h.patch
  rfl

theorem fadeWeight_counted (n : Nat) : t.fadeWeight n = s.fadeWeight n := by
  have hfir : t.firNow n = s.firNow n :=
    firNow_of (h.keeps.same .gnomon (by decide)) (h.nat (by simp only [obj_eq]; omega)) (h.keeps.same .committed (by decide))
  unfold State.fadeWeight State.fadeReached
  rw [hfir, chain_of_keeps h.keeps]

theorem runs_counted (e image : Nat) : t.runs e image = s.runs e image := by
  have hstate := Counted.descriptor hlo hhi h (0x200 + e) 2
  obtain ⟨d, p, q, w, rfl⟩ := h.patch
  unfold State.runs State.ustate
  rw [hstate]
  rfl

theorem tmcSource_counted : t.tmcSource = s.tmcSource := by
  have hstate : t.ustate 0x700 = s.ustate 0x700 := Counted.descriptor hlo hhi h 0x700 2
  have hfm (e sub : Nat) : t.nat (fmf e sub) = s.nat (fmf e sub) := h.nat (by simp only [obj_eq]; omega)
  have hentry (pi : Nat) : t.entryOf pi = s.entryOf pi := congrArg (fun l => State.entryOf { s with lantern := l } pi) (h.keeps.same .lantern (by decide))
  have hdb (i : Nat) : t.dbEntry i = s.dbEntry i := congrArg (fun l => State.dbEntry { s with lantern := l } i) (h.keeps.same .lantern (by decide))
  unfold State.tmcSource
  simp only [runs_counted hlo hhi h, hstate, hfm, hentry, hdb, Counted.nat_of_range hlo hhi h (j := 0x428001) (by decide)]

theorem tmcState_counted : t.tmcState = s.tmcState := by
  have hgnomon : t.gnomon = s.gnomon := h.keeps.same .gnomon (by decide)
  have htmc : t.tmc = s.tmc := h.keeps.same .tmc (by decide)
  unfold State.tmcState
  rw [tmcSource_counted hlo hhi h, hgnomon, htmc]

theorem queryResult_counted : t.queryResult = s.queryResult := by
  have hasked := Counted.nat_of_range hlo hhi h (j := 0x431001) (by decide)
  unfold State.queryResult
  rw [hasked]
  obtain ⟨d, p, q, w, rfl⟩ := h.patch
  rfl

theorem pairRead_counted (u q : Nat) : t.pairRead u q = s.pairRead u q := by
  have hpair : t.nat (pairKey u q) = s.nat (pairKey u q) := by
    unfold pairKey
    split
    · exact Counted.nat_of_range hlo hhi h (by decide)
    · exact h.nat (by simp only [obj_eq]; omega)
  unfold State.pairRead State.pairCount
  rw [hpair, cnat_of_committed (h.keeps.same .committed (by decide))]

theorem produced3_counted (key : Nat) : t.produced3 key = s.produced3 key := by
  unfold State.produced3
  simp only [fadeWeight_counted hlo hhi h, tmcState_counted hlo hhi h, tmcSource_counted hlo hhi h, queryResult_counted hlo hhi h,
    pairRead_counted hlo hhi h]
  obtain ⟨d, p, q, w, rfl⟩ := h.patch
  rfl

theorem calMask_counted : t.calMask = s.calMask := by
  have hlast (i : Nat) : t.nat (0x600205 + i) = s.nat (0x600205 + i) := h.nat (by omega)
  unfold State.calMask State.calDue
  simp only [hlast]
  obtain ⟨d, p, q, w, rfl⟩ := h.patch
  rfl

theorem accountBytes_counted (sub : Nat) : t.accountBytes sub = s.accountBytes sub := by
  unfold State.accountBytes State.dwellBucket
  rw [Counted.nat_of_range hlo hhi h (j := 0x60200D) (by decide)]
  obtain ⟨d, p, q, w, rfl⟩ := h.patch
  rfl

theorem joiningLeft_counted : t.joiningLeft = s.joiningLeft := by
  unfold State.joiningLeft
  rw [Counted.nat_of_range hlo hhi h (j := 0x603007) (by decide)]
  obtain ⟨d, p, q, w, rfl⟩ := h.patch
  rfl

theorem produced6_counted (key : Nat) : t.produced6 key = s.produced6 key := by
  unfold State.produced6
  simp only [calMask_counted hlo hhi h, accountBytes_counted hlo hhi h, joiningLeft_counted hlo hhi h]
  obtain ⟨d, p, q, w, rfl⟩ := h.patch
  rfl

theorem ownership_counted : t.ownership = s.ownership := by
  have howner (u : Nat) : t.owner u = s.owner u := Counted.descriptor hlo hhi h u 3
  have hnat {j : Nat} := Counted.nat_of_range hlo hhi h (j := j)
  unfold State.ownership State.tapReserved State.tapEngine State.tapChains
  simp only [howner, hnat (j := 0x731001) (by decide), hnat (j := 0x731002) (by decide), hnat (j := 0x731003) (by decide),
    hnat (j := 0x731004) (by decide), hnat (j := 0x731005) (by decide)]
  obtain ⟨d, p, q, w, rfl⟩ := h.patch
  rfl

theorem mgmtFlags_counted : t.mgmtFlags = s.mgmtFlags := by
  have howner (u : Nat) : t.owner u = s.owner u := Counted.descriptor hlo hhi h u 3
  have hnat {j : Nat} := Counted.nat_of_range hlo hhi h (j := j)
  unfold State.mgmtFlags State.tapEngine State.tapChains
  simp only [howner, hnat (j := 0x731001) (by decide), hnat (j := 0x731002) (by decide), hnat (j := 0x731003) (by decide),
    hnat (j := 0x731004) (by decide), hnat (j := 0x731005) (by decide), hnat (j := 0x740002) (by decide),
    hnat (j := 0x750001) (by decide)]
  obtain ⟨d, p, q, w, rfl⟩ := h.patch
  rfl

theorem trialLeft_counted : t.trialLeft = s.trialLeft := by
  unfold State.trialLeft
  rw [Counted.nat_of_range hlo hhi h (j := 0x750001) (by decide)]
  obtain ⟨d, p, q, w, rfl⟩ := h.patch
  rfl

theorem gpioLevels_counted : t.gpioLevels = s.gpioLevels := by
  have hnat {j : Nat} := Counted.nat_of_range hlo hhi h (j := j)
  unfold State.gpioLevels
  simp only [hnat (j := 0x770001) (by decide), hnat (j := 0x770002) (by decide), hnat (j := 0x770006) (by decide)]
  obtain ⟨d, p, q, w, rfl⟩ := h.patch
  rfl

theorem produced7_counted (key : Nat) : t.produced7 key = s.produced7 key := by
  unfold State.produced7
  simp only [ownership_counted hlo hhi h, mgmtFlags_counted hlo hhi h, trialLeft_counted hlo hhi h, gpioLevels_counted hlo hhi h,
    Counted.nat_of_range hlo hhi h (j := 0x710002) (by decide)]
  obtain ⟨d, p, q, w, rfl⟩ := h.patch
  rfl

/-- What a read computes comes from subindices outside the objects of the ports. -/
theorem produced_counted (key : Nat) : t.produced key = s.produced key := by
  have hmeasured : t.measurement key = s.measurement key := by
    obtain ⟨d, p, q, w, rfl⟩ := h.patch
    rfl
  unfold State.produced
  rw [hmeasured, produced1_counted hlo hhi h, produced3_counted hlo hhi h, produced6_counted hlo hhi h, produced7_counted hlo hhi h]

theorem readBytes_counted {key : Nat} (hkey : key ≠ k) : t.readBytes key = s.readBytes key := by
  unfold State.readBytes
  rw [produced_counted hlo hhi h, h.val key hkey]

/-! ### A read judged -/

theorem dabBack_counted (e : Nat) : t.dabBack e = s.dabBack e := by
  have hparent : t.parent (0x200 + e) = s.parent (0x200 + e) := Counted.descriptor hlo hhi h (0x200 + e) 4
  unfold State.dabBack
  rw [hparent]
  obtain ⟨d, p, q, w, rfl⟩ := h.patch
  rfl

theorem imageCheck_counted (idx : Nat) : t.imageCheck idx = s.imageCheck idx := by
  unfold State.imageCheck
  rw [dabBack_counted hlo hhi h]
  obtain ⟨d, p, q, w, rfl⟩ := h.patch
  rfl

theorem classRight_counted (r : Requester) (key : Nat) (write : Bool) : t.classRight r key write = s.classRight r key write := by
  have hright (i : Nat) : t.nat (obj 0x8200 (i + 1)) = s.nat (obj 0x8200 (i + 1)) := h.nat (by rw [obj_eq]; omega)
  have hlevel : t.debugLevel = s.debugLevel := Counted.nat_of_range hlo hhi h (by decide)
  unfold State.classRight State.granted
  simp only [hright, hlevel]

theorem ringClosed_counted (key : Nat) : t.ringClosed key = s.ringClosed key := by
  unfold State.ringClosed
  rw [Counted.nat_of_range hlo hhi h (j := 0x430201) (by decide), cnat_of_committed (h.keeps.same .committed (by decide))]

theorem judgeRead_counted (r : Requester) (key : Nat) : t.judgeRead r key = s.judgeRead r key := by
  unfold State.judgeRead
  simp only [classRight_counted hlo hhi h, imageCheck_counted hlo hhi h, ringClosed_counted hlo hhi h, queryResult_counted hlo hhi h]
  obtain ⟨d, p, q, w, rfl⟩ := h.patch
  rfl

theorem unready_counted {key : Nat} (hkey : key ≠ k) (acc : Acc) : t.unready key acc = s.unready key acc := by
  have hstate (c : Nat) : t.nat (cap c 6) = s.nat (cap c 6) := h.nat (by rw [cap, obj_eq]; omega)
  have hseq : t.resSeq key = s.resSeq key := by
    unfold State.resSeq
    rw [bytes_of_val (h.val key hkey)]
  unfold State.unready
  simp only [hseq, hstate]
  obtain ⟨d, p, q, w, rfl⟩ := h.patch
  rfl

end

end

/-! ### A frame handled for the first time -/

/-- The handler of a frame's kind. -/
def State.serveFrame (p : Nat) (f : Bytes) (s : State) : State :=
  let seq := nthD f 1 0
  match nthD f 0 0 with
  | 0x01 => s.frameRead p seq f
  | 0x02 => s.frameWrite p seq f
  | 0x03 => s.frameInitiateRead p seq f
  | 0x04 => s.frameInitiateWrite p seq f
  | 0x05 => s.frameBlockRequest p seq f
  | 0x06 => s.frameSegment p seq f
  | 0x07 => s.frameEnd p seq f
  | 0x08 => s.frameAbort p seq
  | _ => s.frameSync p seq

section
variable {p seq code key flags readNo need : Nat} {f data resp : Bytes} {s t : State}

/-- A frame that is long enough, and no repeat, is served by the handler of its kind (R371). -/
theorem handleFrame_served (hkept : matchedKind (nthD f 0 0) = true → s.Unkept p (nthD f 1 0))
    (hneed : leastLength (nthD f 0 0) = some need) (hlen : need ≤ f.length) : s.handleFrame p f = s.serveFrame p f := by
  unfold State.handleFrame
  extract_lets kind seq kept openSegment
  have hnone : kept = none := by
    simp only [kept]
    split
    next k hk =>
      refine if_neg fun hsame => ?_
      simp only [Bool.and_eq_true, beq_iff_eq] at hsame
      exact hkept hsame.1.1 (by rw [hk, Option.map_some, hsame.2])
    next => rfl
  rw [hnone]
  dsimp only
  rw [hneed]
  dsimp only
  rw [if_neg (by omega)]
  rfl

theorem handleFrame_matched (hkept : s.Unkept p (nthD f 1 0)) (hneed : leastLength (nthD f 0 0) = some need) (hlen : need ≤ f.length) :
    s.handleFrame p f = s.serveFrame p f := handleFrame_served (fun _ => hkept) hneed hlen

/-! ### Responses -/

@[simp] theorem length_leNat (w v : Nat) : (leNat w v).length = w := by
  induction w generalizing v with
  | zero => rfl
  | succ w ih => simp [leNat, ih]

theorem response_take (kind : Nat) (hkind : kind < 256) (s : State) :
    (s.response kind seq 0 key flags readNo data).take 4 = [kind, seq, 0, 0] := by
  simp [State.response, leNat, Nat.mod_eq_of_lt hkind]

theorem response_drop (kind : Nat) (s : State) : (s.response kind seq code key flags readNo data).drop 16 = data := by
  simp [State.response, leNat]

/-- What a response on its way leaves of its port (R388). -/
theorem deliver_port (p : Nat) (b : Bytes) (s : State) : (s.deliver p b).port p =
    if p = 1 then { s.port 1 with out := (s.port 1).out ++ [padTo (canLength b.length) b] }
    else { s.port p with unread := (s.port p).unread ++ [b] } := by
  unfold State.deliver
  split
  next h => rw [h, sendCan_port, if_pos rfl]
  next => rw [setPort_port, if_pos rfl]

/-- What an answered request leaves of its port: the response kept, and on its way (R366, R388). -/
theorem answered_port (p seq : Nat) (resp : Bytes) (s : State) :
    (s.answered p seq resp).port p = ((s.setPort p { s.port p with kept := some (seq, resp) }).deliver p resp).port p := by
  unfold State.answered
  dsimp only
  split
  · exact port_of_ports_eq (refreshSync_ports _) p
  · rfl

/-- The response kept on Quoin, sent padded. -/
theorem answered_quoin (seq : Nat) (resp : Bytes) (s : State) : (s.answered 1 seq resp).port 1 =
    { s.port 1 with kept := some (seq, resp), out := (s.port 1).out ++ [padTo (canLength resp.length) resp] } := by
  rw [answered_port, deliver_port, if_pos rfl, setPort_port, if_pos rfl]

/-- The response kept on another port, waiting to be read. -/
theorem answered_unread (hp : p ≠ 1) (seq : Nat) (resp : Bytes) (s : State) : (s.answered p seq resp).port p =
    { s.port p with kept := some (seq, resp), unread := (s.port p).unread ++ [resp] } := by
  rw [answered_port, deliver_port, if_neg hp, setPort_port, if_pos rfl]

theorem answered_spares {k : Nat} (hseq : k ≠ obj 0x1020 p) (hsync : k ≠ 0x102007) : s.Spares k (s.answered p seq resp) := by
  have hrefresh {t : State} : t.Spares k t.refreshSync := by
    unfold State.refreshSync
    split
    · exact .refl
    · exact .issue hsync
  have hsent : s.Spares k ((s.setPort p { s.port p with kept := some (seq, resp) }).deliver p resp) :=
    .step (.keeps deliver_keeps) (.keeps setPort_keeps)
  unfold State.answered
  dsimp only
  split
  · exact .step hrefresh <| .step (.setNat hseq) <| .step (.keeps update_answeredPorts_keeps) hsent
  · exact hsent

theorem answerFrame_eq {kind : Nat} (hkind : matchedKind kind = true) : s.answerFrame p kind seq code key flags readNo data =
    s.answered p seq (s.response (kind + 0x80) seq code key flags readNo data) := if_pos hkind

/-! ### A read answered (R371, R372) -/

theorem firstCode_cons_eq_zero {c : Nat} {cs : List Nat} : firstCode (c :: cs) = 0 ↔ c = 0 ∧ firstCode cs = 0 := by
  rw [firstCode]
  split <;> simp_all

/-- A read that is permitted names a subindex of the dictionary, or the subindex 0 of one of its objects. -/
theorem sub_of_judgeRead {r : Requester} (hjudge : s.judgeRead r key = 0) (hrow : findRow key = none) : key % 256 = 0 := by
  obtain ⟨hearly, -⟩ := firstCode_cons_eq_zero.1 hjudge
  obtain ⟨-, hrest⟩ := firstCode_cons_eq_zero.1 hearly
  obtain ⟨hindex, -⟩ := firstCode_cons_eq_zero.1 hrest
  simp only [check2, hrow, refuseIf] at hindex
  grind

/-- A read that is permitted is answered with the bytes of the subindex, and counts as activity of the reader. -/
theorem readAs_readable {r : Requester} {limit : Nat} (h : s.Readable r key limit) (stale again : Bool) (beyond : Nat) :
    s.readAs r key stale again limit beyond = ({ s with answer := ⟨0, s.readBytes key, 0, false⟩ } : State).touch r := by
  obtain ⟨hjudge, hfifo, hready, hlimit⟩ := h
  have hun : s.unready key (match findRow key with | some row => row.acc | none => .ro) = false := by
    split
    next row hrow => simpa [hrow] using hready
    next hrow =>
      have hsub := sub_of_judgeRead hjudge hrow
      unfold State.unready
      grind
  unfold State.readAs
  extract_lets c acc un b
  have hun : un = false := hun
  rw [if_neg (by simp [c, hjudge]), hfifo, if_neg (by decide), hun, if_neg (by simp), if_neg (by simpa [b] using hlimit)]

/-- A read of a request frame that is permitted: its answer (R371, R372). -/
theorem frameRead_readable (h : s.Readable (portClass p) (frameKey f) (valueLimit p)) : s.frameRead p seq f =
    (({ s with answer := ⟨0, s.readBytes (frameKey f), 0, false⟩ } : State).touch (portClass p)).answerFrame p 1 seq 0 (frameKey f)
      (readFlags (frameKey f) (bitOf (nthD f 5 0) 1) false) 0 (s.readBytes (frameKey f)) := by
  unfold State.frameRead
  simp only [readAs_readable h, touch_answer, if_true]

end


end Sys2Proof.Machine
end

section
/-!
PROOFS. The two-wire port, the SPI port and DBG_ACCESS, clause by clause (R387 to R404, R428).
-/
namespace Sys2Proof.Machine

-- One proof after another keeps the memory of the whole text's compile low.
set_option Elab.async false

section
variable {s t u : State} {p seq i j flags n : Nat} {rest b data : Bytes} {rest' : List Bytes}

/-! ### A Read -/

theorem frameKey_eq (kind : Nat) (hi : i < 65536) : frameKey (kind :: seq :: (leNat 2 i ++ [j, flags] ++ rest)) = obj i j := by
  have hindex : i % 256 + 256 * (i / 256 % 256) = i := by omega
  simp [frameKey, fieldLe, sliceB, leNat, nthD, ofLe, hindex]

/-- A Read that is permitted is answered once, with the bytes of the subindex (R371, R372). -/
theorem handleFrame_read (hunkept : u.Unkept p seq) (hi : i < 65536) (hrest : 2 ≤ rest.length)
    (hread : u.Readable (portClass p) (obj i j) (valueLimit p)) : ∃ (v : State) (b : Bytes),
      u.handleFrame p (1 :: seq :: (leNat 2 i ++ [j, flags] ++ rest)) = v.answered p seq b ∧ v.ports = u.ports ∧
        b.take 4 = [0x81, seq, 0, 0] ∧ b.drop 16 = u.readBytes (obj i j) := by
  have hkey := frameKey_eq (seq := seq) (j := j) (flags := flags) (rest := rest) 1 hi
  have hserved := handleFrame_matched (f := 1 :: seq :: (leNat 2 i ++ [j, flags] ++ rest)) hunkept rfl
    (by simp only [List.length_cons, List.length_append, length_leNat, List.length_nil]; omega)
  have hanswer := frameRead_readable (seq := seq) (by rw [hkey]; exact hread)
  rw [answerFrame_eq rfl, hkey] at hanswer
  exact ⟨_, _, hserved.trans hanswer, touch_ports _ _, response_take _ (by decide) _, response_drop _ _⟩

/-- A permitted read stays one after a frame of the port is counted. -/
theorem readable_counted {k key least limit : Nat} {r : Requester} (h : s.Readable r key least) (hlo : 0x104000 ≤ k) (hhi : k < 0x107000)
    (hcount : s.Counted k u) (hkey : key ≠ k) (hlimit : least ≤ limit := by decide) : u.Readable r key limit := by
  obtain ⟨hjudge, hfifo, hready, hfits⟩ := h
  refine ⟨(judgeRead_counted hlo hhi hcount r key).trans hjudge, hfifo, ?_, ?_⟩
  · simpa only [unready_counted hlo hhi hcount hkey] using hready
  · rw [readBytes_counted hlo hhi hcount hkey]
    omega

/-! ### The two-wire port -/

/-- A request taken on the two-wire port, before it is acted on. -/
def State.twoWireTaken (s : State) : State := (s.clearOut 2).twoWireSeen.twoWireDone

theorem twoWireTaken_counted : s.Counted 0x105101 s.twoWireTaken :=
  (State.Counted.of_keeps setPort_keeps.mono).trans <| (State.Counted.of_keeps twoWireSeen_keeps.mono).trans <|
    State.Counted.bump.trans <| .of_keeps update_twoWire_keeps.mono

theorem twoWireTaken_port : s.twoWireTaken.port 2 = { s.port 2 with out := [] } :=
  (setPort_port 2 _ s 2).trans (if_pos rfl)

theorem portBusy_twoWireSeen : (s.clearOut 2).twoWireSeen.portBusy 2 = s.portBusy 2 := by
  have hport : (s.clearOut 2).twoWireSeen.port 2 = { s.port 2 with out := [] } := (setPort_port 2 _ s 2).trans (if_pos rfl)
  unfold State.portBusy
  rw [hport]
  rfl

theorem exec_twoWireRequest {pec : Option Nat} (hdata : data.length ≠ 0) (hlen : data.length ≤ 255) (hacks : s.twoWireAcks = true)
    (hbusy : s.portBusy 2 = false) (hpec : (pec = none ∧ s.nat 0x105002 ≠ 1) ∨ pec = some (s.requestPec data.length data)) :
    exec (.twoWireRequest data.length data pec) s = .next (s.twoWireTaken.handleFrame 2 data) := by
  show execTwoWireRequest data.length data pec s = _
  unfold execTwoWireRequest
  dsimp only
  rw [if_neg (by simp [hacks]), portBusy_twoWireSeen, if_neg (by simp [hbusy]), if_neg (by omega), if_neg]
  · rfl
  · rcases hpec with ⟨rfl, hmode⟩ | rfl
    · show ¬(s.nat 0x105002 == 1) = true
      simpa using hmode
    · show ¬(s.requestPec data.length data != s.requestPec data.length data) = true
      simp

theorem twoWireRequest_gives {pec : Option Nat} (hdata : data = [1, seq] ++ leNat 2 i ++ [j, flags] ++ rest) (hi : i < 65536)
    (hlo : 2 ≤ rest.length) (hhi : rest.length ≤ 249)
    (hpec : (pec = none ∧ s.nat 0x105002 ≠ 1) ∨ pec = some (s.requestPec data.length data)) (hacks : s.twoWireAcks = true)
    (hbusy : s.portBusy 2 = false) (hunkept : s.Unkept 2 seq) (hread : s.Readable .twoWire (obj i j) 48) (hkey : obj i j ≠ 0x105101) :
    Gives (.twoWireRequest data.length data pec) s fun t => ∃ b, (t.port 2).kept = some (seq, b) ∧
      (t.port 2).unread = (s.port 2).unread ++ [b] ∧ b.take 4 = [0x81, seq, 0, 0] ∧ b.drop 16 = s.readBytes (obj i j) := by
  have hcount : s.Counted 0x105101 s.twoWireTaken := twoWireTaken_counted
  have hlength : data.length = 6 + rest.length := by
    subst hdata
    simp only [List.length_append, List.length_cons, List.length_nil, length_leNat]
  obtain ⟨v, b, hhandled, hports, htake, hdrop⟩ := handleFrame_read (p := 2) (flags := flags) (u := s.twoWireTaken)
    (by rw [State.Unkept, twoWireTaken_port]; exact hunkept) hi hlo (readable_counted hread (by decide) (by decide) hcount hkey)
  refine gives_next (exec_twoWireRequest (by omega) (by omega) hacks hbusy hpec) ?_
  rw [hdata]
  have hport := port_of_ports_eq hports 2
  rw [twoWireTaken_port] at hport
  refine ⟨b, ?_, ?_, htake, hdrop.trans (readBytes_counted (by decide) (by decide) hcount hkey)⟩
  · exact (congrArg (fun t => (State.port t 2).kept) hhandled).trans (answered_kept ..)
  · exact (congrArg (fun t => (State.port t 2).unread) hhandled).trans (by rw [answered_unread (by decide), hport])

theorem blockForm_cons (hb : b ≠ []) : blockForm b = b.length :: b := by rw [blockForm_eq, if_neg hb]

/-- A Block Read clocked whole, with its PEC: the item out, and then what the command takes (R391, R392). -/
theorem blockRead_whole (hacks : s.twoWireAcks = true) (hmode : s.mode ≠ .parked) (command : Nat) (item : Bytes) (take : State → State) :
    s.blockRead command item take true true = (take (s.blockSent command item true).twoWireDone).twoWireSettle := by
  rw [blockRead_eq, if_neg (by simp [hacks]), if_neg hmode, State.blockEnd, if_pos (.inr rfl)]
  rfl

theorem blockDone_keepsItems (command : Nat) (item : Bytes) (s : State) :
    s.KeepsItems 2 (s.blockSent command item true).twoWireDone :=
  (blockSent_keepsItems command item true s).trans (twoWireDone_keepsItems 2 _)

theorem blockDone_out (command : Nat) (item : Bytes) (s : State) : ((s.blockSent command item true).twoWireDone.port 2).out =
    [blockForm item ++ crc8 ([2 * s.nat 0x105001, command, 2 * s.nat 0x105001 + 1] ++ blockForm item)] := blockSent_out ..

theorem consumeResponse_port (h : (s.port p).unread = b :: rest') :
    (s.consumeResponse p).port p = { s.port p with unread := rest', lastItem := b } := by
  unfold State.consumeResponse
  simp only [h]
  exact (setPort_port ..).trans (if_pos rfl)

theorem twoWireResponse_gives (hacks : s.twoWireAcks = true) (hmode : s.mode ≠ .parked) (hunread : (s.port 2).unread = b :: rest')
    (hb : b ≠ []) : Gives (.twoWireResponse true true) s fun t => (t.port 2).out = [b.length :: b ++
      crc8 ([2 * s.nat 0x105001, 0x11, 2 * s.nat 0x105001 + 1] ++ b.length :: b)] ∧ (t.port 2).unread = rest' ∧
        (t.port 2).lastItem = b := by
  have hnext := (exec_twoWireResponse true true s).trans (congrArg Host.Outcome.next (blockRead_whole hacks hmode ..))
  refine gives_next hnext ?_
  have hport := consumeResponse_port ((blockDone_keepsItems 0x11 ((s.port 2).unread.head?.getD []) s).unread.trans hunread)
  refine ⟨(congrArg Port.out hport).trans ?_, congrArg Port.unread hport, congrArg Port.lastItem hport⟩
  exact (blockDone_out ..).trans (by rw [hunread, List.head?_cons, Option.getD_some, blockForm_cons hb])

theorem drop_min (q : List Event) (n : Nat) : q.drop (min n q.length) = q.drop n := by
  rcases Nat.le_total n q.length with h | h
  · rw [Nat.min_eq_left h]
  · rw [Nat.min_eq_right h, List.drop_length, List.drop_eq_nil_of_le h]

/-- The events that a port consumes leave its queue, and their block is kept for a repeat (R389, R391). -/
theorem consumeEvents_port (p n : Nat) (s : State) :
    (s.consumeEvents p n).port p = { s.port p with lastEvents := eventBlock n (s.portEvents p) } := by
  have hports (m : Nat) (t : State) : (t.dropEvents p m).ports = t.ports := by
    unfold State.dropEvents
    split <;> rfl
  exact (port_of_ports_eq (hports _ _) p).trans ((setPort_port ..).trans (if_pos rfl))

theorem twoWireEvents_gives (hacks : s.twoWireAcks = true) (hmode : s.mode ≠ .parked) : Gives (.twoWireEvents true true) s fun t =>
    t.events.twoWireQ = s.events.twoWireQ.drop 7 ∧ (t.port 2).lastEvents = eventBlock 7 s.events.twoWireQ := by
  have hnext := (exec_twoWireEvents true true s).trans (congrArg Host.Outcome.next (blockRead_whole hacks hmode ..))
  refine gives_next hnext ⟨?_, ?_⟩
  · exact drop_min s.events.twoWireQ 7
  · exact congrArg Port.lastEvents (consumeEvents_port 2 7 (s.blockSent 0x12 (eventBlock 7 s.events.twoWireQ) true).twoWireDone)

theorem twoWireResponseRepeat_gives (hacks : s.twoWireAcks = true) (hmode : s.mode ≠ .parked) (hitem : (s.port 2).lastItem = b)
    (hb : b ≠ []) : Gives (.twoWireResponseRepeat true) s fun t => (t.port 2).out = [b.length :: b ++
      crc8 ([2 * s.nat 0x105001, 0x13, 2 * s.nat 0x105001 + 1] ++ b.length :: b)] ∧ (t.port 2).unread = (s.port 2).unread := by
  subst hitem
  refine gives_next (exec_twoWireResponseRepeat true s) ⟨?_, (blockRead_keepsItems (.inr (.refl 2)) ..).unread⟩
  rw [blockRead_repeat_out hacks hmode, blockForm_cons hb]

theorem twoWireEventsRepeat_gives (hacks : s.twoWireAcks = true) (hmode : s.mode ≠ .parked) (hitem : (s.port 2).lastEvents = b)
    (hb : b ≠ []) : Gives (.twoWireEventsRepeat true) s fun t => (t.port 2).out = [b.length :: b ++
      crc8 ([2 * s.nat 0x105001, 0x14, 2 * s.nat 0x105001 + 1] ++ b.length :: b)] ∧ t.events = s.events := by
  subst hitem
  refine gives_next (exec_twoWireEventsRepeat true s) ⟨?_, (blockRead_keepsItems (.inr (.refl 2)) ..).events⟩
  rw [blockRead_repeat_out hacks hmode, blockForm_cons hb]

theorem twoWireStatus_gives (hacks : s.twoWireAcks = true) : Gives .twoWireStatus s fun t =>
    (t.port 2).out = [[s.portStatus 2]] ∧ (t.port 2).error = false ∧ (t.port 2).reset = false := by
  refine gives_next (congrArg Host.Outcome.next (if_neg (by simp [hacks]))) ?_
  simp [State.clearStatus, State.sendOut]

theorem sclTimeout_gives (hup : s.twoWireUp = true) : Gives .sclTimeout s fun t => t.nat 0x105106 = satAdd 32 (s.nat 0x105106) 1 := by
  refine gives_next (congrArg Host.Outcome.next (if_pos hup)) ?_
  rw [State.busErrorEvent, raise_nat _ _ _ _ _ _ (by decide), bump_nat, if_pos rfl]
  rfl

theorem busError_gives (hup : s.twoWireUp = true) : Gives (.busError 0) s fun t =>
    (t.port 2).error = true ∧ t.nat 0x105103 = satAdd 32 (s.nat 0x105103) 1 := by
  refine gives_next (congrArg Host.Outcome.next ((if_neg (by simp [hup])).trans (if_pos rfl))) ?_
  rw [State.frameError, if_neg (by decide), setPort_port, if_pos rfl, setPort_nat, bump_nat, if_pos rfl]
  exact ⟨rfl, rfl⟩

theorem busError_counts {c : Nat} (hup : s.twoWireUp = true) (hc : c ≠ 0) : Gives (.busError c) s fun t =>
    t.nat 0x105105 = satAdd 32 (s.nat 0x105105) 1 := by
  refine gives_next (congrArg Host.Outcome.next ((if_neg (by simp [hup])).trans (if_neg hc))) ?_
  rw [State.busErrorEvent, raise_nat _ _ _ _ _ _ (by decide), bump_nat, if_pos rfl]
  rfl

/-! ### The target's sleep, and Host Notify -/

theorem targetWake_watch (hready : s.ready = true) (hasleep : s.twoWire.asleep = true) (hmode : s.mode = .watch) :
    Gives .targetWake s fun t => t.twoWire.asleep = false ∧ t.twoWire.wokenAt = some s.wall := by
  refine gives_next (congrArg Host.Outcome.next (if_pos ⟨hready, hasleep, .inl hmode⟩)) ?_
  dsimp only
  split
  · rw [wake_keeps.same .twoWire (by decide)]
    exact ⟨rfl, rfl⟩
  · exact ⟨rfl, rfl⟩

theorem targetWake_parked (hready : s.ready = true) (hasleep : s.twoWire.asleep = true) (hmode : s.mode = .parked)
    (hsource : bitOf (s.nat 0x760007) 2 = true) (hwaking : s.power.waking = none) :
    Gives .targetWake s fun t => t.twoWire.asleep = false ∧ t.power.waking = some 2 := by
  have hwakes (t : State) (hmode : t.mode = .parked) (hwaking : t.power.waking = none) : (t.wake 2).power.waking = some 2 := by
    unfold State.wake State.wakeParked
    rw [if_pos hmode, if_neg (by simp [hwaking])]
    rfl
  refine gives_next (congrArg Host.Outcome.next ((if_pos ⟨hready, hasleep, .inr hmode⟩).trans (if_pos hsource))) ?_
  exact ⟨congrArg TwoWire.asleep (wake_keeps.same .twoWire (by decide)), hwakes _ hmode hwaking⟩

theorem targetWakeIdle_gives (hmode : s.mode = .watch) (hawake : s.twoWire.asleep = false)
    (hidle : s.twoWire.lastAt + s.nat 0x105006 * msTicks ≤ s.gnomon) : Gives .targetWakeIdle s fun t => t.twoWire.asleep = true :=
  gives_next (congrArg Host.Outcome.next (if_pos ⟨hmode, by simp [hawake], hidle⟩)) rfl

theorem hostNotify_gives (hdue : s.notifyDue = true) : Gives (.hostNotify true) s fun t => (t.port 2).out =
      [[2 * s.nat 0x105004, 2 * s.nat 0x105001, s.portStatus 2, s.nat 0x980006 % 256]] ∧
    t.nat 0x105108 = satAdd 32 (s.nat 0x105108) 1 ∧ t.twoWire.since = s.gnomon := by
  refine gives_next (congrArg Host.Outcome.next (if_neg (by simp [hdue]))) ⟨?_, ?_, rfl⟩
  · exact congrArg Port.out ((setPort_port 2 _ s 2).trans (if_pos rfl))
  · exact (bump_nat ..).trans (if_pos rfl)

theorem arbitrationLost_gives {a : Bool} (hdue : s.notifyDue = true) : Gives (.arbitrationLost a) s fun t =>
    t.nat 0x105107 = satAdd 32 (s.nat 0x105107) 1 ∧ (t.port 2).out = [] := by
  have hcount : ((s.clearOut 2).bump 0x105107).nat 0x105107 = satAdd 32 (s.nat 0x105107) 1 := (bump_nat ..).trans (if_pos rfl)
  have hout : (((s.clearOut 2).bump 0x105107).port 2).out = [] := congrArg Port.out ((setPort_port 2 _ s 2).trans (if_pos rfl))
  refine gives_next (congrArg Host.Outcome.next (if_neg (by simp [hdue]))) ?_
  cases a with
  | true => exact ⟨hcount, hout⟩
  | false => exact ⟨hcount, hout⟩

/-! ### The SPI port -/

theorem spiTaken_counted : s.Counted 0x106101 s.spiTaken :=
  (State.Counted.of_keeps setPort_keeps.mono).trans <| (State.Counted.of_keeps setPort_keeps.mono).trans .bump

theorem spiTaken_port : s.spiTaken.port 3 = { s.port 3 with out := [[s.portStatus 3]], error := false, reset := false } := by
  refine (setPort_port 3 _ (s.sendOut 3 [[s.portStatus 3]]) 3).trans ((if_pos rfl).trans ?_)
  rw [State.sendOut, setPort_port, if_pos rfl]

theorem spiPort_taken (hpowered : s.spiPowered = true) (hready : s.portReady = true) (operation quad length check : Nat) (rest : Bytes)
    (taken : Bool) : s.spiPort operation quad length check rest taken =
      s.spiTaken.spiOperation 3 (16 * quad + operation) length check rest taken := by
  rw [spiPort_eq, if_neg (by simp [hpowered]), if_pos hready]

theorem spiOperation_request {command : Nat} (hop : command % 16 = 1) (p length check : Nat) (rest : Bytes) (taken : Bool) (s : State) :
    s.spiOperation p command length check rest taken = s.spiRequest p (headerGood command length check) length rest := by
  simp only [State.spiOperation, hop]

theorem spiOperation_response {command : Nat} (hop : command % 16 = 2) (p length check : Nat) (rest : Bytes) (taken : Bool) (s : State) :
    s.spiOperation p command length check rest taken =
      s.spiRead p (headerGood command length check) length ((s.port p).unread.head?.getD []) (State.consumeResponse p) taken := by
  simp only [State.spiOperation, hop]

theorem spiOperation_events {command : Nat} (hop : command % 16 = 3) (p length check : Nat) (rest : Bytes) (taken : Bool) (s : State) :
    s.spiOperation p command length check rest taken = s.spiRead p (headerGood command length check) length
      (eventBlock (spiEvents length) (s.portEvents p)) (State.consumeEvents p (spiEvents length)) taken := by
  simp only [State.spiOperation, hop]

/-- A REQUEST with a good header, its payload and the payload's check byte, at a port with room, is a request frame (R402). -/
theorem spiRequest_taken (hlo : 1 ≤ data.length) (hhi : data.length ≤ 1028) (hroom : (s.port p).responses < 8) :
    s.spiRequest p true data.length (data ++ crc8 data) = s.handleFrame p data := by
  have htake : (data ++ crc8 data).take data.length = data := List.take_left
  have hdrop : (data ++ crc8 data).drop data.length = crc8 data := List.drop_left
  have hlength : (data ++ crc8 data).length = data.length + 1 := List.length_append
  unfold State.spiRequest
  dsimp only
  rw [htake, hdrop, if_neg, if_neg (by simp), if_neg (by simpa using hroom)]
  simp only [hlength, Bool.not_true, Bool.false_or, bne_self_eq_false, Bool.or_false, Bool.or_eq_true, decide_eq_true_eq]
  omega

theorem spiRequest_gives {quad : Nat} (hdata : data = [1, seq] ++ leNat 2 i ++ [j, flags] ++ rest) (hquad : quad ≤ 1) (hi : i < 65536)
    (hlo : 2 ≤ rest.length) (hhi : rest.length ≤ 1022) (hpowered : s.spiPowered = true) (hready : s.portReady = true)
    (hroom : (s.port 3).responses < 8) (hunkept : s.Unkept 3 seq) (hread : s.Readable .spi (obj i j) 224) (hkey : obj i j ≠ 0x106101) :
    Gives (.spiRequest quad data.length (crcOf 2 ((16 * quad + 1) :: leNat 2 data.length)) (data ++ crc8 data)) s fun t =>
      ∃ b, (t.port 3).kept = some (seq, b) ∧ (t.port 3).unread = (s.port 3).unread ++ [b] ∧
        (t.port 3).out = [[s.portStatus 3]] ∧ b.take 4 = [0x81, seq, 0, 0] ∧ b.drop 16 = s.readBytes (obj i j) := by
  have hcount : s.Counted 0x106101 s.spiTaken := spiTaken_counted
  have hlength : data.length = 6 + rest.length := by
    subst hdata
    simp only [List.length_append, List.length_cons, List.length_nil, length_leNat]
  obtain ⟨v, b, hhandled, hports, htake, hdrop⟩ := handleFrame_read (p := 3) (flags := flags) (u := s.spiTaken)
    (by rw [State.Unkept, spiTaken_port]; exact hunkept) hi hlo (readable_counted hread (by decide) (by decide) hcount hkey)
  have hport := port_of_ports_eq hports 3
  rw [spiTaken_port] at hport
  refine gives_next (congrArg Host.Outcome.next (spiPort_taken hpowered hready ..)) ?_
  rw [spiOperation_request (by omega), headerGood_of_check (by omega),
    spiRequest_taken (by omega) (by omega) (by rw [spiTaken_port]; exact hroom), hdata]
  refine ⟨b, ?_, ?_, ?_, htake, hdrop.trans (readBytes_counted (by decide) (by decide) hcount hkey)⟩
  · exact (congrArg (fun t => (State.port t 3).kept) hhandled).trans (answered_kept ..)
  · exact (congrArg (fun t => (State.port t 3).unread) hhandled).trans (by rw [answered_unread (by decide), hport])
  · exact (congrArg (fun t => (State.port t 3).out) hhandled).trans (by rw [answered_unread (by decide), hport])

/-- The item of a read of R403 with its count and check byte. -/
def countedItem (item : Bytes) : Bytes := leNat 2 item.length ++ item ++ crc8 (leNat 2 item.length ++ item)

/-- A read whose item fits the length that the host clocks sends it whole, and does what its operation takes (R403). -/
theorem spiRead_whole {item : Bytes} (hfits : item.length ≤ n) (hn : n ≤ 1028) (p : Nat) (take : State → State) (s : State) :
    s.spiRead p true n item take true = take (s.spiOut p (countedItem item)) := by
  unfold State.spiRead
  dsimp only
  rw [if_neg (by simp; omega), if_pos hfits, if_pos (by simpa using hfits)]
  rfl

theorem spiOut_port (p : Nat) (b : Bytes) (s : State) : (s.spiOut p b).port p = { s.port p with out := (s.port p).out ++ [b] } :=
  (setPort_port ..).trans (if_pos rfl)

/-- A RESPONSE read that the host clocks whole (R403). -/
theorem spiOperation_response_port {command : Nat} (hop : command % 16 = 2) (hcommand : command < 32)
    (hunread : (s.port p).unread = b :: rest') (hfits : b.length ≤ n) (hn : n ≤ 1028) :
    (s.spiOperation p command n (crcOf 2 (command :: leNat 2 n)) data true).port p =
      { s.port p with unread := rest', lastItem := b, out := (s.port p).out ++ [countedItem b] } := by
  rw [spiOperation_response hop, headerGood_of_check hcommand, hunread, List.head?_cons, Option.getD_some, spiRead_whole hfits hn,
    consumeResponse_port (b := b) (rest' := rest') (by rw [spiOut_port]; exact hunread), spiOut_port]

theorem spiResponse_gives {quad : Nat} (hquad : quad ≤ 1) (hpowered : s.spiPowered = true) (hready : s.portReady = true)
    (hunread : (s.port 3).unread = b :: rest') (hfits : b.length ≤ n) (hn : n ≤ 1028) :
    Gives (.spiResponse quad n (crcOf 2 ((16 * quad + 2) :: leNat 2 n)) true) s fun t =>
      (t.port 3).unread = rest' ∧ (t.port 3).lastItem = b ∧
      (t.port 3).out = [[s.portStatus 3], leNat 2 b.length ++ b ++ crc8 (leNat 2 b.length ++ b)] := by
  refine gives_next ((exec_spiResponse ..).trans (congrArg Host.Outcome.next (spiPort_taken hpowered hready ..))) ?_
  rw [spiOperation_response_port (b := b) (rest' := rest') (by omega) (by omega) (by rw [spiTaken_port]; exact hunread) hfits hn,
    spiTaken_port]
  exact ⟨rfl, rfl, rfl⟩

theorem spiEvents_gives {quad : Nat} (hquad : quad ≤ 1) (hpowered : s.spiPowered = true) (hready : s.portReady = true)
    (hblock : eventBlock (spiEvents n) s.events.spiQ = b) (hfits : b.length ≤ n) (hn : n ≤ 1028) :
    Gives (.spiEvents quad n (crcOf 2 ((16 * quad + 3) :: leNat 2 n)) true) s fun t =>
      (t.port 3).lastEvents = b ∧ t.events.spiQ = s.events.spiQ.drop (nthD b 0 0) ∧
      (t.port 3).out = [[s.portStatus 3], leNat 2 b.length ++ b ++ crc8 (leNat 2 b.length ++ b)] := by
  subst hblock
  refine gives_next ((exec_spiEvents ..).trans (congrArg Host.Outcome.next (spiPort_taken hpowered hready ..))) ?_
  have hevents : s.spiTaken.portEvents 3 = s.events.spiQ := rfl
  rw [spiOperation_events (by omega), headerGood_of_check (by omega), hevents, spiRead_whole hfits hn, consumeEvents_port, spiOut_port,
    spiTaken_port]
  exact ⟨rfl, rfl, rfl⟩

theorem spiResponseRepeat_gives {quad : Nat} (hquad : quad ≤ 1) (hpowered : s.spiPowered = true) (hready : s.portReady = true)
    (hitem : (s.port 3).lastItem = b) (hfits : b.length ≤ n) (hn : n ≤ 1028) :
    Gives (.spiResponseRepeat quad n (crcOf 2 ((16 * quad + 4) :: leNat 2 n))) s fun t =>
      (t.port 3).unread = (s.port 3).unread ∧
      (t.port 3).out = [[s.portStatus 3], leNat 2 b.length ++ b ++ crc8 (leNat 2 b.length ++ b)] := by
  subst hitem
  exact gives_next (exec_spiResponseRepeat ..) ⟨(spiPort_keepsItems (by decide) (.inr (by decide)) ..).unread,
    spiPort_responseRepeat_out hquad hpowered hready hn hfits⟩

theorem spiEventsRepeat_gives {quad : Nat} (hquad : quad ≤ 1) (hpowered : s.spiPowered = true) (hready : s.portReady = true)
    (hitem : (s.port 3).lastEvents = b) (hfits : b.length ≤ n) (hn : n ≤ 1028) :
    Gives (.spiEventsRepeat quad n (crcOf 2 ((16 * quad + 5) :: leNat 2 n))) s fun t => t.events = s.events ∧
      (t.port 3).out = [[s.portStatus 3], leNat 2 b.length ++ b ++ crc8 (leNat 2 b.length ++ b)] := by
  subst hitem
  exact gives_next (exec_spiEventsRepeat ..) ⟨(spiPort_keepsItems (by decide) (.inr (by decide)) ..).events,
    spiPort_eventsRepeat_out hquad hpowered hready hn hfits⟩

theorem spiByte0_port (p : Nat) (s : State) :
    (s.spiByte0 p).port p = { s.port p with out := [[s.portStatus p]], error := false, reset := false } := by
  refine (setPort_port p _ (s.sendOut p [[s.portStatus p]]) p).trans ((if_pos rfl).trans ?_)
  rw [State.sendOut, setPort_port, if_pos rfl]

theorem statusPoll_gives (hpowered : s.spiPowered = true) : Gives .statusPoll s fun t =>
    (t.port 3).out = [[s.portStatus 3]] ∧ (t.port 3).error = false ∧ (t.port 3).reset = false := by
  refine gives_next (congrArg Host.Outcome.next (if_pos hpowered)) ?_
  rw [spiByte0_port]
  exact ⟨rfl, rfl, rfl⟩

theorem spiRequest_badHeader {c : Nat} (hpowered : s.spiPowered = true) (hready : s.portReady = true)
    (hbad : headerGood (16 * flags + 1) n c = false) : Gives (.spiRequest flags n c data) s fun t => (t.port 3).error = true ∧
      (t.port 3).unread = (s.port 3).unread ∧ t.nat 0x106103 = satAdd 32 (s.nat 0x106103) 1 := by
  refine gives_next (congrArg Host.Outcome.next (spiPort_taken hpowered hready ..)) ?_
  rw [spiOperation_request (by omega), hbad]
  have hdropped : s.spiTaken.spiRequest 3 false n data = s.spiTaken.frameError 3 0x106103 := by
    unfold State.spiRequest
    exact if_pos (by simp)
  rw [hdropped, State.frameError, if_neg (by decide), setPort_port, if_pos rfl, setPort_nat, bump_nat, if_pos rfl,
    spiTaken_counted.nat (by decide)]
  exact ⟨rfl, (spiTaken_keepsItems s).unread, rfl⟩

/-! ### DBG_ACCESS -/

theorem exec_dbgAccess {command : Nat} (hserves : s.tapServes = true) (hlevel : s.debugLevel ≠ 0) (c : Nat) (taken : Bool) :
    exec (.dbgAccess command n c data taken) s = .next (if command = 0 then (s.tap 0x23 []).spiByte0 4
      else (s.tap 0x23 []).spiFrame 4 (State.spiOperation 4 command n c data taken)) :=
  congrArg Host.Outcome.next (if_neg (by simp [hserves, hlevel]))

theorem tap_port (out : List Bytes) (c : Nat) (s : State) : (s.tap c out).port 4 = { s.port 4 with out := out } :=
  (setPort_port 4 _ s 4).trans (if_pos rfl)

theorem tap_status (out : List Bytes) (c : Nat) (s : State) : (s.tap c out).portStatus 4 = s.portStatus 4 := by
  have hbusy : (s.tap c out).portBusy 4 = s.portBusy 4 := by
    unfold State.portBusy
    rw [tap_port]
    rfl
  unfold State.portStatus
  rw [hbusy, tap_port]
  rfl

theorem dbgAccess_status {c : Nat} {k : Bool} (hserves : s.tapServes = true) (hlevel : s.debugLevel ≠ 0) :
    Gives (.dbgAccess 0 n c data k) s fun t => t.sec.tap = 0x23 ∧ (t.port 4).out = [[s.portStatus 4]] := by
  refine gives_next ((exec_dbgAccess hserves hlevel c k).trans (congrArg Host.Outcome.next (if_pos rfl))) ⟨rfl, ?_⟩
  rw [spiByte0_port, tap_status]

theorem dbgAccess_response {quad : Nat} (hquad : quad ≤ 1) (hserves : s.tapServes = true) (hlevel : s.debugLevel ≠ 0)
    (hunread : (s.port 4).unread = b :: rest') (hfits : b.length ≤ n) (hn : n ≤ 1028) :
    Gives (.dbgAccess (16 * quad + 2) n (crcOf 2 ((16 * quad + 2) :: leNat 2 n)) data true) s fun t => (t.port 4).unread = rest' ∧
      (t.port 4).out = [[s.portStatus 4], leNat 2 b.length ++ b ++ crc8 (leNat 2 b.length ++ b)] := by
  have hframe (act : State → State) : (s.tap 0x23 []).spiFrame 4 act = act ((s.tap 0x23 []).spiByte0 4) := by
    unfold State.spiFrame
    dsimp only
    rw [if_pos (by simp)]
    rfl
  have hport := (spiByte0_port 4 (s.tap 0x23 [])).trans (by rw [tap_status, tap_port])
  refine gives_next ((exec_dbgAccess hserves hlevel _ true).trans (congrArg Host.Outcome.next (if_neg (by omega)))) ?_
  rw [hframe, spiOperation_response_port (b := b) (rest' := rest') (by omega) (by omega) (by rw [hport]; exact hunread) hfits hn, hport]
  exact ⟨rfl, rfl⟩

end

/-- Settles O27, clause by clause. -/
theorem hostPortsComplete : Obligations.HostPortsComplete := by
  unfold Obligations.HostPortsComplete
  exact ⟨fun _ _ _ _ _ _ _ _ hdata _ hi _ hlo hhi => twoWireRequest_gives hdata hi hlo hhi, fun _ _ _ => twoWireResponse_gives,
    fun _ => twoWireEvents_gives, fun _ _ => twoWireResponseRepeat_gives, fun _ _ => twoWireEventsRepeat_gives,
    fun _ => twoWireStatus_gives, fun _ => sclTimeout_gives, fun _ => busError_gives, fun _ _ => busError_counts,
    fun _ => targetWake_watch, fun _ => targetWake_parked, fun _ => targetWakeIdle_gives, fun _ => hostNotify_gives,
    fun _ _ => arbitrationLost_gives,
    fun _ _ _ _ _ _ _ _ hdata hquad _ hi _ hlo hhi => spiRequest_gives hdata hquad hi hlo hhi,
    fun _ _ _ _ _ => spiResponse_gives, fun _ _ _ _ => spiEvents_gives, fun _ _ _ _ => spiResponseRepeat_gives,
    fun _ _ _ _ => spiEventsRepeat_gives, fun _ => statusPoll_gives, fun _ _ _ _ _ => dbgAccess_status,
    fun _ _ _ _ _ _ => dbgAccess_response, fun _ _ _ _ _ => spiRequest_badHeader⟩

end Sys2Proof.Machine
end

section
/-!
PROOFS. Request frames on Quoin, their segmented transfers, event frames, sleep and bus-off, and a node's service request (R320, R366 to
R386).
-/
namespace Sys2Proof.Machine

-- One proof after another keeps the memory of the whole text's compile low.
set_option Elab.async false

section
variable {s t u : State} {r : Requester} {seq i j flags n k : Nat} {rest data body b : Bytes} {tr : Transfer} {row : Row}

/-! ### Writes judged once a frame is counted -/

/-- Two states judge writes alike: the mode and what the checks 1 to 9 of R349 read agree. -/
structure State.JudgesAs (s t : State) : Prop where
  mode : t.mode = s.mode
  ready : t.ready = s.ready
  otp : t.otp = s.otp
  engines : t.engines = s.engines
  committed : t.committed = s.committed
  nat : ∀ j, j ∉ eventKeys → j < 0x103005 ∨ 0x107000 ≤ j → t.nat j = s.nat j

theorem State.Counted.judgesAs (hlo : 0x104000 ≤ k) (hhi : k < 0x107000) (h : s.Counted k t) : s.JudgesAs t where
  mode := h.keeps.same .mode (by decide)
  ready := h.keeps.same .ready (by decide)
  otp := h.keeps.same .otp (by decide)
  engines := h.keeps.same .engines (by decide)
  committed := h.keeps.same .committed (by decide)
  nat _ _ hj := h.nat (by omega)

theorem autoTake_holder (r : Requester) (key : Nat) (s : State) : (s.autoTake r key).nat 0x103001 =
    if s.ready && isHost r && key != 0x103002 && s.nat 0x103001 == 0 && s.nat 0x103004 == 1 then portNo r else s.nat 0x103001 := by
  unfold State.autoTake
  split
  · exact moveToken_holder ..
  · rfl

theorem autoTake_other {j : Nat} (r : Requester) (key : Nat) (s : State) (hevent : j ∉ eventKeys) (hholder : j ≠ 0x103001)
    (hsince : j ≠ 0x103005) : (s.autoTake r key).nat j = s.nat j := by
  unfold State.autoTake State.moveToken
  dsimp only
  split_ifs
  · rfl
  · rw [raise_nat _ _ _ _ _ _ hevent, setNat_nat, if_neg hsince, setNat_nat, if_neg hholder]
  · rfl

namespace State.JudgesAs

theorem autoTake (h : s.JudgesAs t) (r : Requester) (key : Nat) : (s.autoTake r key).JudgesAs (t.autoTake r key) where
  mode := by simp only [autoTake_mode, h.mode]
  ready := by simp only [autoTake_ready, h.ready]
  otp := by simp only [autoTake_otp, h.otp]
  engines := by simp only [autoTake_engines, h.engines]
  committed := by simp only [autoTake_committed, h.committed]
  nat j hevent hj := by
    by_cases hholder : j = 0x103001
    · subst hholder
      rw [autoTake_holder, autoTake_holder, h.ready, h.nat 0x103001 (by decide) (by decide), h.nat 0x103004 (by decide) (by decide)]
    · rw [autoTake_other r key t hevent hholder (by omega), autoTake_other r key s hevent hholder (by omega), h.nat j hevent hj]

theorem lifecycle (h : s.JudgesAs t) : t.lifecycle = s.lifecycle := congrArg Otp.lifecycle h.otp

theorem classRight (h : s.JudgesAs t) (r : Requester) (key : Nat) (write : Bool) : t.classRight r key write = s.classRight r key write := by
  have hright {i : Nat} (hi : i < 32) : t.nat (obj 0x8200 (i + 1)) = s.nat (obj 0x8200 (i + 1)) :=
    h.nat _ (notMem_eventKeys (by simp only [obj_eq]; omega) (by simp only [obj_eq]; omega) (by simp only [obj_eq]; omega))
      (by simp only [obj_eq]; omega)
  have hgranted (bit : Nat) : t.granted key bit = s.granted key bit := by
    unfold State.granted
    rw [Bool.eq_iff_iff, List.any_eq_true, List.any_eq_true]
    exact exists_congr fun i => and_congr_right fun hi => by rw [hright (List.mem_range.1 hi)]
  have hlevel : t.debugLevel = s.debugLevel := h.nat 0x830001 (by decide) (by decide)
  unfold State.classRight
  simp only [hgranted, hlevel]

theorem imageCheck (h : s.JudgesAs t) (idx : Nat) : t.imageCheck idx = s.imageCheck idx := by
  have hback {e : Nat} (he : e < 16) : t.dabBack e = s.dabBack e := by
    have hparent : t.parent (0x200 + e) = s.parent (0x200 + e) := by
      unfold State.parent desc
      exact h.nat _ (notMem_eventKeys (by simp only [obj_eq]; omega) (by simp only [obj_eq]; omega) (by simp only [obj_eq]; omega))
        (by simp only [obj_eq]; omega)
    have hmembers (c : Nat) : t.dabMembers c = s.dabMembers c := by
      have hcnat (k : Nat) : t.cnat k = s.cnat k := cnat_of_committed h.committed k
      unfold State.dabMembers State.members
      simp only [hcnat]
    unfold State.dabBack
    rw [hparent, hmembers]
  have hloaded (e image : Nat) : t.loadedWith e image = s.loadedWith e image := by
    unfold State.loadedWith State.engine
    rw [h.engines]
  unfold State.imageCheck
  simp only [hback (Nat.mod_lt idx (by decide : 0 < 16)), hloaded]

theorem judgeLength (h : s.JudgesAs t) (r : Requester) (key len : Nat) : t.judgeLength r key len = s.judgeLength r key len := by
  have hcheck1 : t.check1 = s.check1 := by
    unfold State.check1
    rw [h.ready, h.mode]
  have hcheck4 : t.check4 r key = s.check4 r key := by
    unfold State.check4
    rw [h.lifecycle]
  have hcheck5 : t.check5 key = s.check5 key := by
    unfold State.check5 State.debugLevel
    rw [h.lifecycle, h.mode, h.nat 0x830001 (by decide) (by decide)]
  have hcheck6 (acc : Acc) : t.check6 key true acc = s.check6 key true acc := by
    unfold State.check6
    rw [h.mode]
  have hcheck8 : t.check8 r key = s.check8 r key := by
    unfold State.check8
    rw [h.nat 0x103001 (by decide) (by decide)]
  unfold State.judgeLength
  simp only [hcheck1, hcheck4, hcheck5, hcheck6, hcheck8, h.classRight, h.imageCheck]

end State.JudgesAs

theorem unitCheck_plain (h : PlainRow i j row) (t : State) : t.unitCheck (obj i j) = 0 := by
  have hrow : findRow (obj i j) = some row := h.2.2.2.2.2.1
  have hmem := plainRow_mem h
  generalize obj i j = key at hmem hrow
  simp only [plainRows, List.mem_cons, Prod.mk.injEq, List.not_mem_nil, or_false] at hmem
  rcases hmem with ⟨rfl, rfl⟩ | ⟨rfl, rfl⟩ | ⟨rfl, rfl⟩ | ⟨rfl, rfl⟩ <;>
  · unfold State.unitCheck
    rw [hrow]
    rfl

/-- A plain row takes a write after a frame is counted as it did before. -/
theorem accepts_counted (hlo : 0x104000 ≤ k) (hhi : k < 0x107000) (hcount : s.Counted k u) (h : PlainRow i j row)
    (haccepts : s.Accepts r (obj i j) b) : u.Accepts r (obj i j) b := by
  obtain ⟨hjudge, hrange⟩ := haccepts
  refine ⟨?_, hrange⟩
  have hlength := ((hcount.judgesAs hlo hhi).autoTake r (obj i j)).judgeLength r (obj i j) b.length
  unfold State.judgeWrite at hjudge ⊢
  rw [unitCheck_plain h] at hjudge ⊢
  rwa [hlength]

/-! ### A frame taken on Quoin -/

theorem quoinTaken_counted : s.Counted 0x104102 s.quoinTaken :=
  (State.Counted.of_keeps setPort_keeps.mono).trans <| (State.Counted.of_keeps update_quoin_keeps.mono).trans .bump

theorem quoinTaken_nat (hk : k ≠ 0x104102) : s.quoinTaken.nat k = s.nat k := quoinTaken_counted.nat hk

/-- What a command of a request frame on Quoin does, where the port serves and the frame is good. -/
theorem gives_frame {c : Instr} {kind : Nat} {P : State → Prop} (hexec : exec c s = .next (s.quoinFrame kind true seq body))
    (hseq : seq < 256) (hserves : s.QuoinServes) (hP : P (s.quoinTaken.handleFrame 1 (kind :: seq :: body))) : Gives c s P := by
  refine gives_next (hexec.trans (congrArg Host.Outcome.next (quoinFrame_served hserves ..))) ?_
  rwa [Nat.mod_eq_of_lt hseq]

theorem quoinTaken_unkept (h : s.Unkept 1 seq) : s.quoinTaken.Unkept 1 seq := by
  rw [State.Unkept, quoinTaken_port]
  exact h

theorem exec_quoinRead (good : Bool) (seq : Nat) (body : Bytes) (s : State) :
    exec (.quoinRead good seq body) s = .next (s.quoinFrame 1 good seq body) := rfl

theorem quoinRead_gives (hseq : seq < 256) (hi : i < 65536) (hrest : 2 ≤ rest.length) (hserves : s.QuoinServes) (hunkept : s.Unkept 1 seq)
    (hread : s.Readable .quoin (obj i j) 48) (hkey : obj i j ≠ 0x104102) :
    Gives (.quoinRead true seq (leNat 2 i ++ [j, flags] ++ rest)) s fun t => ∃ b, (t.port 1).kept = some (seq, b) ∧
      (t.port 1).out = [padTo (canLength b.length) b] ∧ b.take 4 = [0x81, seq, 0, 0] ∧ b.drop 16 = s.readBytes (obj i j) := by
  have hcount : s.Counted 0x104102 s.quoinTaken := quoinTaken_counted
  obtain ⟨v, b, hhandled, hports, htake, hdrop⟩ := handleFrame_read (p := 1) (flags := flags) (quoinTaken_unkept hunkept) hi hrest
    (readable_counted hread (by decide) (by decide) hcount hkey)
  have hport := port_of_ports_eq hports 1
  rw [quoinTaken_port] at hport
  refine gives_frame (exec_quoinRead ..) hseq hserves ?_
  rw [hhandled, answered_quoin, hport]
  exact ⟨b, rfl, rfl, htake, hdrop.trans (readBytes_counted (by decide) (by decide) hcount hkey)⟩

theorem plainRow_apart (h : PlainRow i j row) (hk : ∀ p ∈ plainRows, p.1 ≠ k := by decide) : obj i j ≠ k :=
  hk _ (plainRow_mem h)

/-- What an answer to a frame of a matched kind leaves: its response kept, and every other subindex but the sequence shown. -/
theorem answerFrame_kept {kind key code readNo : Nat} (hkind : matchedKind kind = true) (p : Nat) (s : State) :
    ((s.answerFrame p kind seq code key flags readNo data).port p).kept =
      some (seq, s.response (kind + 0x80) seq code key flags readNo data) := by
  rw [answerFrame_eq hkind, answered_kept]

/-- A Write of a plain row that is accepted stores its value (R349, R371). -/
theorem writeObject_plain (h : PlainRow i j row) (haccepts : s.Accepts r (obj i j) b) :
    (s.writeObject r (obj i j) b).val (obj i j) = decodeVal row.ty b ∧ (s.writeObject r (obj i j) b).answer.code = 0 := by
  have hact := writeAct_plain h haccepts (s.autoTake r (obj i j))
  unfold State.writeObject
  rw [request_done s r _ b _ haccepts.1 haccepts.2 (by rw [hact]), hact]
  refine ⟨?_, rfl⟩
  show ((_ : State).touch r).val (obj i j) = _
  rw [touch_val r _ (plainRow_ne h), setVal_val, if_pos rfl]

/-- A Write whose value has the length that it tells, and no more than the port takes, is a write of the value (R371). -/
theorem frameWrite_sound {p : Nat} (hi : i < 65536) (hlength : data.length ≤ valueLimit p) (hwidth : data.length < 65536) :
    s.frameWrite p seq (2 :: seq :: (leNat 2 i ++ [j, flags] ++ (leNat 2 data.length ++ data))) =
      (s.writeObject (portClass p) (obj i j) data).answerFrame p 2 seq
        (s.writeObject (portClass p) (obj i j) data).answer.code (obj i j) 0 0 [] := by
  have hcount : fieldLe (2 :: seq :: (leNat 2 i ++ [j, flags] ++ (leNat 2 data.length ++ data))) 6 2 = data.length := by
    have hvalue : data.length % 256 + 256 * (data.length / 256 % 256) = data.length := by omega
    simp [fieldLe, sliceB, leNat, ofLe, hvalue]
  have hslice : sliceB (2 :: seq :: (leNat 2 i ++ [j, flags] ++ (leNat 2 data.length ++ data))) 8 data.length = data := by
    simp [sliceB, leNat]
  unfold State.frameWrite
  simp only [frameKey_eq 2 hi, hcount, hslice]
  rw [if_neg (by omega), if_neg]
  simp
  omega

theorem quoinWrite_gives (hseq : seq < 256) (hplain : PlainRow i j row) (hlength : data.length ≤ 48) (hserves : s.QuoinServes)
    (hunkept : s.Unkept 1 seq) (haccepts : s.Accepts .quoin (obj i j) data) :
    Gives (.quoinWrite true seq (leNat 2 i ++ [j, flags] ++ leNat 2 data.length ++ data)) s fun t =>
      t.val (obj i j) = decodeVal row.ty data ∧ ∃ b, (t.port 1).kept = some (seq, b) ∧ b.take 4 = [0x82, seq, 0, 0] := by
  obtain ⟨_, hindex, _⟩ := id hplain
  obtain ⟨hval, hcode⟩ := writeObject_plain (r := portClass 1) hplain
    (accepts_counted (by decide) (by decide) (quoinTaken_counted (s := s)) hplain haccepts)
  refine gives_frame (exec_quoinWrite ..) hseq hserves ?_
  have hhandled : s.quoinTaken.handleFrame 1 (2 :: seq :: (leNat 2 i ++ [j, flags] ++ leNat 2 data.length ++ data)) =
      s.quoinTaken.frameWrite 1 seq (2 :: seq :: (leNat 2 i ++ [j, flags] ++ (leNat 2 data.length ++ data))) := by
    rw [List.append_assoc]
    exact handleFrame_matched (quoinTaken_unkept hunkept) rfl (by simp; omega)
  rw [hhandled, frameWrite_sound (by omega) hlength (by omega), hcode]
  refine ⟨?_, _, answerFrame_kept rfl 1 _, response_take _ (by decide) _⟩
  rw [answerFrame_eq rfl, answered_spares (plainRow_apart hplain) (plainRow_apart hplain)]
  exact hval

/-! ### Transfers -/

theorem answerFrame_transfer {kind key code readNo : Nat} (p : Nat) (s : State) :
    ((s.answerFrame p kind seq code key flags readNo data).port p).transfer = (s.port p).transfer := by
  unfold State.answerFrame
  dsimp only
  split
  · rw [answered_port, deliver_transfer, setPort_port, if_pos rfl]
  · rw [deliver_transfer]

theorem closeTransfer_none {p : Nat} (h : (s.port p).transfer = none) (applied : Bool) : s.closeTransfer p applied = s := by
  unfold State.closeTransfer
  rw [h]

theorem quoinTaken_transfer : (s.quoinTaken.port 1).transfer = (s.port 1).transfer := by rw [quoinTaken_port]

theorem quoinTaken_gnomon : s.quoinTaken.gnomon = s.gnomon := rfl

/-- A transfer opened for a permitted read: the snapshot taken (R375). -/
theorem frameInitiateRead_transfer {p key : Nat} {f : Bytes} (hkey : frameKey f = key) (hnone : (s.port p).transfer = none)
    (hread : s.Readable (portClass p) key transferMax) : ((s.frameInitiateRead p seq f).port p).transfer =
      some ⟨false, seq, key, (s.readBytes key).length, s.readBytes key, 0, 0, s.gnomon⟩ := by
  have htouch (v : State) : (v.touch (portClass p)).gnomon = v.gnomon := touch_keeps.same .gnomon (by decide)
  have hleave (v : State) : (v.leaveCv p).gnomon = v.gnomon := leaveCv_keeps.same .gnomon (by decide)
  have hfeed (v : State) (b : Bytes) : (v.feedCv p b).gnomon = v.gnomon := feedCv_keeps.same .gnomon (by decide)
  unfold State.frameInitiateRead
  dsimp only
  rw [hkey, closeTransfer_none hnone, readAs_readable hread, touch_answer, if_neg (by simp), answerFrame_transfer, setPort_port,
    if_pos rfl, hleave, hfeed, htouch]

theorem exec_initiateRead (good : Bool) (seq : Nat) (body : Bytes) (s : State) :
    exec (.initiateRead good seq body) s = .next (s.quoinFrame 3 good seq body) := rfl

theorem exec_initiateWrite (good : Bool) (seq : Nat) (body : Bytes) (s : State) :
    exec (.initiateWrite good seq body) s = .next (s.quoinFrame 4 good seq body) := rfl

theorem initiateRead_gives (hseq : seq < 256) (hi : i < 65536) (hrest : 2 ≤ rest.length) (hserves : s.QuoinServes)
    (hunkept : s.Unkept 1 seq) (hnone : (s.port 1).transfer = none) (hread : s.Readable .quoin (obj i j) transferMax)
    (hkey : obj i j ≠ 0x104102) :
    Gives (.initiateRead true seq (leNat 2 i ++ [j, flags] ++ rest)) s fun t => (t.port 1).transfer =
      some ⟨false, seq, obj i j, (s.readBytes (obj i j)).length, s.readBytes (obj i j), 0, 0, s.gnomon⟩ := by
  have hcount : s.Counted 0x104102 s.quoinTaken := quoinTaken_counted
  refine gives_frame (exec_initiateRead ..) hseq hserves ?_
  have hhandled : s.quoinTaken.handleFrame 1 (3 :: seq :: (leNat 2 i ++ [j, flags] ++ rest)) =
      s.quoinTaken.frameInitiateRead 1 seq (3 :: seq :: (leNat 2 i ++ [j, flags] ++ rest)) :=
    handleFrame_matched (quoinTaken_unkept hunkept) rfl (by simp; omega)
  rw [hhandled, frameInitiateRead_transfer (frameKey_eq 3 hi) (quoinTaken_transfer.trans hnone)
    (readable_counted hread (by decide) (by decide) hcount hkey (by decide)), readBytes_counted (by decide) (by decide) hcount hkey]
  rfl

/-- A transfer opened for a write that checks 1 to 9 pass with its length (R374). -/
theorem frameInitiateWrite_transfer {p key : Nat} {f : Bytes} (hkey : frameKey f = key) (hsize : fieldLe f 8 4 = n) (hlo : 1 ≤ n)
    (hhi : n ≤ transferMax) (hnone : (s.port p).transfer = none) (hjudge : (s.autoTake (portClass p) key).judgeLength (portClass p) key n = 0) :
    ((s.frameInitiateWrite p seq f).port p).transfer =
      some ⟨true, seq, key, n, [], 0, (s.autoTake (portClass p) key).blockSize p, s.gnomon⟩ := by
  unfold State.frameInitiateWrite
  dsimp only
  rw [hkey, hsize, closeTransfer_none hnone, if_neg (by omega), if_neg (by simp [hjudge]), answerFrame_transfer]
  unfold State.transferSeen
  rw [port_of_ports_eq (touch_ports _ _), setPort_port, if_pos rfl]
  simp only [autoTake_gnomon]

theorem initiateWrite_gives (hseq : seq < 256) (hi : i < 65536) (hlo : 1 ≤ n) (hhi : n ≤ transferMax) (hserves : s.QuoinServes)
    (hunkept : s.Unkept 1 seq) (hnone : (s.port 1).transfer = none)
    (hjudge : (s.autoTake .quoin (obj i j)).judgeLength .quoin (obj i j) n = 0) :
    Gives (.initiateWrite true seq (leNat 2 i ++ [j, flags, 0, 0] ++ leNat 4 n ++ rest)) s fun t => (t.port 1).transfer =
      some ⟨true, seq, obj i j, n, [], 0, s.nat 0x10400D, s.gnomon⟩ := by
  have hframe : leNat 2 i ++ [j, flags, 0, 0] ++ leNat 4 n ++ rest = leNat 2 i ++ [j, flags] ++ ([0, 0] ++ (leNat 4 n ++ rest)) := by
    simp
  have hsize : fieldLe (4 :: seq :: (leNat 2 i ++ [j, flags] ++ ([0, 0] ++ (leNat 4 n ++ rest)))) 8 4 = n := by
    show ofLe ((leNat 4 n ++ rest).take 4) = n
    rw [List.take_left' (length_leNat ..), ofLe_leNat (by unfold transferMax at hhi; omega)]
  have hjudged := ((quoinTaken_counted (s := s)).judgesAs (by decide) (by decide)).autoTake .quoin (obj i j)
  refine gives_frame (exec_initiateWrite ..) hseq hserves ?_
  have hhandled : s.quoinTaken.handleFrame 1 (4 :: seq :: (leNat 2 i ++ [j, flags] ++ ([0, 0] ++ (leNat 4 n ++ rest)))) =
      s.quoinTaken.frameInitiateWrite 1 seq (4 :: seq :: (leNat 2 i ++ [j, flags] ++ ([0, 0] ++ (leNat 4 n ++ rest)))) :=
    handleFrame_matched (quoinTaken_unkept hunkept) rfl (by simp; omega)
  have hblock : (s.quoinTaken.autoTake .quoin (obj i j)).blockSize 1 = s.nat 0x10400D :=
    (autoTake_other _ _ _ (by decide) (by decide) (by decide)).trans (quoinTaken_nat (by decide))
  rw [hframe, hhandled, frameInitiateWrite_transfer (frameKey_eq 4 hi) hsize hlo hhi (quoinTaken_transfer.trans hnone)
    ((hjudged.judgeLength .quoin (obj i j) n).trans hjudge)]
  exact congrArg (fun b => some (Transfer.mk true seq (obj i j) n [] 0 b s.gnomon)) hblock

theorem exec_blockRequest (good : Bool) (seq : Nat) (body : Bytes) (s : State) :
    exec (.blockRequest good seq body) s = .next (s.quoinFrame 5 good seq body) := rfl

theorem exec_segment (good : Bool) (seq : Nat) (body : Bytes) (s : State) :
    exec (.segment good seq body) s = .next (s.quoinFrame 6 good seq body) := rfl

theorem exec_endTransfer (good : Bool) (seq : Nat) (body : Bytes) (s : State) :
    exec (.endTransfer good seq body) s = .next (s.quoinFrame 7 good seq body) := rfl

theorem exec_abortTransfer (good : Bool) (seq : Nat) (body : Bytes) (s : State) :
    exec (.abortTransfer good seq body) s = .next (s.quoinFrame 8 good seq body) := rfl

theorem exec_syncRequest (good : Bool) (seq : Nat) (body : Bytes) (s : State) :
    exec (.syncRequest good seq body) s = .next (s.quoinFrame 15 good seq body) := rfl

theorem fieldLe_second {m : Nat} (kind : Nat) (hm : m < 65536) (rest : Bytes) : fieldLe (kind :: seq :: (leNat 2 m ++ rest)) 2 2 = m := by
  have hvalue : m % 256 + 256 * (m / 256 % 256) = m := by omega
  simp [fieldLe, sliceB, leNat, ofLe, hvalue]

/-- Responses on their way on Quoin, one after another. -/
theorem deliverAll_quoin (seg : Nat → Bytes) (is : List Nat) (s : State) :
    ((is.foldl (fun s i => s.deliver 1 (seg i)) s).port 1).out.length = (s.port 1).out.length + is.length ∧
      ((is.foldl (fun s i => s.deliver 1 (seg i)) s).port 1).transfer = (s.port 1).transfer := by
  induction is generalizing s with
  | nil => exact ⟨rfl, rfl⟩
  | cons i is ih =>
    obtain ⟨hlength, htransfer⟩ := ih (s.deliver 1 (seg i))
    rw [deliver_transfer] at htransfer
    rw [deliver_port, if_pos rfl, List.length_append, List.length_singleton] at hlength
    exact ⟨hlength.trans (by rw [List.length_cons]; omega), htransfer⟩

theorem transferSeen_port (p : Nat) (tr : Transfer) (s : State) :
    (s.transferSeen p tr).port p = { s.port p with transfer := some { tr with at_ := s.gnomon } } :=
  (port_of_ports_eq (touch_ports _ _) p).trans ((setPort_port ..).trans (if_pos rfl))

theorem blockRequest_gives {first : Nat} (hopen : (s.port 1).transfer = some tr) (hread : tr.write = false) (hseq : tr.seq < 256)
    (hfirst : first < 65536) (hinside : first < segmentCount 1 tr.size) (hlo : 1 ≤ n) (hhi : n ≤ 32) (hrest : 3 ≤ rest.length)
    (hserves : s.QuoinServes) : Gives (.blockRequest true tr.seq (leNat 2 first ++ [n] ++ rest)) s fun t =>
      (t.port 1).out.length = min (first + n) (segmentCount 1 tr.size) - first ∧
        (t.port 1).transfer = some { tr with at_ := s.gnomon } := by
  refine gives_frame (exec_blockRequest ..) hseq hserves ?_
  have hhandled : s.quoinTaken.handleFrame 1 (5 :: tr.seq :: (leNat 2 first ++ [n] ++ rest)) =
      s.quoinTaken.frameBlockRequest 1 tr.seq (5 :: tr.seq :: (leNat 2 first ++ [n] ++ rest)) :=
    handleFrame_served (fun h => Bool.noConfusion (show false = true from h)) rfl
      (by simp only [List.length_cons, List.length_append, length_leNat, List.length_nil]; omega)
  have hfield := fieldLe_second (seq := tr.seq) 5 hfirst ([n] ++ rest)
  rw [← List.append_assoc] at hfield
  have hcount : nthD (5 :: tr.seq :: (leNat 2 first ++ [n] ++ rest)) 4 0 = n := by simp [nthD, leNat]
  rw [hhandled]
  unfold State.frameBlockRequest
  rw [quoinTaken_transfer, hopen]
  dsimp only
  rw [hfield, hcount, if_neg (by simp), if_neg (by simp [hread]; omega), if_neg (by omega)]
  obtain ⟨hlength, htransfer⟩ := deliverAll_quoin
    (fun i => [0xC6, tr.seq] ++ leNat 2 (first + i) ++ sliceB tr.data ((first + i) * segmentSize 1) (segmentSize 1))
    (List.range (min (first + n) (segmentCount 1 tr.size) - first)) (s.quoinTaken.transferSeen 1 tr)
  rw [transferSeen_port, quoinTaken_port] at hlength htransfer
  exact ⟨hlength.trans (by simp), htransfer⟩

theorem feedCv_port (p : Nat) (b : Bytes) (s : State) (q : Nat) : (s.feedCv p b).port q = s.port q := port_of_ports_eq (feedCv_ports ..) q

theorem acknowledge_transfer (p next : Nat) (tr : Transfer) (s : State) :
    ((s.acknowledge p tr next).port p).transfer = (s.port p).transfer := deliver_transfer ..

/-- The next segment of a write, taken (R374). -/
theorem frameSegment_transfer {p : Nat} {f : Bytes} (hopen : (s.port p).transfer = some tr) (hwrite : tr.write = true)
    (hfield : fieldLe f 2 2 = tr.next) (hinside : tr.next < segmentCount p tr.size)
    (hlength : 4 + min (segmentSize p) (tr.size - tr.data.length) ≤ f.length) :
    ((s.frameSegment p tr.seq f).port p).transfer =
      some { tr with data := tr.data ++ sliceB f 4 (min (segmentSize p) (tr.size - tr.data.length)), next := tr.next + 1, at_ := s.gnomon } := by
  have htouch (v : State) : (v.touch (portClass p)).gnomon = v.gnomon := touch_keeps.same .gnomon (by decide)
  unfold State.frameSegment
  rw [hopen]
  dsimp only
  rw [hfield, if_neg (by simp [hwrite]), if_neg (by omega), if_neg (by omega), if_neg (by omega), if_neg (by omega)]
  split
  · rw [acknowledge_transfer, feedCv_port, setPort_port, if_pos rfl]
    simp [State.transferSeen, htouch]
  · rw [feedCv_port, setPort_port, if_pos rfl]
    simp [State.transferSeen, htouch]

theorem segment_gives (hopen : (s.port 1).transfer = some tr) (hwrite : tr.write = true) (hseq : tr.seq < 256) (hnext : tr.next < 65536)
    (hinside : tr.next < segmentCount 1 tr.size) (hdata : data.length = min 60 (tr.size - tr.data.length)) (hserves : s.QuoinServes) :
    Gives (.segment true tr.seq (leNat 2 tr.next ++ data ++ rest)) s fun t => (t.port 1).transfer =
      some { tr with data := tr.data ++ data, next := tr.next + 1, at_ := s.gnomon } := by
  refine gives_frame (exec_segment ..) hseq hserves ?_
  have hlength : (6 :: tr.seq :: (leNat 2 tr.next ++ data ++ rest)).length = 4 + data.length + rest.length := by
    simp only [List.length_cons, List.length_append, length_leNat]
    omega
  have hhandled : s.quoinTaken.handleFrame 1 (6 :: tr.seq :: (leNat 2 tr.next ++ data ++ rest)) =
      s.quoinTaken.frameSegment 1 tr.seq (6 :: tr.seq :: (leNat 2 tr.next ++ data ++ rest)) :=
    handleFrame_served (fun h => Bool.noConfusion (show false = true from h)) (need := 4) rfl (by omega)
  have hfield := fieldLe_second (seq := tr.seq) 6 hnext (data ++ rest)
  rw [← List.append_assoc] at hfield
  have hslice : sliceB (6 :: tr.seq :: (leNat 2 tr.next ++ data ++ rest)) 4 data.length = data := by
    simp [sliceB, leNat]
  have hsegment : min (segmentSize 1) (tr.size - tr.data.length) = data.length := hdata.symm
  rw [hhandled, frameSegment_transfer (quoinTaken_transfer.trans hopen) hwrite hfield hinside (by rw [hsegment]; omega), hsegment, hslice]
  rfl

/-! ### The end of a transfer -/

theorem closeTransfer_transfer (p : Nat) (applied : Bool) (s : State) : ((s.closeTransfer p applied).port p).transfer = none := by
  unfold State.closeTransfer
  split
  · assumption
  · have hclosed (v : State) : (((v.setPort p { v.port p with transfer := none }).leaveCv p).port p).transfer = none := by
      rw [port_of_ports_eq (leaveCv_ports ..), setPort_port, if_pos rfl]
    dsimp only
    split
    · exact hclosed s
    · exact hclosed s

theorem gives_end (hseq : seq < 256) (hbody : 6 ≤ body.length) (hserves : s.QuoinServes) (hunkept : s.Unkept 1 seq)
    {P : State → Prop} (hP : P (s.quoinTaken.frameEnd 1 seq (7 :: seq :: body))) : Gives (.endTransfer true seq body) s P := by
  have hhandled : s.quoinTaken.handleFrame 1 (7 :: seq :: body) = s.quoinTaken.frameEnd 1 seq (7 :: seq :: body) :=
    handleFrame_matched (quoinTaken_unkept hunkept) (need := 8) rfl (by simpa using hbody)
  refine gives_frame (exec_endTransfer ..) hseq hserves ?_
  rwa [hhandled]

theorem endTransfer_read (hopen : (s.port 1).transfer = some tr) (hread : tr.write = false) (hseq : seq < 256) (hbody : 6 ≤ body.length)
    (hserves : s.QuoinServes) (hunkept : s.Unkept 1 seq) : Gives (.endTransfer true seq body) s fun t => (t.port 1).transfer = none ∧
      ∃ b, (t.port 1).kept = some (seq, b) ∧ b.take 4 = [0x87, seq, 0, 0] := by
  refine gives_end hseq hbody hserves hunkept ?_
  unfold State.frameEnd
  rw [quoinTaken_transfer, hopen]
  dsimp only
  rw [if_pos (by simp [hread]), answerFrame_transfer, port_of_ports_eq (touch_ports ..), closeTransfer_transfer]
  exact ⟨rfl, _, answerFrame_kept rfl 1 _, response_take _ (by decide) _⟩

/-- A plain row takes a value of its table. -/
theorem writeAct_inRange (h : PlainRow i j row) (hrange : rangeCheck (obj i j) b = 0) (t : State) :
    writeAct r (obj i j) b t = (t.setVal (obj i j) (decodeVal row.ty b), 0) := by
  have hrow : findRow (obj i j) = some row := h.2.2.2.2.2.1
  have hacc : (row.acc == .cmd) = false := by rcases h.2.2.2.2.2.2 with h | h <;> rw [h] <;> rfl
  have htable : tableRange (obj i j) row (decodeVal row.ty b) = 0 := by rwa [rangeCheck, hrow] at hrange
  unfold writeAct
  rw [hrow]
  simp only [hacc, Bool.false_eq_true, if_false]
  exact applyWrite_plain h htable

theorem reflectBits_lt (w n : Nat) : reflectBits w n < 2 ^ w := by
  induction w generalizing n with
  | zero => exact Nat.one_pos
  | succ w ih =>
    have hrest := ih (n / 2)
    have hbit : n % 2 * 2 ^ w ≤ 1 * 2 ^ w := Nat.mul_le_mul_right _ (by omega)
    rw [reflectBits, Nat.pow_succ]
    omega

theorem crcOf_lt (data : Bytes) : crcOf 0 data < 2 ^ 32 := Nat.xor_lt_two_pow (reflectBits_lt 32 _) (by decide)

/-- A write transfer that is complete, with its check value, is applied whole (R374, R376). -/
theorem carryOut_plain (h : PlainRow i j row) (hrange : rangeCheck (obj i j) b = 0) (s : State) :
    (s.carryOut r (obj i j) b (writeAct r (obj i j) b) 0).val (obj i j) = decodeVal row.ty b ∧
      (s.carryOut r (obj i j) b (writeAct r (obj i j) b) 0).answer.code = 0 ∧
      (s.carryOut r (obj i j) b (writeAct r (obj i j) b) 0).ports = s.ports := by
  have hact := writeAct_inRange (r := r) h hrange s
  have hcodes : firstCode [0, if (pairedRes (obj i j)).isSome then 0 else rangeCheck (obj i j) b] = 0 := by simp [firstCode, hrange]
  unfold State.carryOut
  rw [hcodes, if_pos rfl, hact]
  dsimp only
  rw [if_pos rfl]
  refine ⟨?_, rfl, touch_ports ..⟩
  show ((_ : State).touch r).val (obj i j) = _
  rw [touch_val r _ (plainRow_ne h), setVal_val, if_pos rfl]

theorem endTransfer_write (hopen : (s.port 1).transfer = some tr) (hwrite : tr.write = true) (hkey : tr.key = obj i j)
    (hplain : PlainRow i j row) (hwhole : tr.data.length = tr.size) (hseq : seq < 256) (hserves : s.QuoinServes)
    (hunkept : s.Unkept 1 seq) (hkeyed : s.check5 tr.key = 0) (hrange : rangeCheck tr.key tr.data = 0) :
    Gives (.endTransfer true seq ([0, 0] ++ leNat 4 (crcOf 0 tr.data) ++ rest)) s fun t => (t.port 1).transfer = none ∧
      t.val (obj i j) = decodeVal row.ty tr.data := by
  refine gives_end hseq (by simp) hserves hunkept ?_
  have hcrc : fieldLe (7 :: seq :: ([0, 0] ++ leNat 4 (crcOf 0 tr.data) ++ rest)) 4 4 = crcOf 0 tr.data := by
    show ofLe ((leNat 4 (crcOf 0 tr.data) ++ rest).take 4) = _
    rw [List.take_left' (length_leNat ..), ofLe_leNat (crcOf_lt _)]
  have hclosed : ((s.quoinTaken.closeTransfer 1 true).port 1).transfer = none := closeTransfer_transfer ..
  have hcheck : (s.quoinTaken.closeTransfer 1 true).check5 tr.key = 0 := by
    have hlevel : (s.quoinTaken.closeTransfer 1 true).nat 0x830001 = s.nat 0x830001 :=
      (State.Spares.nat (closeTransfer_spares ⟨by decide, by decide⟩)).trans (quoinTaken_nat (by decide))
    have hmode : (s.quoinTaken.closeTransfer 1 true).mode = s.mode := closeTransfer_keeps.same .mode (by decide)
    have hfuses : (s.quoinTaken.closeTransfer 1 true).otp = s.otp := closeTransfer_keeps.same .otp (by decide)
    unfold State.check5 State.lifecycle State.debugLevel
    rw [hlevel, hmode, hfuses]
    exact hkeyed
  have hunit : (s.quoinTaken.closeTransfer 1 true).unitCheck tr.key = 0 := by rw [hkey, unitCheck_plain hplain]
  unfold State.frameEnd
  rw [quoinTaken_transfer, hopen]
  dsimp only
  rw [if_neg (by simp [hwrite]), hcrc, hwhole, if_neg (lt_irrefl _), if_neg (by simp), hcheck, hunit, hkey]
  rw [hkey] at hrange
  generalize s.quoinTaken.closeTransfer 1 true = v at *
  obtain ⟨hval, hcode, hports⟩ := carryOut_plain (r := portClass 1) hplain hrange v
  have hcodes : firstCode [0, 0, 0] = 0 := rfl
  rw [hcodes, hcode, if_pos rfl, answerFrame_transfer, port_of_ports_eq hports, hclosed]
  refine ⟨rfl, ?_⟩
  rw [answerFrame_eq rfl, answered_spares (plainRow_apart hplain) (plainRow_apart hplain)]
  exact hval

theorem abortTransfer_gives (hseq : seq < 256) (hbody : 6 ≤ body.length) (hserves : s.QuoinServes) (hunkept : s.Unkept 1 seq) :
    Gives (.abortTransfer true seq body) s fun t => (t.port 1).transfer = none ∧
      ∃ b, (t.port 1).kept = some (seq, b) ∧ b.take 4 = [0x88, seq, 0, 0] := by
  have hhandled : s.quoinTaken.handleFrame 1 (8 :: seq :: body) = s.quoinTaken.frameAbort 1 seq :=
    handleFrame_matched (quoinTaken_unkept hunkept) (need := 8) rfl (by simpa using hbody)
  refine gives_frame (exec_abortTransfer ..) hseq hserves ?_
  rw [hhandled, State.frameAbort, answerFrame_transfer, port_of_ports_eq (touch_ports ..), closeTransfer_transfer]
  exact ⟨rfl, _, answerFrame_kept rfl 1 _, response_take _ (by decide) _⟩

theorem syncRequest_gives (hseq : seq < 256) (hbody : 6 ≤ body.length) (hserves : s.QuoinServes) :
    Gives (.syncRequest true seq body) s fun t => ∃ b, (t.port 1).out = [padTo (canLength b.length) b] ∧
      b.take 4 = [0x8F, seq, 0, 0] ∧ b.drop 16 = s.syncData 1 := by
  have hhandled : s.quoinTaken.handleFrame 1 (15 :: seq :: body) = s.quoinTaken.frameSync 1 seq :=
    handleFrame_served (fun h => Bool.noConfusion (show false = true from h)) (need := 8) rfl (by simpa using hbody)
  have hdata : s.quoinTaken.syncData 1 = s.syncData 1 := by
    unfold State.syncData
    rw [quoinTaken_port, quoinTaken_nat (by decide), quoinTaken_nat (by decide), quoinTaken_nat (by decide)]
    rfl
  refine gives_frame (exec_syncRequest ..) hseq hserves ?_
  rw [hhandled, State.frameSync, State.answerFrame, if_neg (by decide), deliver_port, if_pos rfl, quoinTaken_port]
  exact ⟨_, rfl, response_take _ (by decide) _, (response_drop _ _).trans hdata⟩

theorem transferTimeout_gives {p : Nat} (hopen : (s.port (p % 4 + 1)).transfer = some tr)
    (hover : tr.at_ + s.transferMs (p % 4 + 1) * msTicks ≤ s.gnomon) : Gives (.transferTimeout p) s fun t =>
      (t.port (p % 4 + 1)).transfer = none ∧ t.nat 0x104104 = satAdd 32 (s.nat 0x104104) 1 := by
  have hcleared : (((s.clearOut (p % 4 + 1)).port (p % 4 + 1)).transfer) = some tr := by
    rw [State.clearOut, setPort_port, if_pos rfl]
    exact hopen
  have hexec : exec (.transferTimeout p) s = .next ((s.clearOut (p % 4 + 1)).failTransfer (p % 4 + 1) 0x1904) := by
    show execTransferTimeout p s = _
    unfold execTransferTimeout
    dsimp only
    rw [hopen]
    exact congrArg Host.Outcome.next (if_pos hover)
  refine gives_next hexec ?_
  unfold State.failTransfer
  rw [hcleared]
  dsimp only
  refine ⟨closeTransfer_transfer .., ?_⟩
  unfold State.closeTransfer
  rw [deliver_transfer, hcleared]
  dsimp only
  rw [if_neg (by simp), bump_nat, if_pos rfl, leaveCv_nat _ _ _ (by decide), setPort_nat, deliver_nat]
  rfl

/-! ### Event frames, sleep and bus-off -/

theorem eventFrame_gives (hdue : s.eventFrameDue = true) : Gives .eventFrame s fun t =>
    t.events.quoinQ = s.events.quoinQ.drop 2 ∧ (t.port 1).out =
      [padTo (canLength (2 + ((s.events.quoinQ.take 2).flatMap Event.framed).length))
        ([min 2 s.events.quoinQ.length, 0] ++ (s.events.quoinQ.take 2).flatMap Event.framed)] := by
  have htake : s.events.quoinQ.take (min 2 s.events.quoinQ.length) = s.events.quoinQ.take 2 := by
    rw [← List.take_take, List.take_length]
  refine gives_next (congrArg Host.Outcome.next (if_pos hdue)) ⟨drop_min s.events.quoinQ 2, ?_⟩
  unfold State.sendEvents
  dsimp only
  rw [sendCan_port, if_pos rfl, htake, State.clearOut, setPort_port, if_pos rfl]
  rw [List.nil_append, List.length_append]
  rfl

theorem quoinWatchWake_gives (hmode : s.mode = .watch) (hasleep : s.nat 0x104101 = 5) :
    Gives (.quoinWatchWake true) s fun t => t.nat 0x104101 = 2 :=
  gives_next (congrArg Host.Outcome.next (if_pos ⟨hmode, hasleep, rfl⟩)) ((setNat_nat ..).trans (if_pos rfl))

theorem quoinIdle_gives (hsleeps : s.quoinSleeps = true) (hserves : s.QuoinServes)
    (hidle : s.quoin.activeAt + s.nat 0x10400B * msTicks ≤ s.gnomon) (hevents : s.events.quoinQ = []) (hpdos : s.pdoWaiting = [])
    (hnone : (s.port 1).transfer = none) : Gives .quoinIdle s fun t => t.nat 0x104101 = 5 :=
  gives_next (congrArg Host.Outcome.next (if_pos ⟨hsleeps, hserves, hidle, by rw [hevents]; rfl, by rw [hpdos]; rfl, by rw [hnone]; rfl⟩))
    ((setNat_nat ..).trans (if_pos rfl))

theorem busOff_gives {tec rec_ : Nat} (hserves : s.QuoinServes) (hoff : 255 < tec) :
    Gives (.busOff tec rec_) s fun t => t.nat 0x104101 = 4 ∧ t.nat 0x104105 = satAdd 32 (s.nat 0x104105) 1 := by
  refine gives_next (congrArg Host.Outcome.next ((if_pos hserves).trans (if_pos hoff))) ?_
  simp

theorem busOff_counts {tec rec_ : Nat} (hserves : s.QuoinServes) (htec : tec ≤ 255) (hrec : rec_ ≤ 255) :
    Gives (.busOff tec rec_) s fun t => t.nat 0x104106 = tec ∧ t.nat 0x104107 = rec_ ∧
      t.nat 0x104101 = if 127 < tec ∨ 127 < rec_ then 3 else 2 := by
  refine gives_next (congrArg Host.Outcome.next ((if_pos hserves).trans (if_neg (by omega)))) ?_
  simp [Nat.min_eq_left htec, Nat.min_eq_left hrec]

theorem busOffRecovery_gives (hoff : s.nat 0x104101 = 4) : Gives .busOffRecovery s fun t =>
    t.nat 0x104101 = 2 ∧ t.nat 0x104106 = 0 ∧ t.nat 0x104107 = 0 := by
  refine gives_next (congrArg Host.Outcome.next (if_pos hoff)) ?_
  simp

/-! ### Service requests (R320) -/

theorem serviceFrame_read {ext : Nat} {f : Bytes} (hlength : 8 ≤ f.length) (hkind : nthD f 0 0 = 1) : ∃ resp, s.serviceFrame ext f =
    (resp, s.readAs (.node ext) (frameKey f) (bitOf (nthD f 5 0) 0) (bitOf (nthD f 5 0) 1) 48 0x1901) := by
  unfold State.serviceFrame
  dsimp only
  rw [if_neg (by omega), if_pos hkind]
  exact ⟨_, rfl⟩

/-- The response to a service request on its way to its node. -/
def State.answerService (w : Work) (s : State) : State :=
  let n := s.node w.node
  let r := s.serviceFrame n.ext w.body
  let f := freshFrame .service w.node (.short (if n.via = 0 then n.short else n.via)) (r.2.voussoir 6 0 n.short [] r.1)
  r.2.handVoussoir { f with
    channel := r.2.homeChannel, preamble := r.2.cnat 0x600006, route := if n.via = 0 then 4 else 3 }

theorem exec_serviceRequest {w : Work} (h : s.takeWork 5 = some (w, t)) : exec .serviceRequest s =
    .next (if 512 ≤ w.node ∨ (t.node w.node).state = 0 ∨ !t.serves (t.node w.node).ext then t.bump 0x821002 else t.answerService w) := by
  show execServiceRequest s = _
  unfold execServiceRequest
  rw [h]
  rfl

theorem answerService_hands {w : Work} (hlength : 8 ≤ w.body.length) (hread : nthD w.body 0 0 = 1) :
    (s.answerService w).mesh.work = s.mesh.work ∧ (s.answerService w).link.frames.length = s.link.frames.length + 1 ∧
      ((s.answerService w).link.frames.getLast?.map fun f => (f.purpose, f.node)) = some (.service, w.node) := by
  obtain ⟨resp, hserved⟩ := serviceFrame_read (ext := (s.node w.node).ext) (s := s) hlength hread
  have hlink : (s.serviceFrame (s.node w.node).ext w.body).2.link = s.link := by
    rw [hserved]
    exact readAs_keeps.same .link (by decide)
  have hmesh : (s.serviceFrame (s.node w.node).ext w.body).2.mesh = s.mesh := by
    rw [hserved]
    exact readAs_keeps.same .mesh (by decide)
  unfold State.answerService
  extract_lets n reply f
  refine ⟨?_, ?_, ?_⟩
  · show reply.2.mesh.work = _
    rw [hmesh]
  · show (reply.2.link.frames ++ [_]).length = _
    rw [hlink, List.length_append, List.length_singleton]
  · show (reply.2.link.frames ++ [_]).getLast?.map _ = _
    rw [List.getLast?_concat]
    rfl

theorem serviceRequest_gives {w : Work} {ws : List Work} (hwork : s.mesh.work = w :: ws) (hkind : w.kind = 5) (hnode : w.node < 512)
    (hknown : (s.node w.node).state ≠ 0) (hlisted : s.serves (s.node w.node).ext = true) (hlength : 8 ≤ w.body.length)
    (hread : nthD w.body 0 0 = 1) : Gives .serviceRequest s fun t => t.mesh.work = ws ∧
      t.link.frames.length = s.link.frames.length + 1 ∧
        (t.link.frames.getLast?.map fun f => (f.purpose, f.node)) = some (.service, w.node) := by
  have htaken : s.takeWork 5 = some (w, { s with mesh := { s.mesh with work := ws } }) := by
    unfold State.takeWork
    rw [hwork]
    exact if_pos hkind
  have hserved : ¬(512 ≤ w.node ∨ (s.node w.node).state = 0 ∨ (!s.serves (s.node w.node).ext) = true) := by
    simp [hknown, hlisted, hnode]
  exact gives_next ((exec_serviceRequest htaken).trans (congrArg Host.Outcome.next (if_neg hserved))) (answerService_hands hlength hread)

end

/-- Settles O26, clause by clause. -/
theorem quoinCompletes : Obligations.QuoinCompletes := by
  unfold Obligations.QuoinCompletes
  exact ⟨fun _ _ _ _ _ _ hseq hi _ => quoinRead_gives hseq hi, fun _ _ _ _ _ _ _ => quoinWrite_gives,
    fun _ _ _ _ _ _ hseq hi _ => initiateRead_gives hseq hi, fun _ _ _ _ _ _ _ hseq hi _ => initiateWrite_gives hseq hi,
    fun _ _ _ _ _ => blockRequest_gives, fun _ _ _ _ => segment_gives, fun _ _ _ _ => endTransfer_read,
    fun _ _ _ _ _ _ _ hopen hwrite hkey hplain hwhole hseq hserves hunkept hkeyed _ =>
      endTransfer_write hopen hwrite hkey hplain hwhole hseq hserves hunkept hkeyed,
    fun _ _ _ => abortTransfer_gives, fun _ _ _ => syncRequest_gives, fun _ _ _ => transferTimeout_gives, fun _ => eventFrame_gives,
    fun _ => quoinWatchWake_gives, fun _ => quoinIdle_gives, fun _ _ _ => busOff_gives, fun _ _ _ => busOff_counts,
    fun _ => busOffRecovery_gives, fun _ _ _ => serviceRequest_gives⟩

end Sys2Proof.Machine
end

section
/-!
PROOFS. What holds, releases, faults and the end of units leave of a subindex that no unit's own part writes: the last fault of an engine
(0x2400 + e, 0x0B), and the state of the mode requests (0x7600:05).
-/
namespace Sys2Proof.Machine
-- One proof after another keeps the memory of the whole text's compile low.
set_option Elab.async false

variable {s t : State} {k e n u v i cause verb : Nat}

/-- A subindex 5 or 0x0B of the engines' objects, or above those of the units' parts, and none that raising an event may write. -/
structure Quiet (k : Nat) : Prop where
  event : k ∉ eventKeys
  sub : k % 256 = 5 ∨ k % 256 = 0x0B
  index : 0x2400 ≤ k / 256 ∧ (k / 256 < 0x2500 ∨ 0x7500 ≤ k / 256)

theorem quiet_engineFault (he : e < 12) : Quiet (ek e 0x0B) where
  event := notMem_eventKeys (by simp only [obj_eq]; omega) (by simp only [obj_eq]; omega) (by simp only [obj_eq]; omega)
  sub := by simp only [obj_eq]; omega
  index := by simp only [obj_eq]; omega

theorem quiet_modeRequests : Quiet 0x760005 where
  event := notMem_eventKeys (by decide) (by decide) (by decide)
  sub := by decide
  index := by decide

variable (hk : Quiet k)
include hk

/-- No other subindex of any object. -/
theorem Quiet.ne (i j : Nat) (hj : j % 256 ≠ 5 ∧ j % 256 ≠ 0x0B := by decide) : k ≠ obj i j := by
  have := hk.sub
  simp only [obj_eq]
  omega

/-- No subindex of a part's objects. -/
theorem Quiet.part (i j : Nat) (hi : 0x2500 ≤ i ∧ i < 0x7500 := by omega) (hj : j < 256 := by decide) : k ≠ obj i j := by
  have := hk.index
  simp only [obj_eq]
  omega

theorem Quiet.apart (i : Nat) (L : List Nat) (hi : 0x2500 ≤ i ∧ i < 0x7500 := by omega) (hL : ∀ j ∈ L, j < 256 := by decide) :
    Apart i L k := fun j hj => hk.part i j hi (hL j hj)

theorem Quiet.unit (u j : Nat) (hj : j % 256 ≠ 5 ∧ j % 256 ≠ 0x0B := by decide) : k ≠ desc u j := hk.ne _ _ hj

theorem setUState_quiet {new : Nat} : s.Spares k (s.setUState u new cause verb) := setUState_spares (hk.unit u 2) hk.event

/-! ### Accelerators and chains -/

theorem settleAccel_quiet {a : Nat} : s.Spares k (s.settleAccel cause verb a) := by
  have hrefresh {t : State} : t.Spares k (t.refreshAccel a) := by
    unfold State.refreshAccel
    exact .step (.setNat (hk.unit _ 6)) <| .setNat (hk.unit _ 3)
  unfold State.settleAccel
  exact .ite (.step (setUState_quiet hk) <| .step (.keeps update_accelConfigured_keeps) <|
    .iteElse (.iteElse hrefresh (.setNat (hk.unit _ 4))) (.keeps setAccelOwn_keeps))
    (.iteElse (.iteElse (.iteElse hrefresh (.setNat (hk.unit _ 4))) (.keeps setAccelOwn_keeps)) (setUState_quiet hk))

theorem disturbChain_quiet : s.Spares k (s.disturbChain n) := by
  have := hk.index
  exact disturbChain_spares (by omega) hk.event

theorem endAfCheck_quiet : s.Spares k (s.endAfCheck n) := by
  have hquick {t : State} {off : Bool} : t.Spares k (t.setQuickOff n off) := by
    unfold State.setQuickOff
    exact .ite .refl (.step (.setNat (hk.ne _ 0x0C)) <| .step (.keeps setChain_keeps) <| .keeps setChain_keeps)
  unfold State.endAfCheck
  extract_lets
  split
  · exact .refl
  · exact .step hquick <| .keeps update_following_keeps

theorem endFade_quiet (hn : n < 256) {c : Chain} :
    s.Spares k (match c.fade with
      | none => s
      | some f => ((s.setChain n { c with fade := none }).setNat (cs n 3) (if f.reversing then f.old else f.new)).setNat (cs n 5) 0) := by
  split
  · exact .refl
  · exact .step (.setNat (hk.part (0x3120 + n) 5)) <| .step (.setNat (hk.ne _ 3)) <| .keeps setChain_keeps

theorem holdChain_quiet (hn : n < 256) : s.Spares k (s.holdChain n) := by
  have hbefore : s.Spares k (((s.endAfCheck n).takeDetector n).endTapOf n) :=
    .step (.keeps endTapOf_keeps) <| .step (takeDetector_spares (hk.apart (0x3160 + n) _)) <| endAfCheck_quiet hk
  unfold State.holdChain
  extract_lets s1 s2 c s3 p s4
  have h3 : s.Spares k s3 := hbefore.trans (endFade_quiet hk hn)
  have h4 : s.Spares k s4 := .iteElse h3 (.step (.setNat (hk.ne _ 4)) <| .setNat (hk.ne _ 3))
  exact .step (.keeps shortenCaptures_keeps) <| .step (.keeps setChain_keeps) h4

theorem releaseChain_quiet (hn : n < 256) : s.Spares k (s.releaseChain n) := by
  unfold State.releaseChain
  exact .step (.keeps clearFifo_keeps) <| .step (.keeps setChain_keeps) <| .step (.keeps freeOwner_keeps) <| holdChain_quiet hk hn

/-! ### Engines and their receivers -/

theorem releaseEngine_quiet {why : Nat × Nat} : s.Spares k (s.releaseEngine e why) := by
  unfold State.releaseEngine
  exact .step (.setNat (hk.unit _ 3)) <| .step (.setNat (hk.ne _ 3)) <| .step (.setNat (hk.ne _ 2)) <| .step (.keeps flushInputs_keeps) <|
    .step (.keeps setEngine_keeps) <| .step (.keeps freeOwner_keeps) <| dequeueLoad_spares fun j => hk.ne _ 3

theorem tryPlace_quiet {p : Nat} : s.Spares k (s.tryPlace p) := by
  unfold State.tryPlace
  extract_lets r l
  split
  · exact .refl
  next j _ =>
    refine .ite .refl ?_
    extract_lets e place
    have hplace {t : State} : t.Spares k (place t) := by
      unfold place
      split
      · exact .refl
      · exact .step (.raise hk.event) <| .step (.setNat (hk.ne _ 7)) <| .keeps setEntry_keeps
    split
    · exact .ite .refl (.ite (.keeps setPlumb_keeps) hplace)
    · exact .iteElse (.keeps setPlumb_keeps) hplace

theorem stopNulls_quiet : s.Spares k (s.stopNulls e) := by
  have hlost {p : Nat} {t : State} : t.Spares k (t.protectedLost p) := by
    unfold State.protectedLost
    exact .ite (.step (tryPlace_quiet hk) <| .keeps setPlumb_keeps) .refl
  unfold State.stopNulls
  exact .foldl (fun _ _ _ => .ite hlost .refl) (.step (.setNat (hk.ne _ 2)) <| .setNat (hk.ne _ 3))

theorem clearReceiver_quiet : s.Spares k (s.clearReceiver e) := by
  have hcleared {t : State} {a b c d e f} : t.Keeps [.fms, .dabs, .dabDecoders, .ams, .drms, .drmSel]
      { t with dabs := a, drms := b, fms := c, ams := d, dabDecoders := e, drmSel := f } := .raw
  have hkeys : ∀ p ∈ [(dk e 1, (0 : Int)), (rk e 1, 0), (rdec e 3, 0)], k ≠ p.1 := by
    simp only [List.mem_cons, List.not_mem_nil, or_false, forall_eq_or_imp, forall_eq]
    exact ⟨hk.ne _ 1, hk.ne _ 1, hk.ne _ 3⟩
  exact .step (.keeps hcleared) <| .step (.setAll hkeys) <| stopNulls_quiet hk

theorem idleDab_quiet (he : e < 256) : s.Spares k (((s.setDabState e 0).stopNulls e).judgeSlots e) := by
  have hstate : s.Spares k (s.setDabState e 0) := by
    unfold State.setDabState
    exact .ite .refl (.step (.raise hk.event) <| .ite (.step (.bump (hk.ne _ 8)) <| .step (.keeps setDab_keeps) <| .setNat (hk.ne _ 1))
      (.iteThen (.step (.keeps setDab_keeps) <| .setNat (hk.ne _ 1)) (.bump (hk.ne _ 9))))
  have hslot {m i new : Nat} {u : State} (hm : m < 12) (hi : i < 2) : u.Spares k (u.setSlotState m i new) := by
    unfold State.setSlotState
    exact .ite .refl (.step (.raise hk.event) <| .setNat (hk.part (0x4480 + m) (6 + i) (by omega) (by omega)))
  have hslots {u : State} : u.Spares k (u.judgeSlots e) := by
    unfold State.judgeSlots
    refine .foldl (fun u m hm => .ite (.foldl (fun u i hi => hslot (List.mem_range.mp hm) ?_) .refl) .refl) .refl
    simp only [List.mem_cons, List.not_mem_nil, or_false] at hi
    omega
  exact .step hslots <| .step (stopNulls_quiet hk) hstate

theorem lanternEvent_quiet {kind pi seq mask : Nat} : s.Spares k (s.lanternEvent kind pi seq mask) := by
  unfold State.lanternEvent
  exact .ite (.raise hk.event) .refl

theorem refreshLantern_quiet : s.Spares k s.refreshLantern := by
  unfold State.refreshLantern
  exact .step (.setNat (hk.part 0x4300 0x14)) <| .setNat (hk.part 0x4300 0x13)

theorem changeEntry_quiet {extra : Nat} {c : Entry} : s.Spares k (s.changeEntry i extra c) := by
  have hfields {t : State} {mask : Nat} : t.Spares k (t.fieldsChanged i mask) := by
    unfold State.fieldsChanged
    exact .ite .refl (.ite (.step (lanternEvent_quiet hk) <| .keeps setDbEntry_keeps) (.keeps setDbEntry_keeps))
  have hfollow {t : State} {hit : Bool} : t.Spares k (t.followAnnouncement hit) := by
    unfold State.followAnnouncement
    exact .ite (.raise hk.event) .refl
  have hentry : s.Spares k (s.writeEntry i c) := by
    unfold State.writeEntry
    exact .step (refreshLantern_quiet hk) <| .keeps setDbEntry_keeps
  unfold State.changeEntry
  exact .step hfields <| .iteThen (.step hfollow <| .iteElse hentry (lanternEvent_quiet hk)) (lanternEvent_quiet hk)

theorem clearFields_quiet (he : e < 256) : s.Spares k (s.clearFields e) := by
  have hpublish {t : State} : t.Spares k (t.publishFields e) := by
    unfold State.publishFields
    refine .step (.setAll ?_) <| .step (.setBytes (hk.part (0x4240 + e) 6)) <| .setBytes (hk.part (0x4240 + e) 3)
    simp only [List.mem_cons, List.not_mem_nil, or_false, forall_eq_or_imp, forall_eq]
    exact ⟨hk.ne _ 4, hk.part (0x4240 + e) 5, hk.ne _ 7, hk.ne _ 8⟩
  have hdrop : s.Spares k (s.dropForeground e) := by
    unfold State.dropForeground
    exact .foldl (fun _ _ _ => .ite (changeEntry_quiet hk) .refl) .refl
  unfold State.clearFields
  refine .step hpublish <| .step (.setAll ?_) <| .step (.keeps setFm_keeps) hdrop
  simp only [List.mem_cons, List.not_mem_nil, or_false, forall_eq_or_imp, forall_eq]
  exact ⟨hk.ne _ 1, hk.ne _ 2⟩

theorem fmColdStart_quiet (he : e < 256) : s.Spares k (s.fmColdStart e) := by
  unfold State.fmColdStart
  refine .step (clearFields_quiet hk he) <| .iteElse (.step (.setAll ?_) <| .keeps setFm_keeps) (.keeps await_keeps)
  have hlow (j : Nat) (hj : j < 256 := by decide) : k ≠ fmm e j := hk.part (0x4120 + e) j (by omega) hj
  simp only [List.mem_cons, List.not_mem_nil, or_false, forall_eq_or_imp, forall_eq]
  exact ⟨hlow 1, hlow 2, hlow 3, hlow 4, hlow 5, hlow 6, hlow 7, hlow 8, hlow 9, hlow 0x0A, hlow 0x0B, hlow 0x0C, hlow 0x0D, hk.ne _ 6,
    hk.ne _ 7⟩

theorem fmFlush_quiet (he : e < 256) : s.Spares k (s.fmFlush e) := by
  have hcount {t : State} {i : Nat} {two : Bool} : t.Spares k (t.countCores e i two) := by
    unfold State.countCores
    exact .foldl (fun _ _ _ => .ite .refl (.ite (.bump (hk.ne _ 0x0E)) (.ite (.bump (hk.ne _ 0x0F)) .refl))) .refl
  have hstep {t : State} : t.Spares k (t.fmStep e) := by
    unfold State.fmStep
    extract_lets
    split
    · exact .refl
    · exact .step (.keeps setFm_keeps) <| .step hcount <| .ite (.step (fmColdStart_quiet hk he) <| .keeps setFm_keeps) .refl
  have hrun {t : State} {ended : Bool} : t.Spares k (t.fmRun e ended) := by
    unfold State.fmRun
    exact .step (.keeps setFm_keeps) <| .step (.keeps fmEmit_keeps) <| .foldl (fun _ _ _ => .ite hstep .refl) .refl
  unfold State.fmFlush
  extract_lets
  split
  · exact .refl
  · exact .step hrun <| .keeps setFm_keeps

theorem Quiet.receivers : Outside amDrmRanges k where
  event := hk.event
  range := by
    have := hk.index
    simp only [amDrmRanges, List.mem_cons, List.not_mem_nil, or_false, forall_eq_or_imp, forall_eq]
    omega

theorem idleEngine_quiet (he : e < 256) : s.Spares k (s.idleEngine e) := by
  have hdecoders : s.Spares k ((s.setDrmState e 0).judgeDrm e) := by
    have := hk.index
    exact .step (judgeDrm_spares (by omega)) <| setDrmState_spares (hk.ne _ 1) (hk.ne _ 8) (hk.ne _ 9) (hk.ne _ 0x0A) hk.event
  have ham : s.Spares k (if s.runs e 0x0102 then s.amFlush e else s) := by
    split
    next hruns =>
      have he : e < 12 := by
        simp only [State.runs, State.loadedWith, Bool.and_eq_true, decide_eq_true_eq] at hruns
        exact hruns.1.1
      unfold State.amFlush
      exact .step (amRun_spares hk.receivers he) <| .keeps setAm_keeps
    next => exact .refl
  unfold State.idleEngine
  exact .ite (idleDab_quiet hk he) (.ite hdecoders (.ite (.step (.keeps tapEnds_keeps) <| .keeps tapEnds_keeps)
    (.ite (fmFlush_quiet hk he) ham)))

/-! ### Audio streams, the radio and the harvester -/

theorem setStreamState_quiet {new kind : Nat} (hu : u < 256) : s.Spares k (s.setStreamState u new kind) :=
  setStreamState_spares hk.event (hk.apart (0x5020 + u) _)

theorem leaveGroup_quiet : s.Spares k (s.leaveGroup u) := by
  unfold State.leaveGroup
  exact .step (.setNat (hk.ne _ 0x10)) <| .foldl (fun _ _ _ => .ite (.setNat (hk.ne _ 0x10)) .refl) .refl

theorem clearRing_quiet (hu : u < 256) : s.Spares k (s.clearRing u) := clearRing_spares (hk.apart (0x5020 + u) _)

theorem releaseAudio_quiet (hu : u < 256) : s.Spares k (s.releaseAudio u) := by
  unfold State.releaseAudio
  exact .step (setStreamState_quiet hk hu) <| .step (.keeps setStream_keeps) <| .step (leaveGroup_quiet hk) <| clearRing_quiet hk hu

theorem disarmStream_quiet (hu : u < 256) : s.Spares k (s.disarmStream u) := by
  unfold State.disarmStream
  exact .step (setStreamState_quiet hk hu) <| .step (.keeps setStream_keeps) <| .step (leaveGroup_quiet hk) <| clearRing_quiet hk hu

theorem finishHold_quiet (hu : u < 256) : s.Spares k (s.finishHold u cause verb) := by
  unfold State.finishHold
  exact .step (setUState_quiet hk) <| .step (setStreamState_quiet hk hu) <| .step (.keeps setStream_keeps) <|
    .step (leaveGroup_quiet hk) <| clearRing_quiet hk hu

theorem landStop_quiet : s.Spares k (s.landStop u) := by
  have hn : u % 256 < 256 := Nat.mod_lt _ (by decide)
  have hradio : s.Spares k (s.setRadio 0) := by
    unfold State.setRadio
    exact .step (.setNat (hk.ne 0x6001 1)) <| .keeps update_radio_keeps
  unfold State.landStop
  extract_lets
  split
  · exact .step (disturbChain_quiet hk) <| holdChain_quiet hk hn
  · exact idleEngine_quiet hk hn
  · exact disarmStream_quiet hk hn
  · exact .ite hradio .refl
  · exact .refl

theorem releaseLantern_quiet : s.Spares k s.releaseLantern := by
  have hdatabase : s.Spares k s.clearDatabase := by
    unfold State.clearDatabase
    exact .step (lanternEvent_quiet hk) <| .step (refreshLantern_quiet hk) <| .keeps update_lantern_keeps
  unfold State.releaseLantern
  exact .step (.setBytes (hk.ne 0x4320 1)) <| .step (.setNat (hk.ne 0x4300 0x12)) <| .step (.setNat (hk.ne 0x4300 0x11)) <|
    .step (.setNat (hk.ne 0x4300 0x10)) <| .step (.keeps update_lantern_keeps) <| .step (.keeps clearFifo_keeps) <|
    .step (.keeps freeOwner_keeps) hdatabase

/-! ### Releases and holds -/

theorem freeUnit_quiet : s.Spares k (s.freeUnit u cause verb) := by
  have hn : u % 256 < 256 := Nat.mod_lt _ (by decide)
  have hstate {t : State} : t.Spares k (t.setUState u 0 cause verb) := setUState_quiet hk
  unfold State.freeUnit
  extract_lets n live s1
  have h1 : s.Spares k s1 := .step (.setNat (hk.unit _ 4)) <| .setNat (hk.unit _ 3)
  clear_value s1
  split
  · exact .step hstate <| .step (disturbChain_quiet hk) <| .step (releaseChain_quiet hk hn) h1
  · exact .iteThen h1 (.step (releaseEngine_quiet hk) <| .step (clearReceiver_quiet hk) <| idleEngine_quiet hk hn)
  · exact .step hstate <| .step (releaseAudio_quiet hk hn) h1
  · exact .step hstate <| .step (landStop_quiet hk) h1
  · exact .step hstate <| .step (releaseLantern_quiet hk) h1
  · exact .step hstate h1

theorem clearKeys_quiet {ks : List Nat} (hks : ∀ j ∈ ks, k ≠ j) : s.Spares k (s.clearKeys ks) := by
  induction ks generalizing s with
  | nil => exact .refl
  | cons j ks ih =>
    refine .trans ?_ (ih fun i hi => hks i (List.mem_cons_of_mem _ hi))
    exact (map_get_erase ..).trans (if_neg (hks j (List.mem_cons_self ..)))

theorem courseKeys_quiet (c : Nat) : ∀ j ∈ [desc c 9, desc c 0x0A] ++ (List.range 16).map (fun i => desc c (0x10 + i)), k ≠ j := by
  simp only [List.cons_append, List.nil_append, List.mem_cons, List.mem_map, List.mem_range]
  rintro _ (rfl | rfl | ⟨i, hi, rfl⟩)
  · exact hk.unit c 9
  · exact hk.unit c 0x0A
  · exact hk.unit c (0x10 + i) (by omega)

theorem releaseNow_quiet : s.Spares k (s.releaseNow u cause verb) := by
  unfold State.releaseNow
  extract_lets leaves courses tree s1 why plain s2 s3 s4 s5 s6
  have h2 : s.Spares k s2 := .foldl (fun _ _ _ => .ite (.step (setUState_quiet hk) <| landStop_quiet hk) .refl) (.keeps update_holdings_keeps)
  have h3 : s.Spares k s3 := .foldl (fun _ _ _ => .ite (setUState_quiet hk) .refl) h2
  have h4 : s.Spares k s4 := .foldl (fun _ _ _ => freeUnit_quiet hk) h3
  have h5 : s.Spares k s5 := .foldl (fun _ _ _ => .keeps returnShares_keeps) h4
  have h6 : s.Spares k s6 := .foldl (fun _ c _ => .step (setUState_quiet hk) <| .step (.setNat (hk.unit c 4)) <|
    .step (.setNat (hk.unit c 3)) <| clearKeys_quiet hk (courseKeys_quiet hk c)) h5
  exact .foldl (fun _ _ _ => settleAccel_quiet hk) h6

theorem endHold_quiet {h : Holding} : s.Spares k (s.endHold h) := by
  unfold State.endHold
  extract_lets s1 s2 s3
  have h2 : s.Spares k s2 := .foldl (fun _ _ _ => .ite (setUState_quiet hk) .refl) (.keeps update_holdings_keeps)
  have h3 : s.Spares k s3 := .ite (.step (setUState_quiet hk) <| .step (.keeps setAccelOwn_keeps) h2)
    (.foldl (fun _ _ _ => .ite (settleAccel_quiet hk) .refl) h2)
  split
  · exact .step (releaseNow_quiet hk) h3
  · exact h3

theorem holdLeaf_quiet {h : Holding} : s.Spares k (s.holdLeaf h u) := by
  have hn : u % 256 < 256 := Nat.mod_lt _ (by decide)
  have hland : s.Spares k (s.landHold (u % 256)).1 := by
    unfold State.landHold
    extract_lets
    exact .iteFst (.keeps setStream_keeps) (.step (setStreamState_quiet hk hn) <| .keeps setStream_keeps)
  unfold State.holdLeaf
  exact .ite .refl (.ite (.iteThen hland (finishHold_quiet hk hn)) (.ite (.keeps setEngine_keeps)
    (.step (setUState_quiet hk) <| landStop_quiet hk)))

theorem settleHold_quiet {h : Holding} : s.Spares k (s.settleHold h) := by
  unfold State.settleHold
  exact .foldl (fun _ _ _ => .ite (setUState_quiet hk) .refl) .refl

theorem advanceHold_quiet {top : Nat} : s.Spares k (s.advanceHold top) := by
  unfold State.advanceHold
  split
  · exact .refl
  · split
    · exact endHold_quiet hk
    · have hleaves {h : Holding} {us : List Nat} : s.Spares k (us.foldl (fun s u => s.holdLeaf h u) s) :=
        .foldl (fun _ _ _ => holdLeaf_quiet hk) .refl
      exact .ite (.step (endHold_quiet hk) <| .step (.keeps update_holdings_keeps) hleaves)
        (.step (settleHold_quiet hk) <| .step (.keeps update_holdings_keeps) hleaves)

theorem actAndHold_quiet (act : State → State) : (act s).Spares k (s.actAndHold act) := by
  unfold State.actAndHold
  exact .foldl (fun _ _ _ => advanceHold_quiet hk) .refl

theorem removeEntries_quiet {reason : Nat} {p : LaunchEntry → Bool} : s.Spares k (s.removeEntries reason p) := by
  have hremove {t : State} {n : Nat} : t.Spares k (t.removeEntry reason n) := by
    unfold State.removeEntry
    split
    · exact .refl
    · exact .step (.raise hk.event) <| .step (.keeps update_prep_keeps) <| .keeps setEntry_keeps
  unfold State.removeEntries
  refine .foldl (fun t n _ => ?_) .refl
  split
  · exact .ite hremove .refl
  · exact .refl

theorem releaseTree_quiet : s.Spares k (s.releaseTree u cause verb) := by
  unfold State.releaseTree
  exact .ite (.step (releaseNow_quiet hk) <| removeEntries_quiet hk) (.step (advanceHold_quiet hk) <| .step (.keeps beginHold_keeps) <|
    .step (.keeps update_holdings_keeps) <| removeEntries_quiet hk)

/-- A fault that climbs through the courses writes their cause, subindex 5, besides (R36). -/
theorem faultUnit_quiet {code : Nat} (hsub : k % 256 = 0x0B) : s.Spares k (s.faultUnit u code) := by
  have hcause (v : Nat) : k ≠ desc v 5 := by
    simp only [desc, obj_eq]
    omega
  have hcourse (fuel : Nat) : ∀ {s : State} {u : Nat}, s.Spares k (s.faultCourse fuel u) := by
    induction fuel with
    | zero => exact .refl
    | succ fuel ih =>
      intro s u
      unfold State.faultCourse
      exact .ite .refl (.ite (.setNat (hk.unit _ 0x0A))
        (.trans (.step (.setNat (hcause _)) <| .step (setUState_quiet hk) <| .keeps beginHold_keeps) ih))
  unfold State.faultUnit
  exact .step (hcourse _) <| .step (.setNat (hcause _)) <| setUState_quiet hk

end Sys2Proof.Machine
end

section
/-!
PROOFS. What the commands of the lifecycle, authorisation, the key store, the access violations and the TAP leave (R414, R418 to R422,
R426, R428, R430).
-/
namespace Sys2Proof.Machine
-- One proof after another keeps the memory of the whole text's compile low.
set_option Elab.async false

variable {s t : State} {r : Requester} {b rest : Bytes} {m n target right region address v : Nat}

/-! ### Lifecycle, challenges and responses -/

@[simp] theorem setLevel_level (level signer : Nat) (s : State) : (s.setLevel level signer).nat 0x830001 = level := by
  unfold State.setLevel
  extract_lets old
  split
  next hlevel => simpa [setNat_nat] using hlevel
  next => rw [raise_nat_other _ _ _ _ _ (by decide) (by decide) (by decide), setNat_nat, if_neg (by decide), setNat_nat, if_pos rfl]

@[simp] theorem setLevel_otp (level signer : Nat) (s : State) : (s.setLevel level signer).otp = s.otp := setLevel_keeps.same .otp (by decide)

@[simp] theorem setLevel_flash (level signer : Nat) (s : State) : (s.setLevel level signer).flash = s.flash :=
  setLevel_keeps.same .flash (by decide)

@[simp] theorem setLevel_sec (level signer : Nat) (s : State) : (s.setLevel level signer).sec = s.sec := setLevel_keeps.same .sec (by decide)

@[simp] theorem securityOutcome_otp (code cmd : Nat) (s : State) : (s.securityOutcome code cmd).otp = s.otp :=
  securityOutcome_keeps.same .otp (by decide)

@[simp] theorem securityOutcome_flash (code cmd : Nat) (s : State) : (s.securityOutcome code cmd).flash = s.flash :=
  securityOutcome_keeps.same .flash (by decide)

@[simp] theorem securityOutcome_sec (code cmd : Nat) (s : State) : (s.securityOutcome code cmd).sec = s.sec :=
  securityOutcome_keeps.same .sec (by decide)

@[simp] theorem securityOutcome_level (code cmd : Nat) (s : State) : (s.securityOutcome code cmd).nat 0x830001 = s.nat 0x830001 :=
  issuePaired_nat _ _ s (by decide) (by decide) (by decide) (by decide)

theorem stepToSecured_gives (haccepts : s.Accepts r 0x800002 [1]) (hblank : s.lifecycle = 0)
    (hslot : (List.range 4).any s.otp.usable = true) :
    Gives (.stepToSecured r) s fun t => t.otp.securedFuses = 8 ∧ t.nat 0x830001 = 0 := by
  have hblank' : (s.autoTake r 0x800002).lifecycle = 0 := (congrArg Otp.lifecycle (autoTake_otp r _ s)).trans hblank
  have hslot' : (List.range 4).any (s.autoTake r 0x800002).otp.usable = true := by rwa [autoTake_otp]
  have hact : State.stepToSecured 1 (s.autoTake r 0x800002) =
      ((({ s.autoTake r 0x800002 with otp := { (s.autoTake r 0x800002).otp with securedFuses := 8 } } : State).setLevel 0 0xFF).raise
        3 3 0x8000 []).securityOutcome 0 1 := by
    unfold State.stepToSecured
    rw [hblank', hslot']
    rfl
  refine gives_request rfl haccepts rfl ?_
  simp [accept, hact, touch_nat_other, raise_nat_other]

theorem challengeRequest_gives (haccepts : s.Accepts r 0x800101 [1]) (hwait : s.challengeWait = false) :
    Gives (.challengeRequest r) s fun t => t.sec.challenge = some ⟨(t.bytes 0x800102).drop 2, s.gnomon⟩ := by
  have hact : (s.autoTake r 0x800101).requestChallenge =
      ((s.autoTake r 0x800101).newChallenge.1.issuePaired 0x800102 0 (s.autoTake r 0x800101).newChallenge.2, 0) := by
    have hwait' : (s.autoTake r 0x800101).challengeWait = false := by
      simpa [State.challengeWait] using hwait
    unfold State.requestChallenge
    rw [hwait']
    rfl
  refine gives_request rfl haccepts (by rw [hact]) ?_
  rw [hact]
  generalize hc : (s.autoTake r 0x800101).newChallenge = c
  obtain ⟨u, body⟩ := c
  have hissued : ((u.issuePaired 0x800102 0 body).bytes 0x800102).drop 2 = body := by
    unfold State.issuePaired
    rw [bytes_of_val (raise_val _ _ _ _ _ (by decide) (by decide) (by decide)), issue_body]
  have hmade : u.sec.challenge = some ⟨body, s.gnomon⟩ := by
    simp only [State.newChallenge, Prod.mk.injEq] at hc
    obtain ⟨hu, hbody⟩ := hc
    rw [← hu, ← hbody]
    simp
  rw [bytes_of_val (reply_val ..), bytes_of_val (touch_val _ _ (by decide)), hissued, answered_sec, issuePaired_keeps.same .sec (by decide), hmade]

theorem challengeExpiry_gives {c : Challenge} (hheld : s.sec.challenge = some c) (hdue : c.at_ + challengeTicks ≤ s.gnomon) :
    Gives .challengeExpiry s fun t => t.sec.challenge = none := by
  refine gives_next (t := { s with sec := { s.sec with challenge := none } }) ?_ rfl
  show execChallengeExpiry s = _
  unfold execChallengeExpiry
  rw [hheld]
  exact congrArg Host.Outcome.next (if_pos hdue)

/-- A response is judged by what the automatic take leaves. -/
theorem judgeResponse_autoTake (purposes : List Nat) (b : Bytes) (r : Requester) (key : Nat) (s : State) : (s.autoTake r key).judgeResponse purposes b = s.judgeResponse purposes b := by
  have huse : (s.autoTake r key).keyUse = s.keyUse := by
    simp [State.keyUse, State.debugLevel, State.lifecycle]
  simp [State.judgeResponse, State.lifecycle, State.debugKey, huse]

@[simp] theorem settleResponse_challenge (code : Nat) (s : State) : (s.settleResponse code).sec.challenge = none := by
  unfold State.settleResponse
  extract_lets s1
  split
  · rfl
  · exact congrArg Security.challenge (raise_sec ..)

@[simp] theorem settleResponse_tap (code : Nat) (s : State) : (s.settleResponse code).sec.tap = s.sec.tap := by
  unfold State.settleResponse
  extract_lets s1
  split
  · rfl
  · exact (congrArg Security.tap (raise_sec ..)).trans rfl

@[simp] theorem stepToReturned_sec (s : State) : s.stepToReturned.sec = s.sec := stepToReturned_keeps.same .sec (by decide)

theorem stepToReturned_fuses (s : State) : s.stepToReturned.otp.returnedFuses = 8 ∧ s.stepToReturned.flash.keys = [] := by
  unfold State.stepToReturned
  extract_lets grants u
  rw [raise_otp, raise_flash, setLevel_otp, setLevel_flash, clearKeys_keeps.same .otp (by decide), clearKeys_keeps.same .flash (by decide)]
  exact ⟨rfl, rfl⟩

@[simp] theorem revokeSlot_sec (slot : Nat) (s : State) : (s.revokeSlot slot).1.sec = s.sec := revokeSlot_keeps.same .sec (by decide)

@[simp] theorem authorised_challenge (b : Bytes) (s : State) : (s.authorised b).sec.challenge = none := by
  unfold State.authorised
  extract_lets c purpose s1 p
  split
  · simp [s1]
  · split
    · simp [p, s1]
    · split <;> simp [s1]

theorem authorised_returns (hjudged : s.judgeResponse [3, 4] (3 :: rest) = 0) (hsecured : s.lifecycle = 1) :
    (s.authorised (3 :: rest)).otp.returnedFuses = 8 ∧ (s.authorised (3 :: rest)).flash.keys = [] := by
  have h : s.authorised (3 :: rest) = (s.settleResponse 0).stepToReturned.securityOutcome 0 3 := by
    unfold State.authorised
    rw [hjudged]
    exact (if_neg (fun h => h rfl)).trans <| (if_neg (show ¬ (3 : Nat) = 4 by decide)).trans <|
      if_neg (show ¬ (s.settleResponse 0).lifecycle ≠ 1 from not_not.mpr hsecured)
  rw [h, securityOutcome_otp, securityOutcome_flash]
  exact stepToReturned_fuses _

theorem stepToReturned_gives (haccepts : s.Accepts r 0x800201 (3 :: rest)) :
    Gives (.stepToReturned r rest) s fun t => t.sec.challenge = none ∧
      (s.judgeResponse [3, 4] (3 :: rest) = 0 → s.lifecycle = 1 → t.otp.returnedFuses = 8 ∧ t.flash.keys = []) := by
  refine gives_request rfl haccepts rfl ⟨by simp [accept], fun hjudged hsecured => ?_⟩
  rw [answered_otp, answered_flash]
  exact authorised_returns ((judgeResponse_autoTake ..).trans hjudged) ((congrArg Otp.lifecycle (autoTake_otp r _ s)).trans hsecured)

/-- A slot may not be revoked where no other would be left, or while an image that runs bears its signature (R418). -/
def State.slotKept (slot : Nat) (s : State) : Bool :=
  !((List.range 4).any fun i => i != slot && s.otp.usable i) || s.flash.run.images.any fun i => i.kind == 1 && i.slot == slot

theorem revokeSlot_eq (slot : Nat) (s : State) : s.revokeSlot slot =
    if s.slotKept slot then (s, 0x1C04) else ({ s with otp := { s.otp with revoked := setBit s.otp.revoked slot } }, 0) := rfl

theorem revokeSlot_done (slot : Nat) (s : State) (h : (s.revokeSlot slot).2 = 0) : s.slotKept slot = false := by
  rw [revokeSlot_eq] at h
  by_contra hkept
  rw [if_pos (Bool.eq_true_of_not_eq_false hkept)] at h
  exact Nat.noConfusion h

theorem authorised_revokes (hjudged : s.judgeResponse [3, 4] (4 :: rest) = 0) (hslot : (s.revokeSlot (nthD rest 1 0)).2 = 0) :
    (s.authorised (4 :: rest)).otp.revoked = setBit s.otp.revoked (nthD rest 1 0) := by
  have h : s.authorised (4 :: rest) =
      ((s.settleResponse 0).revokeSlot (nthD rest 1 0)).1.securityOutcome ((s.settleResponse 0).revokeSlot (nthD rest 1 0)).2 4 := by
    have hbyte : nthD (4 :: rest) 2 0 = nthD rest 1 0 := by rfl
    unfold State.authorised
    rw [hjudged, hbyte]
    exact (if_neg (fun h => h rfl)).trans (if_pos rfl)
  have hkept : (s.settleResponse 0).slotKept (nthD rest 1 0) = false := revokeSlot_done _ s hslot
  rw [h, securityOutcome_otp, revokeSlot_eq, hkept]
  rfl

theorem revokeSlot_gives (haccepts : s.Accepts r 0x800201 (4 :: rest)) :
    Gives (.revokeSlot r rest) s fun t => t.sec.challenge = none ∧
      (s.judgeResponse [3, 4] (4 :: rest) = 0 → (s.revokeSlot (nthD rest 1 0)).2 = 0 →
        t.otp.revoked = setBit s.otp.revoked (nthD rest 1 0)) := by
  refine gives_request rfl haccepts rfl ⟨by simp [accept], fun hjudged hslot => ?_⟩
  have hkept : (s.autoTake r 0x800201).slotKept (nthD rest 1 0) = false := by
    rw [State.slotKept, autoTake_otp, autoTake_flash]
    exact revokeSlot_done _ s hslot
  have hslot' : ((s.autoTake r 0x800201).revokeSlot (nthD rest 1 0)).2 = 0 := by
    rw [revokeSlot_eq, hkept]
    rfl
  rw [answered_otp]
  refine (authorised_revokes ((judgeResponse_autoTake ..).trans hjudged) hslot').trans ?_
  rw [autoTake_otp]

/-! ### The key store and the debug level -/

theorem unruled_keySlot (hn : n < 32) : Unruled (obj 0x8100 (n + 1)) := by
  have hkey : obj 0x8100 (n + 1) / 256 = 0x8100 ∧ obj 0x8100 (n + 1) % 256 = n + 1 := by
    unfold obj
    omega
  revert hn hkey
  generalize obj 0x8100 (n + 1) = key
  intro hn ⟨hidx, hsub⟩
  have hlow : 0x810000 < key := by omega
  have hhigh : key ≤ 0x810020 := by omega
  constructor
  case spelled => exact fun s i b => ⟨followRule_eq_zero (by omega) s i b, by simp (disch := omega) [State.meshRule, if_neg]⟩
  case signed =>
    refine fun s i => ⟨?_, ?_, ?_, ?_, ?_, ?_, ?_⟩
    · simp [State.rfRule, hidx]
    · simp [State.plumbRule, hidx]
    · simp [State.dabRule, hidx]
    · simp [State.amDrmRule, hidx]
    · simp (disch := omega) [State.radioRule, if_neg]
    · unfold State.linkRule
      extract_lets v
      split <;> omega
    · simp (disch := omega) [State.mgmtRule, if_neg]
  case numbered =>
    refine fun s k => ⟨?_, ?_, ?_⟩
    · simp [State.captureRule, hidx]
    · simp (disch := omega) [State.portRule, hidx, if_neg]
    · simp (disch := omega) [State.courseRule, hidx, if_neg]
  case reserved => simp (disch := omega) [reservedBits, hidx, if_neg]
  case chain => simp [chainRule, hidx]
  case lantern => exact fun i => if_neg (by omega)
  case fm => exact fun s i => by simp [fmRule, hidx]
  case access => exact fun k b => by simp (disch := omega) [accessRule, hidx, if_neg]
  case gloaming => exact fun s b => by simp (disch := omega) [State.gloamingRule, hidx, if_neg]

theorem findRow_keySlot : ∀ n < 32, findRow (obj 0x8100 (n + 1)) = some ⟨0x8100, 1, 0x01, 0x20, .dom 24 72, .wo, 0, []⟩ := by
  decide

theorem applyWrite_keySlot (hn : n < 32) (b : Bytes) (s : State) :
    s.applyWrite (obj 0x8100 (n + 1)) b = s.writeKeySlot n b := by
  have hrule : s.valueRule (obj 0x8100 (n + 1)) ⟨0x8100, 1, 0x01, 0x20, .dom 24 72, .wo, 0, []⟩ (.raw b) b = 0 :=
    valueRule_eq_tableRange (unruled_keySlot hn)
  have hact : s.act7 (obj 0x8100 (n + 1)) 0 (.raw b) b = some (s.writeKeySlot n b) := by
    unfold State.act7
    have hkey : obj 0x8100 (n + 1) / 256 = 0x8100 ∧ obj 0x8100 (n + 1) % 256 = n + 1 := by
      unfold obj
      omega
    obtain ⟨hidx, hsub⟩ := hkey
    rw [hidx, hsub]
    have hne {k : Nat} (hk : k < 0x810000) : obj 0x8100 (n + 1) ≠ k := by omega
    simp [hne]
  unfold State.applyWrite
  rw [findRow_keySlot n hn]
  simp only [decodeVal, hrule, Int.toNat_zero, hact]
  rw [if_neg (not_not.mpr rfl), if_neg (by unfold obj; omega), if_neg (by unfold obj; omega)]

/-- A network key for an empty slot, of an index that no other slot holds, is stored (R420). -/
theorem writeKeySlot_network {i : Nat} {key : Bytes} (hi : 1 ≤ i) (hlength : key.length = 16) (hempty : (s.keySlot n).type = 0)
    (hnew : (s.flash.keys.all fun p => p.2.type != 1 || p.2.index != i) = true) :
    s.writeKeySlot n ([1, i, 0, 0, 0, 0, 0, 0] ++ key) =
      (({ s with flash := { s.flash with keys := Map.put (fun _ => KeySlot.empty) s.flash.keys n ⟨1, i, key⟩ } } : State).keyEvent 0x8100, 0) := by
  have hother : ((s.flash.keys.filter fun p => p.1 != n && p.2.type != 0).any fun p => p.2.type == 1 && p.2.index == i) = false := by
    rw [List.any_eq_false]
    intro p hp
    have hp' := List.all_eq_true.mp hnew p (List.mem_filter.mp hp).1
    simp only [bne_iff_ne, Bool.or_eq_true] at hp'
    simp only [Bool.and_eq_true, beq_iff_eq, not_and]
    exact fun htype => hp'.resolve_left (not_not.mpr htype)
  have hzero : sliceB (1 :: i :: 0 :: 0 :: 0 :: 0 :: 0 :: 0 :: key) 2 6 = [0, 0, 0, 0, 0, 0] := rfl
  have hi' : (i == 0) = false := by simpa using (by omega : i ≠ 0)
  unfold State.writeKeySlot
  extract_lets type index others c k
  have htype : type = 1 := rfl
  have hindex : index = i := rfl
  have hc : c = 0 := by
    simp [c, firstCode, refuseIf, htype, hindex, hlength, hempty, hi', others, hother, hzero]
  rw [if_neg (not_not.mpr hc)]
  rfl

theorem keySlotWrite_gives {i : Nat} {key : Bytes} (hn : n < 32) (hi : 1 ≤ i) (hlength : key.length = 16)
    (haccepts : s.Accepts r (obj 0x8100 (n + 1)) ([1, i, 0, 0, 0, 0, 0, 0] ++ key)) (hempty : (s.keySlot n).type = 0)
    (hnew : (s.flash.keys.all fun p => p.2.type != 1 || p.2.index != i) = true) :
    Gives (.keySlotWrite r n ([1, i, 0, 0, 0, 0, 0, 0] ++ key)) s fun t => t.keySlot n = ⟨1, i, key⟩ := by
  have hexec (data : Bytes) : exec (.keySlotWrite r n data) s =
      .next (s.request r (obj 0x8100 (n + 1)) data (State.applyWrite (obj 0x8100 (n + 1)) data)) := by
    show execKeySlotWrite r n data s = _
    unfold execKeySlotWrite
    rw [Nat.mod_eq_of_lt hn]
  have hact := (applyWrite_keySlot hn _ (s.autoTake r (obj 0x8100 (n + 1)))).trans
    (writeKeySlot_network hi hlength (by rwa [State.keySlot, autoTake_flash]) (by rwa [autoTake_flash]))
  refine gives_request (hexec _) haccepts (by rw [hact]) ?_
  rw [hact, State.keySlot, answered_flash, keyEvent_keeps.same .flash (by decide), autoTake_flash]
  exact (map_get_put (fun _ => KeySlot.empty) s.flash.keys n n ⟨1, i, key⟩).trans (if_pos rfl)

theorem keySlotErase_gives (hn : n < 32) (haccepts : s.Accepts r 0x812001 [n])
    (hunnamed : (s.keySlot n).type ≠ 1 ∨ ((s.keySlot n).index ≠ s.nat 0x602402 ∧ (s.keySlot n).index ≠ s.nat 0x602403)) :
    Gives (.keySlotErase r n) s fun t => t.flash.keys = s.flash.keys.erase n := by
  have hexec : exec (.keySlotErase r n) s = .next (s.request r 0x812001 [n] (State.eraseSlot n)) := by
    rw [← leNat_one (by omega)]
    rfl
  have hslot : (s.autoTake r 0x812001).keySlot n = s.keySlot n := by rw [State.keySlot, autoTake_flash, State.keySlot]
  have hact : (s.autoTake r 0x812001).eraseSlot n =
      (({ s.autoTake r 0x812001 with flash := { (s.autoTake r 0x812001).flash with
        keys := (s.autoTake r 0x812001).flash.keys.erase n } } : State).keyEvent 0x8120, 0) := by
    refine if_neg ?_
    rw [hslot, autoTake_nat _ _ _ (by decide) (by decide) (by decide) (by decide),
      autoTake_nat _ _ _ (by decide) (by decide) (by decide) (by decide)]
    omega
  refine gives_request hexec haccepts (by rw [hact]) ?_
  rw [hact, answered_flash, keyEvent_keeps.same .flash (by decide), autoTake_flash]

theorem lowerLevel_gives (haccepts : s.Accepts r 0x830003 [v]) (hv : v ≤ s.debugLevel) :
    Gives (.lowerLevel r v) s fun t => t.nat 0x830001 = v := by
  have hrange := tableRange_of_accepts (row := ⟨0x8300, 1, 0x03, 0x03, .u8, .cmd, 0, [(0, 2)]⟩) haccepts (by decide) rfl
  have hbyte : v < 256 := by
    simp [tableRange, decodeVal, Ty.isSigned, ofLe_one, refuseIf, rangeCode] at hrange
    omega
  have hexec : exec (.lowerLevel r v) s = .next (s.request r 0x830003 [v] (State.lowerLevel v)) := by
    rw [← leNat_one hbyte]
    rfl
  have hact : (s.autoTake r 0x830003).lowerLevel v =
      ((s.autoTake r 0x830003).setLevel v (if v = 0 then 0xFF else (s.autoTake r 0x830003).nat 0x830002), 0) := by
    refine if_neg ?_
    rw [State.debugLevel, autoTake_nat _ _ _ (by decide) (by decide) (by decide) (by decide)]
    exact Nat.not_lt.mpr hv
  refine gives_request hexec haccepts (by rw [hact]) ?_
  rw [hact, reply_nat, touch_nat_other _ _ (by decide), setLevel_level]

/-! ### The TAP -/

@[simp] theorem tap_sec (code : Nat) (out : List Bytes) (s : State) : (s.tap code out).sec = { s.sec with tap := code } := rfl

theorem tap_out (code : Nat) (out : List Bytes) (s : State) : ((s.tap code out).port 4).out = out := by
  unfold State.tap
  rw [setPort_port, if_pos rfl]

theorem dbgChallenge_gives (hserves : s.tapServes = true) (hwait : s.challengeWait = false) :
    Gives .dbgChallenge s fun t => t.sec.tap = 0x21 ∧ t.sec.challenge = (t.port 4).out.head?.map fun b => ⟨b, s.gnomon⟩ := by
  refine gives_next (t := s.newChallenge.1.tap 0x21 [s.newChallenge.2]) ?_ ⟨rfl, ?_⟩
  · show execDbgChallenge s = _
    unfold execDbgChallenge
    rw [hserves, hwait]
    rfl
  · rw [tap_out]
    rfl

theorem dbgResponse_gives (hserves : s.tapServes = true) : Gives (.dbgResponse b) s fun t => t.sec.tap = 0x22 ∧ t.sec.challenge = none ∧
    (s.judgeResponse [1, 2] (padTo 132 b) = 0 → t.nat 0x830001 = nthD (padTo 132 b) 0 0) := by
  generalize hc : s.judgeResponse [1, 2] (padTo 132 b) = c
  have hexec : exec (.dbgResponse b) s = .next (if c ≠ 0 then (s.tap 0x22 []).settleResponse c
      else (((s.tap 0x22 []).settleResponse c).setLevel (nthD (padTo 132 b) 0 0) (nthD (padTo 132 b) 1 0)).bump 0x830004) := by
    show execDbgResponse b s = _
    unfold execDbgResponse
    rw [hserves, ← hc]
    rfl
  refine gives_next hexec ?_
  split
  next hrefused => exact ⟨by simp, by simp, fun h => absurd h hrefused⟩
  next => exact ⟨by rw [bump_keeps.same .sec (by decide)]; simp, by rw [bump_keeps.same .sec (by decide)]; simp, fun _ => by
    rw [bump_nat, if_neg (by decide), setLevel_level]⟩

/-- A core that the port reaches, at level FULL (R428). -/
theorem exec_coreDebug {operation : Nat} (hserves : s.tapServes = true) (hfull : s.debugLevel = 2) (hcore : m = 0 ∨ m = 1 ∨ m = 15) :
    exec (.coreDebug m operation n) s = .next (match operation with
      | 0 => { s.tap 0x30 [] with sec := { (s.tap 0x30 []).sec with halted := (s.tap 0x30 []).sec.halted.filter (· != m) } }
      | 1 | 2 => { s.tap 0x30 [] with sec := { (s.tap 0x30 []).sec with halted := insertSorted m (s.tap 0x30 []).sec.halted } }
      | 3 => ((s.tap 0x30 []).fresh (256 ^ n)).2.tap 0x30 [leNat n ((s.tap 0x30 []).fresh (256 ^ n)).1]
      | _ => s.tap 0x30 []) := by
  show execCoreDebug m operation n s = _
  unfold execCoreDebug
  have hserved : ¬ ((!s.tapServes) = true ∨ s.debugLevel ≠ 2 ∨ (!(m == 0 || m == 1 || m == 15)) = true) := by
    simp only [hserves, hfull]
    rcases hcore with rfl | rfl | rfl <;> decide
  exact congrArg Host.Outcome.next (if_neg hserved)

theorem coreDebug_reads (hserves : s.tapServes = true) (hfull : s.debugLevel = 2) (hcore : m = 0 ∨ m = 1 ∨ m = 15) :
    Gives (.coreDebug m 3 n) s fun t => (t.port 4).out.map List.length = [n] := by
  refine gives_next (exec_coreDebug hserves hfull hcore) ?_
  show ((State.tap _ _ _).port 4).out.map List.length = [n]
  rw [tap_out]
  simp

theorem idcode_gives : Gives .idcode s fun t => t.sec.tap = 2 ∧ (t.port 4).out = [leNat 4 0x22460B47] :=
  gives_next rfl ⟨rfl, tap_out ..⟩

theorem dbgStatus_gives : Gives .dbgStatus s fun t => t.sec.tap = 0x20 ∧ (t.port 4).out =
    [[s.debugLevel % 4 + 4 * (s.lifecycle % 4) + 16 * boolNat s.ready + 32 * boolNat s.sec.challenge.isSome]] :=
  gives_next rfl ⟨rfl, tap_out ..⟩

theorem samplePreload_gives : Gives (.samplePreload b) s fun t => t.sec.tap = 1 ∧ t.sec.preload = b ∧
    (t.port 4).out.map List.length = [b.length] := by
  refine gives_next rfl ⟨rfl, rfl, ?_⟩
  show ((State.tap _ _ _).port 4).out.map List.length = _
  rw [tap_out]
  simp

theorem takeBalls_holds (code : Nat) : (s.takeBalls code true).sec.boundaryHold = true ∧ (s.takeBalls code true).nat 0x830001 = 0 := by
  refine ⟨?_, setLevel_level ..⟩
  unfold State.takeBalls
  exact congrArg Security.boundaryHold (setLevel_sec ..)

/-! ### Access violations -/

/-- A violation counted, recorded, logged and told (R426), before what follows it. -/
def State.recordViolation (master target right region address : Nat) (s : State) : State :=
  ((((s.bump (obj 0x8040 (master + 1))).setBytes 0x804101
    ([master, target % 256, right % 16, region % 256] ++ leNat 4 address ++ leNat 8 s.gnomon)).appendLog 3 1
    (master * 256 + target % 256)).tell 3 1 0x8041 [])

/-- What violations by a master stand within 1 s. -/
def State.recentViolations (s : State) : List (Nat × Nat) := s.sec.violations.filter fun v => decide (s.gnomon < v.2 + 1000 * msTicks)

/-- A violation counted towards SAFE with those that stand (R426, R447). -/
def State.countViolation (recent : List (Nat × Nat)) (master : Nat) (s : State) : State :=
  let u : State := { s with sec := { s.sec with violations := recent ++ [(master, s.gnomon)] } }
  if 3 ≤ (recent.filter fun v => v.1 == master).length then u.askSafe 4 master 4 else u

theorem countViolation_keeps {recent : List (Nat × Nat)} : s.Keeps [.sec, .power] (s.countViolation recent m) := by
  unfold State.countViolation
  exact .iteThen (.step update_sec_keeps .refl) (.step askSafe_keeps .refl)

theorem recordViolation_keeps : s.Keeps [.dict, .awaiting, .events, .log] (s.recordViolation m target right region address) :=
  .step tell_keeps <| .step appendLog_keeps <| .step setBytes_keeps <| .step bump_keeps .refl

theorem recordViolation_val {k : Nat} (h : k / 256 ≠ 0x9800) (hsync : k ≠ 0x102007) (hlog : k ≠ 0x710007) :
    (s.recordViolation m target right region address).val k = ((s.bump (obj 0x8040 (m + 1))).setBytes 0x804101
      ([m, target % 256, right % 16, region % 256] ++ leNat 4 address ++ leNat 8 s.gnomon)).val k := by
  unfold State.recordViolation
  have hk := notMem_eventKeys h hsync hlog
  rw [(tell_eventsOnly ..).2 _ hk, (appendLog_eventsOnly ..).2 _ hk]

theorem recordViolation_count (hm : m < 24) : (s.recordViolation m target right region address).nat (obj 0x8040 (m + 1)) =
    satAdd 32 (s.nat (obj 0x8040 (m + 1))) 1 := by
  have hkey : obj 0x8040 (m + 1) / 256 = 0x8040 := by
    unfold obj
    omega
  rw [nat_of_val (recordViolation_val (by omega) (by omega) (by omega)), setBytes_nat _ _ _ _ (by omega), bump_nat, if_pos rfl]

theorem recordViolation_record : (s.recordViolation m target right region address).bytes 0x804101 =
    [m, target % 256, right % 16, region % 256] ++ leNat 4 address ++ leNat 8 s.gnomon := by
  rw [bytes_of_val (recordViolation_val (by decide) (by decide) (by decide)), setBytes_bytes, if_pos rfl]

theorem violation_eq : s.violation m target right region address =
    if 3 ≤ m ∧ m ≤ 14 then
      if (s.recordViolation m target right region address).engineLive (m - 3) then
        (s.recordViolation m target right region address).faultEngine (m - 3) 0x0203
      else s.recordViolation m target right region address
    else if m = 0 ∨ m = 19 then s.recordViolation m target right region address
    else (s.recordViolation m target right region address).countViolation
      (s.recordViolation m target right region address).recentViolations m := rfl

theorem exec_accessViolation (hmonitored : s.monitored = true) (hm : m < 24) (hdenied : s.permits m target (right % 16) address = false) :
    exec (.accessViolation m target right region address) s =
      .next (s.actAndHold fun s => if !s.monitored ∨ 23 < m ∨ s.permits m target (right % 16) address then s
        else s.violation m (target % 256) right region address) ∧
    (if !s.monitored ∨ 23 < m ∨ s.permits m target (right % 16) address then s
        else s.violation m (target % 256) right region address) = s.violation m (target % 256) right region address := by
  refine ⟨rfl, if_neg ?_⟩
  rw [hmonitored, hdenied]
  simp only [Bool.not_true, Bool.false_eq_true, false_or, or_false]
  omega

/-- A violation that is denied is handled (R426), where no hold begins with it. -/
theorem accessViolation_gives {P : State → Prop} (hmonitored : s.monitored = true) (hm : m < 24)
    (hdenied : s.permits m target (right % 16) address = false)
    (hheld : (s.violation m (target % 256) right region address).holdings = s.holdings)
    (h : P (s.violation m (target % 256) right region address)) : Gives (.accessViolation m target right region address) s P :=
  have ⟨hexec, hact⟩ := exec_accessViolation (region := region) hmonitored hm hdenied
  gives_acting hexec hact hheld h

theorem accessViolation_ignored (hmonitored : s.monitored = true) (hmaster : m = 0 ∨ m = 19)
    (hdenied : s.permits m target (right % 16) address = false) :
    Gives (.accessViolation m target right region address) s fun t =>
      t.nat (obj 0x8040 (m + 1)) = satAdd 32 (s.nat (obj 0x8040 (m + 1))) 1 ∧
      t.bytes 0x804101 = [m, target % 256, right % 16, region % 256] ++ leNat 4 address ++ leNat 8 s.gnomon := by
  have heq : s.violation m (target % 256) right region address = s.recordViolation m (target % 256) right region address := by
    rw [violation_eq, if_neg (by omega), if_pos hmaster]
  refine accessViolation_gives hmonitored (by omega) hdenied ?_ ?_
  · rw [heq, recordViolation_keeps.same .holdings (by decide)]
  · rw [heq]
    exact ⟨recordViolation_count (by omega), by rw [recordViolation_record, Nat.mod_mod]⟩

theorem recordViolation_recent : (s.recordViolation m target right region address).recentViolations = s.recentViolations := by
  have hkeeps := recordViolation_keeps (s := s) (m := m) (target := target) (right := right) (region := region) (address := address)
  rw [State.recentViolations, State.recentViolations, hkeeps.same .sec (by decide), hkeeps.same .gnomon (by decide)]

/-- A violation of a master that is no engine and not ignored is counted towards SAFE (R426, R447). -/
theorem accessViolation_counted {P : State → Prop} (hmonitored : s.monitored = true)
    (hmaster : m = 1 ∨ m = 2 ∨ (15 ≤ m ∧ m ≤ 18) ∨ (20 ≤ m ∧ m ≤ 23)) (hdenied : s.permits m target (right % 16) address = false)
    (h : P ((s.recordViolation m (target % 256) right region address).countViolation s.recentViolations m)) :
    Gives (.accessViolation m target right region address) s P := by
  have heq : s.violation m (target % 256) right region address =
      (s.recordViolation m (target % 256) right region address).countViolation s.recentViolations m := by
    rw [violation_eq, if_neg (by omega), if_neg (by omega), recordViolation_recent]
  refine accessViolation_gives hmonitored (by omega) hdenied ?_ (heq ▸ h)
  rw [heq, countViolation_keeps.same .holdings (by decide), recordViolation_keeps.same .holdings (by decide)]

theorem accessViolation_first (hmonitored : s.monitored = true)
    (hmaster : m = 1 ∨ m = 2 ∨ (15 ≤ m ∧ m ≤ 18) ∨ (20 ≤ m ∧ m ≤ 23)) (hnone : s.sec.violations = [])
    (hdenied : s.permits m target (right % 16) address = false) :
    Gives (.accessViolation m target right region address) s fun t => t.sec.violations = [(m, s.gnomon)] ∧
      t.nat (obj 0x8040 (m + 1)) = satAdd 32 (s.nat (obj 0x8040 (m + 1))) 1 := by
  have hrecent : s.recentViolations = [] := by
    rw [State.recentViolations, hnone]
    rfl
  refine accessViolation_counted hmonitored hmaster hdenied ?_
  rw [hrecent]
  exact ⟨congrArg (fun g => [(m, g)]) (recordViolation_keeps.same .gnomon (by decide)), recordViolation_count (by omega)⟩

theorem accessViolation_fourth {a b c : Nat} (hmonitored : s.monitored = true) (hsafe : s.mode ≠ .safe) (hdue : s.power.safeDue = none)
    (hmaster : m = 1 ∨ m = 2 ∨ (15 ≤ m ∧ m ≤ 18) ∨ (20 ≤ m ∧ m ≤ 23)) (hthree : s.sec.violations = [(m, a), (m, b), (m, c)])
    (ha : s.gnomon < a + 1000 * msTicks) (hb : s.gnomon < b + 1000 * msTicks) (hc : s.gnomon < c + 1000 * msTicks)
    (hdenied : s.permits m target (right % 16) address = false) :
    Gives (.accessViolation m target right region address) s fun t => t.power.safeDue = some ⟨4, m, 4, s.gnomon⟩ := by
  have hrecent : s.recentViolations = [(m, a), (m, b), (m, c)] := by
    simp [State.recentViolations, hthree, ha, hb, hc]
  have hlive : s.mode ≠ .off ∧ s.mode ≠ .parked := by
    simpa [State.monitored, State.clockRuns] using hmonitored
  obtain ⟨hoff, hparked⟩ := hlive
  refine accessViolation_counted hmonitored hmaster hdenied ?_
  rw [hrecent]
  generalize hu : s.recordViolation m (target % 256) right region address = u
  have hkeeps : s.Keeps [.dict, .awaiting, .events, .log] u := hu ▸ recordViolation_keeps
  have hmode : u.mode = s.mode := hkeeps.same .mode (by decide)
  have hpower : u.power = s.power := hkeeps.same .power (by decide)
  have hgnomon : u.gnomon = s.gnomon := hkeeps.same .gnomon (by decide)
  unfold State.countViolation
  rw [if_pos (by simp), askSafe_safeDue (s := { u with sec := _ }) (by rwa [hmode]) (by rwa [hmode]) (by rwa [hmode]) (by rwa [hpower]), hgnomon]
  rfl

/-- The cause of an engine's fault stands, whatever its courses then do (R36, R137). -/
theorem faultEngine_cause {e cause : Nat} (he : e < 12) : (s.faultEngine e cause).nat (ek e 0x0B) = cause := by
  have hquiet := quiet_engineFault he
  obtain ⟨hcause, _⟩ := recordFault_nat he cause s
  rw [faultEngine_eq]
  split
  · exact (beginRestart_spares (fun j => hquiet.ne _ 3) (hquiet.ne _ 6) (hquiet.ne _ 7)).nat.trans hcause
  · have hend : (s.recordFault e cause).Spares (ek e 0x0B) ((s.recordFault e cause).endEngine e cause) := by
      unfold State.endEngine
      exact .step (faultUnit_quiet hquiet (by simp only [obj_eq]; omega)) <| .step (.keeps setEngine_keeps) <|
        dequeueLoad_spares fun j => hquiet.ne _ 3
    exact hend.nat.trans hcause

theorem recordViolation_live {e : Nat} : (s.recordViolation m target right region address).engineLive e = s.engineLive e := by
  by_cases he : e < 12
  · have hkey : desc (0x200 + e) 2 / 256 = 0x2180 + e ∧ desc (0x200 + e) 2 % 256 = 2 := by
      rw [desc_engine he]
      omega
    have hstate : (s.recordViolation m target right region address).ustate (0x200 + e) = s.ustate (0x200 + e) := by
      refine nat_of_val ?_
      rw [recordViolation_val (by omega) (by omega) (by omega), setBytes_val, if_neg (by omega), bump_val_other _ (by rw [obj_eq]; omega)]
    rw [State.engineLive, hstate, State.engineLive]
  · simp [State.engineLive, he]

theorem accessViolation_engine (hmonitored : s.monitored = true) (hlow : 3 ≤ m) (hhigh : m ≤ 14) (hlive : s.engineLive (m - 3) = true)
    (hdenied : s.permits m target (right % 16) address = false) :
    Gives (.accessViolation m target right region address) s fun t => t.nat (ek (m - 3) 0x0B) = 0x0203 := by
  obtain ⟨hexec, hact⟩ := exec_accessViolation (region := region) hmonitored (by omega) hdenied
  have he : m - 3 < 12 := by omega
  refine gives_next hexec ?_
  refine (actAndHold_quiet (quiet_engineFault he) _).nat.trans ?_
  rw [hact, violation_eq, if_pos ⟨hlow, hhigh⟩, recordViolation_live, hlive, if_pos rfl]
  exact faultEngine_cause he

theorem accessViolation_permitted (hpermits : s.permits m target (right % 16) address = true) :
    Gives (.accessViolation m target right region address) s fun t => t = s :=
  gives_acting rfl (if_pos (.inr (.inr hpermits))) rfl rfl

/-- Settles O24, clause by clause. -/
theorem securityCompletes : Obligations.SecurityCompletes := by
  unfold Obligations.SecurityCompletes
  exact ⟨fun r s => stepToSecured_gives, fun r s => challengeRequest_gives, fun c s => challengeExpiry_gives,
    fun r rest s => stepToReturned_gives, fun r rest s => revokeSlot_gives,
    fun r n i key s hn hlow _ hlength haccepts hempty hnew => keySlotWrite_gives hn hlow hlength haccepts hempty hnew,
    fun r n s => keySlotErase_gives, fun r v s => lowerLevel_gives,
    fun m target right region address s => accessViolation_ignored,
    fun m target right region address s => accessViolation_first,
    fun m target right region address s => accessViolation_engine,
    fun s => dbgChallenge_gives, fun b s => dbgResponse_gives,
    fun m n s hserves hfull hcore => gives_next (exec_coreDebug hserves hfull hcore) ⟨rfl, rfl⟩,
    fun m n s hserves hfull hcore => gives_next (exec_coreDebug hserves hfull hcore) rfl,
    fun m n s => coreDebug_reads, fun s => idcode_gives, fun s => dbgStatus_gives, fun b s => samplePreload_gives,
    fun b s => gives_next rfl ⟨rfl, rfl⟩,
    fun b s => gives_next rfl ⟨(takeBalls_holds 0).1, rfl, (takeBalls_holds 0).2⟩,
    fun s => gives_next rfl rfl, fun s => gives_next rfl (takeBalls_holds 3), fun s => gives_next rfl rfl,
    fun s => gives_next rfl (takeBalls_holds 4), fun s => gives_next rfl ⟨rfl, tap_out ..⟩,
    fun m target right region address s => accessViolation_permitted,
    fun m target right region address a b c s hmonitored hsafe hdue hmaster hthree ha hb hc hdenied =>
      accessViolation_fourth hmonitored hsafe hdue hmaster hthree ha hb hc hdenied⟩

end Sys2Proof.Machine
end

section
/-!
PROOFS. What mode requests and transitions, PARKED and the wakes from it, reset and bring-up leave (R436, R450 to R467).
-/
namespace Sys2Proof.Machine
-- One proof after another keeps the memory of the whole text's compile low.
set_option Elab.async false

variable {s t : State} {r : Requester} {tr : Transition} {m old : Mode} {F : List FieldName}

/-! ### What mode changes leave of the power manager -/

/-- The fields that the releases, paths, ports and mesh units of a mode change may touch: neither the mode nor the power manager. -/
def blockFields : List FieldName :=
  unitFields ++ [.amQuietSince, .antennas, .claimedAt, .freeCtr, .link, .mesh, .pdos, .prep, .quoin, .tbSync, .twoWire]

theorem releaseTree_blocks {u cause verb : Nat} : s.Keeps blockFields (s.releaseTree u cause verb) := by
  unfold State.releaseTree
  exact .ite (.step releaseNow_keeps <| .step removeEntries_keeps .refl) (.step advanceHold_keeps <| .step beginHold_keeps <|
    .step update_holdings_keeps <| .step removeEntries_keeps .refl)

theorem releaseUnprovided_blocks {now : Bool} : s.Keeps blockFields (s.releaseUnprovided m now) := by
  unfold State.releaseUnprovided
  exact .foldl (fun _ _ => .ite (.ite (.step settleAccel_keeps <|
    .step setShares_keeps .refl) (.ite (.step releaseNow_keeps .refl) (.step releaseTree_blocks .refl))) .refl) .refl

theorem tapStop_blocks {units : List Nat} {cause : Nat} : s.Keeps blockFields (s.tapStop units cause) := by
  unfold State.tapStop
  exact .foldl (fun _ _ => .ite (.step releaseTree_blocks .refl) .refl) .refl

theorem tapStep_blocks : s.Keeps blockFields (s.tapStep old m) := by
  unfold State.tapStep
  exact .ite .refl (.ite (.step tapStop_blocks .refl) (.ite .refl (.iteElse (.ite (.step tapStop_blocks .refl) .refl) (.iteThen
    (.step tapStop_blocks .refl) (.step setCommitted_keeps <| .step setNat_keeps <| .step setUState_keeps <|
    .step disturbChain_keeps <| .step holdChain_keeps .refl)))))

theorem tapStart_blocks : s.Keeps blockFields s.tapStart := by
  have hchain {t : State} {u path engine at_ : Nat} : t.Keeps blockFields (t.tapChainStart u path engine at_) := by
    unfold State.tapChainStart
    exact .ite (.ite .refl (.step raise_keeps .refl)) (.ite .refl (.step placeVerb_keeps <| .step setUState_keeps <|
      .step configureUnit_keeps <| .step setUpTapChain_keeps <| .step claimedBy_keeps .refl))
  unfold State.tapStart
  exact .ite .refl (.ite (.step raise_keeps .refl) (.ite .refl (.ite .refl (.foldl (fun _ _ => .step hchain .refl)
    (.iteElse (by
      split
      · exact .refl
      · exact .step configureUnit_keeps <| .step setNat_keeps <| .step claimedBy_keeps .refl)
      (.step placeVerb_keeps <| .step setUState_keeps .refl))))))

/-- What a transition clears out of the way of its target: the units and entries that it does not provide, the tap, the paths (R452). -/
def State.clearWay (tr : Transition) (s : State) : State :=
  let s := ((s.releaseUnprovided tr.target false).removeUnavailable tr.target).tapStep tr.old tr.target
  let s := if tr.target = .full then s else s.pathDown 1
  if broadcast tr.target then s else s.pathDown 0

theorem beginTransition_eq (h : s.power.transition = some tr) : s.beginTransition =
    (({ s with power := { s.power with transition := some { tr with held := false, began := s.gnomon }, pathStep := 0 } } : State).setNat
      0x760005 2).clearWay tr := by
  unfold State.beginTransition
  rw [h]
  rfl

theorem clearWay_blocks : s.Keeps blockFields (s.clearWay tr) := by
  unfold State.clearWay
  exact .iteElse (.iteElse (.step tapStep_blocks <| .step removeUnavailable_keeps <| .step releaseUnprovided_blocks .refl)
    (.step pathDown_keeps .refl)) (.step pathDown_keeps .refl)

section
variable {k p : Nat} (hk : Quiet k)
include hk

theorem pathDown_quiet (hp : p < 2) : s.Spares k (s.pathDown p) := by
  have hindex {j : Nat} (hj : j < 256 := by decide) : k ≠ obj (0x3020 + p) j := hk.part (0x3020 + p) j (by omega) hj
  have hcapture {t : State} {c : Nat} : t.Spares k (t.abortCapture c) := by
    have hend {t : State} {state flags upTo : Nat} {sample : Nat → Int × Int} : t.Spares k (t.endCapture c state flags upTo sample) := by
      unfold State.endCapture
      exact .step (.issue (hk.ne _ 7)) <| .step (.setNat (hk.ne _ 6)) <| .keeps setCapture_keeps
    unfold State.abortCapture
    exact .ite hend .refl
  have hcaptures {q : Nat → Bool} : s.Spares k (s.abortCaptures q) := by
    unfold State.abortCaptures
    exact .foldl (fun _ _ _ => .ite hcapture .refl) .refl
  have houtcome {t : State} : t.Spares k (t.plumbOutcome p 11) := by
    unfold State.plumbOutcome
    exact .step (.raise hk.event) <|
      .iteThen (.iteElse (.iteThen (.iteThen (.iteThen (.iteThen (.setNat hindex) (.bump hindex)) (.bump hindex)) (.bump hindex))
        (.step (.setNat hindex) <| .setNat hindex)) (.keeps setPlumb_keeps)) (.keeps setPlumb_keeps)
  have hpower {t : State} : t.Spares k (t.plumbPowerDown p) := by
    unfold State.plumbPowerDown
    refine .step (.setNat (hk.unit _ 3)) <| .step (setUState_quiet hk) <| .step (.setNat hindex) <| .step (.keeps setPath_keeps) <|
      .step (.keeps setPlumb_keeps) ?_
    split
    · exact .step (.setNat hindex) <| .ite .refl houtcome
    · exact .ite .refl houtcome
  unfold State.pathDown
  exact .ite .refl (.step (.setNat (hk.part (0x3000 + p) 1)) <| .step (.keeps setPath_keeps) <| .step hpower <|
    .step (removeEntries_quiet hk) hcaptures)

theorem tapStop_quiet {units : List Nat} {cause : Nat} : s.Spares k (s.tapStop units cause) := by
  unfold State.tapStop
  exact .foldl (fun _ _ _ => .ite (releaseTree_quiet hk) .refl) .refl

theorem clearWay_quiet : s.Spares k (s.clearWay tr) := by
  have hunprovided {t : State} : t.Spares k (t.releaseUnprovided tr.target false) := by
    unfold State.releaseUnprovided
    exact .foldl (fun _ _ _ => .ite (.ite (.step (settleAccel_quiet hk) <| .keeps setShares_keeps)
      (.ite (releaseNow_quiet hk) (releaseTree_quiet hk))) .refl) .refl
  have htap {t : State} : t.Spares k (t.tapStep tr.old tr.target) := by
    unfold State.tapStep
    exact .ite .refl (.ite (tapStop_quiet hk) (.ite .refl (.iteElse (.ite (tapStop_quiet hk) .refl) (.iteThen
      (tapStop_quiet hk) (.step (.keeps setCommitted_keeps) <| .step (.setNat (hk.ne _ 0x12)) <| .step (setUState_quiet hk) <|
      .step (disturbChain_quiet hk) <| holdChain_quiet hk (Nat.mod_lt _ (by decide)))))))
  unfold State.clearWay
  exact .iteElse (.iteElse (.step htap <| .step (removeEntries_quiet hk) hunprovided) (pathDown_quiet hk (by decide)))
    (pathDown_quiet hk (by decide))

end

/-- A transition that begins (R452). -/
theorem beginTransition_begun (h : s.power.transition = some tr) :
    s.beginTransition.power.transition = some { tr with held := false, began := s.gnomon } ∧ s.beginTransition.nat 0x760005 = 2 := by
  rw [beginTransition_eq h]
  refine ⟨congrArg Power.transition (clearWay_blocks.same .power (by decide)), (clearWay_quiet quiet_modeRequests).nat.trans ?_⟩
  rw [setNat_nat, if_pos rfl]

/-- The mode in force and the wake that was taken are as before. -/
def State.Awake (s t : State) : Prop := t.mode = s.mode ∧ t.power.waking = s.power.waking

namespace State.Awake
variable {u : State}

theorem of_keeps (h : s.Keeps F t) (hmode : .mode ∉ F := by decide) (hpower : .power ∉ F := by decide) : s.Awake t :=
  ⟨h.same .mode hmode, congrArg Power.waking (h.same .power hpower)⟩

theorem trans (h : s.Awake t) (g : t.Awake u) : s.Awake u := ⟨g.1.trans h.1, g.2.trans h.2⟩

theorem ite {c : Prop} [Decidable c] (h : s.Awake t) (g : s.Awake u) : s.Awake (if c then t else u) := by split <;> assumption

end State.Awake

theorem beginTransition_awake (s : State) : s.Awake s.beginTransition := by
  cases h : s.power.transition with
  | none =>
    unfold State.beginTransition
    rw [h]
    exact ⟨rfl, rfl⟩
  | some tr =>
    rw [beginTransition_eq h]
    exact State.Awake.trans (t := { s with power := { s.power with transition := some { tr with held := false, began := s.gnomon }, pathStep := 0 } })
      ⟨rfl, rfl⟩ (.of_keeps (F := blockFields) (.step clearWay_blocks <| .step setNat_keeps .refl))

/-! ### Requests -/

theorem modeRefusal_allowed {target : Nat} (h : s.modeRefusal target = 0) :
    2 ≤ target ∧ target ≤ 6 ∧ s.power.transition = none := by
  unfold State.modeRefusal at h
  extract_lets m at h
  obtain ⟨htarget, hrest⟩ := firstCode_cons_eq_zero.mp h
  obtain ⟨hidle, _⟩ := firstCode_cons_eq_zero.mp hrest
  simp [refuseIf] at htarget hidle
  exact ⟨htarget.1, htarget.2, hidle⟩

theorem touch_transition (r : Requester) (s : State) : (s.touch r).power.transition = s.power.transition := by
  unfold State.touch
  split
  · split <;> rfl
  · rfl

theorem exec_modeRequest {target : Nat} (h : (s.autoTake r 0x760002).modeRefusal target = 0) :
    exec (.modeRequest r target) s = .next (s.request r 0x760002 [target] (accept (State.requestMode 1 target))) := by
  obtain ⟨_, htarget, _⟩ := modeRefusal_allowed h
  rw [← leNat_one (v := target) (by omega)]
  rfl

theorem requestMode_begins {trigger target : Nat} (hallowed : s.modeRefusal target = 0) (hother : s.mode ≠ modeOf target)
    (hradio : removesRadio s.mode (modeOf target) = false) : s.requestMode trigger target =
      (((({ s with power := { s.power with transition := some ⟨s.mode, modeOf target, trigger, true, s.gnomon⟩, pathStep := 0 } } : State).modeEvent
        1 (modeCode s.mode) target trigger).await 0x760003).beginTransition) := by
  unfold State.requestMode
  extract_lets c old waits s1 new _ s2 s3
  have hmode : s3.mode = s.mode :=
    State.Keeps.same (F := [.dict, .awaiting, .events, .log]) (s := s2) (.step await_keeps <| .step modeEvent_keeps .refl) .mode (by decide)
  rw [if_neg (not_or.mpr ⟨not_not.mpr hallowed, hother⟩), hmode, if_neg (by rw [hradio]; decide)]

theorem modeRequest_begins {target : Nat} (haccepts : s.Accepts r 0x760002 [target])
    (hallowed : (s.autoTake r 0x760002).modeRefusal target = 0) (hother : s.mode ≠ modeOf target)
    (hradio : removesRadio s.mode (modeOf target) = false) :
    Gives (.modeRequest r target) s fun t => t.power.transition = some ⟨s.mode, modeOf target, 1, false, s.gnomon⟩ ∧
      t.nat 0x760005 = 2 := by
  refine gives_request (exec_modeRequest hallowed) haccepts rfl ?_
  generalize hu : s.autoTake r 0x760002 = u at hallowed
  have hmode : u.mode = s.mode := hu ▸ autoTake_mode ..
  have hgnomon : u.gnomon = s.gnomon := hu ▸ autoTake_gnomon ..
  have hact : (accept (State.requestMode 1 target) u).1 = u.requestMode 1 target := rfl
  rw [reply_nat, touch_nat_other _ _ (by decide), hact, requestMode_begins hallowed (by rwa [hmode]) (by rwa [hmode])]
  generalize hv : State.await 0x760003 (State.modeEvent 1 _ _ _ _) = v
  have hkeeps : ({ u with power := { u.power with transition := some ⟨u.mode, modeOf target, 1, true, u.gnomon⟩, pathStep := 0 } } : State).Keeps
      [.dict, .awaiting, .events, .log] v := hv ▸ .step await_keeps (.step modeEvent_keeps .refl)
  obtain ⟨hbegun, hstate⟩ := beginTransition_begun (s := v) (congrArg Power.transition (hkeeps.same .power (by decide)))
  refine ⟨(touch_transition r _).trans (hbegun.trans ?_), hstate⟩
  rw [hkeeps.same .gnomon (by decide), ← hmode, ← hgnomon]

theorem modeRequest_inForce {target : Nat} (haccepts : s.Accepts r 0x760002 [target])
    (hallowed : (s.autoTake r 0x760002).modeRefusal target = 0) (hsame : s.mode = modeOf target) :
    Gives (.modeRequest r target) s fun t => t.power.transition = none ∧
      (t.bytes 0x760003).drop 2 = leNat 2 0 ++ [modeCode s.mode, target, 1, 0] ++ leNat 8 s.gnomon := by
  refine gives_request (exec_modeRequest hallowed) haccepts rfl ?_
  generalize hu : s.autoTake r 0x760002 = u at hallowed
  have hmode : u.mode = s.mode := hu ▸ autoTake_mode ..
  have hgnomon : u.gnomon = s.gnomon := hu ▸ autoTake_gnomon ..
  have hact : (accept (State.requestMode 1 target) u).1 = if u.awaiting.contains 0x760003 then
      (u.modeOutcome 0 (modeCode u.mode) target 1).await 0x760003 else u.modeOutcome 0 (modeCode u.mode) target 1 := by
    show u.requestMode 1 target = _
    unfold State.requestMode
    rw [hallowed]
    exact if_pos (.inr (hmode.trans hsame))
  have hissued : ((u.modeOutcome 0 (modeCode u.mode) target 1).bytes 0x760003).drop 2 =
      leNat 2 0 ++ [modeCode s.mode, target, 1, 0] ++ leNat 8 s.gnomon := by
    unfold State.modeOutcome State.issuePaired
    rw [bytes_of_val (raise_val _ _ _ _ _ (by decide) (by decide) (by decide)), issue_body, hmode, hgnomon]
  have hpower : (u.modeOutcome 0 (modeCode u.mode) target 1).power.transition = none :=
    (congrArg Power.transition (modeOutcome_keeps.same .power (by decide))).trans (modeRefusal_allowed hallowed).2.2
  rw [bytes_of_val (reply_val ..), bytes_of_val (touch_val _ _ (by decide)), hact]
  refine ⟨(touch_transition r _).trans ?_, ?_⟩
  · split
    · exact hpower
    · exact hpower
  · split
    · exact hissued
    · exact hissued

theorem transitionHoldEnd_begins (htransition : s.power.transition = some tr) (hheld : tr.held = true)
    (hover : tr.began + 500 * msTicks ≤ s.gnomon) :
    Gives .transitionHoldEnd s fun t => t.power.transition = some { tr with held := false, began := s.gnomon } ∧ t.nat 0x760005 = 2 := by
  refine gives_next (t := s.beginTransition) ?_ (beginTransition_begun htransition)
  show execTransitionHoldEnd s = _
  unfold execTransitionHoldEnd
  rw [htransition]
  exact congrArg Host.Outcome.next (if_pos (by simp [hheld, hover]))

theorem pathPowerUp_gives {step : Nat} (htransition : s.power.transition = some tr) (hheld : tr.held = false)
    (hnext : ((pathSteps tr.old tr.target).find? fun n => decide (s.power.pathStep < n)) = some step) :
    Gives (.pathPowerUp step) s fun t => t.power.pathStep = step := by
  refine gives_next (t := ({ s with power := { s.power with pathStep := step } } : State).pathStepAct step) ?_
    (congrArg Power.pathStep (pathStepAct_keeps.same .power (by decide)))
  show execPathPowerUp step s = _
  unfold execPathPowerUp
  rw [htransition]
  dsimp only
  rw [hnext]
  exact congrArg Host.Outcome.next (if_pos (by simp [hheld]))

/-! ### A mode entered -/

/-- The paths and Gloaming as a mode has them (R63, R172). -/
def State.powerPaths (old m : Mode) (s : State) : State :=
  let s := if m == .full then s.pathUp 1 else s.pathDown 1
  let s := if broadcast m then s.pathUp 0 else s.pathDown 0
  if broadcast m && !broadcast old then s.gloamingUp else if broadcast m then s else s.gloamingDown

/-- The tap and the antenna supplies as a mode has them (R78, R435). -/
def State.enterTap (m : Mode) (s : State) : State :=
  let s := if broadcast m then s.tapEnter else s
  (s.refreshAntenna 0).refreshAntenna 1

theorem enterMode_eq (m : Mode) (s : State) : s.enterMode m =
    (((((s.inMode m).quoinMode s.mode m).targetMode m).powerPaths s.mode m).meshUnits m).enterTap m := rfl

theorem powerPaths_blocks : s.Keeps blockFields (s.powerPaths old m) := by
  have hgloaming {t : State} : t.Keeps blockFields
      (if broadcast m && !broadcast old then t.gloamingUp else if broadcast m then t else t.gloamingDown) :=
    .ite (.step gloamingUp_keeps .refl) (.ite .refl (.step gloamingDown_keeps .refl))
  have hpath (p : Nat) (c : Bool) {t : State} : t.Keeps blockFields (if c then t.pathUp p else t.pathDown p) :=
    .ite (.step pathUp_keeps .refl) (.step pathDown_keeps .refl)
  unfold State.powerPaths
  exact .step hgloaming <| .step (hpath 0 _) <| hpath 1 _

theorem enterTap_blocks : s.Keeps blockFields (s.enterTap m) := by
  have htap {t : State} : t.Keeps blockFields t.tapEnter := by
    unfold State.tapEnter
    exact .iteThen (.step tapStart_blocks <| .ite (.step setNat_keeps .refl) .refl) (.step placeVerb_keeps .refl)
  unfold State.enterTap
  exact .step refreshAntenna_keeps <| .step refreshAntenna_keeps <| .ite (.step htap .refl) .refl

/-- The mesh units of a mode may take note of their owner, and of nothing else in the power manager (R278). -/
theorem meshUnits_blocks (m : Mode) (s : State) : s.Keeps (.power :: blockFields) (s.meshUnits m) := by
  unfold State.meshUnits
  exact .ite (.ite (.iteElse (.iteThen (.step meshClaim_keeps .refl) (.step moveRadio_keeps <|
    .step meshClaim_keeps .refl)) (.iteThen (.step claimedBy_keeps <| .step update_power_keeps .refl) (.step setUState_keeps <|
    .step startMesh_keeps <|
    .step setUState_keeps .refl))) (.iteThen (.iteThen (.step meshClaim_keeps .refl) (.step moveRadio_keeps <|
    .step meshClaim_keeps .refl)) (.ite (.step freeUnit_keeps .refl) (.step claimedBy_keeps .refl)))) (.step radioDown_keeps <|
    .step update_power_keeps <| .foldl (fun _ _ => .ite .refl (.step freeUnit_keeps .refl)) .refl)

/-- The power manager of a state is as before but for the note of the mesh units' owner. -/
def State.Noted (s t : State) : Prop := ∃ o, t.power = { s.power with meshOwner := o }

theorem State.Noted.of_keeps (h : s.Keeps blockFields t) : s.Noted t := ⟨s.power.meshOwner, h.same .power (by decide)⟩

theorem State.Noted.trans {u : State} (h : s.Noted t) (g : t.Noted u) : s.Noted u := by
  obtain ⟨o, ho⟩ := h
  obtain ⟨p, hp⟩ := g
  exact ⟨p, by rw [hp, ho]⟩

theorem meshUnits_noted (m : Mode) (s : State) : s.Noted (s.meshUnits m) := by
  unfold State.meshUnits
  split
  · extract_lets s1 s2 _ s3
    have h2 : s.Noted s2 := .of_keeps <| .iteThen (.step meshClaim_keeps .refl) (.step moveRadio_keeps <| .step meshClaim_keeps .refl)
    have h3 : s2.Noted s3 := State.Noted.trans (t := { s2 with power := { s2.power with meshOwner := s2.owner 0x502 } }) ⟨_, rfl⟩
      (.of_keeps claimedBy_keeps.mono)
    refine h2.trans ?_
    split
    · split
      · exact .of_keeps .refl
      · refine h3.trans (.of_keeps ?_)
        exact .ite (.step setUState_keeps <| .step startMesh_keeps <| .step setUState_keeps .refl) .refl
    · exact .of_keeps (.ite (.ite (.step freeUnit_keeps .refl) (.step claimedBy_keeps .refl)) .refl)
  · extract_lets s1
    have h1 : s.Noted s1 := .of_keeps (.foldl (fun _ _ => .ite .refl (.step freeUnit_keeps .refl)) .refl)
    exact h1.trans <| State.Noted.trans (t := { s1 with power := { s1.power with meshOwner := 0xFF } }) ⟨_, rfl⟩
      (.of_keeps radioDown_keeps.mono)

theorem enterMode_mode (m : Mode) (s : State) : (s.enterMode m).mode = m := by
  have h : (s.inMode m).Keeps (.power :: blockFields) (s.enterMode m) :=
    .step enterTap_blocks <| .step (meshUnits_blocks m _) <| .step powerPaths_blocks <| .step targetMode_keeps <| .step quoinMode_keeps .refl
  exact h.same .mode (by decide)

theorem enterMode_noted (m : Mode) (s : State) : s.Noted (s.enterMode m) := by
  rw [enterMode_eq]
  have hbefore : s.Noted ((((s.inMode m).quoinMode s.mode m).targetMode m).powerPaths s.mode m) := by
    have h : (s.inMode m).Keeps blockFields ((((s.inMode m).quoinMode s.mode m).targetMode m).powerPaths s.mode m) :=
      .step powerPaths_blocks <| .step targetMode_keeps <| .step quoinMode_keeps .refl
    exact State.Noted.trans (t := s.inMode m) ⟨s.power.meshOwner, rfl⟩ (.of_keeps h)
  exact (hbefore.trans (meshUnits_noted m _)).trans (.of_keeps enterTap_blocks)

theorem enterMode_flash (m : Mode) (s : State) : (s.enterMode m).flash = s.flash := by
  have h : s.Keeps (.mode :: .power :: blockFields) (s.enterMode m) :=
    .step enterTap_blocks <| .step (meshUnits_blocks m _) <| .step powerPaths_blocks <| .step targetMode_keeps <| .step quoinMode_keeps <|
      .step inMode_keeps .refl
  exact h.same .flash (by decide)

/-! ### The end of a transition -/

theorem endTransition_power (tr : Transition) (s : State) :
    (s.endTransition tr).power = { s.power with transition := none, pathStep := 0 } := by
  have h : ({ s with power := { s.power with transition := none, pathStep := 0 } } : State).Keeps [.dict, .awaiting, .events, .log]
      (s.endTransition tr) := .step bump_keeps <| .step modeEvent_keeps <| .step modeOutcome_keeps <| .step setNat_keeps .refl
  exact h.same .power (by decide)

theorem endTransition_mode (tr : Transition) (s : State) : (s.endTransition tr).mode = s.mode := endTransition_keeps.same .mode (by decide)

theorem endTransition_state (tr : Transition) (s : State) : (s.endTransition tr).nat 0x760005 = 0 := by
  unfold State.endTransition
  extract_lets _ u
  have hevent := quiet_modeRequests.event
  have h : u.Spares 0x760005 (((u.modeOutcome 0 (modeCode tr.old) (modeCode tr.target) tr.trigger).modeEvent 2 (modeCode tr.old)
      (modeCode tr.target) tr.trigger).bump 0x76000C) :=
    .step (.bump (by decide)) <| .step (.raise hevent) <| issuePaired_spares hevent (by decide)
  refine h.nat.trans ?_
  rw [setNat_nat, if_pos rfl]

theorem transitionComplete_gives (htransition : s.power.transition = some tr) (hheld : tr.held = false) (htarget : tr.target ≠ .parked)
    (hready : s.pathsReady tr = true) (hwake : s.power.heldWake = none) :
    Gives .transitionComplete s fun t => t.mode = tr.target ∧ t.power.transition = none ∧ t.nat 0x760005 = 0 := by
  generalize hu : ((s.releaseUnprovided tr.target true).removeUnavailable tr.target).enterMode tr.target = u
  generalize hv : (if tr.target = .update then (u.removeEntries 2 fun _ => true).flushLog else u) = v
  have hexec : exec .transitionComplete s = .next (v.endTransition tr).releaseWake := by
    show execTransitionComplete s = _
    unfold execTransitionComplete
    rw [htransition, ← hv, ← hu]
    exact congrArg Host.Outcome.next (if_pos (by simp [hheld, htarget, hready]))
  have hbefore : s.Keeps blockFields ((s.releaseUnprovided tr.target true).removeUnavailable tr.target) :=
    .step removeUnavailable_keeps releaseUnprovided_blocks
  have hafter : u.Keeps blockFields v := hv ▸ .ite (.step flushLog_keeps <| .step removeEntries_keeps .refl) .refl
  have hnoted : s.Noted v := ((State.Noted.of_keeps hbefore).trans (hu ▸ enterMode_noted ..)).trans (.of_keeps hafter)
  have hmode : v.mode = tr.target := Eq.trans (hafter.same .mode (by decide)) (hu ▸ enterMode_mode ..)
  have hnone : (v.endTransition tr).power.heldWake = none := by
    obtain ⟨o, ho⟩ := hnoted
    rw [endTransition_power, ho]
    exact hwake
  have hdone : (v.endTransition tr).releaseWake = v.endTransition tr := by
    unfold State.releaseWake
    rw [hnone]
  rw [hdone] at hexec
  exact gives_next hexec ⟨(endTransition_mode ..).trans hmode, by rw [endTransition_power], endTransition_state ..⟩

/-! ### PARKED and the wakes -/

theorem parkPower_parked (s : State) : s.parkPower.mode = .parked ∧ s.parkPower.power.pwrReq = false ∧ s.parkPower.power.gEntry = s.gnomon := by
  unfold State.parkPower
  extract_lets u v w
  have hinMode : (s.gloamingDown.inMode .parked).Keeps blockFields v :=
    .step refreshAntenna_keeps <| .step refreshAntenna_keeps <| .step quoinMode_keeps <| .step targetMode_keeps .refl
  have hgnomon : v.gnomon = s.gnomon := Eq.trans (hinMode.same .gnomon (by decide)) (gloamingDown_keeps.same .gnomon (by decide))
  have hmode : v.mode = .parked := hinMode.same .mode (by decide)
  clear_value v
  exact ⟨hmode, rfl, hgnomon⟩

theorem parkedEntry_gives (htransition : s.power.transition = some tr) (hheld : tr.held = false) (htarget : tr.target = .parked)
    (hwake : s.power.heldWake = none) :
    Gives .parkedEntry s fun t => t.mode = .parked ∧ t.power.pwrReq = false ∧ t.power.gEntry = s.gnomon := by
  refine gives_next (t := (s.endTransition tr).parkUnits.parkRecords.parkPower) ?_ ?_
  · show execParkedEntry s = _
    unfold execParkedEntry
    rw [htransition]
    dsimp only
    rw [hwake]
    exact congrArg Host.Outcome.next (if_pos (by simp [hheld, htarget]))
  · obtain ⟨hmode, hreq, hentry⟩ := parkPower_parked (s.endTransition tr).parkUnits.parkRecords
    refine ⟨hmode, hreq, hentry.trans ?_⟩
    rw [parkRecords_keeps.same .gnomon (by decide), parkUnits_keeps.same .gnomon (by decide), endTransition_keeps.same .gnomon (by decide)]

theorem wake_parked {src : Nat} (hmode : s.mode = .parked) (hwaking : s.power.waking = none) : s.wake src =
    ({ s with power := { s.power with waking := some src, pwrReq := true, wokeAt := s.power.rtcPeriods } } : State).setNat 0x76000A (src + 1) := by
  unfold State.wake State.wakeParked
  rw [if_pos hmode, hwaking]
  rfl

/-- A wake of PARKED by a source: PWR_REQ rises, and the source is recorded (R462). -/
theorem wake_records {src : Nat} (hmode : s.mode = .parked) (hwaking : s.power.waking = none) :
    (s.wake src).power.waking = some src ∧ (s.wake src).power.pwrReq = true ∧ (s.wake src).nat 0x76000A = src + 1 := by
  rw [wake_parked hmode hwaking]
  exact ⟨rfl, rfl, by rw [setNat_nat, if_pos rfl]⟩

theorem wake_glimmer {sources micros : Nat} {rising : Bool} (hmode : s.mode = .parked) (hwaking : s.power.waking = none)
    (hsource : bitOf sources 0 = true) (henabled : bitOf (s.nat 0x760007) 0 = true) (hglimmer : s.nat 0x601001 = 1) :
    Gives (.wake sources rising micros) s fun t => t.power.waking = some 0 ∧ t.power.pwrReq = true ∧ t.nat 0x76000A = 1 :=
  gives_next (congrArg Host.Outcome.next (if_pos (by simp [hsource, henabled, hglimmer]))) (wake_records hmode hwaking)

theorem wake_pin {sources micros : Nat} {rising : Bool} (hmode : s.mode = .parked) (hwaking : s.power.waking = none)
    (hnone : bitOf sources 0 = false) (hsource : bitOf sources 1 = true) (henabled : bitOf (s.nat 0x760007) 1 = true)
    (hedge : s.wakeEdge rising = true) (hwidth : 10 ≤ micros) :
    Gives (.wake sources rising micros) s fun t => t.power.waking = some 1 ∧ t.power.pwrReq = true ∧ t.nat 0x76000A = 2 :=
  gives_next (congrArg Host.Outcome.next ((if_neg (by simp [hnone])).trans (if_pos (by simp [hsource, henabled, hedge, hwidth]))))
    (wake_records hmode hwaking)

theorem wake_start {sources micros : Nat} {rising : Bool} (hmode : s.mode = .parked) (hwaking : s.power.waking = none)
    (hnone : bitOf sources 0 = false) (hnoPin : bitOf sources 1 = false) (hsource : bitOf sources 2 = true)
    (henabled : bitOf (s.nat 0x760007) 2 = true) :
    Gives (.wake sources rising micros) s fun t => t.power.waking = some 2 ∧ t.power.pwrReq = true ∧ t.nat 0x76000A = 3 :=
  gives_next (congrArg Host.Outcome.next ((if_neg (by simp [hnone])).trans ((if_neg (by simp [hnoPin])).trans
    (if_pos (by simp [hsource, henabled]))))) (wake_records hmode hwaking)

theorem wakeFailure_gives (hmode : s.mode = .parked) (hwaking : s.power.waking.isSome = true)
    (hover : s.power.wokeAt + 328 ≤ s.power.rtcPeriods) :
    Gives .wakeFailure s fun t => t.power.waking = none ∧ t.power.pwrReq = false ∧ t.nat 0x76000D = satAdd 16 (s.nat 0x76000D) 1 :=
  gives_next (congrArg Host.Outcome.next (if_pos ⟨hmode, hwaking, hover⟩)) ⟨rfl, rfl, (bump16_nat ..).trans (if_pos rfl)⟩

/-- An edge of WAKE_IN in WATCH takes the Quoin controller out of its standby (R386). -/
def State.wakeQuoin (s : State) : State :=
  let s := { s with radio := { s.radio with judged := none } }
  if s.nat 0x104101 = 5 then { s with quoin := { s.quoin with activeAt := s.gnomon } }.setNat 0x104101 2 else s

theorem watchWakeIn_eq (s : State) : s.watchWakeIn =
    if s.wakeQuoin.nat 0x760009 = 0 then s.wakeQuoin else s.wakeQuoin.requestMode 4 (s.wakeQuoin.nat 0x760009 + 3) := rfl

theorem wakeQuoin_keeps : s.Keeps [.dict, .quoin, .radio] s.wakeQuoin := by
  unfold State.wakeQuoin
  exact .iteThen (.step update_radio_keeps .refl) (.step setNat_keeps <| .step update_quoin_keeps .refl)

theorem wakeQuoin_judged (s : State) : s.wakeQuoin.radio.judged = none := by
  unfold State.wakeQuoin
  extract_lets _ u
  split <;> rfl

theorem wakeQuoin_standby (h : s.nat 0x104101 = 5) : s.wakeQuoin.nat 0x104101 = 2 ∧ s.wakeQuoin.nat 0x760009 = s.nat 0x760009 := by
  have heq : s.wakeQuoin = ({ s with radio := { s.radio with judged := none }, quoin := { s.quoin with activeAt := s.gnomon } } : State).setNat
      0x104101 2 := if_pos h
  rw [heq]
  exact ⟨by rw [setNat_nat, if_pos rfl], by rw [setNat_nat, if_neg (by decide)]; rfl⟩

theorem wakeInWatch_gives {rising : Bool} {micros : Nat} (hmode : s.mode = .watch) (hedge : s.wakeEdge rising = true) (hwidth : 10 ≤ micros)
    (hidle : s.power.transition = none) (hstays : s.nat 0x760009 = 0) (hstandby : s.nat 0x104101 = 5) :
    Gives (.wakeInWatch rising micros) s fun t => t.nat 0x104101 = 2 ∧ t.radio.judged = none := by
  obtain ⟨hactive, haction⟩ := wakeQuoin_standby hstandby
  refine gives_next (t := s.wakeQuoin) ?_ ⟨hactive, wakeQuoin_judged s⟩
  have hwatch : s.watchWakeIn = s.wakeQuoin := (watchWakeIn_eq s).trans (if_pos (haction.trans hstays))
  show execWakeInWatch rising micros s = _
  unfold execWakeInWatch
  rw [if_neg (by simp [hedge]; omega), hidle, ← hwatch]
  exact congrArg Host.Outcome.next (if_pos hmode)

theorem wakeOutEnd_gives {from_ : Nat} (hleft : s.power.left = some from_) (hover : from_ + 2000 * msTicks ≤ s.gnomon) :
    Gives .wakeOutEnd s fun t => t.power.left = none := by
  refine gives_next rfl ?_
  show s.power.left.filter (fun t => decide (s.gnomon < t + 2000 * msTicks)) = none
  rw [hleft, Option.filter_some, if_neg (by simpa using hover)]

theorem requestMode_awake (trigger target : Nat) (s : State) : s.Awake (s.requestMode trigger target) := by
  have hstart {tr : Transition} {kind old new : Nat} : s.Awake
      ((({ s with power := { s.power with transition := some tr, pathStep := 0 } } : State).modeEvent kind old new trigger).await 0x760003) :=
    State.Awake.trans (t := { s with power := { s.power with transition := some tr, pathStep := 0 } }) ⟨rfl, rfl⟩
      (.of_keeps (F := blockFields) (.step await_keeps <| .step modeEvent_keeps .refl))
  have hunbound {u : State} {p : LaunchEntry → Bool} : u.Keeps blockFields (u.removeEntries 2 p).unbindFrames :=
    .step unbindFrames_keeps <| .step removeEntries_keeps .refl
  unfold State.requestMode
  extract_lets c old waits s1 new _ s2 s3 s4
  have h4 : s.Awake s4 := hstart.trans (.of_keeps hunbound)
  have hrefused : s.Awake (if waits then s1.await 0x760003 else s1) :=
    .of_keeps (F := blockFields) (.iteThen (.step modeOutcome_keeps .refl) (.step await_keeps .refl))
  have h3 : s.Awake s3 := hstart
  clear_value s4 s3 s1
  exact .ite hrefused (.ite (.ite (h4.trans (.of_keeps setNat_keeps)) (h4.trans (beginTransition_awake _))) (h3.trans (beginTransition_awake _)))

theorem watchWakeIn_awake (s : State) : s.Awake s.watchWakeIn := by
  rw [watchWakeIn_eq]
  exact .ite (.of_keeps wakeQuoin_keeps) (.trans (.of_keeps wakeQuoin_keeps) (requestMode_awake ..))

/-- WATCH reached from PARKED, before it is told of (R466). -/
def State.reachWatch (src : Nat) (s : State) : State :=
  let asleep := s.twoWire.asleep
  let s := s.writeGnomon (s.power.gEntry + s.power.rtcPeriods * 9375 / 2) 2
  let s := { s with dict := s.dict.filter fun p => !startsOver p.1, committed := [] }
  let s := (s.loadStore).enterMode .watch
  { s with
    twoWire := { s.twoWire with asleep := asleep && src != 2 }
    radio := { s.radio with judged := some s.gnomon }
    power := { s.power with waking := none, left := some s.gnomon, beat := s.gnomon } }

/-- The events and the outcome of the way from PARKED to WATCH (R453, R464, R466). -/
def State.tellResume (src : Nat) (s : State) : State :=
  let s := s.raise 4 3 0x7600 [(1, (src + 1 : Nat))]
  let s := (s.modeEvent 1 2 3 3).endTransition ⟨.parked, .watch, 3, false, s.gnomon⟩
  if s.power.failedWake then
    { s with power := { s.power with failedWake := false } }.raise 4 4 0x7600 [(2, (s.nat 0x76000D : Nat))] else s

theorem resumeWatch_eq (src : Nat) (s : State) : s.resumeWatch src =
    if src = 1 then ((s.reachWatch src).tellResume src).watchWakeIn else (s.reachWatch src).tellResume src := rfl

theorem enterMode_gnomon (m : Mode) (s : State) : (s.enterMode m).gnomon = s.gnomon := enterMode_keeps.same .gnomon (by decide)

theorem writeGnomon_gnomon (new cause : Nat) (s : State) : (s.writeGnomon new cause).gnomon = new % 2 ^ 64 :=
  raise_gnomon ..

theorem reachWatch_watch (src : Nat) (s : State) : (s.reachWatch src).mode = .watch ∧ (s.reachWatch src).power.waking = none ∧
    (s.reachWatch src).gnomon = (s.power.gEntry + s.power.rtcPeriods * 9375 / 2) % 2 ^ 64 := by
  unfold State.reachWatch
  extract_lets asleep u v w
  have hgnomon : w.gnomon = (s.power.gEntry + s.power.rtcPeriods * 9375 / 2) % 2 ^ 64 := by
    refine Eq.trans (enterMode_gnomon ..) (Eq.trans (loadStore_keeps.same .gnomon (by decide)) ?_)
    exact writeGnomon_gnomon ..
  have hmode : w.mode = .watch := enterMode_mode ..
  clear_value w
  exact ⟨hmode, rfl, hgnomon⟩

theorem endTransition_awake (tr : Transition) (s : State) : s.Awake (s.endTransition tr) :=
  ⟨endTransition_mode .., by rw [endTransition_power]⟩

theorem tellResume_awake (src : Nat) (s : State) : s.Awake (s.tellResume src) ∧ (s.tellResume src).gnomon = s.gnomon := by
  unfold State.tellResume
  extract_lets u v
  have hu : s.Keeps [.dict, .awaiting, .events, .log] (u.modeEvent 1 2 3 3) := .step modeEvent_keeps raise_keeps
  have hv : s.Awake v := .trans (.of_keeps hu) (endTransition_awake ..)
  have hgnomon : v.gnomon = s.gnomon := Eq.trans (endTransition_keeps.same .gnomon (by decide)) (hu.same .gnomon (by decide))
  clear_value v
  split
  · exact ⟨hv.trans <| .trans (t := { v with power := { v.power with failedWake := false } }) ⟨rfl, rfl⟩ (.of_keeps raise_keeps),
      (raise_gnomon ..).trans hgnomon⟩
  · exact ⟨hv, hgnomon⟩

theorem parkedResume_resumes {src : Nat} {hashes : List Bytes} (hmode : s.mode = .parked) (hwaking : s.power.waking = some src)
    (hlocked : s.power.wokeAt + 12 ≤ s.power.rtcPeriods) (hmatch : s.power.resumeRecord.mismatch hashes = 0) :
    Gives (.parkedResume hashes) s fun t => t.mode = .watch ∧ t.power.waking = none ∧
      t.gnomon = (s.power.gEntry + s.power.rtcPeriods * 9375 / 2) % 2 ^ 64 := by
  refine gives_next (t := s.resumeWatch src) ?_ ?_
  · show execParkedResume hashes s = _
    unfold execParkedResume
    rw [hwaking]
    dsimp only
    rw [if_neg (by simp only [hmode, ne_eq, not_true_eq_false, false_or]; omega), hmatch]
    exact congrArg Host.Outcome.next (if_pos rfl)
  · obtain ⟨hwatch, hwoken, hgnomon⟩ := reachWatch_watch src s
    obtain ⟨htold, hclock⟩ := tellResume_awake src (s.reachWatch src)
    have hpin := watchWakeIn_awake ((s.reachWatch src).tellResume src)
    rw [resumeWatch_eq]
    split
    · exact ⟨hpin.1.trans (htold.1.trans hwatch), hpin.2.trans (htold.2.trans hwoken),
        Eq.trans (watchWakeIn_keeps.same .gnomon (by decide)) (hclock.trans hgnomon)⟩
    · exact ⟨htold.1.trans hwatch, htold.2.trans hwoken, hclock.trans hgnomon⟩

/-! ### Reset -/

theorem doReset_boot (cause : Nat) (kept : Bool) (s : State) : (s.doReset cause kept).mode = .boot ∧ (s.doReset cause kept).ready = false ∧
    (s.doReset cause kept).power.resetCause = cause ∧ (s.doReset cause kept).gnomon = 0 ∧ (s.doReset cause kept).pending = s.pending ∧
    (s.doReset cause kept).otp = s.otp := ⟨rfl, rfl, rfl, rfl, rfl, rfl⟩

theorem parkedResume_abandons {src : Nat} {hashes : List Bytes} (hmode : s.mode = .parked) (hwaking : s.power.waking = some src)
    (hlocked : s.power.wokeAt + 12 ≤ s.power.rtcPeriods) (hmismatch : s.power.resumeRecord.mismatch hashes ≠ 0) :
    Gives (.parkedResume hashes) s fun t => t.mode = .boot ∧ t.ready = false ∧ t.power.resetCause = 1 ∧ t.gnomon = 0 := by
  generalize hu : s.doReset 1 false = u
  refine gives_next (t := u.holdEvent ⟨0, u.gnomon, 4, 5, 0x7600, packFields 16 [(1, (s.power.resumeRecord.mismatch hashes : Nat))]⟩) ?_ ?_
  · show execParkedResume hashes s = _
    unfold execParkedResume
    rw [hwaking]
    dsimp only
    rw [if_neg (by simp only [hmode, ne_eq, not_true_eq_false, false_or]; omega), ← hu]
    exact congrArg Host.Outcome.next (if_neg hmismatch)
  · obtain ⟨hboot, hready, hcause, hgnomon, _⟩ := doReset_boot 1 false s
    rw [hu] at hboot hready hcause hgnomon
    exact ⟨Eq.trans (holdEvent_keeps.same .mode (by decide)) hboot, Eq.trans (holdEvent_keeps.same .ready (by decide)) hready,
      (congrArg Power.resetCause (holdEvent_keeps.same .power (by decide))).trans hcause,
      Eq.trans (holdEvent_keeps.same .gnomon (by decide)) hgnomon⟩

theorem reset_gives {cause nanos : Nat} {kept : Bool}
    (hcause : cause = 1 ∨ (cause = 2 ∧ 1000 ≤ nanos) ∨ cause = 3 ∨ (cause = 5 ∧ s.power.resetDue = some 5)) :
    Gives (.reset cause nanos kept) s fun t => t.mode = .boot ∧ t.ready = false ∧ t.power.resetCause = cause ∧ t.gnomon = 0 ∧
      t.pending = s.pending ∧ t.otp = s.otp := by
  by_cases hon : cause = 1
  · subst hon
    exact gives_next (congrArg Host.Outcome.next (if_pos rfl)) (doReset_boot 1 false s)
  · exact gives_next (congrArg Host.Outcome.next ((if_neg hon).trans (if_pos (hcause.resolve_left hon)))) (doReset_boot cause kept s)

/-! ### Bring-up -/

theorem becomeReady_ready (cause : Nat) (s : State) : (s.becomeReady cause).ready = true := by
  unfold State.becomeReady
  extract_lets held missed _ u v w x y
  have hv : u.Keeps [.dict, .awaiting, .events, .log] v := .step appendLog_keeps raise_keeps
  have hw : v.Keeps [.dict, .awaiting, .events, .log] w := .foldl (fun _ _ => .step issueEvent_keeps <| .ite (.step appendLog_keeps .refl) .refl) .refl
  have hx : w.Keeps [.ports] x := .foldl (fun _ _ => .step setPort_keeps .refl) .refl
  have hy : x.Keeps [.dict, .awaiting, .events, .log, .antennas] y := .step refreshAntenna_keeps <| .step refreshAntenna_keeps .refl
  have hready : y.ready = true := Eq.trans (hy.same .ready (by decide)) <| Eq.trans (hx.same .ready (by decide)) <|
    Eq.trans (hw.same .ready (by decide)) <| Eq.trans (hv.same .ready (by decide)) rfl
  clear_value y
  exact hready

theorem startIn_mode (m : Mode) (s : State) : (s.startIn m).mode = m := enterMode_mode m s

theorem startIn_flash (m : Mode) (s : State) : (s.startIn m).flash = s.flash := enterMode_flash m s

/-- Whether a bank starts, from flash and OTP alone (R444 to R446). -/
def Flash.starts (o : Otp) (goodA goodB : Bool) (f : Flash) : Bool :=
  let fits := fun (f : Flash) (run : Bool) =>
    let a := (f.running == 0) == run
    o.fits (if a then f.bankA else f.bankB) (if a then goodA else goodB)
  let f' := if f.trial = 1 then { f.setOther { f.other with state := 4 } with trial := 0 } else if f.trial = 3 then { f with trial := 0 } else f
  (decide (f.trial = 1) && fits f false) || fits f' true || fits f' false

theorem chooseBank_starts (goodA goodB : Bool) (s : State) : (s.chooseBank goodA goodB).2 = s.flash.starts s.otp goodA goodB := by
  unfold State.chooseBank Flash.starts
  extract_lets fit swap reverted u _ _ v fits _ f'
  have hfit (w : State) (run : Bool) (hotp : w.otp = s.otp) : fit w run = fits w.flash run := by
    simp only [fit, fits, hotp]
  have hreverted (w : State) : (reverted w).flash = { w.flash with trial := 0 } ∧ (reverted w).otp = w.otp := by
    simp [reverted]
  have hv : v.flash = f' ∧ v.otp = s.otp := by
    simp only [v, f']
    split
    · exact hreverted _
    · split
      · exact hreverted _
      · exact ⟨rfl, rfl⟩
  obtain ⟨hflash, hotp⟩ := hv
  rw [hfit s false rfl, hfit v true hotp, hfit v false hotp, hflash]
  by_cases hfirst : s.flash.trial = 1 ∧ fits s.flash false
  · rw [if_pos hfirst]
    simp [hfirst.1, hfirst.2]
  · rw [if_neg hfirst]
    have hnot : (decide (s.flash.trial = 1) && fits s.flash false) = false := by simpa using hfirst
    rw [hnot, Bool.false_or]
    cases fits f' true <;> cases fits f' false <;> rfl

theorem chooseBank_count (goodA goodB : Bool) (s : State) : (s.chooseBank goodA goodB).1.flash.resetCount = s.flash.resetCount := by
  unfold State.chooseBank
  extract_lets fit swap reverted u _ _ v
  have hreverted (w : State) : (reverted w).flash.resetCount = w.flash.resetCount := by simp [reverted]
  have hv : v.flash.resetCount = s.flash.resetCount := by
    simp only [v]
    split
    · refine (hreverted _).trans ?_
      unfold Flash.setOther
      split <;> rfl
    · split
      · exact hreverted _
      · rfl
  split
  · rfl
  · split
    · exact hv
    · split
      · rw [raise_flash]
        exact hv
      · exact hv

/-- The store's load may write keys and grants to flash, and leaves the power manager (R352). -/
structure State.Loads (s t : State) : Prop where
  keeps : s.Keeps (.flash :: blockFields) t
  count : t.flash.resetCount = s.flash.resetCount

namespace State.Loads
variable {u : State}

theorem of_keeps (h : s.Keeps F t) (hF : F ⊆ blockFields := by decide) : s.Loads t :=
  ⟨h.mono (List.subset_cons_of_subset _ hF), congrArg Flash.resetCount (h.same .flash fun hmem => absurd (hF hmem) (by decide))⟩

theorem trans (h : s.Loads t) (g : t.Loads u) : s.Loads u := ⟨h.keeps.trans g.keeps, g.count.trans h.count⟩

theorem foldl {α : Type} {f : State → α → State} (hf : ∀ (t : State) x, t.Loads (f t x)) (xs : List α) : ∀ s : State, s.Loads (xs.foldl f s) := by
  induction xs with
  | nil => exact fun s => .of_keeps (F := []) .refl
  | cons x xs ih => exact fun s => (hf s x).trans (ih _)

end State.Loads

/-- An act, where there is one, leads to a state as the store's load does. -/
def State.LoadsBy (s : State) : Option (State × Nat) → Prop
  | none => True
  | some p => s.Loads p.1

theorem State.LoadsBy.of_acts {a : Option (State × Nat)} (h : s.Acts F a) (hF : F ⊆ blockFields := by decide) : s.LoadsBy a := by
  cases a with
  | none => exact trivial
  | some p => exact .of_keeps h hF

theorem State.LoadsBy.ite {c : Prop} [Decidable c] {a b : Option (State × Nat)} (h : s.LoadsBy a) (g : s.LoadsBy b) :
    s.LoadsBy (if c then a else b) := by
  split <;> assumption

theorem writeKeySlot_loads {n : Nat} {b : Bytes} : s.Loads (s.writeKeySlot n b).1 := by
  refine ⟨writeKeySlot_keeps.mono, ?_⟩
  unfold State.writeKeySlot
  extract_lets
  split
  · rfl
  · rw [keyEvent_keeps.same .flash (by decide)]

theorem writeTapEnable_blocks {v : Nat} : s.Keeps blockFields (s.writeTapEnable v) := by
  unfold State.writeTapEnable
  exact .ite (.step tapStart_blocks <| .step setNat_keeps .refl) (.step tapStop_blocks <| .step setNat_keeps .refl)

theorem act7_loads {key n : Nat} {v : Val} {b : Bytes} : s.LoadsBy (s.act7 key n v b) := by
  have hkeeps {p : State × Nat} (h : s.Keeps blockFields p.1) : s.LoadsBy (some p) := State.Loads.of_keeps (F := blockFields) h
  unfold State.act7
  exact .ite (hkeeps (.step setNum_keeps .refl)) (.ite (hkeeps (.step setNat_keeps .refl)) (.ite (hkeeps (.step setNat_keeps .refl))
    (.ite (hkeeps (.step logQuery_keeps .refl)) (.ite (hkeeps (.step writeTapEnable_blocks .refl))
    (.ite (hkeeps (.step setNat_keeps .refl)) (.ite writeKeySlot_loads (.ite ⟨storeGrant_keeps.mono, rfl⟩ (.ite (hkeeps (by
      split
      · exact enablePdo_keeps.mono
      · exact .step disablePdo_keeps .refl)) (.ite (hkeeps (.step historyQuery_keeps .refl)) trivial)))))))))

theorem applyWrite_loads {key : Nat} {b : Bytes} : s.Loads (s.applyWrite key b).1 := by
  unfold State.applyWrite
  split
  · exact .of_keeps (F := []) .refl
  · extract_lets v i n c a
    have ha : s.LoadsBy a := .ite (.of_acts act1_keeps) (.ite (.of_acts act4_keeps) act7_loads)
    clear_value a
    split
    · exact .of_keeps (F := []) .refl
    · cases a with
      | none => exact .of_keeps setVal_keeps
      | some p => exact ha

theorem loadStore_loads : s.Loads s.loadStore := by
  have hvalue (t : State) (p : Nat × Val) : t.Loads (t.loadValue p.1 p.2) := by
    unfold State.loadValue
    split
    · exact .of_keeps (F := []) .refl
    · extract_lets c b a
      have ha : t.Loads a.1 := by
        simp only [a]
        split
        · exact .of_keeps (F := []) .refl
        · exact applyWrite_loads
      split
      · exact ha
      · exact .of_keeps (F := blockFields) (.step raise_keeps <| .step bump16_keeps .refl)
  unfold State.loadStore
  extract_lets u v
  have hv : u.Keeps blockFields ((v.setNat 0x110003 v.flash.storedSize).setNat 0x110005 v.flash.stores) :=
    .step setNat_keeps <| .step setNat_keeps <| .step commitKeys_keeps .refl
  exact (State.Loads.foldl hvalue s.flash.store s).trans (.of_keeps hv)

theorem starts_count (o : Otp) (goodA goodB : Bool) (f : Flash) (n : Nat) :
    ({ f with resetCount := n } : Flash).starts o goodA goodB = f.starts o goodA goodB := by
  unfold Flash.starts Flash.setOther Flash.other
  by_cases htrial : f.trial = 1 <;> by_cases hlost : f.trial = 3 <;> by_cases hrunning : f.running = 0 <;> simp [htrial, hlost, hrunning]

section
variable {gpio2 gpio3 goodA goodB : Bool} {temps : List Int} {supplies : List Nat}

/-- The start of the bring-up: the resets counted, and the levels read (R457). -/
def State.readLevels (gpio2 gpio3 : Bool) (s : State) : State :=
  ({ s with flash := { s.flash with resetCount := (s.flash.resetCount + 1) % 2 ^ 32 } } : State).setAll
    [(0x105001, if gpio2 then 0x3B else 0x3A), (0x76000E, boolNat gpio3), (0x102005, ((s.flash.resetCount + 1) % 2 ^ 32 : Nat))]

/-- The bank that starts, where GPIO3 asks for none (R457, R458). -/
def State.bankFound (gpio2 gpio3 goodA goodB : Bool) (s : State) : State × Bool :=
  if gpio3 then (s.readLevels gpio2 gpio3, false) else (s.readLevels gpio2 gpio3).chooseBank goodA goodB

/-- The fuses that a confirmation left to blow, before the store is loaded (R446). -/
def State.bootBank (s : State) : State :=
  let s := s.flushLog.restoreFlash.recordResume
  if s.flash.run.state = 3 ∧ s.flash.trial ≠ 2 then s.advanceRollback else s

theorem bringUpEarly_eq (s : State) : s.bringUpEarly gpio2 gpio3 goodA goodB temps supplies =
    let r := s.bankFound gpio2 gpio3 goodA goodB
    let t := r.1.restoreOtp.measure temps supplies
    if r.2 then ({ t.bootBank with power := { t.bootBank.power with bootStep := 7 } } : State).loadStore
    else (t.startIn .update).becomeReady (if gpio3 then t.power.resetCause else 7) := rfl

theorem readLevels_flash (s : State) : (s.readLevels gpio2 gpio3).flash = { s.flash with resetCount := (s.flash.resetCount + 1) % 2 ^ 32 } ∧
    (s.readLevels gpio2 gpio3).otp = s.otp := ⟨setAll_keeps.same .flash (by decide), setAll_keeps.same .otp (by decide)⟩

theorem bankFound_count (s : State) : (s.bankFound gpio2 gpio3 goodA goodB).1.flash.resetCount = (s.flash.resetCount + 1) % 2 ^ 32 := by
  obtain ⟨hflash, _⟩ := readLevels_flash (gpio2 := gpio2) (gpio3 := gpio3) s
  unfold State.bankFound
  split
  · rw [hflash]
  · rw [chooseBank_count, hflash]

theorem bankFound_starts (s : State) : (s.bankFound gpio2 gpio3 goodA goodB).2 = (!gpio3 && (s.chooseBank goodA goodB).2) := by
  obtain ⟨hflash, hotp⟩ := readLevels_flash (gpio2 := gpio2) (gpio3 := gpio3) s
  unfold State.bankFound
  cases gpio3
  · rw [if_neg (by decide), chooseBank_starts, chooseBank_starts, hflash, hotp, starts_count]
    rfl
  · rfl

theorem measured_count (s : State) : ((s.bankFound gpio2 gpio3 goodA goodB).1.restoreOtp.measure temps supplies).flash.resetCount =
    (s.flash.resetCount + 1) % 2 ^ 32 := by
  rw [measure_keeps.same .flash (by decide), restoreOtp_keeps.same .flash (by decide), bankFound_count]

theorem exec_bringUp (hmode : s.mode = .boot) (hready : s.ready = false) : exec (.bringUp gpio2 gpio3 goodA goodB temps supplies) s =
    .next (if s.power.bootStep = 0 then s.bringUpEarly gpio2 gpio3 goodA goodB temps supplies else s.bringUpLate) := by
  show execBringUp gpio2 gpio3 goodA goodB temps supplies s = _
  unfold execBringUp
  rw [if_neg (by simp [hmode, hready])]

theorem bringUp_update (hmode : s.mode = .boot) (hready : s.ready = false) (hstep : s.power.bootStep = 0)
    (hnone : gpio3 = true ∨ (s.chooseBank goodA goodB).2 = false) :
    Gives (.bringUp gpio2 gpio3 goodA goodB temps supplies) s fun t => t.ready = true ∧ t.mode = .update ∧
      t.flash.resetCount = (s.flash.resetCount + 1) % 2 ^ 32 := by
  have hfound : (s.bankFound gpio2 gpio3 goodA goodB).2 = false := by
    rw [bankFound_starts]
    rcases hnone with rfl | h
    · rfl
    · rw [h, Bool.and_false]
  refine gives_next ((exec_bringUp hmode hready).trans (congrArg Host.Outcome.next (if_pos hstep))) ?_
  rw [bringUpEarly_eq]
  dsimp only
  rw [hfound, if_neg (by decide)]
  refine ⟨becomeReady_ready .., ?_, ?_⟩
  · rw [becomeReady_keeps.same .mode (by decide), startIn_mode]
  · rw [becomeReady_keeps.same .flash (by decide), startIn_flash, measured_count]

theorem bootBank_flash (s : State) : s.bootBank.flash = s.flash := by
  have h : s.Keeps [.freeCtr, .dict, .log, .mesh, .power, .awaiting, .events, .otp] s.bootBank :=
    .iteThen (.step recordResume_keeps <| .step restoreFlash_keeps <| .step flushLog_keeps .refl) (.step advanceRollback_keeps .refl)
  exact h.same .flash (by decide)

theorem bringUp_store (hmode : s.mode = .boot) (hready : s.ready = false) (hstep : s.power.bootStep = 0)
    (hfound : (s.chooseBank goodA goodB).2 = true) :
    Gives (.bringUp gpio2 false goodA goodB temps supplies) s fun t => t.power.bootStep = 7 ∧
      t.flash.resetCount = (s.flash.resetCount + 1) % 2 ^ 32 := by
  have hbank : (s.bankFound gpio2 false goodA goodB).2 = true := by rw [bankFound_starts, hfound]; rfl
  have hcount := measured_count (gpio2 := gpio2) (gpio3 := false) (goodA := goodA) (goodB := goodB) (temps := temps) (supplies := supplies) s
  refine gives_next ((exec_bringUp hmode hready).trans (congrArg Host.Outcome.next (if_pos hstep))) ?_
  rw [bringUpEarly_eq]
  dsimp only
  rw [hbank, if_pos rfl]
  generalize State.measure temps supplies _ = u at hcount ⊢
  obtain ⟨hkeeps, hloaded⟩ := loadStore_loads (s := { u.bootBank with power := { u.bootBank.power with bootStep := 7 } })
  exact ⟨congrArg Power.bootStep (hkeeps.same .power (by decide)),
    hloaded.trans ((congrArg Flash.resetCount (bootBank_flash u)).trans hcount)⟩

theorem bringUp_start (hmode : s.mode = .boot) (hready : s.ready = false) (hstep : s.power.bootStep ≠ 0) :
    Gives (.bringUp gpio2 gpio3 goodA goodB temps supplies) s fun t => t.ready = true ∧ t.mode = modeOf (s.nat 0x760004) := by
  refine gives_next ((exec_bringUp hmode hready).trans (congrArg Host.Outcome.next (if_neg hstep))) ⟨becomeReady_ready .., ?_⟩
  unfold State.bringUpLate
  rw [becomeReady_keeps.same .mode (by decide), startIn_mode]

end

/-- Settles O23, clause by clause. -/
theorem powerCompletes : Obligations.PowerCompletes := by
  unfold Obligations.PowerCompletes
  exact ⟨fun r target s => modeRequest_begins, fun r target s => modeRequest_inForce, fun tr s => transitionHoldEnd_begins,
    fun tr s => transitionComplete_gives, fun tr s => parkedEntry_gives, fun sources rising micros s => wake_glimmer,
    fun sources rising micros s => wake_pin, fun src hashes s => parkedResume_resumes, fun s => wakeFailure_gives,
    fun rising micros s => wakeInWatch_gives, fun from_ s => wakeOutEnd_gives, fun c nanos kept s => reset_gives,
    fun gpio2 gpio3 goodA goodB temps supplies s => bringUp_update, fun step tr s => pathPowerUp_gives,
    fun gpio2 goodA goodB temps supplies s => bringUp_store, fun gpio2 gpio3 goodA goodB temps supplies s => bringUp_start,
    fun gpio2 gpio3 goodA goodB temps supplies s hnot =>
      gives_next (congrArg Host.Outcome.next (if_pos (by simpa using hnot))) rfl,
    fun src hashes s => parkedResume_abandons, fun sources rising micros s => wake_start⟩

end Sys2Proof.Machine
end

section
/-!
PROOFS. What the commands of the mesh radio leave (R278 to R299).
-/
namespace Sys2Proof.Machine
-- One proof after another keeps the memory of the whole text's compile low.
set_option Elab.async false

variable {s t : State} {r : Requester} {hz n p sfd last : Nat} {phr : Phr} {psdu : Bytes} {plain : Option Bytes}

/-! ### The radio in motion -/

theorem setRadio_kept (new : Nat) (s : State) : (s.setRadio new).radio.calib = s.radio.calib ∧ (s.setRadio new).radio.wake = s.radio.wake ∧
    (s.setRadio new).radio.test = s.radio.test := by
  unfold State.setRadio
  extract_lets old r r1 due m m1
  have hr : r1.calib = s.radio.calib ∧ r1.wake = s.radio.wake ∧ r1.test = s.radio.test := by
    simp only [r1]
    split
    · exact ⟨rfl, rfl, rfl⟩
    · split <;> exact ⟨rfl, rfl, rfl⟩
  exact hr

/-- What a change of state leaves in the radio: its calibration, its wake transmission and its test (R283). -/
theorem moveRadio_kept (new : Nat) (same : Bool) (s : State) : (s.moveRadio new same).radio.calib = s.radio.calib ∧
    (s.moveRadio new same).radio.wake = s.radio.wake ∧ (s.moveRadio new same).radio.test = s.radio.test := by
  obtain ⟨hcalib, hwake, htest⟩ := setRadio_kept new s
  unfold State.moveRadio
  extract_lets old t u _ v
  split
  · exact ⟨hcalib, hwake, htest⟩
  · exact ⟨hcalib, hwake, htest⟩

/-- The instant at which a change of state ends (R283). -/
theorem moveRadio_arrives (new : Nat) (same : Bool) (s : State) :
    (s.moveRadio new same).radio.arrives = s.gnomon + (changeTicks s.radioState new same).getD 0 := by
  unfold State.moveRadio
  extract_lets old t u _ v
  have hgnomon : u.gnomon = s.gnomon := setRadio_keeps.same .gnomon (by decide)
  split
  · exact congrArg (· + t) hgnomon
  · exact congrArg (· + t) hgnomon

theorem moveRadio_rxSince (new : Nat) (same : Bool) (s : State) : (s.moveRadio new same).radio.rxSince = (s.setRadio new).radio.rxSince := by
  unfold State.moveRadio
  extract_lets old t u _ v
  split <;> rfl

/-- Reception counts from the start of the change to RX until it is left (R288). -/
theorem setRadio_rxSince (s : State) : (s.radioState ≠ 3 → (s.setRadio 3).radio.rxSince = some s.gnomon) ∧
    (s.radioState = 3 → ∀ n, n ≠ 3 → (s.setRadio n).radio.rxSince = none) := by
  constructor
  · intro hother
    unfold State.setRadio
    extract_lets old r r1 due m m1
    have hr : r1 = { r with rxSince := some s.gnomon } :=
      (if_neg fun h => hother h.1).trans (if_pos ⟨hother, rfl⟩)
    exact congrArg Radio.rxSince hr
  · intro hreceives n hn
    unfold State.setRadio
    extract_lets old r r1 due m m1
    have hr : r1.rxSince = none := congrArg Radio.rxSince (if_pos ⟨hreceives, hn⟩)
    exact hr

theorem radioTransition_receives (hup : s.radioUp = true) (hstate : s.radioState = 2) (hleaves : s.radioStays 3 = false)
    (hmay : s.mayReceive hz = true) :
    Gives (.radioTransition 3 hz) s fun t => t.radioState = 3 ∧ t.nat 0x600102 = hz ∧ t.radio.rxSince = some s.gnomon ∧
      t.radio.arrives = s.gnomon + 9831 := by
  generalize hsame : (hz == s.nat 0x600102) = same
  generalize hu : (s.moveRadio 3 same).setNat 0x600102 hz = u
  have hexec : exec (.radioTransition 3 hz) s = .next (if u.radio.rxChannel = hz then u
      else ({ u with radio := { u.radio with rxChannel := hz } } : State).retuneTap hz (u.gnomon + 9831)) := by
    show execRadioTransition 3 hz s = _
    unfold execRadioTransition
    rw [hsame, hstate, ← hu]
    exact congrArg Host.Outcome.next ((if_neg (by simp [hup, hleaves])).trans ((if_pos rfl).trans (if_neg (by simp [hmay]))))
  have hfrom : u.radioState = 3 ∧ u.nat 0x600102 = hz ∧ u.radio.rxSince = some s.gnomon ∧ u.radio.arrives = s.gnomon + 9831 := by
    have hsince := (moveRadio_rxSince 3 same s).trans ((setRadio_rxSince s).1 (by rw [hstate]; decide))
    have harrives := moveRadio_arrives 3 same s
    rw [hstate] at harrives
    rw [← hu]
    exact ⟨by rw [State.radioState, setNat_nat, if_neg (by decide), moveRadio_nat, if_pos rfl], by rw [setNat_nat, if_pos rfl], hsince, harrives⟩
  obtain ⟨h1, h2, h3, h4⟩ := hfrom
  refine gives_next hexec ?_
  split
  · exact ⟨h1, h2, h3, h4⟩
  · generalize hv : ({ u with radio := { u.radio with rxChannel := hz } } : State) = v
    have hradio : (v.retuneTap hz (u.gnomon + 9831)).radio = { u.radio with rxChannel := hz } :=
      Eq.trans (retuneTap_keeps.same .radio (by decide)) (hv ▸ rfl)
    have hnat (k : Nat) : (v.retuneTap hz (u.gnomon + 9831)).nat k = u.nat k := (retuneTap_keeps.nat k).trans (hv ▸ rfl)
    exact ⟨(hnat _).trans h1, (hnat _).trans h2, by rw [hradio]; exact h3, by rw [hradio]; exact h4⟩

theorem radioTransition_standby (hup : s.radioUp = true) (hstate : s.radioState = 3) (hleaves : s.radioStays 2 = false) :
    Gives (.radioTransition 2 hz) s fun t => t.radioState = 2 ∧ t.radio.rxSince = none ∧ t.radio.arrives = s.gnomon + 308 := by
  generalize hsame : (hz == s.nat 0x600102) = same
  have hexec : exec (.radioTransition 2 hz) s = .next (s.moveRadio 2 same) := by
    show execRadioTransition 2 hz s = _
    unfold execRadioTransition
    rw [hsame, hstate]
    exact congrArg Host.Outcome.next ((if_neg (by simp [hup, hleaves])).trans ((if_neg (by decide)).trans (if_neg (by decide))))
  have harrives := moveRadio_arrives 2 same s
  rw [hstate] at harrives
  exact gives_next hexec ⟨(moveRadio_nat ..).trans (if_pos rfl),
    (moveRadio_rxSince 2 same s).trans ((setRadio_rxSince s).2 hstate 2 (by decide)), harrives⟩

theorem radioTransition_acknowledges (hup : s.radioUp = true) (hstate : s.radioState = 3) (hleaves : s.radioStays 4 = false)
    (hdue : s.ackDue (s.nat 0x600102) 7373 = true) :
    Gives (.radioTransition 4 (s.nat 0x600102)) s fun t => t.radioState = 4 ∧ t.radio.arrives = s.gnomon + 7373 := by
  generalize hu : (if s.hearing then s.bump 0x600108 else s) = u
  have hexec : exec (.radioTransition 4 (s.nat 0x600102)) s = .next ((u.moveRadio 4 true).setNat 0x600102 (s.nat 0x600102)) := by
    show execRadioTransition 4 (s.nat 0x600102) s = _
    unfold execRadioTransition
    rw [beq_self_eq_true, hstate, ← hu]
    exact congrArg Host.Outcome.next ((if_neg (by simp [hup, hleaves])).trans ((if_neg (by decide)).trans ((if_pos rfl).trans (if_pos hdue))))
  have hkept : u.radioState = 3 ∧ u.gnomon = s.gnomon := by
    rw [← hu]
    split
    · exact ⟨(bump_nat ..).trans ((if_neg (by decide)).trans hstate), bump_keeps.same .gnomon (by decide)⟩
    · exact ⟨hstate, rfl⟩
  obtain ⟨hfrom, hgnomon⟩ := hkept
  have harrives := moveRadio_arrives 4 true u
  rw [hfrom, hgnomon] at harrives
  refine gives_next hexec ⟨?_, harrives⟩
  rw [State.radioState, setNat_nat, if_neg (by decide), moveRadio_nat, if_pos rfl]

/-! ### An unlock, and the calibrations -/

theorem endWake_radio {w : WakeTx} {start sent : Nat} (hstate : s.radioState = 2) :
    (s.endWake w start sent).radioState = 2 ∧ (s.endWake w start sent).nat 0x600109 = s.nat 0x600109 := by
  have hspares {k : Nat} (h : k / 256 ≠ 0x9800) (hsync : k ≠ 0x102007) (hlog : k ≠ 0x710007) (h1 : k ≠ 0x601102) (h2 : k ≠ 0x601103) :
      s.Spares k (s.endWake w start sent) := by
    unfold State.endWake
    rw [if_neg (by rw [hstate]; decide)]
    exact .step (issuePaired_spares (notMem_eventKeys h hsync hlog) h1) <| .step (.setNat h2) <| .keeps update_radio_keeps
  exact ⟨(hspares (by decide) (by decide) (by decide) (by decide) (by decide)).nat.trans hstate,
    (hspares (by decide) (by decide) (by decide) (by decide) (by decide)).nat⟩

/-- What an unlock does to the radio's state (R281): a transmission ends in STANDBY, a reception is dropped. -/
def State.dropAir (s : State) : State :=
  if s.radioState = 4 then
    let s := ({ s with radio := { s.radio with airUntil := s.gnomon }, link := { s.link with ack := none } } : State).moveRadio 2 true
    match s.radio.wake with
    | some w => match w.start with
      | some t => s.endWake w t (if t ≤ s.gnomon then min w.repeats ((s.gnomon - t + 614400) / telegramSlot) else 0)
      | none => s
    | none => s
  else { s with radio := { s.radio with receiving := none, arrives := max s.radio.arrives (s.gnomon + 6144) } }

theorem dropAir_state (s : State) : s.dropAir.radioState = (if s.radioState = 4 then 2 else s.radioState) ∧
    s.dropAir.nat 0x600109 = s.nat 0x600109 := by
  unfold State.dropAir
  split
  next =>
    generalize hu : State.moveRadio 2 true _ = u
    have hstate : u.radioState = 2 := hu ▸ (moveRadio_nat ..).trans (if_pos rfl)
    have hcount : u.nat 0x600109 = s.nat 0x600109 := hu ▸ (moveRadio_nat ..).trans (if_neg (by decide))
    dsimp only
    split
    · split
      · exact ⟨(endWake_radio hstate).1, (endWake_radio hstate).2.trans hcount⟩
      · exact ⟨hstate, hcount⟩
    · exact ⟨hstate, hcount⟩
  next => exact ⟨rfl, rfl⟩

/-- The VCO calibration is due (R281, R288). -/
def State.vcoDue (s : State) : State :=
  if (Map.get (fun _ => none) s.radio.dueSince 0).isSome then s
  else { s with radio := { s.radio with dueSince := Map.put (fun _ => none) s.radio.dueSince 0 (some s.gnomon) } }

/-- The frame that an unlock cuts off ends with status 5 (R281). -/
def State.cutOff (s : State) : State :=
  match s.link.frames.find? fun f => f.stage == .sent && decide (s.gnomon < f.last) with
  | some f => s.endFrame f.handle 5
  | none => s

theorem synthUnlock_gives (hup : s.radioUp = true) (hactive : 2 ≤ s.radioState) :
    Gives .synthUnlock s fun t => t.nat 0x600109 = satAdd 32 (s.nat 0x600109) 1 ∧
      t.radioState = (if s.radioState = 4 then 2 else s.radioState) := by
  have hexec : exec .synthUnlock s = .next ((s.cutOff.dropAir.vcoDue.bump 0x600109).raise 21 1 0x500 []) := by
    show execSynthUnlock s = _
    unfold execSynthUnlock
    rw [if_pos ⟨hup, hactive⟩]
    unfold State.vcoDue State.dropAir State.cutOff
    rfl
  have hcut (k : Nat) : s.cutOff.nat k = s.nat k := by
    unfold State.cutOff
    split <;> rfl
  have hdue (k : Nat) (u : State) : u.vcoDue.nat k = u.nat k := by
    unfold State.vcoDue
    split <;> rfl
  obtain ⟨hstate, hcount⟩ := dropAir_state s.cutOff
  refine gives_next hexec ⟨?_, ?_⟩
  · rw [raise_nat_other _ _ _ _ _ (by decide) (by decide) (by decide), bump_nat, if_pos rfl, hdue, hcount, hcut]
  · rw [State.radioState, raise_nat_other _ _ _ _ _ (by decide) (by decide) (by decide), bump_nat, if_neg (by decide), hdue]
    refine hstate.trans ?_
    rw [State.radioState, hcut]

theorem calibrationStart_gives {k : Nat} (hfirst : ((List.range 4).find? fun k => (s.calDue k).isSome) = some k) (hup : s.radioUp = true)
    (hstate : s.radioState = 2 ∨ s.radioState = 3) (hidle : s.radio.calib = none) (hack : s.ackWindow = false) (hair : s.onAir = false)
    (hhears : s.hearing = false) (hcsma : s.inCsma = false) (hwake : s.radio.wake = none) (htest : s.radio.test = none)
    (harrived : s.arrived = true)
    (hfree : (s.commitments.all fun t => decide (s.gnomon + 308 + calTicks k + 1536 ≤ t)) = true) :
    Gives .calibrationStart s fun t => t.radioState = 2 ∧
      t.radio.calib = some ⟨k, s.gnomon + (if s.radioState = 3 then 308 else 0), s.radioState⟩ := by
  generalize hready : s.gnomon + (if s.radioState = 3 then 308 else 0) = ready
  have hle : ready ≤ s.gnomon + 308 := by
    rw [← hready]
    split <;> omega
  have hall : (s.commitments.all fun t => decide (ready + calTicks k + 1536 ≤ t)) = true := by
    rw [List.all_eq_true] at hfree ⊢
    intro t ht
    have := hfree t ht
    simp only [decide_eq_true_eq] at this ⊢
    omega
  generalize hu : (if s.radioState = 3 then s.moveRadio 2 true else s) = u
  refine gives_next (t := { u with radio := { u.radio with calib := some ⟨k, ready, s.radioState⟩ } }) ?_ ⟨?_, rfl⟩
  · show execCalibrationStart s = _
    unfold execCalibrationStart
    rw [hfirst]
    dsimp only
    rw [hready, ← hu]
    refine congrArg Host.Outcome.next (if_pos ?_)
    rcases hstate with h | h <;> simp [hup, h, hidle, hack, hair, hhears, hcsma, hwake, htest, harrived, hall]
  · show u.radioState = 2
    rw [← hu]
    rcases hstate with h | h
    · rw [if_neg (by rw [h]; decide)]
      exact h
    · rw [if_pos h]
      exact (moveRadio_nat ..).trans (if_pos rfl)

theorem calibrationComplete_gives {c : Calib} (hruns : s.radio.calib = some c) (hover : c.started + calTicks c.kind ≤ s.gnomon) :
    Gives .calibrationComplete s fun t => t.radio.calib = none ∧ t.nat (0x600205 + c.kind) = s.gnomon := by
  generalize hu : ({ s with radio := { s.radio with
    calib := none
    dueSince := s.radio.dueSince.erase c.kind
    calTemp := Map.put (fun _ => 0) s.radio.calTemp c.kind (s.num 0x700004)
    sentSince := if c.kind = 1 then false else s.radio.sentSince
    rxTime := if c.kind = 2 then 0 else s.radio.rxTime } } : State) = u
  generalize hv : (u.bump 0x600202).setNat (0x600205 + c.kind) u.gnomon = v
  generalize hw : (if c.kind = 1 then (v.setNat 0x600204 (clearBit (v.nat 0x600204) c.kind)).offsetDrive
    else v.setNat 0x600204 (clearBit (v.nat 0x600204) c.kind)) = w
  have hexec : exec .calibrationComplete s = .next (if c.back = 3 then w.moveRadio 3 true else w) := by
    show execCalibrationComplete s = _
    unfold execCalibrationComplete
    rw [hruns, ← hw, ← hv, ← hu]
    exact congrArg Host.Outcome.next (if_pos hover)
  have hw' : w.radio.calib = none ∧ w.nat (0x600205 + c.kind) = s.gnomon := by
    have hcalib : v.radio.calib = none := by rw [← hv, ← hu]; rfl
    have hcount : (v.setNat 0x600204 (clearBit (v.nat 0x600204) c.kind)).nat (0x600205 + c.kind) = s.gnomon := by
      rw [setNat_nat, if_neg (by omega), ← hv, setNat_nat, if_pos rfl, ← hu]
    rw [← hw]
    split
    · exact ⟨hcalib, hcount⟩
    · exact ⟨hcalib, hcount⟩
  obtain ⟨hcalib, hcount⟩ := hw'
  refine gives_next hexec ?_
  split
  · exact ⟨(moveRadio_kept ..).1.trans hcalib, (moveRadio_nat ..).trans ((if_neg (by omega)).trans hcount)⟩
  · exact ⟨hcalib, hcount⟩

theorem calibrationAbort_gives {c : Calib} (hruns : s.radio.calib = some c)
    (hcommitted : (s.commitments.any fun i => decide (i < c.started + calTicks c.kind)) = true) :
    Gives .calibrationAbort s fun t => t.radio.calib = none ∧ t.nat 0x600203 = satAdd 32 (s.nat 0x600203) 1 := by
  refine gives_next (t := ({ s with radio := { s.radio with calib := none, arrives := s.gnomon + 154 } } : State).bump 0x600203) ?_
    ⟨rfl, (bump_nat ..).trans (if_pos rfl)⟩
  show execCalibrationAbort s = _
  unfold execCalibrationAbort State.abortCalibration
  rw [hruns]
  exact congrArg Host.Outcome.next (if_pos hcommitted)

theorem calibrationOverdue_gives {k i : Nat} (hdue : s.calDue k = some i) (hk : k < 4) (hover : i + 1536000000 ≤ s.gnomon)
    (hclear : bitOf (s.nat 0x600204) k = false) (hup : s.radioUp = true) :
    Gives (.calibrationOverdue k) s fun t => t.nat 0x600204 = setBit (s.nat 0x600204) k := by
  refine gives_next (t := (s.setNat 0x600204 (setBit (s.nat 0x600204) k)).raise 21 1 0x500 []) ?_ ?_
  · show execCalibrationOverdue k s = _
    unfold execCalibrationOverdue
    rw [hdue]
    exact congrArg Host.Outcome.next (if_pos ⟨hk, hover, by rw [hclear]; rfl, hup⟩)
  · rw [raise_nat_other _ _ _ _ _ (by decide) (by decide) (by decide), setNat_nat, if_pos rfl]

/-! ### Frames received -/

theorem countChosen_nat {old new : Option FrameCopy} {k : Nat} (hk : k < 0x60010C) : (s.countChosen old new).nat k = s.nat k := by
  have hold (d : FrameCopy) : k ≠ 0x60010C + d.source := by omega
  unfold State.countChosen
  split
  · rfl
  · extract_lets u
    have hu : u.nat k = s.nat k := by
      simp only [u]
      split
      next d _ => rw [setNat_nat, if_neg (hold d)]
      next => rfl
    clear_value u
    split
    next d _ => rw [bump_nat, if_neg (hold d), hu]
    next => exact hu

theorem addCopy_nat {c : FrameCopy} {k : Nat} (hk : k < 0x60010C) : (s.addCopy c).nat k = s.nat k := by
  unfold State.addCopy
  split
  · rfl
  · exact countChosen_nat hk

/-- The counts of a radio test that a frame adds to (R299). -/
def State.countTest (good : Bool) (rssi : Int) (s : State) : State :=
  match s.radio.test with
  | some t => if t.cmd = 3 then { s with radio := { s.radio with test := some { t with
      frames := t.frames + 1, good := t.good + boolNat good, rssi := t.rssi + rssi } } } else s
  | none => s

theorem exec_narrowbandFrame {rssi snr : Int} (hup : s.radioUp = true) (hstate : s.radioState = 3) (hreached : s.radio.arrives ≤ sfd) :
    exec (.narrowbandFrame sfd last phr psdu plain rssi snr) s = .next (
      let good := phr.kept && phr.good psdu
      let u := ({ s with radio := { s.radio with receiving := none } } : State).countTest good rssi
      if !phr.kept then u.bump 0x60010B
      else
        let v := u.bump (if good then 0x60010A else 0x60010B)
        if v.radio.test.isSome then v
        else v.addCopy ⟨0, sfd, last, phr.length, clampInt (-120) (-10) rssi, lqOf snr, good, plain.isSome, macFrame phr.fcs psdu plain⟩) := by
  show execNarrowbandFrame sfd last phr psdu plain rssi snr s = _
  unfold execNarrowbandFrame
  rw [if_pos ⟨hup, hstate, hreached⟩]
  rfl

theorem narrowbandFrame_good {rssi snr : Int} (hup : s.radioUp = true) (hstate : s.radioState = 3) (hreached : s.radio.arrives ≤ sfd)
    (htest : s.radio.test = none) (hkept : phr.kept = true) (hgood : phr.good psdu = true) :
    Gives (.narrowbandFrame sfd last phr psdu plain rssi snr) s fun t =>
      t.nat 0x60010A = satAdd 32 (s.nat 0x60010A) 1 ∧ t.radio.receiving = none := by
  generalize hu : ({ s with radio := { s.radio with receiving := none } } : State) = u
  have huntested : u.radio.test = none := hu ▸ htest
  have hcounted (good : Bool) : u.countTest good rssi = u := by
    unfold State.countTest
    rw [huntested]
  refine gives_next (exec_narrowbandFrame hup hstate hreached) ?_
  simp only [hkept, hgood, hu, hcounted, Bool.and_self, Bool.not_true, Bool.false_eq_true, if_false, if_true]
  rw [if_neg (by rw [bump_keeps.same .radio (by decide), huntested]; decide)]
  refine ⟨?_, ?_⟩
  · rw [addCopy_nat (by decide), bump_nat, if_pos rfl, ← hu]
    rfl
  · rw [addCopy_keeps.same .radio (by decide), bump_keeps.same .radio (by decide), ← hu]

theorem narrowbandFrame_bad {rssi snr : Int} (hup : s.radioUp = true) (hstate : s.radioState = 3) (hreached : s.radio.arrives ≤ sfd)
    (hbad : phr.kept = false) :
    Gives (.narrowbandFrame sfd last phr psdu plain rssi snr) s fun t => t.nat 0x60010B = satAdd 32 (s.nat 0x60010B) 1 ∧
      t.link.receptions = s.link.receptions := by
  have hcounted (u : State) (good : Bool) : (u.countTest good rssi).nat 0x60010B = u.nat 0x60010B ∧ (u.countTest good rssi).link = u.link := by
    unfold State.countTest
    split
    · split <;> exact ⟨rfl, rfl⟩
    · exact ⟨rfl, rfl⟩
  refine gives_next (exec_narrowbandFrame hup hstate hreached) ?_
  dsimp only
  rw [hbad, if_pos (by decide)]
  generalize hu : ({ s with radio := { s.radio with receiving := none } } : State) = u
  obtain ⟨hnat, hlink⟩ := hcounted u (false && phr.good psdu)
  refine ⟨?_, ?_⟩
  · rw [bump_nat, if_pos rfl, hnat, ← hu]
    rfl
  · rw [bump_keeps.same .link (by decide), hlink, ← hu]

/-- The first good copy of a frame opens it, and is the one selected (R294). -/
theorem addCopy_opens {c : FrameCopy} (hgood : c.good = true) (hintime : s.gnomon ≤ c.last + 61440) (hnone : s.link.receptions = []) :
    (s.addCopy c).link.receptions.map (fun r => r.chosen) = [some c] ∧
      (s.addCopy c).nat (0x60010C + c.source) = satAdd 32 (s.nat (0x60010C + c.source)) 1 := by
  have hjoined : (Reception.join s.gnomon c ⟨[], none, 0, false⟩).chosen = some c := by
    simp [Reception.join, hgood]
  have heq : s.addCopy c = ({ s with link := { s.link with
      receptions := [Reception.join s.gnomon c ⟨[], none, 0, false⟩] } } : State).bump (0x60010C + c.source) := by
    unfold State.addCopy
    rw [if_neg (by omega), hnone]
    show State.countChosen none (Reception.join s.gnomon c ⟨[], none, 0, false⟩).chosen _ = _
    rw [hjoined]
    rfl
  rw [heq]
  refine ⟨?_, ?_⟩
  · rw [bump_keeps.same .link (by decide)]
    exact congrArg (fun d => [d]) hjoined
  · rw [bump_nat, if_pos rfl]
    rfl

theorem tapCopy_gives {lq : Nat} {rssi : Int} (hp : p < 2) (hruns : s.tapRuns = true) (hmode : s.mode = .full)
    (hquiet : s.transmitting = false) (hwhole : s.tapStraddles p sfd last = false) (hkept : phr.kept = true) (hgood : phr.good psdu = true)
    (hintime : s.gnomon ≤ last + 61440) (hnone : s.link.receptions = []) :
    Gives (.tapCopy p sfd last phr psdu plain rssi lq) s fun t =>
      t.link.receptions.map (fun r => r.chosen) =
        [some ⟨p + 1, sfd, last, phr.length, rssi, min lq 255, true, plain.isSome, macFrame phr.fcs psdu plain⟩] ∧
      t.nat (0x60010C + (p + 1)) = satAdd 32 (s.nat (0x60010C + (p + 1))) 1 := by
  generalize hc : (⟨p + 1, sfd, last, phr.length, rssi, min lq 255, true, plain.isSome, macFrame phr.fcs psdu plain⟩ : FrameCopy) = c
  have hlost : ¬((s.tapEnds p).transmitting = true ∨ s.tapStraddles p sfd last = true ∨ (!phr.kept) = true ∨ (p = 1 ∧ (s.tapEnds p).mode ≠ .full)) := by
    rw [show (s.tapEnds p).transmitting = s.transmitting from rfl, show (s.tapEnds p).mode = s.mode from rfl, hquiet, hwhole, hkept, hmode]
    simp
  have hexec : exec (.tapCopy p sfd last phr psdu plain rssi lq) s = .next ((s.tapEnds p).addCopy c) := by
    show execTapCopy p sfd last phr psdu plain rssi lq s = _
    unfold execTapCopy
    rw [if_pos ⟨hp, hruns⟩, hgood, hc]
    exact congrArg Host.Outcome.next (if_neg hlost)
  have hopened := addCopy_opens (s := s.tapEnds p) (c := c) (by rw [← hc]) (by rw [← hc]; exact hintime) hnone
  rw [show c.source = p + 1 by rw [← hc]] at hopened
  exact gives_next hexec hopened

theorem preambleDetected_radio {sfd n : Option Nat} (hup : s.radioUp = true) (hstate : s.radioState = 3) (harrived : s.arrived = true) :
    Gives (.preambleDetected 0 sfd n) s fun t => t.radio.receiving = some s.gnomon ∧ t.radio.rxUntil = s.receptionEnd sfd n :=
  gives_next (congrArg Host.Outcome.next ((if_pos rfl).trans (if_pos ⟨hup, hstate, harrived⟩))) ⟨rfl, rfl⟩

theorem preambleDetected_tap {sfd n : Option Nat} (hlow : 1 ≤ p) (hhigh : p ≤ (if s.mode = .full then 2 else 1)) (hruns : s.tapRuns = true) :
    Gives (.preambleDetected p sfd n) s fun t => (t.path (p - 1)).tapSince = some s.gnomon ∧
      (t.path (p - 1)).tapUntil = s.receptionEnd sfd n := by
  refine gives_next (congrArg Host.Outcome.next ((if_neg (by omega)).trans (if_pos ⟨hhigh, hruns⟩))) ?_
  simp

/-! ### Wake requests and radio tests -/

theorem autoTake_supplyIndex (key hz : Nat) (s : State) : (s.autoTake r key).supplyIndex hz = s.supplyIndex hz := by
  unfold State.supplyIndex
  extract_lets base
  have hbase : base = 0x6003 ∨ base = 0x6004 := by
    simp only [base]
    split
    · exact .inl rfl
    · exact .inr rfl
  refine congrArg List.getLast? (List.filter_congr fun i hi => ?_)
  have hi := List.mem_range.mp hi
  have hindex : obj base (i + 1) / 256 = base := by
    unfold obj
    omega
  rw [autoTake_nat r key s (by omega) (by omega) (by omega) (by omega),
    autoTake_nat r key s (by decide) (by decide) (by decide) (by decide)]

theorem autoTake_txPower (key hz request : Nat) (s : State) : (s.autoTake r key).txPower hz request = s.txPower hz request := by
  unfold State.txPower
  rw [capRow_of_committed (autoTake_committed r key s), autoTake_supplyIndex,
    num_of_val_eq (autoTake_val r key s (by decide) (by decide) (by decide) (by decide)),
    autoTake_nat r key s (by decide) (by decide) (by decide) (by decide)]

theorem touch_radio (r : Requester) (s : State) : (s.touch r).radio.wake = s.radio.wake ∧ (s.touch r).radio.test = s.radio.test := by
  unfold State.touch
  split
  · split <;> exact ⟨rfl, rfl⟩
  · exact ⟨rfl, rfl⟩

/-- The octets of a wake request (R298). -/
theorem wakeRequest_fields {code target freq i : Nat} (hcode : code < 65536) (htarget : target < 65536) :
    fieldLe (leNat 2 code ++ leNat 2 target ++ [n, freq, i, 0]) 0 2 = code ∧ fieldLe (leNat 2 code ++ leNat 2 target ++ [n, freq, i, 0]) 2 2 = target ∧
      nthD (leNat 2 code ++ leNat 2 target ++ [n, freq, i, 0]) 4 0 = n ∧ nthD (leNat 2 code ++ leNat 2 target ++ [n, freq, i, 0]) 5 0 = freq ∧
      nthD (leNat 2 code ++ leNat 2 target ++ [n, freq, i, 0]) 6 0 = i ∧ nthD (leNat 2 code ++ leNat 2 target ++ [n, freq, i, 0]) 7 0 = 0 :=
  ⟨ofLe_leNat (w := 2) hcode, ofLe_leNat (w := 2) htarget, rfl, rfl, rfl, rfl⟩

/-- A wake request that every check of R298 admits waits for its first free instant. -/
theorem wakeRequest_waits {code target freq i : Nat} {p : Nat × Nat} (hlow : 0 < code) (hhigh : code < 0xFFFF) (htarget : target < 65536)
    (hn1 : 1 ≤ n) (hn8 : n ≤ 8) (hfreq : freq ≤ 1) (hi : i ≤ 79) (hidle : s.radio.wake = none) (hpower : s.txPower (glimmerHz freq) i = some p)
    (hadmitted : (s.enrol (s.nearestChannel (glimmerHz freq)) (n * telegramTicks) false).1 = 0) :
    (s.wakeRequest (leNat 2 code ++ leNat 2 target ++ [n, freq, i, 0])).radio.wake = some ⟨code, target, n, freq, p.1, none⟩ ∧
      (s.wakeRequest (leNat 2 code ++ leNat 2 target ++ [n, freq, i, 0])).nat 0x601103 = 1 := by
  obtain ⟨h0, h2, h4, h5, h6, h7⟩ := wakeRequest_fields (n := n) (freq := freq) (i := i) (show code < 65536 by omega) htarget
  generalize hu : ((s.enrol (s.nearestChannel (glimmerHz freq)) (n * telegramTicks) false).2.await 0x601102) = u
  have heq : s.wakeRequest (leNat 2 code ++ leNat 2 target ++ [n, freq, i, 0]) =
      (({ u with radio := { u.radio with wake := some ⟨code, target, n, freq, p.1, none⟩ } } : State).setAll
        [(0x600103, p.1), (0x600104, p.2)]).setNat 0x601103 1 := by
    unfold State.wakeRequest
    rw [h0, h2, h4, h5, h6, h7, if_neg (by omega), if_neg (by decide), if_neg (by rw [hidle]; decide), hpower]
    dsimp only
    rw [hadmitted, if_neg (by decide), if_neg (by decide), hu]
  rw [heq]
  exact ⟨rfl, by rw [setNat_nat, if_pos rfl]⟩

theorem wakeRequest_gives {code target freq i : Nat} {p : Nat × Nat}
    (haccepts : s.Accepts r 0x601101 (leNat 2 code ++ leNat 2 target ++ [n, freq, i, 0])) (hlow : 0 < code) (hhigh : code < 0xFFFF)
    (htarget : target < 65536) (hn1 : 1 ≤ n) (hn8 : n ≤ 8) (hfreq : freq ≤ 1) (hi : i ≤ 79)
    (hissued : s.awaiting.contains 0x601102 = false) (hidle : s.radio.wake = none) (hpower : s.txPower (glimmerHz freq) i = some p)
    (hadmitted : ((s.autoTake r 0x601101).enrol (s.nearestChannel (glimmerHz freq)) (n * telegramTicks) false).1 = 0) :
    Gives (.wakeRequest r (leNat 2 code ++ leNat 2 target ++ [n, freq, i, 0])) s fun t =>
      t.radio.wake = some ⟨code, target, n, freq, p.1, none⟩ ∧ t.nat 0x601103 = 1 := by
  have hchannel : (s.autoTake r 0x601101).nearestChannel (glimmerHz freq) = s.nearestChannel (glimmerHz freq) := by
    unfold State.nearestChannel
    rw [cnat_of_committed (autoTake_committed r _ s)]
  obtain ⟨hwake, hshown⟩ := wakeRequest_waits (s := s.autoTake r 0x601101) hlow hhigh htarget hn1 hn8 hfreq hi (by rwa [autoTake_radio])
    ((autoTake_txPower ..).trans hpower) (by rwa [hchannel])
  refine gives_paired rfl haccepts hissued (by decide) ⟨(touch_radio r _).1.trans hwake, ?_⟩
  rw [reply_nat, touch_nat_other _ _ (by decide), hshown]

/-- A reception test that is accepted starts at once (R299). -/
theorem radioTest_receives {kHz : Nat} (hkHz : kHz < 2 ^ 32) (hstopped : s.ustate 0x502 ≠ 2) :
    (s.radioTest ([3] ++ leNat 4 kHz ++ [0, 0, 0])).radio.test = some ⟨3, kHz, 0, 0, 0, 0⟩ ∧
      (s.radioTest ([3] ++ leNat 4 kHz ++ [0, 0, 0])).radioState = 3 := by
  have hchannel : fieldLe ([3] ++ leNat 4 kHz ++ [0, 0, 0]) 1 4 = kHz := ofLe_leNat (w := 4) hkHz
  have hcheck : s.testCheck ([3] ++ leNat 4 kHz ++ [0, 0, 0]) = 0 := by
    have hstate : (s.ustate 0x502 == 2) = false := by simpa using hstopped
    unfold State.testCheck
    rw [hstate]
    rfl
  generalize hu : ({ s with radio := { s.radio with test := some ⟨3, kHz, 0, 0, 0, 0⟩ } } : State) = u
  generalize hv : (u.moveRadio 3 (u.nat 0x600102 == kHz * 1000)).setNat 0x600102 (kHz * 1000) = v
  have heq : s.radioTest ([3] ++ leNat 4 kHz ++ [0, 0, 0]) = v.testResult ⟨3, kHz, 0, 0, 0, 0⟩ := by
    unfold State.radioTest
    rw [hcheck, hchannel, ← hv, ← hu]
    refine (if_neg fun h => h rfl).trans ((if_neg (show ¬(3 : Nat) = 0 by decide)).trans (congrArg (State.testResult _) ?_))
    split <;> rfl
  have hresult : v.Keeps [.dict, .awaiting, .events, .log] (v.testResult ⟨3, kHz, 0, 0, 0, 0⟩) := by
    unfold State.testResult
    exact issuePaired_keeps
  have hspares : v.Spares 0x600101 (v.testResult ⟨3, kHz, 0, 0, 0, 0⟩) := by
    unfold State.testResult
    exact issuePaired_spares (notMem_eventKeys (by decide) (by decide) (by decide)) (by decide)
  rw [heq]
  refine ⟨?_, hspares.nat.trans ?_⟩
  · rw [hresult.same .radio (by decide), ← hv]
    refine (moveRadio_kept 3 _ u).2.2.trans ?_
    rw [← hu]
  · rw [← hv, setNat_nat, if_neg (by decide), moveRadio_nat, if_pos rfl]

theorem radioTest_gives {kHz : Nat} (haccepts : s.Accepts r 0x600110 ([3] ++ leNat 4 kHz ++ [0, 0, 0])) (hkHz : kHz < 2 ^ 32)
    (hstopped : s.ustate 0x502 ≠ 2) (hissued : s.awaiting.contains 0x600111 = false) :
    Gives (.radioTest r ([3] ++ leNat 4 kHz ++ [0, 0, 0])) s fun t =>
      t.radio.test = some ⟨3, kHz, 0, 0, 0, 0⟩ ∧ t.radioState = 3 := by
  have hstopped' : (s.autoTake r 0x600110).ustate 0x502 ≠ 2 := by
    rwa [State.ustate, autoTake_nat r _ s (by decide) (by decide) (by decide) (by decide)]
  obtain ⟨htest, hstate⟩ := radioTest_receives hkHz hstopped'
  refine gives_paired rfl haccepts hissued (by decide) ⟨(touch_radio r _).2.trans htest, ?_⟩
  rw [State.radioState, reply_nat, touch_nat_other _ _ (by decide)]
  exact hstate

/-- Settles O14, clause by clause. -/
theorem radioCompletes : Obligations.RadioCompletes := by
  unfold Obligations.RadioCompletes
  exact ⟨fun hz s => radioTransition_receives, fun hz s => radioTransition_standby, fun s => radioTransition_acknowledges,
    fun s => synthUnlock_gives, fun k s => calibrationStart_gives, fun c s => calibrationComplete_gives, fun c s => calibrationAbort_gives,
    fun k i s => calibrationOverdue_gives, fun sfd last phr psdu plain rssi snr s => narrowbandFrame_good,
    fun sfd last phr psdu plain rssi snr s => narrowbandFrame_bad, fun p sfd last phr psdu plain rssi lq s => tapCopy_gives,
    fun sfd n s => preambleDetected_radio, fun p sfd n s => preambleDetected_tap, fun r code target n freq i p s => wakeRequest_gives,
    fun r kHz s => radioTest_gives⟩

end Sys2Proof.Machine
end
section
/-!
PROOFS. What the DAB receivers and decoders leave (R182 to R198).
-/
namespace Sys2Proof.Machine

-- One proof after another keeps the memory of the whole text's compile low.
set_option Elab.async false

section
variable {s t : State} {k e m n i : Nat}

/-! ### Receivers and their subindices -/

@[simp] theorem setDab_val (e : Nat) (d : Dab) (s : State) (k : Nat) : (s.setDab e d).val k = s.val k := rfl

@[simp] theorem setDab_nat (e : Nat) (d : Dab) (s : State) (k : Nat) : (s.setDab e d).nat k = s.nat k := rfl

theorem dab_of_dabs (h : t.dabs = s.dabs) (e : Nat) : t.dab e = s.dab e := congrArg (Map.get (fun _ => Dab.init) · e) h

theorem dab_of_keeps {F : List FieldName} (h : s.Keeps F t) (hF : .dabs ∉ F := by decide) (e : Nat) : t.dab e = s.dab e :=
  dab_of_dabs (h.same .dabs hF) e

@[simp] theorem raise_dab (cls kind src : Nat) (fields : List (Nat × Int)) (s : State) (e : Nat) :
    (s.raise cls kind src fields).dab e = s.dab e := dab_of_dabs (raise_dabs cls kind src fields s) e

@[simp] theorem setNat_dab (k n : Nat) (s : State) (e : Nat) : (s.setNat k n).dab e = s.dab e := rfl

@[simp] theorem bump_dab (k : Nat) (s : State) (e : Nat) : (s.bump k).dab e = s.dab e := rfl

@[simp] theorem judgeSlots_dab (n : Nat) (s : State) (e : Nat) : (s.judgeSlots n).dab e = s.dab e := dab_of_keeps judgeSlots_keeps (by decide) e

@[simp] theorem stopNulls_dab (n : Nat) (s : State) (e : Nat) : (s.stopNulls n).dab e = s.dab e := dab_of_keeps stopNulls_keeps (by decide) e

theorem dabRuns_lt (hruns : s.dabRuns e = true) : e < 12 := by
  simp only [State.dabRuns, State.runs, State.loadedWith, Bool.and_eq_true, decide_eq_true_eq] at hruns
  omega

/-- Subindices of the DAB objects. -/
def IsDab (k : Nat) : Prop := 0x440000 ≤ k ∧ k < 0x450000

/-- Subindices of the DAB objects, none of a decoder's. -/
def OfReceiver (k : Nat) : Prop := IsDab k ∧ (k < 0x448000 ∨ 0x448BFF < k)

theorem IsDab.event (hk : IsDab k) : k ∉ eventKeys := by
  obtain ⟨hlow, hhigh⟩ := hk
  exact notMem_eventKeys (by omega) (by omega) (by omega)

theorem dk_receiver (he : e < 12) (hn : n < 256 := by decide) : OfReceiver (dk e n) := by
  simp only [OfReceiver, IsDab, obj_eq]
  omega

theorem ddec_dab (hm : m < 12) (hn : n < 256) : IsDab (ddec m n) := by
  simp only [IsDab, obj_eq]
  omega

theorem setSlotState_spares {new : Nat} (hk : IsDab k) (h : k ≠ ddec m (6 + i)) : s.Spares k (s.setSlotState m i new) := by
  unfold State.setSlotState
  exact .ite .refl (.step (.raise hk.event) <| .setNat h)

theorem OfReceiver.slot (hk : OfReceiver k) (hm : m < 12) (hi : i < 2) : k ≠ ddec m (6 + i) := by
  obtain ⟨-, hapart⟩ := hk
  simp only [obj_eq]
  omega

theorem judgeSlots_spares (hk : OfReceiver k) : s.Spares k (s.judgeSlots n) := by
  unfold State.judgeSlots
  refine .foldl (fun t m hm => .ite (.foldl (fun t i hi => ?_) .refl) .refl) .refl
  refine setSlotState_spares hk.1 (hk.slot (List.mem_range.1 hm) ?_)
  simp only [List.mem_cons, List.not_mem_nil, or_false] at hi
  omega

theorem restartSlots_spares (hk : OfReceiver k) : s.Spares k (s.restartSlots n) := by
  unfold State.restartSlots
  refine .foldl (fun t m hm => .ite (.foldl (fun t i hi => ?_) .refl) .refl) .refl
  refine .step (.keeps speak_keeps) <| setSlotState_spares hk.1 (hk.slot (List.mem_range.1 hm) ?_)
  simp only [List.mem_cons, List.not_mem_nil, or_false] at hi
  omega

theorem tryPlace_spares {p : Nat} (hk : IsDab k) (hp : p < 2) : s.Spares k (s.tryPlace p) := by
  have hstatus : k ≠ obj (0x3020 + p) 7 := by
    obtain ⟨hlow, -⟩ := hk
    simp only [obj_eq]
    omega
  unfold State.tryPlace
  extract_lets r l
  split
  · exact .refl
  next j _ =>
    refine .ite .refl ?_
    extract_lets e place
    have hplace {t : State} : t.Spares k (place t) := by
      unfold place
      split
      · exact .refl
      · exact .step (.raise hk.event) <| .step (.setNat hstatus) <| .keeps setEntry_keeps
    split
    · exact .ite .refl (.ite (.keeps setPlumb_keeps) hplace)
    · exact .iteElse (.keeps setPlumb_keeps) hplace

theorem protectedLost_spares {p : Nat} (hk : IsDab k) : s.Spares k (s.protectedLost p) := by
  unfold State.protectedLost
  split
  · exact .step (tryPlace_spares hk ‹_›) <| .keeps setPlumb_keeps
  · exact .refl

theorem stopNulls_spares (hk : IsDab k) (h2 : k ≠ dk e 2) (h3 : k ≠ dk e 3) : s.Spares k (s.stopNulls e) := by
  unfold State.stopNulls
  exact .foldl (fun _ _ _ => .ite (protectedLost_spares hk) .refl) (.step (.setNat h2) <| .setNat h3)

theorem stopNulls_start (he : e < 12) : (s.stopNulls e).nat (dk e 3) = 0 := by
  unfold State.stopNulls
  refine (State.Spares.nat (.foldl (fun _ _ _ => .ite (protectedLost_spares (dk_receiver he).1) .refl) .refl)).trans ?_
  exact (setNat_nat _ _ _ _).trans ((if_neg (obj_ne (by decide))).trans ((setNat_nat _ _ _ _).trans (if_pos rfl)))

/-! ### The state of a receiver -/

theorem setDabState_spares {new : Nat} (hk : IsDab k) (h1 : k ≠ dk e 1) (h8 : k ≠ dk e 8) (h9 : k ≠ dk e 9) :
    s.Spares k (s.setDabState e new) := by
  unfold State.setDabState
  exact .ite .refl (.step (.raise hk.event) <| .ite (.step (.bump h8) <| .step (.keeps setDab_keeps) <| .setNat h1)
    (.iteThen (.step (.keeps setDab_keeps) <| .setNat h1) (.bump h9)))

theorem setDabState_state (he : e < 12) (new : Nat) : (s.setDabState e new).dabState e = new := by
  have hraise {fields : List (Nat × Int)} {u : State} : u.Spares (dk e 1) (u.raise 16 1 (0x200 + e) fields) := .raise (dk_receiver he).1.event
  have hentered : (((s.setNat (dk e 1) new).setDab e { s.dab e with since := s.gnomon, goodAt := none, goodRun := 0, badRun := 0 })).Spares
      (dk e 1) (s.setDabState e new) ∨ s.dabState e = new := by
    by_cases hsame : s.dabState e = new
    · exact .inr hsame
    · unfold State.setDabState
      rw [if_neg hsame]
      exact .inl (.step hraise <| .ite (.bump (obj_ne (by decide))) (.ite (.bump (obj_ne (by decide))) .refl))
  rcases hentered with hentered | hsame
  · exact hentered.nat.trans ((setNat_nat _ _ _ _).trans (if_pos rfl))
  · unfold State.setDabState
    rw [if_pos hsame]
    exact hsame

/-- What a change of state leaves of a receiver's record (R182). -/
theorem setDabState_dab {new : Nat} (hnew : s.dabState e ≠ new) : (s.setDabState e new).dab e =
    { s.dab e with since := s.gnomon, goodAt := none, goodRun := 0, badRun := 0 } := by
  unfold State.setDabState
  rw [if_neg hnew, raise_dab]
  split
  · exact (setDab_dab _ _ _ _).trans (if_pos rfl)
  split
  · exact (setDab_dab _ _ _ _).trans (if_pos rfl)
  · exact (setDab_dab _ _ _ _).trans (if_pos rfl)

theorem setDabState_tracks (he : e < 12) (hnew : s.dabState e ≠ 4) : (s.setDabState e 4).nat (dk e 8) = satAdd 32 (s.nat (dk e 8)) 1 := by
  have hraise {fields : List (Nat × Int)} {u : State} : u.Spares (dk e 8) (u.raise 16 1 (0x200 + e) fields) := .raise (dk_receiver he).1.event
  unfold State.setDabState
  rw [if_neg hnew, hraise.nat, if_pos rfl, bump_nat, if_pos rfl, setDab_nat, setNat_nat, if_neg (obj_ne (by decide))]

theorem dabNullFound_gives (hruns : s.dabRuns e = true) (hstate : s.dabState e = 1) :
    Gives (.dabNullFound e) s fun t => t.dabState e = 2 :=
  gives_next (congrArg Host.Outcome.next (if_pos ⟨hruns, hstate⟩)) (setDabState_state (dabRuns_lt hruns) 2)

theorem dabPrsCorrelate_gives {off : Int} (hruns : s.dabRuns e = true) (hstate : s.dabState e = 2) (hlow : -25000 ≤ off) (hhigh : off ≤ 25000) :
    Gives (.dabPrsCorrelate e off) s fun t => t.dabState e = 3 ∧ t.num (dk e 4) = off := by
  refine gives_next (congrArg Host.Outcome.next (if_pos ⟨hruns, hstate, hlow, hhigh⟩)) ⟨?_, (setNum_num _ _ _ _).trans (if_pos rfl)⟩
  rw [State.dabState, setNum_nat, if_neg (obj_ne (by decide))]
  exact setDabState_state (dabRuns_lt hruns) 3

theorem dabFicAcquired_gives (hruns : s.dabRuns e = true) (hstate : s.dabState e = 3) (hensemble : (s.dab e).gotEnsemble = true)
    (hgood : 2 ≤ (s.dab e).goodRun) :
    Gives (.dabFicAcquired e) s fun t => t.dabState e = 4 ∧ (t.dab e).since = s.gnomon ∧ (t.dab e).softFrom = s.gnomon ∧
      t.nat (dk e 8) = satAdd 32 (s.nat (dk e 8)) 1 := by
  have he := dabRuns_lt hruns
  have hnew : s.dabState e ≠ 4 := by omega
  refine gives_next (congrArg Host.Outcome.next (if_pos ⟨hruns, hstate, hgood, hensemble⟩)) ?_
  rw [judgeSlots_dab, setDab_dab, if_pos rfl, State.dabState, (judgeSlots_spares (dk_receiver he)).nat, (judgeSlots_spares (dk_receiver he)).nat]
  exact ⟨setDabState_state he 4, by rw [setDabState_dab hnew], rfl, setDabState_tracks he hnew⟩

theorem dabAcquisitionFail_gives (hruns : s.dabRuns e = true) (hlow : 2 ≤ s.dabState e) (hhigh : s.dabState e ≤ 3)
    (htime : (s.dab e).since + (if s.dabState e = 2 then 4 else 10) * dabFrameTicks ≤ s.gnomon) :
    Gives (.dabAcquisitionFail e) s fun t => t.dabState e = 1 :=
  gives_next (congrArg Host.Outcome.next (if_pos ⟨hruns, by omega, htime⟩)) (setDabState_state (dabRuns_lt hruns) 1)

theorem dabSyncLost_gives (hruns : s.dabRuns e = true) (hstate : s.dabState e = 4) (hlost : (s.dab e).lost s.gnomon = true) :
    Gives (.dabSyncLost e) s fun t => t.dabState e = 5 ∧ (t.dab e).since = s.gnomon ∧ t.nat (dk e 3) = 0 := by
  have he := dabRuns_lt hruns
  refine gives_next (congrArg Host.Outcome.next (if_pos ⟨hruns, hstate, hlost⟩)) ?_
  unfold State.dabLose
  rw [judgeSlots_dab, stopNulls_dab, State.dabState, (judgeSlots_spares (dk_receiver he)).nat, (judgeSlots_spares (dk_receiver he)).nat,
    (stopNulls_spares (dk_receiver he).1 (obj_ne (by decide)) (obj_ne (by decide))).nat, setDabState_dab (by omega)]
  exact ⟨setDabState_state he 5, rfl, stopNulls_start he⟩

theorem dabSyncRegained_gives {at_ : Nat} (hruns : s.dabRuns e = true) (hstate : s.dabState e = 5) (hgood : (s.dab e).goodAt = some at_) :
    Gives (.dabSyncRegained e) s fun t => t.dabState e = 4 ∧ (t.dab e).nullAt = at_ := by
  have he := dabRuns_lt hruns
  have hexec : exec (.dabSyncRegained e) s =
      .next (((s.setDabState e 4).setDab e { (s.setDabState e 4).dab e with nullAt := at_ }).judgeSlots e) := by
    show execDabSyncRegained e s = _
    unfold execDabSyncRegained
    rw [hgood]
    exact congrArg Host.Outcome.next (if_pos ⟨hruns, hstate⟩)
  refine gives_next hexec ?_
  rw [judgeSlots_dab, setDab_dab, if_pos rfl, State.dabState, (judgeSlots_spares (dk_receiver he)).nat]
  exact ⟨setDabState_state he 4, rfl⟩

/-! ### The tables published -/

theorem publishSi_spares (h1 : k ≠ dsi e 1) : s.Spares k (s.publishSi e) := by
  unfold State.publishSi
  exact .step (.setBytes h1) <| .keeps setDab_keeps

theorem publishAnns_spares (h2 : k ≠ dann e 2) : s.Spares k (s.publishAnns e) := by
  unfold State.publishAnns
  exact .step (.setBytes h2) <| .keeps setDab_keeps

theorem publishSubs_dab (e : Nat) (s : State) : (s.publishSubs e).dab e = { s.dab e with subSeq := ((s.dab e).subSeq + 1) % 65536 } :=
  (setDab_dab _ _ _ _).trans (if_pos rfl)

theorem publishSi_dab (e : Nat) (s : State) : (s.publishSi e).dab e = { s.dab e with siSeq := ((s.dab e).siSeq + 1) % 65536 } :=
  (setDab_dab _ _ _ _).trans (if_pos rfl)

theorem publishAnns_dab (e : Nat) (s : State) : (s.publishAnns e).dab e = { s.dab e with annSeq := ((s.dab e).annSeq + 1) % 65536 } :=
  (setDab_dab _ _ _ _).trans (if_pos rfl)

theorem dk_ne_dsi (he : e < 12) {j : Nat} (hn : n < 256 := by decide) (hj : j < 256 := by decide) : dk e n ≠ dsi m j := by
  simp only [obj_eq]
  omega

theorem dabColdStart_gives (he : e < 12) : (s.dabColdStart e).dabState e = 1 ∧ ((s.dabColdStart e).dab e).subs = [] ∧
    ((s.dabColdStart e).dab e).services = [] := by
  unfold State.dabColdStart
  extract_lets d s1 _ s2 s3 s4
  have h1 : s1.nat (dk e 1) = 1 :=
    (stopNulls_spares (dk_receiver he).1 (obj_ne (by decide)) (obj_ne (by decide))).nat.trans (setDabState_state he 1)
  have h3 : s2.Spares (dk e 1) s3 := by
    refine .setAll fun p hp => ?_
    simp only [List.mem_cons, List.not_mem_nil, or_false] at hp
    rcases hp with rfl | rfl | rfl | rfl | rfl | rfl | rfl | rfl | rfl | rfl <;> simp only [obj_eq] <;> omega
  have h4 : s3.Keeps [.awaiting] s4 := .ite .refl await_keeps
  have h5 : s4.Spares (dk e 1) ((((s4.publishSubs e).publishSi e).publishAnns e).restartSlots e) :=
    .step (restartSlots_spares (dk_receiver he)) <| .step (publishAnns_spares (by simp only [obj_eq]; omega)) <|
      .step (publishSi_spares (dk_ne_dsi he)) <| .keeps publishSubs_keeps
  have hdab : s4.dab e = s2.dab e := (dab_of_keeps h4 (by decide) e).trans (dab_of_keeps setAll_keeps (by decide) e)
  refine ⟨?_, ?_⟩
  · rw [State.dabState, h5.nat, State.Spares.nat (.keeps h4), h3.nat]
    exact h1
  · rw [dab_of_keeps restartSlots_keeps (by decide) e, publishAnns_dab, publishSi_dab, publishSubs_dab, hdab]
    simp only [s2]
    rw [setDab_dab, if_pos rfl]
    exact ⟨rfl, rfl⟩

theorem dabLostTimeout_gives (hruns : s.dabRuns e = true) (hstate : s.dabState e = 5)
    (htime : (s.dab e).since + s.nat (dk e 0x0A) * msTicks ≤ s.gnomon) :
    Gives (.dabLostTimeout e) s fun t => t.dabState e = 1 ∧ (t.dab e).subs = [] ∧ (t.dab e).services = [] :=
  gives_next (congrArg Host.Outcome.next (if_pos ⟨hruns, hstate, htime⟩)) (dabColdStart_gives (dabRuns_lt hruns))

theorem rejudgeNulls_spares {p : Nat} (hk : IsDab k) (h2 : k % 256 ≠ 2) : s.Spares k (s.rejudgeNulls p) := by
  have hdk {u : State} {j v : Nat} : u.Spares k (u.setNat (dk j 2) v) := .setNat (by simp only [obj_eq]; omega)
  unfold State.rejudgeNulls
  extract_lets r
  split
  · exact .ite .refl (.step (.keeps setPlumb_keeps) <| .step hdk <| .foldl (fun _ _ _ => .ite hdk .refl) .refl)
  · exact .ite .refl (.step (protectedLost_spares hk) hdk)

theorem dabNullReport_gives {at_ : Nat} (hruns : s.dabRuns e = true) (hstate : s.dabState e = 4)
    (hfits : nullFits (s.dab e).nullAt at_ = true) (hended : at_ + dabNullTicks ≤ s.gnomon) :
    Gives (.dabNullReport e at_) s fun t => t.nat (dk e 3) = at_ ∧ (t.dab e).nullAt = at_ := by
  have he := dabRuns_lt hruns
  refine gives_next (congrArg Host.Outcome.next (if_pos ⟨hruns, hstate, hfits, hended⟩)) ?_
  extract_lets p _ u v
  have hv : v.nat (dk e 3) = at_ ∧ (v.dab e).nullAt = at_ := by
    refine ⟨(rejudgeNulls_spares (dk_receiver he).1 (by simp only [obj_eq]; omega)).nat.trans ?_, ?_⟩
    · exact (setNat_nat _ _ _ _).trans (if_pos rfl)
    · rw [dab_of_keeps rejudgeNulls_keeps (by decide) e]
      exact congrArg Dab.nullAt ((setDab_dab _ _ _ _).trans (if_pos rfl))
  split
  · exact hv
  · exact hv

/-! ### The service information -/

theorem judgeSi_spares (hk : OfReceiver k) (h1 : k ≠ dsi e 1) : s.Spares k (s.judgeSi e) := by
  unfold State.judgeSi
  exact .ite (.step (judgeSlots_spares hk) <| .step (publishSi_spares h1) <| .keeps setDab_keeps) .refl

/-- What completing the service information leaves of a receiver's record (R190). -/
theorem judgeSi_dab (e : Nat) (s : State) : ∃ complete seq, (s.judgeSi e).dab e = { s.dab e with siComplete := complete, siSeq := seq } := by
  unfold State.judgeSi
  extract_lets d
  split
  · refine ⟨true, (d.siSeq + 1) % 65536, ?_⟩
    rw [judgeSlots_dab, publishSi_dab, setDab_dab, if_pos rfl]
  · exact ⟨d.siComplete, d.siSeq, rfl⟩

theorem dabSiCompleteTimeout_gives (hruns : s.dabRuns e = true) (hstate : s.dabState e = 4) (hopen : (s.dab e).siComplete = false)
    (htime : (s.dab e).since + 1536000000 ≤ s.gnomon) :
    Gives (.dabSiCompleteTimeout e) s fun t => (t.dab e).siComplete = true := by
  refine gives_next (congrArg Host.Outcome.next ((if_pos hruns).trans (if_pos ⟨hstate, by rw [hopen]; rfl, .inr htime⟩))) ?_
  rw [judgeSlots_dab, publishSi_dab, setDab_dab, if_pos rfl]

/-! ### The MCI -/

theorem reconfigure_dab (e cif : Nat) (s : State) :
    ((s.reconfigure e cif).dab e).subs = (s.dab e).nextSubs.map (keepQueue (s.dab e).subs) ∧
      ((s.reconfigure e cif).dab e).nextSubs = [] ∧ ((s.reconfigure e cif).dab e).mciCif = cif := by
  unfold State.reconfigure
  rw [judgeSlots_dab, raise_dab, publishSi_dab, publishSubs_dab, setNat_dab, setDab_dab, if_pos rfl]
  exact ⟨rfl, rfl, rfl⟩

theorem reconfigure_change (he : e < 12) (cif : Nat) : (s.reconfigure e cif).nat (dk e 7) = 0xFFFF := by
  unfold State.reconfigure
  refine (State.Spares.nat (.step (judgeSlots_spares (dk_receiver he)) <| .step (.raise (dk_receiver he).1.event) <|
    .step (publishSi_spares (dk_ne_dsi he)) <| .keeps publishSubs_keeps)).trans ?_
  exact (setNat_nat _ _ _ _).trans (if_pos rfl)

theorem dabReconfiguration_gives {cif : Nat} (hruns : s.dabRuns e = true) (hstate : s.dabState e = 4 ∨ s.dabState e = 5)
    (hdue : s.mciDue e cif = true) :
    Gives (.dabReconfiguration e cif) s fun t => (t.dab e).subs = (s.dab e).nextSubs.map (keepQueue (s.dab e).subs) ∧
      (t.dab e).nextSubs = [] ∧ (t.dab e).mciCif = cif ∧ t.nat (dk e 7) = 0xFFFF := by
  obtain ⟨hsubs, hnext, hcif⟩ := reconfigure_dab e cif s
  exact gives_next (congrArg Host.Outcome.next (if_pos ⟨hruns, hstate, hdue⟩)) ⟨hsubs, hnext, hcif, reconfigure_change (dabRuns_lt hruns) cif⟩

theorem dabCifDecode_gives {cif at_ p : Nat} {b : List (Int × Int)} {xs : List (Option DabSymbol)} {fs : List DecodedFrame}
    (hruns : s.dabRuns e = true) (hstate : s.dabState e = 4 ∨ s.dabState e = 5) (hsoft : (s.dab e).softFrom ≤ at_) :
    Gives (.dabCifDecode e cif at_ p b xs fs) s fun t =>
      let u := (s.mciFor e cif).storeCif e cif at_ p b xs
      (t.dab e).slots = (u.dab e).slots ∧
        (t.dab e).subs = (u.dab e).subs.map fun c => (c.receive (u.dab e).slots cif (at_ + 3686400 * (p % 4)) fs).1 := by
  have hdrops {α : Type} (rs : List α) (u : State) : u.Keeps [.shm] (rs.foldl (fun s _ => s.countDrop (0x200 + e) 3) u) :=
    .foldl (fun _ _ => countDrop_keeps) .refl
  refine gives_next (congrArg Host.Outcome.next (if_pos ⟨hruns, hstate, hsoft⟩)) ?_
  rw [dab_of_keeps (hdrops _ _) (by decide) e, setDab_dab, if_pos rfl]
  exact ⟨rfl, List.map_map⟩

/-! ### FIGs -/

theorem dabFigDecode_ensemble {raw : Bytes} {at_ cif id : Nat} {change : Option Nat} (hruns : s.dabRuns e = true) (hstate : 3 ≤ s.dabState e) :
    Gives (.dabFigDecode e 0 0 raw at_ cif (.ensemble id n change)) s fun t => (t.dab e).gotEnsemble = true ∧
      t.nat (dk e 5) = id ∧ t.nat (dk e 6) = n ∧ t.nat (dk e 7) = change.getD 0xFFFF := by
  have he := dabRuns_lt hruns
  refine gives_next (congrArg Host.Outcome.next (if_pos ⟨hruns, hstate⟩)) ?_
  extract_lets s1 s2 fig old r s3 s4 eid s5 s6 s7
  have hfields : s5 = ((s3.setNat (dk e 5) id).setNat (dk e 6) n).setNat (dk e 7) (change.getD 0xFFFF) := rfl
  have hgot : (s5.dab e).gotEnsemble = true := by
    rw [hfields, setNat_dab, setNat_dab, setNat_dab, setDab_dab, if_pos rfl]
    rfl
  clear_value s5
  have h6 : s5.Keeps [.dabs] s6 := .ite publishSubs_keeps .refl
  have hgot6 : (s6.dab e).gotEnsemble = true := by
    simp only [s6]
    split
    · rwa [publishSubs_dab]
    · exact hgot
  have hgot7 : (s7.dab e).gotEnsemble = true := by
    simp only [s7]
    split
    · rwa [publishSi_dab]
    · exact hgot6
  have hspares {j : Nat} (hj : j < 256) : s5.Spares (dk e j) ((s7.judgeSi e).judgeSlots e) :=
    .step (judgeSlots_spares (dk_receiver he hj)) <| .step (judgeSi_spares (dk_receiver he hj) (dk_ne_dsi he hj)) <|
      .iteThen (.keeps h6) (publishSi_spares (dk_ne_dsi he hj))
  obtain ⟨complete, seq, hsi⟩ := judgeSi_dab e s7
  refine ⟨?_, ?_, ?_, ?_⟩
  · rw [judgeSlots_dab, hsi]
    exact hgot7
  · refine (hspares (by decide)).nat.trans ?_
    rw [hfields, setNat_nat, if_neg (obj_ne (by decide)), setNat_nat, if_neg (obj_ne (by decide)), setNat_nat, if_pos rfl]
  · refine (hspares (by decide)).nat.trans ?_
    rw [hfields, setNat_nat, if_neg (obj_ne (by decide)), setNat_nat, if_pos rfl]
  · refine (hspares (by decide)).nat.trans ?_
    rw [hfields, setNat_nat, if_pos rfl]

/-! ### Decoder slots -/

theorem decoder_of_keeps {F : List FieldName} (h : s.Keeps F t) (hF : .dabDecoders ∉ F := by decide) (m : Nat) :
    t.dabDecoder m = s.dabDecoder m := congrArg (Map.get (fun _ => DabDecoder.init) · m) (h.same .dabDecoders hF)

theorem dabServiceSelect_gives (hruns : s.runs m 0x0201 = true) (hi : i < 2)
    (hother : nthD (s.dabDecoder m).sel i (0, 0) ≠ (s.nat (ddec m (2 + 2 * i)), s.nat (ddec m (3 + 2 * i)))) :
    Gives (.dabServiceSelect m i) s fun t => t.nat (ddec m (8 + i)) = 0 ∧ (t.dabDecoder m).sel =
      setNth (s.dabDecoder m).sel i (s.nat (ddec m (2 + 2 * i)), s.nat (ddec m (3 + 2 * i))) := by
  have hm := runs_lt hruns
  have hdab : IsDab (ddec m (8 + i)) := ddec_dab hm (by omega)
  have hslot : ddec m (8 + i) ≠ ddec m (6 + i) := obj_ne (by omega)
  refine gives_next (congrArg Host.Outcome.next (if_pos ⟨hruns, hi, hother⟩)) ?_
  extract_lets want _ s1
  constructor
  · refine (State.Spares.nat (.step (.keeps speak_keeps) <| .step (setSlotState_spares hdab hslot) <|
      .step (disturb_spares (.inl ?_) hdab.event) <| setSlotState_spares hdab hslot)).trans ?_
    · simp only [obj_eq]
      omega
    · exact (setNat_nat _ _ _ _).trans (if_pos rfl)
  · rw [decoder_of_keeps speak_keeps, decoder_of_keeps setSlotState_keeps, decoder_of_keeps disturb_keeps, decoder_of_keeps setSlotState_keeps]
    exact congrArg DabDecoder.sel ((setDabDecoder_dabDecoder _ _ _ _).trans (if_pos rfl))

theorem setSlotState_state {new : Nat} (hk : IsDab (ddec m (6 + i))) : (s.setSlotState m i new).nat (ddec m (6 + i)) = new := by
  unfold State.setSlotState
  split
  · assumption
  · exact (State.Spares.nat (.raise hk.event)).trans ((setNat_nat _ _ _ _).trans (if_pos rfl))

theorem pushPads_spares {at_ : Nat} (gs : List PadGroup) (h : k ≠ dpad m 2) (s : State) : s.Spares k (s.pushPads m i at_ gs) := by
  induction gs generalizing s with
  | nil => exact .refl
  | cons g gs ih =>
    unfold State.pushPads
    exact .step (ih _) <| .ite (.step (.keeps countDrop_keeps) <| .step (.bump h) <| .keeps pushBytes_keeps)
      (.step (.keeps setDabDecoder_keeps) <| .keeps pushBytes_keeps)

theorem dabAccessUnit_gives {u : AudioUnit} {c : SubChannel} (hruns : s.runs m 0x0201 = true) (hi : i < 2)
    (hlow : 1 ≤ s.nat (ddec m (6 + i))) (hhigh : s.nat (ddec m (6 + i)) ≤ 3) (hsub : s.slotSub m i = some (n, c))
    (htaken : u.taken ≤ c.queue.length) (hcrc : u.crc = some true) (hwhole : u.broken = false) :
    Gives (.dabAccessUnit m i (some u)) s fun t =>
      t.nat (ddec m (6 + i)) = 2 ∧ t.nat (ddec m (8 + i)) = u.codecByte := by
  have hm := runs_lt hruns
  have h6 : IsDab (ddec m (6 + i)) := ddec_dab hm (by omega)
  have h8 : IsDab (ddec m (8 + i)) := ddec_dab hm (by omega)
  have hgood (erased : Bool) : u.bad erased = false := by simp [AudioUnit.bad, hcrc, hwhole]
  have hexec : exec (.dabAccessUnit m i (some u)) s = .next (s.dabUnit m i u) := by
    show execDabAccessUnit m i (some u) s = _
    unfold execDabAccessUnit
    refine congrArg Host.Outcome.next ((if_pos ⟨hruns, hi⟩).trans ?_)
    dsimp only
    rw [if_pos (by omega)]
    dsimp only
    rw [hsub]
    exact if_pos (by simpa using htaken)
  refine gives_next hexec ?_
  unfold State.dabUnit
  extract_lets first s1 s2 s3 s4
  rw [if_pos (by rw [hgood]; rfl)]
  have hend {k : Nat} (hpad : k ≠ dpad m 2) :
      s3.Spares k (if bitOf (s4.nat (ddec m 0x0D)) i then s4.pushPads m i (s4.voice (8 * m + i)).instant u.pads else s4) :=
    .iteThen (.keeps speak_keeps) (pushPads_spares _ hpad _)
  constructor
  · refine (hend (by simp only [obj_eq]; omega)).nat.trans ?_
    exact setSlotState_state h6
  · refine (hend (by simp only [obj_eq]; omega)).nat.trans ?_
    refine (setSlotState_spares h8 (obj_ne (by omega))).nat.trans ?_
    exact (setNat_nat _ _ _ _).trans (if_pos rfl)

/-! ### Data and announcements -/

theorem length_dataRecord {at_ seq source app : Nat} {crc : Bool} {data : Bytes} :
    (dataRecord at_ seq source crc app data).length = 16 + data.length := by
  simp only [dataRecord, List.length_append, length_leNat, List.length_cons, List.length_nil]

theorem dabPacketGroup_gives {f at_ : Nat} {crc : Bool} {data : Bytes} (hruns : s.dabRuns e = true) (hstate : s.dabState e = 4) (hf : f < 8)
    (hon : bitOf (s.nat (ddat e (1 + f))) 31 = true) (hempty : (s.fifo (ddat e 9)).recs = []) (hlen : data.length ≤ 8191) :
    Gives (.dabPacketGroup e f at_ crc true false data) s fun t =>
      (t.fifo (ddat e 9)).recs = [dataRecord at_ (s.dab e).dataSeq f crc 0 data] := by
  have hroom : s.pushBytes (ddat e 9) 65536 (dataRecord at_ (s.dab e).dataSeq f crc 0 data) = (s.setFifo (ddat e 9)
      { s.fifo (ddat e 9) with recs := (s.fifo (ddat e 9)).recs ++ [dataRecord at_ (s.dab e).dataSeq f crc 0 data] }, false) := by
    refine if_pos ?_
    rw [hempty, length_dataRecord, List.foldl_nil]
    omega
  refine gives_next (congrArg Host.Outcome.next ((if_pos ⟨hruns, hstate, hf, hon⟩).trans (if_neg (by simp)))) ?_
  extract_lets d r
  have hr : r = _ := hroom
  rw [hr]
  show ((s.setFifo _ _).fifo (ddat e 9)).recs = _
  rw [setFifo_fifo, if_pos rfl, hempty, List.nil_append]

theorem announcementStart_gives {c at_ flags sub new : Nat} (hruns : s.dabRuns e = true) (hstate : s.dabState e = 4)
    (hseen : Map.get (fun _ => (0, 0, 0, 0)) (s.dab e).annSeen c = (at_, flags, sub, new)) (hflags : flags ≠ 0)
    (hfresh : s.gnomon < at_ + 307200000) (hnew : ((s.dab e).anns.find? fun a => a.1 == c) ≠ some (c, flags, sub, new)) :
    Gives (.announcementStart e c) s fun t =>
      (t.dab e).anns = ((s.dab e).anns.filter fun a => a.1 != c) ++ [(c, flags, sub, new)] := by
  refine gives_next rfl ?_
  dsimp only
  rw [hseen]
  dsimp only
  rw [if_pos ⟨hruns, hstate, hflags, hfresh⟩, if_neg hnew]
  have hanns (anns : List (Nat × Nat × Nat × Nat)) :
      ((((s.setDab e { s.dab e with anns := anns }).publishAnns e).annEvent e c flags sub).dab e).anns = anns := by
    rw [dab_of_keeps annEvent_keeps, publishAnns_dab, setDab_dab, if_pos rfl]
  split
  · exact hanns _
  · rw [dab_of_keeps followAnnouncement_keeps]
    exact hanns _

theorem announcementEnd_gives {c at_ sub new : Nat} (hruns : s.dabRuns e = true)
    (hheld : ((s.dab e).anns.find? fun a => a.1 == c).isSome = true)
    (hseen : Map.get (fun _ => (0, 0, 0, 0)) (s.dab e).annSeen c = (at_, 0, sub, new)) :
    Gives (.announcementEnd e c) s fun t => (t.dab e).anns = (s.dab e).anns.filter fun a => a.1 != c := by
  obtain ⟨a, ha⟩ := Option.isSome_iff_exists.1 hheld
  refine gives_next rfl ?_
  dsimp only
  rw [hseen]
  dsimp only
  rw [ha]
  dsimp only
  rw [if_pos ⟨hruns, .inl rfl⟩, dab_of_keeps annEvent_keeps, publishAnns_dab, setDab_dab, if_pos rfl]

end

/-- Settles O8, clause by clause. -/
theorem dabCompletes : Obligations.DabCompletes := by
  unfold Obligations.DabCompletes
  exact ⟨fun _ _ => dabNullFound_gives, fun _ _ _ => dabPrsCorrelate_gives, fun _ _ => dabFicAcquired_gives,
    fun _ _ => dabAcquisitionFail_gives, fun _ _ => dabSyncLost_gives, fun _ _ _ => dabSyncRegained_gives,
    fun _ _ => dabLostTimeout_gives, fun _ _ _ => dabNullReport_gives, fun _ _ _ _ _ _ _ _ => dabCifDecode_gives,
    fun _ _ _ => dabReconfiguration_gives, fun _ _ _ _ _ _ _ _ => dabFigDecode_ensemble, fun _ _ => dabSiCompleteTimeout_gives,
    fun _ _ _ => dabServiceSelect_gives, fun _ _ _ _ _ _ => dabAccessUnit_gives, fun _ _ _ _ _ _ => dabPacketGroup_gives,
    fun _ _ _ _ _ _ _ => announcementStart_gives, fun _ _ _ _ _ _ => announcementEnd_gives⟩

end Sys2Proof.Machine
end
section
/-!
PROOFS. What service following leaves, with the ends of Lantern periods and DAB frames (R165, R192, R219 to R229).
-/
namespace Sys2Proof.Machine

-- One proof after another keeps the memory of the whole text's compile low.
set_option Elab.async false

section
variable {s t : State} {e k i m n sys : Nat}

/-! ### Candidates -/

@[simp] theorem setCandidates_nat (cs : List Candidate) (s : State) (k : Nat) : (s.setCandidates cs).nat k = s.nat k := rfl

@[simp] theorem mapCandidate_nat (k i sys : Nat) (g : Candidate → Candidate) (s : State) (m : Nat) :
    (s.mapCandidate k i sys g).nat m = s.nat m := rfl

/-- A candidate after a change of it that keeps what it is known by. -/
theorem mapCandidate_candidate {g : Candidate → Candidate} (hg : ∀ c : Candidate, c.is k i sys = true → (g c).is k i sys = true) :
    (s.mapCandidate k i sys g).candidate k i sys = (s.candidate k i sys).map g := by
  show (List.map _ s.following.candidates).find? _ = _
  have hsame : ((fun c : Candidate => c.is k i sys) ∘ fun c => if c.is k i sys then g c else c) = fun c => c.is k i sys := by
    funext c
    show Candidate.is (if c.is k i sys then g c else c) k i sys = c.is k i sys
    split
    · next h => rw [hg c h, h]
    · rfl
  rw [List.find?_map, hsame]
  unfold State.candidate
  cases hfind : s.following.candidates.find? fun c => c.is k i sys with
  | none => rfl
  | some c => exact congrArg some (if_pos (List.find?_some hfind))

theorem candidateListUpdate_gives {o : Nat} (hon : s.nat 0x480001 ≠ 0) (hnamed : s.namedBy o k i sys = true)
    (hnew : s.candidate k i sys = none) (hroom : s.following.candidates.length < 32) :
    Gives (.candidateListUpdate o k i sys) s fun t =>
      t.following.candidates.length = s.following.candidates.length + 1 ∧ (t.candidate k i sys).map (·.origin) = some (2 ^ o) := by
  have hexec : exec (.candidateListUpdate o k i sys) s = .next (s.setCandidates (s.following.candidates ++
      [⟨k, i, sys, 2 ^ o, if s.routeOf k sys = 4 then 5 else 0, s.routeOf k sys, 0, s.gnomon, s.gnomon, none, 0, none⟩])) := by
    show execCandidateListUpdate o k i sys s = _
    unfold execCandidateListUpdate
    rw [hnew]
    exact congrArg Host.Outcome.next ((if_pos ⟨hon, hnamed⟩).trans (if_pos hroom))
  refine gives_next hexec ⟨List.length_append, ?_⟩
  show Option.map _ (List.find? _ (s.following.candidates ++ _)) = _
  have hfind : (s.following.candidates.find? fun c => c.is k i sys) = none := hnew
  rw [List.find?_append, hfind]
  simp [Candidate.is]

/-! ### Checks of alternative frequencies -/

theorem endAfCheck_candidates (h : s.following.candidates = []) : (s.endAfCheck n).following.candidates = [] := by
  unfold State.endAfCheck
  extract_lets f
  split
  · exact h
  · extract_lets free t
    refine (congrArg Following.candidates (setQuickOff_keeps.same .following (by decide) : (t.setQuickOff n false).following = t.following)).trans ?_
    show List.map free s.following.candidates = []
    rw [h, List.map_nil]

theorem identityChange_gives (h : s.nat 0x480002 ≠ (s.identity.getD (0xFF, 0)).2) :
    Gives .identityChange s fun t => t.nat 0x480002 = (s.identity.getD (0xFF, 0)).2 ∧
      t.nat 0x480003 = (s.identity.getD (0xFF, 0)).1 ∧ t.following.candidates = [] := by
  have hcleared (ks : List AfCheck) (t : State) (ht : t.following.candidates = []) :
      (ks.foldl (fun s k => s.endAfCheck k.chain) t).following.candidates = [] := by
    induction ks generalizing t with
    | nil => exact ht
    | cons k ks ih => exact ih _ (endAfCheck_candidates ht)
  refine gives_next (congrArg Host.Outcome.next (if_neg fun hsame => h hsame.2)) ⟨?_, (setNat_nat _ _ _ _).trans (if_pos rfl), ?_⟩
  · exact ((setNat_nat _ _ _ _).trans (if_neg (by decide))).trans ((setNat_nat _ _ _ _).trans (if_pos rfl))
  · exact hcleared _ _ rfl

/-- An AF check that ends is no check of its chain any more. -/
theorem endAfCheck_find : ((s.endAfCheck n).following.afChecks.find? fun k => k.chain == n) = none := by
  unfold State.endAfCheck
  extract_lets f
  split
  · assumption
  · extract_lets free t
    have hkept : (t.setQuickOff n false).following = t.following := setQuickOff_keeps.same .following (by decide)
    rw [hkept]
    show List.find? _ (List.filter _ _) = none
    rw [List.find?_filter, List.find?_eq_none]
    simp

/-- An AF check that ends frees what it checked and changes no candidate of another state (R222). -/
theorem endAfCheck_state {st : Nat} (hst : st ≠ 1) (h : (s.candidate k i sys).map (·.state) = some st) :
    ((s.endAfCheck n).candidate k i sys).map (·.state) = some st := by
  unfold State.endAfCheck
  extract_lets f
  split
  · exact h
  · next j _ =>
    extract_lets free t
    have hkept : (t.setQuickOff n false).following = t.following := setQuickOff_keeps.same .following (by decide)
    have hfree (c : Candidate) : (free c).is k i sys = c.is k i sys ∧ (c.state ≠ 1 → free c = c) := by
      simp only [free]
      split
      · next hc => exact ⟨rfl, fun hs => absurd hc.2.2.2 hs⟩
      · exact ⟨rfl, fun _ => rfl⟩
    obtain ⟨c, hc, rfl⟩ := Option.map_eq_some_iff.1 h
    have hfind : (t.setQuickOff n false).candidate k i sys = (s.candidate k i sys).map free := by
      unfold State.candidate
      rw [hkept]
      show List.find? _ (List.map free s.following.candidates) = _
      rw [List.find?_map]
      exact congrArg (fun p => (s.following.candidates.find? p).map free) (funext fun c => (hfree c).1)
    rw [hfind, hc]
    exact congrArg (fun c : Candidate => some c.state) ((hfree c).2 hst)

theorem afCheck_begins {c : Candidate} {b : Option (Nat × Nat)}
    (hfree : (s.following.afChecks.find? fun k => k.chain == n) = none) (hc : s.candidate k i 0 = some c) (hserves : s.afServes n = true)
    (hdue : s.afDue c = true)
    (holdest : (s.following.candidates.all fun d => !s.afDue d || decide (c.evaluatedAt ≤ d.evaluatedAt)) = true)
    (hplace : (s.placeRetune (3 + (s.nat 0x480007 - 0x200)) n k).isSome = true) :
    Gives (.afCheck n k i b) s fun t => t.nat 0x480010 = satAdd 32 (s.nat 0x480010) 1 ∧
      (t.candidate k i 0).map (·.checkedAt) = some (some s.gnomon) ∧
      t.following.afChecks.length = s.following.afChecks.length + 1 := by
  obtain ⟨⟨u, at_⟩, hplace⟩ := Option.isSome_iff_exists.1 hplace
  have hkeeps : s.Keeps [.launch] u := placeRetune_keeps hplace
  have hfollow : u.following = s.following := hkeeps.same .following (by decide)
  have hgnomon : u.gnomon = s.gnomon := hkeeps.same .gnomon (by decide)
  have hnat : u.nat 0x480010 = s.nat 0x480010 := State.Spares.nat (.keeps hkeeps)
  have hexec : exec (.afCheck n k i b) s = .next (State.mapCandidate k i 0 (fun c =>
      { c with state := 1, route := 1, checkedAt := some u.gnomon }) { u.bump 0x480010 with following := { u.following with
        afChecks := u.following.afChecks ++ [⟨n, k, i, at_, [], none, 0, []⟩] } }) := by
    show execAfCheck n k i b s = _
    unfold execAfCheck State.beginAfCheck
    rw [hfree]
    dsimp only
    rw [hc]
    dsimp only
    rw [if_pos (by simp only [hserves, hdue, Bool.and_self, Bool.true_and]; exact holdest), hplace]
    rfl
  refine gives_next hexec ⟨?_, ?_, ?_⟩
  · show (u.bump 0x480010).nat 0x480010 = _
    rw [bump_nat, if_pos rfl, hnat]
  · refine (congrArg (Option.map _) (mapCandidate_candidate ?_)).trans ?_
    · exact fun _ h => h
    have hcand (fs : List AfCheck) :
        State.candidate { u.bump 0x480010 with following := { u.following with afChecks := fs } } k i 0 = some c := by
      unfold State.candidate
      rw [hfollow]
      exact hc
    rw [hcand, hgnomon]
    rfl
  · show (u.following.afChecks ++ _).length = _
    rw [List.length_append, hfollow]
    rfl

theorem afCheck_confirmed {x y since cls : Nat} {k : AfCheck} {c : Candidate}
    (hk : (s.following.afChecks.find? fun k => k.chain == n) = some k) (hserves : s.afServes n = true) (hrds : k.rds = some since)
    (htime : s.gnomon < since + 76800000) (hhits : 1 ≤ k.hits) (hcls : cls ≤ 1) (hc : s.candidate k.kHz k.id 0 = some c) :
    Gives (.afCheck n x y (some (k.id, cls))) s fun t => (t.candidate k.kHz k.id 0).map (·.state) = some 2 ∧
      (t.following.afChecks.find? fun k => k.chain == n) = none := by
  have hchain : k.chain = n := by simpa using List.find?_some hk
  have hexec : exec (.afCheck n x y (some (k.id, cls))) s =
      .next (s.closeAfCheck k 2 (((s.candidate k.kHz k.id 0).map (·.q)).getD 0)) := by
    show execAfCheck n x y (some (k.id, cls)) s = _
    unfold execAfCheck
    rw [hk]
    dsimp only
    rw [if_pos hserves]
    unfold State.stepAfCheck
    rw [hrds]
    dsimp only
    rw [if_neg (by omega), if_neg (by omega), if_pos rfl, if_pos hhits]
  refine gives_next hexec ⟨?_, ?_⟩
  · refine endAfCheck_state (by decide) ?_
    refine (congrArg (Option.map _) (mapCandidate_candidate ?_)).trans ?_
    · exact fun _ h => h
    rw [hc]
    rfl
  · unfold State.closeAfCheck
    rw [hchain]
    exact endAfCheck_find

/-! ### The check receiver -/

theorem ensembleCheck_begins (hidle : s.following.check = none) (hon : s.nat 0x480001 ≠ 0)
    (hruns : s.dabRuns (s.nat 0x480006 - 0x200) = true) (hinput : (s.inputs (s.nat 0x480006 - 0x200)).head? = some n)
    (hquiet : s.receiverHeard (s.nat 0x480006 - 0x200) = false) (hroute : s.routeOf k 1 = 3)
    (hdue : ((s.following.candidates.filter fun c => c.onDab k).all fun c => c.checkedAt.isNone) = true)
    (hthere : (s.following.candidates.any fun c => c.onDab k && decide (c.mismatchUntil ≤ s.gnomon)) = true)
    (hplace : (s.placeRetune 15 n k).isSome = true) :
    Gives (.ensembleCheck k) s fun t =>
      t.following.check.map (fun v => (v.kHz, v.mers)) = some (k, []) ∧ t.nat 0x480010 = satAdd 32 (s.nat 0x480010) 1 := by
  obtain ⟨⟨u, at_⟩, hplace⟩ := Option.isSome_iff_exists.1 hplace
  have hnat : u.nat 0x480010 = s.nat 0x480010 := State.Spares.nat (.keeps (placeRetune_keeps hplace))
  have hdue' : ((s.following.candidates.filter fun c => c.onDab k).all fun c => match c.checkedAt with
      | some t => decide (t + 4608000000 ≤ s.gnomon)
      | none => true) = true := by
    rw [List.all_eq_true] at hdue ⊢
    intro c hc
    rw [Option.isNone_iff_eq_none.1 (hdue c hc)]
  have hexec : exec (.ensembleCheck k) s = .next (State.setCandidates (u.following.candidates.map fun c =>
      if c.onDab k ∧ c.mismatchUntil ≤ u.gnomon then { c with state := 1, route := 3, checkedAt := some u.gnomon } else c)
      { u.bump 0x480010 with following := { u.following with check := some ⟨k, at_, []⟩ } }) := by
    show execEnsembleCheck k s = _
    unfold execEnsembleCheck
    rw [hidle]
    dsimp only
    rw [hinput]
    dsimp only
    rw [if_pos ⟨hon, hruns, by rw [hquiet]; rfl, hroute, hdue', by rw [List.any_filter]; exact hthere⟩, hplace]
    rfl
  refine gives_next hexec ⟨rfl, ?_⟩
  show (u.bump 0x480010).nat 0x480010 = _
  rw [bump_nat, if_pos rfl, hnat]

theorem ensembleCheck_ends {x : EnsembleCheck} (hx : s.following.check = some x) (htime : x.at_ + 460800000 ≤ s.gnomon) :
    Gives (.ensembleCheck k) s fun t => t.following.check = none := by
  refine gives_next rfl ?_
  rw [hx]
  dsimp only
  rw [if_pos (by simp [htime])]
  rfl

/-! ### Switching -/

/-- A blend that following requests of a locked slot while none runs begins, and is counted (R225). -/
theorem followRequest_begins {slot lenMs first : Nat} {back : Bool} (hlocked : s.nat (gk slot 1) = 2) (hquiet : s.fading = false)
    (hother : s.nat 0x490005 ≠ slot) :
    (s.followRequest slot lenMs first back).gloaming.fade.map (·.new) = some slot ∧
      (s.followRequest slot lenMs first back).nat 0x48000F = satAdd 32 (s.nat 0x48000F) 1 := by
  have hbegun : s.requestBlend slot lenMs first back = (s.startBlend slot lenMs first back, 0) := by
    unfold State.requestBlend
    rw [if_neg fun h => h.2 hlocked, if_neg (by rw [hquiet]; decide), if_neg hother]
  have hnat : (s.startBlend slot lenMs first back).nat 0x48000F = s.nat 0x48000F :=
    State.Spares.nat (.step (.setNat (by decide)) <| .step (.setNat (by decide)) <| .step (.setNat (by decide)) <|
      rfl)
  unfold State.followRequest
  rw [hbegun]
  refine ⟨rfl, (bump_nat _ _ _).trans ((if_pos rfl).trans ?_)⟩
  exact congrArg (satAdd 32 · 1) hnat

theorem switchRequest_gives {row target : Nat} (htarget : target ≤ 2) (hon : s.blending = true) (hother : target ≠ s.nat 0x490005)
    (hlocked : s.nat (gk target 1) = 2) (hfits : s.rowFits row target = true) (hmay : s.mayRequest = true) (hquiet : s.fading = false) :
    Gives (.switchRequest row target) s fun t => t.gloaming.fade.map (·.new) = some target ∧
      t.nat 0x48000F = satAdd 32 (s.nat 0x48000F) 1 := by
  have hmode : s.nat 0x480001 ≠ 1 := by
    simp only [State.mayRequest, Bool.and_eq_true, beq_iff_eq] at hmay
    omega
  have hexec : ∃ len first back, exec (.switchRequest row target) s = .next (s.followRequest target len first back) := by
    have hfit := And.intro hon (And.intro htarget (And.intro hother (And.intro hlocked hfits)))
    by_cases hrow : row ≤ 1
    · refine ⟨s.nat 0x490009, if row = 0 then (s.firstBad (s.nat 0x490005)).getD 0 - 153600 * s.nat 0x490009 else 0, false, ?_⟩
      exact congrArg Host.Outcome.next ((if_pos hfit).trans ((if_neg hmode).trans ((if_pos hmay).trans (if_pos hrow))))
    · refine ⟨s.nat 0x49000A, 0, true, ?_⟩
      exact congrArg Host.Outcome.next ((if_pos hfit).trans ((if_neg hmode).trans ((if_pos hmay).trans (if_neg hrow))))
  obtain ⟨len, first, back, hexec⟩ := hexec
  exact gives_next hexec (followRequest_begins hlocked hquiet hother.symm)

/-! ### Landing -/

theorem candidate_is {c : Candidate} (hc : s.candidate k i sys = some c) : c.kHz = k ∧ c.id = i ∧ c.system = sys := by
  have hfound := List.find?_some hc
  simpa [Candidate.is, and_assoc] using hfound

/-- A landing that may begin is that of its candidate (R227). -/
theorem landing_exec {slot : Nat} {c : Candidate} (hidle : s.following.landing = none) (hc : s.candidate k i sys = some c)
    (hslot : slot ≤ 2) (hon : s.blending = true) (hmay : s.mayRequest = true) (hland : s.landable c = true) :
    exec (.landing k i sys slot) s = .next (s.beginLanding c slot) := by
  show execLanding k i sys slot s = _
  unfold execLanding
  rw [hidle, hc]
  exact congrArg Host.Outcome.next (if_pos ⟨hon, hslot, hmay, hland⟩)

theorem landing_fm {slot w : Nat} {c : Candidate} (hidle : s.following.landing = none) (hc : s.candidate k i 0 = some c)
    (hslot : slot ≤ 2) (hon : s.blending = true) (hmay : s.mayRequest = true) (hland : s.landable c = true)
    (hword : s.landingWord 0 = some w) (hfree : s.slotSource slot = 0) (hbusy : s.slotBusy slot = false)
    (hinput : s.inputA (wordEngine w) = some n) (hplace : (s.placeRetune 15 n k).isSome = true) :
    Gives (.landing k i 0 slot) s fun t => t.following.landing.map (fun l => (l.slot, l.step, l.source)) = some (slot, 1, w) := by
  obtain ⟨⟨u, at_⟩, hplace⟩ := Option.isSome_iff_exists.1 hplace
  obtain ⟨hkHz, -, hsys⟩ := candidate_is hc
  refine gives_next (landing_exec hidle hc hslot hon hmay hland) ?_
  unfold State.beginLanding
  rw [hsys, hword]
  dsimp only
  rw [if_neg (by simp [hfree, hbusy]), if_pos rfl, hinput, Option.bind_some, hkHz, hplace]
  rfl

theorem landing_dab {slot w : Nat} {c : Candidate} (hidle : s.following.landing = none) (hc : s.candidate k i 1 = some c)
    (hslot : slot ≤ 2) (hon : s.blending = true) (hmay : s.mayRequest = true) (hland : s.landable c = true)
    (hword : s.landingWord 1 = some w) (hfree : s.slotSource slot = 0) (hbusy : s.slotBusy slot = false) :
    Gives (.landing k i 1 slot) s fun t => t.following.landing.map (fun l => (l.slot, l.step, l.source)) = some (slot, 1, w) ∧
      t.nat (ddec (wordEngine w) (2 + 2 * (w / 65536 % 2))) = i := by
  obtain ⟨-, hid, hsys⟩ := candidate_is hc
  refine gives_next (landing_exec hidle hc hslot hon hmay hland) ?_
  unfold State.beginLanding
  rw [hsys, hword]
  dsimp only
  rw [if_neg (by simp [hfree, hbusy]), if_neg (by decide), hid]
  exact ⟨rfl, (setNat_nat _ _ _ _).trans (if_pos rfl)⟩

theorem landingTimeout_gives {l : Landing} (hl : s.following.landing = some l) (hstep : l.step < 3)
    (htime : l.since + 3072000000 ≤ s.gnomon) : Gives .landingTimeout s fun t => t.following.landing = none := by
  have hlimit : l.since + (if l.step = 1 then (if l.system = 0 then 153600000 else 460800000) else 3072000000) ≤ s.gnomon := by
    split
    · split <;> omega
    · exact htime
  have hexec : exec .landingTimeout s = .next (if l.step = 1 then s.failLanding l 3 else s.endLanding) := by
    show execLandingTimeout s = _
    unfold execLandingTimeout
    rw [hl]
    exact congrArg Host.Outcome.next (if_pos ⟨hstep, hlimit⟩)
  refine gives_next hexec ?_
  split <;> rfl

/-! ### The end of a fade -/

theorem blendBackReverse_gives {f : BlendFade} (hf : s.gloaming.fade = some f) (hback : f.followBack = true)
    (hforth : f.reversing = false) (hmode : s.nat 0x480001 = 2) (hbad : s.targetBad f.new = true) :
    Gives .blendBackReverse s fun t => t.gloaming.fade = some { f with reversing := true } ∧ t.nat 0x490012 = 2 := by
  have hexec : exec .blendBackReverse s = .next s.reverseBlend := by
    show execBlendBackReverse s = _
    unfold execBlendBackReverse
    rw [hf]
    exact congrArg Host.Outcome.next (if_pos ⟨hback, by rw [hforth]; rfl, hmode, hbad⟩)
  refine gives_next hexec ?_
  unfold State.reverseBlend
  rw [hf]
  dsimp only
  rw [hforth]
  exact ⟨rfl, (setNat_nat _ _ _ _).trans (if_pos rfl)⟩

/-- What a fold of steps that each leave an observation as it was leaves of it. -/
theorem foldl_observe {α β : Type} {f : State → β} {g : State → α → State} (h : ∀ t x, f (g t x) = f t) (xs : List α) :
    ∀ s : State, f (xs.foldl g s) = f s := by
  induction xs with
  | nil => exact fun _ => rfl
  | cons x xs ih => exact fun s => (ih _).trans (h s x)

theorem startPendingEq_fade (s : State) : s.startPendingEq.gloaming.fade = s.gloaming.fade := by
  unfold State.startPendingEq
  split
  · rfl
  · refine foldl_observe (f := fun s : State => s.gloaming.fade) (fun t i => ?_) _ s
    dsimp only
    split
    · rfl
    · split <;> rfl

theorem startPendingEq_spares {m : Nat} (h : ∀ i ∈ [0, 1, 2], m ≠ gk i 8) : s.Spares m s.startPendingEq := by
  unfold State.startPendingEq
  exact .ite .refl (.foldl (fun t i hi => .ite .refl (.ite (.setNat (h i hi)) (.step (.setNat (h i hi)) (.keeps setGslot_keeps)))) .refl)

theorem finishLanding_spares {f : BlendFade} {m : Nat} (h4 : m ≠ 0x480004 := by decide) (h5 : m ≠ 0x480005 := by decide) :
    s.Spares m (s.finishLanding f) := by
  unfold State.finishLanding
  split
  · refine .ite (.ite rfl (.step (.setNat ?_) rfl)) .refl
    split <;> assumption
  · exact .refl

/-- A minimum stay in force up to an instant, with the host's fade over. -/
def State.stayUntil (stay : Nat) (s : State) : State :=
  { s with following := { s.following with stayUntil := stay }, gloaming := { s.gloaming with hostFade := false } }

/-- The minimum stay begun, and told where a fade of the host's ends in mode 2 (R229). -/
def State.stayed (s : State) : State :=
  (if s.gloaming.hostFade ∧ s.nat 0x480001 = 2 then s.setNat 0x480012 (s.gnomon + s.nat 0x48000C * msTicks) else s).stayUntil
    (s.gnomon + s.nat 0x48000C * msTicks)

theorem stayUntil_gloaming (stay : Nat) (s : State) : (s.stayUntil stay).gloaming = { s.gloaming with hostFade := false } := rfl

theorem stayed_gloaming (s : State) : s.stayed.gloaming = { s.gloaming with hostFade := false } := by
  have htold (c : Prop) [Decidable c] (n : Nat) : (if c then s.setNat 0x480012 n else s).gloaming = s.gloaming := by
    split
    · rfl
    · rfl
  exact (stayUntil_gloaming _ _).trans (congrArg (fun g : Gloaming => { g with hostFade := false }) (htold _ _))

theorem stayed_spares {m : Nat} (h : m ≠ 0x480012) : s.Spares m s.stayed := by
  have hstay (stay : Nat) (t : State) : t.Spares m (t.stayUntil stay) := rfl
  unfold State.stayed
  exact .step (hstay _ _) <| .ite (.setNat h) .refl

theorem blendFadeEnd_gives {f : BlendFade} (hf : s.gloaming.fade = some f) (hended : f.ended = true) (howed : s.gloaming.owed = 0)
    (hpending : s.nat 0x490014 = 0xFF) :
    Gives .blendFadeEnd s fun t => t.gloaming.fade = none ∧
      t.nat 0x490005 = (if f.reversing then f.old else f.new) ∧ t.nat 0x490017 = satAdd 32 (s.nat 0x490017) 1 := by
  obtain ⟨u, hu⟩ : ∃ u, u = s.settleFade f := ⟨_, rfl⟩
  have hkept {m : Nat} (hm : m ∉ [0x490005, 0x490010, 0x490012, 0x490013]) : u.nat m = (s.bump 0x490017).nat m := by
    simp only [List.mem_cons, List.not_mem_nil, or_false, not_or] at hm
    obtain ⟨h5, h10, h12, h13⟩ := hm
    rw [hu]
    exact State.Spares.nat (.step (.setNat h13) <| .step (.setNat h12) <| .step (.setNat h10) <| .step (.setNat h5) rfl)
  have hforce : u.nat 0x490005 = if f.reversing then f.old else f.new := by
    rw [hu]
    refine (State.Spares.nat (.step (.setNat (by decide)) <| .step (.setNat (by decide)) <| .setNat (by decide))).trans ?_
    exact (setNat_nat _ _ _ _).trans (if_pos rfl)
  have hexec : exec .blendFadeEnd s = .next (u.stayed.finishLanding f).afterFade := by
    rw [hu]
    show execBlendFadeEnd s = _
    unfold execBlendFadeEnd
    rw [hf]
    exact congrArg Host.Outcome.next (if_pos hended)
  obtain ⟨v, hv⟩ : ∃ v, v = u.stayed.finishLanding f := ⟨_, rfl⟩
  have hsame : v.gloaming = u.stayed.gloaming := hv ▸ finishLanding_keeps.same .gloaming (by decide)
  have hspares {m : Nat} (h4 : m ≠ 0x480004) (h5 : m ≠ 0x480005) (h12 : m ≠ 0x480012) : v.nat m = u.nat m :=
    hv ▸ State.Spares.nat (.step (finishLanding_spares h4 h5) (stayed_spares h12))
  have hfade : v.gloaming.fade = none := by
    rw [hsame, stayed_gloaming, hu]
    rfl
  have howed' : v.gloaming.owed = 0 := by
    rw [hsame, stayed_gloaming, hu]
    exact howed
  have hpending' : v.nat 0x490014 = 0xFF := by
    rw [hspares (by decide) (by decide) (by decide), hkept (by decide), bump_nat, if_neg (by decide), hpending]
  refine gives_next hexec ?_
  rw [← hv]
  unfold State.afterFade
  rw [if_neg (by omega)]
  dsimp only
  rw [if_pos hpending']
  refine ⟨(startPendingEq_fade v).trans hfade, ?_, ?_⟩
  · rw [State.Spares.nat (startPendingEq_spares (by decide)), hspares (by decide) (by decide) (by decide), hforce]
  · rw [State.Spares.nat (startPendingEq_spares (by decide)), hspares (by decide) (by decide) (by decide), hkept (by decide), bump_nat, if_pos rfl]

/-! ### The end of a Lantern period -/

/-- A state counts the Lantern periods that another one does. -/
def State.SamePeriod (s t : State) : Prop := t.lantern.lastPeriod = s.lantern.lastPeriod

namespace State.SamePeriod
variable {F : List FieldName} {u v : State}

theorem refl : s.SamePeriod s := rfl

theorem step (h : t.SamePeriod u) (g : s.SamePeriod t) : s.SamePeriod u := Eq.trans h g

theorem keeps (h : s.Keeps F t) (hF : .lantern ∉ F := by decide) : s.SamePeriod t :=
  congrArg Lantern.lastPeriod (h.same .lantern hF)

theorem ite {c : Prop} [Decidable c] (h : s.SamePeriod t) (g : s.SamePeriod u) : s.SamePeriod (if c then t else u) := by
  split <;> assumption

theorem foldl {α : Type} {f : State → α → State} {xs : List α} (hf : ∀ (t : State) x, t.SamePeriod (f t x)) (h : s.SamePeriod t) :
    s.SamePeriod (xs.foldl f t) := Eq.trans (foldl_observe (f := fun s : State => s.lantern.lastPeriod) hf xs t) h

end State.SamePeriod

theorem fieldsChanged_period (i mask : Nat) (s : State) : s.SamePeriod (s.fieldsChanged i mask) := by
  unfold State.fieldsChanged
  exact .ite .refl (.ite (.step (.keeps lanternEvent_keeps) rfl) rfl)

theorem writeEntry_period (i : Nat) (e : Entry) (s : State) : s.SamePeriod (s.writeEntry i e) := by
  unfold State.writeEntry
  exact .step (.keeps refreshLantern_keeps) rfl

theorem changeEntry_period (i extra : Nat) (e : Entry) (s : State) : s.SamePeriod (s.changeEntry i extra e) := by
  unfold State.changeEntry
  extract_lets old m s1 seq s2 s3 s4
  have h2 : s1.SamePeriod s2 := .ite .refl (.keeps lanternEvent_keeps)
  have h3 : s2.SamePeriod s3 := .keeps followAnnouncement_keeps
  have h4 : s3.SamePeriod s4 := .ite (.keeps lanternEvent_keeps) .refl
  exact .step (fieldsChanged_period _ _ _) <| .step h4 <| .step h3 <| .step h2 (writeEntry_period _ _ _)

theorem entryPeriodEnd_period (secondEnd : Bool) (i : Nat) (s : State) : s.SamePeriod (s.entryPeriodEnd secondEnd i) := by
  unfold State.entryPeriodEnd
  exact .ite .refl (changeEntry_period _ _ _ _)

theorem writeFigures_period (x : AdcSpan) (boundary : Nat) (s : State) : s.SamePeriod (s.writeFigures x boundary) := by
  unfold State.writeFigures
  exact .foldl (fun _ _ => rfl) (.ite .refl (.foldl (fun _ _ => rfl) .refl))

theorem activationRules_period (s : State) : s.SamePeriod s.activationRules := by
  unfold State.activationRules
  refine .foldl (fun _ _ => ?_) (.foldl (fun _ _ => .ite rfl .refl) (.foldl (fun _ _ => .ite rfl .refl) (.foldl (fun _ _ => rfl) .refl)))
  split
  · exact .ite rfl .refl
  · exact .refl

theorem lanternPeriodEnd_gives {codes : AdcSpan} (hruns : s.ustate 0x700 = 2) (hdue : s.lantern.lastPeriod < s.gnomon / 7680000) :
    Gives (.lanternPeriodEnd codes) s fun t => t.lantern.lastPeriod = s.gnomon / 7680000 := by
  refine gives_next (congrArg Host.Outcome.next (if_pos ⟨hruns, hdue⟩)) ?_
  have hfollow (u : State) : u.SamePeriod u.followLantern := .keeps followLantern_keeps
  refine (hfollow _).trans ?_
  unfold State.lanternPeriodEnd
  extract_lets p _ s1 s2 s3 s4 thr waiting was s5 s6 _
  rw [if_pos ⟨hruns, hdue⟩]
  have h2 : s1.SamePeriod s2 := .step rfl (writeFigures_period _ _ _)
  have h3 : s2.SamePeriod s3 := .foldl (fun _ _ => entryPeriodEnd_period _ _ _) .refl
  have h4 : s3.SamePeriod s4 := activationRules_period _
  have h5 : s4.SamePeriod s5 := rfl
  have h6 : s5.SamePeriod s6 := .ite (.keeps lanternEvent_keeps) .refl
  have hall : s1.SamePeriod s6 := .step h6 <| .step h5 <| .step h4 <| .step h3 h2
  exact hall

/-! ### The end of a DAB frame -/

theorem dk_ne_dq (he : e < 12) (hn : n < 256 := by decide) (hj : m < 256 := by decide) : dk e n ≠ dq i m := by
  simp only [obj_eq]
  omega

theorem dabFrameEnd_gives {null errors : Nat} {fibs fic : List Bool} {off : Int} (hruns : s.dabRuns e = true) (hstate : 3 ≤ s.dabState e) :
    Gives (.dabFrameEnd e null fibs errors fic off) s fun t => t.num (dk e 4) = off ∧
      (t.dab e).fibs = lastN 100 ((s.dab e).fibs ++ fibs) ∧ (t.dab e).badRun = if fibs.any id then 0 else (s.dab e).badRun + 1 := by
  have he := dabRuns_lt hruns
  have hkey : OfReceiver (dk e 4) := dk_receiver he
  refine gives_next rfl ?_
  rw [num_of_val_eq ((followDab_keeps (e := e)).val (dk e 4) (by decide)), dab_of_keeps followDab_keeps]
  unfold State.dabFrameEnd
  extract_lets d lost d1 clipped g bad s1 s2 s3 s4
  rw [if_pos ⟨hruns, hstate⟩]
  obtain ⟨complete, seq, hsi⟩ := judgeSi_dab e s4
  have h4 : s4.dab e = s1.dab e := by
    have hkeeps : s1.Keeps [.dict, .awaiting] s4 := .step issue_keeps <| .step bumpBy_keeps <| .step bumpBy_keeps <| .step setAll_keeps .refl
    exact dab_of_keeps hkeeps (by decide) e
  have h1 : s1.dab e = { d1 with points := (0, 0), msc := (0, 0), concealed := [] } := (setDab_dab _ _ _ _).trans (if_pos rfl)
  have hval : s2.Spares (dk e 4) (s4.judgeSi e) :=
    .step (judgeSi_spares hkey (dk_ne_dsi he)) <| .step (.issue (dk_ne_dq he)) <| .step (.bumpBy (dk_ne_dq he)) <| .bumpBy (dk_ne_dq he)
  refine ⟨?_, ?_, ?_⟩
  · rw [num_of_val_eq hval]
    exact (setNum_num _ _ _ _).trans (if_pos rfl)
  · rw [hsi, h4, h1]
  · rw [hsi, h4, h1]

end

/-- Settles O11, clause by clause. -/
theorem followingCompletes : Obligations.FollowingCompletes := by
  unfold Obligations.FollowingCompletes
  exact ⟨fun _ _ => lanternPeriodEnd_gives, fun _ _ _ _ _ _ _ => dabFrameEnd_gives, fun _ _ _ _ _ => candidateListUpdate_gives,
    fun _ _ _ _ => gives_next rfl rfl, fun _ => identityChange_gives, fun _ _ _ _ _ _ => afCheck_begins,
    fun _ _ _ _ _ _ _ _ => afCheck_confirmed, fun _ _ _ => ensembleCheck_begins, fun _ _ _ => ensembleCheck_ends,
    fun _ _ _ => switchRequest_gives, fun _ _ _ _ _ _ _ => landing_fm, fun _ _ _ _ _ _ => landing_dab, fun _ _ => landingTimeout_gives,
    fun _ _ => blendBackReverse_gives, fun _ _ => blendFadeEnd_gives⟩

end Sys2Proof.Machine
end
section
/-!
PROOFS. What the commands of the FM receivers, of foreground RDS and of the TMC decoder leave (R144 to R161).
-/
namespace Sys2Proof.Machine

-- One proof after another keeps the memory of the whole text's compile low.
set_option Elab.async false

section
variable {s t u : State} {e n k src : Nat}

/-! ### The demodulator -/

theorem fm_of_keeps {F : List FieldName} (h : s.Keeps F t) (hF : .fms ∉ F := by decide) (e : Nat) : t.fm e = s.fm e :=
  congrArg (Map.get (fun _ => Fm.init) · e) (h.same .fms hF)

@[simp] theorem setNat_fm (k n : Nat) (s : State) (e : Nat) : (s.setNat k n).fm e = s.fm e := rfl

/-- From a state to another an FM engine's demodulator has run on: nothing else of its record is changed, nor a subindex but the two counts
of the cores (R153, R154). -/
structure State.RunsOn (e : Nat) (s t : State) : Prop where
  record : t.fm e = { s.fm e with dem := (t.fm e).dem }
  nat : ∀ k, k ≠ fmm e 0x0E → k ≠ fmm e 0x0F → t.nat k = s.nat k

theorem State.RunsOn.refl : s.RunsOn e s := ⟨rfl, fun _ _ _ => rfl⟩

theorem State.RunsOn.trans (h : s.RunsOn e t) (g : t.RunsOn e u) : s.RunsOn e u where
  record := by
    rw [g.record, h.record]
  nat k hk hk' := (g.nat k hk hk').trans (h.nat k hk hk')

theorem countCores_spares {i : Nat} {two : Bool} (hk : k ≠ fmm e 0x0E) (hk' : k ≠ fmm e 0x0F) : s.Spares k (s.countCores e i two) := by
  unfold State.countCores
  exact .foldl (fun _ _ _ => .ite .refl (.ite (.bump hk) (.ite (.bump hk') .refl))) .refl

/-- A sample demodulated where no cold start is due leaves the record but for the demodulator, and no cold start due. -/
theorem fmStep_runsOn (hwarm : (s.fm e).dem.marks.colds = []) :
    s.RunsOn e (s.fmStep e) ∧ ((s.fmStep e).fm e).dem.marks.colds = [] := by
  unfold State.fmStep
  extract_lets d
  split
  · exact ⟨.refl, hwarm⟩
  next a _ =>
    have hdue : ¬d.marks.coldDue d.next a.i = true := by simp [RxMarks.coldDue, d, hwarm]
    rw [if_neg hdue]
    extract_lets _ mode b u f
    have hu : u.fm e = s.fm e := fm_of_keeps countCores_keeps (by decide) e
    have hf : f = s.fm e := hu
    clear_value f
    subst hf
    refine ⟨⟨?_, fun k hk hk' => ?_⟩, ?_⟩
    · rw [setFm_fm, if_pos rfl]
    · exact (countCores_spares hk hk').nat
    · rw [setFm_fm, if_pos rfl]
      exact hwarm

theorem fmEmit_runsOn (ended : Bool) (s : State) : s.RunsOn e (s.fmEmit e ended) where
  record := by
    unfold State.fmEmit
    generalize List.range ((s.fm e).dem.slotsReady ended) = xs
    induction xs generalizing s with
    | nil => rfl
    | cons x xs ih =>
      rw [List.foldl_cons, ih, fm_of_keeps pushPcm_keeps, setFm_fm, if_pos rfl]
  nat k _ _ := State.Spares.nat (.keeps fmEmit_keeps)

/-- Where no cold start is due, running the demodulator leaves the rest of the engine's record (R161). -/
theorem fmRun_runsOn {ended : Bool} (hwarm : (s.fm e).dem.marks.colds = []) : s.RunsOn e (s.fmRun e ended) := by
  have hsteps (xs : List Nat) (t : State) (ht : (t.fm e).dem.marks.colds = []) :
      t.RunsOn e (xs.foldl (fun s _ => if s.fmReady e ended then s.fmStep e else s) t) := by
    induction xs generalizing t with
    | nil => exact .refl
    | cons x xs ih =>
      rw [List.foldl_cons]
      split
      · obtain ⟨hstep, hcold⟩ := fmStep_runsOn ht
        exact hstep.trans (ih _ hcold)
      · exact ih _ ht
  have htrim (t : State) (d : FmDemod) : t.RunsOn e (t.setFm e { t.fm e with dem := d }) :=
    ⟨by rw [setFm_fm, if_pos rfl], fun _ _ _ => rfl⟩
  exact (hsteps _ s hwarm).trans ((fmEmit_runsOn ended _).trans (htrim _ _))

/-! ### Controls and metrics -/

theorem fmControlUpdate_gives (hruns : s.runs e 0x0101 = true) (hlow : 300 ≤ (s.fm e).dem.ctlAt) (hdue : (s.fm e).dem.ctlAt ≤ (s.fm e).dem.next)
    (hwarm : (s.fm e).dem.marks.colds = []) :
    Gives (.fmControlUpdate e) s fun t => (t.fm e).effective = s.effectiveLevel e (s.fmFigures e) := by
  refine gives_next (congrArg Host.Outcome.next (if_pos ⟨hruns, hlow, hdue⟩)) ?_
  rw [(fmRun_runsOn (by rw [setFm_fm, if_pos rfl]; exact hwarm)).record, setFm_fm, if_pos rfl]

/-- The figures of ten milliseconds published, with their snapshot (R147). -/
def State.publishFigures (e : Nat) (x : FmFigures) (s : State) : State :=
  let f := s.fm e
  let ms := f.dem.ms
  let div := if s.diversity e = 0 then 0 else majority f.tally
  let s := s.setAll [(fmm e 1, meanFigure ms FmFigures.levelA), (fmm e 2, meanFigure ms FmFigures.levelB),
    (fmm e 3, meanFigure ms FmFigures.usn), (fmm e 4, meanFigure ms fun x => x.multipath),
    (fmm e 5, meanFigure ms FmFigures.offset), (fmm e 6, x.peak), (fmm e 7, boolNat f.pilot),
    (fmm e 8, roundRat f.factor), (fmm e 9, roundRat f.corner), (fmm e 0x0A, roundRat f.mute),
    (fmm e 0x0B, f.effective), (fmm e 0x0C, div), (fmm e 0x0D, s.adjacentOf e)]
  let s := s.setFm e { f with tally := [0, 0, 0], dem := { f.dem with ms := [] } }
  s.issue (fmm e 0x10) (leNat 8 x.end_
    ++ ([(1, 2), (2, 2), (3, 2), (4, 1), (5, 2), (6, 2), (7, 1), (8, 1), (9, 2), (0x0A, 1), (0x0B, 2), (0x0C, 1),
      (0x0D, 2)].flatMap fun p => leInt p.2 (s.num (fmm e p.1))) ++ [0])

theorem publishFm_eq {x : FmFigures} (hlast : (s.fm e).dem.ms.getLast? = some x) : s.publishFm e = s.publishFigures e x := by
  unfold State.publishFm
  dsimp only
  rw [hlast]
  rfl

theorem publishFigures_num (x : FmFigures) (s : State) :
    (s.publishFigures e x).num (fmm e 1) = meanFigure (s.fm e).dem.ms FmFigures.levelA ∧
      (s.publishFigures e x).num (fmm e 3) = meanFigure (s.fm e).dem.ms FmFigures.usn ∧ (s.publishFigures e x).num (fmm e 6) = x.peak ∧
      (s.publishFigures e x).num (fmm e 0x0B) = (s.fm e).effective := by
  unfold State.publishFigures
  extract_lets f ms div s1 _ s2
  have hissued (j : Nat) (body : Bytes) (hj : j ≠ 0x10) : (s2.issue (fmm e 0x10) body).num (fmm e j) = s2.num (fmm e j) :=
    num_of_val_eq (issue_val_other _ _ (obj_ne hj))
  have hnum (j : Nat) : s2.num (fmm e j) = s1.num (fmm e j) := num_of_val_eq (setFm_keeps.val _ (by decide))
  rw [hissued 1 _ (by decide), hissued 3 _ (by decide), hissued 6 _ (by decide), hissued 0x0B _ (by decide), hnum, hnum, hnum, hnum]
  simp [s1, State.setAll, f, ms]

theorem publishFigures_fm (x : FmFigures) (s : State) :
    ((s.publishFigures e x).fm e).tally = [0, 0, 0] ∧ ((s.publishFigures e x).fm e).dem.ms = [] := by
  unfold State.publishFigures
  extract_lets f ms div s1 _ s2
  have hissued (body : Bytes) : (s2.issue (fmm e 0x10) body).fm e = { f with tally := [0, 0, 0], dem := { f.dem with ms := [] } } :=
    (fm_of_keeps issue_keeps (by decide) e).trans ((setFm_fm _ _ _ _).trans (if_pos rfl))
  rw [hissued]
  exact ⟨rfl, rfl⟩

theorem fmMetricsPublish_gives {x : FmFigures} (hruns : s.runs e 0x0101 = true) (hten : (s.fm e).dem.ms.length = 10)
    (hlast : (s.fm e).dem.ms.getLast? = some x) :
    Gives (.fmMetricsPublish e) s fun t => t.num (fmm e 1) = meanFigure (s.fm e).dem.ms FmFigures.levelA ∧
      t.num (fmm e 3) = meanFigure (s.fm e).dem.ms FmFigures.usn ∧ t.nat (fmm e 6) = x.peak ∧
      t.num (fmm e 0x0B) = (s.fm e).effective ∧ (t.fm e).tally = [0, 0, 0] ∧ (t.fm e).dem.ms = [] := by
  refine gives_next (congrArg Host.Outcome.next (if_pos ⟨hruns, hten⟩)) ?_
  have hnum (k : Nat) (t : State) : (t.followFm e).num k = t.num k := num_of_val_eq (followFm_keeps.val k (by decide))
  obtain ⟨hlevel, husn, hpeak, heffective⟩ := publishFigures_num (e := e) x s
  obtain ⟨htally, hms⟩ := publishFigures_fm (e := e) x s
  rw [State.nat, hnum, hnum, hnum, hnum, fm_of_keeps followFm_keeps, publishFm_eq hlast, hpeak]
  exact ⟨hlevel, husn, rfl, heffective, htally, hms⟩

theorem pilotDetected_gives (hruns : s.runs e 0x0101 = true) (hnone : (s.fm e).pilot = false) (hstrong : 50 ≤ (s.fm e).dem.strong) :
    Gives (.pilotDetected e) s fun t => (t.fm e).pilot = true ∧ t.nat (fmm e 7) = 1 := by
  refine gives_next (congrArg Host.Outcome.next (if_pos ⟨hruns, hnone, hstrong⟩)) ⟨?_, (setNat_nat _ _ _ _).trans (if_pos rfl)⟩
  exact congrArg Fm.pilot ((setFm_fm _ _ _ _).trans (if_pos rfl))

theorem pilotLost_gives (hruns : s.runs e 0x0101 = true) (hpilot : (s.fm e).pilot = true) (hweak : 50 ≤ (s.fm e).dem.weak) :
    Gives (.pilotLost e) s fun t =>
      (t.fm e).pilot = false ∧ (t.fm e).factor = 0 ∧ t.nat (fmm e 7) = 0 ∧ t.nat (fmm e 8) = 0 := by
  refine gives_next (congrArg Host.Outcome.next (if_pos ⟨hruns, hpilot, hweak⟩)) ⟨?_, ?_, ?_, (setNat_nat _ _ _ _).trans (if_pos rfl)⟩
  · rw [setNat_fm, setNat_fm, setFm_fm, if_pos rfl]
  · rw [setNat_fm, setNat_fm, setFm_fm, if_pos rfl]
  · rw [setNat_nat, if_neg (obj_ne (by decide)), setNat_nat, if_pos rfl]

theorem fmBandwidthJudge_gives (hruns : s.runs e 0x0101 = true) (hinput : s.inputA e = some n) (hmode : s.cnat (fmk e 4) = 1)
    (hrom : isRom n = true) (hadjacent : s.adjacentOf e ≠ 0x7FFF) (hfade : (s.chain n).fade = none) (hnone : s.nat (cs n 4) = 0xFF)
    (hchain : s.ustate (0x100 + n) = 2) (halone : s.lockSet n = [n]) (hlen : s.nat (ck n 9) ≠ 0)
    (hother : bandwidthChoice (s.adjacentOf e) (s.nat (cs n 3)) ≠ s.nat (cs n 3)) :
    Gives (.fmBandwidthJudge e) s fun t => (t.chain n).fade =
      some ⟨s.nat (cs n 3), bandwidthChoice (s.adjacentOf e) (s.nat (cs n 3)), s.nat (ck n 9), 0, s.firNow n, false⟩ := by
  have htarget : s.responseTarget n = s.nat (cs n 3) := by
    unfold State.responseTarget
    rw [if_neg (by omega), hfade]
  have hselect (v : Nat) (hv : v ≠ s.nat (cs n 3)) : (s.selectResponse n v).1 = s.startFade n v (s.firNow n) := by
    have htake : s.takeResponse n v = s.startFade n v (s.firNow n) := by
      unfold State.takeResponse
      rw [if_neg (by simp [hrom]), if_neg (by omega), if_neg (by omega), hfade]
      exact if_neg hv.symm
    unfold State.selectResponse
    rw [guarded_done _ (by simp [firstCode, refuseIf, hrom, hchain]), halone]
    exact htake
  have hexec : exec (.fmBandwidthJudge e) s =
      .next (s.writeChoice n (bandwidthChoice (s.adjacentOf e) (s.responseTarget n))) := by
    show execFmBandwidthJudge e s = _
    unfold execFmBandwidthJudge
    rw [hinput]
    exact congrArg Host.Outcome.next (if_pos ⟨hruns, hmode, hrom, hadjacent⟩)
  refine gives_next hexec ?_
  unfold State.writeChoice
  rw [htarget, hfade]
  dsimp only [Option.map_none]
  rw [if_neg hother, if_neg (by simp), hselect _ hother]
  exact startFade_chain _ _ _ _ hlen

/-! ### Diversity -/

theorem diversityEstimate_gives (hruns : s.runs e 0x0101 = true) (hmode : s.diversity e = 2) (hlow : 64 ≤ (s.fm e).dem.estAt)
    (hdue : (s.fm e).dem.estAt ≤ (s.fm e).dem.next) (hwarm : (s.fm e).dem.marks.colds = []) :
    Gives (.diversityEstimate e) s fun t => (t.fm e).selected = 2 ∧ (t.fm e).tally = tallied (s.fm e).tally 2 := by
  refine gives_next (congrArg Host.Outcome.next (if_pos ⟨hruns, hmode, hlow, hdue⟩)) ?_
  rw [(fmRun_runsOn (by rw [setFm_fm, if_pos rfl]; exact hwarm)).record, setFm_fm, if_pos rfl]
  exact ⟨rfl, rfl⟩

theorem diversitySelect_gives (hruns : s.runs e 0x0101 = true) (hmode : s.diversity e = 1) (hfirst : (s.fm e).selected = 0)
    (hlow : 300 ≤ (s.fm e).dem.selAt) (hdue : (s.fm e).dem.selAt ≤ (s.fm e).dem.next) (hwarm : (s.fm e).dem.marks.colds = []) :
    Gives (.diversitySelect e) s fun t => (t.fm e).selected =
      if (s.fm e).dem.inputMultipath (s.fm e).dem.b + 3 ≤ (s.fm e).dem.inputMultipath (s.fm e).dem.a then 1 else 0 := by
  refine gives_next (congrArg Host.Outcome.next (if_pos ⟨hruns, hmode, hlow, hdue⟩)) ?_
  rw [(fmRun_runsOn (by rw [setFm_fm, if_pos rfl]; exact hwarm)).record, setFm_fm, if_pos rfl]
  exact if_neg (by omega)

theorem inputBAbsent_gives (hruns : s.runs e 0x0101 = true) (hinput : (s.inputB e).isSome = true) (hthere : (s.fm e).bAbsent = false)
    (htime : (s.fm e).lastB + 3072000 ≤ s.gnomon) (hwarm : (s.fm e).dem.marks.colds = []) :
    Gives (.inputBAbsent e) s fun t => (t.fm e).bAbsent = true ∧ (t.fm e).selected = 0 ∧ t.nat (fmm e 0x0C) = 0 := by
  refine gives_next (congrArg Host.Outcome.next (if_pos ⟨hruns, hinput, by rw [hthere]; rfl, htime⟩)) ?_
  have hset : (((s.setFm e { s.fm e with bAbsent := true, selected := 0 }).setNat (fmm e 0x0C) 0).fm e) =
      { s.fm e with bAbsent := true, selected := 0 } := (setFm_fm _ _ _ _).trans (if_pos rfl)
  have hrun := fmRun_runsOn (ended := false) (by rw [hset]; exact hwarm)
  rw [hrun.record, hset, hrun.nat _ (obj_ne (by decide)) (obj_ne (by decide)), setNat_nat, if_pos rfl]
  exact ⟨rfl, rfl, rfl⟩

theorem fmBlockProcess_gives {b : Bytes} {rest : List Bytes} (hruns : s.runs e 0x0101 = true) (hn : n < 32)
    (hfeeds : s.cnat (ck n 0x12) = 0x200 + e) (hqueue : (s.chain n).queue = b :: rest) :
    Gives (.fmBlockProcess e n) s fun t => (t.chain n).queue = rest := by
  have htake : s.takeBlock e n = some (b, s.setChain n { s.chain n with queue := rest }) := by
    unfold State.takeBlock
    rw [if_pos (by simp [hn, hfeeds]), hqueue]
  refine gives_next rfl ?_
  rw [if_pos hruns, htake]
  dsimp only
  rw [chain_of_chains (fmRun_keeps.same .chains (by decide)), chain_of_chains (fmTake_keeps.same .chains (by decide))]
  split
  · exact congrArg Chain.queue ((setChain_chain _ _ _ _).trans (if_pos rfl))
  · exact congrArg Chain.queue ((setChain_chain _ _ _ _).trans (if_pos rfl))

/-! ### RDS -/

theorem rdsSyncGained_gives {first second : Nat} (hruns : s.runs e 0x0101 = true) (hon : s.nat (fmr e 1) = 1)
    (hstep : inStep first second = true) :
    Gives (.rdsSyncGained e first second) s fun t => t.nat (fmr e 6) = 1 ∧ (t.fm e).sinceSync = [] :=
  gives_next (congrArg Host.Outcome.next (if_pos ⟨hruns, hon, hstep⟩))
    ⟨(setNat_nat _ _ _ _).trans (if_pos rfl), congrArg Fm.sinceSync ((setFm_fm _ _ _ _).trans (if_pos rfl))⟩

theorem rdsSyncLost_gives (hruns : s.runs e 0x0101 = true) (hout : outOfStep (s.fm e).sinceSync = true) :
    Gives (.rdsSyncLost e) s fun t => t.nat (fmr e 6) = 0 :=
  gives_next (congrArg Host.Outcome.next (if_pos ⟨hruns, hout⟩)) ((setNat_nat _ _ _ _).trans (if_pos rfl))

/-- Where no core erases a bit, a block keeps the class it has. -/
theorem erasedClass_clean (cls instant i : Nat) : erasedClass cls (erasedBits instant i []) = cls := by
  simp [erasedClass, erasedBits]

theorem groupPasses_clean {mask : Nat} {errored : Bool} {g : RdsGroup} {cls : Nat → Nat} (hoffset : g.offsetE = true)
    (hcls : ∀ i, i < 4 → cls i = 0) : groupPasses 1 mask errored g cls = true := by
  have hall : ((List.range 4).all fun i => decide (cls i ≤ 2)) = true := by
    rw [List.all_eq_true]
    intro i hi
    rw [hcls i (List.mem_range.1 hi)]
    rfl
  unfold groupPasses
  rw [if_pos hoffset, hcls 1 (by decide), hall, Bool.or_true]
  rfl

theorem rdsGroup_gives {g : RdsGroup} (hruns : s.runs e 0x0101 = true) (hon : s.nat (fmr e 1) = 1) (hsync : s.nat (fmr e 6) = 1)
    (hregion : s.nat (fmr e 2) = 1) (hoffset : g.offsetE = true) (hclean : ∀ i, i < 4 → nthD g.classes i 3 = 0) (herased : s.fmErased e = [])
    (hroom : (s.fifo (fmq e 1)).recs.length < 64) :
    Gives (.rdsGroup e g) s fun t => (t.fifo (fmq e 1)).recs.length = (s.fifo (fmq e 1)).recs.length + 1 ∧
      t.nat (fmr e 8) = satAdd 32 (s.nat (fmr e 8)) 1 := by
  refine gives_next (congrArg Host.Outcome.next (if_pos ⟨hruns, hon, hsync⟩)) ?_
  extract_lets region limit cls f seen f' u r v
  have hcls (i : Nat) (hi : i < 4) : cls i = 0 := by
    simp only [cls, region, herased, erasedClass_clean, hclean i hi, hregion]
    simp
  have hpush : r = (u.setFifo (fmq e 1) { u.fifo (fmq e 1) with recs := (u.fifo (fmq e 1)).recs ++ [groupRecord g cls 0 ++ leNat 2 f'.groupSeq] }, false) :=
    pushFifo_room hroom
  have hv : v = ((u.setFifo (fmq e 1) { u.fifo (fmq e 1) with recs := (u.fifo (fmq e 1)).recs ++
      [groupRecord g cls 0 ++ leNat 2 f'.groupSeq] }).setFm e { f' with groupSeq := (f'.groupSeq + 1) % 65536 }).bump (fmr e 8) := by
    simp only [v]
    rw [if_pos (by simp only [region, hregion]; exact groupPasses_clean hoffset hcls), hpush]
    rfl
  rw [if_pos hoffset, hv]
  constructor
  · show ((u.setFifo _ _).fifo (fmq e 1)).recs.length = _
    rw [setFifo_fifo, if_pos rfl, List.length_append]
    rfl
  · rw [bump_nat, if_pos rfl]
    show satAdd 32 (u.nat (fmr e 8)) 1 = _
    rw [setNat_nat, if_neg (obj_ne (by decide))]
    rfl

/-! ### TMC -/

/-- A message delivered keeps the announcement of the application (R159). -/
theorem deliverTmc_announced (pi kind : Nat) (groups : List (List Nat)) (instant : Nat) (s : State) :
    (s.deliverTmc pi kind groups instant).tmc.app = s.tmc.app ∧ (s.deliverTmc pi kind groups instant).tmc.lastApp = s.tmc.lastApp := by
  unfold State.deliverTmc
  extract_lets recent _ t m r
  have hr : r.1.tmc = t.tmc := pushFifo_keeps.same .tmc (by decide)
  split
  · exact ⟨rfl, rfl⟩
  split
  · show r.1.tmc.app = _ ∧ r.1.tmc.lastApp = _
    rw [hr]
    exact ⟨rfl, rfl⟩
  · show r.1.tmc.app = _ ∧ r.1.tmc.lastApp = _
    rw [hr]
    exact ⟨rfl, rfl⟩

theorem deliverTmc_spares {pi kind instant : Nat} {groups : List (List Nat)} (h7 : k ≠ 0x428007) (h8 : k ≠ 0x428008) (h9 : k ≠ 0x428009) :
    s.Spares k (s.deliverTmc pi kind groups instant) := by
  unfold State.deliverTmc
  extract_lets recent _ t m r
  have hr : s.Spares k r.1 := .step (t := t) (.keeps pushFifo_keeps) rfl
  exact .ite (.bump h8) (.ite (.step (.bump h9) hr) (.step (.bump h7) hr))

/-- A group 3A of the application TMC taken (R159): its announcement, and the fields of its variant. -/
def State.announced (b2 b3 : Nat) (s : State) : State :=
  let s := { s with tmc := { s.tmc with app := some (b2 % 32), lastApp := some s.gnomon } }
  let s := s.setNat 0x428004 0xCD46
  let old := s.nat 0x428005
  if b3 / 16384 = 0 then s.setNat 0x428005 (old / 64 * 64 + b3 / 64 % 64)
  else if b3 / 16384 = 1 then s.setNat 0x428005 (old % 64 + b3 / 64 % 64 * 64) else s

theorem announced_tmc (b2 b3 : Nat) (s : State) :
    (s.announced b2 b3).tmc.app = some (b2 % 32) ∧ (s.announced b2 b3).tmc.lastApp = some s.gnomon := by
  unfold State.announced
  split
  · exact ⟨rfl, rfl⟩
  split
  · exact ⟨rfl, rfl⟩
  · exact ⟨rfl, rfl⟩

theorem announced_app (b2 b3 : Nat) (s : State) : (s.announced b2 b3).nat 0x428004 = 0xCD46 := by
  unfold State.announced
  extract_lets _ t u old
  have hset : u.nat 0x428004 = 0xCD46 := (setNat_nat _ _ _ _).trans (if_pos rfl)
  have hspares : u.Spares 0x428004 (if b3 / 16384 = 0 then u.setNat 0x428005 (old / 64 * 64 + b3 / 64 % 64)
      else if b3 / 16384 = 1 then u.setNat 0x428005 (old % 64 + b3 / 64 % 64 * 64) else u) :=
    .ite (.setNat (by decide)) (.ite (.setNat (by decide)) .refl)
  exact hspares.nat.trans hset

theorem tmcGroup_announces {b1 b2 b3 c i : Nat} (hsource : s.tmcSource = (1, src)) (htype : groupType b2 = 6) (hon : s.nat (fmr src 1) = 1)
    (hsync : s.nat (fmr src 6) = 1) (hgood : c ≤ s.nat (fmr src 3)) :
    Gives (.tmcGroup false src ⟨i, [b1, b2, b3, 0xCD46], [c, c, c, c], false, false⟩) s fun t =>
      t.tmc.app = some (b2 % 32) ∧ t.tmc.lastApp = some s.gnomon ∧ t.nat 0x428004 = 0xCD46 := by
  have hserves : s.tmcSource = (1, src) ∧ (s.nat (fmr src 1) == 1 && s.nat (fmr src 6) == 1) = true ∧
      ((List.range 4).all fun i => decide (nthD [c, c, c, c] i 3 ≤ s.nat (fmr src 3))) = true := by
    refine ⟨hsource, by simp [hon, hsync], ?_⟩
    simp [List.range_succ, nthD, hgood]
  refine gives_next (congrArg Host.Outcome.next ((if_pos hserves).trans ((if_pos htype).trans (if_pos (.inl rfl))))) ?_
  obtain ⟨happ, hlast⟩ := deliverTmc_announced (s.nat (fmf src 1)) 3 [[b2 % 32, b3, 0xCD46]] i (s.announced b2 b3)
  exact ⟨happ.trans (announced_tmc b2 b3 s).1, hlast.trans (announced_tmc b2 b3 s).2,
    (deliverTmc_spares (by decide) (by decide) (by decide)).nat.trans (announced_app b2 b3 s)⟩

theorem tmcIncompleteTimeout_gives {p : TmcPartial} (hp : s.tmc.partials[k]? = some p) (htime : p.began + 1536000000 ≤ s.gnomon) :
    Gives (.tmcIncompleteTimeout k) s fun t =>
      t.tmc.partials = s.tmc.partials.eraseIdx k ∧ t.nat 0x428009 = satAdd 32 (s.nat 0x428009) 1 := by
  refine gives_next rfl ?_
  rw [hp]
  dsimp only
  rw [if_pos htime]
  exact ⟨rfl, (bump_nat _ _ _).trans (if_pos rfl)⟩

end

/-- Settles O6, clause by clause. -/
theorem fmCompletes : Obligations.FmCompletes := by
  unfold Obligations.FmCompletes
  exact ⟨fun _ _ => fmControlUpdate_gives, fun _ _ _ => fmMetricsPublish_gives, fun _ _ => pilotDetected_gives, fun _ _ => pilotLost_gives,
    fun _ _ _ => fmBandwidthJudge_gives, fun _ _ => diversityEstimate_gives, fun _ _ => diversitySelect_gives,
    fun _ _ => inputBAbsent_gives, fun _ _ _ _ _ => fmBlockProcess_gives, fun _ _ _ _ => rdsSyncGained_gives, fun _ _ => rdsSyncLost_gives,
    fun _ _ _ => rdsGroup_gives, fun _ _ _ _ _ _ _ => tmcGroup_announces, fun _ _ _ => tmcIncompleteTimeout_gives⟩

end Sys2Proof.Machine
end
